-- ==== Sys2Proof/Word.lean ====
section
/-! DEFINITION. The plain words of the AZ6408: the 32-bit register word and the byte of memory. -/
namespace Sys2Proof

/-- A register of the map is 32 bits wide (R541). -/
abbrev Word := BitVec 32

/-- One byte of host memory, device memory or flash. -/
abbrev Byte := BitVec 8

end Sys2Proof
end

