-- ==== Sys2Proof/Syntax.lean ====
section
/-! DEFINITION. The commands of the block: one constructor of `Instr` for each row of the table of operations, with the
row's operands, and the payloads of the ring commands. Numbers are written as natural numbers; `WellFormed` says which
values a row admits. What the outside world determines (a level measured, a message received, the result of a
measurement) is an operand of the row that reports it. -/
namespace Sys2Proof

/-- The common header of a ring command (R357), with the submission ring it was fetched from. -/
structure Hdr where
  ring : Nat
  tag : Nat
  timed : Bool
  fence : Bool
  effFrame : Nat
  effTick : Nat
  deriving DecidableEq, Repr

/-- Who makes a register access: the PCIe host, engine n, the SMBus target, boundary-scan debug access, or a lead's
`CUL_REG` (R34, R542). -/
inductive Requester where
  | pcie | engine (n : Nat) | smbus | jtag | lead
  deriving DecidableEq, Repr

/-- The fields of `TX_CARRIER` (R83); `num` is the byte `NUM`. -/
structure TxCarrierCmd where
  tileMask : Nat
  carrier : Nat
  enable : Bool
  num : Nat
  log2n : Nat
  nprb : Nat
  gain : Nat
  ftw : Nat
  f0khz : Nat
  cfrWeight : Nat
  deriving DecidableEq, Repr

/-- The fields of `TX_TILE` (R83). -/
structure TxTileCmd where
  tile : Nat
  updNco : Bool
  updGain : Bool
  ftw : Nat
  gains : List Nat
  deriving DecidableEq, Repr

/-- The fields of `BIAS_SET` (R83). -/
structure BiasSetCmd where
  tile : Nat
  dac : Nat
  span : Nat
  spanChange : Bool
  code : Nat
  deriving DecidableEq, Repr

/-- The fields of `DDS_TONE` (R83). -/
structure DdsToneCmd where
  pathMask : Nat
  ftw : Nat
  ampl : Nat
  phase : Nat
  enable : Bool
  point : Bool
  deriving DecidableEq, Repr

/-- The fields of `RX_CARRIER` (R117); `num` is the byte `NUM`, `filter` the byte `FILTER`. -/
structure RxCarrierCmd where
  tileMask : Nat
  carrier : Nat
  enable : Bool
  num : Nat
  log2n : Nat
  nprb : Nat
  gain : Nat
  ftw : Nat
  filter : Nat
  f0khz : Nat
  winAdv : Nat
  deriving DecidableEq, Repr

/-- The fields of `RX_EXTRACT` (R117). -/
structure RxExtractCmd where
  tileMask : Nat
  entry : Nat
  enable : Bool
  carrier : Nat
  buf : Nat
  symMask : Nat
  prbStart : Nat
  prbCount : Nat
  combLog2 : Nat
  combOffset : Nat
  slotPeriod : Nat
  slotOffset : Nat
  deriving DecidableEq, Repr

/-- The fields of `BEAM_LOAD` (R158). -/
structure BeamLoadCmd where
  bank : Nat
  repair : Bool
  flush : Bool
  gather : Bool
  first : Nat
  count : Nat
  src : Nat
  index : Nat
  deriving DecidableEq, Repr

/-- The fields of `COV_SETUP` (R158). -/
structure CovSetupCmd where
  carrier : Nat
  enable : Bool
  layers : Nat
  sbPrb : Nat
  prbFirst : Nat
  prbCount : Nat
  base : Nat
  period : Nat
  offset : Nat
  reg : Nat
  symMask : Nat
  autoSwap : Bool
  autoBlend : Nat
  paramAddr : Nat
  deriving DecidableEq, Repr

/-- The fields of `ACD_OCCASION` (R158). -/
structure AcdCmd where
  config : Nat
  enable : Bool
  carrier : Nat
  format : Nat
  scs : Nat
  framePeriod : Nat
  frameOffset : Nat
  firstSymbol : Nat
  occasions : Nat
  slotMask : Nat
  fdm : Nat
  prbStart : Nat
  root : Nat
  ncs : Nat
  preambles : Nat
  set : Nat
  beamFirst : Nat
  beams : Nat
  thresh : Nat
  deriving DecidableEq, Repr

/-- The fields of `FO_REPORT` (R158). -/
structure FoCmd where
  entry : Nat
  enable : Bool
  carrier : Nat
  layerMask : Nat
  l1 : Nat
  l2 : Nat
  prbFirst : Nat
  prbCount : Nat
  dmrs : Nat
  scrambling : Nat
  slotPeriod : Nat
  slotOffset : Nat
  portBase : Nat
  deriving DecidableEq, Repr

/-- A peak the detector found (R150): frequency occasion, beam, preamble index, delay, power in 0.1 dBFS, metric in
0.1 dB, frequency offset in Hz, and its −3 dB width in samples. -/
structure AcdPeak where
  fdm : Nat
  beam : Nat
  preamble : Nat
  delay : Nat
  power : Int
  metric : Nat
  offset : Int
  width : Nat
  deriving DecidableEq, Repr

/-- One RFFE operation of `RFFE_XFER` (R191). -/
structure RffeOp where
  usid : Nat
  kind : Nat
  count : Nat
  addr : Nat
  data : Nat
  deriving DecidableEq, Repr

/-- The fields of `RFFE_XFER` (R191). -/
structure RffeCmd where
  tile : Nat
  nops : Nat
  timing : Nat
  ops : List RffeOp
  result : Nat
  deriving DecidableEq, Repr

/-- The readings of one Levee dwell (R166): whether the path was in TX throughout and its stage-9 output was not zero,
the observation power in 0.01 dBm (none when no valid samples came), and the stage-9 mean power of the same samples
in 0.01 dB of full scale. -/
structure DwellObs where
  txThroughout : Bool
  nonZero : Bool
  obsPower : Option Int
  meanPower : Int
  deriving DecidableEq, Repr

/-- The MACsec tag of a received frame and what the cipher found (R226): whether the SCI is the peer's, the
association number, the full packet number, whether `ES` and `SCB` are 0, and whether the ICV check passed. -/
structure SecTag where
  sciKnown : Bool
  an : Nat
  pn : Nat
  esScbZero : Bool
  icvOk : Bool
  deriving DecidableEq, Repr

/-- The eCPRI common header of a received frame (R199). -/
structure EcpriHdr where
  revision : Nat
  reserved : Nat
  concat : Bool
  type : Nat
  sizeOk : Bool
  deriving DecidableEq, Repr

/-- A frame at a line port (R194 to R199). `length` runs from the destination address to the FCS; `tags` are the VIDs of
its 802.1Q C-tags; `ether` is the EtherType inside the protection. -/
structure LineFrameIn where
  port : Nat
  dst : Nat
  length : Nat
  fcsOk : Bool
  sec : Option SecTag
  tags : List Nat
  ether : Nat
  ecpri : Option EcpriHdr
  deriving DecidableEq, Repr

/-- A section extension (R205), with the beam IDs an extension 10 gives the further ports. -/
inductive SectionExt where
  | modComp (scalers : Nat)
  | modCompAdd (sets : Nat)
  | nonContiguous (rbgSize rbgMask symMask : Nat)
  | group (kind : Nat) (beams : List Nat)
  | weights (kind : Nat)
  | other (kind : Nat)
  deriving DecidableEq, Repr

/-- One section of a C-plane message (R204). -/
structure CSection where
  id : Nat
  rb : Nat
  symInc : Bool
  startPrb : Nat
  numPrb : Nat
  reMask : Nat
  numSymbol : Nat
  beamId : Nat
  freqOffset : Int
  exts : List SectionExt
  deriving DecidableEq, Repr

/-- A received C-plane message (R200, R203, R204): the port, the cooperative set whose traffic it is, the eAxC and
sequence fields, and the application header. -/
structure CPlaneIn where
  port : Nat
  set : Option Nat
  eaxc : Nat
  seq : Nat
  eBit : Bool
  subSeq : Nat
  version : Nat
  uplink : Bool
  filterIndex : Nat
  sfn : Nat
  subframe : Nat
  slot : Nat
  symbol : Nat
  sectionType : Nat
  compHdr : Nat
  scs : Nat
  length : Nat
  sections : List CSection
  deriving DecidableEq, Repr

/-- One section of a U-plane message. -/
structure USection where
  id : Nat
  rb : Nat
  startPrb : Nat
  numPrb : Nat
  /-- `udCompHdr`, where the section carries one (R208). -/
  compHdr : Option Nat
  deriving DecidableEq, Repr

/-- A received downlink U-plane message (R208, R209). -/
structure UPlaneIn where
  port : Nat
  set : Option Nat
  eaxc : Nat
  seq : Nat
  eBit : Bool
  subSeq : Nat
  version : Nat
  sfn : Nat
  subframe : Nat
  slot : Nat
  symbol : Nat
  length : Nat
  sections : List USection
  deriving DecidableEq, Repr

/-- An eCPRI type 5 message (R202): measurement ID, action type, time stamp in ns and compensation in ns × 2^16; the
arrival is device time. -/
structure OwdmIn where
  port : Nat
  id : Nat
  action : Nat
  stamp : Nat
  comp : Nat
  deriving DecidableEq, Repr

/-- A block of a partial sum (R222): the exponent and the 24 mantissas of one PRB. -/
structure PsBlock where
  exp : Nat
  mant : List Int
  deriving DecidableEq, Repr

/-- A partial-sum message (R222). -/
structure PartialSum where
  setId : Nat
  seq : Nat
  partialSet : Bool
  tainted : Bool
  partialPaths : Bool
  sfn : Nat
  slot : Nat
  symbol : Nat
  carrier : Nat
  layer : Nat
  sender : Nat
  startPrb : Nat
  sectionId : Nat
  contrib : Nat
  blocks : List PsBlock
  deriving DecidableEq, Repr

/-- An MKA message as E12 and Seawall find it (R227): the integrity check under the port's key, whether its sender is
the key server, the association number of a SAK it distributes, and whether the peer has installed the newest SAK. -/
structure MkaIn where
  port : Nat
  icvOk : Bool
  keyServer : Bool
  sakAn : Option Nat
  peerInstalled : Bool
  deriving DecidableEq, Repr

/-- The fields of `FH_CARRIER` (R229). -/
structure FhCarrierCmd where
  carrier : Nat
  uplink : Bool
  transport : Nat
  method : Nat
  width : Nat
  static : Bool
  deriving DecidableEq, Repr

/-- The fields of `COOP_SET` (R229). -/
structure CoopSetCmd where
  index : Nat
  enable : Bool
  dl : Bool
  ul : Bool
  position : Nat
  members : Nat
  setId : Nat
  vid : Nat
  pcp : Nat
  group : Nat
  upPort : Nat
  downPort : Nat
  downMac : Nat
  carriers : Nat
  first : Nat
  layers : Nat
  finalShift : Nat
  bs : Nat
  segPrb : Nat
  upDelay : Nat
  deriving DecidableEq, Repr

/-- The fields of `FH_OWDM` (R229). -/
structure FhOwdmCmd where
  port : Nat
  followUp : Bool
  peer : Nat
  eaxc : Nat
  id : Nat
  result : Nat
  deriving DecidableEq, Repr

/-- What the arrays formed of one range of an uplink section of a set layer (R220, R223): the 24 values of each PRB in
units of 2^-16 Q1.15 LSB; none of a PRB range of which the device has no contribution. -/
structure Contribution where
  set : Nat
  carrier : Nat
  layer : Nat
  sectionId : Nat
  startPrb : Nat
  /-- The symbol's first tick. -/
  tick : Int
  tainted : Bool
  partialPaths : Bool
  values : List (List Int)
  deriving DecidableEq, Repr

/-- The marker field a lane received (R242, R250): lane number, period count, the time stamp of its arrival in ps
modulo 2^48, and the sender's port. -/
structure MarkerIn where
  lane : Nat
  port : Nat
  period : Nat
  mark : Nat
  deriving DecidableEq, Repr

/-- What one 5.12 µs period brought a lane (R241, R244, R260): the marker where `SYNC` was found, the time stamp of the
marker field it sent, and what its decoders counted. -/
structure MarkerObs where
  marker : Option MarkerIn
  txMark : Nat
  codewords : Nat
  correctedBits : Nat
  innerFailures : Nat
  iterations : Nat
  rsSymbolErrors : Nat
  rsCodewords : Nat
  rsCorrected : Nat
  rsUncorrectable : Nat
  deriving DecidableEq, Repr

/-- One adaptation update of a lane engine (R239): the change of each FFE tap and MLSE tap it computed, in LSB, and
whether it came late by more than half its interval (R39). -/
structure EqualiserObs where
  late : Bool
  ffe : List Int
  mlse : List Int
  deriving DecidableEq, Repr

/-- What the occupancy monitor counted in a window of 65,536 symbols (R240), and the mean squared error of the window
in units of 2^-20 (R260). -/
structure OccupancyObs where
  counts : List Nat
  snr : Nat
  deriving DecidableEq, Repr

/-- A received ALIGN block (R272): its fields, whether its block type arrived inverted, the blocks since the lane's last
one, the payload bits whose parity differs from `BIP`, and the time stamp in ps modulo 2^48. -/
structure AlignIn where
  lane : Nat
  side : Nat
  devId : Nat
  membersM1 : Nat
  period : Nat
  nextMask : Nat
  inverted : Bool
  blocks : Nat
  bipErrors : Nat
  mark : Nat
  deriving DecidableEq, Repr

/-- A tunnel message (R287). -/
structure TunnelMsg where
  type : Nat
  tag : Nat
  seq : Nat
  status : Nat
  addr : Nat
  len : Nat
  data : List Nat
  deriving DecidableEq, Repr

/-- A panel-sync frame (R281, R108): the reference edge it names in device time, and whether it asks for the event or
confirms it. -/
structure PanelSync where
  edge : Nat
  origin : Nat
  confirm : Bool
  noop : Bool
  deriving DecidableEq, Repr

/-- The content of a link-management frame (R278, R305): the sender's lock and aligned masks, or its time-transfer
bytes (24 bytes and the epoch). -/
inductive LinkMgmt where
  | masks (lock aligned : Nat)
  | time (bytes : List Nat)
  deriving DecidableEq, Repr

/-- A Culvert frame as it arrives (R277): channel, source and destination position, content length, CRC result. -/
structure CulFrameIn where
  link : Nat
  channel : Nat
  src : Nat
  dst : Nat
  length : Nat
  crcOk : Bool
  deriving DecidableEq, Repr

/-- What an eye scan counted on one lane (R285), and whether the lane left LOCK at a point. -/
structure EyeLane where
  lane : Nat
  counts : List Nat
  lostAt : Option Nat
  deriving DecidableEq, Repr

/-- A received Announce (R296): the domain and what the alternate BMCA compares. -/
structure AnnounceIn where
  domain : Nat
  clockClass : Nat
  accuracy : Nat
  variance : Nat
  priority2 : Nat
  gmId : Nat
  steps : Nat
  deriving DecidableEq, Repr

/-- The fields of `OTA_CAL` (R319). -/
structure OtaCmd where
  role : Nat
  tile : Nat
  carrier : Nat
  partner : Nat
  txBeam : Nat
  rxBeam : Nat
  addr : Nat
  deriving DecidableEq, Repr

/-- What the tile engine found in an over-the-air calibration (R307): blanking reason if a symbol was blanked,
validity, taint, send and arrival times in ps modulo 2^48, SNR, and I, Q and delay residual of each path. -/
structure OtaObs where
  blanked : Option Nat
  valid : Bool
  tainted : Bool
  send : Nat
  arrival : Nat
  snr : Int
  paths : List (Int × Int × Int)
  deriving DecidableEq, Repr

/-- Where a Sluice access failed lastingly (R387): the descriptor fetch, the index table, or the data of an element. -/
inductive SluFail where
  | fetch
  | index (element : Nat)
  | data (element : Nat)
  deriving DecidableEq, Repr

/-- A firmware image as it lies in an image slot (R399): the bytes before the signature, and the signature. -/
structure Image where
  cls : Nat
  engines : Nat
  version : Nat
  bytes : List Nat
  sig : List Nat
  deriving DecidableEq, Repr

/-- The fields of `GAU_STREAM` (R498). -/
structure GauStreamCmd where
  stream : Nat
  tap : Nat
  sel : Nat
  carrier : Nat
  d : Nat
  first : Nat
  pages : Nat
  segments : Nat
  deriving DecidableEq, Repr

/-- The fields of `GAU_ARM` (R498). -/
structure GauArmCmd where
  mask : Nat
  source : Nat
  rep : Bool
  reqFull : Bool
  auto : Bool
  maskStop : Bool
  drain : Bool
  evtMissed : Bool
  cond : Nat
  pre : Nat
  post : Nat
  autoUs : Nat
  level : Nat
  power : Nat
  wlog : Nat
  below : Bool
  leveeMask : Nat
  hold : Nat
  frame : Nat
  tick : Nat
  tOfs : Nat
  dest : Nat
  stride : Nat
  deriving DecidableEq, Repr

/-- The samples a stream of a capture stored: its sample data in time order, and how many were tainted (R485, R496). -/
structure GauSamples where
  stream : Nat
  data : List Nat
  tainted : Nat
  deriving DecidableEq, Repr

/-- The internal access that failed (R36, R500). -/
inductive FailKind where
  /-- The store of a path: a DPD bank or the path's share of the symbol buffer. -/
  | pathStore (path addr : Nat)
  /-- One entry of a beam bank. -/
  | beamEntry (bank entry addr : Nat)
  /-- The memory of engine n. -/
  | engineMem (engine addr : Nat)
  /-- Any other SRAM, at a device address; `user` 0 is a downlink symbol-path stage, 1 packet memory, 2 a Sluice or Gauge
  transfer, 3 a coefficient word, 4 an uplink symbol-path stage. -/
  | otherSram (addr user : Nat)
  /-- A completion timeout on a descriptor read: submission ring and slot index. -/
  | pcieDescriptor (ring index : Nat)
  /-- A completion timeout of a Sluice channel. -/
  | pcieSluice (ch : Nat)
  /-- A completion timeout on a telemetry write. -/
  | pcieTelemetry
  /-- An error completion, poisoned data or a failed device-side access of a Sluice channel. -/
  | sluiceBus (ch : Nat)
  deriving DecidableEq, Repr

/-- What the scrubber found in the word it read (R501). -/
inductive ScrubResult where
  | clean
  /-- A corrected error; the flag says that a foreground write came between the read and the write-back. -/
  | corrected (overwritten : Bool)
  | uncorrectable (k : FailKind)
  deriving DecidableEq, Repr

/-- What a telemetry record measures over its 10 ms and no register holds (R504). -/
structure TelemetryObs where
  tilePower : List Int
  busOk : Bool
  deriving DecidableEq, Repr

/-- What the array gathered for the covariance of one subband in a sounding symbol (R142): the carrier, the subband,
its untainted REs, and a digest of the sums. -/
structure CovObs where
  carrier : Nat
  subband : Nat
  res : Nat
  digest : Nat
  deriving DecidableEq, Repr

/-- What a symbol brings that the state does not determine (R23, R84, R113, R119, R142, R164): whether a stage was
overrun in either direction, the smallest slack at a stage deadline, the mean stage-9 power of each path in 0.01 dB of
full scale, saturation flags and counts of each tile, saturations of the array, sample data of extraction entries, and contributions to
cooperative sets formed at this tick. -/
structure TickObs where
  dlOverrun : Bool
  ulOverrun : Bool
  /-- Sections of the overrun uplink symbol that had left for the DU before its deadline. -/
  sent : Nat
  slack : Nat
  power : List (Nat × Int)
  /-- Tile, transmit flags, transmit count. -/
  txSat : List (Nat × Nat × Nat)
  rxSat : List (Nat × Nat × Nat)
  dlSat : Bool
  ulSat : Bool
  sounding : List CovObs
  /-- Tile × 16 + entry, and the sample data of a record of that entry. -/
  extraction : List (Nat × List Nat)
  contributions : List Contribution
  deriving DecidableEq, Repr

/-- The payloads of the ring commands: what the timed store holds and a fetch decodes. -/
inductive Cmd where
  | txCarrier (c : TxCarrierCmd)
  | txTile (c : TxTileCmd)
  | dpdLoad (path bank count src : Nat)
  | dpdSwap (tile pathMask fade : Nat)
  | biasSet (c : BiasSetCmd)
  | ddsTone (c : DdsToneCmd)
  | rxCarrier (c : RxCarrierCmd)
  | rxExtract (c : RxExtractCmd)
  | rxSync (panel : Bool)
  | bfLayers (carrier : Nat) (uplink : Bool) (layers ulShift prio : Nat)
  | beamLoad (c : BeamLoadCmd)
  | beamSwap (blend : Nat)
  | covSetup (c : CovSetupCmd)
  | acdOccasion (c : AcdCmd)
  | foReport (c : FoCmd)
  | leveeCert (addr : Nat)
  | leveeUnmute (mask : Nat)
  | rctPattern (pattern tileMask period addr : Nat) (codes : List Nat)
  | tileState (tileMask target : Nat)
  | rffeXfer (c : RffeCmd)
  | synRecal
  | aerial (tile pathMask : Nat) (search clear : Bool)
  | fhCarrier (c : FhCarrierCmd)
  | coopSet (c : CoopSetCmd)
  | msecRekey (ports : Nat)
  | fhOwdm (c : FhOwdmCmd)
  | lineMode (port mode : Nat) (train : Bool)
  | lineRestart (mask : Nat)
  | lineSnapshot (lane addr : Nat)
  | lineTest (mask pattern addr : Nat)
  | lineRmute (addr : Nat)
  | culSleep (mask : Nat) (sleep : Bool)
  | culEyescan (mask phi0 phi1 v0 v1 dwell addr : Nat)
  | culReg (pos n addr : Nat)
  | timeStep (sec ns : Nat)
  | timeEpoch (epoch : Nat)
  | otaCal (c : OtaCmd)
  | engKernel (tileMask action addr len : Nat)
  | engMode (engine mode : Nat)
  | nop
  | profile (p : Nat)
  | now
  | sluChain (ch : Nat) (stopOnErr : Bool) (head : Nat)
  | sluStop (ch : Nat)
  | seaIdentity (addr : Nat)
  | seaAttest (nonce addr : Nat)
  | seaSetId (id : Nat)
  | seaCommit (cls version : Nat)
  | seaEnrol (slot addr : Nat)
  | seaCak (addr : Nat)
  | seaRetire (uid : Nat)
  | pwrState (target mask sources timer : Nat)
  | hkaInject
  | gauStream (c : GauStreamCmd)
  | gauArm (c : GauArmCmd)
  | gauStop (mask : Nat)
  | gauForce (mask : Nat)
  | gauMask (addr : Nat)
  | fltDumpRegion (fullMem clear : Bool) (addr len : Nat)
  | fltDumpFetch (erase : Bool) (addr : Nat)
  | telSetup (k b addr : Nat)
  | logRead (count addr : Nat)
  | pathRestore (mask : Nat)
  | fltDumpTest
  deriving DecidableEq, Repr

/-- The commands of the block, one constructor for each row of the table of operations. -/
inductive Instr where
  | symbolTick (o : TickObs)
  | combiningHoldEnd (set : Nat) (tick : Int)
  | accessRetry (k : FailKind) (ok : Bool)
  | wideReadLatch (rq : Requester) (off : Nat)
  | wideWriteStage (rq : Requester) (off value : Nat)
  | timRefNumWrite (rq : Requester) (value : Nat)
  | refNumChange
  | tAdvApply
  | marginRst (rq : Requester)
  | calibrationStep (tile : Nat) (fits late : Bool)
  | dpdAdaptation (path : Nat) (late : Bool)
  | equaliserUpdate (lane : Nat) (o : EqualiserObs)
  | txCarrier (h : Hdr) (c : TxCarrierCmd)
  | txTile (h : Hdr) (c : TxTileCmd)
  | dpdLoad (h : Hdr) (path bank count src : Nat)
  | dpdLoadComplete (path : Nat) (busOk : Bool)
  | dpdSwap (h : Hdr) (tile pathMask fade : Nat)
  | dpdFadeEnd (path : Nat)
  | heldDpdSwapStart (tile : Nat)
  | biasSet (h : Hdr) (c : BiasSetCmd)
  | biasTrigger (tile dac edge : Nat)
  | biasTriggerTimeout (tile dac : Nat)
  | biasSpanSwitch (tile dac : Nat)
  | biasSafePhaseEnd (tile dac : Nat)
  | ddsTone (h : Hdr) (c : DdsToneCmd)
  | txSatSummary (tile : Nat)
  | feDelayApply
  | overloadEpisodeStart (path : Nat)
  | overloadProtect (path : Nat)
  | overloadEpisodeEnd (path length : Nat)
  | syncInEdge
  | syncEvent
  | syncConfirmTimeout
  | rxCarrier (h : Hdr) (c : RxCarrierCmd)
  | rxExtract (h : Hdr) (c : RxExtractCmd)
  | rxSync (h : Hdr) (panel : Bool)
  | rxSatSummary (tile : Nat)
  | extractionDrops (tile : Nat)
  | bfLayers (h : Hdr) (carrier : Nat) (uplink : Bool) (layers ulShift prio : Nat)
  | beamLoad (h : Hdr) (c : BeamLoadCmd)
  | beamLoadComplete (busOk : Bool)
  | poolFlushComplete
  | beamSwap (h : Hdr) (blend : Nat)
  | beamTransitionEnd
  | heldBeamSwapStart
  | pageLoadComplete (entry : Nat)
  | pageMissSummary
  | covSetup (h : Hdr) (c : CovSetupCmd)
  | covSolveStart (carrier : Nat)
  | covSolveEnd (carrier : Nat)
  | renormalisation
  | acdOccasion (h : Hdr) (c : AcdCmd)
  | occasionEnd (config time : Nat) (peaks : List AcdPeak)
  | foReport (h : Hdr) (c : FoCmd)
  | foMeasurement (entry layer : Nat) (offset : Int) (power : Int) (snr : Nat) (tainted : Bool)
  | leveeCert (h : Hdr) (addr : Nat)
  | limitsInForce
  | leveeUnmute (h : Hdr) (mask : Nat)
  | leveeDwell (path : Nat) (o : DwellObs)
  | obsReferenceCheck (tile : Nat) (passed samples : Bool)
  | rctPattern (h : Hdr) (pattern tileMask period addr : Nat)
  | patternBind (tile : Nat)
  | timingApply (tile : Nat)
  | tileState (h : Hdr) (tileMask target : Nat)
  | protectHoldExpiry (tile : Nat)
  | strobeEdge (tile step : Nat)
  | coexGntChange (pair : Nat) (granted : Bool)
  | coexReqChange (pair : Nat) (requested : Bool)
  | rffeXfer (h : Hdr) (c : RffeCmd)
  | synRecal (h : Hdr)
  | synthLockLost (which : Nat)
  | synthCalibrationDone (calUs : Nat)
  | driftRecalibration
  | aerial (h : Hdr) (tile pathMask : Nat) (search clear : Bool)
  | mismatchPair (path : Nat) (fwd ref : Int)
  | tunerTrial (tile rl : Nat) (blanked : Bool)
  | blankingSummary
  | rffeTransferDone (tile : Nat) (results : List Nat) (failed : Option Nat)
  | lineFrame (f : LineFrameIn)
  | cplaneMessage (m : CPlaneIn)
  | uplaneMessage (m : UPlaneIn)
  | owdmMessage (m : OwdmIn)
  | partialSumMessage (port : Nat) (m : PartialSum)
  | mkaMessage (m : MkaIn)
  | mkaHello
  | mkaPeerLost (port : Nat)
  | flowIdleTimeout
  | duReport
  | dropSummary
  | setStateChange (set : Nat)
  | fhCarrier (h : Hdr) (c : FhCarrierCmd)
  | coopSet (h : Hdr) (c : CoopSetCmd)
  | msecRekey (h : Hdr) (ports : Nat)
  | fhOwdm (h : Hdr) (c : FhOwdmCmd)
  | owdmTimeout (id : Nat)
  | lineMode (h : Hdr) (port mode : Nat) (train : Bool)
  | lineRestart (h : Hdr) (mask : Nat)
  | lineSnapshot (h : Hdr) (lane addr : Nat)
  | lineTest (h : Hdr) (mask pattern addr : Nat)
  | lineTestReport (lane bits errors : Nat)
  | lineRmute (h : Hdr) (addr : Nat)
  | losChange (lane : Nat) (lost : Bool)
  | laneBackoffEnd (lane : Nat)
  | laneTimeout (lane : Nat)
  | markerLock (lane : Nat)
  | fecLock (lane : Nat)
  | portUp (port : Nat) (skews : List Nat)
  | markerPeriod (lane : Nat) (o : MarkerObs)
  | fecDegradeClear (port : Nat)
  | occupancyWindow (lane : Nat) (o : OccupancyObs)
  | freezeEvent (lane : Nat)
  | overlayCell (lane : Nat) (bytes : List Nat)
  | trainingCell (lane : Nat) (bytes : List Nat)
  | rxReady (lane : Nat)
  | oneSidedTimeout (lane : Nat)
  | heartbeatSend
  | heartbeat (lane : Nat)
  | neighbourUnreachable (port : Nat)
  | muteFragment (lane : Nat)
  | fragmentTimeout (port : Nat)
  | histReq (rq : Requester) (lane : Nat)
  | histDone (lane : Nat) (bins : List Nat)
  | backoffReturn (lane : Nat)
  | culSleep (h : Hdr) (mask : Nat) (sleep : Bool)
  | culEyescan (h : Hdr) (mask phi0 phi1 v0 v1 dwell addr : Nat)
  | eyescanDone (lanes : List EyeLane) (busOk : Bool)
  | culReg (h : Hdr) (pos n addr : Nat)
  | headerLock (lane : Nat)
  | lockLoss (lane : Nat)
  | culvertSignalLoss (lane : Nat)
  | culvertSignalReturn (lane : Nat)
  | alignPeriod (link : Nat) (marks : List Nat)
  | alignBlock (lane : Nat) (b : AlignIn)
  | sleepBlocks (lane : Nat)
  | laneReadd (lane : Nat)
  | autoSleep (link : Nat)
  | culvertFrame (f : CulFrameIn)
  | linkMgmtFrame (link : Nat) (m : LinkMgmt)
  | panelSyncFrame (link : Nat) (f : PanelSync)
  | tunnelMessage (link member : Nat) (m : TunnelMsg)
  | tunnelResend (member : Nat)
  | tunnelReadTimeout (k : FailKind)
  | tunnelDoorbell (window off value size : Nat)
  | leadUnreachable (lost : Bool)
  | mismatchReport (link : Nat)
  | airOfsWrite (rq : Requester) (value : Nat)
  | ptpAnnounce (port : Nat) (a : AnnounceIn)
  | ptpSync (port domain seq : Nat) (twoStep : Bool) (t1 corr : Nat)
  | ptpFollowUp (port domain seq t1 corr : Nat)
  | delayReq (port : Nat)
  | delayResp (port domain seq t4 corr : Nat)
  | ptpSourceLost (port : Nat)
  | ppsInEdge
  | ppsLost
  | ppsOut (rise : Bool)
  | clockLocked
  | timeCellSend (port : Nat)
  | timeTransferCell (lane : Nat)
  | thetaUpdate (port : Nat)
  | rootSeqAdvance
  | rootLost
  | ownKeyWindowEnd
  | extDisagree (diff : Int)
  | timeStep (h : Hdr) (sec ns : Nat)
  | timeEpoch (h : Hdr) (epoch : Nat)
  | otaCal (h : Hdr) (c : OtaCmd)
  | otaCalResult (o : OtaObs)
  | engNopBundle (n : Nat)
  | engMac4 (n : Nat)
  | engDot4 (n : Nat)
  | engCmac (n : Nat)
  | engTapmv (n : Nat)
  | engSta4 (n : Nat)
  | engStc (n : Nat)
  | engAdd (n : Nat)
  | engAddi (n : Nat)
  | engSub (n : Nat)
  | engAnd (n : Nat)
  | engOr (n : Nat)
  | engXor (n : Nat)
  | engShli (n : Nat)
  | engShri (n : Nat)
  | engSari (n : Nat)
  | engMovi (n : Nat)
  | engOrh (n : Nat)
  | engLdg (n : Nat)
  | engStg (n : Nat)
  | engSth (n : Nat)
  | engMvag (n : Nat)
  | engMvga (n : Nat)
  | engExp (n : Nat)
  | engNorm (n : Nat)
  | engBexr (n : Nat)
  | engAgset (n : Nat)
  | engRcp (n : Nat)
  | engRsq (n : Nat)
  | engMul (n : Nat)
  | engTapc (n : Nat)
  | engBr (n : Nat)
  | engCall (n : Nat)
  | engRet (n : Nat)
  | engLoop (n : Nat)
  | engWait (n : Nat)
  | engineWake (n events : Nat)
  | engTrap (n : Nat)
  | engTime (n : Nat)
  | engWriteWeights (n : Nat)
  | engCovRead (n : Nat)
  | engEvent (n : Nat)
  | engSolved (n : Nat)
  | engFence (n : Nat)
  | engRetk (n : Nat)
  | engHalt (n : Nat)
  | watchdog (n : Nat)
  | engineRestart (n : Nat)
  | modeChange (n : Nat) (maintenance : Bool) (cause : Nat)
  | kernelInvocation (n : Nat) (arg : Nat)
  | kernelPlacement (n : Nat)
  | engKernel (h : Hdr) (tileMask action addr len : Nat)
  | engMode (h : Hdr) (engine mode : Nat)
  | nop (h : Hdr)
  | profile (h : Hdr) (p : Nat)
  | profileApply
  | now (h : Hdr)
  | doorbell (ring value size : Nat)
  | kick (ring value size : Nat)
  | headDoorbell (ring value size : Nat)
  | ringEnable (rq : Requester) (ring : Nat) (en : Bool)
  | ringsDisable (rq : Requester)
  | descriptorFetch (ring : Nat)
  | phaseReread (ring : Nat)
  | timedCheck
  | timedApply
  | msixMessage (vector : Nat)
  | msixUnmask (vector : Nat)
  | linkDown
  | linkUp
  | configRequest
  | sluChain (h : Hdr) (ch : Nat) (stopOnErr : Bool) (head : Nat)
  | sluStop (h : Hdr) (ch : Nat)
  | sluKick (rq : Requester) (value : Nat)
  | ctrlPoll (ch : Nat)
  | sluiceDescriptor (ch : Nat) (busFail : Option SluFail)
  | descriptorComplete (ch : Nat)
  | seaIdentity (h : Hdr) (addr : Nat)
  | seaAttest (h : Hdr) (nonce addr : Nat)
  | seaSetId (h : Hdr) (id : Nat)
  | seaCommit (h : Hdr) (cls version : Nat)
  | seaEnrol (h : Hdr) (slot addr : Nat)
  | seaCak (h : Hdr) (addr : Nat)
  | seaRetire (h : Hdr) (uid : Nat)
  | entropyFailure
  | entropyRecovered
  | imageVerification (engine : Nat) (image : List Nat)
  | seawallOperationDone (stopped : Option Nat)
  | rstnFall
  | supplyMonitorTrip (aonLost : Bool)
  | resetRelease (flashOk fast : Bool)
  | referenceMeasure (khz : Nat)
  | referenceLost
  | railRecheck (outMask : Nat)
  | imagesOk
  | reducedService
  | tileCalibrated (tile : Nat) (ok : Bool)
  | calibrationRefined
  | perstFall
  | perstRise
  | confirm (rq : Requester)
  | softRst (rq : Requester) (key : Nat)
  | go (rq : Requester)
  | updateDone (busOk tempOk writeOk : Bool)
  | thermalSampling (temps : List Int)
  | throttleLower
  | t2Restore
  | t3Gating
  | t3Release
  | thermalTrip (mask : Nat)
  | tripLatchClear
  | pwrState (h : Hdr) (target mask sources timer : Nat)
  | tileGated (tile : Nat)
  | tileUngated (tile : Nat)
  | wakeNLow
  | wake (rq : Requester)
  | polderEntryDone
  | polderExit
  | dormantEntryDone
  | sentinelWake (source : Nat)
  | autoGating
  | avsUpdate (target : Nat)
  | hkaInject (h : Hdr)
  | start (rq : Requester)
  | hkaTimerTrigger (seq : Nat)
  | hkaEventTrigger (seq : Nat)
  | conversionDone (nv : Int)
  | biasReadback (nv : Int)
  | biasSweep
  | supplyCheck
  | mainsEdge
  | mainsLoss
  | gauStream (h : Hdr) (c : GauStreamCmd)
  | gauArm (h : Hdr) (c : GauArmCmd)
  | gauStop (h : Hdr) (mask : Nat)
  | gauForce (h : Hdr) (mask : Nat)
  | gauMask (h : Hdr) (addr : Nat)
  | gaugeTrigEdge (rising : Bool)
  | gaugeTrigger (source conds : Nat)
  | autoTrigger (source : Nat)
  | gaugeRecord (source : Nat) (data : List GauSamples)
  | gaugeDrained (source : Nat)
  | gaugeRearm (source : Nat)
  | scrubRead (r : ScrubResult) (late : Bool)
  | pathRestore (h : Hdr) (mask : Nat)
  | pathTestDone (path : Nat) (passed : Bool)
  | telemetryRecord (o : TelemetryObs)
  | telSetup (h : Hdr) (k b addr : Nat)
  | logRead (h : Hdr) (count addr : Nat)
  | fltDumpRegion (h : Hdr) (fullMem clear : Bool) (addr len : Nat)
  | fltDumpFetch (h : Hdr) (erase : Bool) (addr : Nat)
  | fltDumpTest (h : Hdr)
  | fatalError (cause engine : Nat)
  | dumpWritten
  | dumpRetry
  | dumpSlotErase (slot : Nat)
  | smbSetOffset (off : Nat) (pecOk : Bool)
  | smbRead (pecOk : Bool)
  | smbWrite (off value : Nat) (pecOk : Bool)
  | alertResponse
  | testEnRise
  | bypass
  | idcode
  | samplePreload (data : List Bool)
  | extest
  | extestPulse
  | extestTrain
  | clamp
  | highz
  | devLock (rq : Requester) (value : Nat)
  | registerWrite (rq : Requester) (off size value : Nat)
  deriving DecidableEq, Repr

end Sys2Proof
end

