-- ==== Sys2Proof/Decode.lean ====
section
/-! DEFINITION. The command that a word spells by the bits of the table of operations. The table gives no row any bits
(every row's list of fields is empty), so no word spells a command: commands reach the queue as they are. The decoding
of the 64-byte descriptors of a ring, which the spec does lay out, is part of DESCRIPTOR_FETCH. -/
namespace Sys2Proof

/-- The command a word of the table spells: none, since the table gives no row any bits. -/
def decodeTableWord (_nbits _w : Nat) : Option Instr := none

end Sys2Proof
end

