-- ==== Sys2Proof/Config.lean ====
section
/-! DEFINITION. What an implementation fixes and the values the spec leaves open. A free value is an opaque constant: no
proof can see what it is, so a claim holds whatever it is. -/
namespace Sys2Proof.Config

/-- Seconds of the GPS epoch 1980-01-06 in the TAI timescale of 1970 (R294). -/
def gpsEpoch : Nat := 315964819

/-- 10 log10 of the sum of powers given in 0.01 dBm, in 0.01 dBm (R164): the spec states no rounding. -/
opaque powerSum : List Int → Int

/-- Time in ns that the operations of an `RFFE_XFER` take on the bus at a divider (R187, R188): the MIPI frames are outside
the spec. -/
opaque rffeBusNs : List (Nat × Nat × Nat) → Nat → Nat

/-- The bytes of the weights a firmware solve gives one subband (R144), from the digest of its sums, the number of layers
and `REG`: the spec fixes the formula and not the rounding of its arithmetic. -/
opaque covWeights : Nat → Nat → Nat → List Nat

/-- The bytes of Φ and Ψ of one subband as `COV_READ` copies them (R142, R345), from the digest of its sums. -/
opaque covSums : Nat → List Nat

/-- SHA-512 (R397): 64 bytes. The standards of Seawall's algorithms are outside the spec, so the functions stay uninterpreted. -/
opaque sha512 : List Nat → List Nat

/-- Whether an ECDSA signature on P-521 verifies (R397): the SHA-512 of the key, the digest, the signature. -/
opaque ecdsaOk : List Nat → List Nat → List Nat → Bool

/-- An ECDSA signature on P-521 under a private scalar over a digest (R397); its secret comes from the random-number
generator, which the number stands for. -/
opaque ecdsaSign : Nat → List Nat → Nat → List Nat

/-- The uncompressed public point of a private scalar (R396): 133 bytes. -/
opaque publicPoint : Nat → List Nat

/-- The key a CAK delivery unwraps to under `ID_PRIV` and `UID` (R409); none where the unwrap fails. -/
opaque cakUnwrap : Nat → List Nat → List Nat → Option (List Nat)

/-- The tag a lane puts into or expects in an overlay cell under a port's overlay key (R249, R411). -/
opaque overlayTag : List Nat → List Nat → List Nat

/-- Event codes of records the spec asks for without giving a code, by a number of the record: 1 late background work (R39), 2 an
overrun (R23), 3 the loss of the PCIe link (R16), 4 configuration defaults (R427). -/
opaque unnamedEvent : Nat → Nat

/-- Where within its stated spread a measured latency lies (R261), in the units of its register: by port, lane and occasion. -/
opaque latencySpread : Nat → Nat → Nat

/-- The SNR of a window whose mean squared error is zero (R260): the logarithm has no value there. -/
opaque snrOfZero : Nat

/-- Frames an egress queue holds (R197): the spec gives no depth. -/
opaque egressDepth : Nat

/-- The compensation value of one-way delay messages of a port, ns × 2^16 (R202). -/
opaque owdmComp : Nat → Nat

/-- The steered frequency offset the clock servo reaches after a measurement, and its mean over the last 100 s, in units of
2^-48 (R300, R302): the spec gives the servo's limits and not its constants. -/
opaque servoY : Nat → Int
opaque servoMean : Nat → Int

/-- Whether an element before the first failed one had already moved (R381, R387), and the order of a scatter's writes (R380,
R393): by occasion and element. -/
opaque sluMoved : Nat → Nat → Bool
opaque sluOrder : Nat → Nat → Int

/-- Where firmware puts a kernel's partition (R343): the program range of tile n under 2n, its data range under 2n + 1. -/
opaque kernelBase : Nat → Nat

/-- What a DPD bank holds after the two test patterns of a store test (R503): the spec does not say. -/
opaque storeAfterTest : Nat → List Nat

/-- The result of `RCP` and of `RSQ` for an operand whose exact result fits the destination (R332): the spec bounds its error by 2^-12
and gives no table. -/
opaque engRcp : Nat → Nat
opaque engRsq : Nat → Nat

/-- The next address of a pointer whose `LEN` breaks the rule of its mode (R326). -/
opaque engPointer : Nat → Nat

/-- What the registers of an engine hold when a kernel invocation begins (R343), by occasion and register: the spec does not say. -/
opaque kernelReg : Nat → Nat → Nat

/-- The status of a service for which the spec states none (R345): a service number outside its table, or a subband marked outside the
solve window. -/
opaque serviceStatus : Nat → Nat

/-- The trims a calibration step gives a path (R39, R57, R109): the spec does not state them. -/
opaque calTrim : Nat → Nat × Nat

/-- The bank a DPD adaptation writes (R66): the spec fixes what it reads and not its arithmetic. -/
opaque dpdAdapted : Nat → List Nat

/-- Where firmware puts the extraction buffers of a tile engine (R112): base and size by engine and buffer; and the bytes of a buffer that
hold records firmware has not yet taken, by occasion: the spec gives neither. -/
opaque extractBuf : Nat → Nat → Nat × Nat
opaque extractUsed : Nat → Nat

/-- The levels of the pins that the boundary register samples (R537): most of them are inputs of the package. -/
opaque pinSample : Nat → List Bool

end Sys2Proof.Config
end

