-- ==== Sys2Proof/Machine/Bits.lean ====
section
/-! DEFINITION. Bit fields, sign extension, byte order and rounding, over plain natural numbers and integers. -/
namespace Sys2Proof.Machine

/-- Bits `[lsb+w-1:lsb]` of a number. -/
def bits (n lsb w : Nat) : Nat := n / 2 ^ lsb % 2 ^ w

/-- Bit `i` of a number. -/
def bit (n i : Nat) : Bool := n / 2 ^ i % 2 == 1

/-- A number with bits `[lsb+w-1:lsb]` replaced by the low `w` bits of `v`. -/
def putBits (n lsb w v : Nat) : Nat :=
  n - bits n lsb w * 2 ^ lsb + v % 2 ^ w * 2 ^ lsb

/-- One bit as a number. -/
def b2n (b : Bool) : Nat := if b then 1 else 0

/-- The numbers below `n` whose bit is set in a mask. -/
def maskList (m n : Nat) : List Nat := (List.range n).filter fun i => bit m i

/-- A mask with one bit set or cleared. -/
def putBit (m i : Nat) (b : Bool) : Nat := putBits m i 1 (b2n b)

/-- The mask with exactly the bits of a list set. -/
def maskOf (l : List Nat) : Nat := l.foldl (fun m i => putBit m i true) 0

/-- The number of set bits among the low `n`. -/
def popCount (m n : Nat) : Nat := (maskList m n).length

/-- Two's complement reading of the low `w` bits. -/
def sx (w n : Nat) : Int :=
  let v := n % 2 ^ w
  if v ≥ 2 ^ (w - 1) then (v : Int) - 2 ^ w else v

/-- The low `w` bits of an integer in two's complement. -/
def ux (w : Nat) (z : Int) : Nat := (z % (2 ^ w : Int)).toNat

/-- Clamp to the signed `w`-bit range. -/
def satS (w : Nat) (z : Int) : Int :=
  if z > 2 ^ (w - 1) - 1 then 2 ^ (w - 1) - 1 else if z < -(2 ^ (w - 1)) then -(2 ^ (w - 1)) else z

/-- Saturating increment of an unsigned `w`-bit counter. -/
def satInc (w n : Nat) : Nat := if n + 1 < 2 ^ w then n + 1 else 2 ^ w - 1

/-- `a / b` rounded to nearest, ties away from zero (`b` above zero). -/
def divRound (a : Int) (b : Nat) : Int :=
  if a < 0 then -((2 * (-a) + b) / (2 * b)) else (2 * a + b) / (2 * b)

/-- `z / 2 ^ k` rounded to nearest, ties to even. -/
def shrEven (z : Int) (k : Nat) : Int :=
  let q := z / 2 ^ k
  let r := z - q * 2 ^ k
  if 2 * r < 2 ^ k then q else if 2 * r > 2 ^ k then q + 1 else if q % 2 == 0 then q else q + 1

/-- The low `n` bytes of a number, least significant first. -/
def bytesLE : Nat → Nat → List Nat
  | 0, _ => []
  | n + 1, x => x % 256 :: bytesLE n (x / 256)

/-- The low `n` bytes of a number, most significant first. -/
def bytesBE (n x : Nat) : List Nat := (bytesLE n x).reverse

/-- A little-endian list of bytes as a number. -/
def natLE : List Nat → Nat
  | [] => 0
  | b :: t => b + 256 * natLE t

/-- A big-endian list of bytes as a number. -/
def natBE (l : List Nat) : Nat := natLE l.reverse

/-- A list cut or padded with zeros to `n` entries. -/
def fit (n : Nat) (l : List Nat) : List Nat := (l ++ List.replicate n 0).take n

/-- The ceiling of `a / b`. -/
def ceilDiv (a b : Nat) : Nat := (a + b - 1) / b

/-- Replace entry `i` of a list. -/
def setAt {α : Type} (l : List α) (i : Nat) (x : α) : List α := l.set i x

/-- The sum of a list. -/
def sumL (l : List Nat) : Nat := l.foldl (· + ·) 0

/-- The sum of a list of integers. -/
def sumZ (l : List Int) : Int := l.foldl (· + ·) 0

/-- Pair `i` of a list of pairs of numbers packed flat. -/
def nth (l : List Nat) (i : Nat) : Nat := l.getD i 0

/-- Insert into a list ordered by a key. -/
def insertBy {α : Type} (key : α → Int) (x : α) : List α → List α
  | [] => [x]
  | y :: t => if key x ≤ key y then x :: y :: t else y :: insertBy key x t

/-- A list ordered by a key; equal keys keep their order. -/
def sortBy {α : Type} (key : α → Int) (l : List α) : List α := l.foldr (insertBy key) []

end Sys2Proof.Machine
end

