-- ==== Sys2Proof/Machine/Store.lean ====
section
/-! DEFINITION. The two plain stores every part of the state is built from: a sparse store of words that read as
zero where nothing is listed (registers, memories), and a table of records by number. -/
namespace Sys2Proof.Machine

/-- A sparse store of `w`-bit words: addresses strictly rising, no entry equal to zero, which is what an
unlisted address reads as. -/
abbrev Sparse (w : Nat) := List (Nat × BitVec w)

/-- The word at an address; zero where the store lists nothing. -/
def Sparse.read {w : Nat} : Sparse w → Nat → BitVec w
  | [], _ => 0
  | (k, v) :: t, a => if a = k then v else Sparse.read t a

/-- The store without an entry for the address. -/
def Sparse.erase {w : Nat} : Sparse w → Nat → Sparse w
  | [], _ => []
  | (k, v) :: t, a => if a = k then t else if a < k then (k, v) :: t else (k, v) :: Sparse.erase t a

/-- The store with a nonzero entry put in its place. -/
def Sparse.insert {w : Nat} : Sparse w → Nat → BitVec w → Sparse w
  | [], a, x => [(a, x)]
  | (k, v) :: t, a, x =>
    if a = k then (a, x) :: t else if a < k then (a, x) :: (k, v) :: t else (k, v) :: Sparse.insert t a x

/-- Write a word, keeping the canonical form: writing zero removes the entry. -/
def Sparse.write {w : Nat} (m : Sparse w) (a : Nat) (x : BitVec w) : Sparse w :=
  if x = 0 then m.erase a else m.insert a x

/-- Every address of the store is above `b`, the addresses rise, and no entry is zero. -/
def Sparse.wfFrom {w : Nat} : Nat → Sparse w → Bool
  | _, [] => true
  | b, (k, v) :: t => decide (b ≤ k) && decide (v ≠ 0) && Sparse.wfFrom (k + 1) t

/-- The canonical form: addresses strictly rising, no entry zero. -/
def Sparse.wf {w : Nat} (m : Sparse w) : Bool := m.wfFrom 0

/-- A byte-addressed memory. -/
abbrev Memory := Sparse 8

/-- The register file: words at byte offsets of BAR0. -/
abbrev RegFile := Sparse 32

/-- `n` bytes from address `a`, as a little-endian number. -/
def Memory.readLE (m : Memory) (a : Nat) : Nat → Nat
  | 0 => 0
  | n + 1 => (Sparse.read m a).toNat + 256 * Memory.readLE m (a + 1) n

/-- Write the low `n` bytes of a number at address `a`, least significant byte first. -/
def Memory.writeLE (m : Memory) (a : Nat) : Nat → Nat → Memory
  | 0, _ => m
  | n + 1, x => Memory.writeLE (m.write a (BitVec.ofNat 8 x)) (a + 1) n (x / 256)

/-- Write a list of bytes, the first at address `a`. -/
def Memory.writeBytes (m : Memory) (a : Nat) : List Nat → Memory
  | [] => m
  | b :: t => Memory.writeBytes (m.write a (BitVec.ofNat 8 b)) (a + 1) t

/-- The `n` bytes from address `a`. -/
def Memory.readBytes (m : Memory) (a : Nat) : Nat → List Nat
  | 0 => []
  | n + 1 => (Sparse.read m a).toNat :: Memory.readBytes m (a + 1) n

/-- A table of records by number, kept in rising order. -/
abbrev Tab (α : Type) := List (Nat × α)

/-- The record of a number. -/
def Tab.get? {α : Type} : Tab α → Nat → Option α
  | [], _ => none
  | (k, v) :: t, a => if a = k then some v else Tab.get? t a

/-- The record of a number, or a stated default. -/
def Tab.getD {α : Type} (t : Tab α) (a : Nat) (d : α) : α := (t.get? a).getD d

/-- Whether the table holds a record of that number. -/
def Tab.has {α : Type} (t : Tab α) (a : Nat) : Bool := (t.get? a).isSome

/-- Put a record. -/
def Tab.set {α : Type} : Tab α → Nat → α → Tab α
  | [], a, x => [(a, x)]
  | (k, v) :: t, a, x =>
    if a = k then (a, x) :: t else if a < k then (a, x) :: (k, v) :: t else (k, v) :: Tab.set t a x

/-- Remove a record. -/
def Tab.del {α : Type} (t : Tab α) (a : Nat) : Tab α := t.filter fun e => e.1 != a

/-- Change the record of a number where there is one. -/
def Tab.modify {α : Type} (t : Tab α) (a : Nat) (f : α → α) : Tab α :=
  match t.get? a with
  | some x => t.set a (f x)
  | none => t

/-- Put a record, or remove it on `none`. -/
def Tab.put {α : Type} (t : Tab α) (a : Nat) : Option α → Tab α
  | some x => t.set a x
  | none => t.del a

end Sys2Proof.Machine
end

