-- ==== Sys2Proof/Machine/RegMap.lean ====
section
/-! DEFINITION. The register map of BAR0 (R540, R548): every register at its offset, every field at its bits, and for
each register the access code and the legal range of each field that a write may touch (R543, R544). -/
namespace Sys2Proof.Machine

/-- The access codes of R543. -/
inductive Access where
  | ro | rw | w1c | w1s | wo | rwl | rws
  deriving DecidableEq, Repr

/-- A field of a register: the register's offset, its least significant bit, its width. -/
structure Field where
  reg : Nat
  lsb : Nat
  width : Nat
  deriving DecidableEq, Repr

/-- What a write may do to one field: its bits, its access code and its stated range. -/
structure FieldDesc where
  lsb : Nat
  width : Nat
  acc : Access
  lo : Nat
  hi : Nat
  deriving DecidableEq, Repr

/-- A register, instanced over up to two indices. -/
structure RegDesc where
  base : Nat
  n1 : Nat
  s1 : Nat
  n2 : Nat
  s2 : Nat
  /-- Which word of a value wider than one register this is (R33), and how many words the value has. -/
  word : Nat
  words : Nat
  fields : List FieldDesc
  deriving DecidableEq, Repr

namespace Reg

/-- `DEV_IDENT` (20). -/
def DEV_IDENT : Nat := 0x000000
def DEV_IDENT_STEP_MINOR : Field := ⟨DEV_IDENT, 0, 4⟩
def DEV_IDENT_STEP_MAJOR : Field := ⟨DEV_IDENT, 4, 4⟩
def DEV_IDENT_FAMILY : Field := ⟨DEV_IDENT, 8, 8⟩
def DEV_IDENT_PART : Field := ⟨DEV_IDENT, 16, 16⟩
/-- `DEV_LOCK` (20). -/
def DEV_LOCK : Nat := 0x000010
def DEV_LOCK_LOCK : Field := ⟨DEV_LOCK, 0, 1⟩
def DEV_LOCK_KEY : Field := ⟨DEV_LOCK, 8, 8⟩
def DEV_LOCK_VIOLATIONS : Field := ⟨DEV_LOCK, 16, 16⟩
/-- `DEV_ACC_STAT` (20). -/
def DEV_ACC_STAT : Nat := 0x000014
def DEV_ACC_STAT_BAD_WIDTH : Field := ⟨DEV_ACC_STAT, 0, 1⟩
def DEV_ACC_STAT_LOCK_VIOL : Field := ⟨DEV_ACC_STAT, 1, 1⟩
/-- `DEV_SCRATCH_k` (20). -/
def DEV_SCRATCH (k : Nat) : Nat := 0x000020 + 0x4 * k
def DEV_SCRATCH_VALUE (k : Nat) : Field := ⟨DEV_SCRATCH k, 0, 32⟩
/-- `DEV_PROFILE` (01). -/
def DEV_PROFILE : Nat := 0x000100
def DEV_PROFILE_PROFILE : Field := ⟨DEV_PROFILE, 0, 3⟩
def DEV_PROFILE_IN_FORCE : Field := ⟨DEV_PROFILE, 8, 3⟩
/-- `DEV_TICK_STAT` (01). -/
def DEV_TICK_STAT : Nat := 0x000104
def DEV_TICK_STAT_MIN_MARGIN : Field := ⟨DEV_TICK_STAT, 0, 16⟩
def DEV_TICK_STAT_DL_OVR : Field := ⟨DEV_TICK_STAT, 16, 1⟩
def DEV_TICK_STAT_UL_OVR : Field := ⟨DEV_TICK_STAT, 17, 1⟩
def DEV_TICK_STAT_MARGIN_RST : Field := ⟨DEV_TICK_STAT, 31, 1⟩
/-- `DEV_TICK_OVR_LO` (01). -/
def DEV_TICK_OVR : Nat := 0x000108
/-- `DEV_BG_STAT` (01). -/
def DEV_BG_STAT : Nat := 0x000110
def DEV_BG_STAT_SCRUB_LATE : Field := ⟨DEV_BG_STAT, 0, 1⟩
def DEV_BG_STAT_CAL_LATE : Field := ⟨DEV_BG_STAT, 1, 1⟩
def DEV_BG_STAT_DPD_LATE : Field := ⟨DEV_BG_STAT, 2, 1⟩
def DEV_BG_STAT_EQ_LATE : Field := ⟨DEV_BG_STAT, 3, 1⟩
def DEV_BG_STAT_THERM_LATE : Field := ⟨DEV_BG_STAT, 4, 1⟩
def DEV_BG_STAT_TELEM_LATE : Field := ⟨DEV_BG_STAT, 5, 1⟩
def DEV_BG_STAT_FLASH_LATE : Field := ⟨DEV_BG_STAT, 6, 1⟩
/-- `DEV_RESET_CAUSE` (14). -/
def DEV_RESET_CAUSE : Nat := 0x000200
def DEV_RESET_CAUSE_POR : Field := ⟨DEV_RESET_CAUSE, 0, 1⟩
def DEV_RESET_CAUSE_PIN : Field := ⟨DEV_RESET_CAUSE, 1, 1⟩
def DEV_RESET_CAUSE_SOFT : Field := ⟨DEV_RESET_CAUSE, 2, 1⟩
def DEV_RESET_CAUSE_DORMANT : Field := ⟨DEV_RESET_CAUSE, 3, 1⟩
def DEV_RESET_CAUSE_FATAL : Field := ⟨DEV_RESET_CAUSE, 4, 1⟩
def DEV_RESET_CAUSE_TRIP_SEEN : Field := ⟨DEV_RESET_CAUSE, 5, 1⟩
def DEV_RESET_CAUSE_PERST : Field := ⟨DEV_RESET_CAUSE, 6, 1⟩
/-- `DEV_BOOT_STAT` (14). -/
def DEV_BOOT_STAT : Nat := 0x000204
def DEV_BOOT_STAT_FLASH_OK : Field := ⟨DEV_BOOT_STAT, 0, 1⟩
def DEV_BOOT_STAT_SLOW_FLASH : Field := ⟨DEV_BOOT_STAT, 1, 1⟩
def DEV_BOOT_STAT_CONFIG_DEFAULT : Field := ⟨DEV_BOOT_STAT, 2, 1⟩
def DEV_BOOT_STAT_SLOT : Field := ⟨DEV_BOOT_STAT, 3, 1⟩
def DEV_BOOT_STAT_TRIAL : Field := ⟨DEV_BOOT_STAT, 4, 1⟩
def DEV_BOOT_STAT_IMAGES_OK : Field := ⟨DEV_BOOT_STAT, 5, 1⟩
def DEV_BOOT_STAT_REF_OK : Field := ⟨DEV_BOOT_STAT, 6, 1⟩
def DEV_BOOT_STAT_REF_SWITCHED : Field := ⟨DEV_BOOT_STAT, 7, 1⟩
def DEV_BOOT_STAT_REF_FREQ : Field := ⟨DEV_BOOT_STAT, 8, 2⟩
def DEV_BOOT_STAT_REDUCED : Field := ⟨DEV_BOOT_STAT, 10, 1⟩
def DEV_BOOT_STAT_FULL : Field := ⟨DEV_BOOT_STAT, 11, 1⟩
def DEV_BOOT_STAT_NO_IMAGE : Field := ⟨DEV_BOOT_STAT, 12, 1⟩
def DEV_BOOT_STAT_TILE_READY : Field := ⟨DEV_BOOT_STAT, 16, 8⟩
def DEV_BOOT_STAT_TILE_FULL : Field := ⟨DEV_BOOT_STAT, 24, 8⟩
/-- `DEV_BOOT_TIME` (14). -/
def DEV_BOOT_TIME : Nat := 0x000208
def DEV_BOOT_TIME_REDUCED_MS : Field := ⟨DEV_BOOT_TIME, 0, 16⟩
def DEV_BOOT_TIME_FULL_MS : Field := ⟨DEV_BOOT_TIME, 16, 16⟩
/-- `DEV_BOOT_CTL` (14). -/
def DEV_BOOT_CTL : Nat := 0x00020C
def DEV_BOOT_CTL_CONFIRM : Field := ⟨DEV_BOOT_CTL, 0, 1⟩
def DEV_BOOT_CTL_KEY : Field := ⟨DEV_BOOT_CTL, 8, 8⟩
def DEV_BOOT_CTL_SOFT_RST : Field := ⟨DEV_BOOT_CTL, 16, 1⟩
/-- `DEV_UPD_ADDR_LO` (14). -/
def DEV_UPD_ADDR : Nat := 0x000210
/-- `DEV_UPD_CTL` (14). -/
def DEV_UPD_CTL : Nat := 0x000218
def DEV_UPD_CTL_LEN : Field := ⟨DEV_UPD_CTL, 0, 24⟩
def DEV_UPD_CTL_KIND : Field := ⟨DEV_UPD_CTL, 24, 2⟩
def DEV_UPD_CTL_GO : Field := ⟨DEV_UPD_CTL, 31, 1⟩
/-- `DEV_UPD_STAT` (14). -/
def DEV_UPD_STAT : Nat := 0x00021C
def DEV_UPD_STAT_STATUS : Field := ⟨DEV_UPD_STAT, 0, 8⟩
def DEV_UPD_STAT_BUSY : Field := ⟨DEV_UPD_STAT, 8, 1⟩
def DEV_UPD_STAT_DONE : Field := ⟨DEV_UPD_STAT, 9, 1⟩
def DEV_UPD_STAT_TARGET : Field := ⟨DEV_UPD_STAT, 10, 1⟩
/-- `PWR_STAT` (15). -/
def PWR_STAT : Nat := 0x010000
def PWR_STAT_STATE : Field := ⟨PWR_STAT, 0, 2⟩
def PWR_STAT_BUSY : Field := ⟨PWR_STAT, 2, 1⟩
def PWR_STAT_QUEUED : Field := ⟨PWR_STAT, 3, 1⟩
def PWR_STAT_GATED : Field := ⟨PWR_STAT, 8, 8⟩
def PWR_STAT_AUTO : Field := ⟨PWR_STAT, 16, 8⟩
/-- `PWR_TILE_PHASE` (15). -/
def PWR_TILE_PHASE : Nat := 0x010004
def PWR_TILE_PHASE_PHASE (j : Nat) : Field := ⟨PWR_TILE_PHASE, 2 * j, 2⟩
/-- `PWR_POLICY` (15). -/
def PWR_POLICY : Nat := 0x010008
def PWR_POLICY_AUTO_EN : Field := ⟨PWR_POLICY, 0, 1⟩
def PWR_POLICY_MASK : Field := ⟨PWR_POLICY, 8, 8⟩
def PWR_POLICY_MIN_TILES : Field := ⟨PWR_POLICY, 16, 4⟩
def PWR_POLICY_HEADROOM : Field := ⟨PWR_POLICY, 20, 2⟩
def PWR_POLICY_IDLE : Field := ⟨PWR_POLICY, 24, 8⟩
/-- `PWR_WAKE` (15). -/
def PWR_WAKE : Nat := 0x01000C
def PWR_WAKE_WAKE : Field := ⟨PWR_WAKE, 0, 1⟩
def PWR_WAKE_CAUSE : Field := ⟨PWR_WAKE, 8, 3⟩
/-- `PWR_AVS` (15). -/
def PWR_AVS : Nat := 0x010010
def PWR_AVS_VID : Field := ⟨PWR_AVS, 0, 6⟩
def PWR_AVS_VID_MIN : Field := ⟨PWR_AVS, 8, 6⟩
def PWR_AVS_VID_MAX : Field := ⟨PWR_AVS, 16, 6⟩
def PWR_AVS_AVS_EN : Field := ⟨PWR_AVS, 24, 1⟩
def PWR_AVS_CFG_ERR : Field := ⟨PWR_AVS, 25, 1⟩
/-- `CLK_SYN_CTL` (05). -/
def CLK_SYN_CTL : Nat := 0x020100
def CLK_SYN_CTL_AUTO_RECAL : Field := ⟨CLK_SYN_CTL, 0, 1⟩
def CLK_SYN_CTL_DRIFT_C : Field := ⟨CLK_SYN_CTL, 8, 8⟩
def CLK_SYN_CTL_GAP_WAIT : Field := ⟨CLK_SYN_CTL, 16, 8⟩
def CLK_SYN_CTL_CFG_ERR : Field := ⟨CLK_SYN_CTL, 24, 1⟩
/-- `CLK_SYN_STAT` (05). -/
def CLK_SYN_STAT : Nat := 0x020104
def CLK_SYN_STAT_TX_LOCK : Field := ⟨CLK_SYN_STAT, 0, 1⟩
def CLK_SYN_STAT_RX_LOCK : Field := ⟨CLK_SYN_STAT, 1, 1⟩
def CLK_SYN_STAT_CAL_BUSY : Field := ⟨CLK_SYN_STAT, 2, 1⟩
def CLK_SYN_STAT_SYNTH_OK : Field := ⟨CLK_SYN_STAT, 3, 1⟩
def CLK_SYN_STAT_LOST : Field := ⟨CLK_SYN_STAT, 8, 1⟩
def CLK_SYN_STAT_RECALS : Field := ⟨CLK_SYN_STAT, 16, 16⟩
/-- `TIM_NOW_W0` (09). -/
def TIM_NOW : Nat := 0x030000
/-- `TIM_REF_NUM` (01). -/
def TIM_REF_NUM : Nat := 0x030010
def TIM_REF_NUM_MU : Field := ⟨TIM_REF_NUM, 0, 2⟩
def TIM_REF_NUM_ECP : Field := ⟨TIM_REF_NUM, 2, 1⟩
def TIM_REF_NUM_T_ADV : Field := ⟨TIM_REF_NUM, 8, 3⟩
def TIM_REF_NUM_CFG_ERR : Field := ⟨TIM_REF_NUM, 16, 1⟩
/-- `TIM_AIR_OFS_LO` (09). -/
def TIM_AIR_OFS : Nat := 0x030018
/-- `TIM_CTL` (09). -/
def TIM_CTL : Nat := 0x030020
def TIM_CTL_PTP_EAST : Field := ⟨TIM_CTL, 0, 1⟩
def TIM_CTL_PTP_WEST : Field := ⟨TIM_CTL, 1, 1⟩
def TIM_CTL_PPS_EN : Field := ⟨TIM_CTL, 2, 1⟩
def TIM_CTL_OVL_EN : Field := ⟨TIM_CTL, 3, 1⟩
def TIM_CTL_SYNCE_SEL : Field := ⟨TIM_CTL, 4, 2⟩
def TIM_CTL_PTP_DOMAIN : Field := ⟨TIM_CTL, 8, 8⟩
def TIM_CTL_LPRIO_EAST : Field := ⟨TIM_CTL, 16, 8⟩
def TIM_CTL_LPRIO_WEST : Field := ⟨TIM_CTL, 24, 8⟩
/-- `TIM_STAT` (09). -/
def TIM_STAT : Nat := 0x030024
def TIM_STAT_CLK_STATE : Field := ⟨TIM_STAT, 0, 2⟩
def TIM_STAT_SOURCE : Field := ⟨TIM_STAT, 2, 2⟩
def TIM_STAT_EXT_TIME : Field := ⟨TIM_STAT, 4, 1⟩
def TIM_STAT_ROOT : Field := ⟨TIM_STAT, 5, 1⟩
def TIM_STAT_SYNCE_LOCK : Field := ⟨TIM_STAT, 6, 1⟩
def TIM_STAT_SLEWING : Field := ⟨TIM_STAT, 7, 1⟩
def TIM_STAT_CFG_ERR : Field := ⟨TIM_STAT, 8, 1⟩
def TIM_STAT_PPS_ERR : Field := ⟨TIM_STAT, 9, 1⟩
def TIM_STAT_DUP_ID : Field := ⟨TIM_STAT, 10, 1⟩
def TIM_STAT_EXT_DISAGREE : Field := ⟨TIM_STAT, 11, 1⟩
def TIM_STAT_HOLD_S : Field := ⟨TIM_STAT, 16, 16⟩
/-- `TIM_PPS_CFG` (09). -/
def TIM_PPS_CFG : Nat := 0x030030
def TIM_PPS_CFG_OUT_EN : Field := ⟨TIM_PPS_CFG, 0, 1⟩
def TIM_PPS_CFG_OUT_WIDTH : Field := ⟨TIM_PPS_CFG, 8, 8⟩
def TIM_PPS_CFG_IN_DLY : Field := ⟨TIM_PPS_CFG, 16, 16⟩
/-- `TIM_PPS_TOD_LO` (09). -/
def TIM_PPS_TOD : Nat := 0x030038
/-- `TIM_PORT_k_CFG` (09). -/
def TIM_PORT_CFG (k : Nat) : Nat := 0x030040 + 0x10 * k
def TIM_PORT_CFG_ASYM_PS (k : Nat) : Field := ⟨TIM_PORT_CFG k, 0, 24⟩
/-- `TIM_PORT_k_CFG` (09). -/
def TIM_PORT_STAT (k : Nat) : Nat := 0x030044 + 0x10 * k
def TIM_PORT_STAT_XFER (k : Nat) : Field := ⟨TIM_PORT_STAT k, 0, 2⟩
def TIM_PORT_STAT_PARENT (k : Nat) : Field := ⟨TIM_PORT_STAT k, 2, 1⟩
/-- `TIM_PORT_k_CFG` (09). -/
def TIM_PORT_OFFSET (k : Nat) : Nat := 0x030048 + 0x10 * k
def TIM_PORT_OFFSET_THETA (k : Nat) : Field := ⟨TIM_PORT_OFFSET k, 0, 32⟩
/-- `TIM_PORT_k_CFG` (09). -/
def TIM_PORT_DELAY (k : Nat) : Nat := 0x03004C + 0x10 * k
def TIM_PORT_DELAY_DELAY (k : Nat) : Field := ⟨TIM_PORT_DELAY k, 0, 32⟩
/-- `TIM_EPOCH` (09). -/
def TIM_EPOCH : Nat := 0x030080
def TIM_EPOCH_EPOCH : Field := ⟨TIM_EPOCH, 0, 32⟩
/-- `TIM_ROOT` (09). -/
def TIM_ROOT : Nat := 0x030084
def TIM_ROOT_ROOT_ID : Field := ⟨TIM_ROOT, 0, 14⟩
def TIM_ROOT_ROOT_EXT : Field := ⟨TIM_ROOT, 14, 1⟩
def TIM_ROOT_NO_ID : Field := ⟨TIM_ROOT, 15, 1⟩
def TIM_ROOT_STEPS : Field := ⟨TIM_ROOT, 16, 8⟩
/-- `TIM_SYNC_CTL` (03). -/
def TIM_SYNC_CTL : Nat := 0x030200
def TIM_SYNC_CTL_PIN_EN : Field := ⟨TIM_SYNC_CTL, 0, 1⟩
def TIM_SYNC_CTL_ONE_SHOT : Field := ⟨TIM_SYNC_CTL, 1, 1⟩
def TIM_SYNC_CTL_SYNC_DLY : Field := ⟨TIM_SYNC_CTL, 8, 8⟩
/-- `TIM_SYNC_STAT` (03). -/
def TIM_SYNC_STAT : Nat := 0x030204
def TIM_SYNC_STAT_SYNCED : Field := ⟨TIM_SYNC_STAT, 0, 1⟩
def TIM_SYNC_STAT_LAST_NOP : Field := ⟨TIM_SYNC_STAT, 1, 1⟩
def TIM_SYNC_STAT_PIN_SEEN : Field := ⟨TIM_SYNC_STAT, 2, 1⟩
def TIM_SYNC_STAT_MISS : Field := ⟨TIM_SYNC_STAT, 3, 1⟩
def TIM_SYNC_STAT_COUNT : Field := ⟨TIM_SYNC_STAT, 16, 16⟩
/-- `SEA_STAT` (13). -/
def SEA_STAT : Nat := 0x040000
def SEA_STAT_LIFECYCLE : Field := ⟨SEA_STAT, 0, 2⟩
def SEA_STAT_ID_KEY_OK : Field := ⟨SEA_STAT, 2, 1⟩
def SEA_STAT_ID_RECORD_OK : Field := ⟨SEA_STAT, 3, 1⟩
def SEA_STAT_CUST_SLOT : Field := ⟨SEA_STAT, 4, 2⟩
def SEA_STAT_ROOT_SLOT : Field := ⟨SEA_STAT, 6, 1⟩
def SEA_STAT_BUSY : Field := ⟨SEA_STAT, 7, 1⟩
def SEA_STAT_TRNG_FAIL : Field := ⟨SEA_STAT, 8, 1⟩
def SEA_STAT_AUTH_EVT : Field := ⟨SEA_STAT, 9, 1⟩
def SEA_STAT_DEVICE_ID : Field := ⟨SEA_STAT, 16, 14⟩
/-- `SEA_ARB_c` (13). -/
def SEA_ARB (c : Nat) : Nat := 0x040010 + 0x4 * c
def SEA_ARB_COUNT (c : Nat) : Field := ⟨SEA_ARB c, 0, 9⟩
def SEA_ARB_RUN_VER (c : Nat) : Field := ⟨SEA_ARB c, 16, 9⟩
/-- `SEA_UID_k` (13). -/
def SEA_UID (k : Nat) : Nat := 0x040030 + 0x4 * k
def SEA_UID_UID (k : Nat) : Field := ⟨SEA_UID k, 0, 32⟩
/-- `SEA_AUTHFAIL_LO` (13). -/
def SEA_AUTHFAIL : Nat := 0x040040
/-- `SEA_FUSE_k` (13). -/
def SEA_FUSE (k : Nat) : Nat := 0x040100 + 0x4 * k
def SEA_FUSE_WORD (k : Nat) : Field := ⟨SEA_FUSE k, 0, 32⟩
/-- `HRG_CTL` (11). -/
def HRG_CTL : Nat := 0x080000
def HRG_CTL_EN : Field := ⟨HRG_CTL, 0, 1⟩
/-- `HRG_STAT` (11). -/
def HRG_STAT : Nat := 0x080004
def HRG_STAT_READY : Field := ⟨HRG_STAT, 0, 1⟩
def HRG_STAT_CFG_ERR : Field := ⟨HRG_STAT, 1, 1⟩
def HRG_STAT_DB_ERR : Field := ⟨HRG_STAT, 2, 1⟩
def HRG_STAT_STALE : Field := ⟨HRG_STAT, 3, 1⟩
def HRG_STAT_EVT_LOST : Field := ⟨HRG_STAT, 4, 1⟩
def HRG_STAT_TIMED_PENDING : Field := ⟨HRG_STAT, 16, 13⟩
/-- `HRG_EVT_ROUTE_k` (11). -/
def HRG_EVT_ROUTE (k : Nat) : Nat := 0x080040 + 0x4 * k
def HRG_EVT_ROUTE_RING (k j : Nat) : Field := ⟨HRG_EVT_ROUTE k, 4 * j, 4⟩
/-- `HRG_RING_r_BASE_LO` (11). -/
def HRG_RING_BASE (r : Nat) : Nat := 0x081000 + 0x20 * r
/-- `HRG_RING_r_CFG` (11). -/
def HRG_RING_CFG (r : Nat) : Nat := 0x081008 + 0x20 * r
def HRG_RING_CFG_EN (r : Nat) : Field := ⟨HRG_RING_CFG r, 0, 1⟩
def HRG_RING_CFG_LOG2SIZE (r : Nat) : Field := ⟨HRG_RING_CFG r, 1, 4⟩
def HRG_RING_CFG_PRIO (r : Nat) : Field := ⟨HRG_RING_CFG r, 5, 1⟩
def HRG_RING_CFG_CQ (r : Nat) : Field := ⟨HRG_RING_CFG r, 6, 4⟩
def HRG_RING_CFG_VECTOR (r : Nat) : Field := ⟨HRG_RING_CFG r, 16, 6⟩
def HRG_RING_CFG_IRQ_EN (r : Nat) : Field := ⟨HRG_RING_CFG r, 22, 1⟩
/-- `HRG_RING_r_STAT` (11). -/
def HRG_RING_STAT (r : Nat) : Nat := 0x08100C + 0x20 * r
def HRG_RING_STAT_POS (r : Nat) : Field := ⟨HRG_RING_STAT r, 0, 16⟩
def HRG_RING_STAT_POS_PHASE (r : Nat) : Field := ⟨HRG_RING_STAT r, 16, 1⟩
def HRG_RING_STAT_STATE (r : Nat) : Field := ⟨HRG_RING_STAT r, 17, 3⟩
/-- `HRG_RING_r_COAL` (11). -/
def HRG_RING_COAL (r : Nat) : Nat := 0x081010 + 0x20 * r
def HRG_RING_COAL_COAL_COUNT (r : Nat) : Field := ⟨HRG_RING_COAL r, 0, 8⟩
def HRG_RING_COAL_COAL_US (r : Nat) : Field := ⟨HRG_RING_COAL r, 8, 16⟩
/-- `HRG_RING_r_CNT_LO` (11). -/
def HRG_RING_CNT (r : Nat) : Nat := 0x081018 + 0x20 * r
/-- `HRG_DB_r` (11). -/
def HRG_DB (p r : Nat) : Nat := 0x090000 + 0x1000 * p + 0x8 * r
def HRG_DB_INDEX (p r : Nat) : Field := ⟨HRG_DB p r, 0, 16⟩
def HRG_DB_PHASE (p r : Nat) : Field := ⟨HRG_DB p r, 16, 1⟩
def HRG_DB_KICK (p r : Nat) : Field := ⟨HRG_DB p r, 31, 1⟩
/-- `SLU_ERR` (12). -/
def SLU_ERR : Nat := 0x0A0004
def SLU_ERR_RANGE_ERR : Field := ⟨SLU_ERR, 0, 1⟩
def SLU_ERR_ALIGN_ERR : Field := ⟨SLU_ERR, 1, 1⟩
def SLU_ERR_BUS_ERR : Field := ⟨SLU_ERR, 2, 1⟩
def SLU_ERR_TRANSIENT : Field := ⟨SLU_ERR, 3, 1⟩
/-- `SLU_TRANS_LO` (12). -/
def SLU_TRANS : Nat := 0x0A0008
/-- `SLU_KICK` (12). -/
def SLU_KICK : Nat := 0x0A0010
def SLU_KICK_KICK : Field := ⟨SLU_KICK, 24, 8⟩
/-- `SLU_CH_c_STAT` (12). -/
def SLU_CH_STAT (c : Nat) : Nat := 0x0A0100 + 0x20 * c
def SLU_CH_STAT_STATE (c : Nat) : Field := ⟨SLU_CH_STAT c, 0, 3⟩
def SLU_CH_STAT_STOP_ON_ERR (c : Nat) : Field := ⟨SLU_CH_STAT c, 3, 1⟩
def SLU_CH_STAT_KICK_PEND (c : Nat) : Field := ⟨SLU_CH_STAT c, 4, 1⟩
def SLU_CH_STAT_POLLS (c : Nat) : Field := ⟨SLU_CH_STAT c, 8, 7⟩
def SLU_CH_STAT_OUTSTANDING (c : Nat) : Field := ⟨SLU_CH_STAT c, 16, 8⟩
/-- `SLU_CH_c_POS_LO` (12). -/
def SLU_CH_POS (c : Nat) : Nat := 0x0A0108 + 0x20 * c
/-- `SLU_CH_c_BAD_LO` (12). -/
def SLU_CH_BAD (c : Nat) : Nat := 0x0A0110 + 0x20 * c
/-- `SLU_CH_c_CNT_LO` (12). -/
def SLU_CH_CNT (c : Nat) : Nat := 0x0A0118 + 0x20 * c
/-- `TIL_n_TX_CFG` (02). -/
def TIL_TX_CFG (n : Nat) : Nat := 0x100100 + 0x10000 * n
def TIL_TX_CFG_IF_MODE (n : Nat) : Field := ⟨TIL_TX_CFG n, 0, 1⟩
def TIL_TX_CFG_ZONE (n : Nat) : Field := ⟨TIL_TX_CFG n, 1, 1⟩
def TIL_TX_CFG_DAC_FS (n : Nat) : Field := ⟨TIL_TX_CFG n, 8, 6⟩
def TIL_TX_CFG_DITHER (n : Nat) : Field := ⟨TIL_TX_CFG n, 14, 1⟩
def TIL_TX_CFG_CFG_ERR (n : Nat) : Field := ⟨TIL_TX_CFG n, 16, 1⟩
/-- `TIL_n_TX_LO` (02). -/
def TIL_TX_LO (n : Nat) : Nat := 0x100104 + 0x10000 * n
def TIL_TX_LO_LO_KHZ (n : Nat) : Field := ⟨TIL_TX_LO n, 0, 25⟩
def TIL_TX_LO_HIGH_SIDE (n : Nat) : Field := ⟨TIL_TX_LO n, 31, 1⟩
/-- `TIL_n_TX_FEDLY` (02). -/
def TIL_TX_FEDLY (n : Nat) : Nat := 0x100108 + 0x10000 * n
def TIL_TX_FEDLY_FE_DELAY (n : Nat) : Field := ⟨TIL_TX_FEDLY n, 0, 16⟩
/-- `TIL_n_TX_STAT` (02). -/
def TIL_TX_STAT (n : Nat) : Nat := 0x10010C + 0x10000 * n
def TIL_TX_STAT_LATENCY (n : Nat) : Field := ⟨TIL_TX_STAT n, 0, 16⟩
def TIL_TX_STAT_BFP_SAT (n : Nat) : Field := ⟨TIL_TX_STAT n, 16, 1⟩
def TIL_TX_STAT_MODC_DROP (n : Nat) : Field := ⟨TIL_TX_STAT n, 17, 1⟩
def TIL_TX_STAT_IFFT_SAT (n : Nat) : Field := ⟨TIL_TX_STAT n, 18, 1⟩
def TIL_TX_STAT_SUM_SAT (n : Nat) : Field := ⟨TIL_TX_STAT n, 19, 1⟩
def TIL_TX_STAT_CFR_OVF (n : Nat) : Field := ⟨TIL_TX_STAT n, 20, 1⟩
def TIL_TX_STAT_DPD_SAT (n : Nat) : Field := ⟨TIL_TX_STAT n, 21, 1⟩
/-- `TIL_n_CFR_CTL` (02). -/
def TIL_CFR_CTL (n : Nat) : Nat := 0x100110 + 0x10000 * n
def TIL_CFR_CTL_EN (n : Nat) : Field := ⟨TIL_CFR_CTL n, 0, 1⟩
def TIL_CFR_CTL_ITER (n : Nat) : Field := ⟨TIL_CFR_CTL n, 1, 2⟩
def TIL_CFR_CTL_THRESH (n : Nat) : Field := ⟨TIL_CFR_CTL n, 4, 16⟩
/-- `TIL_n_DPD_CTL` (02). -/
def TIL_DPD_CTL (n : Nat) : Nat := 0x100120 + 0x10000 * n
def TIL_DPD_CTL_OWNER (n : Nat) : Field := ⟨TIL_DPD_CTL n, 0, 8⟩
def TIL_DPD_CTL_BW (n : Nat) : Field := ⟨TIL_DPD_CTL n, 8, 2⟩
def TIL_DPD_CTL_ADAPT_FADE (n : Nat) : Field := ⟨TIL_DPD_CTL n, 10, 4⟩
def TIL_DPD_CTL_CFG_ERR (n : Nat) : Field := ⟨TIL_DPD_CTL n, 16, 1⟩
/-- `TIL_n_DPD_STAT` (02). -/
def TIL_DPD_STAT (n : Nat) : Nat := 0x100124 + 0x10000 * n
def TIL_DPD_STAT_ACTIVE (n : Nat) : Field := ⟨TIL_DPD_STAT n, 0, 8⟩
def TIL_DPD_STAT_FADING (n : Nat) : Field := ⟨TIL_DPD_STAT n, 8, 8⟩
def TIL_DPD_STAT_LOAD_Q (n : Nat) : Field := ⟨TIL_DPD_STAT n, 16, 8⟩
def TIL_DPD_STAT_SWAP_Q (n : Nat) : Field := ⟨TIL_DPD_STAT n, 24, 1⟩
/-- `TIL_n_BIAS_CFG_k` (02). -/
def TIL_BIAS_CFG (n k : Nat) : Nat := 0x100140 + 0x10000 * n + 0x4 * k
def TIL_BIAS_CFG_SPAN (n k : Nat) : Field := ⟨TIL_BIAS_CFG n k, 0, 2⟩
def TIL_BIAS_CFG_GUARD (n k : Nat) : Field := ⟨TIL_BIAS_CFG n k, 2, 1⟩
def TIL_BIAS_CFG_TRIG (n k : Nat) : Field := ⟨TIL_BIAS_CFG n k, 3, 2⟩
def TIL_BIAS_CFG_SAFE (n k : Nat) : Field := ⟨TIL_BIAS_CFG n k, 16, 16⟩
/-- `TIL_n_BIAS_TRIG` (02). -/
def TIL_BIAS_TRIG (n : Nat) : Nat := 0x100180 + 0x10000 * n
def TIL_BIAS_TRIG_OFFSET (n : Nat) : Field := ⟨TIL_BIAS_TRIG n, 0, 16⟩
/-- `TIL_n_BIAS_OUT_k` (02). -/
def TIL_BIAS_OUT (n k : Nat) : Nat := 0x1001C0 + 0x10000 * n + 0x4 * k
def TIL_BIAS_OUT_CODE (n k : Nat) : Field := ⟨TIL_BIAS_OUT n k, 0, 16⟩
def TIL_BIAS_OUT_READBACK (n k : Nat) : Field := ⟨TIL_BIAS_OUT n k, 16, 16⟩
/-- `TIL_n_RX_CFG` (03). -/
def TIL_RX_CFG (n : Nat) : Nat := 0x100200 + 0x10000 * n
def TIL_RX_CFG_IF_MODE (n : Nat) : Field := ⟨TIL_RX_CFG n, 0, 1⟩
def TIL_RX_CFG_PROT_EN (n : Nat) : Field := ⟨TIL_RX_CFG n, 1, 1⟩
def TIL_RX_CFG_TAINT_ZERO (n : Nat) : Field := ⟨TIL_RX_CFG n, 2, 1⟩
def TIL_RX_CFG_CFG_ERR (n : Nat) : Field := ⟨TIL_RX_CFG n, 16, 1⟩
/-- `TIL_n_RX_LO` (03). -/
def TIL_RX_LO (n : Nat) : Nat := 0x100204 + 0x10000 * n
def TIL_RX_LO_LO_KHZ (n : Nat) : Field := ⟨TIL_RX_LO n, 0, 25⟩
def TIL_RX_LO_HIGH_SIDE (n : Nat) : Field := ⟨TIL_RX_LO n, 31, 1⟩
/-- `TIL_n_RX_FEDLY` (03). -/
def TIL_RX_FEDLY (n : Nat) : Nat := 0x100208 + 0x10000 * n
def TIL_RX_FEDLY_FE_DELAY (n : Nat) : Field := ⟨TIL_RX_FEDLY n, 0, 16⟩
/-- `TIL_n_RX_STAT` (03). -/
def TIL_RX_STAT (n : Nat) : Nat := 0x10020C + 0x10000 * n
def TIL_RX_STAT_RELEASE (n : Nat) : Field := ⟨TIL_RX_STAT n, 0, 16⟩
def TIL_RX_STAT_CF_SAT (n : Nat) : Field := ⟨TIL_RX_STAT n, 16, 1⟩
def TIL_RX_STAT_FFT_SAT (n : Nat) : Field := ⟨TIL_RX_STAT n, 17, 1⟩
def TIL_RX_STAT_WA_SAT (n : Nat) : Field := ⟨TIL_RX_STAT n, 18, 1⟩
def TIL_RX_STAT_EXT_DROP (n : Nat) : Field := ⟨TIL_RX_STAT n, 19, 1⟩
/-- `TIL_n_RX_OVL` (03). -/
def TIL_RX_OVL (n : Nat) : Nat := 0x100210 + 0x10000 * n
def TIL_RX_OVL_LIVE (n : Nat) : Field := ⟨TIL_RX_OVL n, 0, 8⟩
def TIL_RX_OVL_SEEN (n : Nat) : Field := ⟨TIL_RX_OVL n, 8, 8⟩
def TIL_RX_OVL_PROT_CAUSE (n : Nat) : Field := ⟨TIL_RX_OVL n, 16, 8⟩
/-- `TIL_n_RX_OVLCNT_LO` (03). -/
def TIL_RX_OVLCNT (n : Nat) : Nat := 0x100218 + 0x10000 * n
/-- `TIL_n_RX_TAINT_LO` (03). -/
def TIL_RX_TAINT (n : Nat) : Nat := 0x100220 + 0x10000 * n
/-- `BFM_CFG` (04). -/
def BFM_CFG : Nat := 0x200000
def BFM_CFG_PAGING : Field := ⟨BFM_CFG, 0, 1⟩
def BFM_CFG_PIN_COUNT : Field := ⟨BFM_CFG, 8, 4⟩
def BFM_CFG_CFG_ERR : Field := ⟨BFM_CFG, 16, 1⟩
/-- `BFM_BANK_STAT` (04). -/
def BFM_BANK_STAT : Nat := 0x200004
def BFM_BANK_STAT_ACTIVE : Field := ⟨BFM_BANK_STAT, 0, 1⟩
def BFM_BANK_STAT_BUSY : Field := ⟨BFM_BANK_STAT, 1, 1⟩
def BFM_BANK_STAT_LOAD_Q : Field := ⟨BFM_BANK_STAT, 2, 1⟩
def BFM_BANK_STAT_SWAP_Q : Field := ⟨BFM_BANK_STAT, 3, 1⟩
def BFM_BANK_STAT_LOADING : Field := ⟨BFM_BANK_STAT, 4, 1⟩
def BFM_BANK_STAT_BLEND : Field := ⟨BFM_BANK_STAT, 8, 4⟩
/-- `BFM_BUDGET` (04). -/
def BFM_BUDGET : Nat := 0x200008
def BFM_BUDGET_DL_LMHZ : Field := ⟨BFM_BUDGET, 0, 16⟩
def BFM_BUDGET_UL_LMHZ : Field := ⟨BFM_BUDGET, 16, 16⟩
/-- `BFM_CAP` (04). -/
def BFM_CAP : Nat := 0x20000C
def BFM_CAP_CAP_LMHZ : Field := ⟨BFM_CAP, 0, 16⟩
/-- `BFM_PEAK` (04). -/
def BFM_PEAK : Nat := 0x200010
def BFM_PEAK_PEAK_NS : Field := ⟨BFM_PEAK, 0, 16⟩
def BFM_PEAK_LIMIT_NS : Field := ⟨BFM_PEAK, 16, 16⟩
/-- `BFM_ERR` (04). -/
def BFM_ERR : Nat := 0x200014
def BFM_ERR_DL_SAT : Field := ⟨BFM_ERR, 0, 1⟩
def BFM_ERR_UL_SAT : Field := ⟨BFM_ERR, 1, 1⟩
def BFM_ERR_ID_REFUSED : Field := ⟨BFM_ERR, 2, 1⟩
def BFM_ERR_PAGE_MISS : Field := ⟨BFM_ERR, 3, 1⟩
def BFM_ERR_POOL_FULL : Field := ⟨BFM_ERR, 4, 1⟩
def BFM_ERR_FETCH_OVF : Field := ⟨BFM_ERR, 5, 1⟩
def BFM_ERR_BAD_ENTRY : Field := ⟨BFM_ERR, 6, 1⟩
def BFM_ERR_T2_BLANK : Field := ⟨BFM_ERR, 7, 1⟩
/-- `BFM_PAGE_BASE_LO` (04). -/
def BFM_PAGE_BASE : Nat := 0x200018
/-- `BFM_MISS_CNT_LO` (04). -/
def BFM_MISS_CNT : Nat := 0x200020
/-- `BFM_REMOVED_LO` (04). -/
def BFM_REMOVED : Nat := 0x200028
/-- `BFM_COV_STAT` (04). -/
def BFM_COV_STAT : Nat := 0x200030
def BFM_COV_STAT_ARMED : Field := ⟨BFM_COV_STAT, 0, 8⟩
def BFM_COV_STAT_SOLVING : Field := ⟨BFM_COV_STAT, 8, 1⟩
def BFM_COV_STAT_S_MAX : Field := ⟨BFM_COV_STAT, 16, 8⟩
/-- `ACD_CFG` (04). -/
def ACD_CFG : Nat := 0x240000
def ACD_CFG_EN : Field := ⟨ACD_CFG, 0, 1⟩
def ACD_CFG_FH_REPORT : Field := ⟨ACD_CFG, 1, 1⟩
def ACD_CFG_RING : Field := ⟨ACD_CFG, 8, 4⟩
def ACD_CFG_CFG_ERR : Field := ⟨ACD_CFG, 16, 1⟩
/-- `ACD_STAT` (04). -/
def ACD_STAT : Nat := 0x240004
def ACD_STAT_IN_PROG : Field := ⟨ACD_STAT, 0, 3⟩
def ACD_STAT_OCC_DROP : Field := ⟨ACD_STAT, 8, 1⟩
def ACD_STAT_ABORTED : Field := ⟨ACD_STAT, 9, 1⟩
def ACD_STAT_COST : Field := ⟨ACD_STAT, 16, 16⟩
/-- `ACD_DET_CNT_LO` (04). -/
def ACD_DET_CNT : Nat := 0x240008
/-- `ACD_DET_CNT_LO` (04). -/
def ACD_OCC_CNT : Nat := 0x240010
/-- `FTH_CFG` (06). -/
def FTH_CFG : Nat := 0x280000
def FTH_CFG_EN_EAST : Field := ⟨FTH_CFG, 0, 1⟩
def FTH_CFG_EN_WEST : Field := ⟨FTH_CFG, 1, 1⟩
def FTH_CFG_DU_PORT : Field := ⟨FTH_CFG, 2, 1⟩
def FTH_CFG_WA_SPLIT : Field := ⟨FTH_CFG, 3, 1⟩
def FTH_CFG_CP_EARLY : Field := ⟨FTH_CFG, 8, 4⟩
def FTH_CFG_MAX_FRAME : Field := ⟨FTH_CFG, 16, 14⟩
def FTH_CFG_CFG_ERR : Field := ⟨FTH_CFG, 31, 1⟩
/-- `FTH_EAXC_CFG` (06). -/
def FTH_EAXC_CFG : Nat := 0x280004
def FTH_EAXC_CFG_DU_BITS : Field := ⟨FTH_EAXC_CFG, 0, 4⟩
def FTH_EAXC_CFG_BS_BITS : Field := ⟨FTH_EAXC_CFG, 4, 4⟩
def FTH_EAXC_CFG_CC_BITS : Field := ⟨FTH_EAXC_CFG, 8, 4⟩
def FTH_EAXC_CFG_RU_BITS : Field := ⟨FTH_EAXC_CFG, 12, 4⟩
def FTH_EAXC_CFG_BS_ID : Field := ⟨FTH_EAXC_CFG, 16, 8⟩
/-- `FTH_VLAN` (06). -/
def FTH_VLAN : Nat := 0x280008
def FTH_VLAN_VID : Field := ⟨FTH_VLAN, 0, 12⟩
def FTH_VLAN_PCP_U : Field := ⟨FTH_VLAN, 12, 3⟩
def FTH_VLAN_PCP_R : Field := ⟨FTH_VLAN, 16, 3⟩
/-- `FTH_MAC_EAST_LO` (06). -/
def FTH_MAC_EAST : Nat := 0x280010
/-- `FTH_MAC_EAST_LO` (06). -/
def FTH_MAC_WEST : Nat := 0x280018
/-- `FTH_MAC_EAST_LO` (06). -/
def FTH_DU_MAC : Nat := 0x280020
/-- `FTH_ERR` (06). -/
def FTH_ERR : Nat := 0x280030
def FTH_ERR_LATE : Field := ⟨FTH_ERR, 0, 1⟩
def FTH_ERR_EARLY : Field := ⟨FTH_ERR, 1, 1⟩
def FTH_ERR_ORPHAN : Field := ⟨FTH_ERR, 2, 1⟩
def FTH_ERR_MISSING_U : Field := ⟨FTH_ERR, 3, 1⟩
def FTH_ERR_PSUM_LATE : Field := ⟨FTH_ERR, 4, 1⟩
def FTH_ERR_PSUM_SAT : Field := ⟨FTH_ERR, 5, 1⟩
def FTH_ERR_SUM_SAT : Field := ⟨FTH_ERR, 6, 1⟩
def FTH_ERR_PARTIAL_SET : Field := ⟨FTH_ERR, 7, 1⟩
def FTH_ERR_UNSUPPORTED : Field := ⟨FTH_ERR, 8, 1⟩
def FTH_ERR_MACSEC_DROP : Field := ⟨FTH_ERR, 9, 1⟩
def FTH_ERR_QUEUE_DROP : Field := ⟨FTH_ERR, 10, 1⟩
/-- `FTH_MSEC_CTL_k` (06). -/
def FTH_MSEC_CTL (k : Nat) : Nat := 0x280040 + 0x4 * k
def FTH_MSEC_CTL_MODE (k : Nat) : Field := ⟨FTH_MSEC_CTL k, 0, 2⟩
def FTH_MSEC_CTL_CONF (k : Nat) : Field := ⟨FTH_MSEC_CTL k, 2, 1⟩
def FTH_MSEC_CTL_KS_PRIO (k : Nat) : Field := ⟨FTH_MSEC_CTL k, 8, 8⟩
def FTH_MSEC_CTL_REPLAY_WIN (k : Nat) : Field := ⟨FTH_MSEC_CTL k, 16, 16⟩
/-- `FTH_MSEC_STAT_k` (06). -/
def FTH_MSEC_STAT (k : Nat) : Nat := 0x280048 + 0x4 * k
def FTH_MSEC_STAT_MKA_UP (k : Nat) : Field := ⟨FTH_MSEC_STAT k, 0, 1⟩
def FTH_MSEC_STAT_SECURED (k : Nat) : Field := ⟨FTH_MSEC_STAT k, 1, 1⟩
def FTH_MSEC_STAT_TX_AN (k : Nat) : Field := ⟨FTH_MSEC_STAT k, 2, 2⟩
def FTH_MSEC_STAT_REKEY (k : Nat) : Field := ⟨FTH_MSEC_STAT k, 4, 1⟩
def FTH_MSEC_STAT_PEER_LOST (k : Nat) : Field := ⟨FTH_MSEC_STAT k, 5, 1⟩
def FTH_MSEC_STAT_SAK_COUNT (k : Nat) : Field := ⟨FTH_MSEC_STAT k, 16, 16⟩
/-- `FTH_SET_STATE_LO` (06). -/
def FTH_SET_STATE : Nat := 0x280060
/-- `FTH_CNT_r_LO` (06). -/
def FTH_CNT (r : Nat) : Nat := 0x280100 + 0x8 * r
/-- `LIN_n_CTL` (07). -/
def LIN_CTL (n : Nat) : Nat := 0x300000 + 0x400 * n
def LIN_CTL_ENABLE (n : Nat) : Field := ⟨LIN_CTL n, 0, 1⟩
def LIN_CTL_TX_PRESET (n : Nat) : Field := ⟨LIN_CTL n, 1, 2⟩
def LIN_CTL_FREEZE_EN (n : Nat) : Field := ⟨LIN_CTL n, 3, 1⟩
def LIN_CTL_SWING (n : Nat) : Field := ⟨LIN_CTL n, 4, 4⟩
def LIN_CTL_HIST_REQ (n : Nat) : Field := ⟨LIN_CTL n, 8, 1⟩
/-- `LIN_n_STAT` (07). -/
def LIN_STAT (n : Nat) : Nat := 0x300004 + 0x400 * n
def LIN_STAT_STATE (n : Nat) : Field := ⟨LIN_STAT n, 0, 3⟩
def LIN_STAT_ONE_SIDED (n : Nat) : Field := ⟨LIN_STAT n, 3, 1⟩
def LIN_STAT_FROZEN (n : Nat) : Field := ⟨LIN_STAT n, 4, 1⟩
def LIN_STAT_LOS (n : Nat) : Field := ⟨LIN_STAT n, 5, 1⟩
def LIN_STAT_HIST_DONE (n : Nat) : Field := ⟨LIN_STAT n, 6, 1⟩
def LIN_STAT_TEST (n : Nat) : Field := ⟨LIN_STAT n, 7, 1⟩
def LIN_STAT_BACKOFF (n : Nat) : Field := ⟨LIN_STAT n, 8, 7⟩
def LIN_STAT_LANE_ID (n : Nat) : Field := ⟨LIN_STAT n, 16, 2⟩
/-- `LIN_n_TXFFE` (07). -/
def LIN_TXFFE (n : Nat) : Nat := 0x300008 + 0x400 * n
def LIN_TXFFE_PRE2 (n : Nat) : Field := ⟨LIN_TXFFE n, 0, 5⟩
def LIN_TXFFE_PRE1 (n : Nat) : Field := ⟨LIN_TXFFE n, 5, 6⟩
def LIN_TXFFE_MAIN (n : Nat) : Field := ⟨LIN_TXFFE n, 11, 7⟩
def LIN_TXFFE_POST1 (n : Nat) : Field := ⟨LIN_TXFFE n, 18, 6⟩
def LIN_TXFFE_POST2 (n : Nat) : Field := ⟨LIN_TXFFE n, 24, 5⟩
/-- `LIN_n_TXLVL` (07). -/
def LIN_TXLVL (n : Nat) : Nat := 0x30000C + 0x400 * n
def LIN_TXLVL_LVL_LO (n : Nat) : Field := ⟨LIN_TXLVL n, 0, 7⟩
def LIN_TXLVL_LVL_HI (n : Nat) : Field := ⟨LIN_TXLVL n, 8, 7⟩
/-- `LIN_n_RXEQ` (07). -/
def LIN_RXEQ (n : Nat) : Nat := 0x300010 + 0x400 * n
def LIN_RXEQ_CURSOR (n : Nat) : Field := ⟨LIN_RXEQ n, 0, 4⟩
def LIN_RXEQ_MU_EXP (n : Nat) : Field := ⟨LIN_RXEQ n, 4, 4⟩
/-- `LIN_n_MON` (07). -/
def LIN_MON (n : Nat) : Nat := 0x300014 + 0x400 * n
def LIN_MON_SNR (n : Nat) : Field := ⟨LIN_MON n, 0, 16⟩
def LIN_MON_ITER (n : Nat) : Field := ⟨LIN_MON n, 16, 8⟩
/-- `LIN_n_OCC` (07). -/
def LIN_OCC (n : Nat) : Nat := 0x300018 + 0x400 * n
def LIN_OCC_SHARE (n j : Nat) : Field := ⟨LIN_OCC n, 8 * j, 8⟩
/-- `LIN_n_RXLAT` (07). -/
def LIN_RXLAT (n : Nat) : Nat := 0x30001C + 0x400 * n
def LIN_RXLAT_RX_LAT (n : Nat) : Field := ⟨LIN_RXLAT n, 0, 16⟩
/-- `LIN_n_CNT_r_LO` (07). -/
def LIN_CNT (n r : Nat) : Nat := 0x300040 + 0x400 * n + 0x8 * r
/-- `LIN_n_HIST_b` (07). -/
def LIN_HIST (n b : Nat) : Nat := 0x300100 + 0x400 * n + 0x4 * b
def LIN_HIST_COUNT (n b : Nat) : Field := ⟨LIN_HIST n b, 0, 32⟩
/-- `LIN_PORT_CFG_k` (07). -/
def LIN_PORT_CFG (k : Nat) : Nat := 0x304000 + 0x4 * k
def LIN_PORT_CFG_MODE (k : Nat) : Field := ⟨LIN_PORT_CFG k, 0, 3⟩
def LIN_PORT_CFG_TRAIN_EN (k : Nat) : Field := ⟨LIN_PORT_CFG k, 3, 1⟩
def LIN_PORT_CFG_TX_POL (k : Nat) : Field := ⟨LIN_PORT_CFG k, 8, 4⟩
def LIN_PORT_CFG_RX_POL (k : Nat) : Field := ⟨LIN_PORT_CFG k, 12, 4⟩
def LIN_PORT_CFG_CFG_ERR (k : Nat) : Field := ⟨LIN_PORT_CFG k, 16, 1⟩
/-- `LIN_PORT_STAT_k` (07). -/
def LIN_PORT_STAT (k : Nat) : Nat := 0x304010 + 0x4 * k
def LIN_PORT_STAT_PORT_UP (k : Nat) : Field := ⟨LIN_PORT_STAT k, 0, 1⟩
def LIN_PORT_STAT_SKEW_ERR (k : Nat) : Field := ⟨LIN_PORT_STAT k, 1, 1⟩
def LIN_PORT_STAT_FEC_DEGRADE (k : Nat) : Field := ⟨LIN_PORT_STAT k, 2, 1⟩
def LIN_PORT_STAT_DESKEW (k : Nat) : Field := ⟨LIN_PORT_STAT k, 8, 8⟩
def LIN_PORT_STAT_LANES_UP (k : Nat) : Field := ⟨LIN_PORT_STAT k, 16, 4⟩
/-- `LIN_PORT_CNT_k_r_LO` (07). -/
def LIN_PORT_CNT (k r : Nat) : Nat := 0x304100 + 0x80 * k + 0x8 * r
/-- `CUL_CFG` (08). -/
def CUL_CFG : Nat := 0x340000
def CUL_CFG_MEMBERS_M1 : Field := ⟨CUL_CFG, 0, 3⟩
def CUL_CFG_EN_PREV : Field := ⟨CUL_CFG, 3, 1⟩
def CUL_CFG_EN_NEXT : Field := ⟨CUL_CFG, 4, 1⟩
def CUL_CFG_LANES : Field := ⟨CUL_CFG, 5, 3⟩
def CUL_CFG_TX_PRESET : Field := ⟨CUL_CFG, 8, 2⟩
def CUL_CFG_AUTO_SLEEP : Field := ⟨CUL_CFG, 10, 1⟩
def CUL_CFG_SPARE : Field := ⟨CUL_CFG, 11, 2⟩
def CUL_CFG_POSITION : Field := ⟨CUL_CFG, 13, 3⟩
def CUL_CFG_LEAD : Field := ⟨CUL_CFG, 16, 1⟩
def CUL_CFG_TUNNELLED : Field := ⟨CUL_CFG, 17, 1⟩
def CUL_CFG_CFG_ERR : Field := ⟨CUL_CFG, 18, 1⟩
/-- `CUL_LINK_STAT_k` (08). -/
def CUL_LINK_STAT (k : Nat) : Nat := 0x340010 + 0x4 * k
def CUL_LINK_STAT_STATE (k : Nat) : Field := ⟨CUL_LINK_STAT k, 0, 2⟩
def CUL_LINK_STAT_TX_ACTIVE (k : Nat) : Field := ⟨CUL_LINK_STAT k, 2, 6⟩
def CUL_LINK_STAT_RX_ACTIVE (k : Nat) : Field := ⟨CUL_LINK_STAT k, 8, 6⟩
def CUL_LINK_STAT_TX_AWAKE (k : Nat) : Field := ⟨CUL_LINK_STAT k, 14, 6⟩
def CUL_LINK_STAT_PEER_ID_LO (k : Nat) : Field := ⟨CUL_LINK_STAT k, 20, 12⟩
/-- `CUL_LINK_CNT_k_r_LO` (08). -/
def CUL_LINK_CNT (k r : Nat) : Nat := 0x340100 + 0x40 * k + 0x8 * r
/-- `CUL_LANE_n_STAT` (08). -/
def CUL_LANE_STAT (n : Nat) : Nat := 0x341000 + 0x40 * n
def CUL_LANE_STAT_RX (n : Nat) : Field := ⟨CUL_LANE_STAT n, 0, 2⟩
def CUL_LANE_STAT_RX_INV (n : Nat) : Field := ⟨CUL_LANE_STAT n, 2, 1⟩
def CUL_LANE_STAT_TX_ASLEEP (n : Nat) : Field := ⟨CUL_LANE_STAT n, 3, 1⟩
def CUL_LANE_STAT_RX_ASLEEP (n : Nat) : Field := ⟨CUL_LANE_STAT n, 4, 1⟩
def CUL_LANE_STAT_RX_LANE (n : Nat) : Field := ⟨CUL_LANE_STAT n, 5, 3⟩
/-- `CUL_LANE_n_CNT_r_LO` (08). -/
def CUL_LANE_CNT (n r : Nat) : Nat := 0x341010 + 0x40 * n + 0x8 * r
/-- `LVE_STAT` (05). -/
def LVE_STAT : Nat := 0x380000
def LVE_STAT_PROGRAMMED : Field := ⟨LVE_STAT, 0, 1⟩
def LVE_STAT_TX_ALLOWED : Field := ⟨LVE_STAT, 1, 1⟩
def LVE_STAT_NO_CERT : Field := ⟨LVE_STAT, 2, 1⟩
def LVE_STAT_CHECK_FAIL : Field := ⟨LVE_STAT, 3, 1⟩
def LVE_STAT_PENDING : Field := ⟨LVE_STAT, 4, 1⟩
def LVE_STAT_VERSION : Field := ⟨LVE_STAT, 8, 9⟩
def LVE_STAT_MUTE_EVT : Field := ⟨LVE_STAT, 17, 1⟩
def LVE_STAT_BLANK_EVT : Field := ⟨LVE_STAT, 18, 1⟩
def LVE_STAT_OBS_FAIL : Field := ⟨LVE_STAT, 24, 8⟩
/-- `LVE_MUTE_LO` (05). -/
def LVE_MUTE : Nat := 0x380008
/-- `LVE_BLANK_CNT_LO` (05). -/
def LVE_BLANK_CNT : Nat := 0x380010
/-- `LVE_FUSE_k` (05). -/
def LVE_FUSE (k : Nat) : Nat := 0x380100 + 0x4 * k
def LVE_FUSE_WORD (k : Nat) : Field := ⟨LVE_FUSE k, 0, 32⟩
/-- `LVE_INFORCE_k` (05). -/
def LVE_INFORCE (k : Nat) : Nat := 0x380200 + 0x4 * k
def LVE_INFORCE_WORD (k : Nat) : Field := ⟨LVE_INFORCE k, 0, 32⟩
/-- `RCT_TILE_n_STATE` (05). -/
def RCT_TILE_STATE (n : Nat) : Nat := 0x390000 + 0x100 * n
def RCT_TILE_STATE_STATE (n : Nat) : Field := ⟨RCT_TILE_STATE n, 0, 3⟩
def RCT_TILE_STATE_LATCHED (n : Nat) : Field := ⟨RCT_TILE_STATE n, 3, 1⟩
def RCT_TILE_STATE_CAUSE_OVL (n : Nat) : Field := ⟨RCT_TILE_STATE n, 8, 1⟩
def RCT_TILE_STATE_CAUSE_BIAS (n : Nat) : Field := ⟨RCT_TILE_STATE n, 9, 1⟩
def RCT_TILE_STATE_CAUSE_HOST (n : Nat) : Field := ⟨RCT_TILE_STATE n, 10, 1⟩
def RCT_TILE_STATE_GUARDED (n : Nat) : Field := ⟨RCT_TILE_STATE n, 16, 8⟩
/-- `RCT_TILE_n_TIMING` (05). -/
def RCT_TILE_TIMING (n : Nat) : Nat := 0x390004 + 0x100 * n
def RCT_TILE_TIMING_T_SW (n : Nat) : Field := ⟨RCT_TILE_TIMING n, 0, 8⟩
def RCT_TILE_TIMING_T_PA (n : Nat) : Field := ⟨RCT_TILE_TIMING n, 8, 8⟩
def RCT_TILE_TIMING_T_PAOFF (n : Nat) : Field := ⟨RCT_TILE_TIMING n, 16, 8⟩
def RCT_TILE_TIMING_UD_GAP (n : Nat) : Field := ⟨RCT_TILE_TIMING n, 24, 8⟩
/-- `RCT_TILE_n_CFG` (05). -/
def RCT_TILE_CFG (n : Nat) : Nat := 0x390008 + 0x100 * n
def RCT_TILE_CFG_PATTERN (n : Nat) : Field := ⟨RCT_TILE_CFG n, 0, 2⟩
def RCT_TILE_CFG_PROT_HOLD (n : Nat) : Field := ⟨RCT_TILE_CFG n, 8, 8⟩
def RCT_TILE_CFG_CFG_ERR (n : Nat) : Field := ⟨RCT_TILE_CFG n, 16, 1⟩
def RCT_TILE_CFG_SCLK_DIV (n : Nat) : Field := ⟨RCT_TILE_CFG n, 20, 4⟩
/-- `RCT_TILE_n_TUNE` (05). -/
def RCT_TILE_TUNE (n : Nat) : Nat := 0x39000C + 0x100 * n
def RCT_TILE_TUNE_USID0 (n : Nat) : Field := ⟨RCT_TILE_TUNE n, 0, 4⟩
def RCT_TILE_TUNE_TUNE_EN (n : Nat) : Field := ⟨RCT_TILE_TUNE n, 4, 1⟩
def RCT_TILE_TUNE_REG_A (n : Nat) : Field := ⟨RCT_TILE_TUNE n, 8, 8⟩
def RCT_TILE_TUNE_REG_B (n : Nat) : Field := ⟨RCT_TILE_TUNE n, 16, 8⟩
/-- `RCT_COEX_CFG_k` (05). -/
def RCT_COEX_CFG (k : Nat) : Nat := 0x391000 + 0x4 * k
def RCT_COEX_CFG_EN (k : Nat) : Field := ⟨RCT_COEX_CFG k, 0, 1⟩
def RCT_COEX_CFG_ROLE (k : Nat) : Field := ⟨RCT_COEX_CFG k, 1, 1⟩
def RCT_COEX_CFG_YIELD (k : Nat) : Field := ⟨RCT_COEX_CFG k, 2, 1⟩
def RCT_COEX_CFG_TILE_MASK (k : Nat) : Field := ⟨RCT_COEX_CFG k, 8, 8⟩
def RCT_COEX_CFG_LEAD (k : Nat) : Field := ⟨RCT_COEX_CFG k, 16, 8⟩
def RCT_COEX_CFG_GUARD (k : Nat) : Field := ⟨RCT_COEX_CFG k, 24, 8⟩
/-- `RCT_AER_CFG` (05). -/
def RCT_AER_CFG : Nat := 0x391010
def RCT_AER_CFG_RL_WARN : Field := ⟨RCT_AER_CFG, 0, 8⟩
def RCT_AER_CFG_RL_GUARD : Field := ⟨RCT_AER_CFG, 8, 8⟩
def RCT_AER_CFG_RL_TARGET : Field := ⟨RCT_AER_CFG, 16, 8⟩
def RCT_AER_CFG_PROBE_ATT : Field := ⟨RCT_AER_CFG, 24, 8⟩
/-- `HKA_CFG` (16). -/
def HKA_CFG : Nat := 0x3A0000
def HKA_CFG_EN : Field := ⟨HKA_CFG, 0, 1⟩
def HKA_CFG_MAINS_MODE : Field := ⟨HKA_CFG, 1, 2⟩
def HKA_CFG_FALLBACK : Field := ⟨HKA_CFG, 3, 1⟩
def HKA_CFG_REG_LEN_M1 : Field := ⟨HKA_CFG, 4, 6⟩
def HKA_CFG_INJ_LEN_M1 : Field := ⟨HKA_CFG, 10, 3⟩
def HKA_CFG_CONT : Field := ⟨HKA_CFG, 13, 1⟩
def HKA_CFG_REG_SRC : Field := ⟨HKA_CFG, 14, 2⟩
def HKA_CFG_INJ_SRC : Field := ⟨HKA_CFG, 16, 2⟩
def HKA_CFG_STREAM : Field := ⟨HKA_CFG, 18, 1⟩
def HKA_CFG_START : Field := ⟨HKA_CFG, 19, 1⟩
def HKA_CFG_SWEEP : Field := ⟨HKA_CFG, 20, 8⟩
def HKA_CFG_CFG_ERR : Field := ⟨HKA_CFG, 28, 1⟩
/-- `HKA_MAINS` (16). -/
def HKA_MAINS : Nat := 0x3A0004
def HKA_MAINS_T_M : Field := ⟨HKA_MAINS, 0, 18⟩
def HKA_MAINS_LOCKED : Field := ⟨HKA_MAINS, 18, 1⟩
def HKA_MAINS_LOST : Field := ⟨HKA_MAINS, 19, 1⟩
/-- `HKA_TRIG_k` (16). -/
def HKA_TRIG (k : Nat) : Nat := 0x3A0008 + 0x4 * k
def HKA_TRIG_PERIOD (k : Nat) : Field := ⟨HKA_TRIG k, 0, 24⟩
def HKA_TRIG_EVENT (k : Nat) : Field := ⟨HKA_TRIG k, 24, 3⟩
def HKA_TRIG_TILE (k : Nat) : Field := ⟨HKA_TRIG k, 27, 3⟩
/-- `HKA_DELAY_k` (16). -/
def HKA_DELAY (k : Nat) : Nat := 0x3A0010 + 0x4 * k
def HKA_DELAY_DELAY (k : Nat) : Field := ⟨HKA_DELAY k, 0, 14⟩
/-- `HKA_STAT` (16). -/
def HKA_STAT : Nat := 0x3A0018
def HKA_STAT_CLASS : Field := ⟨HKA_STAT, 0, 2⟩
def HKA_STAT_INJ_HELD : Field := ⟨HKA_STAT, 2, 1⟩
def HKA_STAT_REG_OVR : Field := ⟨HKA_STAT, 3, 1⟩
def HKA_STAT_INJ_MISS : Field := ⟨HKA_STAT, 4, 1⟩
def HKA_STAT_OVR : Field := ⟨HKA_STAT, 5, 1⟩
def HKA_STAT_STARVED : Field := ⟨HKA_STAT, 6, 1⟩
def HKA_STAT_PASSES : Field := ⟨HKA_STAT, 16, 16⟩
/-- `HKA_REG_e` (16). -/
def HKA_REG (e : Nat) : Nat := 0x3A0100 + 0x4 * e
def HKA_REG_CH (e : Nat) : Field := ⟨HKA_REG e, 0, 8⟩
def HKA_REG_PRESET (e : Nat) : Field := ⟨HKA_REG e, 8, 2⟩
def HKA_REG_FILTER (e : Nat) : Field := ⟨HKA_REG e, 10, 3⟩
/-- `HKA_REG_e` (16). -/
def HKA_INJ (e : Nat) : Nat := 0x3A0200 + 0x4 * e
def HKA_INJ_CH (e : Nat) : Field := ⟨HKA_INJ e, 0, 8⟩
def HKA_INJ_PRESET (e : Nat) : Field := ⟨HKA_INJ e, 8, 2⟩
def HKA_INJ_FILTER (e : Nat) : Field := ⟨HKA_INJ e, 10, 3⟩
/-- `HKA_RES_e` (16). -/
def HKA_RES (e : Nat) : Nat := 0x3A0300 + 0x4 * e
def HKA_RES_CODE (e : Nat) : Field := ⟨HKA_RES e, 0, 24⟩
def HKA_RES_NEW (e : Nat) : Field := ⟨HKA_RES e, 24, 1⟩
def HKA_RES_OVR (e : Nat) : Field := ⟨HKA_RES e, 25, 1⟩
def HKA_RES_SUSPECT (e : Nat) : Field := ⟨HKA_RES e, 26, 1⟩
def HKA_RES_UNTRACKED (e : Nat) : Field := ⟨HKA_RES e, 27, 1⟩
def HKA_RES_RESTARTED (e : Nat) : Field := ⟨HKA_RES e, 28, 1⟩
def HKA_RES_STARVED (e : Nat) : Field := ⟨HKA_RES e, 29, 1⟩
/-- `HKA_RES_e` (16). -/
def HKA_IRES (e : Nat) : Nat := 0x3A0400 + 0x4 * e
def HKA_IRES_CODE (e : Nat) : Field := ⟨HKA_IRES e, 0, 24⟩
def HKA_IRES_NEW (e : Nat) : Field := ⟨HKA_IRES e, 24, 1⟩
def HKA_IRES_OVR (e : Nat) : Field := ⟨HKA_IRES e, 25, 1⟩
def HKA_IRES_SUSPECT (e : Nat) : Field := ⟨HKA_IRES e, 26, 1⟩
def HKA_IRES_UNTRACKED (e : Nat) : Field := ⟨HKA_IRES e, 27, 1⟩
def HKA_IRES_RESTARTED (e : Nat) : Field := ⟨HKA_IRES e, 28, 1⟩
def HKA_IRES_STARVED (e : Nat) : Field := ⟨HKA_IRES e, 29, 1⟩
/-- `GAU_STAT` (17). -/
def GAU_STAT : Nat := 0x3C0000
def GAU_STAT_ARMED : Field := ⟨GAU_STAT, 0, 8⟩
def GAU_STAT_TRIGGERED : Field := ⟨GAU_STAT, 8, 8⟩
def GAU_STAT_MISSED_EVT : Field := ⟨GAU_STAT, 16, 1⟩
def GAU_STAT_CUT_EVT : Field := ⟨GAU_STAT, 17, 1⟩
/-- `GAU_REC_NEXT` (17). -/
def GAU_REC_NEXT : Nat := 0x3C0004
def GAU_REC_NEXT_REC_NUM : Field := ⟨GAU_REC_NEXT, 0, 32⟩
/-- `GAU_PIN` (17). -/
def GAU_PIN : Nat := 0x3C0008
def GAU_PIN_EN : Field := ⟨GAU_PIN, 0, 1⟩
def GAU_PIN_EDGE : Field := ⟨GAU_PIN, 1, 1⟩
def GAU_PIN_PIN_DLY : Field := ⟨GAU_PIN, 16, 16⟩
/-- `GAU_s_STAT` (17). -/
def GAU_S_STAT (s : Nat) : Nat := 0x3C0100 + 0x10 * s
def GAU_S_STAT_STATE (s : Nat) : Field := ⟨GAU_S_STAT s, 0, 3⟩
def GAU_S_STAT_SEGMENT (s : Nat) : Field := ⟨GAU_S_STAT s, 4, 4⟩
def GAU_S_STAT_HELDOFF (s : Nat) : Field := ⟨GAU_S_STAT s, 16, 16⟩
/-- `GAU_s_MISSED_LO` (17). -/
def GAU_S_MISSED (s : Nat) : Nat := 0x3C0108 + 0x10 * s
/-- `THM_STAT` (15). -/
def THM_STAT : Nat := 0x3E0000
def THM_STAT_LEVEL : Field := ⟨THM_STAT, 0, 3⟩
def THM_STAT_TRIP_LATCHED : Field := ⟨THM_STAT, 3, 1⟩
def THM_STAT_HOT_TILE : Field := ⟨THM_STAT, 8, 3⟩
def THM_STAT_MAX_T : Field := ⟨THM_STAT, 16, 16⟩
/-- `THM_LIMITS` (15). -/
def THM_LIMITS : Nat := 0x3E0004
def THM_LIMITS_T1_C : Field := ⟨THM_LIMITS, 0, 8⟩
def THM_LIMITS_T2_C : Field := ⟨THM_LIMITS, 8, 8⟩
def THM_LIMITS_T3_C : Field := ⟨THM_LIMITS, 16, 8⟩
def THM_LIMITS_HYST : Field := ⟨THM_LIMITS, 24, 4⟩
def THM_LIMITS_CFG_ERR : Field := ⟨THM_LIMITS, 28, 1⟩
/-- `THM_WINDOW` (15). -/
def THM_WINDOW : Nat := 0x3E0008
def THM_WINDOW_FUSE_OPEN : Field := ⟨THM_WINDOW, 0, 1⟩
def THM_WINDOW_FLASH_OPEN : Field := ⟨THM_WINDOW, 1, 1⟩
def THM_WINDOW_HELD : Field := ⟨THM_WINDOW, 8, 9⟩
def THM_WINDOW_HELD_LOST : Field := ⟨THM_WINDOW, 17, 1⟩
/-- `THM_SENSOR_k` (15). -/
def THM_SENSOR (k : Nat) : Nat := 0x3E0100 + 0x4 * k
def THM_SENSOR_TEMP (k : Nat) : Field := ⟨THM_SENSOR k, 0, 16⟩
def THM_SENSOR_VALID (k : Nat) : Field := ⟨THM_SENSOR k, 16, 1⟩
/-- `FLT_STAT` (18). -/
def FLT_STAT : Nat := 0x3E1000
def FLT_STAT_REGION_OK : Field := ⟨FLT_STAT, 0, 1⟩
def FLT_STAT_LOG_STOPPED : Field := ⟨FLT_STAT, 1, 1⟩
def FLT_STAT_TEL_ON : Field := ⟨FLT_STAT, 2, 1⟩
def FLT_STAT_HOT_MEM : Field := ⟨FLT_STAT, 3, 1⟩
def FLT_STAT_LINK_DEGRADED : Field := ⟨FLT_STAT, 4, 1⟩
def FLT_STAT_REMOVED : Field := ⟨FLT_STAT, 8, 7⟩
/-- `FLT_DUMP_STAT` (18). -/
def FLT_DUMP_STAT : Nat := 0x3E1004
def FLT_DUMP_STAT_DUMP_DONE : Field := ⟨FLT_DUMP_STAT, 0, 1⟩
def FLT_DUMP_STAT_DEST : Field := ⟨FLT_DUMP_STAT, 1, 1⟩
def FLT_DUMP_STAT_UNSIGNED : Field := ⟨FLT_DUMP_STAT, 2, 1⟩
def FLT_DUMP_STAT_DUMP_LOST : Field := ⟨FLT_DUMP_STAT, 3, 1⟩
def FLT_DUMP_STAT_FLASH_PENDING : Field := ⟨FLT_DUMP_STAT, 4, 1⟩
def FLT_DUMP_STAT_CAUSE : Field := ⟨FLT_DUMP_STAT, 8, 8⟩
def FLT_DUMP_STAT_SEQ : Field := ⟨FLT_DUMP_STAT, 16, 16⟩
/-- `FLT_LOG_WEAR` (18). -/
def FLT_LOG_WEAR : Nat := 0x3E1008
def FLT_LOG_WEAR_MAX_ERASE : Field := ⟨FLT_LOG_WEAR, 0, 17⟩
/-- `FLT_TRANS_c_LO` (18). -/
def FLT_TRANS (c : Nat) : Nat := 0x3E1100 + 0x8 * c
/-- `ENG_n_STAT` (10). -/
def ENG_STAT (n : Nat) : Nat := 0x400000 + 0x10000 * n
def ENG_STAT_STATE (n : Nat) : Field := ⟨ENG_STAT n, 0, 3⟩
def ENG_STAT_MODE (n : Nat) : Field := ⟨ENG_STAT n, 3, 1⟩
def ENG_STAT_KLOADED (n : Nat) : Field := ⟨ENG_STAT n, 4, 1⟩
def ENG_STAT_KRUN (n : Nat) : Field := ⟨ENG_STAT n, 5, 1⟩
def ENG_STAT_ACC_SAT (n : Nat) : Field := ⟨ENG_STAT n, 6, 1⟩
def ENG_STAT_ST_SAT (n : Nat) : Field := ⟨ENG_STAT n, 7, 1⟩
def ENG_STAT_RESTARTS (n : Nat) : Field := ⟨ENG_STAT n, 8, 8⟩
def ENG_STAT_IMG_VER (n : Nat) : Field := ⟨ENG_STAT n, 16, 16⟩
/-- `ENG_n_FAULT` (10). -/
def ENG_FAULT (n : Nat) : Nat := 0x400004 + 0x10000 * n
def ENG_FAULT_CAUSE (n : Nat) : Field := ⟨ENG_FAULT n, 0, 3⟩
def ENG_FAULT_IN_KERNEL (n : Nat) : Field := ⟨ENG_FAULT n, 3, 1⟩
def ENG_FAULT_FAULT (n : Nat) : Field := ⟨ENG_FAULT n, 4, 1⟩
def ENG_FAULT_KFAULT (n : Nat) : Field := ⟨ENG_FAULT n, 5, 1⟩
def ENG_FAULT_KSKIP (n : Nat) : Field := ⟨ENG_FAULT n, 16, 16⟩
/-- `ENG_n_FAULT_PC` (10). -/
def ENG_FAULT_PC (n : Nat) : Nat := 0x400008 + 0x10000 * n
def ENG_FAULT_PC_PC (n : Nat) : Field := ⟨ENG_FAULT_PC n, 0, 15⟩
def ENG_FAULT_PC_SLOT_Q (n : Nat) : Field := ⟨ENG_FAULT_PC n, 15, 1⟩
def ENG_FAULT_PC_ADDR_HI (n : Nat) : Field := ⟨ENG_FAULT_PC n, 16, 16⟩
/-- `ENG_n_CYC_LO` (10). -/
def ENG_CYC (n : Nat) : Nat := 0x400010 + 0x10000 * n
/-- `ENG_n_CYC_LO` (10). -/
def ENG_STALL (n : Nat) : Nat := 0x400018 + 0x10000 * n
/-- `ENG_n_LOAD` (10). -/
def ENG_LOAD (n : Nat) : Nat := 0x400020 + 0x10000 * n
def ENG_LOAD_FG (n : Nat) : Field := ⟨ENG_LOAD n, 0, 8⟩
def ENG_LOAD_BG (n : Nat) : Field := ⟨ENG_LOAD n, 8, 8⟩
def ENG_LOAD_KERNEL (n : Nat) : Field := ⟨ENG_LOAD n, 16, 8⟩
def ENG_LOAD_IDLE (n : Nat) : Field := ⟨ENG_LOAD n, 24, 8⟩
/-- `ENG_n_KPROG and ENG_n_KDATA` (10). -/
def ENG_KPROG (n : Nat) : Nat := 0x400028 + 0x10000 * n
def ENG_KPROG_BASE (n : Nat) : Field := ⟨ENG_KPROG n, 0, 6⟩
def ENG_KPROG_PAGES (n : Nat) : Field := ⟨ENG_KPROG n, 8, 6⟩
def ENG_KPROG_KVER (n : Nat) : Field := ⟨ENG_KPROG n, 16, 16⟩
/-- `ENG_n_KPROG and ENG_n_KDATA` (10). -/
def ENG_KDATA (n : Nat) : Nat := 0x40002C + 0x10000 * n
def ENG_KDATA_BASE (n : Nat) : Field := ⟨ENG_KDATA n, 0, 6⟩
def ENG_KDATA_PAGES (n : Nat) : Field := ⟨ENG_KDATA n, 8, 6⟩
def ENG_KDATA_KVER (n : Nat) : Field := ⟨ENG_KDATA n, 16, 16⟩

end Reg

/-- The registers of the block `DEV` as a write meets them. -/
def regsDev : List RegDesc :=
  [⟨0x000000, 1, 0x0, 1, 0x0, 0, 1, []⟩,
   ⟨0x000010, 1, 0x0, 1, 0x0, 0, 1, [⟨0, 1, .w1s, 0, 1⟩, ⟨8, 8, .wo, 0, 255⟩]⟩,
   ⟨0x000014, 1, 0x0, 1, 0x0, 0, 1, [⟨0, 1, .w1c, 0, 1⟩, ⟨1, 1, .w1c, 0, 1⟩]⟩,
   ⟨0x000020, 4, 0x4, 1, 0x0, 0, 1, [⟨0, 32, .rws, 0, 4294967295⟩]⟩,
   ⟨0x000100, 1, 0x0, 1, 0x0, 0, 1, [⟨0, 3, .rwl, 0, 4⟩]⟩,
   ⟨0x000104, 1, 0x0, 1, 0x0, 0, 1, [⟨16, 1, .w1c, 0, 1⟩, ⟨17, 1, .w1c, 0, 1⟩, ⟨31, 1, .wo, 0, 1⟩]⟩,
   ⟨0x000108, 1, 0x0, 1, 0x0, 0, 2, []⟩,
   ⟨0x00010C, 1, 0x0, 1, 0x0, 1, 2, []⟩,
   ⟨0x000110, 1, 0x0, 1, 0x0, 0, 1, [⟨0, 1, .w1c, 0, 1⟩, ⟨1, 1, .w1c, 0, 1⟩, ⟨2, 1, .w1c, 0, 1⟩, ⟨3, 1, .w1c, 0, 1⟩, ⟨4, 1, .w1c, 0, 1⟩, ⟨5, 1, .w1c, 0, 1⟩, ⟨6, 1, .w1c, 0, 1⟩]⟩,
   ⟨0x000200, 1, 0x0, 1, 0x0, 0, 1, [⟨0, 1, .w1c, 0, 1⟩, ⟨1, 1, .w1c, 0, 1⟩, ⟨2, 1, .w1c, 0, 1⟩, ⟨3, 1, .w1c, 0, 1⟩, ⟨4, 1, .w1c, 0, 1⟩, ⟨5, 1, .w1c, 0, 1⟩, ⟨6, 1, .w1c, 0, 1⟩]⟩,
   ⟨0x000204, 1, 0x0, 1, 0x0, 0, 1, []⟩,
   ⟨0x000208, 1, 0x0, 1, 0x0, 0, 1, []⟩,
   ⟨0x00020C, 1, 0x0, 1, 0x0, 0, 1, [⟨0, 1, .w1s, 0, 1⟩, ⟨8, 8, .wo, 0, 255⟩, ⟨16, 1, .wo, 0, 1⟩]⟩,
   ⟨0x000210, 1, 0x0, 1, 0x0, 0, 2, [⟨0, 32, .rw, 0, 4294967295⟩]⟩,
   ⟨0x000214, 1, 0x0, 1, 0x0, 1, 2, [⟨0, 32, .rw, 0, 4294967295⟩]⟩,
   ⟨0x000218, 1, 0x0, 1, 0x0, 0, 1, [⟨0, 24, .rw, 0, 16777215⟩, ⟨24, 2, .rw, 0, 3⟩, ⟨31, 1, .wo, 0, 1⟩]⟩,
   ⟨0x00021C, 1, 0x0, 1, 0x0, 0, 1, [⟨9, 1, .w1c, 0, 1⟩]⟩]
/-- The registers of the block `PWR` as a write meets them. -/
def regsPwr : List RegDesc :=
  [⟨0x010000, 1, 0x0, 1, 0x0, 0, 1, []⟩,
   ⟨0x010004, 1, 0x0, 1, 0x0, 0, 1, []⟩,
   ⟨0x010008, 1, 0x0, 1, 0x0, 0, 1, [⟨0, 1, .rw, 0, 1⟩, ⟨8, 8, .rw, 0, 255⟩, ⟨16, 4, .rw, 1, 8⟩, ⟨20, 2, .rw, 0, 3⟩, ⟨24, 8, .rw, 1, 255⟩]⟩,
   ⟨0x01000C, 1, 0x0, 1, 0x0, 0, 1, [⟨0, 1, .w1s, 0, 1⟩]⟩,
   ⟨0x010010, 1, 0x0, 1, 0x0, 0, 1, [⟨8, 6, .rwl, 10, 20⟩, ⟨16, 6, .rwl, 20, 30⟩, ⟨24, 1, .rwl, 0, 1⟩, ⟨25, 1, .w1c, 0, 1⟩]⟩]
/-- The registers of the block `CLK` as a write meets them. -/
def regsClk : List RegDesc :=
  [⟨0x020100, 1, 0x0, 1, 0x0, 0, 1, [⟨0, 1, .rw, 0, 1⟩, ⟨8, 8, .rw, 10, 100⟩, ⟨16, 8, .rw, 1, 255⟩, ⟨24, 1, .w1c, 0, 1⟩]⟩,
   ⟨0x020104, 1, 0x0, 1, 0x0, 0, 1, [⟨8, 1, .w1c, 0, 1⟩]⟩]
/-- The registers of the block `TIM` as a write meets them. -/
def regsTim : List RegDesc :=
  [⟨0x030000, 1, 0x0, 1, 0x0, 0, 3, []⟩,
   ⟨0x030004, 1, 0x0, 1, 0x0, 1, 3, []⟩,
   ⟨0x030008, 1, 0x0, 1, 0x0, 2, 3, []⟩,
   ⟨0x030010, 1, 0x0, 1, 0x0, 0, 1, [⟨0, 2, .rwl, 0, 3⟩, ⟨2, 1, .rwl, 0, 1⟩, ⟨8, 3, .rw, 2, 6⟩, ⟨16, 1, .w1c, 0, 1⟩]⟩,
   ⟨0x030018, 1, 0x0, 1, 0x0, 0, 2, [⟨0, 32, .rw, 0, 4294967295⟩]⟩,
   ⟨0x03001C, 1, 0x0, 1, 0x0, 1, 2, [⟨0, 32, .rw, 0, 4294967295⟩]⟩,
   ⟨0x030020, 1, 0x0, 1, 0x0, 0, 1, [⟨0, 1, .rw, 0, 1⟩, ⟨1, 1, .rw, 0, 1⟩, ⟨2, 1, .rw, 0, 1⟩, ⟨3, 1, .rw, 0, 1⟩, ⟨4, 2, .rw, 0, 2⟩, ⟨8, 8, .rw, 24, 43⟩, ⟨16, 8, .rw, 0, 255⟩, ⟨24, 8, .rw, 0, 255⟩]⟩,
   ⟨0x030024, 1, 0x0, 1, 0x0, 0, 1, [⟨8, 1, .w1c, 0, 1⟩, ⟨9, 1, .w1c, 0, 1⟩, ⟨10, 1, .w1c, 0, 1⟩, ⟨11, 1, .w1c, 0, 1⟩]⟩,
   ⟨0x030030, 1, 0x0, 1, 0x0, 0, 1, [⟨0, 1, .rw, 0, 1⟩, ⟨8, 8, .rw, 1, 200⟩, ⟨16, 16, .rw, 0, 65535⟩]⟩,
   ⟨0x030038, 1, 0x0, 1, 0x0, 0, 2, [⟨0, 32, .rw, 0, 4294967295⟩]⟩,
   ⟨0x03003C, 1, 0x0, 1, 0x0, 1, 2, [⟨0, 16, .rw, 0, 65535⟩]⟩,
   ⟨0x030040, 4, 0x10, 1, 0x0, 0, 1, [⟨0, 24, .rw, 0, 16777215⟩]⟩,
   ⟨0x030044, 4, 0x10, 1, 0x0, 0, 1, []⟩,
   ⟨0x030048, 4, 0x10, 1, 0x0, 0, 1, []⟩,
   ⟨0x03004C, 4, 0x10, 1, 0x0, 0, 1, []⟩,
   ⟨0x030080, 1, 0x0, 1, 0x0, 0, 1, []⟩,
   ⟨0x030084, 1, 0x0, 1, 0x0, 0, 1, []⟩,
   ⟨0x030200, 1, 0x0, 1, 0x0, 0, 1, [⟨0, 1, .rw, 0, 1⟩, ⟨1, 1, .rw, 0, 1⟩, ⟨8, 8, .rw, 0, 255⟩]⟩,
   ⟨0x030204, 1, 0x0, 1, 0x0, 0, 1, [⟨2, 1, .w1c, 0, 1⟩, ⟨3, 1, .w1c, 0, 1⟩]⟩]
/-- The registers of the block `SEA` as a write meets them. -/
def regsSea : List RegDesc :=
  [⟨0x040000, 1, 0x0, 1, 0x0, 0, 1, [⟨8, 1, .w1c, 0, 1⟩, ⟨9, 1, .w1c, 0, 1⟩]⟩,
   ⟨0x040010, 8, 0x4, 1, 0x0, 0, 1, []⟩,
   ⟨0x040030, 4, 0x4, 1, 0x0, 0, 1, []⟩,
   ⟨0x040040, 1, 0x0, 1, 0x0, 0, 2, []⟩,
   ⟨0x040044, 1, 0x0, 1, 0x0, 1, 2, []⟩,
   ⟨0x040100, 160, 0x4, 1, 0x0, 0, 1, []⟩]
/-- The registers of the block `HRG` as a write meets them. -/
def regsHrg : List RegDesc :=
  [⟨0x080000, 1, 0x0, 1, 0x0, 0, 1, [⟨0, 1, .rw, 0, 1⟩]⟩,
   ⟨0x080004, 1, 0x0, 1, 0x0, 0, 1, [⟨1, 1, .w1c, 0, 1⟩, ⟨2, 1, .w1c, 0, 1⟩, ⟨3, 1, .w1c, 0, 1⟩, ⟨4, 1, .w1c, 0, 1⟩]⟩,
   ⟨0x080040, 16, 0x4, 1, 0x0, 0, 1, [⟨0, 4, .rw, 0, 15⟩, ⟨4, 4, .rw, 0, 15⟩, ⟨8, 4, .rw, 0, 15⟩, ⟨12, 4, .rw, 0, 15⟩, ⟨16, 4, .rw, 0, 15⟩, ⟨20, 4, .rw, 0, 15⟩, ⟨24, 4, .rw, 0, 15⟩, ⟨28, 4, .rw, 0, 15⟩]⟩,
   ⟨0x081000, 64, 0x20, 1, 0x0, 0, 2, [⟨0, 32, .rw, 0, 4294967295⟩]⟩,
   ⟨0x081004, 64, 0x20, 1, 0x0, 1, 2, [⟨0, 32, .rw, 0, 4294967295⟩]⟩,
   ⟨0x081008, 64, 0x20, 1, 0x0, 0, 1, [⟨0, 1, .rw, 0, 1⟩, ⟨1, 4, .rw, 4, 15⟩, ⟨5, 1, .rw, 0, 1⟩, ⟨6, 4, .rw, 0, 15⟩, ⟨16, 6, .rw, 0, 63⟩, ⟨22, 1, .rw, 0, 1⟩]⟩,
   ⟨0x08100C, 64, 0x20, 1, 0x0, 0, 1, []⟩,
   ⟨0x081010, 64, 0x20, 1, 0x0, 0, 1, [⟨0, 8, .rw, 0, 255⟩, ⟨8, 16, .rw, 0, 65535⟩]⟩,
   ⟨0x081018, 64, 0x20, 1, 0x0, 0, 2, []⟩,
   ⟨0x08101C, 64, 0x20, 1, 0x0, 1, 2, []⟩,
   ⟨0x090000, 8, 0x1000, 8, 0x8, 0, 1, [⟨0, 16, .wo, 0, 65535⟩, ⟨16, 1, .wo, 0, 1⟩, ⟨31, 1, .wo, 0, 1⟩]⟩]
/-- The registers of the block `SLU` as a write meets them. -/
def regsSlu : List RegDesc :=
  [⟨0x0A0004, 1, 0x0, 1, 0x0, 0, 1, [⟨0, 1, .w1c, 0, 1⟩, ⟨1, 1, .w1c, 0, 1⟩, ⟨2, 1, .w1c, 0, 1⟩, ⟨3, 1, .w1c, 0, 1⟩]⟩,
   ⟨0x0A0008, 1, 0x0, 1, 0x0, 0, 2, []⟩,
   ⟨0x0A000C, 1, 0x0, 1, 0x0, 1, 2, []⟩,
   ⟨0x0A0010, 1, 0x0, 1, 0x0, 0, 1, [⟨24, 8, .wo, 0, 255⟩]⟩,
   ⟨0x0A0100, 32, 0x20, 1, 0x0, 0, 1, []⟩,
   ⟨0x0A0108, 32, 0x20, 1, 0x0, 0, 2, []⟩,
   ⟨0x0A010C, 32, 0x20, 1, 0x0, 1, 2, []⟩,
   ⟨0x0A0110, 32, 0x20, 1, 0x0, 0, 2, []⟩,
   ⟨0x0A0114, 32, 0x20, 1, 0x0, 1, 2, []⟩,
   ⟨0x0A0118, 32, 0x20, 1, 0x0, 0, 2, []⟩,
   ⟨0x0A011C, 32, 0x20, 1, 0x0, 1, 2, []⟩]
/-- The registers of the block `TIL` as a write meets them. -/
def regsTil : List RegDesc :=
  [⟨0x100100, 8, 0x10000, 1, 0x0, 0, 1, [⟨0, 1, .rwl, 0, 1⟩, ⟨1, 1, .rwl, 0, 1⟩, ⟨8, 6, .rwl, 0, 40⟩, ⟨14, 1, .rw, 0, 1⟩, ⟨16, 1, .w1c, 0, 1⟩]⟩,
   ⟨0x100104, 8, 0x10000, 1, 0x0, 0, 1, [⟨0, 25, .rwl, 0, 33554431⟩, ⟨31, 1, .rwl, 0, 1⟩]⟩,
   ⟨0x100108, 8, 0x10000, 1, 0x0, 0, 1, [⟨0, 16, .rw, 0, 65535⟩]⟩,
   ⟨0x10010C, 8, 0x10000, 1, 0x0, 0, 1, [⟨16, 1, .w1c, 0, 1⟩, ⟨17, 1, .w1c, 0, 1⟩, ⟨18, 1, .w1c, 0, 1⟩, ⟨19, 1, .w1c, 0, 1⟩, ⟨20, 1, .w1c, 0, 1⟩, ⟨21, 1, .w1c, 0, 1⟩]⟩,
   ⟨0x100110, 8, 0x10000, 1, 0x0, 0, 1, [⟨0, 1, .rw, 0, 1⟩, ⟨1, 2, .rw, 0, 3⟩, ⟨4, 16, .rw, 0, 65535⟩]⟩,
   ⟨0x100120, 8, 0x10000, 1, 0x0, 0, 1, [⟨0, 8, .rwl, 0, 255⟩, ⟨8, 2, .rw, 0, 3⟩, ⟨10, 4, .rw, 0, 14⟩, ⟨16, 1, .w1c, 0, 1⟩]⟩,
   ⟨0x100124, 8, 0x10000, 1, 0x0, 0, 1, []⟩,
   ⟨0x100140, 8, 0x10000, 16, 0x4, 0, 1, [⟨2, 1, .rw, 0, 1⟩, ⟨3, 2, .rw, 0, 3⟩, ⟨16, 16, .rwl, 0, 65535⟩]⟩,
   ⟨0x100180, 8, 0x10000, 1, 0x0, 0, 1, [⟨0, 16, .rw, 0, 65535⟩]⟩,
   ⟨0x1001C0, 8, 0x10000, 16, 0x4, 0, 1, []⟩,
   ⟨0x100200, 8, 0x10000, 1, 0x0, 0, 1, [⟨0, 1, .rwl, 0, 1⟩, ⟨1, 1, .rwl, 0, 1⟩, ⟨2, 1, .rw, 0, 1⟩, ⟨16, 1, .w1c, 0, 1⟩]⟩,
   ⟨0x100204, 8, 0x10000, 1, 0x0, 0, 1, [⟨0, 25, .rwl, 0, 33554431⟩, ⟨31, 1, .rwl, 0, 1⟩]⟩,
   ⟨0x100208, 8, 0x10000, 1, 0x0, 0, 1, [⟨0, 16, .rw, 0, 65535⟩]⟩,
   ⟨0x10020C, 8, 0x10000, 1, 0x0, 0, 1, [⟨16, 1, .w1c, 0, 1⟩, ⟨17, 1, .w1c, 0, 1⟩, ⟨18, 1, .w1c, 0, 1⟩, ⟨19, 1, .w1c, 0, 1⟩]⟩,
   ⟨0x100210, 8, 0x10000, 1, 0x0, 0, 1, [⟨8, 8, .w1c, 0, 255⟩, ⟨16, 8, .w1c, 0, 255⟩]⟩,
   ⟨0x100218, 8, 0x10000, 1, 0x0, 0, 2, []⟩,
   ⟨0x10021C, 8, 0x10000, 1, 0x0, 1, 2, []⟩,
   ⟨0x100220, 8, 0x10000, 1, 0x0, 0, 2, []⟩,
   ⟨0x100224, 8, 0x10000, 1, 0x0, 1, 2, []⟩]
/-- The registers of the block `BFM` as a write meets them. -/
def regsBfm : List RegDesc :=
  [⟨0x200000, 1, 0x0, 1, 0x0, 0, 1, [⟨0, 1, .rwl, 0, 1⟩, ⟨8, 4, .rwl, 1, 15⟩, ⟨16, 1, .w1c, 0, 1⟩]⟩,
   ⟨0x200004, 1, 0x0, 1, 0x0, 0, 1, []⟩,
   ⟨0x200008, 1, 0x0, 1, 0x0, 0, 1, []⟩,
   ⟨0x20000C, 1, 0x0, 1, 0x0, 0, 1, []⟩,
   ⟨0x200010, 1, 0x0, 1, 0x0, 0, 1, []⟩,
   ⟨0x200014, 1, 0x0, 1, 0x0, 0, 1, [⟨0, 1, .w1c, 0, 1⟩, ⟨1, 1, .w1c, 0, 1⟩, ⟨2, 1, .w1c, 0, 1⟩, ⟨3, 1, .w1c, 0, 1⟩, ⟨4, 1, .w1c, 0, 1⟩, ⟨5, 1, .w1c, 0, 1⟩, ⟨6, 1, .w1c, 0, 1⟩, ⟨7, 1, .w1c, 0, 1⟩]⟩,
   ⟨0x200018, 1, 0x0, 1, 0x0, 0, 2, [⟨0, 32, .rwl, 0, 4294967295⟩]⟩,
   ⟨0x20001C, 1, 0x0, 1, 0x0, 1, 2, [⟨0, 32, .rwl, 0, 4294967295⟩]⟩,
   ⟨0x200020, 1, 0x0, 1, 0x0, 0, 2, []⟩,
   ⟨0x200024, 1, 0x0, 1, 0x0, 1, 2, []⟩,
   ⟨0x200028, 1, 0x0, 1, 0x0, 0, 2, []⟩,
   ⟨0x20002C, 1, 0x0, 1, 0x0, 1, 2, []⟩,
   ⟨0x200030, 1, 0x0, 1, 0x0, 0, 1, []⟩]
/-- The registers of the block `ACD` as a write meets them. -/
def regsAcd : List RegDesc :=
  [⟨0x240000, 1, 0x0, 1, 0x0, 0, 1, [⟨0, 1, .rw, 0, 1⟩, ⟨1, 1, .rw, 0, 1⟩, ⟨8, 4, .rw, 0, 15⟩, ⟨16, 1, .w1c, 0, 1⟩]⟩,
   ⟨0x240004, 1, 0x0, 1, 0x0, 0, 1, [⟨8, 1, .w1c, 0, 1⟩, ⟨9, 1, .w1c, 0, 1⟩]⟩,
   ⟨0x240008, 1, 0x0, 1, 0x0, 0, 2, []⟩,
   ⟨0x24000C, 1, 0x0, 1, 0x0, 1, 2, []⟩,
   ⟨0x240010, 1, 0x0, 1, 0x0, 0, 2, []⟩,
   ⟨0x240014, 1, 0x0, 1, 0x0, 1, 2, []⟩]
/-- The registers of the block `FTH` as a write meets them. -/
def regsFth : List RegDesc :=
  [⟨0x280000, 1, 0x0, 1, 0x0, 0, 1, [⟨0, 1, .rw, 0, 1⟩, ⟨1, 1, .rw, 0, 1⟩, ⟨2, 1, .rw, 0, 1⟩, ⟨3, 1, .rw, 0, 1⟩, ⟨8, 4, .rw, 1, 8⟩, ⟨16, 14, .rwl, 1522, 9600⟩, ⟨31, 1, .w1c, 0, 1⟩]⟩,
   ⟨0x280004, 1, 0x0, 1, 0x0, 0, 1, [⟨0, 4, .rwl, 0, 15⟩, ⟨4, 4, .rwl, 0, 15⟩, ⟨8, 4, .rwl, 0, 15⟩, ⟨12, 4, .rwl, 0, 15⟩, ⟨16, 8, .rwl, 0, 255⟩]⟩,
   ⟨0x280008, 1, 0x0, 1, 0x0, 0, 1, [⟨0, 12, .rwl, 1, 4094⟩, ⟨12, 3, .rw, 0, 7⟩, ⟨16, 3, .rw, 0, 7⟩]⟩,
   ⟨0x280010, 1, 0x0, 1, 0x0, 0, 2, [⟨0, 32, .rwl, 0, 4294967295⟩]⟩,
   ⟨0x280014, 1, 0x0, 1, 0x0, 1, 2, [⟨0, 16, .rwl, 0, 65535⟩]⟩,
   ⟨0x280018, 1, 0x0, 1, 0x0, 0, 2, [⟨0, 32, .rwl, 0, 4294967295⟩]⟩,
   ⟨0x28001C, 1, 0x0, 1, 0x0, 1, 2, [⟨0, 16, .rwl, 0, 65535⟩]⟩,
   ⟨0x280020, 1, 0x0, 1, 0x0, 0, 2, [⟨0, 32, .rwl, 0, 4294967295⟩]⟩,
   ⟨0x280024, 1, 0x0, 1, 0x0, 1, 2, [⟨0, 16, .rwl, 0, 65535⟩]⟩,
   ⟨0x280030, 1, 0x0, 1, 0x0, 0, 1, [⟨0, 1, .w1c, 0, 1⟩, ⟨1, 1, .w1c, 0, 1⟩, ⟨2, 1, .w1c, 0, 1⟩, ⟨3, 1, .w1c, 0, 1⟩, ⟨4, 1, .w1c, 0, 1⟩, ⟨5, 1, .w1c, 0, 1⟩, ⟨6, 1, .w1c, 0, 1⟩, ⟨7, 1, .w1c, 0, 1⟩, ⟨8, 1, .w1c, 0, 1⟩, ⟨9, 1, .w1c, 0, 1⟩, ⟨10, 1, .w1c, 0, 1⟩]⟩,
   ⟨0x280040, 2, 0x4, 1, 0x0, 0, 1, [⟨0, 2, .rwl, 0, 1⟩, ⟨2, 1, .rw, 0, 1⟩, ⟨8, 8, .rw, 0, 255⟩, ⟨16, 16, .rw, 0, 65535⟩]⟩,
   ⟨0x280048, 2, 0x4, 1, 0x0, 0, 1, [⟨4, 1, .w1c, 0, 1⟩, ⟨5, 1, .w1c, 0, 1⟩]⟩,
   ⟨0x280060, 1, 0x0, 1, 0x0, 0, 2, []⟩,
   ⟨0x280064, 1, 0x0, 1, 0x0, 1, 2, []⟩,
   ⟨0x280100, 16, 0x8, 1, 0x0, 0, 2, []⟩,
   ⟨0x280104, 16, 0x8, 1, 0x0, 1, 2, []⟩]
/-- The registers of the block `LIN` as a write meets them. -/
def regsLin : List RegDesc :=
  [⟨0x300000, 8, 0x400, 1, 0x0, 0, 1, [⟨0, 1, .rw, 0, 1⟩, ⟨1, 2, .rw, 0, 3⟩, ⟨3, 1, .rw, 0, 1⟩, ⟨4, 4, .rw, 0, 15⟩, ⟨8, 1, .wo, 0, 1⟩]⟩,
   ⟨0x300004, 8, 0x400, 1, 0x0, 0, 1, []⟩,
   ⟨0x300008, 8, 0x400, 1, 0x0, 0, 1, [⟨0, 5, .rw, 0, 31⟩, ⟨5, 6, .rw, 0, 63⟩, ⟨11, 7, .rw, 24, 64⟩, ⟨18, 6, .rw, 0, 63⟩, ⟨24, 5, .rw, 0, 31⟩]⟩,
   ⟨0x30000C, 8, 0x400, 1, 0x0, 0, 1, [⟨0, 7, .rw, 28, 56⟩, ⟨8, 7, .rw, 28, 56⟩]⟩,
   ⟨0x300010, 8, 0x400, 1, 0x0, 0, 1, [⟨0, 4, .rw, 0, 15⟩, ⟨4, 4, .rw, 4, 12⟩]⟩,
   ⟨0x300014, 8, 0x400, 1, 0x0, 0, 1, []⟩,
   ⟨0x300018, 8, 0x400, 1, 0x0, 0, 1, []⟩,
   ⟨0x30001C, 8, 0x400, 1, 0x0, 0, 1, []⟩,
   ⟨0x300040, 8, 0x400, 8, 0x8, 0, 2, []⟩,
   ⟨0x300044, 8, 0x400, 8, 0x8, 1, 2, []⟩,
   ⟨0x300100, 8, 0x400, 64, 0x4, 0, 1, []⟩]
/-- The registers of the block `LINP` as a write meets them. -/
def regsLinp : List RegDesc :=
  [⟨0x304000, 2, 0x4, 1, 0x0, 0, 1, [⟨0, 3, .rwl, 0, 5⟩, ⟨3, 1, .rw, 0, 1⟩, ⟨8, 4, .rw, 0, 15⟩, ⟨12, 4, .rw, 0, 15⟩, ⟨16, 1, .w1c, 0, 1⟩]⟩,
   ⟨0x304010, 2, 0x4, 1, 0x0, 0, 1, [⟨1, 1, .w1c, 0, 1⟩]⟩,
   ⟨0x304100, 2, 0x80, 5, 0x8, 0, 2, []⟩,
   ⟨0x304104, 2, 0x80, 5, 0x8, 1, 2, []⟩]
/-- The registers of the block `CUL` as a write meets them. -/
def regsCul : List RegDesc :=
  [⟨0x340000, 1, 0x0, 1, 0x0, 0, 1, [⟨0, 3, .rwl, 0, 7⟩, ⟨3, 1, .rw, 0, 1⟩, ⟨4, 1, .rw, 0, 1⟩, ⟨5, 3, .rwl, 1, 6⟩, ⟨8, 2, .rw, 0, 3⟩, ⟨10, 1, .rw, 0, 1⟩, ⟨11, 2, .rw, 0, 2⟩, ⟨18, 1, .w1c, 0, 1⟩]⟩,
   ⟨0x340010, 2, 0x4, 1, 0x0, 0, 1, []⟩,
   ⟨0x340100, 2, 0x40, 4, 0x8, 0, 2, []⟩,
   ⟨0x340104, 2, 0x40, 4, 0x8, 1, 2, []⟩,
   ⟨0x341000, 12, 0x40, 1, 0x0, 0, 1, []⟩,
   ⟨0x341010, 12, 0x40, 4, 0x8, 0, 2, []⟩,
   ⟨0x341014, 12, 0x40, 4, 0x8, 1, 2, []⟩]
/-- The registers of the block `LVE` as a write meets them. -/
def regsLve : List RegDesc :=
  [⟨0x380000, 1, 0x0, 1, 0x0, 0, 1, [⟨17, 1, .w1c, 0, 1⟩, ⟨18, 1, .w1c, 0, 1⟩]⟩,
   ⟨0x380008, 1, 0x0, 1, 0x0, 0, 2, []⟩,
   ⟨0x38000C, 1, 0x0, 1, 0x0, 1, 2, []⟩,
   ⟨0x380010, 1, 0x0, 1, 0x0, 0, 2, []⟩,
   ⟨0x380014, 1, 0x0, 1, 0x0, 1, 2, []⟩,
   ⟨0x380100, 64, 0x4, 1, 0x0, 0, 1, []⟩,
   ⟨0x380200, 36, 0x4, 1, 0x0, 0, 1, []⟩]
/-- The registers of the block `RCT` as a write meets them. -/
def regsRct : List RegDesc :=
  [⟨0x390000, 8, 0x100, 1, 0x0, 0, 1, [⟨8, 1, .w1c, 0, 1⟩, ⟨9, 1, .w1c, 0, 1⟩, ⟨10, 1, .w1c, 0, 1⟩]⟩,
   ⟨0x390004, 8, 0x100, 1, 0x0, 0, 1, [⟨0, 8, .rw, 0, 255⟩, ⟨8, 8, .rw, 0, 255⟩, ⟨16, 8, .rw, 0, 255⟩, ⟨24, 8, .rw, 0, 255⟩]⟩,
   ⟨0x390008, 8, 0x100, 1, 0x0, 0, 1, [⟨0, 2, .rw, 0, 3⟩, ⟨8, 8, .rw, 1, 255⟩, ⟨16, 1, .w1c, 0, 1⟩, ⟨20, 4, .rw, 0, 15⟩]⟩,
   ⟨0x39000C, 8, 0x100, 1, 0x0, 0, 1, [⟨0, 4, .rw, 0, 15⟩, ⟨4, 1, .rw, 0, 1⟩, ⟨8, 8, .rw, 0, 255⟩, ⟨16, 8, .rw, 0, 255⟩]⟩,
   ⟨0x391000, 2, 0x4, 1, 0x0, 0, 1, [⟨0, 1, .rwl, 0, 1⟩, ⟨1, 1, .rwl, 0, 1⟩, ⟨2, 1, .rw, 0, 1⟩, ⟨8, 8, .rw, 0, 255⟩, ⟨16, 8, .rw, 0, 255⟩, ⟨24, 8, .rw, 0, 255⟩]⟩,
   ⟨0x391010, 1, 0x0, 1, 0x0, 0, 1, [⟨0, 8, .rw, 0, 255⟩, ⟨8, 8, .rw, 0, 255⟩, ⟨16, 8, .rw, 0, 255⟩, ⟨24, 8, .rw, 0, 255⟩]⟩]
/-- The registers of the block `HKA` as a write meets them. -/
def regsHka : List RegDesc :=
  [⟨0x3A0000, 1, 0x0, 1, 0x0, 0, 1, [⟨0, 1, .rw, 0, 1⟩, ⟨1, 2, .rw, 0, 2⟩, ⟨3, 1, .rw, 0, 1⟩, ⟨4, 6, .rw, 0, 63⟩, ⟨10, 3, .rw, 0, 7⟩, ⟨13, 1, .rw, 0, 1⟩, ⟨14, 2, .rw, 0, 2⟩, ⟨16, 2, .rw, 0, 2⟩, ⟨18, 1, .rw, 0, 1⟩, ⟨19, 1, .wo, 0, 1⟩, ⟨20, 8, .rw, 0, 255⟩, ⟨28, 1, .w1c, 0, 1⟩]⟩,
   ⟨0x3A0004, 1, 0x0, 1, 0x0, 0, 1, [⟨19, 1, .w1c, 0, 1⟩]⟩,
   ⟨0x3A0008, 2, 0x4, 1, 0x0, 0, 1, [⟨0, 24, .rw, 100, 16777215⟩, ⟨24, 3, .rw, 0, 4⟩, ⟨27, 3, .rw, 0, 7⟩]⟩,
   ⟨0x3A0010, 2, 0x4, 1, 0x0, 0, 1, [⟨0, 14, .rw, 0, 10000⟩]⟩,
   ⟨0x3A0018, 1, 0x0, 1, 0x0, 0, 1, [⟨3, 1, .w1c, 0, 1⟩, ⟨4, 1, .w1c, 0, 1⟩, ⟨5, 1, .w1c, 0, 1⟩, ⟨6, 1, .w1c, 0, 1⟩]⟩,
   ⟨0x3A0100, 64, 0x4, 1, 0x0, 0, 1, [⟨0, 8, .rw, 0, 255⟩, ⟨8, 2, .rw, 0, 3⟩, ⟨10, 3, .rw, 0, 7⟩]⟩,
   ⟨0x3A0200, 8, 0x4, 1, 0x0, 0, 1, [⟨0, 8, .rw, 0, 255⟩, ⟨8, 2, .rw, 0, 3⟩, ⟨10, 3, .rw, 0, 7⟩]⟩,
   ⟨0x3A0300, 64, 0x4, 1, 0x0, 0, 1, []⟩,
   ⟨0x3A0400, 8, 0x4, 1, 0x0, 0, 1, []⟩]
/-- The registers of the block `GAU` as a write meets them. -/
def regsGau : List RegDesc :=
  [⟨0x3C0000, 1, 0x0, 1, 0x0, 0, 1, [⟨16, 1, .w1c, 0, 1⟩, ⟨17, 1, .w1c, 0, 1⟩]⟩,
   ⟨0x3C0004, 1, 0x0, 1, 0x0, 0, 1, []⟩,
   ⟨0x3C0008, 1, 0x0, 1, 0x0, 0, 1, [⟨0, 1, .rw, 0, 1⟩, ⟨1, 1, .rw, 0, 1⟩, ⟨16, 16, .rw, 0, 65535⟩]⟩,
   ⟨0x3C0100, 8, 0x10, 1, 0x0, 0, 1, []⟩,
   ⟨0x3C0108, 8, 0x10, 1, 0x0, 0, 2, []⟩,
   ⟨0x3C010C, 8, 0x10, 1, 0x0, 1, 2, []⟩]
/-- The registers of the block `THM` as a write meets them. -/
def regsThm : List RegDesc :=
  [⟨0x3E0000, 1, 0x0, 1, 0x0, 0, 1, []⟩,
   ⟨0x3E0004, 1, 0x0, 1, 0x0, 0, 1, [⟨0, 8, .rwl, 0, 255⟩, ⟨8, 8, .rwl, 0, 255⟩, ⟨16, 8, .rwl, 0, 255⟩, ⟨24, 4, .rw, 1, 15⟩, ⟨28, 1, .w1c, 0, 1⟩]⟩,
   ⟨0x3E0008, 1, 0x0, 1, 0x0, 0, 1, [⟨17, 1, .w1c, 0, 1⟩]⟩,
   ⟨0x3E0100, 40, 0x4, 1, 0x0, 0, 1, []⟩]
/-- The registers of the block `FLT` as a write meets them. -/
def regsFlt : List RegDesc :=
  [⟨0x3E1000, 1, 0x0, 1, 0x0, 0, 1, [⟨3, 1, .w1c, 0, 1⟩, ⟨4, 1, .w1c, 0, 1⟩]⟩,
   ⟨0x3E1004, 1, 0x0, 1, 0x0, 0, 1, [⟨0, 1, .w1c, 0, 1⟩, ⟨3, 1, .w1c, 0, 1⟩]⟩,
   ⟨0x3E1008, 1, 0x0, 1, 0x0, 0, 1, []⟩,
   ⟨0x3E1100, 8, 0x8, 1, 0x0, 0, 2, []⟩,
   ⟨0x3E1104, 8, 0x8, 1, 0x0, 1, 2, []⟩]
/-- The registers of the block `ENG` as a write meets them. -/
def regsEng : List RegDesc :=
  [⟨0x400000, 16, 0x10000, 1, 0x0, 0, 1, [⟨6, 1, .w1c, 0, 1⟩, ⟨7, 1, .w1c, 0, 1⟩]⟩,
   ⟨0x400004, 16, 0x10000, 1, 0x0, 0, 1, [⟨4, 1, .w1c, 0, 1⟩, ⟨5, 1, .w1c, 0, 1⟩]⟩,
   ⟨0x400008, 16, 0x10000, 1, 0x0, 0, 1, []⟩,
   ⟨0x400010, 16, 0x10000, 1, 0x0, 0, 2, []⟩,
   ⟨0x400014, 16, 0x10000, 1, 0x0, 1, 2, []⟩,
   ⟨0x400018, 16, 0x10000, 1, 0x0, 0, 2, []⟩,
   ⟨0x40001C, 16, 0x10000, 1, 0x0, 1, 2, []⟩,
   ⟨0x400020, 16, 0x10000, 1, 0x0, 0, 1, []⟩,
   ⟨0x400028, 16, 0x10000, 1, 0x0, 0, 1, []⟩,
   ⟨0x40002C, 16, 0x10000, 1, 0x0, 0, 1, []⟩]
/-- Every register of the map. -/
def regMap : List RegDesc :=
  regsDev ++ regsPwr ++ regsClk ++ regsTim ++ regsSea ++ regsHrg ++ regsSlu ++ regsTil ++ regsBfm ++ regsAcd ++ regsFth ++ regsLin ++ regsLinp ++ regsCul ++ regsLve ++ regsRct ++ regsHka ++ regsGau ++ regsThm ++ regsFlt ++ regsEng
/-- Whether an offset is an instance of a register. -/
def RegDesc.matches (d : RegDesc) (off : Nat) : Bool :=
  if off < d.base then false
  else
    let r := off - d.base
    let i := if d.n1 ≤ 1 then 0 else r / d.s1
    let r2 := r - i * d.s1
    let j := if d.n2 ≤ 1 then 0 else r2 / d.s2
    decide (i < d.n1) && decide (j < d.n2) && decide (r2 - j * d.s2 = 0)

/-- The register at an offset. -/
def findReg (off : Nat) : Option RegDesc := regMap.find? fun d => d.matches off

end Sys2Proof.Machine
end

