-- ==== Sys2Proof/Machine/State.lean ====
section
/-! DEFINITION. The state of the AZ6408, as plain data: the register file, the memories, and for each block what the
spec gives it beside its registers; the reasons a step can stop; the state after reset. A status that the spec shows in
a register field has its home in the register file and nowhere else. -/
namespace Sys2Proof.Machine
open Sys2Proof

/-- An event record (R369): device time, source ID, code, and its 16 argument bytes. -/
structure EventRec where
  time : Nat
  src : Nat
  code : Nat
  args : List Nat
  deriving DecidableEq, Repr

/-- A completion record (R366) before it is given its ring's sequence number and phase. -/
structure Completion where
  time : Nat
  ring : Nat
  tag : Nat
  status : Nat
  reason : Nat
  opcode : Nat
  result : List Nat
  evt : Bool
  deriving DecidableEq, Repr

/-- What the device keeps of one ring beside its registers (R352 to R373). -/
structure RingState where
  /-- The host's position as R356 counts it: the tail of a submission ring, the head of the others. -/
  hostPos : Nat
  /-- `SEQ` of the next record (completion and event rings). -/
  seq : Nat
  /-- Completion slots reserved by fetched commands (R366). -/
  reserved : Nat
  /-- Reads of the descriptor at the fetch position that found the wrong phase (R363). -/
  retries : Nat
  /-- Device time of the last such read, for the 1 µs between reads. -/
  retryAt : Nat
  /-- Records written and not yet signalled, and when the first of them was written (R373). -/
  unsignalled : Nat
  unsignalledAt : Nat
  /-- Events dropped while the ring was full, and when the first was (R371). -/
  dropped : Nat
  droppedAt : Nat
  /-- Tags of the commands fetched from a submission ring that have not completed, oldest first. -/
  running : List Nat
  /-- Tags of commands whose completion records were discarded before they were due (R354, R435). -/
  lost : List Nat
  deriving DecidableEq, Repr

/-- A command of the timed store (R364) with the moment it was checked at tick e − 2 (R365). -/
structure Held where
  hdr : Hdr
  cmd : Cmd
  /-- Full frame count of the effective tick (R358). -/
  frame : Int
  tick : Nat
  checked : Bool
  /-- Whether the data the command takes from host memory is wholly in the device (R365). -/
  dataIn : Bool
  /-- Order of arrival, for the ring order of R364. -/
  order : Nat
  deriving DecidableEq, Repr

/-- The host interface: rings, the timed store, and the records kept while a ring cannot be written. -/
structure HostState where
  rings : Tab RingState
  timed : List Held
  /-- Number given to the next command that enters the timed store. -/
  order : Nat
  /-- The store of R436 (256 event records), each with the event ring it is for. -/
  heldEvents : List (Nat × EventRec)
  heldDropped : Nat
  heldDroppedAt : Nat
  /-- Completion records held in their reserved slots while the link is down (R551), with their completion ring. -/
  heldCompletions : List (Nat × Completion)
  /-- The level of `PERST_N` and the state of the PCIe link (R351, R551). -/
  perstHigh : Bool
  linkUp : Bool
  /-- Profile commands that wait for the frame boundary (R29, R360), oldest first, each with its profile and the frame at which it takes
  effect. -/
  profilePending : List (Hdr × Nat × Int)
  /-- Values wider than one register: per requester, the value latched by its last lowest-word read (offset of the
  lowest word and the higher words, R33) and the lower words staged by its writes (R35). -/
  shadows : Tab (Nat × List Nat)
  staged : Tab (Nat × List Nat)
  /-- The answer to the last configuration request (R434): 0 none, 1 Configuration Request Retry Status, 2 successful. -/
  cfgAnswer : Nat
  /-- The round-robin pointers of the descriptor fetch (R31, R361), by `PRIO`: the ring tried first. -/
  fetchNext : Tab Nat
  deriving DecidableEq, Repr

/-- Changes of the tick grid that wait for the next frame boundary (R17, R549). -/
structure ArchState where
  /-- `MU` and `ECP` accepted and not yet in force. -/
  refNumPending : Option (Nat × Nat)
  tAdvPending : Option Nat
  /-- The numerology and the downlink advance in force. -/
  mu : Nat
  ecp : Nat
  tAdv : Nat
  deriving DecidableEq, Repr

/-- One transmit carrier of a tile (R56, R83); `num` is the byte `NUM`. -/
structure TxCarrier where
  num : Nat
  log2n : Nat
  nprb : Nat
  gain : Nat
  ftw : Nat
  f0khz : Nat
  cfrWeight : Nat
  deriving DecidableEq, Repr

/-- A tone generator that runs (R74). -/
structure Tone where
  ftw : Nat
  ampl : Nat
  phase : Nat
  afterDpd : Bool
  deriving DecidableEq, Repr

/-- A DPD bank load: the command, and whether it was queued behind a fade (R70). -/
structure DpdJob where
  hdr : Hdr
  path : Nat
  bank : Nat
  count : Nat
  src : Nat
  queued : Bool
  deriving DecidableEq, Repr

/-- A fade between the two banks of a path: the tick it began at and its length in ticks (R69). -/
structure DpdFade where
  start : Int
  len : Nat
  deriving DecidableEq, Repr

/-- A swap held for a tile (R71). -/
structure HeldDpdSwap where
  hdr : Hdr
  mask : Nat
  fade : Nat
  eff : Int
  deriving DecidableEq, Repr

/-- A bias code staged for one DAC (R78), from its effective tick on. -/
structure BiasJob where
  hdr : Hdr
  span : Option Nat
  code : Nat
  eff : Int
  /-- Device time of the effective tick, from which the 10 ms of R78 run. -/
  effAt : Nat
  /-- Whether the command was held behind a span change (R80). -/
  held : Bool
  deriving DecidableEq, Repr

/-- A span change in progress (R79): when the safe driver took the pin, and how far it has come. -/
structure SpanChange where
  job : BiasJob
  start : Nat
  switched : Bool
  safeDone : Bool
  deriving DecidableEq, Repr

/-- One bias DAC beside its registers (R76 to R81). -/
structure BiasDac where
  staged : Option BiasJob
  change : Option SpanChange
  waiting : Option BiasJob
  /-- Whether the safe driver holds the pin. -/
  safe : Bool
  deriving DecidableEq, Repr

/-- The transmit chains, the DPD banks and the bias DACs. -/
structure TxState where
  /-- Carriers, by tile × 8 + index. -/
  carriers : Tab TxCarrier
  /-- Path NCO word of each tile (unsigned 48-bit). -/
  pathFtw : Tab Nat
  /-- Path gain of each path, Q2.14. -/
  gains : Tab Nat
  /-- Front-end delay in force of each tile, 10 ps (R60). -/
  feDelay : Tab Nat
  /-- The cancellation pulse in force of each tile: the carriers it was shaped from and their weights (R61, R62). -/
  pulse : Tab (List (Nat × Nat))
  tones : Tab Tone
  /-- Delay and phase trims of each path, set by calibration only (R57). -/
  trims : Tab (Nat × Nat)
  /-- DPD banks that differ from the identity entry, by path × 2 + bank: the 128 entries of R64. -/
  banks : Tab (List Nat)
  loads : List DpdJob
  loadQ : Tab DpdJob
  fades : Tab DpdFade
  swapQ : Tab HeldDpdSwap
  /-- Bias DACs, by tile × 16 + k. -/
  bias : Tab BiasDac
  /-- Saturation flags and count of each tile in the current 10 ms (R84). -/
  satFlags : Tab Nat
  satCount : Tab Nat
  /-- Air time of the last reset of the NCO phase accumulators (R54). -/
  ncoReset : Int
  /-- Paths whose output the converters and drivers hold off in hardware (R459, R508). -/
  quiet : Bool
  deriving DecidableEq, Repr

/-- One receive carrier of a tile (R96, R117). -/
structure RxCarrier where
  num : Nat
  log2n : Nat
  nprb : Nat
  gain : Nat
  ftw : Nat
  filter : Nat
  f0khz : Nat
  winAdv : Nat
  deriving DecidableEq, Repr

/-- One extraction entry of a tile (R112). -/
structure ExtractEntry where
  carrier : Nat
  buf : Nat
  symMask : Nat
  prbStart : Nat
  prbCount : Nat
  combLog2 : Nat
  combOffset : Nat
  slotPeriod : Nat
  slotOffset : Nat
  deriving DecidableEq, Repr

/-- An overload episode in progress (R90). -/
structure Episode where
  start : Nat
  protect : Bool
  deriving DecidableEq, Repr

/-- A sync event that waits for its reference edge (R106, R108). -/
structure PendingSync where
  edge : Nat
  /-- 0 `SYNC_IN`, 1 `RX_SYNC`, 2 the device at converter-clock lock. -/
  source : Nat
  hdr : Option Hdr
  panel : Bool
  deriving DecidableEq, Repr

/-- A panel sync whose members have not all confirmed (R108). -/
structure PanelConfirm where
  hdr : Hdr
  deadline : Nat
  missing : Nat
  edgeAt : Nat
  nop : Bool
  deriving DecidableEq, Repr

/-- What the receive chains keep of a past tick (R90, R91, R111, R118): the tiles that were in RX throughout, and for each carrier the
paths that were tainted. -/
structure TickPast where
  rx : Nat
  taint : List Nat
  deriving DecidableEq, Repr

/-- The receive chains. -/
structure RxState where
  /-- Carriers, by tile × 8 + index. -/
  carriers : Tab RxCarrier
  /-- Extraction entries, by tile × 16 + entry. -/
  extract : Tab ExtractEntry
  episodes : Tab Episode
  /-- Device time to which each path is tainted on every carrier (R90, R91, R106). -/
  taint : Tab Nat
  /-- Device time to which one carrier of a path is tainted (R118), by path × 8 + carrier. -/
  carrierTaint : Tab Nat
  /-- Front-end delay in force of each tile, 10 ps (R102). -/
  feDelay : Tab Nat
  /-- Delay and phase trims of each path, set by calibration only (R109). -/
  trims : Tab (Nat × Nat)
  /-- Extraction records dropped in the current 10 ms, by tile × 16 + entry (R119). -/
  drops : Tab Nat
  satFlags : Tab Nat
  satCount : Tab Nat
  /-- Parity of the reference edges on which the decimation counters stand at zero; none before a sync event since
  lock (R106: the counters repeat within two reference periods). -/
  grid : Option Nat
  syncs : List PendingSync
  confirm : Option PanelConfirm
  /-- The latest ticks, newest first: a lower numerology's symbol spans up to eight (R18). -/
  past : List TickPast
  deriving DecidableEq, Repr

/-- The layer set of one carrier and direction (R124): priorities packed four bits a layer. -/
structure LayerSet where
  layers : Nat
  prio : Nat
  ulShift : Nat
  deriving DecidableEq, Repr

/-- A write to the beam table (R138): 0 a host `BEAM_LOAD`, 1 a covariance solve, 2 a kernel's `WRITE_WEIGHTS`. -/
structure BeamWrite where
  kind : Nat
  hdr : Option Hdr
  bank : Nat
  first : Nat
  count : Nat
  src : Nat
  gather : Bool
  index : Nat
  repair : Bool
  queued : Bool
  /-- Bytes to write where the device itself holds them (kinds 1 and 2). -/
  data : List Nat
  deriving DecidableEq, Repr

/-- A bank transition (R137): the swap's effective tick, its blend, and the tick at which it ends. -/
structure BeamTransition where
  eff : Int
  blend : Nat
  stop : Int
  deriving DecidableEq, Repr

/-- A swap held during a transition (R139), or raised by a covariance solve (R146). -/
structure HeldBeamSwap where
  hdr : Option Hdr
  blend : Nat
  eff : Int
  deriving DecidableEq, Repr

/-- One entry of the page pool (R133, R134). -/
structure PoolEntry where
  beamId : Nat
  resident : Bool
  lastUse : Int
  /-- The last tick for which a section still in the pipeline refers to the entry. -/
  refUntil : Int
  flush : Bool
  deriving DecidableEq, Repr

/-- A covariance set armed on a receive carrier (R141), with the sums of the period in progress (R142): for each
subband its untainted sounding REs and a digest of Φ and Ψ. -/
structure CovSet where
  cfg : CovSetupCmd
  /-- The 16-byte parameter entry of each layer. -/
  params : List (List Nat)
  lastTick : Int
  sfn : Nat
  slot : Nat
  res : Tab Nat
  sums : Tab Nat
  deriving DecidableEq, Repr

/-- A solve window (R144, R145). -/
structure CovSolve where
  start : Int
  stop : Int
  /-- Subbands a kernel has marked solved (R345). -/
  solved : List Nat
  deriving DecidableEq, Repr

/-- An occasion in process (R149): its configuration, time occasion, start and end in device time, the copied beams
that are skipped, and its flags. -/
structure Occasion where
  config : Nat
  time : Nat
  start : Nat
  stop : Nat
  sfn : Nat
  slot : Nat
  skipped : Nat
  /-- Whether its end has come and the detector processes it (R153). -/
  processing : Bool
  aborted : Bool
  tainted : Bool
  partialPaths : Bool
  deriving DecidableEq, Repr

/-- The beamformer, the covariance engine and the access detector. The weights themselves stand in device memory. -/
structure BeamState where
  /-- Layer sets, by direction × 8 + carrier (direction 0 = downlink). -/
  sets : Tab LayerSet
  /-- Entries marked bad, as bank × 4,096 + entry (R131). -/
  bad : List Nat
  /-- Writes in progress, oldest first, and the one-deep queue of R138. -/
  writes : List BeamWrite
  queue : Option BeamWrite
  /-- Flush commands that wait for referenced pool entries (R135). -/
  flushes : List Hdr
  transition : Option BeamTransition
  swapQ : Option HeldBeamSwap
  /-- A held swap whose transition has begun and whose effective tick is to come (R139). -/
  starting : Option HeldBeamSwap
  pool : Tab PoolEntry
  /-- Slot in which page loads are counted, and loads begun in it (R133). -/
  pageSlot : Int
  pageLoads : Nat
  /-- Misses of the 10 ms in progress (R157): flags, first beam, layer-PRBs. -/
  missFlags : Nat
  missFirst : Nat
  missCount : Nat
  /-- Layers blanked under T2 as direction, carrier, layer, in the order they were blanked (R128). -/
  blanked : List (Nat × Nat × Nat)
  /-- The removed-path mask the renormalisation in force was computed for (R127), and when the next is due. -/
  normMask : Nat
  normDue : Option Nat
  cov : Tab CovSet
  solves : Tab CovSolve
  /-- Occasion configurations 0–15 (R148), occasions in process (R149), FO entries 0–31 (R155). -/
  acd : Tab AcdCmd
  occasions : List Occasion
  fo : Tab FoCmd
  deriving DecidableEq, Repr

/-- A mute in force on a path (R166 to R168, R252): its cause as event 0x0501 numbers it, and when it began. -/
structure Mute where
  cause : Nat
  at_ : Nat
  deriving DecidableEq, Repr

/-- What Levee has measured of a path (R163, R165, R166): the gains of its last valid dwells, newest first, in
0.01 dB; consecutive dwells over the limit; the last coupler power; valid dwells since the path's start. -/
structure PathDwells where
  gains : List Int
  overs : Nat
  last : Int
  deriving DecidableEq, Repr

/-- New limits that wait for the next frame boundary (R172): words 0–35 and the version. -/
structure PendingLimits where
  words : List Nat
  version : Nat
  deriving DecidableEq, Repr

/-- Levee: fuses, certificates, the meter, mutes, duty and blanking. -/
structure LeveeState where
  /-- The Levee fuse bank, by word (R160); a word not listed is unburnt, zero. -/
  fuses : Tab Nat
  /-- The two certificate slots of the flash (R172): the bytes stored. -/
  slots : Tab (List Nat)
  /-- The slot that holds the certificate in force. -/
  slotInForce : Option Nat
  pending : Option PendingLimits
  dwells : Tab PathDwells
  /-- The path of each tile whose turn it is (R166). -/
  turn : Tab Nat
  /-- Attenuation A_p of each path and A_t, in 0.01 dB (R164). -/
  att : Tab Nat
  attTotal : Nat
  mutes : Tab Mute
  /-- Times of the mutes of each path that count under R167, newest first. -/
  muteTimes : Tab (List Nat)
  /-- Paths held muted until `RSTN`. -/
  held : Nat
  /-- Consecutive reference checks a tile has passed since its receiver failed (R168). -/
  obsPasses : Tab Nat
  /-- TX time of each tile in the current frame, ns, and tiles that reached their duty (R169). -/
  duty : Tab Nat
  dutyHit : Nat
  /-- The symbol in progress: tiles blanked, with their reason (R177). -/
  blankNow : Tab Nat
  /-- Symbols blanked in the current frame, by tile × 8 + reason (R192). -/
  blanks : Tab Nat
  deriving DecidableEq, Repr

/-- A slot pattern (R181): its period in slots and the code of each tick. -/
structure Pattern where
  period : Nat
  codes : List Nat
  deriving DecidableEq, Repr

/-- What drives a tile out of PROTECT (R179, R180): times of its entries, newest first; and when
the last cause ended. -/
structure Protect where
  entries : List Nat
  goneAt : Option Nat
  deriving DecidableEq, Repr

/-- The strobes of a tile and its observation select (R178, R189). -/
structure Strobes where
  trsw : Bool
  lnaProt : Bool
  prot : Bool
  /-- `PA_EN` of the eight paths. -/
  pa : Nat
  obsSel : Nat
  deriving DecidableEq, Repr

/-- The pins of one coexistence pair, true = asserted (R184), and the state of a grant. -/
structure CoexPair where
  req : Bool
  gnt : Bool
  /-- Tile-symbols of the burst in progress blanked for want of a grant, and whether it was withdrawn in the burst. -/
  blanked : Nat
  withdrawn : Bool
  deriving DecidableEq, Repr

/-- An RFFE transfer that waits or runs on a tile's bus (R187, R188): one with `TIMING` = 2 waits for a step 5. -/
structure RffeJob where
  hdr : Hdr
  cmd : RffeCmd
  waitsStep5 : Bool
  deriving DecidableEq, Repr

/-- A calibration of both synthesisers that runs (R175). -/
structure SynthCal where
  cause : Nat
  start : Nat
  hdrs : List Hdr
  deriving DecidableEq, Repr

/-- Consecutive mismatch pairs of a path below the two thresholds (R189). -/
structure MismatchCount where
  warn : Nat
  guard : Nat
  deriving DecidableEq, Repr

/-- A tuner search on a tile (R190): the move being tried is 0 = A + s, 1 = A − s, 2 = B + s, 3 = B − s. -/
structure Search where
  path : Nat
  codeA : Nat
  codeB : Nat
  rl : Nat
  step : Nat
  move : Nat
  moved : Bool
  trials : Nat
  /-- Paths of the command still to be searched after this one. -/
  more : Nat
  deriving DecidableEq, Repr

/-- Radio control. -/
structure RadioState where
  patterns : Tab Pattern
  /-- The pattern each tile follows, and a binding that waits for the next even frame (R181). -/
  bound : Tab Nat
  binding : Tab Nat
  /-- `RCT_TILE_n_TIMING` in force, and a write that waits for the next even frame (R183). -/
  timing : Tab Nat
  timingNext : Tab Nat
  protect : Tab Protect
  /-- The end of the last cause that withheld a burst of each tile, and its reason (R553). -/
  withheld : Tab (Nat × Nat)
  strobes : Tab Strobes
  coex : Tab CoexPair
  rffe : Tab (List RffeJob)
  synth : Option SynthCal
  /-- Junction temperature at the last calibration, 0.125 °C, and since when a drift waits for its gap (R175). -/
  calTemp : Int
  driftSince : Option Nat
  mismatch : Tab MismatchCount
  /-- The tuner codes in use of each path. -/
  codes : Tab (Nat × Nat)
  search : Tab Search
  deriving DecidableEq, Repr

/-- A flow of messages (R201): the last sequence ID accepted or sent, the device time of its last message, its port. -/
structure FhFlow where
  last : Nat
  at_ : Nat
  port : Nat
  deriving DecidableEq, Repr

/-- A pending C-plane section (R204): one section of one layer, its symbols as tick numbers over all frames, and the
PRBs of which U-plane has arrived, as symbol tick, first PRB and count. -/
structure FhSection where
  set : Option Nat
  eaxc : Nat
  uplink : Bool
  kind : Nat
  id : Nat
  carrier : Nat
  layer : Nat
  beam : Nat
  /-- First tick of the first symbol, the ticks a symbol spans, and the number of symbols. -/
  tick : Int
  span : Nat
  symbols : Nat
  startPrb : Nat
  numPrb : Nat
  /-- Non-contiguous allocation (R205): RBG size, RBG mask, symbol mask. -/
  rbg : Option (Nat × Nat × Nat)
  reMask : Nat
  compHdr : Nat
  port : Nat
  /-- Whether an unaccepted extension dropped the section, which blanks its layer there (R205). -/
  blanked : Bool
  arrived : List (Int × Nat × Nat)
  /-- First ticks of the symbols on which the layer is blanked by a page miss or the fetch limit (R126, R134). -/
  missed : List Int
  deriving DecidableEq, Repr

/-- What a carrier and direction uses on the fronthaul (R207, R208, R211). -/
structure FhCfg where
  whole : Bool
  method : Nat
  width : Nat
  static : Bool
  deriving DecidableEq, Repr

/-- The own contribution to one range of one symbol of a set layer, held for the upstream sum (R25, R220). -/
structure OwnSum where
  set : Nat
  carrier : Nat
  layer : Nat
  sectionId : Nat
  startPrb : Nat
  tick : Int
  /-- None where the device has no contribution (R221). -/
  blocks : Option (List PsBlock)
  tainted : Bool
  partialPaths : Bool
  deriving DecidableEq, Repr

/-- A frame in an egress queue (R197). -/
inductive FrameOut where
  | owdm (id action stamp comp : Nat)
  | ptp (kind seq : Nat)
  | forwarded (set seq : Nat)
  | partialSum (set : Nat) (m : PartialSum)
  | uplane (eaxc seq sectionId startPrb numPrb : Nat) (tick : Int) (compHdr : Option Nat) (final : Option (List PsBlock))
  | report (bytes : List Nat)
  | eapol (hello rekey : Bool)
  deriving DecidableEq, Repr

/-- MACsec and MKA of a port (R226 to R228): installed association numbers of each direction, oldest first, the next
transmit packet number, the lowest packet number the replay window admits, and MKA's peer. -/
structure MsecPort where
  txSas : List Nat
  rxSas : List Nat
  txPn : Nat
  rxHigh : Nat
  live : Bool
  heardAt : Nat
  helloAt : Nat
  /-- Whether a new SAK was asked for and is not yet installed, and installed but not yet in use for transmit. -/
  rekeying : Bool
  movePending : Option Nat
  deriving DecidableEq, Repr

/-- A one-way delay measurement of `FH_OWDM` that waits for its response (R202, R229). -/
structure OwdmJob where
  hdr : Hdr
  cmd : FhOwdmCmd
  t1 : Nat
  deriving DecidableEq, Repr

/-- The fronthaul. -/
structure FhState where
  /-- Received flows by message type × 2^20 + eAxC ID (or set × 256 + sender for type 0x40), and sent flows. -/
  flows : Tab FhFlow
  sent : Tab FhFlow
  sections : List FhSection
  /-- By direction × 8 + carrier (direction 0 = downlink). -/
  cfg : Tab FhCfg
  sets : Tab CoopSetCmd
  own : List OwnSum
  /-- Upstream sums that arrived before tick n + 2 (R231). -/
  early : List (Nat × PartialSum)
  /-- Symbols of a set whose partial-set record of R221 gathers its mask: set, tick and mask so far. -/
  finals : List (Nat × Int × Nat)
  /-- The egress queues, by port × 4 + queue. -/
  queues : Tab (List FrameOut)
  msec : Tab MsecPort
  owdm : Tab OwdmJob
  /-- Requests with follow-up received and waiting for the follow-up's time stamp: port × 256 + ID to arrival. -/
  owdmWait : Tab Nat
  /-- Drops in the current 10 ms, by port × 16 + reason (R198). -/
  drops : Tab Nat
  /-- Records held for the next report to the DU (R214). -/
  report : List EventRec
  deriving DecidableEq, Repr

/-- A test pattern on a lane (R263). -/
structure LaneTest where
  pattern : Nat
  addr : Nat
  bits : Nat
  errors : Nat
  lastAt : Nat
  deriving DecidableEq, Repr

/-- A line lane beside its registers (R235 to R260). -/
structure LaneState where
  /-- Device time of the entry into the state it is in. -/
  since : Nat
  /-- End of the back-off wait of `DETECT` (R257). -/
  waitEnd : Nat
  /-- Since when `LOS` holds. -/
  losAt : Nat
  /-- Since when the SNR has stayed at 17.0 dB or more (R254). -/
  snrSince : Option Nat
  ready : Bool
  /-- Consecutive valid training cells with the partner's `RX_READY`, and the device time of the last valid cell. -/
  partnerReady : Nat
  lastCell : Nat
  partnerCount : Option Nat
  countdown : Option Nat
  /-- Consecutive periods with no `SYNC` and its period count (R242, R256). -/
  syncLost : Nat
  period : Nat
  /-- Time stamps of the marker fields sent and received, newest first, by period count (R250). -/
  txMarks : List (Nat × Nat)
  rxMarks : List (Nat × Nat)
  /-- Consecutive good windows, frozen windows, and the start of the freeze in force and whether it was reported
  (R240). -/
  goodWindows : Nat
  frozenWindows : Nat
  freezeAt : Nat
  freezeTold : Bool
  histBusy : Bool
  test : Option LaneTest
  /-- The 64 FFE taps and the MLSE taps h0 to h2 (R237). -/
  ffe : List Int
  mlse : List Int
  /-- Taps before the main tap in use since the last entry into ACQUIRE (`CURSOR`). -/
  cursor : Nat
  /-- The `STATUS` field the lane's training cells report (R253). -/
  status : Nat
  lane : Nat
  /-- Transmit queues of E13 and E14 and their receive queues (R248). -/
  tx13 : List (List Nat)
  tx14 : List (List Nat)
  rx13 : List (List Nat)
  rx14 : List (List Nat)
  /-- Sequence numbers of the cells sent, by type (R246). -/
  seqs : Tab Nat
  deriving DecidableEq, Repr

/-- The fragments of a remote mute order being collected on a port (R252): cells by index, and since when. -/
structure MuteParts where
  since : Nat
  count : Nat
  hops : Nat
  parts : Tab (List Nat)
  deriving DecidableEq, Repr

/-- A line port beside its registers. -/
structure PortState where
  /-- Device time of the last valid heartbeat and whether the neighbour is reachable (R251). -/
  lastBeat : Nat
  reachable : Bool
  /-- The neighbour's device ID, epoch and state flags of its last heartbeat. -/
  neighbour : Nat
  epoch : Nat
  flags : Nat
  /-- Uncorrectable codewords with the device time of the period they came in, within the last 10 ms (R260). -/
  bad : List (Nat × Nat)
  mute : Option MuteParts
  deriving DecidableEq, Repr

/-- The line lanes and ports. -/
structure LineState where
  lanes : Tab LaneState
  ports : Tab PortState
  /-- Paths muted by a remote mute order (R252). -/
  remote : Nat
  /-- Orders refused. -/
  refused : Nat
  lastBeatSent : Nat
  deriving DecidableEq, Repr

/-- A Culvert lane beside its registers (R271, R272, R282, R283). -/
structure CulLane where
  /-- ALIGN blocks seen exactly one period apart since the lane entered LOCK, up to 2. -/
  aligns : Nat
  alignedSince : Option Nat
  inverted : Bool
  /-- Since when a sleep runs, and since when a wake runs (R282, R283). -/
  sleeping : Option Nat
  waking : Option Nat
  /-- A wake asked for while the sleep ran (R283). -/
  wakeNext : Bool
  /-- Since when auto-sleep has not needed the lane. -/
  idleSince : Option Nat
  /-- Removed from the transmit mask because the partner lost it (R276). -/
  failed : Bool
  txMarks : List (Nat × Nat)
  rxMarks : List (Nat × Nat)
  deriving DecidableEq, Repr

/-- A frame in a transmit queue of a Culvert link (R278, R279). -/
inductive CulFrameOut where
  | mgmt (lock aligned : Nat)
  | time (bytes : List Nat)
  | sync (f : PanelSync)
  | set (f : FrameOut)
  | tunnel (member : Nat) (m : TunnelMsg)
  deriving DecidableEq, Repr

/-- A Culvert link beside its registers (R273 to R276). -/
structure CulLink where
  /-- The mask announced in `NEXT_MASK` with its cause as 0x0803 numbers it. -/
  nextMask : Nat
  cause : Nat
  /-- The mask the transmitter announces in its next alignment period. -/
  want : Nat
  period : Nat
  /-- The period count of the partner's last ALIGN block. -/
  rxPeriod : Option Nat
  /-- The partner's announced mask for its next period, and its reported masks (R278). -/
  rxNext : Nat
  peerLock : Nat
  peerAligned : Nat
  peerId : Nat
  idOk : Bool
  mismatchAt : Nat
  /-- The time at which the partner has reported each lane aligned since (R276). -/
  peerSince : Tab Nat
  /-- The four queues: link management, panel sync, set traffic, tunnel (R278). -/
  queues : Tab (List CulFrameOut)
  deriving DecidableEq, Repr

/-- An eye scan that runs (R285). -/
structure EyeScan where
  hdr : Hdr
  mask : Nat
  phi0 : Nat
  phi1 : Nat
  v0 : Nat
  v1 : Nat
  addr : Nat
  deriving DecidableEq, Repr

/-- One direction pair of the tunnel with a member, or with the lead (R287): sequence numbers, messages not yet
acknowledged with the device time they were sent, and the link that carries them. -/
structure TunnelPeer where
  nextSeq : Nat
  expect : Nat
  unacked : List (TunnelMsg × Nat)
  route : Nat
  reachable : Bool
  deriving DecidableEq, Repr

/-- A `CUL_REG` command that waits for its register completions (R290). -/
structure CulRegJob where
  hdr : Hdr
  pos : Nat
  addr : Nat
  /-- Tags still outstanding, each with the entry it fills. -/
  waiting : List (Nat × Nat)
  failed : Bool
  deriving DecidableEq, Repr

/-- The Culvert lanes, links and the panel tunnel. -/
structure CulvertState where
  lanes : Tab CulLane
  links : Tab CulLink
  scan : Option EyeScan
  peers : Tab TunnelPeer
  regJobs : List CulRegJob
  nextTag : Nat
  /-- Since when a member can reach no lead, and whether it has lost it (R289). -/
  leadGoneAt : Option Nat
  leadLost : Bool
  /-- Members that have a tunnel to this lead, and whether another member of lower position leads (R292). -/
  tunnelled : Nat
  standDown : Bool
  /-- `CUL_SLEEP` commands that run, each with the lanes still to finish (R282, R283). -/
  sleeps : List (Hdr × Nat)
  deriving DecidableEq, Repr

/-- What one port's PTP instance holds (R296). Times are in ns × 2^16. -/
structure PtpPort where
  announce : Option AnnounceIn
  announceAt : Nat
  syncAt : Nat
  /-- Since when the port's source has been valid. -/
  validSince : Option Nat
  /-- The last Sync: sequence ID, origin time where known, arrival. -/
  syncSeq : Nat
  t1 : Option Nat
  t2 : Nat
  /-- The Delay_Req outstanding: its sequence ID and departure. -/
  reqSeq : Nat
  t3 : Option Nat
  reqAt : Nat
  /-- Offset from the master and mean path delay, signed. -/
  offset : Int
  delay : Int
  deriving DecidableEq, Repr

/-- A root key with its sequence and distance (R312). -/
structure RootKey where
  epoch : Nat
  ext : Bool
  id : Nat
  seq : Nat
  steps : Nat
  deriving DecidableEq, Repr

/-- A time port (R304 to R311): EAST, WEST, PREV, NEXT. -/
structure TimePort where
  joined : Bool
  /-- Samples of θ and delay gathered since the last update, in ps, newest first. -/
  thetas : List Int
  delays : List Int
  /-- The filtered θ in ps, and whether one has been formed. -/
  theta : Option Int
  /-- The key its neighbour advertises, its neighbour's ID, and when its sequence last advanced. -/
  key : Option RootKey
  sender : Nat
  advancedAt : Nat
  refused : Bool
  deriving DecidableEq, Repr

/-- An over-the-air calibration that runs (R307). -/
structure OtaJob where
  hdr : Hdr
  cmd : OtaCmd
  symbol : Int
  deriving DecidableEq, Repr

/-- The clock, the constellation and over-the-air calibration. -/
structure TimeState where
  /-- The steered frequency offset y in units of 2^-48 (R300), and its mean over the last 100 s (R302). -/
  y : Int
  yMean : Int
  /-- The offset last measured, in ps, and since when it has been within the lock limit. -/
  offset : Int
  within : Option Nat
  /-- Whether the clock has not yet acquired since FREERUN (R301). -/
  fresh : Bool
  slewUntil : Nat
  holdSince : Nat
  ptp : Tab PtpPort
  ppsAt : Option Nat
  ppsSince : Option Nat
  ppsHigh : Bool
  ppsUntil : Nat
  ports : Tab TimePort
  /-- The key followed (R312), the parent port, and when the root's sequence last advanced. -/
  key : RootKey
  parent : Option Nat
  rootAt : Nat
  ownUntil : Option Nat
  /-- Whether the device has stopped standing as candidate (R310). -/
  stoodDown : Bool
  ownSeq : Nat
  /-- Since when external time and the overlay have differed by more than 100 ns (R303). -/
  disagreeSince : Option Nat
  ota : Option OtaJob
  deriving DecidableEq, Repr

/-- An address-generator pointer (R326), with the hidden count of the bit-reverse mode. -/
structure Ptr where
  addr : Nat
  base : Nat
  len : Nat
  step : Int
  mode : Nat
  count : Nat
  deriving DecidableEq, Repr

/-- A hardware loop level: first and last bundle and the passes left (R332). -/
structure HwLoop where
  first : Nat
  last : Nat
  left : Nat
  deriving DecidableEq, Repr

/-- The registers of an engine (R323): g0 to g15, a0 to a7, the pointers, `BEX`, `TAPC`, the loops and the program
counter. -/
structure EngRegs where
  g : List Nat
  acc : List Int
  ptrs : List Ptr
  bex : Nat
  tapc : Nat
  loops : List HwLoop
  pc : Nat
  deriving DecidableEq, Repr

/-- A kernel image that Seawall has verified (R342), with its partition (R343). -/
structure Kernel where
  hook : Nat
  extMask : Nat
  budget : Nat
  period : Nat
  entry : Nat
  version : Nat
  wFirst : Nat
  wCount : Nat
  code : List Nat
  data : List Nat
  progPage : Nat
  progPages : Nat
  dataPage : Nat
  dataPages : Nat
  deriving DecidableEq, Repr

/-- A load or unload that waits for its slot boundary (R348): the command, whose completion waits for every tile of its
mask (none once it was superseded), and the kernel (none for an unload). -/
structure KernelPending where
  hdr : Option Hdr
  kernel : Option Kernel
  deriving DecidableEq, Repr

/-- One signal engine beside its registers in the register map (R321 to R346). -/
structure Engine where
  r : EngRegs
  /-- The program memory: byte 8 × b is the first of bundle b (R330). -/
  prog : Memory
  /-- The verified image the engine runs, which a restart loads again (R338). -/
  image : List Nat
  /-- Firmware's registers, and the `WAIT` it stands in, while a kernel invocation runs (R343). -/
  saved : Option (EngRegs × Option (Nat × Nat))
  /-- The register that `WAIT` reports to and its mask (R333). -/
  wait : Option (Nat × Nat)
  /-- The service a `TRAP` asked for and that has not been done (R345). -/
  trap : Option Nat
  /-- Device time of the last `WAIT`, `TRAP` or `RETK` (R337). -/
  yieldAt : Nat
  /-- Device times of the faults that count under R340, newest first. -/
  faults : List Nat
  /-- The mode a change that waits goes to, and the commands that asked for it (R335). -/
  modeNext : Option (Nat × List Hdr)
  /-- Whether the host has asked for Maintenance (R335). -/
  hostMaint : Bool
  kernel : Option Kernel
  /-- Whether the kernel is disabled on the engine by a fault (R346), and its ECC faults (R347). -/
  kernelOff : Bool
  kernelEcc : Nat
  kpend : Option KernelPending
  /-- Device times and cycles of the kernel's bundles of the last 10 ms, newest first (R344); the slot in which the kernel was placed, for
  `HOOK` 2. -/
  kRun : List (Nat × Nat)
  kSlots : Nat
  /-- Device times of the kernel events of the last second, newest first (R345). -/
  events : List Nat
  deriving DecidableEq, Repr

/-- The sixteen engines, and the messages in the E14 mailbox as engine and service. -/
structure EngState where
  engines : Tab Engine
  mailbox : List (Nat × Nat)
  deriving DecidableEq, Repr

/-- A descriptor being executed (R379 to R388): its `CTRL` word, how it ends (status, where, first failed element), the
bytes moved, whether it raises a done event, and the writes that become visible at its end, in the order they occur:
whether to the device, address, bytes. -/
structure SluJob where
  ctrl : Nat
  status : Nat
  where_ : Nat
  index : Nat
  moved : Nat
  irq : Bool
  writes : List (Bool × Nat × List Nat)
  deriving DecidableEq, Repr

/-- A Sluice channel beside its registers. -/
structure SluChan where
  job : Option SluJob
  /-- Descriptors marked bad since the chain started. -/
  bads : List Nat
  /-- Device time of the next `CTRL` read while polling (R383). -/
  pollAt : Nat
  /-- Stops that wait for the descriptor in progress (R391). -/
  stop : List Hdr
  deriving DecidableEq, Repr

/-- Sluice. -/
structure SluState where
  chans : Tab SluChan
  deriving DecidableEq, Repr

/-- An operation Seawall runs or holds (R412, R414): a ring command, or a remote mute order that came by the overlay
with the port it came on and the hops it has taken. -/
inductive SeaJob where
  | cmd (hdr : Hdr) (cmd : Cmd)
  | mute (port : Nat) (order : List Nat) (hops : Nat)
  deriving DecidableEq, Repr

/-- An accepted CAK (R409, R410): a handle of the key, its CKN. -/
structure CakRecord where
  ckn : List Nat
  cak : List Nat
  deriving DecidableEq, Repr

/-- Seawall: the fuse bank, the records it keeps in flash, and its operations. -/
structure SeaState where
  /-- The Seawall fuse bank, by word (R394); a word not listed is unburnt, zero. -/
  fuses : Tab Nat
  running : Option SeaJob
  queue : List SeaJob
  /-- The identity record and the endorsement in the flash identity partition (R404, R405), and the record in force. -/
  idRecord : List Nat
  endorsement : List Nat
  /-- CAK of each line port, and the last accepted delivery counter (R410). -/
  caks : Tab CakRecord
  cakCounter : Nat
  /-- The remote mute counter; none while its record is absent (R410). -/
  muteCounter : Option Nat
  /-- SHA-512 of the image each engine runs, and of the kernel of each tile (16 + tile) (R401). -/
  measures : Tab (List Nat)
  /-- Root key under which the class-0 image that runs was accepted (R403). -/
  rootKey : Nat
  retired : Bool
  /-- An entropy failure without its 16 consecutive passes yet (R397). -/
  entropyBad : Bool
  deriving DecidableEq, Repr

/-- An image slot of the flash (R428): whether its `MAGIC` is right, its header fields, and the bytes of its six
images. -/
structure Slot where
  magicOk : Bool
  gen : Nat
  state : Nat
  tries : Nat
  images : List (List Nat)
  deriving DecidableEq, Repr

/-- A flash update in progress (R431): its kind, slot written, the bytes fetched, and when the window closed it. -/
structure UpdateJob where
  kind : Nat
  slot : Nat
  data : List Nat
  deriving DecidableEq, Repr

/-- A full calibration in progress (R438, R439): the tile, when it began, whether it is the retry, and the command that
waits for it. -/
structure CalJob where
  tile : Nat
  start : Nat
  retry : Bool
  deriving DecidableEq, Repr

/-- Reset, the flash and bring-up. -/
structure BootState where
  /-- The level of `RSTN`, and whether the internal supplies are good (R419). -/
  rstnHigh : Bool
  supplyOk : Bool
  testEn : Bool
  /-- Device time of t0, and the last step of the timeline reached (R433). -/
  t0 : Nat
  step : Nat
  /-- The two image slots, A and B, and the slot that runs. -/
  slots : Tab Slot
  slot : Option Nat
  /-- The configuration record in the flash (R427), and the path and boot tile in force. -/
  config : List Nat
  tunnel : Bool
  bootTile : Nat
  refCfg : Nat
  update : Option UpdateJob
  cal : Option CalJob
  /-- Tiles that failed their calibration and its retry, and whether the boot tile is still on provisional
  calibration (R437, R439). -/
  failed : Nat
  provisional : Bool
  /-- Junction temperature at the last full calibration of each tile, 0.125 °C (R444). -/
  calTemp : Tab Int
  /-- Rails out of tolerance: bit 0 `VDDA_CONV`, 1 `VDDA_HI`, 2 `VDD_LANE` (R420). -/
  railsOut : Nat
  refLost : Bool
  /-- The epoch and the identity of the flash as E14 last wrote them, and an epoch held in RAM while the window is
  closed (R314, R461). -/
  epochFlash : Nat
  epochHeld : Option Nat
  muteFlash : Option Nat
  muteHeld : Bool
  deriving DecidableEq, Repr

/-- A gating or ungating of one tile that runs or waits (R444, R447, R450, R552): to power or to gate, when it was
asked for, the numbers of the commands that wait for it, and its cause as 0x0F01 numbers it. -/
structure TileJob where
  on : Bool
  at_ : Nat
  cmds : List Nat
  cause : Nat
  deriving DecidableEq, Repr

/-- A command that waits for tiles: `TILE_STATE`, or `PWR_STATE` to ACTIVE or LIGHT. -/
structure TileCmd where
  hdr : Hdr
  op : Nat
  target : Nat
  mask : Nat
  left : Nat
  failed : Nat
  start : Nat
  deriving DecidableEq, Repr

/-- A `PWR_STATE` request (R447, R463). -/
structure PwrReq where
  hdr : Hdr
  target : Nat
  mask : Nat
  sources : Nat
  timer : Nat
  start : Nat
  deriving DecidableEq, Repr

/-- The sentinel on `VSTBY` (R446): its wake setting, cause and `PWR_EN`. -/
structure Sentinel where
  sources : Nat
  timer : Nat
  cause : Nat
  pwrEn : Bool
  /-- Whether the next boot is the exit from DORMANT. -/
  woken : Bool
  deriving DecidableEq, Repr

/-- Power states and thermal management. -/
structure PwrState where
  /-- The request in progress and the one queued; the exit from POLDER in progress with its cause. -/
  req : Option PwrReq
  queue : Option PwrReq
  exit : Option (Nat × Nat)
  tiles : Tab TileJob
  tileQ : Tab TileJob
  cmds : Tab TileCmd
  cmdNo : Nat
  sentinel : Sentinel
  /-- Device time of the last step of the core supply code (R453). -/
  avsAt : Nat
  /-- Since when more tiles are powered than R449 needs. -/
  surplusSince : Option Nat
  /-- Since when the highest reading has been below the current threshold minus `HYST` (R456), since when the level has
  been T1 or lower (R458), and when T3 last gated a tile. -/
  belowSince : Option Nat
  coolSince : Option Nat
  gatedAt : Nat
  /-- Tiles gated by T3. -/
  t3Mask : Nat
  /-- Device time of the last sweep of the forty sensors. -/
  sweepAt : Nat
  /-- Whether all four trip comparators read below 105 °C (R460). -/
  cool : Bool
  tripped : Bool
  deriving DecidableEq, Repr

/-- A conversion that runs (R469, R470): its class (1 system, 2 injected, 3 regular), its channel, the device time at
which it began (the settling time included) and ends, and whether it runs on a fixed T_m while `MAINS_MODE` is TRACK. -/
structure Conversion where
  cls : Nat
  chan : Nat
  start : Nat
  stop : Nat
  untracked : Bool
  deriving DecidableEq, Repr

/-- A pass of a sequence (R472 to R477): the entries as they stood at its start, the entry in work, the codes converted
for it, aborts in the pass of the conversion in work, the flags its result will carry, and the command that asked. -/
structure Pass where
  entries : List Nat
  entry : Nat
  codes : List Int
  aborts : Nat
  restarted : Bool
  overRange : Bool
  untracked : Bool
  first : Bool
  hdr : Option Hdr
  deriving DecidableEq, Repr

/-- The housekeeping converter beside its registers. -/
structure HkaState where
  conv : Option Conversion
  /-- Channel of the conversion before, and the end of an integrator reset or discharge. -/
  lastChan : Option Nat
  resetUntil : Nat
  reg : Option Pass
  inj : Option Pass
  /-- A held injected trigger, with the command that raised it (R473). -/
  held : Option (Option Hdr)
  /-- System conversions that wait: channel and the device time before which it must not start (R471, R479). -/
  sys : List (Nat × Nat)
  /-- Whether the next result of each class is to be marked `SUSPECT` (R478). -/
  suspect : Tab Bool
  /-- Next expiry of the two sequence timers, and the ends of the delays that run (R474). -/
  timers : Tab Nat
  delays : List (Nat × Nat)
  /-- Mains tracking: the last edge, the last 8 intervals in 0.1 µs, newest first. -/
  edge : Option Nat
  intervals : List Nat
  ignored : Nat
  missed : Nat
  starved : Nat
  sweepAt : Nat
  deriving DecidableEq, Repr

/-- A configured stream (R485, R486) and its segment in use; the device time of its first kept sample. -/
structure GauStream where
  cfg : GauStreamCmd
  seg : Nat
  t0 : Nat
  deriving DecidableEq, Repr

/-- A capture (R488), held under its source stream. -/
structure Capture where
  hdr : Hdr
  cfg : GauArmCmd
  /-- Whether its `GAU_ARM` has not completed yet. -/
  open_ : Bool
  armedAt : Nat
  /-- The frame-time condition in device time. -/
  frameAt : Int
  /-- Conditions 0, 1, 6 and 7 that have come and wait for the next kept sample, with the time of the earliest. -/
  pend : Nat
  trigMap : Nat
  trigAt : Nat
  triggered : Bool
  cut : Bool
  trip : Bool
  missed : Nat
  /-- The spectral mask in force for it (R489). -/
  mask : List Nat
  /-- Records written and not yet visible: stream, record number, flags, host and device address, header and data. -/
  records : List (Nat × Nat × Nat × List Nat)
  writtenAt : Nat
  /-- Why the capture ended, once a stop, a tap stop or a trip has cut it. -/
  cause : Option Nat
  deriving DecidableEq, Repr

/-- Gauge. -/
structure GauState where
  streams : Tab GauStream
  caps : Tab Capture
  mask : Option (List Nat)
  deriving DecidableEq, Repr

/-- A telemetry set-up in force (R504). -/
structure Telemetry where
  k : Nat
  block : Nat
  addr : Nat
  seq : Nat
  lastAt : Nat
  /-- Counts at the start of the interval: transients, corrected errors, overruns. -/
  baseTrans : Nat
  baseCorr : Nat
  baseOvr : Nat
  /-- Smallest tick slack of the interval so far, ns. -/
  margin : Nat
  deriving DecidableEq, Repr

/-- A dump being made by the routine of the boot ROM (R508). -/
structure DumpJob where
  cause : Nat
  engine : Nat
  detected : Nat
  test : Option Hdr
  region : Option (Nat × Nat × Bool)
  unsig : Bool
  /-- Retries made while neither destination can be written (R509). -/
  retries : Nat
  deriving DecidableEq, Repr

/-- One of the two slots of the DUMP partition (R509). -/
structure DumpSlot where
  erased : Bool
  data : List Nat
  seq : Nat
  deriving DecidableEq, Repr

/-- Fault windows, removed paths, telemetry, the log and the dump (R500 to R513). -/
structure FltState where
  /-- Device times of the recent faults of one source, newest first; the key is class × 65,536 + source. -/
  windows : Tab (List Nat)
  /-- The scrubber's pointer into the 64 MiB of SRAM (R501). -/
  scrubPtr : Nat
  /-- Device times of the removals of each path, newest first, for the third-removal rule of R503. -/
  removals : Tab (List Nat)
  /-- Paths held removed until `RSTN`. -/
  heldPaths : Nat
  /-- Paths whose removal reaches the outputs at the next tick boundary (R502 step 1). -/
  removing : Nat
  /-- Paths whose store test is running, with the command that asked. -/
  testing : List (Hdr × Nat × Nat)
  /-- Paths that passed their test and return at the tile's next entry to STANDBY. -/
  restored : Nat
  telemetry : Option Telemetry
  /-- The flash log, newest record first, and the records held in RAM while it is stopped (R506). -/
  log : List EventRec
  logHeld : List EventRec
  /-- Sector being filled, records in it, erase count of each sector (R505). -/
  logSector : Nat
  logFill : Nat
  logErase : Tab Nat
  /-- The token bucket in units of 10^−7 record, and when it was last filled. -/
  bucket : Nat
  bucketAt : Nat
  logSkipped : Nat
  /-- Host region for a dump: address, length, `FULL_MEM`. -/
  region : Option (Nat × Nat × Bool)
  dump : Option DumpJob
  dumpSlots : Tab DumpSlot
  /-- Dumps written since commissioning (kept in flash). -/
  dumpSeq : Nat
  /-- A dump record to raise at the next boot: cause, destination, flags, length. -/
  dumpNotice : Option (Nat × Nat × Nat × Nat)
  deriving DecidableEq, Repr

/-- The instruction of the test access port (R537). -/
inductive JtagIr where
  | bypass | idcode | samplePreload | extest | extestPulse | extestTrain | clamp | highz
  deriving DecidableEq, Repr

/-- The package's management and test interfaces (R532 to R537). -/
structure PkgState where
  /-- Lines the console has sent for event records and milestones (R536). -/
  console : Nat
  /-- The levels of the address straps, and the SMBus address they gave when `RSTN` last rose (R532). -/
  straps : Nat
  smbAddr : Nat
  /-- The register the last command 0x10 named, and the last bytes the SMBus target returned (R534, R535). -/
  smbOffset : Nat
  smbOut : List Nat
  /-- The instruction in force, the boundary register, and whether the pins are driven from it or floated. -/
  ir : JtagIr
  boundary : List Bool
  /-- The bits that the data register selected last has captured, the first shifted out first. -/
  captured : List Bool
  /-- The level of `GAUGE_TRIG`. -/
  gaugeTrig : Bool
  deriving DecidableEq, Repr

/-- The whole device. -/
structure State where
  /-- The commands that wait, first in, first out. -/
  pending : List Instr
  /-- Every software-visible register, at its BAR0 offset (R540, R548). -/
  regs : RegFile
  /-- Device time in whole nanoseconds since its epoch (R293). -/
  now : Nat
  /-- Bits [15:0] of device time: fractions of a nanosecond in 2^-16 ns (R293). -/
  frac : Nat
  /-- The model's own counter: the free values of Config are applied to it. No statement rests on its value. -/
  free : Nat
  /-- Host memory as the device sees it. -/
  hostMem : Memory
  /-- The device address space that Sluice reaches (R378): capture memory, beam banks, engine memories, loopback. -/
  devMem : Memory
  /-- The host interface. -/
  host : HostState
  /-- The tick grid. -/
  arch : ArchState
  /-- Transmit chains, DPD banks and bias DACs. -/
  tx : TxState
  /-- Receive chains, extraction and decimator synchronisation. -/
  rx : RxState
  /-- Beamformer, covariance and access detector. -/
  beam : BeamState
  /-- Levee. -/
  levee : LeveeState
  /-- Radio control, coexistence, RFFE, synthesisers and tuners. -/
  rct : RadioState
  /-- Fronthaul, MACsec and combining. -/
  fh : FhState
  /-- Line lanes and ports. -/
  line : LineState
  /-- Culvert lanes, links and the tunnel. -/
  cul : CulvertState
  /-- The clock and the constellation. -/
  tim : TimeState
  /-- The signal engines. -/
  eng : EngState
  /-- Sluice DMA. -/
  slu : SluState
  /-- Seawall. -/
  sea : SeaState
  /-- Reset, the flash and bring-up. -/
  boot : BootState
  /-- Power states and thermal management. -/
  pwr : PwrState
  /-- The housekeeping converter. -/
  hka : HkaState
  /-- The capture engine. -/
  gau : GauState
  /-- Faults, telemetry, log and dump. -/
  flt : FltState
  /-- Management and test interfaces. -/
  pkg : PkgState
  deriving DecidableEq, Repr

/-- Why a step stops with a fault. The model raises none of its own: the spec gives every failed access an action
(R36), and every address of the register map an answer (R541). -/
inductive Fault where
  /-- Reserved for an access to an address outside the spaces the spec gives; no meaning raises it. Safe. -/
  | badAddress (a : Nat)
  deriving DecidableEq, Repr

/-- Why a command has no meaning. -/
inductive Refusal where
  /-- The row named has no meaning yet. Safe: nothing can be proved of a run past it. -/
  | notModelled (mnemonic : String)
  deriving DecidableEq, Repr

/-- The host interface after reset. -/
def HostState.initial : HostState :=
  ⟨[], [], 0, [], 0, 0, [], true, true, [], [], [], 0, []⟩

/-- The tick grid after reset: the reset values of `TIM_REF_NUM` are in force (R17). -/
def ArchState.initial : ArchState := ⟨none, none, 1, 0, 4⟩

/-- The transmit chains after reset: no carrier, no tone, the identity DPD banks of R63. -/
def TxState.initial : TxState :=
  ⟨[], [], [], [], [], [], [], [], [], [], [], [], [], [], [], 0, false⟩

/-- The receive chains after reset. -/
def RxState.initial : RxState :=
  ⟨[], [], [], [], [], [], [], [], [], [], none, [], none, []⟩

/-- The beamformer after reset. -/
def BeamState.initial : BeamState :=
  ⟨[], [], [], none, [], none, none, none, [], 0, 0, 0, 0, 0, [], 0, none, [], [], [], [], []⟩

/-- Levee after reset: the starting attenuation of each path is 10 dB (R165). -/
def LeveeState.initial : LeveeState :=
  ⟨[], [], none, none, [], [], [], 0, [], [], 0, [], [], 0, [], []⟩

/-- Radio control after reset. -/
def RadioState.initial : RadioState :=
  ⟨[], [], [], [], [], [], [], [], [], [], none, 0, none, [], [], []⟩

/-- The fronthaul after reset. -/
def FhState.initial : FhState := ⟨[], [], [], [], [], [], [], [], [], [], [], [], [], []⟩

/-- The line lanes after reset. -/
def LineState.initial : LineState := ⟨[], [], 0, 0, 0⟩

/-- The Culvert lanes after reset. -/
def CulvertState.initial : CulvertState := ⟨[], [], none, [], [], 0, none, false, 0, false, []⟩

/-- The clock after reset (R293, R302): FREERUN, no source. -/
def TimeState.initial : TimeState :=
  ⟨0, 0, 0, none, true, 0, 0, [], none, none, false, 0, [], ⟨0, false, 0, 0, 0⟩, none, 0, none, false, 0, none, none⟩

/-- The engines after reset: held in reset. -/
def EngState.initial : EngState := ⟨[], []⟩

/-- Sluice after reset: every channel IDLE. -/
def SluState.initial : SluState := ⟨[]⟩

/-- Seawall with an unburnt fuse bank and no record in the flash. -/
def SeaState.initial : SeaState := ⟨[], none, [], [], [], [], 0, none, [], 0, false, false⟩

/-- The part under reset, with an empty flash. -/
def BootState.initial : BootState :=
  ⟨false, true, false, 0, 0, [], none, [], false, 0, 0, none, none, 0, false, [], 0, false, 0, none, none, false⟩

/-- The power state after reset: every tile gated (R443). -/
def PwrState.initial : PwrState :=
  ⟨none, none, none, [], [], [], 0, ⟨0, 0, 0, true, false⟩, 0, none, none, none, 0, 0, 0, true, false⟩

/-- The housekeeping converter after reset. -/
def HkaState.initial : HkaState := ⟨none, none, 0, none, none, none, [], [], [], [], none, [], 0, 0, 0, 0⟩

/-- Gauge after reset. -/
def GauState.initial : GauState := ⟨[], [], none⟩

/-- Faults, telemetry and the dump with nothing recorded; the token bucket of R505 is full. -/
def FltState.initial : FltState :=
  ⟨[], 0, [], 0, 0, [], 0, none, [], [], 0, 0, [], 10000000000, 0, 0, none, none, [], 0, none⟩

/-- The management interfaces after reset. -/
def PkgState.initial : PkgState := ⟨0, 0, 0x58, 0, [], .bypass, [], [], false⟩

/-- The registers whose reset word is not zero, with that word, from the reset columns of the register tables. -/
def resetWords : List (Nat × Nat) :=
  [(Reg.DEV_IDENT, 1678246160)] ++
  [(Reg.DEV_RESET_CAUSE, 1)] ++
  [(Reg.DEV_TICK_STAT, 65535)] ++
  [(Reg.PWR_STAT, 65281)] ++
  [(Reg.PWR_POLICY, 168886272)] ++
  [(Reg.PWR_AVS, 18745876)] ++
  [(Reg.CLK_SYN_CTL, 665601)] ++
  [(Reg.TIM_REF_NUM, 1025)] ++
  [(Reg.TIM_CTL, 2155878408)] ++
  [(Reg.TIM_PPS_CFG, 25600)] ++
  [(Reg.TIM_SYNC_CTL, 4098)] ++
  (List.range 64).map (fun r => (Reg.HRG_RING_CFG r, 65536 * r + 8)) ++
  (List.range 64).map (fun r => (Reg.HRG_RING_STAT r, 65536)) ++
  (List.range 64).map (fun v => (0x08400C + 16 * v, 1)) ++
  (List.range 8).map (fun n => (Reg.TIL_TX_CFG n, 22528)) ++
  (List.range 8).map (fun n => (Reg.TIL_CFR_CTL n, 370727)) ++
  (List.range 8).map (fun n => (Reg.TIL_DPD_CTL n, 4607)) ++
  (List.range 8).flatMap (fun n => (List.range 16).map fun k => (Reg.TIL_BIAS_CFG n k, 5)) ++
  (List.range 8).map (fun n => (Reg.TIL_BIAS_TRIG n, 65336)) ++
  (List.range 8).map (fun n => (Reg.TIL_RX_CFG n, 2)) ++
  [(Reg.BFM_CFG, 2048)] ++
  [(Reg.BFM_CAP, 25600)] ++
  [(Reg.FTH_CFG, 603980808)] ++
  [(Reg.FTH_EAXC_CFG, 25396)] ++
  [(Reg.FTH_VLAN, 286720)] ++
  (List.range 2).map (fun k => (Reg.FTH_MSEC_CTL k, 67141636)) ++
  (List.range 8).map (fun n => (Reg.LIN_CTL n, 139)) ++
  (List.range 8).map (fun n => (Reg.LIN_STAT n, 288)) ++
  (List.range 8).map (fun n => (Reg.LIN_TXFFE n, 15312704)) ++
  (List.range 8).map (fun n => (Reg.LIN_TXLVL n, 10794)) ++
  (List.range 8).map (fun n => (Reg.LIN_RXEQ n, 136)) ++
  (List.range 2).map (fun k => (Reg.LIN_PORT_CFG k, 8)) ++
  [(Reg.CUL_CFG, 472)] ++
  (List.range 8).map (fun n => (Reg.RCT_TILE_TIMING n, 2182361620)) ++
  (List.range 8).map (fun n => (Reg.RCT_TILE_CFG n, 1051136)) ++
  (List.range 2).map (fun k => (Reg.RCT_COEX_CFG k, 168427520)) ++
  [(Reg.RCT_AER_CFG, 675026984)] ++
  [(Reg.HKA_MAINS, 200000)] ++
  (List.range 2).map (fun k => (Reg.HKA_TRIG k, 1000)) ++
  (List.range 64).map (fun e => (Reg.HKA_REG e, 75)) ++
  (List.range 8).map (fun e => (Reg.HKA_INJ e, 75)) ++
  [(Reg.THM_LIMITS, 74213734)] ++
  (List.range 16).map (fun n => (Reg.ENG_STAT n, 8))

/-- The register file after reset. -/
def resetRegs : RegFile := resetWords.foldl (fun m p => Sparse.write m p.1 (BitVec.ofNat 32 p.2)) []

/-- The machine right after a power-on reset. -/
def State.reset : State where
  pending := []
  regs := resetRegs
  now := 0
  frac := 0
  free := 0
  hostMem := []
  devMem := []
  host := HostState.initial
  arch := ArchState.initial
  tx := TxState.initial
  rx := RxState.initial
  beam := BeamState.initial
  levee := LeveeState.initial
  rct := RadioState.initial
  fh := FhState.initial
  line := LineState.initial
  cul := CulvertState.initial
  tim := TimeState.initial
  eng := EngState.initial
  slu := SluState.initial
  sea := SeaState.initial
  boot := BootState.initial
  pwr := PwrState.initial
  hka := HkaState.initial
  gau := GauState.initial
  flt := FltState.initial
  pkg := PkgState.initial

end Sys2Proof.Machine
end

