-- ==== Sys2Proof/Machine/Ops.lean ====
section
/-! DEFINITION. The named operations every meaning is built from: register fields, device and air time, event and
completion records, the timed store, and the acceptance of a ring command. -/
namespace Sys2Proof.Machine
open Sys2Proof

/-! ## Registers -/

/-- The word of the register file at an offset. -/
def State.rd (s : State) (off : Nat) : Nat := (s.regs.read off).toNat

/-- Write a word of the register file. -/
def State.wr (s : State) (off v : Nat) : State := { s with regs := s.regs.write off (BitVec.ofNat 32 v) }

/-- The value of a field. -/
def State.get (s : State) (f : Field) : Nat := bits (s.rd f.reg) f.lsb f.width

/-- Set a field, whatever its access code: how the device itself updates its registers. -/
def State.put (s : State) (f : Field) (v : Nat) : State := s.wr f.reg (putBits (s.rd f.reg) f.lsb f.width v)

/-- Whether a one-bit field is 1. -/
def State.on (s : State) (f : Field) : Bool := s.get f == 1

/-- Set a one-bit field to 1. -/
def State.setF (s : State) (f : Field) : State := s.put f 1

/-- A value of two consecutive registers (R33). -/
def State.rd64 (s : State) (off : Nat) : Nat := s.rd off + 2 ^ 32 * s.rd (off + 4)

/-- Write a value of two consecutive registers. -/
def State.wr64 (s : State) (off v : Nat) : State := (s.wr off v).wr (off + 4) (v / 2 ^ 32)

/-- Add to a 64-bit counter, modulo 2^64. -/
def State.add64 (s : State) (off n : Nat) : State := s.wr64 off ((s.rd64 off + n) % 2 ^ 64)

/-- Bit `i` of a 64-bit register pair. -/
def State.bit64 (s : State) (off i : Nat) : Bool := bit (s.rd64 off) i

/-- Set or clear bit `i` of a 64-bit register pair. -/
def State.putBit64 (s : State) (off i : Nat) (b : Bool) : State := s.wr64 off (putBit (s.rd64 off) i b)

/-- Add to a counter field, saturating at its width. -/
def State.satAdd (s : State) (f : Field) (n : Nat) : State := s.put f (min (s.get f + n) (2 ^ f.width - 1))

/-- A fresh free value: the counter the opaque values of `Config` are applied to moves on. -/
def State.fresh (s : State) : State := { s with free := s.free + 1 }

/-- Apply a function to the state for each element of a list, in order. -/
def State.each {α : Type} (s : State) (l : List α) (f : State → α → State) : State := l.foldl f s

/-- Apply a change only where a condition holds. -/
def State.when (s : State) (c : Bool) (f : State → State) : State := if c then f s else s

/-! ## Memory -/

/-- Write bytes of host memory. -/
def State.hostWrite (s : State) (a : Nat) (l : List Nat) : State := { s with hostMem := s.hostMem.writeBytes a l }

/-- Read bytes of host memory. -/
def State.hostRead (s : State) (a n : Nat) : List Nat := s.hostMem.readBytes a n

/-- Write bytes of the device address space. -/
def State.devWrite (s : State) (a : Nat) (l : List Nat) : State := { s with devMem := s.devMem.writeBytes a l }

/-- Read bytes of the device address space. -/
def State.devRead (s : State) (a n : Nat) : List Nat := s.devMem.readBytes a n

/-! ## Device time, air time and the tick grid (R293, R294, R17) -/

/-- The device time of event and completion records: whole nanoseconds modulo 2^64. -/
def State.timeNs (s : State) : Nat := s.now % 2 ^ 64

/-- The signed air-time offset in ns (R295). -/
def State.airOfs (s : State) : Int := sx 64 (s.rd64 Reg.TIM_AIR_OFS)

/-- Air time in ns (R294). -/
def State.airNs (s : State) : Int := (s.now : Int) - (Config.gpsEpoch : Int) * 10 ^ 9 - s.airOfs

/-- The frame count of a moment of air time. -/
def frameOf (air : Int) : Int := air / 10 ^ 7

/-- Nanoseconds into the frame. -/
def inFrame (air : Int) : Nat := (air % 10 ^ 7).toNat

/-- The frame count now. -/
def State.frame (s : State) : Int := frameOf s.airNs

/-- Ticks per frame at a numerology (R358). -/
def ticksPerFrame (mu ecp : Nat) : Nat := if ecp = 1 then 480 else 140 * 2 ^ mu

/-- Ticks per slot. -/
def ticksPerSlot (ecp : Nat) : Nat := if ecp = 1 then 12 else 14

/-- Start of tick `k` of a frame, in Tc of 1 / 1.96608 GHz (R17, R294): the cyclic prefix is longer by 1,024 Tc on the
first symbol of each half-subframe. -/
def tickOffTc (mu ecp k : Nat) : Nat :=
  if ecp = 1 then k * 40960
  else
    let per := 7 * 2 ^ mu
    k / per * 983040 + (if k % per = 0 then 0 else 1024) + k % per * (140288 / 2 ^ mu)

/-- Start of tick `k` of a frame, in ns: the first whole nanosecond not before it (15,625 ns are 30,720 Tc). -/
def tickOffNs (mu ecp k : Nat) : Nat := ceilDiv (tickOffTc mu ecp k * 15625) 30720

/-- The tick in progress `ns` into a frame. -/
def tickAt (mu ecp ns : Nat) : Nat :=
  if ecp = 1 then ns * 30720 / 15625 / 40960
  else
    let per := 7 * 2 ^ mu
    let h := ns / 500000
    let tc := (ns % 500000) * 30720 / 15625
    let long := 140288 / 2 ^ mu + 1024
    h * per + (if tc < long then 0 else 1 + (tc - long) / (140288 / 2 ^ mu))

/-- The tick of the frame now in progress. -/
def State.tick (s : State) : Nat := tickAt s.arch.mu s.arch.ecp (inFrame s.airNs)

/-- Ticks per frame on the grid in force. -/
def State.tpf (s : State) : Nat := ticksPerFrame s.arch.mu s.arch.ecp

/-- Ticks per slot on the grid in force. -/
def State.tps (s : State) : Nat := ticksPerSlot s.arch.ecp

/-- The number of the tick now in progress, counted over all frames. -/
def State.absTick (s : State) : Int := s.frame * s.tpf + s.tick

/-- Air time, in ns, at which tick number `n` over all frames begins. -/
def State.tickStart (s : State) (n : Int) : Int :=
  n / s.tpf * 10 ^ 7 + tickOffNs s.arch.mu s.arch.ecp (n % s.tpf).toNat

/-- Device time, in ns, of a moment of air time. -/
def State.devTime (s : State) (air : Int) : Int := air + (Config.gpsEpoch : Int) * 10 ^ 9 + s.airOfs

/-- Device time at which tick number `n` begins. -/
def State.tickTime (s : State) (n : Int) : Nat := (s.devTime (s.tickStart n)).toNat

/-- Whether a tick number is the first of a slot of the reference numerology. -/
def State.slotStart (s : State) (n : Int) : Bool := n % (s.tps : Int) == 0

/-- The first slot start at or after tick number `n`. -/
def State.nextSlot (s : State) (n : Int) : Int := (n + s.tps - 1) / s.tps * s.tps

/-- The first tick number of the next frame. -/
def State.nextFrameTick (s : State) : Int := (s.frame + 1) * s.tpf

/-- Whether the tick in progress is the first of a slot of the reference numerology. -/
def State.atSlot (s : State) : Bool := s.slotStart s.absTick

/-- Whether the tick in progress is the first of its frame. -/
def State.atFrame (s : State) : Bool := s.tick == 0

/-- Whether device time has reached `t`. -/
def State.due (s : State) (t : Nat) : Bool := decide (t ≤ s.now)

/-- One nanosecond of device time in which no command comes (the spec's own sequencers act at the rows that name
them). -/
def State.idle (s : State) : State := { s with now := s.now + 1 }

/-! ## Event records (R369 to R371, R436, R505, R214, R536) -/

/-- Entries of a ring (R352). -/
def State.ringN (s : State) (r : Nat) : Nat := 2 ^ s.get (Reg.HRG_RING_CFG_LOG2SIZE r)

/-- The device's position on a ring, as R356 counts positions: `PHASE` × N + `INDEX`. -/
def State.ringPos (s : State) (r : Nat) : Nat :=
  s.get (Reg.HRG_RING_STAT_POS_PHASE r) * s.ringN r + s.get (Reg.HRG_RING_STAT_POS r)

/-- Move the device's position on a ring. -/
def State.setRingPos (s : State) (r x : Nat) : State :=
  let n := s.ringN r
  (s.put (Reg.HRG_RING_STAT_POS r) (x % n)).put (Reg.HRG_RING_STAT_POS_PHASE r) (x / n % 2)

/-- What the device keeps of a ring beside its registers, before the ring is first used. -/
def RingState.initial : RingState := ⟨0, 0, 0, 0, 0, 0, 0, 0, 0, [], []⟩

/-- The kept state of a ring. -/
def State.ring (s : State) (r : Nat) : RingState := s.host.rings.getD r RingState.initial

/-- Change the kept state of a ring. -/
def State.modRing (s : State) (r : Nat) (f : RingState → RingState) : State :=
  { s with host := { s.host with rings := s.host.rings.set r (f (s.ring r)) } }

/-- Whether a ring is enabled. -/
def State.ringOn (s : State) (r : Nat) : Bool := s.on Reg.HRG_CTL_EN && s.on (Reg.HRG_RING_CFG_EN r)

/-- Whether the device may write to host memory and fetch from it: over its PCIe link (R551, R435), or through the lead on a device whose
host path is TUNNEL (R286, R289). -/
def State.hostUp (s : State) : Bool :=
  if s.boot.tunnel then s.on Reg.HRG_STAT_READY && !s.cul.leadLost else s.host.linkUp && s.host.perstHigh

/-- Free slots of a completion or event ring. -/
def State.ringFree (s : State) (r : Nat) : Nat :=
  let n := s.ringN r
  n - (s.ringPos r + 2 * n - (s.ring r).hostPos % (2 * n)) % (2 * n)

/-- The address of the entry at the device's position. -/
def State.ringSlot (s : State) (r size : Nat) : Nat :=
  s.rd64 (Reg.HRG_RING_BASE r) + size * (s.ringPos r % s.ringN r)

/-- The 32 bytes of an event record on a ring (R369). -/
def EventRec.bytes (e : EventRec) (phase seq : Nat) : List Nat :=
  bytesLE 8 e.time ++ bytesLE 2 (e.src % 2 ^ 15 + phase * 2 ^ 15) ++ bytesLE 2 e.code ++ bytesLE 4 seq ++ fit 16 e.args

/-- Write 32 bytes at the device's position of a completion or event ring and move on (R366, R367, R373): the record
counts as unsignalled until a message covers it. -/
def State.ringPush (s : State) (r : Nat) (rec : Nat → Nat → List Nat) : State :=
  let x := s.ringPos r
  let n := s.ringN r
  let s := s.hostWrite (s.ringSlot r 32) (rec (x / n % 2) (s.ring r).seq)
  let s := (s.setRingPos r ((x + 1) % (2 * n))).add64 (Reg.HRG_RING_CNT r) 1
  s.modRing r fun q =>
    { q with seq := (q.seq + 1) % 2 ^ 32, unsignalled := q.unsignalled + 1,
             unsignalledAt := if q.unsignalled = 0 then s.now else q.unsignalledAt }

/-- The events-lost record of R371 (0x0B03). -/
def lostRecord (now ring count at_ : Nat) : EventRec :=
  ⟨now, 0x0008, 0x0B03, [ring % 256, 0, 0, 0] ++ bytesLE 4 count ++ bytesLE 8 at_⟩

/-- Write the events-lost record due on a ring that has a free slot again (R371). -/
def State.flushLost (s : State) (r : Nat) : State :=
  let q := s.ring r
  if q.dropped > 0 && s.ringFree r > 0 then
    let s := s.ringPush r fun p n => (lostRecord s.timeNs r q.dropped q.droppedAt).bytes p n
    s.modRing r fun q => { q with dropped := 0 }
  else s

/-- Write an event record to an event ring that can be written: with no free slot it is dropped and counted (R371). -/
def State.eventToRing (s : State) (r : Nat) (e : EventRec) : State :=
  let s := s.flushLost r
  if s.ringFree r > 0 then s.ringPush r fun p n => e.bytes p n
  else (s.modRing r fun q =>
      { q with dropped := q.dropped + 1, droppedAt := if q.dropped = 0 then e.time else q.droppedAt }).setF
    Reg.HRG_STAT_EVT_LOST

/-- Keep an event record in the store of R436. -/
def State.keepEvent (s : State) (r : Nat) (e : EventRec) : State :=
  if s.host.heldEvents.length < 256 then
    { s with host := { s.host with heldEvents := s.host.heldEvents ++ [(r, e)] } }
  else
    { s with host := { s.host with
      heldDropped := s.host.heldDropped + 1,
      heldDroppedAt := if s.host.heldDropped = 0 then e.time else s.host.heldDroppedAt } }

/-- The event ring of a record: the ring setting of the access detector for its records (R370), `HRG_EVT_ROUTE`
otherwise. -/
def State.eventRing (s : State) (src : Nat) : Nat :=
  48 + (if src = 0x0024 then s.get Reg.ACD_CFG_RING
    else bits (s.rd (Reg.HRG_EVT_ROUTE (src / 8))) (4 * (src % 8)) 4)

/-- Whether an event ring can be written now (R436). -/
def State.canWriteRing (s : State) (r : Nat) : Bool := s.hostUp && s.ringOn r

/-- Records of one 64 KiB sector of the log, and its sectors (R505). -/
def logPerSector : Nat := 2046

/-- Put one record into the flash log: sectors are filled in order and the oldest is erased for a fresh one (R505). -/
def FltState.logPut (f : FltState) (e : EventRec) : FltState :=
  if f.logFill < logPerSector then { f with log := e :: f.log, logFill := f.logFill + 1 }
  else
    let n := (f.logSector + 1) % 128
    { f with log := (e :: f.log).take (127 * logPerSector + 1), logSector := n, logFill := 1,
             logErase := f.logErase.set n (f.logErase.getD n 0 + 1) }

/-- Whether the flash log is stopped, for wear or by a closed window (R506). -/
def State.logStopped (s : State) : Bool := s.on Reg.FLT_STAT_LOG_STOPPED || !s.on Reg.THM_WINDOW_FLASH_OPEN

/-- Copy an event record to the flash log through the token bucket of R505; while the log is stopped the newest 256
records stay in RAM (R506). -/
def State.logEvent (s : State) (e : EventRec) : State :=
  let level := min (1000 * 10 ^ 7) (s.flt.bucket + (s.now - s.flt.bucketAt))
  let f := { s.flt with bucketAt := s.now }
  if s.logStopped then
    let s' := { s with flt := { f with bucket := level, logHeld := (e :: f.logHeld).take 256 } }
    let s' := s'.put Reg.THM_WINDOW_HELD s'.flt.logHeld.length
    s'.when (f.logHeld.length ≥ 256) fun s => s.setF Reg.THM_WINDOW_HELD_LOST
  else if level < 10 ^ 7 then
    { s with flt := { f with bucket := level, logSkipped := f.logSkipped + 1 } }
  else
    let f := FltState.logPut { f with bucket := level - 10 ^ 7 } e
    let worst := f.logErase.foldl (fun m p => max m p.2) 0
    let s := { s with flt := f }
    let s := s.put Reg.FLT_LOG_WEAR_MAX_ERASE (min worst 100000)
    s.when (worst ≥ 100000) fun s => s.setF Reg.FLT_STAT_LOG_STOPPED

/-- Whether a record is also carried to the DU (R214, R230): the access detector's where `FH_REPORT` asks for it, the
fronthaul records marked so, and the throttle record, which tells the DU of the capacity (R455). -/
def State.toDu (s : State) (src code : Nat) : Bool :=
  (src == 0x0024 && s.on Reg.ACD_CFG_FH_REPORT) || code == 0x0602 || code == 0x0603 || code == 0x0604 || code == 0x0F11

/-- Put an event record where it goes: its ring or the store of R436, the flash log (R505), the console (R536), and, for a record the DU
is told of, the next report (R214). -/
def State.putEvent (s : State) (time src code : Nat) (args : List Nat) : State :=
  let e : EventRec := ⟨time % 2 ^ 64, src, code, fit 16 args⟩
  let r := s.eventRing src
  let s := if s.canWriteRing r then s.eventToRing r e else s.keepEvent r e
  let s := s.logEvent e
  let s := { s with pkg := { s.pkg with console := s.pkg.console + 1 } }
  if s.toDu src code then
    { s with fh := { s.fh with report := s.fh.report ++ [e] } }
  else s

/-- The log-state record 0x1204 (R512): 0 stopped for wear, 1 window held, 2 resumed, 3 records skipped by the bucket. -/
def State.logState (s : State) (kind count : Nat) : State := s.putEvent s.now 0x003E 0x1204 ([kind, 0, 0, 0] ++ bytesLE 4 count)

/-- Raise an event record with a stated time. A log that stops for wear, and records the bucket made the log skip, are reported in the
log-state record (R505, R506). -/
def State.eventAt (s : State) (time src code : Nat) (args : List Nat) : State :=
  let worn := s.on Reg.FLT_STAT_LOG_STOPPED
  let s := s.putEvent time src code args
  let s := s.when (!worn && s.on Reg.FLT_STAT_LOG_STOPPED) fun s => s.logState 0 0
  if s.flt.logSkipped > 0 && s.flt.bucket ≥ 10 ^ 7 && !s.logStopped then
    { s with flt := { s.flt with logSkipped := 0 } }.logState 3 s.flt.logSkipped
  else s

/-- Raise an event record now. -/
def State.event (s : State) (src code : Nat) (args : List Nat) : State := s.eventAt s.now src code args

/-- Write the records the store of R436 keeps for rings that can be written again, oldest first. -/
def State.flushHeld (s : State) : State :=
  let s :=
    if s.host.heldDropped > 0 then
      match (List.range' 48 16).find? fun r => s.canWriteRing r && s.ringFree r > 0 with
      | some r =>
        let s' := s.ringPush r fun p n => (lostRecord s.timeNs 0xFF s.host.heldDropped s.host.heldDroppedAt).bytes p n
        { s' with host := { s'.host with heldDropped := 0 } }
      | none => s
    else s
  let kept := s.host.heldEvents
  let s := { s with host := { s.host with heldEvents := kept.filter fun e => !s.canWriteRing e.1 } }
  s.each (kept.filter fun e => s.canWriteRing e.1) fun s e => s.eventToRing e.1 e.2

/-! ## Completion records (R366) -/

/-- The 32 bytes of a completion record. -/
def Completion.bytes (c : Completion) (head phase seq : Nat) : List Nat :=
  bytesLE 8 c.time ++ bytesLE 4 seq ++ bytesLE 2 c.tag ++ [c.ring % 32, c.status] ++ bytesLE 2 head ++
    [c.reason, c.opcode] ++ fit 8 c.result ++ [0, 0, 0, phase + 2 * b2n c.evt]

/-- The state a submission ring shows (R353, R354, R363, R366), codes 0 to 5 of `HRG_RING_r_STAT`. -/
def State.ringStateOf (s : State) (r : Nat) : Nat :=
  let q := s.ring r
  if !s.ringOn r then (if q.running.isEmpty then 0 else 5)
  else if s.get (Reg.HRG_RING_STAT_STATE r) = 3 then 3
  else
    let cq := 32 + s.get (Reg.HRG_RING_CFG_CQ r)
    if !s.ringOn cq || decide (s.ringFree cq ≤ (s.ring cq).reserved + (s.host.heldCompletions.filter fun e => e.1 == cq).length) then 4
    else if q.hostPos ≠ s.ringPos r || !q.running.isEmpty then 2 else 1

/-- Show a ring's state, raising a ring-state record when it enters or leaves STALLED, FULL or DRAINING (R372). -/
def State.setRingState (s : State) (r new : Nat) : State :=
  let old := s.get (Reg.HRG_RING_STAT_STATE r)
  if old = new then s
  else
    let s := s.put (Reg.HRG_RING_STAT_STATE r) new
    s.when (old ≥ 3 || new ≥ 3) fun s => s.event 0x0008 0x0B04 [r, old, new]

/-- Show the state a submission ring now has. -/
def State.refreshRing (s : State) (r : Nat) : State := s.setRingState r (s.ringStateOf r)

/-- Write a completion record at its completion ring's position, and give back the slot reserved for it. -/
def State.pushCompletion (s : State) (cq : Nat) (c : Completion) : State :=
  let head := s.ringPos c.ring % s.ringN c.ring
  s.ringPush cq fun p n => c.bytes head p n

/-- Write a completion record to its completion ring where that ring is enabled (R366): while the link is down the record waits in its slot
(R551), and so does one that finds the ring full. -/
def State.writeCompletion (s : State) (cq : Nat) (c : Completion) : State :=
  if !s.ringOn cq then s
  else if !s.hostUp || s.ringFree cq = 0 || s.host.heldCompletions.any (fun e => e.1 == cq) then
    { s with host := { s.host with heldCompletions := s.host.heldCompletions ++ [(cq, c)] } }
  else s.pushCompletion cq c

/-- Write the completion record of a command (R366), giving back its slot; a record whose ring was reset since its fetch is discarded
(R354, R435). A command comes from a submission ring, 0 to 31 (R352). -/
def State.putCompletion (s : State) (c : Completion) : State :=
  let q := s.ring c.ring
  let cq := 32 + s.get (Reg.HRG_RING_CFG_CQ c.ring)
  if c.ring ≥ 32 then s
  else if q.lost.contains c.tag && !q.running.contains c.tag then s.modRing c.ring fun q => { q with lost := q.lost.erase c.tag }
  else
    let fetched := q.running.contains c.tag
    let s := s.modRing c.ring fun q => { q with running := q.running.erase c.tag }
    let s := if s.ringOn cq then s.modRing cq fun q => { q with reserved := if fetched then q.reserved - 1 else q.reserved } else s
    (s.writeCompletion cq c).refreshRing c.ring

/-- Write the completion records that wait for a ring that can be written and has a free slot, oldest first (R551). -/
def State.flushCompletions (s : State) : State :=
  let kept := s.host.heldCompletions
  let s := { s with host := { s.host with heldCompletions := [] } }
  s.each kept fun s e =>
    if s.hostUp && s.ringOn e.1 && decide (s.ringFree e.1 > 0) then s.pushCompletion e.1 e.2
    else { s with host := { s.host with heldCompletions := s.host.heldCompletions ++ [e] } }

/-- Complete a ring command: status, reason, result bytes, and whether a later event carries its tag. -/
def State.completeX (s : State) (h : Hdr) (op status reason : Nat) (result : List Nat) (evt : Bool) : State :=
  s.putCompletion ⟨s.timeNs, h.ring, h.tag, status, reason, op, result, evt⟩

/-- Complete a ring command with a status and nothing more. -/
def State.complete (s : State) (h : Hdr) (op status : Nat) : State := s.completeX h op status 0 [] false

/-- Complete a ring command with a status and result bytes. -/
def State.completeR (s : State) (h : Hdr) (op status : Nat) (result : List Nat) : State :=
  s.completeX h op status 0 result false

/-! ## Status codes (R368) -/

/-- The completion status codes of R368, by name. -/
abbrev St.done : Nat := 0x00
abbrev St.donePartial : Nat := 0x01
abbrev St.late : Nat := 0x10
abbrev St.blanked : Nat := 0x11
abbrev St.refusedLevee : Nat := 0x12
abbrev St.busyFade : Nat := 0x13
abbrev St.notReady : Nat := 0x14
abbrev St.stale : Nat := 0x20
abbrev St.misaligned : Nat := 0x21
abbrev St.busError : Nat := 0x22
abbrev St.badOpcode : Nat := 0x23
abbrev St.range : Nat := 0x24
abbrev St.authFail : Nat := 0x30
abbrev St.rollback : Nat := 0x31
abbrev St.tempForbidden : Nat := 0x32
abbrev St.refusedSleep : Nat := 0x40
abbrev St.superseded : Nat := 0x41
abbrev St.internal : Nat := 0x7F

/-- The first status of a list of checks that fails; none where all pass. -/
def firstFail : List (Bool × Nat) → Option Nat
  | [] => none
  | (ok, st) :: t => if ok then firstFail t else some st

/-! ## Acceptance of ring commands (R24, R358, R364, R365) -/

/-- The full frame count of a header's effective frame: the one nearest to the frame now in progress (R358). -/
def State.fullFrame (s : State) (eff : Nat) : Int := s.frame + sx 32 (ux 32 ((eff : Int) - s.frame))

/-- The number of a header's effective tick over all frames. -/
def State.effAbs (s : State) (h : Hdr) : Int := s.fullFrame h.effFrame * s.tpf + h.effTick

/-- The header checks of R358 that need no configuration: none where the header is good. -/
def State.headerFail (s : State) (h : Hdr) (timed : Bool) : Option Nat :=
  firstFail [(h.timed == timed, St.range), (!(h.fence && timed), St.range),
    (timed || (h.effFrame == 0 && h.effTick == 0), St.range), (!timed || decide (h.effTick < s.tpf), St.range)]

/-- Whether a retired device refuses a command (R415): it serves the identity block; its transmit commands go on to their refusal by
Levee. -/
def State.retiredRefuses (s : State) (op : Nat) : Bool :=
  s.sea.retired && op != 0xB0 && !decide (0x20 ≤ op ∧ op ≤ 0x25)

/-- Result bytes of LATE: the frame and tick of the fetch (R365). -/
def State.lateResult (s : State) : List Nat := bytesLE 4 (ux 32 s.frame) ++ bytesLE 2 s.tick

/-- Put a command into the timed store. -/
def State.hold (s : State) (h : Hdr) (cmd : Cmd) (dataIn : Bool) : State :=
  let item : Held := ⟨h, cmd, s.fullFrame h.effFrame, h.effTick, false, dataIn, s.host.order⟩
  let s := { s with host := { s.host with timed := s.host.timed ++ [item], order := s.host.order + 1 } }
  s.put Reg.HRG_STAT_TIMED_PENDING s.host.timed.length

/-- Fetch of a timed command (R24, R358, R364, R365): header checks, the checks of each field on its own, LATE; what
then happens to the command is `keep`. -/
def State.acceptTimedK (s : State) (h : Hdr) (op : Nat) (fieldFail : Option Nat) (keep : State → State) : State :=
  match s.headerFail h true with
  | some st => s.complete h op st
  | none =>
    if s.retiredRefuses op then s.complete h op St.notReady
    else match fieldFail with
    | some st => s.complete h op st
    | none =>
      let e := s.effAbs h
      if s.tickStart (e - 2) ≤ s.airNs then s.completeR h op St.late s.lateResult
      else if s.fullFrame h.effFrame > s.frame + 1024 then s.complete h op St.range
      else keep s

/-- Fetch of a timed command that then waits in the timed store. -/
def State.acceptTimed (s : State) (h : Hdr) (op : Nat) (cmd : Cmd) (fieldFail : Option Nat) (dataIn : Bool) : State :=
  s.acceptTimedK h op fieldFail fun s => s.hold h cmd dataIn

/-- Whether a list of conditions on a command's fields holds: RANGE where one does not. -/
def rangeUnless (l : List Bool) : Option Nat := if l.all id then none else some St.range

/-- Fetch of an untimed command (R365): header checks and the command's checks, then its effect. -/
def State.acceptNow (s : State) (h : Hdr) (op : Nat) (fail : Option Nat) (run : State → State) : State :=
  match s.headerFail h false with
  | some st => s.complete h op st
  | none =>
    if s.retiredRefuses op then s.complete h op St.notReady
    else match fail with
    | some st => s.complete h op st
    | none => run s

end Sys2Proof.Machine
end

