-- ==== Sys2Proof/Machine/Plan.lean ====
section
/-! DEFINITION. Admission: numerologies (R18, R41), carrier plans of a tile (R49 to R56, R67, R93 to R101), profile
budgets (R27, R29, R437), the interval checks of the array (R125, R128, R143, R145), and the Levee ranges (R162). Every
check is made on the state the command would leave. Frequencies are exact, in units of 2^-48 kHz. -/
namespace Sys2Proof.Machine
open Sys2Proof

/-! ## Numerology -/

/-- µ of a byte `NUM`. -/
def numMu (num : Nat) : Nat := num % 4

/-- The extended-prefix bit of a byte `NUM`. -/
def numEcp (num : Nat) : Nat := bits num 2 1

/-- Whether a byte `NUM` names an SS/PBCH block at 240 kHz. -/
def numSsb (num : Nat) : Bool := bit num 3

/-- The checks of the byte `NUM` on its own (R41, R83): reserved bits zero, µ bits zero with the SS/PBCH bit, and
extended prefix at µ = 2 only. -/
def numOk (num : Nat) : Bool :=
  decide (num < 16) && (!numSsb num || num % 8 == 0) && (numEcp num == 0 || numMu num == 2)

/-- Subcarrier spacing in kHz. -/
def scsKhz (num : Nat) : Nat := if numSsb num then 240 else 15 * 2 ^ numMu num

/-- The exponent of the spacing over 15 kHz. -/
def scsExp (num : Nat) : Nat := if numSsb num then 4 else numMu num

/-- Occupied bandwidth in kHz. -/
def occKhz (num nprb : Nat) : Nat := 12 * nprb * scsKhz num

/-- Whether a numerology is admitted under a reference numerology (R18). -/
def refAdmits (mu ecp num : Nat) : Bool :=
  numSsb num || (decide (numMu num ≤ mu) && numEcp num == ecp)

/-- Whether a numerology is admitted under the one in force. -/
def State.refOk (s : State) (num : Nat) : Bool := refAdmits s.arch.mu s.arch.ecp num

/-- Ticks a symbol of a numerology spans on the grid in force (R18). -/
def State.spanOf (s : State) (num : Nat) : Nat := if numSsb num then 1 else 2 ^ (s.arch.mu - numMu num)

/-- Ticks a slot of a numerology spans: a carrier at 240 kHz counts at the reference numerology. -/
def State.slotTicks (s : State) (num : Nat) : Nat := s.tps * s.spanOf num

/-- The shortest tick in ns (R17). -/
def shortestTick (mu ecp : Nat) : Nat :=
  if ecp = 1 then 20833 else if mu = 0 then 71354 else if mu = 1 then 35677 else if mu = 2 then 17839 else 8919

/-- The shortest tick of the grid in force. -/
def State.shortest (s : State) : Nat := shortestTick s.arch.mu s.arch.ecp

/-- Subcarrier spacing of the reference numerology, kHz. -/
def State.refKhz (s : State) : Nat := 15 * 2 ^ s.arch.mu

/-! ## Profiles (R27, R29, R65) -/

/-- The profile in force: 0 CAPACITY, 1 REACH, 2 ECONOMY, 3 SOUNDING, 4 WHOLE-ARRAY. -/
def State.profile (s : State) : Nat := s.get Reg.DEV_PROFILE_IN_FORCE

/-- Occupied bandwidth a profile admits on one path, kHz. -/
def profileKhz (p : Nat) : Nat := if p = 1 ∨ p = 3 then 800000 else 1600000

/-- Layers a profile admits in one direction (0 = downlink). The uplink of WHOLE-ARRAY is not beamformed. -/
def profileLayers (p dir : Nat) : Nat :=
  if p = 1 then 8 else if p = 3 then 16 else if p = 4 ∧ dir = 1 then 0 else 32

/-- DPD entries a profile admits in a bank (R65). -/
def profileDpd (p : Nat) : Nat := if p = 1 then 128 else 64

/-- Whether a tile is ready (R437). -/
def State.tileReady (s : State) (n : Nat) : Bool := bit (s.get Reg.DEV_BOOT_STAT_TILE_READY) n

/-- Whether a tile is gated (R443). -/
def State.tileGated (s : State) (n : Nat) : Bool := bit (s.get Reg.PWR_STAT_GATED) n

/-- Tiles that count for the budget: active tiles under ECONOMY (R27), ready tiles in reduced service (R437). -/
def State.capTiles (s : State) (p : Nat) : Nat :=
  let ready := popCount (s.get Reg.DEV_BOOT_STAT_TILE_READY) 8
  let active := ((List.range 8).filter fun n => s.tileReady n && !s.tileGated n).length
  if p = 2 then active else if s.boot.provisional then ready else 8

/-- Layer-MHz a profile admits in one direction, in kHz, before T2. -/
def State.profileLayerKhz (s : State) (p dir : Nat) : Nat :=
  let full := if p = 1 then 6400000 else if p = 3 then 12800000 else if p = 4 ∧ dir = 1 then 0 else 25600000
  full * s.capTiles p / 8

/-- Whether the array works at three quarters of its rate: throttle level T2 or above (R128). -/
def State.atT2 (s : State) : Bool := decide (s.get Reg.THM_STAT_LEVEL ≥ 2)

/-- Layer-MHz admitted in one direction, in kHz, after T2 (R29, R128). -/
def State.capKhz (s : State) (p dir : Nat) : Nat :=
  let c := s.profileLayerKhz p dir
  if s.atT2 then c * 3 / 4 else c

/-! ## Transmit carriers of a tile -/

/-- One transmit carrier of a tile. -/
def State.txCarrier (s : State) (n c : Nat) : Option TxCarrier := s.tx.carriers.get? (n * 8 + c)

/-- The transmit carriers of a tile. -/
def State.txCarriers (s : State) (n : Nat) : List TxCarrier :=
  (s.tx.carriers.filter fun e => e.1 / 8 == n).map Prod.snd

/-- Units of 2^-48 kHz in one kHz. -/
def khz : Int := 2 ^ 48

/-- The path NCO frequency of a tile (R51). -/
def State.pathFreq (s : State) (n : Nat) : Int := s.tx.pathFtw.getD n 0 * 11796480

/-- The offset of a carrier or tone word from the path centre (R50, R74). -/
def carrierOfs (ftw : Nat) : Int := sx 48 ftw * 2949120

/-- RF frequency of an offset from the path centre of a tile (R55). -/
def State.txRf (s : State) (n : Nat) (ofs : Int) : Int :=
  let path := s.pathFreq n
  if s.on (Reg.TIL_TX_CFG_IF_MODE n) then
    let lo := s.get (Reg.TIL_TX_LO_LO_KHZ n) * khz
    if s.on (Reg.TIL_TX_LO_HIGH_SIDE n) then lo - path + ofs else lo + path + ofs
  else path + ofs

/-- The centre at the RF DAC of an offset from the path centre: with a high-side LO the composite is conjugated
(R53, R55). -/
def State.txDac (s : State) (n : Nat) (ofs : Int) : Int :=
  if s.on (Reg.TIL_TX_CFG_IF_MODE n) && s.on (Reg.TIL_TX_LO_HIGH_SIDE n) then s.pathFreq n - ofs
  else s.pathFreq n + ofs

/-- Whether two frequencies differ by at most 1 Hz (R55, R95). -/
def within1Hz (a b : Int) : Bool := decide ((a - b).natAbs * 1000 ≤ 2 ^ 48)

/-- The checks of a transmit carrier's fields on their own (R41, R49, R56, R83): sizes, the rate ratio 3 × 2^j with
j = 0 to 8, occupied bandwidth within 0.82 × fs_c and 400 MHz. -/
def txFieldsOk (num log2n nprb : Nat) : Bool :=
  numOk num && decide (8 ≤ log2n ∧ log2n ≤ 13) && decide (1 ≤ nprb ∧ nprb ≤ 275) &&
    decide (8 ≤ scsExp num + log2n ∧ scsExp num + log2n ≤ 16) &&
    decide (100 * (12 * nprb) ≤ 82 * 2 ^ log2n) && decide (occKhz num nprb ≤ 400000)

/-- The exponent j of a transmit carrier's interpolation ratio (R49). -/
def txJ (num log2n : Nat) : Nat := 16 - (scsExp num + log2n)

/-- Denominator of transmit latencies: units of 10 ps / 983,040. -/
def ltxDen : Nat := 983040

/-- Interpolation latency of a carrier (R59), in units of 10 ps / 983,040: fs_c × 2^j is 983,040 kHz. -/
def interpLatency (j : Nat) : Nat :=
  if j = 0 then 2310 * ltxDen else (20 * 2 ^ j - 9) * 100000000 + 746 * ltxDen

/-- L_tx of a tile (R59, R60) with `FE_DELAY` in force, in units of 10 ps / 983,040; zero without a carrier. -/
def State.ltxUnits (s : State) (n : Nat) : Nat :=
  match s.txCarriers n with
  | [] => 0
  | l => l.foldl (fun m c => max m (interpLatency (txJ c.num c.log2n))) 0 +
      (21300 + s.tx.feDelay.getD n 0) * ltxDen

/-- L_tx of a tile rounded up to whole ns (R60). -/
def State.ltxNs (s : State) (n : Nat) : Nat := ceilDiv (s.ltxUnits n) (100 * ltxDen)

/-- The edges of the correction band lie in one Nyquist zone of the observation converter (R67). -/
def State.corrBandOk (s : State) (n bw : Nat) : Bool :=
  let half := (if bw = 0 then 200000 else if bw = 1 then 400000 else if bw = 2 then 800000 else 1200000) * khz
  let zone := 2949120 * khz
  let lo := s.pathFreq n - half
  decide (0 ≤ lo) && decide (s.pathFreq n + half ≤ (lo / zone + 1) * zone)

/-- The checks of one carrier against the tile's words and mode (R18, R50, R52, R53, R55). -/
def State.txCarrierFits (s : State) (n : Nat) (c : TxCarrier) : Bool :=
  let ofs := carrierOfs c.ftw
  let half : Int := (6 * c.nprb * scsKhz c.num : Nat) * khz
  let mid := s.txDac n ofs
  let zone1 := s.on (Reg.TIL_TX_CFG_ZONE n)
  let lo : Int := (if zone1 then 5898240 else 400000) * khz
  let hi : Int := (if zone1 then 7200000 else 5898240) * khz
  s.refOk c.num && decide (ofs.natAbs + half ≤ 1200000 * khz) &&
    decide (lo ≤ mid - half) && decide (mid + half ≤ hi) &&
    within1Hz (s.txRf n ofs) (c.f0khz * khz)

/-- The plan of a tile's transmit carriers (R50 to R56, R67) under a profile. -/
def State.txTileFits (s : State) (p n : Nat) : Bool :=
  let l := s.txCarriers n
  l.isEmpty ||
    (l.all (s.txCarrierFits n) &&
      decide (sumL (l.map fun c => occKhz c.num c.nprb) ≤ profileKhz p) &&
      decide ((sumL (l.map fun c => 2 ^ c.log2n) * 20 + 50000) * ltxDen + s.ltxUnits n ≤ s.shortest * 100 * ltxDen) &&
      s.corrBandOk n (s.get (Reg.TIL_DPD_CTL_BW n)))

/-! ## Receive carriers of a tile -/

/-- One receive carrier of a tile. -/
def State.rxCarrier (s : State) (n c : Nat) : Option RxCarrier := s.rx.carriers.get? (n * 8 + c)

/-- The receive carriers of a tile. -/
def State.rxCarriers (s : State) (n : Nat) : List RxCarrier :=
  (s.rx.carriers.filter fun e => e.1 / 8 == n).map Prod.snd

/-- `CIC_R`, `MIN_PHASE`, `PRACH_FEED` and `WA_SHIFT` of a byte `FILTER`. -/
def RxCarrier.cicR (c : RxCarrier) : Bool := bit c.filter 0
def RxCarrier.minPhase (c : RxCarrier) : Bool := bit c.filter 1
def RxCarrier.feed (c : RxCarrier) : Bool := bit c.filter 2
def RxCarrier.waShift (c : RxCarrier) : Nat := bits c.filter 3 2

/-- m of R97: the smallest that keeps the receive rate at 61.44 MS/s or more. -/
def rxM (num log2n : Nat) : Nat := 12 - (numMu num + log2n)

/-- log2 of the receive FFT size N_rx (R97). -/
def rxLog2 (num log2n : Nat) : Nat := log2n + rxM num log2n

/-- j of R97: fs_rx = 983.04 MS/s / 2^j. -/
def rxJ (num log2n : Nat) : Nat := 16 - (numMu num + rxLog2 num log2n)

/-- The longest window advance, half the shortest prefix in samples at fs_rx (R109). -/
def maxWinAdv (num log2n : Nat) : Nat :=
  let n := 2 ^ rxLog2 num log2n
  if numEcp num = 1 then n / 8 else 9 * n / 256

/-- Natural latency of a carrier in units of 1 / 983,040 ns (R101). -/
def natLatency (c : RxCarrier) : Nat :=
  let j := rxJ c.num c.log2n
  let half := (if c.cicR then 3000000 else 4500000) * (2 ^ j - 1)
  let coef := if c.minPhase then 7000 else if c.cicR then 23667 else 23500
  16 * 983040 + half + coef * 2 ^ j * 1000

/-- The checks of a receive carrier's fields on their own (R87, R96, R97, R109, R117). -/
def rxFieldsOk (num log2n nprb filter winAdv : Nat) : Bool :=
  decide (num < 8) && numOk num && decide (8 ≤ log2n ∧ log2n ≤ 13) && decide (1 ≤ nprb ∧ nprb ≤ 275) &&
    decide (numMu num + log2n ≤ 16) && decide (rxLog2 num log2n ≤ 13) &&
    decide (100 * (12 * nprb) ≤ 82 * 2 ^ log2n) && decide (occKhz num nprb ≤ 400000) &&
    decide (filter < 32) && decide (bits filter 3 2 < 3) && decide (winAdv ≤ maxWinAdv num log2n)

/-- The folded frequency of a receive carrier (R93). -/
def rxFolded (ftw : Nat) : Int := sx 48 ftw * 5898240

/-- The analogue frequency that `F0_KHZ` names at a tile's receive inputs (R93, R94). -/
def State.rxNominal (s : State) (n f0 : Nat) : Int :=
  if s.on (Reg.TIL_RX_CFG_IF_MODE n) then
    let lo : Int := s.get (Reg.TIL_RX_LO_LO_KHZ n) * khz
    if s.on (Reg.TIL_RX_LO_HIGH_SIDE n) then lo - f0 * khz else f0 * khz - lo
  else f0 * khz

/-- Distance of a frequency from the nearest multiple of 2,949.12 MHz. -/
def nyqDist (f : Int) : Int :=
  let z := 2949120 * khz
  let r := f % z
  if r ≤ z - r then r else z - r

/-- The checks of one receive carrier against the tile's mode (R18, R95, R96). -/
def State.rxCarrierFits (s : State) (n : Nat) (c : RxCarrier) : Bool :=
  let fa := rxFolded c.ftw
  let half : Int := (6 * c.nprb * scsKhz c.num : Nat) * khz
  let nom := s.rxNominal n c.f0khz
  let fs := 5898240 * khz
  let k := (2 * nom + fs) / (2 * fs)
  let rate : Int := (983040 / 2 ^ rxJ c.num c.log2n : Nat) * khz
  s.refOk c.num && within1Hz (fa + k * fs) nom &&
    decide (nyqDist (fa - half) ≥ 100000 * khz) && decide (nyqDist (fa + half) ≥ 100000 * khz) &&
    decide ((2 * (fa.natAbs : Int) - half) * 100 ≥ 59 * rate)

/-- The plan of a tile's receive carriers (R95, R96) under a profile. -/
def State.rxTileFits (s : State) (p n : Nat) : Bool :=
  let l := s.rxCarriers n
  l.all (s.rxCarrierFits n) && decide (sumL (l.map fun c => occKhz c.num c.nprb) ≤ profileKhz p)

/-- At most two receive carriers of the device feed the access detector (R114): counted as carrier indices. -/
def State.feedsOk (s : State) : Bool :=
  let fed := (List.range 8).filter fun c => s.rx.carriers.any fun e => e.1 % 8 == c && e.2.feed
  decide (fed.length ≤ 2)

/-- L_RX of the device in ns (R102): 0 while no receive carrier is enabled. -/
def State.lrx (s : State) : Nat :=
  match s.rx.carriers with
  | [] => 0
  | l => if l.all fun e => e.2.minPhase then 1178 else 1900

/-- Resource elements one extraction entry takes per path on one selected symbol (R112). -/
def extractRes (e : ExtractEntry) : Nat :=
  let n := 12 * e.prbCount
  let k := 2 ^ e.combLog2
  (n + k - 1 - e.combOffset) / k

/-- Whether extraction entry `e` selects symbol `l` of slot `k` (counted from the frame count). -/
def extractSelects (e : ExtractEntry) (slot l : Nat) : Bool :=
  slot % e.slotPeriod == e.slotOffset % e.slotPeriod && bit e.symMask l

/-- Extraction entries of a tile. -/
def State.extracts (s : State) (n : Nat) : List ExtractEntry :=
  (s.rx.extract.filter fun e => e.1 / 16 == n).map Prod.snd

/-- The ticks at which an entry writes a record, as residue and modulus: every symbol of its mask, every `SLOT_PERIOD`
slots of its carrier's numerology. -/
def extractTicks (s : State) (n : Nat) (e : ExtractEntry) : List (Nat × Nat) :=
  match s.rxCarrier n e.carrier with
  | none => []
  | some c =>
    let m := s.spanOf c.num
    (maskList e.symMask s.tps).map fun l =>
      ((e.slotOffset * s.tps + l) * m, e.slotPeriod * s.tps * m)

/-- Whether two arithmetic progressions of ticks meet. -/
def ticksMeet (a b : Nat × Nat) : Bool :=
  let g := Nat.gcd a.2 b.2
  a.1 % g == b.1 % g

/-- The most REs per path that fall on one tick: progressions that meet pairwise meet together. -/
def extractPeak : List (Nat × List (Nat × Nat)) → List (Nat × Nat) → Nat
  | [], _ => 0
  | (res, ts) :: rest, chosen =>
    (ts.filter fun t => chosen.all (ticksMeet t)).foldl
      (fun m t => max m (res + extractPeak rest (t :: chosen))) (extractPeak rest chosen)

/-- Entries of a tile total at most 2,048 REs per path per tick (R112). -/
def State.extractFits (s : State) (n : Nat) : Bool :=
  let l := s.extracts n
  decide (sumL (l.map extractRes) ≤ 2048) ||
    decide (extractPeak (l.map fun e => (extractRes e, extractTicks s n e)) [] ≤ 2048)

/-! ## The array (R121 to R128, R143, R145) -/

/-- The carrier a layer set works on: `NUM` and `N_PRB` of the widest carrier of that index on any tile. -/
def State.setCarrier (s : State) (dir c : Nat) : Option (Nat × Nat) :=
  let l : List (Nat × Nat) :=
    if dir = 0 then (s.tx.carriers.filter fun e => e.1 % 8 == c).map fun e => (e.2.num, e.2.nprb)
    else (s.rx.carriers.filter fun e => e.1 % 8 == c).map fun e => (e.2.num, e.2.nprb)
  l.foldl (fun a x => match a with
    | none => some x
    | some y => if occKhz y.1 y.2 < occKhz x.1 x.2 then some x else some y) none

/-- Layers of a set that are not blanked under T2 (R128). -/
def State.liveLayers (s : State) (dir c : Nat) (layers : Nat) : Nat :=
  layers - (s.beam.blanked.filter fun b => b.1 == dir && b.2.1 == c && decide (b.2.2 < layers)).length

/-- Layer-bandwidth in kHz of one set of the plan. -/
def State.setKhz (s : State) (dir c : Nat) : Nat :=
  match s.beam.sets.get? (dir * 8 + c), s.setCarrier dir c with
  | some l, some (num, nprb) => s.liveLayers dir c l.layers * occKhz num nprb
  | _, _ => 0

/-- Ticks a symbol of a set's carrier spans. -/
def State.setSpan (s : State) (dir c : Nat) : Nat :=
  match s.setCarrier dir c with
  | some (num, _) => s.spanOf num
  | none => 1

/-- Layer-bandwidth of one direction in kHz (R125). -/
def State.layerKhz (s : State) (dir : Nat) : Nat := sumL ((List.range 8).map fun c => s.setKhz dir c)

/-- The parameters of one sounding layer (R141), read from its 16-byte entry: sequence ID in bytes 0–1, comb in byte 2,
comb offset in byte 3, cyclic shift in byte 4, number of cyclic shifts in byte 5. -/
def srsComb (p : List Nat) : Nat := nth p 2
def srsOffset (p : List Nat) : Nat := nth p 3

/-- The checks of one sounding parameter entry (R141). -/
def srsOk (p : List Nat) : Bool :=
  decide (natLE (p.take 2) ≤ 1023) && (srsComb p == 2 || srsComb p == 4 || srsComb p == 8) &&
    decide (srsOffset p < srsComb p) && decide (1 ≤ nth p 5) && decide (nth p 4 < nth p 5) &&
    (p.drop 6).all fun b => b == 0

/-- Resource elements below `n` with `k mod 8 = r`. -/
def resBelow (n r : Nat) : Nat := (n + 7 - r) / 8

/-- N_u and the sum of the N_l of R143 over a range of resource elements. -/
def combCounts (ps : List (List Nat)) (lo hi : Nat) : Nat × Nat :=
  let cnt (r : Nat) := resBelow hi r - resBelow lo r
  let on (p : List Nat) (r : Nat) : Bool := srsComb p != 0 && r % srsComb p == srsOffset p
  (sumL (((List.range 8).filter fun r => ps.any fun p => on p r).map cnt),
   sumL (ps.map fun p => sumL (((List.range 8).filter (on p)).map cnt)))

/-- The work of one sounding symbol of a covariance set, in units of 1 / 3,200 ns (R143). -/
def covWork (v : CovSet) : Nat :=
  let lo := 12 * v.cfg.prbFirst
  let (nu, nl) := combCounts v.params lo (lo + 12 * v.cfg.prbCount)
  nu * 2080 + nl * 64

/-- Units of array time in one ns: 64 × 50 × the reference spacing in kHz, in which every term of R125 is whole. -/
def State.arrayUnit (s : State) : Nat := 3200 * s.refKhz

/-- DL(t) of R125 in array units: the interval that starts at tick n − 2 for symbols at n ≡ 0 mod m. -/
def State.dlTime (s : State) (t : Nat) : Nat :=
  sumL ((List.range 8).map fun c =>
    let m := s.setSpan 0 c
    if (t + 2) % m = 0 then 64 * m * s.setKhz 0 c else 0)

/-- UL(t) of R125 with the covariance work of R143, in array units: the interval that starts at tick n + m. -/
def State.ulTime (s : State) (t : Nat) : Nat :=
  sumL ((List.range 8).map fun c =>
    let m := s.setSpan 1 c
    if t % m = 0 then
      64 * m * s.setKhz 1 c + (match s.beam.cov.get? c with | some v => covWork v * s.refKhz | none => 0)
    else 0)

/-- The release time of R21 with the linear-phase filter, ns. -/
def releaseTime (mu : Nat) : Nat := 1900 + 2000 / 2 ^ mu

/-- The worst A(t) of R125 over the intervals of a frame, in array units. -/
def State.peakTime (s : State) : Nat :=
  (List.range 8).foldl (fun m t => max m (s.dlTime t + s.ulTime t)) 0

/-- The admitted layer-bandwidth and the two interval checks of R125, in the form of R128 at T2. -/
def State.arrayFits (s : State) (p : Nat) : Bool :=
  let u := s.arrayUnit
  let short := s.shortest * u
  let rel := (releaseTime s.arch.mu + 1200) * u
  decide (s.layerKhz 0 ≤ s.capKhz p 0) && decide (s.layerKhz 1 ≤ s.capKhz p 1) &&
    (List.range 8).all fun t =>
      if s.atT2 then
        decide (4 * (s.dlTime t + s.ulTime t) ≤ 3 * short) && decide (3 * rel + 4 * s.ulTime t ≤ 3 * short)
      else decide (s.dlTime t + s.ulTime t ≤ short) && decide (rel + s.ulTime t ≤ short)

/-- Layers of every set are within the profile's limit (R124). -/
def State.layersFit (s : State) (p : Nat) : Bool :=
  s.beam.sets.all fun e => decide (e.2.layers ≤ profileLayers p (e.1 / 8))

/-- S_max of R145 for L layers. -/
def State.sMax (s : State) (layers : Nat) : Nat :=
  8 * (9 * (s.tps - 2) * s.shortest / (10 * (48000 + 4096 * layers)))

/-- Show the plan in force: `BFM_BUDGET`, `BFM_CAP`, `BFM_PEAK`, `LATENCY` and `RELEASE`. -/
def State.refreshPlan (s : State) : State :=
  let u := s.arrayUnit
  let s := s.put Reg.BFM_BUDGET_DL_LMHZ (ceilDiv (s.layerKhz 0) 1000)
  let s := s.put Reg.BFM_BUDGET_UL_LMHZ (ceilDiv (s.layerKhz 1) 1000)
  let s := s.put Reg.BFM_CAP_CAP_LMHZ (s.capKhz s.profile 0 / 1000)
  let s := s.put Reg.BFM_PEAK_PEAK_NS (min (ceilDiv s.peakTime u) 65535)
  let s := s.put Reg.BFM_PEAK_LIMIT_NS (min (if s.atT2 then s.shortest * 3 / 4 else s.shortest) 65535)
  let rel := if s.lrx = 0 then 0 else s.lrx + 30000 / s.refKhz
  s.each (List.range 8) fun s n =>
    (s.put (Reg.TIL_TX_STAT_LATENCY n) (min (s.ltxNs n) 65535)).put (Reg.TIL_RX_STAT_RELEASE n) rel

/-! ## Levee's permitted ranges (R160 to R162) -/

/-- Word k of the limits in force. -/
def State.limitWord (s : State) (k : Nat) : Nat := s.rd (Reg.LVE_INFORCE k)

/-- Whether limits are in force (R161). -/
def State.txAllowed (s : State) : Bool := s.on Reg.LVE_STAT_TX_ALLOWED

/-- The permitted ranges of a word function, kHz: entries with both words zero are unused (R160). -/
def limitRanges (word : Nat → Nat) : List (Nat × Nat) :=
  ((List.range 16).map fun i => (bits (word (4 + 2 * i)) 0 25, bits (word (5 + 2 * i)) 0 25)).filter
    fun r => r.1 != 0 || r.2 != 0

/-- Whether a band lies wholly inside one permitted range. -/
def bandPermitted (word : Nat → Nat) (lo hi : Int) : Bool :=
  (limitRanges word).any fun r => decide (r.1 * khz ≤ lo) && decide (hi ≤ r.2 * khz)

/-- Whether limits permit a carrier of a tile (R162). -/
def State.carrierPermitted (s : State) (word : Nat → Nat) (n : Nat) (c : TxCarrier) : Bool :=
  let f := s.txRf n (carrierOfs c.ftw)
  let half : Int := (6 * c.nprb * scsKhz c.num : Nat) * khz
  bandPermitted word (f - half) (f + half) && decide (occKhz c.num c.nprb ≤ bits (word 3) 0 25)

/-- Whether limits permit a tone of a tile (R162, R75). -/
def State.tonePermitted (s : State) (word : Nat → Nat) (n : Nat) (t : Tone) : Bool :=
  let f := s.txRf n (carrierOfs t.ftw)
  bandPermitted word f f

/-- The tones that run on a tile, by path. -/
def State.tonesOf (s : State) (n : Nat) : List (Nat × Tone) := s.tx.tones.filter fun e => e.1 / 8 == n

/-- Levee's check of a tile as it would then stand (R162). -/
def State.leveeTileOk (s : State) (n : Nat) : Bool :=
  (s.txCarriers n).all (s.carrierPermitted s.limitWord n) &&
    (s.tonesOf n).all fun e => s.tonePermitted s.limitWord n e.2

/-! ## Effective ticks -/

/-- `NUM` bytes of a carrier index on the tiles of a mask, in one direction. -/
def State.numsOf (s : State) (dir mask c : Nat) : List Nat :=
  if dir = 0 then (s.tx.carriers.filter fun e => e.1 % 8 == c && bit mask (e.1 / 8)).map fun e => e.2.num
  else (s.rx.carriers.filter fun e => e.1 % 8 == c && bit mask (e.1 / 8)).map fun e => e.2.num

/-- Whether an effective tick is the first of a slot of every numerology listed (R83); with none listed, of the reference
numerology. -/
def State.slotAligned (s : State) (tick : Nat) (nums : List Nat) : Bool :=
  tick % s.tps == 0 && nums.all fun num => tick % s.slotTicks num == 0

end Sys2Proof.Machine
end

