-- ==== Sys2Proof/Machine/Capture.lean ====
section
/-! DEFINITION. What other blocks do to a Gauge capture (R488 to R495): conditions they meet, and taps that stop. -/
namespace Sys2Proof.Machine
open Sys2Proof

/-- The streams of a capture. -/
def capStreams (c : Capture) : List Nat := maskList c.cfg.mask 8

/-- The state of a stream (R494): 0 IDLE, 1 PRE, 2 POST, 3 WRITE, 4 REARM. -/
def State.gauState (s : State) (k : Nat) : Nat := s.get (Reg.GAU_S_STAT_STATE k)

/-- Move a stream to a state. -/
def State.setGau (s : State) (k st : Nat) : State :=
  let s := s.put (Reg.GAU_S_STAT_STATE k) st
  let s := s.put Reg.GAU_STAT_ARMED (putBit (s.get Reg.GAU_STAT_ARMED) k (st != 0))
  s.put Reg.GAU_STAT_TRIGGERED (putBit (s.get Reg.GAU_STAT_TRIGGERED) k (st == 2 || st == 3))

/-- Put a capture under its source stream. -/
def State.setCap (s : State) (k : Nat) (c : Capture) : State := { s with gau := { s.gau with caps := s.gau.caps.set k c } }

/-- The tile of a stream's tap. -/
def tapTile (c : GauStreamCmd) : Nat := if c.tap = 4 then c.sel else c.sel / 8

/-- Whether a capture's stream satisfies a condition on its tap. -/
def State.tapIs (s : State) (k : Nat) (f : GauStreamCmd → Bool) : Bool := (s.gau.streams.get? k).any fun g => f g.cfg

/-- Whether a capture enables a condition (R493). -/
def State.condOn (s : State) (c : Capture) (cond : Nat) : Bool :=
  if cond < 6 then bit c.cfg.cond cond && (cond != 1 || s.on Reg.GAU_PIN_EN) else cond == 6 || c.cfg.auto

/-- A condition met during re-arm is counted and, where asked for, reported (R493). -/
def State.gauMissed (s : State) (k : Nat) (c : Capture) (cond : Nat) : State :=
  let n := min (c.missed + 1) (2 ^ 32 - 1)
  let s := ((s.setCap k { c with missed := n }).add64 (Reg.GAU_S_MISSED k) 1).setF Reg.GAU_STAT_MISSED_EVT
  s.when c.cfg.evtMissed fun s => s.event 0x003C 0x1102 ([k, cond, 0, 0] ++ bytesLE 4 n)

/-- Condition 0, 1, 6 or 7 is met at a time (R489, R490, R493): while the capture waits it is met on the next kept sample; while it
fills it is ignored; while a repeating capture re-arms it is missed. -/
def State.gauMeet (s : State) (k cond time : Nat) : State :=
  match s.gau.caps.get? k with
  | none => s
  | some c =>
    if !s.condOn c cond then s
    else if s.gauState k = 1 then
      s.setCap k { c with pend := putBit c.pend cond true, trigAt := if c.pend = 0 then time else min c.trigAt time }
    else if s.gauState k ≥ 3 ∧ c.cfg.rep = true ∧ c.cause = none then s.gauMissed k c cond
    else s

/-- A Levee event on a tile (R489): 0 mute, 1 blank, 2 attenuation. -/
def State.leveeCapture (s : State) (tile kind : Nat) : State :=
  s.each (s.gau.caps.map Prod.fst) fun s k =>
    s.when (s.tapIs k (fun g => tapTile g == tile) && (s.gau.caps.get? k).any fun c => bit c.cfg.leveeMask kind) fun s =>
      s.gauMeet k 0 s.now

/-- The taps that satisfy a condition stop producing samples (R495): every capture with such a stream in PRE or POST triggers by
condition 6 if it has not, and is cut. Cause: 1 tap stopped, 2 trip. -/
def State.tapStop (s : State) (f : GauStreamCmd → Bool) (cause : Nat) : State :=
  s.each (s.gau.caps.map Prod.fst) fun s k =>
    match s.gau.caps.get? k with
    | none => s
    | some c =>
      if (s.gauState k = 1 ∨ s.gauState k = 2) ∧ (capStreams c).any (fun j => s.tapIs j f) = true then
        let c := if c.triggered then c else { c with triggered := true, trigMap := 64, trigAt := s.now, pend := 0 }
        let s := s.setCap k { c with cut := true, cause := some cause, trip := c.trip || cause == 2 }
        (s.each (capStreams c) fun s j => s.setGau j 2).setF Reg.GAU_STAT_CUT_EVT
      else s

/-- The taps of a tile begin to produce samples: streams armed before count from now (R487). -/
def State.tapStart (s : State) (n : Nat) : State :=
  s.each (List.range 8) fun s k =>
    match s.gau.streams.get? k with
    | some g =>
      if tapTile g.cfg = n ∧ s.gauState k = 1 then { s with gau := { s.gau with streams := s.gau.streams.set k { g with t0 := s.now } } }
      else s
    | none => s

end Sys2Proof.Machine
end

