-- ==== Sys2Proof/Machine/Operands.lean ====
section
/-! DEFINITION. The numeric forms the data path works on, as exact functions: BFP and modulation-compressed values (R42, R43,
R115, R116), prefixes and phase compensation (R46, R47), gains (R48), DPD entries (R63, R64), beam weights and blends
(R122, R129, R136), and the CIC (R99). -/
namespace Sys2Proof.Machine
open Sys2Proof

/-- A BFP value: mantissa × 2^exponent in Q1.15, and whether it saturated (R42). -/
def bfpValue (m : Int) (e : Nat) : Int × Bool :=
  let v := m * 2 ^ e
  (satS 16 v, v != satS 16 v)

/-- A value scaled down by 2^e, rounded with ties away from zero (R115). -/
def bfpRound (v : Int) (e : Nat) : Int := divRound v (2 ^ e)

/-- Whether every value of a PRB fits a w-bit mantissa at exponent e. -/
def bfpFits (w e : Nat) (vs : List Int) : Bool := vs.all fun v => bfpRound v e == satS w (bfpRound v e)

/-- The exponent the compressor chooses: the smallest of 0 to 8 at which every value fits (R115). -/
def bfpExp (w : Nat) (vs : List Int) : Nat := ((List.range 9).find? fun e => bfpFits w e vs).getD 8

/-- The mantissas of a PRB at width w (R115). -/
def bfpMantissas (w : Nat) (vs : List Int) : List Int := vs.map fun v => bfpRound v (bfpExp w vs)

/-- A whole-array value before compression: the stage-8 value times 2^−`WA_SHIFT`, rounded and saturated to Q1.15, from
Q3.13, and whether it saturated (R116). -/
def waValue (v : Int) (shift : Nat) : Int × Bool :=
  let r := divRound v (2 ^ shift)
  (satS 16 r, r != satS 16 r)

/-- A modulation-compressed component of width w (R43): the index read as two's complement fraction, half a step up with the
constellation shift flag, in units of 2^-w. PRESUMED: the O-RAN WG4 method that R43 names. -/
def modCompUnits (w idx : Nat) (shift : Bool) : Int := 2 * sx w idx + (if shift then 1 else 0)

/-- The component times its scaler, rounded to Q1.15; the scaler is 15 bits: mantissa 11, exponent 4 (O-RAN `modCompScaler`). -/
def modCompValue (w idx scaler : Nat) (shift : Bool) : Int :=
  divRound (modCompUnits w idx shift * (scaler % 2048) * 2 ^ 15) (2 ^ (w + 11 + scaler / 2048))

/-- Whether a width is one that R43 decodes. -/
def modCompWidthOk (w : Nat) : Bool := decide (1 ≤ w ∧ w ≤ 5)

/-- Prefix length in samples of symbol l (R46): N is the transform size. -/
def prefixLen (mu ecp n l : Nat) : Nat :=
  if ecp = 1 then n / 4 else 144 * n / 2048 + (if l % (7 * 2 ^ mu) = 0 then n * 2 ^ mu / 128 else 0)

/-- The 32-bit phase word of R47: frac(f0 × k / 1,966,080) of a turn, with k the time in Tc from the start of the subframe
to the end of the prefix. -/
def phaseWord (f0khz k : Nat) : Nat := f0khz * k % 1966080 * 2 ^ 32 / 1966080

/-- A Q3.15 sample times a Q2.14 gain (R48), saturated to Q3.15, and whether it saturated. -/
def gainSample (v : Int) (gain : Nat) : Int × Bool :=
  let r := divRound (v * gain) (2 ^ 14)
  (satS 18 r, r != satS 18 r)

/-- The fields of a DPD entry (R64). -/
def dpdValid (e : Nat) : Bool := bit e 63
def dpdOrder (e : Nat) : Nat := bits e 40 4
def dpdMem (e : Nat) : Nat := bits e 44 4
def dpdLag (e : Nat) : Int := sx 4 (bits e 48 4)
def dpdCoefI (e : Nat) : Int := sx 20 (bits e 0 20)
def dpdCoefQ (e : Nat) : Int := sx 20 (bits e 20 20)

/-- The identity entry of R63: c = 1.0 in Q2.18, k = 1, m = 0, l = 0. -/
def dpdIdentity : Nat := 2 ^ 63 + 2 ^ 18

/-- A bank with the identity entry only. -/
def dpdIdentityBank : List Nat := [dpdIdentity]

/-- Whether a valid entry is malformed (R63). -/
def dpdMalformed (e : Nat) : Bool :=
  dpdValid e && (decide (dpdOrder e > 8) || decide ((dpdMem e : Int) + dpdLag e < 0) ||
    decide ((dpdMem e : Int) + dpdLag e > 15) || bits e 52 11 != 0)

/-- Valid entries of a bank. -/
def dpdCount (bank : List Nat) : Nat := (bank.filter dpdValid).length

/-- The term of one entry for an odd k − 1 = 0 entry, c × x(n − m), in Q3.15 before saturation: the only order whose value is
exact without a square root. -/
def dpdLinearTerm (e : Nat) (xi xq : Int) : Int × Int :=
  (divRound (dpdCoefI e * xi - dpdCoefQ e * xq) (2 ^ 18), divRound (dpdCoefI e * xq + dpdCoefQ e * xi) (2 ^ 18))

/-- Address in device memory of an entry of a beam bank (R129, R378). -/
def beamAddr (bank entry : Nat) : Nat := 0x01000000 + bank * 0x100000 + entry * 256

/-- The weight of a path in the bytes of an entry (R129). -/
def beamWeight (bytes : List Nat) (p : Nat) : Int × Int :=
  (sx 16 (natLE ((bytes.drop (4 * p)).take 2)), sx 16 (natLE ((bytes.drop (4 * p + 2)).take 2)))

/-- P_e of an entry over the paths of a mask, in units of 2^-30 (R127). -/
def beamPower (bytes : List Nat) (mask : Nat) : Int :=
  sumZ ((maskList mask 64).map fun p => let w := beamWeight bytes p; w.1 * w.1 + w.2 * w.2)

/-- Whether an entry acts as all-zero weights once the paths of a mask are removed: its power lies wholly on them (R127). -/
def beamLost (bytes : List Nat) (removed : Nat) : Bool :=
  beamPower bytes (2 ^ 64 - 1) == beamPower bytes removed

/-- α of R136 for the symbol i ticks after the effective tick of a swap with blend F, as numerator over F + 1. -/
def blendAlpha (i f : Nat) : Nat := min (i + 1) (f + 1)

/-- A blended weight component (R136), times F + 1. -/
def blendWeight (old new : Int) (i f : Nat) : Int :=
  ((f + 1 - blendAlpha i f : Nat) : Int) * old + (blendAlpha i f : Int) * new

/-- One complex product of the array at full precision (R122). -/
def beamProduct (w x : Int × Int) : Int × Int := (w.1 * x.1 - w.2 * x.2, w.1 * x.2 + w.2 * x.1)

/-- One step of an integrator or comb of the CIC: 21-bit two's complement, wrapping (R99). -/
def cicAdd (a b : Int) : Int := sx 21 (ux 21 (a + b))

/-- The CIC output kept: the 18 bits from the sign bit down, rounding by 5 bits at R_c = 3 and 3 at R_c = 2 (R99). -/
def cicOut (v : Int) (rc : Nat) : Int := divRound v (2 ^ (if rc = 3 then 5 else 3))

end Sys2Proof.Machine
end

