-- ==== Sys2Proof/Machine/Cross.lean ====
section
/-! DEFINITION. Operations several blocks share: tile radio states and their outputs (R178 to R180), bias outputs at `SAFE`
(R77), mutes and unmutes of Levee (R165 to R168), and the outcome of a symbol (R177). -/
namespace Sys2Proof.Machine
open Sys2Proof

/-! ## Bias outputs -/

/-- A bias DAC held by its safe driver, as from `RSTN` (R77). -/
def BiasDac.initial : BiasDac := ⟨none, none, none, true⟩

/-- DAC k of tile n. -/
def State.biasDac (s : State) (n k : Nat) : BiasDac := s.tx.bias.getD (n * 16 + k) BiasDac.initial

/-- Put DAC k of tile n. -/
def State.setBiasDac (s : State) (n k : Nat) (d : BiasDac) : State :=
  { s with tx := { s.tx with bias := s.tx.bias.set (n * 16 + k) d } }

/-- Event 0x0301: the outcome of a queued command (R84). -/
def State.queuedOutcome (s : State) (tile kind idx bank status tag : Nat) : State :=
  s.event (0x0010 + tile) 0x0301 ([kind, idx, bank, status] ++ bytesLE 2 tag)

/-- Give one DAC's pin to or from the safe driver (R77, R178). -/
def State.biasSafe (s : State) (n k : Nat) (safe : Bool) : State :=
  s.setBiasDac n k { s.biasDac n k with safe := safe }

/-- Move every bias output of a tile to `SAFE`, or back to its programmed code; a removed path's outputs stay at `SAFE` (R502). -/
def State.tileBias (s : State) (n : Nat) (safe : Bool) : State :=
  s.each ((List.range 16).filter fun k => safe || !s.bit64 Reg.BFM_REMOVED (8 * n + k / 2)) fun s k => s.biasSafe n k safe

/-- Move both bias outputs of one path to `SAFE` (R77), or back to their codes. -/
def State.pathBias (s : State) (p : Nat) (safe : Bool) : State :=
  (s.biasSafe (p / 8) (2 * (p % 8)) safe).biasSafe (p / 8) (2 * (p % 8) + 1) safe

/-- TRIP during a span change: the change is abandoned and the staged code discarded with status INTERNAL (R85). -/
def State.tripBias (s : State) (n : Nat) : State :=
  s.each (List.range 16) fun s k =>
    let d := s.biasDac n k
    match d.change with
    | none => s.biasSafe n k true
    | some c =>
      (s.setBiasDac n k { d with change := none, safe := true }).queuedOutcome n 1 k 0 St.internal c.job.hdr.tag

/-! ## Paths able to transmit -/

/-- The paths of a tile's mask, as path numbers. -/
def tilePaths (tile mask : Nat) : List Nat := (maskList mask 8).map fun p => 8 * tile + p

/-- Whether a path is muted, removed, aerial-guarded. -/
def State.muted (s : State) (p : Nat) : Bool := s.bit64 Reg.LVE_MUTE p
def State.removed (s : State) (p : Nat) : Bool := s.bit64 Reg.BFM_REMOVED p
def State.guarded (s : State) (p : Nat) : Bool := bit (s.get (Reg.RCT_TILE_STATE_GUARDED (p / 8))) (p % 8)

/-- The paths of a tile able to transmit (R178, R179). -/
def State.ableMask (s : State) (n : Nat) : Nat :=
  maskOf ((List.range 8).filter fun p => !s.muted (8 * n + p) && !s.removed (8 * n + p) && !s.guarded (8 * n + p))

/-! ## Tile radio states -/

/-- The radio state of a tile: 0 OFF, 1 STANDBY, 2 RX, 3 TX, 4 PROTECT. -/
def State.tileState (s : State) (n : Nat) : Nat := s.get (Reg.RCT_TILE_STATE_STATE n)

/-- The strobes of OFF (R178). -/
def Strobes.off : Strobes := ⟨false, true, false, 0, 0⟩

/-- The strobes of a tile. -/
def State.strobes (s : State) (n : Nat) : Strobes := s.rct.strobes.getD n Strobes.off

/-- Change the strobes of a tile. -/
def State.modStrobes (s : State) (n : Nat) (f : Strobes → Strobes) : State :=
  { s with rct := { s.rct with strobes := s.rct.strobes.set n (f (s.strobes n)) } }

/-- Release `PA_EN` of one path. -/
def State.paOff (s : State) (p : Nat) : State :=
  s.modStrobes (p / 8) fun t => { t with pa := putBit t.pa (p % 8) false }

/-- A tile is gated exactly while it is OFF (R443): the mask, the power state that follows from it, the budget (R27, R437), and the taps
of the tile (R495). -/
def State.showGated (s : State) (n : Nat) (off : Bool) : State :=
  let s := s.put Reg.PWR_STAT_GATED (putBit (s.get Reg.PWR_STAT_GATED) n off)
  let s := s.when (decide (s.get Reg.PWR_STAT_STATE < 2)) fun s => s.put Reg.PWR_STAT_STATE (b2n (s.get Reg.PWR_STAT_GATED != 0))
  let s := if off then s.tapStop (fun g => tapTile g == n) (if s.on Reg.THM_STAT_TRIP_LATCHED then 2 else 1) else s.tapStart n
  s.refreshPlan

/-- Move a tile to a radio state (R179): the outputs of OFF and PROTECT at once, those of the other states by the steps of
R182; a record on entry to or exit from OFF or PROTECT (R192). -/
def State.setTileState (s : State) (n new cause : Nat) : State :=
  let old := s.tileState n
  if old = new then s
  else
    let s := s.put (Reg.RCT_TILE_STATE_STATE n) new
    let s := s.when (old == 0 || new == 0) fun s => s.showGated n (new == 0)
    let s :=
      if new = 0 then (s.modStrobes n fun t => { Strobes.off with obsSel := t.obsSel }).tileBias n true
      else if new = 4 then s.modStrobes n fun t => ⟨false, true, true, 0, t.obsSel⟩
      else if old = 0 then (s.modStrobes n fun t => { Strobes.off with obsSel := t.obsSel }).tileBias n false
      else if old = 4 then s.modStrobes n fun t => { t with prot := false }
      else s
    let latched := s.get (Reg.RCT_TILE_STATE_LATCHED n)
    if old = 0 || old = 4 || new = 0 || new = 4 then s.event 0x0039 0x0511 [n, old, new, cause, latched] else s

/-- What drives a tile out of PROTECT, before any entry. -/
def Protect.initial : Protect := ⟨[], none⟩

/-- The protect record of a tile. -/
def State.protect (s : State) (n : Nat) : Protect := s.rct.protect.getD n Protect.initial

/-- Change the protect record of a tile. -/
def State.modProtect (s : State) (n : Nat) (f : Protect → Protect) : State :=
  { s with rct := { s.rct with protect := s.rct.protect.set n (f (s.protect n)) } }

/-- A PROTECT cause arises (R179, R180): 0 command, 1 overload, 2 bias mismatch. It has no effect on a tile that is OFF. The
fourth entry within 1 s latches. `goneAt` is when the cause ends, where it is over at once. -/
def State.enterProtect (s : State) (n cause : Nat) (goneAt : Option Nat) : State :=
  if s.tileState n = 0 then s
  else
    let s := s.setF (if cause = 0 then Reg.RCT_TILE_STATE_CAUSE_HOST n
      else if cause = 1 then Reg.RCT_TILE_STATE_CAUSE_OVL n else Reg.RCT_TILE_STATE_CAUSE_BIAS n)
    let entering := s.tileState n ≠ 4
    let s := s.modProtect n fun q =>
      { q with entries := if entering then s.now :: q.entries.filter fun t => decide (s.now < t + 1000000000) else q.entries,
               goneAt := if s.rx.episodes.any (fun e => e.1 / 8 == n && e.2.protect) then none else goneAt }
    let s := s.when (entering && decide ((s.protect n).entries.length ≥ 4)) fun s => s.setF (Reg.RCT_TILE_STATE_LATCHED n)
    s.setTileState n 4 cause

/-- A burst of the tile was withheld until now by a cause of R177 (R553). -/
def State.withhold (s : State) (n reason : Nat) : State :=
  { s with rct := { s.rct with withheld := s.rct.withheld.set n (s.now, reason) } }

/-- A tile leaves PROTECT for STANDBY (R179). -/
def State.leaveProtect (s : State) (n cause : Nat) : State :=
  let s := s.modProtect n fun q => { q with goneAt := none }
  (s.setTileState n 1 cause).withhold n 0x05

/-- The phase a tile shows (R450): 0 steady, 1 shutting down, 2 starting, 3 shutting down with a start pending. -/
def State.showPhase (s : State) (n : Nat) : State :=
  s.put (Reg.PWR_TILE_PHASE_PHASE n) (match s.pwr.tiles.get? n with
    | none => 0
    | some j => if j.on then 2 else if (s.pwr.tileQ.get? n).any TileJob.on then 3 else 1)

/-- A tile goes OFF (R179): its PROTECT record is dropped, its latch cleared, and its shut-down runs (R443, R444). The cause is numbered
as 0x0511 numbers it; `who` is the cause of the power record 0x0F01. -/
def State.tileOffBy (s : State) (n cause who : Nat) : State :=
  if s.tileState n = 0 then s
  else
    let s := s.modProtect n fun q => { q with goneAt := none }
    let s := (s.setTileState n 0 cause).put (Reg.RCT_TILE_STATE_LATCHED n) 0
    let job : TileJob := ⟨false, s.now, [], who⟩
    { s with pwr := { s.pwr with tiles := s.pwr.tiles.set n job } }.showPhase n

/-- A tile goes OFF for a cause of its own: neither the host nor a throttle. -/
def State.tileOff (s : State) (n cause : Nat) : State := s.tileOffBy n cause (if cause = 6 then 3 else 1)

/-! ## Levee's power limits and mutes -/

/-- Coupler-plane limits L_p and L_t in 0.01 dBm (R163). -/
def State.limitPath (s : State) : Int := sx 16 (s.limitWord 0 / 65536) - sx 16 (s.limitWord 0)
def State.limitTotal (s : State) : Int := sx 16 (s.limitWord 1) - sx 16 (s.limitWord 0)

/-- The dwell record of a path before its first dwell. -/
def PathDwells.initial : PathDwells := ⟨[], 0, 0⟩

/-- What Levee has measured of a path. -/
def State.dwells (s : State) (p : Nat) : PathDwells := s.levee.dwells.getD p PathDwells.initial

/-- A path starts afresh: A_p = 10 dB and no dwells (R165). -/
def State.pathStart (s : State) (p : Nat) : State :=
  { s with levee := { s.levee with dwells := s.levee.dwells.del p, att := s.levee.att.set p 1000 } }

/-- Mutes of a path that count within the last 600 s (R167). -/
def State.recentMutes (s : State) (p : Nat) : List Nat :=
  (s.levee.muteTimes.getD p []).filter fun t => decide (s.now < t + 600000000000)

/-- Mute a path (R166 to R168, R252): its output is zero from the next tick, its `PA_EN` is released, and the mute event is
raised. A mute of cause 0 that is the path's third within 600 s holds until `RSTN`; the other causes do not count. -/
def State.mutePath (s : State) (p cause : Nat) : State :=
  if s.muted p then s
  else
    let times := if cause = 0 then s.now :: s.recentMutes p else s.recentMutes p
    let held := cause = 0 && decide (times.length ≥ 3)
    let cause' := if held then 3 else cause
    let s := s.putBit64 Reg.LVE_MUTE p true
    let s := { s with levee := { s.levee with
      mutes := s.levee.mutes.set p ⟨cause, s.now⟩, muteTimes := s.levee.muteTimes.set p times,
      held := if held then putBit s.levee.held p true else s.levee.held } }
    let s := ((s.setF Reg.LVE_STAT_MUTE_EVT).paOff p).leveeCapture (p / 8) 0
    s.event 0x0038 0x0501 ([p, cause'] ++ bytesLE 2 (ux 16 (s.dwells p).last) ++ bytesLE 2 (ux 16 s.limitPath) ++
      [min times.length 255])

/-- Lift a mute (R167, R168, R252): the path starts afresh (R165), and its return may withhold a burst (R553). While the
tile's observation receiver fails, the path stays muted for that cause instead; a path that a remote order mutes too stays muted
for that (R265). -/
def State.unmutePath (s : State) (p cause : Nat) : State :=
  if !s.muted p then s
  else if cause ≠ 1 && bit (s.get Reg.LVE_STAT_OBS_FAIL) (p / 8) then
    { s with levee := { s.levee with mutes := s.levee.mutes.set p ⟨1, s.now⟩ } }
  else if cause = 1 && bit s.line.remote p then
    { s with levee := { s.levee with mutes := s.levee.mutes.set p ⟨2, s.now⟩ } }
  else
    let s := s.putBit64 Reg.LVE_MUTE p false
    let s := { s with levee := { s.levee with mutes := s.levee.mutes.del p } }
    let s := s.pathStart p
    let s := s.when (s.ableMask (p / 8) == maskOf [p % 8]) fun s => s.withhold (p / 8) 0x03
    s.event 0x0038 0x0502 [p, cause]

/-- The blanking reason of a tile's symbol in progress, if it is blanked (R177). -/
def State.blankReason (s : State) (n : Nat) : Option Nat := s.levee.blankNow.get? n

/-- The reason of the first blanked tile of a mask. -/
def State.blankOf (s : State) (mask : Nat) : Option Nat := (maskList mask 8).findSome? s.blankReason

/-- Complete a timed transmit command at its effective tick: BLANKED with the reason where the symbol is blanked on any tile
it affects, DONE otherwise (R177). -/
def State.completeTx (s : State) (h : Hdr) (op mask : Nat) : State :=
  match s.blankOf mask with
  | some r => s.completeX h op St.blanked r [] false
  | none => s.complete h op St.done

/-- Count one blanked tile-symbol (R176, R177, R192). -/
def State.countBlank (s : State) (n reason : Nat) : State :=
  let key := n * 8 + reason
  let s := { s with levee := { s.levee with
    blankNow := s.levee.blankNow.set n reason, blanks := s.levee.blanks.set key (s.levee.blanks.getD key 0 + 1) } }
  ((s.add64 Reg.LVE_BLANK_CNT 1).setF Reg.LVE_STAT_BLANK_EVT).leveeCapture n 1

/-! ## Reference edges and Culvert queues -/

/-- The first reference edge of 122.88 MHz after a moment in ns, as a number (R106). -/
def refEdgeAfter (ns : Nat) : Nat := ns * 12288 / 100000 + 1

/-- The first whole ns not before a reference edge. -/
def refEdgeNs (k : Nat) : Nat := ceilDiv (k * 100000) 12288

/-- A Culvert link before its first alignment period. -/
def CulLink.initial : CulLink := ⟨0, 0, 0, 0, none, 0, 0, 0, 0, false, 0, [], []⟩

/-- Put a frame into one of the four transmit queues of a Culvert link (R278): 0 link management, 1 panel sync, 2 set traffic,
3 tunnel. -/
def State.culSend (s : State) (link q : Nat) (f : CulFrameOut) : State :=
  let l := s.cul.links.getD link CulLink.initial
  let l := { l with queues := l.queues.set q (l.queues.getD q [] ++ [f]) }
  { s with cul := { s.cul with links := s.cul.links.set link l } }

/-- The mask of the panel's positions (R280). -/
def State.panelMask (s : State) : Nat := 2 ^ (s.get Reg.CUL_CFG_MEMBERS_M1 + 1) - 1

/-! ## Calibration -/

/-- A calibration sets the delay and phase trims of a tile's paths (R57, R109): the delay in 0.5 ps steps from −200 ps, the phase in steps
of 2^−16 turn. -/
def State.calTrims (s : State) (n : Nat) : State :=
  s.each (tilePaths n 255) fun s p =>
    let a := Config.calTrim s.free
    let b := Config.calTrim (s.free + 1)
    { s with free := s.free + 2, tx := { s.tx with trims := s.tx.trims.set p (a.1 % 801, a.2 % 65536) },
             rx := { s.rx with trims := s.rx.trims.set p (b.1 % 801, b.2 % 65536) } }

/-! ## Seawall's queue and the junction temperature -/

/-- Hand an operation to Seawall, which runs one at a time (R412). -/
def State.seaSubmit (s : State) (j : SeaJob) : State :=
  match s.sea.running with
  | none => { s with sea := { s.sea with running := some j } }.setF Reg.SEA_STAT_BUSY
  | some _ => { s with sea := { s.sea with queue := s.sea.queue ++ [j] } }

/-- The highest of the forty readings, 0.125 °C (R454). -/
def State.junction (s : State) : Int := sx 16 (s.get Reg.THM_STAT_MAX_T)

end Sys2Proof.Machine
end

