-- ==== Sys2Proof/Machine/Restart.lean ====
section
/-! DEFINITION. Entering reset (R419 to R422): what each reset clears, and what the always-on island, the fuses and the flash
keep through it. -/
namespace Sys2Proof.Machine
open Sys2Proof

/-- The register file of a device in reset: every register at its reset value, but `DEV_RESET_CAUSE`, `FLT_DUMP_STAT` and
`DEV_SCRATCH_k` of the always-on island (R422, R543), which only the loss of `VDD_AON` clears. The trip latch lies there too, and a boot
after a trip shows `TRIP_SEEN` (R460). The sentinel keeps its wake cause (R446). -/
def State.restartRegs (s : State) (cause : Nat) (aonLost : Bool) : RegFile :=
  let keep : List Nat := if aonLost then [] else [Reg.FLT_DUMP_STAT] ++ (List.range 4).map Reg.DEV_SCRATCH
  let old := if aonLost then 0 else s.rd Reg.DEV_RESET_CAUSE
  let regs := keep.foldl (fun m off => Sparse.write m off (Sparse.read s.regs off)) resetRegs
  let tripped := s.pwr.tripped && !aonLost
  let regs := Sparse.write regs Reg.THM_STAT (BitVec.ofNat 32
    (putBits (putBits 0 Reg.THM_STAT_TRIP_LATCHED.lsb 1 (b2n tripped)) 0 3 (if tripped then 4 else 0)))
  let regs := Sparse.write regs Reg.PWR_WAKE (BitVec.ofNat 32 (putBits 0 8 3 s.pwr.sentinel.cause))
  Sparse.write regs Reg.DEV_RESET_CAUSE (BitVec.ofNat 32 (old ||| cause ||| (if tripped then 32 else 0)))

/-- Enter reset for a cause, given as the bits it sets in `DEV_RESET_CAUSE` (R422). Fuses, the flash, host memory and the pins
keep what they hold; device time returns to zero (R293). -/
def State.restart (s : State) (cause : Nat) (aonLost : Bool) : State :=
  { State.reset with
    pending := s.pending
    regs := s.restartRegs cause aonLost
    free := s.free
    hostMem := s.hostMem
    host := { HostState.initial with perstHigh := s.host.perstHigh, linkUp := s.host.linkUp }
    levee := { LeveeState.initial with fuses := s.levee.fuses, slots := s.levee.slots }
    sea := { SeaState.initial with
      fuses := s.sea.fuses, idRecord := s.sea.idRecord, endorsement := s.sea.endorsement, caks := s.sea.caks,
      cakCounter := s.sea.cakCounter, muteCounter := s.boot.muteFlash, retired := s.sea.retired }
    boot := { BootState.initial with
      rstnHigh := s.boot.rstnHigh, supplyOk := s.boot.supplyOk, testEn := s.boot.testEn, slots := s.boot.slots,
      config := s.boot.config, calTemp := s.boot.calTemp, epochFlash := s.boot.epochFlash,
      muteFlash := s.boot.muteFlash }
    pwr := { PwrState.initial with
      sentinel := s.pwr.sentinel, cool := s.pwr.cool, tripped := s.pwr.tripped && !aonLost }
    flt := { FltState.initial with
      log := s.flt.log, logSector := s.flt.logSector, logFill := s.flt.logFill, logErase := s.flt.logErase,
      dumpSlots := s.flt.dumpSlots, dumpSeq := s.flt.dumpSeq, dumpNotice := s.flt.dumpNotice }
    pkg := { PkgState.initial with
      console := s.pkg.console, straps := s.pkg.straps, ir := s.pkg.ir, boundary := s.pkg.boundary, captured := s.pkg.captured,
      gaugeTrig := s.pkg.gaugeTrig } }

/-- Milliseconds since t0. -/
def State.sinceT0 (s : State) : Nat := (s.now - s.boot.t0) / 1000000

/-- A step of the bring-up timeline is reached (R433, R440). -/
def State.milestone (s : State) (step tile : Nat) : State :=
  let s := { s with boot := { s.boot with step := max s.boot.step step } }
  s.event 0x0000 0x0E01 ([step, tile] ++ bytesLE 4 s.sinceT0)

end Sys2Proof.Machine
end

