-- ==== Sys2Proof/Machine/Faulting.lean ====
section
/-! DEFINITION. Operations of the fault chapter that other blocks use: the fault counters and their windows (R500), the removal
of a path (R502, R503), and the flags of background work (R39). -/
namespace Sys2Proof.Machine
open Sys2Proof

/-- Threshold and window, in ns, of a fault class (R500). Class 7 is counted only. -/
def faultThreshold (c : Nat) : Nat × Nat :=
  match c with
  | 0 => (8, 10000000000)
  | 1 => (2, 30000000000)
  | 2 => (8, 10000000000)
  | 3 => (8, 10000000000)
  | 4 => (32, 10000000000)
  | 5 => (16, 1000000000)
  | _ => (16, 1000000000)

/-- Count an event of a class in `FLT_TRANS_c` (R500). -/
def State.countClass (s : State) (c : Nat) : State := s.add64 (Reg.FLT_TRANS c) 1

/-- Put one more fault of a source into its window (R500). -/
def State.windowPut (s : State) (c src : Nat) : State :=
  let key := c * 65536 + src
  let recent := (s.flt.windows.getD key []).filter fun t => decide (s.now < t + (faultThreshold c).2)
  { s with flt := { s.flt with windows := s.flt.windows.set key (s.now :: recent) } }

/-- Whether a source has reached its threshold. -/
def State.windowFull (s : State) (c src : Nat) : Bool :=
  decide ((s.flt.windows.getD (c * 65536 + src) []).length ≥ (faultThreshold c).1)

/-- Start a source's window again. -/
def State.windowClear (s : State) (c src : Nat) : State :=
  { s with flt := { s.flt with windows := s.flt.windows.del (c * 65536 + src) } }

/-- The threshold record 0x1202 (R512). -/
def State.thresholdRecord (s : State) (c action what addr : Nat) : State :=
  s.event 0x003E 0x1202 ([c, action] ++ bytesLE 2 what ++ bytesLE 4 addr)

/-- The report of the removed-path mask to the DU (R214, R230). -/
def State.reportPaths (s : State) : State := s.event 0x0028 0x0602 (bytesLE 8 (s.rd64 Reg.BFM_REMOVED))

/-- Show how many paths are removed. -/
def State.showRemoved (s : State) : State := s.put Reg.FLT_STAT_REMOVED (popCount (s.rd64 Reg.BFM_REMOVED) 64)

/-- Remove a path (R502): its samples are zero from the next tick boundary, its `PA_EN` is released, both its bias outputs go to
`SAFE`, the DU is told, and the weights are renormalised within 2 ms. The third removal within 600 s holds until `RSTN` (R503).
A tile whose every path is removed goes OFF. Cause: 0 lasting fault, 1 threshold. -/
def State.removePath (s : State) (p cause : Nat) : State :=
  if s.removed p then s
  else
    let times := s.now :: (s.flt.removals.getD p []).filter fun t => decide (s.now < t + 600000000000)
    let held := decide (times.length ≥ 3)
    let s := (s.putBit64 Reg.BFM_REMOVED p true).showRemoved
    let s := { s with flt := { s.flt with
      removals := s.flt.removals.set p times, removing := putBit s.flt.removing p true,
      heldPaths := if held then putBit s.flt.heldPaths p true else s.flt.heldPaths,
      restored := putBit s.flt.restored p false } }
    let s := ((s.paOff p).pathBias p true).tapStop (fun g => g.tap != 4 && g.sel == p) 1
    let s := { s with beam := { s.beam with normDue := some (s.now + 2000000) } }
    let s := s.reportPaths
    let s := s.event 0x003E 0x1205 [p, 0, cause]
    let s := s.when held fun s => s.event 0x003E 0x1205 [p, 2, cause]
    s.when (bits (s.rd64 Reg.BFM_REMOVED) (p / 8 * 8) 8 == 255) fun s => s.tileOff (p / 8) 8

/-- A removed path returns (R503): restored at the tile's entry to STANDBY, its bias outputs with it, and the DU is told. -/
def State.returnPath (s : State) (p : Nat) : State :=
  let s := ((s.putBit64 Reg.BFM_REMOVED p false).showRemoved).pathBias p false
  let s := { s with flt := { s.flt with restored := putBit s.flt.restored p false } }
  let s := { s with beam := { s.beam with normDue := some (s.now + 2000000) } }
  (s.reportPaths).event 0x003E 0x1205 [p, 1, 2]

/-- The paths of a tile that passed their test return (R503). -/
def State.returnPaths (s : State) (n : Nat) : State :=
  s.each ((tilePaths n 255).filter fun p => bit s.flt.restored p) fun s p => s.returnPath p

/-- A background activity came late by more than half its period (R39): its flag, and the event record, to which the spec gives
no code. -/
def State.lateFlag (s : State) (f : Field) : State := (s.setF f).event 0x0000 (Config.unnamedEvent 1) [f.lsb]

end Sys2Proof.Machine
end

