-- ==== Sys2Proof/Machine/Keys.lean ====
section
/-! DEFINITION. Seawall's fuse bank and its checks (R394 to R403): what the fuses say, burning, and the verification of an image. -/
namespace Sys2Proof.Machine
open Sys2Proof

/-! ## The fuse bank (R394) -/

/-- Word k of the Seawall fuse bank. -/
def State.seaFuse (s : State) (k : Nat) : Nat := s.sea.fuses.getD k 0

/-- A bit of `LIFE`: 0 `SHIPPED`, 1 `RETIRED`, 2 and 3 `ROOT_REVOKE`, 4 and 5 `CUST_DONE`, 6 `CUST0_REVOKED`, 7 `ID_DONE`,
8 `HUK_DONE`. -/
def State.life (s : State) (b : Nat) : Bool := bit (s.seaFuse 4) b

/-- Burn bits of a word: a bit only goes from 0 to 1. -/
def State.burn (s : State) (k v : Nat) : State :=
  { s with sea := { s.sea with fuses := s.sea.fuses.set k (s.seaFuse k ||| v) } }

/-- Burn words from word k on. -/
def State.burnWords (s : State) (k : Nat) (l : List Nat) : State :=
  s.each l.zipIdx fun s e => s.burn (k + e.2) e.1

/-- Whether words could be burned from word k on: no bit would have to return to 0 (R414). -/
def State.burnable (s : State) (k : Nat) (l : List Nat) : Bool :=
  l.zipIdx.all fun e => (s.seaFuse (k + e.2) ||| e.1) == e.1

/-- Bits still to be burned for those words. -/
def State.missingBits (s : State) (k : Nat) (l : List Nat) : Nat :=
  sumL (l.zipIdx.map fun e => popCount (e.1 - (s.seaFuse (k + e.2) &&& e.1)) 32)

/-- The bytes of consecutive fuse words, little-endian. -/
def State.fuseBytes (s : State) (k n : Nat) : List Nat := (List.range n).flatMap fun i => bytesLE 4 (s.seaFuse (k + i))

/-- `UID`, 16 bytes. -/
def State.uid (s : State) : List Nat := s.fuseBytes 0 4

/-- A list of bytes as 32-bit words, little-endian. -/
def wordsOf (l : List Nat) : List Nat := (List.range (l.length / 4)).map fun i => natLE ((l.drop (4 * i)).take 4)

/-- The order of the group of P-521. -/
def p521Order : Nat :=
  0x01FFFFFFFFFFFFFFFFFFFFFFFFFFFFFFFFFFFFFFFFFFFFFFFFFFFFFFFFFFFFFFFFFFFA51868783BF2F966B7FCC0148F709A5D03BB5C9B8899C47AEBB6FB71E91386409

/-- `ID_PRIV`. -/
def State.idPriv (s : State) : Nat := natLE (s.fuseBytes 69 17) % 2 ^ 521

/-- Whether the device has an identity (R396); the key ports refuse it once retired (R415). -/
def State.idKeyOk (s : State) : Bool :=
  s.life 7 && !s.life 1 && decide (0 < s.idPriv ∧ s.idPriv < p521Order)

/-- `LIFECYCLE`: 0 TEST, 1 SHIPPED, 2 RETIRED. -/
def State.lifecycle (s : State) : Nat := if s.life 1 then 2 else if s.life 0 then 1 else 0

/-- The customer key slot in use (R408): 0 none, 1 slot 0, 2 slot 1. -/
def State.custSlot (s : State) : Nat := if s.life 5 then 2 else if s.life 4 && !s.life 6 then 1 else 0

/-- The key hash of the customer slot in use, 64 bytes. -/
def State.custHash (s : State) : List Nat := s.fuseBytes (37 + 16 * (s.custSlot - 1)) 16

/-- First word of `ARB`c. -/
def arbWord (c : Nat) : Nat := 94 + 8 * c

/-- The anti-rollback count of a class (R402): burned bits of its 256. -/
def State.arbCount (s : State) (c : Nat) : Nat :=
  sumL ((List.range 8).map fun i => popCount (s.seaFuse (arbWord c + i)) 32)

/-- Burn the lowest unburned bits of a class until `n` more are burned (R402). -/
def State.burnArb (s : State) (c : Nat) : Nat → State
  | 0 => s
  | n + 1 =>
    match (List.range 256).find? fun b => !bit (s.seaFuse (arbWord c + b / 32)) (b % 32) with
    | none => s
    | some b => (s.burn (arbWord c + b / 32) (2 ^ (b % 32))).burnArb c n

/-! ## Checks -/

/-- Count a check that ended AUTH_FAIL or ROLLBACK, and latch a failed signature, key or record (R415). -/
def State.authCount (s : State) (st : Nat) : State :=
  let s := s.when (st == St.authFail || st == St.rollback) fun s => s.add64 Reg.SEA_AUTHFAIL 1
  s.when (st == St.authFail) fun s => s.setF Reg.SEA_STAT_AUTH_EVT

/-- The verification-failure record 0x0D01 with its counts (R400, R416). -/
def State.verifyFail (s : State) (cls who st ver : Nat) : State :=
  (s.authCount st).event 0x0004 0x0D01 ([cls, who, st, 0] ++ bytesLE 2 ver ++ bytesLE 2 (s.arbCount cls))

/-- Bytes of a list from an offset. -/
def slice (l : List Nat) (ofs n : Nat) : List Nat := (l.drop ofs).take n

/-- A little-endian field of a list of bytes. -/
def fieldLE (l : List Nat) (ofs n : Nat) : Nat := natLE (slice l ofs n)

/-- Whether bytes are zero. -/
def allZero (l : List Nat) : Bool := l.all fun b => b == 0

/-- The engines of a firmware class (R398). -/
def classEngines (c : Nat) : Nat :=
  match c with
  | 0 => 0x8000
  | 1 => 0x4000
  | 2 => 0x2000
  | 3 => 0x1000
  | 4 => 0x0F00
  | _ => 0x00FF

/-- The class of an engine's image. -/
def engineClass (n : Nat) : Nat := if n < 8 then 5 else if n < 12 then 4 else 15 - n

/-- The first check of R400: magic, format, sizes, zero fields, class and engines. -/
def imageForm (b : List Nat) : Bool :=
  let prog := fieldLE b 12 4
  let data := fieldLE b 16 4
  decide (fieldLE b 0 4 = 0x31465A41 ∧ fieldLE b 4 2 = 1 ∧ nth b 6 < 6 ∧ nth b 7 = 0) &&
    decide (prog % 8 = 0 ∧ prog ≤ 262144 ∧ data ≤ 262144 ∧ b.length = 192 + prog + data + 132) &&
    decide (fieldLE b 10 2 ≤ 256) && allZero (slice b 22 10) && allZero (slice b 165 27) &&
    decide (fieldLE b 8 2 ≠ 0) && (fieldLE b 8 2 ||| classEngines (nth b 6)) == classEngines (nth b 6)

/-- The root key an image names: 0, 1, or none (R400). -/
def State.rootOf (s : State) (b : List Nat) : Option Nat :=
  let h := Config.sha512 (slice b 32 133)
  if h == s.fuseBytes 5 16 && !s.life 2 then some 0
  else if h == s.fuseBytes 21 16 && !s.life 3 then some 1
  else none

/-- The bytes a signature at the end of an image covers, and the signature. -/
def signedPart (b : List Nat) : List Nat := b.take (b.length - 132)
def signature (b : List Nat) : List Nat := b.drop (b.length - 132)

/-- The status of an image's checks, in the order of R400: DONE where all pass. -/
def State.imageStatus (s : State) (b : List Nat) : Nat :=
  (firstFail [(imageForm b, St.range), ((s.rootOf b).isSome, St.authFail),
    (Config.ecdsaOk (Config.sha512 (slice b 32 133)) (Config.sha512 (signedPart b)) (signature b), St.authFail),
    (decide (s.arbCount (nth b 6) ≤ fieldLE b 10 2), St.rollback)]).getD St.done

/-- A signature by the identity key over bytes, which uses a fresh random secret. -/
def State.idSign (s : State) (l : List Nat) : State × List Nat :=
  (s.fresh, fit 132 (Config.ecdsaSign s.idPriv (Config.sha512 l) s.free))

/-- The highest sensor reading in whole °C ranges (R412, R414, R461): whether fuses may be burned. -/
def State.fuseWindow (s : State) : Bool := decide (0 ≤ s.junction ∧ s.junction ≤ 85 * 8)

end Sys2Proof.Machine
end

