-- ==== Sys2Proof/Machine/Levee.lean ====
section
/-! DEFINITION. Levee (R160 to R173): limits and where they come from, the meter of stage 9, verification dwells, mutes and
unmutes, and the duty and blanking counts of a frame. -/
namespace Sys2Proof.Machine
open Sys2Proof

/-! ## Limits (R160, R161, R170, R172, R173) -/

/-- The bit-by-bit step of the CRC-32 of IEEE 802.3, reflected. -/
def crc32Bit : Nat → Nat → Nat
  | 0, c => c
  | k + 1, c => crc32Bit k (if c % 2 = 1 then (c / 2) ^^^ 0xEDB88320 else c / 2)

/-- CRC-32 of IEEE 802.3 over bytes: reflected, initial value 0xFFFF_FFFF, final complement. -/
def crc32 (l : List Nat) : Nat := (l.foldl (fun c b => crc32Bit 8 (c ^^^ b)) 0xFFFFFFFF) ^^^ 0xFFFFFFFF

/-- Word k of the Levee fuse bank (R160). -/
def State.leveeFuse (s : State) (k : Nat) : Nat := s.levee.fuses.getD k 0

/-- `PROGRAMMED` of the fuse bank. -/
def State.leveeProgrammed (s : State) : Bool := bit (s.leveeFuse 2) 31

/-- Whether `CHECK` is the CRC-32 of words 0 to 62 (R160). -/
def State.leveeCheckOk (s : State) : Bool :=
  s.leveeFuse 63 == crc32 ((List.range 63).flatMap fun k => bytesLE 4 (s.leveeFuse k))

/-- A field of a certificate's bytes, little-endian. -/
def certField (c : List Nat) (at_ n : Nat) : Nat := natLE ((c.drop at_).take n)

/-- Words 0 to 35 of the limits a certificate carries (R160, R170). -/
def certWords (c : List Nat) : List Nat :=
  [certField c 32 2 + 65536 * certField c 34 2, certField c 36 2 + 65536 * certField c 38 2,
    certField c 40 2, certField c 44 4] ++
    (List.range 32).map fun i => certField c (48 + 4 * i) 4

/-- Show limits in force: words 0 to 35 and the version, with transmit allowed (R161). -/
def State.showLimits (s : State) (words : List Nat) (version : Nat) : State :=
  let s := s.each (List.range 36) fun s k => s.wr (Reg.LVE_INFORCE k) (nth words k)
  ((s.put Reg.LVE_STAT_TX_ALLOWED 1).put Reg.LVE_STAT_VERSION version).put Reg.LVE_STAT_NO_CERT 0

/-- Show that no limits are in force (R161): `LVE_INFORCE` reads zero. -/
def State.showNoLimits (s : State) (noCert : Bool) : State :=
  let s := s.each (List.range 36) fun s k => s.wr (Reg.LVE_INFORCE k) 0
  ((s.put Reg.LVE_STAT_TX_ALLOWED 0).put Reg.LVE_STAT_VERSION 0).put Reg.LVE_STAT_NO_CERT (b2n noCert)

/-- Carrier indices and the tiles on which the limits now in force refuse them (R173). -/
def State.refusedCarriers (s : State) : List (Nat × Nat) :=
  ((List.range 8).map fun c =>
    (c, maskOf ((List.range 8).filter fun n =>
      match s.txCarrier n c with
      | some x => !s.carrierPermitted s.limitWord n x
      | none => false))).filter fun e => e.2 != 0

/-- Paths whose tone the limits now in force refuse (R173). -/
def State.refusedTones (s : State) : Nat :=
  maskOf ((s.tx.tones.filter fun e => !s.tonePermitted s.limitWord (e.1 / 8) e.2).map Prod.fst)

/-- Remove what the new limits refuse, with one event for each carrier removed and one for the tones (R173). -/
def State.enforceLimits (s : State) : State :=
  let cs := s.refusedCarriers
  let tones := s.refusedTones
  let s := s.each cs fun s e =>
    let s := s.each (maskList e.2 8) fun s n =>
      { s with tx := { s.tx with carriers := s.tx.carriers.del (n * 8 + e.1) } }
    s.event 0x0038 0x0505 [e.2, e.1, 0]
  let s := s.when (tones != 0) fun s =>
    let s := s.each (maskList tones 64) fun s p => { s with tx := { s.tx with tones := s.tx.tones.del p } }
    let tiles := maskOf ((List.range 8).filter fun n => bits tones (8 * n) 8 != 0)
    s.event 0x0038 0x0505 ([tiles, 0, 1, 0, 0, 0, 0, 0] ++ bytesLE 8 tones)
  s.refreshPlan

/-- A burst of every tile was withheld until now (R553). -/
def State.withholdAll (s : State) (reason : Nat) : State := s.each (List.range 8) fun s n => s.withhold n reason

/-- LIMITS_IN_FORCE (R172, R173): at the frame boundary after acceptance the new limits hold for clamp, meter and mutes, and
what they refuse is removed. Mutes remain. -/
def execLimitsInForce (s : State) : Host.Outcome State Fault Refusal :=
  .next (match s.levee.pending with
    | none => s
    | some l =>
      if !s.atFrame then s
      else
        let had := s.txAllowed
        let s := { s with levee := { s.levee with pending := none } }
        let s := (s.put Reg.LVE_STAT_PENDING 0).showLimits l.words l.version
        let s := s.event 0x0038 0x0504 ([1] ++ bytesLE 2 l.version)
        let s := s.when (!had) fun s => s.withholdAll 0x06
        s.enforceLimits)

/-- LEVEE_CERT (R171, R191): handed to Seawall, which decides its status. -/
def execLeveeCert (h : Hdr) (addr : Nat) (s : State) : Host.Outcome State Fault Refusal :=
  .next (s.acceptNow h 0x50 (firstFail [(addr % 8 == 0, St.misaligned)]) fun s =>
    s.seaSubmit (.cmd h (.leveeCert addr)))

/-! ## The meter (R163 to R165) -/

/-- G_p of a path in 0.01 dB: the mean of its last four valid dwells, or of those made since its start; none before the
first (R163, R165). -/
def State.pathGain (s : State) (p : Nat) : Option Int :=
  let l := (s.dwells p).gains
  if l.isEmpty then none else some (divRound (sumZ l) l.length)

/-- A_p of a path, 0.01 dB (R164, R165). -/
def State.pathAtt (s : State) (p : Nat) : Nat := s.levee.att.getD p 1000

/-- P_p of a path in TX whose mean output power over the tick was M_p (R164); L_p before G_p exists (R165). -/
def State.pathPower (s : State) (p : Nat) (m : Int) : Int :=
  match s.pathGain p with
  | some g => m + g
  | none => s.limitPath

/-- The attenuation after a tick: raised by the excess over the limit, lowered by 0.1 dB while the limit holds with 0.1 dB to
spare (R164). -/
def nextAtt (att : Nat) (power limit : Int) (mayFall : Bool) : Nat :=
  if power > limit then att + (power - limit).toNat
  else if mayFall && decide (power + 10 ≤ limit) then att - 10 else att

/-- Levee's work at the end of a tick (R164, R165), on the mean output power of each path in TX. -/
def State.leveeMeter (s : State) (powers : List (Nat × Int)) : State :=
  let lp := s.limitPath
  let ps := powers.map fun e => (e.1, s.pathPower e.1 e.2)
  let total := Config.powerSum (ps.map Prod.snd)
  let s := s.each ps fun s e =>
    let n := (s.dwells e.1).gains.length
    let att := s.pathAtt e.1
    let att' := if n = 0 then att else nextAtt att e.2 lp (decide (n ≥ 2))
    let s := { s with levee := { s.levee with att := s.levee.att.set e.1 att' } }
    s.when (decide (att < att')) fun s => s.leveeCapture (e.1 / 8) 2
  if ps.isEmpty then s
  else
    let new := nextAtt s.levee.attTotal total s.limitTotal true
    let rose := decide (s.levee.attTotal < new)
    let s := { s with levee := { s.levee with attTotal := new } }
    s.when rose fun s => s.each (List.range 8) fun s n => s.leveeCapture n 2

/-! ## Dwells, mutes and unmutes (R166 to R168) -/

/-- `COUPLING` of the limits in force, 0.01 dB. -/
def State.coupling (s : State) : Int := sx 16 (s.limitWord 1 / 65536)

/-- The path of a tile whose turn it is: the next in the order 0 to 7 that is not muted, removed or guarded (R166). -/
def State.dwellTurn (s : State) (n : Nat) : Option Nat :=
  let start := s.levee.turn.getD n 0
  ((List.range 8).map fun i => (start + i) % 8).find? fun p => bit (s.ableMask n) p

/-- A tile's observation receiver fails (R168): every path of the tile is muted. -/
def State.obsFail (s : State) (n : Nat) : State :=
  let s := { s with levee := { s.levee with obsPasses := s.levee.obsPasses.set n 0 } }
  if bit (s.get Reg.LVE_STAT_OBS_FAIL) n then s
  else
    let s := s.put Reg.LVE_STAT_OBS_FAIL (putBit (s.get Reg.LVE_STAT_OBS_FAIL) n true)
    let s := s.event 0x0038 0x0506 [n, 0]
    s.each (List.range 8) fun s p => s.mutePath (8 * n + p) 1

/-- The observation receiver works again: the mutes of its failure lift (R168). -/
def State.obsRestore (s : State) (n : Nat) : State :=
  let s := s.put Reg.LVE_STAT_OBS_FAIL (putBit (s.get Reg.LVE_STAT_OBS_FAIL) n false)
  let s := s.event 0x0038 0x0506 [n, 1]
  s.each (List.range 8) fun s p =>
    match s.levee.mutes.get? (8 * n + p) with
    | some m => if m.cause = 1 then s.unmutePath (8 * n + p) 1 else s
    | none => s

/-- A valid dwell of a path that read P_cpl, with the stage-9 mean power of the same samples (R163, R166). -/
def State.takeDwell (s : State) (p : Nat) (cpl mean : Int) : State :=
  let d := s.dwells p
  let overs := if cpl > s.limitPath + 50 then d.overs + 1 else 0
  let s := { s with levee := { s.levee with dwells := s.levee.dwells.set p ⟨((cpl - mean) :: d.gains).take 4, overs, cpl⟩ } }
  if overs ≥ 2 then s.mutePath p 0 else s

/-- LEVEE_DWELL (R166, R168): a dwell on the path whose turn it is passes the turn on where it lay wholly in TX; it is valid
with non-zero output and P_cpl within 20 dB of L_p; without valid samples the receiver has failed. -/
def execLeveeDwell (path : Nat) (o : DwellObs) (s : State) : Host.Outcome State Fault Refusal :=
  let n := path / 8
  .next (match o.obsPower with
    | none => s.obsFail n
    | some pw =>
      if !s.txAllowed || s.dwellTurn n ≠ some (path % 8) || !o.txThroughout then s
      else
        let s := { s with levee := { s.levee with turn := s.levee.turn.set n ((path % 8 + 1) % 8) } }
        let cpl := pw - s.coupling
        if o.nonZero && decide (cpl ≥ s.limitPath - 2000) then s.takeDwell path cpl o.meanPower else s)

/-- OBS_REFERENCE_CHECK (R168): made each 1 ms on a powered tile; two passes in a row lift the mutes of a failure. -/
def execObsReferenceCheck (tile : Nat) (passed samples : Bool) (s : State) : Host.Outcome State Fault Refusal :=
  .next (if s.tileGated tile then s
    else if !passed || !samples then s.obsFail tile
    else if !bit (s.get Reg.LVE_STAT_OBS_FAIL) tile then s
    else
      let n := s.levee.obsPasses.getD tile 0 + 1
      let s := { s with levee := { s.levee with obsPasses := s.levee.obsPasses.set tile n } }
      if n ≥ 2 then s.obsRestore tile else s)

/-- Whether `LEVEE_UNMUTE` may lift a path's mute now (R167, R168): not one held until `RSTN`, not one of an observation
failure, and no sooner than 1 s after the mute. -/
def State.unmutable (s : State) (p : Nat) : Bool :=
  match s.levee.mutes.get? p with
  | some m => m.cause != 1 && !bit s.levee.held p && s.due (m.at_ + 1000000000)
  | none => false

/-- The status of an unmute (R191) from how many named paths were muted and how many stay so. -/
def unmuteStatus (were stay : Nat) : Nat :=
  if stay = 0 then St.done else if stay < were then St.donePartial else St.refusedLevee

/-- The effect of `LEVEE_UNMUTE` (R167, R191). -/
def State.applyUnmute (s : State) (h : Hdr) (mask : Nat) : State :=
  let were := (maskList mask 64).filter s.muted
  let lifted := were.filter fun p => s.unmutable p || (s.levee.mutes.getD p ⟨0, 0⟩).cause == 1
  let left := maskOf ((maskList s.line.remote 64).filter fun p => !lifted.contains p)
  let s := s.each (were.filter s.unmutable) fun s p => s.unmutePath p 0
  let s := { s with line := { s.line with remote := left } }
  s.complete h 0x51 (unmuteStatus were.length (were.filter s.muted).length)

/-- LEVEE_UNMUTE (R167, R191). -/
def execLeveeUnmute (h : Hdr) (mask : Nat) (s : State) : Host.Outcome State Fault Refusal :=
  .next (s.acceptNow h 0x51 (rangeUnless [decide (0 < mask ∧ mask < 2 ^ 64)]) fun s => s.applyUnmute h mask)

/-! ## Duty and blanking -/

/-- `DUTY_MAX` of the limits in force as TX time in ns of each 10 ms frame (R160, R169). -/
def State.dutyNs (s : State) : Nat := bits (s.limitWord 2) 0 10 * 10000

/-- BLANKING_SUMMARY (R192): at the end of a frame, one record for each tile and reason with blanked symbols. -/
def execBlankingSummary (s : State) : Host.Outcome State Fault Refusal :=
  .next (
    let l := s.levee.blanks
    let s := { s with levee := { s.levee with blanks := [] } }
    let frame := ux 32 (if s.atFrame then s.frame - 1 else s.frame)
    s.each l fun s e =>
      s.event 0x0038 0x0503 ([e.1 / 8, e.1 % 8] ++ bytesLE 2 (min e.2 65535) ++ bytesLE 4 frame))

end Sys2Proof.Machine
end

