-- ==== Sys2Proof/Machine/Access.lean ====
section
/-! DEFINITION. Register access (R33 to R35, R541, R542): which requester reaches which block in which state of the device, what
a read returns, and the latching and staging of values wider than one register. -/
namespace Sys2Proof.Machine
open Sys2Proof

/-- The number of a requester, for its own shadow and stage (R34). -/
def rqNo : Requester → Nat
  | .pcie => 0
  | .smbus => 1
  | .jtag => 2
  | .lead => 3
  | .engine n => 16 + n

/-- The blocks engine n reaches (R321); the weight-write path of `BFM_` is no register. -/
def engineReach (n off : Nat) : Bool :=
  if off ≥ 0x400000 then false
  else if n < 8 then off / 0x10000 == 0x10 + n
  else if n < 12 then decide (0x300000 + 0x800 * (n - 8) ≤ off ∧ off < 0x300800 + 0x800 * (n - 8))
  else if n = 12 then decide (0x280000 ≤ off ∧ off < 0x300000)
  else if n = 13 then decide (0x020000 ≤ off ∧ off < 0x040000 ∨ 0x390000 ≤ off ∧ off < 0x3A0000)
  else if n = 14 then !decide (0x040000 ≤ off ∧ off < 0x080000 ∨ 0x380000 ≤ off ∧ off < 0x390000)
  else decide (0x040000 ≤ off ∧ off < 0x080000)

/-- Whether the device has reached service, with its rings ready (R433, R542). -/
def State.inService (s : State) : Bool := decide (s.boot.step ≥ 9)

/-- Whether the part is out of reset and has begun its bring-up. -/
def State.running (s : State) : Bool := decide (s.boot.step ≥ 1)

/-- Whether a requester reaches an offset now (R542). -/
def State.reaches (s : State) (rq : Requester) (off : Nat) : Bool :=
  match rq with
  | .engine n => engineReach n off
  | rq =>
    if !s.running || decide (off ≥ 0x400000) then false
    else if s.get Reg.PWR_STAT_STATE = 2 then off / 0x10000 == 1
    else if s.on Reg.DEV_BOOT_STAT_NO_IMAGE then off / 0x10000 == 0
    else if s.inService then !(rq == .pcie && !s.hostUp)
    else (rq == .smbus || rq == .jtag) && off / 0x10000 == 0

/-- Whether a requester may write an offset now: once retired, only `DEV_` and `SEA_` answer writes (R542, R415). -/
def State.mayWrite (s : State) (rq : Requester) (off : Nat) : Bool :=
  s.reaches rq off && (!s.sea.retired || off / 0x10000 == 0 || decide (0x040000 ≤ off ∧ off < 0x080000))

/-- Device time T as R293 lays it out: 96 bits. -/
def State.time96 (s : State) : Nat := s.frac + 2 ^ 16 * (s.now % 10 ^ 9) + 2 ^ 48 * (s.now / 10 ^ 9)

/-- The lowest version running in an image class; the Levee version for class 7 (R415). -/
def State.runVer (s : State) (c : Nat) : Nat :=
  let least := fun (l : List Nat) => l.foldl (fun m v => if v < m then v else m) (l.headD 0)
  if c = 7 then s.get Reg.LVE_STAT_VERSION
  else if c = 6 then
    least (((List.range 8).filter fun n => s.on (Reg.ENG_STAT_KLOADED n)).map fun n => s.get (Reg.ENG_KPROG_KVER n))
  else
    least (((maskList (classEngines c) 16).filter fun n => s.get (Reg.ENG_STAT_STATE n) ≠ 0 ∧ s.get (Reg.ENG_STAT_STATE n) ≠ 5).map
      fun n => s.get (Reg.ENG_STAT_IMG_VER n))

/-- The live word of a register. The fields that follow from the fuses and from device time are computed here; every other word
stands in the register file. An offset that names no register reads zero (R541). -/
def State.readReg (s : State) (off : Nat) : Nat :=
  let v := s.rd off
  if off = Reg.TIM_NOW then s.time96 % 2 ^ 32
  else if off = Reg.TIM_NOW + 4 then s.time96 / 2 ^ 32 % 2 ^ 32
  else if off = Reg.TIM_NOW + 8 then s.time96 / 2 ^ 64 % 2 ^ 32
  else if Reg.LVE_FUSE 0 ≤ off ∧ off < Reg.LVE_FUSE 64 then s.leveeFuse ((off - Reg.LVE_FUSE 0) / 4)
  else if Reg.SEA_FUSE 0 ≤ off ∧ off < Reg.SEA_FUSE 160 then
    let k := (off - Reg.SEA_FUSE 0) / 4
    if 69 ≤ k ∧ k ≤ 93 then 0 else s.seaFuse k
  else if Reg.SEA_UID 0 ≤ off ∧ off < Reg.SEA_UID 4 then s.seaFuse ((off - Reg.SEA_UID 0) / 4)
  else if Reg.SEA_ARB 0 ≤ off ∧ off < Reg.SEA_ARB 8 then
    let c := (off - Reg.SEA_ARB 0) / 4
    putBits (putBits v 0 9 (s.arbCount c)) 16 9 (s.runVer c)
  else if off = Reg.SEA_STAT then
    putBits (putBits (putBits v 0 2 s.lifecycle) 4 2 s.custSlot) 6 1 (b2n (s.life 2))
  else if off = Reg.TIM_STAT then
    putBits v 16 16 (if bits v 0 2 = 3 then min 65535 ((s.now - s.tim.holdSince) / 10 ^ 9) else 0)
  else if Reg.THM_SENSOR 0 ≤ off ∧ off < Reg.THM_SENSOR 40 then
    putBits v 16 1 (b2n (bit v 16 && decide (s.now < s.pwr.sweepAt + 2000000)))
  else if off = Reg.LVE_STAT then putBits v 0 1 (b2n s.leveeProgrammed)
  else v

/-- Whether a requester may read a register: a retired device answers reads of registers of access RO, `DEV_` and `SEA_`. -/
def State.mayRead (s : State) (rq : Requester) (off : Nat) : Bool :=
  s.reaches rq off && (!s.sea.retired || off / 0x10000 == 0 || decide (0x040000 ≤ off ∧ off < 0x080000) ||
    match findReg off with
    | some d => d.fields.isEmpty
    | none => true)

/-- The word of a value wider than one register that an offset names, and how many words the value has (R33). -/
def wordOf (off : Nat) : Nat × Nat :=
  match findReg off with
  | some d => (d.word, d.words)
  | none => (0, 1)

/-- What a read of a register returns to a requester (R33, R541, R542). -/
def State.readAs (s : State) (rq : Requester) (off : Nat) : Nat :=
  if !s.mayRead rq off then 0
  else
    let w := (wordOf off).1
    match s.host.shadows.get? (rqNo rq) with
    | some (low, l) => if w > 0 ∧ low = off - 4 * w then nth l (w - 1) else s.readReg off
    | none => s.readReg off

/-- The latching of a read of a lowest word (R33). -/
def State.latch (s : State) (rq : Requester) (off : Nat) : State :=
  let w := wordOf off
  if s.mayRead rq off && w.1 == 0 && decide (w.2 > 1) then
    let higher := (List.range (w.2 - 1)).map fun i => s.readReg (off + 4 * (i + 1))
    { s with host := { s.host with shadows := s.host.shadows.set (rqNo rq) (off, higher) } }
  else s

/-- WIDE_READ_LATCH (R33, R34). -/
def execWideReadLatch (rq : Requester) (off : Nat) (s : State) : Host.Outcome State Fault Refusal := .next (s.latch rq off)

/-- Where a requester's staged word of the value at an offset is kept. -/
def stageKey (rq : Requester) (off : Nat) : Nat := rqNo rq * 2 ^ 32 + off

/-- Stage the lowest word of a value for a requester (R35). -/
def State.stage (s : State) (rq : Requester) (off value : Nat) : State :=
  { s with host := { s.host with staged := s.host.staged.set (stageKey rq off) (off, [value]) } }

/-- WIDE_WRITE_STAGE (R35): a write to the lowest word of a wide value that can be written waits for its highest word. -/
def execWideWriteStage (rq : Requester) (off value : Nat) (s : State) : Host.Outcome State Fault Refusal :=
  .next (match findReg off with
    | some d =>
      if s.mayWrite rq off && d.word == 0 && decide (d.words > 1) && !d.fields.isEmpty then
        s.stage rq off (value % 2 ^ 32)
      else s
    | none => s)

/-- MARGIN_RST: writing 1 to the bit sets `MIN_MARGIN` to 0xFFFF (R23). -/
def execMarginRst (rq : Requester) (s : State) : Host.Outcome State Fault Refusal :=
  .next (if s.mayWrite rq Reg.DEV_TICK_STAT then s.put Reg.DEV_TICK_STAT_MIN_MARGIN 0xFFFF else s)

/-- Whether an engine executes bundles (R338): running, or in `WAIT`. -/
def State.engineRuns (s : State) (n : Nat) : Bool :=
  s.get (Reg.ENG_STAT_STATE n) == 1 || s.get (Reg.ENG_STAT_STATE n) == 2

/-- Whether a TRIP is latched (R459). -/
def State.trip (s : State) : Bool := s.on Reg.THM_STAT_TRIP_LATCHED

end Sys2Proof.Machine
end

