-- ==== Sys2Proof/Machine/Transmit.lean ====
section
/-! DEFINITION. The transmit chain (R40 to R85): carriers, path NCOs and gains, DPD banks, swaps and fades, tones, and the
bias DACs. Each ring command has its checks at fetch, its checks at tick e − 2 and its effect at tick e. -/
namespace Sys2Proof.Machine
open Sys2Proof

/-- A command of this family, done. -/
abbrev Res := Host.Outcome State Fault Refusal

/-! ## TX_CARRIER -/

/-- The checks of `TX_CARRIER` at fetch (R83): a mask that names a tile, the carrier's fields, and a slot start of the
reference numerology. -/
def txCarrierFields (s : State) (h : Hdr) (c : TxCarrierCmd) : Option Nat :=
  rangeUnless [decide (0 < c.tileMask ∧ c.tileMask < 256), decide (c.carrier < 8), decide (c.num < 16),
    decide (c.f0khz < 2 ^ 25), !c.enable || txFieldsOk c.num c.log2n c.nprb, decide (h.effTick % s.tps = 0)]

/-- The carrier tables after the command: set, changed or removed on every tile of the mask (R56). -/
def State.txCarrierPlan (s : State) (c : TxCarrierCmd) : State :=
  s.each (maskList c.tileMask 8) fun s n =>
    let key := n * 8 + c.carrier
    let x : TxCarrier := ⟨c.num, c.log2n, c.nprb, c.gain, c.ftw, c.f0khz, c.cfrWeight⟩
    { s with tx := { s.tx with carriers := s.tx.carriers.put key (if c.enable then some x else none) } }

/-- The 100 MHz limit of the boot tile on provisional calibration (R437), in one direction. -/
def State.provisionalOk (s : State) (mask : Nat) (khzOf : State → Nat → Nat) : Bool :=
  !(s.boot.provisional && bit mask s.boot.bootTile) || decide (khzOf s s.boot.bootTile ≤ 100000)

/-- The checks of `TX_CARRIER` at tick e − 2 (R55, R56, R83, R125, R161, R162, R437). -/
def txCarrierCfg (s : State) (h : Hdr) (c : TxCarrierCmd) : Option Nat :=
  let tiles := maskList c.tileMask 8
  let nums := s.numsOf 0 c.tileMask c.carrier ++ (if c.enable then [c.num] else [])
  let t := s.txCarrierPlan c
  firstFail [(s.slotAligned h.effTick nums, St.range), (tiles.all (t.txTileFits s.profile), St.range),
    (t.arrayFits s.profile, St.range), (s.txAllowed, St.refusedLevee), (tiles.all t.leveeTileOk, St.refusedLevee),
    (tiles.all s.tileReady, St.notReady),
    (!c.enable || t.provisionalOk c.tileMask (fun t n => sumL ((t.txCarriers n).map fun x => occKhz x.num x.nprb)),
      St.notReady)]

/-- A tile's cancellation pulse, shaped from its carrier plan and weights at the tick of the change (R61, R62). -/
def State.newPulse (s : State) (n : Nat) : State :=
  let l := (s.tx.carriers.filter fun e => e.1 / 8 == n).map fun e => (e.1 % 8, e.2.cfrWeight)
  { s with tx := { s.tx with pulse := s.tx.pulse.set n l } }

/-- The effect of `TX_CARRIER` at its effective tick (R56, R62, R177). -/
def State.applyTxCarrier (s : State) (h : Hdr) (c : TxCarrierCmd) : State :=
  let s := (s.txCarrierPlan c).each (maskList c.tileMask 8) State.newPulse
  s.refreshPlan.completeTx h 0x20 c.tileMask

/-- TX_CARRIER (R56, R83). -/
def execTxCarrier (h : Hdr) (c : TxCarrierCmd) (s : State) : Res :=
  .next (s.acceptTimed h 0x20 (.txCarrier c) (txCarrierFields s h c) true)

/-! ## TX_TILE -/

/-- The checks of `TX_TILE` at fetch (R83). -/
def txTileFields (s : State) (h : Hdr) (c : TxTileCmd) : Option Nat :=
  rangeUnless [decide (c.tile < 8), !c.updNco || decide (h.effTick % s.tps = 0)]

/-- The path NCO word and the path gains after the command. -/
def State.txTilePlan (s : State) (c : TxTileCmd) : State :=
  let s := if c.updNco then { s with tx := { s.tx with pathFtw := s.tx.pathFtw.set c.tile c.ftw } } else s
  if c.updGain then
    s.each (List.range 8) fun s p =>
      { s with tx := { s.tx with gains := s.tx.gains.set (8 * c.tile + p) (nth c.gains p) } }
  else s

/-- The checks of `TX_TILE` at tick e − 2 (R55, R67, R161, R162, R437). -/
def txTileCfg (s : State) (_h : Hdr) (c : TxTileCmd) : Option Nat :=
  let t := s.txTilePlan c
  firstFail [(t.txTileFits s.profile c.tile, St.range), (s.txAllowed, St.refusedLevee),
    (!c.updNco || t.leveeTileOk c.tile, St.refusedLevee), (s.tileReady c.tile, St.notReady)]

/-- The effect of `TX_TILE` at its effective tick. -/
def State.applyTxTile (s : State) (h : Hdr) (c : TxTileCmd) : State :=
  (s.txTilePlan c).completeTx h 0x21 (2 ^ c.tile)

/-- TX_TILE (R83). -/
def execTxTile (h : Hdr) (c : TxTileCmd) (s : State) : Res :=
  .next (s.acceptTimed h 0x21 (.txTile c) (txTileFields s h c) true)

/-! ## DPD banks -/

/-- Whether the tile engine owns a path's DPD (R66). -/
def State.dpdOwned (s : State) (p : Nat) : Bool := bit (s.get (Reg.TIL_DPD_CTL_OWNER (p / 8))) (p % 8)

/-- The active bank of a path: 0 A, 1 B. -/
def State.dpdActive (s : State) (p : Nat) : Nat := b2n (bit (s.get (Reg.TIL_DPD_STAT_ACTIVE (p / 8))) (p % 8))

/-- Whether a fade runs on a path. -/
def State.dpdFading (s : State) (p : Nat) : Bool := s.tx.fades.has p

/-- Change one bit of a tile's eight-bit path field. -/
def State.putPathBit (s : State) (f : Nat → Field) (p : Nat) (b : Bool) : State :=
  s.put (f (p / 8)) (putBit (s.get (f (p / 8))) (p % 8) b)

/-- The entries of a bank: the identity entry alone where nothing was loaded (R63). -/
def State.dpdBank (s : State) (p b : Nat) : List Nat := s.tx.banks.getD (p * 2 + b) dpdIdentityBank

/-- Put the entries of a bank. -/
def State.setDpdBank (s : State) (p b : Nat) (l : List Nat) : State :=
  { s with tx := { s.tx with banks := s.tx.banks.set (p * 2 + b) l } }

/-- The checks of `DPD_LOAD` on its fields (R83). -/
def dpdLoadFields (path bank count src : Nat) : Option Nat :=
  firstFail [(decide (path < 64 ∧ bank < 2 ∧ 1 ≤ count ∧ count ≤ 128), St.range), (src % 8 == 0, St.misaligned)]

/-- Hold a load for a path in a fade, replacing one that is queued (R70). -/
def State.queueDpdLoad (s : State) (j : DpdJob) : State :=
  let s := match s.tx.loadQ.get? j.path with
    | some o => s.queuedOutcome (o.path / 8) 0 (o.path % 8) o.bank St.superseded o.hdr.tag
    | none => s
  let s := { s with tx := { s.tx with loadQ := s.tx.loadQ.set j.path { j with queued := true } } }
  s.putPathBit Reg.TIL_DPD_STAT_LOAD_Q j.path true

/-- Start a load: it completes at `DPD_LOAD_COMPLETE`. -/
def State.startDpdLoad (s : State) (j : DpdJob) : State := { s with tx := { s.tx with loads := s.tx.loads ++ [j] } }

/-- DPD_LOAD (R63, R66, R69, R70). -/
def execDpdLoad (h : Hdr) (path bank count src : Nat) (s : State) : Res :=
  .next (s.acceptNow h 0x22 (dpdLoadFields path bank count src) fun s =>
    let j : DpdJob := ⟨h, path, bank, count, src, false⟩
    if s.dpdOwned path then s.complete h 0x22 St.range
    else if s.dpdFading path then (s.queueDpdLoad j).completeX h 0x22 St.busyFade 0 [] true
    else if s.dpdActive path = bank then s.complete h 0x22 St.range
    else s.startDpdLoad j)

/-- Group a list of bytes into little-endian words of eight bytes. -/
def words8 : Nat → List Nat → List Nat
  | 0, _ => []
  | n + 1, l => natLE (l.take 8) :: words8 n (l.drop 8)

/-- The outcome of a load whose bytes have come: status, and the bank it leaves (R63, R65, R85). -/
def dpdLoaded (limit : Nat) (busOk : Bool) (entries : List Nat) : Nat × List Nat :=
  if !busOk then (St.busError, dpdIdentityBank)
  else if entries.any dpdMalformed || decide (dpdCount entries > limit) then (St.range, dpdIdentityBank)
  else (St.done, entries)

/-- The oldest load of a path finishes: it completes, or, where it was queued, raises its event (R70, R84). -/
def State.finishDpdLoad (s : State) (path : Nat) (busOk : Bool) : State :=
  match s.tx.loads.find? fun j => j.path == path with
  | none => s
  | some j =>
    let entries := words8 j.count (s.hostRead j.src (8 * j.count))
    let (st, bank) := dpdLoaded (profileDpd s.profile) busOk entries
    let s := { s with tx := { s.tx with loads := s.tx.loads.erase j } }
    let s := s.setDpdBank path j.bank bank
    if j.queued then s.queuedOutcome (path / 8) 0 (path % 8) j.bank st j.hdr.tag else s.complete j.hdr 0x22 st

/-- DPD_LOAD_COMPLETE (R63, R70, R85). -/
def execDpdLoadComplete (path : Nat) (busOk : Bool) (s : State) : Res := .next (s.finishDpdLoad path busOk)

/-! ## DPD swaps and fades -/

/-- The checks of `DPD_SWAP` at fetch (R69, R83). -/
def dpdSwapFields (s : State) (h : Hdr) (tile mask fade : Nat) : Option Nat :=
  rangeUnless [decide (tile < 8), decide (0 < mask ∧ mask < 256), decide (fade ≤ 14), decide (h.effTick % s.tps = 0)]

/-- Whether a path of a mask is in a fade, belongs to the engine, or has its shadow bank being loaded. -/
def State.anyFading (s : State) (tile mask : Nat) : Bool := (tilePaths tile mask).any s.dpdFading
def State.anyOwned (s : State) (tile mask : Nat) : Bool := (tilePaths tile mask).any s.dpdOwned
def State.anyLoading (s : State) (tile mask : Nat) : Bool :=
  (tilePaths tile mask).any fun p => s.tx.loads.any fun j => j.path == p

/-- Hold a swap for a tile (R71): one that it replaces completes SUPERSEDED. -/
def State.holdDpdSwap (s : State) (h : Hdr) (tile mask fade : Nat) : State :=
  let s := match s.tx.swapQ.get? tile with
    | some o => s.complete o.hdr 0x23 St.superseded
    | none => s
  let s := { s with tx := { s.tx with swapQ := s.tx.swapQ.set tile ⟨h, mask, fade, s.effAbs h⟩ } }
  s.setF (Reg.TIL_DPD_STAT_SWAP_Q tile)

/-- Make the shadow bank of the masked paths active, at once or by a fade that begins now (R69). -/
def State.startDpdFades (s : State) (tile mask fade : Nat) : State :=
  s.each (tilePaths tile mask) fun s p =>
    if fade = 0 then s.putPathBit Reg.TIL_DPD_STAT_ACTIVE p (s.dpdActive p == 0)
    else
      let s := { s with tx := { s.tx with fades := s.tx.fades.set p ⟨s.absTick, fade⟩ } }
      s.putPathBit Reg.TIL_DPD_STAT_FADING p true

/-- A swap starts at a slot boundary: NOT_READY while a masked shadow bank is being loaded (R72), else it completes at this
tick. -/
def State.startDpdSwap (s : State) (h : Hdr) (tile mask fade : Nat) : State :=
  if s.anyOwned tile mask then s.complete h 0x23 St.range
  else if s.anyLoading tile mask then s.complete h 0x23 St.notReady
  else (s.startDpdFades tile mask fade).completeTx h 0x23 (2 ^ tile)

/-- The checks of `DPD_SWAP` at tick e − 2 (R66). -/
def dpdSwapCfg (s : State) (tile mask : Nat) : Option Nat := rangeUnless [!s.anyOwned tile mask]

/-- The effect of `DPD_SWAP` at its effective tick: held where a fade has begun on its paths meanwhile (R71). -/
def State.applyDpdSwap (s : State) (h : Hdr) (tile mask fade : Nat) : State :=
  if s.anyFading tile mask then s.holdDpdSwap h tile mask fade else s.startDpdSwap h tile mask fade

/-- DPD_SWAP (R69 to R72): a swap that names a path in a fade is held from its fetch. -/
def execDpdSwap (h : Hdr) (tile pathMask fade : Nat) (s : State) : Res :=
  .next (s.acceptTimedK h 0x23 (dpdSwapFields s h tile pathMask fade) fun s =>
    if s.anyFading tile pathMask then
      match dpdSwapCfg s tile pathMask with
      | some st => s.complete h 0x23 st
      | none => s.holdDpdSwap h tile pathMask fade
    else s.hold h (.dpdSwap tile pathMask fade) true)

/-- A load that waited for a path's fade to end (R70): started if its target is then the shadow, discarded otherwise. -/
def State.releaseDpdLoad (s : State) (path : Nat) : State :=
  match s.tx.loadQ.get? path with
  | none => s
  | some j =>
    let s := { s with tx := { s.tx with loadQ := s.tx.loadQ.del path } }
    let s := s.putPathBit Reg.TIL_DPD_STAT_LOAD_Q path false
    if s.dpdActive path = j.bank then s.queuedOutcome (path / 8) 0 (path % 8) j.bank St.range j.hdr.tag
    else s.startDpdLoad j

/-- DPD_FADE_END (R69, R70): at the tick at which the fade's length is reached, the new bank is active. -/
def execDpdFadeEnd (path : Nat) (s : State) : Res :=
  .next (match s.tx.fades.get? path with
    | none => s
    | some f =>
      if s.absTick < f.start + f.len then s
      else
        let s := { s with tx := { s.tx with fades := s.tx.fades.del path } }
        let s := s.putPathBit Reg.TIL_DPD_STAT_FADING path false
        let s := s.putPathBit Reg.TIL_DPD_STAT_ACTIVE path (s.dpdActive path == 0)
        s.releaseDpdLoad path)

/-- HELD_DPD_SWAP_START (R71): at the later of the swap's own tick and the first slot boundary at which no masked path is in
a fade. -/
def execHeldDpdSwapStart (tile : Nat) (s : State) : Res :=
  .next (match s.tx.swapQ.get? tile with
    | none => s
    | some q =>
      if s.atSlot && decide (q.eff ≤ s.absTick) && !s.anyFading tile q.mask then
        let s := { s with tx := { s.tx with swapQ := s.tx.swapQ.del tile } }
        (s.put (Reg.TIL_DPD_STAT_SWAP_Q tile) 0).startDpdSwap q.hdr tile q.mask q.fade
      else s)

/-! ## Bias -/

/-- The checks of `BIAS_SET` at fetch (R76, R83). -/
def biasSetFields (c : BiasSetCmd) : Option Nat :=
  rangeUnless [decide (c.tile < 8), decide (c.dac < 16), !c.spanChange || decide (c.span < 3), decide (c.span < 4)]

/-- The check of `BIAS_SET` at tick e − 2: a span change needs the tile in OFF or STANDBY (R80). -/
def biasSetCfg (s : State) (c : BiasSetCmd) : Option Nat :=
  rangeUnless [!c.spanChange || decide (s.tileState c.tile ≤ 1)]

/-- A bias command is replaced before its code has reached the output (R80, R84). -/
def State.supersedeBias (s : State) (tile dac : Nat) (j : BiasJob) : State :=
  let s := s.complete j.hdr 0x24 St.superseded
  if j.held then s.queuedOutcome tile 1 dac 0 St.superseded j.hdr.tag else s

/-- Complete a bias command whose code has reached the output; one that was held also raises its event (R84). -/
def State.finishBias (s : State) (tile dac : Nat) (j : BiasJob) (st : Nat) : State :=
  let s := s.complete j.hdr 0x24 st
  if j.held then s.queuedOutcome tile 1 dac 0 st j.hdr.tag else s

/-- Queue the read-back of a bias output (R81, R479): a newer request for one output replaces an older one. -/
def State.queueReadback (s : State) (tile dac : Nat) : State :=
  let ch := 0x80 + 16 * tile + dac
  { s with hka := { s.hka with sys := (s.hka.sys.filter fun e => e.1 != ch) ++ [(ch, s.now + 10000)] } }

/-- A new code reaches the output (R78). -/
def State.biasCode (s : State) (tile dac code : Nat) : State :=
  (s.put (Reg.TIL_BIAS_OUT_CODE tile dac) code).queueReadback tile dac

/-- The effect of `BIAS_SET` at its effective tick: staged for its trigger, held behind a span change, or replacing what was
staged (R78, R80). -/
def State.applyBiasSet (s : State) (h : Hdr) (c : BiasSetCmd) : State :=
  let d := s.biasDac c.tile c.dac
  let j : BiasJob := ⟨h, if c.spanChange then some c.span else none, c.code, s.absTick,
    (s.devTime (s.tickStart s.absTick)).toNat, d.change.isSome⟩
  if d.change.isSome then
    let s := match d.waiting with | some o => s.supersedeBias c.tile c.dac o | none => s
    s.setBiasDac c.tile c.dac { d with waiting := some j }
  else
    let s := match d.staged with | some o => s.supersedeBias c.tile c.dac o | none => s
    s.setBiasDac c.tile c.dac { d with staged := some j }

/-- BIAS_SET (R78 to R80, R83). -/
def execBiasSet (h : Hdr) (c : BiasSetCmd) (s : State) : Res :=
  .next (s.acceptTimed h 0x24 (.biasSet c) (biasSetFields c) true)

/-- The trigger offset of a tile in ns. -/
def State.biasOffset (s : State) (n : Nat) : Int := sx 16 (s.get (Reg.TIL_BIAS_TRIG_OFFSET n)) * 10

/-- Step 4 of R79: the new code appears in the new span, the command completes, and a held one takes its place. -/
def State.endSpanChange (s : State) (tile dac : Nat) (c : SpanChange) (st : Nat) : State :=
  let d := s.biasDac tile dac
  let s := s.setBiasDac tile dac ⟨d.waiting, none, none, decide (s.tileState tile = 0)⟩
  (s.biasCode tile dac c.job.code).finishBias tile dac c.job st

/-- A trigger reaches a DAC (R78, R79): the staged code goes to the output, or its span change begins or ends. -/
def State.fireBias (s : State) (tile dac st : Nat) : State :=
  let d := s.biasDac tile dac
  match d.change, d.staged with
  | some c, _ => if c.safeDone then s.endSpanChange tile dac c st else s
  | none, some j =>
    match j.span with
    | none => ((s.setBiasDac tile dac { d with staged := none }).biasCode tile dac j.code).finishBias tile dac j st
    | some _ => s.setBiasDac tile dac { d with staged := none, change := some ⟨j, s.now, false, false⟩, safe := true }
  | none, none => s

/-- BIAS_TRIGGER (R78): an edge of kind `edge` as `TRIG` numbers it, at or after the staged command's effective tick, both
shifted by `OFFSET`. -/
def execBiasTrigger (tile dac edge : Nat) (s : State) : Res :=
  let d := s.biasDac tile dac
  let due (j : BiasJob) : Bool := decide ((j.effAt : Int) + s.biasOffset tile ≤ s.now)
  .next (if s.get (Reg.TIL_BIAS_CFG_TRIG tile dac) ≠ edge then s
    else match d.change, d.staged with
      | some _, _ => s.fireBias tile dac St.done
      | none, some j => if due j then s.fireBias tile dac St.done else s
      | none, none => s)

/-- BIAS_TRIGGER_TIMEOUT (R78, R85): 10 ms after the effective tick, at a slot boundary at which the tile is not in TX. -/
def execBiasTriggerTimeout (tile dac : Nat) (s : State) : Res :=
  let d := s.biasDac tile dac
  let ok := s.atSlot && decide (s.tileState tile ≠ 3)
  .next (match d.change, d.staged with
    | some c, _ => if ok && s.due (c.start + 10000000) then s.fireBias tile dac St.donePartial else s
    | none, some j => if ok && s.due (j.effAt + 10000000) then s.fireBias tile dac St.donePartial else s
    | none, none => s)

/-- BIAS_SPAN_SWITCH (R79 step 2). -/
def execBiasSpanSwitch (tile dac : Nat) (s : State) : Res :=
  let d := s.biasDac tile dac
  .next (match d.change with
    | some c =>
      if s.due (c.start + 5000) && !c.switched then
        (s.put (Reg.TIL_BIAS_CFG_SPAN tile dac) (c.job.span.getD 0)).setBiasDac tile dac
          { d with change := some { c with switched := true } }
      else s
    | none => s)

/-- BIAS_SAFE_PHASE_END (R79 step 3): with the effective tick as trigger, which has passed, step 4 follows at once. -/
def execBiasSafePhaseEnd (tile dac : Nat) (s : State) : Res :=
  let d := s.biasDac tile dac
  .next (match d.change with
    | some c =>
      if s.due (c.start + 20000) && c.switched then
        let c' := { c with safeDone := true }
        let s := s.setBiasDac tile dac { d with change := some c' }
        if s.get (Reg.TIL_BIAS_CFG_TRIG tile dac) = 3 then s.endSpanChange tile dac c' St.done else s
      else s
    | none => s)

/-! ## Tones -/

/-- The tiles of a path mask. -/
def tilesOfPaths (mask : Nat) : Nat := maskOf ((List.range 8).filter fun n => bits mask (8 * n) 8 != 0)

/-- The checks of `DDS_TONE` at fetch (R83). -/
def ddsToneFields (c : DdsToneCmd) : Option Nat := rangeUnless [decide (0 < c.pathMask ∧ c.pathMask < 2 ^ 64)]

/-- The tones after the command (R74). -/
def State.ddsPlan (s : State) (c : DdsToneCmd) : State :=
  s.each (maskList c.pathMask 64) fun s p =>
    let x : Tone := ⟨c.ftw, c.ampl, c.phase, c.point⟩
    { s with tx := { s.tx with tones := s.tx.tones.put p (if c.enable then some x else none) } }

/-- The checks of `DDS_TONE` at tick e − 2 (R75, R161, R162, R437). -/
def ddsToneCfg (s : State) (c : DdsToneCmd) : Option Nat :=
  let tiles := maskList (tilesOfPaths c.pathMask) 8
  firstFail [(s.txAllowed, St.refusedLevee),
    (!c.enable || tiles.all fun n => s.tonePermitted s.limitWord n ⟨c.ftw, 0, 0, false⟩, St.refusedLevee),
    (tiles.all s.tileReady, St.notReady)]

/-- The effect of `DDS_TONE` at its effective tick (R75). -/
def State.applyDdsTone (s : State) (h : Hdr) (c : DdsToneCmd) : State :=
  (s.ddsPlan c).completeTx h 0x25 (tilesOfPaths c.pathMask)

/-- DDS_TONE (R74, R75, R83). -/
def execDdsTone (h : Hdr) (c : DdsToneCmd) (s : State) : Res :=
  .next (s.acceptTimed h 0x25 (.ddsTone c) (ddsToneFields c) true)

/-! ## Summaries and delays -/

/-- TX_SAT_SUMMARY (R84): at the end of 10 ms in which tile n saturated. -/
def execTxSatSummary (tile : Nat) (s : State) : Res :=
  let flags := s.tx.satFlags.getD tile 0
  let count := s.tx.satCount.getD tile 0
  .next (if flags = 0 && count = 0 then s
    else
      let s := { s with tx := { s.tx with satFlags := s.tx.satFlags.del tile, satCount := s.tx.satCount.del tile } }
      s.event (0x0010 + tile) 0x0303 ([flags, 0, 0, 0] ++ bytesLE 4 (min count (2 ^ 32 - 1))))

/-- FE_DELAY_APPLY (R60, R102): at a frame boundary the front-end delays written since take effect for every use. -/
def execFeDelayApply (s : State) : Res :=
  .next (if s.atFrame then
    let s := s.each (List.range 8) fun s n =>
      { s with tx := { s.tx with feDelay := s.tx.feDelay.set n (s.get (Reg.TIL_TX_FEDLY_FE_DELAY n)) },
               rx := { s.rx with feDelay := s.rx.feDelay.set n (s.get (Reg.TIL_RX_FEDLY_FE_DELAY n)) } }
    s.refreshPlan
  else s)

end Sys2Proof.Machine
end

