-- ==== Sys2Proof/Machine/Beam.lean ====
section
/-! DEFINITION. Beamforming, beam tables, covariance and access detection (R121 to R159). -/
namespace Sys2Proof.Machine
open Sys2Proof

/-! ## Layer sets (R124, R125) -/

/-- The checks of `BF_LAYERS` at fetch (R158). -/
def bfLayersFields (s : State) (h : Hdr) (carrier layers ulShift : Nat) : Option Nat :=
  rangeUnless [decide (carrier < 8), decide (layers ≤ 32), decide (ulShift < 8), decide (h.effTick % s.tps = 0)]

/-- The layer sets after the command: no layers removes the set. -/
def State.bfPlan (s : State) (carrier : Nat) (uplink : Bool) (layers ulShift prio : Nat) : State :=
  let key := b2n uplink * 8 + carrier
  let set : Option LayerSet := if layers = 0 then none else some ⟨layers, prio, ulShift⟩
  let gone (b : Nat × Nat × Nat) : Bool := b.1 == b2n uplink && b.2.1 == carrier && decide (layers ≤ b.2.2)
  let blanked := s.beam.blanked.filter fun b => !gone b
  { s with beam := { s.beam with sets := s.beam.sets.put key set, blanked := blanked } }

/-- Tiles on which a carrier index is enabled in a direction. -/
def State.tilesWith (s : State) (dir c : Nat) : List Nat :=
  (List.range 8).filter fun n => if dir = 0 then (s.txCarrier n c).isSome else (s.rxCarrier n c).isSome

/-- The checks of `BF_LAYERS` at tick e − 2 (R15, R124, R125, R158, R437). -/
def bfLayersCfg (s : State) (h : Hdr) (carrier : Nat) (uplink : Bool) (layers ulShift prio : Nat) : Option Nat :=
  let dir := b2n uplink
  let t := s.bfPlan carrier uplink layers ulShift prio
  firstFail [(s.slotAligned h.effTick (s.numsOf dir 255 carrier), St.range),
    (decide (layers ≤ profileLayers s.profile dir), St.range), (t.arrayFits s.profile, St.range),
    ((s.tilesWith dir carrier).all s.tileReady, St.notReady)]

/-- The effect of `BF_LAYERS` at its effective tick. -/
def State.applyBfLayers (s : State) (h : Hdr) (carrier : Nat) (uplink : Bool) (layers ulShift prio : Nat) : State :=
  (s.bfPlan carrier uplink layers ulShift prio).refreshPlan.complete h 0x40 St.done

/-- BF_LAYERS (R124, R125, R158). -/
def execBfLayers (h : Hdr) (carrier : Nat) (uplink : Bool) (layers ulShift prio : Nat) (s : State) : Res :=
  .next (s.acceptTimed h 0x40 (.bfLayers carrier uplink layers ulShift prio) (bfLayersFields s h carrier layers ulShift)
    true)

/-! ## T2 blanking (R128) -/

/-- Priority of a layer of a set (R158). -/
def LayerSet.prioOf (l : LayerSet) (layer : Nat) : Nat := bits l.prio (4 * layer) 4

/-- Every layer of the plan that is not blanked: direction, carrier, layer, with its priority. -/
def State.planLayers (s : State) : List (Nat × Nat × Nat × Nat) :=
  s.beam.sets.flatMap fun e =>
    ((List.range e.2.layers).filter fun l => !s.beam.blanked.contains (e.1 / 8, e.1 % 8, l)).map fun l =>
      (e.1 / 8, e.1 % 8, l, e.2.prioOf l)

/-- Whether layer a is blanked before layer b: lower priority, then higher carrier, then higher layer. -/
def blanksBefore (a b : Nat × Nat × Nat × Nat) : Bool :=
  if a.2.2.2 ≠ b.2.2.2 then decide (a.2.2.2 < b.2.2.2)
  else if a.2.1 ≠ b.2.1 then decide (a.2.1 > b.2.1) else decide (a.2.2.1 > b.2.2.1)

/-- The layer to blank next. -/
def State.nextBlank (s : State) : Option (Nat × Nat × Nat) :=
  (s.planLayers.foldl (fun (a : Option (Nat × Nat × Nat × Nat)) x =>
    match a with
    | none => some x
    | some y => if blanksBefore x y then some x else a) none).map fun x => (x.1, x.2.1, x.2.2.1)

/-- Blank layers one by one until the plan passes; `fuel` bounds the layers of the device. -/
def State.blankLayers : Nat → State → State
  | 0, s => s
  | fuel + 1, s =>
    if s.arrayFits s.profile then s
    else match s.nextBlank with
      | none => s
      | some b => State.blankLayers fuel { s with beam := { s.beam with blanked := s.beam.blanked ++ [b] } }

/-- The event of layers blanked (0) or restored (1) on each set (R157). -/
def State.blankEvents (s : State) (kind : Nat) (l : List (Nat × Nat × Nat)) : State :=
  s.each ((List.range 2).flatMap fun d => (List.range 8).map fun c => (d, c)) fun s k =>
    let mask := maskOf ((l.filter fun b => b.1 == k.1 && b.2.1 == k.2).map fun b => b.2.2)
    s.when (mask != 0) fun s =>
      s.event 0x0020 0x0411 ([kind, k.1, k.2, 0] ++ bytesLE 4 mask ++ bytesLE 2 (s.get Reg.BFM_CAP_CAP_LMHZ))

/-- At T2 the device blanks whole layers until the plan passes the reduced checks (R128). -/
def State.t2Blank (s : State) : State :=
  let old := s.beam.blanked
  let s := (State.blankLayers 512 s).refreshPlan
  let new := s.beam.blanked.filter fun b => !old.contains b
  if new.isEmpty then s else (s.setF Reg.BFM_ERR_T2_BLANK).blankEvents 0 new

/-- T2_RESTORE (R128): at the first slot boundary below T2 the blanked layers return, in reverse order. -/
def execT2Restore (s : State) : Res :=
  .next (if s.atT2 || !s.atSlot || s.beam.blanked.isEmpty then s
    else
      let l := s.beam.blanked.reverse
      ({ s with beam := { s.beam with blanked := [] } }.refreshPlan).blankEvents 1 l)

/-! ## Beam banks (R129 to R140) -/

/-- The active beam bank. -/
def State.beamActive (s : State) : Nat := s.get Reg.BFM_BANK_STAT_ACTIVE

/-- Pinned entries in paging mode; every entry without it (R132). -/
def State.pinned (s : State) : Nat :=
  if s.on Reg.BFM_CFG_PAGING then s.get Reg.BFM_CFG_PIN_COUNT * 256 else 4096

/-- Show the writes to the shadow in progress. -/
def State.showLoading (s : State) : State :=
  let sh := 1 - s.beamActive
  s.put Reg.BFM_BANK_STAT_LOADING (b2n (s.beam.writes.any fun w => w.bank == sh))

/-- Event 0x0414: the outcome of a queued write (R157). -/
def State.writeOutcome (s : State) (w : BeamWrite) (status : Nat) : State :=
  let tag := match w.hdr with | some h => h.tag | none => 0
  s.event 0x0020 0x0414 ([w.kind, status] ++ bytesLE 2 tag ++ bytesLE 2 w.first ++ bytesLE 2 w.count)

/-- Queue a write that meets a transition (R138): one that it replaces ends SUPERSEDED. -/
def State.queueWrite (s : State) (w : BeamWrite) : State :=
  let s := match s.beam.queue with | some o => s.writeOutcome o St.superseded | none => s
  { s with beam := { s.beam with queue := some { w with queued := true } } }.setF Reg.BFM_BANK_STAT_LOAD_Q

/-- Start a write. -/
def State.startWrite (s : State) (w : BeamWrite) : State :=
  { s with beam := { s.beam with writes := s.beam.writes ++ [w] } }.showLoading

/-- Whether every entry of a range of a bank is marked bad (R131). -/
def State.allBad (s : State) (bank first count : Nat) : Bool :=
  (List.range' first count).all fun e => s.beam.bad.contains (bank * 4096 + e)

/-- The checks of `BEAM_LOAD` on its fields (R158). -/
def beamLoadFields (c : BeamLoadCmd) : Option Nat :=
  if c.flush then rangeUnless [decide (c.bank < 2)]
  else firstFail [(decide (c.bank < 2 ∧ 1 ≤ c.count ∧ c.count ≤ 4096 ∧ c.first + c.count ≤ 4096), St.range),
    (c.src % 64 == 0 && (!c.gather || c.index % 4 == 0), St.misaligned)]

/-- Whether a pool entry is referenced by a section still in the pipeline (R134). -/
def PoolEntry.referenced (e : PoolEntry) (now : Int) : Bool := decide (now ≤ e.refUntil)

/-- Discard the unreferenced entries of a flush, and mark the others (R135). -/
def State.flushPool (s : State) : State :=
  let kept := (s.beam.pool.filter fun e => e.2.referenced s.absTick).map fun e => (e.1, { e.2 with flush := true })
  { s with beam := { s.beam with pool := kept } }

/-- BEAM_LOAD (R131, R135, R138, R158). -/
def execBeamLoad (h : Hdr) (c : BeamLoadCmd) (s : State) : Res :=
  .next (s.acceptNow h 0x41 (beamLoadFields c) fun s =>
    if c.flush then
      let s := s.flushPool
      if s.beam.pool.isEmpty then s.complete h 0x41 St.done
      else { s with beam := { s.beam with flushes := s.beam.flushes ++ [h] } }
    else
      let w : BeamWrite := ⟨0, some h, c.bank, c.first, c.count, c.src, c.gather, c.index, c.repair, false, []⟩
      if s.beam.transition.isSome then (s.queueWrite w).completeX h 0x41 St.busyFade 0 [] true
      else if c.bank = s.beamActive && !(c.repair && s.allBad c.bank c.first c.count) then s.complete h 0x41 St.range
      else s.startWrite w)

/-- The 256 bytes that entry i of a write takes. -/
def State.writeBytesOf (s : State) (w : BeamWrite) (i : Nat) : List Nat :=
  if w.kind ≠ 0 then fit 256 (w.data.drop (256 * i))
  else if w.gather then s.hostRead (w.src + s.hostMem.readLE (w.index + 4 * i) 4) 256
  else s.hostRead (w.src + 256 * i) 256

/-- Put the entries of a write into its bank; an entry that is written is no longer bad (R131). -/
def State.doWrite (s : State) (w : BeamWrite) : State :=
  let s := s.each (List.range w.count) fun s i => s.devWrite (beamAddr w.bank (w.first + i)) (s.writeBytesOf w i)
  let good (k : Nat) : Bool := decide (w.bank * 4096 + w.first ≤ k) && decide (k < w.bank * 4096 + w.first + w.count)
  { s with beam := { s.beam with bad := s.beam.bad.filter fun k => !good k } }

/-- BEAM_LOAD_COMPLETE (R138): the oldest write in progress ends. -/
def execBeamLoadComplete (busOk : Bool) (s : State) : Res :=
  .next (match s.beam.writes with
    | [] => s
    | w :: rest =>
      let s := if busOk then s.doWrite w else s
      let s := { s with beam := { s.beam with writes := rest } }.showLoading
      let st := if busOk then St.done else St.busError
      if w.queued then s.writeOutcome w st
      else match w.hdr with
        | some h => s.complete h 0x41 st
        | none => s)

/-- POOL_FLUSH_COMPLETE (R135): entries whose last reference has ended are discarded; with none left the flushes complete. -/
def execPoolFlushComplete (s : State) : Res :=
  let pool := s.beam.pool.filter fun e => !(e.2.flush && !e.2.referenced s.absTick)
  let done := !pool.any fun e => e.2.flush
  let s1 := { s with beam := { s.beam with pool := pool } }
  .next (if done then
      { s1 with beam := { s1.beam with flushes := [] } }.each s.beam.flushes fun s h => s.complete h 0x41 St.done
    else s1)

/-- The longest symbol of any enabled carrier, in ticks (R137). -/
def State.mMax (s : State) : Nat :=
  let tx := s.tx.carriers.map fun e => s.spanOf e.2.num
  let rx := s.rx.carriers.map fun e => s.spanOf e.2.num
  (tx ++ rx).foldl max 1

/-- A transition begins at e − 2 (R137). -/
def State.beginTransition (s : State) (e : Int) (blend : Nat) : State :=
  let stop := e + blend + s.mMax + 1
  let s := { s with beam := { s.beam with transition := some ⟨e, blend, stop⟩ } }
  (s.setF Reg.BFM_BANK_STAT_BUSY).put Reg.BFM_BANK_STAT_BLEND blend

/-- Hold a swap during a transition (R139): one that it replaces completes SUPERSEDED. -/
def State.holdBeamSwap (s : State) (q : HeldBeamSwap) : State :=
  let s := match s.beam.swapQ with
    | some o => (match o.hdr with | some h => s.complete h 0x42 St.superseded | none => s)
    | none => s
  { s with beam := { s.beam with swapQ := some q } }.setF Reg.BFM_BANK_STAT_SWAP_Q

/-- Whether an entry of the shadow is still being written (R140). -/
def State.shadowBusy (s : State) : Bool := s.beam.writes.any fun w => w.bank != s.beamActive

/-- The checks of `BEAM_SWAP` at fetch (R136, R158). -/
def beamSwapFields (s : State) (h : Hdr) (blend : Nat) : Option Nat :=
  rangeUnless [decide (blend ≤ 14), decide (h.effTick % s.tps = 0)]

/-- BEAM_SWAP (R136, R139): one fetched during a transition is held. -/
def execBeamSwap (h : Hdr) (blend : Nat) (s : State) : Res :=
  .next (s.acceptTimedK h 0x42 (beamSwapFields s h blend) fun s =>
    if s.beam.transition.isSome then s.holdBeamSwap ⟨some h, blend, s.effAbs h⟩ else s.hold h (.beamSwap blend) true)

/-- The check of a swap at tick e − 2 (R140). -/
def beamSwapCfg (s : State) : Option Nat := if s.shadowBusy then some St.notReady else none

/-- The shadow becomes the active bank, for symbols from here on (R136). -/
def State.flipBeams (s : State) : State := (s.put Reg.BFM_BANK_STAT_ACTIVE (1 - s.beamActive)).showLoading

/-- The effect of `BEAM_SWAP` at its effective tick. -/
def State.applyBeamSwap (s : State) (h : Hdr) : State := s.flipBeams.complete h 0x42 St.done

/-- BEAM_TRANSITION_END (R137, R138): a queued write starts if its target is then the shadow, and is discarded otherwise. -/
def execBeamTransitionEnd (s : State) : Res :=
  .next (match s.beam.transition with
    | none => s
    | some t =>
      if s.absTick < t.stop then s
      else
        let s := { s with beam := { s.beam with transition := none } }
        let s := (s.put Reg.BFM_BANK_STAT_BUSY 0).put Reg.BFM_BANK_STAT_BLEND 0
        match s.beam.queue with
        | none => s
        | some w =>
          let s := { s with beam := { s.beam with queue := none } }.put Reg.BFM_BANK_STAT_LOAD_Q 0
          if w.bank = s.beamActive then s.writeOutcome w St.range else s.startWrite w)

/-- The held swap's transition begins two ticks before its slot boundary, unless the shadow is being written (R139, R140). -/
def State.startHeldSwap (s : State) (q : HeldBeamSwap) : State :=
  let s := { s with beam := { s.beam with swapQ := none } }.put Reg.BFM_BANK_STAT_SWAP_Q 0
  if s.shadowBusy then (match q.hdr with | some h => s.complete h 0x42 St.notReady | none => s)
  else
    let e := s.absTick + 2
    { s with beam := { s.beam with starting := some { q with eff := e } } }.beginTransition e q.blend

/-- The effective tick of a held swap whose transition runs (R139). -/
def State.finishHeldSwap (s : State) (q : HeldBeamSwap) : State :=
  let s := { s with beam := { s.beam with starting := none } }.flipBeams
  match q.hdr with | some h => s.complete h 0x42 St.done | none => s

/-- HELD_BEAM_SWAP_START (R139): its transition begins at the first tick b − 2 outside a transition with b a slot boundary at
or after its own tick; it completes at b. -/
def execHeldBeamSwapStart (s : State) : Res :=
  .next (match s.beam.starting, s.beam.swapQ with
    | some q, _ => if q.eff ≤ s.absTick then s.finishHeldSwap q else s
    | none, some q =>
      if s.beam.transition.isNone && s.slotStart (s.absTick + 2) && decide (q.eff ≤ s.absTick + 2) then s.startHeldSwap q
      else s
    | none, none => s)

/-! ## Paging (R132 to R135) -/

/-- A free pool entry: one never used, or the least recently used that no section refers to (R134). -/
def State.freePool (s : State) : Option Nat :=
  match (List.range' s.pinned (4096 - s.pinned)).find? fun e => !s.beam.pool.has e with
  | some e => some e
  | none =>
    ((s.beam.pool.filter fun e => !e.2.referenced s.absTick).foldl
      (fun (a : Option (Nat × PoolEntry)) x =>
        match a with
        | none => some x
        | some y => if x.2.lastUse < y.2.lastUse then some x else a) none).map Prod.fst

/-- A section names a paged beam (R133, R134): the entry it will use is referenced to `until_`; a beam that is not in the pool
takes a free entry and begins to load, at most 256 in a slot. -/
def State.demandPage (s : State) (beam : Nat) (until_ : Int) : State :=
  match s.beam.pool.find? fun e => e.2.beamId == beam with
  | some e =>
    let x := { e.2 with lastUse := s.absTick, refUntil := max e.2.refUntil until_ }
    { s with beam := { s.beam with pool := s.beam.pool.set e.1 x } }
  | none =>
    let slot := s.absTick / s.tps
    let n := if slot = s.beam.pageSlot then s.beam.pageLoads else 0
    if n ≥ 256 then s
    else match s.freePool with
      | none =>
        let s := s.setF Reg.BFM_ERR_POOL_FULL
        { s with beam := { s.beam with missFlags := putBit s.beam.missFlags 0 true } }
      | some e =>
        let x : PoolEntry := ⟨beam, false, s.absTick, until_, false⟩
        { s with beam := { s.beam with pool := s.beam.pool.set e x, pageSlot := slot, pageLoads := n + 1 } }

/-- The entry a beam ID selects: itself where it is pinned, its resident pool entry otherwise (R130, R132). -/
def State.beamEntry (s : State) (beam : Nat) : Option Nat :=
  if beam < s.pinned then some beam
  else if !s.on Reg.BFM_CFG_PAGING then none
  else (s.beam.pool.find? fun e => e.2.beamId == beam && e.2.resident).map Prod.fst

/-- Count a miss of a paged beam, or of the fetch limit, for the summary of R157. -/
def State.countMiss (s : State) (beam prbs : Nat) : State :=
  let first := if s.beam.missCount = 0 then beam else s.beam.missFirst
  { s with beam := { s.beam with missCount := s.beam.missCount + prbs, missFirst := first } }.add64 Reg.BFM_MISS_CNT prbs

/-- PAGE_LOAD_COMPLETE (R133): the weights go into the same entry of both banks. -/
def execPageLoadComplete (entry : Nat) (s : State) : Res :=
  .next (match s.beam.pool.get? entry with
    | none => s
    | some e =>
      if e.resident then s
      else
        let bytes := s.hostRead (s.rd64 Reg.BFM_PAGE_BASE + 256 * e.beamId) 256
        let s := (s.devWrite (beamAddr 0 entry) bytes).devWrite (beamAddr 1 entry) bytes
        { s with beam := { s.beam with pool := s.beam.pool.set entry { e with resident := true } } })

/-- PAGE_MISS_SUMMARY (R157): at the end of 10 ms with misses. -/
def execPageMissSummary (s : State) : Res :=
  .next (if s.beam.missCount = 0 && s.beam.missFlags = 0 then s
    else
      let args := [s.beam.missFlags, 0] ++ bytesLE 2 s.beam.missFirst ++ bytesLE 4 (s.beam.missCount % 2 ^ 32)
      { s with beam := { s.beam with missFlags := 0, missFirst := 0, missCount := 0 } }.event 0x0020 0x0412 args)

/-! ## Covariance (R141 to R146) -/

/-- Subbands of a set: `SB_PRB` PRBs each, the last takes what is left (R141). -/
def covSubbands (c : CovSetupCmd) : Nat := ceilDiv c.prbCount c.sbPrb

/-- The checks of `COV_SETUP` at fetch (R141, R158). -/
def covSetupFields (s : State) (h : Hdr) (c : CovSetupCmd) : Option Nat :=
  rangeUnless [decide (c.carrier < 8), decide (h.effTick % s.tps = 0),
    !c.enable || decide (1 ≤ c.layers ∧ c.layers ≤ 16 ∧ 4 ≤ c.sbPrb ∧ c.sbPrb ≤ 275 ∧ 1 ≤ c.prbCount ∧ 4 ≤ c.period ∧
      c.period ≤ 2560 ∧ c.offset < c.period ∧ c.symMask < 2 ^ 14 ∧ c.autoBlend ≤ 14 ∧ c.paramAddr % 16 = 0)]

/-- The parameter entries of a set, from host memory. -/
def State.covParams (s : State) (c : CovSetupCmd) : List (List Nat) :=
  (List.range c.layers).map fun l => s.hostRead (c.paramAddr + 16 * l) 16

/-- The covariance sets after the command. -/
def State.covPlan (s : State) (c : CovSetupCmd) : State :=
  let v : CovSet := ⟨c, s.covParams c, -1, 0, 0, [], []⟩
  { s with beam := { s.beam with cov := s.beam.cov.put c.carrier (if c.enable then some v else none) } }

/-- The checks of `COV_SETUP` at tick e − 2 (R141, R143 to R145). -/
def covSetupCfg (s : State) (c : CovSetupCmd) : Option Nat :=
  if !c.enable then none
  else
    let n := covSubbands c
    let wide := (s.rx.carriers.filter fun e => e.1 % 8 == c.carrier).map fun e => e.2.nprb
    rangeUnless [s.profile == 3, !wide.isEmpty, wide.all fun w => decide (c.prbFirst + c.prbCount ≤ w),
      (s.covParams c).all srsOk, decide (n ≤ s.sMax c.layers), decide (c.base + n * c.layers ≤ s.pinned),
      (s.covPlan c).arrayFits s.profile]

/-- Show which sets are armed, and S_max of the largest L. -/
def State.showCov (s : State) : State :=
  let s := s.put Reg.BFM_COV_STAT_ARMED (maskOf (s.beam.cov.map Prod.fst))
  let l := (s.beam.cov.map fun e => e.2.cfg.layers).foldl max 0
  s.put Reg.BFM_COV_STAT_S_MAX (if l = 0 then 0 else min (s.sMax l) 255)

/-- The effect of `COV_SETUP` at its effective tick. -/
def State.applyCovSetup (s : State) (h : Hdr) (c : CovSetupCmd) : State :=
  ((s.covPlan c).showCov.refreshPlan).complete h 0x43 St.done

/-- COV_SETUP (R141, R158). -/
def execCovSetup (h : Hdr) (c : CovSetupCmd) (s : State) : Res :=
  .next (s.acceptTimed h 0x43 (.covSetup c) (covSetupFields s h c) true)

/-- COV_SOLVE_START (R144): the uplink work of the period's last sounding symbol has ended. -/
def execCovSolveStart (carrier : Nat) (s : State) : Res :=
  .next (match s.beam.cov.get? carrier with
    | none => s
    | some v =>
      if v.lastTick < 0 || s.absTick < v.lastTick + 2 || s.beam.solves.has carrier then s
      else
        let w : CovSolve := ⟨s.absTick, v.lastTick + s.tps, []⟩
        { s with beam := { s.beam with solves := s.beam.solves.set carrier w } }.setF Reg.BFM_COV_STAT_SOLVING)

/-- Whether the solver kernel of a subband's engine replaces the firmware's solve (R335, R344). -/
def State.solverKernel (s : State) (subband : Nat) : Bool :=
  match s.eng.engines.get? (subband % 8) with
  | some e => (match e.kernel with | some k => k.hook == 0 && !e.kernelOff && s.get (Reg.ENG_STAT_MODE (subband % 8)) == 0 | none => false)
  | none => false

/-- Whether a subband of a period has got its weights (R146, R338, R344). -/
def State.subbandSolved (s : State) (v : CovSet) (w : CovSolve) (b : Nat) : Bool :=
  let st := s.get (Reg.ENG_STAT_STATE (b % 8))
  v.res.getD b 0 != 0 && (st == 1 || st == 2) && (!s.solverKernel b || w.solved.contains b)

/-- The bytes that a solve leaves in the shadow for a subband: firmware's solution, what its kernel wrote, or the active
entries (R144, R146, R344). -/
def State.subbandBytes (s : State) (v : CovSet) (w : CovSolve) (b : Nat) : List Nat :=
  let first := v.cfg.base + b * v.cfg.layers
  let entries (bank : Nat) := s.devRead (beamAddr bank first) (256 * v.cfg.layers)
  if !s.subbandSolved v w b then entries s.beamActive
  else if s.solverKernel b then entries (1 - s.beamActive)
  else fit (256 * v.cfg.layers) (Config.covWeights (v.sums.getD b 0) v.cfg.layers v.cfg.reg)

/-- COV_SOLVE_END (R145, R146): at t_last + T_slot the weights stand in the shadow, or the write is queued behind a transition;
the event names the subbands without a solve, and an auto-swap is issued. -/
def execCovSolveEnd (carrier : Nat) (s : State) : Res :=
  .next (match s.beam.cov.get? carrier, s.beam.solves.get? carrier with
    | some v, some w =>
      if s.absTick < w.stop then s
      else
        let n := covSubbands v.cfg
        let missing := (List.range n).filter fun b => !s.subbandSolved v w b
        let bw : BeamWrite := ⟨1, none, 1 - s.beamActive, v.cfg.base, n * v.cfg.layers, 0, false, 0, false, false,
          (List.range n).flatMap (s.subbandBytes v w)⟩
        let s := if s.beam.transition.isSome then s.queueWrite bw else s.doWrite bw
        let fresh : CovSet := { v with lastTick := -1, res := [], sums := [] }
        let s := { s with beam := { s.beam with solves := s.beam.solves.del carrier, cov := s.beam.cov.set carrier fresh } }
        let s := s.put Reg.BFM_COV_STAT_SOLVING (b2n (!s.beam.solves.isEmpty))
        let st := if missing.isEmpty then St.done else St.donePartial
        let s := s.event 0x0020 0x0415 ([carrier, st] ++ bytesLE 2 v.sfn ++ [v.slot, 0] ++ bytesLE 2 missing.length ++
          bytesLE 8 (maskOf (missing.filter fun b => decide (b < 64))))
        if v.cfg.autoSwap then s.holdBeamSwap ⟨none, v.cfg.autoBlend, s.nextSlot (s.absTick + 3)⟩ else s
    | _, _ => s)

/-! ## Renormalisation (R127) -/

/-- Entries of both banks whose power lies wholly on removed paths. -/
def State.lostEntries (s : State) (removed : Nat) : Nat :=
  ((List.range 8192).filter fun k =>
    let l := s.devRead (beamAddr (k / 4096) (k % 4096)) 256
    decide (beamPower l (2 ^ 64 - 1) > 0) && beamLost l removed).length

/-- RENORMALISATION (R127): g_e is in force for the paths now removed. -/
def execRenormalisation (s : State) : Res :=
  .next (match s.beam.normDue with
    | none => s
    | some _ =>
      let m := s.rd64 Reg.BFM_REMOVED
      let s := { s with beam := { s.beam with normMask := m, normDue := none } }
      s.event 0x0020 0x0416 (bytesLE 8 m ++ bytesLE 2 (if m = 0 then 0 else s.lostEntries m)))

/-! ## Access detection (R147 to R154) -/

/-- Whether a format is of a long sequence, and L_RA (R147). -/
def prachLong (format : Nat) : Bool := decide (format < 4)
def prachLen (format : Nat) : Nat := if prachLong format then 839 else 139

/-- Duration of an occasion in ns at its spacing (TS 38.211 tables 6.3.3.1-1 and 6.3.3.2-1; PRESUMED, named by R147): long
formats in Tc-exact subframe parts, short formats in symbols of the spacing. -/
def prachNs (format scs : Nat) : Nat :=
  if format = 0 then 1000000
  else if format = 1 then 3000000
  else if format = 2 then 3500000
  else if format = 3 then 1000000
  else
    let sym := if format = 0x10 then 2 else if format = 0x11 then 4 else if format = 0x12 then 6
      else if format = 0x13 then 2 else if format = 0x14 then 4 else if format = 0x15 then 6
      else if format = 0x16 then 12 else if format = 0x17 then 2 else 6
    sym * 71354 / 2 ^ (scs - 2)

/-- Slots of the occasion's slot mask in one frame: subframes for the long formats, slots of the spacing for the short. -/
def prachSlots (format scs : Nat) : Nat := if prachLong format then 10 else 10 * 2 ^ (scs - 2)

/-- Start and end of time occasion t in slot k of a frame, ns from the frame. -/
def acdOccStart (c : AcdCmd) (k t : Nat) : Nat :=
  let slot := k * 10 ^ 7 / prachSlots c.format c.scs
  let sym := if prachLong c.format then 71354 else 71354 / 2 ^ (c.scs - 2)
  slot + c.firstSymbol * sym + t * prachNs c.format c.scs

/-- Roots a configuration needs (R148). -/
def acdRoots (c : AcdCmd) : Nat := if c.ncs = 0 then 1 else ceilDiv c.preambles (prachLen c.format / c.ncs)

/-- Cost of one occasion (R148). -/
def acdCost (c : AcdCmd) : Nat := c.fdm * c.beams * acdRoots c

/-- The ends of a configuration's occasions over 16 frames, ns, with their cost. -/
def acdEnds (c : AcdCmd) : List (Nat × Nat) :=
  ((List.range 17).filter fun f => f % c.framePeriod == c.frameOffset).flatMap fun f =>
    (maskList c.slotMask (prachSlots c.format c.scs)).flatMap fun k =>
      (List.range c.occasions).map fun t => (f * 10 ^ 7 + acdOccStart c k t + prachNs c.format c.scs, acdCost c)

/-- The largest cost whose occasions end within any 1 ms (R148). -/
def peakCost (l : List (Nat × Nat)) : Nat :=
  l.foldl (fun m e =>
    max m (sumL ((l.filter fun x => decide (e.1 ≤ x.1) && decide (x.1 < e.1 + 1000000)).map Prod.snd))) 0

/-- The checks of `ACD_OCCASION` at fetch (R147, R148, R158): set type B, other sequences and formats are refused. -/
def acdFields (h : Hdr) (c : AcdCmd) : Option Nat :=
  rangeUnless [decide (c.config < 16), decide (h.effTick = 0),
    !c.enable || (decide (c.carrier < 8 ∧ (c.format < 3 ∧ c.scs = 0 ∨ c.format = 3 ∧ c.scs = 1 ∨
        16 ≤ c.format ∧ c.format ≤ 24 ∧ 2 ≤ c.scs ∧ c.scs ≤ 5)) &&
      [1, 2, 4, 8, 16].contains c.framePeriod && decide (c.frameOffset < c.framePeriod ∧ c.firstSymbol < 14) &&
      decide (1 ≤ c.occasions ∧ c.occasions ≤ 7) && [1, 2, 4, 8].contains c.fdm &&
      decide (c.root + 1 < prachLen c.format ∧ c.ncs ≤ prachLen c.format ∧ c.set ≤ 1) &&
      decide (1 ≤ c.preambles ∧ c.preambles ≤ 64 ∧ 1 ≤ c.beams ∧ c.beams ≤ 16))]

/-- The occasion configurations after the command. -/
def State.acdPlan (s : State) (c : AcdCmd) : State :=
  { s with beam := { s.beam with acd := s.beam.acd.put c.config (if c.enable then some c else none) } }

/-- The largest cost of the configurations in force. -/
def State.acdCost (s : State) : Nat := peakCost (s.beam.acd.flatMap fun e => acdEnds e.2)

/-- The checks of `ACD_OCCASION` at tick e − 2 (R148): the carrier feeds the detector, the beams are reachable, the cost fits. -/
def acdCfg (s : State) (c : AcdCmd) : Option Nat :=
  if !c.enable then none
  else rangeUnless [s.rx.carriers.any fun e => e.1 % 8 == c.carrier && e.2.feed,
    decide (c.beamFirst + c.beams ≤ s.pinned), decide ((s.acdPlan c).acdCost ≤ 512)]

/-- The effect of `ACD_OCCASION` at its effective tick. -/
def State.applyAcd (s : State) (h : Hdr) (c : AcdCmd) : State :=
  let s := s.acdPlan c
  (s.put Reg.ACD_STAT_COST (min s.acdCost 65535)).complete h 0x44 St.done

/-- ACD_OCCASION (R147, R148, R158). -/
def execAcdOccasion (h : Hdr) (c : AcdCmd) (s : State) : Res :=
  .next (s.acceptTimed h 0x44 (.acdOccasion c) (acdFields h c) true)

/-- Occasions the detector processes now. -/
def State.showOccasions (s : State) : State :=
  s.put Reg.ACD_STAT_IN_PROG (s.beam.occasions.filter fun o => o.processing).length

/-- The summary of an occasion (R156). -/
def State.occasionSummary (s : State) (o : Occasion) (n : Nat) (aborted : Bool) : State :=
  s.eventAt o.start 0x0024 0x0402 ([o.config, min n 255] ++ bytesLE 2 o.sfn ++ [o.slot, b2n aborted + 2 * b2n o.tainted] ++
    bytesLE 2 o.skipped)

/-- An occasion's end comes on air (R153): processed, or dropped where four are in process. -/
def State.occasionAirEnd (s : State) (o : Occasion) : State :=
  let rest := s.beam.occasions.erase o
  if (rest.filter fun x => x.processing).length ≥ 4 then
    ({ s with beam := { s.beam with occasions := rest } }.setF Reg.ACD_STAT_OCC_DROP).occasionSummary o 0 true
  else { s with beam := { s.beam with occasions := rest ++ [{ o with processing := true }] } }.showOccasions

/-- Whether two peaks are one capture: one index of one beam and frequency occasion, delays within two samples (R152). -/
def samePeak (a b : AcdPeak) : Bool :=
  a.fdm == b.fdm && a.beam == b.beam && a.preamble == b.preamble &&
    decide (((a.delay : Int) - b.delay).natAbs ≤ 2)

/-- Merge a peak into those to report: the stronger of two of one capture stays, marked `CAPTURED` (R152). -/
def mergePeak (l : List (AcdPeak × Bool)) (p : AcdPeak) : List (AcdPeak × Bool) :=
  match l.find? fun x => samePeak x.1 p with
  | none => l ++ [(p, false)]
  | some x => (l.erase x) ++ [(if p.power > x.1.power then p else x.1, true)]

/-- Whether no reported peak of the same preamble on another beam is stronger (R152). -/
def bestBeam (l : List (AcdPeak × Bool)) (p : AcdPeak) : Bool :=
  l.all fun x => !(x.1.fdm == p.fdm && x.1.preamble == p.preamble && decide (x.1.power > p.power))

/-- Formats that report no frequency offset (R150). -/
def noOffset (format : Nat) : Bool := format == 0 || format == 3 || format == 0x17

/-- One detection record (R150, R156). -/
def State.detection (s : State) (o : Occasion) (c : AcdCmd) (l : List (AcdPeak × Bool)) (x : AcdPeak × Bool) : State :=
  let p := x.1
  let flags := b2n x.2 + 2 * b2n (decide (p.width > 3)) + 4 * b2n (bestBeam l p) + 8 * b2n o.tainted +
    16 * b2n o.partialPaths + 32 * b2n (!noOffset c.format)
  s.eventAt o.start 0x0024 0x0401 ([o.config, p.fdm, p.beam, p.preamble] ++ bytesLE 2 p.delay ++ bytesLE 2 (ux 16 p.power) ++
    bytesLE 2 p.metric ++ bytesLE 4 (if noOffset c.format then 0 else ux 32 p.offset) ++ [flags, o.time])

/-- OCCASION_END (R150 to R154): the peaks at or above the threshold on beams not skipped, then the summary. -/
def execOccasionEnd (config time : Nat) (peaks : List AcdPeak) (s : State) : Res :=
  .next (match s.beam.occasions.find? fun o => o.config == config && o.time == time && o.processing with
    | none => s
    | some o =>
      let s := { s with beam := { s.beam with occasions := s.beam.occasions.erase o } }.showOccasions
      match o.aborted, s.beam.acd.get? config with
      | false, some c =>
        let l := (peaks.filter fun p => decide (c.thresh ≤ p.metric) && !bit o.skipped p.beam).foldl mergePeak []
        let s := s.each l fun s x => s.detection o c l x
        let s := (s.add64 Reg.ACD_DET_CNT l.length).add64 Reg.ACD_OCC_CNT 1
        s.occasionSummary o l.length false
      | _, _ => (s.setF Reg.ACD_STAT_ABORTED).occasionSummary o 0 true)

/-! ## Frequency offset (R155, R156) -/

/-- The checks of `FO_REPORT` at fetch (R155, R158). -/
def foFields (s : State) (h : Hdr) (c : FoCmd) : Option Nat :=
  rangeUnless [decide (c.entry < 32), decide (h.effTick % s.tps = 0),
    !c.enable || decide (c.carrier < 8 ∧ 0 < c.layerMask ∧ c.l1 < c.l2 ∧ c.l2 < s.tps ∧ 1 ≤ c.prbCount ∧ c.dmrs < 4 ∧ 1 ≤ c.slotPeriod ∧
      c.slotOffset < c.slotPeriod)]

/-- The check of `FO_REPORT` at tick e − 2: the PRB range lies within the receive carrier. -/
def foCfg (s : State) (c : FoCmd) : Option Nat :=
  let wide := (s.rx.carriers.filter fun e => e.1 % 8 == c.carrier).map fun e => e.2.nprb
  rangeUnless [!c.enable || (!wide.isEmpty && wide.all fun w => decide (c.prbFirst + c.prbCount ≤ w))]

/-- The effect of `FO_REPORT` at its effective tick. -/
def State.applyFo (s : State) (h : Hdr) (c : FoCmd) : State :=
  { s with beam := { s.beam with fo := s.beam.fo.put c.entry (if c.enable then some c else none) } }.complete h 0x45 St.done

/-- FO_REPORT (R155, R158). -/
def execFoReport (h : Hdr) (c : FoCmd) (s : State) : Res :=
  .next (s.acceptTimed h 0x45 (.foReport c) (foFields s h c) true)

/-- The slot of a carrier's numerology in progress. -/
def State.slotOfCarrier (s : State) (dir c : Nat) : Nat :=
  match s.setCarrier dir c with
  | some (num, _) => s.tick / s.slotTicks num
  | none => s.tick / s.tps

/-- FO_MEASUREMENT (R155, R156): the offset of one layer in Hz, clamped to half the spacing. -/
def execFoMeasurement (entry layer : Nat) (offset power : Int) (snr : Nat) (tainted : Bool) (s : State) : Res :=
  .next (match s.beam.fo.get? entry with
    | none => s
    | some c =>
      if !bit c.layerMask layer then s
      else
        let half : Int := match s.setCarrier 1 c.carrier with
          | some (num, _) => scsKhz num * 500
          | none => 7500
        let f := if offset > half then half else if offset < -half then -half else offset
        s.event 0x0024 0x0403 ([entry, layer] ++ bytesLE 2 (ux 10 s.frame) ++ [s.slotOfCarrier 1 c.carrier, b2n tainted] ++
          bytesLE 2 (ux 16 power) ++ bytesLE 4 (ux 32 f) ++ bytesLE 2 (min snr 65535)))

end Sys2Proof.Machine
end

