-- ==== Sys2Proof/Machine/Radio.lean ====
section
/-! DEFINITION. Radio control (R174 to R191): synthesisers, slot patterns and guard times, strobe edges, coexistence, RFFE,
and the aerial mismatch and tuner search. -/
namespace Sys2Proof.Machine
open Sys2Proof

/-! ## Synthesisers (R174, R175) -/

/-- Begin a calibration of both synthesisers (R175): neither is ready until it ends. Cause as event 0x0521 numbers it. -/
def State.startSynthCal (s : State) (cause : Nat) (hdrs : List Hdr) : State :=
  let s := { s with rct := { s.rct with synth := some ⟨cause, s.now, hdrs⟩, driftSince := none } }
  let s := (s.put Reg.CLK_SYN_STAT_CAL_BUSY 1).put Reg.CLK_SYN_STAT_SYNTH_OK 0
  (s.put Reg.CLK_SYN_STAT_TX_LOCK 0).put Reg.CLK_SYN_STAT_RX_LOCK 0

/-- SYN_RECAL (R175, R191). -/
def execSynRecal (h : Hdr) (s : State) : Host.Outcome State Fault Refusal :=
  .next (s.acceptTimed h 0x55 .synRecal none true)

/-- The effect of `SYN_RECAL` at its effective tick: NOT_READY without a reference; it joins a calibration that runs. -/
def State.applySynRecal (s : State) (h : Hdr) : State :=
  if !s.on Reg.DEV_BOOT_STAT_REF_OK then s.complete h 0x55 St.notReady
  else match s.rct.synth with
    | some c => { s with rct := { s.rct with synth := some { c with hdrs := c.hdrs ++ [h] } } }
    | none => s.startSynthCal 0 [h]

/-- A synthesiser loses lock (R174, R175): `SYNTH_OK` falls, and recalibration starts where the reference is good. -/
def State.synthLost (s : State) (which : Nat) : State :=
  let s := s.when (which ≠ 1) fun s => s.put Reg.CLK_SYN_STAT_TX_LOCK 0
  let s := s.when (which ≠ 0) fun s => s.put Reg.CLK_SYN_STAT_RX_LOCK 0
  let s := (s.put Reg.CLK_SYN_STAT_SYNTH_OK 0).setF Reg.CLK_SYN_STAT_LOST
  let s := { s with rx := { s.rx with grid := none } }
  let s := s.put Reg.TIM_SYNC_STAT_SYNCED 0
  let s := s.event 0x0002 0x0521 [0, which, 0, 0, 2]
  if s.on Reg.DEV_BOOT_STAT_REF_OK && s.rct.synth.isNone then s.startSynthCal 2 [] else s

/-- SYNTH_LOCK_LOST (R174, R175): 0 transmit, 1 receive, 2 both. -/
def execSynthLockLost (which : Nat) (s : State) : Host.Outcome State Fault Refusal := .next (s.synthLost which)

/-- SYNTH_CALIBRATION_DONE (R175): both synthesisers are locked and calibrated; the commands that waited complete; the device
synchronises its decimators once at the next reference edge (R106). At boot this is step 10, after which the boot tile calibrates
(R433). -/
def execSynthCalibrationDone (calUs : Nat) (s : State) : Host.Outcome State Fault Refusal :=
  .next (match s.rct.synth with
    | none => s
    | some c =>
      let s := { s with rct := { s.rct with synth := none, calTemp := s.junction } }
      let s := ((s.put Reg.CLK_SYN_STAT_CAL_BUSY 0).put Reg.CLK_SYN_STAT_TX_LOCK 1).put Reg.CLK_SYN_STAT_RX_LOCK 1
      let s := s.setF Reg.CLK_SYN_STAT_SYNTH_OK
      let s := s.put Reg.CLK_SYN_STAT_RECALS (s.get Reg.CLK_SYN_STAT_RECALS + 1)
      let own : PendingSync := ⟨refEdgeAfter s.now, 2, none, false⟩
      let s := { s with rx := { s.rx with grid := none, syncs := s.rx.syncs ++ [own] } }
      let s := s.put Reg.TIM_SYNC_STAT_SYNCED 0
      let kind := if c.cause = 0 || c.cause = 1 then 2 else 1
      let s := s.event 0x0002 0x0521 ([kind, 2] ++ bytesLE 2 (min calUs 65535) ++ [c.cause])
      let s := s.each c.hdrs fun s h => s.complete h 0x55 St.done
      if s.boot.step = 9 then
        let s := (s.put Reg.DEV_TICK_STAT_MIN_MARGIN 0xFFFF).milestone 10 0xFF
        { s with boot := { s.boot with cal := some ⟨s.boot.bootTile, s.now, false⟩ } }
      else s)

/-! ## Slot patterns (R181 to R183) -/

/-- The code of a pattern at tick `t` from the first tick of an even frame: 0 F, 1 D, 2 U. -/
def Pattern.codeAt (p : Pattern) (tps t : Nat) : Nat := nth p.codes (t % (p.period * tps))

/-- A pattern: F in every tick until one is loaded (R181). -/
def State.pattern (s : State) (p : Nat) : Pattern := s.rct.patterns.getD p ⟨1, []⟩

/-- The pattern a tile follows. -/
def State.boundPattern (s : State) (n : Nat) : Nat := s.rct.bound.getD n 0

/-- Ticks since the first tick of the last even frame. -/
def evenTick (tpf : Nat) (abs : Int) : Nat := (abs % (2 * tpf : Int)).toNat

/-- The code of a tile's pattern at a tick number over all frames. -/
def State.codeOf (s : State) (n : Nat) (abs : Int) : Nat :=
  (s.pattern (s.boundPattern n)).codeAt s.tps (evenTick s.tpf abs)

/-- Length in ns of tick k of a frame. -/
def State.tickLen (s : State) (k : Nat) : Nat :=
  (if k + 1 = s.tpf then 10 ^ 7 else tickOffNs s.arch.mu s.arch.ecp (k + 1)) - tickOffNs s.arch.mu s.arch.ecp k

/-- The word of `RCT_TILE_n_TIMING` in force. -/
def State.timingWord (s : State) (n : Nat) : Nat := s.rct.timing.getD n 0x82143214

/-- T_SW, T_PA, T_PAOFF and `UD_GAP` of a timing word, in ns. -/
def timeSw (w : Nat) : Nat := bits w 0 8 * 10
def timePa (w : Nat) : Nat := bits w 8 8 * 10
def timePaOff (w : Nat) : Nat := bits w 16 8 * 10
def timeUdGap (w : Nat) : Nat := bits w 24 8 * 100

/-- One tick of the guard check of R183: the last active code, the guard time since, and whether every change so far has
enough of it. -/
def guardStep (w : Nat) (a : Nat × Nat × Bool) (code len : Nat) : Nat × Nat × Bool :=
  let (last, gap, ok) := a
  if code = 1 then (1, 0, ok && (last != 2 || decide (gap + timeUdGap w ≥ timePa w + timeSw w)))
  else if code = 2 then (2, 0, ok && (last != 1 || decide (gap ≥ timePaOff w + 2 * timeSw w)))
  else (last, gap + len, ok)

/-- Whether a pattern has its guard times under a timing word (R183), over two turns of its 20 ms. -/
def State.guardsOk (s : State) (p : Pattern) (w : Nat) : Bool :=
  ((List.range (4 * s.tpf)).foldl
    (fun a t => guardStep w a (p.codeAt s.tps (t % (2 * s.tpf))) (s.tickLen (t % s.tpf))) (0, 0, true)).2.2

/-- D time in ns of one frame of a pattern's 20 ms. -/
def State.patternDuty (s : State) (p : Pattern) (odd : Nat) : Nat :=
  sumL ((List.range s.tpf).map fun t => if p.codeAt s.tps (odd * s.tpf + t) = 1 then s.tickLen t else 0)

/-- Levee's check of a pattern's duty (R169): any duty passes while no limits are in force. -/
def State.dutyOk (s : State) (p : Pattern) : Bool :=
  !s.txAllowed || (decide (s.patternDuty p 0 ≤ s.dutyNs) && decide (s.patternDuty p 1 ≤ s.dutyNs))

/-- The checks of `RCT_PATTERN` at fetch (R181, R191): the effective tick is the first of an even frame. -/
def rctPatternFields (s : State) (h : Hdr) (pattern tileMask period addr : Nat) : Option Nat :=
  firstFail [(decide (pattern < 4 ∧ tileMask < 256 ∧ 0 < period), St.range),
    (decide (20 * 2 ^ s.arch.mu % period = 0), St.range),
    (decide (h.effTick = 0) && decide (s.fullFrame h.effFrame % 2 = 0), St.range), (addr % 8 == 0, St.misaligned)]

/-- The codes of a pattern, packed from bit 0 of byte 0 in tick order (R191). -/
def State.fetchCodes (s : State) (period addr : Nat) : List Nat :=
  let n := period * s.tps
  let w := natLE (s.hostRead addr (ceilDiv (2 * n) 8))
  (List.range n).map fun t => bits w (2 * t) 2

/-- The tiles that would follow pattern `p`: those of the mask and those bound to it. -/
def State.followers (s : State) (p mask : Nat) : List Nat :=
  (List.range 8).filter fun n => bit mask n || s.boundPattern n == p

/-- The checks of `RCT_PATTERN` at tick e − 2 (R169, R181, R183). -/
def rctPatternCfg (s : State) (pattern tileMask period : Nat) (codes : List Nat) : Option Nat :=
  let p : Pattern := ⟨period, codes⟩
  firstFail [(codes.all fun c => decide (c < 3), St.range),
    ((s.followers pattern tileMask).all fun n => s.guardsOk p (s.timingWord n), St.range),
    ((s.followers pattern tileMask).isEmpty || s.dutyOk p, St.refusedLevee)]

/-- The patterns and their tiles after the command (R191). -/
def State.patternPlan (s : State) (pattern tileMask period : Nat) (codes : List Nat) : State :=
  let s := { s with rct := { s.rct with patterns := s.rct.patterns.set pattern ⟨period, codes⟩ } }
  s.each (maskList tileMask 8) fun s n =>
    ({ s with rct := { s.rct with bound := s.rct.bound.set n pattern, binding := s.rct.binding.del n } }).put
      (Reg.RCT_TILE_CFG_PATTERN n) pattern

/-- The effect of `RCT_PATTERN` at its effective tick: loaded, and taken by the tiles of the mask (R191, R553). -/
def State.applyRctPattern (s : State) (h : Hdr) (pattern tileMask period : Nat) (codes : List Nat) : State :=
  let s := s.patternPlan pattern tileMask period codes
  let s := s.each (s.followers pattern tileMask) fun s n => s.withhold n 0x05
  s.complete h 0x52 St.done

/-- RCT_PATTERN (R181, R183, R191): its codes are read from host memory at fetch. -/
def execRctPattern (h : Hdr) (pattern tileMask period addr : Nat) (s : State) : Host.Outcome State Fault Refusal :=
  .next (s.acceptTimedK h 0x52 (rctPatternFields s h pattern tileMask period addr) fun s =>
    s.hold h (.rctPattern pattern tileMask period addr (s.fetchCodes period addr)) true)

/-- Whether the tick in progress is the first of an even frame (R181, R183). -/
def State.atEvenFrame (s : State) : Bool := s.atFrame && decide (s.frame % 2 = 0)

/-- PATTERN_BIND (R181): a `PATTERN` written since takes effect at the next even frame. -/
def execPatternBind (tile : Nat) (s : State) : Host.Outcome State Fault Refusal :=
  .next (match s.rct.binding.get? tile with
    | none => s
    | some p =>
      if s.atEvenFrame then
        { s with rct := { s.rct with bound := s.rct.bound.set tile p, binding := s.rct.binding.del tile } }.withhold tile 5
      else s)

/-- TIMING_APPLY (R183): a timing word written since takes effect at the next even frame. -/
def execTimingApply (tile : Nat) (s : State) : Host.Outcome State Fault Refusal :=
  .next (match s.rct.timingNext.get? tile with
    | none => s
    | some w =>
      if s.atEvenFrame then
        { s with rct := { s.rct with timing := s.rct.timing.set tile w, timingNext := s.rct.timingNext.del tile } }
      else s)

/-- The ticks from tick `a` on whose start lies within `ns` of now. -/
def State.ticksWithin (s : State) (ns : Nat) : List Int :=
  ((List.range (ns / s.shortest + 2)).map fun i => s.absTick + (i : Nat)).filter fun t =>
    decide (s.tickStart t < s.airNs + ns)

/-- Whether no tile is in TX or RX by its pattern for the next 1 ms (R175): tiles in OFF or PROTECT are left out. -/
def State.gapNow (s : State) : Bool :=
  (List.range 8).all fun n =>
    s.tileState n == 0 || s.tileState n == 4 || (s.ticksWithin 1000000).all fun t => s.codeOf n t == 0

/-- DRIFT_RECALIBRATION (R175): in the first gap of at least 1 ms, or at a slot boundary once `GAP_WAIT` has passed. -/
def execDriftRecalibration (s : State) : Host.Outcome State Fault Refusal :=
  .next (match s.rct.driftSince with
    | none => s
    | some t =>
      if s.rct.synth.isSome || !s.on Reg.DEV_BOOT_STAT_REF_OK then s
      else if s.gapNow || (s.due (t + s.get Reg.CLK_SYN_CTL_GAP_WAIT * 1000000000) && s.atSlot) then s.startSynthCal 1 []
      else s)

/-! ## PROTECT (R179, R180) -/

/-- PROTECT_HOLD_EXPIRY (R179): at a slot boundary, once every cause has been gone for `PROT_HOLD` ms, unless latched. -/
def execProtectHoldExpiry (tile : Nat) (s : State) : Host.Outcome State Fault Refusal :=
  .next (match (s.protect tile).goneAt with
    | none => s
    | some t =>
      if s.tileState tile = 4 && !s.on (Reg.RCT_TILE_STATE_LATCHED tile) && s.atSlot &&
          s.due (t + s.get (Reg.RCT_TILE_CFG_PROT_HOLD tile) * 1000000) then s.leaveProtect tile 3
      else s)

/-! ## Coexistence (R184 to R186) -/

/-- A pair with both pins inactive. -/
def CoexPair.initial : CoexPair := ⟨false, false, 0, false⟩

/-- The pins of a pair. -/
def State.coex (s : State) (k : Nat) : CoexPair := s.rct.coex.getD k CoexPair.initial

/-- Change a pair. -/
def State.modCoex (s : State) (k : Nat) (f : CoexPair → CoexPair) : State :=
  { s with rct := { s.rct with coex := s.rct.coex.set k (f (s.coex k)) } }

/-- Whether a pair is in use, is an arbiter, and governs a tile. -/
def State.coexOn (s : State) (k : Nat) : Bool := s.on (Reg.RCT_COEX_CFG_EN k)
def State.coexArbiter (s : State) (k : Nat) : Bool := s.on (Reg.RCT_COEX_CFG_ROLE k)
def State.coexTiles (s : State) (k : Nat) : List Nat := maskList (s.get (Reg.RCT_COEX_CFG_TILE_MASK k)) 8

/-- Whether a tile lacks a grant it needs (R185), or must yield to one it gave (R186). -/
def State.coexBlocks (s : State) (n : Nat) : Bool :=
  (List.range 2).any fun k =>
    s.coexOn k && (s.coexTiles k).contains n &&
      (if s.coexArbiter k then s.on (Reg.RCT_COEX_CFG_YIELD k) && (s.coex k).gnt else !(s.coex k).gnt)

/-- Whether a masked tile will reach step 1 of a burst within `ns` from now, or is in TX (R186). -/
def State.burstWithin (s : State) (k ns : Nat) : Bool :=
  (s.coexTiles k).any fun n =>
    s.tileState n == 3 ||
      (s.tileState n != 0 && s.tileState n != 4 &&
        let lead := timePa (s.timingWord n) + timeSw (s.timingWord n)
        ((s.ticksWithin (ns + lead)).drop 1).any fun t => s.codeOf n t == 1)

/-- COEX_GNT_CHANGE (R185): the grant a requester reads. Withdrawn in a burst, the masked tiles' output is zero and the rest of
the burst is blanked; returned, it lets a later burst start. -/
def execCoexGntChange (pair : Nat) (granted : Bool) (s : State) : Host.Outcome State Fault Refusal :=
  .next (if !s.coexOn pair || s.coexArbiter pair || (s.coex pair).gnt = granted then s
    else
      let tiles := s.coexTiles pair
      let s := s.modCoex pair fun c => { c with gnt := granted }
      if granted then s.each tiles fun s n => s.withhold n 0x04
      else
        let cut := tiles.filter fun n => s.tileState n == 3
        let s := s.modCoex pair fun c => { c with withdrawn := c.withdrawn || !cut.isEmpty, blanked := c.blanked + cut.length }
        s.each cut fun s n => (s.setTileState n 1 0).countBlank n 0x04)

/-- COEX_REQ_CHANGE (R186): the request an arbiter reads. It is granted where no masked tile is in TX or within `GUARD` of its
step 1; released, the grant ends. -/
def execCoexReqChange (pair : Nat) (requested : Bool) (s : State) : Host.Outcome State Fault Refusal :=
  .next (if !s.coexOn pair || !s.coexArbiter pair then s
    else if requested then
      let ok := !s.burstWithin pair (s.get (Reg.RCT_COEX_CFG_GUARD pair) * 1000)
      s.modCoex pair fun c => { c with req := true, gnt := c.gnt || ok }
    else
      let held := (s.coex pair).gnt
      let s := s.modCoex pair fun c => { c with req := false, gnt := false }
      if held && s.on (Reg.RCT_COEX_CFG_YIELD pair) then s.each (s.coexTiles pair) fun s n => s.withhold n 0x04 else s)

/-- The pins of a pair at a tick: a requester asserts REQ `LEAD` µs before a burst and releases it when none runs or is that
near (R185); an arbiter releases GNT `GUARD` µs before its own burst unless it yields, and grants a waiting request (R186). -/
def State.coexTick (s : State) (k : Nat) : State :=
  if !s.coexOn k then s
  else if s.coexArbiter k then
    let near := s.burstWithin k (s.get (Reg.RCT_COEX_CFG_GUARD k) * 1000 + s.shortest)
    s.modCoex k fun c =>
      if near then { c with gnt := c.gnt && s.on (Reg.RCT_COEX_CFG_YIELD k) } else { c with gnt := c.gnt || c.req }
  else
    let near := s.burstWithin k (s.get (Reg.RCT_COEX_CFG_LEAD k) * 1000 + s.shortest)
    s.modCoex k fun c => { c with req := near || (c.req && (s.coexTiles k).any fun n => (s.strobes n).trsw) }

/-- The end of a burst that coexistence cut (R192): record 0x0514 with the tile-symbols blanked. -/
def State.coexBurstEnd (s : State) (k : Nat) (abs : Int) : State :=
  let c := s.coex k
  if c.blanked = 0 || (s.coexTiles k).any (fun n => s.codeOf n abs == 1) then s
  else
    let s := s.modCoex k fun c => { c with blanked := 0, withdrawn := false }
    s.event 0x0039 0x0514 ([k, if c.withdrawn then 0 else 1, s.get (Reg.RCT_COEX_CFG_TILE_MASK k), 0] ++
      bytesLE 4 (c.blanked % 2 ^ 32))

/-! ## RFFE (R187, R188, R191) -/

/-- The checks of `RFFE_XFER` on its fields. -/
def rffeFields (h : Hdr) (c : RffeCmd) : Option Nat :=
  firstFail [(decide (c.tile < 8 ∧ 1 ≤ c.nops ∧ c.nops ≤ 4 ∧ c.timing ≤ 2) && (h.timed == decide (c.timing ≥ 1)), St.range),
    ((c.ops.take c.nops).all fun o => decide (o.kind ≤ 7 ∧ 1 ≤ o.count ∧ o.count ≤ 4), St.range),
    (c.result % 8 == 0, St.misaligned)]

/-- Bus time of a transfer in ns at the tile's divider. -/
def State.rffeBus (s : State) (c : RffeCmd) : Nat :=
  Config.rffeBusNs ((c.ops.take c.nops).map fun o => (o.kind, o.count, o.addr)) (s.get (Reg.RCT_TILE_CFG_SCLK_DIV c.tile))

/-- Put a transfer on a tile's bus queue. -/
def State.rffePut (s : State) (j : RffeJob) : State :=
  { s with rct := { s.rct with rffe := s.rct.rffe.set j.cmd.tile (s.rct.rffe.getD j.cmd.tile [] ++ [j]) } }

/-- The effect of a timed `RFFE_XFER` at its effective tick: with `TIMING` = 1 its last cycle ends there, with 2 it waits for
a step 5 (R188). -/
def State.applyRffe (s : State) (h : Hdr) (c : RffeCmd) : State := s.rffePut ⟨h, c, c.timing == 2⟩

/-- RFFE_XFER (R187, R188, R191): one whose bus time exceeds the time to its tick completes LATE. -/
def execRffeXfer (h : Hdr) (c : RffeCmd) (s : State) : Host.Outcome State Fault Refusal :=
  .next (if c.timing = 0 then s.acceptNow h 0x54 (rffeFields h c) fun s => s.rffePut ⟨h, c, false⟩
    else s.acceptTimedK h 0x54 (rffeFields h c) fun s =>
      if c.timing = 1 && decide (s.tickStart (s.effAbs h) < s.airNs + s.rffeBus c) then
        s.completeR h 0x54 St.late s.lateResult
      else s.hold h (.rffeXfer c) true)

/-- RFFE_TRANSFER_DONE (R187, R191): the oldest transfer on the bus ends: results of 8 bytes an operation are written, and a
second failed read ends it BUS_ERROR without the operations after it. -/
def execRffeTransferDone (tile : Nat) (results : List Nat) (failed : Option Nat) (s : State) :
    Host.Outcome State Fault Refusal :=
  .next (match (s.rct.rffe.getD tile []).find? fun j => !j.waitsStep5 with
    | none => s
    | some j =>
      let rest := (s.rct.rffe.getD tile []).erase j
      let s := { s with rct := { s.rct with rffe := s.rct.rffe.set tile rest } }
      match failed with
      | some i =>
        let usid := (j.cmd.ops.getD i ⟨0, 0, 0, 0, 0⟩).usid
        let s := s.hostWrite j.cmd.result (fit (8 * i) results)
        (s.event 0x0039 0x0515 [tile, usid, i, St.busError]).complete j.hdr 0x54 St.busError
      | none => (s.hostWrite j.cmd.result (fit (8 * j.cmd.nops) results)).complete j.hdr 0x54 St.done)

/-- A step 5 of R182 lets the transfers that waited for it run (R188). -/
def State.rffeStep5 (s : State) (n : Nat) : State :=
  let l := (s.rct.rffe.getD n []).map fun j => { j with waitsStep5 := false }
  if l.isEmpty then s else { s with rct := { s.rct with rffe := s.rct.rffe.set n l } }

/-! ## Strobe edges (R182) -/

/-- STROBE_EDGE (R182, R185): a step of a transmit burst on a tile that follows its pattern. Step 1 samples the coexistence
grant; without it the burst does not start. -/
def execStrobeEdge (tile step : Nat) (s : State) : Host.Outcome State Fault Refusal :=
  .next (if s.tileState tile = 0 || s.tileState tile = 4 then s
    else if step = 1 then
      if s.coexBlocks tile || !s.txAllowed then s else s.modStrobes tile fun t => { t with lnaProt := true, trsw := true }
    else if step = 2 then
      if (s.strobes tile).trsw && !s.coexBlocks tile then s.modStrobes tile fun t => { t with pa := s.ableMask tile } else s
    else if step = 5 then (s.modStrobes tile fun t => { t with pa := 0 }).rffeStep5 tile
    else if step = 6 then s.modStrobes tile fun t => { t with trsw := false }
    else if step = 7 then
      if s.codeOf tile (s.absTick + 1) = 2 || s.codeOf tile s.absTick = 2 then
        s.modStrobes tile fun t => { t with lnaProt := false }
      else s
    else s)

/-! ## Mismatch and tuner search (R189, R190) -/

/-- Start a search on the lowest path of a mask (R190): from the codes in use, with step 32. -/
def State.startSearch (s : State) (tile mask rl : Nat) : State :=
  match maskList mask 8 with
  | [] => s
  | p :: _ =>
    let c := s.rct.codes.getD (8 * tile + p) (0, 0)
    { s with rct := { s.rct with search := s.rct.search.set tile ⟨p, c.1, c.2, rl, 32, 0, false, 0, putBit mask p false⟩ } }

/-- Guard a path or lift its guard (R189): a guarded path's `PA_EN` is released. -/
def State.guardPath (s : State) (p : Nat) (on : Bool) : State :=
  let f := Reg.RCT_TILE_STATE_GUARDED (p / 8)
  let s := s.put f (putBit (s.get f) (p % 8) on)
  if on then s.paOff p else s.withhold (p / 8) 0x03

/-- Return loss in the units of a record's byte, 0.25 dB, from 0.01 dB. -/
def rlByte (rl : Int) : Nat := if rl < 0 then 0 else min (rl / 25).toNat 255

/-- AERIAL (R189 to R191): NOT_READY while a search runs on the tile. -/
def execAerial (h : Hdr) (tile pathMask : Nat) (search clear : Bool) (s : State) : Host.Outcome State Fault Refusal :=
  let usids := (maskList pathMask 8).all fun p => decide (s.get (Reg.RCT_TILE_TUNE_USID0 tile) + p ≤ 15)
  .next (s.acceptNow h 0x56
    (firstFail [(decide (tile < 8 ∧ 0 < pathMask ∧ pathMask < 256) && (!search || usids), St.range),
      (!s.rct.search.has tile, St.notReady)]) fun s =>
    let s := s.when clear fun s =>
      s.each ((tilePaths tile pathMask).filter s.guarded) fun s p =>
        (s.guardPath p false).event 0x0039 0x0512 [tile, p % 8, 2, 0]
    let s := s.when search fun s => s.startSearch tile pathMask 0
    s.complete h 0x56 St.done)

/-- MISMATCH_PAIR (R189): a forward and reflected power of a path in 0.01 dBm. Two pairs in a row below `RL_WARN` warn and may
start a search; three below `RL_GUARD` guard the path. -/
def execMismatchPair (path : Nat) (fwd ref : Int) (s : State) : Host.Outcome State Fault Refusal :=
  let n := path / 8
  let rl := fwd - ref
  let old := s.rct.mismatch.getD path ⟨0, 0⟩
  let warn := if rl < s.get Reg.RCT_AER_CFG_RL_WARN * 25 then old.warn + 1 else 0
  let grd := if rl < s.get Reg.RCT_AER_CFG_RL_GUARD * 25 then old.guard + 1 else 0
  let s1 := { s with rct := { s.rct with mismatch := s.rct.mismatch.set path ⟨warn, grd⟩ } }
  let s2 := if warn = 2 then
      let t := s1.event 0x0039 0x0512 [n, path % 8, 0, rlByte rl]
      if t.on (Reg.RCT_TILE_TUNE_TUNE_EN n) && !t.rct.search.has n &&
          decide (t.get (Reg.RCT_TILE_TUNE_USID0 n) + path % 8 ≤ 15) then
        t.startSearch n (2 ^ (path % 8)) (rlByte rl)
      else t
    else s1
  .next (if grd ≥ 3 && !s2.guarded path then
      (s2.guardPath path true).event 0x0039 0x0512 [n, path % 8, 1, rlByte rl]
    else s2)

/-- The codes a move of the search tries (R190): A ± step, then B ± step, kept within a byte. -/
def Search.trial (q : Search) : Nat × Nat :=
  if q.move = 0 then (min (q.codeA + q.step) 255, q.codeB)
  else if q.move = 1 then (q.codeA - q.step, q.codeB)
  else if q.move = 2 then (q.codeA, min (q.codeB + q.step) 255)
  else (q.codeA, q.codeB - q.step)

/-- The search after a trial that read `rl` (R190): a move that raises RL is kept; after the last move of a round without gain
the step is halved. -/
def Search.next (q : Search) (rl moves : Nat) : Search :=
  let c := q.trial
  let q := if rl > q.rl then { q with codeA := c.1, codeB := c.2, rl := rl, moved := true } else q
  let q := { q with trials := q.trials + 1, move := q.move + 1 }
  if q.move < moves then q
  else { q with move := 0, moved := false, step := if q.moved then q.step else q.step / 2 }

/-- TUNER_TRIAL (R190): the measurement of the trial written at the last step 5; a blanked burst repeats it and does not
count. -/
def execTunerTrial (tile rl : Nat) (blanked : Bool) (s : State) : Host.Outcome State Fault Refusal :=
  .next (match s.rct.search.get? tile with
    | none => s
    | some q =>
      if blanked then s
      else
        let moves := if s.get (Reg.RCT_TILE_TUNE_REG_B tile) = 0 then 2 else 4
        let q := q.next rl moves
        let why := if q.rl ≥ s.get Reg.RCT_AER_CFG_RL_TARGET then some 0
          else if q.step = 0 then some 1 else if q.trials ≥ 64 then some 2 else none
        match why with
        | none => { s with rct := { s.rct with search := s.rct.search.set tile q } }
        | some e =>
          let path := 8 * tile + q.path
          let codes := s.rct.codes.set path (q.codeA, q.codeB)
          let s := { s with rct := { s.rct with search := s.rct.search.del tile, codes := codes } }
          let s := s.event 0x0039 0x0513 [tile, q.path, q.trials, q.rl, q.codeA, q.codeB, e]
          let s := if s.guarded path && decide (q.rl ≥ s.get Reg.RCT_AER_CFG_RL_GUARD + 4) then
              (s.guardPath path false).event 0x0039 0x0512 [tile, q.path, 2, q.rl] else s
          s.startSearch tile q.more 0)

end Sys2Proof.Machine
end

