-- ==== Sys2Proof/Machine/Clock.lean ====
section
/-! DEFINITION. The clock's shared operations: time ports, the election of a root (R309 to R313), the choice of a source and the
states of the clock (R301 to R303), and the epoch (R314). -/
namespace Sys2Proof.Machine
open Sys2Proof

/-! ## Time ports -/

/-- A time port before it joins. -/
def TimePort.initial : TimePort := ⟨false, [], [], none, none, 0, 0, false⟩

/-- The kept state of a time port: 0 EAST, 1 WEST, 2 PREV, 3 NEXT (R304). -/
def State.timePort (s : State) (k : Nat) : TimePort := s.tim.ports.getD k TimePort.initial
def State.modTimePort (s : State) (k : Nat) (f : TimePort → TimePort) : State :=
  { s with tim := { s.tim with ports := s.tim.ports.set k (f (s.timePort k)) } }

/-- Whether the device takes part in the overlay and its election: `OVL_EN`, and a valid identity record (R303, R308). -/
def State.overlayOn (s : State) : Bool := s.on Reg.TIM_CTL_OVL_EN && !s.on Reg.TIM_ROOT_NO_ID

/-- The device ID of the identity record in force (R308); 0 without a record. -/
def State.deviceId (s : State) : Nat := s.get Reg.SEA_STAT_DEVICE_ID

/-- Whether every tile is OFF and no cooperative set is enabled (R295, R301). -/
def State.radioQuiet (s : State) : Bool := (List.range 8).all (fun n => s.tileState n == 0) && s.fh.sets.isEmpty

/-! ## The clock's state and source -/

/-- Raise a clock record (R320). -/
def State.clockRecord (s : State) (old new slewMs : Nat) : State :=
  s.event 0x0003 0x0901 ([old, new, s.get Reg.TIM_STAT_SOURCE, 0] ++ bytesLE 8 (ux 64 s.tim.offset) ++ bytesLE 4 slewMs)

/-- Move the clock to a state (R302): HOLDOVER holds y at its mean. -/
def State.clockTo (s : State) (new : Nat) : State :=
  let old := s.get Reg.TIM_STAT_CLK_STATE
  if old = new then s
  else
    let s := s.put Reg.TIM_STAT_CLK_STATE new
    let s := if new = 3 then { s with tim := { s.tim with holdSince := s.now, y := s.tim.yMean } } else s
    let s := if new = 1 then { s with tim := { s.tim with within := none } } else s
    s.clockRecord old new 0

/-- Whether PTP is enabled on a line port. -/
def State.ptpOn (s : State) (k : Nat) : Bool := s.on (if k = 0 then Reg.TIM_CTL_PTP_EAST else Reg.TIM_CTL_PTP_WEST)

/-- A PTP instance that has heard nothing. -/
def PtpPort.initial : PtpPort := ⟨none, 0, 0, none, 0, none, 0, 0, none, 0, 0, 0⟩

/-- The kept state of a PTP instance. -/
def State.ptp (s : State) (k : Nat) : PtpPort := s.tim.ptp.getD k PtpPort.initial
def State.modPtp (s : State) (k : Nat) (f : PtpPort → PtpPort) : State :=
  { s with tim := { s.tim with ptp := s.tim.ptp.set k (f (s.ptp k)) } }

/-- Whether one list of numbers comes before another. PRESUMED: the order of G.8275.1's alternate BMCA is the list's. -/
def lexLess : List Nat → List Nat → Bool
  | a :: as, b :: bs => decide (a < b) || (a == b && lexLess as bs)
  | _, _ => false

/-- What the alternate BMCA compares of a port's source, best first. PRESUMED from G.8275.1, which R296 names. -/
def State.bmcaKey (s : State) (k : Nat) (a : AnnounceIn) : List Nat :=
  [a.clockClass, a.accuracy, a.variance, a.priority2, s.get (if k = 0 then Reg.TIM_CTL_LPRIO_EAST else Reg.TIM_CTL_LPRIO_WEST),
    a.gmId, a.steps, k]

/-- The PTP port the device would follow: the best of those whose source is valid (R296, R303). -/
def State.bestPtp (s : State) : Option Nat :=
  let ports := [0, 1].filterMap fun k =>
    match (s.ptp k).announce with
    | some a => if s.ptpOn k && (s.ptp k).validSince.isSome then some (k, s.bmcaKey k a) else none
    | none => none
  (ports.foldl (fun (m : Option (Nat × List Nat)) e =>
    match m with
    | none => some e
    | some b => if lexLess e.2 b.2 then some e else m) none).map Prod.fst

/-- Whether `PPS_IN` is enabled and valid (R299). -/
def State.ppsValid (s : State) : Bool := s.on Reg.TIM_CTL_PPS_EN && s.tim.ppsSince.isSome

/-- Since when an external source has been valid. -/
def State.extSince (s : State) : List Nat :=
  (if s.on Reg.TIM_CTL_PPS_EN then s.tim.ppsSince.toList else []) ++
    ([0, 1].flatMap fun k => if s.ptpOn k then (s.ptp k).validSince.toList else [])

/-- Whether the device has external time (R303): an enabled source valid for 16 s. -/
def State.extTime (s : State) : Bool := s.extSince.any fun t => s.due (t + 16000000000)

/-- The source the rules choose (R303): 0 none, 1 PTP, 2 `PPS_IN`, 3 overlay. -/
def State.sourceOf (s : State) : Nat :=
  if s.overlayOn && !s.on Reg.TIM_STAT_ROOT then (if s.tim.parent.isSome then 3 else 0)
  else if s.ppsValid then 2
  else if s.bestPtp.isSome then 1 else 0

/-- Choose the source again (R302, R303): losing it after lock is HOLDOVER, gaining one starts ACQUIRING. -/
def State.chooseSource (s : State) : State :=
  let src := s.sourceOf
  let st := s.get Reg.TIM_STAT_CLK_STATE
  let lost := decide (src = 0 ∧ st = 2)
  let gained := decide (src ≠ 0 ∧ (st = 0 ∨ st = 3))
  let s := s.put Reg.TIM_STAT_SOURCE src
  if lost then s.clockTo 3 else if gained then s.clockTo 1 else s

/-! ## Root keys (R312) -/

/-- Whether one key is better than another (R312). -/
def keyBetter (a b : RootKey) : Bool :=
  decide (a.epoch > b.epoch) || (a.epoch == b.epoch &&
    ((a.ext && !b.ext) || (a.ext == b.ext && decide (a.id < b.id))))

/-- Whether two keys name the same root in the same terms. -/
def keySame (a b : RootKey) : Bool := a.epoch == b.epoch && a.ext == b.ext && a.id == b.id

/-- How far one sequence is ahead of another, modulo 65,536. -/
def seqAhead (a b : Nat) : Int := sx 16 (ux 16 ((a : Int) - b))

/-- The device's own key. -/
def State.ownKey (s : State) : RootKey :=
  ⟨s.get Reg.TIM_EPOCH_EPOCH, s.on Reg.TIM_STAT_EXT_TIME, s.deviceId, s.tim.ownSeq, 0⟩

/-- The joined ports that advertise a key of another root, with it. While the device advertises only its own key it takes none (R313). -/
def State.heardKeys (s : State) : List (Nat × RootKey) :=
  if s.tim.ownUntil.isSome then []
  else (List.range 4).filterMap fun k =>
    let p := s.timePort k
    match p.key with
    | some key => if p.joined && !p.refused && key.id != s.deviceId then some (k, key) else none
    | none => none

/-- Whether a heard key is preferred (R312): better, or the same with fewer steps, or on a tie the lower neighbour. -/
def State.heardLess (s : State) (a b : Nat × RootKey) : Bool :=
  keyBetter a.2 b.2 || (keySame a.2 b.2 && (decide (a.2.steps < b.2.steps) ||
    (a.2.steps == b.2.steps && decide ((s.timePort a.1).sender < (s.timePort b.1).sender))))

/-- The best heard key. -/
def State.bestHeard (s : State) : Option (Nat × RootKey) :=
  s.heardKeys.foldl (fun m e =>
    match m with
    | none => some e
    | some b => if s.heardLess e b then some e else m) none

/-- Follow a key: the registers and the root record (R312, R320). -/
def State.follow (s : State) (key : RootKey) (parent : Option Nat) : State :=
  let old := s.get Reg.TIM_ROOT_ROOT_ID
  let moved := old != key.id || s.on Reg.TIM_STAT_ROOT != parent.isNone
  let advanced := decide (seqAhead key.seq s.tim.key.seq > 0) || !keySame key s.tim.key
  let s := { s with tim := { s.tim with key := key, parent := parent, rootAt := if advanced then s.now else s.tim.rootAt } }
  let s := (s.put Reg.TIM_ROOT_ROOT_ID key.id).put Reg.TIM_ROOT_ROOT_EXT (b2n key.ext)
  let s := (s.put Reg.TIM_ROOT_STEPS (min 255 key.steps)).put Reg.TIM_STAT_ROOT (b2n parent.isNone)
  let s := s.each (List.range 4) fun s k => s.put (Reg.TIM_PORT_STAT_PARENT k) (b2n (parent == some k))
  let s := s.chooseSource
  let flags := b2n key.ext + 2 * b2n (s.get Reg.TIM_STAT_CLK_STATE == 3)
  s.when moved fun s => s.event 0x0003 0x0902 (bytesLE 2 old ++ bytesLE 2 key.id ++ [flags, min 255 key.steps])

/-- The election (R312): a device without an identity, or with the overlay off, takes part in none and follows external time. -/
def State.elect (s : State) : State :=
  let s := s.put Reg.TIM_STAT_EXT_TIME (b2n s.extTime)
  if !s.overlayOn then
    ({ s with tim := { s.tim with parent := none } }.put Reg.TIM_STAT_ROOT 0).chooseSource
  else
    let own := s.ownKey
    match s.bestHeard with
    | some (k, key) =>
      if s.tim.stoodDown || !keyBetter own key then s.follow { key with steps := key.steps + 1 } (some k) else s.follow own none
    | none => s.follow own none

/-- A port joins the constellation or leaves it (R309, R320): its measurement starts afresh. -/
def State.joinPort (s : State) (k : Nat) (b : Bool) (peer : Nat) : State :=
  if (s.timePort k).joined = b then s
  else
    let s := s.modTimePort k fun p => { TimePort.initial with joined := b, refused := p.refused }
    let s := s.put (Reg.TIM_PORT_STAT_XFER k) (if b then 1 else 0)
    (s.event 0x0003 0x0903 ([k, if b then 0 else 1] ++ bytesLE 2 peer)).elect

/-- Refuse a port over a duplicate device ID (R310). -/
def State.refusePort (s : State) (k : Nat) : State :=
  let told := (s.timePort k).refused
  let s := s.setF Reg.TIM_STAT_DUP_ID
  let s := s.modTimePort k fun p => { TimePort.initial with joined := false, refused := true, sender := p.sender }
  let s := s.put (Reg.TIM_PORT_STAT_XFER k) 3
  if told then s.elect else (s.event 0x0003 0x0903 ([k, 2] ++ bytesLE 2 s.deviceId)).elect

/-! ## The epoch (R314) -/

/-- Take an epoch into force, from a port or a command (0xFF); E14 records it in flash, or in RAM while the flash is outside its
temperature window (R461). -/
def State.setEpoch (s : State) (e src : Nat) : State :=
  let old := s.get Reg.TIM_EPOCH_EPOCH
  let s := s.put Reg.TIM_EPOCH_EPOCH e
  let s :=
    if s.on Reg.THM_WINDOW_FLASH_OPEN then { s with boot := { s.boot with epochFlash := e, epochHeld := none } }
    else { s with boot := { s.boot with epochHeld := some e } }
  (s.event 0x0003 0x0904 (bytesLE 4 old ++ bytesLE 4 e ++ [src])).elect

/-- A neighbour's epoch (R314): a higher one is adopted. -/
def State.seeEpoch (s : State) (e port : Nat) : State := if e > s.get Reg.TIM_EPOCH_EPOCH then s.setEpoch e port else s

/-! ## Measurements (R300 to R302) -/

/-- The limit a measured offset must keep to lock, in ps, and for how long (R302), by source. -/
def lockLimit (src : Nat) : Nat × Nat := if src = 3 then (1000, 1000000000) else (100000, 16000000000)

/-- Use a measured offset of device time from the source followed, in ps (R300 to R302): step at a first acquisition over 1 µs while
the radio is quiet, slew otherwise, and judge the lock limit. The servo's y is a free value within ±25 ppm. -/
def State.measure (s : State) (src : Nat) (ofs : Int) : State :=
  if s.get Reg.TIM_STAT_SOURCE ≠ src then s
  else
    let stepped := s.tim.fresh && s.radioQuiet && decide (ofs.natAbs > 1000000)
    let s := if stepped then { s with now := ((s.now : Int) - divRound ofs 1000).toNat } else s
    let left := if stepped then 0 else ofs
    let y := max (-7036874417) (min 7036874417 (Config.servoY s.free))
    let mean := max (-7036874417) (min 7036874417 (Config.servoMean s.free))
    let ok := decide (left.natAbs < (lockLimit src).1)
    let tell := !stepped && decide (left.natAbs > 1000000000) && s.due s.tim.slewUntil
    let s := { s with tim := { s.tim with
      fresh := false, offset := left, y := y, yMean := mean,
      within := if ok then some (s.tim.within.getD s.now) else none,
      slewUntil := if decide (left.natAbs > 1000000000) then (if tell then s.now + left.natAbs * 1000 else s.tim.slewUntil)
        else s.now } }
    let s := s.fresh.put Reg.TIM_STAT_SLEWING (b2n (decide (left.natAbs > 1000)))
    let st := s.get Reg.TIM_STAT_CLK_STATE
    s.when tell fun s => s.clockRecord st st (min (left.natAbs / 1000) (2 ^ 32 - 1))

end Sys2Proof.Machine
end

