-- ==== Sys2Proof/Machine/Line.lean ====
section
/-! DEFINITION. Line lanes and ports (R232 to R265): the lane state machine, training, equaliser and occupancy, the overlay
channel with heartbeats and remote mute orders, ports, and the line commands. -/
namespace Sys2Proof.Machine
open Sys2Proof

/-! ## Lanes and ports -/

/-- A lane before it first leaves DOWN. -/
def LaneState.initial : LaneState :=
  ⟨0, 0, 0, none, false, 0, 0, none, none, 0, 0, [], [], 0, 0, 0, false, false, none, List.replicate 64 0, [0, 0, 0], 8, 0, 0,
    [], [], [], [], []⟩

/-- A port before its first heartbeat. -/
def PortState.initial : PortState := ⟨0, false, 0, 0, 0, [], none⟩

/-- Lane n. -/
def State.lane (s : State) (n : Nat) : LaneState := s.line.lanes.getD n LaneState.initial

/-- Change lane n. -/
def State.modLane (s : State) (n : Nat) (f : LaneState → LaneState) : State :=
  { s with line := { s.line with lanes := s.line.lanes.set n (f (s.lane n)) } }

/-- Port k. -/
def State.port (s : State) (k : Nat) : PortState := s.line.ports.getD k PortState.initial

/-- Change port k. -/
def State.modPort (s : State) (k : Nat) (f : PortState → PortState) : State :=
  { s with line := { s.line with ports := s.line.ports.set k (f (s.port k)) } }

/-- The port of a lane (R232), its mode (R233), and the lane's state (R255). -/
def portOf (n : Nat) : Nat := n / 4
def State.lineMode (s : State) (k : Nat) : Nat := s.get (Reg.LIN_PORT_CFG_MODE k)
def State.laneAt (s : State) (n : Nat) : Nat := s.get (Reg.LIN_STAT_STATE n)

/-- Count a lane event or a port event. -/
def State.laneCount (s : State) (n r k : Nat) : State := s.add64 (Reg.LIN_CNT n r) k
def State.portCount (s : State) (p r k : Nat) : State := s.add64 (Reg.LIN_PORT_CNT p r) k

/-- Whether a port is up (R259). -/
def State.portUp (s : State) (k : Nat) : Bool := s.on (Reg.LIN_PORT_STAT_PORT_UP k)

/-- The neighbour of a port becomes unreachable (R251), and the port leaves the constellation (R309). -/
def State.neighbourLost (s : State) (k : Nat) : State :=
  if !(s.port k).reachable then s
  else
    let id := (s.port k).neighbour
    ((s.modPort k fun p => { p with reachable := false }).event 0x0030 0x0705 ([4 * k, 5] ++ bytesLE 2 id)).joinPort k false id

/-- Show which lanes of a port are UP; a port that is up goes down with its first lane (R259). -/
def State.portLanes (s : State) (k : Nat) : State :=
  let m := maskOf ((List.range 4).filter fun j => s.laneAt (4 * k + j) == 5)
  let s := s.put (Reg.LIN_PORT_STAT_LANES_UP k) m
  if s.portUp k && m != 15 then
    let s := (s.put (Reg.LIN_PORT_STAT_PORT_UP k) 0).portCount k 3 1
    (s.event 0x0030 0x0704 [k, 0, 0]).neighbourLost k
  else s

/-- Move a lane to a state (R255); a cause of R264 raises the lane-state record. -/
def State.setLane (s : State) (n new : Nat) (cause : Option Nat) : State :=
  let old := s.laneAt n
  let s := (s.put (Reg.LIN_STAT_STATE n) new).modLane n fun l => { l with since := s.now }
  let s := match cause with
    | some c => s.event 0x0030 0x0701 [n, old, new, c, s.get (Reg.LIN_STAT_BACKOFF n)]
    | none => s
  s.portLanes (portOf n)

/-- The taps of a preset (R236): c(−2) to c(2). -/
def presetTaps (p : Nat) : List Int :=
  match p with
  | 0 => [0, 0, 64, 0, 0]
  | 1 => [0, -6, 52, -6, 0]
  | 2 => [2, -10, 44, -8, 0]
  | _ => [0, 0, 56, -8, 0]

/-- The transmit taps of a lane, and how they stand in their register. -/
def State.taps (s : State) (n : Nat) : List Int :=
  [sx 5 (s.get (Reg.LIN_TXFFE_PRE2 n)), sx 6 (s.get (Reg.LIN_TXFFE_PRE1 n)), s.get (Reg.LIN_TXFFE_MAIN n),
    sx 6 (s.get (Reg.LIN_TXFFE_POST1 n)), sx 5 (s.get (Reg.LIN_TXFFE_POST2 n))]

/-- Put transmit taps into force. -/
def State.setTaps (s : State) (n : Nat) (t : List Int) : State :=
  let s := (s.put (Reg.LIN_TXFFE_PRE2 n) (ux 5 (t.getD 0 0))).put (Reg.LIN_TXFFE_PRE1 n) (ux 6 (t.getD 1 0))
  let s := (s.put (Reg.LIN_TXFFE_MAIN n) (ux 7 (t.getD 2 0))).put (Reg.LIN_TXFFE_POST1 n) (ux 6 (t.getD 3 0))
  s.put (Reg.LIN_TXFFE_POST2 n) (ux 5 (t.getD 4 0))

/-- The rule of R235 for transmit taps, with the ranges of their fields. -/
def tapsOk (t : List Int) : Bool :=
  let main := t.getD 2 0
  decide (24 ≤ main ∧ main ≤ 64) &&
    decide ((t.getD 0 0).natAbs + (t.getD 1 0).natAbs + main.toNat + (t.getD 3 0).natAbs + (t.getD 4 0).natAbs = 64) &&
    decide (satS 5 (t.getD 0 0) = t.getD 0 0 ∧ satS 6 (t.getD 1 0) = t.getD 1 0) &&
    decide (satS 6 (t.getD 3 0) = t.getD 3 0 ∧ satS 5 (t.getD 4 0) = t.getD 4 0)

/-- Whether a lane may leave DOWN (R256, R420, R423, R433, R459): its port has a mode, the lane is enabled and not under test, the
lane rail is in tolerance, the images and the reference are good, and no trip, fatal error or sleep holds it off. -/
def State.laneMayRun (s : State) (n : Nat) : Bool :=
  s.lineMode (portOf n) != 0 && s.on (Reg.LIN_CTL_ENABLE n) && !s.on (Reg.LIN_STAT_TEST n) && !bit s.boot.railsOut 2 &&
    s.on Reg.DEV_BOOT_STAT_IMAGES_OK && s.on Reg.DEV_BOOT_STAT_REF_SWITCHED && !s.trip && !s.tx.quiet &&
    decide (s.get Reg.PWR_STAT_STATE < 2)

/-- Enter DETECT (R236, R257): the preset's taps, and the back-off wait by the state it comes from. -/
def State.enterDetect (s : State) (n : Nat) (cause : Nat) : State :=
  let old := s.laneAt n
  let b := s.get (Reg.LIN_STAT_BACKOFF n)
  let failed := decide (2 ≤ old ∧ old ≤ 4)
  let wait := if failed || old = 5 then b * 1000000 else 0
  let s := s.when failed fun s => (s.put (Reg.LIN_STAT_BACKOFF n) (min 64 (2 * b))).laneCount n 6 1
  let s := (s.setTaps n (presetTaps (s.get (Reg.LIN_CTL_TX_PRESET n)))).put (Reg.LIN_STAT_ONE_SIDED n) 0
  let s := s.modLane n fun l =>
    { l with waitEnd := if old = 1 then l.waitEnd else s.now + wait, snrSince := none, ready := false, partnerReady := 0,
             partnerCount := none, countdown := none, syncLost := 0, status := 0 }
  if old = 1 then s else s.setLane n 1 (some cause)

/-- Take a lane to DOWN (R256). -/
def State.enterDown (s : State) (n : Nat) : State :=
  if s.laneAt n = 0 then s
  else
    let s := s.modLane n fun l => { l with ready := false, countdown := none, partnerCount := none, partnerReady := 0 }
    s.setLane n 0 (some 0)

/-- Start a lane that is in DOWN and may run (R256). -/
def State.laneStart (s : State) (n : Nat) : State :=
  if s.laneAt n = 0 && s.laneMayRun n then s.enterDetect n 0 else s

/-- Enter ACQUIRE: the cursor set takes effect. -/
def State.enterAcquire (s : State) (n : Nat) : State :=
  (s.modLane n fun l => { l with cursor := s.get (Reg.LIN_RXEQ_CURSOR n) }).setLane n 2 none

/-- The lane goes on to data (R254, R256, R258): FEC_LOCK. -/
def State.enterFecLock (s : State) (n : Nat) : State :=
  (s.modLane n fun l => { l with countdown := none }).setLane n 4 none

/-- Whether a lane trains alone: modes 1 to 4, or `ONE_SIDED` (R258). -/
def State.trainsAlone (s : State) (n : Nat) : Bool := s.lineMode (portOf n) != 5 || s.on (Reg.LIN_STAT_ONE_SIDED n)

/-- The start of a countdown (R254): a ready lane that has received `RX_READY` in 4 consecutive valid cells starts at 8; one that
sees the partner counting starts at the partner's value. -/
def State.startCountdown (s : State) (n : Nat) : State :=
  let l := s.lane n
  if l.countdown.isSome || !l.ready || s.laneAt n != 3 then s
  else match l.partnerCount with
    | some c => s.modLane n fun l => { l with countdown := some c }
    | none => if l.partnerReady ≥ 4 then s.modLane n fun l => { l with countdown := some 8 } else s

/-! ## Lane rows -/

/-- LOS_CHANGE (R238, R256): loss of signal sends a lane that is not UP back to DETECT at once. -/
def execLosChange (lane : Nat) (lost : Bool) (s : State) : Host.Outcome State Fault Refusal :=
  .next (if s.laneAt lane = 0 then s
    else if lost then
      let was := s.on (Reg.LIN_STAT_LOS lane)
      let s := s.setF (Reg.LIN_STAT_LOS lane)
      let s := s.when (!was) fun s => (s.laneCount lane 5 1).modLane lane fun l => { l with losAt := s.now }
      if 2 ≤ s.laneAt lane ∧ s.laneAt lane ≤ 4 then s.enterDetect lane 1 else s
    else
      let s := s.put (Reg.LIN_STAT_LOS lane) 0
      if s.laneAt lane = 1 ∧ s.due (s.lane lane).waitEnd then s.enterAcquire lane else s)

/-- LANE_BACKOFF_END (R256, R257): the wait is over; with signal present the lane goes on to ACQUIRE. -/
def execLaneBackoffEnd (lane : Nat) (s : State) : Host.Outcome State Fault Refusal :=
  .next (if s.laneAt lane = 1 ∧ s.due (s.lane lane).waitEnd ∧ !s.on (Reg.LIN_STAT_LOS lane) then s.enterAcquire lane else s)

/-- LANE_TIMEOUT (R256): 50 ms in ACQUIRE, 1,000 ms in TRAIN, 20 ms in FEC_LOCK; a loss of signal that has lasted 10 µs in UP. -/
def execLaneTimeout (lane : Nat) (s : State) : Host.Outcome State Fault Refusal :=
  let l := s.lane lane
  .next (match s.laneAt lane with
    | 2 => if s.due (l.since + 50000000) then s.enterDetect lane 2 else s
    | 3 => if s.due (l.since + 1000000000) then s.enterDetect lane 2 else s
    | 4 => if s.due (l.since + 20000000) then s.enterDetect lane 2 else s
    | 5 => if s.on (Reg.LIN_STAT_LOS lane) && s.due (l.losAt + 10000) then s.enterDetect lane 1 else s
    | _ => s)

/-- MARKER_LOCK (R256, R258): clock recovery is locked and the markers are found; with `TRAIN_EN` = 0 the lane is one-sided from its
entry into TRAIN. -/
def execMarkerLock (lane : Nat) (s : State) : Host.Outcome State Fault Refusal :=
  .next (if s.laneAt lane ≠ 2 then s
    else
      let k := portOf lane
      let s := (s.setLane lane 3 none).modLane lane fun l => { l with lastCell := s.now }
      if s.lineMode k = 5 ∧ !s.on (Reg.LIN_PORT_CFG_TRAIN_EN k) then
        (s.setF (Reg.LIN_STAT_ONE_SIDED lane)).event 0x0030 0x0702 [lane, 1]
      else s)

/-- FEC_LOCK (R256): the lane is UP. -/
def execFecLock (lane : Nat) (s : State) : Host.Outcome State Fault Refusal :=
  .next (if s.laneAt lane = 4 then s.setLane lane 5 (some 5) else s)

/-- BACKOFF_RETURN (R257): after 1 s continuously in UP the back-off is 1 ms again. -/
def execBackoffReturn (lane : Nat) (s : State) : Host.Outcome State Fault Refusal :=
  .next (if s.laneAt lane = 5 ∧ s.due ((s.lane lane).since + 1000000000) then s.put (Reg.LIN_STAT_BACKOFF lane) 1 else s)

/-- RX_READY (R254, R256): the SNR has stayed at 17.0 dB or more for 10 ms in TRAIN. -/
def execRxReady (lane : Nat) (s : State) : Host.Outcome State Fault Refusal :=
  .next (match (s.lane lane).snrSince with
    | none => s
    | some t =>
      if s.laneAt lane ≠ 3 ∨ !s.due (t + 10000000) then s
      else
        let s := s.modLane lane fun l => { l with ready := true }
        if s.trainsAlone lane then s.enterFecLock lane else s.startCountdown lane)

/-- ONE_SIDED_TIMEOUT (R258): no valid training cell for 300 ms; a lane that is ready goes on to data. -/
def execOneSidedTimeout (lane : Nat) (s : State) : Host.Outcome State Fault Refusal :=
  let l := s.lane lane
  .next (if s.laneAt lane = 3 ∧ !s.trainsAlone lane ∧ l.countdown.isNone ∧ s.due (l.lastCell + 300000000) then
      let s := (s.setF (Reg.LIN_STAT_ONE_SIDED lane)).event 0x0030 0x0702 [lane, 0]
      if l.ready then s.enterFecLock lane else s
    else s)

/-! ## Training cells (R253, R254) -/

/-- One field of a request: 0 hold, 1 increment, 2 decrement. -/
def reqField (req i : Nat) : Nat := bits req (2 * i) 2

/-- The change a field asks for. -/
def reqDelta (f : Nat) : Int := if f = 1 then 1 else if f = 2 then -1 else 0

/-- The report for a field that was refused: the limit reached (R253). -/
def refusedField (f : Nat) : Nat := if f = 1 then 3 else if f = 2 then 2 else 0

/-- Apply one level request: its register field, its bit pair, and the report. -/
def State.levelReq (s : State) (f : Field) (req i : Nat) : State × Nat :=
  let v := (s.get f : Int) + reqDelta (reqField req i)
  if reqField req i = 0 ∨ reqField req i = 3 then (s, 0)
  else if 28 ≤ v ∧ v ≤ 56 then (s.put f v.toNat, 1)
  else (s, refusedField (reqField req i))

/-- Apply a partner's request to a lane's transmitter (R253): the taps together, since R235 binds their sum, and each level. The
value is the `STATUS` reported. -/
def State.applyRequest (s : State) (n req : Nat) : State × Nat :=
  let fs := (List.range 5).map fun i => reqField req i
  let asked := fs.any fun f => f == 1 || f == 2
  let new := (s.taps n).zipWith (fun t f => t + reqDelta f) fs
  let ok := tapsOk new
  let st := (List.range 5).map fun i =>
    let f := fs.getD i 0
    if f = 0 ∨ f = 3 then 0 else if ok then 1 else refusedField f
  let s := if asked && ok then s.setTaps n new else s
  let lo := s.levelReq (Reg.LIN_TXLVL_LVL_LO n) req 5
  let hi := lo.1.levelReq (Reg.LIN_TXLVL_LVL_HI n) req 6
  (hi.1, (st ++ [lo.2, hi.2]).zipIdx.foldl (fun a e => a + e.1 * 4 ^ e.2) 0)

/-- TRAINING_CELL (R253, R254, R258): the sequencer of a two-sided lane in TRAIN takes the partner's request, its readiness and its
count. -/
def execTrainingCell (lane : Nat) (bytes : List Nat) (s : State) : Host.Outcome State Fault Refusal :=
  .next (if s.laneAt lane ≠ 3 ∨ s.trainsAlone lane then s
    else
      let flags := nth bytes 3
      let req := natBE (slice bytes 4 2)
      let r : State × Nat :=
        if bit flags 1 then (s.setTaps lane (presetTaps (bits flags 2 2)), 0x155)
        else s.applyRequest lane req
      let count := nth bytes 8
      let s := r.1.modLane lane fun l =>
        { l with lastCell := s.now, status := r.2, partnerReady := if bit flags 0 then l.partnerReady + 1 else 0,
                 partnerCount := if count = 0xFF then none else some count }
      s.startCountdown lane)

/-! ## Equaliser and occupancy (R239, R240, R260) -/

/-- An update's change as applied: clipped to ±1 LSB while frozen (R240). -/
def clipStep (frozen : Bool) (d : Int) : Int := if frozen then max (-1) (min 1 d) else d

/-- EQUALISER_UPDATE (R239, R240, R39): a running lane engine applies one update to a lane outside DOWN. -/
def execEqualiserUpdate (lane : Nat) (o : EqualiserObs) (s : State) : Host.Outcome State Fault Refusal :=
  .next (
    let s := s.when o.late fun s => s.lateFlag Reg.DEV_BG_STAT_EQ_LATE
    if s.laneAt lane < 2 ∨ !s.engineRuns (8 + lane / 2) then s
    else
      let f := s.on (Reg.LIN_STAT_FROZEN lane)
      s.modLane lane fun l =>
        { l with ffe := l.ffe.zipIdx.map fun e => satS 10 (e.1 + clipStep f (o.ffe.getD e.2 0)),
                 mlse := l.mlse.zipIdx.map fun e => satS 16 (e.1 + clipStep f (o.mlse.getD e.2 0)) })

/-- SNR in 0.1 dB of a mean squared error in units of 2^-20 (R260): the largest k with 10^(k/100) not above (5/9) / MSE. -/
def snrTenths (mse : Nat) : Nat :=
  if mse = 0 then Config.snrOfZero % 65536
  else ((List.range 600).filter fun k => decide (10 ^ (k + 1) * (9 * mse) ^ 100 ≤ (5 * 2 ^ 20) ^ 100)).length

/-- Whether every level share of a window lies in its range (R240): 19 to 31% of 65,536, or 38 to 62% in NRZ. -/
def sharesOk (nrz : Bool) (counts : List Nat) : Bool :=
  if nrz then (counts.take 2).all fun c => decide (38 * 65536 ≤ 100 * c ∧ 100 * c ≤ 62 * 65536)
  else (counts.take 4).all fun c => decide (19 * 65536 ≤ 100 * c ∧ 100 * c ≤ 31 * 65536)

/-- Adaptation freezes, goes on frozen, or resumes at the end of a window (R240). -/
def State.freezeWindow (s : State) (n : Nat) (ok : Bool) : State :=
  let l := s.lane n
  if !s.on (Reg.LIN_STAT_FROZEN n) then
    if ok then s
    else (s.setF (Reg.LIN_STAT_FROZEN n)).modLane n fun l =>
      { l with goodWindows := 0, frozenWindows := 0, freezeAt := s.now, freezeTold := false }
  else
    let s := s.laneCount n 4 1
    let good := if ok then l.goodWindows + 1 else 0
    let s := s.modLane n fun l => { l with goodWindows := good, frozenWindows := l.frozenWindows + 1 }
    if good < 2 then s
    else
      let s := s.put (Reg.LIN_STAT_FROZEN n) 0
      s.when l.freezeTold fun s => s.event 0x0030 0x0703 ([n, 1] ++ bytesLE 4 (l.frozenWindows + 1))

/-- OCCUPANCY_WINDOW (R240, R254, R260): the shares and the SNR of a window of 65,536 symbols. -/
def execOccupancyWindow (lane : Nat) (o : OccupancyObs) (s : State) : Host.Outcome State Fault Refusal :=
  .next (if s.laneAt lane < 2 then s
    else
      let snr := snrTenths o.snr
      let s := s.put (Reg.LIN_MON_SNR lane) (min snr 65535)
      let s := s.wr (Reg.LIN_OCC lane) (natLE ((fit 4 o.counts).map fun (c : Nat) => (divRound ((c * 200 : Nat) : Int) 65536).toNat))
      let s := s.modLane lane fun l => { l with snrSince := if snr < 170 then none else some (l.snrSince.getD s.now) }
      if s.on (Reg.LIN_CTL_FREEZE_EN lane) then s.freezeWindow lane (sharesOk (s.lineMode (portOf lane) == 1) o.counts)
      else s.put (Reg.LIN_STAT_FROZEN lane) 0)

/-- FREEZE_EVENT (R240): a freeze that has lasted 1 ms raises one record. -/
def execFreezeEvent (lane : Nat) (s : State) : Host.Outcome State Fault Refusal :=
  let l := s.lane lane
  .next (if s.on (Reg.LIN_STAT_FROZEN lane) && !l.freezeTold && s.due (l.freezeAt + 1000000) then
      (s.modLane lane fun l => { l with freezeTold := true }).event 0x0030 0x0703 ([lane, 0] ++ bytesLE 4 l.frozenWindows)
    else s)

/-- A capture of 2^24 symbols starts (R260). -/
def State.startHist (s : State) (lane : Nat) : State :=
  (s.put (Reg.LIN_STAT_HIST_DONE lane) 0).modLane lane fun l => { l with histBusy := true }

/-- HIST_REQ (R260): a write of 1. -/
def execHistReq (rq : Requester) (lane : Nat) (s : State) : Host.Outcome State Fault Refusal :=
  .next (if s.mayWrite rq (Reg.LIN_CTL lane) then s.startHist lane else s)

/-- HIST_DONE (R260): the histogram is complete. -/
def execHistDone (lane : Nat) (bins : List Nat) (s : State) : Host.Outcome State Fault Refusal :=
  .next (if (s.lane lane).histBusy then
      let s := s.each (List.range 64) fun s b => s.wr (Reg.LIN_HIST lane b) (nth bins b)
      (s.setF (Reg.LIN_STAT_HIST_DONE lane)).modLane lane fun l => { l with histBusy := false }
    else s)

/-! ## Periods of extended mode (R241, R242, R256, R260) -/

/-- The cell the overlay sends in a period (R248): in ACQUIRE and TRAIN a training cell; else the first of E13's queue, then
E14's. Its sequence number counts per type (R246). -/
def State.sendCell (s : State) (n : Nat) : State :=
  let st := s.laneAt n
  if st = 2 ∨ st = 3 then s
  else
    let l := s.lane n
    match l.tx13, l.tx14 with
    | c :: t, _ => s.modLane n fun l => { l with tx13 := t, seqs := l.seqs.set (nth c 0) ((l.seqs.getD (nth c 0) 0 + 1) % 256) }
    | [], c :: t => s.modLane n fun l => { l with tx14 := t, seqs := l.seqs.set (nth c 0) ((l.seqs.getD (nth c 0) 0 + 1) % 256) }
    | [], [] => s

/-- The countdown of a period (R254): at 0 the lane goes on to data. -/
def State.countPeriod (s : State) (n : Nat) : State :=
  match (s.lane n).countdown with
  | none => s
  | some c => if c ≤ 1 then s.enterFecLock n else s.modLane n fun l => { l with countdown := some (c - 1) }

/-- Uncorrectable codewords of a port (R260): more than 16 within 1 ms set `FEC_DEGRADE`. -/
def State.degrade (s : State) (k bad : Nat) : State :=
  if bad = 0 then s
  else
    let s := s.modPort k fun p => { p with bad := (s.now, bad) :: p.bad.filter fun e => decide (s.now < e.1 + 10000000) }
    let recent := sumL (((s.port k).bad.filter fun e => decide (s.now < e.1 + 1000000)).map Prod.snd)
    if recent > 16 ∧ !s.on (Reg.LIN_PORT_STAT_FEC_DEGRADE k) then
      (s.setF (Reg.LIN_PORT_STAT_FEC_DEGRADE k)).event 0x0030 0x0704 [k, 3, 0]
    else s

/-- MARKER_PERIOD (R241 to R244, R250, R254, R256, R260): what one period of 5.12 µs brings a lane outside DOWN. -/
def execMarkerPeriod (lane : Nat) (o : MarkerObs) (s : State) : Host.Outcome State Fault Refusal :=
  let k := portOf lane
  .next (if s.laneAt lane = 0 ∨ s.lineMode k ≠ 5 then s
    else
      let s := (s.laneCount lane 0 o.codewords).laneCount lane 1 o.correctedBits
      let s := (s.laneCount lane 2 o.innerFailures).laneCount lane 3 o.rsSymbolErrors
      let s := ((s.portCount k 0 o.rsCodewords).portCount k 1 o.rsCorrected).portCount k 2 o.rsUncorrectable
      let s := s.when (o.codewords != 0) fun s => s.put (Reg.LIN_MON_ITER lane) (min 255 (o.iterations * 16 / o.codewords))
      let s := s.modLane lane fun l =>
        { l with period := (l.period + 1) % 65536, txMarks := ((l.period, o.txMark) :: l.txMarks).take 8 }
      let s := match o.marker with
        | none => s.modLane lane fun l => { l with syncLost := l.syncLost + 1 }
        | some m =>
          (s.put (Reg.LIN_STAT_LANE_ID lane) m.lane).modLane lane fun l =>
            { l with syncLost := 0, lane := m.lane, rxMarks := ((m.period, m.mark) :: l.rxMarks).take 8 }
      let s := ((s.sendCell lane).degrade k o.rsUncorrectable).countPeriod lane
      if s.laneAt lane ≠ 5 then s
      else if (s.lane lane).syncLost ≥ 4 then s.enterDetect lane 3
      else if o.innerFailures > 62 then s.enterDetect lane 4
      else s)

/-- FEC_DEGRADE_CLEAR (R260): 10 ms with no uncorrectable codeword clear the flag. -/
def execFecDegradeClear (port : Nat) (s : State) : Host.Outcome State Fault Refusal :=
  .next (if s.on (Reg.LIN_PORT_STAT_FEC_DEGRADE port) && (s.port port).bad.all (fun e => s.due (e.1 + 10000000)) then
      ((s.put (Reg.LIN_PORT_STAT_FEC_DEGRADE port) 0).modPort port fun p => { p with bad := [] }).event 0x0030 0x0704 [port, 4, 0]
    else s)

/-- Receive latency of a mode (R261), least and greatest, in 10 ps. -/
def rxLatency (mode : Nat) : Nat × Nat :=
  match mode with
  | 1 => (23600, 24400)
  | 2 => (19800, 20400)
  | 3 => (16000, 16400)
  | 4 => (13800, 14000)
  | _ => (31700, 31900)

/-- PORT_UP (R259, R261): all four lanes are UP and deskewed, with the deskew delay of each lane in 10 ps; a skew above 200 ns keeps
the port down. -/
def execPortUp (port : Nat) (skews : List Nat) (s : State) : Host.Outcome State Fault Refusal :=
  .next (if s.portUp port ∨ s.get (Reg.LIN_PORT_STAT_LANES_UP port) ≠ 15 then s
    else
      let l := fit 4 skews
      let ns := (l.foldl max 0 - l.foldl min (l.foldl max 0)) / 100
      let s := s.put (Reg.LIN_PORT_STAT_DESKEW port) (min ns 255)
      if l.foldl max 0 - l.foldl min (l.foldl max 0) > 20000 then
        ((s.setF (Reg.LIN_PORT_STAT_SKEW_ERR port)).portCount port 4 1).event 0x0030 0x0704 [port, 2, min ns 255]
      else
        let r := rxLatency (s.lineMode port)
        let s := s.each (List.range 4) fun s j =>
          let lat := r.1 + Config.latencySpread (4 * port + j) s.free % (r.2 - r.1 + 1)
          (s.put (Reg.LIN_RXLAT_RX_LAT (4 * port + j)) (min 65535 (lat + nth l j))).fresh
        let s := s.modPort port fun p => { p with lastBeat := s.now }
        (s.setF (Reg.LIN_PORT_STAT_PORT_UP port)).event 0x0030 0x0704 [port, 1, min ns 255])

/-! ## The overlay channel (R245 to R252) -/

/-- CRC-16, polynomial 0x1021, initial value 0xFFFF (R246): one bit. -/
def crc16Bit : Nat → Nat → Nat
  | 0, c => c
  | k + 1, c => crc16Bit k (if c / 32768 % 2 = 1 then (c * 2 % 65536) ^^^ 0x1021 else c * 2 % 65536)

/-- CRC-16 over bytes. -/
def crc16 (l : List Nat) : Nat := l.foldl (fun c b => crc16Bit 8 (c ^^^ (b * 256))) 0xFFFF

/-- Whether a port's MACsec is STRICT, and whether MKA is up there (R226, R249). -/
def State.strict (s : State) (k : Nat) : Bool := s.get (Reg.FTH_MSEC_CTL_MODE k) == 1
def State.mkaUp (s : State) (k : Nat) : Bool := s.on (Reg.FTH_MSEC_STAT_MKA_UP k)

/-- The CAK of a port, from which its overlay key follows (R411). -/
def State.cakOf (s : State) (k : Nat) : List Nat := ((s.sea.caks.get? k).map CakRecord.cak).getD []

/-- Whether the tag of a cell of type 0x01 or 0x04 is right on its port (R249). -/
def State.tagOk (s : State) (n : Nat) (b : List Nat) : Bool :=
  let k := portOf n
  if !s.strict k ∨ !(nth b 0 == 1 || nth b 0 == 4) then true
  else
    let period := ((s.lane n).rxMarks.head?.map Prod.fst).getD 0
    let iv := [k, (s.lane n).lane] ++ bytesLE 2 period ++ [nth b 1]
    slice b 26 4 == (Config.overlayTag (s.cakOf k) (slice b 0 26 ++ iv)).take 4

/-- Drop an overlay cell (R246, R248, R249): reason as event 0x0705 numbers it. -/
def State.cellDrop (s : State) (n reason type : Nat) : State :=
  (s.laneCount n 7 1).event 0x0030 0x0705 ([n, reason] ++ bytesLE 2 type)

/-- OVERLAY_CELL (R246 to R249): a received cell is checked and put into the receive queue of its consumer, which holds 32. -/
def execOverlayCell (lane : Nat) (bytes : List Nat) (s : State) : Host.Outcome State Fault Refusal :=
  let b := fit 32 bytes
  let t := nth b 0
  let k := portOf lane
  .next (if s.laneAt lane < 2 ∨ s.lineMode k ≠ 5 then s
    else if crc16 (b.take 30) ≠ natBE (slice b 30 2) ∨ t > 4 then s.cellDrop lane 0 t
    else if s.strict k ∧ (t = 1 ∨ t = 4) ∧ !s.mkaUp k then s.laneCount lane 7 1
    else if !s.tagOk lane b then s.cellDrop lane 1 t
    else if t = 1 then
      if (s.lane lane).rx13.length ≥ 32 then s.cellDrop lane 2 t
      else s.modLane lane fun l => { l with rx13 := l.rx13 ++ [b] }
    else if t = 3 ∨ t = 4 then
      if (s.lane lane).rx14.length ≥ 32 then s.cellDrop lane 2 t
      else s.modLane lane fun l => { l with rx14 := l.rx14 ++ [b] }
    else s)

/-- Take the front cell of E14's receive queue of a lane if it is of a type. -/
def State.popCell (s : State) (n type : Nat) : Option (List Nat × State) :=
  match (s.lane n).rx14 with
  | c :: t => if nth c 0 = type then some (c, s.modLane n fun l => { l with rx14 := t }) else none
  | [] => none

/-- Put a cell, its type and its 24 payload bytes, into E14's transmit queue of a lane, which holds 16 (R248). -/
def State.queueCell14 (s : State) (n type : Nat) (payload : List Nat) : State :=
  if (s.lane n).tx14.length ≥ 16 then s
  else s.modLane n fun l => { l with tx14 := l.tx14 ++ [type :: fit 24 payload] }

/-- The lanes of a mode-5 port that are UP. -/
def State.upLanes (s : State) (k : Nat) : List Nat :=
  if s.lineMode k ≠ 5 then [] else ((List.range 4).map fun j => 4 * k + j).filter fun n => s.laneAt n == 5

/-- HEARTBEAT_SEND (R251, R249): every 1 ms a heartbeat goes into the queue of every lane in UP; on a STRICT port only once MKA is
up. -/
def execHeartbeatSend (s : State) : Host.Outcome State Fault Refusal :=
  .next (if !s.due (s.line.lastBeatSent + 1000000) then s
    else
      let s := { s with line := { s.line with lastBeatSent := s.now } }
      let flags := b2n (s.get Reg.TIM_STAT_SOURCE != 0) + 2 * b2n (s.get Reg.TIM_STAT_CLK_STATE == 3)
      let payload := bytesBE 2 s.deviceId ++ bytesBE 4 (s.get Reg.TIM_EPOCH_EPOCH) ++ [flags]
      s.each ([0, 1].filter fun k => !s.strict k || s.mkaUp k) fun s k =>
        s.each (s.upLanes k) fun s n => s.queueCell14 n 4 payload)

/-- NEIGHBOUR_UNREACHABLE (R251): no valid heartbeat on any lane of the port for 3 ms, or the port is down. -/
def execNeighbourUnreachable (port : Nat) (s : State) : Host.Outcome State Fault Refusal :=
  .next (if !s.portUp port || s.due ((s.port port).lastBeat + 3000000) then s.neighbourLost port else s)

/-! ## Remote mute orders (R252) -/

/-- Send an order in 7 fragment cells on a port, on its lowest lane in UP. -/
def State.sendOrder (s : State) (k : Nat) (order : List Nat) (hops : Nat) : State :=
  match s.upLanes k with
  | [] => s
  | n :: _ => s.each (List.range 7) fun s i => s.queueCell14 n 3 ([i + 8 * 6, hops] ++ slice (fit 154 order) (22 * i) 22)

/-- MUTE_FRAGMENT (R252): a fragment joins the order being collected on its port; a whole order goes to Seawall. -/
def execMuteFragment (lane : Nat) (s : State) : Host.Outcome State Fault Refusal :=
  let k := portOf lane
  .next (match s.popCell lane 3 with
    | none => s
    | some (c, s) =>
      let idx := bits (nth c 2) 0 3
      let count := bits (nth c 2) 3 3 + 1
      let fresh : MuteParts := ⟨s.now, count, nth c 3, []⟩
      let m := match (s.port k).mute with
        | some m => if m.count = count ∧ m.hops = nth c 3 ∧ s.now < m.since + 1000000 then m else fresh
        | none => fresh
      let m := { m with parts := m.parts.set idx (slice c 4 22) }
      if count = 7 ∧ (List.range 7).all (fun i => m.parts.has i) then
        let order := ((List.range 7).flatMap fun i => m.parts.getD i []).take 152
        (s.modPort k fun p => { p with mute := none }).seaSubmit (.mute k order m.hops)
      else s.modPort k fun p => { p with mute := some m })

/-- FRAGMENT_TIMEOUT (R252): a set incomplete within 1 ms is discarded. -/
def execFragmentTimeout (port : Nat) (s : State) : Host.Outcome State Fault Refusal :=
  .next (match (s.port port).mute with
    | some m => if s.due (m.since + 1000000) then s.modPort port fun p => { p with mute := none } else s
    | none => s)

/-- LINE_RMUTE (R252, R263): Seawall checks the order, which is then applied and sent on. -/
def execLineRmute (h : Hdr) (addr : Nat) (s : State) : Host.Outcome State Fault Refusal :=
  .next (s.acceptNow h 0x74
    (firstFail [(addr % 8 == 0, St.misaligned), (!(s.upLanes 0 ++ s.upLanes 1).isEmpty, St.notReady)]) fun s =>
    s.seaSubmit (.cmd h (.lineRmute addr)))

/-! ## Line commands (R263) -/

/-- LINE_MODE (R263): the port's lanes go to DOWN and start again in the new mode. -/
def execLineMode (h : Hdr) (port mode : Nat) (train : Bool) (s : State) : Host.Outcome State Fault Refusal :=
  .next (s.acceptNow h 0x70
    (firstFail [(decide (port < 2 ∧ mode ≤ 5), St.range), (!(s.trip && mode != 0), St.notReady)]) fun s =>
    let lanes := (List.range 4).map fun j => 4 * port + j
    let s := s.each lanes fun s n => s.enterDown n
    let s := (s.put (Reg.LIN_PORT_CFG_MODE port) mode).put (Reg.LIN_PORT_CFG_TRAIN_EN port) (b2n train)
    let s := s.each lanes fun s n => s.laneStart n
    s.complete h 0x70 St.done)

/-- LINE_RESTART (R263): the named lanes go to DOWN and then to DETECT with a back-off of 1 ms. -/
def execLineRestart (h : Hdr) (mask : Nat) (s : State) : Host.Outcome State Fault Refusal :=
  .next (s.acceptNow h 0x71
    (firstFail [(decide (0 < mask ∧ mask < 256), St.range), (!s.trip, St.notReady)]) fun s =>
    let s := s.each (maskList mask 8) fun s n =>
      ((s.enterDown n).put (Reg.LIN_STAT_BACKOFF n) 1).laneStart n
    s.complete h 0x71 St.done)

/-- The 512 bytes of a lane snapshot (R263): 64 FFE taps and three MLSE taps of 16 bits, four registers, 64 histogram bins. -/
def State.snapshot (s : State) (n : Nat) : List Nat :=
  let l := s.lane n
  fit 512 ((l.ffe ++ l.mlse).flatMap (fun t => bytesLE 2 (ux 16 t)) ++ [0, 0] ++
    [Reg.LIN_TXFFE n, Reg.LIN_TXLVL n, Reg.LIN_MON n, Reg.LIN_OCC n].flatMap (fun r => bytesLE 4 (s.rd r)) ++
    (List.range 64).flatMap fun b => bytesLE 4 (s.rd (Reg.LIN_HIST n b)))

/-- LINE_SNAPSHOT (R263). -/
def execLineSnapshot (h : Hdr) (lane addr : Nat) (s : State) : Host.Outcome State Fault Refusal :=
  .next (s.acceptNow h 0x72
    (firstFail [(decide (lane < 8), St.range), (addr % 64 == 0, St.misaligned), (s.laneAt lane != 0, St.notReady)]) fun s =>
    (s.hostWrite addr (s.snapshot lane)).complete h 0x72 St.done)

/-- LINE_TEST (R263): the named lanes go to DOWN and send and check a pattern, until a stop. -/
def execLineTest (h : Hdr) (mask pattern addr : Nat) (s : State) : Host.Outcome State Fault Refusal :=
  .next (s.acceptNow h 0x73
    (firstFail [(decide (0 < mask ∧ mask < 256 ∧ pattern ≤ 4), St.range), (addr % 8 == 0, St.misaligned),
      (!(s.trip && pattern != 0), St.notReady)]) fun s =>
    let s := s.each (maskList mask 8) fun s n =>
      if pattern = 0 then
        if (s.lane n).test.isSome then
          ((s.put (Reg.LIN_STAT_TEST n) 0).modLane n fun l => { l with test := none }).laneStart n
        else s
      else ((s.enterDown n).setF (Reg.LIN_STAT_TEST n)).modLane n fun l => { l with test := some ⟨pattern, addr, 0, 0, s.now⟩ }
    s.complete h 0x73 St.done)

/-- LINE_TEST_REPORT (R263): every 10 ms a lane under test writes the bits checked and the errors. -/
def execLineTestReport (lane bits errors : Nat) (s : State) : Host.Outcome State Fault Refusal :=
  .next (match (s.lane lane).test with
    | none => s
    | some t =>
      if !s.due (t.lastAt + 10000000) then s
      else
        let t := { t with bits := t.bits + bits, errors := t.errors + errors, lastAt := s.now }
        let s := s.modLane lane fun l => { l with test := some t }
        s.when s.hostUp fun s => s.hostWrite t.addr (bytesLE 8 t.bits ++ bytesLE 8 t.errors))

end Sys2Proof.Machine
end

