-- ==== Sys2Proof/Machine/Fronthaul.lean ====
section
/-! DEFINITION. The fronthaul (R194 to R231): frames and their drops, C-plane and U-plane windows and sections, egress queues,
cooperative sets and partial sums, one-way delay measurement, MACsec and MKA, and the fronthaul commands. -/
namespace Sys2Proof.Machine
open Sys2Proof

/-! ## Drops and egress (R197, R198) -/

/-- Count a drop of reason r of `FTH_CNT` on a port, for the counters, the latched flags and the 10 ms summary (R198). -/
def State.fthDrop (s : State) (port r : Nat) : State :=
  let s := s.add64 (Reg.FTH_CNT r) 1
  let key := port * 16 + r
  let s := { s with fh := { s.fh with drops := s.fh.drops.set key (s.fh.drops.getD key 0 + 1) } }
  match r with
  | 3 => s.setF Reg.FTH_ERR_UNSUPPORTED
  | 4 => s.setF Reg.FTH_ERR_LATE
  | 5 => s.setF Reg.FTH_ERR_EARLY
  | 6 => s.setF Reg.FTH_ERR_ORPHAN
  | 10 => s.setF Reg.FTH_ERR_PSUM_LATE
  | 12 => s.setF Reg.FTH_ERR_MACSEC_DROP
  | 13 => s.setF Reg.FTH_ERR_MACSEC_DROP
  | 15 => s.setF Reg.FTH_ERR_QUEUE_DROP
  | _ => s

/-- Whether a line port carries fronthaul. -/
def State.fthOn (s : State) (port : Nat) : Bool :=
  if port = 0 then s.on Reg.FTH_CFG_EN_EAST else s.on Reg.FTH_CFG_EN_WEST

/-- Whether a frame is EAPOL, which a STRICT port passes without an SA (R226, R228). -/
def FrameOut.isEapol : FrameOut → Bool
  | .eapol _ _ => true
  | _ => false

/-- Put a frame into an egress queue of a port, 0 and 1 line ports, 2 and 3 the Culvert ring (R197, R279): a port that is down or
unsecured, and a full queue, drop it. -/
def State.fhSend (s : State) (port q : Nat) (f : FrameOut) : State :=
  if port ≥ 2 then
    if s.get (Reg.CUL_LINK_STAT_STATE (port - 2)) = 2 then s.culSend (port - 2) 2 (.set f) else s.fthDrop port 15
  else
    let key := port * 4 + q
    let l := s.fh.queues.getD key []
    if !s.portUp port || (s.strict port && !s.on (Reg.FTH_MSEC_STAT_SECURED port) && !f.isEapol) ||
        decide (l.length ≥ Config.egressDepth) then s.fthDrop port 15
    else { s with fh := { s.fh with queues := s.fh.queues.set key (l ++ [f]) } }

/-- MACsec of a port before its first SA. -/
def MsecPort.initial : MsecPort := ⟨[], [], 1, 1, false, 0, 0, false, none⟩

/-- MACsec of a port. -/
def State.msec (s : State) (k : Nat) : MsecPort := s.fh.msec.getD k MsecPort.initial

/-- Change MACsec of a port. -/
def State.modMsec (s : State) (k : Nat) (f : MsecPort → MsecPort) : State :=
  { s with fh := { s.fh with msec := s.fh.msec.set k (f (s.msec k)) } }

/-- The packet number at which a new SAK is asked for (R228). -/
def rekeyPn : Nat := 0xC000000000000000

/-- The frames in a port's queues leave in strict priority (R197): each is counted, and on a STRICT port takes a packet number; the
number of R228 asks for a new SAK. -/
def State.fhDrain (s : State) (port : Nat) : State :=
  let n := sumL ((List.range 4).map fun q => (s.fh.queues.getD (port * 4 + q) []).length)
  if n = 0 then s
  else
    let s := s.each (List.range 4) fun s q => { s with fh := { s.fh with queues := s.fh.queues.set (port * 4 + q) [] } }
    let s := s.add64 (Reg.FTH_CNT 1) n
    s.when (s.strict port) fun s => s.modMsec port fun m =>
      { m with txPn := m.txPn + n, rekeying := m.rekeying || (decide (m.txPn < rekeyPn) && decide (rekeyPn ≤ m.txPn + n)) }

/-- The port toward the DU. -/
def State.duPort (s : State) : Nat := s.get Reg.FTH_CFG_DU_PORT

/-- The next sequence ID of a sent flow, and the state after it is used: numbered from 0 (R201). -/
def State.nextSeq (s : State) (key : Nat) : Nat × State :=
  let n := match s.fh.sent.get? key with
    | some f => (f.last + 1) % 256
    | none => 0
  (n, { s with fh := { s.fh with sent := s.fh.sent.set key ⟨n, s.now, s.duPort⟩ } })

/-! ## Cooperative sets (R215 to R217) -/

/-- State of a set: 0 not enabled, 1 FORMING, 2 ACTIVE, 3 DISSOLVED. -/
def State.setState (s : State) (k : Nat) : Nat := bits (s.rd64 Reg.FTH_SET_STATE) (2 * k) 2

/-- Move a set to a state and raise its record (R217, R230). -/
def State.moveSet (s : State) (k new cause : Nat) : State :=
  let old := s.setState k
  let id := match s.fh.sets.get? k with
    | some c => c.setId
    | none => 0
  let s := s.wr64 Reg.FTH_SET_STATE (putBits (s.rd64 Reg.FTH_SET_STATE) (2 * k) 2 new)
  if old = new then s else s.event 0x0028 0x0604 ([k] ++ bytesLE 2 id ++ [old, new, cause])

/-- Whether any cooperative set is enabled. -/
def State.anySet (s : State) : Bool := !s.fh.sets.isEmpty

/-- Whether a set covers a layer of a carrier in a direction (1 uplink). -/
def setCovers (c : CoopSetCmd) (dir carrier layer : Nat) : Bool :=
  (if dir = 0 then c.dl else c.ul) && bit c.carriers carrier && decide (c.first ≤ layer ∧ layer < c.first + c.layers)

/-- The enabled set of a layer. -/
def State.setOf (s : State) (dir carrier layer : Nat) : Option (Nat × CoopSetCmd) :=
  s.fh.sets.find? fun e => setCovers e.2 dir carrier layer

/-! ## Culvert load (R280) -/

/-- What a carrier and direction uses on the fronthaul; before its `FH_CARRIER`, PER_LAYER with headers in the U-plane. -/
def State.fhCfg (s : State) (dir c : Nat) : FhCfg := s.fh.cfg.getD (dir * 8 + c) ⟨false, 0, 0, false⟩

/-- Mantissa width of a coded width (R207): 0 stands for 16. -/
def iqWidth (w : Nat) : Nat := if w = 0 then 16 else w

/-- Bytes of one PRB (R213): 3w + 1 for BFP, 3w for modulation compression, 48 for none. -/
def prbBytes (method width : Nat) : Nat :=
  if method = 1 then 3 * iqWidth width + 1 else if method = 4 then 3 * width else 48

/-- PRBs of one frame of `MAX_FRAME` bytes (R213). -/
def State.framePrbs (s : State) (b : Nat) : Nat := max 1 ((s.get Reg.FTH_CFG_MAX_FRAME - 72) / b)

/-- Blocks of a Culvert frame of c content bytes (R277). -/
def culBlocks (c : Nat) : Nat := ceilDiv (c + 8) 8 + 1

/-- Blocks of n PRBs cut into messages of at most k, with b bytes a PRB and an overhead of h bytes a frame. -/
def cutBlocks (n k b h : Nat) : Nat :=
  n / k * culBlocks (h + k * b) + (if n % k = 0 then 0 else culBlocks (h + n % k * b))

/-- PRBs of a carrier index in a direction, on the first tile that has it. -/
def State.carrierPrb (s : State) (dir c : Nat) : Nat :=
  if dir = 0 then ((s.tx.carriers.find? fun e => e.1 % 8 == c).map fun e => e.2.nprb).getD 0
  else ((s.rx.carriers.find? fun e => e.1 % 8 == c).map fun e => e.2.nprb).getD 0

/-- `NUM` of a carrier index in a direction, where it is enabled. -/
def State.carrierNum (s : State) (dir c : Nat) : Option Nat :=
  if dir = 0 then (s.tx.carriers.find? fun e => e.1 % 8 == c).map fun e => e.2.num
  else (s.rx.carriers.find? fun e => e.1 % 8 == c).map fun e => e.2.num

/-- Bits of one symbol's traffic of a set out of its `DOWN_PORT` (R280): partial sums of its uplink layers, U-plane of its
downlink layers. -/
def State.setBits (s : State) (c : CoopSetCmd) : Nat :=
  64 * c.layers * sumL ((maskList c.carriers 8).map fun k =>
    (if c.ul then cutBlocks (s.carrierPrb 1 k) c.segPrb 50 46 else 0) +
    (if c.dl then
      let f := s.fhCfg 0 k
      let b := if f.static then prbBytes f.method f.width else 48
      cutBlocks (s.carrierPrb 0 k) (s.framePrbs b) b (if f.static then 38 else 40)
    else 0))

/-- B of a Culvert direction, 0 PREV and 1 NEXT, for a list of sets (R280). -/
def State.burstBits (s : State) (sets : Tab CoopSetCmd) (link : Nat) : Nat :=
  sumL ((sets.filter fun e => e.2.downPort == link + 2).map fun e => s.setBits e.2)

/-- Whether a burst fits a number of lanes (R280): at 51.5120 Gb/s a lane, within 0.9 of the shortest tick. -/
def State.burstFits (s : State) (b lanes : Nat) : Bool := decide (b * 10000 ≤ 9 * s.shortest * 51512 * lanes)

/-- The fewest lanes a direction needs, never fewer than one (R284). -/
def State.lanesNeeded (s : State) (sets : Tab CoopSetCmd) (link : Nat) : Nat :=
  ((List.range' 1 6).find? fun n => s.burstFits (s.burstBits sets link) n).getD 6

/-! ## Flows and windows (R201, R209) -/

/-- What a sequence ID says on a flow (R201): whether it is a duplicate, and how many messages were lost. -/
def seqStep (last : Option Nat) (seq : Nat) : Bool × Nat × Bool :=
  match last with
  | none => (false, 0, true)
  | some l =>
    let d := (seq + 256 - l % 256) % 256
    if d = 0 then (true, 0, false) else if d < 128 then (false, d - 1, true) else (false, 0, false)

/-- The last sequence ID of a received flow: none where it has carried nothing for 1 s. -/
def State.flowLast (s : State) (key : Nat) : Option Nat :=
  match s.fh.flows.get? key with
  | some f => if s.due (f.at_ + 1000000000) then none else some f.last
  | none => none

/-- Take a message's sequence ID (R201): none where it is a duplicate, which is dropped. -/
def State.takeSeq (s : State) (port key seq : Nat) : Bool × State :=
  let r := seqStep (s.flowLast key) seq
  if r.1 then (false, s.fthDrop port 9)
  else
    let s := s.add64 (Reg.FTH_CNT 8) r.2.1
    let last := if r.2.2 then seq else (s.flowLast key).getD seq
    (true, { s with fh := { s.fh with flows := s.fh.flows.set key ⟨last, s.now, port⟩ } })

/-- The fields of an eAxC ID (R210): band sector, carrier, RU port. -/
def State.eaxcRu (s : State) (id : Nat) : Nat := id % 2 ^ s.get Reg.FTH_EAXC_CFG_RU_BITS
def State.eaxcCc (s : State) (id : Nat) : Nat :=
  bits id (s.get Reg.FTH_EAXC_CFG_RU_BITS) (s.get Reg.FTH_EAXC_CFG_CC_BITS)
def State.eaxcBs (s : State) (id : Nat) : Nat :=
  bits id (s.get Reg.FTH_EAXC_CFG_RU_BITS + s.get Reg.FTH_EAXC_CFG_CC_BITS) (s.get Reg.FTH_EAXC_CFG_BS_BITS)

/-- The eAxC ID with another RU port. -/
def State.eaxcWithRu (s : State) (id ru : Nat) : Nat := putBits id 0 (s.get Reg.FTH_EAXC_CFG_RU_BITS) ru

/-- Ticks a symbol of a numerology spans (R18). -/
def State.symSpan (s : State) (num : Nat) : Nat := s.spanOf num

/-- The first tick of a symbol named by frame ID, subframe, slot and symbol (R209, R18): the frame nearest to the current air time. -/
def State.symbolTick (s : State) (num frameId subframe slot symbol : Nat) : Int :=
  let full := s.frame + sx 8 (ux 8 ((frameId : Int) - s.frame))
  let span := s.symSpan num
  let slots := s.tpf / 10 / (s.tps * span)
  full * s.tpf + ((subframe * slots + slot) * s.tps + symbol) * span

/-- The ticks at which the window of a message for tick n opens and closes (R209). -/
def State.windowOf (s : State) (n : Int) (uplane uplink : Bool) : Int × Int :=
  let adv : Int := s.arch.tAdv
  if uplane then (n - adv - 8, n - adv)
  else ((n / s.tps - s.get Reg.FTH_CFG_CP_EARLY) * s.tps, if uplink then n - 2 else n - adv)

/-- Whether a message for tick n arrives early (5), late (4) or in its window (none). -/
def State.windowFail (s : State) (n : Int) (uplane uplink : Bool) : Option Nat :=
  let w := s.windowOf n uplane uplink
  if s.absTick < w.1 then some 5 else if w.2 ≤ s.absTick then some 4 else none

/-! ## Sections (R204, R205) -/

/-- The PRBs a section covers (R204, R205). -/
def FhSection.prbs (c : FhSection) : List Nat :=
  let l := (List.range c.numPrb).map fun i => c.startPrb + i
  match c.rbg with
  | none => l
  | some (size, mask, _) => l.filter fun p => bit mask (27 - (p - c.startPrb) / max 1 size)

/-- The first ticks of the symbols a section covers. -/
def FhSection.ticks (c : FhSection) : List Int :=
  ((List.range c.symbols).filter fun i =>
    match c.rbg with
    | none => true
    | some (_, _, m) => bit m i).map fun (i : Nat) => c.tick + ((i * c.span : Nat) : Int)

/-- The last tick a section touches. -/
def FhSection.last (c : FhSection) : Int := c.tick + ((c.symbols * c.span : Nat) : Int)

/-- Whether two sections of one eAxC meet on a PRB and symbol with overlapping reMasks (R204). -/
def sectionsMeet (a b : FhSection) : Bool :=
  a.eaxc == b.eaxc && a.uplink == b.uplink && (a.reMask &&& b.reMask) != 0 &&
    a.ticks.any (fun t => b.ticks.contains t) && a.prbs.any (fun p => b.prbs.contains p)

/-- Whether a compression method and width is supported in a direction (R207). -/
def compOk (uplink : Bool) (method width : Nat) : Bool :=
  match method with
  | 0 => width == 0
  | 1 => [8, 9, 12, 14, 0].contains width
  | 4 => !uplink && decide (1 ≤ width ∧ width ≤ 5)
  | _ => false

/-- Method and width of a udCompHdr byte, laid out as in O-RAN: width in the high nibble. -/
def compMethod (h : Nat) : Nat := h % 16
def compWidth (h : Nat) : Nat := h / 16 % 16

/-- Whether the extensions of a section are accepted (R205). -/
def extsOk (uplink : Bool) (method : Nat) (l : List SectionExt) : Bool :=
  l.all fun e => match e with
    | .modComp _ => !uplink && method == 4
    | .modCompAdd n => !uplink && method == 4 && decide (n ≤ 2)
    | .nonContiguous _ _ _ => true
    | .group k _ => decide (k ≤ 1)
    | .weights _ => false
    | .other _ => false

/-- The non-contiguous allocation of a section, if it has one. -/
def rbgOf (l : List SectionExt) : Option (Nat × Nat × Nat) :=
  l.findSome? fun e => match e with
    | .nonContiguous a b c => some (a, b, c)
    | _ => none

/-- The beams of the further ports of a group configuration. -/
def groupBeams (l : List SectionExt) : List Nat :=
  l.flatMap fun e => match e with
    | .group _ b => b
    | _ => []

/-- Whether a type 3 section matches an enabled occasion in carrier, slot, spacing and frequency offset, with one of its beams
(R206). -/
def State.acdMatches (s : State) (carrier scs slot beam : Nat) (freq : Int) : Bool :=
  s.beam.acd.any fun e =>
    let c := e.2
    c.carrier == carrier && c.scs == scs && bit c.slotMask slot && decide (c.beamFirst ≤ beam ∧ beam < c.beamFirst + c.beams) &&
      (List.range c.fdm).any fun f =>
        let w := ceilDiv (prachLen c.format) 12
        freq == ((c.prbStart + f * w) * 12 * 2 : Nat) - (s.carrierPrb 1 carrier * 12 : Nat)

/-- Whether the layer's set comes from its own traffic: the band sector it must carry (R210). -/
def State.sectorOk (s : State) (set : Option Nat) (id : Nat) : Bool :=
  match set with
  | none => s.eaxcBs id == s.get Reg.FTH_EAXC_CFG_BS_ID
  | some k => match s.fh.sets.get? k with
    | some c => s.eaxcBs id == c.bs
    | none => false

/-- The checks of a message's eAxC ID (R210, R212); type 3 sections may name any RU port. -/
def State.eaxcOk (s : State) (set : Option Nat) (id : Nat) (uplink type3 : Bool) : Bool :=
  let cc := s.eaxcCc id
  let dir := if uplink then 1 else 0
  s.sectorOk set id && decide (cc < 8) && (s.carrierNum dir cc).isSome &&
    (type3 || (if uplink && (s.fhCfg 1 cc).whole then s.eaxcRu id == 0
      else match s.beam.sets.get? (dir * 8 + cc) with
        | some l => decide (s.eaxcRu id < l.layers)
        | none => false))

/-- A frame of a set's traffic (R218): one that arrives on `UP_PORT` is forwarded out of `DOWN_PORT`; none is taken from
`DOWN_PORT`. The flag says whether the member goes on to process it. -/
def State.setFrame (s : State) (set : Option Nat) (port seq : Nat) : Bool × State :=
  match set with
  | none => (decide (port < 2) && s.fthOn port, s)
  | some k => match s.fh.sets.get? k with
    | none => (false, s.fthDrop port 3)
    | some c =>
      if port = c.upPort then
        (true, if c.downPort = 255 then s
          else (s.fhSend c.downPort 1 (.forwarded k seq)).add64 (Reg.FTH_CNT 14) 1)
      else (false, s.fthDrop port 3)

/-- Whether a beam ID is above 4,095 without paging (R130). -/
def State.idRefused (s : State) (beam : Nat) : Bool := !s.on Reg.BFM_CFG_PAGING && decide (beam > 4095)

/-- Keep a section of a C-plane message (R204 to R206, R209): one section for each port of a group configuration, whose further ports
follow the eAxC of the message (PRESUMED, O-RAN); the layer of a refused extension or beam ID is blanked there (R130, R205). -/
def State.takeSection (s : State) (m : CPlaneIn) (num : Nat) (sym : Nat) (c : CSection) : State :=
  let cc := s.eaxcCc m.eaxc
  let dir := if m.uplink then 1 else 0
  let f := s.fhCfg dir cc
  let method := if f.static then f.method else if m.uplink then compMethod m.compHdr else 4
  let prbs := s.carrierPrb dir cc
  let n := if c.numPrb = 0 then prbs - c.startPrb else c.numPrb
  let span := s.symSpan num
  let tick := s.symbolTick num m.sfn m.subframe m.slot sym
  let ru := s.eaxcRu m.eaxc
  let refused := !extsOk m.uplink method c.exts
  let one := fun (i beam : Nat) =>
    let x : FhSection := ⟨m.set, s.eaxcWithRu m.eaxc (ru + i), m.uplink, m.sectionType, c.id, cc, ru + i, beam, tick, span, c.numSymbol,
      c.startPrb, n, rbgOf c.exts, c.reMask, m.compHdr, m.port, refused || (m.sectionType == 1 && s.idRefused beam), [], []⟩
    x
  let secs := one 0 c.beamId :: (groupBeams c.exts).zipIdx.map fun b => one (b.2 + 1) b.1
  let bad := c.rb ≠ 0 ∨ c.numSymbol = 0 ∨ c.numSymbol > 14 ∨ (m.sectionType ≠ 3 ∧ c.startPrb + n > prbs)
  let whole := m.uplink && f.whole
  if bad then s.fthDrop m.port 3
  else if whole && (c.beamId != 0 || s.eaxcRu m.eaxc != 0) then s.fthDrop m.port 3
  else if m.sectionType = 3 && !s.acdMatches cc m.scs (m.subframe * (s.tpf / 10 / (s.tps * span)) + m.slot) c.beamId c.freqOffset then
    s.fthDrop m.port 3
  else if s.fh.sections.any (fun x => secs.any (sectionsMeet x)) then s.fthDrop m.port 3
  else if s.fh.sections.length + secs.length > 8192 then s
  else
    let s := s.when refused fun s => s.fthDrop m.port 3
    let s := s.when (m.sectionType == 1 && !whole && secs.any fun x => s.idRefused x.beam) fun s => s.setF Reg.BFM_ERR_ID_REFUSED
    let s := { s with fh := { s.fh with sections := s.fh.sections ++ secs } }
    if m.sectionType = 1 && !whole then
      s.each (secs.filter fun x => !x.blanked) fun s x => s.demandPage x.beam x.last
    else s

/-- CPLANE_MESSAGE (R200, R201, R203 to R206, R209, R210, R218). -/
def execCplaneMessage (m : CPlaneIn) (s : State) : Host.Outcome State Fault Refusal :=
  let r := s.setFrame m.set m.port m.seq
  let s := r.2
  let dir := if m.uplink then 1 else 0
  .next (if !r.1 then s
    else
      let typeOk := match m.sectionType with
        | 0 => true
        | 1 => m.filterIndex == 0
        | 3 => m.uplink && m.filterIndex != 0
        | _ => false
      let cc := s.eaxcCc m.eaxc
      if !m.eBit || m.subSeq != 0 || m.version != 1 || !typeOk || !s.eaxcOk m.set m.eaxc m.uplink (m.sectionType == 3) ||
          (m.uplink && m.sectionType != 0 && !(s.fhCfg 1 cc).static && !compOk true (compMethod m.compHdr) (compWidth m.compHdr)) then
        s.fthDrop m.port 3
      else
        let q := s.takeSeq m.port (2 * 2 ^ 20 + dir * 2 ^ 18 + m.eaxc) m.seq
        if !q.1 then q.2
        else match q.2.carrierNum dir cc with
          | none => q.2
          | some num =>
            let n := q.2.symbolTick num m.sfn m.subframe m.slot m.symbol
            match q.2.windowFail n false m.uplink with
            | some d => q.2.fthDrop m.port d
            | none =>
              (m.sections.foldl (fun (a : State × Nat) c =>
                let sym := if c.symInc then a.2 + 1 else a.2
                (a.1.takeSection m num sym c, sym)) (q.2, m.symbol)).1)

/-- Whether a section asks for modulation compression with a width outside 1 to 5 (R43). -/
def badModComp (static : Bool) (h : Option Nat) : Bool :=
  match h with
  | some h => !static && compMethod h == 4 && !compOk false 4 (compWidth h)
  | none => false

/-- A modulation-compressed section is dropped on every tile that has its carrier (R43). -/
def State.modCompDrop (s : State) (c : Nat) : State :=
  s.each (s.tilesWith 0 c) fun s n =>
    let s := s.setF (Reg.TIL_TX_STAT_MODC_DROP n)
    { s with tx := { s.tx with satFlags := s.tx.satFlags.set n (putBit (s.tx.satFlags.getD n 0) 1 true) } }

/-- UPLANE_MESSAGE (R200, R201, R207 to R209, R218): each section marks the PRBs of a pending C-plane section as arrived. -/
def execUplaneMessage (m : UPlaneIn) (s : State) : Host.Outcome State Fault Refusal :=
  let r := s.setFrame m.set m.port m.seq
  let s := r.2
  .next (if !r.1 then s
    else if !m.eBit || m.subSeq != 0 || m.version != 1 || !s.eaxcOk m.set m.eaxc false false then s.fthDrop m.port 3
    else
      let q := s.takeSeq m.port m.eaxc m.seq
      let s := q.2
      let cc := s.eaxcCc m.eaxc
      let f := s.fhCfg 0 cc
      if !q.1 then s
      else match s.carrierNum 0 cc with
        | none => s
        | some num =>
          let n := s.symbolTick num m.sfn m.subframe m.slot m.symbol
          match s.windowFail n true false with
          | some d => s.fthDrop m.port d
          | none => s.each m.sections fun s u =>
            let comp := if f.static then u.compHdr.isNone
              else match u.compHdr with
                | some h => compOk false (compMethod h) (compWidth h)
                | none => false
            if u.rb ≠ 0 ∨ !comp then (s.when (badModComp f.static u.compHdr) fun s => s.modCompDrop cc).fthDrop m.port 3
            else if !s.fh.sections.any (fun c => c.eaxc == m.eaxc && c.id == u.id && !c.uplink && c.ticks.contains n) then
              s.fthDrop m.port 6
            else
              let cnt := if u.numPrb = 0 then s.carrierPrb 0 cc - u.startPrb else u.numPrb
              { s with fh := { s.fh with sections := s.fh.sections.map fun c =>
                if c.eaxc == m.eaxc && c.id == u.id && !c.uplink && c.ticks.contains n then
                  { c with arrived := c.arrived ++ [(n, u.startPrb, cnt)] }
                else c } })

/-- PRBs of a symbol of a downlink section whose U-plane has not arrived. -/
def FhSection.missing (c : FhSection) (n : Int) : Nat :=
  (c.prbs.filter fun p => !c.arrived.any fun a => a.1 == n && decide (a.2.1 ≤ p ∧ p < a.2.1 + a.2.2)).length

/-- CPLANE_WINDOW_CLOSE at a tick (R209): the PRBs of the symbols whose window closes now without U-plane are zero and counted. -/
def State.closeWindows (s : State) : State :=
  let n := s.absTick + s.arch.tAdv
  let miss := sumL ((s.fh.sections.filter fun c => !c.uplink && c.kind == 1 && !c.blanked && c.ticks.contains n).map
    fun c => c.missing n)
  let s := s.when (miss != 0) fun s => (s.add64 (Reg.FTH_CNT 7) miss).setF Reg.FTH_ERR_MISSING_U
  { s with fh := { s.fh with sections := s.fh.sections.filter fun c => decide (s.absTick ≤ c.last + 3) } }

/-! ## Partial sums (R220 to R225) -/

/-- rnd(x / 2^k): nearest, ties away from zero (R223). -/
def rndShift (x : Int) (k : Nat) : Int := divRound x (2 ^ k)

/-- Whether a value is a 16-bit mantissa. -/
def fits16 (x : Int) : Bool := decide (-32768 ≤ x ∧ x ≤ 32767)

/-- The block of one PRB from its 24 values in units of 2^-16 LSB (R223). -/
def ownBlock (vs : List Int) : PsBlock :=
  let e := ((List.range 32).find? fun e => vs.all fun v => fits16 (rndShift v (16 + e))).getD 31
  ⟨e, vs.map fun v => satS 16 (rndShift v (16 + e))⟩

/-- The sum of two blocks at an exponent. -/
def sumAt (a b : PsBlock) (e : Nat) : List Int :=
  a.mant.zipWith (fun x y => rndShift x (e - a.exp) + rndShift y (e - b.exp)) b.mant

/-- The sum of two blocks, and whether it saturated (R224). -/
def addBlocks (a b : PsBlock) : PsBlock × Bool :=
  let e := max a.exp b.exp
  let l := sumAt a b e
  if l.all fits16 then (⟨e, l⟩, false)
  else
    let e' := min 31 (e + 1)
    let l' := sumAt a b e'
    (⟨e', l'.map (satS 16)⟩, !l'.all fits16)

/-- A final element in Q1.15 (R225), and whether it saturated. -/
def finalValue (m : Int) (e shift : Nat) : Int × Bool :=
  let q := rndShift (m * 2 ^ e) shift
  (satS 16 q, !fits16 q)

/-- The final block of one PRB: its Q1.15 values, compressed under R115 where the section uses BFP. -/
def finalBlock (b : PsBlock) (shift method width : Nat) : PsBlock × Bool :=
  let vs := b.mant.map fun m => finalValue m b.exp shift
  let q := vs.map Prod.fst
  let w := iqWidth width
  (if method = 1 then ⟨bfpExp w q, bfpMantissas w q⟩ else ⟨0, q⟩, vs.any Prod.snd)

/-- Bits of positions below n. -/
def chainMask (n : Nat) : Nat := 2 ^ n - 1

/-- Method and width of an uplink section on the wire (R208). -/
def State.ulComp (s : State) (c : FhSection) : Nat × Nat :=
  let f := s.fhCfg 1 c.carrier
  if f.static then (f.method, f.width) else (compMethod c.compHdr, compWidth c.compHdr)

/-- Send a final sum to the DU as U-plane (R217, R220, R225). -/
def State.sendFinal (s : State) (set : Nat) (c : CoopSetCmd) (m : PartialSum) (tick : Int) : State :=
  match s.fh.sections.find? fun x => x.uplink && x.id == m.sectionId && x.carrier == m.carrier && x.layer == m.layer &&
      x.ticks.contains tick with
  | none => s
  | some x =>
    let comp := s.ulComp x
    let bs := m.blocks.map fun b => finalBlock b c.finalShift comp.1 comp.2
    let s := s.when (bs.any Prod.snd) fun s => s.setF Reg.FTH_ERR_SUM_SAT
    let q := s.nextSeq x.eaxc
    let full := chainMask c.members
    let s := q.2.fhSend s.duPort 2 (.uplane x.eaxc q.1 m.sectionId m.startPrb m.blocks.length tick
      (if (s.fhCfg 1 x.carrier).static then none else some x.compHdr) (some (bs.map Prod.fst)))
    if s.setState set = 2 ∧ m.contrib ≠ full then
      let s := (s.add64 (Reg.FTH_CNT 11) 1).setF Reg.FTH_ERR_PARTIAL_SET
      let old := ((s.fh.finals.find? fun e => e.1 == set && e.2.1 == tick).map fun e => e.2.2).getD full
      { s with fh := { s.fh with finals :=
        (set, tick, old &&& m.contrib) :: s.fh.finals.filter fun e => !(e.1 == set && e.2.1 == tick) } }
    else s

/-- Send a sum on (R220, R221): downstream, or, at the tail, to the DU. -/
def State.sendSum (s : State) (set : Nat) (c : CoopSetCmd) (m : PartialSum) (tick : Int) : State :=
  let m := { m with partialSet := m.partialSet || (m.contrib &&& chainMask (c.position + 1)) != chainMask (c.position + 1) }
  if c.downPort = 255 then s.sendFinal set c m tick
  else
    let q := s.nextSeq (0x40 * 2 ^ 20 + set)
    q.2.fhSend c.downPort 1 (.partialSum set { m with seq := q.1, sender := c.position })

/-- The message of a member's own contribution alone. -/
def ownMessage (c : CoopSetCmd) (o : OwnSum) (sfn slot symbol : Nat) (bs : List PsBlock) : PartialSum :=
  ⟨c.setId, 0, false, o.tainted, o.partialPaths, sfn, slot, symbol, o.carrier, o.layer, c.position, o.startPrb, o.sectionId,
    2 ^ c.position, bs⟩

/-- SFN, slot and symbol of a tick at a carrier's numerology. -/
def State.symbolName (s : State) (carrier : Nat) (tick : Int) : Nat × Nat × Nat :=
  let span := match s.carrierNum 1 carrier with
    | some num => s.symSpan num
    | none => 1
  let t := (tick % s.tpf).toNat / span
  (ux 10 (tick / s.tpf), t / s.tps, t % s.tps)

/-- Forward a member's own contribution alone (R25, R217, R220). -/
def State.sendOwn (s : State) (c : CoopSetCmd) (o : OwnSum) : State :=
  match o.blocks with
  | none => s
  | some bs =>
    let nm := s.symbolName o.carrier o.tick
    let m := ownMessage c o nm.1 nm.2.1 nm.2.2 bs
    if s.setState o.set = 2 then s.sendSum o.set c m o.tick else s.sendFinal o.set c m o.tick

/-- Take an own contribution formed at tick n + 2 (R220): the head, and a member whose set is not ACTIVE, send it at once; the
others hold it for the upstream sum. -/
def State.takeOwn (s : State) (o : OwnSum) : State :=
  match s.fh.sets.get? o.set with
  | none => s
  | some c =>
    if c.position = 0 ∨ s.setState o.set ≠ 2 then s.sendOwn c o
    else { s with fh := { s.fh with own := s.fh.own ++ [o] } }

/-- The own contributions of one range of a layer, cut at `SEG_PRB` boundaries (R222, R223). -/
def cutOwn (c : CoopSetCmd) (x : Contribution) : List OwnSum :=
  (List.range (ceilDiv x.values.length (max 1 c.segPrb))).map fun i =>
    ⟨x.set, x.carrier, x.layer, x.sectionId, x.startPrb + i * c.segPrb, x.tick,
      some (((x.values.drop (i * c.segPrb)).take c.segPrb).map ownBlock), x.tainted, x.partialPaths⟩

/-- Add a member's own contribution to an upstream sum and send it on (R221, R224). -/
def State.combine (s : State) (set : Nat) (c : CoopSetCmd) (m : PartialSum) (tick : Int) : State :=
  let isOwn := fun (o : OwnSum) => o.set == set && o.carrier == m.carrier && o.layer == m.layer && o.sectionId == m.sectionId &&
    o.tick == tick && o.startPrb == m.startPrb
  match s.fh.own.find? isOwn with
  | none => s.sendSum set c m tick
  | some o =>
    let s := { s with fh := { s.fh with own := s.fh.own.filter fun x => !isOwn x } }
    match o.blocks with
    | none => s.sendSum set c m tick
    | some bs =>
      let r := m.blocks.zipWith addBlocks bs
      let s := s.when (r.any Prod.snd) fun s => s.setF Reg.FTH_ERR_PSUM_SAT
      s.sendSum set c { m with blocks := r.map Prod.fst, contrib := putBit m.contrib c.position true,
                               tainted := m.tainted || o.tainted, partialPaths := m.partialPaths || o.partialPaths } tick

/-- Device time at which the hold of tick n ends (R25). -/
def State.holdEnd (s : State) (n : Int) : Nat := s.tickTime (n + 2) + 45000

/-- PARTIAL_SUM_MESSAGE (R201, R220 to R222, R25): checked against its set, held until tick n + 2, then combined and forwarded. -/
def execPartialSumMessage (port : Nat) (m : PartialSum) (s : State) : Host.Outcome State Fault Refusal :=
  .next (match s.fh.sets.find? fun e => e.2.setId == m.setId with
    | none => s.fthDrop port 3
    | some (k, c) =>
      if !c.ul || port ≠ c.upPort || m.sender + 1 ≠ c.position || m.blocks.isEmpty || decide (m.blocks.length > c.segPrb) ||
          !setCovers c 1 m.carrier m.layer || decide (m.startPrb + m.blocks.length > s.carrierPrb 1 m.carrier) then
        s.fthDrop port 3
      else
        let q := s.takeSeq port (0x40 * 2 ^ 20 + k * 256 + m.sender) m.seq
        let s := q.2
        if !q.1 || s.setState k ≠ 2 then s
        else match s.carrierNum 1 m.carrier with
          | none => s
          | some num =>
            let full := s.frame + sx 10 (ux 10 ((m.sfn : Int) - s.frame))
            let tick := full * s.tpf + (((m.slot * s.tps + m.symbol) * s.symSpan num : Nat) : Int)
            if s.due (s.holdEnd tick) then s.fthDrop port 10
            else if s.absTick < tick + 2 then { s with fh := { s.fh with early := s.fh.early ++ [(k, m)] } }
            else s.combine k c m tick)

/-- The tick of a partial sum. -/
def State.sumTick (s : State) (m : PartialSum) : Int :=
  let full := s.frame + sx 10 (ux 10 ((m.sfn : Int) - s.frame))
  let span := match s.carrierNum 1 m.carrier with
    | some num => s.symSpan num
    | none => 1
  full * s.tpf + (((m.slot * s.tps + m.symbol) * span : Nat) : Int)

/-- At a tick, the upstream sums of symbol n = tick − 2 that came early are added (R231). -/
def State.flushEarly (s : State) : State :=
  let l := s.fh.early
  let ready := fun (e : Nat × PartialSum) => decide (s.sumTick e.2 + 2 ≤ s.absTick)
  let s' := { s with fh := { s.fh with early := l.filter fun e => !ready e } }
  s'.each (l.filter ready) fun s e =>
    match s.fh.sets.get? e.1 with
    | some c => if s.setState e.1 = 2 then s.combine e.1 c e.2 (s.sumTick e.2) else s
    | none => s

/-- COMBINING_HOLD_END (R25, R221): 45,000 ns after tick n + 2 what is still held goes on alone, flagged partial-set, and the miss is
counted; the tail raises the partial-set record of the symbol. -/
def execCombiningHoldEnd (set : Nat) (tick : Int) (s : State) : Host.Outcome State Fault Refusal :=
  .next (match s.fh.sets.get? set with
    | none => s
    | some c =>
      if !s.due (s.holdEnd tick) then s
      else
        let mine := s.fh.own.filter fun o => o.set == set && o.tick == tick
        let s := { s with fh := { s.fh with own := s.fh.own.filter fun o => !(o.set == set && o.tick == tick) } }
        let s := s.each mine fun s o => (s.sendOwn c o).add64 (Reg.FTH_CNT 10) 1
        let s := s.when (!mine.isEmpty) fun s => s.setF Reg.FTH_ERR_PSUM_LATE
        match s.fh.finals.find? fun e => e.1 == set && e.2.1 == tick with
        | none => s
        | some e =>
          let s := { s with fh := { s.fh with finals := s.fh.finals.filter fun x => !(x.1 == set && x.2.1 == tick) } }
          let car := (maskList c.carriers 8).headD 0
          let nm := s.symbolName car tick
          s.event 0x0028 0x0603
            ([set] ++ bytesLE 2 c.setId ++ bytesLE 2 nm.1 ++ [nm.2.1, nm.2.2, 0] ++ bytesLE 4 e.2.2))

/-! ## Uplink egress (R206, R211, R212) -/

/-- The frames of one uplink section and symbol of one eAxC (R211): cut at what `MAX_FRAME` holds, with consecutive PRBs. -/
def State.sendUplane (s : State) (c : FhSection) (eaxc port : Nat) (tick : Int) : State :=
  let comp := s.ulComp c
  let k := s.framePrbs (prbBytes comp.1 comp.2)
  s.each (List.range (ceilDiv c.numPrb k)) fun s i =>
    let q := s.nextSeq eaxc
    q.2.fhSend port 2 (.uplane eaxc q.1 c.id (c.startPrb + i * k) (min k (c.numPrb - i * k)) tick
      (if (s.fhCfg 1 c.carrier).static then none else some c.compHdr) none)

/-- The tiles that were in RX throughout the symbol of m ticks that ended a tick ago (R111). -/
def State.rxThrough (s : State) (m : Nat) : Nat := ((s.rx.past.drop 1).take m).foldl (fun a t => Nat.land a t.rx) 255

/-- Whether the layer of an uplink section emits on the symbol that begins at a tick: it is not blanked under T2, and neither a page miss nor
the fetch limit blanked it there (R126, R128, R134). -/
def State.layerEmits (s : State) (c : FhSection) (tick : Int) : Bool :=
  !s.beam.blanked.contains (1, c.carrier, c.layer) && !c.missed.contains tick

/-- UPLANE_EGRESS at a tick (R111, R211, R212): the uplink sections the device sends to the DU itself, of the symbols whose array work has
ended: those that began 1 + m ticks ago (R125), so tick − 2 at the reference numerology. A WHOLE section goes out once for each path that is
not removed; with a synthesiser unlocked nothing is emitted. `limit` is how many sections left before an overrun (R23). -/
def State.uplaneEgress (s : State) (limit : Option Nat) : State :=
  let from_ := fun (c : FhSection) => s.absTick - 1 - (c.span : Int)
  let l := s.fh.sections.filter fun c =>
    c.uplink && c.kind != 0 && !c.blanked && c.ticks.contains (from_ c) && s.rxThrough c.span != 0
  let l := if s.on Reg.CLK_SYN_STAT_SYNTH_OK then l else []
  s.each (match limit with | some k => l.take k | none => l) fun s c =>
    if (s.fhCfg 1 c.carrier).whole then
      s.each ((List.range 64).filter fun p => !s.removed p && bit (s.rxThrough c.span) (p / 8)) fun s p =>
        let port := if s.on Reg.FTH_CFG_WA_SPLIT then (if p < 32 then 0 else 1) else s.duPort
        s.sendUplane c (s.eaxcWithRu c.eaxc p) port (from_ c)
    else if (c.kind = 1 && (s.setOf 1 c.carrier c.layer).isSome) || !s.layerEmits c (from_ c) then s
    else s.sendUplane c c.eaxc s.duPort (from_ c)

/-- Take the contributions of set layers formed at a tick (R220). -/
def State.takeContributions (s : State) (l : List Contribution) : State :=
  s.each l fun s x =>
    match s.fh.sets.get? x.set with
    | none => s
    | some c => s.each (cutOwn c x) fun s o => s.takeOwn o

/-! ## Frames at a line port (R194 to R196, R199, R226) -/

/-- The MAC addresses of the ports. -/
def State.portMac (s : State) (k : Nat) : Nat := s.rd64 (if k = 0 then Reg.FTH_MAC_EAST else Reg.FTH_MAC_WEST)

/-- Whether a destination address is one the port accepts (R194). -/
def State.dstOk (s : State) (k dst : Nat) : Bool :=
  dst == s.portMac k || s.fh.sets.any (fun e => e.2.group == dst) || dst == 0x011B19000000 || dst == 0x0180C200000E ||
    dst == 0x0180C2000003

/-- The checks of a SecTAG (R226): known SCI, installed association number, flags, ICV, and the replay window. -/
def State.secOk (s : State) (k : Nat) (t : SecTag) : Bool :=
  let m := s.msec k
  t.sciKnown && t.esScbZero && t.icvOk && m.rxSas.contains t.an && decide (m.rxHigh ≤ t.pn)

/-- The lowest packet number the replay window then admits. -/
def State.takePn (s : State) (k pn : Nat) : State :=
  s.modMsec k fun m => { m with rxHigh := max m.rxHigh (pn + 1 - s.get (Reg.FTH_MSEC_CTL_REPLAY_WIN k)) }

/-- Whether an eCPRI frame is one the fronthaul takes (R196, R199). -/
def State.ecpriOk (s : State) (f : LineFrameIn) : Bool :=
  let vidOk := match f.tags with
    | [v] =>
      if f.dst = s.portMac f.port then v == s.get Reg.FTH_VLAN_VID || s.fh.sets.any (fun e => e.2.vid == v)
      else s.fh.sets.any fun e => e.2.group == f.dst && e.2.vid == v
    | _ => false
  let hdrOk := match f.ecpri with
    | some h => h.revision == 1 && h.reserved == 0 && !h.concat && h.sizeOk && [0, 2, 5, 0x40].contains h.type
    | none => false
  s.fthOn f.port && vidOk && hdrOk

/-- LINE_FRAME (R194 to R196, R199, R226): a frame is counted, filtered, unprotected and routed; what its message then does is the row
of its kind. -/
def execLineFrame (f : LineFrameIn) (s : State) : Host.Outcome State Fault Refusal :=
  let k := f.port
  .next (if !s.portUp k then s
    else
      let s := s.add64 (Reg.FTH_CNT 0) 1
      if !f.fcsOk ∨ f.length < 64 ∨ f.length > s.get Reg.FTH_CFG_MAX_FRAME then s.fthDrop k 2
      else if !s.dstOk k f.dst then s.fthDrop k 3
      else
        let route := fun (s : State) =>
          if f.ether = 0x888E ∨ f.ether = 0x88F7 then (if f.tags.length ≤ 1 then s else s.fthDrop k 3)
          else if f.ether = 0xAEFE ∧ s.ecpriOk f then s
          else s.fthDrop k 3
        match f.sec with
        | some t => if s.secOk k t then route (s.takePn k t.pn) else s.fthDrop k 12
        | none => if s.strict k ∧ f.ether ≠ 0x888E then s.fthDrop k 13 else route s)

/-! ## One-way delay (R202, R229) -/

/-- Send a type 5 message. -/
def State.sendOwdm (s : State) (port id action : Nat) : State :=
  s.fhSend port 0 (.owdm id action s.timeNs (Config.owdmComp port))

/-- A pending measurement, by port and ID. -/
def owdmKey (port id : Nat) : Nat := port * 256 + id

/-- The 32 result bytes of a measurement: t1, t2, the compensation values, and the delay in ns × 2^16 (R229). -/
def owdmResult (t1 cv1 t2 cv2 : Nat) : List Nat :=
  let d : Int := ((t2 * 65536 : Nat) - (cv2 : Int)) - ((t1 * 65536 : Nat) + (cv1 : Int))
  bytesLE 8 t1 ++ bytesLE 8 t2 ++ bytesLE 4 cv1 ++ bytesLE 4 cv2 ++ bytesLE 8 (ux 64 d)

/-- OWDM_MESSAGE (R202): requests are answered, remote requests turned into requests, and a response ends the measurement that
waits for it. -/
def execOwdmMessage (m : OwdmIn) (s : State) : Host.Outcome State Fault Refusal :=
  let key := owdmKey m.port m.id
  .next (if !s.fthOn m.port then s.fthDrop m.port 3
    else match m.action with
    | 0 => s.sendOwdm m.port m.id 2
    | 1 => { s with fh := { s.fh with owdmWait := s.fh.owdmWait.set key s.now } }
    | 2 => match s.fh.owdm.get? key with
      | none => s
      | some j =>
        let s := { s with fh := { s.fh with owdm := s.fh.owdm.del key } }
        let s := s.hostWrite j.cmd.result (owdmResult j.t1 (Config.owdmComp m.port) m.stamp m.comp)
        s.complete j.hdr 0x63 St.done
    | 3 => s.sendOwdm m.port m.id 0
    | 4 => (s.sendOwdm m.port m.id 1).sendOwdm m.port m.id 5
    | 5 =>
      if s.fh.owdmWait.has key then
        ({ s with fh := { s.fh with owdmWait := s.fh.owdmWait.del key } }).sendOwdm m.port m.id 2
      else s
    | _ => s.fthDrop m.port 3)

/-- FH_OWDM (R202, R229). -/
def execFhOwdm (h : Hdr) (c : FhOwdmCmd) (s : State) : Host.Outcome State Fault Refusal :=
  let key := owdmKey c.port c.id
  .next (s.acceptNow h 0x63
    (firstFail [(decide (c.port < 2), St.range), (c.result % 8 == 0, St.misaligned), (!s.fh.owdm.has key, St.notReady)]) fun s =>
    let s := { s with fh := { s.fh with owdm := s.fh.owdm.set key ⟨h, c, s.timeNs⟩ } }
    if c.followUp then (s.sendOwdm c.port c.id 1).sendOwdm c.port c.id 5 else s.sendOwdm c.port c.id 0)

/-- OWDM_TIMEOUT (R229): no response within 100 ms; the measurement is named by port × 256 + ID. -/
def execOwdmTimeout (id : Nat) (s : State) : Host.Outcome State Fault Refusal :=
  .next (match s.fh.owdm.get? id with
    | some j =>
      if s.due (j.t1 + 100000000) then
        ({ s with fh := { s.fh with owdm := s.fh.owdm.del id } }).complete j.hdr 0x63 St.notReady
      else s
    | none => s)

/-! ## MACsec and MKA (R226 to R228) -/

/-- Event 0x0605 (R230): 0 MKA up, 1 peer lost, 2 rekey. -/
def State.msecEvent (s : State) (k what : Nat) : State :=
  s.event 0x0028 0x0605 ([k, what] ++ bytesLE 2 (s.get (Reg.FTH_MSEC_STAT_SAK_COUNT k)))

/-- SAK_INSTALL (R228): a SAK on an association number, with at most two installed in each direction. -/
def State.installSak (s : State) (k an : Nat) : State :=
  let first := (s.msec k).txSas.isEmpty
  let add := fun (l : List Nat) => let l := l.filter (· != an) ++ [an]; l.drop (l.length - 2)
  let s := s.modMsec k fun m =>
    { m with txSas := add m.txSas, rxSas := add m.rxSas, rekeying := false, movePending := if first then none else some an,
             txPn := if first then 1 else m.txPn, rxHigh := if first then 1 else m.rxHigh }
  let s := s.when first fun s => s.put (Reg.FTH_MSEC_STAT_TX_AN k) an
  let s := s.put (Reg.FTH_MSEC_STAT_SAK_COUNT k) ((s.get (Reg.FTH_MSEC_STAT_SAK_COUNT k) + 1) % 65536)
  let s := (s.setF (Reg.FTH_MSEC_STAT_SECURED k)).setF (Reg.FTH_MSEC_STAT_REKEY k)
  s.msecEvent k 2

/-- The next free association number. -/
def MsecPort.nextAn (m : MsecPort) : Nat :=
  match m.txSas.getLast? with
  | some an => (an + 1) % 4
  | none => 0

/-- MKA_MESSAGE (R227, R228): a message that passes its check keeps the peer alive; a SAK it distributes is installed, or as key
server the device generates one where it needs one and its random numbers are good; transmit moves to the newest SA once the peer
has it. -/
def execMkaMessage (m : MkaIn) (s : State) : Host.Outcome State Fault Refusal :=
  let k := m.port
  .next (if !m.icvOk ∨ !s.sea.caks.has k then s
    else
      let up := s.mkaUp k
      let s := (s.setF (Reg.FTH_MSEC_STAT_MKA_UP k)).modMsec k fun p => { p with live := true, heardAt := s.now }
      let s := s.when (!up) fun s => s.msecEvent k 0
      let s :=
        if m.keyServer then
          match m.sakAn with
          | some an => if (s.msec k).txSas.contains (an % 4) then s else s.installSak k (an % 4)
          | none => s
        else if ((s.msec k).txSas.isEmpty || (s.msec k).rekeying) && !s.sea.entropyBad then
          s.installSak k (s.msec k).nextAn
        else s
      match (s.msec k).movePending with
      | some an =>
        if m.peerInstalled then
          (s.put (Reg.FTH_MSEC_STAT_TX_AN k) an).modMsec k fun p => { p with movePending := none, txPn := 1 }
        else s
      | none => s)

/-- MKA_HELLO (R227): every 2 s a hello on each port that has a key, which also asks for a new SAK where one is needed. -/
def execMkaHello (s : State) : Host.Outcome State Fault Refusal :=
  .next (s.each [0, 1] fun s k =>
    if s.sea.caks.has k && s.portUp k && s.due ((s.msec k).helloAt + 2000000000) then
      (s.modMsec k fun m => { m with helloAt := s.now }).fhSend k 3 (.eapol true (s.msec k).rekeying)
    else s)

/-- Remove a port's SAs. -/
def State.dropSas (s : State) (k : Nat) : State :=
  let s := s.modMsec k fun m => { m with txSas := [], rxSas := [], movePending := none, live := false, rekeying := false }
  (s.put (Reg.FTH_MSEC_STAT_SECURED k) 0).put (Reg.FTH_MSEC_STAT_MKA_UP k) 0

/-- MKA_PEER_LOST (R227, R228): nothing heard for 6 s. -/
def execMkaPeerLost (port : Nat) (s : State) : Host.Outcome State Fault Refusal :=
  .next (if (s.msec port).live && s.due ((s.msec port).heardAt + 6000000000) then
      ((s.dropSas port).setF (Reg.FTH_MSEC_STAT_PEER_LOST port)).msecEvent port 1
    else s)

/-- MSEC_REKEY (R228, R229). -/
def execMsecRekey (h : Hdr) (ports : Nat) (s : State) : Host.Outcome State Fault Refusal :=
  .next (s.acceptNow h 0x62
    (firstFail [(decide (0 < ports ∧ ports < 4), St.range), ((maskList ports 2).all s.mkaUp, St.notReady)]) fun s =>
    let s := s.each (maskList ports 2) fun s k => s.modMsec k fun m => { m with rekeying := true }
    s.complete h 0x62 St.done)

/-! ## Timers and reports (R198, R201, R214) -/

/-- FLOW_IDLE_TIMEOUT (R201): a flow that has carried no message for 1 s has no last sequence ID. -/
def execFlowIdleTimeout (s : State) : Host.Outcome State Fault Refusal :=
  .next { s with fh := { s.fh with flows := s.fh.flows.filter fun e => !s.due (e.2.at_ + 1000000000) } }

/-- An event record in network byte order (R214). -/
def EventRec.wire (e : EventRec) : List Nat :=
  bytesBE 8 e.time ++ bytesBE 2 e.src ++ bytesBE 2 e.code ++ bytesBE 4 0 ++ fit 16 e.args

/-- DU_REPORT (R214): up to 16 held records go to the DU in one message. -/
def execDuReport (s : State) : Host.Outcome State Fault Refusal :=
  .next (
    let l := s.fh.report.take 16
    if l.isEmpty || !s.fthOn s.duPort then s
    else
      let s := { s with fh := { s.fh with report := s.fh.report.drop 16 } }
      s.fhSend s.duPort 3 (.report (bytesBE 2 s.deviceId ++ bytesBE 2 l.length ++ l.flatMap EventRec.wire)))

/-- DROP_SUMMARY (R198): one record for each reason and port with drops in the 10 ms; counts that are not drops raise none. -/
def execDropSummary (s : State) : Host.Outcome State Fault Refusal :=
  .next (
    let l := s.fh.drops
    let s := { s with fh := { s.fh with drops := [] } }
    s.each l fun s e => s.event 0x0028 0x0601 ([e.1 / 16, e.1 % 16] ++ bytesLE 4 e.2))

/-! ## FH_CARRIER and COOP_SET (R211 to R213, R216, R229) -/

/-- The checks of `FH_CARRIER` on its fields (R207, R212, R229). -/
def fhCarrierFields (c : FhCarrierCmd) : Option Nat :=
  rangeUnless [decide (c.carrier < 8 ∧ c.transport ≤ 1), c.uplink || c.transport == 0, compOk c.uplink c.method c.width]

/-- The fronthaul configurations after the command. -/
def State.fhPlan (s : State) (c : FhCarrierCmd) : State :=
  let f : FhCfg := ⟨c.transport == 1, c.method, c.width, c.static⟩
  { s with fh := { s.fh with cfg := s.fh.cfg.set ((if c.uplink then 8 else 0) + c.carrier) f } }

/-- Egress rate in bit/s of the WHOLE carriers, for 64 paths (R213). -/
def State.wholeRate (s : State) (msec : Bool) : Nat :=
  let mf := s.get Reg.FTH_CFG_MAX_FRAME
  8 * sumL ((List.range 8).map fun c =>
    let f := s.fhCfg 1 c
    match s.carrierNum 1 c with
    | some num =>
      if !f.whole then 0
      else
        let b := prbBytes f.method f.width
        let n := s.carrierPrb 1 c
        let sym := if numEcp num = 1 then 48000 else 14000 * 2 ^ numMu num
        64 * sym * (n * b + ceilDiv (n * b) (mf - 72) * (if msec then 92 else 60))
    | none => 0)

/-- A port's rate in bit/s (R233). -/
def portRate (mode : Nat) : Nat := match mode with
  | 0 => 0
  | 5 => 1600000000000
  | m => 50000000000 * 2 ^ m

/-- Whether the WHOLE configuration is admitted (R213): `WA_SPLIT` halves it between the ports. -/
def State.wholeOk (s : State) : Bool :=
  let r := s.wholeRate (s.strict 0 || s.strict 1)
  let share := fun k (x : Nat) => decide (100 * x ≤ 96 * portRate (s.lineMode k))
  decide (r ≤ 1660000000000) &&
    (r == 0 || if s.on Reg.FTH_CFG_WA_SPLIT then share 0 (s.wholeRate (s.strict 0) / 2) && share 1 (s.wholeRate (s.strict 1) / 2)
      else share s.duPort (s.wholeRate (s.strict s.duPort)))

/-- The checks of `FH_CARRIER` at tick e − 2 (R212, R213, R216). -/
def fhCarrierCfg (s : State) (h : Hdr) (c : FhCarrierCmd) : Option Nat :=
  let nums := s.numsOf (if c.uplink then 1 else 0) 255 c.carrier
  let whole := c.transport == 1
  rangeUnless [s.slotAligned h.effTick nums,
    !whole || (s.profile == 4 && decide (s.get Reg.FTH_EAXC_CFG_RU_BITS ≥ 6) && (s.fhPlan c).wholeOk &&
      !s.fh.sets.any fun e => e.2.ul && bit e.2.carriers c.carrier)]

/-- The effect of `FH_CARRIER` at its effective tick: the flows it defines start afresh (R201). -/
def State.applyFhCarrier (s : State) (h : Hdr) (c : FhCarrierCmd) : State :=
  let s := s.fhPlan c
  let s := { s with fh := { s.fh with flows := s.fh.flows.filter fun e =>
    !(e.1 / 2 ^ 20 != 0x40 && s.eaxcCc (e.1 % 2 ^ 16) == c.carrier) } }
  s.complete h 0x60 St.done

/-- FH_CARRIER (R211, R229). -/
def execFhCarrier (h : Hdr) (c : FhCarrierCmd) (s : State) : Host.Outcome State Fault Refusal :=
  .next (s.acceptTimed h 0x60 (.fhCarrier c) (fhCarrierFields c) true)

/-- The checks of `COOP_SET` on its fields (R216, R229). -/
def coopSetFields (h : Hdr) (c : CoopSetCmd) : Option Nat :=
  rangeUnless [decide (c.index < 32 ∧ h.effTick = 0),
    !c.enable || (decide (c.position < c.members ∧ c.members ≤ 24 ∧ c.upPort ≤ 3 ∧ 1 ≤ c.layers ∧ c.layers ≤ 32) &&
      (if c.position + 1 = c.members then c.downPort == 255 else decide (c.downPort ≤ 3)) &&
      decide (1800 * c.position + c.upDelay ≤ 45000 ∧ 1 ≤ c.segPrb ∧ c.segPrb ≤ 192 ∧ c.finalShift < 8) &&
      decide (c.first < 32 ∧ 0 < c.carriers ∧ c.carriers < 256))]

/-- The sets after the command. -/
def State.coopPlan (s : State) (c : CoopSetCmd) : Tab CoopSetCmd :=
  if c.enable then s.fh.sets.set c.index c else s.fh.sets.del c.index

/-- The checks of `COOP_SET` at tick e − 2 (R215, R216, R280). -/
def coopSetCfg (s : State) (c : CoopSetCmd) : Option Nat :=
  let dirs := (if c.dl then [0] else []) ++ (if c.ul then [1] else [])
  let others := s.fh.sets.filter fun e => e.1 != c.index
  let layerOk := dirs.all fun d => (maskList c.carriers 8).all fun k =>
    (match s.beam.sets.get? (d * 8 + k) with
      | some l => decide (c.first + c.layers ≤ l.layers)
      | none => false) &&
    !((List.range c.layers).any fun i => others.any fun e => setCovers e.2 d k (c.first + i))
  let lanes := s.get Reg.CUL_CFG_LANES
  let sets := s.coopPlan c
  rangeUnless [!c.enable || (layerOk && !(c.ul && (maskList c.carriers 8).any fun k => (s.fhCfg 1 k).whole) &&
      decide (c.segPrb * 50 + 98 ≤ s.get Reg.FTH_CFG_MAX_FRAME) &&
      s.burstFits (s.burstBits sets 0) lanes && s.burstFits (s.burstBits sets 1) lanes)]

/-- COOP_SET (R215, R216, R229). -/
def execCoopSet (h : Hdr) (c : CoopSetCmd) (s : State) : Host.Outcome State Fault Refusal :=
  .next (s.acceptTimed h 0x61 (.coopSet c) (coopSetFields h c) true)

/-- The set as it then stands (R217, R229): an enabled set is FORMING, its flows and held sums start afresh. -/
def State.putSet (s : State) (c : CoopSetCmd) : State :=
  let s := { s with fh := { s.fh with
    own := s.fh.own.filter fun o => o.set != c.index, early := s.fh.early.filter fun e => e.1 != c.index,
    finals := s.fh.finals.filter fun e => e.1 != c.index,
    flows := s.fh.flows.filter fun e => !(e.1 / 2 ^ 20 == 0x40 && e.1 % 2 ^ 20 / 256 == c.index),
    sent := s.fh.sent.del (0x40 * 2 ^ 20 + c.index) } }
  if c.enable then { s with fh := { s.fh with sets := s.coopPlan c } }.moveSet c.index 1 0
  else
    let s := s.moveSet c.index 0 0
    { s with fh := { s.fh with sets := s.coopPlan c } }

end Sys2Proof.Machine
end

