-- ==== Sys2Proof/Machine/Receive.lean ====
section
/-! DEFINITION. The receive chain (R86 to R120): carriers, extraction entries, overload episodes and taint, and decimator
synchronisation. -/
namespace Sys2Proof.Machine
open Sys2Proof

/-! ## RX_CARRIER -/

/-- The checks of `RX_CARRIER` at fetch (R117). -/
def rxCarrierFields (s : State) (h : Hdr) (c : RxCarrierCmd) : Option Nat :=
  rangeUnless [decide (0 < c.tileMask ∧ c.tileMask < 256), decide (c.carrier < 8), decide (c.num < 8),
    decide (c.filter < 32), decide (c.f0khz < 2 ^ 25),
    !c.enable || rxFieldsOk c.num c.log2n c.nprb c.filter c.winAdv, decide (h.effTick % s.tps = 0)]

/-- The carrier tables after the command (R96). -/
def State.rxCarrierPlan (s : State) (c : RxCarrierCmd) : State :=
  s.each (maskList c.tileMask 8) fun s n =>
    let x : RxCarrier := ⟨c.num, c.log2n, c.nprb, c.gain, c.ftw, c.filter, c.f0khz, c.winAdv⟩
    { s with rx := { s.rx with carriers := s.rx.carriers.put (n * 8 + c.carrier) (if c.enable then some x else none) } }

/-- Whether a change of L_RX falls on the first tick of a frame (R103): from or to no receive carrier at all is no change. -/
def lrxOk (old new tick : Nat) : Bool := old == new || old == 0 || new == 0 || tick == 0

/-- The checks of `RX_CARRIER` at tick e − 2 (R83, R95, R96, R103, R114, R125, R437). -/
def rxCarrierCfg (s : State) (h : Hdr) (c : RxCarrierCmd) : Option Nat :=
  let tiles := maskList c.tileMask 8
  let nums := s.numsOf 1 c.tileMask c.carrier ++ (if c.enable then [c.num] else [])
  let t := s.rxCarrierPlan c
  firstFail [(s.slotAligned h.effTick nums, St.range), (tiles.all (t.rxTileFits s.profile), St.range),
    (t.feedsOk, St.range), (lrxOk s.lrx t.lrx h.effTick, St.range), (t.arrayFits s.profile, St.range),
    (tiles.all s.tileReady, St.notReady),
    (!c.enable || t.provisionalOk c.tileMask (fun t n => sumL ((t.rxCarriers n).map fun x => occKhz x.num x.nprb)),
      St.notReady)]

/-- Whether a change of an enabled carrier taints its first symbol (R118). -/
def rxChangeTaints (o : RxCarrier) (c : RxCarrierCmd) : Bool :=
  o.ftw != c.ftw || o.log2n != c.log2n || o.num != c.num || bits o.filter 0 2 != bits c.filter 0 2

/-- Taint one carrier of a path to a moment of device time (R118). -/
def State.taintCarrier (s : State) (p c until_ : Nat) : State :=
  { s with rx := { s.rx with carrierTaint := s.rx.carrierTaint.set (p * 8 + c) until_ } }

/-- Taint every carrier of a path to a moment of device time (R90, R91, R106): taint windows join. -/
def State.taintPath (s : State) (p until_ : Nat) : State :=
  { s with rx := { s.rx with taint := s.rx.taint.set p (max until_ (s.rx.taint.getD p 0)) } }

/-- The taint that a change of the carrier brings on a tile (R118). -/
def State.taintChange (s : State) (n : Nat) (c : RxCarrierCmd) : State :=
  match s.rxCarrier n c.carrier with
  | some o =>
    if c.enable && rxChangeTaints o c then
      let stop := s.tickTime (s.absTick + s.spanOf c.num)
      s.each (List.range 8) fun s p => s.taintCarrier (8 * n + p) c.carrier stop
    else s
  | none => s

/-- Occasions that feed on a carrier are aborted when it is removed or changed (R153). -/
def State.abortOccasions (s : State) (carrier : Nat) : State :=
  let hit (o : Occasion) : Bool := match s.beam.acd.get? o.config with | some a => a.carrier == carrier | none => false
  if s.beam.occasions.any hit then
    let l := s.beam.occasions.map fun o => if hit o then { o with aborted := true } else o
    { s with beam := { s.beam with occasions := l } }.setF Reg.ACD_STAT_ABORTED
  else s

/-- The effect of `RX_CARRIER` at its effective tick. -/
def State.applyRxCarrier (s : State) (h : Hdr) (c : RxCarrierCmd) : State :=
  let s := s.each (maskList c.tileMask 8) fun s n => s.taintChange n c
  let s := (s.abortOccasions c.carrier).rxCarrierPlan c
  let s := if c.enable then s
    else s.tapStop (fun g => g.tap == 1 && g.carrier == c.carrier && bit c.tileMask (g.sel / 8)) 1
  s.refreshPlan.complete h 0x30 St.done

/-- RX_CARRIER (R96, R117). -/
def execRxCarrier (h : Hdr) (c : RxCarrierCmd) (s : State) : Res :=
  .next (s.acceptTimed h 0x30 (.rxCarrier c) (rxCarrierFields s h c) true)

/-! ## RX_EXTRACT -/

/-- The checks of `RX_EXTRACT` at fetch (R117). -/
def rxExtractFields (s : State) (h : Hdr) (c : RxExtractCmd) : Option Nat :=
  rangeUnless [decide (0 < c.tileMask ∧ c.tileMask < 256), decide (c.entry < 16), decide (h.effTick % s.tps = 0),
    !c.enable || decide (c.carrier < 8 ∧ c.buf < 4 ∧ c.symMask < 2 ^ 14 ∧ 1 ≤ c.prbCount ∧ c.prbCount ≤ 275 ∧
      c.combLog2 ≤ 3 ∧ c.combOffset < 2 ^ c.combLog2 ∧ 1 ≤ c.slotPeriod ∧ c.slotPeriod ≤ 2560 ∧
      c.slotOffset < c.slotPeriod)]

/-- The extraction entries after the command. -/
def State.rxExtractPlan (s : State) (c : RxExtractCmd) : State :=
  s.each (maskList c.tileMask 8) fun s n =>
    let x : ExtractEntry :=
      ⟨c.carrier, c.buf, c.symMask, c.prbStart, c.prbCount, c.combLog2, c.combOffset, c.slotPeriod, c.slotOffset⟩
    { s with rx := { s.rx with extract := s.rx.extract.put (n * 16 + c.entry) (if c.enable then some x else none) } }

/-- The checks of `RX_EXTRACT` at tick e − 2 (R112, R117, R437): the PRB range lies within the carrier. -/
def rxExtractCfg (s : State) (c : RxExtractCmd) : Option Nat :=
  let tiles := maskList c.tileMask 8
  let t := s.rxExtractPlan c
  firstFail [(!c.enable || tiles.all fun n => match s.rxCarrier n c.carrier with
      | some x => decide (c.prbStart + c.prbCount ≤ x.nprb)
      | none => false, St.range),
    (tiles.all t.extractFits, St.range), (tiles.all s.tileReady, St.notReady)]

/-- The effect of `RX_EXTRACT` at its effective tick. -/
def State.applyRxExtract (s : State) (h : Hdr) (c : RxExtractCmd) : State :=
  (s.rxExtractPlan c).complete h 0x31 St.done

/-- RX_EXTRACT (R112, R117). -/
def execRxExtract (h : Hdr) (c : RxExtractCmd) (s : State) : Res :=
  .next (s.acceptTimed h 0x31 (.rxExtract c) (rxExtractFields s h c) true)

/-! ## Decimator synchronisation (R106 to R108) -/

/-- Add a sync event that waits for its reference edge. -/
def State.addSync (s : State) (p : PendingSync) : State := { s with rx := { s.rx with syncs := s.rx.syncs ++ [p] } }

/-- The panel-sync frame of a panel-wide `RX_SYNC`, sent by the lead ahead of the edge it names (R108, R281). -/
def State.sendPanelSync (s : State) (h : Hdr) : State :=
  if !s.on Reg.CUL_CFG_LEAD then s
  else
    let edge := refEdgeNs (refEdgeAfter (s.tickTime (s.effAbs h)))
    s.culSend 1 1 (.sync ⟨edge, s.get Reg.CUL_CFG_POSITION, false, false⟩)

/-- RX_SYNC (R106, R108, R117): with `PANEL` it must come at least 1 ms before its tick. -/
def execRxSync (h : Hdr) (panel : Bool) (s : State) : Res :=
  .next (s.acceptTimedK h 0x32 none fun s =>
    if panel && decide (s.tickStart (s.effAbs h) < s.airNs + 1000000) then s.completeR h 0x32 St.late s.lateResult
    else (s.when panel fun s => s.sendPanelSync h).hold h (.rxSync panel) true)

/-- The effect of `RX_SYNC` at its effective tick: the event waits for the next reference edge; a panel-wide command completes
with its confirmations. -/
def State.applyRxSync (s : State) (h : Hdr) (panel : Bool) : State :=
  let wide := panel && s.on Reg.CUL_CFG_LEAD
  let s := s.addSync ⟨refEdgeAfter s.now, 1, if wide then some h else none, wide⟩
  if wide then s else s.complete h 0x32 St.done

/-- SYNC_IN_EDGE (R106): with `PIN_EN` the pin is sampled on the next reference edge and applied `SYNC_DLY` edges later. -/
def execSyncInEdge (s : State) : Res :=
  .next (if !s.on Reg.TIM_SYNC_CTL_PIN_EN then s
    else
      let k := refEdgeAfter s.now + s.get Reg.TIM_SYNC_CTL_SYNC_DLY
      let s := (s.setF Reg.TIM_SYNC_STAT_PIN_SEEN).addSync ⟨k, 0, none, false⟩
      if s.on Reg.TIM_SYNC_CTL_ONE_SHOT then s.put Reg.TIM_SYNC_CTL_PIN_EN 0 else s)

/-- Event 0x0907 of a sync event. -/
def State.syncRecord (s : State) (nop : Bool) (source missing edge : Nat) : State :=
  s.event 0x0003 0x0907 ([b2n nop, source] ++ bytesLE 2 (s.get Reg.TIM_SYNC_STAT_COUNT) ++
    [missing, 0, 0, 0] ++ bytesLE 8 edge)

/-- Set the decimation counters to zero on an edge (R106): an event that finds them there disturbs nothing and is not
counted as applied. -/
def State.applySync (s : State) (edge : Nat) : State :=
  if s.rx.grid = some (edge % 2) then (s.setF Reg.TIM_SYNC_STAT_LAST_NOP).setF Reg.TIM_SYNC_STAT_SYNCED
  else
    let s := { s with rx := { s.rx with grid := some (edge % 2) } }
    let s := s.put Reg.TIM_SYNC_STAT_COUNT (s.get Reg.TIM_SYNC_STAT_COUNT + 1)
    let s := (s.put Reg.TIM_SYNC_STAT_LAST_NOP 0).setF Reg.TIM_SYNC_STAT_SYNCED
    s.each (List.range 64) fun s p => s.taintPath p (refEdgeNs edge + 1200)

/-- SYNC_EVENT (R106, R108, R281): the earliest pending event whose edge has come; a member of the panel confirms a panel-wide one. -/
def execSyncEvent (s : State) : Res :=
  let due := s.rx.syncs.filter fun p => s.due (refEdgeNs p.edge)
  .next (match due.foldl (fun (a : Option PendingSync) p =>
      match a with
      | none => some p
      | some q => if p.edge < q.edge then some p else a) none with
    | none => s
    | some p =>
      let s := { s with rx := { s.rx with syncs := s.rx.syncs.erase p } }
      let nop := s.rx.grid == some (p.edge % 2)
      let s := s.applySync p.edge
      match p.hdr with
      | none =>
        let s := s.syncRecord nop p.source 0 (refEdgeNs p.edge)
        s.when p.panel fun s => s.culSend 0 1 (.sync ⟨refEdgeNs p.edge, s.get Reg.CUL_CFG_POSITION, true, nop⟩)
      | some h =>
        let missing := putBit s.panelMask (s.get Reg.CUL_CFG_POSITION) false
        let c : PanelConfirm := ⟨h, s.now + 1000000, missing, refEdgeNs p.edge, nop⟩
        { s with rx := { s.rx with confirm := some c } })

/-- A panel-wide `RX_SYNC` ends (R108): DONE where every member confirmed, DONE_PARTIAL with the positions that did not. -/
def State.endPanelSync (s : State) (c : PanelConfirm) : State :=
  let s := { s with rx := { s.rx with confirm := none } }
  let s := s.syncRecord c.nop 1 c.missing c.edgeAt
  if c.missing = 0 then s.complete c.hdr 0x32 St.done
  else (s.setF Reg.TIM_SYNC_STAT_MISS).complete c.hdr 0x32 St.donePartial

/-- SYNC_CONFIRM_TIMEOUT (R108). -/
def execSyncConfirmTimeout (s : State) : Res :=
  .next (match s.rx.confirm with
    | none => s
    | some c => if s.due c.deadline then s.endPanelSync c else s)

/-! ## Overload (R89 to R92) -/

/-- Set or clear one bit of an eight-bit path field of a tile. -/
def State.putTileBit (s : State) (f : Field) (p : Nat) (b : Bool) : State := s.put f (putBit (s.get f) (p % 8) b)

/-- OVERLOAD_EPISODE_START (R89, R90): the first over-range sample; within an episode nothing changes. -/
def execOverloadEpisodeStart (path : Nat) (s : State) : Res :=
  let n := path / 8
  .next (if s.rx.episodes.has path then s
    else
      let s := { s with rx := { s.rx with episodes := s.rx.episodes.set path ⟨s.now, false⟩ } }
      let s := (s.putTileBit (Reg.TIL_RX_OVL_LIVE n) path true).putTileBit (Reg.TIL_RX_OVL_SEEN n) path true
      (s.add64 (Reg.TIL_RX_OVLCNT n) 1).taintPath path (s.now + 1200))

/-- OVERLOAD_PROTECT (R91): an episode that passes 200 ns with `PROT_EN` asserts the protect strobe and sends the tile to
PROTECT. -/
def execOverloadProtect (path : Nat) (s : State) : Res :=
  let n := path / 8
  .next (match s.rx.episodes.get? path with
    | none => s
    | some e =>
      if !s.due (e.start + 200) || e.protect || !s.on (Reg.TIL_RX_CFG_PROT_EN n) then s
      else
        let s := { s with rx := { s.rx with episodes := s.rx.episodes.set path { e with protect := true } } }
        let s := s.putTileBit (Reg.TIL_RX_OVL_PROT_CAUSE n) path true
        (s.modStrobes n fun t => { t with prot := true }).enterProtect n 1 none)

/-- The number of the tick that holds a moment of air time, counted over all frames. -/
def State.tickOf (s : State) (air : Int) : Int := frameOf air * s.tpf + tickAt s.arch.mu s.arch.ecp (inFrame air)

/-- The symbols of a path's carriers that hold a sample of a span of air time, counted once for each carrier (R90). -/
def State.symbolsIn (s : State) (n : Nat) (start stop : Int) : Nat :=
  sumL ((s.rxCarriers n).map fun c =>
    let m : Int := s.spanOf c.num
    (s.tickOf stop / m - s.tickOf start / m + 1).toNat)

/-- OVERLOAD_EPISODE_END (R90, R119): `length` ns from the first to the last over-range sample. -/
def execOverloadEpisodeEnd (path length : Nat) (s : State) : Res :=
  let n := path / 8
  .next (match s.rx.episodes.get? path with
    | none => s
    | some e =>
      let s := { s with rx := { s.rx with episodes := s.rx.episodes.del path } }
      let s := (s.putTileBit (Reg.TIL_RX_OVL_LIVE n) path false).taintPath path (e.start + length + 1200)
      let more := s.rx.episodes.any fun q => q.1 / 8 == n && q.2.protect
      let s := if e.protect && !more then s.modProtect n fun q => { q with goneAt := some s.now } else s
      let flags := b2n e.protect + 2 * s.get (Reg.TIL_RX_CFG_TAINT_ZERO n)
      let start := s.airNs - ((s.now : Int) - e.start)
      let tainted := s.symbolsIn n start (start + length + 1200)
      s.event (0x0010 + n) 0x0311 ([path % 8, flags] ++ bytesLE 2 (min tainted 65535) ++
        bytesLE 4 (min length (2 ^ 32 - 1)) ++ bytesLE 8 (e.start % 2 ^ 64)))

/-! ## Summaries (R119) -/

/-- RX_SAT_SUMMARY (R119): at the end of 10 ms in which tile n saturated. -/
def execRxSatSummary (tile : Nat) (s : State) : Res :=
  let flags := s.rx.satFlags.getD tile 0
  let count := s.rx.satCount.getD tile 0
  .next (if flags = 0 && count = 0 then s
    else
      let s := { s with rx := { s.rx with satFlags := s.rx.satFlags.del tile, satCount := s.rx.satCount.del tile } }
      s.event (0x0010 + tile) 0x0313 ([flags, 0, 0, 0] ++ bytesLE 4 (min count (2 ^ 32 - 1))))

/-- EXTRACTION_DROPS (R119): one record for each entry of the tile that dropped records in the 10 ms. -/
def execExtractionDrops (tile : Nat) (s : State) : Res :=
  let mine := s.rx.drops.filter fun e => e.1 / 16 == tile
  .next (
    let s := { s with rx := { s.rx with drops := s.rx.drops.filter fun e => e.1 / 16 != tile } }
    s.each mine fun s e =>
      let buf := match s.rx.extract.get? e.1 with | some x => x.buf | none => 0
      s.event (0x0010 + tile) 0x0312 ([e.1 % 16, buf, 0, 0] ++ bytesLE 4 (e.2 % 2 ^ 32)))

end Sys2Proof.Machine
end

