-- ==== Sys2Proof/Machine/Culvert.lean ====
section
/-! DEFINITION. The Culvert lanes and links: blind bring-up, alignment, identity, masks, sleep and wake, frames, panel sync, eye
scan (R266 to R285, R290, R291). Lane n is C0 to C11, of link n / 6 (0 PREV, 1 NEXT); masks number the lanes of a link 0 to 5. -/
namespace Sys2Proof.Machine
open Sys2Proof

/-- A Culvert lane before it starts. -/
def CulLane.initial : CulLane := ⟨0, none, false, none, none, false, none, false, [], []⟩

/-- The kept state of a lane and of a link. -/
def State.culLane (s : State) (n : Nat) : CulLane := s.cul.lanes.getD n CulLane.initial
def State.culLink (s : State) (k : Nat) : CulLink := s.cul.links.getD k CulLink.initial

/-- Change the kept state of a lane or of a link. -/
def State.modCulLane (s : State) (n : Nat) (f : CulLane → CulLane) : State :=
  { s with cul := { s.cul with lanes := s.cul.lanes.set n (f (s.culLane n)) } }
def State.modCulLink (s : State) (k : Nat) (f : CulLink → CulLink) : State :=
  { s with cul := { s.cul with links := s.cul.links.set k (f (s.culLink k)) } }

/-- The receive state a lane shows: 0 OFF, 1 HUNT, 2 LOCK, 3 aligned. -/
def State.culRx (s : State) (n : Nat) : Nat := s.get (Reg.CUL_LANE_STAT_RX n)

/-- Whether a lane is in use: its link enabled, a panel of more than one, no POLDER, DORMANT, trip, or lane rail out of tolerance
(R266, R267, R274). -/
def State.culMay (s : State) (n : Nat) : Bool :=
  s.get Reg.CUL_CFG_MEMBERS_M1 != 0 && s.on (if n < 6 then Reg.CUL_CFG_EN_PREV else Reg.CUL_CFG_EN_NEXT) &&
    decide (n % 6 < s.get Reg.CUL_CFG_LANES) && !bit s.boot.railsOut 2 && s.on Reg.DEV_BOOT_STAT_IMAGES_OK && !s.trip &&
    !s.tx.quiet && decide (s.get Reg.PWR_STAT_STATE < 2)

/-- The lanes of a link by index. -/
def culLanesOf (k : Nat) : List Nat := (List.range 6).map fun i => 6 * k + i

/-- Whether a lane's transmitter is awake. -/
def State.culAwake (s : State) (n : Nat) : Bool := bit (s.get (Reg.CUL_LINK_STAT_TX_AWAKE (n / 6))) (n % 6)

/-- Switch a lane's transmitter. -/
def State.setAwake (s : State) (n : Nat) (b : Bool) : State :=
  s.put (Reg.CUL_LINK_STAT_TX_AWAKE (n / 6)) (putBit (s.get (Reg.CUL_LINK_STAT_TX_AWAKE (n / 6))) (n % 6) b)

/-- The receive masks of a link (R278), numbered by the received `LANE` once an ALIGN block has named it. -/
def State.culMask (s : State) (k least : Nat) : Nat :=
  maskOf (((culLanesOf k).filter fun n => decide (least ≤ s.culRx n)).map fun n =>
    if (s.culLane n).aligns = 0 then n % 6 else s.get (Reg.CUL_LANE_STAT_RX_LANE n))

/-- Report the masks to the partner (R276, R278). -/
def State.culReport (s : State) (k : Nat) : State := s.culSend k 0 (.mgmt (s.culMask k 2) (s.culMask k 3))

/-! ## Links -/

/-- State of a Culvert link: 0 DOWN, 1 HUNT, 2 UP, 3 MISMATCH. -/
def State.culState (s : State) (k : Nat) : Nat := s.get (Reg.CUL_LINK_STAT_STATE k)

/-- The state a link has (R273, R274, R311). -/
def State.culStateOf (s : State) (k : Nat) : Nat :=
  let l := s.culLink k
  let tx := s.get (Reg.CUL_LINK_STAT_TX_ACTIVE k)
  let rx := s.get (Reg.CUL_LINK_STAT_RX_ACTIVE k)
  if !(culLanesOf k).any s.culMay then 0
  else if s.culMask k 3 = 0 then 1
  else if !l.idOk then 3
  else if tx &&& l.peerAligned ≠ 0 ∧ rx &&& s.culMask k 3 ≠ 0 then 2 else 1

/-- Show a link's state (R274, R291); entering MISMATCH makes its record due at once, the link joins while it is UP (R309, R311), and a
device whose host path is TUNNEL becomes ready through the lead (R435). -/
def State.refreshLink (s : State) (k : Nat) : State :=
  let old := s.culState k
  let new := s.culStateOf k
  if old = new then s
  else
    let s := s.put (Reg.CUL_LINK_STAT_STATE k) new
    let s := s.event 0x0034 0x0802 ([k, old, new] ++ bytesLE 2 (s.culLink k).peerId)
    let s := s.when (new == 3) fun s => s.modCulLink k fun l => { l with mismatchAt := s.now }
    let s := s.when (new == 2 && s.boot.tunnel && s.on Reg.DEV_BOOT_STAT_IMAGES_OK) fun s => s.setF Reg.HRG_STAT_READY
    s.joinPort (2 + k) (new == 2) (s.culLink k).peerId

/-- The mask a transmitter uses: lanes awake, not going to sleep, not failed, that the partner reports aligned (R275, R276,
R282). -/
def State.wantMask (s : State) (k : Nat) : Nat :=
  maskOf ((List.range 6).filter fun i =>
    let l := s.culLane (6 * k + i)
    s.culAwake (6 * k + i) && l.sleeping.isNone && !l.failed && bit (s.culLink k).peerAligned i)

/-- Ask for a transmit mask at the next announcement, with the cause its record names (R275, R291). -/
def State.setWant (s : State) (k cause : Nat) : State :=
  let w := s.wantMask k
  if w = (s.culLink k).want then s else s.modCulLink k fun l => { l with want := w, cause := cause }

/-! ## Starting and stopping lanes -/

/-- Move a lane's receiver to a state, with the record of a cause (R271, R291). -/
def State.setCulRx (s : State) (n new cause : Nat) : State :=
  let old := s.culRx n
  if old = new then s
  else
    let s := (s.put (Reg.CUL_LANE_STAT_RX n) new).modCulLane n fun l => { l with aligns := 0, alignedSince := none }
    s.event 0x0034 0x0801 [n, old, new, cause]

/-- Start a lane blind (R270): its transmitter sends, its receiver hunts. -/
def State.culStartLane (s : State) (n : Nat) : State :=
  let s := (s.modCulLane n fun _ => CulLane.initial).setAwake n true
  (s.put (Reg.CUL_LANE_STAT_RX n) 1).put (Reg.CUL_LANE_STAT_RX_INV n) 0

/-- Power a lane down. -/
def State.culStopLane (s : State) (n : Nat) : State :=
  let s := (s.modCulLane n fun _ => CulLane.initial).setAwake n false
  let s := (s.put (Reg.CUL_LANE_STAT_RX n) 0).put (Reg.CUL_LANE_STAT_TX_ASLEEP n) 0
  s.put (Reg.CUL_LANE_STAT_RX_ASLEEP n) 0

/-- Whether a lane is running, asleep or not. -/
def State.culRuns (s : State) (n : Nat) : Bool := s.culAwake n || s.on (Reg.CUL_LANE_STAT_TX_ASLEEP n)

/-- Bring every lane and link to what enables, panel size and power now ask for (R266, R270, R274). -/
def State.culRefresh (s : State) : State :=
  let s := s.each (List.range 12) fun s n =>
    if s.culMay n then (if s.culRuns n then s else s.culStartLane n)
    else if s.culRuns n || s.culRx n != 0 then s.culStopLane n else s
  s.each [0, 1] fun s k =>
    let s :=
      if (culLanesOf k).any s.culMay then s
      else
        let s := (s.put (Reg.CUL_LINK_STAT_TX_ACTIVE k) 0).put (Reg.CUL_LINK_STAT_RX_ACTIVE k) 0
        s.modCulLink k fun l => { CulLink.initial with period := l.period, peerId := l.peerId }
    (s.setWant k 2).refreshLink k

/-! ## Header lock and signal (R271) -/

/-- HEADER_LOCK (R271): 96 consecutive valid headers. -/
def execHeaderLock (lane : Nat) (s : State) : Host.Outcome State Fault Refusal :=
  .next (if s.culRx lane ≠ 1 then s else ((s.setCulRx lane 2 0).culReport (lane / 6)).refreshLink (lane / 6))

/-- LOCK_LOSS (R271, R276): 24 invalid headers within 256 blocks; the partner hears of it at once. -/
def execLockLoss (lane : Nat) (s : State) : Host.Outcome State Fault Refusal :=
  .next (if s.culRx lane < 2 then s
    else
      let s := (s.add64 (Reg.CUL_LANE_CNT lane 0) 24).add64 (Reg.CUL_LANE_CNT lane 1) 1
      ((s.setCulRx lane 1 1).culReport (lane / 6)).refreshLink (lane / 6))

/-- CULVERT_SIGNAL_LOSS (R271): no signal for 1 µs. -/
def execCulvertSignalLoss (lane : Nat) (s : State) : Host.Outcome State Fault Refusal :=
  .next (if s.culRx lane = 0 then s
    else
      let s := s.when (s.culRx lane ≥ 2) fun s => s.add64 (Reg.CUL_LANE_CNT lane 1) 1
      ((s.setCulRx lane 0 0).culReport (lane / 6)).refreshLink (lane / 6))

/-- CULVERT_SIGNAL_RETURN (R271, R283): hunting restarts on signal. -/
def execCulvertSignalReturn (lane : Nat) (s : State) : Host.Outcome State Fault Refusal :=
  .next (if s.culRx lane = 0 && s.culMay lane then
      (s.put (Reg.CUL_LANE_STAT_RX_ASLEEP lane) 0).setCulRx lane 1 0
    else s)

/-- SLEEP_BLOCKS (R282): the partner's SLEEP blocks leave only the signal detector powered. -/
def execSleepBlocks (lane : Nat) (s : State) : Host.Outcome State Fault Refusal :=
  .next (if s.culRx lane < 2 then s
    else
      let s := (s.setCulRx lane 0 2).setF (Reg.CUL_LANE_STAT_RX_ASLEEP lane)
      (s.culReport (lane / 6)).refreshLink (lane / 6))

/-! ## Alignment and identity (R272, R273) -/

/-- The identity check of an ALIGN block received on a link (R273). -/
def State.culIdOk (s : State) (k : Nat) (b : AlignIn) : Bool :=
  let n := s.get Reg.CUL_CFG_MEMBERS_M1 + 1
  let pos := s.get Reg.CUL_CFG_POSITION
  !s.on Reg.TIM_ROOT_NO_ID && b.devId / 8 == s.deviceId / 8 &&
    b.devId % 8 == (if k = 0 then (pos + n - 1) % n else (pos + 1) % n) && b.membersM1 + 1 == n && b.side == 1 - k

/-- Follow the partner's announcement (R275): on the first ALIGN block of a new period its last announced mask applies. -/
def State.followMask (s : State) (k : Nat) (b : AlignIn) : State :=
  let l := s.culLink k
  if l.rxPeriod = some b.period then s
  else
    let old := s.get (Reg.CUL_LINK_STAT_RX_ACTIVE k)
    let s := s.modCulLink k fun l => { l with rxPeriod := some b.period, rxNext := b.nextMask }
    if old = l.rxNext then s
    else
      let cause :=
        if (culLanesOf k).any fun n => s.on (Reg.CUL_LANE_STAT_RX_ASLEEP n) then 0
        else if popCount l.rxNext 6 > popCount old 6 then 3 else 2
      (s.put (Reg.CUL_LINK_STAT_RX_ACTIVE k) l.rxNext).event 0x0034 0x0803 [k, 1, old, l.rxNext, cause]

/-- Return a lane to the hunt and tell the partner. -/
def State.culRehunt (s : State) (n cause : Nat) : State :=
  ((s.setCulRx n 1 cause).culReport (n / 6)).refreshLink (n / 6)

/-- ALIGN_BLOCK (R272 to R275, R292): polarity, the distance of two blocks, lane order, identity, masks and the time mark. -/
def execAlignBlock (lane : Nat) (b : AlignIn) (s : State) : Host.Outcome State Fault Refusal :=
  let k := lane / 6
  let l := s.culLane lane
  .next (if s.culRx lane < 2 then s
    else if b.inverted then
      if l.inverted then s
      else
        let s := s.modCulLane lane fun l => { l with inverted := true }
        (s.put (Reg.CUL_LANE_STAT_RX_INV lane) (1 - s.get (Reg.CUL_LANE_STAT_RX_INV lane))).culRehunt lane 3
    else if l.aligns ≠ 0 ∧ b.blocks ≠ 16384 then s.culRehunt lane 1
    else
      let was := s.culRx lane
      let s := s.add64 (Reg.CUL_LANE_CNT lane 2) b.bipErrors
      let s := s.put (Reg.CUL_LANE_STAT_RX_LANE lane) b.lane
      let s := s.modCulLane lane fun l =>
        { l with aligns := min 2 (l.aligns + 1), rxMarks := ((b.period, b.mark) :: l.rxMarks).take 16,
                 alignedSince := if l.aligns = 1 then some s.now else l.alignedSince }
      let s := s.when (l.aligns ≥ 1) fun s => s.put (Reg.CUL_LANE_STAT_RX lane) 3
      let ok := s.culIdOk k b
      let s := (s.modCulLink k fun l => { l with peerId := b.devId, idOk := ok }).put (Reg.CUL_LINK_STAT_PEER_ID_LO k) b.devId
      let s := s.followMask k b
      let s := s.when (was ≠ s.culRx lane) fun s => s.culReport k
      s.refreshLink k)

/-- MISMATCH_REPORT (R311): on entry to MISMATCH and every 60 s while it lasts. -/
def execMismatchReport (link : Nat) (s : State) : Host.Outcome State Fault Refusal :=
  let l := s.culLink link
  .next (if s.culState link = 3 && s.due l.mismatchAt then
      (s.modCulLink link fun l => { l with mismatchAt := s.now + 60000000000 }).event 0x0003 0x0903
        ([2 + link, 5] ++ bytesLE 2 l.peerId)
    else s)

/-! ## Sleep and wake (R282 to R284) -/

/-- A lane has finished a sleep or a wake: the `CUL_SLEEP` commands that wait for it go on, and one that waits for none is
complete. -/
def State.culFinish (s : State) (n : Nat) : State :=
  let left := s.cul.sleeps.map fun e => (e.1, putBit e.2 n false)
  let s := { s with cul := { s.cul with sleeps := left.filter fun e => e.2 != 0 } }
  s.each (left.filter fun e => e.2 == 0) fun s e => s.complete e.1 0x78 St.done

/-- Begin a lane's sleep (R282): it leaves the mask, and sends SLEEP blocks once the mask without it is in use. -/
def State.beginSleep (s : State) (n : Nat) : State :=
  if !s.culAwake n || (s.culLane n).sleeping.isSome then s
  else s.modCulLane n fun l => { l with sleeping := some s.now, waking := none, wakeNext := false }

/-- Begin a lane's wake (R283); while its sleep runs the wake waits for it. -/
def State.beginWake (s : State) (n : Nat) : State :=
  if (s.culLane n).sleeping.isSome then s.modCulLane n fun l => { l with wakeNext := true }
  else if !s.on (Reg.CUL_LANE_STAT_TX_ASLEEP n) then s
  else
    let s := (s.put (Reg.CUL_LANE_STAT_TX_ASLEEP n) 0).setAwake n true
    s.modCulLane n fun l => { l with waking := some s.now, failed := false, idleSince := none }

/-- The lanes left active in a direction without those of a mask, and why a sleep of them is refused (R282, R451): 1 the last active
lane, 2 capacity below what R280 admits. -/
def State.sleepCode (s : State) (k mask : Nat) : Nat :=
  let left := (List.range 6).filter fun i => bit (s.culLink k).want i && !bit mask i
  if left.isEmpty then 1
  else if s.burstFits (s.burstBits s.fh.sets k) left.length then 0 else 2

/-- CUL_SLEEP (R282, R283, R290, R292). -/
def execCulSleep (h : Hdr) (mask : Nat) (sleep : Bool) (s : State) : Host.Outcome State Fault Refusal :=
  let part := fun k => mask / 2 ^ (6 * k) % 64
  let code := ([0, 1].filter fun k => part k != 0).foldl (fun c k => if c = 0 then s.sleepCode k (part k) else c) 0
  .next (s.acceptNow h 0x78 (rangeUnless [decide (0 < mask ∧ mask < 4096), (maskList mask 12).all s.culMay]) fun s =>
    if sleep && code ≠ 0 then s.completeX h 0x78 St.refusedSleep 0x34 [code] false
    else
      let s := s.each (maskList mask 12) fun s n => if sleep then s.beginSleep n else s.beginWake n
      let s := (s.setWant 0 0).setWant 1 0
      let wait := maskOf ((maskList mask 12).filter fun n =>
        (s.culLane n).sleeping.isSome || (s.culLane n).waking.isSome)
      if wait = 0 then s.complete h 0x78 St.done
      else { s with cul := { s.cul with sleeps := s.cul.sleeps ++ [(h, wait)] } })

/-- The lanes of a direction that auto-sleep keeps awake (R284): the lowest ones, as many as the sets need and `SPARE` more. -/
def State.autoKeep (s : State) (k : Nat) : List Nat :=
  let inUse := (culLanesOf k).filter s.culMay
  inUse.take (max 1 (s.lanesNeeded s.fh.sets k + s.get Reg.CUL_CFG_SPARE))

/-- Recompute what auto-sleep needs (R284): needed lanes wake at once; the others count as idle from now on. -/
def State.autoPlan (s : State) (k : Nat) : State :=
  if !s.on Reg.CUL_CFG_AUTO_SLEEP then s
  else
    let keep := s.autoKeep k
    s.each ((culLanesOf k).filter s.culMay) fun s n =>
      if keep.elem n then (s.beginWake n).modCulLane n fun l => { l with idleSince := none }
      else s.modCulLane n fun l => { l with idleSince := some (l.idleSince.getD s.now) }

/-- AUTO_SLEEP (R282, R284): lanes that have not been needed for 100 ms go to sleep; a step that R282 would refuse is not made. -/
def execAutoSleep (link : Nat) (s : State) : Host.Outcome State Fault Refusal :=
  .next (if !s.on Reg.CUL_CFG_AUTO_SLEEP then s
    else
      let s := s.autoPlan link
      let idle := (culLanesOf link).filter fun n =>
        match (s.culLane n).idleSince with
        | some t => s.culAwake n && s.due (t + 100000000)
        | none => false
      if s.sleepCode link (maskOf (idle.map (· % 6))) ≠ 0 then s
      else (s.each idle State.beginSleep).setWant link 0)

/-- Whether a set needs Culvert lanes that are not active (R284), with `AUTO_SLEEP` = 1: a direction that is short while lanes of it
sleep or wake. -/
def State.coopShort (s : State) (c : CoopSetCmd) (k : Nat) : Bool :=
  s.on Reg.CUL_CFG_AUTO_SLEEP &&
    decide (popCount (s.get (Reg.CUL_LINK_STAT_TX_ACTIVE k)) 6 < s.lanesNeeded (s.coopPlan c) k) &&
    ((culLanesOf k).filter s.culMay).any fun n =>
      s.on (Reg.CUL_LANE_STAT_TX_ASLEEP n) || (s.culLane n).sleeping.isSome || (s.culLane n).waking.isSome

/-- Wake the lanes a set will need, when its command is checked (R284). -/
def State.coopWake (s : State) (c : CoopSetCmd) : State :=
  s.each ([0, 1].filter fun k => s.coopShort c k) fun s k =>
    s.each (((culLanesOf k).filter s.culMay).take (s.lanesNeeded (s.coopPlan c) k)) State.beginWake

/-- COOP_SET at its tick (R215, R217, R284): LATE where the lanes it needs are not awake by then; otherwise the set stands and
auto-sleep recomputes its need. -/
def State.applyCoopSet (s : State) (h : Hdr) (c : CoopSetCmd) : State :=
  if s.coopShort c 0 || s.coopShort c 1 then
    let s := s.coopWake c
    s.completeR h 0x61 St.late s.lateResult
  else (((s.putSet c).autoPlan 0).autoPlan 1).complete h 0x61 St.done

/-- LANE_READD (R276): the partner has reported the lane aligned continuously for 1 s. -/
def execLaneReadd (lane : Nat) (s : State) : Host.Outcome State Fault Refusal :=
  let k := lane / 6
  .next (match (s.culLink k).peerSince.get? (lane % 6) with
    | some t =>
      if (s.culLane lane).failed && s.due (t + 1000000000) then
        (s.modCulLane lane fun l => { l with failed := false }).setWant k 3
      else s
    | none => s)

/-! ## Frames (R277, R278) -/

/-- CULVERT_FRAME (R277, R278): a bad CRC drops the frame and is counted; what a good frame holds comes by the row of its channel. A
link that is not UP carries link management only. -/
def execCulvertFrame (f : CulFrameIn) (s : State) : Host.Outcome State Fault Refusal :=
  .next (if s.culState f.link = 0 then s
    else if !f.crcOk then s.add64 (Reg.CUL_LINK_CNT f.link 2) 1
    else if (f.channel = 3 ∨ s.culState f.link = 2) ∧ f.channel < 4 ∧ 1 ≤ f.length ∧ f.length ≤ 9616 then
      s.add64 (Reg.CUL_LINK_CNT f.link 1) 1
    else s)

/-- The masks a partner reports (R276, R278): a lane it has lost leaves the transmit mask at the next announcement. -/
def State.peerMasks (s : State) (k lock aligned : Nat) : State :=
  let since := (List.range 6).foldl (fun (t : Tab Nat) i =>
    if !bit aligned i then t.del i else if t.has i then t else t.set i s.now) (s.culLink k).peerSince
  let lost := (List.range 6).filter fun i => bit (s.culLink k).want i && !bit lock i
  let s := s.modCulLink k fun l => { l with peerLock := lock, peerAligned := aligned, peerSince := since }
  let s := s.each lost fun s i => s.modCulLane (6 * k + i) fun l => { l with failed := true }
  let waking := (culLanesOf k).any fun n => (s.culLane n).waking.isSome
  (s.setWant k (if lost.isEmpty then (if waking then 1 else 3) else 2)).refreshLink k

/-- One alignment period of a link's lanes (R272, R275, R276, R282, R283): the announced mask applies, lanes out of it go to sleep,
lanes in it are awake, the next mask is announced, and each awake lane's departure is marked. -/
def State.alignLink (s : State) (k : Nat) (marks : List Nat) : State :=
  let old := s.get (Reg.CUL_LINK_STAT_TX_ACTIVE k)
  let l := s.culLink k
  let new := l.nextMask
  let s :=
    if old = new then s
    else (s.put (Reg.CUL_LINK_STAT_TX_ACTIVE k) new).event 0x0034 0x0803 [k, 0, old, new, l.cause]
  let s := s.each (culLanesOf k) fun s n =>
    let c := s.culLane n
    if c.sleeping.isSome && !bit new (n % 6) && !bit l.want (n % 6) then
      let s := (s.setAwake n false).setF (Reg.CUL_LANE_STAT_TX_ASLEEP n)
      let s := s.modCulLane n fun c => { c with sleeping := none, wakeNext := false }
      if c.wakeNext then s.beginWake n else s.culFinish n
    else if c.waking.isSome && bit new (n % 6) then
      (s.modCulLane n fun c => { c with waking := none }).culFinish n
    else s
  let s := s.modCulLink k fun l => { l with nextMask := l.want, period := (l.period + 1) % 4096 }
  let p := (s.culLink k).period
  let s := s.each ((culLanesOf k).filter s.culAwake) fun s n =>
    s.modCulLane n fun c => { c with txMarks := ((p, nth marks (n % 6)) :: c.txMarks).take 16 }
  s.refreshLink k

/-- The frames of a link's queues leave (R278): link management on any enabled link, the others while it is UP; set traffic that finds
the link not UP is lost. -/
def State.culDrain (s : State) (k : Nat) : State :=
  let l := s.culLink k
  let up := s.culState k == 2
  let q := fun i => l.queues.getD i []
  let sent := (q 0).length + (if up then (q 1).length + (q 2).length + (q 3).length else 0)
  let keep : Tab (List CulFrameOut) := if up then [] else [(1, q 1), (3, q 3)]
  (s.modCulLink k fun l => { l with queues := keep }).add64 (Reg.CUL_LINK_CNT k 0) sent

/-! ## Panel sync (R281, R108) -/

/-- The number of a reference edge from its time in ns. -/
def edgeOfNs (t : Nat) : Nat := t * 12288 / 100000

/-- PANEL_SYNC_FRAME (R281, R108): a request is scheduled and forwarded around the ring; a confirmation reaches the lead, which
counts it. -/
def execPanelSyncFrame (link : Nat) (f : PanelSync) (s : State) : Host.Outcome State Fault Refusal :=
  let pos := s.get Reg.CUL_CFG_POSITION
  let forward := fun (s : State) => s.culSend (1 - link) 1 (.sync f)
  .next (if s.culState link ≠ 2 ∨ f.origin = pos then s
    else if f.confirm then
      if s.on Reg.CUL_CFG_LEAD then
        match s.rx.confirm with
        | some c =>
          let c := { c with missing := putBit c.missing f.origin false, nop := c.nop && f.noop }
          let s := { s with rx := { s.rx with confirm := some c } }
          if c.missing = 0 then s.endPanelSync c else s
        | none => s
      else forward s
    else (forward s).addSync ⟨edgeOfNs f.edge, 1, none, true⟩)

/-! ## Eye scan (R285) -/

/-- CUL_EYESCAN (R285, R290). -/
def execCulEyescan (h : Hdr) (mask phi0 phi1 v0 v1 dwell addr : Nat) (s : State) : Host.Outcome State Fault Refusal :=
  let range := decide (mask < 4096 ∧ mask ≠ 0 ∧ phi0 ≤ phi1 ∧ phi1 < 64 ∧ v0 ≤ v1 ∧ v1 < 128 ∧ 16 ≤ dwell ∧ dwell ≤ 32)
  .next (s.acceptNow h 0x79
    (firstFail [(range, St.range), (addr % 8 == 0, St.misaligned),
      (s.cul.scan.isNone && (maskList mask 12).all fun n => decide (2 ≤ s.culRx n), St.notReady)]) fun s =>
    { s with cul := { s.cul with scan := some ⟨h, mask, phi0, phi1, v0, v1, addr⟩ } })

/-- EYESCAN_DONE (R285): the counts of each lane of the scan, ascending, phase-major; points not scanned read 0xFFFF_FFFF. -/
def execEyescanDone (lanes : List EyeLane) (busOk : Bool) (s : State) : Host.Outcome State Fault Refusal :=
  .next (match s.cul.scan with
    | none => s
    | some e =>
      let s := { s with cul := { s.cul with scan := none } }
      let points := (e.phi1 - e.phi0 + 1) * (e.v1 - e.v0 + 1)
      let row := fun n => (lanes.find? fun l => l.lane == n).getD ⟨n, [], some 0⟩
      let lost := (maskList e.mask 12).any fun n => (row n).lostAt.isSome
      let words := (maskList e.mask 12).flatMap fun n => (List.range points).map fun i =>
        if decide (i < (row n).lostAt.getD points) then min (nth (row n).counts i) (2 ^ 32 - 1) else 2 ^ 32 - 1
      if !busOk then s.complete e.hdr 0x79 St.busError
      else (s.hostWrite e.addr (words.flatMap (bytesLE 4))).complete e.hdr 0x79 (if lost then St.donePartial else St.done))

end Sys2Proof.Machine
end

