-- ==== Sys2Proof/Machine/Seawall.lean ====
section
/-! DEFINITION. Seawall's operations (R394 to R417): one at a time, certificates and mute orders first; each is carried out when it
ends. -/
namespace Sys2Proof.Machine
open Sys2Proof

/-! ## Submitting (R412, R414, R415) -/

/-- Whether `ID_DONE` is burned and the scalar is good (R396), the key ports aside. -/
def State.hasIdentity (s : State) : Bool := s.life 7 && decide (0 < s.idPriv ∧ s.idPriv < p521Order)

/-- Whether the flash may be written now (R461). -/
def State.flashOpen (s : State) : Bool := s.on Reg.THM_WINDOW_FLASH_OPEN

/-- SEA_IDENTITY (R404, R415). -/
def execSeaIdentity (h : Hdr) (addr : Nat) (s : State) : Host.Outcome State Fault Refusal :=
  .next (s.acceptNow h 0xB0 (firstFail [(addr % 64 == 0, St.misaligned), (s.hasIdentity, St.notReady)]) fun s =>
    s.seaSubmit (.cmd h (.seaIdentity addr)))

/-- SEA_ATTEST (R406, R415). -/
def execSeaAttest (h : Hdr) (nonce addr : Nat) (s : State) : Host.Outcome State Fault Refusal :=
  .next (s.acceptNow h 0xB1
    (firstFail [(decide (nonce % 8 = 0 ∧ addr % 64 = 0), St.misaligned), (s.idKeyOk && !s.sea.entropyBad, St.notReady)]) fun s =>
    s.seaSubmit (.cmd h (.seaAttest nonce addr)))

/-- SEA_SET_ID (R405, R415). -/
def execSeaSetId (h : Hdr) (id : Nat) (s : State) : Host.Outcome State Fault Refusal :=
  .next (s.acceptNow h 0xB2
    (firstFail [(decide (id ≤ 16383), St.range), (s.radioQuiet && s.idKeyOk && !s.sea.entropyBad, St.notReady),
      (s.flashOpen, St.tempForbidden)]) fun s =>
    s.seaSubmit (.cmd h (.seaSetId id)))

/-- SEA_COMMIT (R403, R415). -/
def execSeaCommit (h : Hdr) (cls version : Nat) (s : State) : Host.Outcome State Fault Refusal :=
  .next (s.acceptNow h 0xB3 (rangeUnless [decide (cls ≤ 6 ∧ version ≤ 256)]) fun s =>
    s.seaSubmit (.cmd h (.seaCommit cls version)))

/-- SEA_ENROL (R408, R415). -/
def execSeaEnrol (h : Hdr) (slot addr : Nat) (s : State) : Host.Outcome State Fault Refusal :=
  .next (s.acceptNow h 0xB4 (firstFail [(decide (slot ≤ 1), St.range), (addr % 8 == 0, St.misaligned)]) fun s =>
    s.seaSubmit (.cmd h (.seaEnrol slot addr)))

/-- SEA_CAK (R409, R415). -/
def execSeaCak (h : Hdr) (addr : Nat) (s : State) : Host.Outcome State Fault Refusal :=
  .next (s.acceptNow h 0xB5
    (firstFail [(addr % 8 == 0, St.misaligned), (s.idKeyOk && s.custSlot != 0, St.notReady),
      (s.flashOpen, St.tempForbidden)]) fun s =>
    s.seaSubmit (.cmd h (.seaCak addr)))

/-- SEA_RETIRE (R415). -/
def execSeaRetire (h : Hdr) (uid : Nat) (s : State) : Host.Outcome State Fault Refusal :=
  .next (s.acceptNow h 0xB6 (rangeUnless [uid == natLE s.uid]) fun s => s.seaSubmit (.cmd h (.seaRetire uid)))

/-- ENTROPY_FAILURE (R397). -/
def execEntropyFailure (s : State) : Host.Outcome State Fault Refusal :=
  .next (if s.sea.entropyBad then s
    else ({ s with sea := { s.sea with entropyBad := true } }.setF Reg.SEA_STAT_TRNG_FAIL).event 0x0004 0x0D05 [0])

/-- ENTROPY_RECOVERED (R397): 16 consecutive health tests have passed. -/
def execEntropyRecovered (s : State) : Host.Outcome State Fault Refusal :=
  .next (if s.sea.entropyBad then { s with sea := { s.sea with entropyBad := false } }.event 0x0004 0x0D05 [1] else s)

/-! ## Burning (R402, R414) -/

/-- The bits of words from word k on that are not yet burned, as word and bit, in order. -/
def bitsToBurn (old : Nat → Nat) (k : Nat) (l : List Nat) : List (Nat × Nat) :=
  l.zipIdx.flatMap fun e => ((maskList e.1 32).filter fun b => !bit (old (k + e.2)) b).map fun b => (k + e.2, b)

/-- The lowest unburned bits of a class (R402). -/
def State.arbBits (s : State) (c n : Nat) : List (Nat × Nat) :=
  (((List.range 256).filter fun b => !bit (s.seaFuse (arbWord c + b / 32)) (b % 32)).take n).map fun b =>
    (arbWord c + b / 32, b % 32)

/-- How far a burn gets (R414): all of it, or the bits up to where it stopped with the status of the stop. -/
def State.burnReach (s : State) (l : List (Nat × Nat)) (stopped : Option Nat) : List (Nat × Nat) × Option Nat :=
  match stopped with
  | none => (l, none)
  | some k => if l.length ≤ k then (l, none) else (l.take k, some (if s.fuseWindow then St.internal else St.tempForbidden))

/-- Burn bits of the Seawall bank, with the fuse-burn record (R416) where there is anything to burn. -/
def State.burnSea (s : State) (field : Nat) (l : List (Nat × Nat)) (stopped : Option Nat) : State × Option Nat :=
  let r := s.burnReach l stopped
  let s := s.each r.1 fun s e => s.burn e.1 (2 ^ e.2)
  (s.when (!l.isEmpty) fun s => s.event 0x0004 0x0D02 ([field, r.2.getD St.done] ++ bytesLE 2 r.1.length), r.2)

/-- Raise the anti-rollback count of a class to a version (R402), with its record. -/
def State.raiseCount (s : State) (c v : Nat) (stopped : Option Nat) : State × Option Nat :=
  let old := s.arbCount c
  let r := s.burnSea 0 (s.arbBits c (v - old)) stopped
  (r.1.when (decide (old < r.1.arbCount c)) fun s => s.event 0x0004 0x0D03 ([c, 0] ++ bytesLE 2 old ++ bytesLE 2 (s.arbCount c)),
    r.2)

/-! ## Levee certificates (R170 to R172) -/

/-- The form of a certificate (R170, R171). -/
def certForm (c : List Nat) : Bool :=
  let f := fun (at_ n : Nat) => fieldLE c at_ n
  decide (f 0 4 = 0x4C564331 ∧ f 4 2 = 1 ∧ f 6 2 = 448 ∧ nth c 11 = 0 ∧ f 42 2 = 0 ∧ f 8 2 ≤ 256) &&
    decide (nth c 10 ≤ 1) && (nth c 10 == 1 || allZero (slice c 16 16)) && allZero (slice c 309 7) &&
    decide (1 ≤ f 40 2 ∧ f 40 2 ≤ 1000 ∧ f 44 4 < 2 ^ 25) &&
    (List.range 16).all fun i =>
      let a := f (48 + 8 * i) 4
      let b := f (52 + 8 * i) 4
      (a == 0 && b == 0) || decide (400000 ≤ a ∧ a < b ∧ b ≤ 24000000)

/-- `REG_KEY_HASH` of the Levee fuse bank, 64 bytes. -/
def State.regKeyHash (s : State) : List Nat := (List.range 16).flatMap fun i => bytesLE 4 (s.leveeFuse (36 + i))

/-- The key of a certificate. -/
def certKey (c : List Nat) : List Nat := slice c 176 133

/-- The status of a certificate (R171), in the order of its table. -/
def State.certStatus (s : State) (c : List Nat) : Nat :=
  let v := fieldLE c 8 2
  let prog := s.leveeProgrammed
  (firstFail [(s.fuseWindow, St.tempForbidden), (certForm c, St.range),
    (fieldLE c 12 4 == 0x00006408 && (nth c 10 == 0 || slice c 16 16 == s.uid), St.authFail),
    (!prog || Config.sha512 (certKey c) == s.regKeyHash, St.authFail),
    (Config.ecdsaOk (Config.sha512 (certKey c)) (Config.sha512 (c.take 316)) (slice c 316 132), St.authFail),
    (if v = 0 then !prog else decide (s.arbCount 7 ≤ v), St.rollback)]).getD St.done

/-- The fuse words a base certificate burns (R160, R172): words 0 to 62 with `PROGRAMMED`, and `CHECK`. -/
def baseWords (c : List Nat) : List Nat :=
  let w := certWords c
  let w := w.set 2 (nth w 2 + 2 ^ 31)
  let w := w ++ wordsOf (Config.sha512 (certKey c)) ++ List.replicate 11 0
  w ++ [crc32 (w.flatMap (bytesLE 4))]

/-- Limits accepted wait for the next frame boundary (R172). -/
def State.acceptLimits (s : State) (h : Hdr) (c : List Nat) (slot : Nat) : State :=
  let v := fieldLE c 8 2
  let s := { s with levee := { s.levee with slotInForce := some slot, pending := some ⟨certWords c, v⟩ } }
  let s := s.setF Reg.LVE_STAT_PENDING
  let s := if s.sea.muteCounter.isNone then
      { s with sea := { s.sea with muteCounter := some 0 }, boot := { s.boot with muteFlash := some 0 } } else s
  let s := s.event 0x0038 0x0504 ([0] ++ bytesLE 2 v ++ [St.done] ++ bytesLE 2 h.tag)
  s.complete h 0x50 St.done

/-- A certificate is refused: nothing changes (R171). -/
def State.certRefused (s : State) (h : Hdr) (st ver : Nat) : State := (s.verifyFail 7 0 st ver).complete h 0x50 st

/-- Act on a certificate (R171, R172). -/
def State.doCert (s : State) (h : Hdr) (addr : Nat) (stopped : Option Nat) : State :=
  let c := s.hostRead addr 448
  let v := fieldLE c 8 2
  let st := s.certStatus c
  if st ≠ St.done then s.certRefused h st v
  else if v = 0 then
    let words := baseWords c
    let old := s.leveeFuse
    if !words.zipIdx.all (fun e => (old e.2 ||| e.1) == e.1) then s.certRefused h St.range v
    else
      let s := { s with levee := { s.levee with slots := s.levee.slots.set 0 c } }
      let l := bitsToBurn old 0 words
      let r := s.burnReach (l.filter (· != (2, 31)) ++ l.filter (· == (2, 31))) stopped
      let s := s.each r.1 fun s e =>
        { s with levee := { s.levee with fuses := s.levee.fuses.set e.1 (s.leveeFuse e.1 ||| 2 ^ e.2) } }
      let s := s.event 0x0004 0x0D02 ([4, r.2.getD St.done] ++ bytesLE 2 r.1.length)
      match r.2 with
      | some bad => s.complete h 0x50 bad
      | none => s.acceptLimits h c 0
  else
    let slot := if s.levee.slotInForce = some 0 then 1 else 0
    let s := { s with levee := { s.levee with slots := s.levee.slots.set slot c } }
    let r := s.raiseCount 7 v stopped
    match r.2 with
    | some bad => r.1.complete h 0x50 bad
    | none => r.1.acceptLimits h c slot

/-! ## Remote mute orders (R252, R410) -/

/-- The key that signs mute orders: that of the certificate in force, or of the base certificate in LEVEE_0 while its key matches
`REG_KEY_HASH`; none without one. -/
def State.muteKey (s : State) : Option (List Nat) :=
  let cert := fun (k : Nat) => (s.levee.slots.get? k).map certKey
  if !s.leveeProgrammed then none
  else if s.arbCount 7 = 0 then
    match cert 0 with
    | some k => if Config.sha512 k == s.regKeyHash then some k else none
    | none => none
  else if s.on Reg.LVE_STAT_NO_CERT then none
  else s.levee.slotInForce.bind cert

/-- The status of a mute order (R252): a bad signature or no key, then a counter not above the last. -/
def State.orderStatus (s : State) (o : List Nat) : Nat :=
  match s.muteKey, s.sea.muteCounter with
  | some k, some n =>
    (firstFail [(decide (nth o 2 ≤ 1 ∧ 1 ≤ nth o 3 ∧ nth o 3 ≤ 24), St.authFail),
      (Config.ecdsaOk (Config.sha512 k) (Config.sha512 (o.take 20)) (slice o 20 132), St.authFail),
      (decide (n < fieldLE o 4 8), St.rollback)]).getD St.done
  | _, _ => St.authFail

/-- Record the order counter: in flash, or in RAM while the flash window is closed (R461). -/
def State.setMuteCounter (s : State) (n : Nat) : State :=
  let s := { s with sea := { s.sea with muteCounter := some n } }
  if s.flashOpen then { s with boot := { s.boot with muteFlash := some n, muteHeld := false } }
  else { s with boot := { s.boot with muteHeld := true } }

/-- The effect of an order aimed at the device (R252, R166). -/
def State.applyOrder (s : State) (o : List Nat) : State :=
  s.each (maskList (fieldLE o 12 8) 64) fun s p =>
    if nth o 2 = 1 then { s with line := { s.line with remote := putBit s.line.remote p true } }.mutePath p 2
    else
      let s := { s with line := { s.line with remote := putBit s.line.remote p false } }
      if (s.levee.mutes.get? p).map Mute.cause = some 2 then s.unmutePath p 2 else s

/-- An order that passed its checks (R252): applied if aimed here, and sent on the ports given, if aimed elsewhere too. -/
def State.takeOrder (s : State) (o : List Nat) (lane hops : Nat) (ports : List Nat) (always : Bool) : State :=
  let target := fieldLE o 0 2
  let here := target == 0xFFFF || target == s.deviceId
  let s := s.setMuteCounter (fieldLE o 4 8)
  let s := s.when here fun s => (s.applyOrder o).event 0x0030 0x0705 ([lane, 4] ++ bytesLE 2 target)
  if always || ((target == 0xFFFF || !here) && decide (hops < nth o 3)) then
    s.each ports fun s k => s.sendOrder k o (hops + 1)
  else s

/-- An order that came by the overlay (R252): forwarded on every other port. -/
def State.doOrder (s : State) (port : Nat) (o : List Nat) (hops : Nat) : State :=
  let st := s.orderStatus o
  if st ≠ St.done then (s.authCount st).event 0x0030 0x0705 ([4 * port, 3] ++ bytesLE 2 (fieldLE o 0 2))
  else s.takeOrder o (4 * port) hops ([0, 1].filter (· != port)) false

/-- An order from the host (R252, R263): sent on every port in UP. -/
def State.doRmute (s : State) (h : Hdr) (addr : Nat) : State :=
  let o := s.hostRead addr 152
  let st := s.orderStatus o
  if st ≠ St.done then ((s.authCount st).event 0x0030 0x0705 ([0, 3] ++ bytesLE 2 (fieldLE o 0 2))).complete h 0x74 st
  else (s.takeOrder o 0 0 [0, 1] true).complete h 0x74 St.done

/-! ## Kernels (R341 to R343, R348) -/

/-- The form of a kernel image (R342). -/
def kernelForm (b : List Nat) : Bool :=
  let code := fieldLE b 16 4
  let ofs := 64 + ceilDiv code 64 * 64
  decide (fieldLE b 0 4 = 0x314B524E ∧ fieldLE b 4 2 = 1 ∧ fieldLE b 6 2 ≤ 256 ∧ nth b 8 ≤ 2 ∧ nth b 9 < 16) &&
    decide (1 ≤ nth b 10 ∧ nth b 10 ≤ 40 ∧ nth b 11 = 0) &&
    (nth b 8 != 2 || decide (1 ≤ fieldLE b 12 2 ∧ fieldLE b 12 2 ≤ 2560)) &&
    decide (code % 8 = 0 ∧ code ≤ 98304 ∧ fieldLE b 20 4 ≤ 98304 ∧ 8 * fieldLE b 14 2 < code) &&
    decide (fieldLE b 26 2 ≤ 4096 ∧ fieldLE b 24 2 + fieldLE b 26 2 ≤ 4096) && allZero (slice b 28 36) &&
    decide (ofs + 132 ≤ b.length ∧ b.length ≤ ofs + fieldLE b 20 4 + 132)

/-- The pages the tile firmware of the running slot takes: program and data (R343). -/
def State.firmwarePages (s : State) : Nat × Nat :=
  let img := ((s.boot.slot.bind s.boot.slots.get?).map fun x => x.images.getD 5 []).getD []
  (ceilDiv (fieldLE img 12 4) 4096, ceilDiv (fieldLE img 16 4) 4096)

/-- Whether the partition fits beside the firmware (R348). -/
def State.kernelFits (s : State) (b : List Nat) : Bool :=
  let fw := s.firmwarePages
  decide (fw.1 + ceilDiv (fieldLE b 16 4) 4096 ≤ 64 ∧ fw.2 + ceilDiv (fieldLE b 20 4) 4096 ≤ 64)

/-- The first page of a partition: where firmware puts it is free, within the memory the firmware leaves (R343). -/
def freePage (which fw pages : Nat) : Nat := fw + Config.kernelBase which % (64 - fw - pages + 1)

/-- A verified kernel with its partition on a tile. -/
def State.kernelOf (s : State) (b : List Nat) (n : Nat) : Kernel :=
  let code := fieldLE b 16 4
  let ofs := 64 + ceilDiv code 64 * 64
  let pp := ceilDiv code 4096
  let dp := ceilDiv (fieldLE b 20 4) 4096
  ⟨nth b 8, nth b 9, nth b 10, fieldLE b 12 2, fieldLE b 14 2, fieldLE b 6 2, fieldLE b 24 2, fieldLE b 26 2,
    slice b 64 code, slice b ofs (b.length - 132 - ofs), freePage (2 * n) s.firmwarePages.1 pp, pp,
    freePage (2 * n + 1) s.firmwarePages.2 dp, dp⟩

/-- The registers of an engine out of reset. -/
def EngRegs.initial : EngRegs :=
  ⟨List.replicate 16 0, List.replicate 8 0, List.replicate 8 ⟨0, 0, 0, 0, 0, 0⟩, 0, 0, [], 0⟩

/-- An engine before its image runs. -/
def Engine.initial : Engine :=
  ⟨EngRegs.initial, [], [], none, none, none, 0, [], none, false, none, false, 0, none, [], 0, []⟩

/-- The kept state of an engine. -/
def State.engine (s : State) (n : Nat) : Engine := s.eng.engines.getD n Engine.initial
def State.modEngine (s : State) (n : Nat) (f : Engine → Engine) : State :=
  { s with eng := { s.eng with engines := s.eng.engines.set n (f (s.engine n)) } }

/-- Make a load or unload wait for its slot boundary on a tile (R348): one that waited there is superseded, and completes so unless it
has already. -/
def State.kernelWait (s : State) (n : Nat) (h : Hdr) (k : Option Kernel) : State :=
  let s := match (s.engine n).kpend with
    | some q =>
      match q.hdr with
      | some old =>
        if old = h then s
        else
          let s := s.each (List.range 8) fun s m =>
            s.modEngine m fun e => { e with kpend := e.kpend.map fun (q : KernelPending) => if q.hdr = some old then { q with hdr := none } else q }
          s.complete old 0x90 St.superseded
      | none => s
    | none => s
  s.modEngine n fun e => { e with kpend := some ⟨some h, k⟩ }

/-- Verify a kernel image and hand it to E14 for placement (R341, R348, R400). -/
def State.doKernel (s : State) (h : Hdr) (mask addr len : Nat) : State :=
  let b := s.hostRead addr len
  let st := (firstFail [(kernelForm b && s.kernelFits b, St.range),
    (Config.ecdsaOk s.custHash (Config.sha512 (signedPart b)) (signature b), St.authFail),
    (decide (s.arbCount 6 ≤ fieldLE b 6 2), St.rollback)]).getD St.done
  if st ≠ St.done then (s.verifyFail 6 ((maskList mask 8).headD 0) st (fieldLE b 6 2)).complete h 0x90 st
  else
    s.each (maskList mask 8) fun s n =>
      let s := s.kernelWait n h (some (s.kernelOf b n))
      { s with sea := { s.sea with measures := s.sea.measures.set (32 + n) (Config.sha512 (signedPart b)) } }

/-! ## Identity, attestation, keys, retirement -/

/-- `DEVICE_ID` as the identity block shows it (R404). -/
def State.idWord (s : State) : Nat := s.deviceId + 2 ^ 15 * b2n (s.on Reg.SEA_STAT_ID_RECORD_OK)

/-- The identity block (R404). -/
def State.identityBlock (s : State) : List Nat :=
  fit 149 (s.uid ++ fit 133 (Config.publicPoint s.idPriv)) ++ [0, 0, 0] ++ fit 132 s.sea.endorsement ++
    bytesLE 2 s.idWord ++ [s.lifecycle, 0]

/-- The 26 entries of an attestation report (R406, R407). -/
def State.attestEntry (s : State) (i : Nat) : List Nat :=
  let one := fun (cls ver flags : Nat) (d : List Nat) => [i, cls] ++ bytesLE 2 ver ++ [flags, 0, 0, 0] ++ fit 64 d
  if i < 16 then
    let st := s.get (Reg.ENG_STAT_STATE i)
    if st = 5 then one (engineClass i) 0 0 []
    else one (engineClass i) (s.get (Reg.ENG_STAT_IMG_VER i)) (b2n (st == 1 || st == 2) + 2 * b2n (st == 4)) (s.sea.measures.getD i [])
  else if i < 24 then
    let n := i - 16
    let e := s.engine n
    if e.kernel.isNone then one 6 0 0 []
    else one 6 (s.get (Reg.ENG_KPROG_KVER n)) (b2n (!e.kernelOff) + 4 * b2n e.kernelOff) (s.sea.measures.getD i [])
  else if i = 24 then
    one 7 (s.get Reg.LVE_STAT_VERSION) (b2n s.txAllowed)
      (Config.sha512 ((List.range 36).flatMap fun k => bytesLE 4 (s.rd (Reg.LVE_INFORCE k))))
  else one 0 0 0 (Config.sha512 (s.fuseBytes 0 69))

/-- The signed bytes of an attestation report (R406). -/
def State.attestBody (s : State) (nonce : List Nat) : List Nat :=
  bytesLE 4 0x53415431 ++ [1, 0] ++ bytesLE 2 2132 ++ fit 64 nonce ++ s.uid ++ bytesLE 2 s.idWord ++ [s.lifecycle, 26] ++
    bytesLE 8 s.timeNs ++ ((List.range 8).flatMap fun c => bytesLE 2 (s.arbCount c)) ++ List.replicate 12 0 ++
    (List.range 26).flatMap s.attestEntry

/-- Make the identity record (R405). -/
def State.doSetId (s : State) (h : Hdr) (id : Nat) : State :=
  let body := s.uid ++ bytesLE 2 id ++ [0, 0] ++ bytesLE 8 s.timeNs
  let (s, sig) := s.idSign body
  { s with sea := { s.sea with idRecord := body ++ sig } }.complete h 0xB2 St.done

/-- Whether the running images let a class be committed to a version (R403). -/
def State.commitOk (s : State) (c v : Nat) : Bool :=
  if c = 6 then (List.range 8).all fun n => !s.on (Reg.ENG_STAT_KLOADED n) || s.get (Reg.ENG_KPROG_KVER n) == v
  else (maskList (classEngines c) 16).all fun n => s.get (Reg.ENG_STAT_STATE n) == 5 || s.get (Reg.ENG_STAT_IMG_VER n) == v

/-- Commit a version (R402, R403, R414). -/
def State.doCommit (s : State) (h : Hdr) (c v : Nat) (stopped : Option Nat) : State :=
  if v ≤ s.arbCount c then s.complete h 0xB3 St.done
  else if !s.commitOk c v then s.complete h 0xB3 St.range
  else if !s.fuseWindow then s.complete h 0xB3 St.tempForbidden
  else
    let r := s.raiseCount c v stopped
    match r.2 with
    | some bad => r.1.complete h 0xB3 bad
    | none =>
      let s := r.1
      let s := if c = 0 ∧ s.sea.rootKey = 1 ∧ s.life 2 = false then (s.burnSea 2 [(4, 2)] none).1 else s
      s.complete h 0xB3 St.done

/-- Enrol a customer key (R408, R414): the hash, then the `DONE` bit; for slot 1 also `CUST0_REVOKED`. -/
def State.doEnrol (s : State) (h : Hdr) (slot addr : Nat) (stopped : Option Nat) : State :=
  let key := s.hostRead addr 133
  let sig := s.hostRead (addr + 133) 132
  let hash := wordsOf (Config.sha512 key)
  let base := 37 + 16 * slot
  let open_ := if slot = 0 then !s.life 4 else s.life 4 && !s.life 5
  let slot0 := s.fuseBytes 37 16
  let st := (firstFail [(open_, St.range),
    (slot == 0 || Config.ecdsaOk slot0 (Config.sha512 (s.uid ++ key)) sig, St.authFail),
    (s.burnable base hash, St.range), (s.fuseWindow, St.tempForbidden)]).getD St.done
  if st ≠ St.done then (s.authCount st).complete h 0xB4 st
  else
    let l := bitsToBurn s.seaFuse base hash ++ (if slot = 0 then [(4, 4)] else [(4, 5), (4, 6)])
    let r := s.burnSea 1 l stopped
    match r.2 with
    | some bad => r.1.complete h 0xB4 bad
    | none => (r.1.event 0x0004 0x0D04 [0, slot]).complete h 0xB4 St.done

/-- The form of a CAK delivery (R409). -/
def cakForm (b : List Nat) : Bool :=
  let n := nth b 1
  decide (1 ≤ nth b 0 ∧ nth b 0 ≤ 3 ∧ 1 ≤ n ∧ n ≤ 32 ∧ nth b 175 = 0) && allZero (slice b (10 + n) (32 - n))

/-- Accept a CAK delivery (R409 to R411): MKA starts again on its ports. -/
def State.doCak (s : State) (h : Hdr) (addr : Nat) : State :=
  let b := s.hostRead addr 348
  let key := Config.cakUnwrap s.idPriv s.uid b
  let st := (firstFail [(cakForm b, St.range),
    (Config.ecdsaOk s.custHash (Config.sha512 (b.take 216)) (slice b 216 132), St.authFail),
    (decide (s.sea.cakCounter < fieldLE b 2 8), St.rollback), (key.isSome, St.authFail)]).getD St.done
  if st ≠ St.done then (s.authCount st).complete h 0xB5 st
  else
    let rec_ : CakRecord := ⟨slice b 10 (nth b 1), key.getD []⟩
    let ports := maskList (nth b 0) 2
    let s := s.each ports fun s k =>
      { s with sea := { s.sea with caks := s.sea.caks.set k rec_ } }.put (Reg.FTH_MSEC_STAT_MKA_UP k) 0
    let s := { s with sea := { s.sea with cakCounter := fieldLE b 2 8 } }
    (s.event 0x0004 0x0D04 ([1, nth b 0] ++ slice b 2 8)).complete h 0xB5 St.done

/-- Retire the device (R415). -/
def State.doRetire (s : State) (h : Hdr) (stopped : Option Nat) : State :=
  if !s.fuseWindow then s.complete h 0xB6 St.tempForbidden
  else
    let r := s.burnSea 3 (bitsToBurn s.seaFuse 4 [2]) stopped
    match r.2 with
    | some bad => r.1.complete h 0xB6 bad
    | none =>
      let s := { r.1 with sea := { r.1.sea with retired := true } }
      let s := s.each (List.range 8) fun s n => s.tileOff n 0
      let s := s.put Reg.LVE_STAT_TX_ALLOWED 0
      ((s.dropSas 0).dropSas 1).complete h 0xB6 St.done

/-! ## One operation at a time (R412, R414) -/

/-- Whether an operation is a certificate check or a remote mute check, which are served first (R412). -/
def seaFirst : SeaJob → Bool
  | .cmd _ (.leveeCert _) => true
  | .cmd _ (.lineRmute _) => true
  | .cmd _ _ => false
  | .mute _ _ _ => true

/-- Carry out an operation as it ends; `stopped` is the number of bits after which a burn stopped (R414). -/
def State.seaRun (s : State) (j : SeaJob) (stopped : Option Nat) : State :=
  match j with
  | .mute port order hops => s.doOrder port order hops
  | .cmd h c =>
    match c with
    | .leveeCert addr => s.doCert h addr stopped
    | .lineRmute addr => s.doRmute h addr
    | .engKernel mask _ addr len => s.doKernel h mask addr len
    | .seaIdentity addr => (s.hostWrite addr s.identityBlock).complete h 0xB0 St.done
    | .seaAttest nonce addr =>
      let body := s.attestBody (s.hostRead nonce 64)
      let (s, sig) := s.idSign body
      (s.hostWrite addr (body ++ sig)).complete h 0xB1 St.done
    | .seaSetId id => s.doSetId h id
    | .seaCommit c v => s.doCommit h c v stopped
    | .seaEnrol slot addr => s.doEnrol h slot addr stopped
    | .seaCak addr => s.doCak h addr
    | .seaRetire _ => s.doRetire h stopped
    | _ => s

/-- Take the next operation: certificates and mute orders first, then in fetch order (R412, R414). -/
def State.seaNext (s : State) : State :=
  let q := s.sea.queue
  match (q.find? seaFirst).orElse fun _ => q.head? with
  | none => { s with sea := { s.sea with running := none } }.put Reg.SEA_STAT_BUSY 0
  | some j => { s with sea := { s.sea with running := some j, queue := q.erase j } }

/-- SEAWALL_OPERATION_DONE (R412, R414). -/
def execSeawallOperationDone (stopped : Option Nat) (s : State) : Host.Outcome State Fault Refusal :=
  .next (match s.sea.running with
    | none => s
    | some j => (s.seaRun j stopped).seaNext)

end Sys2Proof.Machine
end

