-- ==== Sys2Proof/Machine/Boot.lean ====
section
/-! DEFINITION. Reset and bring-up (R418 to R441): entering and leaving reset, the configuration record, the choice of an image slot,
loading engines, the reference, the analogue rails, and updates of the flash. -/
namespace Sys2Proof.Machine
open Sys2Proof

/-! ## Entering reset (R419, R422) -/

/-- RSTN_FALL (R419): cause `PIN`. -/
def execRstnFall (s : State) : Host.Outcome State Fault Refusal :=
  let s := s.restart 2 false
  .next { s with boot := { s.boot with rstnHigh := false } }

/-- SUPPLY_MONITOR_TRIP (R419): a monitored rail leaves tolerance; cause `POR`. -/
def execSupplyMonitorTrip (aonLost : Bool) (s : State) : Host.Outcome State Fault Refusal :=
  let s := s.restart 1 aonLost
  .next { s with boot := { s.boot with supplyOk := false } }

/-- A soft reset (R422): cause `SOFT`. -/
def State.softReset (s : State) (key : Nat) : State := if key = 0xA5 then s.restart 4 false else s

/-- SOFT_RST (R422): `SOFT_RST` with its key in the same write. -/
def execSoftRst (rq : Requester) (key : Nat) (s : State) : Host.Outcome State Fault Refusal :=
  .next (if s.mayWrite rq Reg.DEV_BOOT_CTL then s.softReset key else s)

/-! ## The configuration record (R427) -/

/-- Whether a configuration record is valid. -/
def configOk (c : List Nat) : Bool :=
  decide (c.length ≥ 20 ∧ fieldLE c 0 4 = 0x47464331 ∧ fieldLE c 4 2 = 1 ∧ nth c 6 ≤ 1 ∧ nth c 7 ≤ 1 ∧ nth c 8 ≤ 7) &&
    decide (1 ≤ nth c 9 ∧ nth c 9 ≤ 6 ∧ nth c 10 ≤ 7 ∧ nth c 11 ≤ 3 ∧ fieldLE c 12 4 = 0) &&
    fieldLE c 16 4 == crc32 (c.take 16) && !(nth c 6 == 1 && nth c 7 == 1)

/-- Load the configuration, or the defaults with `CONFIG_DEFAULT` and an event (R427). -/
def State.loadConfig (s : State) : State :=
  let ok := configOk s.boot.config
  let c := if ok then s.boot.config else [0, 0, 0, 0, 0, 0, 0, 0, 0, 6, 0, 0]
  let s := { s with boot := { s.boot with tunnel := nth c 6 == 1, bootTile := nth c 10, refCfg := nth c 11 } }
  let s := ((s.put Reg.CUL_CFG_MEMBERS_M1 (nth c 8)).put Reg.CUL_CFG_LANES (nth c 9)).put Reg.CUL_CFG_LEAD (nth c 7)
  let s := s.put Reg.CUL_CFG_TUNNELLED (nth c 6)
  s.when (!ok) fun s => (s.setF Reg.DEV_BOOT_STAT_CONFIG_DEFAULT).event 0x0000 (Config.unnamedEvent 4) []

/-! ## Image slots (R428, R429) -/

/-- State bytes of a slot. -/
abbrev slotTrial : Nat := 0x7F
abbrev slotGood : Nat := 0x3F
abbrev slotBad : Nat := 0x00
abbrev slotEmpty : Nat := 0xFF

/-- A slot whose header was never written, or whose write stopped. -/
def Slot.blank : Slot := ⟨false, 0, slotEmpty, 0xFF, []⟩

/-- Whether a slot is a candidate (R429). -/
def slotCandidate (x : Slot) : Bool := x.magicOk && (x.state == slotGood || (x.state == slotTrial && x.tries != 0xF8))

/-- Clear the lowest set bit. -/
def clearLowest (n : Nat) : Nat := ((List.range 8).find? (bit n)).elim n fun b => putBit n b false

/-- The first image of a slot that fails R400, with its status; the image of class c stands at place c. -/
def State.slotFail (s : State) (x : Slot) : Option (Nat × Nat) :=
  ((List.range 6).map fun c =>
    let b := x.images.getD c []
    (c, if nth b 6 = c then s.imageStatus b else St.range)).find? fun e => e.2 != St.done

/-- Change a slot. -/
def State.setSlot (s : State) (k : Nat) (x : Slot) : State := { s with boot := { s.boot with slots := s.boot.slots.set k x } }

/-- The slot event 0x0E02. -/
def State.slotEvent (s : State) (k what cls st gen : Nat) : State :=
  s.event 0x0000 0x0E02 ([k, what, cls, st] ++ bytesLE 4 gen)

/-- Try the candidates in order (R429): the slot that boots, if one does. -/
def State.trySlots (s : State) : List Nat → State × Option Nat
  | [] => (s, none)
  | k :: t =>
    match s.boot.slots.get? k with
    | none => s.trySlots t
    | some x =>
      let x := if x.state = slotTrial then { x with tries := clearLowest x.tries } else x
      let s := s.setSlot k x
      match s.slotFail x with
      | none => (s.slotEvent k 0 0xFF St.done x.gen, some k)
      | some (c, st) => State.trySlots ((s.setSlot k { x with state := slotBad }).slotEvent k 1 c st x.gen) t

/-- Choose the slot (R429): higher generation first; a trial slot whose tries are used up is marked BAD. -/
def State.chooseSlot (s : State) : State :=
  let all := s.boot.slots.filter fun e => e.1 < 2
  let spent := all.filter fun e => e.2.magicOk && e.2.state == slotTrial && e.2.tries == 0xF8
  let order := (sortBy (fun (e : Nat × Slot) => -(e.2.gen : Int)) (all.filter fun e => slotCandidate e.2)).map Prod.fst
  let s := s.each spent fun s e => (s.setSlot e.1 { e.2 with state := slotBad }).slotEvent e.1 1 0xFF St.done e.2.gen
  let (s, k) := s.trySlots order
  let s := { s with boot := { s.boot with slot := k } }
  match k with
  | none => s.setF Reg.DEV_BOOT_STAT_NO_IMAGE
  | some k =>
    let x := s.boot.slots.getD k Slot.blank
    let s := { s with sea := { s.sea with rootKey := (s.rootOf (x.images.getD 0 [])).getD 0 } }
    (s.put Reg.DEV_BOOT_STAT_SLOT k).put Reg.DEV_BOOT_STAT_TRIAL (b2n (x.state == slotTrial))

/-- RESET_RELEASE (R419, R423, R425, R427, R429, R433): the later of `RSTN` rising and power-good starts a cold boot, steps 1 to 3 of the
timeline. The address straps are sampled (R532); `TEST_EN`, which holds the device in reset too, is low again (R537). A flash without valid
SFDP leads to recovery (R432). While `PWR_EN` is low the board holds `RSTN` low (R446). -/
def execResetRelease (flashOk fast : Bool) (s : State) : Host.Outcome State Fault Refusal :=
  .next (if s.boot.step ≠ 0 || !s.pwr.sentinel.pwrEn then s
    else
      let s := s.when s.pwr.sentinel.woken fun s => s.setF Reg.DEV_RESET_CAUSE_DORMANT
      let s := { s with pwr := { s.pwr with sentinel := { s.pwr.sentinel with woken := false } } }
      let s := { s with boot := { s.boot with rstnHigh := true, supplyOk := true, testEn := false, t0 := s.now } }
      let s := { s with pkg := { s.pkg with smbAddr := 0x58 + s.pkg.straps % 8 } }
      let s := s.milestone 1 0xFF
      if !flashOk then s.setF Reg.DEV_BOOT_STAT_NO_IMAGE
      else
        let s := ((s.setF Reg.DEV_BOOT_STAT_FLASH_OK).put Reg.DEV_BOOT_STAT_SLOW_FLASH (b2n (!fast))).milestone 2 0xFF
        let s := s.loadConfig.put Reg.TIM_EPOCH_EPOCH s.boot.epochFlash
        let s := s.chooseSlot
        if s.boot.slot.isNone then s else s.milestone 3 0xFF)

/-! ## Engines (R321, R335, R400, R401) -/

/-- Device address of an engine's data memory (R378). -/
def engData (n : Nat) : Nat := 0x02000000 + 0x40000 * n

/-- Change an engine's mode, with its record (R335, R349). -/
def State.setMode (s : State) (n mode cause : Nat) : State :=
  let old := s.get (Reg.ENG_STAT_MODE n)
  if old = mode then s
  else (s.put (Reg.ENG_STAT_MODE n) mode).event (0x0040 + n) 0x0A03 [old, mode, cause]

/-- Load a verified image into an engine and release it in Maintenance (R335, R399, R401). -/
def State.loadEngine (s : State) (n : Nat) (b : List Nat) : State :=
  let prog := fieldLE b 12 4
  let data := fieldLE b 16 4
  let regs := { EngRegs.initial with pc := fieldLE b 20 2 }
  let s := s.modEngine n fun e =>
    { e with image := b, prog := e.prog.writeBytes 0 (slice b 192 prog), r := regs, saved := none, wait := none, trap := none,
             yieldAt := s.now, modeNext := none }
  let s := s.devWrite (engData n) (slice b (192 + prog) data)
  let s := { s with sea := { s.sea with measures := s.sea.measures.set n (Config.sha512 (signedPart b)) } }
  let s := (s.put (Reg.ENG_STAT_STATE n) 1).put (Reg.ENG_STAT_MODE n) 1
  s.put (Reg.ENG_STAT_IMG_VER n) (fieldLE b 10 2)

/-- Whether every engine's image runs. -/
def State.allEngines (s : State) : Bool := (List.range 16).all fun n => s.get (Reg.ENG_STAT_STATE n) != 0

/-- The record of a dump written before the reset, raised at the next boot (R512). -/
def State.dumpNotice (s : State) : State :=
  match s.flt.dumpNotice with
  | none => s
  | some (cause, dest, flags, len) =>
    { s with flt := { s.flt with dumpNotice := none } }.event 0x003E 0x1201
      ([cause, dest, flags % 256, 0] ++ bytesLE 4 s.flt.dumpSeq ++ bytesLE 4 len)

/-- IMAGE_VERIFICATION (R400, R401, R433): an engine's image is checked before the engine leaves reset: first E15's by its boot ROM, then
E14's, then the others. -/
def execImageVerification (engine : Nat) (image : List Nat) (s : State) : Host.Outcome State Fault Refusal :=
  let least := if engine = 15 then 3 else if engine = 14 then 4 else 5
  .next (if engine ≥ 16 ∨ s.boot.step < least ∨ s.get (Reg.ENG_STAT_STATE engine) ≠ 0 then s
    else
      let st := if !bit (fieldLE image 8 2) engine then St.range else s.imageStatus image
      if st ≠ St.done then s.verifyFail (nth image 6) engine st (fieldLE image 10 2)
      else
        let s := s.loadEngine engine image
        let s := s.when (engine = 15) fun s =>
          ((s.put Reg.SEA_STAT_ID_KEY_OK (b2n s.idKeyOk)).milestone 4 0xFF)
        s.when (engine = 14) fun s => (s.milestone 5 0xFF).dumpNotice)

/-! ## Service of the digital part (R161, R308, R433) -/

/-- Whether the identity record in flash verifies (R308, R405). -/
def State.idRecordOk (s : State) : Bool :=
  let r := s.sea.idRecord
  s.hasIdentity && r.length == 160 && slice r 0 16 == s.uid && decide (fieldLE r 16 2 ≤ 16383 ∧ fieldLE r 18 2 = 0) &&
    Config.ecdsaOk (Config.sha512 (fit 133 (Config.publicPoint s.idPriv))) (Config.sha512 (r.take 28)) (slice r 28 132)

/-- Take the identity record into force (R308, R312): without one the device has no ID and joins nothing. -/
def State.takeIdentity (s : State) : State :=
  let ok := s.idRecordOk
  let id := if ok then fieldLE s.sea.idRecord 16 2 else 0
  let s := (s.put Reg.SEA_STAT_ID_RECORD_OK (b2n ok)).put Reg.SEA_STAT_DEVICE_ID id
  let s := (s.put Reg.TIM_ROOT_NO_ID (b2n (!ok))).put Reg.TIM_ROOT_ROOT_ID id
  (s.put Reg.CUL_CFG_POSITION (id % 8)).elect

/-- The checks of R171 that a stored certificate of the fused count must pass at boot: all but the temperature of acceptance. -/
def State.storedCertOk (s : State) (c : List Nat) : Bool :=
  certForm c && fieldLE c 12 4 == 0x00006408 && (nth c 10 == 0 || slice c 16 16 == s.uid) &&
    Config.sha512 (certKey c) == s.regKeyHash &&
    Config.ecdsaOk (Config.sha512 (certKey c)) (Config.sha512 (c.take 316)) (slice c 316 132) &&
    fieldLE c 8 2 == s.arbCount 7

/-- Choose the Levee limits (R161); refusing transmit is recorded. -/
def State.chooseLimits (s : State) : State :=
  let refuse := fun (noCert : Bool) =>
    (s.showNoLimits noCert).event 0x0038 0x0504 ([2] ++ bytesLE 2 (s.arbCount 7))
  if s.life 1 || !s.leveeProgrammed || !s.leveeCheckOk then refuse false
  else if s.arbCount 7 = 0 then
    let s := s.showLimits ((List.range 36).map fun k => if k = 2 then s.leveeFuse 2 % 2 ^ 10 else s.leveeFuse k) 0
    { s with levee := { s.levee with slotInForce := if s.levee.slots.has 0 then some 0 else none } }
  else
    match [0, 1].find? fun k => (s.levee.slots.get? k).any s.storedCertOk with
    | some k =>
      let c := s.levee.slots.getD k []
      let s := s.showLimits (certWords c) (fieldLE c 8 2)
      { s with levee := { s.levee with slotInForce := some k } }
    | none => refuse true

/-- The lanes and synthesisers start where images and reference are good (R423, R433). -/
def State.startReference (s : State) : State :=
  if !s.on Reg.DEV_BOOT_STAT_IMAGES_OK || !s.on Reg.DEV_BOOT_STAT_REF_SWITCHED then s
  else
    let s := (s.each (List.range 8) State.laneStart).culRefresh
    if s.rct.synth.isNone && !s.on Reg.CLK_SYN_STAT_SYNTH_OK && !s.trip then s.startSynthCal 3 [] else s

/-- IMAGES_OK (R433, R434, R335): steps 7 to 9, once every image is verified. The rings become ready; on a device whose host path is
TUNNEL they do so through the lead. The profile at start is in force (R29). -/
def execImagesOk (s : State) : Host.Outcome State Fault Refusal :=
  .next (if !s.allEngines || s.on Reg.DEV_BOOT_STAT_IMAGES_OK then s
    else
      let s := (s.milestone 7 0xFF).takeIdentity
      let s := (s.milestone 8 0xFF).chooseLimits
      let s := s.setF Reg.DEV_BOOT_STAT_IMAGES_OK
      let s := s.when (s.host.perstHigh && !s.boot.tunnel) fun s => s.setF Reg.HRG_STAT_READY
      let s := s.put Reg.DEV_PROFILE_IN_FORCE (s.get Reg.DEV_PROFILE_PROFILE)
      let s := s.each (List.range' 8 8) fun s n => s.setMode n 0 1
      (s.milestone 9 0xFF).startReference)

/-! ## Reference and rails (R420, R423, R424) -/

/-- `REF_FREQ` of a measured frequency in kHz: 0 where it matches none within ±10%. -/
def refCode (khz : Nat) : Nat :=
  let near := fun (f : Nat) => decide (9 * f ≤ 10 * khz ∧ 10 * khz ≤ 11 * f)
  if near 122880 then 1 else if near 245760 then 2 else if near 491520 then 3 else 0

/-- REFERENCE_MEASURE (R423, R424): 0 kHz is an absent reference. -/
def execReferenceMeasure (khz : Nat) (s : State) : Host.Outcome State Fault Refusal :=
  let code := if khz = 0 then 0 else if s.boot.refCfg ≠ 0 then s.boot.refCfg else refCode khz
  .next (if s.boot.step < 5 ∨ s.on Reg.DEV_BOOT_STAT_REF_OK = true then s
    else if code = 0 then
      if s.boot.refLost then s
      else { s with boot := { s.boot with refLost := true } }.event 0x0000 0x0E04 [2]
    else
      let s := s.when s.boot.refLost fun s => s.event 0x0000 0x0E04 [3]
      let s := { s with boot := { s.boot with refLost := false } }
      let s := (s.setF Reg.DEV_BOOT_STAT_REF_OK).put Reg.DEV_BOOT_STAT_REF_FREQ code
      let first := !s.on Reg.DEV_BOOT_STAT_REF_SWITCHED
      let s := s.setF Reg.DEV_BOOT_STAT_REF_SWITCHED
      (s.when first fun s => s.milestone 6 0xFF).startReference)

/-- REFERENCE_LOST (R424, R174): the core PLL holds, the synthesisers lose lock, and the device resumes when the reference returns. -/
def execReferenceLost (s : State) : Host.Outcome State Fault Refusal :=
  .next (if !s.on Reg.DEV_BOOT_STAT_REF_OK then s
    else
      let s := (s.put Reg.DEV_BOOT_STAT_REF_OK 0).event 0x0000 0x0E04 [4]
      let s := { s with boot := { s.boot with refLost := true } }
      let s := if s.on Reg.CLK_SYN_STAT_SYNTH_OK then s.synthLost 2 else s
      { s with rct := { s.rct with synth := none } }.put Reg.CLK_SYN_STAT_CAL_BUSY 0)

/-- RAIL_RECHECK (R420): the rails out of tolerance; a rail event for each change, and the lanes follow `VDD_LANE`. -/
def execRailRecheck (outMask : Nat) (s : State) : Host.Outcome State Fault Refusal :=
  let old := s.boot.railsOut
  let new := outMask % 8
  let s := { s with boot := { s.boot with railsOut := new } }
  let s := s.each ((List.range 3).filter fun r => bit old r != bit new r) fun s r => s.event 0x0000 0x0E04 [b2n (!bit new r), r]
  .next (if bit old 2 = bit new 2 then s
    else
      let s := if bit new 2 then s.each (List.range 8) State.enterDown else s.each (List.range 8) State.laneStart
      s.culRefresh)

/-! ## Updates of the flash (R430, R431, R432) -/

/-- The running TRIAL slot becomes GOOD (R430). -/
def State.confirmSlot (s : State) : State :=
  match s.boot.slot with
  | some k =>
    let x := s.boot.slots.getD k Slot.blank
    if x.state = slotTrial then
      ((s.setSlot k { x with state := slotGood }).put Reg.DEV_BOOT_STAT_TRIAL 0).slotEvent k 2 0xFF St.done x.gen
    else s
  | none => s

/-- CONFIRM (R430). -/
def execConfirm (rq : Requester) (s : State) : Host.Outcome State Fault Refusal :=
  .next (if s.mayWrite rq Reg.DEV_BOOT_CTL then s.confirmSlot else s)

/-- The slot an image update writes (R431, R432): the one that does not run; in recovery IMG_A, or IMG_B if IMG_A holds a higher
generation. -/
def State.updateSlot (s : State) : Nat :=
  let gen := fun (k : Nat) => match s.boot.slots.get? k with
    | some x => if x.magicOk then (x.gen : Int) else -1
    | none => -1
  match s.boot.slot with
  | some k => 1 - k
  | none => if gen 0 > gen 1 then 1 else 0

/-- An update ends (R431, R440): its status is shown and recorded. -/
def State.endUpdate (s : State) (kind slot st : Nat) : State :=
  let s := { s with boot := { s.boot with update := none } }
  let s := (s.put Reg.DEV_UPD_STAT_STATUS st).put Reg.DEV_UPD_STAT_BUSY 0
  let s := (s.setF Reg.DEV_UPD_STAT_DONE).put Reg.DEV_UPD_STAT_TARGET slot
  s.event 0x0000 0x0E03 [kind, st, slot]

/-- A write of `GO` starts an update, and is ignored while one runs (R431). In recovery the boot ROM accepts `KIND` 0 only (R432). -/
def State.startUpdate (s : State) : State :=
  let kind := s.get Reg.DEV_UPD_CTL_KIND
  let slot := if kind = 0 then s.updateSlot else 0
  let trial := (s.boot.slot.bind s.boot.slots.get?).any fun x => x.state == slotTrial
  if s.on Reg.DEV_UPD_STAT_BUSY then s
  else
    let fail := firstFail [(s.rd64 Reg.DEV_UPD_ADDR % 64 == 0, St.misaligned),
      (kind != 3 && (kind == 0 || !s.on Reg.DEV_BOOT_STAT_NO_IMAGE) &&
        decide (kind ≠ 0 ∨ s.get Reg.DEV_UPD_CTL_LEN ≤ 6 * 2 ^ 20), St.range),
      (!(kind == 0 && trial), St.notReady),
      (s.flashOpen || s.on Reg.DEV_BOOT_STAT_NO_IMAGE, St.tempForbidden)]
    match fail with
    | some st => s.endUpdate kind slot st
    | none =>
      let data := s.hostRead (s.rd64 Reg.DEV_UPD_ADDR) (s.get Reg.DEV_UPD_CTL_LEN)
      { s with boot := { s.boot with update := some ⟨kind, slot, data⟩ } }.setF Reg.DEV_UPD_STAT_BUSY

/-- GO (R431). -/
def execGo (rq : Requester) (s : State) : Host.Outcome State Fault Refusal :=
  .next (if s.mayWrite rq Reg.DEV_UPD_CTL then s.startUpdate else s)

/-- The images of an update's content (R428), by class; none where its header sector breaks a rule. -/
def updateImages (d : List Nat) : Option (List (List Nat)) :=
  let ofs := fun (c : Nat) => fieldLE d (16 + 8 * c) 4
  let len := fun (c : Nat) => fieldLE d (20 + 8 * c) 4
  if fieldLE d 0 4 = 0x47534C31 ∧ fieldLE d 10 2 = 6 ∧ fieldLE d 12 4 + 4096 = d.length ∧
      (List.range 6).all (fun c => decide (ofs c % 64 = 0 ∧ 4096 ≤ ofs c ∧ ofs c + len c ≤ d.length)) = true then
    some ((List.range 6).map fun c => slice d (ofs c) (len c))
  else none

/-- UPDATE_DONE (R431, R432): the content is fetched, checked and written. A write that stops leaves the slot never chosen. -/
def execUpdateDone (busOk tempOk writeOk : Bool) (s : State) : Host.Outcome State Fault Refusal :=
  .next (match s.boot.update with
    | none => s
    | some u =>
      if !busOk then s.endUpdate u.kind u.slot St.busError
      else if u.kind = 1 then
        if u.data.length ≠ 20 ∨ configOk u.data = false then s.endUpdate 1 0 St.range
        else if !tempOk then s.endUpdate 1 0 St.tempForbidden
        else { s with boot := { s.boot with config := u.data } }.endUpdate 1 0 St.done
      else if u.kind = 2 then
        if !tempOk then s.endUpdate 2 0 St.tempForbidden
        else { s with sea := { s.sea with endorsement := fit 132 u.data } }.endUpdate 2 0 St.done
      else
        match updateImages u.data with
        | none => s.endUpdate 0 u.slot St.range
        | some images =>
          let gens := (s.boot.slots.filter fun e => e.2.magicOk && (s.boot.slot.isNone || s.boot.slot == some e.1)).map
            fun e => e.2.gen
          let x : Slot := ⟨true, gens.foldl max 0 + 1, slotTrial, 0xFF, images⟩
          match s.slotFail x with
          | some (_, st) => (s.authCount st).endUpdate 0 u.slot st
          | none =>
            if !tempOk then (s.setSlot u.slot Slot.blank).endUpdate 0 u.slot St.tempForbidden
            else if !writeOk then (s.setSlot u.slot Slot.blank).endUpdate 0 u.slot St.internal
            else (s.setSlot u.slot x).endUpdate 0 u.slot St.done)

end Sys2Proof.Machine
end

