-- ==== Sys2Proof/Machine/Housekeeping.lean ====
section
/-! DEFINITION. The housekeeping converter (R466 to R484): mains tracking, conversions of the three classes, abort and restart,
filters, over-range and results, and the read-back of the bias outputs (R81). -/
namespace Sys2Proof.Machine
open Sys2Proof

/-! ## Channels, codes and times (R466 to R470) -/

/-- Whether a code names a channel (R467). -/
def hkaChannel (c : Nat) : Bool := decide (c < 0x4D) || decide (0x80 ≤ c ∧ c < 0x100)

/-- The divisor of a channel's scaling (R467). -/
def hkaDivisor (c : Nat) : Nat := if 0x80 ≤ c then 3 else if c = 0x47 ∨ c = 0x49 then 2 else 1

/-- The code of a voltage at the pin, in nV, before saturation (R466). -/
def hkaExact (c : Nat) (nv : Int) : Int := divRound (nv * 2 ^ 23) (2500000000 * hkaDivisor c)

/-- Over-range of a conversion: 0 none, 1 positive, 2 negative (R466, R478). -/
def hkaOver (x : Int) : Nat := if x ≥ 2 ^ 23 - 1 then 1 else if x ≤ -(2 ^ 23) then 2 else 0

/-- The code a conversion reports: over-range saturates at the reserved codes (R478). -/
def hkaCode (x : Int) : Int := satS 24 x

/-- T_m in force, in 0.1 µs (R468). -/
def State.mainsTm (s : State) : Nat :=
  let fixed := if s.on Reg.HKA_CFG_FALLBACK then 166667 else 200000
  let mode := s.get Reg.HKA_CFG_MAINS_MODE
  if mode = 1 then 200000 else if mode = 2 then 166667
  else if s.on Reg.HKA_MAINS_LOCKED then (2 * sumL (s.hka.intervals.take 8) + 8) / 16 else fixed

/-- Show the T_m in force. -/
def State.showMains (s : State) : State := s.put Reg.HKA_MAINS_T_M s.mainsTm

/-- Whether a conversion that begins now uses a fixed T_m while tracking is asked for. -/
def State.untracked (s : State) : Bool := s.get Reg.HKA_CFG_MAINS_MODE = 0 && !s.on Reg.HKA_MAINS_LOCKED

/-- The integration time of a preset, in ns (R469). -/
def State.hkaTint (s : State) (preset : Nat) : Nat :=
  if preset = 0 then s.mainsTm * 100 else if preset = 1 then s.mainsTm * 25 else if preset = 2 then 1000000 else 64000

/-- T_set (R470). -/
def hkaTset : Nat := 16000

/-! ## Passes and filters (R472, R477) -/

/-- Channel, preset and filter of a sequence entry. -/
def entryChan (w : Nat) : Nat := bits w 0 8
def entryPreset (w : Nat) : Nat := bits w 8 2
def entryFilter (w : Nat) : Nat := bits w 10 3

/-- Conversions of an entry (R477). -/
def filterCount (f : Nat) : Nat :=
  if f = 0 then 1 else if f = 1 then 3 else if f = 2 then 5 else 2 ^ (f - 2)

/-- What a filter reports of its codes (R477). -/
def filterResult (f : Nat) (codes : List Int) : Int :=
  if f = 0 then codes.getD 0 0
  else if f ≤ 2 then (sortBy id codes).getD (filterCount f / 2) 0
  else divRound (sumZ codes) (filterCount f)

/-- The pass of a class: 2 injected, 3 regular. -/
def State.hkaPass (s : State) (cls : Nat) : Option Pass := if cls = 2 then s.hka.inj else s.hka.reg

/-- Put the pass of a class. -/
def State.setPass (s : State) (cls : Nat) (p : Option Pass) : State :=
  if cls = 2 then { s with hka := { s.hka with inj := p } } else { s with hka := { s.hka with reg := p } }

/-- The result fields of an entry of a class, by place: register, then `NEW`, `OVR`, `SUSPECT`, `UNTRACKED`, `RESTARTED`, `STARVED`
at bits 24 to 29. -/
def resultReg (cls e : Nat) : Nat := if cls = 2 then Reg.HKA_IRES e else Reg.HKA_RES e

/-- Begin a pass (R472, R473): its entries as they stand now, `NEW` of every result of the sequence cleared (R480). -/
def State.beginPass (s : State) (cls : Nat) (hdr : Option Hdr) : State :=
  let n := if cls = 2 then s.get Reg.HKA_CFG_INJ_LEN_M1 + 1 else s.get Reg.HKA_CFG_REG_LEN_M1 + 1
  let entries := (List.range n).map fun e => s.rd (if cls = 2 then Reg.HKA_INJ e else Reg.HKA_REG e)
  let s := s.each (List.range (if cls = 2 then 8 else 64)) fun s e =>
    s.wr (resultReg cls e) (putBits (s.rd (resultReg cls e)) 24 1 0)
  s.setPass cls (some ⟨entries, 0, [], 0, false, false, false, true, hdr⟩)

/-! ## Which conversion runs (R470, R471, R475, R479) -/

/-- Show the class that converts. -/
def State.showClass (s : State) : State := s.put Reg.HKA_STAT_CLASS ((s.hka.conv.map Conversion.cls).getD 0)

/-- The first system request that may start at a time. -/
def State.sysDue (s : State) (t : Nat) : Option (Nat × Nat) := s.hka.sys.find? fun e => decide (e.2 ≤ t)

/-- Start a conversion: `from_` is the first moment at which the converter is free for it. -/
def State.startConv (s : State) (cls chan from_ settle tint : Nat) : State :=
  let c : Conversion := ⟨cls, chan, from_, from_ + settle + tint, s.untracked⟩
  { s with hka := { s.hka with conv := some c, lastChan := some chan } }.showClass

/-- Start the conversion a pass has in work. -/
def State.startEntry (s : State) (cls : Nat) (p : Pass) (from_ : Nat) : State :=
  let w := p.entries.getD p.entry 0
  let settle := if p.first || s.hka.lastChan ≠ some (entryChan w) then hkaTset else 0
  let s := s.setPass cls (some { p with first := false })
  s.startConv cls (entryChan w) from_ settle (s.hkaTint (entryPreset w))

/-- Start the next conversion where none runs: system, then injected, then regular (R471). -/
def State.hkaNext (s : State) (t : Nat) : State :=
  if s.hka.conv.isSome then s
  else
    let free := max s.hka.resetUntil t
    match s.sysDue (max s.now free) with
    | some (chan, ready) =>
      let s := { s with hka := { s.hka with sys := s.hka.sys.erase (chan, ready) } }
      let from_ := max s.hka.resetUntil ready
      if chan ≥ 0x80 then s.startConv 1 chan from_ 2000 5000
      else s.startConv 1 chan from_ (if s.hka.lastChan = some chan then 0 else hkaTset) 64000
    | none =>
      match s.hka.inj, s.hka.reg with
      | some p, _ => s.startEntry 2 p free
      | none, some p => s.startEntry 3 p free
      | none, none => s.showClass

/-- The entry in work is given up or complete: the pass goes on, or ends (R472, R473, R482). -/
def State.endEntry (s : State) (cls : Nat) (p : Pass) : State :=
  let p := { p with entry := p.entry + 1, codes := [], aborts := 0, restarted := false, overRange := false, untracked := false }
  if p.entry < p.entries.length then s.setPass cls (some p)
  else
    let s := s.setPass cls none
    if cls = 2 then
      let s := match p.hdr with
        | some h => s.completeR h 0xC0 St.done (bytesLE 4 (ux 32 (sx 24 (s.get (Reg.HKA_IRES_CODE 0)))))
        | none => s
      match s.hka.held with
      | some hdr => ({ s with hka := { s.hka with held := none } }.put Reg.HKA_STAT_INJ_HELD 0).beginPass 2 hdr
      | none => s
    else
      let s := s.put Reg.HKA_STAT_PASSES (s.get Reg.HKA_STAT_PASSES + 1)
      if s.on Reg.HKA_CFG_CONT && s.on Reg.HKA_CFG_EN then s.beginPass 3 none else s

/-- A conversion of a sequence is aborted at a moment (R475, R476): discharge, restart, or, the eighth time, a skip. -/
def State.abortConv (s : State) (at_ : Nat) : State :=
  match s.hka.conv with
  | none => s
  | some c =>
    let s := { s with hka := { s.hka with conv := none, resetUntil := at_ + 4000 } }
    if c.cls = 1 then s
    else match s.hkaPass c.cls with
      | none => s
      | some p =>
        if p.aborts + 1 < 8 then s.setPass c.cls (some { p with aborts := p.aborts + 1, restarted := true })
        else
          let r := resultReg c.cls p.entry
          let s := s.wr r (putBits (putBits (s.rd r) 24 1 0) 29 1 1)
          let s := { s with hka := { s.hka with starved := s.hka.starved + 1 } }.setF Reg.HKA_STAT_STARVED
          s.endEntry c.cls p

/-- A system request that became due while a lower class converted has aborted that conversion (R475). -/
def State.hkaPreempt (s : State) : State :=
  match s.hka.conv with
  | none => s
  | some c =>
    if c.cls = 1 then s
    else match s.sysDue s.now with
      | some (_, ready) => if ready < c.stop then s.abortConv (max ready c.start) else s
      | none => s

/-- Bring the converter up to date: what system requests abort, and the next conversion. -/
def State.hkaAdvance (s : State) : State := (s.hkaPreempt).hkaNext 0

/-! ## Triggers (R472 to R474) -/

/-- A trigger of the regular sequence (R472). -/
def State.regularTrigger (s : State) : State :=
  if !s.on Reg.HKA_CFG_EN then s
  else if s.hka.reg.isSome then { s with hka := { s.hka with ignored := s.hka.ignored + 1 } }.setF Reg.HKA_STAT_REG_OVR
  else ((s.hkaAdvance).beginPass 3 none).hkaNext s.now

/-- An urgent trigger (R473), with the command that raised it. -/
def State.urgentTrigger (s : State) (hdr : Option Hdr) : State :=
  if !s.on Reg.HKA_CFG_EN then s
  else if s.hka.inj.isSome then
    if s.hka.held.isSome then
      let s := { s with hka := { s.hka with missed := s.hka.missed + 1 } }.setF Reg.HKA_STAT_INJ_MISS
      s.event 0x003A 0x1003 ([2, 0, 0, 0] ++ bytesLE 4 (min s.hka.missed (2 ^ 32 - 1)))
    else { s with hka := { s.hka with held := some hdr } }.setF Reg.HKA_STAT_INJ_HELD
  else
    let s := s.hkaPreempt
    let s := if (s.hka.conv.map Conversion.cls) = some 3 then s.abortConv s.now else s
    (s.beginPass 2 hdr).hkaNext s.now

/-- HKA_INJECT (R482). -/
def execHkaInject (h : Hdr) (s : State) : Host.Outcome State Fault Refusal :=
  .next (s.acceptNow h 0xC0 (if s.on Reg.HKA_CFG_EN && s.hka.held.isNone then none else some St.notReady) fun s =>
    s.urgentTrigger (some h))

/-- START (R472, R474). -/
def execStart (rq : Requester) (s : State) : Host.Outcome State Fault Refusal :=
  .next (if s.mayWrite rq Reg.HKA_CFG then s.regularTrigger else s)

/-- A trigger of a sequence: 0 regular, 1 injected. -/
def State.hkaTrigger (s : State) (seq : Nat) : State := if seq = 0 then s.regularTrigger else s.urgentTrigger none

/-- The trigger source of a sequence (R474). -/
def State.hkaSource (s : State) (seq : Nat) : Nat := s.get (if seq = 0 then Reg.HKA_CFG_REG_SRC else Reg.HKA_CFG_INJ_SRC)

/-- Set the timer of a sequence going from now, or stop it (R474): its source or period was written. -/
def State.hkaTimer (s : State) (seq : Nat) : State :=
  if s.hkaSource seq = 1 then
    { s with hka := { s.hka with timers := s.hka.timers.set seq (s.now + 1000 * s.get (Reg.HKA_TRIG_PERIOD seq)) } }
  else { s with hka := { s.hka with timers := s.hka.timers.del seq } }

/-- HKA_TIMER_TRIGGER (R474): a sequence timer expires. -/
def execHkaTimerTrigger (seq : Nat) (s : State) : Host.Outcome State Fault Refusal :=
  .next (match s.hka.timers.get? seq with
    | some t =>
      if seq < 2 ∧ s.hkaSource seq = 1 ∧ s.due t = true then
        let next := t + 1000 * s.get (Reg.HKA_TRIG_PERIOD seq)
        { s with hka := { s.hka with timers := s.hka.timers.set seq next } }.hkaTrigger seq
      else s
    | none => s)

/-- A frame-timing event of the tick in progress starts the delay of each sequence that selects it (R474): `on` and `off` say which
tiles' patterns begin or end transmission at this tick. -/
def State.hkaFrameEvents (s : State) (on off : Nat → Bool) : State :=
  s.each [0, 1] fun s q =>
    let ev := s.get (Reg.HKA_TRIG_EVENT q)
    let tile := s.get (Reg.HKA_TRIG_TILE q)
    let hit := if ev = 0 then true else if ev = 1 then s.atSlot else if ev = 2 then s.atFrame
      else if ev = 3 then on tile else off tile
    if s.hkaSource q = 2 && hit then
      let d : Nat × Nat := (q, s.now + 1000 * s.get (Reg.HKA_DELAY_DELAY q))
      { s with hka := { s.hka with delays := s.hka.delays ++ [d] } }
    else s

/-- HKA_EVENT_TRIGGER (R474): a frame-timing event plus `DELAY`. -/
def execHkaEventTrigger (seq : Nat) (s : State) : Host.Outcome State Fault Refusal :=
  .next (match s.hka.delays.find? fun d => d.1 == seq && s.due d.2 with
    | some d =>
      let s := { s with hka := { s.hka with delays := s.hka.delays.erase d } }
      if s.hkaSource seq = 2 then s.hkaTrigger seq else s
    | none => s)

/-! ## Results (R478, R480) -/

/-- Stream one result (R480, R483): the time is the end of the last integration. -/
def State.streamResult (s : State) (time entry cls chan flags : Nat) (code : Int) : State :=
  s.when (s.on Reg.HKA_CFG_STREAM) fun s =>
    s.eventAt time 0x003A 0x1001 ([entry, cls, chan, flags] ++ bytesLE 4 (ux 32 code) ++ bytesLE 2 (s.get Reg.HKA_STAT_PASSES))

/-- An over-range (R478): the flag, the record, and the reset of the integrator. -/
def State.overRange (s : State) (c : Conversion) (entry ovr : Nat) : State :=
  if ovr = 0 then s
  else
    let s := { s with hka := { s.hka with resetUntil := c.stop + 40000 } }.setF Reg.HKA_STAT_OVR
    s.event 0x003A 0x1004 [c.cls, entry, c.chan, ovr - 1]

/-- Whether the next result of a class is to be marked `SUSPECT`, and the mark set anew. -/
def State.suspect (s : State) (cls : Nat) : Bool := s.hka.suspect.getD cls false
def State.setSuspect (s : State) (cls : Nat) (b : Bool) : State :=
  { s with hka := { s.hka with suspect := s.hka.suspect.set cls b } }

/-- One conversion of a sequence ends with a code (R477, R478, R480): the entry goes on or its result is written whole. -/
def State.takeCode (s : State) (c : Conversion) (p : Pass) (nv : Int) : State :=
  let w := p.entries.getD p.entry 0
  let x := hkaExact c.chan nv
  let ovr := hkaOver x
  let s := s.overRange c p.entry ovr
  let p := { p with codes := p.codes ++ [hkaCode x], overRange := p.overRange || ovr != 0, untracked := p.untracked || c.untracked,
                    aborts := 0 }
  if p.codes.length < filterCount (entryFilter w) then s.setPass c.cls (some p)
  else
    let code := filterResult (entryFilter w) p.codes
    let flags := 1 + 2 * b2n p.overRange + 4 * b2n (s.suspect c.cls) + 8 * b2n p.untracked + 16 * b2n p.restarted
    let s := s.setSuspect c.cls p.overRange
    let s := s.wr (resultReg c.cls p.entry) (ux 24 code + 2 ^ 24 * flags)
    let s := s.streamResult c.stop p.entry c.cls c.chan flags code
    s.endEntry c.cls p

/-- CONVERSION_DONE (R466, R477, R478, R480): the conversion in progress of a sequence or a supply ends; the operand is the voltage at
the pin against `HKA_COM`, in nV. -/
def execConversionDone (nv : Int) (s : State) : Host.Outcome State Fault Refusal :=
  let s := s.hkaAdvance
  .next (match s.hka.conv with
    | none => s
    | some c =>
      if c.chan ≥ 0x80 && c.cls = 1 || !s.due c.stop then s
      else
        let s := { s with hka := { s.hka with conv := none, resetUntil := c.stop } }
        if c.cls = 1 then
          let x := hkaExact c.chan nv
          let ovr := hkaOver x
          let flags := 1 + 2 * b2n (ovr != 0) + 4 * b2n (s.suspect 1) + 8 * b2n c.untracked
          let s := (s.overRange c 0 ovr).setSuspect 1 (ovr != 0)
          (s.streamResult c.stop 0 1 c.chan flags (hkaCode x)).hkaNext 0
        else match s.hkaPass c.cls with
          | some p => (s.takeCode c p nv).hkaNext 0
          | none => s.hkaNext 0)

/-! ## Bias read-back (R81, R479) -/

/-- The lowest voltage of a span and its range, in nV (R76). -/
def spanBase (span : Nat) : Int := if span = 0 then 0 else if span = 1 then -5000000000 else -2500000000
def spanRange (span : Nat) : Int := if span = 0 then 2500000000 else 5000000000

/-- The voltage a bias output should have, in nV × 65,536: `SAFE` while the safe driver holds the pin (R76, R77). -/
def State.biasExpected (s : State) (n k : Nat) : Int :=
  if (s.biasDac n k).safe then -5000000000 * 65536 + s.get (Reg.TIL_BIAS_CFG_SAFE n k) * 7500000000
  else
    let span := s.get (Reg.TIL_BIAS_CFG_SPAN n k)
    spanBase span * 65536 + s.get (Reg.TIL_BIAS_OUT_CODE n k) * spanRange span

/-- The code of a span nearest to a voltage in nV × 65,536. -/
def spanCode (span : Nat) (v : Int) : Nat :=
  (max 0 (min 65535 (divRound (v - spanBase span * 65536) (spanRange span).toNat))).toNat

/-- One bias output is read back (R81). -/
def State.readBack (s : State) (n k : Nat) (nv : Int) : State :=
  let span := s.get (Reg.TIL_BIAS_CFG_SPAN n k)
  let want := s.biasExpected n k
  let code := spanCode span (nv * 65536)
  let s := s.put (Reg.TIL_BIAS_OUT_READBACK n k) code
  let diff := nv * 65536 - want
  if diff.natAbs > 25000000 * 65536 then
    let guard := s.on (Reg.TIL_BIAS_CFG_GUARD n k)
    let s := s.event (0x0010 + n) 0x0302 ([k, b2n guard] ++ bytesLE 2 (spanCode span want) ++ bytesLE 2 code ++
      bytesLE 2 (ux 16 (divRound diff (1000000 * 65536))))
    s.when guard fun s => s.enterProtect n 2 (some s.now)
  else s

/-- BIAS_READBACK (R81, R479): the read-back in progress ends; the operand is the voltage at the pin in nV. -/
def execBiasReadback (nv : Int) (s : State) : Host.Outcome State Fault Refusal :=
  let s := s.hkaAdvance
  .next (match s.hka.conv with
    | none => s
    | some c =>
      if c.chan < 0x80 || c.cls ≠ 1 || !s.due c.stop then s
      else
        let s := { s with hka := { s.hka with conv := none, resetUntil := c.stop } }
        (s.readBack ((c.chan - 0x80) / 16) ((c.chan - 0x80) % 16) nv).hkaNext 0)

/-- BIAS_SWEEP (R479): every `SWEEP` seconds all 128 outputs are queued; a newer request for an output replaces an older one. -/
def execBiasSweep (s : State) : Host.Outcome State Fault Refusal :=
  let n := s.get Reg.HKA_CFG_SWEEP
  .next (if n = 0 || !s.due (s.hka.sweepAt + n * 1000000000) then s
    else
      let all : List (Nat × Nat) := (List.range 128).map fun b => (0x80 + b, s.now)
      { s with hka := { s.hka with sweepAt := s.now, sys := (s.hka.sys.filter fun (e : Nat × Nat) => decide (e.1 < 0x80)) ++ all } }.hkaAdvance)

/-- SUPPLY_CHECK (R471): E14 queues the ten supply channels, at boot and every 100 ms while a rail is outside tolerance. -/
def execSupplyCheck (s : State) : Host.Outcome State Fault Refusal :=
  .next (if s.running && (!s.inService || s.boot.railsOut != 0) then
      let all : List (Nat × Nat) := (List.range 10).map fun i => (0x40 + i, s.now)
      { s with hka := { s.hka with sys := (s.hka.sys.filter fun (e : Nat × Nat) => decide (e.1 ≥ 0x80)) ++ all } }.hkaAdvance
    else s)

/-! ## Mains tracking (R468) -/

/-- The mains record (R483). -/
def State.mainsRecord (s : State) (kind : Nat) : State := s.event 0x003A 0x1002 ([kind, 0, 0, 0] ++ bytesLE 4 s.mainsTm)

/-- Tracking is lost (R468). -/
def State.mainsLost (s : State) : State :=
  let s := { s with hka := { s.hka with intervals := [] } }
  if !s.on Reg.HKA_MAINS_LOCKED then s
  else (((s.put Reg.HKA_MAINS_LOCKED 0).setF Reg.HKA_MAINS_LOST).showMains).mainsRecord 0

/-- Whether eight intervals lie in the band and each within 1% of their mean (R468). -/
def mainsSteady (l : List Nat) : Bool :=
  let sum := sumL l
  l.length == 8 && l.all fun i => decide (153850 ≤ i ∧ i ≤ 222220) && decide (100 * (8 * i) ≤ 101 * sum ∧ 99 * sum ≤ 100 * (8 * i))

/-- MAINS_EDGE (R468): a rising edge of `MAINS_SENSE`; intervals are measured to 0.1 µs. -/
def execMainsEdge (s : State) : Host.Outcome State Fault Refusal :=
  .next (if s.get Reg.HKA_CFG_MAINS_MODE ≠ 0 || !s.running then s
    else match s.hka.edge with
      | none => { s with hka := { s.hka with edge := some s.now } }
      | some t =>
        let i := (s.now - t + 50) / 100
        let s := { s with hka := { s.hka with edge := some s.now } }
        if i < 153850 ∨ 222220 < i then s.mainsLost
        else
          let l := (i :: s.hka.intervals).take 8
          let s := { s with hka := { s.hka with intervals := l } }
          if !s.on Reg.HKA_MAINS_LOCKED && mainsSteady l then ((s.setF Reg.HKA_MAINS_LOCKED).showMains).mainsRecord 1
          else s.showMains)

/-- MAINS_LOSS (R468): 50 ms without an edge. -/
def execMainsLoss (s : State) : Host.Outcome State Fault Refusal :=
  .next (match s.hka.edge with
    | some t =>
      if s.get Reg.HKA_CFG_MAINS_MODE = 0 && s.due (t + 50000000) then
        { s with hka := { s.hka with edge := none } }.mainsLost
      else s
    | none => s)

/-! ## Power states (R451, R481) -/

/-- The converter agrees to sleep (R451): the running conversion is aborted, its integrator reset. -/
def State.hkaAgree (s : State) : State :=
  match s.hka.conv with
  | none => s
  | some c => { s with hka := { s.hka with conv := none, resetUntil := s.now + 40000, sys := if c.cls = 1 then (c.chan, s.now) :: s.hka.sys else s.hka.sys } }.showClass

/-- POLDER entry (R481): held triggers and queued conversions are cleared, and passes end; mains tracking relocks after the exit. -/
def State.hkaSleep (s : State) : State :=
  let hdrs := ((s.hka.inj.bind Pass.hdr).toList ++ (s.hka.held.bind id).toList)
  let s := { s with hka := { s.hka with
    conv := none, reg := none, inj := none, held := none, sys := [], delays := [], edge := none, intervals := [] } }
  let s := ((s.put Reg.HKA_STAT_CLASS 0).put Reg.HKA_STAT_INJ_HELD 0).put Reg.HKA_MAINS_LOCKED 0
  s.showMains.each hdrs fun s h => s.complete h 0xC0 St.notReady

end Sys2Proof.Machine
end

