-- ==== Sys2Proof/Machine/Gauge.lean ====
section
/-! DEFINITION. The Gauge capture engine (R485 to R499): streams, arming, triggers, records, drain and re-arm. -/
namespace Sys2Proof.Machine
open Sys2Proof

/-! ## Streams (R485 to R487) -/

/-- Base rate of a tap, kHz (R485). A receive carrier that is not enabled has none. -/
def State.tapKhz (s : State) (c : GauStreamCmd) : Nat :=
  if c.tap = 0 ∨ c.tap = 4 then 5898240
  else if c.tap = 1 then
    match s.rxCarrier (c.sel / 8) c.carrier with
    | some x => 983040 / 2 ^ rxJ x.num x.log2n
    | none => 0
  else 2949120

/-- Bytes of one stored sample. -/
def tapBytes (c : GauStreamCmd) : Nat := if c.tap = 0 then 2 else 4

/-- Whether a tap is complex (R489). -/
def tapComplex (c : GauStreamCmd) : Bool := c.tap == 1 || c.tap == 2 || c.tap == 3

/-- Bytes of a segment's data area, and samples it holds (R486, R487). -/
def segArea (c : GauStreamCmd) : Nat := c.pages * 4096 - 64
def segSamples (c : GauStreamCmd) : Nat := segArea c / tapBytes c

/-- Whether two regions share a page. -/
def regionsMeet (a b : GauStreamCmd) : Bool :=
  decide (a.first < b.first + b.pages * b.segments ∧ b.first < a.first + a.pages * a.segments)

/-- The checks of `GAU_STREAM` (R486). -/
def gauStreamFail (s : State) (c : GauStreamCmd) : Option Nat :=
  firstFail [(decide (c.stream < 8 ∧ c.tap ≤ 4 ∧ c.sel < (if c.tap = 4 then 8 else 64) ∧ c.carrier < 8) &&
      decide (1 ≤ c.d ∧ c.d ≤ 4096 ∧ c.first < 4096 ∧ 1 ≤ c.pages ∧ c.pages ≤ 4096 ∧ 1 ≤ c.segments ∧ c.segments ≤ 16) &&
      decide (c.first + c.pages * c.segments ≤ 4096) &&
      s.gau.streams.all (fun e => e.1 == c.stream || !regionsMeet e.2.cfg c) &&
      (c.tap != 1 || (s.rxCarrier (c.sel / 8) c.carrier).isSome), St.range),
    (s.gauState c.stream == 0, St.notReady)]

/-- GAU_STREAM (R486). -/
def execGauStream (h : Hdr) (c : GauStreamCmd) (s : State) : Host.Outcome State Fault Refusal :=
  .next (s.acceptNow h 0xC8 (gauStreamFail s c) fun s =>
    let g : GauStream := ⟨c, 0, s.now⟩
    let s := { s with gau := { s.gau with streams := s.gau.streams.set c.stream g } }
    (s.put (Reg.GAU_S_STAT_SEGMENT c.stream) 0).complete h 0xC8 St.done)

/-- A configured stream. -/
def State.gauStream (s : State) (k : Nat) : Option GauStream := s.gau.streams.get? k

/-- Whether the write rate of a list of streams is at most 48 GB/s (R487): the rates are added as a fraction. -/
def State.rateOk (s : State) (l : List Nat) : Bool :=
  let r := l.foldl (fun (a : Nat × Nat) k =>
    match s.gauStream k with
    | some g => (a.1 * g.cfg.d + s.tapKhz g.cfg * 1000 * tapBytes g.cfg * a.2, a.2 * g.cfg.d)
    | none => a) (0, 1)
  decide (r.1 ≤ 48000000000 * r.2)

/-! ## Arming (R488, R498) -/

/-- The checks of `GAU_ARM` (R487 to R489, R498). -/
def gauArmFail (s : State) (c : GauArmCmd) : Option Nat :=
  let ks := maskList c.mask 8
  let armed := (List.range 8).filter fun k => s.gauState k != 0
  let src := (s.gauStream c.source).map GauStream.cfg
  firstFail [(decide (0 < c.mask ∧ c.mask < 256 ∧ c.source < 8 ∧ c.cond < 64 ∧ c.leveeMask < 8) && bit c.mask c.source &&
      (!bit c.cond 4 || decide (4 ≤ c.wlog ∧ c.wlog ≤ 16)) && (!bit c.cond 5 || decide (1 ≤ c.hold ∧ c.hold ≤ 255)) &&
      (!bit c.cond 2 || decide (c.tick < s.tpf)), St.range),
    (c.dest % 64 == 0 && c.stride % 64 == 0, St.misaligned),
    (ks.all (fun k => (s.gauStream k).isSome && s.gauState k == 0) && (!bit c.cond 3 || s.gau.mask.isSome), St.notReady),
    (!bit c.cond 3 || src.any tapComplex, St.range),
    (ks.all (fun k => (s.gauStream k).any fun g => decide (c.pre + c.post ≤ segSamples g.cfg)), St.range),
    (s.rateOk (armed ++ ks), St.range)]

/-- Enter PRE on every stream of a capture. -/
def State.enterPre (s : State) (ks : List Nat) : State :=
  s.each ks fun s k =>
    let s := match s.gauStream k with
      | some g => { s with gau := { s.gau with streams := s.gau.streams.set k { g with t0 := s.now } } }
      | none => s
    s.setGau k 1

/-- GAU_ARM (R488): the command completes at arming if `REPEAT` = 1, else when the capture ends (R498). -/
def execGauArm (h : Hdr) (c : GauArmCmd) (s : State) : Host.Outcome State Fault Refusal :=
  .next (s.acceptNow h 0xC9 (gauArmFail s c) fun s =>
    let at_ := s.devTime (s.tickStart (s.fullFrame c.frame * s.tpf + c.tick)) + sx 32 c.tOfs
    let cap : Capture := ⟨h, c, !c.rep, s.now, at_, 0, 0, 0, false, false, false, 0, s.gau.mask.getD [], [], 0, none⟩
    let ks := maskList c.mask 8
    let s := (s.setCap c.source cap).enterPre ks
    let s := s.each ks fun s k => s.put (Reg.GAU_S_STAT_HELDOFF k) 0
    if c.rep then s.complete h 0xC9 St.done else s)

/-! ## Ending (R493 to R495) -/

/-- A capture ends: its streams disarm, its record 0x1103 where it was stopped, and its command completes. -/
def State.endCapture (s : State) (k : Nat) (c : Capture) : State :=
  let s := { s with gau := { s.gau with caps := s.gau.caps.del k } }
  let s := s.each (capStreams c) fun s j => s.setGau j 0
  let s := match c.cause with
    | some cause => s.event 0x003C 0x1103 [c.cfg.mask, cause]
    | none => s
  if c.open_ then s.complete c.hdr 0xC9 St.done else s

/-- GAU_STOP (R494): streams in PRE keep no record; streams in POST write what they have. -/
def execGauStop (h : Hdr) (mask : Nat) (s : State) : Host.Outcome State Fault Refusal :=
  .next (s.acceptNow h 0xCA (rangeUnless [decide (0 < mask ∧ mask < 256)]) fun s =>
    let s := s.each (s.gau.caps.map Prod.fst) fun s k =>
      match s.gau.caps.get? k with
      | none => s
      | some c =>
        if c.cfg.mask &&& mask = 0 then s
        else
          let c := { c with cause := some 0 }
          let s := s.setF Reg.GAU_STAT_CUT_EVT
          if s.gauState k = 2 then s.setCap k { c with cut := true }
          else if s.gauState k = 3 then s.setCap k c
          else s.endCapture k c
    s.complete h 0xCA St.done)

/-- GAU_FORCE (R489): condition 6 on each capture whose source is in the mask. -/
def execGauForce (h : Hdr) (mask : Nat) (s : State) : Host.Outcome State Fault Refusal :=
  .next (s.acceptNow h 0xCB (firstFail [(decide (0 < mask ∧ mask < 256), St.range),
      ((maskList mask 8).any fun k => s.gauState k != 0, St.notReady)]) fun s =>
    (s.each (maskList mask 8) fun s k => s.gauMeet k 6 s.now).complete h 0xCB St.done)

/-- GAU_MASK (R489): 64 limits, for captures armed later. -/
def execGauMask (h : Hdr) (addr : Nat) (s : State) : Host.Outcome State Fault Refusal :=
  .next (s.acceptNow h 0xCC (if addr % 8 = 0 then none else some St.misaligned) fun s =>
    if !s.hostUp then s.complete h 0xCC St.busError
    else { s with gau := { s.gau with mask := some (s.hostRead addr 128) } }.complete h 0xCC St.done)

/-! ## Triggers (R489 to R491) -/

/-- GAUGE_TRIG_EDGE (R489): an edge of the pin, time-stamped and reduced by `PIN_DLY`. -/
def execGaugeTrigEdge (rising : Bool) (s : State) : Host.Outcome State Fault Refusal :=
  let s := { s with pkg := { s.pkg with gaugeTrig := rising } }
  let hit := s.on Reg.GAU_PIN_EN && (s.get Reg.GAU_PIN_EDGE == b2n (!rising))
  .next (if hit then s.each (s.gau.caps.map Prod.fst) fun s k => s.gauMeet k 1 (s.now - s.get Reg.GAU_PIN_PIN_DLY / 10) else s)

/-- Samples a stream has kept before a time (R485, R488): the number of its trigger sample. -/
def State.keptBefore (s : State) (g : GauStream) (t : Nat) : Nat := ceilDiv ((t - g.t0) * s.tapKhz g.cfg) (g.cfg.d * 1000000)

/-- AUTO_TRIGGER (R489, R491): `AUTO_US` without a trigger since arming; under `REQ_FULL` since PRE samples are held. -/
def execAutoTrigger (source : Nat) (s : State) : Host.Outcome State Fault Refusal :=
  .next (match s.gau.caps.get? source, s.gauStream source with
    | some c, some g =>
      let held := if c.cfg.reqFull && s.tapKhz g.cfg != 0 then ceilDiv (c.cfg.pre * g.cfg.d * 1000000) (s.tapKhz g.cfg) else 0
      if c.cfg.auto && s.gauState source == 1 && s.due (c.armedAt + held + c.cfg.autoUs * 1000) then s.gauMeet source 7 s.now else s
    | _, _ => s)

/-- The conditions met on the kept sample of now: those of the sample itself (3 to 5), those that waited for it, and the frame time. -/
def State.metNow (s : State) (c : Capture) (conds : Nat) : Nat :=
  let frame := if bit c.cfg.cond 2 ∧ c.frameAt ≤ s.now then 4 else 0
  (conds &&& c.cfg.cond &&& 0x38) ||| c.pend ||| frame

/-- GAUGE_TRIGGER (R488 to R491): conditions met on a kept sample of the source stream trigger every stream of the capture; under
`REQ_FULL` they are held off until PRE samples are held. -/
def execGaugeTrigger (source conds : Nat) (s : State) : Host.Outcome State Fault Refusal :=
  .next (match s.gau.caps.get? source, s.gauStream source with
    | some c, some g =>
      let met := s.metNow c conds
      if s.gauState source ≠ 1 then
        if s.gauState source ≥ 3 ∧ c.cfg.rep = true ∧ c.cause = none then
          s.each (maskList (conds &&& c.cfg.cond &&& 0x38) 8) fun s i =>
            match s.gau.caps.get? source with
            | some c => s.gauMissed source c i
            | none => s
        else s
      else if met = 0 then s
      else
        let cond := if bit met 2 then putBit c.cfg.cond 2 false else c.cfg.cond
        let cfg := { c.cfg with cond := cond }
        let t := if c.pend = 0 then s.now else c.trigAt
        if c.cfg.reqFull && decide (s.keptBefore g s.now < c.cfg.pre) then
          let n := min (s.get (Reg.GAU_S_STAT_HELDOFF source) + popCount met 8) 65535
          (s.setCap source { c with cfg := cfg, pend := 0 }).put (Reg.GAU_S_STAT_HELDOFF source) n
        else
          let s := s.setCap source { c with cfg := cfg, pend := 0, triggered := true, trigMap := met, trigAt := t }
          s.each (capStreams c) fun s j => s.setGau j 2
    | _, _ => s)

/-! ## Records (R492, R496) -/

/-- The part of a record that a stream keeps: samples before the trigger and from it on. -/
def State.counts (s : State) (c : Capture) (g : GauStream) : Nat × Nat :=
  let i := s.keptBefore g c.trigAt
  let all := s.keptBefore g (s.now + 1)
  (min c.cfg.pre i, if c.cut then min c.cfg.post (all - i) else c.cfg.post)

/-- Whether every stream of a capture has its POST samples. -/
def State.filled (s : State) (c : Capture) : Bool :=
  c.cut || (capStreams c).all fun k => match s.gauStream k with
    | some g => decide (s.keptBefore g c.trigAt + c.cfg.post ≤ s.keptBefore g (s.now + 1))
    | none => true

/-- The lowest condition of a trigger map (R490). -/
def primary (m : Nat) : Nat := (maskList m 8).headD 0

/-- The flags of a record (R496) but `UNROLLED`. -/
def State.recFlags (s : State) (c : Capture) (g : GauStream) (pre tainted : Nat) : Nat :=
  let minPhase := g.cfg.tap == 1 && (s.rxCarrier (g.cfg.sel / 8) g.cfg.carrier).any fun x => bit x.filter 1
  b2n (decide (pre < c.cfg.pre)) + 2 * b2n (tainted != 0) + 4 * b2n minPhase + 8 * b2n c.cut + 16 * b2n c.trip +
    32 * b2n (c.cfg.maskStop && bit c.trigMap 3)

/-- Device time, in 2^-16 ns, of a stream's kept sample `i` since arming (R496, R497). -/
def State.sampleTime (s : State) (g : GauStream) (i : Nat) : Nat :=
  g.t0 * 2 ^ 16 + (if s.tapKhz g.cfg = 0 then 0 else i * g.cfg.d * 1000000 * 2 ^ 16 / s.tapKhz g.cfg)

/-- A device time in 2^-16 ns as the 96 bits of R293. -/
def time96Of (t : Nat) : Nat := t % 2 ^ 16 + 2 ^ 16 * (t / 2 ^ 16 % 10 ^ 9) + 2 ^ 48 * (t / 2 ^ 16 / 10 ^ 9)

/-- The 64 bytes of a record header (R496). -/
def State.recHeader (s : State) (c : Capture) (g : GauStream) (no flags first pre post ofs tainted : Nat) : List Nat :=
  bytesLE 4 no ++ [g.cfg.stream, g.cfg.tap, g.cfg.sel, if g.cfg.tap = 1 then g.cfg.carrier else 0] ++ bytesLE 2 g.cfg.d ++
    [c.trigMap, primary c.trigMap] ++ bytesLE 2 flags ++ [0, 0] ++ bytesLE 12 (time96Of (s.sampleTime g first)) ++
    bytesLE 4 (s.tapKhz g.cfg) ++ bytesLE 4 pre ++ bytesLE 4 post ++ bytesLE 4 ofs ++ bytesLE 4 c.missed ++
    bytesLE 4 tainted ++ bytesLE 4 ((pre + post) * tapBytes g.cfg) ++ List.replicate 8 0

/-- Device address of a stream's segment in use (R378, R486). -/
def segAddr (g : GauStream) : Nat := (g.cfg.first + g.seg * g.cfg.pages) * 4096

/-- Store data in a data area that wraps. -/
def State.writeRolled (s : State) (base area ofs : Nat) (data : List Nat) : State :=
  let n := area - ofs
  (s.devWrite (base + ofs) (data.take n)).devWrite base (data.drop n)

/-- Write the record of one stream (R492, R496): header and samples in its segment; the record as a drain would place it is kept with
its number and flags. -/
def State.writeRecord (s : State) (k j : Nat) (data : List GauSamples) : State :=
  match s.gau.caps.get? k, s.gauStream j with
  | some c, some g =>
    let n := s.counts c g
    let first := s.keptBefore g c.trigAt - n.1
    let got := (data.find? fun d => d.stream == j).getD ⟨j, [], 0⟩
    let bytes := fit ((n.1 + n.2) * tapBytes g.cfg) got.data
    let no := s.get Reg.GAU_REC_NEXT_REC_NUM
    let flags := s.recFlags c g n.1 got.tainted
    let area := segArea g.cfg
    let ofs := first * tapBytes g.cfg % area
    let s := s.put Reg.GAU_REC_NEXT_REC_NUM (no + 1)
    let s := s.devWrite (segAddr g) (s.recHeader c g no flags first n.1 n.2 ofs got.tainted)
    let s := s.writeRolled (segAddr g + 64) area ofs bytes
    let drained := s.recHeader c g no (flags + 64) first n.1 n.2 0 got.tainted ++ bytes
    (s.setCap k { c with records := c.records ++ [(j, no, if c.cfg.drain then flags + 64 else flags, drained)], writtenAt := s.now }).setGau j 3
  | _, _ => s

/-- The records of a capture are visible: one event for each (R492, R499). -/
def State.recordEvents (s : State) (c : Capture) : State :=
  s.each c.records fun s r =>
    match s.gauStream r.1 with
    | some g => s.event 0x003C 0x1101 ([r.1, primary c.trigMap] ++ bytesLE 2 r.2.2.1 ++ bytesLE 4 r.2.1 ++ bytesLE 4 (segAddr g) ++
        bytesLE 4 c.missed)
    | none => s

/-- After its records are visible a capture ends or goes on to re-arm (R493). -/
def State.afterRecords (s : State) (k : Nat) : State :=
  match s.gau.caps.get? k with
  | none => s
  | some c =>
    let s := s.recordEvents c
    let stop := c.cfg.maskStop && bit c.trigMap 3
    let c := { c with records := [], cause := if c.cause.isNone && stop then some 3 else c.cause }
    if c.cfg.rep && c.cause.isNone then (s.setCap k c).each (capStreams c) fun s j => s.setGau j 4
    else s.endCapture k c

/-- GAUGE_RECORD (R492, R493): the last POST sample, or the cut; the operand is what each stream stored. -/
def execGaugeRecord (source : Nat) (data : List GauSamples) (s : State) : Host.Outcome State Fault Refusal :=
  .next (match s.gau.caps.get? source with
    | none => s
    | some c =>
      if s.gauState source ≠ 2 ∨ s.filled c = false then s
      else
        let s := s.each (capStreams c) fun s j => s.writeRecord source j data
        if c.cfg.drain then s else s.afterRecords source)

/-- GAUGE_DRAINED (R492): channels 16 to 23 have written the records to the host. -/
def execGaugeDrained (source : Nat) (s : State) : Host.Outcome State Fault Refusal :=
  .next (match s.gau.caps.get? source with
    | none => s
    | some c =>
      if s.gauState source ≠ 3 ∨ s.hostUp = false then s
      else
        let s := s.each c.records fun s r =>
          match s.gauStream r.1 with
          | some g => s.hostWrite (c.cfg.dest + r.1 * c.cfg.stride + g.seg * g.cfg.pages * 4096) r.2.2.2
          | none => s
        s.afterRecords source)

/-- GAUGE_REARM (R493): each stream moves to its next segment and the pre-trigger count restarts. -/
def execGaugeRearm (source : Nat) (s : State) : Host.Outcome State Fault Refusal :=
  .next (match s.gau.caps.get? source with
    | none => s
    | some c =>
      if s.gauState source ≠ 4 then s
      else
        let s := s.each (capStreams c) fun s j =>
          match s.gauStream j with
          | some g =>
            let n := (g.seg + 1) % g.cfg.segments
            ({ s with gau := { s.gau with streams := s.gau.streams.set j { g with seg := n } } }).put (Reg.GAU_S_STAT_SEGMENT j) n
          | none => s
        let c := { c with pend := 0, trigMap := 0, triggered := false, cut := false, trip := false, armedAt := s.now, records := [] }
        (s.setCap source c).enterPre (capStreams c))

/-! ## Sleep and DORMANT (R451, R495) -/

/-- Whether a capture is armed or filling: any stream not IDLE. -/
def State.gauBusy (s : State) : Bool := s.get Reg.GAU_STAT_ARMED != 0

/-- DORMANT entry discards every capture without records (R495). -/
def State.gauDiscard (s : State) : State :=
  let s := s.each (List.range 8) fun s k => s.setGau k 0
  { s with gau := { s.gau with caps := [] } }

end Sys2Proof.Machine
end

