-- ==== Sys2Proof/Machine/Sluice.lean ====
section
/-! DEFINITION. Sluice DMA (R375 to R393): descriptors, chains, polling and kicks. The writes of a descriptor become visible when it
completes. -/
namespace Sys2Proof.Machine
open Sys2Proof

/-- A channel with nothing kept. -/
def SluChan.initial : SluChan := ⟨none, [], 0, []⟩

/-- The kept state of a channel. -/
def State.sluChan (s : State) (c : Nat) : SluChan := s.slu.chans.getD c SluChan.initial
def State.modSlu (s : State) (c : Nat) (f : SluChan → SluChan) : State :=
  { s with slu := { s.slu with chans := s.slu.chans.set c (f (s.sluChan c)) } }

/-- The state a channel shows (R390): 0 IDLE, 1 RUNNING, 2 POLLING, 3 PARKED, 4 HALTED. -/
def State.sluState (s : State) (c : Nat) : Nat := s.get (Reg.SLU_CH_STAT_STATE c)

/-- Move a channel to a state, with its record (R392). -/
def State.sluTo (s : State) (c new : Nat) : State :=
  let old := s.sluState c
  if old = new then s else (s.put (Reg.SLU_CH_STAT_STATE c) new).event 0x000A 0x0C03 [c, old, new]

/-- Bytes of the memory a descriptor address names: bit 0 marks a device address. -/
def State.sluRead (s : State) (pos n : Nat) : List Nat :=
  if pos % 2 = 1 then s.devRead (pos - 1) n else s.hostRead pos n

/-- The address a `CTRL` word links to, with bit 0 for a device address (R379). -/
def ctrlNext (ctrl : Nat) : Nat := ctrl / 32 * 32 + bits ctrl 1 1

/-- Whether an address range lies in a window of R378 a channel may use in a direction (1 device to host). -/
def sluWindow (c dir a len : Nat) : Bool :=
  let inside := fun (base size : Nat) => decide (base ≤ a ∧ a + len ≤ base + size)
  let host := (dir == 1 && inside 0 0x01000000) || inside 0x03000000 0x1000
  if c ≥ 24 then host
  else inside 0 0x01000000 || inside 0x01000000 0x100000 || inside 0x01100000 0x100000 || inside 0x01200000 0x200000 ||
    inside 0x03000000 0x1000 || (List.range 15).any fun n => inside (0x02000000 + 0x40000 * n) 0x40000

/-- A descriptor's fields (R379). -/
def dCtrl (d : List Nat) : Nat := fieldLE d 0 8
def dHost (d : List Nat) : Nat := fieldLE d 8 8
def dIndex (d : List Nat) : Nat := fieldLE d 16 8
def dDev (d : List Nat) : Nat := fieldLE d 24 4
def dXfer (d : List Nat) : Nat := fieldLE d 28 4
def dCount (d : List Nat) : Nat := bits (dXfer d) 0 24
def dDir (d : List Nat) : Nat := bits (dXfer d) 24 1
def dIndexed (d : List Nat) : Bool := bit (dXfer d) 25
/-- Element size in bytes; 1 for a linear transfer. -/
def dElem (d : List Nat) : Nat := if dIndexed d then 2 ^ bits (dXfer d) 26 4 else 1

/-- The checks of a descriptor before any data moves (R378 to R381): RANGE, then MISALIGNED. -/
def sluFail (c : Nat) (d : List Nat) : Option Nat :=
  let n := dCount d
  let e := dElem d
  let form := bits (dCtrl d) 2 3 == 0 && !bit (dXfer d) 31 && !(decide (c ≥ 24) && bit (dCtrl d) 1 && !bit (dCtrl d) 0)
  let size :=
    if dIndexed d then decide (2 ≤ bits (dXfer d) 26 4 ∧ bits (dXfer d) 26 4 ≤ 12 ∧ n * e ≤ 2 ^ 24)
    else bits (dXfer d) 26 4 == 0 && dIndex d == 0 && decide (n % 4 = 0 ∧ 4 ≤ n ∧ n ≤ 16777212)
  let a := min e 64
  let aligned :=
    if dIndexed d then decide (dIndex d % 4 = 0 ∧ dDev d % a = 0) else decide (dHost d % 4 = 0 ∧ dDev d % 4 = 0)
  firstFail [(form && size && sluWindow c (dDir d) (dDev d) (n * e), St.range), (aligned, St.misaligned)]

/-- The host address of an element (R380). -/
def State.sluElement (s : State) (d : List Nat) (i : Nat) : Nat := dHost d + s.hostMem.readLE (dIndex d + 4 * i) 4

/-- The write that moves one element, or a whole linear transfer (R380). -/
def State.sluMove (s : State) (d : List Nat) (i : Nat) : Bool × Nat × List Nat :=
  let e := if dIndexed d then dElem d else dCount d
  let host := if dIndexed d then s.sluElement d i else dHost d
  let dev := dDev d + i * e
  if dDir d = 0 then (true, dev, s.hostRead host e) else (false, host, s.devRead dev e)

/-- The first element whose address the table misaligns (R381). -/
def State.sluBadOffset (s : State) (d : List Nat) : Option Nat :=
  if dIndexed d then (List.range (dCount d)).find? fun i => s.sluElement d i % min (dElem d) 64 != 0 else none

/-- What executing a fetched descriptor does (R380, R381, R387): its end and its writes. A failed access ends it at that element;
which elements before it have moved, and the order of a scatter, are free. -/
def State.sluJob (s : State) (c pos : Nat) (d : List Nat) (busFail : Option SluFail) : SluJob :=
  let irq := bit (dXfer d) 30
  let steps := if dIndexed d then dCount d else 1
  let moves := fun (l : List Nat) => (sortBy (Config.sluOrder s.free) l).map (s.sluMove d)
  let before := fun (i : Nat) => moves ((List.range i).filter (Config.sluMoved s.free))
  if (s.sluChan c).bads.elem pos then ⟨dCtrl d, St.busError, 3, 0, 0, irq, []⟩
  else
    match sluFail c d with
    | some st => ⟨dCtrl d, st, 0, 0, 0, irq, []⟩
    | none =>
      let stop : Option (Nat × Nat × Nat) :=
        match busFail with
        | some (.index i) => if dIndexed d then some (St.busError, 2, i) else none
        | some (.data i) => some (St.busError, 0, i)
        | _ => none
      let stop := match s.sluBadOffset d, stop with
        | some i, some t => if i < t.2.2 then some (St.misaligned, 2, i) else some t
        | some i, none => some (St.misaligned, 2, i)
        | none, t => t
      match stop with
      | some (st, w, i) => ⟨dCtrl d, st, w, i, 0, irq, if dIndexed d then before i else []⟩
      | none => ⟨dCtrl d, St.done, 0, 0, dCount d * dElem d, irq, moves (List.range steps)⟩

/-- SLUICE_DESCRIPTOR (R379 to R382, R387): a RUNNING channel fetches the descriptor at its position and starts it; a lasting failure
of the fetch halts the channel. While the link is down, host memory is not reached (R389). -/
def execSluiceDescriptor (ch : Nat) (busFail : Option SluFail) (s : State) : Host.Outcome State Fault Refusal :=
  let pos := s.rd64 (Reg.SLU_CH_POS ch)
  .next (if s.sluState ch ≠ 1 ∨ (s.sluChan ch).job.isSome = true ∨ s.hostUp = false then s
    else if busFail = some .fetch then
      let s := (s.setF Reg.SLU_ERR_BUS_ERR).event 0x000A 0x0C01 ([ch, St.busError, 1, 0] ++ bytesLE 4 0 ++ bytesLE 8 pos)
      s.sluTo ch 4
    else
      let job := s.sluJob ch pos (s.sluRead pos 32) busFail
      s.fresh.modSlu ch fun q => { q with job := some job })

/-- Follow a `CTRL` word (R382, R383): on to `NEXT`, or park and poll. -/
def State.sluFollow (s : State) (c ctrl : Nat) : State :=
  if bit ctrl 0 then
    let s := (s.put (Reg.SLU_CH_STAT_KICK_PEND c) 0).put (Reg.SLU_CH_STAT_POLLS c) 64
    (s.modSlu c fun q => { q with pollAt := s.now }).sluTo c 2
  else if decide (c ≥ 24) && bit ctrl 1 then s.sluTo c 4
  else (s.wr64 (Reg.SLU_CH_POS c) (ctrlNext ctrl)).sluTo c 1

/-- Show how a descriptor ended (R381, R386, R387, R392). -/
def State.sluEnd (s : State) (c pos : Nat) (j : SluJob) : State :=
  if j.status = St.done then
    s.when j.irq fun s => s.event 0x000A 0x0C02 ([c, 0, 0, 0] ++ bytesLE 4 j.moved ++ bytesLE 8 pos)
  else
    let s := s.setF (if j.status = St.range then Reg.SLU_ERR_RANGE_ERR
      else if j.status = St.misaligned then Reg.SLU_ERR_ALIGN_ERR else Reg.SLU_ERR_BUS_ERR)
    let s := s.when (j.status = St.busError ∧ j.where_ ≠ 3) fun s =>
      (s.modSlu c fun q => { q with bads := pos :: q.bads }).wr64 (Reg.SLU_CH_BAD c) pos
    s.event 0x000A 0x0C01 ([c, j.status, j.where_, 0] ++ bytesLE 4 j.index ++ bytesLE 8 pos)

/-- DESCRIPTOR_COMPLETE (R382, R386 to R388, R391): the data is visible, the end is reported, and the channel goes on. -/
def execDescriptorComplete (ch : Nat) (s : State) : Host.Outcome State Fault Refusal :=
  .next (match (s.sluChan ch).job with
    | none => s
    | some j =>
      let pos := s.rd64 (Reg.SLU_CH_POS ch)
      let s := s.each j.writes fun s w => if w.1 then s.devWrite w.2.1 w.2.2 else s.hostWrite w.2.1 w.2.2
      let s := (s.modSlu ch fun q => { q with job := none }).add64 (Reg.SLU_CH_CNT ch) 1
      let s := s.sluEnd ch pos j
      let stops := (s.sluChan ch).stop
      if !stops.isEmpty then
        let next := if bit j.ctrl 0 then pos else ctrlNext j.ctrl
        let s := ((s.modSlu ch fun q => { q with stop := [] }).put (Reg.SLU_CH_STAT_KICK_PEND ch) 0).sluTo ch 0
        s.each stops fun s h => s.completeR h 0xA1 St.done (bytesLE 8 next)
      else
        if j.status ≠ St.done ∧ s.on (Reg.SLU_CH_STAT_STOP_ON_ERR ch) = true then s.sluTo ch 4
        else s.sluFollow ch j.ctrl)

/-- CTRL_POLL (R383, R389): one read of the `CTRL` word of a parked channel. -/
def execCtrlPoll (ch : Nat) (s : State) : Host.Outcome State Fault Refusal :=
  .next (if s.sluState ch ≠ 2 ∨ s.due (s.sluChan ch).pollAt = false ∨ s.hostUp = false then s
    else
      let ctrl := natLE (s.sluRead (s.rd64 (Reg.SLU_CH_POS ch)) 8)
      let left := s.get (Reg.SLU_CH_STAT_POLLS ch) - 1
      if !bit ctrl 0 then s.sluFollow ch ctrl
      else
        let s := (s.put (Reg.SLU_CH_STAT_POLLS ch) left).modSlu ch fun q => { q with pollAt := s.now + 2000 }
        if left = 0 then s.sluTo ch 3 else s)

/-- A kick of a channel (R383, R393). -/
def State.sluKickOne (s : State) (c : Nat) : State :=
  if s.sluState c = 1 then s.setF (Reg.SLU_CH_STAT_KICK_PEND c)
  else if s.sluState c = 2 ∨ s.sluState c = 3 then
    ((s.put (Reg.SLU_CH_STAT_POLLS c) 64).modSlu c fun q => { q with pollAt := s.now }).sluTo c 2
  else s

/-- A write of the kick doorbell (R383). -/
def State.sluKick (s : State) (value : Nat) : State := s.each (maskList (bits value 24 8) 8) fun s j => s.sluKickOne (24 + j)

/-- SLU_KICK (R383). -/
def execSluKick (rq : Requester) (value : Nat) (s : State) : Host.Outcome State Fault Refusal :=
  .next (if s.mayWrite rq Reg.SLU_KICK then s.sluKick value else s)

/-- SLU_CHAIN (R391). -/
def execSluChain (h : Hdr) (ch : Nat) (stopOnErr : Bool) (head : Nat) (s : State) : Host.Outcome State Fault Refusal :=
  .next (s.acceptNow h 0xA0
    (firstFail [(decide (24 ≤ ch ∧ ch < 32), St.range), (head % 32 == 0, St.misaligned),
      (s.sluState ch == 0 || s.sluState ch == 4, St.notReady)]) fun s =>
    let s := (s.modSlu ch fun _ => SluChan.initial).put (Reg.SLU_CH_STAT_STOP_ON_ERR ch) (b2n stopOnErr)
    let s := (s.wr64 (Reg.SLU_CH_POS ch) head).wr64 (Reg.SLU_CH_BAD ch) 0
    ((s.put (Reg.SLU_CH_STAT_KICK_PEND ch) 0).sluTo ch 1).complete h 0xA0 St.done)

/-- SLU_STOP (R391, R393): a descriptor that runs finishes first. -/
def execSluStop (h : Hdr) (ch : Nat) (s : State) : Host.Outcome State Fault Refusal :=
  .next (s.acceptNow h 0xA1 (rangeUnless [decide (24 ≤ ch ∧ ch < 32)]) fun s =>
    if (s.sluChan ch).job.isSome then s.modSlu ch fun q => { q with stop := q.stop ++ [h] }
    else
      let pos := s.rd64 (Reg.SLU_CH_POS ch)
      ((s.put (Reg.SLU_CH_STAT_KICK_PEND ch) 0).sluTo ch 0).completeR h 0xA1 St.done (bytesLE 8 pos))

end Sys2Proof.Machine
end

