-- ==== Sys2Proof/Machine/Power.lean ====
section
/-! DEFINITION. Power states and thermal management (R442 to R465), `TILE_STATE` (R552), and the growth of service tile by tile
(R437 to R439). -/
namespace Sys2Proof.Machine
open Sys2Proof

/-! ## Commands that wait for tiles (R447, R450, R552) -/

/-- Microseconds between two moments. -/
def usBetween (a b : Nat) : Nat := (b - a) / 1000

/-- End the `PWR_STATE` request in progress. -/
def State.reqOver (s : State) : State :=
  { s with pwr := { s.pwr with req := none } }.put Reg.PWR_STAT_BUSY 0

/-- Complete a command that waited for tiles with a status of its own, and forget it. -/
def State.endTileCmd (s : State) (k st : Nat) (result : List Nat) : State :=
  match s.pwr.cmds.get? k with
  | none => s
  | some c =>
    let s := { s with pwr := { s.pwr with cmds := s.pwr.cmds.del k } }
    let s := if c.op = 0x10 then s.reqOver else s
    s.completeR c.hdr c.op st result

/-- A queued request is replaced: its commands complete SUPERSEDED (R447). -/
def State.supersede (s : State) (l : List Nat) : State := s.each l fun s k => s.endTileCmd k St.superseded []

/-- Complete a command once none of its tiles is left (R552, R463). -/
def State.settleCmd (s : State) (k : Nat) : State :=
  match s.pwr.cmds.get? k with
  | none => s
  | some c =>
    if c.left ≠ 0 then s
    else
      let t := bytesLE 4 (usBetween c.start s.now)
      if c.op = 0x10 then s.endTileCmd k (if c.failed = 0 then St.done else St.notReady) t
      else s.endTileCmd k (if c.failed = 0 then St.done else if c.failed = c.mask then St.notReady else St.donePartial) (t ++ [c.failed])

/-- One tile of a command is done, or could not start. -/
def State.tileDone (s : State) (k n : Nat) (ok : Bool) : State :=
  match s.pwr.cmds.get? k with
  | none => s
  | some c =>
    let c := { c with left := putBit c.left n false, failed := if ok then c.failed else putBit c.failed n true }
    { s with pwr := { s.pwr with cmds := s.pwr.cmds.set k c } }.settleCmd k

/-- The time of a command counts from the shut-down it waits for (R450). -/
def State.countFrom (s : State) (k t : Nat) : State :=
  match s.pwr.cmds.get? k with
  | none => s
  | some c => { s with pwr := { s.pwr with cmds := s.pwr.cmds.set k { c with start := min c.start t } } }

/-! ## Gating and ungating one tile (R443, R444, R447, R450) -/

/-- Whether a tile can start (R552, R459): ready (a failed tile calibrates anew, R439), not held by T3, its engine not lost, a path
left, its rails in tolerance, and no trip. -/
def State.canStart (s : State) (n : Nat) : Bool :=
  (s.tileReady n || bit s.boot.failed n) &&
    !(bit s.pwr.t3Mask n && decide (s.get Reg.THM_STAT_LEVEL ≥ 3)) && s.get (Reg.ENG_STAT_STATE n) != 5 &&
    bits (s.rd64 Reg.BFM_REMOVED) (8 * n) 8 &&& (255 - bits s.flt.restored (8 * n) 8) != 255 &&
    bits s.boot.railsOut 0 2 == 0 && !s.trip

/-- The running and the queued job of a tile. -/
def State.job (s : State) (n : Nat) : Option TileJob := s.pwr.tiles.get? n
def State.queued (s : State) (n : Nat) : Option TileJob := s.pwr.tileQ.get? n

/-- Put the running or the queued job of a tile, and show its phase. -/
def State.setJob (s : State) (n : Nat) (j : Option TileJob) : State :=
  { s with pwr := { s.pwr with tiles := match j with
    | some j => s.pwr.tiles.set n j
    | none => s.pwr.tiles.del n } }.showPhase n
def State.setQueued (s : State) (n : Nat) (j : Option TileJob) : State :=
  { s with pwr := { s.pwr with tileQ := match j with
    | some j => s.pwr.tileQ.set n j
    | none => s.pwr.tileQ.del n } }.showPhase n

/-- Replace what is queued for a tile (R447). -/
def State.requeue (s : State) (n : Nat) (j : Option TileJob) : State :=
  let old := (s.queued n).elim [] TileJob.cmds
  (s.setQueued n j).supersede old

/-- Show whether a tile was gated by the Supervisor or T3 (`AUTO`). -/
def State.showAuto (s : State) (n : Nat) (b : Bool) : State := s.put Reg.PWR_STAT_AUTO (putBit (s.get Reg.PWR_STAT_AUTO) n b)

/-- Gate a tile, for the commands given (R444, R447): at once, after the start in progress, or with the shut-down that runs. -/
def State.gateTile (s : State) (n cause who : Nat) (cmds : List Nat) : State :=
  match s.job n with
  | some j =>
    if j.on then s.requeue n (some ⟨false, s.now, cmds, who⟩)
    else (s.requeue n none).setJob n (some { j with cmds := j.cmds ++ cmds })
  | none =>
    if s.tileState n = 0 then s.each cmds fun s k => s.tileDone k n true
    else (s.tileOffBy n cause who).setJob n (some ⟨false, s.now, cmds, who⟩)

/-- Ungate a tile that can start, for the commands given (R444, R447, R450). -/
def State.ungateTile (s : State) (n who : Nat) (cmds : List Nat) : State :=
  match s.job n with
  | some j =>
    if j.on then (s.requeue n none).setJob n (some { j with cmds := j.cmds ++ cmds })
    else (s.requeue n (some ⟨true, s.now, cmds, who⟩)).each cmds fun s k => s.countFrom k j.at_
  | none =>
    if s.tileState n ≠ 0 then s.each cmds fun s k => s.tileDone k n true
    else s.setJob n (some ⟨true, s.now, cmds, who⟩)

/-- The power record 0x0F01 (R464). -/
def State.powerRecord (s : State) (old new cause us : Nat) : State :=
  s.event 0x0001 0x0F01 ([old, new, s.get Reg.PWR_STAT_GATED, cause] ++ bytesLE 4 us)

/-! ## PWR_STATE (R447, R451, R463) -/

/-- Number a command that waits for tiles. -/
def State.addTileCmd (s : State) (c : TileCmd) : State × Nat :=
  ({ s with pwr := { s.pwr with cmds := s.pwr.cmds.set s.pwr.cmdNo c, cmdNo := s.pwr.cmdNo + 1 } }, s.pwr.cmdNo)

/-- The first block that refuses to sleep, in the order of R451: its ID, reason code and detail. -/
def State.sleepRefusal (s : State) : Option (Nat × Nat × Nat) :=
  let tilesOn := 255 - s.get Reg.PWR_STAT_GATED
  let rings := s.host.timed.map fun (c : Held) => c.hdr.ring
  let chans := (List.range 32).filter fun c => let st := s.get (Reg.SLU_CH_STAT_STATE c); st == 1 || st == 2
  let engines := (List.range 14).filter fun n => s.get (Reg.ENG_STAT_MODE n) == 1 && !(s.engine n).hostMaint
  let refuse : List (Bool × Nat × Nat × Nat) :=
    [(s.gauBusy, 0x3C, 1, 0), (tilesOn != 0, 0x39, 1, tilesOn),
     (!s.fh.sets.isEmpty, 0x28, 1, (s.fh.sets.map Prod.fst).foldl min 255),
     (!rings.isEmpty, 0x08, 1, rings.foldl min 255), (!chans.isEmpty, 0x0A, 1, chans.headD 0),
     (s.sea.running.isSome, 0x04, 1, 0), (s.on Reg.CUL_CFG_LEAD && s.cul.tunnelled != 0, 0x34, 3, 0),
     (!engines.isEmpty, 0x40 + engines.headD 0, 1, 0)]
  (refuse.find? Prod.fst).map Prod.snd

/-- Start a request to POLDER (R451, R452). -/
def State.startPolder (s : State) (q : PwrReq) : State :=
  match s.sleepRefusal with
  | some (id, code, detail) =>
    let s := if id = 0x3C then s else (s.hkaAgree).hkaNext s.now
    let s := s.event 0x0001 0x0F02 [id, code, detail]
    s.completeX q.hdr 0x10 St.refusedSleep id [code, detail] false
  | none => { s with pwr := { s.pwr with req := some q } }.setF Reg.PWR_STAT_BUSY

/-- Start a request to ACTIVE or LIGHT (R443, R463): it changes no tile unless it can change them all. -/
def State.startTiles (s : State) (q : PwrReq) : State :=
  let gate := if q.target = 0 then 0 else q.mask
  let up := (List.range 8).filter fun n => !bit gate n && s.tileState n == 0 && !(s.job n).any TileJob.on
  if up.all s.canStart then
    let s := { s with pwr := { s.pwr with req := some q } }.setF Reg.PWR_STAT_BUSY
    let (s, k) := s.addTileCmd ⟨q.hdr, 0x10, q.target, 255, 255, 0, q.start⟩
    s.each (List.range 8) fun s n =>
      if bit gate n then ({ s with pwr := { s.pwr with t3Mask := putBit s.pwr.t3Mask n false } }.showAuto n false).gateTile n 4 0 [k]
      else s.ungateTile n 0 [k]
  else s.complete q.hdr 0x10 St.notReady

/-- Start the queued request once none is in progress. -/
def State.startQueued (s : State) : State :=
  match s.pwr.req, s.pwr.queue with
  | none, some q =>
    let s := { s with pwr := { s.pwr with queue := none } }.put Reg.PWR_STAT_QUEUED 0
    if q.target = 2 then s.startPolder q else s.startTiles q
  | _, _ => s

/-- Replace the queued request (R447). -/
def State.queuePwr (s : State) (q : Option PwrReq) : State :=
  let old := s.pwr.queue
  let s := { s with pwr := { s.pwr with queue := q } }.put Reg.PWR_STAT_QUEUED (b2n q.isSome)
  match old with
  | some o => s.complete o.hdr 0x10 St.superseded
  | none => s

/-- Both synthesisers are off. -/
def State.synthOff (s : State) : State :=
  let s := { s with rct := { s.rct with synth := none }, rx := { s.rx with grid := none } }
  let s := ((s.put Reg.CLK_SYN_STAT_SYNTH_OK 0).put Reg.CLK_SYN_STAT_TX_LOCK 0).put Reg.CLK_SYN_STAT_RX_LOCK 0
  (s.put Reg.CLK_SYN_STAT_CAL_BUSY 0).put Reg.TIM_SYNC_STAT_SYNCED 0

/-- Every lane and synthesiser stops, as in POLDER (R445, R446). -/
def State.stopDomains (s : State) : State :=
  let s := ((s.each (List.range 8) State.enterDown).culRefresh).hkaSleep
  let s := s.synthOff
  if s.get Reg.TIM_STAT_CLK_STATE = 2 then s.clockTo 3 else s

/-- Start DORMANT (R447, R448): the queued request and the transition in progress complete SUPERSEDED; captures are discarded. -/
def State.startDormant (s : State) (q : PwrReq) : State :=
  let s := s.queuePwr none
  let s := match s.pwr.req with
    | some r => if r.target = 2 then s.complete r.hdr 0x10 St.superseded else s
    | none => s
  let s := s.supersede (s.pwr.cmds.map Prod.fst)
  let s := { s with pwr := { s.pwr with req := some q, tiles := [], tileQ := [], exit := none } }
  let s := (s.wr Reg.PWR_TILE_PHASE 0).put Reg.PWR_STAT_STATE 3
  let s := s.setF Reg.PWR_STAT_BUSY
  let s := s.each (List.range 8) fun s n => (s.setTileState n 0 4).put (Reg.RCT_TILE_STATE_LATCHED n) 0
  s.gauDiscard.stopDomains

/-- The field checks of `PWR_STATE` (R463). -/
def pwrStateFail (target mask sources timer : Nat) : Option Nat :=
  rangeUnless [decide (target ≤ 3), target != 1 || decide (0 < mask ∧ mask < 256),
    target != 3 || decide (0 < sources ∧ sources < 8), target != 3 || !bit sources 2 || timer != 0]

/-- PWR_STATE (R447, R463). -/
def execPwrState (h : Hdr) (target mask sources timer : Nat) (s : State) : Host.Outcome State Fault Refusal :=
  .next (s.acceptNow h 0x10 (pwrStateFail target mask sources timer) fun s =>
    let q : PwrReq := ⟨h, target, mask, sources, timer, s.now⟩
    if target = 3 then s.startDormant q
    else if s.pwr.req.isNone && s.pwr.exit.isNone && decide (s.get Reg.PWR_STAT_STATE < 2) then
      if target = 2 then s.startPolder q else s.startTiles q
    else s.queuePwr (some q))

/-! ## TILE_STATE (R191, R552) -/

/-- The checks of `TILE_STATE` at fetch. -/
def tileStateFields (s : State) (h : Hdr) (tileMask target : Nat) : Option Nat :=
  rangeUnless [decide (0 < tileMask ∧ tileMask < 256), decide (target ≤ 3), decide (h.effTick % s.tps = 0)]

/-- TILE_STATE (R191). -/
def execTileState (h : Hdr) (tileMask target : Nat) (s : State) : Host.Outcome State Fault Refusal :=
  .next (s.acceptTimed h 0x53 (.tileState tileMask target) (tileStateFields s h tileMask target) true)

/-- The effect of `TILE_STATE` at its effective tick (R179, R552). -/
def State.applyTileState (s : State) (h : Hdr) (tileMask target : Nat) : State :=
  let tiles := maskList tileMask 8
  if target = 2 then (s.each tiles fun s n => s.enterProtect n 0 (some s.now)).complete h 0x53 St.done
  else if target = 3 then
    (s.each tiles fun s n =>
      let s := s.put (Reg.RCT_TILE_STATE_LATCHED n) 0
      if s.tileState n = 4 then s.leaveProtect n 0 else s).complete h 0x53 St.done
  else
    let (s, k) := s.addTileCmd ⟨h, 0x53, target, tileMask, tileMask, 0, s.now⟩
    let s := s.each tiles fun s n =>
      if target = 0 then ({ s with pwr := { s.pwr with t3Mask := putBit s.pwr.t3Mask n false } }.showAuto n false).gateTile n 0 0 [k]
      else if s.tileState n ≠ 0 && (s.job n).isNone then s.tileDone k n true
      else if s.canStart n then s.ungateTile n 0 [k]
      else s.tileDone k n false
    s.settleCmd k

/-! ## Transitions that end (R444) -/

/-- The cause of 0x0511 for a start: 0 command, 4 gating, 5 T3. -/
def startCause (who : Nat) : Nat := if who = 0 then 0 else if who = 2 then 5 else 4

/-- TILE_GATED (R444): a shut-down completes; a start that waits for it runs (R450). -/
def execTileGated (tile : Nat) (s : State) : Host.Outcome State Fault Refusal :=
  .next (match s.job tile with
    | none => s
    | some j =>
      if j.on then s
      else
        let next := s.queued tile
        let others := putBit (s.get Reg.PWR_STAT_GATED) tile false
        let s := (s.setJob tile none).setQueued tile none
        let s := s.powerRecord (b2n (others != 0)) (s.get Reg.PWR_STAT_STATE) j.cause (usBetween j.at_ s.now)
        let s := s.each j.cmds fun s k => s.tileDone k tile true
        let s := match next with
          | none => s
          | some q =>
            if s.canStart tile then s.setJob tile (some q) else s.each q.cmds fun s k => s.tileDone k tile false
        s.startQueued)

/-- A start ends with the tile in STANDBY (R179, R444, R503): paths that passed their test return, and a shut-down that waits runs. A
T3 gating that waits makes the commands of the start NOT_READY (R465). -/
def State.tileStarted (s : State) (n : Nat) (j : TileJob) (full : Bool) : State :=
  let next := s.queued n
  let t3 := next.any fun q => q.cause == 2
  let s := (s.setJob n none).setQueued n none
  let s := (s.setTileState n 1 (startCause j.cause)).returnPaths n
  let s := if full then { s with boot := { s.boot with calTemp := s.boot.calTemp.set n s.junction } } else s
  let s := if t3 then s
    else { s with pwr := { s.pwr with t3Mask := putBit s.pwr.t3Mask n false } }.showAuto n false
  let s := s.powerRecord 1 (s.get Reg.PWR_STAT_STATE) j.cause (usBetween j.at_ s.now)
  let s := s.when (j.cause != 0) fun s => s.event 0x0000 0x0E05 ([n, 1] ++ bytesLE 2 (min (usBetween j.at_ s.now / 1000) 65535))
  let s := s.each j.cmds fun s k => s.tileDone k n (!t3)
  let s := match next with
    | none => s
    | some q => (s.tileOffBy n (if q.cause = 2 then 5 else 0) q.cause).setJob n (some { q with at_ := s.now })
  s.startQueued

/-- TILE_UNGATED (R444): the refresh of the last full calibration serves while the junction lies within 15 °C of it; a full calibration
takes its place otherwise. A tile whose calibration had failed calibrates anew instead (R439, TILE_CALIBRATED). -/
def execTileUngated (tile : Nat) (s : State) : Host.Outcome State Fault Refusal :=
  .next (match s.job tile with
    | none => s
    | some j =>
      if !j.on || bit s.boot.failed tile then s
      else
        let ref := s.boot.calTemp.getD tile s.junction
        s.tileStarted tile j (decide ((s.junction - ref).natAbs > 120)))

/-! ## POLDER and DORMANT (R445, R446, R448) -/

/-- Begin to leave POLDER (R445): `WAKE_N` prevails over a `WAKE` write of the same moment (R465). -/
def State.beginExit (s : State) (cause : Nat) : State :=
  if s.get Reg.PWR_STAT_STATE ≠ 2 then s
  else match s.pwr.exit with
    | some (t, c) => if cause = 1 ∧ c = 2 ∧ t = s.now then { s with pwr := { s.pwr with exit := some (t, 1) } } else s
    | none => { s with pwr := { s.pwr with exit := some (s.now, cause) } }.setF Reg.PWR_STAT_BUSY

/-- WAKE_N_LOW (R445): `WAKE_N` has been low for 1 µs. -/
def execWakeNLow (s : State) : Host.Outcome State Fault Refusal := .next (s.beginExit 1)

/-- A write of 1 to `WAKE` starts an exit from POLDER (R445). -/
def State.wakeWrite (s : State) : State :=
  if s.get Reg.PWR_STAT_STATE = 2 then (s.beginExit 2).setF Reg.PWR_WAKE_WAKE else s

/-- WAKE (R445). -/
def execWake (rq : Requester) (s : State) : Host.Outcome State Fault Refusal :=
  .next (if s.mayWrite rq Reg.PWR_WAKE then s.wakeWrite else s)

/-- POLDER_ENTRY_DONE (R445, R452): the request completes before the rings stop; a queued request that reversed the entry runs as an
exit at once (R447). -/
def execPolderEntryDone (s : State) : Host.Outcome State Fault Refusal :=
  .next (match s.pwr.req with
    | none => s
    | some q =>
      if q.target ≠ 2 then s
      else
        let us := usBetween q.start s.now
        let old := s.get Reg.PWR_STAT_STATE
        let s := s.reqOver.completeR q.hdr 0x10 St.done (bytesLE 4 us)
        let s := (s.powerRecord old 2 0 us).put Reg.PWR_STAT_STATE 2
        let s := s.stopDomains
        if s.pwr.queue.isSome then s.beginExit 5 else s)

/-- POLDER_EXIT (R444, R445): registers and rings are usable again; lanes and synthesisers start, parked channels start a fresh round of
reads (R389), and a request that waited runs. -/
def execPolderExit (s : State) : Host.Outcome State Fault Refusal :=
  .next (match s.pwr.exit with
    | none => s
    | some (t, cause) =>
      let s := { s with pwr := { s.pwr with exit := none } }.put Reg.PWR_STAT_STATE (b2n (s.get Reg.PWR_STAT_GATED != 0))
      let s := ((s.put Reg.PWR_STAT_BUSY 0).put Reg.PWR_WAKE_WAKE 0).put Reg.PWR_WAKE_CAUSE cause
      let s := s.powerRecord 2 (s.get Reg.PWR_STAT_STATE) 0 (usBetween t s.now)
      let s := s.startReference
      let s := s.each ((List.range 32).filter fun c => s.sluState c == 3) fun s c =>
        ((s.put (Reg.SLU_CH_STAT_POLLS c) 64).modSlu c fun q => { q with pollAt := s.now }).sluTo c 2
      match s.pwr.queue with
      | some q => { s with pwr := { s.pwr with queue := some { q with start := t } } }.startQueued
      | none => s)

/-- An image update that DORMANT abandons leaves its slot as R441 says. -/
def State.dropUpdate (s : State) : State :=
  match s.boot.update with
  | none => s
  | some u =>
    let s := { s with boot := { s.boot with update := none } }
    if u.kind = 0 then s.setSlot u.slot Slot.blank else s

/-- DORMANT_ENTRY_DONE (R446, R448): the command completes, the wake setting goes to the sentinel, and `PWR_EN` falls. -/
def execDormantEntryDone (s : State) : Host.Outcome State Fault Refusal :=
  .next (match s.pwr.req with
    | none => s
    | some q =>
      if q.target ≠ 3 then s
      else
        let s := s.dropUpdate.reqOver.completeR q.hdr 0x10 St.done (bytesLE 4 (usBetween q.start s.now))
        { s with
          pwr := { s.pwr with sentinel := ⟨q.sources, q.timer, 0, false, false⟩ }
          flt := { s.flt with logHeld := [] }
          boot := { s.boot with epochHeld := none, muteHeld := false } })

/-- SENTINEL_WAKE (R446): a source that the command enabled raises `PWR_EN`; 1 `WAKE_N`, 3 mains, 4 timer. -/
def execSentinelWake (source : Nat) (s : State) : Host.Outcome State Fault Refusal :=
  let w := s.pwr.sentinel
  let i := if source = 1 then 0 else if source = 3 then 1 else 2
  .next (if w.pwrEn || !bit w.sources i || !decide (source = 1 ∨ source = 3 ∨ source = 4) then s
    else { s with pwr := { s.pwr with sentinel := { w with cause := source, pwrEn := true, woken := true } } })

/-! ## Autonomous gating (R449) -/

/-- Powered tiles: not OFF, or starting. -/
def State.powered (s : State) (n : Nat) : Bool := s.tileState n != 0 || (s.job n).any TileJob.on

/-- The tiles R449 keeps powered: those whose ECONOMY budget covers the layer-MHz in force, plus `HEADROOM`, and never fewer than
`MIN_TILES`. -/
def State.tilesNeeded (s : State) : Nat :=
  let need := max (ceilDiv (s.layerKhz 0) 3200000) (ceilDiv (s.layerKhz 1) 3200000) + s.get Reg.PWR_POLICY_HEADROOM
  max need (s.get Reg.PWR_POLICY_MIN_TILES)

/-- Whether the Supervisor may act: `AUTO_EN` under ECONOMY, and no host request in progress or queued. -/
def State.autoActs (s : State) : Bool :=
  s.on Reg.PWR_POLICY_AUTO_EN && s.profile == 2 && s.pwr.req.isNone && s.pwr.queue.isNone && s.pwr.cmds.isEmpty &&
    s.pwr.exit.isNone && decide (s.get Reg.PWR_STAT_STATE < 2)

/-- Gated tiles that the Supervisor may ungate, lowest number first. -/
def State.spareTiles (s : State) : List Nat :=
  (List.range 8).filter fun n => bit (s.get Reg.PWR_POLICY_MASK) n && !s.powered n && (s.job n).isNone && s.canStart n

/-- AUTO_GATING (R449). -/
def execAutoGating (s : State) : Host.Outcome State Fault Refusal :=
  let on := (List.range 8).filter s.powered
  let need := s.tilesNeeded
  .next (if !s.autoActs then s
    else if on.length > need then
      match s.pwr.surplusSince with
      | none => { s with pwr := { s.pwr with surplusSince := some s.now } }
      | some t =>
        if !s.due (t + s.get Reg.PWR_POLICY_IDLE * 100000000) then s
        else match (on.filter fun n => bit (s.get Reg.PWR_POLICY_MASK) n).reverse.head? with
          | none => s
          | some n =>
            ({ s with pwr := { s.pwr with surplusSince := some s.now } }.gateTile n 4 1 []).showAuto n true
    else
      let s := { s with pwr := { s.pwr with surplusSince := none } }
      s.each (s.spareTiles.take (need - on.length)) fun s n => s.ungateTile n 1 [])

/-! ## Core supply adaptation (R453) -/

/-- AVS_UPDATE (R453): the code moves towards E14's target by at most one step every 100 µs, within its bounds; with `AVS_EN` = 0 the
target is 20. -/
def execAvsUpdate (target : Nat) (s : State) : Host.Outcome State Fault Refusal :=
  .next (if s.get Reg.PWR_STAT_STATE ≥ 2 ∨ s.running = false then s
    else
      let old := s.get Reg.PWR_AVS_VID
      let lo := s.get Reg.PWR_AVS_VID_MIN
      let hi := s.get Reg.PWR_AVS_VID_MAX
      let goal := if s.on Reg.PWR_AVS_AVS_EN then max lo (min hi target) else 20
      let steps := (s.now - s.pwr.avsAt) / 100000
      let new := if old ≤ goal then min goal (old + steps) else max goal (old - steps)
      if new = old then s else { s with pwr := { s.pwr with avsAt := s.now } }.put Reg.PWR_AVS_VID new)

/-! ## Temperature and throttling (R454 to R458, R461) -/

/-- The threshold of a level, 0.125 °C (R455). -/
def State.levelAt (s : State) (l : Nat) : Int :=
  8 * s.get (if l = 1 then Reg.THM_LIMITS_T1_C else if l = 2 then Reg.THM_LIMITS_T2_C else Reg.THM_LIMITS_T3_C)

/-- The reading of a sensor, 0.125 °C. -/
def State.sensor (s : State) (k : Nat) : Int := sx 16 (s.get (Reg.THM_SENSOR_TEMP k))

/-- The highest reading of a tile's three sensors. -/
def State.tileTemp (s : State) (n : Nat) : Int := max (s.sensor (3 * n)) (max (s.sensor (3 * n + 1)) (s.sensor (3 * n + 2)))

/-- The hottest of a list of tiles. -/
def State.hottest (s : State) (l : List Nat) : Option Nat :=
  l.foldl (fun (a : Option Nat) n =>
    match a with
    | none => some n
    | some m => if s.tileTemp n > s.tileTemp m then some n else a) none

/-- The sensor that reads highest. -/
def State.hotSensor (s : State) : Nat :=
  (List.range 40).foldl (fun m k => if s.sensor k > s.sensor m then k else m) 0

/-- The hottest powered tile is gated by T3 (R458); one that starts is gated after its start (R465). -/
def State.t3Gate (s : State) : State :=
  let s := { s with pwr := { s.pwr with gatedAt := s.now } }
  match s.hottest ((List.range 8).filter s.powered) with
  | none => s
  | some n => ({ s with pwr := { s.pwr with t3Mask := putBit s.pwr.t3Mask n true } }.gateTile n 5 2 []).showAuto n true

/-- Change the throttle level (R455, R456): the record tells host and DU the capacity after the change; T2 blanks layers that no
longer fit (R128), and T3 gates the hottest tile. -/
def State.setLevel (s : State) (new : Nat) : State :=
  let old := s.get Reg.THM_STAT_LEVEL
  if old = new then s
  else
    let s := (s.put Reg.THM_STAT_LEVEL new).refreshPlan
    let k := s.hotSensor
    let s := s.event 0x003E 0x0F11 ([old, new, k, 0] ++ bytesLE 2 (ux 16 (s.sensor k)) ++ bytesLE 2 (s.get Reg.BFM_CAP_CAP_LMHZ))
    let cool := if new ≤ 1 then some (s.pwr.coolSince.getD s.now) else none
    let s := { s with pwr := { s.pwr with belowSince := none, coolSince := cool } }
    let s := s.when (decide (old < 2 ∧ 2 ≤ new)) State.t2Blank
    s.when (decide (old < 3 ∧ new = 3)) State.t3Gate

/-- Bring the throttle level up to the readings (R456), and note since when they allow a lower one. -/
def State.throttle (s : State) : State :=
  let cur := s.get Reg.THM_STAT_LEVEL
  if cur ≥ 4 then s
  else
    let t := s.junction
    let reach := if t ≥ s.levelAt 3 then 3 else if t ≥ s.levelAt 2 then 2 else if t ≥ s.levelAt 1 then 1 else 0
    let s := if reach > cur then s.setLevel reach else s
    let cur := s.get Reg.THM_STAT_LEVEL
    let below := decide (1 ≤ cur) && decide (t < s.levelAt cur - 8 * s.get Reg.THM_LIMITS_HYST)
    { s with pwr := { s.pwr with belowSince := if below then some (s.pwr.belowSince.getD s.now) else none } }

/-- THROTTLE_LOWER (R456): one level down after 1 s below its threshold minus `HYST`. -/
def execThrottleLower (s : State) : Host.Outcome State Fault Refusal :=
  let cur := s.get Reg.THM_STAT_LEVEL
  .next (match s.pwr.belowSince with
    | none => s
    | some t => if 1 ≤ cur ∧ cur ≤ 3 ∧ s.due (t + 1000000000) = true then (s.setLevel (cur - 1)).throttle else s)

/-- T3_GATING (R458): every 100 ms while T3 holds. -/
def execT3Gating (s : State) : Host.Outcome State Fault Refusal :=
  .next (if s.get Reg.THM_STAT_LEVEL = 3 ∧ s.due (s.pwr.gatedAt + 100000000) = true then s.t3Gate else s)

/-- T3_RELEASE (R458): after 10 s at T1 or lower the tiles gated by T3 return, one at a time. -/
def execT3Release (s : State) : Host.Outcome State Fault Refusal :=
  let held := maskList s.pwr.t3Mask 8
  .next (match s.pwr.coolSince with
    | none => s
    | some t =>
      if !s.due (t + 10000000000) || held.any fun n => (s.job n).isSome then s
      else match held.find? s.canStart with
        | some n => s.ungateTile n 2 []
        | none => s)

/-- Write what was held in RAM when the flash window opens (R461): the epoch and the mute counter first, then the log, oldest first. -/
def State.writeHeld (s : State) : State :=
  let e := s.boot.epochHeld.getD s.boot.epochFlash
  let m := if s.boot.muteHeld then s.sea.muteCounter else s.boot.muteFlash
  let s := { s with boot := { s.boot with epochFlash := e, epochHeld := none, muteFlash := m, muteHeld := false } }
  if s.on Reg.FLT_STAT_LOG_STOPPED then s
  else
    let f := s.flt.logHeld.reverse.foldl FltState.logPut s.flt
    let worst := f.logErase.foldl (fun m p => max m p.2) 0
    let s := { s with flt := { f with logHeld := [] } }.put Reg.THM_WINDOW_HELD 0
    let s := s.put Reg.FLT_LOG_WEAR_MAX_ERASE (min worst 100000)
    s.when (worst ≥ 100000) fun s => s.setF Reg.FLT_STAT_LOG_STOPPED

/-- A window opens or closes (R461): 0 fuse, 1 flash. -/
def State.setWindow (s : State) (w : Nat) (now : Bool) : State :=
  let f := if w = 0 then Reg.THM_WINDOW_FUSE_OPEN else Reg.THM_WINDOW_FLASH_OPEN
  if s.on f = now then s
  else
    let held := s.get Reg.THM_WINDOW_HELD
    let s := s.put f (b2n now)
    let s := if w = 1 && now then s.writeHeld else s
    let s := s.event 0x003E 0x0F13 ([w, b2n now] ++ bytesLE 2 held)
    if w = 0 then s else if now then s.logState 2 held else s.logState 1 0

/-- THERMAL_SAMPLING (R454, R456, R461): the forty sensors in units of 0.125 °C. A sweep that took more than 1.5 ms sets `THERM_LATE`
(R38). -/
def execThermalSampling (temps : List Int) (s : State) : Host.Outcome State Fault Refusal :=
  let late := s.pwr.sweepAt != 0 && s.due (s.pwr.sweepAt + 1500001)
  .next (if !s.running then s
    else
      let s := s.when late fun s => s.lateFlag Reg.DEV_BG_STAT_THERM_LATE
      let s := s.each (List.range 40) fun s k => s.wr (Reg.THM_SENSOR k) (ux 16 (temps.getD k 0) + 2 ^ 16)
      let s := { s with pwr := { s.pwr with sweepAt := s.now } }
      let top := s.sensor s.hotSensor
      let low := (List.range 40).foldl (fun m k => min m (s.sensor k)) top
      let s := s.put Reg.THM_STAT_MAX_T (ux 16 top)
      let s := s.put Reg.THM_STAT_HOT_TILE ((s.hottest (List.range 8)).getD 0)
      let s := (s.setWindow 0 (decide (0 ≤ top ∧ top ≤ 680))).setWindow 1 (decide (-240 ≤ low ∧ top ≤ 800))
      let diff : Int := top - s.rct.calTemp
      let lim : Nat := 8 * s.get Reg.CLK_SYN_CTL_DRIFT_C
      let drift : Bool := decide (lim < diff.natAbs)
      let s := if drift && s.rct.driftSince.isNone && s.on Reg.CLK_SYN_STAT_SYNTH_OK then
          { s with rct := { s.rct with driftSince := some s.now } } else s
      s.throttle)

/-! ## Thermal trip (R459, R460) -/

/-- The converters, synthesisers, drivers, PAs and bias outputs are silenced in hardware (R459). -/
def State.silence (s : State) (cause : Nat) : State :=
  let waiting := s.rct.synth.elim [] SynthCal.hdrs
  let s := { s with tx := { s.tx with quiet := true } }.synthOff
  let s := s.each waiting fun s h => s.complete h 0x55 St.internal
  let s := s.each (List.range 8) fun s n => (s.tripBias n).tileOff n cause
  (s.each (List.range 8) State.enterDown).culRefresh

/-- THERMAL_TRIP (R459, R465): the comparators that tripped. Tile starts and a POLDER entry in progress complete INTERNAL. -/
def execThermalTrip (mask : Nat) (s : State) : Host.Outcome State Fault Refusal :=
  .next (if s.trip then s
    else
      let s := ((s.put Reg.THM_STAT_LEVEL 4).setF Reg.THM_STAT_TRIP_LATCHED)
      let s := { s with pwr := { s.pwr with tripped := true, cool := false, belowSince := none, coolSince := none } }
      let starting := (List.range 8).filter fun n => (s.job n).any TileJob.on
      let s := s.each (s.pwr.cmds.map Prod.fst) fun s k => s.endTileCmd k St.internal []
      let s := match s.pwr.req with
        | some q => if q.target = 2 then s.reqOver.complete q.hdr 0x10 St.internal else s
        | none => s
      let s := s.each starting fun s n => s.setJob n none
      let s := s.each (List.range 8) fun s n => s.setQueued n none
      let s := { s with boot := { s.boot with cal := none } }
      let s := (s.silence 6).tapStop (fun _ => true) 2
      s.event 0x003E 0x0F12 ([mask, 0, 0, 0] ++ bytesLE 8 s.timeNs))

/-- TRIP_LATCH_CLEAR (R460): `RSTN` is low and all four comparators read below 105 °C. -/
def execTripLatchClear (s : State) : Host.Outcome State Fault Refusal :=
  .next (if s.boot.rstnHigh then s
    else
      let s := { s with pwr := { s.pwr with cool := true, tripped := false } }
      (s.put Reg.THM_STAT_TRIP_LATCHED 0).put Reg.THM_STAT_LEVEL 0)

/-! ## Reduced and full service (R437 to R439) -/

/-- Whether a tile may be calibrated: both analogue rails in tolerance and no trip (R420, R460). -/
def State.calAllowed (s : State) : Bool := bits s.boot.railsOut 0 2 == 0 && !s.trip

/-- The calibration record 0x0E05 (R440). -/
def State.calRecord (s : State) (n kind ms : Nat) : State := s.event 0x0000 0x0E05 ([n, kind] ++ bytesLE 2 (min ms 65535))

/-- A tile becomes ready, with the trims its calibration found (R57, R109): its engine goes to Service as its start-up ends (R335). -/
def State.tileReadyNow (s : State) (n : Nat) (full : Bool) : State :=
  let s := s.calTrims n
  let s := s.put Reg.DEV_BOOT_STAT_TILE_READY (putBit (s.get Reg.DEV_BOOT_STAT_TILE_READY) n true)
  let s := s.when full fun s => s.put Reg.DEV_BOOT_STAT_TILE_FULL (putBit (s.get Reg.DEV_BOOT_STAT_TILE_FULL) n true)
  let s := { s with boot := { s.boot with
    failed := putBit s.boot.failed n false,
    calTemp := if full then s.boot.calTemp.set n s.junction else s.boot.calTemp } }
  (s.setMode n 0 1).refreshPlan

/-- `FULL` once every tile is fully calibrated (R433 step 13). -/
def State.checkFull (s : State) : State :=
  if s.get Reg.DEV_BOOT_STAT_TILE_FULL = 255 ∧ s.on Reg.DEV_BOOT_STAT_FULL = false then
    ((s.setF Reg.DEV_BOOT_STAT_FULL).put Reg.DEV_BOOT_TIME_FULL_MS (min s.sinceT0 65535)).milestone 13 0xFF
  else s

/-- The next tile calibrates, in the order from `BOOT_TILE` (R438). -/
def State.nextCal (s : State) (n : Nat) : State :=
  let m := (n + 1) % 8
  let job : CalJob := ⟨m, s.now, false⟩
  { s with boot := { s.boot with cal := if m = s.boot.bootTile then none else some job } }

/-- REDUCED_SERVICE (R437, R433 step 11): the boot tile enters service on provisional calibration. -/
def execReducedService (s : State) : Host.Outcome State Fault Refusal :=
  .next (match s.boot.cal with
    | none => s
    | some c =>
      if c.tile ≠ s.boot.bootTile ∨ s.calAllowed = false then s
      else
        let s := { s with boot := { s.boot with provisional := true } }
        let s := s.tileReadyNow c.tile false
        let s := (s.setF Reg.DEV_BOOT_STAT_REDUCED).put Reg.DEV_BOOT_TIME_REDUCED_MS (min s.sinceT0 65535)
        let s := (s.milestone 11 c.tile).calRecord c.tile 0 (usBetween c.start s.now / 1000)
        s.nextCal c.tile)

/-- The end of a full calibration that a `TILE_STATE` ON of a failed tile asked for (R439). -/
def State.recalibrated (s : State) (n : Nat) (j : TileJob) (ok : Bool) : State :=
  let ms := usBetween j.at_ s.now / 1000
  if ok then (((s.tileReadyNow n true).calRecord n 1 ms).checkFull).tileStarted n j true
  else
    let next := (s.queued n).elim [] TileJob.cmds
    let s := (((s.setJob n none).setQueued n none).calRecord n 2 ms).each j.cmds fun s k => s.tileDone k n false
    (s.each next fun s k => s.tileDone k n true).startQueued

/-- TILE_CALIBRATED (R438, R439): a failed calibration is retried once; after that the tile stays OFF and growth goes on. -/
def execTileCalibrated (tile : Nat) (ok : Bool) (s : State) : Host.Outcome State Fault Refusal :=
  .next (if !s.calAllowed then s
    else match s.boot.cal, s.job tile with
    | some c, j =>
      if c.tile = tile then
        let ms := usBetween c.start s.now / 1000
        if ok then ((((s.tileReadyNow tile true).milestone 12 tile).calRecord tile 1 ms).nextCal tile).checkFull
        else if !c.retry then { s with boot := { s.boot with cal := some { c with retry := true } } }
        else ({ s with boot := { s.boot with failed := putBit s.boot.failed tile true } }.calRecord tile 2 ms).nextCal tile
      else match j with
        | some j => if j.on && bit s.boot.failed tile then s.recalibrated tile j ok else s
        | none => s
    | none, some j => if j.on && bit s.boot.failed tile then s.recalibrated tile j ok else s
    | none, none => s)

/-- CALIBRATION_REFINED (R438): the 100 MHz limit of the boot tile lifts. -/
def execCalibrationRefined (s : State) : Host.Outcome State Fault Refusal :=
  .next (if !s.boot.provisional then s
    else
      let n := s.boot.bootTile
      let s := { s with boot := { s.boot with provisional := false } }
      let s := (s.tileReadyNow n true).calRecord n 1 (s.sinceT0 - s.get Reg.DEV_BOOT_TIME_REDUCED_MS)
      s.checkFull)

end Sys2Proof.Machine
end

