-- ==== Sys2Proof/Machine/Faults.lean ====
section
/-! DEFINITION. Telemetry, the event log, path tests, the scrubber, and the fatal dump (R501 to R513). -/
namespace Sys2Proof.Machine
open Sys2Proof

/-! ## Fatal errors (R507, R508) -/

/-- The hardware actions of a fatal error (R508): outputs off, strobes and bias safe, line lanes DOWN, with no record and no change of
a tile's state; captures are cut, updates abandoned and telemetry stops (R513). -/
def State.quietDevice (s : State) : State :=
  let s := { s with tx := { s.tx with quiet := true } }.synthOff
  let s := s.each (List.range 8) fun s n =>
    ((s.modStrobes n fun t => { Strobes.off with obsSel := t.obsSel }).tileBias n true).put (Reg.LIN_STAT_STATE n) 0
  let s := s.each [0, 1] fun s k => (s.put (Reg.LIN_PORT_STAT_LANES_UP k) 0).put (Reg.LIN_PORT_STAT_PORT_UP k) 0
  let s := (s.tapStop (fun _ => true) 1).dropUpdate
  { s with flt := { s.flt with telemetry := none } }.put Reg.FLT_STAT_TEL_ON 0

/-- Whether a dump of a cause and engine is left unsigned (R508). -/
def State.dumpUnsigned (s : State) (cause engine : Nat) : Bool :=
  cause == 2 || ((cause == 5 || cause == 6) && engine == 15) || !s.on Reg.SEA_STAT_ID_KEY_OK

/-- A fatal error leaves no dump (R509): reset, with `DUMP_LOST`. -/
def State.dumpLost (s : State) (cause : Nat) : State :=
  let s := (s.setF Reg.FLT_DUMP_STAT_DUMP_LOST).put Reg.FLT_DUMP_STAT_CAUSE cause
  { s with flt := { s.flt with dumpNotice := some (cause, 2, 0, 0) } }.restart 16 false

/-- A fatal error (R508): a second one during the dump resets at once (R513). A report of the error whose dump already runs changes
nothing. -/
def State.fatal (s : State) (cause engine : Nat) : State :=
  if !s.running then s
  else match s.flt.dump with
    | some d => if d.cause = cause ∧ d.engine = engine then s else s.dumpLost cause
    | none =>
      let job : DumpJob := ⟨cause, engine, s.now, none, s.flt.region, s.dumpUnsigned cause engine, 0⟩
      let s := s.quietDevice
      { s with flt := { s.flt with dump := some job } }

/-- FATAL_ERROR (R507, R508): causes 1 to 6; a test comes by its command. -/
def execFatalError (cause engine : Nat) (s : State) : Host.Outcome State Fault Refusal :=
  .next (if 1 ≤ cause ∧ cause ≤ 6 then s.fatal cause engine else s)

/-! ## The dump (R509, R510) -/

/-- The offsets of every register of the map. -/
def regOffsets : List Nat :=
  regMap.flatMap fun d => (List.range d.n1).flatMap fun i => (List.range d.n2).map fun j => d.base + i * d.s1 + j * d.s2

/-- Section 1: the register snapshot. -/
def State.dumpRegs (s : State) : List Nat :=
  let l := regOffsets.flatMap fun o => bytesLE 4 o ++ bytesLE 4 (s.readReg o)
  (l ++ List.replicate 65536 0xFF).take 65536

/-- Section 2: the ring states; the last doorbell value is the host's position. -/
def State.dumpRings (s : State) : List Nat :=
  (List.range 64).flatMap fun r =>
    fit 64 (bytesLE 8 (s.rd64 (Reg.HRG_RING_BASE r)) ++ bytesLE 4 (s.rd (Reg.HRG_RING_CFG r)) ++ bytesLE 4 (s.rd (Reg.HRG_RING_STAT r)) ++
      bytesLE 4 (s.rd (Reg.HRG_RING_COAL r)) ++ bytesLE 8 (s.rd64 (Reg.HRG_RING_CNT r)) ++ bytesLE 4 (s.ring r).hostPos)

/-- The registers of an engine as the dump lays them out. -/
def EngRegs.dumpBytes (r : EngRegs) : List Nat :=
  r.g.flatMap (bytesLE 4) ++ r.acc.flatMap (fun a => bytesLE 8 (ux 64 a)) ++
    r.ptrs.flatMap (fun p => bytesLE 4 p.addr ++ bytesLE 4 p.base ++ bytesLE 4 p.len ++ bytesLE 4 (ux 32 p.step) ++ bytesLE 4 p.mode ++ bytesLE 4 p.count) ++
    bytesLE 4 r.bex ++ bytesLE 4 r.tapc ++ r.loops.flatMap (fun l => bytesLE 4 l.first ++ bytesLE 4 l.last ++ bytesLE 4 l.left) ++
    bytesLE 4 r.pc

/-- Section 3: the engine states, zero for E15. -/
def State.dumpEngines (s : State) : List Nat :=
  (List.range 16).flatMap fun n =>
    if n = 15 then List.replicate 4096 0
    else fit 4096 ((s.engine n).r.dumpBytes ++ (List.range 12).flatMap fun i => bytesLE 4 (s.rd (Reg.ENG_STAT n + 4 * i)))

/-- A record as the log and the dump store it: no ring has given it a phase or a number. -/
def EventRec.logBytes (e : EventRec) : List Nat := e.bytes 0 0

/-- The newest records of the log, RAM-held ones included, newest first (R506). -/
def State.newest (s : State) (n : Nat) : List EventRec := (s.flt.logHeld ++ s.flt.log).take n

/-- Section 5: the last 4 KiB of each event ring, then of the flash log. -/
def State.dumpLogs (s : State) : List Nat :=
  let ring := fun (r : Nat) =>
    let n := s.ringN r
    (List.range 128).flatMap fun i => s.hostRead (s.rd64 (Reg.HRG_RING_BASE r) + 32 * ((s.ringPos r + n * 128 - 128 + i) % n)) 32
  (List.range' 48 16).flatMap ring ++ fit 4096 ((s.flt.log.take 128).reverse.flatMap EventRec.logBytes)

/-- The sections of a dump: type, index and content. -/
def State.dumpSections (s : State) (full : Bool) : List (Nat × Nat × List Nat) :=
  let mem := (List.range 15).map fun n => (4, n, s.devRead (engData n) 0x40000)
  [(1, 0, s.dumpRegs), (2, 0, s.dumpRings), (3, 0, s.dumpEngines)] ++ (if full then mem else []) ++ [(5, 0, s.dumpLogs)]

/-- The section table, from an offset on. -/
def sectionTable : Nat → List (Nat × Nat × List Nat) → List Nat
  | _, [] => []
  | ofs, (t, i, c) :: l =>
    bytesLE 2 t ++ bytesLE 2 i ++ bytesLE 4 ofs ++ bytesLE 4 c.length ++ bytesLE 4 (crc32 c) ++ sectionTable (ofs + c.length) l

/-- Bytes of a dump, signature included (R510). -/
def dumpLength (full : Bool) : Nat := 4096 + 0x10000 + 0x1000 + 0x10000 + (if full then 15 * 0x40000 else 0) + 0x11000 + 132

/-- The flags of a dump (R510). -/
def dumpFlags (d : DumpJob) (flash full : Bool) : Nat := b2n d.unsig + 2 * b2n flash + 4 * b2n full

/-- The dump as it is written (R510), and the state its signature leaves. -/
def State.dumpBytes (s : State) (d : DumpJob) (flash full : Bool) : State × List Nat :=
  let secs := s.dumpSections full
  let slot := s.boot.slot.getD 0
  let gen := ((s.boot.slots.get? slot).map Slot.gen).getD 0
  let fault := if d.engine < 16 then s.rd (Reg.ENG_FAULT d.engine) else 0
  let head := fit 4096 (bytesLE 4 0x504D5544 ++ [1, 0] ++ bytesLE 2 secs.length ++ bytesLE 4 (dumpLength full) ++
    bytesLE 4 (s.flt.dumpSeq + 1) ++ s.uid ++ bytesLE 2 s.deviceId ++ [d.cause, d.engine % 256] ++ bytesLE 4 fault ++
    bytesLE 8 d.detected ++ bytesLE 2 (dumpFlags d flash full) ++ [slot, 0] ++ bytesLE 4 gen ++ List.replicate 8 0 ++
    sectionTable 4096 secs)
  let body := head ++ secs.flatMap fun x => x.2.2
  if d.unsig then (s, body ++ List.replicate 132 0)
  else
    let (s, sig) := s.idSign body
    (s, body ++ sig)

/-- A slot of the DUMP partition, erased until it is first written. -/
def State.dumpSlot (s : State) (k : Nat) : DumpSlot := s.flt.dumpSlots.getD k ⟨true, [], 0⟩

/-- The slot a dump goes to: an erased one, else the one holding the older dump (R509). -/
def State.dumpTarget (s : State) : Nat :=
  if (s.dumpSlot 0).erased then 0 else if (s.dumpSlot 1).erased then 1
  else if (s.dumpSlot 0).seq ≤ (s.dumpSlot 1).seq then 0 else 1

/-- The destination a dump can go to now (R508): the host region, the flash, or none. -/
def State.dumpDest (s : State) (d : DumpJob) : Option Bool :=
  if d.region.isSome && s.hostUp then some false else if s.flashOpen then some true else none

/-- The dump is whole at its destination (R508, R509): the device resets with `FATAL`; a test completes instead. -/
def State.finishDump (s : State) (d : DumpJob) (flash : Bool) : State :=
  let full := !flash && d.region.any fun r => r.2.2
  let (s, bytes) := s.dumpBytes d flash full
  let s := { s with flt := { s.flt with dump := none, dumpSeq := s.flt.dumpSeq + 1 } }
  let s :=
    if flash then { s with flt := { s.flt with dumpSlots := s.flt.dumpSlots.set s.dumpTarget ⟨false, bytes, s.flt.dumpSeq⟩ } }.setF Reg.FLT_DUMP_STAT_FLASH_PENDING
    else s.hostWrite (d.region.elim 0 fun r => r.1) bytes
  let s := ((s.setF Reg.FLT_DUMP_STAT_DUMP_DONE).put Reg.FLT_DUMP_STAT_DEST (b2n flash)).put Reg.FLT_DUMP_STAT_UNSIGNED (b2n d.unsig)
  let s := (s.put Reg.FLT_DUMP_STAT_CAUSE d.cause).put Reg.FLT_DUMP_STAT_SEQ s.flt.dumpSeq
  let s := { s with flt := { s.flt with dumpNotice := some (d.cause, b2n flash, dumpFlags d flash full, dumpLength full) } }
  match d.test with
  | some h => s.dumpNotice.complete h 0xD5 St.done
  | none => s.restart 16 false

/-- DUMP_WRITTEN (R508, R509). -/
def execDumpWritten (s : State) : Host.Outcome State Fault Refusal :=
  .next (match s.flt.dump with
    | none => s
    | some d => match s.dumpDest d with
      | some flash => s.finishDump d flash
      | none => s)

/-- DUMP_RETRY (R509): every 100 ms, for up to 60 s, while neither destination can be written. -/
def execDumpRetry (s : State) : Host.Outcome State Fault Refusal :=
  .next (match s.flt.dump with
    | none => s
    | some d =>
      if !s.due (d.detected + (d.retries + 1) * 100000000) then s
      else match s.dumpDest d with
        | some flash => s.finishDump d flash
        | none =>
          if d.retries + 1 < 600 then { s with flt := { s.flt with dump := some { d with retries := d.retries + 1 } } }
          else match d.test with
            | some h => { s with flt := { s.flt with dump := none } }.complete h 0xD5 St.internal
            | none => s.dumpLost d.cause)

/-- DUMP_SLOT_ERASE (R509): E14 keeps one slot erased, erasing it once its dump has been fetched. -/
def execDumpSlotErase (slot : Nat) (s : State) : Host.Outcome State Fault Refusal :=
  .next (if slot < 2 ∧ s.flashOpen = true ∧ s.on Reg.FLT_DUMP_STAT_FLASH_PENDING = false ∧ (s.dumpSlot (1 - slot)).erased = false then
      { s with flt := { s.flt with dumpSlots := s.flt.dumpSlots.set slot ⟨true, [], 0⟩ } }
    else s)

/-- FLT_DUMP_TEST (R508, R511). -/
def execFltDumpTest (h : Hdr) (s : State) : Host.Outcome State Fault Refusal :=
  .next (s.acceptNow h 0xD5 (if s.flt.region.isSome && s.flt.dump.isNone then none else some St.notReady) fun s =>
    let job : DumpJob := ⟨7, 0xFF, s.now, some h, s.flt.region, s.dumpUnsigned 7 0xFF, 0⟩
    { s with flt := { s.flt with dump := some job } })

/-- FLT_DUMP_REGION (R511). -/
def execFltDumpRegion (h : Hdr) (fullMem clear : Bool) (addr len : Nat) (s : State) : Host.Outcome State Fault Refusal :=
  let fail := if clear then none
    else firstFail [(addr % 4096 == 0, St.misaligned), (decide ((if fullMem then 4194304 else 262144) ≤ len), St.range)]
  .next (s.acceptNow h 0xD0 fail fun s =>
    let r := if clear then none else some (addr, len, fullMem)
    ({ s with flt := { s.flt with region := r } }.put Reg.FLT_STAT_REGION_OK (b2n (!clear))).complete h 0xD0 St.done)

/-- The slot holding the newest dump. -/
def State.newestDump (s : State) : Nat := if (s.dumpSlot 0).seq < (s.dumpSlot 1).seq then 1 else 0

/-- FLT_DUMP_FETCH (R509, R511): outside the flash window a requested erase completes TEMP_FORBIDDEN after the copy. -/
def execFltDumpFetch (h : Hdr) (erase : Bool) (addr : Nat) (s : State) : Host.Outcome State Fault Refusal :=
  .next (s.acceptNow h 0xD1 (firstFail [(addr % 64 == 0, St.misaligned), (s.on Reg.FLT_DUMP_STAT_FLASH_PENDING, St.notReady),
      (s.hostUp, St.busError)]) fun s =>
    let k := s.newestDump
    let data := (s.dumpSlot k).data
    let s := (s.hostWrite addr data).put Reg.FLT_DUMP_STAT_FLASH_PENDING 0
    let ok := !erase || s.flashOpen
    let s := if erase && ok then { s with flt := { s.flt with dumpSlots := s.flt.dumpSlots.set k ⟨true, [], 0⟩ } } else s
    s.completeR h 0xD1 (if ok then St.done else St.tempForbidden) (bytesLE 4 data.length))

/-! ## Telemetry (R504) -/

/-- Transients of classes 0 to 6, corrected errors, and overruns, as counted so far. -/
def State.transients (s : State) : Nat := sumL ((List.range 7).map fun c => s.rd64 (Reg.FLT_TRANS c))

/-- TEL_SETUP (R504, R511). -/
def execTelSetup (h : Hdr) (k b addr : Nat) (s : State) : Host.Outcome State Fault Refusal :=
  let fail := if k = 0 then none
    else firstFail [(decide (4 ≤ k ∧ k ≤ 16 ∧ b < 256), St.range), (addr % 128 == 0, St.misaligned)]
  .next (s.acceptNow h 0xD2 fail fun s =>
    let t : Option Telemetry := if k = 0 then none
      else some ⟨k, if b = 0 then 256 else b, addr, 0, s.now, s.transients, s.rd64 (Reg.FLT_TRANS 7), s.rd64 Reg.DEV_TICK_OVR, 0xFFFF⟩
    ({ s with flt := { s.flt with telemetry := t } }.put Reg.FLT_STAT_TEL_ON (b2n (k != 0))).complete h 0xD2 St.done)

/-- Two bytes of a saturating count. -/
def sat2 (n : Nat) : List Nat := bytesLE 2 (min n 65535)

/-- The 128 bytes of a telemetry record (R504). -/
def State.telemetryBytes (s : State) (t : Telemetry) (o : TelemetryObs) : List Nat :=
  fit 128 (bytesLE 8 s.timeNs ++ bytesLE 4 t.seq ++
    [s.get Reg.PWR_STAT_STATE, s.get Reg.THM_STAT_LEVEL, s.profile, s.get Reg.TIM_STAT_CLK_STATE] ++
    bytesLE 2 (s.get Reg.THM_STAT_MAX_T) ++ [s.get Reg.THM_STAT_HOT_TILE, s.get Reg.PWR_AVS_VID] ++
    bytesLE 8 (s.rd64 Reg.BFM_REMOVED) ++ bytesLE 8 (s.rd64 Reg.LVE_MUTE) ++ bytesLE 2 (s.get Reg.BFM_CAP_CAP_LMHZ) ++
    bytesLE 2 t.margin ++ sat2 (s.transients - t.baseTrans) ++ sat2 (s.rd64 (Reg.FLT_TRANS 7) - t.baseCorr) ++
    sat2 (s.rd64 Reg.DEV_TICK_OVR - t.baseOvr) ++ [0, 0] ++
    (List.range 8).flatMap (fun n => bytesLE 2 (ux 16 (s.tileTemp n))) ++
    (List.range 8).flatMap (fun n => bytesLE 2 (ux 16 (o.tilePower.getD n (-32768)))) ++
    (List.range 8).map (fun n => min ((4 * s.get (Reg.LIN_MON_SNR n) + 5) / 10) 255) ++ (List.range 8).map (fun n => s.get (Reg.LIN_STAT_STATE n)) ++
    (List.range 16).map fun n => 100 - s.get (Reg.ENG_LOAD_IDLE n))

/-- TELEMETRY_RECORD (R504): every 10 ms while set up; a lasting failure of the write stops telemetry. While the link is down the
channel waits (R389). -/
def execTelemetryRecord (o : TelemetryObs) (s : State) : Host.Outcome State Fault Refusal :=
  .next (match s.flt.telemetry with
    | none => s
    | some t =>
      if !s.due (t.lastAt + 10000000) || !s.hostUp || decide (s.get Reg.PWR_STAT_STATE ≥ 2) then s
      else
        let s := s.when (s.due (t.lastAt + 15000001)) fun s => s.lateFlag Reg.DEV_BG_STAT_TELEM_LATE
        if !o.busOk then { s with flt := { s.flt with telemetry := none } }.put Reg.FLT_STAT_TEL_ON 0
        else
          let i := t.seq % 2 ^ t.k
          let s := s.hostWrite (t.addr + 128 * i) (s.telemetryBytes t o)
          let t' := { t with seq := (t.seq + 1) % 2 ^ 32, lastAt := s.now, baseTrans := s.transients,
                             baseCorr := s.rd64 (Reg.FLT_TRANS 7), baseOvr := s.rd64 Reg.DEV_TICK_OVR, margin := 0xFFFF }
          let s := { s with flt := { s.flt with telemetry := some t' } }
          s.when ((t.seq + 1) % t.block == 0) fun s => s.event 0x003E 0x1203 (bytesLE 4 i ++ bytesLE 4 t.seq))

/-! ## The event log (R506) -/

/-- LOG_READ (R506, R511): the newest records in time order. -/
def execLogRead (h : Hdr) (count addr : Nat) (s : State) : Host.Outcome State Fault Refusal :=
  .next (s.acceptNow h 0xD3 (firstFail [(decide (1 ≤ count ∧ count ≤ 65536), St.range), (addr % 32 == 0, St.misaligned),
      (s.hostUp, St.busError)]) fun s =>
    let l := (s.newest count).reverse
    (s.hostWrite addr (l.flatMap EventRec.logBytes)).completeR h 0xD3 St.done (bytesLE 4 l.length))

/-! ## Path tests (R503) -/

/-- A test command with no path left to test completes (R511). -/
def State.settleTest (s : State) (h : Hdr) (left failing : Nat) : State :=
  if left ≠ 0 then { s with flt := { s.flt with testing := s.flt.testing ++ [(h, left, failing)] } }
  else if failing = 0 then s.complete h 0xD4 St.done
  else s.completeR h 0xD4 St.donePartial (bytesLE 8 failing)

/-- PATH_RESTORE (R503, R511): removed paths of OFF tiles are tested; those held by the third-removal rule fail. -/
def execPathRestore (h : Hdr) (mask : Nat) (s : State) : Host.Outcome State Fault Refusal :=
  let paths := (maskList mask 64).filter s.removed
  .next (s.acceptNow h 0xD4 (firstFail [(decide (0 < mask ∧ mask < 2 ^ 64), St.range),
      (paths.all fun p => s.tileState (p / 8) == 0, St.notReady)]) fun s =>
    let failing := maskOf (paths.filter fun p => bit s.flt.heldPaths p)
    s.settleTest h (maskOf (paths.filter fun p => !bit s.flt.heldPaths p)) failing)

/-- The banks of a path after its store test: the spec does not say what they hold. -/
def State.testedBanks (s : State) (p : Nat) : State :=
  let b0 := fit 128 (Config.storeAfterTest s.free)
  let b1 := fit 128 (Config.storeAfterTest (s.free + 1))
  { s with free := s.free + 2, tx := { s.tx with banks := (s.tx.banks.set (2 * p) b0).set (2 * p + 1) b1 } }

/-- PATH_TEST_DONE (R503): a path that passes returns at the tile's next entry to STANDBY. -/
def execPathTestDone (path : Nat) (passed : Bool) (s : State) : Host.Outcome State Fault Refusal :=
  .next (match s.flt.testing.find? fun t => bit t.2.1 path with
    | none => s
    | some (h, left, failing) =>
      let s := { s with flt := { s.flt with testing := s.flt.testing.erase (h, left, failing) } }
      let s := s.testedBanks path
      let s := if passed then { s with flt := { s.flt with restored := putBit s.flt.restored path true } } else s
      s.settleTest h (putBit left path false) (if passed then failing else putBit failing path true))

/-! ## Scrubbing (R501) -/

/-- SCRUB_READ (R501): the next word of the 64 MiB. A corrected word is counted and written back unless it was written meanwhile; an
uncorrectable one goes on to its retry (ACCESS_RETRY). The scrubber pauses in POLDER. -/
def execScrubRead (r : ScrubResult) (late : Bool) (s : State) : Host.Outcome State Fault Refusal :=
  .next (if s.get Reg.PWR_STAT_STATE ≥ 2 ∨ s.running = false then s
    else
      let s := s.when late fun s => s.lateFlag Reg.DEV_BG_STAT_SCRUB_LATE
      let s := { s with flt := { s.flt with scrubPtr := (s.flt.scrubPtr + 8) % 0x4000000 } }
      match r with
      | .corrected _ => s.countClass 7
      | _ => s)

end Sys2Proof.Machine
end

