-- ==== Sys2Proof/Machine/Doorbell.lean ====
section
/-! DEFINITION. The ring interface as registers show it: doorbells (R355, R356, R550), enabling and disabling rings (R353, R354), MSI-X
(R373), the PCIe link and `PERST_N` (R434, R435, R551), and the sending of tunnel messages (R287, R288). -/
namespace Sys2Proof.Machine
open Sys2Proof

/-! ## Doorbells -/

/-- A doorbell write that is ignored (R355, R356, R550, R372). -/
def State.doorbellError (s : State) (r cause value : Nat) : State :=
  (s.setF Reg.HRG_STAT_DB_ERR).event 0x0008 0x0B02 ([r, cause, 0, 0] ++ bytesLE 4 value)

/-- Whether position `x` is a consistent new tail (R356). -/
def State.tailOk (s : State) (r x : Nat) : Bool :=
  let m := 2 * s.ringN r
  let h := s.ringPos r
  let t := (s.ring r).hostPos
  let ahead := (x + m - h % m) % m
  decide (ahead ≤ s.ringN r) && decide ((x + m - t % m) % m ≤ ahead)

/-- Whether position `x` lies between the old head and the write position (R356). -/
def State.headOk (s : State) (r x : Nat) : Bool :=
  let m := 2 * s.ringN r
  let old := (s.ring r).hostPos % m
  decide ((x + m - old) % m ≤ (s.ringPos r + m - old) % m)

/-- Leave STALLED: the next read of the ring comes at once and its count starts again (R363, R550). -/
def State.unstall (s : State) (r : Nat) : State :=
  let s := s.modRing r fun q => { q with retries := 0, retryAt := s.now }
  if s.get (Reg.HRG_RING_STAT_STATE r) = 3 then s.setRingState r 1 else s

/-- Show the state of every submission ring that names a completion ring. -/
def State.refreshNaming (s : State) (cq : Nat) : State :=
  s.each ((List.range 32).filter fun r => 32 + s.get (Reg.HRG_RING_CFG_CQ r) == cq) fun s r => s.refreshRing r

/-- Whether the slot at a ring's fetch position carries the phase expected for it (R352, R363). -/
def State.phaseMatches (s : State) (r : Nat) : Bool :=
  bit (nth (s.hostRead (s.ringSlot r 64) 2) 1) 0 == decide (s.ringPos r / s.ringN r % 2 = 1)

/-- A kick (R550): the read of the descriptor at the fetch position is due at once; with none outstanding, a descriptor whose phase
matches counts as outstanding. -/
def State.kickRing (s : State) (r : Nat) : State :=
  let fresh := decide ((s.ring r).hostPos % (2 * s.ringN r) = s.ringPos r) && s.hostUp && s.phaseMatches r
  let s := s.unstall r
  let s := if fresh then s.modRing r fun q => { q with hostPos := (s.ringPos r + 1) % (2 * s.ringN r) } else s
  s.refreshRing r

/-- A write to the doorbell register of a ring, with its size in bytes (R355, R356, R550). Before `READY` it is ignored. -/
def State.doorbellWrite (s : State) (r value size : Nat) : State :=
  let x := bits value 16 1 * s.ringN r + bits value 0 16
  if !s.on Reg.HRG_STAT_READY then s
  else if size ≠ 4 then s.doorbellError r 1 value
  else if !s.ringOn r then s.doorbellError r 3 value
  else if bit value 31 then (if r < 32 then s.kickRing r else s.doorbellError r 4 value)
  else if bits value 0 16 ≥ s.ringN r then s.doorbellError r 2 value
  else if r < 32 then
    if s.tailOk r x then ((s.modRing r fun q => { q with hostPos := x }).unstall r).refreshRing r
    else s.doorbellError r 0 value
  else if s.headOk r x then
    let s := s.modRing r fun q => { q with hostPos := x }
    if r < 48 then (s.flushCompletions).refreshNaming r else s.flushLost r
  else s.doorbellError r 0 value

/-- Whether the host's write to a ring's doorbell reaches it (R542). -/
def State.doorbellReached (s : State) (r : Nat) : Bool := s.mayWrite .pcie (Reg.HRG_DB (r / 8) (r % 8))

/-- DOORBELL (R355, R356): a write to the doorbell of a submission ring. -/
def execDoorbell (ring value size : Nat) (s : State) : Host.Outcome State Fault Refusal :=
  .next (if s.doorbellReached ring then s.doorbellWrite ring value size else s)

/-- KICK (R550): a doorbell write with `KICK` = 1. -/
def execKick (ring value size : Nat) (s : State) : Host.Outcome State Fault Refusal :=
  .next (if s.doorbellReached ring then s.doorbellWrite ring (putBit value 31 true) size else s)

/-- HEAD_DOORBELL (R356): a write to the doorbell of a completion or event ring. -/
def execHeadDoorbell (ring value size : Nat) (s : State) : Host.Outcome State Fault Refusal :=
  .next (if s.doorbellReached ring then s.doorbellWrite ring value size else s)

/-! ## Enabling and disabling rings -/

/-- A ring starts at index 0 with phase 1 on both sides (R353); an event ring first gets the records kept for it (R436). -/
def State.enableRing (s : State) (r : Nat) : State :=
  let s := s.put (Reg.HRG_RING_CFG_EN r) 1
  let n := s.ringN r
  let s := (s.setRingPos r n).modRing r fun q =>
    { q with hostPos := n, seq := 0, retries := 0, retryAt := s.now, unsignalled := 0, dropped := 0 }
  let s := s.put (Reg.HRG_RING_STAT_STATE r) 1
  if r < 32 then s.refreshRing r else if r < 48 then s.refreshNaming r else s.flushHeld

/-- Disable one ring (R354): a submission ring drains. -/
def State.disableRing (s : State) (r : Nat) : State :=
  let s := s.put (Reg.HRG_RING_CFG_EN r) 0
  if r < 32 then s.refreshRing r else (s.put (Reg.HRG_RING_STAT_STATE r) 0).refreshNaming r

/-- Whether an enabled submission ring names a completion ring (R354). -/
def State.cqNamed (s : State) (r : Nat) : Bool :=
  decide (32 ≤ r ∧ r < 48) && (List.range 32).any fun q => s.ringOn q && 32 + s.get (Reg.HRG_RING_CFG_CQ q) == r

/-- A write of a ring's `EN` alone (R353, R354). -/
def State.writeRingEn (s : State) (r : Nat) (en : Bool) : State :=
  let was := s.on (Reg.HRG_RING_CFG_EN r)
  if en && !was then (if s.on Reg.HRG_CTL_EN then s.enableRing r else s.setF Reg.HRG_STAT_CFG_ERR)
  else if !en && was then (if s.cqNamed r then s.setF Reg.HRG_STAT_CFG_ERR else s.disableRing r)
  else s

/-- RING_ENABLE (R353, R354). -/
def execRingEnable (rq : Requester) (ring : Nat) (en : Bool) (s : State) : Host.Outcome State Fault Refusal :=
  .next (if s.mayWrite rq (Reg.HRG_RING_CFG ring) && s.on Reg.HRG_STAT_READY then s.writeRingEn ring en else s)

/-- The tags of a submission ring whose completion records a reset of the rings discards: records held, then commands that run. -/
def State.discarded (s : State) (r : Nat) : List Nat :=
  (s.host.heldCompletions.filter fun e => e.2.ring == r).map (fun e => e.2.tag) ++ (s.ring r).running

/-- Every ring is disabled at once and the completions not yet written are discarded, with one record 0x0B05 for each submission ring
that loses some: cause 0 `PERST_N`, 1 `HRG_CTL.EN` (R354, R372, R435). -/
def State.resetRings (s : State) (cause : Nat) : State :=
  let gone := ((List.range 32).map fun r => (r, s.discarded r)).filter fun e => !e.2.isEmpty
  let s := s.put Reg.HRG_CTL_EN 0
  let s := { s with host := { s.host with heldCompletions := [] } }
  let s := s.each (List.range 64) fun s r =>
    let s := s.put (Reg.HRG_RING_CFG_EN r) 0
    s.modRing r fun q => { q with reserved := 0, retries := 0, running := [], lost := q.lost ++ q.running }
  let s := s.each (List.range 64) fun s r => if r < 32 then s.setRingState r 0 else s.put (Reg.HRG_RING_STAT_STATE r) 0
  let t := s.now
  s.each gone fun s e =>
    let l := e.2
    s.event 0x0008 0x0B05 ([e.1, cause] ++ bytesLE 2 (min l.length 65535) ++ bytesLE 2 (l.headD 0) ++ bytesLE 2 (l.getLastD 0) ++
      bytesLE 8 (t % 2 ^ 64))

/-- RINGS_DISABLE (R354): a write of 0 to `HRG_CTL.EN`. -/
def execRingsDisable (rq : Requester) (s : State) : Host.Outcome State Fault Refusal :=
  .next (if s.mayWrite rq Reg.HRG_CTL && s.on Reg.HRG_STAT_READY then s.resetRings 1 else s)

/-! ## MSI-X (R373): the table of PCI Express at 0x08_4000, 16 bytes a vector: address, data, and bit 0 of the last word the mask -/

/-- Offset of a vector's table entry. -/
def msixEntry (v : Nat) : Nat := 0x084000 + 16 * v

/-- The pending-bit array. -/
def msixPba : Nat := 0x085000

/-- Send a vector's message: a write of its data to its address, which covers every ring of the vector. -/
def State.msixSend (s : State) (v : Nat) : State :=
  let s := s.hostWrite (s.rd64 (msixEntry v)) (bytesLE 4 (s.rd (msixEntry v + 8)))
  s.each ((List.range' 32 32).filter fun r => s.get (Reg.HRG_RING_CFG_VECTOR r) == v) fun s r =>
    s.modRing r fun q => { q with unsignalled := 0 }

/-- Signal a vector: a masked vector sets its pending bit instead. -/
def State.msixSignal (s : State) (v : Nat) : State :=
  if bit (s.rd (msixEntry v + 12)) 0 then s.putBit64 msixPba v true else s.msixSend v

/-- Whether a ring has unsignalled records of a vector. -/
def State.unsignalled (s : State) (v r : Nat) : Bool :=
  s.get (Reg.HRG_RING_CFG_VECTOR r) == v && s.on (Reg.HRG_RING_CFG_IRQ_EN r) && s.ringOn r && decide ((s.ring r).unsignalled > 0)

/-- Whether a ring's records call for its vector's message now (R373). -/
def State.msixDue (s : State) (v r : Nat) : Bool :=
  let q := s.ring r
  s.unsignalled v r &&
    (decide (q.unsignalled ≥ s.get (Reg.HRG_RING_COAL_COAL_COUNT r)) ||
      s.due (q.unsignalledAt + 1000 * s.get (Reg.HRG_RING_COAL_COAL_US r)))

/-- MSIX_MESSAGE (R373): the coalescing count or time of a ring of the vector is reached. -/
def execMsixMessage (vector : Nat) (s : State) : Host.Outcome State Fault Refusal :=
  .next (if s.hostUp && (List.range' 32 32).any (s.msixDue vector) then s.msixSignal vector else s)

/-- A vector is unmasked: a pending message goes out (R373). -/
def State.msixUnmask (s : State) (v : Nat) : State :=
  let s := s.wr (msixEntry v + 12) (putBit (s.rd (msixEntry v + 12)) 0 false)
  if s.bit64 msixPba v && s.hostUp then (s.putBit64 msixPba v false).msixSend v else s

/-- MSIX_UNMASK (R373). -/
def execMsixUnmask (vector : Nat) (s : State) : Host.Outcome State Fault Refusal :=
  .next (if s.reaches .pcie (msixEntry vector) && decide (vector < 64) then s.msixUnmask vector else s)

/-! ## The PCIe link and `PERST_N` -/

/-- Completions, then events, held while the host could not be written go out, and one message for each vector that has records
unsignalled (R551). -/
def State.hostReturns (s : State) : State :=
  let s := (s.flushCompletions).flushHeld
  s.each ((List.range 64).filter fun v => (List.range' 32 32).any (s.unsignalled v)) State.msixSignal

/-- LINK_DOWN (R551, R16): the PCIe link is lost with `PERST_N` high; the record R16 asks for has no stated code. -/
def execLinkDown (s : State) : Host.Outcome State Fault Refusal :=
  let was := s.hostUp
  let s := { s with host := { s.host with linkUp := false } }
  .next (s.when (was && !s.hostUp) fun s => s.event 0x0008 (Config.unnamedEvent 3) [])

/-- LINK_UP (R551). -/
def execLinkUp (s : State) : Host.Outcome State Fault Refusal :=
  let s := { s with host := { s.host with linkUp := true } }
  .next (if s.hostUp then s.hostReturns else s)

/-- CONFIG_REQUEST (R434): the endpoint answers while its link is up, with Configuration Request Retry Status until `READY` = 1. -/
def execConfigRequest (s : State) : Host.Outcome State Fault Refusal :=
  .next { s with host := { s.host with
    cfgAnswer := if !s.host.perstHigh || !s.host.linkUp || !s.running then 0 else if s.on Reg.HRG_STAT_READY then 2 else 1 } }

/-- PERST_FALL (R435): the endpoint and the ring interface are reset. `PERST_N` does not touch the ring interface of a device whose
host path is TUNNEL. -/
def execPerstFall (s : State) : Host.Outcome State Fault Refusal :=
  let s := { s with host := { s.host with perstHigh := false, shadows := s.host.shadows.del 0 } }
  .next (if s.boot.tunnel || !s.running then s
    else
      let s := (s.setF Reg.DEV_RESET_CAUSE_PERST).put Reg.HRG_STAT_READY 0
      let s := s.each (List.range 64) fun s v =>
        ((s.wr64 (msixEntry v) 0).wr (msixEntry v + 8) 0).wr (msixEntry v + 12) 1
      (s.wr64 msixPba 0).resetRings 0)

/-- PERST_RISE (R434, R435): the endpoint answers again and `READY` returns. -/
def execPerstRise (s : State) : Host.Outcome State Fault Refusal :=
  let s := { s with host := { s.host with perstHigh := true } }
  .next (if s.boot.tunnel || !s.inService then s else s.setF Reg.HRG_STAT_READY)

/-! ## Sending through the tunnel (R287 to R289) -/

/-- A tunnel direction pair before its first message. -/
def TunnelPeer.initial : TunnelPeer := ⟨0, 0, [], 1, true⟩

/-- A direction pair: at the lead by the member's position, at a member the lead under 8. -/
def State.peer (s : State) (k : Nat) : TunnelPeer := s.cul.peers.getD k TunnelPeer.initial

/-- Change a direction pair. -/
def State.modPeer (s : State) (k : Nat) (f : TunnelPeer → TunnelPeer) : State :=
  { s with cul := { s.cul with peers := s.cul.peers.set k (f (s.peer k)) } }

/-- The link toward a peer (R289): at the lead, the link with fewer hops to the member, NEXT on a tie, or the other way round while that
link is not UP; at a member, the link by which the lead was last heard while it is UP. -/
def State.tunnelRoute (s : State) (k : Nat) : Nat :=
  let n := s.get Reg.CUL_CFG_MEMBERS_M1 + 1
  let own := s.get Reg.CUL_CFG_POSITION
  let first := if k ≥ 8 then (s.peer k).route else if (k + n - own) % n ≤ (own + n - k) % n then 1 else 0
  if s.culState first ≠ 2 ∧ s.culState (1 - first) = 2 then 1 - first else first

/-- Take the link toward a peer; a member's traffic that moves to the other way round is recorded (R289, R291). -/
def State.setRoute (s : State) (k : Nat) : State :=
  let new := s.tunnelRoute k
  let p := s.peer k
  let s := s.modPeer k fun p => { p with route := new }
  s.when (p.route != new && p.nextSeq != 0 && decide (k < 8)) fun s => s.event 0x0034 0x0804 [k, 2]

/-- Send a message to a peer: it takes the next sequence number and is kept until it is acknowledged (R287). -/
def State.tunnelSend (s : State) (k : Nat) (m : TunnelMsg) : State :=
  let s := s.setRoute k
  let p := s.peer k
  let m := { m with seq := p.nextSeq }
  let s := s.modPeer k fun p => { p with nextSeq := (p.nextSeq + 1) % 65536, unacked := p.unacked ++ [(m, s.now)] }
  s.culSend p.route 3 (.tunnel k m)

/-- The member a doorbell window d of the lead reaches (R288). -/
def State.windowMember (s : State) (d : Nat) : Nat := (s.get Reg.CUL_CFG_POSITION + d) % 8

/-- A host write to a doorbell window of the lead passes as a doorbell message; a window without a tunnelled member ignores it
(R288). -/
def State.tunnelDoorbell (s : State) (d off value size : Nat) : State :=
  let k := s.windowMember d
  if s.on Reg.CUL_CFG_LEAD && !s.cul.standDown && decide (1 ≤ d ∧ d < 8) && bit s.cul.tunnelled k then
    s.tunnelSend k ⟨4, 0, 0, 0, off, size, bytesLE (min size 4) value⟩
  else s

/-- TUNNEL_DOORBELL (R288). -/
def execTunnelDoorbell (window off value size : Nat) (s : State) : Host.Outcome State Fault Refusal :=
  .next (if s.mayWrite .pcie (0x340000 + 0x8000 * window) then s.tunnelDoorbell window off value size else s)

end Sys2Proof.Machine
end

