-- ==== Sys2Proof/Machine/Time.lean ====
section
/-! DEFINITION. The clock and the constellation (R293 to R320): PTP, PPS, overlay time transfer, election, epoch, over-the-air
calibration; the heartbeats, alignment periods and link-management frames that feed them; and the set-state changes that follow
(R217). -/
namespace Sys2Proof.Machine
open Sys2Proof

/-- A write of the air-time offset (R295): accepted only while every tile is OFF and no cooperative set is enabled. -/
def State.setAirOfs (s : State) (value : Nat) : State :=
  if s.radioQuiet then s.wr64 Reg.TIM_AIR_OFS (value % 2 ^ 64) else s.setF Reg.TIM_STAT_CFG_ERR

/-- AIR_OFS_WRITE (R295). -/
def execAirOfsWrite (rq : Requester) (value : Nat) (s : State) : Host.Outcome State Fault Refusal :=
  .next (if s.mayWrite rq Reg.TIM_AIR_OFS then s.setAirOfs value else s)

/-! ## PTP (R296, R297) -/

/-- Device time in units of 2^-16 ns. -/
def State.time16 (s : State) : Nat := s.now * 2 ^ 16 + s.frac

/-- Whether a PTP message of a domain is for the device. -/
def State.ptpTakes (s : State) (port domain : Nat) : Bool := s.ptpOn port && domain == s.get Reg.TIM_CTL_PTP_DOMAIN

/-- Whether a PTP source is present (R296): Announce within 3 intervals, and a Sync within 1 s. -/
def State.ptpHeard (s : State) (k : Nat) : Bool :=
  (s.ptp k).announce.isSome && decide (s.now < (s.ptp k).announceAt + 375000000) &&
    (s.ptp k).syncAt != 0 && decide (s.now < (s.ptp k).syncAt + 1000000000)

/-- Judge a port's source again, and what follows from it (R303). -/
def State.judgePtp (s : State) (k : Nat) : State :=
  (s.modPtp k fun p => { p with validSince := if s.ptpHeard k then some (p.validSince.getD s.now) else none }).elect

/-- PTP_ANNOUNCE (R296, R303). -/
def execPtpAnnounce (port : Nat) (a : AnnounceIn) (s : State) : Host.Outcome State Fault Refusal :=
  .next (if !s.ptpTakes port a.domain then s
    else (s.modPtp port fun p => { p with announce := some a, announceAt := s.now }).judgePtp port)

/-- The offset of a complete Sync reaches the servo where its port is the one followed; with SyncE locked it gives phase only
(R296, R298, R303). Offsets are in 2^-16 ns, and reach the servo in ps. -/
def State.ptpMeasure (s : State) (k : Nat) : State :=
  match (s.ptp k).t1 with
  | none => s
  | some t1 =>
    let o : Int := ((s.ptp k).t2 : Int) - t1 - (s.ptp k).delay
    let s := s.modPtp k fun p => { p with offset := o }
    if s.bestPtp = some k then s.measure 1 (divRound (o * 1000) (2 ^ 16)) else s

/-- PTP_SYNC (R296, R297): a one-step Sync is complete; a two-step Sync waits for its Follow_Up. -/
def execPtpSync (port domain seq : Nat) (twoStep : Bool) (t1 corr : Nat) (s : State) : Host.Outcome State Fault Refusal :=
  .next (if !s.ptpTakes port domain then s
    else
      let s := s.modPtp port fun p =>
        { p with syncAt := s.now, syncSeq := seq, t1 := if twoStep then none else some t1, t2 := s.time16 - corr }
      (s.judgePtp port).ptpMeasure port)

/-- PTP_FOLLOW_UP (R296). -/
def execPtpFollowUp (port domain seq t1 corr : Nat) (s : State) : Host.Outcome State Fault Refusal :=
  .next (if !s.ptpTakes port domain || (s.ptp port).syncSeq != seq || (s.ptp port).t1.isSome then s
    else (s.modPtp port fun p => { p with t1 := some (t1 + corr) }).ptpMeasure port)

/-- DELAY_REQ (R296): at 16 per second while a source is heard. -/
def execDelayReq (port : Nat) (s : State) : Host.Outcome State Fault Refusal :=
  .next (if !s.ptpOn port || (s.ptp port).validSince.isNone || !s.due ((s.ptp port).reqAt + 62500000) then s
    else s.modPtp port fun p => { p with reqSeq := (p.reqSeq + 1) % 65536, t3 := some s.time16, reqAt := s.now })

/-- DELAY_RESP (R296): the mean path delay of the request outstanding. -/
def execDelayResp (port domain seq t4 corr : Nat) (s : State) : Host.Outcome State Fault Refusal :=
  .next (match (s.ptp port).t3, (s.ptp port).t1 with
    | some t3, some t1 =>
      if !s.ptpTakes port domain || (s.ptp port).reqSeq != seq then s
      else
        let d : Int := (((s.ptp port).t2 : Int) - t1 + ((t4 : Int) - corr - t3)) / 2
        s.modPtp port fun p => { p with t3 := none, delay := d }
    | _, _ => s)

/-- PTP_SOURCE_LOST (R296, R302, R317). -/
def execPtpSourceLost (port : Nat) (s : State) : Host.Outcome State Fault Refusal :=
  .next (if (s.ptp port).validSince.isSome && !s.ptpHeard port then
      ((s.modPtp port fun p => { p with announce := none, t1 := none, t3 := none }).judgePtp port)
    else s)

/-! ## PPS (R299) -/

/-- PPS_IN_EDGE (R299). -/
def execPpsInEdge (s : State) : Host.Outcome State Fault Refusal :=
  let ps : Int := (s.now : Int) * 1000 + (s.frac * 1000 / 65536 : Nat) - (s.get Reg.TIM_PPS_CFG_IN_DLY * 100 : Nat)
  let into := (ps % 10 ^ 12).toNat
  .next (if !s.on Reg.TIM_CTL_PPS_EN then s
    else if s.get Reg.TIM_STAT_CLK_STATE = 2 ∧ 10 ^ 11 < into ∧ into < 9 * 10 ^ 11 then s.setF Reg.TIM_STAT_PPS_ERR
    else
      let tod := s.rd64 Reg.TIM_PPS_TOD % 2 ^ 48
      let s := s.wr64 Reg.TIM_PPS_TOD ((tod + 1) % 2 ^ 48)
      let s := { s with tim := { s.tim with ppsAt := some s.now, ppsSince := some (s.tim.ppsSince.getD s.now) } }
      s.elect.measure 2 (ps - (tod : Int) * 10 ^ 12))

/-- PPS_LOST (R299, R302). -/
def execPpsLost (s : State) : Host.Outcome State Fault Refusal :=
  .next (match s.tim.ppsAt with
    | some t =>
      if s.due (t + 2000000000) then { s with tim := { s.tim with ppsAt := none, ppsSince := none } }.elect else s
    | none => s)

/-- PPS_OUT (R299): the output rises at a whole TAI second and falls after `OUT_WIDTH` ms. -/
def execPpsOut (rise : Bool) (s : State) : Host.Outcome State Fault Refusal :=
  .next (if rise then
      if s.on Reg.TIM_PPS_CFG_OUT_EN && s.now % 10 ^ 9 == 0 then
        { s with tim := { s.tim with ppsHigh := true, ppsUntil := s.now + s.get Reg.TIM_PPS_CFG_OUT_WIDTH * 1000000 } }
      else s
    else if s.tim.ppsHigh && (s.due s.tim.ppsUntil || !s.on Reg.TIM_PPS_CFG_OUT_EN) then
      { s with tim := { s.tim with ppsHigh := false } }
    else s)

/-- CLOCK_LOCKED (R302). -/
def execClockLocked (s : State) : Host.Outcome State Fault Refusal :=
  .next (match s.tim.within with
    | some t =>
      if s.get Reg.TIM_STAT_CLK_STATE = 1 ∧ s.due (t + (lockLimit (s.get Reg.TIM_STAT_SOURCE)).2) = true then s.clockTo 2 else s
    | none => s)

/-! ## Transfer between neighbours (R304 to R306) -/

/-- The 24 bytes of a time-transfer cell or frame (R304, R305): the own key while the device advertises it (R313), the newest marks
of a lane. -/
def State.timeBytes (s : State) (tx rx : List (Nat × Nat)) : List Nat :=
  let key := s.tim.key
  let flags := b2n (s.on Reg.TIM_STAT_EXT_TIME) + 2 * b2n (s.get Reg.TIM_STAT_CLK_STATE == 3) +
    4 * b2n (s.get Reg.TIM_STAT_CLK_STATE == 2)
  let t := tx.headD (0, 0)
  let r := rx.headD (0, 0)
  [flags, min 255 key.steps] ++ bytesBE 2 s.deviceId ++ bytesBE 2 (key.id + 32768 * b2n key.ext) ++ bytesBE 2 key.seq ++
    bytesBE 2 t.1 ++ bytesBE 6 t.2 ++ bytesBE 2 r.1 ++ bytesBE 6 r.2

/-- TIME_CELL_SEND (R304, R248, R249): every 8 periods a cell goes into E13's queue of each lane in UP; on a STRICT port only once
MKA is up. The queue holds 16. -/
def execTimeCellSend (port : Nat) (s : State) : Host.Outcome State Fault Refusal :=
  .next (if !s.overlayOn || (s.strict port && !s.mkaUp port) then s
    else s.each ((s.upLanes port).filter fun n => (s.lane n).period % 8 == 0 && decide ((s.lane n).tx13.length < 16)) fun s n =>
      s.modLane n fun l => { l with tx13 := l.tx13 ++ [1 :: s.timeBytes l.txMarks l.rxMarks] })

/-- The median of a list of integers. -/
def median (l : List Int) : Int := (sortBy id l).getD (l.length / 2) 0

/-- One sample of θ and of the delay of a port (R306): rejected when more than 1 ns from the running median. -/
def State.thetaSample (s : State) (port : Nat) (a1 a4 b2 b3 : Nat) : State :=
  let d := fun (x y : Nat) => sx 48 (ux 48 ((x : Int) - y))
  let asym := sx 24 (s.get (Reg.TIM_PORT_CFG_ASYM_PS port))
  let th := divRound (d b2 a1 - d a4 b3 + asym) 2
  let dl := divRound (d a4 a1 - d b3 b2) 2
  let p := s.timePort port
  if p.thetas ≠ [] ∧ (th - median p.thetas).natAbs > 1000 then s
  else s.modTimePort port fun p => { p with thetas := th :: p.thetas, delays := dl :: p.delays }

/-- What a time-transfer cell or frame brings a joined port (R304 to R306, R310, R312): duplicate IDs, a sample, the neighbour's
key. -/
def State.timeTransfer (s : State) (port epoch : Nat) (b : List Nat) (tx rx : List (Nat × Nat)) : State :=
  let sender := natBE (slice b 2 2) % 2 ^ 14
  let root := natBE (slice b 4 2)
  let seq := natBE (slice b 6 2)
  let id := root % 2 ^ 14
  if !(s.timePort port).joined then s
  else if sender = s.deviceId then s.refusePort port
  else if id = s.deviceId ∧ s.on Reg.TIM_STAT_ROOT = true ∧ seqAhead seq s.tim.ownSeq > 0 then
    { s with tim := { s.tim with stoodDown := true } }.refusePort port
  else
    let mark := fun (l : List (Nat × Nat)) (p : Nat) => (l.find? fun e => e.1 == p).map Prod.snd
    let s := match mark tx (natBE (slice b 16 2)), mark rx (natBE (slice b 8 2)) with
      | some a1, some a4 => s.thetaSample port a1 a4 (natBE (slice b 18 6)) (natBE (slice b 10 6))
      | _, _ => s
    let key : RootKey := ⟨epoch, bit root 15, id, seq, nth b 1⟩
    let p := s.timePort port
    let advanced := match p.key with
      | some old => !keySame key old || decide (seqAhead seq old.seq > 0)
      | none => true
    (s.modTimePort port fun p =>
      { p with key := some key, sender := sender, advancedAt := if advanced then s.now else p.advancedAt }).elect

/-- TIME_TRANSFER_CELL (R304, R306, R309, R310, R312): the front cell of E13's receive queue of a lane. -/
def execTimeTransferCell (lane : Nat) (s : State) : Host.Outcome State Fault Refusal :=
  .next (match (s.lane lane).rx13 with
    | [] => s
    | c :: t =>
      let l := s.lane lane
      let s := s.modLane lane fun l => { l with rx13 := t }
      if nth c 0 ≠ 1 ∨ !s.overlayOn = true then s
      else s.timeTransfer (portOf lane) (s.port (portOf lane)).epoch (slice c 2 24) l.txMarks l.rxMarks)

/-- THETA_UPDATE (R306, R320): the mean of 1 ms of samples, ALIGNED within 50 ps, and the servo where the port leads to the
parent. -/
def execThetaUpdate (port : Nat) (s : State) : Host.Outcome State Fault Refusal :=
  let p := s.timePort port
  .next (if !p.joined || p.thetas.isEmpty then s
    else
      let th := divRound (sumZ p.thetas) p.thetas.length
      let dl := divRound (sumZ p.delays) (10 * p.delays.length)
      let was := s.get (Reg.TIM_PORT_STAT_XFER port) == 2
      let now := decide (th.natAbs < 50)
      let s := s.modTimePort port fun p => { p with theta := some th, thetas := [], delays := [] }
      let s := (s.put (Reg.TIM_PORT_OFFSET_THETA port) (ux 32 (satS 32 th))).put (Reg.TIM_PORT_DELAY_DELAY port)
        (min dl.toNat (2 ^ 32 - 1))
      let s := s.put (Reg.TIM_PORT_STAT_XFER port) (if now then 2 else 1)
      let s := s.when (was != now) fun s => s.event 0x0003 0x0903 ([port, if now then 3 else 4] ++ bytesLE 2 p.sender)
      if s.tim.parent = some port then s.measure 3 (-th) else s)

/-! ## Roots (R312, R313) -/

/-- ROOT_SEQ_ADVANCE (R312): the root advances its sequence every 1 ms. -/
def execRootSeqAdvance (s : State) : Host.Outcome State Fault Refusal :=
  .next (if s.on Reg.TIM_STAT_ROOT && s.due (s.tim.rootAt + 1000000) then
      let n := (s.tim.ownSeq + 1) % 65536
      { s with tim := { s.tim with ownSeq := n, key := { s.tim.key with seq := n }, rootAt := s.now } }
    else s)

/-- ROOT_LOST (R313): no advance of the root's sequence on any port for 10 ms. -/
def execRootLost (s : State) : Host.Outcome State Fault Refusal :=
  .next (if s.tim.parent.isSome && s.due (s.tim.rootAt + 10000000) then
      let s := s.when (s.get Reg.TIM_STAT_CLK_STATE ≠ 0) fun s => s.clockTo 3
      let ports := s.tim.ports.map fun e =>
        (e.1, if s.due (e.2.advancedAt + 10000000) then { e.2 with key := none } else e.2)
      { s with tim := { s.tim with ownUntil := some (s.now + 20000000), ports := ports } }.elect
    else s)

/-- OWN_KEY_WINDOW_END (R313): after 20 ms of its own key the device takes the best it hears. -/
def execOwnKeyWindowEnd (s : State) : Host.Outcome State Fault Refusal :=
  .next (match s.tim.ownUntil with
    | some t =>
      if s.due t then
        let ports := s.tim.ports.map fun e =>
          (e.1, if s.due (e.2.advancedAt + 10000000) then { e.2 with key := none } else e.2)
        { s with tim := { s.tim with ownUntil := none, ports := ports } }.elect
      else s
    | none => s)

/-- EXT_DISAGREE (R303): external time minus overlay time, in ps, while the device follows the overlay. -/
def execExtDisagree (diff : Int) (s : State) : Host.Outcome State Fault Refusal :=
  .next (if s.get Reg.TIM_STAT_SOURCE ≠ 3 ∨ s.extTime = false ∨ diff.natAbs ≤ 100000 then
      { s with tim := { s.tim with disagreeSince := none } }
    else
      match s.tim.disagreeSince with
      | none => { s with tim := { s.tim with disagreeSince := some s.now } }
      | some t =>
        if s.due (t + 10000000000) && !s.on Reg.TIM_STAT_EXT_DISAGREE then
          (s.setF Reg.TIM_STAT_EXT_DISAGREE).event 0x0003 0x0906 (bytesLE 8 (ux 64 diff))
        else s)

/-! ## Commands (R301, R314, R319) -/

/-- TIME_STEP (R301, R319). -/
def execTimeStep (h : Hdr) (sec ns : Nat) (s : State) : Host.Outcome State Fault Refusal :=
  .next (s.acceptNow h 0x80 (rangeUnless [decide (sec < 2 ^ 48 ∧ ns < 10 ^ 9), s.radioQuiet]) fun s =>
    { s with now := sec * 10 ^ 9 + ns, frac := 0 }.complete h 0x80 St.done)

/-- TIME_EPOCH (R314, R319). -/
def execTimeEpoch (h : Hdr) (epoch : Nat) (s : State) : Host.Outcome State Fault Refusal :=
  .next (s.acceptNow h 0x81 (rangeUnless [decide (s.get Reg.TIM_EPOCH_EPOCH < epoch ∧ epoch < 2 ^ 32)]) fun s =>
    (s.setEpoch epoch 0xFF).complete h 0x81 St.done)

/-- The checks of `OTA_CAL` on its fields (R307, R319). -/
def otaFields (c : OtaCmd) : Option Nat :=
  firstFail [(decide (c.role ≤ 1 ∧ c.tile < 8 ∧ c.carrier < 8 ∧ c.partner < 2 ^ 14 ∧ c.txBeam < 4096 ∧ c.rxBeam < 4096), St.range),
    (c.addr % 64 == 0, St.misaligned)]

/-- OTA_CAL (R307, R319). -/
def execOtaCal (h : Hdr) (c : OtaCmd) (s : State) : Host.Outcome State Fault Refusal :=
  .next (s.acceptTimed h 0x82 (.otaCal c) (otaFields c) true)

/-- The checks of `OTA_CAL` at tick e − 2 (R307): symbols s − 1 to s + 3 are F in the tile's pattern, and the tile has the carrier. -/
def otaCfg (s : State) (e : Int) (c : OtaCmd) : Option Nat :=
  rangeUnless [(List.range 5).all fun i => s.codeOf c.tile (e - 1 + i) == 0, (s.txCarrier c.tile c.carrier).isSome, s.tim.ota.isNone]

/-- The effect of `OTA_CAL` at its tick: the exchange runs over the next symbols (R307). -/
def State.applyOtaCal (s : State) (h : Hdr) (c : OtaCmd) : State :=
  { s with tim := { s.tim with ota := some ⟨h, c, s.absTick⟩ } }

/-- The action a running calibration gives a tile in a tick (R307): 1 transmit, 2 receive; none otherwise. -/
def State.otaAction (s : State) (n : Nat) (abs : Int) : Option Nat :=
  match s.tim.ota with
  | some j =>
    if j.cmd.tile ≠ n then none
    else if abs = j.symbol then some (if j.cmd.role = 0 then 1 else 2)
    else if abs = j.symbol + 2 then some (if j.cmd.role = 0 then 2 else 1)
    else none
  | none => none

/-- What a tile does in a tick: its pattern's code (R181), or the symbol of a calibration (R307). -/
def State.actionOf (s : State) (n : Nat) (abs : Int) : Nat := (s.otaAction n abs).getD (s.codeOf n abs)

/-- The 544 bytes of a calibration record (R307). -/
def otaRecord (c : OtaCmd) (o : OtaObs) : List Nat :=
  let head := bytesLE 2 c.partner ++ [c.role, b2n o.valid + 2 * b2n o.tainted, 0, 0, 0, 0] ++ bytesLE 6 o.send ++ [0, 0] ++
    bytesLE 6 o.arrival ++ [0, 0] ++ bytesLE 2 (ux 16 o.snr) ++ [0, 0, 0, 0, 0, 0]
  let one := fun (p : Int × Int × Int) =>
    bytesLE 2 (ux 16 p.1) ++ bytesLE 2 (ux 16 p.2.1) ++ bytesLE 2 (ux 16 p.2.2) ++ [0, 0]
  fit 544 (head ++ o.paths.flatMap one)

/-- OTA_CAL_RESULT (R307, R320): BLANKED with the reason of R177, or the record and its event. -/
def execOtaCalResult (o : OtaObs) (s : State) : Host.Outcome State Fault Refusal :=
  .next (match s.tim.ota with
    | none => s
    | some j =>
      let s := { s with tim := { s.tim with ota := none } }
      match o.blanked with
      | some r => s.completeX j.hdr 0x82 St.blanked r [] false
      | none =>
        let s := s.hostWrite j.cmd.addr (otaRecord j.cmd o)
        let s := s.event 0x0003 0x0905 (bytesLE 2 j.cmd.partner ++ [j.cmd.role, b2n o.valid + 2 * b2n o.tainted] ++
          bytesLE 6 o.send ++ bytesLE 6 o.arrival)
        s.complete j.hdr 0x82 St.done)

/-! ## Heartbeats and Culvert time (R251, R305, R309, R310, R314) -/

/-- HEARTBEAT (R251, R309, R310, R314): the front cell of E14's receive queue of a lane. -/
def execHeartbeat (lane : Nat) (s : State) : Host.Outcome State Fault Refusal :=
  let k := portOf lane
  .next (match s.popCell lane 4 with
    | none => s
    | some (c, s) =>
      let b := slice c 2 24
      let id := natBE (slice b 0 2) % 2 ^ 14
      if id = s.deviceId && !s.on Reg.TIM_ROOT_NO_ID then s.refusePort k
      else
        let was := (s.port k).reachable
        let s := s.modPort k fun p =>
          { p with lastBeat := s.now, reachable := true, neighbour := id, epoch := natBE (slice b 2 4), flags := nth b 6 }
        let s := s.when (!was) fun s => s.event 0x0030 0x0705 ([4 * k, 6] ++ bytesLE 2 id)
        let s := s.modTimePort k fun p => { p with refused := false }
        let may := s.portUp k && (!s.strict k || s.mkaUp k) && !s.on Reg.TIM_ROOT_NO_ID
        let s := if may then s.joinPort k true id else s
        s.seeEpoch (natBE (slice b 2 4)) k)

/-- ALIGN_PERIOD (R272, R275, R276, R278, R282, R283, R305): one period of 16,384 blocks of a link. -/
def execAlignPeriod (link : Nat) (marks : List Nat) (s : State) : Host.Outcome State Fault Refusal :=
  .next (if !(culLanesOf link).any s.culMay then s
    else
      let s := (s.alignLink link marks).culReport link
      let n := ((culLanesOf link).filter s.culAwake).headD (6 * link)
      let l := s.culLane n
      let s :=
        if s.culState link = 2 && s.overlayOn then
          let bytes := s.timeBytes l.txMarks l.rxMarks ++ bytesBE 4 (s.get Reg.TIM_EPOCH_EPOCH)
          s.culSend link 0 (.time bytes)
        else s
      s.culDrain link)

/-- LINK_MGMT_FRAME (R276, R278, R305, R311, R314): the partner's masks, or its time transfer with its epoch, which a mismatched
link ignores. -/
def execLinkMgmtFrame (link : Nat) (m : LinkMgmt) (s : State) : Host.Outcome State Fault Refusal :=
  .next (if s.culState link = 0 then s
    else
      match m with
      | .masks lock aligned => s.peerMasks link (lock % 64) (aligned % 64)
      | .time bytes =>
        if s.culState link ≠ 2 ∨ s.overlayOn = false then s
        else
          let epoch := natBE (slice bytes 24 4)
          let s := s.seeEpoch epoch (2 + link)
          let n := ((culLanesOf link).filter fun n => s.culRx n == 3).headD (6 * link)
          let l := s.culLane n
          s.timeTransfer (2 + link) epoch (bytes.take 24) l.txMarks l.rxMarks)

/-! ## Set states (R217, R315, R316) -/

/-- Whether the chain neighbour behind a set's port is reachable: a line port's by R251, a Culvert link's while it is UP; 0xFF names
none. -/
def State.chainReachable (s : State) (port : Nat) : Bool :=
  if port = 255 then true else if port < 2 then (s.port port).reachable && (s.timePort port).joined else s.culState (port - 2) == 2

/-- Whether the phase to the chain neighbour behind a port is aligned within 50 ps (R16, R306), which also keeps the time offset below
100 ns. -/
def State.chainAligned (s : State) (port : Nat) : Bool := port == 255 || s.get (Reg.TIM_PORT_STAT_XFER port) == 2

/-- The chain ports of a set's member: its head has the DU above it. -/
def chainPorts (c : CoopSetCmd) : List Nat := (if c.position = 0 then [] else [c.upPort]) ++ [c.downPort]

/-- SET_STATE_CHANGE (R217, R315, R316): at a slot boundary a set becomes ACTIVE when its neighbours are reachable and aligned, and
DISSOLVED when one is not. -/
def execSetStateChange (set : Nat) (s : State) : Host.Outcome State Fault Refusal :=
  .next (match s.fh.sets.get? set with
    | none => s
    | some c =>
      let reach := (chainPorts c).all s.chainReachable
      let ok := reach && (chainPorts c).all s.chainAligned
      let st := s.setState set
      if !s.atSlot then s
      else if st ≠ 2 ∧ ok = true then s.moveSet set 2 1
      else if st = 2 ∧ ok = false then s.moveSet set 3 (if reach then 1 else 2)
      else s)

end Sys2Proof.Machine
end

