-- ==== Sys2Proof/Machine/Registers.lean ====
section
/-! DEFINITION. Register writes (R541 to R547): access codes, ranges, locking, values wider than one register, the rules of single
registers that refuse a write, and what a write sets in motion. -/
namespace Sys2Proof.Machine
open Sys2Proof

/-! ## Refusals -/

/-- Where a refused write shows (R544): the `CFG_ERR` of the register's block or, where the spec gives a set of registers its own, of
that set. -/
def cfgErrFields (off : Nat) : List Field :=
  let b := off / 0x10000
  let r := off % 0x10000
  if b = 1 then [Reg.PWR_AVS_CFG_ERR]
  else if b = 2 then [Reg.CLK_SYN_CTL_CFG_ERR]
  else if b = 3 then (if off = Reg.TIM_REF_NUM then [Reg.TIM_REF_NUM_CFG_ERR, Reg.TIM_STAT_CFG_ERR] else [Reg.TIM_STAT_CFG_ERR])
  else if b = 8 ∨ b = 9 then [Reg.HRG_STAT_CFG_ERR]
  else if 0x10 ≤ b ∧ b < 0x18 then
    let n := b - 0x10
    if r ≥ 0x200 then [Reg.TIL_RX_CFG_CFG_ERR n]
    else if r = 0x120 then [Reg.TIL_DPD_CTL_CFG_ERR n, Reg.TIL_TX_CFG_CFG_ERR n] else [Reg.TIL_TX_CFG_CFG_ERR n]
  else if 0x20 ≤ b ∧ b < 0x24 then [Reg.BFM_CFG_CFG_ERR]
  else if 0x24 ≤ b ∧ b < 0x28 then [Reg.ACD_CFG_CFG_ERR]
  else if 0x28 ≤ b ∧ b < 0x30 then [Reg.FTH_CFG_CFG_ERR]
  else if b = 0x30 then [Reg.LIN_PORT_CFG_CFG_ERR (if r ≥ 0x4000 then (if r % 0x100 < 0x80 then r % 8 / 4 else 1) else r / 0x1000)]
  else if b = 0x34 then [Reg.CUL_CFG_CFG_ERR]
  else if b = 0x39 then
    if r < 0x800 then [Reg.RCT_TILE_CFG_CFG_ERR (r / 0x100)] else (List.range 8).map Reg.RCT_TILE_CFG_CFG_ERR
  else if b = 0x3A then [Reg.HKA_CFG_CFG_ERR]
  else if b = 0x3E ∧ r < 0x1000 then [Reg.THM_LIMITS_CFG_ERR]
  else []

/-- Set the `CFG_ERR` of a register's block. -/
def State.cfgErr (s : State) (off : Nat) : State := s.each (cfgErrFields off) State.setF

/-- A write that the lock refuses (R546). -/
def State.lockViolation (s : State) (off : Nat) : State :=
  ((s.cfgErr off).setF Reg.DEV_ACC_STAT_LOCK_VIOL).satAdd Reg.DEV_LOCK_VIOLATIONS 1

/-- Whether the device is locked (R546). -/
def State.locked (s : State) : Bool := s.on Reg.DEV_LOCK_LOCK

/-! ## Fields -/

/-- What a write makes of one field (R543, R544, R546): the word so far, whether a value was out of range or refused, whether the lock
refused a change. `ok` is the field's own rule on the new value. -/
def writeField (locked : Bool) (ok : FieldDesc → Nat → Bool) (old value : Nat) (a : Nat × Bool × Bool) (f : FieldDesc) :
    Nat × Bool × Bool :=
  let (w, err, viol) := a
  let v := bits value f.lsb f.width
  let cur := bits old f.lsb f.width
  match f.acc with
  | .ro => a
  | .wo => a
  | .w1c => (putBits w f.lsb f.width (cur - (cur &&& v)), err, viol)
  | .w1s => (putBits w f.lsb f.width (cur ||| v), err, viol)
  | .rw | .rws =>
    if f.lo ≤ v ∧ v ≤ f.hi ∧ ok f v = true then (putBits w f.lsb f.width v, err, viol) else (w, true, viol)
  | .rwl =>
    if locked then (w, err, viol || v != cur)
    else if f.lo ≤ v ∧ v ≤ f.hi ∧ ok f v = true then (putBits w f.lsb f.width v, err, viol) else (w, true, viol)

/-- What a write makes of a register's word. -/
def writeWord (locked : Bool) (ok : FieldDesc → Nat → Bool) (d : RegDesc) (old value : Nat) : Nat × Bool × Bool :=
  d.fields.foldl (writeField locked ok old value) (old, false, false)

/-- The word with only the write-1-to-clear fields of a refused write taken. -/
def clearOnly (d : RegDesc) (old value : Nat) : Nat :=
  (d.fields.filter fun f => f.acc == .w1c).foldl (fun w f => putBits w f.lsb f.width (bits w f.lsb f.width - (bits w f.lsb f.width &&& bits value f.lsb f.width))) old

/-! ## The rules of single fields and registers -/

/-- The rule of a field on the value a write gives it, which otherwise leaves the field unchanged: the conversion mode while carriers are
enabled (R52, R53, R94), the correction band (R67), a pattern's guard times and duty (R169, R183), a port without a VID. -/
def State.fieldRule (s : State) (off : Nat) (f : FieldDesc) (v : Nat) : Bool :=
  let b := off / 0x10000
  let r := off % 0x10000
  let n := b - 0x10
  let same := v == bits (s.rd off) f.lsb f.width
  let tx := !(s.txCarriers n).isEmpty
  let rx := !(s.rxCarriers n).isEmpty
  if 0x10 ≤ b ∧ b < 0x18 then
    if r = 0x100 ∧ f.lsb < 2 then same || !tx
    else if r = 0x104 then (if f.lsb = 0 then !tx && !rx else same || !tx)
    else if r = 0x120 ∧ f.lsb = 8 then !tx || s.corrBandOk n v
    else if r = 0x200 ∧ f.lsb = 0 then same || !rx
    else if r = 0x204 then (if f.lsb = 0 then !rx else same || !rx)
    else true
  else if b = 0x39 ∧ r < 0x800 ∧ r % 0x100 = 8 ∧ f.lsb = 0 then
    match s.rct.patterns.get? v with
    | some p => s.guardsOk p (s.timingWord (r / 0x100)) && s.dutyOk p
    | none => true
  else if off = Reg.FTH_CFG ∧ f.lsb < 2 then v == 0 || same || s.get Reg.FTH_VLAN_VID != 0
  else true

/-- The signed taps of a `LIN_n_TXFFE` word. -/
def tapsOfWord (w : Nat) : List Int := [sx 5 (bits w 0 5), sx 6 (bits w 5 6), bits w 11 7, sx 6 (bits w 18 6), sx 5 (bits w 24 5)]

/-- Whether any receive carrier uses WHOLE transport on the fronthaul. -/
def State.anyWhole (s : State) : Bool := s.fh.cfg.any fun e => e.1 / 8 == 1 && e.2.whole

/-- The rule of a register on the word a write would leave, which otherwise leaves the register unchanged: Levee on an external LO
(R162), transmit taps (R235), the eAxC layout (R210), guard times under new switching times (R183), the throttle thresholds (R456),
the channel and filter of a sequence entry (R467, R477). -/
def State.wordRule (s : State) (off w : Nat) : Bool :=
  let b := off / 0x10000
  let r := off % 0x10000
  if 0x10 ≤ b ∧ b < 0x18 ∧ r = 0x104 then !s.txAllowed || (s.wr off w).leveeTileOk (b - 0x10)
  else if off = Reg.FTH_EAXC_CFG then
    decide (bits w 0 4 + bits w 4 4 + bits w 8 4 + bits w 12 4 = 16 ∧ 3 ≤ bits w 8 4) &&
      decide (bits w 12 4 ≥ if s.anyWhole then 6 else 5)
  else if b = 0x30 ∧ r < 0x4000 ∧ r % 0x400 = 8 then
    let n := r / 0x400
    tapsOk (tapsOfWord w) && !(s.laneAt n == 3 && !s.trainsAlone n)
  else if b = 0x39 ∧ r < 0x800 ∧ r % 0x100 = 4 then
    match s.rct.patterns.get? (s.boundPattern (r / 0x100)) with
    | some p => s.guardsOk p w
    | none => true
  else if off = Reg.THM_LIMITS then
    decide (70 ≤ bits w 0 8 ∧ bits w 0 8 < bits w 8 8 ∧ bits w 8 8 < bits w 16 8 ∧ bits w 16 8 ≤ 110)
  else if b = 0x3A ∧ 0x100 ≤ r ∧ r < 0x300 then hkaChannel (bits w 0 8) && bits w 10 3 != 7
  else true

/-! ## What a write sets in motion -/

/-- The flows of a port that has just been enabled start afresh (R201). -/
def State.portFlows (s : State) (k : Nat) : State :=
  { s with fh := { s.fh with
    flows := s.fh.flows.filter fun e => e.2.port != k, sent := s.fh.sent.filter fun e => e.2.port != k } }

/-- What follows from a register's new word. -/
def State.afterWrite (s : State) (off old new value : Nat) : State :=
  let b := off / 0x10000
  let r := off % 0x10000
  if off = Reg.FTH_CFG then
    s.each [0, 1] fun s k => s.when (!bit old k && bit new k) fun s => s.portFlows k
  else if b = 0x30 ∧ 0x4000 ≤ r ∧ r < 0x4008 then
    let lanes := (List.range 4).map fun j => 4 * (r % 8 / 4) + j
    if bits old 0 3 = bits new 0 3 then s else (s.each lanes State.enterDown).each lanes State.laneStart
  else if b = 0x30 ∧ r < 0x4000 ∧ r % 0x400 = 0 then
    let n := r / 0x400
    let s := if bit old 0 = bit new 0 then s else if bit new 0 then s.laneStart n else s.enterDown n
    s.when (bit value 8) fun s => s.startHist n
  else if off = Reg.CUL_CFG then
    let s := s.culRefresh
    s.when (bit new 10) fun s => s.each [0, 1] State.autoPlan
  else if off = Reg.TIM_CTL then s.elect
  else if b = 0x39 ∧ r < 0x800 ∧ r % 0x100 = 4 then
    { s with rct := { s.rct with timingNext := s.rct.timingNext.set (r / 0x100) new } }
  else if b = 0x39 ∧ r < 0x800 ∧ r % 0x100 = 8 then
    if bits old 0 2 = bits new 0 2 then s
    else { s with rct := { s.rct with binding := s.rct.binding.set (r / 0x100) (bits new 0 2) } }
  else if b = 0x39 ∧ 0x1000 ≤ r ∧ r < 0x1008 then
    if bits old 0 2 = bits new 0 2 then s else s.modCoex (r % 8 / 4) fun _ => CoexPair.initial
  else if off = Reg.HKA_CFG then
    let s := s.showMains
    let s := if bits old 14 2 = bits new 14 2 then s else s.hkaTimer 0
    let s := if bits old 16 2 = bits new 16 2 then s else s.hkaTimer 1
    s.when (bit value 19) State.regularTrigger
  else if off = Reg.HKA_TRIG 0 then s.hkaTimer 0
  else if off = Reg.HKA_TRIG 1 then s.hkaTimer 1
  else if off = Reg.THM_LIMITS then s.throttle
  else if off = Reg.BFM_CFG then
    let first := bits new 8 4 * 256
    if bit old 0 = bit new 0 ∧ bits old 8 4 = bits new 8 4 then s
    else
      let pool := s.beam.pool.filter fun e => bit new 0 && decide (first ≤ e.1)
      { s with beam := { s.beam with pool := pool } }
  else if off = Reg.DEV_BOOT_CTL then
    let s := s.put Reg.DEV_BOOT_CTL_CONFIRM 0
    let s := s.when (bit value 0) State.confirmSlot
    s.when (bit value 16) fun s => s.softReset (bits value 8 8)
  else if off = Reg.DEV_UPD_CTL then s.when (bit value 31) State.startUpdate
  else if off = Reg.DEV_TICK_STAT then s.when (bit value 31) fun s => s.put Reg.DEV_TICK_STAT_MIN_MARGIN 0xFFFF
  else s

/-! ## Registers with a rule for the whole write -/

/-- A write to `DEV_LOCK` (R546): `LOCK` = 1 locks only with its key in the same write. -/
def State.writeLock (s : State) (value : Nat) : State :=
  if bit value 0 && bits value 8 8 == 0x5A then s.setF Reg.DEV_LOCK_LOCK else s

/-- A write to `TIM_REF_NUM` (R17, R549): `MU` and `ECP` are checked as a pair, and a change waits for the frame boundary. -/
def State.writeRefNum (s : State) (value : Nat) : State :=
  let mu := bits value 0 2
  let ecp := bits value 2 1
  let adv := bits value 8 3
  let s := s.when (bit value 16) fun s => s.put Reg.TIM_REF_NUM_CFG_ERR 0
  let change := mu != s.get Reg.TIM_REF_NUM_MU || ecp != s.get Reg.TIM_REF_NUM_ECP
  let s :=
    if adv = s.get Reg.TIM_REF_NUM_T_ADV then s
    else if 2 ≤ adv ∧ adv ≤ 6 then { s with arch := { s.arch with tAdvPending := some adv } }.put Reg.TIM_REF_NUM_T_ADV adv
    else s.cfgErr Reg.TIM_REF_NUM
  if !change then s
  else if s.locked then s.lockViolation Reg.TIM_REF_NUM
  else if (ecp = 1 ∧ mu ≠ 2) ∨ s.radioQuiet = false ∨ s.tx.carriers ≠ [] ∨ s.rx.carriers ≠ [] ∨ s.host.timed ≠ [] then
    s.cfgErr Reg.TIM_REF_NUM
  else
    { s with arch := { s.arch with refNumPending := some (mu, ecp) } }.put Reg.TIM_REF_NUM_MU mu |>.put Reg.TIM_REF_NUM_ECP ecp

/-- A write to `HRG_RING_r_CFG` (R353, R354): while the ring is enabled its size, priority, completion ring and vector stand. `PRIO`
and `CQ` read 0 on rings that are no submission rings. -/
def State.writeRingCfg (s : State) (r value : Nat) : State :=
  let off := Reg.HRG_RING_CFG r
  let old := s.rd off
  let value := if r < 32 then value else putBits value 5 5 0
  let was := bit old 0
  let en := bit value 0
  let fixed := fun (w : Nat) => (bits w 1 9, bits w 16 6)
  if was && fixed old != fixed value then s.cfgErr off
  else if en && !s.on Reg.HRG_CTL_EN then s.cfgErr off
  else
    let bad := decide (bits value 1 4 < 4)
    let new := putBits (putBits (putBits old 5 5 (bits value 5 5)) 16 7 (bits value 16 7)) 1 4 (bits (if bad then old else value) 1 4)
    let s := (s.wr off new).when bad fun s => s.cfgErr off
    s.writeRingEn r en

/-- A write to `HRG_CTL` (R354). -/
def State.writeRingCtl (s : State) (value : Nat) : State :=
  if bit value 0 then s.setF Reg.HRG_CTL_EN else s.resetRings 1

/-! ## Values wider than one register (R35, R544, R547) -/

/-- The lower words a requester has staged for a value, or those in force; the stage is used up. -/
def State.takeStage (s : State) (rq : Requester) (low : Nat) : State × Nat :=
  match s.host.staged.get? (stageKey rq low) with
  | some (_, l) =>
    ({ s with host := { s.host with staged := s.host.staged.del (stageKey rq low) } }, l.headD 0)
  | none => (s, s.rd low)

/-- Commit a two-word value (R35): base addresses are 4 KiB aligned, a ring's base stands while the ring is enabled (R353), and a locked
value that would change is refused whole (R547). -/
def State.commitWide (s : State) (d : RegDesc) (off lower value : Nat) : State :=
  let low := off - 4
  let old := s.rd64 low
  let width := sumL (d.fields.map FieldDesc.width)
  let new := lower % 2 ^ 32 + 2 ^ 32 * (value % 2 ^ width)
  let rwl := d.fields.any fun f => f.acc == .rwl
  if rwl && s.locked && new != old then s.lockViolation low
  else if low = Reg.TIM_AIR_OFS then s.setAirOfs new
  else if low = Reg.BFM_PAGE_BASE ∧ new % 4096 ≠ 0 then s.cfgErr low
  else if Reg.HRG_RING_BASE 0 ≤ low ∧ low < Reg.HRG_RING_BASE 64 then
    let r := (low - Reg.HRG_RING_BASE 0) / 0x20
    if new % 4096 ≠ 0 || (s.on (Reg.HRG_RING_CFG_EN r) && new != old) then s.cfgErr low else s.wr64 low new
  else s.wr64 low new

/-! ## One write -/

/-- A 32-bit write to a register that the requester reaches, by the codes of its fields. -/
def State.writeFields (s : State) (d : RegDesc) (off value : Nat) : State :=
  let old := s.rd off
  let (new, err, viol) := writeWord s.locked (s.fieldRule off) d old value
  let fits := s.wordRule off new
  let new := if fits then new else clearOnly d old value
  let s := s.wr off new
  let s := s.when (err || !fits) fun s => s.cfgErr off
  let s := s.when viol fun s => s.lockViolation off
  s.afterWrite off old new value

/-- Whether the ring interface takes writes to an offset: ring registers and doorbells only once `READY` = 1. -/
def State.ringsTake (s : State) (off : Nat) : Bool := s.on Reg.HRG_STAT_READY || !decide (0x080000 ≤ off ∧ off < 0x084000)

/-- A 32-bit write to an offset by a requester (R541 to R547). An offset that names no register, and one out of the requester's reach,
ignores it. -/
def State.writeReg (s : State) (rq : Requester) (off value : Nat) : State :=
  let value := value % 2 ^ 32
  if !s.mayWrite rq off || !s.ringsTake off then s
  else if 0x084000 ≤ off ∧ off < 0x084400 then
    let v := (off - 0x084000) / 16
    if off % 16 = 12 ∧ bit value 0 = false then s.msixUnmask v else s.wr off (if off % 16 = 12 then 1 else value)
  else if 0x348000 ≤ off ∧ off < 0x380000 then s.tunnelDoorbell ((off - 0x340000) / 0x8000) (off % 0x8000) value 4
  else match findReg off with
    | none => s
    | some d =>
      if 0x090000 ≤ off ∧ off < 0x098000 then s.doorbellWrite ((off - 0x090000) / 0x1000 * 8 + off % 0x1000 / 8) value 4
      else if off = Reg.DEV_LOCK then s.writeLock value
      else if off = Reg.TIM_REF_NUM then s.writeRefNum value
      else if off = Reg.HRG_CTL then s.writeRingCtl value
      else if 0x081000 ≤ off ∧ off < 0x081800 ∧ off % 0x20 = 8 then s.writeRingCfg ((off - 0x081000) / 0x20) value
      else if off = Reg.SLU_KICK then s.sluKick value
      else if off = Reg.PWR_WAKE then s.when (bit value 0) State.wakeWrite
      else if d.words > 1 ∧ d.fields ≠ [] then
        if d.word = 0 then s.stage rq off value
        else
          let (s, lower) := s.takeStage rq (off - 4)
          s.commitWide d off lower value
      else s.writeFields d off value

/-! ## The rows -/

/-- REGISTER_WRITE (R541, R543): a write of `size` bytes. A narrow or unaligned one is ignored and sets `BAD_WIDTH`; one to a doorbell
page sets `DB_ERR` instead (R355); one of eight bytes acts as two. -/
def execRegisterWrite (rq : Requester) (off size value : Nat) (s : State) : Host.Outcome State Fault Refusal :=
  .next (if !s.mayWrite rq off then s
    else if size = 4 && off % 4 == 0 then s.writeReg rq off value
    else if size = 8 && off % 4 == 0 then (s.writeReg rq off (value % 2 ^ 32)).writeReg rq (off + 4) (value / 2 ^ 32)
    else if 0x090000 ≤ off ∧ off < 0x098000 then
      (if off % 8 < 4 ∧ off % 0x1000 < 0x40 then s.doorbellWrite ((off - 0x090000) / 0x1000 * 8 + off % 0x1000 / 8) value 0 else s)
    else s.setF Reg.DEV_ACC_STAT_BAD_WIDTH)

/-- DEV_LOCK (R546): a write to the lock register. -/
def execDevLock (rq : Requester) (value : Nat) (s : State) : Host.Outcome State Fault Refusal :=
  .next (if s.mayWrite rq Reg.DEV_LOCK then s.writeLock value else s)

/-- TIM_REF_NUM_WRITE (R17, R549). -/
def execTimRefNumWrite (rq : Requester) (value : Nat) (s : State) : Host.Outcome State Fault Refusal :=
  .next (if s.mayWrite rq Reg.TIM_REF_NUM then s.writeRefNum value else s)

/-- REF_NUM_CHANGE (R549): at a frame boundary an accepted numerology is in force, and every slot pattern is F in every tick. -/
def execRefNumChange (s : State) : Host.Outcome State Fault Refusal :=
  .next (match s.arch.refNumPending with
    | some (mu, ecp) =>
      if s.atFrame then
        let s := { s with arch := { s.arch with refNumPending := none, mu := mu, ecp := ecp } }
        { s with rct := { s.rct with patterns := [] } }.refreshPlan
      else s
    | none => s)

/-- T_ADV_APPLY (R17): at a frame boundary a new downlink advance is in force. -/
def execTAdvApply (s : State) : Host.Outcome State Fault Refusal :=
  .next (match s.arch.tAdvPending with
    | some a => if s.atFrame then { s with arch := { s.arch with tAdvPending := none, tAdv := a } } else s
    | none => s)

end Sys2Proof.Machine
end

