-- ==== Sys2Proof/Machine/Engine.lean ====
section
/-! DEFINITION. The signal engines (R321 to R337): registers, pointers, accumulators, the bundles and their instructions, and what a
fault does. -/
namespace Sys2Proof.Machine
open Sys2Proof

/-! ## Arithmetic (R328, R329, R332) -/

/-- A general register; g0 reads as zero (R323). -/
def EngRegs.reg (r : EngRegs) (i : Nat) : Nat := if i = 0 then 0 else nth r.g i

/-- Write a general register; g0 ignores writes. -/
def EngRegs.setReg (r : EngRegs) (i v : Nat) : EngRegs := if i = 0 then r else { r with g := r.g.set i (v % 2 ^ 32) }

/-- An accumulator. -/
def EngRegs.accu (r : EngRegs) (i : Nat) : Int := r.acc.getD i 0

/-- A value put into an accumulator (R328): one outside 40 bits saturates to ±(2^39 − 1). -/
def satAcc (z : Int) : Int := if z > 2 ^ 39 - 1 then 2 ^ 39 - 1 else if z < -(2 ^ 39) then -(2 ^ 39 - 1) else z

/-- Redundant sign bits of a `w`-bit value: w − 1 of 0 and −1 (R329, R332). -/
def signBits (w : Nat) (z : Int) : Nat :=
  let v : Nat := (if z < 0 then -(z + 1) else z).toNat
  ((List.range w).filter fun k => decide (k ≥ 1) && decide (v < 2 ^ (w - 1 - k))).length

/-- e(v) = 15 − s(v) of a stored 16-bit value (R329). -/
def blockExp (z : Int) : Nat := 15 - signBits 16 z

/-- The 16-bit values of a word of memory, lowest address first. -/
def lanes16 (n v : Nat) : List Int := (List.range n).map fun i => sx 16 (v / 2 ^ (16 * i))

/-- The integer square root of x / v, for results below 2^16. -/
def sqrtDiv (x v : Nat) : Nat :=
  (List.range 16).reverse.foldl (fun a b => if (a + 2 ^ b) * (a + 2 ^ b) * v ≤ x then a + 2 ^ b else a) 0

/-- The numbers in Q2.14 within 2^−12 of 1 / x, for x = v / 2^15 (R332): lowest and highest. -/
def rcpRange (v : Nat) : Nat × Nat := (ceilDiv (2 ^ 29) v - 4, 2 ^ 29 / v + 4)

/-- The numbers in Q2.14 within 2^−12 of 1 / √x. -/
def rsqRange (v : Nat) : Nat × Nat :=
  let q := sqrtDiv (2 ^ 43) v
  ((if q * q * v = 2 ^ 43 then q else q + 1) - 4, q + 4)

/-- A free number of a range. -/
def within (r : Nat × Nat) (f : Nat) : Nat := r.1 + f % (r.2 - r.1 + 1)

/-! ## Pointers (R326) -/

/-- The base-2 logarithm of a power of two. -/
def log2Of (n : Nat) : Nat := ((List.range 18).find? fun b => n == 2 ^ b).getD 0

/-- Reverse the bits of a count from `hi − 1` down to `lo`. -/
def revBits (c lo hi : Nat) : Nat :=
  putBits c lo (hi - lo) (((List.range (hi - lo)).map fun i => if bit c (lo + i) then 2 ^ (hi - lo - 1 - i) else 0).foldl (· + ·) 0)

/-- A pointer after post-modify, for an access of `w` bytes; a length against the rule of its mode leaves the address open. -/
def Ptr.next (p : Ptr) (w free : Nat) : Ptr :=
  if p.mode = 0 then { p with addr := ux 24 ((p.addr : Int) + p.step) }
  else if p.mode = 1 then
    if p.len % 8 ≠ 0 ∨ p.len = 0 then { p with addr := Config.engPointer free % 2 ^ 24 }
    else { p with addr := ux 24 ((p.base : Int) + ((p.addr : Int) - p.base + p.step) % (p.len : Int)) }
  else
    let hi := log2Of p.len
    if p.len ≠ 2 ^ hi then { p with addr := Config.engPointer free % 2 ^ 24 }
    else
      let c := (((p.count : Int) + p.step) % (p.len : Int)).toNat
      { p with count := c, addr := (p.base + revBits c (log2Of w) hi) % 2 ^ 24 }

/-- A pointer of the engine. -/
def EngRegs.ptr (r : EngRegs) (i : Nat) : Ptr := r.ptrs.getD i ⟨0, 0, 0, 0, 0, 0⟩

/-! ## What a slot does -/

/-- How a slot leaves the sequence of bundles. -/
inductive Flow where
  | next
  | jump (target : Nat)
  | loop (target count : Nat)
  | wait (ra mask : Nat)
  | trap (service : Nat)
  | retk
  | load (rd off : Nat)
  | store (off value : Nat)
  deriving DecidableEq, Repr

/-- The effect of one slot: registers written, bytes stored to data memory, sticky flags, cycles, and the flow. -/
structure SlotOut where
  g : List (Nat × Nat)
  acc : List (Nat × Int)
  ptr : List (Nat × Ptr)
  bex : Option Nat
  tapc : Option Nat
  stores : List (Nat × List Nat)
  accSat : Bool
  stSat : Bool
  cycles : Nat
  flow : Flow
  deriving DecidableEq, Repr

/-- A slot with no effect. -/
def SlotOut.nothing : SlotOut := ⟨[], [], [], none, none, [], false, false, 1, .next⟩

/-- What a slot's instruction sees: the device, the engine's number and registers, the kernel that runs, whether the engine is in
Maintenance, and a number for free values. -/
structure SlotIn where
  s : State
  n : Nat
  r : EngRegs
  kernel : Option Kernel
  maint : Bool
  free : Nat

/-- The outcome of a slot: its effect, or a fault's cause and data address (R337). -/
abbrev SlotRes := Except (Nat × Nat) SlotOut

/-- An effect that is only a general register. -/
def SlotOut.ofReg (rd v : Nat) : SlotOut := { SlotOut.nothing with g := [(rd, v)] }

/-- The three-register fields of an S-format word. -/
def fRd (w : Nat) : Nat := bits w 22 4
def fRa (w : Nat) : Nat := bits w 18 4
def fRb (w : Nat) : Nat := bits w 14 4
def fImm (w : Nat) : Int := sx 14 w

/-- The fields of an M-format word: `ACC`, pointers, shift and flags. -/
def mAcc (w : Nat) : Nat := bits w 23 3
def mSub (w : Nat) : Bool := bit w 22
def mConj (w : Nat) : Bool := bit w 21
def mClr (w : Nat) : Bool := bit w 20
def mPx (w : Nat) : Nat := bits w 18 2
def mPxm (w : Nat) : Bool := bit w 17
def mPy (w : Nat) : Nat := 4 + bits w 15 2
def mPym (w : Nat) : Bool := bit w 14
def mSh (w : Nat) : Nat := bits w 10 4
def mOk (w : Nat) : Bool := bits w 0 10 == 0

/-- The fields of a C-format word. -/
def cRa (w : Nat) : Nat := bits w 22 4
def cCond (w : Nat) : Nat := bits w 18 4
def cTarget (w : Nat) : Nat := bits w 0 18

/-! ## Memory accesses (R324, R327, R343) -/

/-- Whether an address range lies in the pages of a kernel's data range. -/
def Kernel.holdsData (k : Kernel) (addr n : Nat) : Bool :=
  decide (k.dataPage * 4096 ≤ addr ∧ addr + n ≤ (k.dataPage + k.dataPages) * 4096)

/-- Whether a kernel may read an address range of its engine's data memory: its data range, and the granted extraction buffers. -/
def SlotIn.kernelReads (c : SlotIn) (k : Kernel) (addr n : Nat) : Bool :=
  k.holdsData addr n || (maskList k.extMask 4).any fun b =>
    let x := Config.extractBuf c.n b
    decide (x.1 ≤ addr ∧ addr + n ≤ x.1 + x.2)

/-- The fault of an access, if it faults: 2 MISALIGNED, 3 PROTECT. `regs` tells whether the instruction may reach the register
space. -/
def SlotIn.accessFault (c : SlotIn) (addr w : Nat) (write regs : Bool) : Option Nat :=
  if addr % w ≠ 0 then some 2
  else if addr < 0x40000 then
    match c.kernel with
    | none => none
    | some k => if k.holdsData addr w || (!write && c.kernelReads k addr w) then none else some 3
  else if regs && c.kernel.isNone && decide (0x400000 ≤ addr ∧ addr < 0x800000) && engineReach c.n (addr - 0x400000) then none
  else some 3

/-- The fault of an access through a pointer (R327). -/
def SlotIn.ptrFault (c : SlotIn) (p : Ptr) (w : Nat) (write : Bool) : Option Nat :=
  if p.mode = 1 ∧ ((p.addr : Int) - p.base) % (w : Int) ≠ 0 then some 2 else c.accessFault p.addr w write false

/-- A word of the engine's data memory. -/
def SlotIn.mem (c : SlotIn) (addr w : Nat) : Nat := c.s.devMem.readLE (engData c.n + addr) w

/-- Carry on where a list of accesses raises no fault. -/
def noFault (l : List (Option Nat × Nat)) (k : SlotOut) : SlotRes :=
  match l.find? fun e => e.1.isSome with
  | some e => .error (e.1.getD 0, e.2)
  | none => .ok k

/-- The pointers that an M-format word moves (R326): `PX` where it is used, and `PY`. -/
def SlotIn.moved (c : SlotIn) (w width : Nat) (usesX : Bool) : List (Nat × Ptr) :=
  (if usesX && mPxm w then [(mPx w, (c.r.ptr (mPx w)).next width c.free)] else []) ++
    (if mPym w then [(mPy w, (c.r.ptr (mPy w)).next width (c.free + 1))] else [])

/-- The accumulator results of an M-format word: each the accumulator's number and the amount added to it. -/
def SlotIn.accumulate (c : SlotIn) (w : Nat) (l : List (Nat × Int)) : SlotOut :=
  let raw := l.map fun (e : Nat × Int) => (e.1, (if mClr w then 0 else c.r.accu e.1) + (if mSub w then -e.2 else e.2))
  { SlotOut.nothing with
    acc := raw.map fun e => (e.1, satAcc e.2), accSat := raw.any fun e => satAcc e.2 != e.2 }

/-- The two operands of an M-format word of `k` 16-bit values each, x through `PX` and y through `PY`, with the access checks. -/
def SlotIn.operands (c : SlotIn) (w k : Nat) : List Int × List Int × List (Option Nat × Nat) :=
  let px := c.r.ptr (mPx w)
  let py := c.r.ptr (mPy w)
  let b := 2 * k
  (lanes16 k (c.mem px.addr b), lanes16 k (c.mem py.addr b),
    [(c.ptrFault px b false, px.addr), (c.ptrFault py b false, py.addr)])

/-- Products of two lists, term by term. -/
def products (x y : List Int) : List Int := (x.zip y).map fun e => e.1 * e.2

/-! ## M-format instructions (R332, R334) -/

/-- MAC4. -/
def opMac4 (c : SlotIn) (w : Nat) : SlotRes :=
  let (x, y, chk) := c.operands w 4
  if mAcc w % 4 ≠ 0 then .error (1, 0)
  else
    let o := c.accumulate w ((products x y).zipIdx.map fun e => (mAcc w + e.2, e.1))
    noFault chk { o with ptr := c.moved w 8 true }

/-- DOT4. -/
def opDot4 (c : SlotIn) (w : Nat) : SlotRes :=
  let (x, y, chk) := c.operands w 4
  noFault chk { c.accumulate w [(mAcc w, sumZ (products x y))] with ptr := c.moved w 8 true }

/-- CMAC. -/
def opCmac (c : SlotIn) (w : Nat) : SlotRes :=
  let (x, y, chk) := c.operands w 2
  if mAcc w % 2 ≠ 0 then .error (1, 0)
  else
    let xr := x.getD 0 0
    let xi := x.getD 1 0
    let yr := y.getD 0 0
    let yi := if mConj w then -(y.getD 1 0) else y.getD 1 0
    noFault chk { c.accumulate w [(mAcc w, xr * yr - xi * yi), (mAcc w + 1, xr * yi + xi * yr)] with ptr := c.moved w 4 true }

/-- TAPMV (R334), in Maintenance only (R336). -/
def opTapmv (c : SlotIn) (w : Nat) : SlotRes :=
  if !c.maint then .error (1, 0)
  else
    let (h, x, chk) := c.operands w 4
    let line : List Int := sx 16 c.r.tapc :: x.take 3
    let bytes := line.flatMap fun z => bytesLE 2 (ux 16 z)
    noFault chk { c.accumulate w [(mAcc w, sumZ (products h line))] with
      ptr := c.moved w 8 true, tapc := some (ux 16 (x.getD 3 0)), stores := [((c.r.ptr (mPy w)).addr, bytes)] }

/-- Store `k` accumulators, rounded, shifted and saturated to 16 bits (R329, R332). -/
def storeAcc (c : SlotIn) (w k : Nat) : SlotRes :=
  let p := c.r.ptr (mPy w)
  let exact := (List.range k).map fun i => divRound (c.r.accu (mAcc w + i)) (2 ^ mSh w)
  let vals := exact.map (satS 16)
  noFault [(c.ptrFault p (2 * k) true, p.addr)]
    { SlotOut.nothing with
      ptr := c.moved w (2 * k) false, stores := [(p.addr, vals.flatMap fun z => bytesLE 2 (ux 16 z))],
      bex := some ((vals.map blockExp).foldl max c.r.bex), stSat := vals != exact }

/-- STA4. -/
def opSta4 (c : SlotIn) (w : Nat) : SlotRes := if mAcc w > 4 then .error (1, 0) else storeAcc c w 4

/-- STC. -/
def opStc (c : SlotIn) (w : Nat) : SlotRes := if mAcc w > 6 then .error (1, 0) else storeAcc c w 2

/-! ## S-format instructions (R332) -/

/-- ADD to XOR and the shifts. -/
def opAdd (c : SlotIn) (w : Nat) : SlotRes := .ok (.ofReg (fRd w) (c.r.reg (fRa w) + c.r.reg (fRb w)))
def opAddi (c : SlotIn) (w : Nat) : SlotRes := .ok (.ofReg (fRd w) (ux 32 ((c.r.reg (fRa w) : Int) + fImm w)))
def opSub (c : SlotIn) (w : Nat) : SlotRes := .ok (.ofReg (fRd w) (ux 32 ((c.r.reg (fRa w) : Int) - c.r.reg (fRb w))))
def opAnd (c : SlotIn) (w : Nat) : SlotRes := .ok (.ofReg (fRd w) (c.r.reg (fRa w) &&& c.r.reg (fRb w)))
def opOr (c : SlotIn) (w : Nat) : SlotRes := .ok (.ofReg (fRd w) (c.r.reg (fRa w) ||| c.r.reg (fRb w)))
def opXor (c : SlotIn) (w : Nat) : SlotRes := .ok (.ofReg (fRd w) (c.r.reg (fRa w) ^^^ c.r.reg (fRb w)))
def opShli (c : SlotIn) (w : Nat) : SlotRes := .ok (.ofReg (fRd w) (c.r.reg (fRa w) * 2 ^ bits w 0 5))
def opShri (c : SlotIn) (w : Nat) : SlotRes := .ok (.ofReg (fRd w) (c.r.reg (fRa w) / 2 ^ bits w 0 5))
def opSari (c : SlotIn) (w : Nat) : SlotRes := .ok (.ofReg (fRd w) (ux 32 (sx 32 (c.r.reg (fRa w)) / 2 ^ bits w 0 5)))

/-- MOVI and ORH. -/
def opMovi (_ : SlotIn) (w : Nat) : SlotRes := .ok (.ofReg (fRd w) (ux 32 (fImm w)))
def opOrh (c : SlotIn) (w : Nat) : SlotRes := .ok (.ofReg (fRd w) (c.r.reg (fRa w) ||| bits w 0 14 * 2 ^ 14))

/-- The address of `LDG`, `STG` and `STH`. -/
def SlotIn.ea (c : SlotIn) (w scale : Nat) : Nat := ux 32 ((c.r.reg (fRa w) : Int) + scale * fImm w)

/-- LDG: data memory or the register space. -/
def opLdg (c : SlotIn) (w : Nat) : SlotRes :=
  let a := c.ea w 4
  noFault [(c.accessFault a 4 false true, a)]
    (if a < 0x40000 then .ofReg (fRd w) (c.mem a 4) else { SlotOut.nothing with flow := .load (fRd w) (a - 0x400000) })

/-- STG. -/
def opStg (c : SlotIn) (w : Nat) : SlotRes :=
  let a := c.ea w 4
  let v := c.r.reg (fRb w)
  noFault [(c.accessFault a 4 true true, a)]
    (if a < 0x40000 then { SlotOut.nothing with stores := [(a, bytesLE 4 v)] }
     else { SlotOut.nothing with flow := .store (a - 0x400000) v })

/-- STH: data memory only. -/
def opSth (c : SlotIn) (w : Nat) : SlotRes :=
  let a := c.ea w 2
  noFault [(c.accessFault a 2 true false, a)] { SlotOut.nothing with stores := [(a, bytesLE 2 (c.r.reg (fRb w)))] }

/-- MVAG. -/
def opMvag (c : SlotIn) (w : Nat) : SlotRes :=
  let z := divRound (c.r.accu (fRa w % 8)) (2 ^ bits w 0 5)
  .ok { SlotOut.ofReg (fRd w) (ux 32 (satS 32 z)) with stSat := satS 32 z != z }

/-- MVGA. -/
def opMvga (c : SlotIn) (w : Nat) : SlotRes :=
  let z := sx 32 (c.r.reg (fRa w)) * 2 ^ bits w 0 5
  .ok { SlotOut.nothing with acc := [(fRd w % 8, satAcc z)], accSat := satAcc z != z }

/-- EXP. -/
def opExp (c : SlotIn) (w : Nat) : SlotRes :=
  .ok (.ofReg (fRd w) (if bit w 0 then signBits 16 (sx 16 (c.r.reg (fRa w))) else signBits 40 (c.r.accu (fRa w % 8))))

/-- NORM. -/
def opNorm (c : SlotIn) (w : Nat) : SlotRes :=
  let a := c.r.accu (fRa w % 8)
  let n := signBits 40 a
  .ok { SlotOut.ofReg (fRd w) n with acc := [(fRa w % 8, a * 2 ^ n)] }

/-- BEXR (R329). -/
def opBexr (c : SlotIn) (w : Nat) : SlotRes :=
  .ok { SlotOut.ofReg (fRd w) c.r.bex with bex := if bit w 0 then some 0 else none }

/-- AGSET (R326): mode 3 raises ILLEGAL. -/
def opAgset (c : SlotIn) (w : Nat) : SlotRes :=
  let i := fRd w % 8
  let p := c.r.ptr i
  let v := c.r.reg (fRa w)
  let set := fun (q : Ptr) => (Except.ok { SlotOut.nothing with ptr := [(i, q)] } : SlotRes)
  match bits w 0 3 with
  | 0 => set { p with addr := v % 2 ^ 24, count := 0 }
  | 1 => set { p with base := v % 2 ^ 24 }
  | 2 => set { p with len := v % 2 ^ 18 }
  | 3 => set { p with step := sx 18 v }
  | 4 => if v > 2 then .error (1, 0) else set { p with mode := v }
  | _ => .error (1, 0)

/-- RCP: an operand outside 0x4000 to 0x7FFF gives 0x7FFF and sets `ST_SAT`. -/
def opRcp (c : SlotIn) (w : Nat) : SlotRes :=
  let v := c.r.reg (fRa w) % 2 ^ 16
  .ok (if 0x4000 ≤ v ∧ v ≤ 0x7FFF then .ofReg (fRd w) (within (rcpRange v) (Config.engRcp c.free))
    else { SlotOut.ofReg (fRd w) 0x7FFF with stSat := true })

/-- RSQ. -/
def opRsq (c : SlotIn) (w : Nat) : SlotRes :=
  let v := c.r.reg (fRa w) % 2 ^ 16
  .ok (if 0x4000 ≤ v ∧ v ≤ 0x7FFF then .ofReg (fRd w) (within (rsqRange v) (Config.engRsq c.free))
    else { SlotOut.ofReg (fRd w) 0x7FFF with stSat := true })

/-- MUL and TAPC. -/
def opMul (c : SlotIn) (w : Nat) : SlotRes :=
  .ok (.ofReg (fRd w) (ux 32 (sx 16 (c.r.reg (fRa w)) * sx 16 (c.r.reg (fRb w)))))
def opTapc (c : SlotIn) (w : Nat) : SlotRes := .ok { SlotOut.nothing with tapc := some (c.r.reg (fRa w) % 2 ^ 16) }

/-! ## C-format instructions (R332, R333) -/

/-- Whether a branch condition holds on a register. -/
def condHolds (cond v : Nat) : Bool :=
  match cond with
  | 0 => true
  | 1 => v == 0
  | 2 => v != 0
  | 3 => decide (sx 32 v < 0)
  | _ => decide (0 ≤ sx 32 v)

/-- BR: conditions 5 to 15 are reserved. -/
def opBr (c : SlotIn) (w : Nat) : SlotRes :=
  if cCond w > 4 then .error (1, 0)
  else .ok (if condHolds (cCond w) (c.r.reg (cRa w)) then
      { SlotOut.nothing with flow := .jump (cTarget w % 2 ^ 15), cycles := 2 }
    else SlotOut.nothing)

/-- CALL and RET. -/
def opCall (c : SlotIn) (w : Nat) : SlotRes :=
  .ok { SlotOut.ofReg 15 ((c.r.pc + 1) % 2 ^ 15) with flow := .jump (cTarget w % 2 ^ 15), cycles := 2 }
def opRet (c : SlotIn) (_ : Nat) : SlotRes := .ok { SlotOut.nothing with flow := .jump (c.r.reg 15 % 2 ^ 15), cycles := 2 }

/-- LOOP: a third level raises ILLEGAL. -/
def opLoop (c : SlotIn) (w : Nat) : SlotRes :=
  if c.r.loops.length ≥ 2 then .error (1, 0)
  else .ok { SlotOut.nothing with flow := .loop (cTarget w % 2 ^ 15) (c.r.reg (cRa w)) }

/-- WAIT: the reserved bits of the mask must be zero (R333). -/
def opWait (_ : SlotIn) (w : Nat) : SlotRes :=
  if bits w 7 9 ≠ 0 then .error (1, 0) else .ok { SlotOut.nothing with flow := .wait (cRa w) (bits w 0 7) }

/-- TRAP and FENCE: in a model that stores at once, FENCE has nothing to wait for. -/
def opTrap (_ : SlotIn) (w : Nat) : SlotRes := .ok { SlotOut.nothing with flow := .trap (bits w 0 8), cycles := 40 }
def opFence (_ : SlotIn) (_ : Nat) : SlotRes := .ok SlotOut.nothing

/-- RETK, in a kernel only. -/
def opRetk (c : SlotIn) (_ : Nat) : SlotRes :=
  if c.kernel.isNone then .error (1, 0) else .ok { SlotOut.nothing with flow := .retk, cycles := 2 }

/-- HALT, in firmware only: E14 treats it as a fault, whose cause is WATCHDOG (R337). -/
def opHalt (c : SlotIn) (_ : Nat) : SlotRes := .error (if c.kernel.isNone then 5 else 1, 0)

/-! ## Bundles (R330, R331) -/

/-- The opcode of a word. -/
def opOf (w : Nat) : Nat := bits w 26 6

/-- The instruction of a slot. Opcode 0 is only the zero word; an opcode outside the table is ILLEGAL. -/
def slotRun (c : SlotIn) (w : Nat) : SlotRes :=
  let m := fun (op : SlotIn → Nat → SlotRes) => if mOk w then op c w else .error (1, 0)
  match opOf w with
  | 0x00 => if w = 0 then .ok SlotOut.nothing else .error (1, 0)
  | 0x01 => m opMac4
  | 0x02 => m opDot4
  | 0x03 => m opCmac
  | 0x04 => m opTapmv
  | 0x05 => m opSta4
  | 0x06 => m opStc
  | 0x10 => opAdd c w
  | 0x11 => opAddi c w
  | 0x12 => opSub c w
  | 0x13 => opAnd c w
  | 0x14 => opOr c w
  | 0x15 => opXor c w
  | 0x16 => opShli c w
  | 0x17 => opShri c w
  | 0x18 => opSari c w
  | 0x19 => opMovi c w
  | 0x1A => opOrh c w
  | 0x20 => opLdg c w
  | 0x21 => opStg c w
  | 0x22 => opMvag c w
  | 0x23 => opMvga c w
  | 0x24 => opExp c w
  | 0x25 => opNorm c w
  | 0x26 => opBexr c w
  | 0x27 => opAgset c w
  | 0x28 => opRcp c w
  | 0x29 => opRsq c w
  | 0x2A => opMul c w
  | 0x2B => opTapc c w
  | 0x2C => opSth c w
  | 0x30 => opBr c w
  | 0x31 => opCall c w
  | 0x32 => opRet c w
  | 0x33 => opLoop c w
  | 0x34 => opWait c w
  | 0x35 => opTrap c w
  | 0x36 => opFence c w
  | 0x38 => opRetk c w
  | 0x3F => opHalt c w
  | _ => .error (1, 0)

/-- The opcodes of R332. -/
def knownOp (o : Nat) : Bool :=
  decide (1 ≤ o ∧ o ≤ 6 ∨ 0x10 ≤ o ∧ o ≤ 0x1A ∨ 0x20 ≤ o ∧ o ≤ 0x2C ∨ 0x30 ≤ o ∧ o ≤ 0x36 ∨ o = 0x38 ∨ o = 0x3F)

/-- Whether a word may stand in slot Q: zero, or an S-format instruction that neither accesses memory nor sets a pointer or `TAPC`. -/
def slotQOk (w : Nat) : Bool :=
  let o := opOf w
  w == 0 || decide (0x10 ≤ o ∧ o ≤ 0x1A ∨ 0x22 ≤ o ∧ o ≤ 0x26 ∨ 0x28 ≤ o ∧ o ≤ 0x2A)

/-- The row of the command table a bundle belongs to: the opcode of slot P, or of slot Q where P holds none; 0 where that opcode is not
in the table. -/
def bundleRow (p q : Nat) : Nat :=
  let o := opOf (if p = 0 then q else p)
  if knownOp o then o else 0

/-- The general registers an effect writes, g0 aside. -/
def SlotOut.gWrites (o : SlotOut) : List Nat :=
  ((o.g.map Prod.fst) ++ (match o.flow with | .wait ra _ => [ra] | .load rd _ => [rd] | _ => [])).filter (· != 0)

/-- Whether two slots write one register (R330). -/
def SlotOut.clash (a b : SlotOut) : Bool :=
  a.gWrites.any b.gWrites.contains || (a.acc.map Prod.fst).any (b.acc.map Prod.fst).contains || (a.bex.isSome && b.bex.isSome)

/-- The registers after an effect, but for the program counter and the loops. -/
def EngRegs.apply (r : EngRegs) (o : SlotOut) : EngRegs :=
  let r := o.g.foldl (fun r e => r.setReg e.1 e.2) r
  { r with
    acc := o.acc.foldl (fun l e => l.set e.1 e.2) r.acc, ptrs := o.ptr.foldl (fun l e => l.set e.1 e.2) r.ptrs,
    bex := o.bex.getD r.bex, tapc := o.tapc.getD r.tapc }

/-- The loops and the next bundle after the bundle at `pc` has run (R332): levels that end with one bundle end together. -/
def loopEnd : List HwLoop → Nat → List HwLoop × Nat
  | [], pc => ([], (pc + 1) % 2 ^ 15)
  | l :: t, pc =>
    if pc ≠ l.last then (l :: t, (pc + 1) % 2 ^ 15)
    else if l.left > 1 then ({ l with left := l.left - 1 } :: t, l.first)
    else loopEnd t pc

/-- The registers after the flow of a bundle. -/
def EngRegs.flow (r : EngRegs) (f : Flow) : EngRegs :=
  match f with
  | .jump t => { r with pc := t }
  | .loop t 0 => let e := loopEnd r.loops t; { r with loops := e.1, pc := e.2 }
  | .loop t (k + 1) => { r with loops := ⟨(r.pc + 1) % 2 ^ 15, t, k + 1⟩ :: r.loops, pc := (r.pc + 1) % 2 ^ 15 }
  | _ => let e := loopEnd r.loops r.pc; { r with loops := e.1, pc := e.2 }

/-! ## Faults (R337 to R340, R346) -/

/-- Whether a kernel invocation runs on an engine. -/
def State.kernelRuns (s : State) (n : Nat) : Bool := s.on (Reg.ENG_STAT_KRUN n)

/-- A kernel invocation ends (R343): firmware's registers come back, and the `WAIT` it stood in. -/
def State.endKernel (s : State) (n : Nat) : State :=
  match (s.engine n).saved with
  | none => s
  | some (r, w) =>
    let s := s.modEngine n fun e => { e with r := r, wait := w, saved := none, trap := none, yieldAt := s.now }
    (s.put (Reg.ENG_STAT_KRUN n) 0).put (Reg.ENG_STAT_STATE n) (if w.isSome then 2 else 1)

/-- The kernel record 0x0A04: 0 placed, 1 removed, 2 disabled. -/
def State.kernelEvent (s : State) (n what : Nat) (k : Kernel) : State :=
  s.event (0x0040 + n) 0x0A04 ([what, k.hook] ++ bytesLE 2 k.version)

/-- A kernel fault disables the kernel on its tile, and firmware resumes (R346). -/
def State.kernelFault (s : State) (n : Nat) : State :=
  let s := (s.setF (Reg.ENG_FAULT_KFAULT n)).endKernel n
  let s := s.modEngine n fun e => { e with kernelOff := true }
  match (s.engine n).kernel with
  | some k => s.kernelEvent n 2 k
  | none => s

/-- A firmware fault stops the engine (R338 to R340): the third within 600 s for good, a fault of E14 or E15 stops the device. Mode
changes that waited are refused. -/
def State.firmwareFault (s : State) (n : Nat) : State :=
  let s := s.setF (Reg.ENG_FAULT_FAULT n)
  if n ≥ 14 then s.fatal (n - 13) n
  else
    let e := s.engine n
    let times := s.now :: e.faults.filter fun t => decide (s.now < t + 600000000000)
    let waiting := match e.modeNext with | some (_, l) => l | none => []
    let s := s.modEngine n fun e => { e with faults := times, saved := none, wait := none, trap := none, modeNext := none }
    let s := (s.put (Reg.ENG_STAT_KRUN n) 0).put (Reg.ENG_STAT_STATE n) (if times.length ≥ 3 then 3 else 4)
    s.each waiting fun s h => s.complete h 0x91 St.notReady

/-- An engine fault (R337): its record, and what follows for firmware or the kernel. -/
def State.engFault (s : State) (n cause pc : Nat) (slotQ : Bool) (addr : Nat) : State :=
  let inK := s.kernelRuns n
  let s := (s.put (Reg.ENG_FAULT_CAUSE n) cause).put (Reg.ENG_FAULT_IN_KERNEL n) (b2n inK)
  let s := (s.put (Reg.ENG_FAULT_PC_PC n) pc).put (Reg.ENG_FAULT_PC_SLOT_Q n) (b2n slotQ)
  let s := s.put (Reg.ENG_FAULT_PC_ADDR_HI n) (bits addr 8 16)
  let s := s.event (0x0040 + n) 0x0A01 ([cause, b2n inK] ++ bytesLE 2 pc ++ bytesLE 3 addr ++ [s.get (Reg.ENG_STAT_RESTARTS n)])
  if inK then s.kernelFault n else s.firmwareFault n

/-! ## Running one bundle -/

/-- Whether an engine can run a bundle now: it runs, no service is outstanding, and the device is neither in POLDER or deeper nor
making a dump. -/
def State.bundleReady (s : State) (n : Nat) : Bool :=
  decide (n < 16) && s.get (Reg.ENG_STAT_STATE n) == 1 && (s.engine n).trap.isNone && decide (s.get Reg.PWR_STAT_STATE < 2) &&
    s.flt.dump.isNone

/-- Cycles of a kernel in the last 10 ms that count against its budget, and the budget (R344): at throttle level T1 and above the engines
run at half speed (R322). -/
def State.budgetUsed (s : State) (n : Nat) : Nat :=
  sumL (((s.engine n).kRun.filter fun e => decide (s.now < e.1 + 10000000)).map Prod.snd)
def State.budgetOf (s : State) (k : Kernel) : Nat := k.budget * (if s.get Reg.THM_STAT_LEVEL ≥ 1 then 50000 else 100000)

/-- Count a bundle's cycles (R344): outside a solve window a kernel's bundles count against its budget. -/
def State.countCycles (s : State) (n cycles : Nat) : State :=
  let s := s.add64 (Reg.ENG_CYC n) cycles
  if s.kernelRuns n && s.beam.solves.isEmpty then
    s.modEngine n fun e =>
      { e with kRun := (s.now, cycles) :: e.kRun.filter fun x => decide (s.now < x.1 + 10000000) }
  else s

/-- What a bundle's flow asks of the device beside the registers. -/
def State.engFlow (s : State) (n : Nat) (f : Flow) : State :=
  match f with
  | .wait ra mask =>
    (s.modEngine n fun e => { e with wait := some (ra, mask), yieldAt := s.now }).put (Reg.ENG_STAT_STATE n) 2
  | .trap svc =>
    if s.kernelRuns n then s.modEngine n fun e => { e with trap := some svc, yieldAt := s.now }
    else
      let s := s.modEngine n fun e => { e with yieldAt := s.now }
      { s with eng := { s.eng with mailbox := s.eng.mailbox ++ [(n, svc)] } }
  | .retk => s.endKernel n
  | .load rd off =>
    let v := s.readAs (.engine n) off
    (s.latch (.engine n) off).modEngine n fun e => { e with r := e.r.setReg rd v }
  | .store off v => s.writeReg (.engine n) off v
  | _ => s

/-- Carry out a bundle that raised no fault. -/
def State.commitBundle (s : State) (n : Nat) (k : Option Kernel) (p q : SlotOut) : State :=
  let pc := (s.engine n).r.pc
  let s := s.modEngine n fun e => { e with r := ((e.r.apply p).apply q).flow p.flow }
  let s := s.each p.stores fun s e => s.devWrite (engData n + e.1) e.2
  let s := s.when (p.accSat || q.accSat) fun s => s.setF (Reg.ENG_STAT_ACC_SAT n)
  let s := s.when (p.stSat || q.stSat) fun s => s.setF (Reg.ENG_STAT_ST_SAT n)
  let s : State := { s.countCycles n p.cycles with free := s.free + 4 }
  match k with
  | some k => if s.budgetUsed n > s.budgetOf k then s.engFault n 6 pc false 0 else s.engFlow n p.flow
  | none => s.engFlow n p.flow

/-- The effect of a slot Q word. -/
def slotQRun (c : SlotIn) (w : Nat) : SlotRes := if slotQOk w then slotRun { c with free := c.free + 2 } w else .error (1, 0)

/-- Run the bundle at the engine's program counter, if it is of the row's opcode. -/
def State.bundle (s : State) (n row : Nat) : State :=
  let e := s.engine n
  let pc := e.r.pc
  let w := e.prog.readLE (8 * pc) 8
  if !s.bundleReady n || bundleRow (w / 2 ^ 32) (w % 2 ^ 32) != row then s
  else
    let k := if s.kernelRuns n then e.kernel else none
    let c : SlotIn := ⟨s, n, e.r, k, s.on (Reg.ENG_STAT_MODE n), s.free⟩
    let outside := match k with
      | some k => !decide (k.progPage * 512 ≤ pc ∧ pc < (k.progPage + k.progPages) * 512)
      | none => false
    if outside then s.engFault n 3 pc false 0
    else match slotRun c (w / 2 ^ 32) with
      | .error f => s.engFault n f.1 pc false f.2
      | .ok p =>
        match slotQRun c (w % 2 ^ 32) with
        | .error f => s.engFault n f.1 pc true f.2
        | .ok q => if p.clash q then s.engFault n 1 pc false 0 else s.commitBundle n k p q

/-! ## The rows of the instruction table (R332) -/

/-- NOP_BUNDLE (R332): a bundle with no instruction, or one whose opcode is outside the table, which is ILLEGAL. -/
def execEngNopBundle (n : Nat) (s : State) : Host.Outcome State Fault Refusal := .next (s.bundle n 0x00)

/-- MAC4 (R332). -/
def execEngMac4 (n : Nat) (s : State) : Host.Outcome State Fault Refusal := .next (s.bundle n 0x01)

/-- DOT4 (R332). -/
def execEngDot4 (n : Nat) (s : State) : Host.Outcome State Fault Refusal := .next (s.bundle n 0x02)

/-- CMAC (R332). -/
def execEngCmac (n : Nat) (s : State) : Host.Outcome State Fault Refusal := .next (s.bundle n 0x03)

/-- TAPMV (R334, R336). -/
def execEngTapmv (n : Nat) (s : State) : Host.Outcome State Fault Refusal := .next (s.bundle n 0x04)

/-- STA4 (R332). -/
def execEngSta4 (n : Nat) (s : State) : Host.Outcome State Fault Refusal := .next (s.bundle n 0x05)

/-- STC (R332). -/
def execEngStc (n : Nat) (s : State) : Host.Outcome State Fault Refusal := .next (s.bundle n 0x06)

/-- ADD (R332). -/
def execEngAdd (n : Nat) (s : State) : Host.Outcome State Fault Refusal := .next (s.bundle n 0x10)

/-- ADDI (R332). -/
def execEngAddi (n : Nat) (s : State) : Host.Outcome State Fault Refusal := .next (s.bundle n 0x11)

/-- SUB (R332). -/
def execEngSub (n : Nat) (s : State) : Host.Outcome State Fault Refusal := .next (s.bundle n 0x12)

/-- AND (R332). -/
def execEngAnd (n : Nat) (s : State) : Host.Outcome State Fault Refusal := .next (s.bundle n 0x13)

/-- OR (R332). -/
def execEngOr (n : Nat) (s : State) : Host.Outcome State Fault Refusal := .next (s.bundle n 0x14)

/-- XOR (R332). -/
def execEngXor (n : Nat) (s : State) : Host.Outcome State Fault Refusal := .next (s.bundle n 0x15)

/-- SHLI (R332). -/
def execEngShli (n : Nat) (s : State) : Host.Outcome State Fault Refusal := .next (s.bundle n 0x16)

/-- SHRI (R332). -/
def execEngShri (n : Nat) (s : State) : Host.Outcome State Fault Refusal := .next (s.bundle n 0x17)

/-- SARI (R332). -/
def execEngSari (n : Nat) (s : State) : Host.Outcome State Fault Refusal := .next (s.bundle n 0x18)

/-- MOVI (R332). -/
def execEngMovi (n : Nat) (s : State) : Host.Outcome State Fault Refusal := .next (s.bundle n 0x19)

/-- ORH (R332). -/
def execEngOrh (n : Nat) (s : State) : Host.Outcome State Fault Refusal := .next (s.bundle n 0x1A)

/-- LDG (R332). -/
def execEngLdg (n : Nat) (s : State) : Host.Outcome State Fault Refusal := .next (s.bundle n 0x20)

/-- STG (R332). -/
def execEngStg (n : Nat) (s : State) : Host.Outcome State Fault Refusal := .next (s.bundle n 0x21)

/-- STH (R332). -/
def execEngSth (n : Nat) (s : State) : Host.Outcome State Fault Refusal := .next (s.bundle n 0x2C)

/-- MVAG (R332). -/
def execEngMvag (n : Nat) (s : State) : Host.Outcome State Fault Refusal := .next (s.bundle n 0x22)

/-- MVGA (R332). -/
def execEngMvga (n : Nat) (s : State) : Host.Outcome State Fault Refusal := .next (s.bundle n 0x23)

/-- EXP (R332). -/
def execEngExp (n : Nat) (s : State) : Host.Outcome State Fault Refusal := .next (s.bundle n 0x24)

/-- NORM (R332). -/
def execEngNorm (n : Nat) (s : State) : Host.Outcome State Fault Refusal := .next (s.bundle n 0x25)

/-- BEXR (R329). -/
def execEngBexr (n : Nat) (s : State) : Host.Outcome State Fault Refusal := .next (s.bundle n 0x26)

/-- AGSET (R326). -/
def execEngAgset (n : Nat) (s : State) : Host.Outcome State Fault Refusal := .next (s.bundle n 0x27)

/-- RCP (R332). -/
def execEngRcp (n : Nat) (s : State) : Host.Outcome State Fault Refusal := .next (s.bundle n 0x28)

/-- RSQ (R332). -/
def execEngRsq (n : Nat) (s : State) : Host.Outcome State Fault Refusal := .next (s.bundle n 0x29)

/-- MUL (R332). -/
def execEngMul (n : Nat) (s : State) : Host.Outcome State Fault Refusal := .next (s.bundle n 0x2A)

/-- TAPC (R332). -/
def execEngTapc (n : Nat) (s : State) : Host.Outcome State Fault Refusal := .next (s.bundle n 0x2B)

/-- BR (R332). -/
def execEngBr (n : Nat) (s : State) : Host.Outcome State Fault Refusal := .next (s.bundle n 0x30)

/-- CALL (R332). -/
def execEngCall (n : Nat) (s : State) : Host.Outcome State Fault Refusal := .next (s.bundle n 0x31)

/-- RET (R332). -/
def execEngRet (n : Nat) (s : State) : Host.Outcome State Fault Refusal := .next (s.bundle n 0x32)

/-- LOOP (R332). -/
def execEngLoop (n : Nat) (s : State) : Host.Outcome State Fault Refusal := .next (s.bundle n 0x33)

/-- WAIT (R333). -/
def execEngWait (n : Nat) (s : State) : Host.Outcome State Fault Refusal := .next (s.bundle n 0x34)

/-- TRAP (R345). -/
def execEngTrap (n : Nat) (s : State) : Host.Outcome State Fault Refusal := .next (s.bundle n 0x35)

/-- FENCE (R332). -/
def execEngFence (n : Nat) (s : State) : Host.Outcome State Fault Refusal := .next (s.bundle n 0x36)

/-- RETK (R332). -/
def execEngRetk (n : Nat) (s : State) : Host.Outcome State Fault Refusal := .next (s.bundle n 0x38)

/-- HALT (R337). -/
def execEngHalt (n : Nat) (s : State) : Host.Outcome State Fault Refusal := .next (s.bundle n 0x3F)

end Sys2Proof.Machine
end

