-- ==== Sys2Proof/Machine/EngineControl.lean ====
section
/-! DEFINITION. What moves the signal engines from outside their programs (R333 to R348): the events that end a `WAIT`, the services of
`TRAP`, the watchdog, restart and loss, modes, and the placement and invocation of kernels. -/
namespace Sys2Proof.Machine
open Sys2Proof

/-! ## WAIT and the watchdog (R333, R337) -/

/-- Whether an engine is stopped with the device: in POLDER or deeper, or in a dump. -/
def State.engineHeld (s : State) (n : Nat) : Bool := decide (n ≥ 16) || decide (s.get Reg.PWR_STAT_STATE ≥ 2) || s.flt.dump.isSome

/-- Events end the `WAIT` that a register set stands in, where its mask holds one. -/
def wakeRegs (r : EngRegs) (wait : Option (Nat × Nat)) (events : Nat) : EngRegs × Option (Nat × Nat) :=
  match wait with
  | none => (r, none)
  | some (ra, mask) => if events &&& mask = 0 then (r, wait) else (r.setReg ra (events &&& mask), none)

/-- ENGINE_WAKE (R333): the events, as a mask; a kernel's `WAIT`, and the firmware's beneath it, see them alike. -/
def execEngineWake (n events : Nat) (s : State) : Host.Outcome State Fault Refusal :=
  .next (if s.engineHeld n || !s.engineRuns n then s
    else
      let e := s.engine n
      let top := wakeRegs e.r e.wait events
      let s := s.modEngine n fun e =>
        { e with r := top.1, wait := top.2, saved := e.saved.map fun (x : EngRegs × Option (Nat × Nat)) => wakeRegs x.1 x.2 events }
      if e.wait.isSome && top.2.isNone then (s.modEngine n fun e => { e with yieldAt := s.now }).put (Reg.ENG_STAT_STATE n) 1 else s)

/-- WATCHDOG (R337): 10 ms without a `WAIT`, `TRAP` or `RETK`. -/
def execWatchdog (n : Nat) (s : State) : Host.Outcome State Fault Refusal :=
  .next (if s.engineHeld n || s.get (Reg.ENG_STAT_STATE n) != 1 || !s.due ((s.engine n).yieldAt + 10000000) then s
    else s.engFault n 5 (s.engine n).r.pc false 0)

/-! ## Restart and loss (R338, R340, R347) -/

/-- Write a kernel's code and data into its partition (R343). -/
def State.writeKernel (s : State) (n : Nat) (k : Kernel) : State :=
  let s := s.modEngine n fun e => { e with prog := e.prog.writeBytes (k.progPage * 4096) k.code }
  s.devWrite (engData n + k.dataPage * 4096) (fit (k.dataPages * 4096) k.data)

/-- What the loss of an engine means (R340). -/
def State.engineLost (s : State) (n : Nat) : State :=
  if n < 8 then s.tileOff n 7
  else if n < 12 then (s.enterDown (2 * (n - 8))).enterDown (2 * (n - 8) + 1)
  else s.fatal (n - 9) n

/-- The record 0x0A02: 0 restarted, 1 lost. -/
def State.restartEvent (s : State) (n what : Nat) : State :=
  s.event (0x0040 + n) 0x0A02 ([what, s.get (Reg.ENG_STAT_RESTARTS n)] ++ bytesLE 2 (s.get (Reg.ENG_STAT_IMG_VER n)))

/-- ENGINE_RESTART (R338, R340, R347): E14 reloads the verified image and the kernel, and the engine runs in Maintenance; an engine that
has faulted for the third time is lost. -/
def execEngineRestart (n : Nat) (s : State) : Host.Outcome State Fault Refusal :=
  .next (if s.engineHeld n then s
    else if s.get (Reg.ENG_STAT_STATE n) = 3 then ((s.put (Reg.ENG_STAT_STATE n) 5).restartEvent n 1).engineLost n
    else if s.get (Reg.ENG_STAT_STATE n) ≠ 4 then s
    else
      let e := s.engine n
      let s := (s.setMode n 1 2).loadEngine n e.image
      let s := match e.kernel with | some k => s.writeKernel n k | none => s
      (s.satAdd (Reg.ENG_STAT_RESTARTS n) 1).restartEvent n 0)

/-! ## Modes (R335, R348) -/

/-- Whether what an engine serves is at rest: its tile OFF, or both its lanes DOWN. -/
def State.engineAtRest (s : State) (n : Nat) : Bool :=
  if n < 8 then s.tileState n == 0 else s.laneAt (2 * (n - 8)) == 0 && s.laneAt (2 * (n - 8) + 1) == 0

/-- A mode change takes effect between two bundles: a kernel invocation ends as by `RETK` before the engine enters Maintenance. -/
def State.changeMode (s : State) (n mode cause : Nat) : State :=
  let s := s.when (mode == 1) fun s => s.endKernel n
  s.setMode n mode cause

/-- The change that `ENG_MODE` asked for takes effect. -/
def State.applyMode (s : State) (n : Nat) : State :=
  match (s.engine n).modeNext with
  | none => s
  | some (m, l) =>
    let s := (s.modEngine n fun e => { e with modeNext := none }).changeMode n m 0
    s.each l fun s h => s.complete h 0x91 St.done

/-- Whether firmware can end its start-up (R335): a tile engine once its tile is in service, the others once the images are good; refused
while what the engine serves is not at rest and the host has asked for Maintenance. -/
def State.startUpEnds (s : State) (n : Nat) : Bool :=
  s.engineRuns n && (if n < 8 then s.tileReady n else s.on Reg.DEV_BOOT_STAT_IMAGES_OK) &&
    (decide (n ≥ 12) || !(s.engine n).hostMaint || s.engineAtRest n)

/-- MODE_CHANGE (R335): by command (cause 0) where one waits; to Service as firmware ends its start-up (cause 1). A restart enters
Maintenance by itself. -/
def execModeChange (n : Nat) (maintenance : Bool) (cause : Nat) (s : State) : Host.Outcome State Fault Refusal :=
  .next (if s.engineHeld n then s
    else if cause = 0 then
      (if (s.engine n).modeNext.map Prod.fst = some (b2n maintenance) then s.applyMode n else s)
    else if cause = 1 ∧ maintenance = false ∧ s.startUpEnds n = true then s.changeMode n 0 1
    else s)

/-- The refusals of `ENG_MODE` (R335, R348). -/
def engModeFail (s : State) (engine mode : Nat) : Option Nat :=
  let st := s.get (Reg.ENG_STAT_STATE engine)
  firstFail [(decide (engine < 12 ∧ mode ≤ 1), St.range), (st == 1 || st == 2, St.notReady),
    (s.engineAtRest engine || (mode == 0 && !(s.engine engine).hostMaint), St.range)]

/-- ENG_MODE (R335, R348): the change waits for the engine; one to the mode that the engine is in completes at once. -/
def execEngMode (h : Hdr) (engine mode : Nat) (s : State) : Host.Outcome State Fault Refusal :=
  .next (s.acceptNow h 0x91 (engModeFail s engine mode) fun s =>
    let old := (s.engine engine).modeNext
    let s := if (old.map Prod.fst) = some mode then s else s.applyMode engine
    let s := s.modEngine engine fun e => { e with hostMaint := mode == 1 }
    match (s.engine engine).modeNext with
    | some (_, l) => s.modEngine engine fun e => { e with modeNext := some (mode, l ++ [h]) }
    | none =>
      if s.get (Reg.ENG_STAT_MODE engine) = mode then s.complete h 0x91 St.done
      else s.modEngine engine fun e => { e with modeNext := some (mode, [h]) })

/-! ## Kernels (R341 to R344, R348) -/

/-- ENG_KERNEL (R348): a load goes to Seawall for verification; an unload waits for its slot boundary. -/
def execEngKernel (h : Hdr) (tileMask action addr len : Nat) (s : State) : Host.Outcome State Fault Refusal :=
  .next (s.acceptNow h 0x90
    (firstFail [(decide (1 ≤ tileMask ∧ tileMask < 256 ∧ action ≤ 1), St.range), (action == 1 || addr % 64 == 0, St.misaligned),
      (action == 1 || s.custSlot != 0, St.notReady)]) fun s =>
    if action = 0 then s.seaSubmit (.cmd h (.engKernel tileMask action addr len))
    else s.each (maskList tileMask 8) fun s n => s.kernelWait n h none)

/-- The slot of the reference numerology in progress, counted over all frames. -/
def State.slotNo (s : State) : Nat := (s.absTick / (s.tps : Int)).toNat

/-- A verified kernel takes effect on a tile. -/
def State.placeKernel (s : State) (n : Nat) (k : Kernel) : State :=
  let s := s.writeKernel n k
  let s := s.modEngine n fun e =>
    { e with kernel := some k, kernelOff := false, kernelEcc := 0, kRun := [], kSlots := s.slotNo }
  let range := fun (page pages : Nat) => putBits (putBits page 8 6 pages) 16 16 k.version
  let s := (s.wr (Reg.ENG_KPROG n) (range k.progPage k.progPages)).wr (Reg.ENG_KDATA n) (range k.dataPage k.dataPages)
  let digest := s.sea.measures.getD (32 + n) []
  let s := { s with sea := { s.sea with measures := s.sea.measures.set (16 + n) digest } }
  (s.setF (Reg.ENG_STAT_KLOADED n)).kernelEvent n 0 k

/-- A kernel is removed from a tile. -/
def State.removeKernel (s : State) (n : Nat) : State :=
  match (s.engine n).kernel with
  | none => s
  | some k =>
    let s := s.modEngine n fun e => { e with kernel := none, kernelOff := false, kRun := [] }
    let s := (s.wr (Reg.ENG_KPROG n) 0).wr (Reg.ENG_KDATA n) 0
    let s := { s with sea := { s.sea with measures := s.sea.measures.del (16 + n) } }
    (s.put (Reg.ENG_STAT_KLOADED n) 0).kernelEvent n 1 k

/-- A command for kernels completes once no tile of its mask waits for it. -/
def State.kernelDone (s : State) (h : Option Hdr) : State :=
  match h with
  | none => s
  | some h =>
    if (List.range 8).any fun m => (s.engine m).kpend.any fun q => q.hdr == some h then s else s.complete h 0x90 St.done

/-- KERNEL_PLACEMENT (R348): at a slot boundary at which no invocation of an earlier kernel runs on the tile. -/
def execKernelPlacement (n : Nat) (s : State) : Host.Outcome State Fault Refusal :=
  .next (match (s.engine n).kpend with
    | none => s
    | some q =>
      if s.engineHeld n || !s.engineRuns n || !s.atSlot || s.kernelRuns n then s
      else
        let s := s.modEngine n fun e => { e with kpend := none }
        let s := match q.kernel with
          | some k => s.placeKernel n k
          | none => s.removeKernel n
        s.kernelDone q.hdr)

/-- Whether a kernel's hook calls for an invocation now (R344): the solve window of carrier `arg` is open, a record came into buffer
`arg` that is granted, or `PERIOD` slots have passed. -/
def State.hookDue (s : State) (n : Nat) (k : Kernel) (arg : Nat) : Bool :=
  if k.hook = 0 then s.beam.solves.has arg
  else if k.hook = 1 then bit k.extMask arg && decide (arg < 4)
  else s.atSlot && (s.slotNo - (s.engine n).kSlots) % k.period == 0 && decide (s.slotNo > (s.engine n).kSlots)

/-- The registers an invocation begins with: the program counter at `ENTRY`; the others are open. -/
def State.kernelEntry (s : State) (k : Kernel) : EngRegs :=
  let v := Config.kernelReg s.free
  ⟨0 :: (List.range' 1 15).map (fun i => v i % 2 ^ 32), (List.range 8).map (fun i => sx 40 (v (16 + i))),
    (List.range 8).map (fun i => ⟨v (24 + i) % 2 ^ 24, v (32 + i) % 2 ^ 24, v (40 + i) % 2 ^ 18, sx 18 (v (48 + i)), v (56 + i) % 3,
      v (64 + i) % 2 ^ 18⟩), v 72 % 16, v 73 % 2 ^ 16, [], (k.progPage * 512 + k.entry) % 2 ^ 15⟩

/-- KERNEL_INVOCATION (R335, R344): firmware invokes the kernel in Service; one that finds the last still running is skipped and
counted. -/
def execKernelInvocation (n : Nat) (arg : Nat) (s : State) : Host.Outcome State Fault Refusal :=
  .next (match (s.engine n).kernel with
    | none => s
    | some k =>
      if s.engineHeld n || !s.engineRuns n || (s.engine n).kernelOff || s.on (Reg.ENG_STAT_MODE n) || !s.hookDue n k arg then s
      else if s.kernelRuns n then s.satAdd (Reg.ENG_FAULT_KSKIP n) 1
      else
        let s1 := s.modEngine n fun e =>
          { e with saved := some (e.r, e.wait), r := s.kernelEntry k, wait := none, yieldAt := s.now }
        ((s1.setF (Reg.ENG_STAT_KRUN n)).put (Reg.ENG_STAT_STATE n) 1).fresh)

/-! ## The services of TRAP (R345) -/

/-- Whether the kernel on an engine has asked for a service. -/
def State.asked (s : State) (n : Nat) (svc : Nat → Bool) : Bool :=
  !s.engineHeld n && s.kernelRuns n && (s.engine n).trap.any svc

/-- A service ends: its status in g1. -/
def State.serviceDone (s : State) (n status : Nat) : State :=
  s.modEngine n fun e => { e with trap := none, r := e.r.setReg 1 status }

/-- A general register of the engine. -/
def State.engReg (s : State) (n i : Nat) : Nat := (s.engine n).r.reg i

/-- Carry on if `n` bytes at an address lie in the kernel's data range; PROTECT otherwise (R343, R345). -/
def State.inKernelData (s : State) (n addr len : Nat) (run : State → State) : State :=
  match (s.engine n).kernel with
  | some k => if k.holdsData addr len then run s else s.engFault n 3 (s.engine n).r.pc false addr
  | none => s

/-- TIME, service 0: g2 and g3 become device time in ns. -/
def execEngTime (n : Nat) (s : State) : Host.Outcome State Fault Refusal :=
  .next (if s.asked n (· == 0) then
      (s.serviceDone n St.done).modEngine n fun e => { e with r := (e.r.setReg 2 s.timeNs).setReg 3 (s.timeNs / 2 ^ 32) }
    else s)

/-- WRITE_WEIGHTS, service 1 (R138, R345, R350). -/
def execEngWriteWeights (n : Nat) (s : State) : Host.Outcome State Fault Refusal :=
  .next (match (s.engine n).kernel with
    | none => s
    | some k =>
      if !s.asked n (· == 1) then s
      else
        let first := s.engReg n 2
        let count := s.engReg n 3
        if first < k.wFirst ∨ first + count > k.wFirst + k.wCount then s.serviceDone n St.range
        else s.inKernelData n (s.engReg n 4) (256 * count) fun s =>
          let w : BeamWrite := ⟨2, none, 1 - s.beamActive, first, count, 0, false, 0, false, false,
            s.devRead (engData n + s.engReg n 4) (256 * count)⟩
          if s.beam.transition.isSome then (s.queueWrite w).serviceDone n St.busyFade else (s.doWrite w).serviceDone n St.done)

/-- Bytes of Φ and Ψ of one subband (R142): 2,080 and 64 × L elements of 8 bytes, and the exponent. -/
def covBytes (layers : Nat) : Nat := 8 * (2080 + 64 * layers) + 1

/-- COV_READ, service 2: NOT_READY outside the solve window; a subband of another engine is out of range. -/
def execEngCovRead (n : Nat) (s : State) : Host.Outcome State Fault Refusal :=
  .next (if !s.asked n (· == 2) then s
    else
      let c := s.engReg n 2
      let b := s.engReg n 3
      match s.beam.cov.get? c, s.beam.solves.get? c with
      | some v, some _ =>
        if b % 8 ≠ n ∨ b ≥ covSubbands v.cfg then s.serviceDone n St.range
        else
          let len := covBytes v.cfg.layers
          s.inKernelData n (s.engReg n 4) len fun s =>
            (s.devWrite (engData n + s.engReg n 4) (fit len (Config.covSums (v.sums.getD b 0)))).serviceDone n St.done
      | _, _ => s.serviceDone n St.notReady)

/-- EVENT, service 3: the kernel event 0x0A05, at most 100 in a second. -/
def execEngEvent (n : Nat) (s : State) : Host.Outcome State Fault Refusal :=
  .next (if !s.asked n (· == 3) then s
    else
      let recent := (s.engine n).events.filter fun t => decide (s.now < t + 1000000000)
      if recent.length ≥ 100 then s.serviceDone n St.range
      else s.inKernelData n (s.engReg n 2) 16 fun s =>
        let bytes := s.devRead (engData n + s.engReg n 2) 16
        let s := s.modEngine n fun e => { e with events := s.now :: recent }
        (s.event (0x0040 + n) 0x0A05 bytes).serviceDone n St.done)

/-- SOLVED, service 4: marks a subband of this engine solved. A service outside the table, and a subband that no open window holds, have
no stated status (R345). -/
def execEngSolved (n : Nat) (s : State) : Host.Outcome State Fault Refusal :=
  .next (if s.asked n (decide <| · > 4) then (s.serviceDone n (Config.serviceStatus s.free % 256)).fresh
    else if !s.asked n (· == 4) then s
    else
      let c := s.engReg n 2
      let b := s.engReg n 3
      match s.beam.solves.get? c with
      | some w =>
        if b % 8 ≠ n then (s.serviceDone n (Config.serviceStatus s.free % 256)).fresh
        else
          let w := { w with solved := b :: w.solved }
          { s with beam := { s.beam with solves := s.beam.solves.set c w } }.serviceDone n St.done
      | none => (s.serviceDone n (Config.serviceStatus s.free % 256)).fresh)

end Sys2Proof.Machine
end

