-- ==== Sys2Proof/Machine/Retry.lean ====
section
/-! DEFINITION. Failed internal accesses (R36, R37): their retry, the transient counters and their thresholds (R500), the actions of lasting
faults; and the background work of the tile engines (R38, R39, R66). -/
namespace Sys2Proof.Machine
open Sys2Proof

/-! ## Actions -/

/-- A symbol-path stage is overrun (R23): counted, flagged, and recorded with the symbol's air time; a downlink stage overruns at tick
n − 1, an uplink stage at tick n + 2. -/
def State.overrun (s : State) (uplink : Bool) : State :=
  let sym : Int := if uplink then s.absTick - 2 else s.absTick + 1
  let s := (s.add64 Reg.DEV_TICK_OVR 1).setF (if uplink then Reg.DEV_TICK_STAT_UL_OVR else Reg.DEV_TICK_STAT_DL_OVR)
  s.event 0x0000 (Config.unnamedEvent 2) (bytesLE 8 (ux 64 (s.tickStart sym)) ++ [b2n uplink])

/-- A beam entry is marked bad (R131, R157). -/
def State.markBad (s : State) (bank entry addr : Nat) : State :=
  let k := bank * 4096 + entry
  let s := if s.beam.bad.contains k then s else { s with beam := { s.beam with bad := s.beam.bad ++ [k] } }
  (s.setF Reg.BFM_ERR_BAD_ENTRY).event 0x0020 0x0413 ([bank, 0] ++ bytesLE 2 entry ++ bytesLE 4 addr)

/-- A lasting uncorrectable error in the memory of a running engine (R36, R337, R339, R347): E14 and E15 stop the device, another engine is
restarted; one in a kernel's data range counts against the kernel, which stays disabled from the second. -/
def State.engineEcc (s : State) (n addr cause : Nat) : State :=
  if n ≥ 14 then s.fatal cause n
  else
    let e := s.engine n
    let inKernel := e.kernel.any fun k => k.holdsData addr 1
    let count := e.kernelEcc + b2n inKernel
    let off := inKernel && decide (count ≥ 2) && !e.kernelOff
    let s := s.modEngine n fun e => { e with kernelEcc := count, kernelOff := e.kernelOff || off }
    let s := match e.kernel with
      | some k => s.when off fun s => s.kernelEvent n 2 k
      | none => s
    let s := (s.put (Reg.ENG_FAULT_CAUSE n) 4).put (Reg.ENG_FAULT_IN_KERNEL n) 0
    let s := (s.put (Reg.ENG_FAULT_PC_PC n) e.r.pc).put (Reg.ENG_FAULT_PC_SLOT_Q n) 0
    let s := s.put (Reg.ENG_FAULT_PC_ADDR_HI n) (bits addr 8 16)
    let s := s.event (0x0040 + n) 0x0A01 ([4, 0] ++ bytesLE 2 e.r.pc ++ bytesLE 3 addr ++ [s.get (Reg.ENG_STAT_RESTARTS n)])
    s.firmwareFault n

/-- A frame held in packet memory is dropped and counted as an egress queue drop (R36): the frame at the head of the first queue that
holds one. -/
def State.dropHeadFrame (s : State) : State :=
  match s.fh.queues.find? fun e => !e.2.isEmpty with
  | none => s
  | some (k, l) => { s with fh := { s.fh with queues := s.fh.queues.set k l.tail } }.fthDrop (k / 4) 15

/-- A descriptor whose read failed lastingly completes BUS_ERROR with tag and opcode zero, and the ring goes on (R366). -/
def State.slotFailed (s : State) (r index : Nat) : State :=
  let x := s.ringPos r
  if !s.ringOn r || x % s.ringN r != index then s
  else
    let s := s.setRingPos r ((x + 1) % (2 * s.ringN r))
    let s := (s.add64 (Reg.HRG_RING_CNT r) 1).modRing r fun q => { q with retries := 0 }
    (s.writeCompletion (32 + s.get (Reg.HRG_RING_CFG_CQ r)) ⟨s.timeNs, r, 0, St.busError, 0, 0, bytesLE 2 index, false⟩).refreshRing r

/-! ## Classes, sources and thresholds (R500) -/

/-- Whether an engine counts faults of its own: one that is stopped, reloading or lost does not. -/
def State.engineCounts (s : State) (n : Nat) : Bool := decide (n ≥ 14) || s.engineRuns n

/-- The class of a fault, and its source within the class. -/
def faultClass : FailKind → Nat × Nat
  | .pathStore path _ => (0, path)
  | .beamEntry bank entry _ => (1, bank * 4096 + entry)
  | .engineMem n _ => (if n ≥ 14 then 3 else 2, n)
  | .otherSram addr _ => (4, addr / 65536)
  | .pcieDescriptor _ _ => (5, 0)
  | .pcieSluice _ => (5, 0)
  | .pcieTelemetry => (5, 0)
  | .sluiceBus ch => (6, ch)

/-- The device address of an engine's address: its program memory has none. -/
def engDeviceAddr (n addr : Nat) : Nat := if addr < 0x40000 then engData n + addr else 0

/-- The action at a threshold, with its record (R500, R512). -/
def State.thresholdAction (s : State) (k : FailKind) : State :=
  match k with
  | .pathStore p addr => (s.thresholdRecord 0 1 p addr).removePath p 1
  | .beamEntry bank entry addr => (s.thresholdRecord 1 2 entry addr).markBad bank entry addr
  | .engineMem n addr =>
    if n ≥ 14 then (s.thresholdRecord 3 4 n 0).engineEcc n addr 6
    else (s.thresholdRecord 2 3 n (engDeviceAddr n addr)).engineEcc n addr 4
  | .otherSram addr _ => (s.setF Reg.FLT_STAT_HOT_MEM).thresholdRecord 4 0 0 addr
  | .sluiceBus ch => (s.setF Reg.FLT_STAT_LINK_DEGRADED).thresholdRecord 6 0 ch 0
  | _ => (s.setF Reg.FLT_STAT_LINK_DEGRADED).thresholdRecord 5 0 0 0

/-- Put a fault into the window of its source, and act where the threshold is reached: the window then starts again. -/
def State.windowFault (s : State) (k : FailKind) : State :=
  let (c, src) := faultClass k
  let s := s.windowPut c src
  if s.windowFull c src then (s.windowClear c src).thresholdAction k else s

/-- Whether a fault's window runs: an engine that does not run has no faults of its own. -/
def State.windowRuns (s : State) (k : FailKind) : Bool :=
  match k with
  | .engineMem n _ => s.engineCounts n
  | _ => true

/-- A transient fault: the retry has succeeded. -/
def State.transientFault (s : State) (k : FailKind) : State :=
  let s := s.countClass (faultClass k).1
  if s.windowRuns k then s.windowFault k else s

/-- A lasting fault: the retry has failed too (R36). What a lasting failure of a Sluice access does to its descriptor is the effect of
SLUICE_DESCRIPTOR. -/
def State.lastingFault (s : State) (k : FailKind) : State :=
  match k with
  | .pathStore p _ => s.removePath p 0
  | .beamEntry bank entry addr => s.markBad bank entry addr
  | .engineMem n addr => if s.engineCounts n then s.engineEcc n addr 5 else s.countClass 2
  | .otherSram _ user =>
    let s := if user = 0 then s.overrun false else if user = 4 then s.overrun true else if user = 1 then s.dropHeadFrame else s
    s.windowFault k
  | .pcieDescriptor r index => s.slotFailed r index
  | .pcieTelemetry => { s with flt := { s.flt with telemetry := none } }.put Reg.FLT_STAT_TEL_ON 0
  | .pcieSluice _ => s
  | .sluiceBus _ => s

/-- Whether a failure names something the device has. -/
def realFail : FailKind → Bool
  | .pathStore p _ => decide (p < 64)
  | .beamEntry bank entry _ => decide (bank < 2 ∧ entry < 4096)
  | .engineMem n _ => decide (n < 16)
  | .otherSram _ user => decide (user < 5)
  | .pcieDescriptor r _ => decide (r < 32)
  | .pcieSluice ch => decide (ch < 32)
  | .pcieTelemetry => true
  | .sluiceBus ch => decide (ch < 32)

/-- ACCESS_RETRY (R36, R37, R500): the retry of a failed access, 1 µs after it, classifies the fault. -/
def execAccessRetry (k : FailKind) (ok : Bool) (s : State) : Host.Outcome State Fault Refusal :=
  .next (if !s.running || !realFail k then s else if ok then s.transientFault k else s.lastingFault k)

/-! ## Background work (R38, R39, R66) -/

/-- CALIBRATION_STEP (R39, R57, R109): a step that does not fit into its gap is abandoned; calibration pauses while the engine does not
run (R338). -/
def execCalibrationStep (tile : Nat) (fits late : Bool) (s : State) : Host.Outcome State Fault Refusal :=
  .next (if tile ≥ 8 || !s.engineRuns tile || s.tileState tile == 0 || decide (s.get Reg.PWR_STAT_STATE ≥ 2) then s
    else
      let s := s.when late fun s => s.lateFlag Reg.DEV_BG_STAT_CAL_LATE
      if fits then s.calTrims tile else s)

/-- The bank an adaptation writes: its values are open, within the form of R63 and the limit of R65. -/
def State.adaptedBank (s : State) : List Nat :=
  fit 128 ((((Config.dpdAdapted s.free).map (· % 2 ^ 64)).filter fun e => !dpdMalformed e).take (profileDpd s.profile))

/-- DPD_ADAPTATION (R66, R69): the tile engine has adapted a path that it owns: it writes the shadow bank and, at a slot boundary, swaps it
with a fade of `ADAPT_FADE` ticks. Adaptation pauses while the engine does not run (R338). -/
def execDpdAdaptation (path : Nat) (late : Bool) (s : State) : Host.Outcome State Fault Refusal :=
  let n := path / 8
  .next (if path ≥ 64 || !s.dpdOwned path || !s.engineRuns n || s.tileState n == 0 || decide (s.get Reg.PWR_STAT_STATE ≥ 2) then s
    else
      let s := s.when late fun s => s.lateFlag Reg.DEV_BG_STAT_DPD_LATE
      if s.dpdFading path || !s.atSlot then s
      else
        let s := (s.setDpdBank path (1 - s.dpdActive path) s.adaptedBank).fresh
        s.startDpdFades n (2 ^ (path % 8)) (s.get (Reg.TIL_DPD_CTL_ADAPT_FADE n)))

end Sys2Proof.Machine
end

