-- ==== Sys2Proof/Machine/CulvertTunnel.lean ====
section
/-! DEFINITION. The panel tunnel (R286 to R292): messages with their acknowledgments and resends, the registers of members, and the loss of
the lead. -/
namespace Sys2Proof.Machine
open Sys2Proof

/-! ## Roles -/

/-- Whether the device leads its panel: one that has stood down for a lead of lower position refuses tunnel traffic (R292). -/
def State.leads (s : State) : Bool := s.on Reg.CUL_CFG_LEAD && !s.cul.standDown

/-- Whether the lead can reach a position: another position of the panel, with a link up toward it (R289, R290). -/
def State.canReach (s : State) (pos : Nat) : Bool :=
  decide (pos ≤ s.get Reg.CUL_CFG_MEMBERS_M1) && pos != s.get Reg.CUL_CFG_POSITION && s.culState (s.tunnelRoute pos) == 2

/-! ## Sequence numbers (R287) -/

/-- Acknowledge the highest sequence number received in order. -/
def State.tunnelAck (s : State) (k : Nat) : State :=
  let p := s.peer k
  s.culSend p.route 3 (.tunnel k ⟨8, 0, (p.expect + 65535) % 65536, 0, 0, 0, []⟩)

/-- An acknowledgment covers every message up to its sequence number. -/
def State.tunnelAcked (s : State) (k seq : Nat) : State :=
  s.modPeer k fun p =>
    { p with unacked := p.unacked.filter fun x => !decide ((seq + 65536 - x.1.seq % 65536) % 65536 < 32768) }

/-- TUNNEL_RESEND (R287, R289): messages unacknowledged for 200 µs are sent again, the other way round where the link has failed. -/
def execTunnelResend (member : Nat) (s : State) : Host.Outcome State Fault Refusal :=
  let old := fun (x : TunnelMsg × Nat) => decide (x.2 + 200000 ≤ s.now)
  let late := (s.peer member).unacked.filter old
  .next (if late.isEmpty then s
    else
      let s := s.setRoute member
      let k := (s.peer member).route
      let s := s.modPeer member fun p => { p with unacked := p.unacked.map fun x => if old x then (x.1, s.now) else x }
      s.each late fun s x => (s.culSend k 3 (.tunnel member x.1)).add64 (Reg.CUL_LINK_CNT k 3) 1)

/-! ## Register accesses of the lead (R286, R290) -/

/-- The bits of a register that a write of 1 clears or sets. -/
def strobeMask (off : Nat) : Nat :=
  match findReg off with
  | none => 0
  | some d => (d.fields.filter fun f => f.acc == .w1c || f.acc == .w1s || f.acc == .wo).foldl
      (fun m f => m ||| putBits 0 f.lsb f.width (2 ^ f.width - 1)) 0

/-- The word a masked write gives: the other bits of the register as they stand, none of them cleared or set. -/
def State.maskedWord (s : State) (off value mask : Nat) : Nat :=
  let keep := s.readReg off
  (value &&& mask) ||| (keep - (keep &&& (mask ||| strobeMask off)))

/-- A register read or write that comes through the tunnel, and its completion. -/
def State.tunnelRegister (s : State) (k : Nat) (m : TunnelMsg) : State :=
  let off := m.addr
  let ok := off % 4 == 0
  let s := if ok && m.type == 6 then s.writeReg .lead off (s.maskedWord off (natLE (m.data.take 4)) (natLE ((m.data.drop 4).take 4)))
    else s
  let v := s.readAs .lead off
  let s := s.when (ok && m.type == 5) fun s => s.latch .lead off
  s.tunnelSend k ⟨7, m.tag, 0, b2n (!ok), m.addr, 4, bytesLE 4 (if ok then v else 0)⟩

/-- A register completion fills its entry; with none outstanding the `CUL_REG` completes. -/
def State.registerCompletion (s : State) (member : Nat) (m : TunnelMsg) : State :=
  match s.cul.regJobs.find? fun j => j.pos == member && j.waiting.any fun w => w.1 == m.tag with
  | none => s
  | some j =>
    let i := ((j.waiting.find? fun w => w.1 == m.tag).map Prod.snd).getD 0
    let s := if m.status = 0 then s.hostWrite (j.addr + 16 * i + 8) (fit 4 m.data) else s
    let j' : CulRegJob := { j with waiting := j.waiting.filter fun w => w.1 != m.tag, failed := j.failed || m.status != 0 }
    let rest := s.cul.regJobs.erase j
    if j'.waiting.isEmpty then
      { s with cul := { s.cul with regJobs := rest } }.complete j.hdr 0x7A (if j'.failed then St.busError else St.done)
    else { s with cul := { s.cul with regJobs := rest ++ [j'] } }

/-- CUL_REG (R290): at the lead, for a position that it can reach. -/
def execCulReg (h : Hdr) (pos n addr : Nat) (s : State) : Host.Outcome State Fault Refusal :=
  .next (s.acceptNow h 0x7A (firstFail [(decide (1 ≤ n ∧ n ≤ 8 ∧ pos < 8), St.range), (s.leads && s.canReach pos, St.notReady),
      (s.hostUp, St.busError)]) fun s =>
    let base := s.cul.nextTag
    let tags := (List.range n).map fun i => ((base + i) % 256, i)
    let job : CulRegJob := ⟨h, pos, addr, tags, false⟩
    let s := { s with cul := { s.cul with nextTag := (base + n) % 256, regJobs := s.cul.regJobs ++ [job] } }
    s.each tags fun s w =>
      let e := s.hostRead (addr + 16 * w.2) 16
      let write := bit (nth e 0) 0
      s.tunnelSend pos ⟨if write then 6 else 5, w.1, 0, 0, natLE ((e.drop 4).take 4), if write then 8 else 0,
        if write then (e.drop 8).take 8 else []⟩)

/-! ## Messages -/

/-- A memory request of a member, issued by the lead (R286, R287). -/
def State.memberRequest (s : State) (k : Nat) (m : TunnelMsg) : State :=
  let ok := s.hostUp && decide (m.len ≤ 4096)
  if m.type = 1 then
    s.tunnelSend k ⟨3, m.tag, 0, b2n (!ok), m.addr, if ok then m.len else 0, if ok then s.hostRead m.addr m.len else []⟩
  else if ok then s.hostWrite m.addr (fit m.len m.data)
  else s

/-- A doorbell message: a write to the member's own doorbell area (R288). -/
def State.tunnelledDoorbell (s : State) (m : TunnelMsg) : State :=
  let off := m.addr
  if off < 0x8000 ∧ off % 0x1000 < 0x40 ∧ off % 8 < 4 then
    s.doorbellWrite (off / 0x1000 * 8 + off % 0x1000 / 8) (natLE m.data) (if off % 4 = 0 then m.len else 0)
  else s

/-- The effect of a message received in order. -/
def State.tunnelEffect (s : State) (k : Nat) (m : TunnelMsg) : State :=
  if s.leads then
    let s := { s with cul := { s.cul with tunnelled := putBit s.cul.tunnelled k true } }
    if m.type = 1 ∨ m.type = 2 then s.memberRequest k m
    else if m.type = 7 then s.registerCompletion k m
    else s
  else if m.type = 4 then (if s.boot.tunnel then s.tunnelledDoorbell m else s)
  else if m.type = 5 ∨ m.type = 6 then s.tunnelRegister k m
  else s

/-- Whether a message is one that only a lead sends. -/
def fromLead (m : TunnelMsg) : Bool := decide (3 ≤ m.type ∧ m.type ≤ 6)

/-- TUNNEL_MESSAGE (R286 to R289, R292): a message from a peer, by the key of its direction pair. Messages are taken in sequence; others are
dropped and the highest in-order number acknowledged again. A lead that hears a lead of lower position stands down. -/
def execTunnelMessage (link member : Nat) (m : TunnelMsg) (s : State) : Host.Outcome State Fault Refusal :=
  .next (if link ≥ 2 || s.culState link != 2 || member > 8 || s.cul.standDown then s
    else if s.leads && fromLead m then
      (if member < s.get Reg.CUL_CFG_POSITION then
        { s with cul := { s.cul with standDown := true } }.event 0x0034 0x0804 [member, 0]
      else s)
    else
      let s := s.when (!s.leads) fun s => s.modPeer member fun p => { p with route := link }
      if m.type = 8 then s.tunnelAcked member m.seq
      else if m.seq % 65536 ≠ (s.peer member).expect then s.tunnelAck member
      else
        let s := s.modPeer member fun p => { p with expect := (p.expect + 1) % 65536 }
        (s.tunnelAck member).tunnelEffect member m)

/-- Whether a failure is a completion timeout on a read of host memory. -/
def pcieFail : FailKind → Bool
  | .pcieDescriptor _ _ => true
  | .pcieSluice _ => true
  | .pathStore _ _ => false
  | .beamEntry _ _ _ => false
  | .engineMem _ _ => false
  | .otherSram _ _ => false
  | .pcieTelemetry => false
  | .sluiceBus _ => false

/-- TUNNEL_READ_TIMEOUT (R287, R36): a memory read without a completion for 500 µs counts as a PCIe completion timeout. Its retry goes the
same way: it succeeds while the device has a way to its lead. -/
def execTunnelReadTimeout (k : FailKind) (s : State) : Host.Outcome State Fault Refusal :=
  .next (if !s.boot.tunnel || !pcieFail k || !realFail k || !s.running then s
    else if s.hostUp && s.culState (s.tunnelRoute 8) == 2 then s.transientFault k
    else s.lastingFault k)

/-- LEAD_UNREACHABLE (R289, R16, R551): a member reaches no lead for 10 ms, or its lead returns. -/
def execLeadUnreachable (lost : Bool) (s : State) : Host.Outcome State Fault Refusal :=
  let pos := s.get Reg.CUL_CFG_POSITION
  .next (if !s.boot.tunnel || !s.inService || s.cul.leadLost == lost then s
    else if lost then { s with cul := { s.cul with leadLost := true } }.event 0x0034 0x0804 [pos, 0]
    else
      let s := { s with cul := { s.cul with leadLost := false } }
      ((s.setF Reg.HRG_STAT_READY).event 0x0034 0x0804 [pos, 1]).hostReturns)

end Sys2Proof.Machine
end

