-- ==== Sys2Proof/Machine/Package.lean ====
section
/-! DEFINITION. The package's management and test interfaces (R532 to R537): the SMBus target with its alert, and the test access port. -/
namespace Sys2Proof.Machine
open Sys2Proof

/-! ## SMBus (R534, R535) -/

/-- Whether the SMBus target answers: the device is out of reset. -/
def State.smbAnswers (s : State) : Bool := s.running

/-- SMB_SET_OFFSET (R534): command 0x10. A wrong PEC is refused and has no effect. -/
def execSmbSetOffset (off : Nat) (pecOk : Bool) (s : State) : Host.Outcome State Fault Refusal :=
  .next (if s.smbAnswers && pecOk then { s with pkg := { s.pkg with smbOffset := off } } else s)

/-- SMB_READ (R534, R34): command 0x11. Four bytes of the register, then the status: 0 success, 2 for an offset out of reach or not
aligned. -/
def execSmbRead (pecOk : Bool) (s : State) : Host.Outcome State Fault Refusal :=
  let off := s.pkg.smbOffset
  .next (if !s.smbAnswers || !pecOk then s
    else if s.mayRead .smbus off && off % 4 == 0 then
      let bytes := bytesLE 4 (s.readAs .smbus off) ++ [0]
      let s := s.latch .smbus off
      { s with pkg := { s.pkg with smbOut := bytes } }
    else { s with pkg := { s.pkg with smbOut := [0, 0, 0, 0, 2] } })

/-- SMB_WRITE (R534): command 0x12. -/
def execSmbWrite (off value : Nat) (pecOk : Bool) (s : State) : Host.Outcome State Fault Refusal :=
  .next (if s.smbAnswers && pecOk && off % 4 == 0 then s.writeReg .smbus off value else s)

/-- Whether `SMB_ALERT_N` is low (R535). -/
def State.smbAlert (s : State) : Bool :=
  decide (s.get Reg.THM_STAT_LEVEL ≥ 2) || s.trip || s.on Reg.FLT_DUMP_STAT_FLASH_PENDING

/-- ALERT_RESPONSE (R535): while `SMB_ALERT_N` is low the device answers the alert response address with its own address. -/
def execAlertResponse (s : State) : Host.Outcome State Fault Refusal :=
  .next (if s.smbAnswers && s.smbAlert then { s with pkg := { s.pkg with smbOut := [s.pkg.smbAddr] } } else s)

/-! ## The test access port (R537) -/

/-- TEST_EN_RISE (R537): the device is held in reset as though `RSTN` were low, and records `PIN`. -/
def execTestEnRise (s : State) : Host.Outcome State Fault Refusal :=
  let s := s.restart 2 false
  .next { s with boot := { s.boot with testEn := true } }

/-- An instruction of the test access port comes into force, with the bits its data register captures. -/
def State.setIr (s : State) (ir : JtagIr) (bits : List Bool) : State := { s with pkg := { s.pkg with ir := ir, captured := bits } }

/-- The instruction BYPASS: one bit, captured as 0. -/
def State.tapBypass (s : State) : State := s.setIr .bypass [false]

/-- IDCODE (R537): version 1, part 0x6408, the manufacturer field. -/
def idcodeValue : Nat := 0x164080C3

/-- An instruction that takes effect only while `TEST_EN` is high, and otherwise acts as BYPASS. -/
def State.tapTest (s : State) (ir : JtagIr) (sample : Bool) : State :=
  if !s.boot.testEn then s.tapBypass
  else if sample then (s.setIr ir (Config.pinSample s.free)).fresh
  else s.setIr ir [false]

/-- BYPASS (R537). -/
def execBypass (s : State) : Host.Outcome State Fault Refusal := .next s.tapBypass

/-- IDCODE (R537). -/
def execIdcode (s : State) : Host.Outcome State Fault Refusal :=
  .next (s.setIr .idcode ((List.range 32).map fun i => bit idcodeValue i))

/-- SAMPLE/PRELOAD (R537): the pins are sampled, and the boundary register is loaded. -/
def execSamplePreload (data : List Bool) (s : State) : Host.Outcome State Fault Refusal :=
  let s := (s.setIr .samplePreload (Config.pinSample s.free)).fresh
  .next { s with pkg := { s.pkg with boundary := data } }

/-- EXTEST, EXTEST_PULSE, EXTEST_TRAIN (R537). -/
def execExtest (s : State) : Host.Outcome State Fault Refusal := .next (s.tapTest .extest true)
def execExtestPulse (s : State) : Host.Outcome State Fault Refusal := .next (s.tapTest .extestPulse true)
def execExtestTrain (s : State) : Host.Outcome State Fault Refusal := .next (s.tapTest .extestTrain true)

/-- CLAMP and HIGHZ (R537). -/
def execClamp (s : State) : Host.Outcome State Fault Refusal := .next (s.tapTest .clamp false)
def execHighz (s : State) : Host.Outcome State Fault Refusal := .next (s.tapTest .highz false)

/-- Whether the ball of a `PA_EN` or `FE_TRSW` cell is driven low by the test access port: under EXTEST these cells observe only. -/
def State.scanDrivesLow (s : State) : Bool :=
  s.pkg.ir == .extest || s.pkg.ir == .extestPulse || s.pkg.ir == .extestTrain

end Sys2Proof.Machine
end

