-- ==== Sys2Proof/Machine/Rings.lean ====
section
/-! DEFINITION. The fetch of descriptors and the timed store: the byte layout of every ring command (R83, R117, R158, R191, R229, R263,
R290, R319, R348, R357, R360, R391, R415, R463, R482, R498, R511), `NOP`, `PROFILE` and `NOW` (R360), the fetch (R361), the phase check
(R363), and the moments e − 2 and e of timed commands (R364, R365). -/
namespace Sys2Proof.Machine
open Sys2Proof

/-! ## NOP, PROFILE, NOW -/

/-- NOP (R360). -/
def execNop (h : Hdr) (s : State) : Host.Outcome State Fault Refusal :=
  .next (s.acceptNow h 0x00 none fun s => s.complete h 0x00 St.done)

/-- NOW (R360): the frame and tick in progress at the fetch. -/
def execNow (h : Hdr) (s : State) : Host.Outcome State Fault Refusal :=
  .next (s.acceptNow h 0x02 none fun s => s.completeR h 0x02 St.done s.lateResult)

/-- Whether the configuration in force is within the budget of a profile (R27, R29, R65); a covariance set needs SOUNDING (R141), and a
WHOLE carrier WHOLE-ARRAY (R212). -/
def State.profileFits (s : State) (p : Nat) : Bool :=
  s.layersFit p && s.arrayFits p && ((List.range 8).all fun n => s.txTileFits p n && s.rxTileFits p n) &&
    ((List.range 64).all fun q => decide (dpdCount (s.dpdBank q (s.dpdActive q)) ≤ profileDpd p)) &&
    (p == 3 || s.beam.cov.isEmpty) && (p == 4 || (List.range 8).all fun c => !(s.fhCfg 1 c).whole)

/-- PROFILE (R29, R360): it waits for the next frame boundary. -/
def execProfile (h : Hdr) (p : Nat) (s : State) : Host.Outcome State Fault Refusal :=
  .next (s.acceptNow h 0x01 (rangeUnless [decide (p ≤ 4), s.profileFits p]) fun s =>
    let e : Hdr × Nat × Int := (h, p, s.frame + 1)
    { s with host := { s.host with profilePending := s.host.profilePending ++ [e] } })

/-! ## The byte layout of the commands -/

/-- The little-endian field of n bytes at an offset of a descriptor. -/
def dNat (d : List Nat) (off n : Nat) : Nat := natLE ((d.drop off).take n)

/-- The byte at an offset of a descriptor. -/
def dByte (d : List Nat) (off : Nat) : Nat := nth d off

/-- The operation that stands at an offset of an `RFFE_XFER` descriptor (R191). -/
def dRffe (d : List Nat) (off : Nat) : RffeOp :=
  ⟨bits (dByte d off) 0 4, bits (dByte d off) 4 4, dByte d (off + 1), dNat d (off + 2) 2, dNat d (off + 4) 4⟩

/-- The common header of a descriptor (R357). -/
def dHdr (ring : Nat) (d : List Nat) : Hdr :=
  ⟨ring, dNat d 2 2, bit (dByte d 1) 1, bit (dByte d 1) 2, dNat d 4 4, dNat d 8 2⟩

/-- The command bytes that each opcode of this group uses, as first byte, count and mask (R360, R463). -/
def usedBasic (op : Nat) : List (Nat × Nat × Nat) :=
  match op with
  | 0x01 => [(16, 1, 7)]
  | 0x10 => [(16, 2, 255), (18, 1, 7), (20, 4, 255)]
  | _ => []

/-- The commands of this group, from the bytes of a descriptor (R360, R463). -/
def decodeBasic (op : Nat) (d : List Nat) : Option Cmd :=
  match op with
  | 0x00 => some (.nop)
  | 0x01 => some (.profile (bits (dByte d 16) 0 3))
  | 0x02 => some (.now)
  | 0x10 => some (.pwrState (dByte d 16) (dByte d 17) (dByte d 18) (dNat d 20 4))
  | _ => none

/-- The command bytes that each opcode of this group uses, as first byte, count and mask (R83). -/
def usedTx (op : Nat) : List (Nat × Nat × Nat) :=
  match op with
  | 0x20 => [(16, 1, 255), (17, 1, 135), (18, 1, 15), (19, 11, 255), (32, 3, 255), (35, 1, 1), (36, 1, 255)]
  | 0x21 => [(16, 1, 255), (17, 1, 3), (18, 22, 255)]
  | 0x22 => [(16, 4, 255), (24, 8, 255)]
  | 0x23 => [(16, 3, 255)]
  | 0x24 => [(16, 2, 255), (18, 1, 131), (20, 2, 255)]
  | 0x25 => [(16, 18, 255), (34, 1, 3)]
  | _ => []

/-- The commands of this group, from the bytes of a descriptor (R83). -/
def decodeTx (op : Nat) (d : List Nat) : Option Cmd :=
  match op with
  | 0x20 => some (.txCarrier ⟨(dByte d 16), (bits (dByte d 17) 0 3), (bit (dByte d 17) 7), (dByte d 18), (dByte d 19), (dNat d 20 2),
      (dNat d 22 2), (dNat d 24 6), (dNat d 32 4), (dByte d 36)⟩)
  | 0x21 => some (.txTile ⟨(dByte d 16), (bit (dByte d 17) 0), (bit (dByte d 17) 1), (dNat d 18 6), (List.range 8).map fun i => dNat d
      (24 + 2 * i) 2⟩)
  | 0x22 => some (.dpdLoad (dByte d 16) (dByte d 17) (dNat d 18 2) (dNat d 24 8))
  | 0x23 => some (.dpdSwap (dByte d 16) (dByte d 17) (dByte d 18))
  | 0x24 => some (.biasSet ⟨(dByte d 16), (dByte d 17), (bits (dByte d 18) 0 2), (bit (dByte d 18) 7), (dNat d 20 2)⟩)
  | 0x25 => some (.ddsTone ⟨(dNat d 16 8), (dNat d 24 6), (dNat d 30 2), (dNat d 32 2), (bit (dByte d 34) 0), (bit (dByte d 34) 1)⟩)
  | _ => none

/-- The command bytes that each opcode of this group uses, as first byte, count and mask (R117). -/
def usedRx (op : Nat) : List (Nat × Nat × Nat) :=
  match op with
  | 0x30 => [(16, 1, 255), (17, 1, 135), (18, 1, 7), (19, 11, 255), (30, 1, 31), (32, 3, 255), (35, 1, 1), (36, 2, 255)]
  | 0x31 => [(16, 1, 255), (17, 1, 143), (18, 3, 255), (21, 1, 63), (22, 4, 255), (26, 1, 31), (28, 4, 255)]
  | 0x32 => [(16, 1, 1)]
  | _ => []

/-- The commands of this group, from the bytes of a descriptor (R117). -/
def decodeRx (op : Nat) (d : List Nat) : Option Cmd :=
  match op with
  | 0x30 => some (.rxCarrier ⟨(dByte d 16), (bits (dByte d 17) 0 3), (bit (dByte d 17) 7), (dByte d 18), (dByte d 19), (dNat d 20 2),
      (dNat d 22 2), (dNat d 24 6), (dByte d 30), (dNat d 32 4), (dNat d 36 2)⟩)
  | 0x31 => some (.rxExtract ⟨(dByte d 16), (bits (dByte d 17) 0 4), (bit (dByte d 17) 7), (dByte d 18), (dByte d 19), (dNat d 20 2),
      (dNat d 22 2), (dNat d 24 2), (bits (dByte d 26) 0 2), (bits (dByte d 26) 2 3), (dNat d 28 2), (dNat d 30 2)⟩)
  | 0x32 => some (.rxSync (bit (dByte d 16) 0))
  | _ => none

/-- The command bytes that each opcode of this group uses, as first byte, count and mask (R158). -/
def usedBeam (op : Nat) : List (Nat × Nat × Nat) :=
  match op with
  | 0x40 => [(16, 1, 135), (17, 1, 255), (18, 1, 7), (20, 16, 255)]
  | 0x41 => [(16, 1, 15), (18, 4, 255), (24, 16, 255)]
  | 0x42 => [(16, 1, 255)]
  | 0x43 => [(16, 1, 135), (17, 16, 255), (33, 1, 63), (34, 1, 31), (36, 8, 255)]
  | 0x44 => [(16, 1, 143), (17, 18, 255), (36, 7, 255), (43, 1, 3), (44, 3, 255), (48, 2, 255)]
  | 0x45 => [(16, 1, 159), (17, 11, 255), (28, 1, 3), (30, 7, 255)]
  | _ => []

/-- The commands of this group, from the bytes of a descriptor (R158). -/
def decodeBeam (op : Nat) (d : List Nat) : Option Cmd :=
  match op with
  | 0x40 => some (.bfLayers (bits (dByte d 16) 0 3) (bit (dByte d 16) 7) (dByte d 17) (bits (dByte d 18) 0 3) (dNat d 20 16))
  | 0x41 => some (.beamLoad ⟨(bits (dByte d 16) 0 1), (bit (dByte d 16) 1), (bit (dByte d 16) 2), (bit (dByte d 16) 3), (dNat d 18 2),
      (dNat d 20 2), (dNat d 24 8), (dNat d 32 8)⟩)
  | 0x42 => some (.beamSwap (dByte d 16))
  | 0x43 => some (.covSetup ⟨(bits (dByte d 16) 0 3), (bit (dByte d 16) 7), (dByte d 17), (dNat d 18 2), (dNat d 20 2), (dNat d 22 2),
      (dNat d 24 2), (dNat d 26 2), (dNat d 28 2), (dNat d 30 2), (dNat d 32 2), (bit (dByte d 34) 0), (bits (dByte d 34) 1 4), (dNat d
      36 8)⟩)
  | 0x44 => some (.acdOccasion ⟨(bits (dByte d 16) 0 4), (bit (dByte d 16) 7), (dByte d 17), (dByte d 18), (dByte d 19), (dByte d 20),
      (dByte d 21), (dByte d 22), (dByte d 23), (dNat d 24 10), (dByte d 34), (dNat d 36 2), (dNat d 38 2), (dNat d 40 2), (dByte d
      42), (bits (dByte d 43) 0 2), (dNat d 44 2), (dByte d 46), (dNat d 48 2)⟩)
  | 0x45 => some (.foReport ⟨(bits (dByte d 16) 0 5), (bit (dByte d 16) 7), (dByte d 17), (dNat d 18 4), (dByte d 22), (dByte d 23),
      (dNat d 24 2), (dNat d 26 2), (bits (dByte d 28) 0 2), (dNat d 30 2), (dNat d 32 2), (dNat d 34 2), (dByte d 36)⟩)
  | _ => none

/-- The command bytes that each opcode of this group uses, as first byte, count and mask (R191). -/
def usedRadio (op : Nat) : List (Nat × Nat × Nat) :=
  match op with
  | 0x50 => [(24, 8, 255)]
  | 0x51 => [(16, 8, 255)]
  | 0x52 => [(16, 4, 255), (24, 8, 255)]
  | 0x53 => [(16, 2, 255)]
  | 0x54 => [(16, 3, 255), (24, 40, 255)]
  | 0x56 => [(16, 2, 255), (18, 1, 3)]
  | _ => []

/-- The commands of this group, from the bytes of a descriptor (R191). -/
def decodeRadio (op : Nat) (d : List Nat) : Option Cmd :=
  match op with
  | 0x50 => some (.leveeCert (dNat d 24 8))
  | 0x51 => some (.leveeUnmute (dNat d 16 8))
  | 0x52 => some (.rctPattern (dByte d 16) (dByte d 17) (dNat d 18 2) (dNat d 24 8) [])
  | 0x53 => some (.tileState (dByte d 16) (dByte d 17))
  | 0x54 => some (.rffeXfer ⟨(dByte d 16), (dByte d 17), (dByte d 18), [dRffe d 24, dRffe d 32, dRffe d 40, dRffe d 48], (dNat d 56 8)⟩)
  | 0x55 => some (.synRecal)
  | 0x56 => some (.aerial (dByte d 16) (dByte d 17) (bit (dByte d 18) 0) (bit (dByte d 18) 1))
  | _ => none

/-- The command bytes that each opcode of this group uses, as first byte, count and mask (R229). -/
def usedFh (op : Nat) : List (Nat × Nat × Nat) :=
  match op with
  | 0x60 => [(16, 1, 135), (17, 2, 255), (19, 1, 1)]
  | 0x61 => [(16, 1, 255), (17, 1, 7), (18, 5, 255), (23, 1, 239), (24, 15, 255), (39, 1, 31), (40, 1, 255), (41, 1, 7), (42, 6, 255)]
  | 0x62 => [(16, 1, 255)]
  | 0x63 => [(16, 1, 255), (17, 1, 1), (18, 9, 255), (32, 8, 255)]
  | _ => []

/-- The commands of this group, from the bytes of a descriptor (R229). -/
def decodeFh (op : Nat) (d : List Nat) : Option Cmd :=
  match op with
  | 0x60 => some (.fhCarrier ⟨(bits (dByte d 16) 0 3), (bit (dByte d 16) 7), (dByte d 17), (bits (dByte d 18) 0 4), (bits (dByte d 18) 4
      4), (bit (dByte d 19) 0)⟩)
  | 0x61 => some (.coopSet ⟨(dByte d 16), (bit (dByte d 17) 0), (bit (dByte d 17) 1), (bit (dByte d 17) 2), (dByte d 18), (dByte d 19),
      (dNat d 20 2), bits (dNat d 22 2) 0 12, (bits (dByte d 23) 5 3), (dNat d 24 6), (dByte d 30), (dByte d 31), (dNat d 32 6), (dByte
      d 38), (bits (dByte d 39) 0 5), (dByte d 40), (bits (dByte d 41) 0 3), (dByte d 42), (dByte d 43), (dNat d 44 4)⟩)
  | 0x62 => some (.msecRekey (dByte d 16))
  | 0x63 => some (.fhOwdm ⟨(dByte d 16), (bit (dByte d 17) 0), (dNat d 18 6), (dNat d 24 2), (dByte d 26), (dNat d 32 8)⟩)
  | _ => none

/-- The command bytes that each opcode of this group uses, as first byte, count and mask (R263, R290). -/
def usedLane (op : Nat) : List (Nat × Nat × Nat) :=
  match op with
  | 0x70 => [(16, 2, 255), (18, 1, 1)]
  | 0x71 => [(16, 8, 255)]
  | 0x72 => [(16, 1, 255), (24, 8, 255)]
  | 0x73 => [(16, 2, 255), (24, 8, 255)]
  | 0x74 => [(24, 8, 255)]
  | 0x78 => [(16, 1, 255), (17, 1, 15), (18, 1, 1)]
  | 0x79 => [(16, 7, 255), (24, 8, 255)]
  | 0x7A => [(16, 2, 255), (24, 8, 255)]
  | _ => []

/-- The commands of this group, from the bytes of a descriptor (R263, R290). -/
def decodeLane (op : Nat) (d : List Nat) : Option Cmd :=
  match op with
  | 0x70 => some (.lineMode (dByte d 16) (dByte d 17) (bit (dByte d 18) 0))
  | 0x71 => some (.lineRestart (dNat d 16 8))
  | 0x72 => some (.lineSnapshot (dByte d 16) (dNat d 24 8))
  | 0x73 => some (.lineTest (dByte d 16) (dByte d 17) (dNat d 24 8))
  | 0x74 => some (.lineRmute (dNat d 24 8))
  | 0x78 => some (.culSleep (dNat d 16 2) (bit (dByte d 18) 0))
  | 0x79 => some (.culEyescan (dNat d 16 2) (dByte d 18) (dByte d 19) (dByte d 20) (dByte d 21) (dByte d 22) (dNat d 24 8))
  | 0x7A => some (.culReg (dByte d 16) (dByte d 17) (dNat d 24 8))
  | _ => none

/-- The command bytes that each opcode of this group uses, as first byte, count and mask (R319, R348). -/
def usedTime (op : Nat) : List (Nat × Nat × Nat) :=
  match op with
  | 0x80 => [(16, 6, 255), (24, 4, 255)]
  | 0x81 => [(16, 4, 255)]
  | 0x82 => [(16, 3, 255), (20, 6, 255), (32, 8, 255)]
  | 0x90 => [(16, 2, 255), (24, 12, 255)]
  | 0x91 => [(16, 2, 255)]
  | _ => []

/-- The commands of this group, from the bytes of a descriptor (R319, R348). -/
def decodeTime (op : Nat) (d : List Nat) : Option Cmd :=
  match op with
  | 0x80 => some (.timeStep (dNat d 16 6) (dNat d 24 4))
  | 0x81 => some (.timeEpoch (dNat d 16 4))
  | 0x82 => some (.otaCal ⟨(dByte d 16), (dByte d 17), (dByte d 18), (dNat d 20 2), (dNat d 22 2), (dNat d 24 2), (dNat d 32 8)⟩)
  | 0x90 => some (.engKernel (dByte d 16) (dByte d 17) (dNat d 24 8) (dNat d 32 4))
  | 0x91 => some (.engMode (dByte d 16) (dByte d 17))
  | _ => none

/-- The command bytes that each opcode of this group uses, as first byte, count and mask (R391, R415). -/
def usedSys (op : Nat) : List (Nat × Nat × Nat) :=
  match op with
  | 0xA0 => [(16, 1, 255), (17, 1, 1), (24, 8, 255)]
  | 0xA1 => [(16, 1, 255)]
  | 0xB0 => [(24, 8, 255)]
  | 0xB1 => [(24, 16, 255)]
  | 0xB2 => [(16, 2, 255)]
  | 0xB3 => [(16, 3, 255)]
  | 0xB4 => [(16, 1, 255), (24, 8, 255)]
  | 0xB5 => [(24, 8, 255)]
  | 0xB6 => [(16, 16, 255)]
  | _ => []

/-- The commands of this group, from the bytes of a descriptor (R391, R415). -/
def decodeSys (op : Nat) (d : List Nat) : Option Cmd :=
  match op with
  | 0xA0 => some (.sluChain (dByte d 16) (bit (dByte d 17) 0) (dNat d 24 8))
  | 0xA1 => some (.sluStop (dByte d 16))
  | 0xB0 => some (.seaIdentity (dNat d 24 8))
  | 0xB1 => some (.seaAttest (dNat d 24 8) (dNat d 32 8))
  | 0xB2 => some (.seaSetId (dNat d 16 2))
  | 0xB3 => some (.seaCommit (dByte d 16) (dNat d 17 2))
  | 0xB4 => some (.seaEnrol (dByte d 16) (dNat d 24 8))
  | 0xB5 => some (.seaCak (dNat d 24 8))
  | 0xB6 => some (.seaRetire (dNat d 16 16))
  | _ => none

/-- The command bytes that each opcode of this group uses, as first byte, count and mask (R482, R498). -/
def usedGau (op : Nat) : List (Nat × Nat × Nat) :=
  match op with
  | 0xC8 => [(16, 11, 255)]
  | 0xC9 => [(16, 2, 255), (18, 2, 63), (20, 16, 255), (36, 1, 143), (37, 1, 7), (38, 1, 255), (40, 6, 255), (48, 16, 255)]
  | 0xCA => [(16, 1, 255)]
  | 0xCB => [(16, 1, 255)]
  | 0xCC => [(24, 8, 255)]
  | _ => []

/-- The commands of this group, from the bytes of a descriptor (R482, R498). -/
def decodeGau (op : Nat) (d : List Nat) : Option Cmd :=
  match op with
  | 0xC0 => some (.hkaInject)
  | 0xC8 => some (.gauStream ⟨(dByte d 16), (dByte d 17), (dByte d 18), (dByte d 19), (dNat d 20 2), (dNat d 22 2), (dNat d 24 2), (dByte
      d 26)⟩)
  | 0xC9 => some (.gauArm ⟨(dByte d 16), (dByte d 17), (bit (dByte d 18) 0), (bit (dByte d 18) 1), (bit (dByte d 18) 2), (bit (dByte d
      18) 3), (bit (dByte d 18) 4), (bit (dByte d 18) 5), (bits (dByte d 19) 0 6), (dNat d 20 4), (dNat d 24 4), (dNat d 28 4), (dNat d
      32 2), (dNat d 34 2), (bits (dByte d 36) 0 4), (bit (dByte d 36) 7), (bits (dByte d 37) 0 3), (dByte d 38), (dNat d 40 4), (dNat
      d 44 2), (dNat d 48 4), (dNat d 52 8), (dNat d 60 4)⟩)
  | 0xCA => some (.gauStop (dByte d 16))
  | 0xCB => some (.gauForce (dByte d 16))
  | 0xCC => some (.gauMask (dNat d 24 8))
  | _ => none

/-- The command bytes that each opcode of this group uses, as first byte, count and mask (R511). -/
def usedFlt (op : Nat) : List (Nat × Nat × Nat) :=
  match op with
  | 0xD0 => [(16, 1, 3), (24, 12, 255)]
  | 0xD1 => [(16, 1, 1), (24, 8, 255)]
  | 0xD2 => [(16, 2, 255), (24, 8, 255)]
  | 0xD3 => [(16, 4, 255), (24, 8, 255)]
  | 0xD4 => [(16, 8, 255)]
  | _ => []

/-- The commands of this group, from the bytes of a descriptor (R511). -/
def decodeFlt (op : Nat) (d : List Nat) : Option Cmd :=
  match op with
  | 0xD0 => some (.fltDumpRegion (bit (dByte d 16) 0) (bit (dByte d 16) 1) (dNat d 24 8) (dNat d 32 4))
  | 0xD1 => some (.fltDumpFetch (bit (dByte d 16) 0) (dNat d 24 8))
  | 0xD2 => some (.telSetup (dByte d 16) (dByte d 17) (dNat d 24 8))
  | 0xD3 => some (.logRead (dNat d 16 4) (dNat d 24 8))
  | 0xD4 => some (.pathRestore (dNat d 16 8))
  | 0xD5 => some (.fltDumpTest)
  | _ => none

/-- The group of an opcode, by its high digit (R359). -/
def descriptorCmd (op : Nat) (d : List Nat) : Option Cmd :=
  match op / 16 with
  | 0 => decodeBasic op d
  | 1 => decodeBasic op d
  | 2 => decodeTx op d
  | 3 => decodeRx op d
  | 4 => decodeBeam op d
  | 5 => decodeRadio op d
  | 6 => decodeFh op d
  | 7 => decodeLane op d
  | 8 => decodeTime op d
  | 9 => decodeTime op d
  | 10 => decodeSys op d
  | 11 => decodeSys op d
  | 12 => decodeGau op d
  | 13 => decodeFlt op d
  | _ => none

/-- The bytes an opcode uses. -/
def usedOf (op : Nat) : List (Nat × Nat × Nat) :=
  match op / 16 with
  | 0 => usedBasic op
  | 1 => usedBasic op
  | 2 => usedTx op
  | 3 => usedRx op
  | 4 => usedBeam op
  | 5 => usedRadio op
  | 6 => usedFh op
  | 7 => usedLane op
  | 8 => usedTime op
  | 9 => usedTime op
  | 10 => usedSys op
  | 11 => usedSys op
  | 12 => usedGau op
  | 13 => usedFlt op
  | _ => []

/-- The bits of byte i that a list of used bytes admits. -/
def usedMask (l : List (Nat × Nat × Nat)) (i : Nat) : Nat :=
  match l.find? fun e => decide (e.1 ≤ i ∧ i < e.1 + e.2.1) with
  | some e => e.2.2
  | none => 0

/-- Whether every reserved bit of a descriptor is zero (R83, R357, R358). -/
def reservedOk (op : Nat) (d : List Nat) : Bool :=
  decide (dByte d 1 < 8) && ((List.range' 10 6).all fun i => dByte d i == 0) &&
    (List.range' 16 48).all fun i => Nat.land (dByte d i) (255 - usedMask (usedOf op) i) == 0

/-- The opcode of a command. -/
def opcodeOf : Cmd → Nat
  | .nop => 0x00
  | .profile _ => 0x01
  | .now => 0x02
  | .pwrState _ _ _ _ => 0x10
  | .txCarrier _ => 0x20
  | .txTile _ => 0x21
  | .dpdLoad _ _ _ _ => 0x22
  | .dpdSwap _ _ _ => 0x23
  | .biasSet _ => 0x24
  | .ddsTone _ => 0x25
  | .rxCarrier _ => 0x30
  | .rxExtract _ => 0x31
  | .rxSync _ => 0x32
  | .bfLayers _ _ _ _ _ => 0x40
  | .beamLoad _ => 0x41
  | .beamSwap _ => 0x42
  | .covSetup _ => 0x43
  | .acdOccasion _ => 0x44
  | .foReport _ => 0x45
  | .leveeCert _ => 0x50
  | .leveeUnmute _ => 0x51
  | .rctPattern _ _ _ _ _ => 0x52
  | .tileState _ _ => 0x53
  | .rffeXfer _ => 0x54
  | .synRecal => 0x55
  | .aerial _ _ _ _ => 0x56
  | .fhCarrier _ => 0x60
  | .coopSet _ => 0x61
  | .msecRekey _ => 0x62
  | .fhOwdm _ => 0x63
  | .lineMode _ _ _ => 0x70
  | .lineRestart _ => 0x71
  | .lineSnapshot _ _ => 0x72
  | .lineTest _ _ _ => 0x73
  | .lineRmute _ => 0x74
  | .culSleep _ _ => 0x78
  | .culEyescan _ _ _ _ _ _ _ => 0x79
  | .culReg _ _ _ => 0x7A
  | .timeStep _ _ => 0x80
  | .timeEpoch _ => 0x81
  | .otaCal _ => 0x82
  | .engKernel _ _ _ _ => 0x90
  | .engMode _ _ => 0x91
  | .sluChain _ _ _ => 0xA0
  | .sluStop _ => 0xA1
  | .seaIdentity _ => 0xB0
  | .seaAttest _ _ => 0xB1
  | .seaSetId _ => 0xB2
  | .seaCommit _ _ => 0xB3
  | .seaEnrol _ _ => 0xB4
  | .seaCak _ => 0xB5
  | .seaRetire _ => 0xB6
  | .hkaInject => 0xC0
  | .gauStream _ => 0xC8
  | .gauArm _ => 0xC9
  | .gauStop _ => 0xCA
  | .gauForce _ => 0xCB
  | .gauMask _ => 0xCC
  | .fltDumpRegion _ _ _ _ => 0xD0
  | .fltDumpFetch _ _ => 0xD1
  | .telSetup _ _ _ => 0xD2
  | .logRead _ _ => 0xD3
  | .pathRestore _ => 0xD4
  | .fltDumpTest => 0xD5

/-- Run a command as fetched, with its checks at fetch (R365). -/
def runCmd (h : Hdr) (c : Cmd) (s : State) : Host.Outcome State Fault Refusal :=
  match c with
  | .nop => execNop h s
  | .profile p => execProfile h p s
  | .now => execNow h s
  | .pwrState target mask sources timer => execPwrState h target mask sources timer s
  | .txCarrier c => execTxCarrier h c s
  | .txTile c => execTxTile h c s
  | .dpdLoad path bank count src => execDpdLoad h path bank count src s
  | .dpdSwap tile pathMask fade => execDpdSwap h tile pathMask fade s
  | .biasSet c => execBiasSet h c s
  | .ddsTone c => execDdsTone h c s
  | .rxCarrier c => execRxCarrier h c s
  | .rxExtract c => execRxExtract h c s
  | .rxSync panel => execRxSync h panel s
  | .bfLayers carrier uplink layers ulShift prio => execBfLayers h carrier uplink layers ulShift prio s
  | .beamLoad c => execBeamLoad h c s
  | .beamSwap blend => execBeamSwap h blend s
  | .covSetup c => execCovSetup h c s
  | .acdOccasion c => execAcdOccasion h c s
  | .foReport c => execFoReport h c s
  | .leveeCert addr => execLeveeCert h addr s
  | .leveeUnmute mask => execLeveeUnmute h mask s
  | .rctPattern pattern tileMask period addr _ => execRctPattern h pattern tileMask period addr s
  | .tileState tileMask target => execTileState h tileMask target s
  | .rffeXfer c => execRffeXfer h c s
  | .synRecal => execSynRecal h s
  | .aerial tile pathMask search clear => execAerial h tile pathMask search clear s
  | .fhCarrier c => execFhCarrier h c s
  | .coopSet c => execCoopSet h c s
  | .msecRekey ports => execMsecRekey h ports s
  | .fhOwdm c => execFhOwdm h c s
  | .lineMode port mode train => execLineMode h port mode train s
  | .lineRestart mask => execLineRestart h mask s
  | .lineSnapshot lane addr => execLineSnapshot h lane addr s
  | .lineTest mask pattern addr => execLineTest h mask pattern addr s
  | .lineRmute addr => execLineRmute h addr s
  | .culSleep mask sleep => execCulSleep h mask sleep s
  | .culEyescan mask phi0 phi1 v0 v1 dwell addr => execCulEyescan h mask phi0 phi1 v0 v1 dwell addr s
  | .culReg pos n addr => execCulReg h pos n addr s
  | .timeStep sec ns => execTimeStep h sec ns s
  | .timeEpoch epoch => execTimeEpoch h epoch s
  | .otaCal c => execOtaCal h c s
  | .engKernel tileMask action addr len => execEngKernel h tileMask action addr len s
  | .engMode engine mode => execEngMode h engine mode s
  | .sluChain ch stopOnErr head => execSluChain h ch stopOnErr head s
  | .sluStop ch => execSluStop h ch s
  | .seaIdentity addr => execSeaIdentity h addr s
  | .seaAttest nonce addr => execSeaAttest h nonce addr s
  | .seaSetId id => execSeaSetId h id s
  | .seaCommit cls version => execSeaCommit h cls version s
  | .seaEnrol slot addr => execSeaEnrol h slot addr s
  | .seaCak addr => execSeaCak h addr s
  | .seaRetire uid => execSeaRetire h uid s
  | .hkaInject => execHkaInject h s
  | .gauStream c => execGauStream h c s
  | .gauArm c => execGauArm h c s
  | .gauStop mask => execGauStop h mask s
  | .gauForce mask => execGauForce h mask s
  | .gauMask addr => execGauMask h addr s
  | .fltDumpRegion fullMem clear addr len => execFltDumpRegion h fullMem clear addr len s
  | .fltDumpFetch erase addr => execFltDumpFetch h erase addr s
  | .telSetup k b addr => execTelSetup h k b addr s
  | .logRead count addr => execLogRead h count addr s
  | .pathRestore mask => execPathRestore h mask s
  | .fltDumpTest => execFltDumpTest h s

/-- The state an outcome goes on with. -/
def State.after (s : State) (o : Host.Outcome State Fault Refusal) : State :=
  match o with
  | .next t => t
  | _ => s

/-! ## Fetch (R361, R363, R366) -/

/-- Whether the device reads descriptors of a ring now: the link, the ring's state, descriptors outstanding, a free completion slot, and room
in the timed store (R361, R363, R364, R366); in POLDER and DORMANT no ring is served (R445). -/
def State.mayFetch (s : State) (r : Nat) : Bool :=
  s.running && s.hostUp && s.on Reg.HRG_STAT_READY && decide (s.get Reg.PWR_STAT_STATE < 2) && s.ringOn r &&
    decide (s.get (Reg.HRG_RING_STAT_STATE r) ≠ 3 ∧ s.ringStateOf r ≠ 4 ∧ (s.ring r).hostPos ≠ s.ringPos r ∧ s.host.timed.length < 4096)

/-- Whether a ring asks for a fetch: one whose descriptor is being re-read does not. -/
def State.wantsFetch (s : State) (r : Nat) : Bool := s.mayFetch r && (s.ring r).retries == 0

/-- Whether it is a ring's turn (R31, R361): a ring with `PRIO` = 0 waits for the rings with `PRIO` = 1; within a priority it is the first
ring that asks, from the priority's round-robin pointer on. -/
def State.ringTurn (s : State) (r : Nat) : Bool :=
  let prio := s.get (Reg.HRG_RING_CFG_PRIO r)
  let next := s.host.fetchNext.getD prio 0
  let turn := (List.range 32).map fun k => (next + k) % 32
  (prio == 1 || !(List.range 32).any fun q => s.on (Reg.HRG_RING_CFG_PRIO q) && s.wantsFetch q) &&
    (turn.find? fun q => s.wantsFetch q && s.get (Reg.HRG_RING_CFG_PRIO q) == prio) == some r

/-- The grant to a ring moves its priority's pointer on to the ring after it (R31). -/
def State.grantFetch (s : State) (r : Nat) : State :=
  { s with host := { s.host with fetchNext := s.host.fetchNext.set (s.get (Reg.HRG_RING_CFG_PRIO r)) ((r + 1) % 32) } }

/-- The descriptor at a ring's fetch position. -/
def State.descriptor (s : State) (r : Nat) : List Nat := s.hostRead (s.ringSlot r 64) 64

/-- The slot at a ring's fetch position is consumed: the position moves on and the descriptor is counted. -/
def State.consumeSlot (s : State) (r : Nat) : State :=
  let s := (s.setRingPos r ((s.ringPos r + 1) % (2 * s.ringN r))).add64 (Reg.HRG_RING_CNT r) 1
  s.modRing r fun q => { q with retries := 0 }

/-- A completion slot is reserved for a fetched command (R366). -/
def State.reserveSlot (s : State) (r tag : Nat) : State :=
  let s := s.modRing r fun q => { q with running := q.running ++ [tag] }
  s.modRing (32 + s.get (Reg.HRG_RING_CFG_CQ r)) fun q => { q with reserved := q.reserved + 1 }

/-- Execute a descriptor whose phase matched: BAD_OPCODE, RANGE for a reserved bit, or the command (R358, R359, R365). -/
def State.takeDescriptor (s : State) (r : Nat) (d : List Nat) : State :=
  let h := dHdr r d
  let op := dByte d 0
  let s := (s.consumeSlot r).reserveSlot r h.tag
  let s := match descriptorCmd op d with
    | none => s.complete h op St.badOpcode
    | some c => if reservedOk op d then s.after (runCmd h c s) else s.complete h op St.range
  s.refreshRing r

/-- Whether a descriptor is a `FENCE` whose earlier commands have not all completed (R358). -/
def State.fenced (s : State) (r : Nat) (d : List Nat) : Bool := bit (dByte d 1) 2 && !(s.ring r).running.isEmpty

/-- A read that found the wrong phase (R363). -/
def State.phaseMiss (s : State) (r : Nat) : State := s.modRing r fun q => { q with retries := q.retries + 1, retryAt := s.now }

/-- Fetch up to n descriptors of a ring, as far as it can be served. -/
def State.fetchRing : Nat → State → Nat → State
  | 0, s, _ => s
  | n + 1, s, r =>
    if !s.mayFetch r then s
    else if !s.phaseMatches r then s.phaseMiss r
    else if s.fenced r (s.descriptor r) then s
    else (s.takeDescriptor r (s.descriptor r)).fetchRing n r

/-- DESCRIPTOR_FETCH (R361): one read of up to 8 descriptors of the ring whose turn it is; a ring whose descriptor is being re-read waits
for PHASE_REREAD. -/
def execDescriptorFetch (ring : Nat) (s : State) : Host.Outcome State Fault Refusal :=
  .next (if decide (ring < 32) && s.ringTurn ring then (s.grantFetch ring).fetchRing 8 ring else s)

/-- Five reads found the wrong phase: the slot completes STALE_DESCRIPTOR and the ring is STALLED (R363, R372). -/
def State.staleDescriptor (s : State) (r : Nat) : State :=
  let d := s.descriptor r
  let index := s.ringPos r % s.ringN r
  let cq := 32 + s.get (Reg.HRG_RING_CFG_CQ r)
  let s := s.consumeSlot r
  let s := s.writeCompletion cq ⟨s.timeNs, r, dNat d 2 2, St.stale, 5, dByte d 0, [], false⟩
  let s := (s.setF Reg.HRG_STAT_STALE).event 0x0008 0x0B01 ([r, 5] ++ bytesLE 2 index ++ bytesLE 2 (dNat d 2 2))
  s.setRingState r 3

/-- PHASE_REREAD (R363): 1 µs after a read that found the wrong phase the descriptor is read again, and executed as soon as the phase
matches. -/
def execPhaseReread (ring : Nat) (s : State) : Host.Outcome State Fault Refusal :=
  let q := s.ring ring
  .next (if ring ≥ 32 || q.retries == 0 || !s.due (q.retryAt + 1000) || !s.mayFetch ring then s
    else if s.phaseMatches ring then
      if s.fenced ring (s.descriptor ring) then s.modRing ring fun q => { q with retries := 0 }
      else s.takeDescriptor ring (s.descriptor ring)
    else if q.retries ≥ 4 then s.staleDescriptor ring
    else s.phaseMiss ring)

/-! ## The timed store (R364, R365) -/

/-- The number of a held command's effective tick. -/
def State.heldTick (s : State) (i : Held) : Int := i.frame * s.tpf + i.tick

/-- The order in which held commands are applied: by tick, then by ring; within one ring in ring order (R364). -/
def State.heldKey (s : State) (i : Held) : Int := s.heldTick i * 32 + i.hdr.ring

/-- The held commands in the order of R364. -/
def State.inOrder (s : State) (l : List Held) : List Held := sortBy s.heldKey l

/-- What a held command does to the configuration that later checks read (R365). -/
def State.planHeld (s : State) (i : Held) : State :=
  match i.cmd with
  | .txCarrier c => s.txCarrierPlan c
  | .txTile c => s.txTilePlan c
  | .ddsTone c => s.ddsPlan c
  | .rxCarrier c => s.rxCarrierPlan c
  | .rxExtract c => s.rxExtractPlan c
  | .bfLayers carrier uplink layers ulShift prio => s.bfPlan carrier uplink layers ulShift prio
  | .covSetup c => s.covPlan c
  | .acdOccasion c => s.acdPlan c
  | .rctPattern pattern tileMask period _ codes => s.patternPlan pattern tileMask period codes
  | .fhCarrier c => s.fhPlan c
  | .coopSet c => { s with fh := { s.fh with sets := s.coopPlan c } }
  | _ => s

/-- The configuration that will be in force for a held command: the one now in force with every command before it (R365). -/
def State.planBefore (s : State) (i : Held) : State :=
  (s.inOrder (s.host.timed.filter fun j =>
    decide (s.heldKey j < s.heldKey i) || (s.heldKey j == s.heldKey i && decide (j.order < i.order)))).foldl State.planHeld s

/-- The checks of a held command against a configuration (R365). -/
def State.heldFail (s : State) (i : Held) : Option Nat :=
  if !i.dataIn then some St.notReady
  else match i.cmd with
  | .txCarrier c => txCarrierCfg s i.hdr c
  | .txTile c => txTileCfg s i.hdr c
  | .dpdSwap tile mask _ => dpdSwapCfg s tile mask
  | .biasSet c => biasSetCfg s c
  | .ddsTone c => ddsToneCfg s c
  | .rxCarrier c => rxCarrierCfg s i.hdr c
  | .rxExtract c => rxExtractCfg s c
  | .bfLayers carrier uplink layers ulShift prio => bfLayersCfg s i.hdr carrier uplink layers ulShift prio
  | .beamSwap _ => beamSwapCfg s
  | .covSetup c => covSetupCfg s c
  | .acdOccasion c => acdCfg s c
  | .foReport c => foCfg s c
  | .rctPattern pattern tileMask period _ codes => rctPatternCfg s pattern tileMask period codes
  | .fhCarrier c => fhCarrierCfg s i.hdr c
  | .coopSet c => coopSetCfg s c
  | .otaCal c => otaCfg s (s.heldTick i) c
  | _ => none

/-- The state as its budgets would stand with more tiles powered. -/
def State.withTiles (s : State) (l : List Nat) : State :=
  s.each l fun s n =>
    let s := s.put Reg.PWR_STAT_GATED (putBit (s.get Reg.PWR_STAT_GATED) n false)
    s.put Reg.DEV_BOOT_STAT_TILE_READY (putBit (s.get Reg.DEV_BOOT_STAT_TILE_READY) n true)

/-- The fewest further tiles with which a command's plan would pass under ECONOMY (R449). -/
def State.tilesFor (s : State) (i : Held) : Option (List Nat) :=
  if !s.autoActs then none
  else ((List.range' 1 8).map fun k => s.spareTiles.take k).find? fun l => ((s.planBefore i).withTiles l).heldFail i == none

/-- Take a command out of the timed store. -/
def State.unhold (s : State) (i : Held) : State :=
  let s := { s with host := { s.host with timed := s.host.timed.filter fun j => j.order != i.order } }
  s.put Reg.HRG_STAT_TIMED_PENDING s.host.timed.length

/-- Mark a held command as checked. -/
def State.markChecked (s : State) (i : Held) : State :=
  { s with host := { s.host with timed := s.host.timed.map fun j => if j.order = i.order then { j with checked := true } else j } }

/-- A command that fails its checks has no effect (R365); one that fails only for want of tiles that the Supervisor may power completes
NOT_READY (R449). -/
def State.failHeld (s : State) (i : Held) (st : Nat) : State :=
  let op := opcodeOf i.cmd
  match s.tilesFor i with
  | some l => ((s.unhold i).complete i.hdr op St.notReady).each l fun s n => s.ungateTile n 1 []
  | none => (s.unhold i).complete i.hdr op st

/-- A command that passes its checks at tick e − 2: a beam swap begins its transition, and the lanes a cooperative set needs are woken
(R137, R284). -/
def State.passHeld (s : State) (i : Held) : State :=
  let s := s.markChecked i
  match i.cmd with
  | .beamSwap blend => s.beginTransition (s.heldTick i) blend
  | .coopSet c => s.coopWake c
  | _ => s

/-- Whether a held command is a beam swap that meets a transition in progress: it is held by R139 instead. -/
def State.swapMeets (s : State) (i : Held) : Option Nat :=
  match i.cmd with
  | .beamSwap blend => if s.beam.transition.isSome then some blend else none
  | _ => none

/-- Check one held command at its tick e − 2. -/
def State.checkHeld (s : State) (i : Held) : State :=
  match s.swapMeets i with
  | some blend => (s.unhold i).holdBeamSwap ⟨some i.hdr, blend, s.heldTick i⟩
  | none =>
    match (s.planBefore i).heldFail i with
    | some st => s.failHeld i st
    | none => s.passHeld i

/-- Check every held command whose tick e − 2 has come, in the order of R364. -/
def State.checkTimed (s : State) : State :=
  s.each (s.inOrder (s.host.timed.filter fun i => !i.checked && decide (s.heldTick i - 2 ≤ s.absTick))) State.checkHeld

/-- TIMED_CHECK (R365): at tick e − 2. -/
def execTimedCheck (s : State) : Host.Outcome State Fault Refusal := .next s.checkTimed

/-- Apply a held command at its effective tick (R364). -/
def State.applyHeld (s : State) (i : Held) : State :=
  let s := s.unhold i
  match i.cmd with
  | .txCarrier c => s.applyTxCarrier i.hdr c
  | .txTile c => s.applyTxTile i.hdr c
  | .dpdSwap tile mask fade => s.applyDpdSwap i.hdr tile mask fade
  | .biasSet c => s.applyBiasSet i.hdr c
  | .ddsTone c => s.applyDdsTone i.hdr c
  | .rxCarrier c => s.applyRxCarrier i.hdr c
  | .rxExtract c => s.applyRxExtract i.hdr c
  | .rxSync panel => s.applyRxSync i.hdr panel
  | .bfLayers carrier uplink layers ulShift prio => s.applyBfLayers i.hdr carrier uplink layers ulShift prio
  | .beamSwap _ => s.applyBeamSwap i.hdr
  | .covSetup c => s.applyCovSetup i.hdr c
  | .acdOccasion c => s.applyAcd i.hdr c
  | .foReport c => s.applyFo i.hdr c
  | .rctPattern pattern tileMask period _ codes => s.applyRctPattern i.hdr pattern tileMask period codes
  | .tileState tileMask target => s.applyTileState i.hdr tileMask target
  | .rffeXfer c => s.applyRffe i.hdr c
  | .synRecal => s.applySynRecal i.hdr
  | .fhCarrier c => s.applyFhCarrier i.hdr c
  | .coopSet c => s.applyCoopSet i.hdr c
  | .otaCal c => s.applyOtaCal i.hdr c
  | _ => s

/-- Apply every held command whose effective tick has come, in ascending ring and then in ring order (R364). -/
def State.applyTimed (s : State) : State :=
  s.each (s.inOrder (s.host.timed.filter fun i => i.checked && decide (s.heldTick i ≤ s.absTick))) State.applyHeld

/-- TIMED_APPLY (R364): at the effective tick; what has missed its check is checked first. -/
def execTimedApply (s : State) : Host.Outcome State Fault Refusal := .next s.checkTimed.applyTimed

/-- One profile command takes effect, or is refused against the configuration as the commands due at the boundary leave it (R29). -/
def State.applyProfile (s : State) (e : Hdr × Nat × Int) : State :=
  let due := s.inOrder (s.host.timed.filter fun i => i.checked && decide (s.heldTick i ≤ e.2.2 * s.tpf))
  if (due.foldl State.planHeld s).profileFits e.2.1 then
    ((s.put Reg.DEV_PROFILE_IN_FORCE e.2.1).refreshPlan).completeR e.1 0x01 St.done (bytesLE 4 (ux 32 e.2.2))
  else s.complete e.1 0x01 St.range

/-- PROFILE_APPLY (R29, R360): at the frame boundary. -/
def execProfileApply (s : State) : Host.Outcome State Fault Refusal :=
  let due := s.host.profilePending.filter fun e => decide (e.2.2 ≤ s.frame)
  .next ({ s with host := { s.host with profilePending := s.host.profilePending.filter fun e => decide (s.frame < e.2.2) } }.each due
    State.applyProfile)

end Sys2Proof.Machine
end

