-- ==== Sys2Proof/Machine/Flags.lean ====
section
/-! DEFINITION. The sticky flags of the data path (R84, R119, R122): how saturations of the transmit and receive chains and of the array are
shown and gathered for their summaries. -/
namespace Sys2Proof.Machine
open Sys2Proof

/-- Set the flag bits `[lsb + i]` of a register for the set bits i of a mask of n bits: sticky flags only rise. -/
def State.setFlags (s : State) (off lsb n mask : Nat) : State :=
  s.wr off (s.rd off ||| (mask % 2 ^ n) * 2 ^ lsb)

/-- Saturations of tile n's transmit chain in a tick (R84): bits `[21:16]` of `TIL_n_TX_STAT` by a mask, and their count. -/
def State.txSaturation (s : State) (n mask count : Nat) : State :=
  let s := s.setFlags (Reg.TIL_TX_STAT n) 16 6 mask
  { s with tx := { s.tx with satFlags := s.tx.satFlags.set n (s.tx.satFlags.getD n 0 ||| mask % 2 ^ 6),
                             satCount := s.tx.satCount.set n (s.tx.satCount.getD n 0 + count) } }

/-- Saturations of tile n's receive chain in a tick (R119): bits `[18:16]` of `TIL_n_RX_STAT`. -/
def State.rxSaturation (s : State) (n mask count : Nat) : State :=
  let s := s.setFlags (Reg.TIL_RX_STAT n) 16 3 mask
  { s with rx := { s.rx with satFlags := s.rx.satFlags.set n (s.rx.satFlags.getD n 0 ||| mask % 2 ^ 3),
                             satCount := s.rx.satCount.set n (s.rx.satCount.getD n 0 + count) } }

/-- Saturations of the array (R122). -/
def State.arraySaturation (s : State) (dl ul : Bool) : State :=
  (s.when dl fun s => s.setF Reg.BFM_ERR_DL_SAT).when ul fun s => s.setF Reg.BFM_ERR_UL_SAT

/-- The slack measured at a stage deadline (R23): the smallest since the last reset of the field, and of the telemetry interval. -/
def State.takeSlack (s : State) (slack : Nat) : State :=
  let s := s.put Reg.DEV_TICK_STAT_MIN_MARGIN (min (s.get Reg.DEV_TICK_STAT_MIN_MARGIN) (min slack 65535))
  { s with flt := { s.flt with telemetry := s.flt.telemetry.map fun t => { t with margin := min t.margin slack } } }

end Sys2Proof.Machine
end

