-- ==== Sys2Proof/Machine/Tick.lean ====
section
/-! DEFINITION. SYMBOL_TICK (R17, R19): the device time moves to the start of the next symbol of the reference numerology, and the work due at
that tick is done: what the tick that ends leaves behind, the state of each tile, the array's fetches, the sounding sums, the
extraction records, the occasions and the fronthaul. -/
namespace Sys2Proof.Machine
open Sys2Proof

/-! ## The tick that ends -/

/-- Whether a path is tainted on a carrier at the end of a tick that began at `from_` (R90, R91, R106, R118). -/
def State.taintedNow (s : State) (from_ p c : Nat) : Bool :=
  s.tileState (p / 8) == 4 || decide (from_ < s.rx.taint.getD p 0) || decide (from_ < s.rx.carrierTaint.getD (p * 8 + c) 0)

/-- What the receive chains keep of the tick that ends. -/
def State.tickPast (s : State) : TickPast :=
  let from_ := s.tickTime s.absTick
  ⟨maskOf ((List.range 8).filter fun n => s.tileState n == 2),
   (List.range 8).map fun c => maskOf ((List.range 64).filter fun p => s.taintedNow from_ p c)⟩

/-- Occasions on air during the tick that ends gather its taint and its missing paths (R153). -/
def State.occasionFlags (s : State) (t : TickPast) : State :=
  let one (o : Occasion) : Occasion :=
    if o.processing then o
    else match s.beam.acd.get? o.config with
      | none => o
      | some c =>
        { o with tainted := o.tainted || nth t.taint c.carrier != 0,
                 partialPaths := o.partialPaths || t.rx != 255 || s.rd64 Reg.BFM_REMOVED != 0 }
  { s with beam := { s.beam with occasions := s.beam.occasions.map one } }

/-- The end of a tick: Levee's meter (R164), the smallest slack, the receive chains' record, and the start of the next tick. -/
def State.endTick (s : State) (o : TickObs) : State :=
  let t := s.tickPast
  let s := ((s.leveeMeter o.power).takeSlack o.slack).occasionFlags t
  let s := { s with rx := { s.rx with past := (t :: s.rx.past).take 9 } }
  { s with now := s.tickTime (s.absTick + 1), frac := 0 }

/-! ## Tile states (R169, R176 to R179, R553) -/

/-- Commands of the timed store that passed their check and take effect at the tick that begins. -/
def State.dueNow (s : State) : List Held := s.host.timed.filter fun i => i.checked && s.heldTick i == s.absTick

/-- The slot patterns, their tiles and the calibration symbols as they stand at the tick that begins: what takes effect at it already
governs it (R181, R191, R307). -/
def State.patternsNow (s : State) : State :=
  let p := s.each s.dueNow fun s i => match i.cmd with
    | .rctPattern pattern tileMask period _ codes => s.patternPlan pattern tileMask period codes
    | .otaCal c => { s with tim := { s.tim with ota := some ⟨i.hdr, c, s.absTick⟩ } }
    | _ => s
  if s.atEvenFrame then
    p.each s.rct.binding fun p e => { p with rct := { p.rct with bound := p.rct.bound.set e.1 e.2 } }
  else p

/-- Whether a tile's pattern is bound or loaded at the tick that begins (R553). -/
def State.rebound (s : State) (n : Nat) : Bool :=
  (s.atEvenFrame && s.rct.binding.has n) || s.dueNow.any fun i => match i.cmd with
    | .rctPattern pattern tileMask _ _ _ => (s.followers pattern tileMask).contains n
    | _ => false

/-- Whether a tile has a path able to transmit: a path whose tuner is being searched sends its trials (R179, R190). -/
def State.ableNow (s : State) (n : Nat) : Bool := s.ableMask n != 0 || s.rct.search.has n

/-- Why a D symbol of a tile is blanked, if it is (R177, R179, R553); the loss of `SYNTH_OK` is no such cause. -/
def State.blankCause (s : State) (n len : Nat) : Option Nat :=
  let lead := timePa (s.timingWord n) + timeSw (s.timingWord n)
  let fresh := s.tileState n != 3
  if s.tileState n = 0 || s.tileState n = 4 then some 5
  else if !s.txAllowed then some 6
  else if bit s.levee.dutyHit n || decide (s.dutyNs < s.levee.duty.getD n 0 + len) then some 2
  else if !s.ableNow n then some 3
  else if s.coexBlocks n then some 4
  else if fresh && s.rebound n then some 5
  else match s.rct.withheld.get? n with
    | some w => if fresh && decide (s.now < w.1 + lead) then some w.2 else none
    | none => none

/-- A blanked D symbol of a tile, which stays in or returns to STANDBY (R179); what coexistence blanks is counted for its record
(R192), and a tile that reached its duty stays blanked to the end of the frame (R169). -/
def State.blankTile (s : State) (n reason : Nat) : State :=
  let s := if s.tileState n = 0 || s.tileState n = 4 then s else s.setTileState n 1 0
  let s := s.countBlank n reason
  let s := s.when (reason == 2) fun s => { s with levee := { s.levee with dutyHit := putBit s.levee.dutyHit n true } }
  s.when (reason == 4) fun s => s.each [0, 1] fun s k =>
    s.when (s.coexOn k && (s.coexTiles k).contains n) fun s => s.modCoex k fun c => { c with blanked := c.blanked + 1 }

/-- A D symbol that goes out: the tile is in TX, its duty runs, and with a synthesiser unlocked its samples are zero (R169, R176). -/
def State.sendTile (s : State) (n len : Nat) : State :=
  let s := s.setTileState n 3 0
  let s := { s with levee := { s.levee with duty := s.levee.duty.set n (s.levee.duty.getD n 0 + len) } }
  s.when (!s.on Reg.CLK_SYN_STAT_SYNTH_OK) fun s => s.countBlank n 1

/-- The state of one tile in the symbol that begins (R179), by its code: 1 is D, 2 is U, 0 is F. -/
def State.tileSymbol (s : State) (n code len : Nat) : State :=
  if code = 1 then
    match s.blankCause n len with
    | some r => s.blankTile n r
    | none => s.sendTile n len
  else if s.tileState n = 0 || s.tileState n = 4 then s
  else s.setTileState n (if code = 2 then 2 else 1) 0

/-- The start of a frame: the duty of every tile is counted afresh; a tile blanked for its duty may begin a burst from now (R169,
R553). -/
def State.frameDuty (s : State) : State :=
  if s.atFrame then
    let s := s.each (maskList s.levee.dutyHit 8) fun s n => s.withhold n 2
    { s with levee := { s.levee with duty := [], dutyHit := 0 } }
  else s

/-- Every tile takes the state of the symbol that begins, and the coexistence pins follow (R179, R185, R186). -/
def State.tileSymbols (s : State) : State :=
  let s := { s with levee := { s.levee with blankNow := [] } }.frameDuty
  let p := s.patternsNow
  let len := s.tickLen s.tick
  let s := s.each (List.range 8) fun s n => s.tileSymbol n (p.actionOf n s.absTick) len
  let s := (s.coexTick 0).coexTick 1
  (s.coexBurstEnd 0 s.absTick).coexBurstEnd 1 s.absTick

/-- The housekeeping converter's frame-timing events of the tick (R474): which tiles' D symbols begin, and which end. -/
def State.tickTriggers (s : State) : State :=
  let p := s.patternsNow
  let d := fun n => p.actionOf n s.absTick == 1
  let was := fun n => s.actionOf n (s.absTick - 1) == 1
  s.hkaFrameEvents (fun n => d n && !was n) (fun n => was n && !d n)

/-! ## The array (R126, R134, R142) -/

/-- The sections whose weights the array fetches for the symbols that begin two ticks from now, in one direction. -/
def State.fetchSections (s : State) (uplink : Bool) : List FhSection :=
  s.fh.sections.filter fun c =>
    c.uplink == uplink && c.kind == 1 && !c.blanked && !(uplink && (s.fhCfg 1 c.carrier).whole) && c.ticks.contains (s.absTick + 2)

/-- A layer is blanked on a section's PRBs for the symbol that begins two ticks from now, and counted (R126, R134). -/
def State.missSection (s : State) (c : FhSection) : State :=
  let n := s.absTick + 2
  let mark := fun (x : FhSection) =>
    if x.eaxc == c.eaxc && x.uplink == c.uplink && x.id == c.id && x.startPrb == c.startPrb && x.tick == c.tick then
      { x with missed := x.missed ++ [n] } else x
  { s with fh := { s.fh with sections := s.fh.sections.map mark } }.countMiss c.beam c.prbs.length

/-- The weight fetches of one direction at a tick: a beam not resident is a page miss, and at most 8,192 fetches are made. -/
def State.fetchWeights (s : State) (uplink : Bool) : State :=
  let l := s.fetchSections uplink
  let s := s.each (l.take 8192) fun s c =>
    if (s.beamEntry c.beam).isSome then s else (s.missSection c).setF Reg.BFM_ERR_PAGE_MISS
  let late := l.drop 8192
  let s := s.each late fun s c => s.missSection c
  s.when (!late.isEmpty) fun s =>
    { s.setF Reg.BFM_ERR_FETCH_OVF with beam := { s.beam with missFlags := putBit s.beam.missFlags 1 true } }

/-- A symbol of a carrier: its number over all frames, and its slot over all frames, at the carrier's numerology. -/
def State.symbolOf (s : State) (tick : Int) (span : Nat) : Nat × Int :=
  let k := tick / span
  ((k % s.tps).toNat, k / s.tps)

/-- One sounding symbol of an armed set, whose uplink work has ended (R142): the sums of its subbands go on, from nothing at the first symbol
of a period; at the last, the solve follows. -/
def State.soundingSymbol (s : State) (v : CovSet) (span : Nat) (tick : Int) (obs : List CovObs) : State :=
  let (l, slot) := s.symbolOf tick span
  let ls := maskList v.cfg.symMask 14
  if slot % (v.cfg.period : Int) ≠ v.cfg.offset ∨ !ls.contains l then s
  else
    let spf : Int := (s.tpf / (s.tps * span) : Nat)
    let v := if ls.head? = some l then
        { v with res := [], sums := [], sfn := ux 10 (slot / spf), slot := (slot % spf).toNat } else v
    let add := fun (v : CovSet) (o : CovObs) =>
      if o.carrier = v.cfg.carrier ∧ o.subband < covSubbands v.cfg then
        { v with res := v.res.set o.subband (v.res.getD o.subband 0 + o.res),
                 sums := v.sums.set o.subband (v.sums.getD o.subband 0 * 2 ^ 64 + o.digest % 2 ^ 64) } else v
    let v := obs.foldl add v
    let v := if ls.getLast? = some l then { v with lastTick := tick + (span : Int) - 1 } else v
    { s with beam := { s.beam with cov := s.beam.cov.set v.cfg.carrier v } }

/-- The sounding symbols whose uplink work ended at this tick (R142, R144). -/
def State.accumulate (s : State) (obs : List CovObs) : State :=
  s.each s.beam.cov fun s e =>
    match s.setCarrier 1 e.1 with
    | none => s
    | some (num, _) =>
      let span := s.spanOf num
      let tick := s.absTick - 1 - (span : Int)
      if tick % span ≠ 0 then s else s.soundingSymbol e.2 span tick obs

/-! ## Receive symbols that ended (R90, R112, R113) -/

/-- The paths tainted on a carrier in the m ticks that ended `back` ticks ago. -/
def State.taintOver (s : State) (c m back : Nat) : Nat :=
  ((s.rx.past.drop back).take m).foldl (fun a t => a ||| nth t.taint c) 0

/-- The tainted symbols of a tile's carriers that ended with the tick before (R90). -/
def State.countTaint (s : State) (n : Nat) : State :=
  let one := fun (e : Nat × RxCarrier) =>
    let m := s.spanOf e.2.num
    if s.absTick % m ≠ 0 then 0 else popCount (bits (s.taintOver (e.1 % 8) m 0) (8 * n) 8) 8
  let k := sumL ((s.rx.carriers.filter fun e => e.1 / 8 == n).map one)
  s.when (k != 0) fun s => s.add64 (Reg.TIL_RX_TAINT n) k

/-- The bytes of an extraction record (R113). -/
def State.extractBytes (s : State) (n k : Nat) (e : ExtractEntry) (c : RxCarrier) (tick : Int) (data : List Nat) : List Nat :=
  let m := s.spanOf c.num
  let (l, slot) := s.symbolOf tick m
  let spf : Int := (s.tpf / (s.tps * m) : Nat)
  let taint := bits (s.taintOver e.carrier m 1) (8 * n) 8
  bytesLE 2 (ux 10 (slot / spf)) ++ [(slot % spf).toNat % 256, l, k, e.carrier, taint, b2n c.minPhase] ++
    bytesLE 6 (s.tickTime tick) ++ bytesLE 2 (extractRes e) ++ fit (32 * extractRes e) data

/-- An extraction record goes whole into its buffer of the tile engine's memory; without room, or with the engine not running, it is dropped
and counted (R113, R119). Where the buffer lies and how full it is, its firmware decides (R112). -/
def State.putExtract (s : State) (n k : Nat) (e : ExtractEntry) (rec : List Nat) : State :=
  let buf := Config.extractBuf n e.buf
  let used := Config.extractUsed s.free
  let s := s.fresh
  if s.engineRuns n && decide (used + rec.length ≤ buf.2 ∧ buf.1 + used + rec.length ≤ 0x40000) then
    s.devWrite (0x02000000 + 0x40000 * n + buf.1 + used) rec
  else
    let key := n * 16 + k
    { s with rx := { s.rx with drops := s.rx.drops.set key (s.rx.drops.getD key 0 + 1) } }.setF (Reg.TIL_RX_STAT_EXT_DROP n)

/-- EXTRACTION_RECORD (R111, R112): the record of one entry, for a symbol in which its tile was in RX and the synthesisers were locked. -/
def State.extractEntry (s : State) (key : Nat) (e : ExtractEntry) (data : List Nat) : State :=
  let n := key / 16
  match s.rxCarrier n e.carrier with
  | none => s
  | some c =>
    let m := s.spanOf c.num
    let tick := s.absTick - 1 - (m : Int)
    let at_ := s.symbolOf tick m
    if tick % m ≠ 0 || !extractSelects e at_.2.toNat at_.1 || !bit (s.rxThrough m) n || !s.on Reg.CLK_SYN_STAT_SYNTH_OK then s
    else s.putExtract n (key % 16) e (s.extractBytes n (key % 16) e c tick data)

/-- The extraction records of a tick. -/
def State.extractions (s : State) (obs : List (Nat × List Nat)) : State :=
  s.each s.rx.extract fun s e =>
    s.extractEntry e.1 e.2 (match obs.find? fun o => o.1 == e.1 with | some o => o.2 | none => [])

/-! ## Access detection (R149, R153) -/

/-- The occasions of a configuration that begin within the tick that begins now, by slot and time occasion, with their frame. -/
def State.occasionsNow (s : State) (c : AcdCmd) : List (Int × Nat × Nat) :=
  [s.frame, s.frame - 1].flatMap fun f =>
    if f % (c.framePeriod : Int) ≠ c.frameOffset then []
    else (maskList c.slotMask (prachSlots c.format c.scs)).flatMap fun k =>
      ((List.range c.occasions).filter fun t =>
        let at_ := f * 10 ^ 7 + (acdOccStart c k t : Int)
        decide (s.tickStart s.absTick ≤ at_) && decide (at_ < s.tickStart (s.absTick + 1))).map fun t => (f, k, t)

/-- OCCASION_START (R149): the weights of the beams are copied; a beam whose entry is bad is skipped. -/
def State.startOccasion (s : State) (c : AcdCmd) (f : Int) (k t : Nat) : State :=
  let start := (s.devTime (f * 10 ^ 7 + (acdOccStart c k t : Int))).toNat
  let bad := maskOf ((List.range c.beams).filter fun b => s.beam.bad.contains (s.beamActive * 4096 + c.beamFirst + b))
  let o : Occasion := ⟨c.config, t, start, start + prachNs c.format c.scs, ux 10 f, k, bad, false, false, false, false⟩
  { s with beam := { s.beam with occasions := s.beam.occasions ++ [o] } }

/-- The occasions of a tick: those whose end has come, then those that begin. -/
def State.occasionTick (s : State) : State :=
  let s := s.each (s.beam.occasions.filter fun o => !o.processing && s.due o.stop) fun s o => s.occasionAirEnd o
  if s.on Reg.ACD_CFG_EN then
    s.each s.beam.acd fun s e => s.each (s.occasionsNow e.2) fun s x => s.startOccasion e.2 x.1 x.2.1 x.2.2
  else s

/-! ## SYMBOL_TICK -/

/-- NCO_PHASE_RESET (R54): at every subframe boundary of air time. -/
def State.ncoTick (s : State) : State :=
  if s.tick % (s.tpf / 10) = 0 then { s with tx := { s.tx with ncoReset := s.tickStart s.absTick } } else s

/-- The saturations a tick brings. -/
def State.saturations (s : State) (o : TickObs) : State :=
  let s := s.each o.txSat fun s x => s.txSaturation x.1 x.2.1 x.2.2
  let s := s.each o.rxSat fun s x => s.rxSaturation x.1 x.2.1 x.2.2
  s.arraySaturation o.dlSat o.ulSat

/-- The fronthaul's work at a tick: sections of ended symbols leave, windows close, sums that came early and own contributions are taken, and
the queues go out (R206, R209, R220, R231). -/
def State.fronthaulTick (s : State) (o : TickObs) : State :=
  let s := s.uplaneEgress (if o.ulOverrun then some o.sent else none)
  let s := (s.closeWindows.flushEarly).takeContributions o.contributions
  (s.fhDrain 0).fhDrain 1

/-- The work due at a tick, once the device serves its tiles. -/
def State.tickWork (s : State) (o : TickObs) : State :=
  let s := s.ncoTick.tickTriggers.tileSymbols
  let s := (s.fetchWeights false).fetchWeights true
  let s := s.each (List.range 8) State.countTaint
  let s := (s.accumulate o.sounding).extractions o.extraction
  let s := s.occasionTick.saturations o
  let s := (s.when o.dlOverrun fun s => s.overrun false).when o.ulOverrun fun s => s.overrun true
  let s := s.fronthaulTick o
  { s with flt := { s.flt with removing := 0 } }

/-- SYMBOL_TICK (R17, R19): the device generates the next tick. Before the tiles are served and in POLDER and DORMANT only time moves. -/
def execSymbolTick (o : TickObs) (s : State) : Host.Outcome State Fault Refusal :=
  .next (if !s.running then s
    else if s.boot.step < 10 || decide (2 ≤ s.get Reg.PWR_STAT_STATE) then { s with now := s.tickTime (s.absTick + 1), frac := 0 }
    else (s.endTick o).tickWork o)

end Sys2Proof.Machine
end

