-- ==== Sys2Proof/Machine/Dispatch.lean ====
section
/-! DEFINITION. The meaning of every command: one arm for each row of the table of operations. -/
namespace Sys2Proof.Machine
open Sys2Proof

/-- The effect of a command on everything but the queue. -/
def exec (i : Instr) (s : State) : Host.Outcome State Fault Refusal :=
  match i with
  | .symbolTick o => Sys2Proof.Machine.execSymbolTick o s
  | .combiningHoldEnd set tick => Sys2Proof.Machine.execCombiningHoldEnd set tick s
  | .accessRetry k ok => Sys2Proof.Machine.execAccessRetry k ok s
  | .wideReadLatch rq off => Sys2Proof.Machine.execWideReadLatch rq off s
  | .wideWriteStage rq off value => Sys2Proof.Machine.execWideWriteStage rq off value s
  | .timRefNumWrite rq value => Sys2Proof.Machine.execTimRefNumWrite rq value s
  | .refNumChange => Sys2Proof.Machine.execRefNumChange s
  | .tAdvApply => Sys2Proof.Machine.execTAdvApply s
  | .marginRst rq => Sys2Proof.Machine.execMarginRst rq s
  | .scrubRead r late => Sys2Proof.Machine.execScrubRead r late s
  | .calibrationStep tile fits late => Sys2Proof.Machine.execCalibrationStep tile fits late s
  | .dpdAdaptation path late => Sys2Proof.Machine.execDpdAdaptation path late s
  | .equaliserUpdate lane o => Sys2Proof.Machine.execEqualiserUpdate lane o s
  | .thermalSampling temps => Sys2Proof.Machine.execThermalSampling temps s
  | .throttleLower => Sys2Proof.Machine.execThrottleLower s
  | .t2Restore => Sys2Proof.Machine.execT2Restore s
  | .t3Gating => Sys2Proof.Machine.execT3Gating s
  | .t3Release => Sys2Proof.Machine.execT3Release s
  | .thermalTrip mask => Sys2Proof.Machine.execThermalTrip mask s
  | .txCarrier h c => Sys2Proof.Machine.execTxCarrier h c s
  | .txTile h c => Sys2Proof.Machine.execTxTile h c s
  | .dpdLoad h path bank count src => Sys2Proof.Machine.execDpdLoad h path bank count src s
  | .dpdLoadComplete path busOk => Sys2Proof.Machine.execDpdLoadComplete path busOk s
  | .dpdSwap h tile pathMask fade => Sys2Proof.Machine.execDpdSwap h tile pathMask fade s
  | .dpdFadeEnd path => Sys2Proof.Machine.execDpdFadeEnd path s
  | .heldDpdSwapStart tile => Sys2Proof.Machine.execHeldDpdSwapStart tile s
  | .biasSet h c => Sys2Proof.Machine.execBiasSet h c s
  | .biasTrigger tile dac edge => Sys2Proof.Machine.execBiasTrigger tile dac edge s
  | .biasTriggerTimeout tile dac => Sys2Proof.Machine.execBiasTriggerTimeout tile dac s
  | .biasSpanSwitch tile dac => Sys2Proof.Machine.execBiasSpanSwitch tile dac s
  | .biasSafePhaseEnd tile dac => Sys2Proof.Machine.execBiasSafePhaseEnd tile dac s
  | .ddsTone h c => Sys2Proof.Machine.execDdsTone h c s
  | .txSatSummary tile => Sys2Proof.Machine.execTxSatSummary tile s
  | .overloadEpisodeStart path => Sys2Proof.Machine.execOverloadEpisodeStart path s
  | .overloadProtect path => Sys2Proof.Machine.execOverloadProtect path s
  | .overloadEpisodeEnd path length => Sys2Proof.Machine.execOverloadEpisodeEnd path length s
  | .syncInEdge => Sys2Proof.Machine.execSyncInEdge s
  | .syncEvent => Sys2Proof.Machine.execSyncEvent s
  | .syncConfirmTimeout => Sys2Proof.Machine.execSyncConfirmTimeout s
  | .rxCarrier h c => Sys2Proof.Machine.execRxCarrier h c s
  | .rxExtract h c => Sys2Proof.Machine.execRxExtract h c s
  | .rxSync h panel => Sys2Proof.Machine.execRxSync h panel s
  | .rxSatSummary tile => Sys2Proof.Machine.execRxSatSummary tile s
  | .extractionDrops tile => Sys2Proof.Machine.execExtractionDrops tile s
  | .bfLayers h carrier uplink layers ulShift prio => Sys2Proof.Machine.execBfLayers h carrier uplink layers ulShift prio s
  | .beamLoad h c => Sys2Proof.Machine.execBeamLoad h c s
  | .beamLoadComplete busOk => Sys2Proof.Machine.execBeamLoadComplete busOk s
  | .poolFlushComplete => Sys2Proof.Machine.execPoolFlushComplete s
  | .beamSwap h blend => Sys2Proof.Machine.execBeamSwap h blend s
  | .beamTransitionEnd => Sys2Proof.Machine.execBeamTransitionEnd s
  | .heldBeamSwapStart => Sys2Proof.Machine.execHeldBeamSwapStart s
  | .pageLoadComplete entry => Sys2Proof.Machine.execPageLoadComplete entry s
  | .pageMissSummary => Sys2Proof.Machine.execPageMissSummary s
  | .covSetup h c => Sys2Proof.Machine.execCovSetup h c s
  | .covSolveStart carrier => Sys2Proof.Machine.execCovSolveStart carrier s
  | .covSolveEnd carrier => Sys2Proof.Machine.execCovSolveEnd carrier s
  | .renormalisation => Sys2Proof.Machine.execRenormalisation s
  | .acdOccasion h c => Sys2Proof.Machine.execAcdOccasion h c s
  | .occasionEnd config time peaks => Sys2Proof.Machine.execOccasionEnd config time peaks s
  | .foReport h c => Sys2Proof.Machine.execFoReport h c s
  | .foMeasurement entry layer offset power snr tainted => Sys2Proof.Machine.execFoMeasurement entry layer offset power snr tainted s
  | .leveeCert h addr => Sys2Proof.Machine.execLeveeCert h addr s
  | .limitsInForce => Sys2Proof.Machine.execLimitsInForce s
  | .leveeUnmute h mask => Sys2Proof.Machine.execLeveeUnmute h mask s
  | .leveeDwell path o => Sys2Proof.Machine.execLeveeDwell path o s
  | .obsReferenceCheck tile passed samples => Sys2Proof.Machine.execObsReferenceCheck tile passed samples s
  | .rctPattern h pattern tileMask period addr => Sys2Proof.Machine.execRctPattern h pattern tileMask period addr s
  | .patternBind tile => Sys2Proof.Machine.execPatternBind tile s
  | .timingApply tile => Sys2Proof.Machine.execTimingApply tile s
  | .tileState h tileMask target => Sys2Proof.Machine.execTileState h tileMask target s
  | .protectHoldExpiry tile => Sys2Proof.Machine.execProtectHoldExpiry tile s
  | .strobeEdge tile step => Sys2Proof.Machine.execStrobeEdge tile step s
  | .coexGntChange pair granted => Sys2Proof.Machine.execCoexGntChange pair granted s
  | .coexReqChange pair requested => Sys2Proof.Machine.execCoexReqChange pair requested s
  | .rffeXfer h c => Sys2Proof.Machine.execRffeXfer h c s
  | .synRecal h => Sys2Proof.Machine.execSynRecal h s
  | .synthLockLost which => Sys2Proof.Machine.execSynthLockLost which s
  | .synthCalibrationDone calUs => Sys2Proof.Machine.execSynthCalibrationDone calUs s
  | .driftRecalibration => Sys2Proof.Machine.execDriftRecalibration s
  | .aerial h tile pathMask search clear => Sys2Proof.Machine.execAerial h tile pathMask search clear s
  | .mismatchPair path fwd ref => Sys2Proof.Machine.execMismatchPair path fwd ref s
  | .tunerTrial tile rl blanked => Sys2Proof.Machine.execTunerTrial tile rl blanked s
  | .blankingSummary => Sys2Proof.Machine.execBlankingSummary s
  | .lineFrame f => Sys2Proof.Machine.execLineFrame f s
  | .cplaneMessage m => Sys2Proof.Machine.execCplaneMessage m s
  | .uplaneMessage m => Sys2Proof.Machine.execUplaneMessage m s
  | .owdmMessage m => Sys2Proof.Machine.execOwdmMessage m s
  | .partialSumMessage port m => Sys2Proof.Machine.execPartialSumMessage port m s
  | .mkaMessage m => Sys2Proof.Machine.execMkaMessage m s
  | .mkaHello => Sys2Proof.Machine.execMkaHello s
  | .mkaPeerLost port => Sys2Proof.Machine.execMkaPeerLost port s
  | .flowIdleTimeout => Sys2Proof.Machine.execFlowIdleTimeout s
  | .duReport => Sys2Proof.Machine.execDuReport s
  | .dropSummary => Sys2Proof.Machine.execDropSummary s
  | .setStateChange set => Sys2Proof.Machine.execSetStateChange set s
  | .fhCarrier h c => Sys2Proof.Machine.execFhCarrier h c s
  | .coopSet h c => Sys2Proof.Machine.execCoopSet h c s
  | .msecRekey h ports => Sys2Proof.Machine.execMsecRekey h ports s
  | .fhOwdm h c => Sys2Proof.Machine.execFhOwdm h c s
  | .owdmTimeout id => Sys2Proof.Machine.execOwdmTimeout id s
  | .lineMode h port mode train => Sys2Proof.Machine.execLineMode h port mode train s
  | .lineRestart h mask => Sys2Proof.Machine.execLineRestart h mask s
  | .lineSnapshot h lane addr => Sys2Proof.Machine.execLineSnapshot h lane addr s
  | .lineTest h mask pattern addr => Sys2Proof.Machine.execLineTest h mask pattern addr s
  | .lineTestReport lane bits errors => Sys2Proof.Machine.execLineTestReport lane bits errors s
  | .lineRmute h addr => Sys2Proof.Machine.execLineRmute h addr s
  | .losChange lane lost => Sys2Proof.Machine.execLosChange lane lost s
  | .laneBackoffEnd lane => Sys2Proof.Machine.execLaneBackoffEnd lane s
  | .laneTimeout lane => Sys2Proof.Machine.execLaneTimeout lane s
  | .markerLock lane => Sys2Proof.Machine.execMarkerLock lane s
  | .fecLock lane => Sys2Proof.Machine.execFecLock lane s
  | .portUp port skews => Sys2Proof.Machine.execPortUp port skews s
  | .markerPeriod lane o => Sys2Proof.Machine.execMarkerPeriod lane o s
  | .fecDegradeClear port => Sys2Proof.Machine.execFecDegradeClear port s
  | .occupancyWindow lane o => Sys2Proof.Machine.execOccupancyWindow lane o s
  | .freezeEvent lane => Sys2Proof.Machine.execFreezeEvent lane s
  | .overlayCell lane bytes => Sys2Proof.Machine.execOverlayCell lane bytes s
  | .trainingCell lane bytes => Sys2Proof.Machine.execTrainingCell lane bytes s
  | .rxReady lane => Sys2Proof.Machine.execRxReady lane s
  | .oneSidedTimeout lane => Sys2Proof.Machine.execOneSidedTimeout lane s
  | .heartbeatSend => Sys2Proof.Machine.execHeartbeatSend s
  | .heartbeat lane => Sys2Proof.Machine.execHeartbeat lane s
  | .neighbourUnreachable port => Sys2Proof.Machine.execNeighbourUnreachable port s
  | .muteFragment lane => Sys2Proof.Machine.execMuteFragment lane s
  | .fragmentTimeout port => Sys2Proof.Machine.execFragmentTimeout port s
  | .histReq rq lane => Sys2Proof.Machine.execHistReq rq lane s
  | .histDone lane bins => Sys2Proof.Machine.execHistDone lane bins s
  | .culSleep h mask sleep => Sys2Proof.Machine.execCulSleep h mask sleep s
  | .culEyescan h mask phi0 phi1 v0 v1 dwell addr => Sys2Proof.Machine.execCulEyescan h mask phi0 phi1 v0 v1 dwell addr s
  | .eyescanDone lanes busOk => Sys2Proof.Machine.execEyescanDone lanes busOk s
  | .culReg h pos n addr => Sys2Proof.Machine.execCulReg h pos n addr s
  | .headerLock lane => Sys2Proof.Machine.execHeaderLock lane s
  | .lockLoss lane => Sys2Proof.Machine.execLockLoss lane s
  | .culvertSignalLoss lane => Sys2Proof.Machine.execCulvertSignalLoss lane s
  | .alignPeriod link marks => Sys2Proof.Machine.execAlignPeriod link marks s
  | .alignBlock lane b => Sys2Proof.Machine.execAlignBlock lane b s
  | .sleepBlocks lane => Sys2Proof.Machine.execSleepBlocks lane s
  | .laneReadd lane => Sys2Proof.Machine.execLaneReadd lane s
  | .autoSleep link => Sys2Proof.Machine.execAutoSleep link s
  | .culvertFrame f => Sys2Proof.Machine.execCulvertFrame f s
  | .linkMgmtFrame link m => Sys2Proof.Machine.execLinkMgmtFrame link m s
  | .panelSyncFrame link f => Sys2Proof.Machine.execPanelSyncFrame link f s
  | .tunnelMessage link member m => Sys2Proof.Machine.execTunnelMessage link member m s
  | .tunnelResend member => Sys2Proof.Machine.execTunnelResend member s
  | .tunnelReadTimeout k => Sys2Proof.Machine.execTunnelReadTimeout k s
  | .tunnelDoorbell window off value size => Sys2Proof.Machine.execTunnelDoorbell window off value size s
  | .leadUnreachable lost => Sys2Proof.Machine.execLeadUnreachable lost s
  | .mismatchReport link => Sys2Proof.Machine.execMismatchReport link s
  | .airOfsWrite rq value => Sys2Proof.Machine.execAirOfsWrite rq value s
  | .ptpAnnounce port a => Sys2Proof.Machine.execPtpAnnounce port a s
  | .ptpSync port domain seq twoStep t1 corr => Sys2Proof.Machine.execPtpSync port domain seq twoStep t1 corr s
  | .ptpFollowUp port domain seq t1 corr => Sys2Proof.Machine.execPtpFollowUp port domain seq t1 corr s
  | .delayReq port => Sys2Proof.Machine.execDelayReq port s
  | .delayResp port domain seq t4 corr => Sys2Proof.Machine.execDelayResp port domain seq t4 corr s
  | .ptpSourceLost port => Sys2Proof.Machine.execPtpSourceLost port s
  | .ppsInEdge => Sys2Proof.Machine.execPpsInEdge s
  | .ppsLost => Sys2Proof.Machine.execPpsLost s
  | .ppsOut rise => Sys2Proof.Machine.execPpsOut rise s
  | .clockLocked => Sys2Proof.Machine.execClockLocked s
  | .timeCellSend port => Sys2Proof.Machine.execTimeCellSend port s
  | .timeTransferCell lane => Sys2Proof.Machine.execTimeTransferCell lane s
  | .thetaUpdate port => Sys2Proof.Machine.execThetaUpdate port s
  | .rootSeqAdvance => Sys2Proof.Machine.execRootSeqAdvance s
  | .rootLost => Sys2Proof.Machine.execRootLost s
  | .ownKeyWindowEnd => Sys2Proof.Machine.execOwnKeyWindowEnd s
  | .extDisagree diff => Sys2Proof.Machine.execExtDisagree diff s
  | .timeStep h sec ns => Sys2Proof.Machine.execTimeStep h sec ns s
  | .timeEpoch h epoch => Sys2Proof.Machine.execTimeEpoch h epoch s
  | .otaCal h c => Sys2Proof.Machine.execOtaCal h c s
  | .otaCalResult o => Sys2Proof.Machine.execOtaCalResult o s
  | .engNopBundle n => Sys2Proof.Machine.execEngNopBundle n s
  | .engMac4 n => Sys2Proof.Machine.execEngMac4 n s
  | .engDot4 n => Sys2Proof.Machine.execEngDot4 n s
  | .engCmac n => Sys2Proof.Machine.execEngCmac n s
  | .engTapmv n => Sys2Proof.Machine.execEngTapmv n s
  | .engSta4 n => Sys2Proof.Machine.execEngSta4 n s
  | .engStc n => Sys2Proof.Machine.execEngStc n s
  | .engAdd n => Sys2Proof.Machine.execEngAdd n s
  | .engAddi n => Sys2Proof.Machine.execEngAddi n s
  | .engSub n => Sys2Proof.Machine.execEngSub n s
  | .engAnd n => Sys2Proof.Machine.execEngAnd n s
  | .engOr n => Sys2Proof.Machine.execEngOr n s
  | .engXor n => Sys2Proof.Machine.execEngXor n s
  | .engShli n => Sys2Proof.Machine.execEngShli n s
  | .engShri n => Sys2Proof.Machine.execEngShri n s
  | .engSari n => Sys2Proof.Machine.execEngSari n s
  | .engMovi n => Sys2Proof.Machine.execEngMovi n s
  | .engOrh n => Sys2Proof.Machine.execEngOrh n s
  | .engLdg n => Sys2Proof.Machine.execEngLdg n s
  | .engStg n => Sys2Proof.Machine.execEngStg n s
  | .engSth n => Sys2Proof.Machine.execEngSth n s
  | .engMvag n => Sys2Proof.Machine.execEngMvag n s
  | .engMvga n => Sys2Proof.Machine.execEngMvga n s
  | .engExp n => Sys2Proof.Machine.execEngExp n s
  | .engNorm n => Sys2Proof.Machine.execEngNorm n s
  | .engBexr n => Sys2Proof.Machine.execEngBexr n s
  | .engAgset n => Sys2Proof.Machine.execEngAgset n s
  | .engRcp n => Sys2Proof.Machine.execEngRcp n s
  | .engRsq n => Sys2Proof.Machine.execEngRsq n s
  | .engMul n => Sys2Proof.Machine.execEngMul n s
  | .engTapc n => Sys2Proof.Machine.execEngTapc n s
  | .engBr n => Sys2Proof.Machine.execEngBr n s
  | .engCall n => Sys2Proof.Machine.execEngCall n s
  | .engRet n => Sys2Proof.Machine.execEngRet n s
  | .engLoop n => Sys2Proof.Machine.execEngLoop n s
  | .engWait n => Sys2Proof.Machine.execEngWait n s
  | .engineWake n events => Sys2Proof.Machine.execEngineWake n events s
  | .engTrap n => Sys2Proof.Machine.execEngTrap n s
  | .engTime n => Sys2Proof.Machine.execEngTime n s
  | .engWriteWeights n => Sys2Proof.Machine.execEngWriteWeights n s
  | .engCovRead n => Sys2Proof.Machine.execEngCovRead n s
  | .engEvent n => Sys2Proof.Machine.execEngEvent n s
  | .engSolved n => Sys2Proof.Machine.execEngSolved n s
  | .engFence n => Sys2Proof.Machine.execEngFence n s
  | .engRetk n => Sys2Proof.Machine.execEngRetk n s
  | .engHalt n => Sys2Proof.Machine.execEngHalt n s
  | .watchdog n => Sys2Proof.Machine.execWatchdog n s
  | .engineRestart n => Sys2Proof.Machine.execEngineRestart n s
  | .modeChange n maintenance cause => Sys2Proof.Machine.execModeChange n maintenance cause s
  | .kernelInvocation n arg => Sys2Proof.Machine.execKernelInvocation n arg s
  | .kernelPlacement n => Sys2Proof.Machine.execKernelPlacement n s
  | .engKernel h tileMask action addr len => Sys2Proof.Machine.execEngKernel h tileMask action addr len s
  | .engMode h engine mode => Sys2Proof.Machine.execEngMode h engine mode s
  | .nop h => Sys2Proof.Machine.execNop h s
  | .profile h p => Sys2Proof.Machine.execProfile h p s
  | .profileApply => Sys2Proof.Machine.execProfileApply s
  | .now h => Sys2Proof.Machine.execNow h s
  | .doorbell ring value size => Sys2Proof.Machine.execDoorbell ring value size s
  | .kick ring value size => Sys2Proof.Machine.execKick ring value size s
  | .headDoorbell ring value size => Sys2Proof.Machine.execHeadDoorbell ring value size s
  | .ringEnable rq ring en => Sys2Proof.Machine.execRingEnable rq ring en s
  | .ringsDisable rq => Sys2Proof.Machine.execRingsDisable rq s
  | .descriptorFetch ring => Sys2Proof.Machine.execDescriptorFetch ring s
  | .phaseReread ring => Sys2Proof.Machine.execPhaseReread ring s
  | .timedCheck => Sys2Proof.Machine.execTimedCheck s
  | .timedApply => Sys2Proof.Machine.execTimedApply s
  | .msixMessage vector => Sys2Proof.Machine.execMsixMessage vector s
  | .msixUnmask vector => Sys2Proof.Machine.execMsixUnmask vector s
  | .linkDown => Sys2Proof.Machine.execLinkDown s
  | .linkUp => Sys2Proof.Machine.execLinkUp s
  | .configRequest => Sys2Proof.Machine.execConfigRequest s
  | .sluChain h ch stopOnErr head => Sys2Proof.Machine.execSluChain h ch stopOnErr head s
  | .sluStop h ch => Sys2Proof.Machine.execSluStop h ch s
  | .sluKick rq value => Sys2Proof.Machine.execSluKick rq value s
  | .ctrlPoll ch => Sys2Proof.Machine.execCtrlPoll ch s
  | .sluiceDescriptor ch busFail => Sys2Proof.Machine.execSluiceDescriptor ch busFail s
  | .descriptorComplete ch => Sys2Proof.Machine.execDescriptorComplete ch s
  | .seaIdentity h addr => Sys2Proof.Machine.execSeaIdentity h addr s
  | .seaAttest h nonce addr => Sys2Proof.Machine.execSeaAttest h nonce addr s
  | .seaSetId h id => Sys2Proof.Machine.execSeaSetId h id s
  | .seaCommit h cls version => Sys2Proof.Machine.execSeaCommit h cls version s
  | .seaEnrol h slot addr => Sys2Proof.Machine.execSeaEnrol h slot addr s
  | .seaCak h addr => Sys2Proof.Machine.execSeaCak h addr s
  | .seaRetire h uid => Sys2Proof.Machine.execSeaRetire h uid s
  | .entropyFailure => Sys2Proof.Machine.execEntropyFailure s
  | .entropyRecovered => Sys2Proof.Machine.execEntropyRecovered s
  | .imageVerification engine image => Sys2Proof.Machine.execImageVerification engine image s
  | .rstnFall => Sys2Proof.Machine.execRstnFall s
  | .supplyMonitorTrip aonLost => Sys2Proof.Machine.execSupplyMonitorTrip aonLost s
  | .resetRelease flashOk fast => Sys2Proof.Machine.execResetRelease flashOk fast s
  | .referenceMeasure khz => Sys2Proof.Machine.execReferenceMeasure khz s
  | .referenceLost => Sys2Proof.Machine.execReferenceLost s
  | .railRecheck outMask => Sys2Proof.Machine.execRailRecheck outMask s
  | .imagesOk => Sys2Proof.Machine.execImagesOk s
  | .reducedService => Sys2Proof.Machine.execReducedService s
  | .tileCalibrated tile ok => Sys2Proof.Machine.execTileCalibrated tile ok s
  | .calibrationRefined => Sys2Proof.Machine.execCalibrationRefined s
  | .perstFall => Sys2Proof.Machine.execPerstFall s
  | .perstRise => Sys2Proof.Machine.execPerstRise s
  | .confirm rq => Sys2Proof.Machine.execConfirm rq s
  | .softRst rq key => Sys2Proof.Machine.execSoftRst rq key s
  | .go rq => Sys2Proof.Machine.execGo rq s
  | .updateDone busOk tempOk writeOk => Sys2Proof.Machine.execUpdateDone busOk tempOk writeOk s
  | .pwrState h target mask sources timer => Sys2Proof.Machine.execPwrState h target mask sources timer s
  | .tileGated tile => Sys2Proof.Machine.execTileGated tile s
  | .tileUngated tile => Sys2Proof.Machine.execTileUngated tile s
  | .wakeNLow => Sys2Proof.Machine.execWakeNLow s
  | .wake rq => Sys2Proof.Machine.execWake rq s
  | .polderExit => Sys2Proof.Machine.execPolderExit s
  | .sentinelWake source => Sys2Proof.Machine.execSentinelWake source s
  | .autoGating => Sys2Proof.Machine.execAutoGating s
  | .avsUpdate target => Sys2Proof.Machine.execAvsUpdate target s
  | .hkaInject h => Sys2Proof.Machine.execHkaInject h s
  | .start rq => Sys2Proof.Machine.execStart rq s
  | .hkaTimerTrigger seq => Sys2Proof.Machine.execHkaTimerTrigger seq s
  | .hkaEventTrigger seq => Sys2Proof.Machine.execHkaEventTrigger seq s
  | .conversionDone nv => Sys2Proof.Machine.execConversionDone nv s
  | .biasReadback nv => Sys2Proof.Machine.execBiasReadback nv s
  | .biasSweep => Sys2Proof.Machine.execBiasSweep s
  | .supplyCheck => Sys2Proof.Machine.execSupplyCheck s
  | .mainsEdge => Sys2Proof.Machine.execMainsEdge s
  | .mainsLoss => Sys2Proof.Machine.execMainsLoss s
  | .gauStream h c => Sys2Proof.Machine.execGauStream h c s
  | .gauArm h c => Sys2Proof.Machine.execGauArm h c s
  | .gauStop h mask => Sys2Proof.Machine.execGauStop h mask s
  | .gauForce h mask => Sys2Proof.Machine.execGauForce h mask s
  | .gauMask h addr => Sys2Proof.Machine.execGauMask h addr s
  | .gaugeTrigEdge rising => Sys2Proof.Machine.execGaugeTrigEdge rising s
  | .gaugeTrigger source conds => Sys2Proof.Machine.execGaugeTrigger source conds s
  | .autoTrigger source => Sys2Proof.Machine.execAutoTrigger source s
  | .gaugeRecord source data => Sys2Proof.Machine.execGaugeRecord source data s
  | .gaugeDrained source => Sys2Proof.Machine.execGaugeDrained source s
  | .gaugeRearm source => Sys2Proof.Machine.execGaugeRearm source s
  | .pathRestore h mask => Sys2Proof.Machine.execPathRestore h mask s
  | .pathTestDone path passed => Sys2Proof.Machine.execPathTestDone path passed s
  | .telemetryRecord o => Sys2Proof.Machine.execTelemetryRecord o s
  | .telSetup h k b addr => Sys2Proof.Machine.execTelSetup h k b addr s
  | .logRead h count addr => Sys2Proof.Machine.execLogRead h count addr s
  | .fltDumpRegion h fullMem clear addr len => Sys2Proof.Machine.execFltDumpRegion h fullMem clear addr len s
  | .fltDumpFetch h erase addr => Sys2Proof.Machine.execFltDumpFetch h erase addr s
  | .fltDumpTest h => Sys2Proof.Machine.execFltDumpTest h s
  | .fatalError cause engine => Sys2Proof.Machine.execFatalError cause engine s
  | .dumpWritten => Sys2Proof.Machine.execDumpWritten s
  | .dumpRetry => Sys2Proof.Machine.execDumpRetry s
  | .dumpSlotErase slot => Sys2Proof.Machine.execDumpSlotErase slot s
  | .smbSetOffset off pecOk => Sys2Proof.Machine.execSmbSetOffset off pecOk s
  | .smbRead pecOk => Sys2Proof.Machine.execSmbRead pecOk s
  | .smbWrite off value pecOk => Sys2Proof.Machine.execSmbWrite off value pecOk s
  | .alertResponse => Sys2Proof.Machine.execAlertResponse s
  | .testEnRise => Sys2Proof.Machine.execTestEnRise s
  | .bypass => Sys2Proof.Machine.execBypass s
  | .idcode => Sys2Proof.Machine.execIdcode s
  | .samplePreload data => Sys2Proof.Machine.execSamplePreload data s
  | .extest => Sys2Proof.Machine.execExtest s
  | .extestPulse => Sys2Proof.Machine.execExtestPulse s
  | .extestTrain => Sys2Proof.Machine.execExtestTrain s
  | .clamp => Sys2Proof.Machine.execClamp s
  | .highz => Sys2Proof.Machine.execHighz s
  | .feDelayApply => Sys2Proof.Machine.execFeDelayApply s
  | .devLock rq value => Sys2Proof.Machine.execDevLock rq value s
  | .registerWrite rq off size value => Sys2Proof.Machine.execRegisterWrite rq off size value s
  | .polderEntryDone => Sys2Proof.Machine.execPolderEntryDone s
  | .dormantEntryDone => Sys2Proof.Machine.execDormantEntryDone s
  | .seawallOperationDone stopped => Sys2Proof.Machine.execSeawallOperationDone stopped s
  | .rffeTransferDone tile results failed => Sys2Proof.Machine.execRffeTransferDone tile results failed s
  | .culvertSignalReturn lane => Sys2Proof.Machine.execCulvertSignalReturn lane s
  | .tripLatchClear => Sys2Proof.Machine.execTripLatchClear s
  | .backoffReturn lane => Sys2Proof.Machine.execBackoffReturn lane s

end Sys2Proof.Machine
end

