-- ==== Sys2Proof/Machine/Descriptor.lean ====
section
/-! DEFINITION. The descriptors of the ring commands as the host writes them (R357 and the command tables R83, R117, R158, R191, R229, R263, R290,
R319, R348, R360, R391, R415, R463, R482, R498, R511): the bytes that spell a header and a command. -/
namespace Sys2Proof.Machine
open Sys2Proof

/-- The operations of an `RFFE_XFER` descriptor, eight bytes each (R191): first byte, count and value of each field. -/
def rffeOpFields : Nat → List RffeOp → List (Nat × Nat × Nat)
  | _, [] => []
  | off, o :: t =>
    [(off, 1, o.usid + 16 * o.kind), (off + 1, 1, o.count), (off + 2, 2, o.addr), (off + 4, 4, o.data)] ++ rffeOpFields (off + 8) t

/-- The fields of a command in its descriptor: first byte, count of bytes and value. -/
def cmdFields : Cmd → List (Nat × Nat × Nat)
  | .nop  => []
  | .profile p => [(16, 1, p)]
  | .now  => []
  | .pwrState target mask sources timer => [(16, 1, target), (17, 1, mask), (18, 1, sources), (20, 4, timer)]
  | .txCarrier c => [(16, 1, c.tileMask), (17, 1, c.carrier + 128 * b2n c.enable), (18, 1, c.num), (19, 1, c.log2n), (20, 2, c.nprb),
      (22, 2, c.gain), (24, 6, c.ftw), (32, 4, c.f0khz), (36, 1, c.cfrWeight)]
  | .txTile c => [(16, 1, c.tile), (17, 1, b2n c.updNco + 2 * b2n c.updGain), (18, 6, c.ftw), (24, 2, nth c.gains 0), (26, 2, nth
      c.gains 1), (28, 2, nth c.gains 2), (30, 2, nth c.gains 3), (32, 2, nth c.gains 4), (34, 2, nth c.gains 5), (36, 2, nth
      c.gains 6), (38, 2, nth c.gains 7)]
  | .dpdLoad path bank count src => [(16, 1, path), (17, 1, bank), (18, 2, count), (24, 8, src)]
  | .dpdSwap tile pathMask fade => [(16, 1, tile), (17, 1, pathMask), (18, 1, fade)]
  | .biasSet c => [(16, 1, c.tile), (17, 1, c.dac), (18, 1, c.span + 128 * b2n c.spanChange), (20, 2, c.code)]
  | .ddsTone c => [(16, 8, c.pathMask), (24, 6, c.ftw), (30, 2, c.ampl), (32, 2, c.phase), (34, 1, b2n c.enable + 2 * b2n c.point)]
  | .rxCarrier c => [(16, 1, c.tileMask), (17, 1, c.carrier + 128 * b2n c.enable), (18, 1, c.num), (19, 1, c.log2n), (20, 2, c.nprb),
      (22, 2, c.gain), (24, 6, c.ftw), (30, 1, c.filter), (32, 4, c.f0khz), (36, 2, c.winAdv)]
  | .rxExtract c => [(16, 1, c.tileMask), (17, 1, c.entry + 128 * b2n c.enable), (18, 1, c.carrier), (19, 1, c.buf), (20, 2,
      c.symMask), (22, 2, c.prbStart), (24, 2, c.prbCount), (26, 1, c.combLog2 + 4 * c.combOffset), (28, 2, c.slotPeriod), (30, 2,
      c.slotOffset)]
  | .rxSync panel => [(16, 1, b2n panel)]
  | .bfLayers carrier uplink layers ulShift prio => [(16, 1, carrier + 128 * b2n uplink), (17, 1, layers), (18, 1, ulShift), (20, 16,
      prio)]
  | .beamLoad c => [(16, 1, c.bank + 2 * b2n c.repair + 4 * b2n c.flush + 8 * b2n c.gather), (18, 2, c.first), (20, 2, c.count), (24,
      8, c.src), (32, 8, c.index)]
  | .beamSwap blend => [(16, 1, blend)]
  | .covSetup c => [(16, 1, c.carrier + 128 * b2n c.enable), (17, 1, c.layers), (18, 2, c.sbPrb), (20, 2, c.prbFirst), (22, 2,
      c.prbCount), (24, 2, c.base), (26, 2, c.period), (28, 2, c.offset), (30, 2, c.reg), (32, 2, c.symMask), (34, 1, b2n c.autoSwap
      + 2 * c.autoBlend), (36, 8, c.paramAddr)]
  | .acdOccasion c => [(16, 1, c.config + 128 * b2n c.enable), (17, 1, c.carrier), (18, 1, c.format), (19, 1, c.scs), (20, 1,
      c.framePeriod), (21, 1, c.frameOffset), (22, 1, c.firstSymbol), (23, 1, c.occasions), (24, 10, c.slotMask), (34, 1, c.fdm),
      (36, 2, c.prbStart), (38, 2, c.root), (40, 2, c.ncs), (42, 1, c.preambles), (43, 1, c.set), (44, 2, c.beamFirst), (46, 1,
      c.beams), (48, 2, c.thresh)]
  | .foReport c => [(16, 1, c.entry + 128 * b2n c.enable), (17, 1, c.carrier), (18, 4, c.layerMask), (22, 1, c.l1), (23, 1, c.l2),
      (24, 2, c.prbFirst), (26, 2, c.prbCount), (28, 1, c.dmrs), (30, 2, c.scrambling), (32, 2, c.slotPeriod), (34, 2,
      c.slotOffset), (36, 1, c.portBase)]
  | .leveeCert addr => [(24, 8, addr)]
  | .leveeUnmute mask => [(16, 8, mask)]
  | .rctPattern pattern tileMask period addr _ => [(16, 1, pattern), (17, 1, tileMask), (18, 2, period), (24, 8, addr)]
  | .tileState tileMask target => [(16, 1, tileMask), (17, 1, target)]
  | .rffeXfer c => [(16, 1, c.tile), (17, 1, c.nops), (18, 1, c.timing), (56, 8, c.result)] ++ rffeOpFields 24 c.ops
  | .synRecal  => []
  | .aerial tile pathMask search clear => [(16, 1, tile), (17, 1, pathMask), (18, 1, b2n search + 2 * b2n clear)]
  | .fhCarrier c => [(16, 1, c.carrier + 128 * b2n c.uplink), (17, 1, c.transport), (18, 1, c.method + 16 * c.width), (19, 1, b2n
      c.static)]
  | .coopSet c => [(16, 1, c.index), (17, 1, b2n c.enable + 2 * b2n c.dl + 4 * b2n c.ul), (18, 1, c.position), (19, 1, c.members),
      (20, 2, c.setId), (22, 2, c.vid + 8192 * c.pcp), (24, 6, c.group), (30, 1, c.upPort), (31, 1, c.downPort), (32, 6, c.downMac),
      (38, 1, c.carriers), (39, 1, c.first), (40, 1, c.layers), (41, 1, c.finalShift), (42, 1, c.bs), (43, 1, c.segPrb), (44, 4,
      c.upDelay)]
  | .msecRekey ports => [(16, 1, ports)]
  | .fhOwdm c => [(16, 1, c.port), (17, 1, b2n c.followUp), (18, 6, c.peer), (24, 2, c.eaxc), (26, 1, c.id), (32, 8, c.result)]
  | .lineMode port mode train => [(16, 1, port), (17, 1, mode), (18, 1, b2n train)]
  | .lineRestart mask => [(16, 8, mask)]
  | .lineSnapshot lane addr => [(16, 1, lane), (24, 8, addr)]
  | .lineTest mask pattern addr => [(16, 1, mask), (17, 1, pattern), (24, 8, addr)]
  | .lineRmute addr => [(24, 8, addr)]
  | .culSleep mask sleep => [(16, 2, mask), (18, 1, b2n sleep)]
  | .culEyescan mask phi0 phi1 v0 v1 dwell addr => [(16, 2, mask), (18, 1, phi0), (19, 1, phi1), (20, 1, v0), (21, 1, v1), (22, 1,
      dwell), (24, 8, addr)]
  | .culReg pos n addr => [(16, 1, pos), (17, 1, n), (24, 8, addr)]
  | .timeStep sec ns => [(16, 6, sec), (24, 4, ns)]
  | .timeEpoch epoch => [(16, 4, epoch)]
  | .otaCal c => [(16, 1, c.role), (17, 1, c.tile), (18, 1, c.carrier), (20, 2, c.partner), (22, 2, c.txBeam), (24, 2, c.rxBeam), (32,
      8, c.addr)]
  | .engKernel tileMask action addr len => [(16, 1, tileMask), (17, 1, action), (24, 8, addr), (32, 4, len)]
  | .engMode engine mode => [(16, 1, engine), (17, 1, mode)]
  | .sluChain ch stopOnErr head => [(16, 1, ch), (17, 1, b2n stopOnErr), (24, 8, head)]
  | .sluStop ch => [(16, 1, ch)]
  | .seaIdentity addr => [(24, 8, addr)]
  | .seaAttest nonce addr => [(24, 8, nonce), (32, 8, addr)]
  | .seaSetId id => [(16, 2, id)]
  | .seaCommit cls version => [(16, 1, cls), (17, 2, version)]
  | .seaEnrol slot addr => [(16, 1, slot), (24, 8, addr)]
  | .seaCak addr => [(24, 8, addr)]
  | .seaRetire uid => [(16, 16, uid)]
  | .hkaInject  => []
  | .gauStream c => [(16, 1, c.stream), (17, 1, c.tap), (18, 1, c.sel), (19, 1, c.carrier), (20, 2, c.d), (22, 2, c.first), (24, 2,
      c.pages), (26, 1, c.segments)]
  | .gauArm c => [(16, 1, c.mask), (17, 1, c.source), (18, 1, b2n c.rep + 2 * b2n c.reqFull + 4 * b2n c.auto + 8 * b2n c.maskStop + 16
      * b2n c.drain + 32 * b2n c.evtMissed), (19, 1, c.cond), (20, 4, c.pre), (24, 4, c.post), (28, 4, c.autoUs), (32, 2, c.level),
      (34, 2, c.power), (36, 1, c.wlog + 128 * b2n c.below), (37, 1, c.leveeMask), (38, 1, c.hold), (40, 4, c.frame), (44, 2,
      c.tick), (48, 4, c.tOfs), (52, 8, c.dest), (60, 4, c.stride)]
  | .gauStop mask => [(16, 1, mask)]
  | .gauForce mask => [(16, 1, mask)]
  | .gauMask addr => [(24, 8, addr)]
  | .fltDumpRegion fullMem clear addr len => [(16, 1, b2n fullMem + 2 * b2n clear), (24, 8, addr), (32, 4, len)]
  | .fltDumpFetch erase addr => [(16, 1, b2n erase), (24, 8, addr)]
  | .telSetup k b addr => [(16, 1, k), (17, 1, b), (24, 8, addr)]
  | .logRead count addr => [(16, 4, count), (24, 8, addr)]
  | .pathRestore mask => [(16, 8, mask)]
  | .fltDumpTest  => []

/-- The byte at an offset of a descriptor that a list of fields gives. -/
def fieldByte (l : List (Nat × Nat × Nat)) (i : Nat) : Nat :=
  sumL (l.map fun e => if e.1 ≤ i ∧ i < e.1 + e.2.1 then e.2.2 / 256 ^ (i - e.1) % 256 else 0)

/-- The 64 bytes of a descriptor (R357): the phase bit, the header and the command. -/
def encodeDescriptor (phase : Bool) (h : Hdr) (c : Cmd) : List Nat :=
  [opcodeOf c, b2n phase + 2 * b2n h.timed + 4 * b2n h.fence] ++ bytesLE 2 h.tag ++ bytesLE 4 h.effFrame ++ bytesLE 2 h.effTick ++
    List.replicate 6 0 ++ (List.range' 16 48).map (fieldByte (cmdFields c))

end Sys2Proof.Machine
end

