-- ==== Sys2Proof/Safety.lean ====
section
/-! DEFINITION. What counts as a sound state, and what the raising of records leaves alone: the terms the claims use. -/
namespace Sys2Proof.Machine
open Sys2Proof

/-- The register file and the memories of a state are in their canonical form: addresses rise, and no entry is zero. -/
abbrev State.stored (s : State) : Prop := s.regs.wf = true ∧ s.hostMem.wf = true ∧ s.devMem.wf = true

/-- Whether a field is one the device writes when it raises an event record or a completion record: positions, states and counts of the
rings (R362, R366, R371), the flag of lost records, and what the flash log shows of itself (R505, R506). -/
def recordField (f : Field) : Bool :=
  (decide (0x081000 ≤ f.reg) && decide (f.reg < 0x081800) && (f.reg % 0x20 == 0x0C || decide (0x18 ≤ f.reg % 0x20))) ||
  (f.reg == Reg.HRG_STAT && !(decide (f.lsb + f.width ≤ 4) || decide (5 ≤ f.lsb))) ||
  (f.reg == Reg.THM_WINDOW && !decide (f.lsb + f.width ≤ 8)) ||
  (f.reg == Reg.FLT_STAT && !(decide (f.lsb + f.width ≤ 1) || decide (2 ≤ f.lsb))) ||
  f.reg == Reg.FLT_LOG_WEAR

/-- Whether an address of host memory lies in a completion or event ring. -/
def State.inRecordRing (s : State) (a : Nat) : Bool :=
  (List.range' 32 32).any fun r =>
    decide (s.rd64 (Reg.HRG_RING_BASE r) ≤ a) && decide (a < s.rd64 (Reg.HRG_RING_BASE r) + 32 * s.ringN r)

/-- A state without what records are kept in: the registers, host memory, the rings and the stores of records (R436, R505, R214, R536). -/
def State.work (s : State) : State :=
  { s with regs := [], hostMem := [],
           host := { s.host with rings := [], heldEvents := [], heldDropped := 0, heldDroppedAt := 0, heldCompletions := [] },
           fh := { s.fh with report := [] },
           flt := { s.flt with log := [], logHeld := [], logSector := 0, logFill := 0, logErase := [], bucket := 0, bucketAt := 0,
                               logSkipped := 0 },
           pkg := { s.pkg with console := 0 } }

/-- The second state is the first but for records: nothing else of the state differs, no register field outside those of the rings and the
log, and no byte of host memory outside the completion and event rings. -/
structure Reports (s t : State) : Prop where
  work : t.work = s.work
  stored : s.stored → t.stored
  fields : s.stored → ∀ f, recordField f = false → t.get f = s.get f
  mem : s.stored → ∀ a, s.inRecordRing a = false → t.hostMem.read a = s.hostMem.read a

/-- Whether a field lies inside its register's 32 bits. -/
abbrev Field.ok (f : Field) : Prop := f.lsb + f.width ≤ 32

/-- Whether two fields share no bit. -/
abbrev Field.apart (f g : Field) : Prop := f.reg ≠ g.reg ∨ f.lsb + f.width ≤ g.lsb ∨ g.lsb + g.width ≤ f.lsb

/-- The outcome is the next state `u` but for records. -/
def Answers (o : Host.Outcome State Fault Refusal) (u : State) : Prop := ∃ t, o = .next t ∧ Reports u t

/-- The state and the header with which a timed ring command is taken into the timed store (R24, R358, R364, R365): a good header, an
effective tick early enough and at most 1,024 frames ahead, and a device not retired (R415). -/
structure State.TakesTimed (s : State) (h : Hdr) : Prop where
  ring : h.ring < 32
  timed : h.timed = true
  fence : h.fence = false
  tick : h.effTick < s.tpf
  served : s.sea.retired = false
  early : s.airNs < s.tickStart (s.effAbs h - 2)
  near : s.fullFrame h.effFrame ≤ s.frame + 1024

/-- The state and the header with which an untimed ring command passes the checks of its header (R358, R365, R415). -/
structure State.TakesNow (s : State) (h : Hdr) : Prop where
  ring : h.ring < 32
  timed : h.timed = false
  frame : h.effFrame = 0
  tick : h.effTick = 0
  served : s.sea.retired = false

/-- The second state is the first with one more command in the timed store (R364), and its count shown: nothing else differs. -/
structure HeldIn (s t : State) (h : Hdr) (c : Cmd) : Prop where
  timed : t.host.timed = s.host.timed ++ [⟨h, c, s.fullFrame h.effFrame, h.effTick, false, true, s.host.order⟩]
  order : t.host.order = s.host.order + 1
  shown : t.get Reg.HRG_STAT_TIMED_PENDING = (s.host.timed.length + 1) % 2 ^ 13
  fields : ∀ f : Field, f.apart Reg.HRG_STAT_TIMED_PENDING → t.get f = s.get f
  rest : { t with regs := s.regs, host := { t.host with timed := s.host.timed, order := s.host.order } } = s

/-- An engine that is ready to run one bundle of firmware with `p` in slot P and nothing in slot Q (R330). -/
structure State.RunsBundle (s : State) (n p : Nat) : Prop where
  word : (s.engine n).prog.readLE (8 * (s.engine n).r.pc) 8 = p * 2 ^ 32
  ready : s.bundleReady n = true
  firmware : s.kernelRuns n = false

/-- The same with `p` in slot P or, where it may stand there, in slot Q, and nothing in the other slot. -/
structure State.RunsAlone (s : State) (n p : Nat) : Prop where
  word : (s.engine n).prog.readLE (8 * (s.engine n).r.pc) 8 = p * 2 ^ 32 ∨
    (s.engine n).prog.readLE (8 * (s.engine n).r.pc) 8 = p ∧ p < 2 ^ 32 ∧ slotQOk p = true
  ready : s.bundleReady n = true
  firmware : s.kernelRuns n = false

/-- The state after a bundle of firmware that only changes the engine's registers: its cycles are counted (R332, R350), and the numbers a
bundle may draw are drawn. -/
def State.ranBundle (s : State) (n cycles : Nat) (r : EngRegs) : State :=
  { (s.modEngine n fun e => { e with r := r }).add64 (Reg.ENG_CYC n) cycles with free := s.free + 4 }

/-! ## The parts of a state -/

/-- The parts of a state beside the queue: device time, the count of free values, the register file, host memory, device memory, and the
parts of `State` that hold what the spec's units keep. -/
inductive Part where
  | clock | free | regs | mem | devMem | host | arch | tx | rx | beam | levee | rct | fh | line | cul | tim | eng | slu | sea | boot
  | pwr | hka | gau | flt | pkg
  deriving DecidableEq, Repr

/-- A part is the same in two states, but for records: registers of the rings and the log aside, the rings in host memory aside, and the
stores of records aside (R362, R366, R371, R436, R505). -/
def Part.same (p : Part) (s t : State) : Prop :=
  match p with
  | .clock => t.now = s.now ∧ t.frac = s.frac
  | .free => t.free = s.free
  | .regs => ∀ f, recordField f = false → t.get f = s.get f
  | .mem => ∀ a, s.inRecordRing a = false → t.hostMem.read a = s.hostMem.read a
  | .devMem => t.devMem = s.devMem
  | .host => t.work.host = s.work.host
  | .arch => t.arch = s.arch
  | .tx => t.tx = s.tx
  | .rx => t.rx = s.rx
  | .beam => t.beam = s.beam
  | .levee => t.levee = s.levee
  | .rct => t.rct = s.rct
  | .fh => t.work.fh = s.work.fh
  | .line => t.line = s.line
  | .cul => t.cul = s.cul
  | .tim => t.tim = s.tim
  | .eng => t.eng = s.eng
  | .slu => t.slu = s.slu
  | .sea => t.sea = s.sea
  | .boot => t.boot = s.boot
  | .pwr => t.pwr = s.pwr
  | .hka => t.hka = s.hka
  | .gau => t.gau = s.gau
  | .flt => t.work.flt = s.work.flt
  | .pkg => t.work.pkg = s.work.pkg

/-- The parts a command may change beside raising records: what its rules give it, and what its units give each other. -/
def touches : Instr → List Part
  | .symbolTick .. => [.clock, .free, .regs, .mem, .devMem, .tx, .rx, .beam, .levee, .rct, .fh, .cul, .tim, .hka, .gau, .flt]
  | .combiningHoldEnd .. | .owdmMessage .. | .partialSumMessage .. | .mkaHello | .duReport | .fhOwdm .. | .tunnelResend ..
    => [.regs, .mem, .fh, .cul]
  | .accessRetry .. | .tunnelMessage .. | .tunnelReadTimeout .. | .engNopBundle .. | .engMac4 .. | .engDot4 .. | .engCmac ..
  | .engTapmv .. | .engSta4 .. | .engStc .. | .engAdd .. | .engAddi .. | .engSub .. | .engAnd .. | .engOr .. | .engXor .. | .engShli ..
  | .engShri .. | .engSari .. | .engMovi .. | .engOrh .. | .engLdg .. | .engStg .. | .engSth .. | .engMvag .. | .engMvga ..
  | .engExp .. | .engNorm .. | .engBexr .. | .engAgset .. | .engRcp .. | .engRsq .. | .engMul .. | .engTapc .. | .engBr ..
  | .engCall .. | .engRet .. | .engLoop .. | .engWait .. | .engTrap .. | .engWriteWeights .. | .engCovRead .. | .engEvent ..
  | .engFence .. | .engRetk .. | .engHalt .. | .watchdog .. | .engineRestart .. | .rstnFall | .supplyMonitorTrip .. | .softRst ..
  | .fatalError .. | .dumpWritten | .dumpRetry | .smbWrite .. | .testEnRise | .registerWrite ..
    => [.clock, .free, .regs, .mem, .devMem, .host, .arch, .tx, .rx, .beam, .levee, .rct, .fh, .line, .cul, .tim, .eng, .slu, .sea,
      .boot, .pwr, .hka, .gau, .flt, .pkg]
  | .wideReadLatch .. | .wideWriteStage .. | .profile .. | .linkDown | .configRequest => [.host]
  | .timRefNumWrite .. => [.regs, .mem, .arch]
  | .refNumChange => [.regs, .mem, .arch, .rct]
  | .tAdvApply => [.arch]
  | .marginRst .. | .setStateChange .. | .culvertFrame .. | .airOfsWrite .. | .doorbell .. | .kick .. | .headDoorbell ..
  | .ringEnable .. | .msixMessage .. | .msixUnmask .. | .devLock .. | .backoffReturn .. => [.regs, .mem]
  | .scrubRead .. | .telemetryRecord .. | .telSetup .. | .fltDumpRegion .. | .fltDumpFetch .. => [.regs, .mem, .flt]
  | .calibrationStep .. => [.free, .regs, .mem, .tx, .rx]
  | .dpdAdaptation .. => [.free, .regs, .mem, .tx]
  | .equaliserUpdate .. | .fecDegradeClear .. | .occupancyWindow .. | .overlayCell .. | .trainingCell .. | .histReq .. | .histDone ..
    => [.regs, .mem, .line]
  | .thermalSampling .. => [.regs, .mem, .tx, .beam, .rct, .boot, .pwr, .gau, .flt]
  | .throttleLower => [.regs, .mem, .tx, .beam, .rct, .pwr, .gau]
  | .t2Restore | .beamLoad .. | .beamTransitionEnd | .heldBeamSwapStart | .covSolveStart .. | .occasionEnd .. => [.regs, .mem, .beam]
  | .t3Gating | .autoGating => [.regs, .mem, .tx, .rct, .pwr, .gau]
  | .t3Release | .wakeNLow | .wake .. | .avsUpdate .. | .tripLatchClear => [.regs, .mem, .pwr]
  | .thermalTrip .. => [.regs, .mem, .tx, .rx, .rct, .line, .cul, .tim, .boot, .pwr, .gau]
  | .txCarrier .. | .txTile .. | .biasSet .. | .ddsTone .. | .rxCarrier .. | .rxExtract .. | .bfLayers .. | .covSetup ..
  | .acdOccasion .. | .foReport .. | .rctPattern .. | .tileState .. | .synRecal .. | .fhCarrier .. | .coopSet .. | .otaCal ..
  | .ringsDisable .. | .linkUp | .perstFall | .perstRise => [.regs, .mem, .host]
  | .dpdLoad .. | .dpdFadeEnd .. | .heldDpdSwapStart .. | .biasSpanSwitch .. => [.regs, .mem, .tx]
  | .dpdLoadComplete .. | .txSatSummary .. => [.tx]
  | .dpdSwap .. => [.regs, .mem, .host, .tx]
  | .biasTrigger .. | .biasTriggerTimeout .. | .biasSafePhaseEnd .. => [.regs, .mem, .tx, .hka]
  | .overloadEpisodeStart .. | .syncInEdge | .syncConfirmTimeout => [.regs, .mem, .rx]
  | .overloadProtect .. => [.regs, .mem, .tx, .rx, .rct, .gau]
  | .overloadEpisodeEnd .. | .synthLockLost .. => [.regs, .mem, .rx, .rct]
  | .syncEvent | .panelSyncFrame .. => [.regs, .mem, .rx, .cul]
  | .rxSync .. => [.regs, .mem, .host, .cul]
  | .rxSatSummary .. | .extractionDrops .. => [.rx]
  | .beamLoadComplete .. => [.regs, .mem, .devMem, .beam]
  | .poolFlushComplete | .pageMissSummary | .renormalisation => [.beam]
  | .beamSwap .. => [.regs, .mem, .host, .beam]
  | .pageLoadComplete .. => [.devMem, .beam]
  | .covSolveEnd .. => [.free, .regs, .mem, .devMem, .beam]
  | .foMeasurement .. | .nop .. | .now .. => []
  | .leveeCert .. | .lineRmute .. | .seaIdentity .. | .seaAttest .. | .seaSetId .. | .seaCommit .. | .seaEnrol .. | .seaCak ..
  | .seaRetire .. | .entropyFailure => [.regs, .mem, .sea]
  | .limitsInForce => [.regs, .mem, .tx, .levee, .rct]
  | .leveeUnmute .. => [.regs, .mem, .levee, .rct, .line]
  | .leveeDwell .. | .obsReferenceCheck .. => [.regs, .mem, .levee, .rct, .gau]
  | .patternBind .. | .timingApply .. | .strobeEdge .. | .coexReqChange .. => [.rct]
  | .protectHoldExpiry .. => [.regs, .mem, .tx, .rct, .gau]
  | .coexGntChange .. => [.regs, .mem, .tx, .levee, .rct, .gau]
  | .rffeXfer .. => [.regs, .mem, .host, .rct]
  | .synthCalibrationDone .. | .referenceLost => [.regs, .mem, .rx, .rct, .boot]
  | .driftRecalibration | .aerial .. | .mismatchPair .. | .tunerTrial .. => [.regs, .mem, .rct]
  | .blankingSummary => [.levee]
  | .lineFrame .. | .mkaMessage .. | .mkaPeerLost .. => [.regs, .mem, .fh]
  | .cplaneMessage .. => [.regs, .mem, .beam, .fh, .cul]
  | .uplaneMessage .. => [.regs, .mem, .tx, .fh, .cul]
  | .flowIdleTimeout | .dropSummary | .msecRekey .. | .owdmTimeout .. => [.fh]
  | .lineMode .. | .lineRestart .. | .lineTest .. | .losChange .. | .laneBackoffEnd .. | .laneTimeout .. | .markerLock .. | .fecLock ..
  | .markerPeriod .. | .rxReady .. | .oneSidedTimeout .. | .neighbourUnreachable .. | .timeTransferCell .. => [.regs, .mem, .line, .tim]
  | .lineSnapshot .. | .logRead .. => [.mem]
  | .lineTestReport .. => [.mem, .line]
  | .portUp .. => [.free, .regs, .mem, .line]
  | .freezeEvent .. | .heartbeatSend | .fragmentTimeout .. | .timeCellSend .. => [.line]
  | .heartbeat .. => [.regs, .mem, .line, .tim, .boot]
  | .muteFragment .. => [.free, .regs, .mem, .line, .sea]
  | .culSleep .. | .autoSleep .. | .leadUnreachable .. | .culvertSignalReturn .. => [.regs, .mem, .cul]
  | .culEyescan .. | .laneReadd .. | .mismatchReport .. => [.cul]
  | .eyescanDone .. => [.mem, .cul]
  | .culReg .. | .tunnelDoorbell .. => [.fh, .cul]
  | .headerLock .. | .lockLoss .. | .culvertSignalLoss .. | .alignPeriod .. | .alignBlock .. | .sleepBlocks ..
    => [.regs, .mem, .cul, .tim]
  | .linkMgmtFrame .. => [.regs, .mem, .cul, .tim, .boot]
  | .ptpAnnounce .. | .ptpSourceLost .. | .ppsLost | .clockLocked | .rootLost | .ownKeyWindowEnd | .extDisagree .. => [.regs, .mem, .tim]
  | .ptpSync .. | .ptpFollowUp .. | .ppsInEdge | .thetaUpdate .. => [.clock, .free, .regs, .mem, .tim]
  | .delayReq .. | .delayResp .. | .ppsOut .. | .rootSeqAdvance => [.tim]
  | .timeStep .. => [.clock]
  | .timeEpoch .. => [.regs, .mem, .tim, .boot]
  | .otaCalResult .. => [.mem, .tim]
  | .engineWake .. | .modeChange .. | .engMode .. => [.regs, .mem, .eng]
  | .engTime .. => [.eng]
  | .engSolved .. => [.free, .beam, .eng]
  | .kernelInvocation .. => [.free, .regs, .mem, .eng]
  | .kernelPlacement .. => [.regs, .mem, .devMem, .eng, .sea]
  | .engKernel .. => [.regs, .mem, .eng, .sea]
  | .profileApply => [.regs, .mem, .host, .tx, .rx, .beam, .rct, .fh]
  | .descriptorFetch .. | .phaseReread ..
    => [.clock, .regs, .mem, .host, .tx, .rx, .beam, .levee, .rct, .fh, .line, .cul, .tim, .eng, .slu, .sea, .boot, .pwr, .hka, .gau,
      .flt]
  | .timedCheck => [.regs, .mem, .host, .tx, .rx, .beam, .rct, .fh, .cul, .pwr]
  | .timedApply => [.regs, .mem, .host, .tx, .rx, .beam, .rct, .fh, .cul, .tim, .pwr, .gau]
  | .sluChain .. | .sluStop .. | .sluKick .. | .ctrlPoll .. => [.regs, .mem, .slu]
  | .sluiceDescriptor .. => [.free, .regs, .mem, .slu]
  | .descriptorComplete .. => [.regs, .mem, .devMem, .slu]
  | .entropyRecovered => [.sea]
  | .imageVerification .. => [.regs, .mem, .devMem, .eng, .sea, .boot, .flt]
  | .resetRelease .. => [.regs, .mem, .sea, .boot, .pwr, .pkg]
  | .referenceMeasure .. => [.regs, .mem, .rct, .line, .cul, .tim, .boot]
  | .railRecheck .. => [.regs, .mem, .line, .cul, .tim, .boot]
  | .imagesOk => [.regs, .mem, .levee, .rct, .line, .cul, .tim, .boot]
  | .reducedService | .calibrationRefined => [.free, .regs, .mem, .tx, .rx, .boot]
  | .tileCalibrated .. => [.free, .regs, .mem, .tx, .rx, .beam, .rct, .boot, .pwr, .hka, .gau, .flt]
  | .confirm .. | .go .. => [.regs, .mem, .boot]
  | .updateDone .. => [.regs, .mem, .sea, .boot]
  | .pwrState .. => [.regs, .mem, .tx, .rx, .rct, .line, .cul, .tim, .pwr, .hka, .gau]
  | .tileGated .. => [.regs, .mem, .tx, .rct, .pwr, .hka, .gau]
  | .tileUngated .. => [.regs, .mem, .tx, .beam, .rct, .boot, .pwr, .hka, .gau, .flt]
  | .polderExit => [.regs, .mem, .tx, .rct, .line, .cul, .tim, .slu, .pwr, .hka, .gau]
  | .sentinelWake .. => [.pwr]
  | .hkaInject .. | .start .. | .hkaTimerTrigger .. | .hkaEventTrigger .. | .conversionDone .. | .biasSweep | .supplyCheck | .mainsEdge
  | .mainsLoss => [.regs, .mem, .hka]
  | .biasReadback .. => [.regs, .mem, .tx, .rct, .hka, .gau]
  | .gauStream .. | .gauStop .. | .gauForce .. | .gaugeTrigger .. | .autoTrigger .. | .gaugeDrained .. | .gaugeRearm ..
    => [.regs, .mem, .gau]
  | .gauArm .. => [.regs, .mem, .host, .gau]
  | .gauMask .. => [.gau]
  | .gaugeTrigEdge .. => [.regs, .mem, .gau, .pkg]
  | .gaugeRecord .. => [.regs, .mem, .devMem, .gau]
  | .pathRestore .. | .fltDumpTest .. | .dumpSlotErase .. => [.flt]
  | .pathTestDone .. => [.free, .tx, .flt]
  | .smbSetOffset .. | .alertResponse | .bypass | .idcode => [.pkg]
  | .smbRead .. => [.host, .pkg]
  | .samplePreload .. | .extest | .extestPulse | .extestTrain | .clamp | .highz => [.free, .pkg]
  | .feDelayApply => [.regs, .mem, .tx, .rx]
  | .polderEntryDone => [.regs, .mem, .rx, .rct, .line, .cul, .tim, .pwr, .hka]
  | .dormantEntryDone => [.regs, .mem, .boot, .pwr, .flt]
  | .seawallOperationDone .. => [.free, .regs, .mem, .tx, .levee, .rct, .fh, .line, .eng, .sea, .boot, .pwr, .gau]
  | .rffeTransferDone .. => [.mem, .rct]

end Sys2Proof.Machine
end

