-- ==== Sys2Proof/WellFormed.lean ====
section
/-! DEFINITION. Which values a command admits: the widths of the fields of the descriptors (R357 and the command tables), and the
numbers of tiles, paths, lanes, rings and engines that the spec gives the device. The machine itself checks what the spec has it
check; a command that is not well-formed names something the device does not have. -/
namespace Sys2Proof

/-- The header of a descriptor (R357): rings 0 to 31 are submission rings. -/
abbrev Hdr.wf (h : Hdr) : Prop := h.ring < 32 ∧ h.tag < 65536 ∧ h.effFrame < 2 ^ 32 ∧ h.effTick < 65536

/-- A requester: the engines are 0 to 15. -/
abbrev Requester.wf : Requester → Prop
  | .engine n => n < 16
  | _ => True

/-- The widths of `TX_TILE` (R83). -/
abbrev TxTileCmd.wf (c : TxTileCmd) : Prop :=
  c.tile < 256 ∧ c.ftw < 2 ^ 48 ∧ c.gains.length = 8 ∧ ∀ g ∈ c.gains, g < 65536

/-- The widths of one RFFE operation (R191). -/
abbrev RffeOp.wf (c : RffeOp) : Prop := c.usid < 16 ∧ c.kind < 16 ∧ c.count < 256 ∧ c.addr < 65536 ∧ c.data < 2 ^ 32

/-- The widths of `RFFE_XFER` (R191): the descriptor has room for four operations. -/
abbrev RffeCmd.wf (c : RffeCmd) : Prop :=
  c.tile < 256 ∧ c.nops < 256 ∧ c.timing < 256 ∧ c.result < 2 ^ 64 ∧ c.ops.length = 4 ∧ ∀ x ∈ c.ops, x.wf

/-- The widths of its fields (R83). -/
abbrev TxCarrierCmd.wf (c : TxCarrierCmd) : Prop :=
  c.tileMask < 256 ∧ c.carrier < 8 ∧ c.num < 16 ∧ c.log2n < 256 ∧ c.nprb < 65536 ∧ c.gain < 65536 ∧ c.ftw < 2 ^ 48 ∧
  c.f0khz < 2 ^ 25 ∧ c.cfrWeight < 256

/-- The widths of its fields (R83). -/
abbrev BiasSetCmd.wf (c : BiasSetCmd) : Prop :=
  c.tile < 256 ∧ c.dac < 256 ∧ c.span < 4 ∧ c.code < 65536

/-- The widths of its fields (R83). -/
abbrev DdsToneCmd.wf (c : DdsToneCmd) : Prop :=
  c.pathMask < 2 ^ 64 ∧ c.ftw < 2 ^ 48 ∧ c.ampl < 65536 ∧ c.phase < 65536

/-- The widths of its fields (R117). -/
abbrev RxCarrierCmd.wf (c : RxCarrierCmd) : Prop :=
  c.tileMask < 256 ∧ c.carrier < 8 ∧ c.num < 8 ∧ c.log2n < 256 ∧ c.nprb < 65536 ∧ c.gain < 65536 ∧ c.ftw < 2 ^ 48 ∧
  c.filter < 32 ∧ c.f0khz < 2 ^ 25 ∧ c.winAdv < 65536

/-- The widths of its fields (R117). -/
abbrev RxExtractCmd.wf (c : RxExtractCmd) : Prop :=
  c.tileMask < 256 ∧ c.entry < 16 ∧ c.carrier < 256 ∧ c.buf < 256 ∧ c.symMask < 2 ^ 14 ∧ c.prbStart < 65536 ∧
  c.prbCount < 65536 ∧ c.combLog2 < 4 ∧ c.combOffset < 8 ∧ c.slotPeriod < 65536 ∧ c.slotOffset < 65536

/-- The widths of its fields (R158). -/
abbrev BeamLoadCmd.wf (c : BeamLoadCmd) : Prop :=
  c.bank < 2 ∧ c.first < 65536 ∧ c.count < 65536 ∧ c.src < 2 ^ 64 ∧ c.index < 2 ^ 64

/-- The widths of its fields (R158). -/
abbrev CovSetupCmd.wf (c : CovSetupCmd) : Prop :=
  c.carrier < 8 ∧ c.layers < 256 ∧ c.sbPrb < 65536 ∧ c.prbFirst < 65536 ∧ c.prbCount < 65536 ∧ c.base < 65536 ∧
  c.period < 65536 ∧ c.offset < 65536 ∧ c.reg < 65536 ∧ c.symMask < 2 ^ 14 ∧ c.autoBlend < 16 ∧ c.paramAddr < 2 ^ 64

/-- The widths of its fields (R158). -/
abbrev AcdCmd.wf (c : AcdCmd) : Prop :=
  c.config < 16 ∧ c.carrier < 256 ∧ c.format < 256 ∧ c.scs < 256 ∧ c.framePeriod < 256 ∧ c.frameOffset < 256 ∧
  c.firstSymbol < 256 ∧ c.occasions < 256 ∧ c.slotMask < 2 ^ 80 ∧ c.fdm < 256 ∧ c.prbStart < 65536 ∧ c.root < 65536 ∧
  c.ncs < 65536 ∧ c.preambles < 256 ∧ c.set < 4 ∧ c.beamFirst < 65536 ∧ c.beams < 256 ∧ c.thresh < 65536

/-- The widths of its fields (R158). -/
abbrev FoCmd.wf (c : FoCmd) : Prop :=
  c.entry < 32 ∧ c.carrier < 256 ∧ c.layerMask < 2 ^ 32 ∧ c.l1 < 256 ∧ c.l2 < 256 ∧ c.prbFirst < 65536 ∧ c.prbCount < 65536 ∧
  c.dmrs < 4 ∧ c.scrambling < 65536 ∧ c.slotPeriod < 65536 ∧ c.slotOffset < 65536 ∧ c.portBase < 256

/-- The widths of its fields (R229). -/
abbrev FhCarrierCmd.wf (c : FhCarrierCmd) : Prop :=
  c.carrier < 8 ∧ c.transport < 256 ∧ c.method < 16 ∧ c.width < 16

/-- The widths of its fields (R229). -/
abbrev CoopSetCmd.wf (c : CoopSetCmd) : Prop :=
  c.index < 256 ∧ c.position < 256 ∧ c.members < 256 ∧ c.setId < 65536 ∧ c.vid < 4096 ∧ c.pcp < 8 ∧ c.group < 2 ^ 48 ∧
  c.upPort < 256 ∧ c.downPort < 256 ∧ c.downMac < 2 ^ 48 ∧ c.carriers < 256 ∧ c.first < 32 ∧ c.layers < 256 ∧ c.finalShift < 8 ∧
  c.bs < 256 ∧ c.segPrb < 256 ∧ c.upDelay < 2 ^ 32

/-- The widths of its fields (R229). -/
abbrev FhOwdmCmd.wf (c : FhOwdmCmd) : Prop :=
  c.port < 256 ∧ c.peer < 2 ^ 48 ∧ c.eaxc < 65536 ∧ c.id < 256 ∧ c.result < 2 ^ 64

/-- The widths of its fields (R319). -/
abbrev OtaCmd.wf (c : OtaCmd) : Prop :=
  c.role < 256 ∧ c.tile < 256 ∧ c.carrier < 256 ∧ c.partner < 65536 ∧ c.txBeam < 65536 ∧ c.rxBeam < 65536 ∧ c.addr < 2 ^ 64

/-- The widths of its fields (R498). -/
abbrev GauStreamCmd.wf (c : GauStreamCmd) : Prop :=
  c.stream < 256 ∧ c.tap < 256 ∧ c.sel < 256 ∧ c.carrier < 256 ∧ c.d < 65536 ∧ c.first < 65536 ∧ c.pages < 65536 ∧
  c.segments < 256

/-- The widths of its fields (R498). -/
abbrev GauArmCmd.wf (c : GauArmCmd) : Prop :=
  c.mask < 256 ∧ c.source < 256 ∧ c.cond < 64 ∧ c.pre < 2 ^ 32 ∧ c.post < 2 ^ 32 ∧ c.autoUs < 2 ^ 32 ∧ c.level < 65536 ∧
  c.power < 65536 ∧ c.wlog < 16 ∧ c.leveeMask < 8 ∧ c.hold < 256 ∧ c.frame < 2 ^ 32 ∧ c.tick < 65536 ∧ c.tOfs < 2 ^ 32 ∧
  c.dest < 2 ^ 64 ∧ c.stride < 2 ^ 32

/-- The widths of a ring command's fields, as its descriptor lays them out; the codes of a pattern are read from host memory and are no field
of the descriptor. -/
abbrev Cmd.wf : Cmd → Prop
  | .nop => True
  | .profile p => p < 8
  | .now => True
  | .pwrState target mask sources timer => target < 256 ∧ mask < 256 ∧ sources < 8 ∧ timer < 2 ^ 32
  | .txCarrier c => c.wf
  | .txTile c => c.wf
  | .dpdLoad path bank count src => path < 256 ∧ bank < 256 ∧ count < 65536 ∧ src < 2 ^ 64
  | .dpdSwap tile pathMask fade => tile < 256 ∧ pathMask < 256 ∧ fade < 256
  | .biasSet c => c.wf
  | .ddsTone c => c.wf
  | .rxCarrier c => c.wf
  | .rxExtract c => c.wf
  | .rxSync _ => True
  | .bfLayers carrier _ layers ulShift prio => carrier < 8 ∧ layers < 256 ∧ ulShift < 8 ∧ prio < 2 ^ 128
  | .beamLoad c => c.wf
  | .beamSwap blend => blend < 256
  | .covSetup c => c.wf
  | .acdOccasion c => c.wf
  | .foReport c => c.wf
  | .leveeCert addr => addr < 2 ^ 64
  | .leveeUnmute mask => mask < 2 ^ 64
  | .rctPattern pattern tileMask period addr codes => pattern < 256 ∧ tileMask < 256 ∧ period < 65536 ∧ addr < 2 ^ 64 ∧ codes = []
  | .tileState tileMask target => tileMask < 256 ∧ target < 256
  | .rffeXfer c => c.wf
  | .synRecal => True
  | .aerial tile pathMask _ _ => tile < 256 ∧ pathMask < 256
  | .fhCarrier c => c.wf
  | .coopSet c => c.wf
  | .msecRekey ports => ports < 256
  | .fhOwdm c => c.wf
  | .lineMode port mode _ => port < 256 ∧ mode < 256
  | .lineRestart mask => mask < 2 ^ 64
  | .lineSnapshot lane addr => lane < 256 ∧ addr < 2 ^ 64
  | .lineTest mask pattern addr => mask < 256 ∧ pattern < 256 ∧ addr < 2 ^ 64
  | .lineRmute addr => addr < 2 ^ 64
  | .culSleep mask _ => mask < 4096
  | .culEyescan mask phi0 phi1 v0 v1 dwell addr => mask < 65536 ∧ phi0 < 256 ∧ phi1 < 256 ∧ v0 < 256 ∧ v1 < 256 ∧ dwell < 256 ∧ addr < 2 ^ 64
  | .culReg pos n addr => pos < 256 ∧ n < 256 ∧ addr < 2 ^ 64
  | .timeStep sec ns => sec < 2 ^ 48 ∧ ns < 2 ^ 32
  | .timeEpoch epoch => epoch < 2 ^ 32
  | .otaCal c => c.wf
  | .engKernel tileMask action addr len => tileMask < 256 ∧ action < 256 ∧ addr < 2 ^ 64 ∧ len < 2 ^ 32
  | .engMode engine mode => engine < 256 ∧ mode < 256
  | .sluChain ch _ head => ch < 256 ∧ head < 2 ^ 64
  | .sluStop ch => ch < 256
  | .seaIdentity addr => addr < 2 ^ 64
  | .seaAttest nonce addr => nonce < 2 ^ 64 ∧ addr < 2 ^ 64
  | .seaSetId id => id < 65536
  | .seaCommit cls version => cls < 256 ∧ version < 65536
  | .seaEnrol slot addr => slot < 256 ∧ addr < 2 ^ 64
  | .seaCak addr => addr < 2 ^ 64
  | .seaRetire uid => uid < 2 ^ 128
  | .hkaInject => True
  | .gauStream c => c.wf
  | .gauArm c => c.wf
  | .gauStop mask => mask < 256
  | .gauForce mask => mask < 256
  | .gauMask addr => addr < 2 ^ 64
  | .fltDumpRegion _ _ addr len => addr < 2 ^ 64 ∧ len < 2 ^ 32
  | .fltDumpFetch _ addr => addr < 2 ^ 64
  | .telSetup k b addr => k < 256 ∧ b < 256 ∧ addr < 2 ^ 64
  | .logRead count addr => count < 2 ^ 32 ∧ addr < 2 ^ 64
  | .pathRestore mask => mask < 2 ^ 64
  | .fltDumpTest => True

/-- Well-formed commands. -/
def Instr.wf : Instr → Prop
  | .symbolTick _ => True
  | .combiningHoldEnd set _ => set < 32
  | .accessRetry _ _ => True
  | .wideReadLatch rq off => rq.wf ∧ off < 2 ^ 22
  | .wideWriteStage rq off value => rq.wf ∧ off < 2 ^ 22 ∧ value < 2 ^ 32
  | .timRefNumWrite rq value => rq.wf ∧ value < 2 ^ 32
  | .refNumChange => True
  | .tAdvApply => True
  | .marginRst rq => rq.wf
  | .calibrationStep tile _ _ => tile < 8
  | .dpdAdaptation path _ => path < 64
  | .equaliserUpdate lane _ => lane < 8
  | .txCarrier h c => h.wf ∧ c.wf
  | .txTile h c => h.wf ∧ c.wf
  | .dpdLoad h path bank count src => h.wf ∧ path < 256 ∧ bank < 256 ∧ count < 65536 ∧ src < 2 ^ 64
  | .dpdLoadComplete path _ => path < 64
  | .dpdSwap h tile pathMask fade => h.wf ∧ tile < 256 ∧ pathMask < 256 ∧ fade < 256
  | .dpdFadeEnd path => path < 64
  | .heldDpdSwapStart tile => tile < 8
  | .biasSet h c => h.wf ∧ c.wf
  | .biasTrigger tile dac edge => tile < 8 ∧ dac < 16 ∧ edge < 4
  | .biasTriggerTimeout tile dac => tile < 8 ∧ dac < 16
  | .biasSpanSwitch tile dac => tile < 8 ∧ dac < 16
  | .biasSafePhaseEnd tile dac => tile < 8 ∧ dac < 16
  | .ddsTone h c => h.wf ∧ c.wf
  | .txSatSummary tile => tile < 8
  | .feDelayApply => True
  | .overloadEpisodeStart path => path < 64
  | .overloadProtect path => path < 64
  | .overloadEpisodeEnd path _ => path < 64
  | .syncInEdge => True
  | .syncEvent => True
  | .syncConfirmTimeout => True
  | .rxCarrier h c => h.wf ∧ c.wf
  | .rxExtract h c => h.wf ∧ c.wf
  | .rxSync h _ => h.wf
  | .rxSatSummary tile => tile < 8
  | .extractionDrops tile => tile < 8
  | .bfLayers h carrier _ layers ulShift prio => h.wf ∧ carrier < 8 ∧ layers < 256 ∧ ulShift < 8 ∧ prio < 2 ^ 128
  | .beamLoad h c => h.wf ∧ c.wf
  | .beamLoadComplete _ => True
  | .poolFlushComplete => True
  | .beamSwap h blend => h.wf ∧ blend < 256
  | .beamTransitionEnd => True
  | .heldBeamSwapStart => True
  | .pageLoadComplete entry => entry < 4096
  | .pageMissSummary => True
  | .covSetup h c => h.wf ∧ c.wf
  | .covSolveStart carrier => carrier < 8
  | .covSolveEnd carrier => carrier < 8
  | .renormalisation => True
  | .acdOccasion h c => h.wf ∧ c.wf
  | .occasionEnd config time _ => config < 16 ∧ time < 7
  | .foReport h c => h.wf ∧ c.wf
  | .foMeasurement entry layer _ _ _ _ => entry < 32 ∧ layer < 32
  | .leveeCert h addr => h.wf ∧ addr < 2 ^ 64
  | .limitsInForce => True
  | .leveeUnmute h mask => h.wf ∧ mask < 2 ^ 64
  | .leveeDwell path _ => path < 64
  | .obsReferenceCheck tile _ _ => tile < 8
  | .rctPattern h pattern tileMask period addr => h.wf ∧ pattern < 256 ∧ tileMask < 256 ∧ period < 65536 ∧ addr < 2 ^ 64
  | .patternBind tile => tile < 8
  | .timingApply tile => tile < 8
  | .tileState h tileMask target => h.wf ∧ tileMask < 256 ∧ target < 256
  | .protectHoldExpiry tile => tile < 8
  | .strobeEdge tile step => tile < 8 ∧ 1 ≤ step ∧ step ≤ 7 ∧ step ≠ 3 ∧ step ≠ 4
  | .coexGntChange pair _ => pair < 2
  | .coexReqChange pair _ => pair < 2
  | .rffeXfer h c => h.wf ∧ c.wf
  | .synRecal h => h.wf
  | .synthLockLost which => which < 2
  | .synthCalibrationDone _ => True
  | .driftRecalibration => True
  | .aerial h tile pathMask _ _ => h.wf ∧ tile < 256 ∧ pathMask < 256
  | .mismatchPair path _ _ => path < 64
  | .tunerTrial tile _ _ => tile < 8
  | .blankingSummary => True
  | .rffeTransferDone tile _ _ => tile < 8
  | .lineFrame f => f.port < 2
  | .cplaneMessage m => m.port < 4
  | .uplaneMessage m => m.port < 4
  | .owdmMessage m => m.port < 2
  | .partialSumMessage port _ => port < 4
  | .mkaMessage m => m.port < 2
  | .mkaHello => True
  | .mkaPeerLost port => port < 2
  | .flowIdleTimeout => True
  | .duReport => True
  | .dropSummary => True
  | .setStateChange set => set < 32
  | .fhCarrier h c => h.wf ∧ c.wf
  | .coopSet h c => h.wf ∧ c.wf
  | .msecRekey h ports => h.wf ∧ ports < 256
  | .fhOwdm h c => h.wf ∧ c.wf
  | .owdmTimeout id => id < 512
  | .lineMode h port mode _ => h.wf ∧ port < 256 ∧ mode < 256
  | .lineRestart h mask => h.wf ∧ mask < 2 ^ 64
  | .lineSnapshot h lane addr => h.wf ∧ lane < 256 ∧ addr < 2 ^ 64
  | .lineTest h mask pattern addr => h.wf ∧ mask < 256 ∧ pattern < 256 ∧ addr < 2 ^ 64
  | .lineTestReport lane _ _ => lane < 8
  | .lineRmute h addr => h.wf ∧ addr < 2 ^ 64
  | .losChange lane _ => lane < 8
  | .laneBackoffEnd lane => lane < 8
  | .laneTimeout lane => lane < 8
  | .markerLock lane => lane < 8
  | .fecLock lane => lane < 8
  | .portUp port _ => port < 2
  | .markerPeriod lane _ => lane < 8
  | .fecDegradeClear port => port < 2
  | .occupancyWindow lane _ => lane < 8
  | .freezeEvent lane => lane < 8
  | .overlayCell lane bytes => lane < 8 ∧ bytes.length = 32
  | .trainingCell lane bytes => lane < 8 ∧ bytes.length = 32
  | .rxReady lane => lane < 8
  | .oneSidedTimeout lane => lane < 8
  | .heartbeatSend => True
  | .heartbeat lane => lane < 8
  | .neighbourUnreachable port => port < 2
  | .muteFragment lane => lane < 8
  | .fragmentTimeout port => port < 2
  | .histReq rq lane => rq.wf ∧ lane < 8
  | .histDone lane _ => lane < 8
  | .backoffReturn lane => lane < 8
  | .culSleep h mask _ => h.wf ∧ mask < 4096
  | .culEyescan h mask phi0 phi1 v0 v1 dwell addr => h.wf ∧ mask < 65536 ∧ phi0 < 256 ∧ phi1 < 256 ∧ v0 < 256 ∧ v1 < 256 ∧ dwell < 256 ∧ addr < 2 ^ 64
  | .eyescanDone _ _ => True
  | .culReg h pos n addr => h.wf ∧ pos < 256 ∧ n < 256 ∧ addr < 2 ^ 64
  | .headerLock lane => lane < 12
  | .lockLoss lane => lane < 12
  | .culvertSignalLoss lane => lane < 12
  | .culvertSignalReturn lane => lane < 12
  | .alignPeriod link _ => link < 2
  | .alignBlock lane _ => lane < 12
  | .sleepBlocks lane => lane < 12
  | .laneReadd lane => lane < 12
  | .autoSleep link => link < 2
  | .culvertFrame _ => True
  | .linkMgmtFrame link _ => link < 2
  | .panelSyncFrame link _ => link < 2
  | .tunnelMessage link member _ => link < 2 ∧ member < 8
  | .tunnelResend member => member < 8
  | .tunnelReadTimeout _ => True
  | .tunnelDoorbell window _ value size => window < 8 ∧ (size = 4 ∨ size = 8) ∧ value < 2 ^ 64
  | .leadUnreachable _ => True
  | .mismatchReport link => link < 2
  | .airOfsWrite rq value => rq.wf ∧ value < 2 ^ 64
  | .ptpAnnounce port _ => port < 2
  | .ptpSync port _ seq _ _ _ => port < 2 ∧ seq < 2 ^ 16
  | .ptpFollowUp port _ seq _ _ => port < 2 ∧ seq < 2 ^ 16
  | .delayReq port => port < 2
  | .delayResp port _ seq _ _ => port < 2 ∧ seq < 2 ^ 16
  | .ptpSourceLost port => port < 2
  | .ppsInEdge => True
  | .ppsLost => True
  | .ppsOut _ => True
  | .clockLocked => True
  | .timeCellSend port => port < 4
  | .timeTransferCell lane => lane < 8
  | .thetaUpdate port => port < 4
  | .rootSeqAdvance => True
  | .rootLost => True
  | .ownKeyWindowEnd => True
  | .extDisagree _ => True
  | .timeStep h sec ns => h.wf ∧ sec < 2 ^ 48 ∧ ns < 2 ^ 32
  | .timeEpoch h epoch => h.wf ∧ epoch < 2 ^ 32
  | .otaCal h c => h.wf ∧ c.wf
  | .otaCalResult _ => True
  | .engNopBundle n => n < 16
  | .engMac4 n => n < 16
  | .engDot4 n => n < 16
  | .engCmac n => n < 16
  | .engTapmv n => n < 16
  | .engSta4 n => n < 16
  | .engStc n => n < 16
  | .engAdd n => n < 16
  | .engAddi n => n < 16
  | .engSub n => n < 16
  | .engAnd n => n < 16
  | .engOr n => n < 16
  | .engXor n => n < 16
  | .engShli n => n < 16
  | .engShri n => n < 16
  | .engSari n => n < 16
  | .engMovi n => n < 16
  | .engOrh n => n < 16
  | .engLdg n => n < 16
  | .engStg n => n < 16
  | .engSth n => n < 16
  | .engMvag n => n < 16
  | .engMvga n => n < 16
  | .engExp n => n < 16
  | .engNorm n => n < 16
  | .engBexr n => n < 16
  | .engAgset n => n < 16
  | .engRcp n => n < 16
  | .engRsq n => n < 16
  | .engMul n => n < 16
  | .engTapc n => n < 16
  | .engBr n => n < 16
  | .engCall n => n < 16
  | .engRet n => n < 16
  | .engLoop n => n < 16
  | .engWait n => n < 16
  | .engineWake n events => n < 16 ∧ events < 2 ^ 32
  | .engTrap n => n < 16
  | .engTime n => n < 16
  | .engWriteWeights n => n < 16
  | .engCovRead n => n < 16
  | .engEvent n => n < 16
  | .engSolved n => n < 16
  | .engFence n => n < 16
  | .engRetk n => n < 16
  | .engHalt n => n < 16
  | .watchdog n => n < 16
  | .engineRestart n => n < 16
  | .modeChange n _ _ => n < 16
  | .kernelInvocation n arg => n < 8 ∧ arg < 2 ^ 32
  | .kernelPlacement n => n < 8
  | .engKernel h tileMask action addr len => h.wf ∧ tileMask < 256 ∧ action < 256 ∧ addr < 2 ^ 64 ∧ len < 2 ^ 32
  | .engMode h engine mode => h.wf ∧ engine < 256 ∧ mode < 256
  | .nop h => h.wf
  | .profile h p => h.wf ∧ p < 8
  | .profileApply => True
  | .now h => h.wf
  | .doorbell ring value size => ring < 32 ∧ (size = 4 ∨ size = 8) ∧ value < 2 ^ 32
  | .kick ring value size => ring < 32 ∧ (size = 4 ∨ size = 8) ∧ value < 2 ^ 32
  | .headDoorbell ring value size => 32 ≤ ring ∧ ring < 64 ∧ (size = 4 ∨ size = 8) ∧ value < 2 ^ 32
  | .ringEnable rq ring _ => rq.wf ∧ ring < 64
  | .ringsDisable rq => rq.wf
  | .descriptorFetch ring => ring < 32
  | .phaseReread ring => ring < 32
  | .timedCheck => True
  | .timedApply => True
  | .msixMessage vector => vector < 64
  | .msixUnmask vector => vector < 64
  | .linkDown => True
  | .linkUp => True
  | .configRequest => True
  | .sluChain h ch _ head => h.wf ∧ ch < 256 ∧ head < 2 ^ 64
  | .sluStop h ch => h.wf ∧ ch < 256
  | .sluKick rq value => rq.wf ∧ value < 2 ^ 32
  | .ctrlPoll ch => ch < 32
  | .sluiceDescriptor ch _ => ch < 32
  | .descriptorComplete ch => ch < 32
  | .seaIdentity h addr => h.wf ∧ addr < 2 ^ 64
  | .seaAttest h nonce addr => h.wf ∧ nonce < 2 ^ 64 ∧ addr < 2 ^ 64
  | .seaSetId h id => h.wf ∧ id < 65536
  | .seaCommit h cls version => h.wf ∧ cls < 256 ∧ version < 65536
  | .seaEnrol h slot addr => h.wf ∧ slot < 256 ∧ addr < 2 ^ 64
  | .seaCak h addr => h.wf ∧ addr < 2 ^ 64
  | .seaRetire h uid => h.wf ∧ uid < 2 ^ 128
  | .entropyFailure => True
  | .entropyRecovered => True
  | .imageVerification engine _ => engine < 16
  | .seawallOperationDone _ => True
  | .rstnFall => True
  | .supplyMonitorTrip _ => True
  | .resetRelease _ _ => True
  | .referenceMeasure _ => True
  | .referenceLost => True
  | .railRecheck outMask => outMask < 2 ^ 32
  | .imagesOk => True
  | .reducedService => True
  | .tileCalibrated tile _ => tile < 8
  | .calibrationRefined => True
  | .perstFall => True
  | .perstRise => True
  | .confirm rq => rq.wf
  | .softRst rq key => rq.wf ∧ key < 2 ^ 32
  | .go rq => rq.wf
  | .updateDone _ _ _ => True
  | .thermalSampling temps => temps.length = 40
  | .throttleLower => True
  | .t2Restore => True
  | .t3Gating => True
  | .t3Release => True
  | .thermalTrip mask => mask < 2 ^ 40
  | .tripLatchClear => True
  | .pwrState h target mask sources timer => h.wf ∧ target < 256 ∧ mask < 256 ∧ sources < 8 ∧ timer < 2 ^ 32
  | .tileGated tile => tile < 8
  | .tileUngated tile => tile < 8
  | .wakeNLow => True
  | .wake rq => rq.wf
  | .polderEntryDone => True
  | .polderExit => True
  | .dormantEntryDone => True
  | .sentinelWake source => source < 5
  | .autoGating => True
  | .avsUpdate _ => True
  | .hkaInject h => h.wf
  | .start rq => rq.wf
  | .hkaTimerTrigger seq => seq < 2
  | .hkaEventTrigger seq => seq < 2
  | .conversionDone _ => True
  | .biasReadback _ => True
  | .biasSweep => True
  | .supplyCheck => True
  | .mainsEdge => True
  | .mainsLoss => True
  | .gauStream h c => h.wf ∧ c.wf
  | .gauArm h c => h.wf ∧ c.wf
  | .gauStop h mask => h.wf ∧ mask < 256
  | .gauForce h mask => h.wf ∧ mask < 256
  | .gauMask h addr => h.wf ∧ addr < 2 ^ 64
  | .gaugeTrigEdge _ => True
  | .gaugeTrigger source _ => source < 8
  | .autoTrigger source => source < 8
  | .gaugeRecord source _ => source < 8
  | .gaugeDrained source => source < 8
  | .gaugeRearm source => source < 8
  | .scrubRead _ _ => True
  | .pathRestore h mask => h.wf ∧ mask < 2 ^ 64
  | .pathTestDone path _ => path < 64
  | .telemetryRecord _ => True
  | .telSetup h k b addr => h.wf ∧ k < 256 ∧ b < 256 ∧ addr < 2 ^ 64
  | .logRead h count addr => h.wf ∧ count < 2 ^ 32 ∧ addr < 2 ^ 64
  | .fltDumpRegion h _ _ addr len => h.wf ∧ addr < 2 ^ 64 ∧ len < 2 ^ 32
  | .fltDumpFetch h _ addr => h.wf ∧ addr < 2 ^ 64
  | .fltDumpTest h => h.wf
  | .fatalError cause engine => cause < 256 ∧ engine < 16
  | .dumpWritten => True
  | .dumpRetry => True
  | .dumpSlotErase slot => slot < 2
  | .smbSetOffset off _ => off < 2 ^ 32
  | .smbRead _ => True
  | .smbWrite off value _ => off < 2 ^ 32 ∧ value < 2 ^ 32
  | .alertResponse => True
  | .testEnRise => True
  | .bypass => True
  | .idcode => True
  | .samplePreload _ => True
  | .extest => True
  | .extestPulse => True
  | .extestTrain => True
  | .clamp => True
  | .highz => True
  | .devLock rq value => rq.wf ∧ value < 2 ^ 32
  | .registerWrite rq off size value => rq.wf ∧ off < 2 ^ 22 ∧ (size = 4 ∨ size = 8) ∧ value < 2 ^ 64

end Sys2Proof
end

