-- ==== Sys2Proof/Certificates/Slice0/Obligations.lean ====
section
/-! DEFINITION. The statements about the model, from the rules of the spec: what each command does where it has its own effect, what it leaves
alone, and what holds of the machine as a whole. A statement about many commands has one clause for each; a clause that ends in
`exec … = .next t` or `Answers …` says that the command answers a next state there. -/
open Sys2Proof Sys2Proof.Machine

/-! ## The machine as a whole -/

/-- A step takes the command at the front of the queue and runs it with the queue's rest; with an empty queue the device idles for 1 ns of
device time (the model's choice, log entry 1). -/
def Obligations.StepRunsTheFrontCommand : Prop :=
  (∀ (s : State) (c : Instr), step { s with pending := c :: s.pending } = exec c s) ∧
  (∀ s : State, s.pending = [] → step s = .next { s with now := s.now + 1 })

/-- Every command answers a next state, whatever the state and its operands, and leaves the queue of waiting commands as it is. -/
def Obligations.EveryCommandAnswersAndLeavesTheQueue : Prop :=
  ∀ (c : Instr) (s : State), ∃ t, exec c s = .next t ∧ t.pending = s.pending

/-- The register file, host memory and device memory stay in their canonical form: from any state in which they are so, whatever commands
wait, every step answers a state in which they are so. -/
def Obligations.EveryStepKeepsTheStoresCanonical : Prop :=
  ∀ s t : State, s.stored → step s = .next t → t.stored

/-- Every command leaves the parts of the state that `touches` does not give it as they are, but for the records it raises: device time,
the registers, host memory outside the completion and event rings, device memory, and what each unit keeps. -/
def Obligations.CommandsKeepToTheirParts : Prop :=
  ∀ (c : Instr) (s t : State) (p : Part), s.stored → exec c s = .next t → p ∉ touches c → p.same s t

/-- The state after reset keeps its stores canonical and no command waits; the fields of the registers stand at the values the spec gives
for reset, a few of each block among them. -/
def Obligations.ResetLeavesTheSpecsValues : Prop :=
  State.reset.stored ∧ State.reset.pending = [] ∧ State.reset.hostMem = [] ∧ State.reset.devMem = [] ∧
  State.reset.rd Reg.DEV_IDENT = 25608 * 65536 + 256 + 16 ∧
  State.reset.get Reg.DEV_TICK_STAT_MIN_MARGIN = 65535 ∧ State.reset.get Reg.PWR_STAT_STATE = 1 ∧ State.reset.get Reg.PWR_STAT_GATED = 255 ∧
  State.reset.get Reg.TIM_REF_NUM_MU = 1 ∧ State.reset.get Reg.TIM_REF_NUM_T_ADV = 4 ∧ State.reset.get Reg.TIM_CTL_PTP_DOMAIN = 24 ∧
  State.reset.get Reg.FTH_CFG_MAX_FRAME = 9216 ∧ State.reset.get Reg.BFM_CAP_CAP_LMHZ = 25600 ∧ State.reset.get Reg.HKA_MAINS_T_M = 200000 ∧
  State.reset.get Reg.THM_LIMITS_T1_C = 102 ∧ State.reset.get Reg.CUL_CFG_LANES = 6 ∧
  (∀ n, n < 8 → State.reset.get (Reg.TIL_DPD_CTL_OWNER n) = 255) ∧ State.reset.laneAt 7 = 0 ∧ State.reset.get (Reg.LIN_TXFFE_MAIN 7) = 52 ∧
  State.reset.get (Reg.RCT_TILE_TIMING_T_PA 7) = 50 ∧ State.reset.get (Reg.ENG_STAT_MODE 15) = 1 ∧ State.reset.get (Reg.ENG_STAT_STATE 15) = 0 ∧
  State.reset.on (Reg.HRG_RING_CFG_EN 63) = false ∧ State.reset.get (Reg.HRG_RING_STAT_POS 63) = 0 ∧
  State.reset.get (Reg.HRG_RING_STAT_POS_PHASE 63) = 1

/-- R357, R359 and the command tables: the 64 bytes that spell a header and a well-formed ring command are read as that header and that
command, with every operand at every value its field holds, and no reserved bit of them is set. -/
def Obligations.DescriptorsSpellTheirCommands : Prop :=
  ∀ (phase : Bool) (h : Hdr) (c : Cmd), h.wf → c.wf →
    let d := encodeDescriptor phase h c
    d.length = 64 ∧ dByte d 0 = opcodeOf c ∧ bit (dByte d 1) 0 = phase ∧ dHdr h.ring d = h ∧ descriptorCmd (opcodeOf c) d = some c ∧
      reservedOk (opcodeOf c) d = true

/-- R355, R361, R366, R371: a record of 32 bytes goes into the slot at its ring's position with the position's phase and the next sequence
number, the position advances, and no other byte of memory changes; a completion is written so where its ring has a free slot, and is held
where the ring is full. -/
def Obligations.RecordsReachTheirRings : Prop :=
  ∀ (s : State) (r : Nat), s.stored → 32 ≤ r → r < 64 →
    let x := s.ringPos r
    let n := s.ringN r
    (∀ rec : Nat → Nat → List Nat, (∀ p q, (rec p q).length = 32) → let t := s.ringPush r rec
      t.hostRead (s.ringSlot r 32) 32 = (rec (x / n % 2) (s.ring r).seq).map (· % 256) ∧ t.ringPos r = (x + 1) % (2 * n) ∧
        (t.ring r).seq = ((s.ring r).seq + 1) % 2 ^ 32 ∧ t.rd64 (Reg.HRG_RING_CNT r) = (s.rd64 (Reg.HRG_RING_CNT r) + 1) % 2 ^ 64 ∧
        ∀ a, a < s.ringSlot r 32 ∨ s.ringSlot r 32 + 32 ≤ a → t.hostMem.read a = s.hostMem.read a) ∧
    (∀ c, s.ringOn r = true → s.hostUp = true → s.ringFree r ≠ 0 → s.host.heldCompletions.any (fun (e : Nat × Completion) => e.1 == r) = false →
      s.writeCompletion r c = s.ringPush r fun p q => c.bytes (s.ringPos c.ring % s.ringN c.ring) p q) ∧
    (∀ c, s.ringOn r = true → s.hostUp = true → s.ringFree r = 0 →
      s.writeCompletion r c = { s with host := { s.host with heldCompletions := s.host.heldCompletions ++ [(r, c)] } })

/-! ## Rings, registers and the package -/

/-- R24, R364, R365: every timed ring command that is early enough and passes the checks of its fields waits in the timed store, and
nothing else of the machine changes; the panel-wide RX_SYNC of R108, which must come 1 ms ahead, is sent round the panel too; the swaps
and the transfer of R188 wait there unless a fade, a transition or the bus time stands against it. -/
def Obligations.TimedCommandsWaitInTheStore : Prop :=
  ∀ (s : State) (h : Hdr), s.stored → s.TakesTimed h →
    (∀ c, txCarrierFields s h c = none → ∃ t, exec (.txCarrier h c) s = .next t ∧ HeldIn s t h (.txCarrier c)) ∧
    (∀ c, txTileFields s h c = none → ∃ t, exec (.txTile h c) s = .next t ∧ HeldIn s t h (.txTile c)) ∧
    (∀ c, biasSetFields c = none → ∃ t, exec (.biasSet h c) s = .next t ∧ HeldIn s t h (.biasSet c)) ∧
    (∀ c, ddsToneFields c = none → ∃ t, exec (.ddsTone h c) s = .next t ∧ HeldIn s t h (.ddsTone c)) ∧
    (∀ tile mask fade, dpdSwapFields s h tile mask fade = none → s.anyFading tile mask = false →
      ∃ t, exec (.dpdSwap h tile mask fade) s = .next t ∧ HeldIn s t h (.dpdSwap tile mask fade)) ∧
    (∀ c, rxCarrierFields s h c = none → ∃ t, exec (.rxCarrier h c) s = .next t ∧ HeldIn s t h (.rxCarrier c)) ∧
    (∀ c, rxExtractFields s h c = none → ∃ t, exec (.rxExtract h c) s = .next t ∧ HeldIn s t h (.rxExtract c)) ∧
    (∃ t, exec (.rxSync h false) s = .next t ∧ HeldIn s t h (.rxSync false)) ∧
    (s.airNs + 1000000 ≤ s.tickStart (s.effAbs h) →
      ∃ t, exec (.rxSync h true) s = .next t ∧ HeldIn (s.sendPanelSync h) t h (.rxSync true)) ∧
    (∀ carrier uplink layers ulShift prio, bfLayersFields s h carrier layers ulShift = none →
      ∃ t, exec (.bfLayers h carrier uplink layers ulShift prio) s = .next t ∧
        HeldIn s t h (.bfLayers carrier uplink layers ulShift prio)) ∧
    (∀ blend, beamSwapFields s h blend = none → s.beam.transition = none →
      ∃ t, exec (.beamSwap h blend) s = .next t ∧ HeldIn s t h (.beamSwap blend)) ∧
    (∀ c, covSetupFields s h c = none → ∃ t, exec (.covSetup h c) s = .next t ∧ HeldIn s t h (.covSetup c)) ∧
    (∀ c, acdFields h c = none → ∃ t, exec (.acdOccasion h c) s = .next t ∧ HeldIn s t h (.acdOccasion c)) ∧
    (∀ c, foFields s h c = none → ∃ t, exec (.foReport h c) s = .next t ∧ HeldIn s t h (.foReport c)) ∧
    (∀ pattern mask period addr, rctPatternFields s h pattern mask period addr = none →
      ∃ t, exec (.rctPattern h pattern mask period addr) s = .next t ∧
        HeldIn s t h (.rctPattern pattern mask period addr (s.fetchCodes period addr))) ∧
    (∀ mask target, tileStateFields s h mask target = none →
      ∃ t, exec (.tileState h mask target) s = .next t ∧ HeldIn s t h (.tileState mask target)) ∧
    (∀ c, rffeFields h c = none → c.timing = 2 ∨ c.timing = 1 ∧ s.airNs + s.rffeBus c ≤ s.tickStart (s.effAbs h) →
      ∃ t, exec (.rffeXfer h c) s = .next t ∧ HeldIn s t h (.rffeXfer c)) ∧
    (∃ t, exec (.synRecal h) s = .next t ∧ HeldIn s t h .synRecal) ∧
    (∀ c, fhCarrierFields c = none → ∃ t, exec (.fhCarrier h c) s = .next t ∧ HeldIn s t h (.fhCarrier c)) ∧
    (∀ c, coopSetFields h c = none → ∃ t, exec (.coopSet h c) s = .next t ∧ HeldIn s t h (.coopSet c)) ∧
    (∀ c, otaFields c = none → ∃ t, exec (.otaCal h c) s = .next t ∧ HeldIn s t h (.otaCal c))

/-- R354 to R358, R366: an enabled ring's next descriptor is taken when its phase is right and read again when it is not; after the fifth
miss the ring stalls; NOP and NOW complete, and a profile waits for the next frame. -/
def Obligations.RingsFetchTheirCommands : Prop :=
  ∀ (s : State) (r : Nat) (h : Hdr), s.stored → r < 32 → s.TakesNow h →
    (Answers (exec (.nop h) s) s) ∧
    (Answers (exec (.now h) s) s) ∧
    (∀ p, p ≤ 4 → s.profileFits p = true → exec (.profile h p) s = .next
      { s with host := { s.host with profilePending := s.host.profilePending ++ [(h, p, s.frame + 1)] } }) ∧
    (∀ p (f : Int), s.host.profilePending = [(h, p, f)] → f ≤ s.frame → p ≤ 4 → s.host.timed = [] → s.profileFits p = true →
      ∃ t, exec .profileApply s = .next t ∧ t.get Reg.DEV_PROFILE_IN_FORCE = p ∧ t.host.profilePending = []) ∧
    (s.ringTurn r = true → (s.ring r).retries = 0 → s.mayFetch r = true → s.phaseMatches r = true → s.fenced r (s.descriptor r) = false →
      exec (.descriptorFetch r) s = .next (((s.grantFetch r).takeDescriptor r (s.descriptor r)).fetchRing 7 r)) ∧
    (s.ringTurn r = true → (s.ring r).retries = 0 → s.mayFetch r = true → s.phaseMatches r = false →
      exec (.descriptorFetch r) s = .next ((s.grantFetch r).modRing r fun q => { q with retries := 1, retryAt := s.now })) ∧
    ((s.ring r).retries ≠ 0 → (s.ring r).retryAt + 1000 ≤ s.now → s.mayFetch r = true →
      (s.phaseMatches r = true → s.fenced r (s.descriptor r) = false → exec (.phaseReread r) s = .next (s.takeDescriptor r (s.descriptor r))) ∧
      (s.phaseMatches r = false → 4 ≤ (s.ring r).retries → ∃ t, exec (.phaseReread r) s = .next t ∧
        t.get (Reg.HRG_RING_STAT_STATE r) = 3 ∧ t.on Reg.HRG_STAT_STALE = true) ∧
      (s.phaseMatches r = false → (s.ring r).retries < 4 →
        exec (.phaseReread r) s = .next (s.modRing r fun q => { q with retries := q.retries + 1, retryAt := s.now })))

/-- R353 to R356, R550: a good tail moves the host's position; a kick of a ring with nothing outstanding whose next slot carries the
expected phase counts it as outstanding; a good head frees slots; a write of another width is refused; an enabled ring stands at index 0
with phase 1 on both sides; a disabled one, and every ring when `HRG_CTL.EN` falls, is off. -/
def Obligations.RingsFollowTheirDoorbells : Prop :=
  (∀ (s : State) (r value : Nat), s.stored → r < 64 → s.doorbellReached r = true → s.on Reg.HRG_STAT_READY = true →
      s.ringOn r = true → bits value 0 16 < s.ringN r →
      let x := bits value 16 1 * s.ringN r + bits value 0 16
      (r < 32 → bit value 31 = false → s.tailOk r x = true →
        ∃ t, exec (.doorbell r value 4) s = .next t ∧ (t.ring r).hostPos = x ∧ (t.ring r).retries = 0 ∧ t.ringPos r = s.ringPos r) ∧
      (r < 32 → (s.ring r).hostPos % (2 * s.ringN r) = s.ringPos r → s.hostUp = true → s.phaseMatches r = true →
        ∃ t, exec (.kick r value 4) s = .next t ∧ (t.ring r).hostPos = (s.ringPos r + 1) % (2 * s.ringN r)) ∧
      (48 ≤ r → bit value 31 = false → s.headOk r x = true → (s.ring r).dropped = 0 →
        exec (.headDoorbell r value 4) s = .next (s.modRing r fun q => { q with hostPos := x })) ∧
      (∀ size, size ≠ 4 → ∃ t, exec (.doorbell r value size) s = .next t ∧ t.get Reg.HRG_STAT_DB_ERR = 1 ∧
          (r < 48 → t.ringPos r = s.ringPos r))) ∧
  (∀ (s : State) (rq : Requester), s.stored → s.on Reg.HRG_STAT_READY = true →
      (∀ r, r < 32 → s.mayWrite rq (Reg.HRG_RING_CFG r) = true → s.on Reg.HRG_CTL_EN = true → s.on (Reg.HRG_RING_CFG_EN r) = false →
        ∃ t, exec (.ringEnable rq r true) s = .next t ∧ t.on (Reg.HRG_RING_CFG_EN r) = true ∧ t.get (Reg.HRG_RING_STAT_POS r) = 0 ∧
          t.get (Reg.HRG_RING_STAT_POS_PHASE r) = 1 ∧ (t.ring r).hostPos = t.ringN r) ∧
      (∀ r, r < 32 → s.mayWrite rq (Reg.HRG_RING_CFG r) = true → s.on (Reg.HRG_RING_CFG_EN r) = true →
        ∃ t, exec (.ringEnable rq r false) s = .next t ∧ t.on (Reg.HRG_RING_CFG_EN r) = false) ∧
      (s.mayWrite rq Reg.HRG_CTL = true → ∃ t, exec (.ringsDisable rq) s = .next t ∧ t.on Reg.HRG_CTL_EN = false ∧
        t.host.heldCompletions = [] ∧ ∀ r, r < 64 → t.on (Reg.HRG_RING_CFG_EN r) = false))

/-- R16, R24, R364, R365: a held command is checked two ticks before its effective tick and takes effect at it; a tick of a running device
ends at the start of the next one; a front-end delay written before takes effect at a frame boundary. -/
def Obligations.TicksCarryOutTheirWork : Prop :=
  ∀ s : State, s.stored →
    (∀ i, s.host.timed = [i] → i.checked = false → s.heldTick i - 2 ≤ s.absTick → exec .timedCheck s = .next (s.checkHeld i)) ∧
    (∀ i, s.host.timed = [i] → s.absTick < s.heldTick i - 2 → i.checked = false → exec .timedCheck s = .next s) ∧
    (∀ i, s.host.timed = [i] → i.checked = true → s.heldTick i ≤ s.absTick → exec .timedApply s = .next (s.applyHeld i)) ∧
    (∀ o, s.running = true → ∃ t, exec (.symbolTick o) s = .next t ∧ t.now = s.tickTime (s.absTick + 1) ∧ t.frac = 0) ∧
    (s.atFrame = true → ∃ t, exec .feDelayApply s = .next t ∧ ∀ n, n < 8 →
      t.tx.feDelay.getD n 0 = s.get (Reg.TIL_TX_FEDLY_FE_DELAY n) ∧ t.rx.feDelay.getD n 0 = s.get (Reg.TIL_RX_FEDLY_FE_DELAY n))

/-- R373, R434, R435, R551: a message is written where its vector says, or its pending bit is set; the link and PERST_N are followed. -/
def Obligations.InterruptsAndTheLink : Prop :=
  ∀ s : State, s.stored →
    (∀ v, v < 64 → s.hostUp = true → (List.range' 32 32).any (s.msixDue v) = true →
      (bit (s.rd (msixEntry v + 12)) 0 = true → exec (.msixMessage v) s = .next (s.putBit64 msixPba v true)) ∧
      (bit (s.rd (msixEntry v + 12)) 0 = false → ∃ t, exec (.msixMessage v) s = .next t ∧ t.regs = s.regs ∧
        t.hostMem = s.hostMem.writeBytes (s.rd64 (msixEntry v)) (bytesLE 4 (s.rd (msixEntry v + 8))))) ∧
    (∀ v, v < 64 → s.reaches .pcie (msixEntry v) = true → s.hostUp = true → s.bit64 msixPba v = true →
      ∃ t, exec (.msixUnmask v) s = .next t ∧ bit (t.rd (msixEntry v + 12)) 0 = false ∧ t.bit64 msixPba v = false ∧
        t.hostMem = s.hostMem.writeBytes (s.rd64 (msixEntry v)) (bytesLE 4 (s.rd (msixEntry v + 8)))) ∧
    Answers (exec .linkDown s) { s with host := { s.host with linkUp := false } } ∧
    (∃ t, exec .linkUp s = .next t ∧ t.host.linkUp = true ∧ t.host.perstHigh = s.host.perstHigh ∧ t.host.timed = s.host.timed) ∧
    exec .configRequest s = .next { s with host := { s.host with
      cfgAnswer := if !s.host.perstHigh || !s.host.linkUp || !s.running then 0 else if s.on Reg.HRG_STAT_READY then 2 else 1 } } ∧
    (s.boot.tunnel = false → s.running = true → ∃ t, exec .perstFall s = .next t ∧ t.host.perstHigh = false ∧
      t.get Reg.HRG_STAT_READY = 0 ∧ t.get Reg.DEV_RESET_CAUSE_PERST = 1 ∧ t.on Reg.HRG_CTL_EN = false) ∧
    (s.boot.tunnel = false → s.inService = true →
      exec .perstRise s = .next ({ s with host := { s.host with perstHigh := true } }.setF Reg.HRG_STAT_READY))

/-- R17, R23, R33 to R35, R541, R543, R546, R549: register accesses: a plain word, a narrow write, a wide value read and staged, the lock,
and the tick grid's number with its changes at the frame boundary. -/
def Obligations.RegistersAreWritten : Prop :=
  ∀ (s : State) (rq : Requester), s.stored →
    (∀ k value, k < 4 → s.mayWrite rq (Reg.DEV_SCRATCH k) = true → ∃ t, exec (.registerWrite rq (Reg.DEV_SCRATCH k) 4 value) s = .next t ∧
      t.rd (Reg.DEV_SCRATCH k) = value % 2 ^ 32 ∧ (∀ off, off ≠ Reg.DEV_SCRATCH k → t.rd off = s.rd off) ∧ { t with regs := s.regs } = s) ∧
    (∀ off value, s.mayWrite rq off = true → off < 0x090000 →
      exec (.registerWrite rq off 2 value) s = .next (s.setF Reg.DEV_ACC_STAT_BAD_WIDTH)) ∧
    (∀ off size value, s.mayWrite rq off = false → exec (.registerWrite rq off size value) s = .next s) ∧
    (∀ value, s.mayWrite rq Reg.DEV_LOCK = true → bit value 0 = true → bits value 8 8 = 0x5A →
      exec (.devLock rq value) s = .next (s.setF Reg.DEV_LOCK_LOCK)) ∧
    (∀ off d, findReg off = some d → d.word = 0 → 1 < d.words → s.mayRead rq off = true →
      exec (.wideReadLatch rq off) s = .next
        { s with host.shadows := s.host.shadows.set (rqNo rq) (off, (List.range (d.words - 1)).map fun i => s.readReg (off + 4 * (i + 1))) }) ∧
    (∀ off d value, findReg off = some d → d.word = 0 → 1 < d.words → d.fields ≠ [] → s.mayWrite rq off = true →
      exec (.wideWriteStage rq off value) s = .next
        { s with host := { s.host with staged := s.host.staged.set (stageKey rq off) (off, [value % 2 ^ 32]) } }) ∧
    (s.mayWrite rq Reg.DEV_TICK_STAT = true → ∃ t, exec (.marginRst rq) s = .next t ∧ t.get Reg.DEV_TICK_STAT_MIN_MARGIN = 0xFFFF ∧
      (∀ f : Field, f.apart Reg.DEV_TICK_STAT_MIN_MARGIN → t.get f = s.get f) ∧ { t with regs := s.regs } = s) ∧
    (∀ value, s.mayWrite rq Reg.TIM_REF_NUM = true → bit value 16 = false → bits value 0 2 = s.get Reg.TIM_REF_NUM_MU →
      bits value 2 1 = s.get Reg.TIM_REF_NUM_ECP → bits value 8 3 ≠ s.get Reg.TIM_REF_NUM_T_ADV → 2 ≤ bits value 8 3 → bits value 8 3 ≤ 6 →
      exec (.timRefNumWrite rq value) s = .next
        ({ s with arch := { s.arch with tAdvPending := some (bits value 8 3) } }.put Reg.TIM_REF_NUM_T_ADV (bits value 8 3))) ∧
    (∀ mu ecp, s.arch.refNumPending = some (mu, ecp) → s.atFrame = true →
      exec .refNumChange s = .next ({ s with
        arch := { s.arch with refNumPending := none, mu := mu, ecp := ecp }, rct := { s.rct with patterns := [] } }.refreshPlan)) ∧
    (∀ adv, s.arch.tAdvPending = some adv → s.atFrame = true →
      exec .tAdvApply s = .next { s with arch := { s.arch with tAdvPending := none, tAdv := adv } })

/-- R36, R39, R57, R66, R84, R119, R192, R500: the retry of an access classifies its fault; a calibration step or an adaptation that has
its place changes what the engine owns; each summary record is raised once for what it counts, which starts again from zero, and nothing
but records changes beside. -/
def Obligations.BackgroundWorkAndSummaries : Prop :=
  (∀ s : State, s.stored →
      (∀ k, s.running = true → realFail k = true → (exec (.accessRetry k true) s = .next (s.transientFault k) ∧
        exec (.accessRetry k false) s = .next (s.lastingFault k))) ∧
      (∀ tile, tile < 8 → s.engineRuns tile = true → s.tileState tile ≠ 0 → s.get Reg.PWR_STAT_STATE < 2 →
        exec (.calibrationStep tile true false) s = .next (s.calTrims tile) ∧ exec (.calibrationStep tile false false) s = .next s) ∧
      (∀ path, path < 64 → s.dpdOwned path = true → s.engineRuns (path / 8) = true → s.tileState (path / 8) ≠ 0 →
        s.get Reg.PWR_STAT_STATE < 2 → s.dpdFading path = false → s.atSlot = true →
        exec (.dpdAdaptation path false) s = .next (((s.setDpdBank path (1 - s.dpdActive path) s.adaptedBank).fresh).startDpdFades (path / 8)
          (2 ^ (path % 8)) (s.get (Reg.TIL_DPD_CTL_ADAPT_FADE (path / 8)))))) ∧
  (∀ s : State,
      (∀ tile, s.tx.satFlags.getD tile 0 ≠ 0 ∨ s.tx.satCount.getD tile 0 ≠ 0 → Answers (exec (.txSatSummary tile) s)
        { s with tx := { s.tx with satFlags := s.tx.satFlags.del tile, satCount := s.tx.satCount.del tile } }) ∧
      (∀ tile, s.rx.satFlags.getD tile 0 ≠ 0 ∨ s.rx.satCount.getD tile 0 ≠ 0 → Answers (exec (.rxSatSummary tile) s)
        { s with rx := { s.rx with satFlags := s.rx.satFlags.del tile, satCount := s.rx.satCount.del tile } }) ∧
      (∀ tile, Answers (exec (.extractionDrops tile) s) { s with rx := { s.rx with drops := s.rx.drops.filter fun e => e.1 / 16 != tile } }) ∧
      Answers (exec .blankingSummary s) { s with levee := { s.levee with blanks := [] } })

/-- R532 to R537: the management bus sets an offset, reads and writes by it and answers an alert; the test access port takes its
instructions, and tests only while TEST_EN is high. -/
def Obligations.ManagementAndTest : Prop :=
  ∀ s : State, s.stored →
    (s.running = true →
      (∀ off, exec (.smbSetOffset off true) s = .next { s with pkg := { s.pkg with smbOffset := off } }) ∧
      (s.mayRead .smbus s.pkg.smbOffset = true → s.pkg.smbOffset % 4 = 0 → ∃ t, exec (.smbRead true) s = .next t ∧
        t.pkg = { s.pkg with smbOut := bytesLE 4 (s.readAs .smbus s.pkg.smbOffset) ++ [0] } ∧ t.regs = s.regs) ∧
      (s.mayRead .smbus s.pkg.smbOffset = false →
        exec (.smbRead true) s = .next { s with pkg := { s.pkg with smbOut := [0, 0, 0, 0, 2] } }) ∧
      (∀ off value, off % 4 = 0 → exec (.smbWrite off value true) s = .next (s.writeReg .smbus off value)) ∧
      (s.smbAlert = true → exec .alertResponse s = .next { s with pkg := { s.pkg with smbOut := [s.pkg.smbAddr] } })) ∧
    (∃ t, exec .testEnRise s = .next t ∧ t.boot.testEn = true ∧ t.hostMem = s.hostMem ∧ bit (t.rd Reg.DEV_RESET_CAUSE) 1 = true) ∧
    (let ir (t : State) (i : JtagIr) (l : List Bool) : Prop := t.pkg = { s.pkg with ir := i, captured := l } ∧ t.regs = s.regs ∧ t.tx = s.tx
     (∃ t, exec .bypass s = .next t ∧ ir t .bypass [false]) ∧
     (∃ t, exec .idcode s = .next t ∧ ir t .idcode ((List.range 32).map fun i => bit 0x164080C3 i)) ∧
     (∀ data, ∃ t, exec (.samplePreload data) s = .next t ∧ t.pkg.boundary = data ∧ t.pkg.ir = .samplePreload ∧
       t.pkg.captured = Config.pinSample s.free) ∧
     (s.boot.testEn = true →
       (∃ t, exec .extest s = .next t ∧ ir t .extest (Config.pinSample s.free)) ∧
       (∃ t, exec .extestPulse s = .next t ∧ ir t .extestPulse (Config.pinSample s.free)) ∧
       (∃ t, exec .extestTrain s = .next t ∧ ir t .extestTrain (Config.pinSample s.free)) ∧
       (∃ t, exec .clamp s = .next t ∧ ir t .clamp [false]) ∧ (∃ t, exec .highz s = .next t ∧ ir t .highz [false])) ∧
     (s.boot.testEn = false → ∀ c ∈ [Instr.extest, .extestPulse, .extestTrain, .clamp, .highz],
       ∃ t, exec c s = .next t ∧ ir t .bypass [false]))

/-! ## The transmit and the receive chain -/

/-- R65: a bank of 64 or, in REACH, 128 valid entries is the most a path may have: a load that exceeds it completes RANGE, and so does a
profile under which an active bank would stand above its limit, when it is asked for and when it would take effect. -/
def Obligations.DpdBanksKeepTheProfilesLimit : Prop :=
  ∀ (s : State) (h : Hdr), s.stored → s.TakesNow h →
    profileDpd 1 = 128 ∧ (∀ p, p ≠ 1 → profileDpd p = 64) ∧
    (∀ path j, s.tx.loads.find? (fun (j : DpdJob) => j.path == path) = some j → j.queued = false →
      profileDpd s.profile < dpdCount (words8 j.count (s.hostRead j.src (8 * j.count))) →
      exec (.dpdLoadComplete path true) s = .next
        (({ s with tx := { s.tx with loads := s.tx.loads.erase j } }.setDpdBank path j.bank dpdIdentityBank).complete j.hdr 0x22 St.range)) ∧
    (∀ p q, p ≤ 4 → q < 64 → profileDpd p < dpdCount (s.dpdBank q (s.dpdActive q)) →
      exec (.profile h p) s = .next (s.complete h 0x01 St.range)) ∧
    (∀ p q (f : Int), s.host.profilePending = [(h, p, f)] → f ≤ s.frame → s.host.timed = [] → q < 64 →
      profileDpd p < dpdCount (s.dpdBank q (s.dpdActive q)) →
      exec .profileApply s = .next ({ s with host := { s.host with profilePending := [] } }.complete h 0x01 St.range))

/-- R63, R66, R69 to R72, R85: a load for a shadow bank is taken; its bytes become the bank, or the identity bank where they are bad; at a
fade's end the new bank is active and the fade is gone; a held swap starts at a slot boundary. -/
def Obligations.DpdBanksLoadAndSwap : Prop :=
  ∀ s : State, s.stored →
    (∀ h path bank count src, s.TakesNow h → dpdLoadFields path bank count src = none → s.dpdOwned path = false →
      s.dpdFading path = false → s.dpdActive path ≠ bank →
      exec (.dpdLoad h path bank count src) s = .next { s with tx := { s.tx with loads := s.tx.loads ++ [⟨h, path, bank, count, src, false⟩] } }) ∧
    (∀ path busOk j, s.tx.loads.find? (fun j => j.path == path) = some j → j.hdr.ring < 32 →
      Answers (exec (.dpdLoadComplete path busOk) s)
        { s with tx := { s.tx with
            loads := s.tx.loads.erase j,
            banks := s.tx.banks.set (path * 2 + j.bank)
              (dpdLoaded (profileDpd s.profile) busOk (words8 j.count (s.hostRead j.src (8 * j.count)))).2 } }) ∧
    (∀ path f, path < 64 → s.tx.fades.get? path = some f → f.start + f.len ≤ s.absTick → s.tx.loadQ.get? path = none →
      ∃ t, exec (.dpdFadeEnd path) s = .next t ∧ t.tx = { s.tx with fades := s.tx.fades.del path } ∧
        t.dpdActive path = 1 - s.dpdActive path ∧
        t.get (Reg.TIL_DPD_STAT_SWAP_Q (path / 8)) = s.get (Reg.TIL_DPD_STAT_SWAP_Q (path / 8))) ∧
    (∀ tile q, tile < 8 → s.tx.swapQ.get? tile = some q → s.atSlot = true → q.eff ≤ s.absTick → s.anyFading tile q.mask = false →
      q.hdr.ring < 32 →
      let u : State := { s with tx := { s.tx with swapQ := s.tx.swapQ.del tile } }.put (Reg.TIL_DPD_STAT_SWAP_Q tile) 0
      u.anyOwned tile q.mask = false → u.anyLoading tile q.mask = false →
      Answers (exec (.heldDpdSwapStart tile) s) (u.startDpdFades tile q.mask q.fade))

/-- R78, R79: a trigger of the configured kind, or the end of its 10 ms, brings the staged code to the output and queues its read-back; a
span change moves the span after 5 µs, and after 20 µs, with the effective tick as trigger, brings the code in the new span. -/
def Obligations.BiasCodesReachTheirOutputs : Prop :=
  ∀ (s : State) (tile dac : Nat), s.stored → tile < 8 → dac < 16 →
    (∀ edge j, s.get (Reg.TIL_BIAS_CFG_TRIG tile dac) = edge → (s.biasDac tile dac).change = none →
      (s.biasDac tile dac).staged = some j → j.span = none → j.hdr.ring < 32 → (j.effAt : Int) + s.biasOffset tile ≤ s.now →
      ∃ t, exec (.biasTrigger tile dac edge) s = .next t ∧ t.get (Reg.TIL_BIAS_OUT_CODE tile dac) = j.code % 2 ^ 16 ∧
        t.biasDac tile dac = { s.biasDac tile dac with staged := none } ∧
        t.hka.sys = (s.hka.sys.filter fun e => e.1 != 0x80 + 16 * tile + dac) ++ [(0x80 + 16 * tile + dac, s.now + 10000)]) ∧
    (∀ j, (s.biasDac tile dac).change = none → (s.biasDac tile dac).staged = some j → j.span = none → j.hdr.ring < 32 →
      s.atSlot = true → s.tileState tile ≠ 3 → j.effAt + 10000000 ≤ s.now →
      ∃ t, exec (.biasTriggerTimeout tile dac) s = .next t ∧ t.get (Reg.TIL_BIAS_OUT_CODE tile dac) = j.code % 2 ^ 16 ∧
        t.biasDac tile dac = { s.biasDac tile dac with staged := none }) ∧
    (∀ c, (s.biasDac tile dac).change = some c → c.switched = false → c.start + 5000 ≤ s.now →
      ∃ t, exec (.biasSpanSwitch tile dac) s = .next t ∧ t.get (Reg.TIL_BIAS_CFG_SPAN tile dac) = c.job.span.getD 0 % 4 ∧
        t.biasDac tile dac = { s.biasDac tile dac with change := some { c with switched := true } } ∧
        ∀ f : Field, f.apart (Reg.TIL_BIAS_CFG_SPAN tile dac) → t.get f = s.get f) ∧
    (∀ c, (s.biasDac tile dac).change = some c → c.switched = true → c.start + 20000 ≤ s.now →
      s.get (Reg.TIL_BIAS_CFG_TRIG tile dac) = 3 → c.job.hdr.ring < 32 →
      ∃ t, exec (.biasSafePhaseEnd tile dac) s = .next t ∧ t.get (Reg.TIL_BIAS_OUT_CODE tile dac) = c.job.code % 2 ^ 16 ∧
        t.biasDac tile dac = ⟨(s.biasDac tile dac).waiting, none, none, decide (s.tileState tile = 0)⟩)

/-- R90, R91: an episode begins with its path shown live, seen and counted; past 200 ns with PROT_EN the tile goes to PROTECT; at its end
the path is live no more, and a path with no other episode has none. -/
def Obligations.OverloadEpisodes : Prop :=
  ∀ (s : State) (path : Nat), s.stored → path < 64 →
    (s.rx.episodes.get? path = none → ∃ t, exec (.overloadEpisodeStart path) s = .next t ∧
      t.rx.episodes.get? path = some ⟨s.now, false⟩ ∧ bit (t.get (Reg.TIL_RX_OVL_LIVE (path / 8))) (path % 8) = true ∧
      bit (t.get (Reg.TIL_RX_OVL_SEEN (path / 8))) (path % 8) = true ∧
      t.rd64 (Reg.TIL_RX_OVLCNT (path / 8)) = (s.rd64 (Reg.TIL_RX_OVLCNT (path / 8)) + 1) % 2 ^ 64) ∧
    (∀ e, s.rx.episodes.get? path = some e → e.start + 200 ≤ s.now → e.protect = false → s.on (Reg.TIL_RX_CFG_PROT_EN (path / 8)) = true →
      let u : State := { s with rx := { s.rx with episodes := s.rx.episodes.set path { e with protect := true } } }
      exec (.overloadProtect path) s = .next
        (((u.putTileBit (Reg.TIL_RX_OVL_PROT_CAUSE (path / 8)) path true).modStrobes (path / 8) fun t => { t with prot := true }).enterProtect
          (path / 8) 1 none)) ∧
    (∀ e length, s.rx.episodes.get? path = some e → ∃ t, exec (.overloadEpisodeEnd path length) s = .next t ∧
      t.rx.episodes.get? path = none ∧ bit (t.get (Reg.TIL_RX_OVL_LIVE (path / 8))) (path % 8) = false)

/-- R106, R108: an enabled pin edge queues a sync event; the event whose edge has come sets the grid and counts, unless the counters stood
at zero there; the panel's confirmation ends at its deadline. -/
def Obligations.SyncEventsSetTheGrid : Prop :=
  ∀ s : State, s.stored →
    (s.on Reg.TIM_SYNC_CTL_PIN_EN = true → ∃ t, exec .syncInEdge s = .next t ∧
      t.rx.syncs = s.rx.syncs ++ [⟨refEdgeAfter s.now + s.get Reg.TIM_SYNC_CTL_SYNC_DLY, 0, none, false⟩] ∧
      t.get Reg.TIM_SYNC_STAT_PIN_SEEN = 1 ∧
      t.get Reg.TIM_SYNC_CTL_PIN_EN = if s.on Reg.TIM_SYNC_CTL_ONE_SHOT then 0 else 1) ∧
    (∀ p, s.rx.syncs = [p] → refEdgeNs p.edge ≤ s.now → p.hdr = none → p.panel = false →
      ∃ t, exec .syncEvent s = .next t ∧ t.rx.syncs = [] ∧ t.rx.grid = some (p.edge % 2) ∧ t.get Reg.TIM_SYNC_STAT_SYNCED = 1 ∧
        t.get Reg.TIM_SYNC_STAT_COUNT =
          if s.rx.grid = some (p.edge % 2) then s.get Reg.TIM_SYNC_STAT_COUNT else (s.get Reg.TIM_SYNC_STAT_COUNT + 1) % 2 ^ 16) ∧
    (∀ c, s.rx.confirm = some c → c.deadline ≤ s.now → c.hdr.ring < 32 →
      ∃ t, exec .syncConfirmTimeout s = .next t ∧ t.rx = { s.rx with confirm := none } ∧
        t.get Reg.TIM_SYNC_STAT_MISS = if c.missing = 0 then s.get Reg.TIM_SYNC_STAT_MISS else 1)

/-! ## Beams and radio control -/

/-- R131, R133, R135 to R139: a write to the shadow starts; at its end its entries stand in the bank and it is gone; a page load fills the
same entry of both banks and marks it resident; a flush empties the pool of entries no section refers to; at the end of a transition the
machine is out of it; a held swap's transition begins two ticks before its slot boundary, and at the boundary the other bank is active. -/
def Obligations.BeamTablesFillAndSwap : Prop :=
  (∀ s : State, s.stored →
      (∀ h c, s.TakesNow h → c.flush = false → beamLoadFields c = none → s.beam.transition = none → c.bank ≠ s.beamActive →
        ∃ t, exec (.beamLoad h c) s = .next t ∧
          t.beam = { s.beam with writes := s.beam.writes ++
            [⟨0, some h, c.bank, c.first, c.count, c.src, c.gather, c.index, c.repair, false, []⟩] } ∧
          t.get Reg.BFM_BANK_STAT_LOADING = 1) ∧
      (∀ h c, s.TakesNow h → c.flush = true → c.bank < 2 → s.flushPool.beam.pool = [] → Answers (exec (.beamLoad h c) s) s.flushPool) ∧
      (∀ busOk w rest, s.beam.writes = w :: rest → w.queued = false → (∀ h, w.hdr = some h → h.ring < 32) →
        ∃ t, exec (.beamLoadComplete busOk) s = .next t ∧ t.beam.writes = rest ∧
          t.devMem = (if busOk then (s.doWrite w).devMem else s.devMem)) ∧
      ((∀ h ∈ s.beam.flushes, h.ring < 32) → ∃ t, exec .poolFlushComplete s = .next t ∧
        t.beam.pool = s.beam.pool.filter (fun e => !(e.2.flush && !e.2.referenced s.absTick)) ∧
        t.beam.flushes = if t.beam.pool.any (fun e => e.2.flush) then s.beam.flushes else []) ∧
      (∀ entry e, entry < 4096 → s.beam.pool.get? entry = some e → e.resident = false →
        ∃ t, exec (.pageLoadComplete entry) s = .next t ∧ t.beam.pool = s.beam.pool.set entry { e with resident := true } ∧
          (∀ bank i, bank < 2 → i < 256 →
            t.devMem.read (beamAddr bank entry + i) = s.hostMem.read (s.rd64 Reg.BFM_PAGE_BASE + 256 * e.beamId + i)) ∧
          (∀ a, (∀ bank, bank < 2 → a < beamAddr bank entry ∨ beamAddr bank entry + 256 ≤ a) → t.devMem.read a = s.devMem.read a) ∧
          t.hostMem = s.hostMem ∧ t.regs = s.regs) ∧
      (s.beam.missCount ≠ 0 ∨ s.beam.missFlags ≠ 0 →
        Answers (exec .pageMissSummary s) { s with beam := { s.beam with missFlags := 0, missFirst := 0, missCount := 0 } })) ∧
  (∀ s : State, s.stored →
      (∀ tr, s.beam.transition = some tr → tr.stop ≤ s.absTick → s.beam.queue = none →
        ∃ t, exec .beamTransitionEnd s = .next t ∧ t.beam = { s.beam with transition := none } ∧ t.get Reg.BFM_BANK_STAT_BUSY = 0 ∧
          t.get Reg.BFM_BANK_STAT_BLEND = 0 ∧ t.beamActive = s.beamActive) ∧
      (∀ q, s.beam.starting = none → s.beam.swapQ = some q → s.beam.transition = none → s.slotStart (s.absTick + 2) = true →
        q.eff ≤ s.absTick + 2 → s.shadowBusy = false →
        ∃ t, exec .heldBeamSwapStart s = .next t ∧ t.beam.swapQ = none ∧
          t.beam.transition = some ⟨s.absTick + 2, q.blend, s.absTick + 2 + q.blend + s.mMax + 1⟩ ∧
          t.get Reg.BFM_BANK_STAT_BUSY = 1 ∧ t.get Reg.BFM_BANK_STAT_SWAP_Q = 0 ∧ t.beamActive = s.beamActive) ∧
      (∀ q, s.beam.starting = some q → q.eff ≤ s.absTick → (∀ h, q.hdr = some h → h.ring < 32) →
        ∃ t, exec .heldBeamSwapStart s = .next t ∧ t.beamActive = 1 - s.beamActive ∧ t.beam = { s.beam with starting := none }))

/-- R127, R145, R153, R155: the work of the covariance, of renormalisation and of access detection. -/
def Obligations.CovarianceAndDetection : Prop :=
  ∀ s : State, s.stored →
    (∀ carrier v, s.beam.cov.get? carrier = some v → 0 ≤ v.lastTick → v.lastTick + 2 ≤ s.absTick → s.beam.solves.has carrier = false →
      ∃ t, exec (.covSolveStart carrier) s = .next t ∧
        t.beam = { s.beam with solves := s.beam.solves.set carrier ⟨s.absTick, v.lastTick + s.tps, []⟩ } ∧
        t.get Reg.BFM_COV_STAT_SOLVING = 1) ∧
    (∀ carrier v w, s.beam.cov.get? carrier = some v → s.beam.solves.get? carrier = some w → w.stop ≤ s.absTick → v.cfg.autoSwap = false →
      s.beam.transition = none →
      ∃ t, exec (.covSolveEnd carrier) s = .next t ∧ t.beam.solves = s.beam.solves.del carrier ∧
        t.beam.cov.get? carrier = some { v with lastTick := -1, res := [], sums := [] }) ∧
    (s.beam.normDue ≠ none →
      Answers (exec .renormalisation s) { s with beam := { s.beam with normMask := s.rd64 Reg.BFM_REMOVED, normDue := none } }) ∧
    (∀ config time peaks o, s.beam.occasions.find? (fun o => o.config == config && o.time == time && o.processing) = some o →
      ∃ t, exec (.occasionEnd config time peaks) s = .next t ∧ t.beam = { s.beam with occasions := s.beam.occasions.erase o } ∧
        (o.aborted = false → s.beam.acd.has config = true →
          t.rd64 Reg.ACD_OCC_CNT = (s.rd64 Reg.ACD_OCC_CNT + 1) % 2 ^ 64) ∧
        (o.aborted = true → t.get Reg.ACD_STAT_ABORTED = 1)) ∧
    (∀ entry layer offset power snr tainted c num khz, s.beam.fo.get? entry = some c → bit c.layerMask layer = true →
      s.setCarrier 1 c.carrier = some (num, khz) → -(scsKhz num * 500 : Int) ≤ offset → offset ≤ scsKhz num * 500 →
      exec (.foMeasurement entry layer offset power snr tainted) s = .next
        (s.event 0x0024 0x0403 ([entry, layer] ++ bytesLE 2 (ux 10 s.frame) ++ [s.slotOfCarrier 1 c.carrier, b2n tainted] ++
          bytesLE 2 (ux 16 power) ++ bytesLE 4 (ux 32 offset) ++ bytesLE 2 (min snr 65535))))

/-- R163, R166 to R168, R172: limits come into force at a frame boundary; a valid dwell gives the gain and passes the turn on; the second
good check of an observation receiver in a row restores it; an unmute lifts what may be lifted. -/
def Obligations.LeveeKeepsItsLimits : Prop :=
  ∀ s : State, s.stored →
    (∀ l, s.levee.pending = some l → s.atFrame = true → s.txAllowed = true →
      let u : State := { s with levee := { s.levee with pending := none } }
      exec .limitsInForce s = .next
        ((((u.put Reg.LVE_STAT_PENDING 0).showLimits l.words l.version).event 0x0038 0x0504 ([1] ++ bytesLE 2 l.version)).enforceLimits)) ∧
    (∀ path pw (o : DwellObs), o.obsPower = some pw → o.nonZero = true → o.txThroughout = true → s.txAllowed = true →
      s.dwellTurn (path / 8) = some (path % 8) → s.limitPath - 2000 ≤ pw - s.coupling → pw - s.coupling ≤ s.limitPath + 50 →
      exec (.leveeDwell path o) s = .next { s with levee := { s.levee with
        turn := s.levee.turn.set (path / 8) ((path % 8 + 1) % 8),
        dwells := s.levee.dwells.set path ⟨((pw - s.coupling - o.meanPower) :: (s.dwells path).gains).take 4, 0, pw - s.coupling⟩ } }) ∧
    (∀ tile, s.tileGated tile = false → bit (s.get Reg.LVE_STAT_OBS_FAIL) tile = true →
      let u : State := { s with levee := { s.levee with obsPasses := s.levee.obsPasses.set tile (s.levee.obsPasses.getD tile 0 + 1) } }
      exec (.obsReferenceCheck tile true true) s = .next (if s.levee.obsPasses.getD tile 0 = 0 then u else u.obsRestore tile)) ∧
    (∀ h path, s.TakesNow h → path < 64 → s.unmutable path = true → s.muted path = true →
      Answers (exec (.leveeUnmute h (2 ^ path)) s)
        (let u := s.unmutePath path 0
         { u with line := { u.line with remote := maskOf ((maskList s.line.remote 64).filter fun p => p != path) } }))

/-- R174, R175, R106: a lost lock ends SYNTH_OK and the decimators' grid and starts a calibration where the reference is good; a drift
recalibration starts in a gap; the end of a calibration locks both synthesisers and asks for a synchronisation. -/
def Obligations.SynthesisersCalibrate : Prop :=
  ∀ s : State, s.stored →
    (∀ which, ∃ t, exec (.synthLockLost which) s = .next t ∧ t.get Reg.CLK_SYN_STAT_SYNTH_OK = 0 ∧ t.get Reg.CLK_SYN_STAT_LOST = 1 ∧
      t.get Reg.TIM_SYNC_STAT_SYNCED = 0 ∧ t.rx = { s.rx with grid := none } ∧
      (s.on Reg.DEV_BOOT_STAT_REF_OK = true → s.rct.synth = none → t.rct.synth = some ⟨2, s.now, []⟩)) ∧
    (∀ c us, s.rct.synth = some c → (∀ h ∈ c.hdrs, h.ring < 32) → ∃ t, exec (.synthCalibrationDone us) s = .next t ∧
      t.rct.synth = none ∧ t.get Reg.CLK_SYN_STAT_CAL_BUSY = 0 ∧ t.get Reg.CLK_SYN_STAT_TX_LOCK = 1 ∧ t.get Reg.CLK_SYN_STAT_RX_LOCK = 1 ∧
      t.get Reg.CLK_SYN_STAT_SYNTH_OK = 1 ∧
      t.rx = { s.rx with grid := none, syncs := s.rx.syncs ++ [⟨refEdgeAfter s.now, 2, none, false⟩] }) ∧
    (∀ since, s.rct.driftSince = some since → s.rct.synth = none → s.on Reg.DEV_BOOT_STAT_REF_OK = true → s.gapNow = true →
      ∃ t, exec .driftRecalibration s = .next t ∧ t.rct = { s.rct with synth := some ⟨1, s.now, []⟩, driftSince := none } ∧
        t.get Reg.CLK_SYN_STAT_CAL_BUSY = 1 ∧ t.get Reg.CLK_SYN_STAT_SYNTH_OK = 0)

/-- R179, R181 to R183, R185, R186: patterns and timing words written since take effect at an even frame; a tile leaves PROTECT for
STANDBY after its hold time; the steps of a burst drive the strobes; the coexistence pins take the levels asked for. -/
def Obligations.TilesFollowTheirPatterns : Prop :=
  ∀ (s : State) (tile : Nat), s.stored → tile < 8 →
    (∀ p, s.rct.binding.get? tile = some p → s.atEvenFrame = true →
      ∃ t, exec (.patternBind tile) s = .next t ∧ t.boundPattern tile = p ∧ t.rct.binding = s.rct.binding.del tile ∧ t.regs = s.regs) ∧
    (∀ w, s.rct.timingNext.get? tile = some w → s.atEvenFrame = true →
      exec (.timingApply tile) s = .next
        { s with rct := { s.rct with timing := s.rct.timing.set tile w, timingNext := s.rct.timingNext.del tile } }) ∧
    (∀ since, (s.protect tile).goneAt = some since → s.tileState tile = 4 → s.on (Reg.RCT_TILE_STATE_LATCHED tile) = false →
      s.atSlot = true → since + s.get (Reg.RCT_TILE_CFG_PROT_HOLD tile) * 1000000 ≤ s.now →
      ∃ t, exec (.protectHoldExpiry tile) s = .next t ∧ t.tileState tile = 1 ∧ (t.strobes tile).prot = false ∧
        (t.protect tile).goneAt = none) ∧
    (s.tileState tile ≠ 0 → s.tileState tile ≠ 4 →
      (s.coexBlocks tile = false → s.txAllowed = true →
        exec (.strobeEdge tile 1) s = .next (s.modStrobes tile fun t => { t with lnaProt := true, trsw := true })) ∧
      ((s.strobes tile).trsw = true → s.coexBlocks tile = false →
        exec (.strobeEdge tile 2) s = .next (s.modStrobes tile fun t => { t with pa := s.ableMask tile })) ∧
      (∃ t, exec (.strobeEdge tile 5) s = .next t ∧ (t.strobes tile).pa = 0) ∧
      exec (.strobeEdge tile 6) s = .next (s.modStrobes tile fun t => { t with trsw := false }) ∧
      (s.codeOf tile (s.absTick + 1) = 2 → exec (.strobeEdge tile 7) s = .next (s.modStrobes tile fun t => { t with lnaProt := false }))) ∧
    (∀ pair granted, s.coexOn pair = true → s.coexArbiter pair = false → (s.coex pair).gnt ≠ granted →
      ∃ t, exec (.coexGntChange pair granted) s = .next t ∧ (t.coex pair).gnt = granted) ∧
    (∀ pair requested, s.coexOn pair = true → s.coexArbiter pair = true →
      ∃ t, exec (.coexReqChange pair requested) s = .next t ∧ (t.coex pair).req = requested ∧
        (requested = false → (t.coex pair).gnt = false))

/-- R187 to R190: a transfer's results are written where its command asks; an immediate transfer joins its tile's queue; an aerial search
starts from the codes in use; mismatch counts follow the return loss, and three in a row guard the path; a trial's result is kept when it
is better. -/
def Obligations.FrontEndControl : Prop :=
  ∀ s : State, s.stored →
    (∀ h c, s.TakesNow h → c.timing = 0 → rffeFields h c = none → exec (.rffeXfer h c) s = .next (s.rffePut ⟨h, c, false⟩)) ∧
    (∀ tile j rest results, s.rct.rffe.getD tile [] = j :: rest → j.waitsStep5 = false → j.hdr.ring < 32 →
      Answers (exec (.rffeTransferDone tile results none) s)
        ({ s with rct := { s.rct with rffe := s.rct.rffe.set tile rest } }.hostWrite j.cmd.result (fit (8 * j.cmd.nops) results))) ∧
    (∀ h tile mask search, s.TakesNow h → tile < 8 → 0 < mask → mask < 256 → s.rct.search.has tile = false →
      (search = true → ∀ p ∈ maskList mask 8, s.get (Reg.RCT_TILE_TUNE_USID0 tile) + p ≤ 15) →
      Answers (exec (.aerial h tile mask search false) s) (if search then s.startSearch tile mask 0 else s)) ∧
    (∀ h tile mask, s.TakesNow h → tile < 8 → 0 < mask → mask < 256 → s.rct.search.has tile = false →
      ∃ t, exec (.aerial h tile mask false true) s = .next t ∧ ∀ p ∈ tilePaths tile mask, t.guarded p = false) ∧
    (∀ path fwd ref, path < 64 →
      let old := s.rct.mismatch.getD path ⟨0, 0⟩
      let warn := if fwd - ref < s.get Reg.RCT_AER_CFG_RL_WARN * 25 then old.warn + 1 else 0
      let grd := if fwd - ref < s.get Reg.RCT_AER_CFG_RL_GUARD * 25 then old.guard + 1 else 0
      ∃ t, exec (.mismatchPair path fwd ref) s = .next t ∧ t.rct.mismatch.get? path = some ⟨warn, grd⟩ ∧
        (3 ≤ grd → t.guarded path = true)) ∧
    (∀ tile rl q, s.rct.search.get? tile = some q →
      let q' := q.next rl (if s.get (Reg.RCT_TILE_TUNE_REG_B tile) = 0 then 2 else 4)
      q'.rl < s.get Reg.RCT_AER_CFG_RL_TARGET → q'.step ≠ 0 → q'.trials < 64 →
      exec (.tunerTrial tile rl false) s = .next { s with rct := { s.rct with search := s.rct.search.set tile q' } })

/-! ## The fronthaul -/

/-- R198 to R201, R203, R204, R208, R209, R226: a frame on a port that is up is counted and routed or dropped under its reason; a C-plane
message in its window leaves its sections, a U-plane message what it brought of them; a flow idle for 1 s is forgotten. -/
def Obligations.FronthaulMessagesAreTaken : Prop :=
  ∀ s : State, s.stored →
    (∀ f : LineFrameIn, s.portUp f.port = true → f.fcsOk = true → 64 ≤ f.length → f.length ≤ s.get Reg.FTH_CFG_MAX_FRAME →
      (s.dstOk f.port f.dst = false → exec (.lineFrame f) s = .next ((s.add64 (Reg.FTH_CNT 0) 1).fthDrop f.port 3)) ∧
      (s.dstOk f.port f.dst = true → f.sec = none → s.strict f.port = true → f.ether ≠ 0x888E →
        exec (.lineFrame f) s = .next ((s.add64 (Reg.FTH_CNT 0) 1).fthDrop f.port 13)) ∧
      (s.dstOk f.port f.dst = true → f.sec = none → s.strict f.port = false → f.ether = 0x88F7 → f.tags = [] →
        exec (.lineFrame f) s = .next (s.add64 (Reg.FTH_CNT 0) 1))) ∧
    (∀ f : LineFrameIn, s.portUp f.port = true → f.fcsOk = false →
      exec (.lineFrame f) s = .next ((s.add64 (Reg.FTH_CNT 0) 1).fthDrop f.port 2)) ∧
    (∀ (m : CPlaneIn) num, m.set = none → m.port < 2 → s.fthOn m.port = true → m.eBit = true → m.subSeq = 0 → m.version = 1 →
      m.sectionType = 0 → s.eaxcOk none m.eaxc m.uplink false = true →
      (s.takeSeq m.port (2 * 2 ^ 20 + (if m.uplink then 1 else 0) * 2 ^ 18 + m.eaxc) m.seq).1 = true →
      let u := (s.takeSeq m.port (2 * 2 ^ 20 + (if m.uplink then 1 else 0) * 2 ^ 18 + m.eaxc) m.seq).2
      u.carrierNum (if m.uplink then 1 else 0) (s.eaxcCc m.eaxc) = some num →
      u.windowFail (u.symbolTick num m.sfn m.subframe m.slot m.symbol) false m.uplink = none →
      ∀ c, m.sections = [c] → exec (.cplaneMessage m) s = .next
        (u.takeSection m num (if c.symInc then m.symbol + 1 else m.symbol) c)) ∧
    (∀ (m : UPlaneIn) num sec, m.set = none → m.port < 2 → s.fthOn m.port = true → m.eBit = true → m.subSeq = 0 → m.version = 1 →
      s.eaxcOk none m.eaxc false false = true → (s.takeSeq m.port m.eaxc m.seq).1 = true →
      let u := (s.takeSeq m.port m.eaxc m.seq).2
      let n := u.symbolTick num m.sfn m.subframe m.slot m.symbol
      u.carrierNum 0 (u.eaxcCc m.eaxc) = some num → u.windowFail n true false = none → m.sections = [sec] → sec.rb = 0 →
      (u.fhCfg 0 (u.eaxcCc m.eaxc)).static = true → sec.compHdr = none → sec.numPrb ≠ 0 →
      let mine := fun (c : FhSection) => c.eaxc == m.eaxc && c.id == sec.id && !c.uplink && c.ticks.contains n
      (u.fh.sections.any mine = true → exec (.uplaneMessage m) s = .next
        (let add := fun (c : FhSection) => if mine c then { c with arrived := c.arrived ++ [(n, sec.startPrb, sec.numPrb)] } else c
         { u with fh := { u.fh with sections := u.fh.sections.map add } })) ∧
      (u.fh.sections.any mine = false → exec (.uplaneMessage m) s = .next (u.fthDrop m.port 6))) ∧
    (exec .flowIdleTimeout s = .next
      { s with fh := { s.fh with flows := s.fh.flows.filter fun (e : Nat × FhFlow) => !decide (e.2.at_ + 1000000000 ≤ s.now) } })

/-- R197, R202, R229, R436, R453, R455: delay measurements are asked for, answered and given up; a report carries sixteen kept records to
the DU; dropped frames are summed up in records. -/
def Obligations.FronthaulMeasuresAndReports : Prop :=
  ∀ (s : State) (h : Hdr), s.stored → s.TakesNow h →
    (∀ c : FhOwdmCmd, c.port < 2 → c.result % 8 = 0 → s.fh.owdm.get? (owdmKey c.port c.id) = none → c.followUp = false →
      exec (.fhOwdm h c) s = .next
        ({ s with fh := { s.fh with owdm := s.fh.owdm.set (owdmKey c.port c.id) ⟨h, c, s.timeNs⟩ } }.sendOwdm c.port c.id 0)) ∧
    (∀ m : OwdmIn, s.fthOn m.port = true → m.action = 0 → exec (.owdmMessage m) s = .next (s.sendOwdm m.port m.id 2)) ∧
    (∀ (m : OwdmIn) j, s.fthOn m.port = true → m.action = 2 → s.fh.owdm.get? (owdmKey m.port m.id) = some j → j.hdr.ring < 32 →
      Answers (exec (.owdmMessage m) s)
        ({ s with fh := { s.fh with owdm := s.fh.owdm.del (owdmKey m.port m.id) } }.hostWrite j.cmd.result
          (owdmResult j.t1 (Config.owdmComp m.port) m.stamp m.comp))) ∧
    (∀ id j, s.fh.owdm.get? id = some j → j.t1 + 100000000 ≤ s.now → j.hdr.ring < 32 →
      Answers (exec (.owdmTimeout id) s) { s with fh := { s.fh with owdm := s.fh.owdm.del id } }) ∧
    (s.fh.report ≠ [] → s.fthOn s.duPort = true → exec .duReport s = .next
      ({ s with fh := { s.fh with report := s.fh.report.drop 16 } }.fhSend s.duPort 3
        (.report (bytesBE 2 s.deviceId ++ bytesBE 2 (s.fh.report.take 16).length ++ (s.fh.report.take 16).flatMap EventRec.wire)))) ∧
    (Answers (exec .dropSummary s) { s with fh := { s.fh with drops := [] } })

/-- R217, R221, R222, R224, R316: a set is formed and dissolved at slot boundaries; a partial sum is combined, kept while early or
dropped; at the end of its hold a member sends its own sum alone. -/
def Obligations.CooperatingSetsCombine : Prop :=
  ∀ (s : State) (k : Nat) (c : CoopSetCmd), s.stored → k < 32 → s.fh.sets.get? k = some c →
    (s.atSlot = true → s.setState k ≠ 2 → (chainPorts c).all s.chainReachable = true → (chainPorts c).all s.chainAligned = true →
      ∃ t, exec (.setStateChange k) s = .next t ∧ t.setState k = 2 ∧ (∀ j, j ≠ k → j < 32 → t.setState j = s.setState j)) ∧
    (s.atSlot = true → s.setState k = 2 → (chainPorts c).all s.chainAligned = false →
      ∃ t, exec (.setStateChange k) s = .next t ∧ t.setState k = 3 ∧ (∀ j, j ≠ k → j < 32 → t.setState j = s.setState j)) ∧
    (∀ (m : PartialSum) num, s.fh.sets = [(k, c)] → c.setId = m.setId → c.ul = true → m.sender + 1 = c.position → m.blocks ≠ [] →
      m.blocks.length ≤ c.segPrb → setCovers c 1 m.carrier m.layer = true → m.startPrb + m.blocks.length ≤ s.carrierPrb 1 m.carrier →
      (s.takeSeq c.upPort (0x40 * 2 ^ 20 + k * 256 + m.sender) m.seq).1 = true →
      let u := (s.takeSeq c.upPort (0x40 * 2 ^ 20 + k * 256 + m.sender) m.seq).2
      let tick : Int := ((u.frame : Int) + sx 10 (ux 10 ((m.sfn : Int) - u.frame))) * u.tpf +
        (((m.slot * u.tps + m.symbol) * u.symSpan num : Nat) : Int)
      u.setState k = 2 → u.carrierNum 1 m.carrier = some num → u.now < u.holdEnd tick →
      (u.absTick < tick + 2 → exec (.partialSumMessage c.upPort m) s = .next { u with fh := { u.fh with early := u.fh.early ++ [(k, m)] } }) ∧
      (tick + 2 ≤ u.absTick → exec (.partialSumMessage c.upPort m) s = .next (u.combine k c m tick))) ∧
    (∀ tick o, s.holdEnd tick ≤ s.now → s.fh.own = [o] → o.set = k → o.tick = tick →
      let u := (({ s with fh := { s.fh with own := [] } }.sendOwn c o).add64 (Reg.FTH_CNT 10) 1).setF Reg.FTH_ERR_PSUM_LATE
      (u.fh.finals = [] → exec (.combiningHoldEnd k tick) s = .next u) ∧
      (∀ e, u.fh.finals = [e] → e.1 = k → e.2.1 = tick →
        ∃ t, exec (.combiningHoldEnd k tick) s = .next t ∧ t.fh.finals = [] ∧ t.fh.own = []))

/-- R226 to R229: MKA brings a port up with its peer's messages, sends its own every 2 s, drops its associations with a peer silent for 6
s, and rekeys when asked. -/
def Obligations.PortsAgreeTheirKeys : Prop :=
  ∀ (s : State) (k : Nat), s.stored → k < 2 →
    (∀ m : MkaIn, m.port = k → m.icvOk = true → s.sea.caks.has k = true → s.mkaUp k = true → m.keyServer = true → m.sakAn = none →
      (s.msec k).movePending = none → ∃ t, exec (.mkaMessage m) s = .next t ∧ t.mkaUp k = true ∧
        t.msec k = { s.msec k with live := true, heardAt := s.now }) ∧
    (∀ (m : MkaIn) an, m.port = k → m.icvOk = true → s.sea.caks.has k = true → m.keyServer = true → m.sakAn = some an →
      (s.msec k).txSas.contains (an % 4) = false → m.peerInstalled = false → ∃ t, exec (.mkaMessage m) s = .next t ∧ t.mkaUp k = true ∧
        t.on (Reg.FTH_MSEC_STAT_SECURED k) = true ∧ (t.msec k).heardAt = s.now ∧ (t.msec k).rxSas.contains (an % 4) = true ∧
        t.get (Reg.FTH_MSEC_STAT_SAK_COUNT k) = (s.get (Reg.FTH_MSEC_STAT_SAK_COUNT k) + 1) % 65536) ∧
    (s.sea.caks.has k = true → s.portUp k = true → (s.msec k).helloAt + 2000000000 ≤ s.now →
      ∃ t, exec .mkaHello s = .next t ∧ (t.msec k).helloAt = s.now) ∧
    ((s.msec k).live = true → (s.msec k).heardAt + 6000000000 ≤ s.now → ∃ t, exec (.mkaPeerLost k) s = .next t ∧ t.mkaUp k = false ∧
      t.on (Reg.FTH_MSEC_STAT_SECURED k) = false ∧ t.on (Reg.FTH_MSEC_STAT_PEER_LOST k) = true ∧ (t.msec k).txSas = [] ∧ (t.msec k).rxSas = []) ∧
    (∀ h, s.TakesNow h → s.mkaUp k = true →
      Answers (exec (.msecRekey h (2 ^ k)) s) (s.modMsec k fun m => { m with rekeying := true }))

/-! ## Lines -/

/-- R236, R238, R254, R256 to R258: signal lost and found, the end of a back-off, the time limits of ACQUIRE, TRAIN and FEC_LOCK, markers,
the lock of the codes, and 1 s in UP move a lane between its states. -/
def Obligations.LanesMoveBetweenTheirStates : Prop :=
  ∀ (s : State) (n : Nat), s.stored → n < 8 →
    (s.laneAt n = 2 ∨ s.laneAt n = 3 ∨ s.laneAt n = 4 → s.on (Reg.LIN_STAT_LOS n) = false → exec (.losChange n true) s = .next
      ((((s.setF (Reg.LIN_STAT_LOS n)).laneCount n 5 1).modLane n fun l => { l with losAt := s.now }).enterDetect n 1)) ∧
    (s.laneAt n = 1 → (s.lane n).waitEnd ≤ s.now → ∃ t, exec (.losChange n false) s = .next t ∧ t.laneAt n = 2 ∧
      t.on (Reg.LIN_STAT_LOS n) = false ∧ (t.lane n).since = s.now ∧ (t.lane n).cursor = s.get (Reg.LIN_RXEQ_CURSOR n)) ∧
    (s.laneAt n = 1 → (s.lane n).waitEnd ≤ s.now → s.on (Reg.LIN_STAT_LOS n) = false → ∃ t, exec (.laneBackoffEnd n) s = .next t ∧
      t.laneAt n = 2 ∧ (t.lane n).since = s.now ∧ (t.lane n).cursor = s.get (Reg.LIN_RXEQ_CURSOR n)) ∧
    (s.laneAt n = 2 ∧ (s.lane n).since + 50000000 ≤ s.now ∨ s.laneAt n = 3 ∧ (s.lane n).since + 1000000000 ≤ s.now ∨
        s.laneAt n = 4 ∧ (s.lane n).since + 20000000 ≤ s.now → ∃ t, exec (.laneTimeout n) s = .next t ∧ t.laneAt n = 1 ∧
      t.get (Reg.LIN_STAT_BACKOFF n) = min 64 (2 * s.get (Reg.LIN_STAT_BACKOFF n)) ∧
      (t.lane n).waitEnd = s.now + s.get (Reg.LIN_STAT_BACKOFF n) * 1000000) ∧
    (s.laneAt n = 5 → s.on (Reg.LIN_STAT_LOS n) = true → (s.lane n).losAt + 10000 ≤ s.now →
      ∃ t, exec (.laneTimeout n) s = .next t ∧ t.laneAt n = 1 ∧ t.get (Reg.LIN_STAT_BACKOFF n) = s.get (Reg.LIN_STAT_BACKOFF n)) ∧
    (s.laneAt n = 2 → ∃ t, exec (.markerLock n) s = .next t ∧ t.laneAt n = 3 ∧ (t.lane n).since = s.now ∧ (t.lane n).lastCell = s.now ∧
      t.on (Reg.LIN_STAT_ONE_SIDED n) = (s.on (Reg.LIN_STAT_ONE_SIDED n) ||
        (s.lineMode (portOf n) == 5 && !s.on (Reg.LIN_PORT_CFG_TRAIN_EN (portOf n))))) ∧
    (s.laneAt n = 4 → ∃ t, exec (.fecLock n) s = .next t ∧ t.laneAt n = 5 ∧ (t.lane n).since = s.now) ∧
    (s.laneAt n = 5 → (s.lane n).since + 1000000000 ≤ s.now → exec (.backoffReturn n) s = .next (s.put (Reg.LIN_STAT_BACKOFF n) 1))

/-- R253, R254, R258: a lane in TRAIN becomes ready, gives up its partner, and takes what a training cell of the partner asks and says. -/
def Obligations.LanesTrain : Prop :=
  ∀ (s : State) (n : Nat), s.stored → n < 8 → s.laneAt n = 3 →
    (∀ t0, (s.lane n).snrSince = some t0 → t0 + 10000000 ≤ s.now → s.trainsAlone n = true → exec (.rxReady n) s = .next
      ((s.modLane n fun l => { l with ready := true }).enterFecLock n)) ∧
    (∀ t0, (s.lane n).snrSince = some t0 → t0 + 10000000 ≤ s.now → s.trainsAlone n = false → exec (.rxReady n) s = .next
      ((s.modLane n fun l => { l with ready := true }).startCountdown n)) ∧
    (s.trainsAlone n = false → (s.lane n).countdown = none → (s.lane n).lastCell + 300000000 ≤ s.now → (s.lane n).ready = true →
      exec (.oneSidedTimeout n) s = .next (((s.setF (Reg.LIN_STAT_ONE_SIDED n)).event 0x0030 0x0702 [n, 0]).enterFecLock n)) ∧
    (∀ bytes, s.trainsAlone n = false → bit (nth bytes 3) 1 = true → nth bytes 8 = 0xFF → bit (nth bytes 3) 0 = false →
      exec (.trainingCell n bytes) s = .next
        (((s.setTaps n (presetTaps (bits (nth bytes 3) 2 2))).modLane n fun l =>
          { l with lastCell := s.now, status := 0x155, partnerReady := 0, partnerCount := none }).startCountdown n)) ∧
    (∀ bytes, s.trainsAlone n = false → bit (nth bytes 3) 1 = false → nth bytes 8 < 0xFF → (s.lane n).countdown = none → (s.lane n).ready = true →
      ∃ t, exec (.trainingCell n bytes) s = .next t ∧ (t.lane n).countdown = some (nth bytes 8) ∧
        (t.lane n).status = (s.applyRequest n (natBE (slice bytes 4 2))).2 ∧ (t.lane n).lastCell = s.now)

/-- R239, R240, R242 to R244, R260: an equaliser update, an occupancy window, a long freeze, a histogram and a marker period leave what
the lane counts, shows and adapts; ten good milliseconds clear the mark of a degraded port. -/
def Obligations.LanesAreWatched : Prop :=
  ∀ (s : State) (n : Nat), s.stored → n < 8 →
    (∀ o, o.late = false → 2 ≤ s.laneAt n → s.engineRuns (8 + n / 2) = true → exec (.equaliserUpdate n o) s = .next
      (s.modLane n fun l =>
        { l with ffe := l.ffe.zipIdx.map fun (e : Int × Nat) => satS 10 (e.1 + clipStep (s.on (Reg.LIN_STAT_FROZEN n)) (o.ffe.getD e.2 0)),
                 mlse := l.mlse.zipIdx.map fun (e : Int × Nat) => satS 16 (e.1 + clipStep (s.on (Reg.LIN_STAT_FROZEN n)) (o.mlse.getD e.2 0)) })) ∧
    (∀ o, 2 ≤ s.laneAt n → ∃ t, exec (.occupancyWindow n o) s = .next t ∧ t.get (Reg.LIN_MON_SNR n) = min (snrTenths o.snr) 65535 ∧
      ((t.lane n).snrSince = none ↔ snrTenths o.snr < 170) ∧
      (s.on (Reg.LIN_CTL_FREEZE_EN n) = true → s.on (Reg.LIN_STAT_FROZEN n) = false →
        t.on (Reg.LIN_STAT_FROZEN n) = !sharesOk (s.lineMode (portOf n) == 1) o.counts) ∧
      (s.on (Reg.LIN_CTL_FREEZE_EN n) = false → t.on (Reg.LIN_STAT_FROZEN n) = false)) ∧
    (s.on (Reg.LIN_STAT_FROZEN n) = true → (s.lane n).freezeTold = false → (s.lane n).freezeAt + 1000000 ≤ s.now →
      Answers (exec (.freezeEvent n) s) (s.modLane n fun l => { l with freezeTold := true })) ∧
    (∀ rq, s.mayWrite rq (Reg.LIN_CTL n) = true → ∃ t, exec (.histReq rq n) s = .next t ∧ t.on (Reg.LIN_STAT_HIST_DONE n) = false ∧
      (t.lane n).histBusy = true) ∧
    (∀ bins, (s.lane n).histBusy = true → (∀ b, b < 64 → nth bins b < 2 ^ 32) → ∃ t, exec (.histDone n bins) s = .next t ∧
      t.on (Reg.LIN_STAT_HIST_DONE n) = true ∧ (∀ b, b < 64 → t.rd (Reg.LIN_HIST n b) = nth bins b) ∧ (t.lane n).histBusy = false) ∧
    (∀ o, s.laneAt n ≠ 0 → s.lineMode (portOf n) = 5 → ∃ t, exec (.markerPeriod n o) s = .next t ∧
      t.rd64 (Reg.LIN_CNT n 0) = (s.rd64 (Reg.LIN_CNT n 0) + o.codewords) % 2 ^ 64 ∧
      t.rd64 (Reg.LIN_CNT n 2) = (s.rd64 (Reg.LIN_CNT n 2) + o.innerFailures) % 2 ^ 64 ∧
      t.rd64 (Reg.LIN_PORT_CNT (portOf n) 2) = (s.rd64 (Reg.LIN_PORT_CNT (portOf n) 2) + o.rsUncorrectable) % 2 ^ 64 ∧
      (t.lane n).period = ((s.lane n).period + 1) % 65536 ∧
      (s.laneAt n = 5 → (s.lane n).countdown = none → o.innerFailures > 62 → t.laneAt n = 1) ∧
      (s.laneAt n = 5 → (s.lane n).countdown = none → o.marker = none → 3 ≤ (s.lane n).syncLost → t.laneAt n = 1)) ∧
    (∀ k, k < 2 → s.on (Reg.LIN_PORT_STAT_FEC_DEGRADE k) = true → (∀ e ∈ (s.port k).bad, e.1 + 10000000 ≤ s.now) →
      Answers (exec (.fecDegradeClear k) s) ((s.put (Reg.LIN_PORT_STAT_FEC_DEGRADE k) 0).modPort k fun p => { p with bad := [] }))

/-- R246 to R249, R251, R252, R259, R261: a port with its four lanes UP comes up or shows its skew; the overlay keeps cells, sends and
takes heartbeats, loses a silent neighbour, and collects mute orders. -/
def Obligations.PortsAndTheOverlay : Prop :=
  ∀ (s : State) (k : Nat), s.stored → k < 2 →
    (∀ skews, s.portUp k = false → s.get (Reg.LIN_PORT_STAT_LANES_UP k) = 15 → skews.length = 4 →
      (∀ a ∈ skews, ∀ b ∈ skews, a ≤ b + 20000) → ∃ t, exec (.portUp k skews) s = .next t ∧ t.portUp k = true ∧ (t.port k).lastBeat = s.now) ∧
    (∀ a b c d, s.portUp k = false → s.get (Reg.LIN_PORT_STAT_LANES_UP k) = 15 → a + 20000 < b →
      ∃ t, exec (.portUp k [a, b, c, d]) s = .next t ∧ t.portUp k = false ∧ t.on (Reg.LIN_PORT_STAT_SKEW_ERR k) = true ∧
        t.rd64 (Reg.LIN_PORT_CNT k 4) = (s.rd64 (Reg.LIN_PORT_CNT k 4) + 1) % 2 ^ 64) ∧
    (∀ n cell, n < 8 → 2 ≤ s.laneAt n → s.lineMode (portOf n) = 5 → cell.length = 32 → crc16 (cell.take 30) = natBE (slice cell 30 2) →
      s.strict (portOf n) = false →
      (nth cell 0 = 1 → (s.lane n).rx13.length < 32 →
        exec (.overlayCell n cell) s = .next (s.modLane n fun l => { l with rx13 := l.rx13 ++ [cell] })) ∧
      (nth cell 0 = 3 ∨ nth cell 0 = 4 → (s.lane n).rx14.length < 32 →
        exec (.overlayCell n cell) s = .next (s.modLane n fun l => { l with rx14 := l.rx14 ++ [cell] })) ∧
      (nth cell 0 = 1 → 32 ≤ (s.lane n).rx13.length → Answers (exec (.overlayCell n cell) s) (s.laneCount n 7 1))) ∧
    (s.line.lastBeatSent + 1000000 ≤ s.now → ∃ t, exec .heartbeatSend s = .next t ∧ t.line.lastBeatSent = s.now ∧ t.regs = s.regs) ∧
    (∀ n cell rest, portOf n = k → n < 8 → (s.lane n).rx14 = cell :: rest → nth cell 0 = 4 → s.on Reg.TIM_ROOT_NO_ID = false →
      natBE (slice cell 2 2) % 2 ^ 14 ≠ s.deviceId → ∃ t, exec (.heartbeat n) s = .next t ∧ (t.port k).lastBeat = s.now ∧
        (t.port k).reachable = true ∧ (t.port k).neighbour = natBE (slice cell 2 2) % 2 ^ 14 ∧ (t.lane n).rx14 = rest) ∧
    (s.portUp k = false ∨ (s.port k).lastBeat + 3000000 ≤ s.now →
      ∃ t, exec (.neighbourUnreachable k) s = .next t ∧ (t.port k).reachable = false) ∧
    (∀ n cell rest, portOf n = k → n < 8 → (s.lane n).rx14 = cell :: rest → nth cell 0 = 3 → (s.port k).mute = none →
      bits (nth cell 2) 3 3 ≠ 6 → ∃ t, exec (.muteFragment n) s = .next t ∧ (t.lane n).rx14 = rest ∧
        (t.port k).mute = some ⟨s.now, bits (nth cell 2) 3 3 + 1, nth cell 3, [(bits (nth cell 2) 0 3, slice cell 4 22)]⟩) ∧
    (∀ m, (s.port k).mute = some m → m.since + 1000000 ≤ s.now →
      exec (.fragmentTimeout k) s = .next (s.modPort k fun p => { p with mute := none }))

/-- R263: LINE_MODE takes its port's lanes down into the new mode, LINE_RESTART starts lanes again, LINE_SNAPSHOT writes 512 bytes to host
memory, LINE_TEST puts lanes under test, and a lane under test reports every 10 ms. -/
def Obligations.LineCommandsRun : Prop :=
  ∀ (s : State) (h : Hdr), s.stored → s.TakesNow h →
    (∀ k train, k < 2 → ∃ t, exec (.lineMode h k 0 train) s = .next t ∧ t.lineMode k = 0 ∧ (∀ j, j < 4 → t.laneAt (4 * k + j) = 0)) ∧
    (∀ k mode train, k < 2 → mode ≤ 5 → s.trip = false → ∃ t, exec (.lineMode h k mode train) s = .next t ∧ t.lineMode k = mode ∧
      t.get (Reg.LIN_PORT_CFG_TRAIN_EN k) = (if train then 1 else 0)) ∧
    (∀ mask, 0 < mask → mask < 256 → s.trip = false → ∃ t, exec (.lineRestart h mask) s = .next t ∧
      ∀ n, n < 8 → bit mask n = true → t.get (Reg.LIN_STAT_BACKOFF n) = 1 ∧ t.laneAt n ≤ 1) ∧
    (∀ n addr, n < 8 → addr % 64 = 0 → s.laneAt n ≠ 0 →
      Answers (exec (.lineSnapshot h n addr) s) (s.hostWrite addr (s.snapshot n))) ∧
    (∀ mask pattern addr, 0 < mask → mask < 256 → 1 ≤ pattern → pattern ≤ 4 → addr % 8 = 0 → s.trip = false →
      ∃ t, exec (.lineTest h mask pattern addr) s = .next t ∧ ∀ n, n < 8 → bit mask n = true → t.laneAt n = 0 ∧
        t.on (Reg.LIN_STAT_TEST n) = true ∧ (t.lane n).test = some ⟨pattern, addr, 0, 0, s.now⟩) ∧
    (∀ n m nbits errors, n < 8 → (s.lane n).test = some m → m.lastAt + 10000000 ≤ s.now → s.hostUp = true →
      ∃ t, exec (.lineTestReport n nbits errors) s = .next t ∧ t.regs = s.regs ∧
        (t.lane n).test = some { m with bits := m.bits + nbits, errors := m.errors + errors, lastAt := s.now } ∧
        t.hostMem = (s.hostWrite m.addr (bytesLE 8 (m.bits + nbits) ++ bytesLE 8 (m.errors + errors))).hostMem)

/-! ## The Culvert -/

/-- R271 to R274: block lock, its loss, signal lost and returned, sleep blocks and ALIGN blocks move a lane of a link and count what they
bring. -/
def Obligations.CulvertLanesAlign : Prop :=
  ∀ (s : State) (n : Nat), s.stored → n < 12 →
    (s.culRx n = 1 → ∃ t, exec (.headerLock n) s = .next t ∧ t.culRx n = 2 ∧ (t.culLane n).aligns = 0) ∧
    (s.culRx n = 2 ∨ s.culRx n = 3 → ∃ t, exec (.lockLoss n) s = .next t ∧ t.culRx n = 1 ∧
      t.rd64 (Reg.CUL_LANE_CNT n 0) = (s.rd64 (Reg.CUL_LANE_CNT n 0) + 24) % 2 ^ 64 ∧
      t.rd64 (Reg.CUL_LANE_CNT n 1) = (s.rd64 (Reg.CUL_LANE_CNT n 1) + 1) % 2 ^ 64) ∧
    (s.culRx n ≠ 0 → ∃ t, exec (.culvertSignalLoss n) s = .next t ∧ t.culRx n = 0) ∧
    (s.culRx n = 0 → s.culMay n = true → ∃ t, exec (.culvertSignalReturn n) s = .next t ∧ t.culRx n = 1 ∧
      t.on (Reg.CUL_LANE_STAT_RX_ASLEEP n) = false) ∧
    (s.culRx n = 2 ∨ s.culRx n = 3 → ∃ t, exec (.sleepBlocks n) s = .next t ∧ t.culRx n = 0 ∧ t.on (Reg.CUL_LANE_STAT_RX_ASLEEP n) = true) ∧
    (∀ b : AlignIn, s.culRx n = 2 ∨ s.culRx n = 3 → b.inverted = false → (s.culLane n).aligns = 0 ∨ b.blocks = 16384 → b.lane < 6 →
      ∃ t, exec (.alignBlock n b) s = .next t ∧ t.get (Reg.CUL_LANE_STAT_RX_LANE n) = b.lane ∧
        t.rd64 (Reg.CUL_LANE_CNT n 2) = (s.rd64 (Reg.CUL_LANE_CNT n 2) + b.bipErrors) % 2 ^ 64 ∧
        (t.culLane n).aligns = min 2 ((s.culLane n).aligns + 1) ∧
        (1 ≤ (s.culLane n).aligns → t.culRx n = 3) ∧ ((s.culLane n).aligns = 0 → t.culRx n = s.culRx n)) ∧
    (∀ b : AlignIn, s.culRx n = 2 ∨ s.culRx n = 3 → b.inverted = true → (s.culLane n).inverted = false →
      ∃ t, exec (.alignBlock n b) s = .next t ∧ t.culRx n = 1 ∧ (t.culLane n).inverted = true ∧
        t.get (Reg.CUL_LANE_STAT_RX_INV n) = 1 - s.get (Reg.CUL_LANE_STAT_RX_INV n)) ∧
    (∀ t0, (s.culLink (n / 6)).peerSince.get? (n % 6) = some t0 → (s.culLane n).failed = true → t0 + 1000000000 ≤ s.now →
      exec (.laneReadd n) s = .next ((s.modCulLane n fun l => { l with failed := false }).setWant (n / 6) 3))

/-- R270, R276, R278, R279, R281, R284, R285, R310: frames of a link are counted, its peer's masks are taken, a panel sync is passed on
and confirmed, a mismatch is told again, lanes are slept by command and by themselves, and an eye scan runs and writes its counts. -/
def Obligations.CulvertLinksCarry : Prop :=
  ∀ (s : State) (k : Nat), s.stored → k < 2 →
    (∀ f : CulFrameIn, f.link = k → s.culState k ≠ 0 → f.crcOk = false →
      exec (.culvertFrame f) s = .next (s.add64 (Reg.CUL_LINK_CNT k 2) 1)) ∧
    (∀ f : CulFrameIn, f.link = k → s.culState k = 2 → f.crcOk = true → f.channel < 4 → 1 ≤ f.length → f.length ≤ 9616 →
      exec (.culvertFrame f) s = .next (s.add64 (Reg.CUL_LINK_CNT k 1) 1)) ∧
    (∀ lock aligned, s.culState k ≠ 0 → lock < 64 → aligned < 64 →
      exec (.linkMgmtFrame k (.masks lock aligned)) s = .next (s.peerMasks k lock aligned)) ∧
    (∀ f : PanelSync, s.culState k = 2 → f.origin ≠ s.get Reg.CUL_CFG_POSITION → f.confirm = false → ∃ t, exec (.panelSyncFrame k f) s = .next t ∧
      t.rx.syncs = s.rx.syncs ++ [⟨edgeOfNs f.edge, 1, none, true⟩] ∧ t.cul = (s.culSend (1 - k) 1 (.sync f)).cul ∧ t.regs = s.regs) ∧
    (s.culState k = 3 → (s.culLink k).mismatchAt ≤ s.now →
      Answers (exec (.mismatchReport k) s) (s.modCulLink k fun l => { l with mismatchAt := s.now + 60000000000 })) ∧
    (∀ marks, (culLanesOf k).any s.culMay = true → ∃ t, exec (.alignPeriod k marks) s = .next t ∧
      t.get (Reg.CUL_LINK_STAT_TX_ACTIVE k) = (s.culLink k).nextMask % 64 ∧ (t.culLink k).nextMask = (s.culLink k).want ∧
      (t.culLink k).period = ((s.culLink k).period + 1) % 4096) ∧
    (s.on Reg.CUL_CFG_AUTO_SLEEP = true → (∀ n, n < 12 → ((s.autoPlan k).culLane n).idleSince = none) → exec (.autoSleep k) s = .next
      (if (s.autoPlan k).sleepCode k 0 ≠ 0 then s.autoPlan k else (s.autoPlan k).setWant k 0)) ∧
    (∀ h n, s.TakesNow h → n < 12 → s.culMay n = true → s.culAwake n = true → (s.culLane n).sleeping = none →
      s.sleepCode (n / 6) (2 ^ (n % 6)) = 0 → ∃ t, exec (.culSleep h (2 ^ n) true) s = .next t ∧ (t.culLane n).sleeping = some s.now ∧
        t.cul.sleeps = s.cul.sleeps ++ [(h, 2 ^ n)]) ∧
    (∀ h mask, s.TakesNow h → 0 < mask → mask < 64 → (maskList mask 12).all s.culMay = true →
      (∀ j, j < 12 → s.on (Reg.CUL_LANE_STAT_TX_ASLEEP j) = false ∧ (s.culLane j).sleeping = none ∧ (s.culLane j).waking = none) →
      (s.culLink 0).want = s.wantMask 0 → (s.culLink 1).want = s.wantMask 1 → Answers (exec (.culSleep h mask false) s) s) ∧
    (∀ h mask phi v addr, s.TakesNow h → 0 < mask → mask < 4096 → phi < 64 → v < 128 → addr % 8 = 0 → s.cul.scan = none →
      (maskList mask 12).all (fun n => decide (2 ≤ s.culRx n)) = true → exec (.culEyescan h mask phi phi v v 16 addr) s = .next
        { s with cul := { s.cul with scan := some ⟨h, mask, phi, phi, v, v, addr⟩ } }) ∧
    (∀ e lanes, s.cul.scan = some e → e.hdr.ring < 32 → ∃ t, exec (.eyescanDone lanes true) s = .next t ∧ t.cul.scan = none) ∧
    (∀ e lanes, s.cul.scan = some e → e.hdr.ring < 32 →
      Answers (exec (.eyescanDone lanes false) s) { s with cul := { s.cul with scan := none } })

/-- R286 to R290: CUL_REG sends its accesses to a member, tunnel messages are taken in order and acknowledged, late ones are sent again, a
doorbell reaches its member, and a member loses and finds its lead. -/
def Obligations.TheTunnelReachesMembers : Prop :=
  ∀ s : State, s.stored →
    (∀ h pos addr, s.TakesNow h → pos < 8 → s.leads = true → s.canReach pos = true → s.hostUp = true → ∃ t, exec (.culReg h pos 1 addr) s = .next t ∧
      t.cul.regJobs = s.cul.regJobs ++ [⟨h, pos, addr, [(s.cul.nextTag % 256, 0)], false⟩] ∧ t.cul.nextTag = (s.cul.nextTag + 1) % 256 ∧
      ((t.peer pos).unacked.length = (s.peer pos).unacked.length + 1)) ∧
    (∀ link member (m : TunnelMsg), link < 2 → s.culState link = 2 → member ≤ 8 → s.leads = true → s.cul.standDown = false → m.type = 8 →
      fromLead m = false → exec (.tunnelMessage link member m) s = .next (s.tunnelAcked member m.seq)) ∧
    (∀ link member (m : TunnelMsg), link < 2 → s.culState link = 2 → member ≤ 8 → s.leads = true → s.cul.standDown = false → m.type ≠ 8 →
      fromLead m = false → m.seq % 65536 ≠ (s.peer member).expect →
      exec (.tunnelMessage link member m) s = .next (s.tunnelAck member)) ∧
    (∀ link member (m : TunnelMsg), link < 2 → s.culState link = 2 → member ≤ 8 → s.leads = true → s.cul.standDown = false → m.type ≠ 8 →
      fromLead m = false → m.seq % 65536 = (s.peer member).expect →
      exec (.tunnelMessage link member m) s = .next
        (((s.modPeer member fun p => { p with expect := (p.expect + 1) % 65536 }).tunnelAck member).tunnelEffect member m)) ∧
    (∀ member, (s.peer member).unacked ≠ [] → (∀ x ∈ (s.peer member).unacked, x.2 + 200000 ≤ s.now) →
      ∃ t, exec (.tunnelResend member) s = .next t ∧ (t.peer member).unacked = (s.peer member).unacked.map fun (x : TunnelMsg × Nat) => (x.1, s.now)) ∧
    (∀ window off value size, s.mayWrite .pcie (0x340000 + 0x8000 * window) = true →
      exec (.tunnelDoorbell window off value size) s = .next (s.tunnelDoorbell window off value size)) ∧
    (∀ k, s.boot.tunnel = true → pcieFail k = true → realFail k = true → s.running = true →
      exec (.tunnelReadTimeout k) s = .next (if s.hostUp && s.culState (s.tunnelRoute 8) == 2 then s.transientFault k else s.lastingFault k)) ∧
    (s.boot.tunnel = true → s.inService = true → s.cul.leadLost = false →
      Answers (exec (.leadUnreachable true) s) { s with cul := { s.cul with leadLost := true } }) ∧
    (s.boot.tunnel = true → s.inService = true → s.cul.leadLost = true →
      ∃ t, exec (.leadUnreachable false) s = .next t ∧ t.cul.leadLost = false ∧ t.on Reg.HRG_STAT_READY = true)

/-! ## Time -/

/-- R296, R298, R299, R303, R317: PTP messages of the configured domain are taken and measured; a source not heard is lost; PPS edges
count seconds, their loss and the PPS output follow their times; the air offset is written while the radio is quiet. -/
def Obligations.ClockSourcesAreFollowed : Prop :=
  ∀ (s : State) (k : Nat), s.stored → k < 2 →
    (∀ rq value, s.mayWrite rq Reg.TIM_AIR_OFS = true → s.radioQuiet = true → ∃ t, exec (.airOfsWrite rq value) s = .next t ∧
      t.rd64 Reg.TIM_AIR_OFS = value % 2 ^ 64 ∧ { t with regs := s.regs } = s) ∧
    (∀ rq value, s.mayWrite rq Reg.TIM_AIR_OFS = true → s.radioQuiet = false → exec (.airOfsWrite rq value) s = .next (s.setF Reg.TIM_STAT_CFG_ERR)) ∧
    (∀ a : AnnounceIn, s.ptpTakes k a.domain = true → ∃ t, exec (.ptpAnnounce k a) s = .next t ∧ (t.ptp k).announce = some a ∧
      (t.ptp k).announceAt = s.now) ∧
    (∀ domain seq t1 corr, s.ptpTakes k domain = true → ∃ t, exec (.ptpSync k domain seq true t1 corr) s = .next t ∧ (t.ptp k).syncSeq = seq ∧
      (t.ptp k).syncAt = s.now ∧ (t.ptp k).t1 = none ∧ (t.ptp k).t2 = s.time16 - corr) ∧
    (∀ domain t1 corr, s.ptpTakes k domain = true → (s.ptp k).t1 = none → ∃ t, exec (.ptpFollowUp k domain (s.ptp k).syncSeq t1 corr) s = .next t ∧
      (t.ptp k).t1 = some (t1 + corr) ∧ (t.ptp k).offset = ((s.ptp k).t2 : Int) - (t1 + corr : Nat) - (s.ptp k).delay) ∧
    (s.ptpOn k = true → (s.ptp k).validSince ≠ none → (s.ptp k).reqAt + 62500000 ≤ s.now → exec (.delayReq k) s = .next
      (s.modPtp k fun p => { p with reqSeq := (p.reqSeq + 1) % 65536, t3 := some s.time16, reqAt := s.now })) ∧
    (∀ domain t1 t3 t4 corr, s.ptpTakes k domain = true → (s.ptp k).t1 = some t1 → (s.ptp k).t3 = some t3 →
      exec (.delayResp k domain (s.ptp k).reqSeq t4 corr) s = .next (s.modPtp k fun p =>
        { p with t3 := none, delay := (((s.ptp k).t2 : Int) - t1 + ((t4 : Int) - corr - t3)) / 2 })) ∧
    ((s.ptp k).validSince ≠ none → s.ptpHeard k = false → ∃ t, exec (.ptpSourceLost k) s = .next t ∧ (t.ptp k).announce = none ∧
      (t.ptp k).validSince = none) ∧
    (s.on Reg.TIM_CTL_PPS_EN = true → s.get Reg.TIM_STAT_CLK_STATE ≠ 2 → ∃ t, exec .ppsInEdge s = .next t ∧ t.tim.ppsAt = some s.now ∧
      t.rd64 Reg.TIM_PPS_TOD = (s.rd64 Reg.TIM_PPS_TOD % 2 ^ 48 + 1) % 2 ^ 48) ∧
    (∀ t0, s.tim.ppsAt = some t0 → t0 + 2000000000 ≤ s.now → ∃ t, exec .ppsLost s = .next t ∧ t.tim.ppsAt = none ∧ t.tim.ppsSince = none) ∧
    (s.on Reg.TIM_PPS_CFG_OUT_EN = true → s.now % 10 ^ 9 = 0 → exec (.ppsOut true) s = .next
      { s with tim := { s.tim with ppsHigh := true, ppsUntil := s.now + s.get Reg.TIM_PPS_CFG_OUT_WIDTH * 1000000 } }) ∧
    (s.tim.ppsHigh = true → s.tim.ppsUntil ≤ s.now → exec (.ppsOut false) s = .next { s with tim := { s.tim with ppsHigh := false } }) ∧
    (∀ t0, s.tim.within = some t0 → s.get Reg.TIM_STAT_CLK_STATE = 1 → t0 + (lockLimit (s.get Reg.TIM_STAT_SOURCE)).2 ≤ s.now →
      ∃ t, exec .clockLocked s = .next t ∧ t.get Reg.TIM_STAT_CLK_STATE = 2) ∧
    (∀ diff, diff.natAbs ≤ 100000 → exec (.extDisagree diff) s = .next { s with tim := { s.tim with disagreeSince := none } }) ∧
    (∀ diff t0, s.get Reg.TIM_STAT_SOURCE = 3 → s.extTime = true → 100000 < diff.natAbs → s.tim.disagreeSince = some t0 →
      t0 + 10000000000 ≤ s.now → s.on Reg.TIM_STAT_EXT_DISAGREE = false →
      Answers (exec (.extDisagree diff) s) (s.setF Reg.TIM_STAT_EXT_DISAGREE))

/-- R304 to R314, R318: cells with time stamps are sent and taken, an offset of a port is averaged into its register, the root's number
advances and its silence is seen; TIME_STEP sets device time, TIME_EPOCH the epoch, and a calibration over the air writes its record. -/
def Obligations.TimeIsTransferred : Prop :=
  ∀ (s : State) (k : Nat), s.stored → k < 2 →
    (s.overlayOn = true → s.strict k = false → exec (.timeCellSend k) s = .next
      (s.each ((s.upLanes k).filter fun (n : Nat) => (s.lane n).period % 8 == 0 && decide ((s.lane n).tx13.length < 16)) fun s n =>
        s.modLane n fun l => { l with tx13 := l.tx13 ++ [1 :: s.timeBytes l.txMarks l.rxMarks] })) ∧
    (∀ n c rest, n < 8 → (s.lane n).rx13 = c :: rest → nth c 0 = 1 → s.overlayOn = true → exec (.timeTransferCell n) s = .next
      ((s.modLane n fun l => { l with rx13 := rest }).timeTransfer (portOf n) (s.port (portOf n)).epoch (slice c 2 24) (s.lane n).txMarks
        (s.lane n).rxMarks)) ∧
    ((s.timePort k).joined = true → (s.timePort k).thetas ≠ [] → s.tim.parent ≠ some k →
      let th := divRound (sumZ (s.timePort k).thetas) (s.timePort k).thetas.length
      ∃ t, exec (.thetaUpdate k) s = .next t ∧ (t.timePort k).theta = some th ∧ (t.timePort k).thetas = [] ∧
        t.get (Reg.TIM_PORT_OFFSET_THETA k) = ux 32 (satS 32 th) ∧ t.get (Reg.TIM_PORT_STAT_XFER k) = (if th.natAbs < 50 then 2 else 1)) ∧
    (s.on Reg.TIM_STAT_ROOT = true → s.tim.rootAt + 1000000 ≤ s.now → exec .rootSeqAdvance s = .next
      { s with tim := { s.tim with ownSeq := (s.tim.ownSeq + 1) % 65536, key := { s.tim.key with seq := (s.tim.ownSeq + 1) % 65536 },
                                   rootAt := s.now } }) ∧
    (s.tim.parent ≠ none → s.tim.rootAt + 10000000 ≤ s.now → ∃ t, exec .rootLost s = .next t ∧ t.tim.ownUntil = some (s.now + 20000000)) ∧
    (∀ t0, s.tim.ownUntil = some t0 → t0 ≤ s.now → ∃ t, exec .ownKeyWindowEnd s = .next t ∧ t.tim.ownUntil = none) ∧
    (∀ h sec ns, s.TakesNow h → sec < 2 ^ 48 → ns < 10 ^ 9 → s.radioQuiet = true →
      Answers (exec (.timeStep h sec ns) s) { s with now := sec * 10 ^ 9 + ns, frac := 0 }) ∧
    (∀ h epoch, s.TakesNow h → s.get Reg.TIM_EPOCH_EPOCH < epoch → epoch < 2 ^ 32 → ∃ t, exec (.timeEpoch h epoch) s = .next t ∧
      t.get Reg.TIM_EPOCH_EPOCH = epoch) ∧
    (∀ j o, s.tim.ota = some j → j.hdr.ring < 32 → o.blanked = none → Answers (exec (.otaCalResult o) s)
      ({ s with tim := { s.tim with ota := none } }.hostWrite j.cmd.addr (otaRecord j.cmd o))) ∧
    (∀ j o r, s.tim.ota = some j → j.hdr.ring < 32 → o.blanked = some r →
      Answers (exec (.otaCalResult o) s) { s with tim := { s.tim with ota := none } })

/-! ## The signal engines -/

/-- R328, R330, R332: a bundle with one register instruction, in slot P or in slot Q, writes its result into the register it names, and
the engine goes on with the next bundle; two in one bundle read before either writes, and must not write one register; those that convert
saturate, the reciprocals lie within their error, and AGSET sets the field it names or is ILLEGAL. -/
def Obligations.EnginesComputeInRegisters : Prop :=
  ∀ (s : State) (n : Nat), s.stored →
    let r := (s.engine n).r
    let sets := fun (c : Nat → Instr) (op : Nat) (v : Nat → Nat) => ∀ p, s.RunsAlone n p → opOf p = op →
      exec (c n) s = .next (s.ranBundle n 1 ((r.setReg (fRd p) (v p)).flow .next))
    (s.RunsAlone n 0 → exec (.engNopBundle n) s = .next (s.ranBundle n 1 (r.flow .next))) ∧
    sets .engAdd 0x10 (fun p => r.reg (fRa p) + r.reg (fRb p)) ∧
    sets .engAddi 0x11 (fun p => ux 32 ((r.reg (fRa p) : Int) + sx 14 p)) ∧
    sets .engSub 0x12 (fun p => ux 32 ((r.reg (fRa p) : Int) - r.reg (fRb p))) ∧
    sets .engAnd 0x13 (fun p => r.reg (fRa p) &&& r.reg (fRb p)) ∧
    sets .engOr 0x14 (fun p => r.reg (fRa p) ||| r.reg (fRb p)) ∧
    sets .engXor 0x15 (fun p => r.reg (fRa p) ^^^ r.reg (fRb p)) ∧
    sets .engShli 0x16 (fun p => r.reg (fRa p) * 2 ^ bits p 0 5) ∧
    sets .engShri 0x17 (fun p => r.reg (fRa p) / 2 ^ bits p 0 5) ∧
    sets .engSari 0x18 (fun p => ux 32 (sx 32 (r.reg (fRa p)) / 2 ^ bits p 0 5)) ∧
    sets .engMovi 0x19 (fun p => ux 32 (sx 14 p)) ∧
    sets .engOrh 0x1A (fun p => r.reg (fRa p) ||| bits p 0 14 * 2 ^ 14) ∧
    sets .engExp 0x24 (fun p => if bit p 0 then signBits 16 (sx 16 (r.reg (fRa p))) else signBits 40 (r.accu (fRa p % 8))) ∧
    sets .engMul 0x2A (fun p => ux 32 (sx 16 (r.reg (fRa p)) * sx 16 (r.reg (fRb p)))) ∧
    (∀ p, s.RunsAlone n p → opOf p = 0x22 → let z := divRound (r.accu (fRa p % 8)) (2 ^ bits p 0 5)
      ∃ t, exec (.engMvag n) s = .next t ∧ (t.engine n).r = (r.setReg (fRd p) (ux 32 (satS 32 z))).flow .next ∧
        t.on (Reg.ENG_STAT_ST_SAT n) = (s.on (Reg.ENG_STAT_ST_SAT n) || satS 32 z != z)) ∧
    (∀ p, s.RunsAlone n p → opOf p = 0x23 → let z := sx 32 (r.reg (fRa p)) * 2 ^ bits p 0 5
      ∃ t, exec (.engMvga n) s = .next t ∧ (t.engine n).r = ({ r with acc := r.acc.set (fRd p % 8) (satAcc z) }).flow .next ∧
        t.on (Reg.ENG_STAT_ACC_SAT n) = (s.on (Reg.ENG_STAT_ACC_SAT n) || satAcc z != z)) ∧
    (∀ p, s.RunsAlone n p → opOf p = 0x25 → let a := r.accu (fRa p % 8)
      exec (.engNorm n) s = .next (s.ranBundle n 1
        ({ r.setReg (fRd p) (signBits 40 a) with acc := r.acc.set (fRa p % 8) (a * 2 ^ signBits 40 a) }.flow .next))) ∧
    (∀ p, s.RunsAlone n p → opOf p = 0x26 → exec (.engBexr n) s = .next (s.ranBundle n 1
        ({ r.setReg (fRd p) r.bex with bex := if bit p 0 then 0 else r.bex }.flow .next))) ∧
    (∀ p v, s.RunsAlone n p → opOf p = 0x28 → r.reg (fRa p) % 2 ^ 16 = v → 0x4000 ≤ v → v ≤ 0x7FFF →
      ∃ q, ceilDiv (2 ^ 29) v ≤ q + 4 ∧ q ≤ 2 ^ 29 / v + 4 ∧ exec (.engRcp n) s = .next (s.ranBundle n 1 ((r.setReg (fRd p) q).flow .next))) ∧
    (∀ p v, s.RunsAlone n p → opOf p = 0x29 → r.reg (fRa p) % 2 ^ 16 = v → 0x4000 ≤ v → v ≤ 0x7FFF →
      ∃ q, (rsqRange v).1 ≤ q ∧ q ≤ (rsqRange v).2 ∧ exec (.engRsq n) s = .next (s.ranBundle n 1 ((r.setReg (fRd p) q).flow .next))) ∧
    (∀ p, s.RunsAlone n p → opOf p = 0x2B →
      exec (.engTapc n) s = .next (s.ranBundle n 1 ({ r with tapc := r.reg (fRa p) % 2 ^ 16 }.flow .next))) ∧
    (∀ p q, s.RunsAlone n p → opOf p = 0x27 →
      let v := r.reg (fRa p)
      let old := r.ptr (fRd p % 8)
      (bits p 0 3 = 0 ∧ q = { old with addr := v % 2 ^ 24, count := 0 } ∨ bits p 0 3 = 1 ∧ q = { old with base := v % 2 ^ 24 } ∨
        bits p 0 3 = 2 ∧ q = { old with len := v % 2 ^ 18 } ∨ bits p 0 3 = 3 ∧ q = { old with step := sx 18 v } ∨
        bits p 0 3 = 4 ∧ v ≤ 2 ∧ q = { old with mode := v } →
        exec (.engAgset n) s = .next (s.ranBundle n 1 ({ r with ptrs := r.ptrs.set (fRd p % 8) q }.flow .next))) ∧
      (bits p 0 3 = 4 ∧ 2 < v ∨ 5 ≤ bits p 0 3 → exec (.engAgset n) s = .next (s.engFault n 1 r.pc false 0))) ∧
    (∀ p con, s.RunsAlone n p → opOf p = 0x28 ∧ con = .engRcp n ∨ opOf p = 0x29 ∧ con = .engRsq n →
      r.reg (fRa p) % 2 ^ 16 < 0x4000 ∨ 0x7FFF < r.reg (fRa p) % 2 ^ 16 →
      ∃ t, exec con s = .next t ∧ (t.engine n).r = (r.setReg (fRd p) 0x7FFF).flow .next ∧ t.on (Reg.ENG_STAT_ST_SAT n) = true) ∧
    (∀ p q, (s.engine n).prog.readLE (8 * r.pc) 8 = p * 2 ^ 32 + q → q < 2 ^ 32 → s.bundleReady n = true → s.kernelRuns n = false →
      opOf p = 0x10 → opOf q = 0x10 →
      (fRd p ≠ fRd q ∨ fRd p = 0 → exec (.engAdd n) s = .next (s.ranBundle n 1
        (((r.setReg (fRd p) (r.reg (fRa p) + r.reg (fRb p))).setReg (fRd q) (r.reg (fRa q) + r.reg (fRb q))).flow .next))) ∧
      (fRd p = fRd q → fRd p ≠ 0 → exec (.engAdd n) s = .next (s.engFault n 1 r.pc false 0)))

/-- R326 to R329, R332, R334: multiplying instructions add their products of 16-bit values to accumulators, the storing ones put rounded
and saturated accumulators into data memory, the loads and stores move words of the data memory and of the registers the engine reaches,
anything else is PROTECT, and the pointers move as their mode says. -/
def Obligations.EnginesUseTheirMemory : Prop :=
  ∀ (s : State) (n p : Nat), s.stored → s.RunsBundle n p → mOk p = true ∨ 0x20 ≤ opOf p →
    let r := (s.engine n).r
    let c : SlotIn := ⟨s, n, r, none, s.on (Reg.ENG_STAT_MODE n), s.free⟩
    let readable := fun (i w : Nat) => c.ptrFault (r.ptr i) w false = none
    let vals := fun (i k : Nat) => lanes16 k (s.devMem.readLE (engData n + (r.ptr i).addr) (2 * k))
    let sums := fun (l : List (Nat × Int)) (usesX : Bool) (width : Nat) (t : State) =>
      (t.engine n).r = (r.apply { c.accumulate p l with ptr := c.moved p width usesX }).flow .next ∧ t.devMem = s.devMem ∧
        t.on (Reg.ENG_STAT_ACC_SAT n) = (s.on (Reg.ENG_STAT_ACC_SAT n) || (c.accumulate p l).accSat)
    (opOf p = 1 → mAcc p % 4 = 0 → readable (mPx p) 8 → readable (mPy p) 8 → ∃ t, exec (.engMac4 n) s = .next t ∧
      sums ((products (vals (mPx p) 4) (vals (mPy p) 4)).zipIdx.map fun (e : Int × Nat) => (mAcc p + e.2, e.1)) true 8 t) ∧
    (opOf p = 2 → readable (mPx p) 8 → readable (mPy p) 8 → ∃ t, exec (.engDot4 n) s = .next t ∧
      sums [(mAcc p, sumZ (products (vals (mPx p) 4) (vals (mPy p) 4)))] true 8 t) ∧
    (opOf p = 3 → mAcc p % 2 = 0 → readable (mPx p) 4 → readable (mPy p) 4 →
      let x := vals (mPx p) 2
      let y := vals (mPy p) 2
      let yi := if mConj p then -(y.getD 1 0) else y.getD 1 0
      ∃ t, exec (.engCmac n) s = .next t ∧ sums [(mAcc p, x.getD 0 0 * y.getD 0 0 - x.getD 1 0 * yi),
        (mAcc p + 1, x.getD 0 0 * yi + x.getD 1 0 * y.getD 0 0)] true 4 t) ∧
    (opOf p = 4 → s.on (Reg.ENG_STAT_MODE n) = true → readable (mPx p) 8 → readable (mPy p) 8 →
      let line : List Int := sx 16 r.tapc :: (vals (mPy p) 4).take 3
      ∃ t, exec (.engTapmv n) s = .next t ∧ (t.engine n).r = (r.apply { c.accumulate p [(mAcc p, sumZ (products (vals (mPx p) 4) line))] with
          ptr := c.moved p 8 true, tapc := some (ux 16 ((vals (mPy p) 4).getD 3 0)) }).flow .next ∧
        t.devMem = (s.devWrite (engData n + (r.ptr (mPy p)).addr) (line.flatMap fun (z : Int) => bytesLE 2 (ux 16 z))).devMem) ∧
    (∀ k con, (opOf p = 5 ∧ k = 4 ∧ con = .engSta4 n ∨ opOf p = 6 ∧ k = 2 ∧ con = .engStc n) → mAcc p + k ≤ 8 →
      c.ptrFault (r.ptr (mPy p)) (2 * k) true = none →
      let out := (List.range k).map fun i => satS 16 (divRound (r.accu (mAcc p + i)) (2 ^ mSh p))
      ∃ t, exec con s = .next t ∧ (t.engine n).r = (r.apply { SlotOut.nothing with
          ptr := c.moved p (2 * k) false, bex := some ((out.map blockExp).foldl max r.bex) }).flow .next ∧
        t.devMem = (s.devWrite (engData n + (r.ptr (mPy p)).addr) (out.flatMap fun (z : Int) => bytesLE 2 (ux 16 z))).devMem) ∧
    (opOf p = 0x20 → c.ea p 4 % 4 = 0 → c.ea p 4 < 0x40000 → exec (.engLdg n) s = .next (s.ranBundle n 1
      ((r.setReg (fRd p) (s.devMem.readLE (engData n + c.ea p 4) 4)).flow .next))) ∧
    (opOf p = 0x21 → c.ea p 4 % 4 = 0 → c.ea p 4 < 0x40000 → exec (.engStg n) s = .next
      ((s.ranBundle n 1 (r.flow .next)).devWrite (engData n + c.ea p 4) (bytesLE 4 (r.reg (fRb p))))) ∧
    (opOf p = 0x2C → c.ea p 2 % 2 = 0 → c.ea p 2 < 0x40000 → exec (.engSth n) s = .next
      ((s.ranBundle n 1 (r.flow .next)).devWrite (engData n + c.ea p 2) (bytesLE 2 (r.reg (fRb p))))) ∧
    (c.ea p 4 % 4 = 0 → 0x400000 ≤ c.ea p 4 → c.ea p 4 < 0x800000 → engineReach n (c.ea p 4 - 0x400000) = true →
      let u := s.ranBundle n 1 (r.flow .next)
      let off := c.ea p 4 - 0x400000
      (opOf p = 0x20 → exec (.engLdg n) s = .next
        ((u.latch (.engine n) off).modEngine n fun e => { e with r := e.r.setReg (fRd p) (u.readAs (.engine n) off) })) ∧
      (opOf p = 0x21 → exec (.engStg n) s = .next (u.writeReg (.engine n) off (r.reg (fRb p))))) ∧
    (∀ con w, (opOf p = 0x20 ∧ con = .engLdg n ∧ w = 4 ∨ opOf p = 0x21 ∧ con = .engStg n ∧ w = 4 ∨ opOf p = 0x2C ∧ con = .engSth n ∧ w = 2) →
      c.ea p w % w = 0 → 0x40000 ≤ c.ea p w →
      w = 2 ∨ c.ea p w < 0x400000 ∨ 0x800000 ≤ c.ea p w ∨ engineReach n (c.ea p w - 0x400000) = false →
      exec con s = .next (s.engFault n 3 r.pc false (c.ea p w)))

/-- R327: an access that is not aligned to its width, 8 bytes for MAC4, DOT4, TAPMV and STA4, 4 for CMAC, STC, LDG and STG, 2 for STH,
raises MISALIGNED, and so does one through a modulo pointer whose distance from its base is no multiple of the width. -/
def Obligations.MisalignedAccessesRaiseMisaligned : Prop :=
  ∀ (s : State) (n p : Nat), s.stored → s.RunsBundle n p → mOk p = true ∨ 0x20 ≤ opOf p →
    let r := (s.engine n).r
    let c : SlotIn := ⟨s, n, r, none, s.on (Reg.ENG_STAT_MODE n), s.free⟩
    let bad := fun (i w : Nat) =>
      (r.ptr i).addr % w ≠ 0 ∨ (r.ptr i).mode = 1 ∧ (((r.ptr i).addr : Int) - (r.ptr i).base) % (w : Int) ≠ 0
    let misaligned := fun (con : Instr) (addr : Nat) => exec con s = .next (s.engFault n 2 r.pc false addr)
    (∀ con w, (opOf p = 1 ∧ con = .engMac4 n ∧ w = 8 ∧ mAcc p % 4 = 0 ∨ opOf p = 2 ∧ con = .engDot4 n ∧ w = 8 ∨
        opOf p = 3 ∧ con = .engCmac n ∧ w = 4 ∧ mAcc p % 2 = 0 ∨ opOf p = 4 ∧ con = .engTapmv n ∧ w = 8 ∧ s.on (Reg.ENG_STAT_MODE n) = true) →
      (bad (mPx p) w → misaligned con (r.ptr (mPx p)).addr) ∧
      (c.ptrFault (r.ptr (mPx p)) w false = none → bad (mPy p) w → misaligned con (r.ptr (mPy p)).addr)) ∧
    (∀ con w, (opOf p = 5 ∧ con = .engSta4 n ∧ w = 8 ∧ mAcc p ≤ 4 ∨ opOf p = 6 ∧ con = .engStc n ∧ w = 4 ∧ mAcc p ≤ 6) →
      bad (mPy p) w → misaligned con (r.ptr (mPy p)).addr) ∧
    (∀ con w, (opOf p = 0x20 ∧ con = .engLdg n ∧ w = 4 ∨ opOf p = 0x21 ∧ con = .engStg n ∧ w = 4 ∨ opOf p = 0x2C ∧ con = .engSth n ∧ w = 2) →
      c.ea p w % w ≠ 0 → misaligned con (c.ea p w))

/-- R331 to R333, R337, R345: a branch, a call, a return and a loop set the bundle that follows, WAIT stops the engine, a TRAP of firmware
goes to the mailbox, RETK gives firmware its registers back, a FENCE goes on, HALT in firmware is a fault, and what a form may not hold is
ILLEGAL. -/
def Obligations.EnginesBranchAndStop : Prop :=
  ∀ (s : State) (n p : Nat), s.stored →
    let r := (s.engine n).r
    (s.RunsBundle n p → opOf p = 0x30 → cCond p ≤ 4 → exec (.engBr n) s = .next
      (if condHolds (cCond p) (r.reg (cRa p)) then s.ranBundle n 2 { r with pc := cTarget p % 2 ^ 15 } else s.ranBundle n 1 (r.flow .next))) ∧
    (s.RunsBundle n p → opOf p = 0x31 → exec (.engCall n) s = .next
      (s.ranBundle n 2 { r.setReg 15 ((r.pc + 1) % 2 ^ 15) with pc := cTarget p % 2 ^ 15 })) ∧
    (s.RunsBundle n p → opOf p = 0x32 → exec (.engRet n) s = .next (s.ranBundle n 2 { r with pc := r.reg 15 % 2 ^ 15 })) ∧
    (s.RunsBundle n p → opOf p = 0x33 → r.loops.length < 2 → 0 < r.reg (cRa p) → exec (.engLoop n) s = .next (s.ranBundle n 1
      { r with loops := ⟨(r.pc + 1) % 2 ^ 15, cTarget p % 2 ^ 15, r.reg (cRa p)⟩ :: r.loops, pc := (r.pc + 1) % 2 ^ 15 })) ∧
    (s.RunsBundle n p → opOf p = 0x33 → r.loops.length < 2 → r.reg (cRa p) = 0 → exec (.engLoop n) s = .next (s.ranBundle n 1
      (let e := loopEnd r.loops (cTarget p % 2 ^ 15)
       { r with loops := e.1, pc := e.2 }))) ∧
    (∀ con, s.RunsBundle n p → (opOf p = 0x30 ∧ con = .engBr n ∧ 4 < cCond p ∨ opOf p = 0x33 ∧ con = .engLoop n ∧ 2 ≤ r.loops.length ∨
      opOf p = 0x34 ∧ con = .engWait n ∧ bits p 7 9 ≠ 0 ∨ opOf p = 0x38 ∧ con = .engRetk n ∨
      con = .engNopBundle n ∧ p ≠ 0 ∧ knownOp (opOf p) = false) → exec con s = .next (s.engFault n 1 r.pc false 0)) ∧
    (s.RunsBundle n p → opOf p = 0x34 → bits p 7 9 = 0 → ∃ t, exec (.engWait n) s = .next t ∧ t.get (Reg.ENG_STAT_STATE n) = 2 ∧
      (t.engine n).wait = some (cRa p, bits p 0 7) ∧ (t.engine n).r = r.flow .next ∧ (t.engine n).yieldAt = s.now) ∧
    (s.RunsBundle n p → opOf p = 0x35 → ∃ t, exec (.engTrap n) s = .next t ∧ t.eng.mailbox = s.eng.mailbox ++ [(n, bits p 0 8)] ∧
      (t.engine n).r = r.flow .next ∧ (t.engine n).yieldAt = s.now) ∧
    (s.RunsBundle n p → opOf p = 0x36 → exec (.engFence n) s = .next (s.ranBundle n 1 (r.flow .next))) ∧
    (s.RunsBundle n p → opOf p = 0x3F → exec (.engHalt n) s = .next (s.engFault n 5 r.pc false 0)) ∧
    (∀ k saved, (s.engine n).prog.readLE (8 * r.pc) 8 = p * 2 ^ 32 → s.bundleReady n = true → s.kernelRuns n = true →
      (s.engine n).kernel = some k → k.progPage * 512 ≤ r.pc → r.pc < (k.progPage + k.progPages) * 512 → opOf p = 0x38 →
      (s.engine n).saved = some saved → s.beam.solves ≠ [] → s.budgetUsed n ≤ s.budgetOf k → ∃ t, exec (.engRetk n) s = .next t ∧
        (t.engine n).r = saved.1 ∧ (t.engine n).wait = saved.2 ∧ (t.engine n).saved = none ∧ t.kernelRuns n = false)

/-- R333, R335 to R340, R348: an event wakes an engine that waits for it, the watchdog stops one that gave nothing up for 10 ms, a stopped
engine is loaded again from its image, and a mode that was asked for is taken or waits. -/
def Obligations.EnginesAreControlled : Prop :=
  ∀ (s : State) (n : Nat), s.stored → n < 16 → s.get Reg.PWR_STAT_STATE < 2 → s.flt.dump = none →
    (∀ events ra mask, s.engineRuns n = true → (s.engine n).wait = some (ra, mask) → events &&& mask ≠ 0 → ∃ t, exec (.engineWake n events) s = .next t ∧
      (t.engine n).wait = none ∧ (t.engine n).r = (s.engine n).r.setReg ra (events &&& mask) ∧ t.get (Reg.ENG_STAT_STATE n) = 1) ∧
    (∀ events ra mask, (s.engine n).wait = some (ra, mask) → (s.engine n).saved = none → s.engineRuns n = true → events &&& mask = 0 →
      ∃ t, exec (.engineWake n events) s = .next t ∧ (t.engine n).wait = some (ra, mask) ∧ t.regs = s.regs) ∧
    (s.get (Reg.ENG_STAT_STATE n) = 1 → (s.engine n).yieldAt + 10000000 ≤ s.now →
      exec (.watchdog n) s = .next (s.engFault n 5 (s.engine n).r.pc false 0)) ∧
    (s.get (Reg.ENG_STAT_STATE n) = 4 → (s.engine n).kernel = none → s.get (Reg.ENG_STAT_RESTARTS n) < 255 → ∃ t, exec (.engineRestart n) s = .next t ∧
      t.get (Reg.ENG_STAT_STATE n) = 1 ∧ t.get (Reg.ENG_STAT_MODE n) = 1 ∧ (t.engine n).r = { EngRegs.initial with pc := fieldLE (s.engine n).image 20 2 } ∧
      t.get (Reg.ENG_STAT_RESTARTS n) = s.get (Reg.ENG_STAT_RESTARTS n) + 1) ∧
    (∀ m l, (s.engine n).modeNext = some (b2n m, l) → (∀ h ∈ l, h.ring < 32) → ∃ t, exec (.modeChange n m 0) s = .next t ∧
      t.get (Reg.ENG_STAT_MODE n) = b2n m ∧ (t.engine n).modeNext = none) ∧
    (∀ h, s.TakesNow h → n < 12 → s.engineRuns n = true → s.engineAtRest n = true → (s.engine n).modeNext = none → s.get (Reg.ENG_STAT_MODE n) = 0 →
      exec (.engMode h n 1) s = .next
        ((s.modEngine n fun e => { e with hostMaint := true }).modEngine n fun e => { e with modeNext := some (1, [h]) })) ∧
    (∀ h, s.TakesNow h → n < 12 → s.engineRuns n = true → s.engineAtRest n = true → (s.engine n).modeNext = none → s.get (Reg.ENG_STAT_MODE n) = 1 →
      Answers (exec (.engMode h n 1) s) (s.modEngine n fun e => { e with hostMaint := true }))

/-- R343 to R346, R348: a kernel is unloaded on request at a slot boundary, is invoked at its hook, and the five services of a kernel
answer it. -/
def Obligations.KernelsRunAtTheirHooks : Prop :=
  ∀ (s : State) (n : Nat), s.stored → n < 8 → s.get Reg.PWR_STAT_STATE < 2 → s.flt.dump = none →
    (∀ h addr len, s.TakesNow h → (s.engine n).kpend = none → exec (.engKernel h (2 ^ n) 1 addr len) s = .next
      (s.modEngine n fun e => { e with kpend := some ⟨some h, none⟩ })) ∧
    (∀ k, (s.engine n).kpend = some ⟨none, some k⟩ → s.engineRuns n = true → s.atSlot = true → s.kernelRuns n = false →
      ∃ t, exec (.kernelPlacement n) s = .next t ∧ (t.engine n).kernel = some k ∧ (t.engine n).kpend = none ∧
        t.on (Reg.ENG_STAT_KLOADED n) = true) ∧
    (∀ k arg, (s.engine n).kernel = some k → s.engineRuns n = true → (s.engine n).kernelOff = false → s.on (Reg.ENG_STAT_MODE n) = false →
      s.hookDue n k arg = true → s.kernelRuns n = false → ∃ t, exec (.kernelInvocation n arg) s = .next t ∧ t.kernelRuns n = true ∧
        (t.engine n).saved = some ((s.engine n).r, (s.engine n).wait) ∧ (t.engine n).r.pc = (k.progPage * 512 + k.entry) % 2 ^ 15 ∧
        (t.engine n).r.loops = []) ∧
    (s.kernelRuns n = true → (s.engine n).trap = some 0 → exec (.engTime n) s = .next
      ((s.serviceDone n St.done).modEngine n fun e => { e with r := (e.r.setReg 2 s.timeNs).setReg 3 (s.timeNs / 2 ^ 32) })) ∧
    (∀ k, s.kernelRuns n = true → (s.engine n).trap = some 1 → (s.engine n).kernel = some k → k.wFirst ≤ s.engReg n 2 →
      s.engReg n 2 + s.engReg n 3 ≤ k.wFirst + k.wCount → k.holdsData (s.engReg n 4) (256 * s.engReg n 3) = true → s.beam.transition = none →
      exec (.engWriteWeights n) s = .next ((s.doWrite ⟨2, none, 1 - s.beamActive, s.engReg n 2, s.engReg n 3, 0, false, 0, false, false,
        s.devRead (engData n + s.engReg n 4) (256 * s.engReg n 3)⟩).serviceDone n St.done)) ∧
    (s.kernelRuns n = true → (s.engine n).trap = some 2 → s.beam.solves.get? (s.engReg n 2) = none →
      exec (.engCovRead n) s = .next (s.serviceDone n St.notReady)) ∧
    (∀ k v w, s.kernelRuns n = true → (s.engine n).trap = some 2 → (s.engine n).kernel = some k → s.beam.cov.get? (s.engReg n 2) = some v →
      s.beam.solves.get? (s.engReg n 2) = some w → s.engReg n 3 % 8 = n → s.engReg n 3 < covSubbands v.cfg →
      k.holdsData (s.engReg n 4) (covBytes v.cfg.layers) = true → exec (.engCovRead n) s = .next
        ((s.devWrite (engData n + s.engReg n 4) (fit (covBytes v.cfg.layers) (Config.covSums (v.sums.getD (s.engReg n 3) 0)))).serviceDone n St.done)) ∧
    (∀ k, s.kernelRuns n = true → (s.engine n).trap = some 3 → (s.engine n).kernel = some k → (s.engine n).events = [] →
      k.holdsData (s.engReg n 2) 16 = true → ∃ t, exec (.engEvent n) s = .next t ∧ (t.engine n).trap = none ∧
        (t.engine n).r = (s.engine n).r.setReg 1 St.done ∧ (t.engine n).events = [s.now]) ∧
    (∀ w, s.kernelRuns n = true → (s.engine n).trap = some 4 → s.beam.solves.get? (s.engReg n 2) = some w → s.engReg n 3 % 8 = n →
      ∃ t, exec (.engSolved n) s = .next t ∧ (t.engine n).trap = none ∧ (t.engine n).r = (s.engine n).r.setReg 1 St.done ∧
        t.beam.solves.get? (s.engReg n 2) = some { w with solved := s.engReg n 3 :: w.solved })

/-! ## The Sluice and Seawall -/

/-- R379 to R383, R389, R391: a chain starts at its head; a running channel fetches a descriptor or halts; at its end the data stands
where it was sent and the channel follows its CTRL word; a parked channel polls that word; a kick makes it poll afresh; a stop halts it.
-/
def Obligations.SluiceFollowsItsChains : Prop :=
  ∀ (s : State) (ch : Nat), s.stored → ch < 32 →
    (∀ h stopOnErr head, s.TakesNow h → 24 ≤ ch → head % 32 = 0 → s.sluState ch = 0 ∨ s.sluState ch = 4 →
      ∃ t, exec (.sluChain h ch stopOnErr head) s = .next t ∧ t.sluState ch = 1 ∧ t.rd64 (Reg.SLU_CH_POS ch) = head % 2 ^ 64 ∧
        t.get (Reg.SLU_CH_STAT_STOP_ON_ERR ch) = (if stopOnErr then 1 else 0) ∧ t.sluChan ch = SluChan.initial) ∧
    (∀ h, s.TakesNow h → 24 ≤ ch → (s.sluChan ch).job = none →
      ∃ t, exec (.sluStop h ch) s = .next t ∧ t.sluState ch = 0 ∧ t.get (Reg.SLU_CH_STAT_KICK_PEND ch) = 0 ∧ t.slu = s.slu) ∧
    (∀ rq, s.mayWrite rq Reg.SLU_KICK = true → 24 ≤ ch → s.sluState ch = 2 ∨ s.sluState ch = 3 →
      ∃ t, exec (.sluKick rq (2 ^ ch)) s = .next t ∧ t.sluState ch = 2 ∧ t.get (Reg.SLU_CH_STAT_POLLS ch) = 64 ∧
        (t.sluChan ch).pollAt = s.now) ∧
    (s.sluState ch = 1 → (s.sluChan ch).job = none → s.hostUp = true →
      (∀ f, f ≠ some .fetch → exec (.sluiceDescriptor ch f) s = .next (s.fresh.modSlu ch fun q =>
        { q with job := some (s.sluJob ch (s.rd64 (Reg.SLU_CH_POS ch)) (s.sluRead (s.rd64 (Reg.SLU_CH_POS ch)) 32) f) })) ∧
      (∃ t, exec (.sluiceDescriptor ch (some .fetch)) s = .next t ∧ t.sluState ch = 4 ∧ t.on Reg.SLU_ERR_BUS_ERR = true ∧ t.slu = s.slu)) ∧
    (∀ j, (s.sluChan ch).job = some j → (s.sluChan ch).stop = [] → j.status = St.done → j.irq = false →
      let u := s.each j.writes fun u w => if w.1 then u.devWrite w.2.1 w.2.2 else u.hostWrite w.2.1 w.2.2
      exec (.descriptorComplete ch) s = .next
        (((u.modSlu ch fun q => { q with job := none }).add64 (Reg.SLU_CH_CNT ch) 1).sluFollow ch j.ctrl)) ∧
    (∀ j, (s.sluChan ch).job = some j → (s.sluChan ch).stop = [] → j.status ≠ St.done → s.on (Reg.SLU_CH_STAT_STOP_ON_ERR ch) = true →
      ∃ t, exec (.descriptorComplete ch) s = .next t ∧ t.sluState ch = 4 ∧ (t.sluChan ch).job = none) ∧
    (∀ j, (s.sluChan ch).job = some j → (s.sluChan ch).stop ≠ [] → (∀ h ∈ (s.sluChan ch).stop, h.ring < 32) →
      ∃ t, exec (.descriptorComplete ch) s = .next t ∧ t.sluState ch = 0 ∧ (t.sluChan ch).job = none ∧ (t.sluChan ch).stop = []) ∧
    (s.sluState ch = 2 → (s.sluChan ch).pollAt ≤ s.now → s.hostUp = true →
      let ctrl := natLE (s.sluRead (s.rd64 (Reg.SLU_CH_POS ch)) 8)
      (bit ctrl 0 = false → exec (.ctrlPoll ch) s = .next (s.sluFollow ch ctrl)) ∧
      (bit ctrl 0 = true → 2 ≤ s.get (Reg.SLU_CH_STAT_POLLS ch) → exec (.ctrlPoll ch) s = .next
        ((s.put (Reg.SLU_CH_STAT_POLLS ch) (s.get (Reg.SLU_CH_STAT_POLLS ch) - 1)).modSlu ch fun q => { q with pollAt := s.now + 2000 })) ∧
      (bit ctrl 0 = true → s.get (Reg.SLU_CH_STAT_POLLS ch) ≤ 1 → ∃ t, exec (.ctrlPoll ch) s = .next t ∧ t.sluState ch = 3))

/-- R412: Seawall works on one operation at a time: each command that passes its checks runs, or waits behind the one that does. -/
def Obligations.SeawallTakesOneOperation : Prop :=
  ∀ (s : State) (h : Hdr), s.TakesNow h →
    let taken (c : Cmd) : State :=
      if s.sea.running = none then { s with sea := { s.sea with running := some (.cmd h c) } }.setF Reg.SEA_STAT_BUSY
      else { s with sea := { s.sea with queue := s.sea.queue ++ [.cmd h c] } }
    (∀ addr, addr % 8 = 0 → exec (.leveeCert h addr) s = .next (taken (.leveeCert addr))) ∧
    (∀ addr, addr % 8 = 0 → (s.upLanes 0 ++ s.upLanes 1) ≠ [] → exec (.lineRmute h addr) s = .next (taken (.lineRmute addr))) ∧
    (∀ mask addr len, 1 ≤ mask → mask < 256 → addr % 64 = 0 → s.custSlot ≠ 0 →
      exec (.engKernel h mask 0 addr len) s = .next (taken (.engKernel mask 0 addr len))) ∧
    (∀ addr, addr % 64 = 0 → s.hasIdentity = true → exec (.seaIdentity h addr) s = .next (taken (.seaIdentity addr))) ∧
    (∀ nonce addr, nonce % 8 = 0 → addr % 64 = 0 → s.idKeyOk = true → s.sea.entropyBad = false →
      exec (.seaAttest h nonce addr) s = .next (taken (.seaAttest nonce addr))) ∧
    (∀ id, id ≤ 16383 → s.radioQuiet = true → s.idKeyOk = true → s.sea.entropyBad = false → s.flashOpen = true →
      exec (.seaSetId h id) s = .next (taken (.seaSetId id))) ∧
    (∀ cls version, cls ≤ 6 → version ≤ 256 → exec (.seaCommit h cls version) s = .next (taken (.seaCommit cls version))) ∧
    (∀ slot addr, slot ≤ 1 → addr % 8 = 0 → exec (.seaEnrol h slot addr) s = .next (taken (.seaEnrol slot addr))) ∧
    (∀ addr, addr % 8 = 0 → s.idKeyOk = true → s.custSlot ≠ 0 → s.flashOpen = true →
      exec (.seaCak h addr) s = .next (taken (.seaCak addr))) ∧
    (∀ uid, uid = natLE s.uid → exec (.seaRetire h uid) s = .next (taken (.seaRetire uid)))

/-- R397, R404, R412, R414: an operation that ends leaves Seawall to the next one; an identity stands in host memory; the state of the
entropy source is kept and reported. -/
def Obligations.SeawallOperationsEnd : Prop :=
  ∀ s : State, s.stored →
    (∀ h addr, s.sea.running = some (.cmd h (.seaIdentity addr)) → s.sea.queue = [] → h.ring < 32 →
      ∃ t, exec (.seawallOperationDone none) s = .next t ∧ t.sea = { s.sea with running := none } ∧ t.get Reg.SEA_STAT_BUSY = 0 ∧
        ∀ i, i < s.identityBlock.length → s.inRecordRing (addr + i) = false →
          t.hostMem.read (addr + i) = BitVec.ofNat 8 (s.identityBlock.getD i 0)) ∧
    (s.sea.entropyBad = false →
      Answers (exec .entropyFailure s) ({ s with sea := { s.sea with entropyBad := true } }.setF Reg.SEA_STAT_TRNG_FAIL)) ∧
    (s.sea.entropyBad = true → Answers (exec .entropyRecovered s) { s with sea := { s.sea with entropyBad := false } })

/-! ## Reset, power and heat -/

/-- R419, R421, R422: each reset adds its cause, keeps host memory, the fuses, the flash slots, the scratch registers and the queue, and
leaves every other register as the reset state has it. -/
def Obligations.ResetsKeepTheIsland : Prop :=
  ∀ s : State, s.stored →
    let restarted (cause : Nat) (t : State) : Prop :=
      t.hostMem = s.hostMem ∧ t.devMem = State.reset.devMem ∧ t.sea.fuses = s.sea.fuses ∧ t.boot.slots = s.boot.slots ∧
      t.pending = s.pending ∧ t.now = 0 ∧
      t.rd Reg.DEV_RESET_CAUSE = s.rd Reg.DEV_RESET_CAUSE ||| cause ||| (if s.pwr.tripped then 32 else 0) ∧
      (∀ k, k < 4 → t.rd (Reg.DEV_SCRATCH k) = s.rd (Reg.DEV_SCRATCH k)) ∧
      (∀ off, off ∉ [Reg.FLT_DUMP_STAT, Reg.THM_STAT, Reg.PWR_WAKE, Reg.DEV_RESET_CAUSE] → (∀ k, k < 4 → off ≠ Reg.DEV_SCRATCH k) →
        t.rd off = State.reset.rd off)
    (∃ t, exec .rstnFall s = .next t ∧ t.boot.rstnHigh = false ∧ restarted 2 t) ∧
    (∃ t, exec (.supplyMonitorTrip false) s = .next t ∧ t.boot.supplyOk = false ∧ restarted 1 t) ∧
    (∃ t, exec (.supplyMonitorTrip true) s = .next t ∧ t.rd Reg.DEV_RESET_CAUSE = 1 ∧ ∀ k, k < 4 → t.rd (Reg.DEV_SCRATCH k) = 0) ∧
    (∀ rq, s.mayWrite rq Reg.DEV_BOOT_CTL = true → ∃ t, exec (.softRst rq 0xA5) s = .next t ∧ restarted 4 t)

/-- R420, R423 to R425, R427, R433, R434: the bring-up of the device: release, the images, service, the reference and the rails. -/
def Obligations.BringUpReachesService : Prop :=
  ∀ s : State, s.stored →
    (∀ fast, s.boot.step = 0 → s.pwr.sentinel.pwrEn = true → ∃ t, exec (.resetRelease true fast) s = .next t ∧ t.boot.rstnHigh = true ∧
      t.boot.supplyOk = true ∧ t.boot.t0 = s.now ∧ 2 ≤ t.boot.step ∧ t.get Reg.DEV_BOOT_STAT_FLASH_OK = 1 ∧
      t.get Reg.DEV_BOOT_STAT_SLOW_FLASH = (if fast then 0 else 1) ∧ t.pkg.smbAddr = 0x58 + s.pkg.straps % 8) ∧
    (∀ fast, s.boot.step = 0 → s.pwr.sentinel.pwrEn = true → ∃ t, exec (.resetRelease false fast) s = .next t ∧ t.boot.rstnHigh = true ∧
      t.boot.step = 1 ∧ t.get Reg.DEV_BOOT_STAT_NO_IMAGE = 1) ∧
    (∀ engine image, engine < 16 → (if engine = 15 then 3 else if engine = 14 then 4 else 5) ≤ s.boot.step →
      s.get (Reg.ENG_STAT_STATE engine) = 0 → bit (fieldLE image 8 2) engine = true → s.imageStatus image = St.done →
      ∃ t, exec (.imageVerification engine image) s = .next t ∧ t.get (Reg.ENG_STAT_STATE engine) = 1 ∧
        t.get (Reg.ENG_STAT_MODE engine) = 1 ∧ (t.engine engine).r.pc = fieldLE image 20 2 ∧ (t.engine engine).image = image) ∧
    (∀ engine image, engine < 16 → (if engine = 15 then 3 else if engine = 14 then 4 else 5) ≤ s.boot.step →
      s.get (Reg.ENG_STAT_STATE engine) = 0 → bit (fieldLE image 8 2) engine = false ∨ s.imageStatus image ≠ St.done →
      ∃ t, exec (.imageVerification engine image) s = .next t ∧ t.get (Reg.ENG_STAT_STATE engine) = 0 ∧ t.eng = s.eng) ∧
    (s.allEngines = true → s.on Reg.DEV_BOOT_STAT_IMAGES_OK = false → ∃ t, exec .imagesOk s = .next t ∧
      t.get Reg.DEV_BOOT_STAT_IMAGES_OK = 1 ∧ t.get Reg.DEV_PROFILE_IN_FORCE = s.get Reg.DEV_PROFILE_PROFILE ∧
      (s.host.perstHigh = true → s.boot.tunnel = false → t.get Reg.HRG_STAT_READY = 1)) ∧
    (∀ khz, khz ≠ 0 → s.boot.refCfg ≠ 0 ∨ refCode khz ≠ 0 → 5 ≤ s.boot.step → s.on Reg.DEV_BOOT_STAT_REF_OK = false →
      ∃ t, exec (.referenceMeasure khz) s = .next t ∧ t.get Reg.DEV_BOOT_STAT_REF_OK = 1 ∧ t.boot.refLost = false ∧
        t.get Reg.DEV_BOOT_STAT_REF_FREQ = (if s.boot.refCfg = 0 then refCode khz else s.boot.refCfg % 4)) ∧
    (∀ khz, khz = 0 ∨ s.boot.refCfg = 0 ∧ refCode khz = 0 → 5 ≤ s.boot.step → s.on Reg.DEV_BOOT_STAT_REF_OK = false →
      s.boot.refLost = false → Answers (exec (.referenceMeasure khz) s) { s with boot := { s.boot with refLost := true } }) ∧
    (s.on Reg.DEV_BOOT_STAT_REF_OK = true → ∃ t, exec .referenceLost s = .next t ∧ t.get Reg.DEV_BOOT_STAT_REF_OK = 0 ∧
      t.get Reg.CLK_SYN_STAT_SYNTH_OK = 0 ∧ t.get Reg.CLK_SYN_STAT_CAL_BUSY = 0 ∧ t.rct.synth = none ∧ t.boot.refLost = true) ∧
    (∀ outMask, bit s.boot.railsOut 2 = bit (outMask % 8) 2 →
      Answers (exec (.railRecheck outMask) s) { s with boot := { s.boot with railsOut := outMask % 8 } }) ∧
    (∀ outMask, bit s.boot.railsOut 2 = false → bit (outMask % 8) 2 = true →
      ∃ t, exec (.railRecheck outMask) s = .next t ∧ t.boot.railsOut = outMask % 8 ∧ ∀ n, n < 8 → t.laneAt n = 0)

/-- R430 to R432: a confirmed trial slot is good; a good update runs, and its end writes what it brought, the images to the slot that does
not run as a trial of a higher generation; what fails a check changes nothing. -/
def Obligations.FlashUpdates : Prop :=
  ∀ (s : State) (rq : Requester), s.stored →
    (∀ k x, s.mayWrite rq Reg.DEV_BOOT_CTL = true → s.boot.slot = some k → s.boot.slots.get? k = some x → x.state = slotTrial →
      ∃ t, exec (.confirm rq) s = .next t ∧ t.boot.slots.get? k = some { x with state := slotGood } ∧
        t.get Reg.DEV_BOOT_STAT_TRIAL = 0) ∧
    (s.mayWrite rq Reg.DEV_UPD_CTL = true → s.on Reg.DEV_UPD_STAT_BUSY = false → s.rd64 Reg.DEV_UPD_ADDR % 64 = 0 →
      (s.get Reg.DEV_UPD_CTL_KIND = 1 ∨ s.get Reg.DEV_UPD_CTL_KIND = 2) → s.on Reg.DEV_BOOT_STAT_NO_IMAGE = false → s.flashOpen = true →
      ∃ t, exec (.go rq) s = .next t ∧ t.get Reg.DEV_UPD_STAT_BUSY = 1 ∧
        t.boot.update = some ⟨s.get Reg.DEV_UPD_CTL_KIND, 0, s.hostRead (s.rd64 Reg.DEV_UPD_ADDR) (s.get Reg.DEV_UPD_CTL_LEN)⟩) ∧
    (s.mayWrite rq Reg.DEV_UPD_CTL = true → s.on Reg.DEV_UPD_STAT_BUSY = false → s.rd64 Reg.DEV_UPD_ADDR % 64 = 0 →
      s.get Reg.DEV_UPD_CTL_KIND = 0 → s.get Reg.DEV_UPD_CTL_LEN ≤ 6 * 2 ^ 20 →
      (∀ k x, s.boot.slot = some k → s.boot.slots.get? k = some x → x.state ≠ slotTrial) →
      s.flashOpen = true ∨ s.on Reg.DEV_BOOT_STAT_NO_IMAGE = true → ∃ t, exec (.go rq) s = .next t ∧ t.get Reg.DEV_UPD_STAT_BUSY = 1 ∧
        t.boot.update = some ⟨0, s.updateSlot, s.hostRead (s.rd64 Reg.DEV_UPD_ADDR) (s.get Reg.DEV_UPD_CTL_LEN)⟩) ∧
    (s.mayWrite rq Reg.DEV_UPD_CTL = true → s.on Reg.DEV_UPD_STAT_BUSY = false → s.rd64 Reg.DEV_UPD_ADDR % 64 ≠ 0 →
      ∃ t, exec (.go rq) s = .next t ∧ t.boot = { s.boot with update := none } ∧ t.get Reg.DEV_UPD_STAT_DONE = 1 ∧
        t.get Reg.DEV_UPD_STAT_STATUS = St.misaligned) ∧
    (∀ u images, s.boot.update = some u → u.kind = 0 → updateImages u.data = some images →
      (s.slotFail ⟨true, 0, slotTrial, 0xFF, images⟩ = none →
        (∃ t x, exec (.updateDone true true true) s = .next t ∧ t.boot.slots.get? u.slot = some x ∧ x.images = images ∧ x.magicOk = true ∧
          x.state = slotTrial ∧ (∀ k y, s.boot.slot = some k → s.boot.slots.get? k = some y → y.magicOk = true → y.gen < x.gen) ∧
          t.get Reg.DEV_UPD_STAT_STATUS = St.done) ∧
        (∃ t, exec (.updateDone true true false) s = .next t ∧ t.boot.slots.get? u.slot = some Slot.blank ∧
          t.get Reg.DEV_UPD_STAT_STATUS = St.internal)) ∧
      (∀ c st, s.slotFail ⟨true, 0, slotTrial, 0xFF, images⟩ = some (c, st) → ∃ t, exec (.updateDone true true true) s = .next t ∧
        t.boot = { s.boot with update := none } ∧ t.get Reg.DEV_UPD_STAT_STATUS = st % 256)) ∧
    (∀ u, s.boot.update = some u → u.kind = 0 ∧ updateImages u.data = none ∨ u.kind = 1 ∧ (u.data.length ≠ 20 ∨ configOk u.data = false) →
      ∃ t, exec (.updateDone true true true) s = .next t ∧ t.boot = { s.boot with update := none } ∧
        t.get Reg.DEV_UPD_STAT_STATUS = St.range) ∧
    (∀ u, s.boot.update = some u → u.kind = 1 → u.data.length = 20 → configOk u.data = true →
      ∃ t, exec (.updateDone true true true) s = .next t ∧ t.boot = { s.boot with config := u.data, update := none } ∧
        t.get Reg.DEV_UPD_STAT_BUSY = 0 ∧ t.get Reg.DEV_UPD_STAT_DONE = 1 ∧ t.get Reg.DEV_UPD_STAT_STATUS = St.done) ∧
    (∀ u, s.boot.update = some u → u.kind = 2 →
      ∃ t, exec (.updateDone true true true) s = .next t ∧ t.sea = { s.sea with endorsement := fit 132 u.data } ∧
        t.boot.update = none ∧ t.get Reg.DEV_UPD_STAT_BUSY = 0 ∧ t.get Reg.DEV_UPD_STAT_STATUS = St.done) ∧
    (∀ u, s.boot.update = some u → ∃ t, exec (.updateDone false true true) s = .next t ∧ t.boot = { s.boot with update := none } ∧
      t.get Reg.DEV_UPD_STAT_BUSY = 0 ∧ t.get Reg.DEV_UPD_STAT_STATUS = St.busError)

/-- R437 to R439: the boot tile enters service on provisional calibration; each tile that calibrates is ready and fully calibrated, and
the next one follows; a first failure is retried, a second leaves the tile failed; the limit lifts with the refined calibration. -/
def Obligations.TilesCalibrateInTurn : Prop :=
  ∀ s : State, s.stored → s.boot.bootTile < 8 →
    (∀ c, s.boot.cal = some c → c.tile = s.boot.bootTile → s.calAllowed = true →
      ∃ t, exec .reducedService s = .next t ∧ t.boot.provisional = true ∧ t.get Reg.DEV_BOOT_STAT_REDUCED = 1 ∧
        bit (t.get Reg.DEV_BOOT_STAT_TILE_READY) c.tile = true ∧ t.boot.cal = some ⟨(c.tile + 1) % 8, s.now, false⟩) ∧
    (∀ c, s.boot.cal = some c → c.tile < 8 → s.calAllowed = true → ∃ t, exec (.tileCalibrated c.tile true) s = .next t ∧
      bit (t.get Reg.DEV_BOOT_STAT_TILE_READY) c.tile = true ∧ bit (t.get Reg.DEV_BOOT_STAT_TILE_FULL) c.tile = true ∧
      t.boot.cal = if (c.tile + 1) % 8 = s.boot.bootTile then none else some ⟨(c.tile + 1) % 8, s.now, false⟩) ∧
    (∀ c, s.boot.cal = some c → c.retry = false → s.calAllowed = true → exec (.tileCalibrated c.tile false) s = .next
      { s with boot := { s.boot with cal := some { c with retry := true } } }) ∧
    (∀ c, s.boot.cal = some c → c.tile < 8 → c.retry = true → s.calAllowed = true → ∃ t, exec (.tileCalibrated c.tile false) s = .next t ∧
      bit t.boot.failed c.tile = true ∧ t.boot.cal = if (c.tile + 1) % 8 = s.boot.bootTile then none else some ⟨(c.tile + 1) % 8, s.now, false⟩) ∧
    (s.boot.provisional = true → ∃ t, exec .calibrationRefined s = .next t ∧ t.boot.provisional = false ∧
      bit (t.get Reg.DEV_BOOT_STAT_TILE_FULL) s.boot.bootTile = true)

/-- R443 to R447, R450, R463: a request to sleep that nothing refuses is under way; transitions of tiles and of the device end in the
states their commands named. -/
def Obligations.PowerTransitionsEnd : Prop :=
  ∀ s : State, s.stored →
    (∀ h target mask sources timer, s.TakesNow h → pwrStateFail target mask sources timer = none →
      (target = 2 → s.pwr.req = none → s.pwr.exit = none → s.get Reg.PWR_STAT_STATE < 2 → s.sleepRefusal = none →
        exec (.pwrState h target mask sources timer) s = .next
          ({ s with pwr := { s.pwr with req := some ⟨h, target, mask, sources, timer, s.now⟩ } }.setF Reg.PWR_STAT_BUSY)) ∧
      (target ≤ 1 → s.pwr.req = none → s.pwr.exit = none → s.get Reg.PWR_STAT_STATE < 2 →
        exec (.pwrState h target mask sources timer) s = .next (s.startTiles ⟨h, target, mask, sources, timer, s.now⟩)) ∧
      (target = 3 → exec (.pwrState h target mask sources timer) s = .next (s.startDormant ⟨h, target, mask, sources, timer, s.now⟩))) ∧
    (∀ tile j, tile < 8 → s.job tile = some j → j.on = false → s.queued tile = none → s.pwr.queue = none →
      ∃ t, exec (.tileGated tile) s = .next t ∧ t.job tile = none ∧ t.queued tile = none ∧ t.tileState tile = s.tileState tile) ∧
    (∀ tile j, tile < 8 → s.job tile = some j → j.on = true → bit s.boot.failed tile = false → s.queued tile = none → s.pwr.queue = none →
      ∃ t, exec (.tileUngated tile) s = .next t ∧ t.job tile = none ∧ t.tileState tile = 1) ∧
    (s.get Reg.PWR_STAT_STATE = 2 → s.pwr.exit = none →
      exec .wakeNLow s = .next ({ s with pwr := { s.pwr with exit := some (s.now, 1) } }.setF Reg.PWR_STAT_BUSY)) ∧
    (∀ rq, s.mayWrite rq Reg.PWR_WAKE = true → s.get Reg.PWR_STAT_STATE = 2 → s.pwr.exit = none →
      exec (.wake rq) s = .next
        (({ s with pwr := { s.pwr with exit := some (s.now, 2) } }.setF Reg.PWR_STAT_BUSY).setF Reg.PWR_WAKE_WAKE)) ∧
    (∀ q, s.pwr.req = some q → q.target = 2 → q.hdr.ring < 32 → s.pwr.queue = none →
      ∃ t, exec .polderEntryDone s = .next t ∧ t.get Reg.PWR_STAT_STATE = 2 ∧ t.pwr.req = none ∧ t.get Reg.CLK_SYN_STAT_SYNTH_OK = 0) ∧
    (∀ since cause, s.pwr.exit = some (since, cause) → s.pwr.queue = none → ∃ t, exec .polderExit s = .next t ∧ t.pwr.exit = none ∧
      t.get Reg.PWR_STAT_STATE = (if s.get Reg.PWR_STAT_GATED = 0 then 0 else 1) ∧ t.get Reg.PWR_STAT_BUSY = 0 ∧
      t.get Reg.PWR_WAKE_WAKE = 0) ∧
    (∀ q, s.pwr.req = some q → q.target = 3 → q.hdr.ring < 32 → ∃ t, exec .dormantEntryDone s = .next t ∧
      t.pwr.sentinel = ⟨q.sources, q.timer, 0, false, false⟩ ∧ t.pwr.req = none ∧ t.boot.epochHeld = none) ∧
    (∀ source i, (source, i) ∈ [(1, 0), (3, 1), (4, 2)] → s.pwr.sentinel.pwrEn = false → bit s.pwr.sentinel.sources i = true →
      exec (.sentinelWake source) s = .next
        { s with pwr := { s.pwr with sentinel := { s.pwr.sentinel with cause := source, pwrEn := true, woken := true } } })

/-- R449, R453 to R461: the Supervisor's gating, the supply code, the sensors, and the throttle's work; a trip silences the transmitter
and latches; the latch clears only with RSTN low. -/
def Obligations.HeatIsThrottled : Prop :=
  ∀ s : State, s.stored →
    (s.autoActs = true → s.tilesNeeded < ((List.range 8).filter s.powered).length → s.pwr.surplusSince = none →
      exec .autoGating s = .next { s with pwr := { s.pwr with surplusSince := some s.now } }) ∧
    (∀ target, s.get Reg.PWR_STAT_STATE < 2 → s.running = true → s.on Reg.PWR_AVS_AVS_EN = true →
      s.get Reg.PWR_AVS_VID_MIN ≤ target → target ≤ s.get Reg.PWR_AVS_VID_MAX → s.get Reg.PWR_AVS_VID < target →
      s.pwr.avsAt + 100000 ≤ s.now →
      ∃ t, exec (.avsUpdate target) s = .next t ∧
        t.get Reg.PWR_AVS_VID = min target (s.get Reg.PWR_AVS_VID + (s.now - s.pwr.avsAt) / 100000) ∧ t.pwr.avsAt = s.now ∧
        ∀ f : Field, f.apart Reg.PWR_AVS_VID → t.get f = s.get f) ∧
    (∀ temps, s.running = true → ∃ t, exec (.thermalSampling temps) s = .next t ∧ t.pwr.sweepAt = s.now ∧
      ∀ k, k < 40 → t.get (Reg.THM_SENSOR_TEMP k) = ux 16 (temps.getD k 0)) ∧
    (∀ since, s.pwr.belowSince = some since → 1 ≤ s.get Reg.THM_STAT_LEVEL → s.get Reg.THM_STAT_LEVEL ≤ 3 → since + 1000000000 ≤ s.now →
      exec .throttleLower s = .next ((s.setLevel (s.get Reg.THM_STAT_LEVEL - 1)).throttle)) ∧
    (s.get Reg.THM_STAT_LEVEL = 3 → s.pwr.gatedAt + 100000000 ≤ s.now →
      ∃ t, exec .t3Gating s = .next t ∧ t.pwr.gatedAt = s.now ∧
        ∀ n, s.hottest ((List.range 8).filter s.powered) = some n → bit t.pwr.t3Mask n = true) ∧
    (s.beam.blanked ≠ [] → s.atT2 = false → s.atSlot = true →
      Answers (exec .t2Restore s) { s with beam := { s.beam with blanked := [] } }.refreshPlan) ∧
    (∀ since n, s.pwr.coolSince = some since → since + 10000000000 ≤ s.now → (∀ n ∈ maskList s.pwr.t3Mask 8, s.job n = none) →
      (maskList s.pwr.t3Mask 8).find? s.canStart = some n → exec .t3Release s = .next (s.ungateTile n 2 [])) ∧
    (∀ mask, s.trip = false → ∃ t, exec (.thermalTrip mask) s = .next t ∧ t.get Reg.THM_STAT_LEVEL = 4 ∧
      t.get Reg.THM_STAT_TRIP_LATCHED = 1 ∧ t.pwr.tripped = true ∧ t.tx.quiet = true ∧ t.boot.cal = none) ∧
    (s.boot.rstnHigh = false → ∃ t, exec .tripLatchClear s = .next t ∧ t.get Reg.THM_STAT_TRIP_LATCHED = 0 ∧
      t.get Reg.THM_STAT_LEVEL = 0 ∧ t.pwr = { s.pwr with cool := true, tripped := false })

/-! ## The housekeeping converter, captures and faults -/

/-- R471 to R474, R482: triggers of the converter begin a pass, or are held, or are counted as ignored; timers, frame events, the sweep
and the supply check queue what they name. -/
def Obligations.ConverterTriggers : Prop :=
  ∀ s : State, s.stored →
    (∀ h, s.TakesNow h → s.on Reg.HKA_CFG_EN = true → s.hka.held = none →
      (s.hka.inj ≠ none → exec (.hkaInject h) s = .next ({ s with hka := { s.hka with held := some (some h) } }.setF Reg.HKA_STAT_INJ_HELD)) ∧
      (s.hka.inj = none → s.hka.conv = none → exec (.hkaInject h) s = .next ((s.beginPass 2 (some h)).hkaNext s.now))) ∧
    (∀ rq, s.mayWrite rq Reg.HKA_CFG = true → s.on Reg.HKA_CFG_EN = true →
      (s.hka.reg = none → exec (.start rq) s = .next (((s.hkaAdvance).beginPass 3 none).hkaNext s.now)) ∧
      (s.hka.reg ≠ none → exec (.start rq) s = .next ({ s with hka := { s.hka with ignored := s.hka.ignored + 1 } }.setF Reg.HKA_STAT_REG_OVR))) ∧
    (∀ seq due, seq < 2 → s.hka.timers.get? seq = some due → s.hkaSource seq = 1 → due ≤ s.now →
      exec (.hkaTimerTrigger seq) s = .next ({ s with hka := { s.hka with
        timers := s.hka.timers.set seq (due + 1000 * s.get (Reg.HKA_TRIG_PERIOD seq)) } }.hkaTrigger seq)) ∧
    (∀ seq due rest, s.hka.delays = (seq, due) :: rest → due ≤ s.now → s.hkaSource seq = 2 →
      exec (.hkaEventTrigger seq) s = .next ({ s with hka := { s.hka with delays := rest } }.hkaTrigger seq)) ∧
    (s.get Reg.HKA_CFG_SWEEP ≠ 0 → s.hka.sweepAt + s.get Reg.HKA_CFG_SWEEP * 1000000000 ≤ s.now →
      exec .biasSweep s = .next { s with hka := { s.hka with
        sweepAt := s.now,
        sys := (s.hka.sys.filter fun (e : Nat × Nat) => decide (e.1 < 0x80)) ++ (List.range 128).map fun b => (0x80 + b, s.now) } }.hkaAdvance) ∧
    (s.running = true → s.boot.railsOut ≠ 0 →
      exec .supplyCheck s = .next { s with hka := { s.hka with
        sys := (s.hka.sys.filter fun (e : Nat × Nat) => decide (e.1 ≥ 0x80)) ++ (List.range 10).map fun i => (0x40 + i, s.now) } }.hkaAdvance)

/-- R468, R477 to R479, R81: a conversion that ends gives its result, or its bias read-back, and the converter goes on; edges of the mains
give intervals, and 50 ms without one end the tracking. -/
def Obligations.ConversionsAndMains : Prop :=
  ∀ s : State, s.stored →
    (∀ c p nv, s.hkaAdvance.hka.conv = some c → c.cls ≠ 1 → c.stop ≤ s.hkaAdvance.now → s.hkaAdvance.hkaPass c.cls = some p →
      let u := s.hkaAdvance
      exec (.conversionDone nv) s = .next
        (({ u with hka := { u.hka with conv := none, resetUntil := c.stop } }.takeCode c p nv).hkaNext 0)) ∧
    (∀ c nv, s.hkaAdvance.hka.conv = some c → c.cls = 1 → c.chan < 0x80 → c.stop ≤ s.hkaAdvance.now →
      ∃ t, exec (.conversionDone nv) s = .next t ∧ t.suspect 1 = (hkaOver (hkaExact c.chan nv) != 0)) ∧
    (∀ c nv, s.hkaAdvance.hka.conv = some c → c.cls = 1 → 0x80 ≤ c.chan → c.stop ≤ s.hkaAdvance.now →
      let u := s.hkaAdvance
      exec (.biasReadback nv) s = .next
        (({ u with hka := { u.hka with conv := none, resetUntil := c.stop } }.readBack ((c.chan - 0x80) / 16) ((c.chan - 0x80) % 16)
          nv).hkaNext 0)) ∧
    (s.get Reg.HKA_CFG_MAINS_MODE = 0 → s.running = true →
      (s.hka.edge = none → exec .mainsEdge s = .next { s with hka := { s.hka with edge := some s.now } }) ∧
      (∀ last, s.hka.edge = some last → 153850 ≤ (s.now - last + 50) / 100 → (s.now - last + 50) / 100 ≤ 222220 →
        ∃ t, exec .mainsEdge s = .next t ∧ t.hka.edge = some s.now ∧
          t.hka.intervals = (((s.now - last + 50) / 100) :: s.hka.intervals).take 8) ∧
      (∀ last, s.hka.edge = some last → (s.now - last + 50) / 100 < 153850 ∨ 222220 < (s.now - last + 50) / 100 →
        ∃ t, exec .mainsEdge s = .next t ∧ t.hka.edge = some s.now ∧ t.hka.intervals = [] ∧ t.on Reg.HKA_MAINS_LOCKED = false)) ∧
    (∀ last, s.hka.edge = some last → s.get Reg.HKA_CFG_MAINS_MODE = 0 → last + 50000000 ≤ s.now → s.on Reg.HKA_MAINS_LOCKED = true →
      ∃ t, exec .mainsLoss s = .next t ∧ t.hka.edge = none ∧ t.hka.intervals = [] ∧ t.on Reg.HKA_MAINS_LOCKED = false ∧
        t.on Reg.HKA_MAINS_LOST = true)

/-- R486 to R495, R498: the captures: configured, armed into PRE, triggered into POST, written, drained, armed again, and stopped. -/
def Obligations.CapturesRunTheirStates : Prop :=
  ∀ s : State, s.stored →
    (∀ h c, s.TakesNow h → gauStreamFail s c = none → Answers (exec (.gauStream h c) s)
      ({ s with gau := { s.gau with streams := s.gau.streams.set c.stream ⟨c, 0, s.now⟩ } }.put (Reg.GAU_S_STAT_SEGMENT c.stream) 0)) ∧
    (∀ h c, s.TakesNow h → gauArmFail s c = none → ∃ t, exec (.gauArm h c) s = .next t ∧
      (∃ cap, t.gau.caps.get? c.source = some cap ∧ cap.hdr = h ∧ cap.cfg = c ∧ cap.armedAt = s.now ∧ cap.triggered = false) ∧
      ∀ k ∈ maskList c.mask 8, t.gauState k = 1) ∧
    (∀ h mask k c, s.TakesNow h → 0 < mask → mask < 256 → s.gau.caps = [(k, c)] → c.cfg.mask &&& mask ≠ 0 → s.gauState k = 1 →
      c.hdr.ring < 32 → ∃ t, exec (.gauStop h mask) s = .next t ∧ t.gau.caps = [] ∧ t.get Reg.GAU_STAT_CUT_EVT = 1) ∧
    (∀ h mask, s.TakesNow h → 0 < mask → mask < 256 → ((maskList mask 8).any fun k => s.gauState k != 0) = true →
      Answers (exec (.gauForce h mask) s) (s.each (maskList mask 8) fun s k => s.gauMeet k 6 s.now)) ∧
    (∀ h addr, s.TakesNow h → addr % 8 = 0 → s.hostUp = true →
      Answers (exec (.gauMask h addr) s) { s with gau := { s.gau with mask := some (s.hostRead addr 128) } }) ∧
    (∀ rising, s.on Reg.GAU_PIN_EN = true → s.get Reg.GAU_PIN_EDGE = (if rising then 0 else 1) →
      exec (.gaugeTrigEdge rising) s = .next ({ s with pkg := { s.pkg with gaugeTrig := rising } }.each (s.gau.caps.map Prod.fst)
        fun u k => u.gauMeet k 1 (u.now - u.get Reg.GAU_PIN_PIN_DLY / 10))) ∧
    (∀ source c g conds, s.gau.caps.get? source = some c → s.gauStream source = some g → s.gauState source = 1 → c.cfg.reqFull = false →
      s.metNow c conds ≠ 0 → ∃ t, exec (.gaugeTrigger source conds) s = .next t ∧ (∀ j ∈ capStreams c, j < 8 → t.gauState j = 2) ∧
        t.gau.caps.get? source = some { c with
          cfg := { c.cfg with cond := if bit (s.metNow c conds) 2 then putBit c.cfg.cond 2 false else c.cfg.cond },
          pend := 0, triggered := true, trigMap := s.metNow c conds, trigAt := if c.pend = 0 then s.now else c.trigAt }) ∧
    (∀ source c g, s.gau.caps.get? source = some c → s.gauStream source = some g → c.cfg.auto = true → c.cfg.reqFull = false →
      s.gauState source = 1 → c.armedAt + c.cfg.autoUs * 1000 ≤ s.now → exec (.autoTrigger source) s = .next (s.gauMeet source 7 s.now)) ∧
    (∀ source c data, s.gau.caps.get? source = some c → s.gauState source = 2 → s.filled c = true → c.cfg.drain = true →
      exec (.gaugeRecord source data) s = .next (s.each (capStreams c) fun u j => u.writeRecord source j data)) ∧
    (∀ source c g r, s.gau.caps.get? source = some c → s.gauState source = 3 → s.hostUp = true → c.records = [r] → s.gauStream r.1 = some g →
      exec (.gaugeDrained source) s = .next
        ((s.hostWrite (c.cfg.dest + r.1 * c.cfg.stride + g.seg * g.cfg.pages * 4096) r.2.2.2).afterRecords source)) ∧
    (∀ source c, s.gau.caps.get? source = some c → s.gauState source = 4 → ∃ t, exec (.gaugeRearm source) s = .next t ∧
      t.gau.caps.get? source = some { c with
        pend := 0, trigMap := 0, triggered := false, cut := false, trip := false, armedAt := s.now, records := [] } ∧
      ∀ j ∈ capStreams c, j < 8 → t.gauState j = 1)

/-- R507 to R511: a fatal error quiets the device and begins a dump; a dump that has a place is finished there; a test leaves the device
running; the region, the fetch and the erased slot are as their commands name them. -/
def Obligations.FatalErrorsAreDumped : Prop :=
  ∀ s : State, s.stored →
    (∀ cause engine, 1 ≤ cause → cause ≤ 6 → s.running = true → s.flt.dump = none →
      exec (.fatalError cause engine) s = .next
        (let u := s.quietDevice
         { u with flt := { u.flt with dump := some ⟨cause, engine, s.now, none, s.flt.region, s.dumpUnsigned cause engine, 0⟩ } })) ∧
    (∀ h, s.TakesNow h → s.flt.region ≠ none → s.flt.dump = none → exec (.fltDumpTest h) s = .next
      { s with flt := { s.flt with dump := some ⟨7, 0xFF, s.now, some h, s.flt.region, s.dumpUnsigned 7 0xFF, 0⟩ } }) ∧
    (∀ d flash, s.flt.dump = some d → s.dumpDest d = some flash → exec .dumpWritten s = .next (s.finishDump d flash)) ∧
    (∀ d, s.flt.dump = some d → s.dumpDest d = none → d.detected + (d.retries + 1) * 100000000 ≤ s.now → d.retries + 1 < 600 →
      exec .dumpRetry s = .next { s with flt := { s.flt with dump := some { d with retries := d.retries + 1 } } }) ∧
    (∀ slot, slot < 2 → s.flashOpen = true → s.on Reg.FLT_DUMP_STAT_FLASH_PENDING = false → (s.dumpSlot (1 - slot)).erased = false →
      exec (.dumpSlotErase slot) s = .next { s with flt := { s.flt with dumpSlots := s.flt.dumpSlots.set slot ⟨true, [], 0⟩ } }) ∧
    (∀ h fullMem addr len, s.TakesNow h → addr % 4096 = 0 → (if fullMem then 4194304 else 262144) ≤ len →
      Answers (exec (.fltDumpRegion h fullMem false addr len) s)
        ({ s with flt := { s.flt with region := some (addr, len, fullMem) } }.put Reg.FLT_STAT_REGION_OK 1)) ∧
    (∀ h fullMem addr len, s.TakesNow h → Answers (exec (.fltDumpRegion h fullMem true addr len) s)
      ({ s with flt := { s.flt with region := none } }.put Reg.FLT_STAT_REGION_OK 0)) ∧
    (∀ h addr, s.TakesNow h → addr % 64 = 0 → s.on Reg.FLT_DUMP_STAT_FLASH_PENDING = true → s.hostUp = true →
      Answers (exec (.fltDumpFetch h false addr) s)
        ((s.hostWrite addr (s.dumpSlot s.newestDump).data).put Reg.FLT_DUMP_STAT_FLASH_PENDING 0))

/-- R501, R503, R504, R506: telemetry, the log, the tests of removed paths and the scrubber. -/
def Obligations.HealthIsReported : Prop :=
  ∀ s : State, s.stored →
    (∀ h k b addr, s.TakesNow h → 4 ≤ k → k ≤ 16 → b < 256 → addr % 128 = 0 → Answers (exec (.telSetup h k b addr) s)
      ({ s with flt := { s.flt with telemetry := some ⟨k, if b = 0 then 256 else b, addr, 0, s.now, s.transients,
          s.rd64 (Reg.FLT_TRANS 7), s.rd64 Reg.DEV_TICK_OVR, 0xFFFF⟩ } }.put Reg.FLT_STAT_TEL_ON 1)) ∧
    (∀ h b addr, s.TakesNow h → Answers (exec (.telSetup h 0 b addr) s)
      ({ s with flt := { s.flt with telemetry := none } }.put Reg.FLT_STAT_TEL_ON 0)) ∧
    (∀ tl (o : TelemetryObs), s.flt.telemetry = some tl → o.busOk = true → tl.lastAt + 10000000 ≤ s.now → s.now ≤ tl.lastAt + 15000000 →
      s.hostUp = true → s.get Reg.PWR_STAT_STATE < 2 →
      let u := s.hostWrite (tl.addr + 128 * (tl.seq % 2 ^ tl.k)) (s.telemetryBytes tl o)
      Answers (exec (.telemetryRecord o) s) { u with flt := { u.flt with telemetry := some { tl with
        seq := (tl.seq + 1) % 2 ^ 32, lastAt := s.now, baseTrans := s.transients, baseCorr := s.rd64 (Reg.FLT_TRANS 7),
        baseOvr := s.rd64 Reg.DEV_TICK_OVR, margin := 0xFFFF } } }) ∧
    (∀ h count addr, s.TakesNow h → 1 ≤ count → count ≤ 65536 → addr % 32 = 0 → s.hostUp = true →
      Answers (exec (.logRead h count addr) s) (s.hostWrite addr ((s.newest count).reverse.flatMap EventRec.logBytes))) ∧
    (∀ h path, s.TakesNow h → path < 64 → s.removed path = true → s.tileState (path / 8) = 0 → bit s.flt.heldPaths path = false →
      exec (.pathRestore h (2 ^ path)) s = .next { s with flt := { s.flt with testing := s.flt.testing ++ [(h, 2 ^ path, 0)] } }) ∧
    (∀ h path, path < 64 → s.flt.testing = [(h, 2 ^ path, 0)] → h.ring < 32 →
      ∃ t, exec (.pathTestDone path true) s = .next t ∧ t.flt.testing = [] ∧ bit t.flt.restored path = true) ∧
    (∀ addr, s.get Reg.PWR_STAT_STATE < 2 → s.running = true →
      exec (.scrubRead .clean false) s = .next { s with flt := { s.flt with scrubPtr := (s.flt.scrubPtr + 8) % 0x4000000 } } ∧
      ∃ t, exec (.scrubRead (.corrected addr) false) s = .next t ∧ t.flt.scrubPtr = (s.flt.scrubPtr + 8) % 0x4000000 ∧
        t.rd64 (Reg.FLT_TRANS 7) = (s.rd64 (Reg.FLT_TRANS 7) + 1) % 2 ^ 64)
end

