-- ==== Sys2Proof/Laws/Bits.lean ====
section
/-! SUPPORT. Bit fields: reading back what was put, and what a put leaves alone; lists of bytes. -/
namespace Sys2Proof.Machine

/-- A number is its part above a field, the field, and its part below. -/
theorem bits_split (n l w : Nat) : n = n / 2 ^ (l + w) * 2 ^ (l + w) + bits n l w * 2 ^ l + n % 2 ^ l := by
  have h1 := Nat.div_add_mod n (2 ^ l)
  have h2 := Nat.div_add_mod (n / 2 ^ l) (2 ^ w)
  rw [Nat.div_div_eq_div_mul, ← pow_add] at h2
  unfold bits
  rw [pow_add] at *
  calc n = 2 ^ l * (n / 2 ^ l) + n % 2 ^ l := h1.symm
    _ = 2 ^ l * (2 ^ w * (n / (2 ^ l * 2 ^ w)) + n / 2 ^ l % 2 ^ w) + n % 2 ^ l := by rw [h2]
    _ = _ := by ring

/-- The three parts of a number with one field replaced. -/
theorem putBits_eq (n l w v : Nat) :
    putBits n l w v = n / 2 ^ (l + w) * 2 ^ (l + w) + v % 2 ^ w * 2 ^ l + n % 2 ^ l := by
  have h := bits_split n l w
  unfold putBits
  omega

/-- A field reads back what was put, modulo its width. -/
@[simp] theorem bits_putBits (n l w v : Nat) : bits (putBits n l w v) l w = v % 2 ^ w := by
  rw [putBits_eq]
  unfold bits
  have h : n / 2 ^ (l + w) * 2 ^ (l + w) + v % 2 ^ w * 2 ^ l + n % 2 ^ l
      = (n / 2 ^ (l + w) * 2 ^ w + v % 2 ^ w) * 2 ^ l + n % 2 ^ l := by rw [pow_add]; ring
  rw [h, Nat.add_comm, Nat.add_mul_div_right _ _ (by positivity), Nat.div_eq_of_lt (Nat.mod_lt _ (by positivity)), Nat.zero_add,
    Nat.add_comm, Nat.add_mul_mod_self_right, Nat.mod_mod]

/-- A field above the one that is put keeps its value. -/
theorem bits_putBits_above (n l w v : Nat) {l' : Nat} (w' : Nat) (h : l + w ≤ l') : bits (putBits n l w v) l' w' = bits n l' w' := by
  have key : putBits n l w v / 2 ^ (l + w) = n / 2 ^ (l + w) := by
    rw [putBits_eq, Nat.add_assoc, Nat.add_comm, Nat.add_mul_div_right _ _ (by positivity)]
    have h1 : v % 2 ^ w < 2 ^ w := Nat.mod_lt _ (by positivity)
    have h2 : n % 2 ^ l < 2 ^ l := Nat.mod_lt _ (by positivity)
    rw [Nat.div_eq_of_lt, Nat.zero_add]
    rw [pow_add]
    nlinarith [Nat.one_le_two_pow (n := l)]
  unfold bits
  obtain ⟨d, rfl⟩ := Nat.exists_eq_add_of_le h
  rw [pow_add 2 (l + w) d, ← Nat.div_div_eq_div_mul, ← Nat.div_div_eq_div_mul, key]

/-- A field below the one that is put keeps its value. -/
theorem bits_putBits_below (n l w v : Nat) {l' w' : Nat} (h : l' + w' ≤ l) : bits (putBits n l w v) l' w' = bits n l' w' := by
  obtain ⟨d, rfl⟩ := Nat.exists_eq_add_of_le h
  have key : ∀ m, bits m l' w' = bits (m % 2 ^ (l' + w' + d)) l' w' := by
    intro m
    unfold bits
    have := Nat.div_add_mod m (2 ^ (l' + w' + d))
    conv_lhs => rw [← this]
    rw [show 2 ^ (l' + w' + d) * (m / 2 ^ (l' + w' + d)) + m % 2 ^ (l' + w' + d)
      = (2 ^ w' * (2 ^ d * (m / 2 ^ (l' + w' + d)))) * 2 ^ l' + m % 2 ^ (l' + w' + d) by rw [pow_add, pow_add]; ring]
    rw [Nat.add_comm, Nat.add_mul_div_right _ _ (by positivity), Nat.add_comm, Nat.mul_add_mod]
  rw [key (putBits _ _ _ _), key n, putBits_eq]
  congr 1
  rw [pow_add 2 (l' + w' + d) w]
  rw [show n / (2 ^ (l' + w' + d) * 2 ^ w) * (2 ^ (l' + w' + d) * 2 ^ w) + v % 2 ^ w * 2 ^ (l' + w' + d) + n % 2 ^ (l' + w' + d)
    = (n / (2 ^ (l' + w' + d) * 2 ^ w) * 2 ^ w + v % 2 ^ w) * 2 ^ (l' + w' + d) + n % 2 ^ (l' + w' + d) by ring]
  rw [Nat.add_comm, Nat.add_mul_mod_self_right, Nat.mod_mod]

/-- A number of 32 bits stays one when a field inside it is replaced. -/
theorem putBits_lt (n l w v : Nat) (hn : n < 2 ^ 32) (h : l + w ≤ 32) : putBits n l w v < 2 ^ 32 := by
  obtain ⟨d, hd⟩ := Nat.exists_eq_add_of_le h
  rw [putBits_eq, hd, pow_add 2 (l + w) d]
  rw [hd, pow_add] at hn
  have h0 : n / 2 ^ (l + w) < 2 ^ d := Nat.div_lt_of_lt_mul hn
  have h1 : v % 2 ^ w < 2 ^ w := Nat.mod_lt _ (by positivity)
  have h2 : n % 2 ^ l < 2 ^ l := Nat.mod_lt _ (by positivity)
  have h3 : v % 2 ^ w * 2 ^ l + n % 2 ^ l < 2 ^ (l + w) := by 
    have h5 : (v % 2 ^ w + 1) * 2 ^ l ≤ 2 ^ w * 2 ^ l := Nat.mul_le_mul_right _ h1
    rw [pow_add]; nlinarith
  have h4 : (n / 2 ^ (l + w) + 1) * 2 ^ (l + w) ≤ 2 ^ d * 2 ^ (l + w) := Nat.mul_le_mul_right _ h0
  nlinarith

@[simp] theorem bytesLE_length (n x : Nat) : (bytesLE n x).length = n := by
  induction n generalizing x with
  | zero => rfl
  | succ n ih => simp [bytesLE, ih]

@[simp] theorem natLE_bytesLE (n x : Nat) : natLE (bytesLE n x) = x % 256 ^ n := by
  induction n generalizing x with
  | zero => simp [bytesLE, natLE, Nat.mod_one]
  | succ n ih => rw [bytesLE, natLE, ih, pow_succ', Nat.mod_mul]

@[simp] theorem fit_length (n : Nat) (l : List Nat) : (fit n l).length = n := by simp [fit]

end Sys2Proof.Machine
end

