-- ==== Sys2Proof/Laws/Store.lean ====
section
/-! SUPPORT. The laws of the sparse stores and of the tables: a read after a write, and that every write keeps the canonical form. -/
namespace Sys2Proof.Machine

variable {w : Nat}

theorem Sparse.read_insert (m : Sparse w) (a b : Nat) (x : BitVec w) :
    (m.insert a x).read b = if b = a then x else m.read b := by
  induction m with
  | nil => simp [Sparse.insert, Sparse.read]
  | cons e t ih =>
    obtain ⟨k, v⟩ := e
    simp only [Sparse.insert]
    split_ifs <;> simp only [Sparse.read] <;> split_ifs <;> simp_all

theorem Sparse.wfFrom_mono {m : Sparse w} {b c : Nat} (h : c ≤ b) (hm : m.wfFrom b = true) : m.wfFrom c = true := by
  cases m with
  | nil => rfl
  | cons e t =>
    obtain ⟨k, v⟩ := e
    simp only [Sparse.wfFrom, Bool.and_eq_true, decide_eq_true_eq] at hm ⊢
    exact ⟨⟨by omega, hm.1.2⟩, hm.2⟩

/-- A store whose addresses start above an address reads as zero there. -/
theorem Sparse.read_below {m : Sparse w} {a b : Nat} (h : a < b) (hm : m.wfFrom b = true) : m.read a = 0 := by
  induction m generalizing b with
  | nil => rfl
  | cons e t ih =>
    obtain ⟨k, v⟩ := e
    simp only [Sparse.wfFrom, Bool.and_eq_true, decide_eq_true_eq] at hm
    simp only [Sparse.read]
    rw [if_neg (by omega)]
    exact ih (b := k + 1) (by omega) hm.2

theorem Sparse.read_erase {m : Sparse w} {c : Nat} (hm : m.wfFrom c = true) (a b : Nat) :
    (m.erase a).read b = if b = a then 0 else m.read b := by
  induction m generalizing c with
  | nil => simp [Sparse.erase, Sparse.read]
  | cons e t ih =>
    obtain ⟨k, v⟩ := e
    simp only [Sparse.wfFrom, Bool.and_eq_true, decide_eq_true_eq] at hm
    simp only [Sparse.erase]
    split_ifs with h1 h2 h3 h4 h5
    · subst h2; subst h1; exact Sparse.read_below (Nat.lt_succ_self _) hm.2
    · subst h1; simp [Sparse.read, h2]
    · subst h4; simp only [Sparse.read]; rw [if_neg h1]
      exact Sparse.read_below (b := k + 1) (by omega) hm.2
    · rfl
    · subst h5; simp only [Sparse.read]; rw [if_neg h1, ih hm.2]; simp
    · simp only [Sparse.read]; rw [ih hm.2]; split_ifs <;> simp_all

/-- A read after a write gives the word written at its address and is unchanged elsewhere. -/
theorem Sparse.read_write {m : Sparse w} (hm : m.wf = true) (a b : Nat) (x : BitVec w) :
    (m.write a x).read b = if b = a then x else m.read b := by
  simp only [Sparse.write]
  split_ifs with h h1 <;> simp_all [Sparse.read_insert, Sparse.read_erase hm]

theorem Sparse.erase_wf {m : Sparse w} {b : Nat} (a : Nat) (hm : m.wfFrom b = true) : (m.erase a).wfFrom b = true := by
  induction m generalizing b with
  | nil => rfl
  | cons e t ih =>
    obtain ⟨k, v⟩ := e
    have hm' := hm
    simp only [Sparse.wfFrom, Bool.and_eq_true, decide_eq_true_eq] at hm
    simp only [Sparse.erase]
    split_ifs
    · exact Sparse.wfFrom_mono (by omega) hm.2
    · exact hm'
    · simp only [Sparse.wfFrom, Bool.and_eq_true, decide_eq_true_eq]; exact ⟨hm.1, ih hm.2⟩

theorem Sparse.insert_wf {m : Sparse w} {b a : Nat} {x : BitVec w} (hx : x ≠ 0) (ha : b ≤ a) (hm : m.wfFrom b = true) :
    (m.insert a x).wfFrom b = true := by
  induction m generalizing b with
  | nil => simpa [Sparse.insert, Sparse.wfFrom, ha] using hx
  | cons e t ih =>
    obtain ⟨k, v⟩ := e
    simp only [Sparse.wfFrom, Bool.and_eq_true, decide_eq_true_eq] at hm
    simp only [Sparse.insert]
    split_ifs with h1 h2
    · subst h1; simp only [Sparse.wfFrom, Bool.and_eq_true, decide_eq_true_eq]; exact ⟨⟨ha, hx⟩, hm.2⟩
    · simp only [Sparse.wfFrom, Bool.and_eq_true, decide_eq_true_eq]; exact ⟨⟨ha, hx⟩, ⟨by omega, hm.1.2⟩, hm.2⟩
    · simp only [Sparse.wfFrom, Bool.and_eq_true, decide_eq_true_eq]; exact ⟨hm.1, ih (by omega) hm.2⟩

/-- A write keeps the canonical form. -/
theorem Sparse.write_wf {m : Sparse w} (a : Nat) (x : BitVec w) (hm : m.wf = true) : (m.write a x).wf = true := by
  simp only [Sparse.write, Sparse.wf] at *
  split_ifs with h
  · exact Sparse.erase_wf a hm
  · exact Sparse.insert_wf h (Nat.zero_le _) hm

theorem Memory.writeBytes_wf (l : List Nat) {m : Memory} (a : Nat) (hm : Sparse.wf m = true) :
    Sparse.wf (Memory.writeBytes m a l) = true := by
  induction l generalizing m a with
  | nil => exact hm
  | cons b t ih => exact ih (a + 1) (Sparse.write_wf _ _ hm)

theorem Memory.writeLE_wf (n : Nat) {m : Memory} (a x : Nat) (hm : Sparse.wf m = true) :
    Sparse.wf (Memory.writeLE m a n x) = true := by
  induction n generalizing m a x with
  | zero => exact hm
  | succ n ih => exact ih (a + 1) (x / 256) (Sparse.write_wf _ _ hm)

/-- Bytes outside a block written read as before. -/
theorem Memory.read_writeBytes_outside (l : List Nat) {m : Memory} (a b : Nat) (hm : Sparse.wf m = true)
    (h : b < a ∨ a + l.length ≤ b) : Sparse.read (Memory.writeBytes m a l) b = Sparse.read m b := by
  induction l generalizing m a with
  | nil => rfl
  | cons x t ih =>
    simp only [Memory.writeBytes]
    rw [ih (a + 1) (Sparse.write_wf _ _ hm) (by simp at h; omega), Sparse.read_write hm, if_neg (by simp at h; omega)]

/-- Byte i of a block written. -/
theorem Memory.read_writeBytes (l : List Nat) {m : Memory} (a i : Nat) (hm : Sparse.wf m = true) (h : i < l.length) :
    Sparse.read (Memory.writeBytes m a l) (a + i) = BitVec.ofNat 8 (l.getD i 0) := by
  induction l generalizing m a i with
  | nil => simp at h
  | cons x t ih =>
    simp only [Memory.writeBytes]
    cases i with
    | zero =>
      rw [Memory.read_writeBytes_outside t (a + 1) (a + 0) (Sparse.write_wf _ _ hm) (by omega), Sparse.read_write hm]
      simp
    | succ i =>
      have h' : i < t.length := by simpa using h
      have := ih (m := m.write a (BitVec.ofNat 8 x)) (a + 1) i (Sparse.write_wf _ _ hm) h'
      rw [show a + (i + 1) = a + 1 + i by omega, this]
      simp

/-- A record put into a table is found under its number, and no other record changes. -/
@[simp] theorem Tab.get?_set {α : Type} (t : Tab α) (a b : Nat) (x : α) :
    (t.set a x).get? b = if b = a then some x else t.get? b := by
  induction t with
  | nil => simp [Tab.set, Tab.get?]
  | cons e t ih =>
    obtain ⟨k, v⟩ := e
    simp only [Tab.set]
    split_ifs <;> simp only [Tab.get?] <;> split_ifs <;> simp_all

theorem Tab.get?_del_other {α : Type} (t : Tab α) {a b : Nat} (h : b ≠ a) : (t.del a).get? b = t.get? b := by
  induction t with
  | nil => rfl
  | cons e t ih =>
    obtain ⟨k, v⟩ := e
    simp only [Tab.del] at *
    by_cases hk : k = a
    · subst hk; simp [Tab.get?, h, ih]
    · simp only [List.filter_cons, bne_iff_ne, ne_eq, hk, not_false_eq_true, if_true, Tab.get?]
      simp [ih]

@[simp] theorem Tab.get?_del {α : Type} (t : Tab α) (a : Nat) : (t.del a).get? a = none := by
  induction t with
  | nil => rfl
  | cons e t ih =>
    obtain ⟨k, v⟩ := e
    simp only [Tab.del] at *
    by_cases hk : k = a
    · subst hk; simp [ih]
    · simp only [List.filter_cons, bne_iff_ne, ne_eq, hk, not_false_eq_true, if_true, Tab.get?]
      rw [if_neg (by omega), ih]

end Sys2Proof.Machine
end

