-- ==== Sys2Proof/Laws/Registers.lean ====
section
/-! SUPPORT. Reading registers and fields after a write. -/
namespace Sys2Proof.Machine
open Sys2Proof

theorem State.rd_lt (s : State) (off : Nat) : s.rd off < 2 ^ 32 := (s.regs.read off).isLt

theorem State.rd_wr {s : State} (h : s.stored) (off v a : Nat) : (s.wr off v).rd a = if a = off then v % 2 ^ 32 else s.rd a := by
  unfold State.rd State.wr
  rw [Sparse.read_write h.1]
  split <;> simp

@[simp] theorem State.wr_stored {s : State} (off v : Nat) (h : s.stored) : (s.wr off v).stored :=
  ⟨Sparse.write_wf _ _ h.1, h.2⟩

@[simp] theorem State.put_stored {s : State} (f : Field) (v : Nat) (h : s.stored) : (s.put f v).stored := State.wr_stored _ _ h

@[simp] theorem State.setF_stored {s : State} (f : Field) (h : s.stored) : (s.setF f).stored := State.put_stored _ _ h

@[simp] theorem State.wr64_stored {s : State} (off v : Nat) (h : s.stored) : (s.wr64 off v).stored :=
  State.wr_stored _ _ (State.wr_stored _ _ h)

@[simp] theorem State.add64_stored {s : State} (off v : Nat) (h : s.stored) : (s.add64 off v).stored := State.wr64_stored _ _ h

@[simp] theorem State.satAdd_stored {s : State} (f : Field) (v : Nat) (h : s.stored) : (s.satAdd f v).stored := State.put_stored _ _ h

@[simp] theorem State.hostWrite_stored {s : State} (a : Nat) (l : List Nat) (h : s.stored) : (s.hostWrite a l).stored :=
  ⟨h.1, Memory.writeBytes_wf _ _ h.2.1, h.2.2⟩

@[simp] theorem State.devWrite_stored {s : State} (a : Nat) (l : List Nat) (h : s.stored) : (s.devWrite a l).stored :=
  ⟨h.1, h.2.1, Memory.writeBytes_wf _ _ h.2.2⟩

/-- A register other than the field's keeps its word. -/
theorem State.rd_put_other {s : State} (h : s.stored) (f : Field) (v : Nat) {a : Nat} (ha : a ≠ f.reg) : (s.put f v).rd a = s.rd a := by
  unfold State.put
  rw [State.rd_wr h, if_neg ha]

/-- A field reads what was put, modulo its width. -/
theorem State.get_put {s : State} (h : s.stored) (f : Field) (v : Nat) (hf : f.ok) : (s.put f v).get f = v % 2 ^ f.width := by
  unfold State.get State.put
  rw [State.rd_wr h, if_pos rfl, Nat.mod_eq_of_lt (putBits_lt _ _ _ _ (s.rd_lt _) hf), bits_putBits]

/-- A field that shares no bit with the one put keeps its value. -/
theorem State.get_put_other {s : State} (h : s.stored) (f g : Field) (v : Nat) (hf : f.ok) (hg : f.apart g) :
    (s.put f v).get g = s.get g := by
  unfold State.get State.put
  rw [State.rd_wr h]
  split
  · rename_i e
    rw [Nat.mod_eq_of_lt (putBits_lt _ _ _ _ (s.rd_lt _) hf), e]
    rcases hg with h1 | h1 | h1
    · exact absurd e.symm h1
    · exact bits_putBits_above _ _ _ _ _ h1
    · exact bits_putBits_below _ _ _ _ h1
  · rfl

theorem State.get_wr_other {s : State} (h : s.stored) (off v : Nat) (g : Field) (hg : g.reg ≠ off) : (s.wr off v).get g = s.get g := by
  unfold State.get
  rw [State.rd_wr h, if_neg hg]

theorem State.rd_wr64_other {s : State} (h : s.stored) (off v : Nat) {a : Nat} (h1 : a ≠ off) (h2 : a ≠ off + 4) :
    (s.wr64 off v).rd a = s.rd a := by
  unfold State.wr64
  rw [State.rd_wr (State.wr_stored _ _ h), if_neg h2, State.rd_wr h, if_neg h1]

theorem State.get_wr64_other {s : State} (h : s.stored) (off v : Nat) (g : Field) (h1 : g.reg ≠ off) (h2 : g.reg ≠ off + 4) :
    (s.wr64 off v).get g = s.get g := by
  unfold State.get
  rw [State.rd_wr64_other h _ _ h1 h2]

/-- A register pair reads what was written, modulo 2^64. -/
theorem State.rd64_wr64 {s : State} (h : s.stored) (off v : Nat) : (s.wr64 off v).rd64 off = v % 2 ^ 64 := by
  unfold State.rd64 State.wr64
  rw [State.rd_wr (State.wr_stored _ _ h), if_neg (by omega), State.rd_wr h, if_pos rfl, State.rd_wr (State.wr_stored _ _ h), if_pos rfl]
  omega

theorem State.rd64_wr64_other {s : State} (h : s.stored) (off v : Nat) {a : Nat} (h1 : a ≠ off) (h2 : a ≠ off + 4) (h3 : a + 4 ≠ off) :
    (s.wr64 off v).rd64 a = s.rd64 a := by
  unfold State.rd64
  rw [State.rd_wr64_other h _ _ h1 h2, State.rd_wr64_other h _ _ h3 (by omega)]

end Sys2Proof.Machine
end

