-- ==== Sys2Proof/Laws/Reports.lean ====
section
/-! SUPPORT. Raising an event record and completing a ring command change nothing but what records are kept in: one lemma `…_reports` for
each operation, from the plain updates up to `event` and `complete`. -/
namespace Sys2Proof.Machine
open Sys2Proof

/-- A whole word reads as a field of 32 bits. -/
theorem State.get_word (s : State) (off : Nat) : s.get ⟨off, 0, 32⟩ = s.rd off := by
  unfold State.get bits
  rw [Nat.pow_zero, Nat.div_one, Nat.mod_eq_of_lt (s.rd_lt off)]

theorem Reports.refl (s : State) : Reports s s := ⟨rfl, id, fun _ _ _ => rfl, fun _ _ _ => rfl⟩

theorem Reports.rd {s t : State} (h : Reports s t) (hs : s.stored) {off : Nat} (ho : recordField ⟨off, 0, 32⟩ = false) :
    t.rd off = s.rd off := by
  rw [← State.get_word, ← State.get_word, h.fields hs _ ho]

theorem Reports.rd64 {s t : State} (h : Reports s t) (hs : s.stored) {off : Nat} (h1 : recordField ⟨off, 0, 32⟩ = false)
    (h2 : recordField ⟨off + 4, 0, 32⟩ = false) : t.rd64 off = s.rd64 off := by
  unfold State.rd64
  rw [h.rd hs h1, h.rd hs h2]

theorem Reports.inRecordRing {s t : State} (h : Reports s t) (hs : s.stored) (a : Nat) : t.inRecordRing a = s.inRecordRing a := by
  unfold State.inRecordRing State.ringN
  rw [Bool.eq_iff_iff, List.any_eq_true, List.any_eq_true]
  have key : ∀ r ∈ List.range' 32 32, t.rd64 (Reg.HRG_RING_BASE r) = s.rd64 (Reg.HRG_RING_BASE r) ∧
      t.get (Reg.HRG_RING_CFG_LOG2SIZE r) = s.get (Reg.HRG_RING_CFG_LOG2SIZE r) := by
    intro r hr
    have h2 : ∀ r ∈ List.range' 32 32, recordField ⟨Reg.HRG_RING_BASE r, 0, 32⟩ = false ∧
        recordField ⟨Reg.HRG_RING_BASE r + 4, 0, 32⟩ = false ∧ recordField (Reg.HRG_RING_CFG_LOG2SIZE r) = false := by decide
    exact ⟨h.rd64 hs (h2 r hr).1 (h2 r hr).2.1, h.fields hs _ (h2 r hr).2.2⟩
  constructor <;> rintro ⟨r, hr, h2⟩ <;> refine ⟨r, hr, ?_⟩ <;> simpa [(key r hr).1, (key r hr).2] using h2

theorem Reports.trans {s t u : State} (h : Reports s t) (h' : Reports t u) : Reports s u :=
  ⟨h'.work.trans h.work, fun x => h'.stored (h.stored x),
   fun x f hf => (h'.fields (h.stored x) f hf).trans (h.fields x f hf),
   fun x a ha => (h'.mem (h.stored x) a ((h.inRecordRing x a).trans ha)).trans (h.mem x a ha)⟩

theorem Reports.ite {s t u : State} {c : Prop} [Decidable c] (h : Reports s t) (h' : Reports s u) : Reports s (if c then t else u) := by
  split <;> assumption

theorem State.put_reports (s : State) (f : Field) (v : Nat) (hf : f.ok) (hr : ∀ g, recordField g = false → f.apart g) :
    Reports s (s.put f v) :=
  ⟨rfl, State.put_stored _ _, fun x g hg => State.get_put_other x f g v hf (hr g hg), fun _ _ _ => rfl⟩

theorem State.wr64_reports (s : State) (off v : Nat) (h1 : ∀ g, recordField g = false → g.reg ≠ off)
    (h2 : ∀ g, recordField g = false → g.reg ≠ off + 4) : Reports s (s.wr64 off v) :=
  ⟨rfl, State.wr64_stored _ _, fun x g hg => State.get_wr64_other x off v g (h1 g hg) (h2 g hg), fun _ _ _ => rfl⟩

theorem State.modRing_reports (s : State) (r : Nat) (f : RingState → RingState) : Reports s (s.modRing r f) :=
  ⟨rfl, id, fun _ _ _ => rfl, fun _ _ _ => rfl⟩

/-- The fields a ring shows are record fields. -/
theorem ring_field {r : Nat} (h : r < 64) {off : Nat} (ho : off = 0x08100C + 0x20 * r ∨ off = 0x081018 + 0x20 * r ∨ off = 0x08101C + 0x20 * r)
    (g : Field) (hg : recordField g = false) : g.reg ≠ off := by
  intro e
  simp only [recordField, e, Bool.or_eq_false_iff, Bool.and_eq_false_iff, decide_eq_false_iff_not, beq_eq_false_iff_ne] at hg
  omega

theorem State.setRingPos_reports (s : State) (r x : Nat) (h : r < 64) : Reports s (s.setRingPos r x) := by
  refine (State.put_reports s _ _ (by decide +revert) fun g hg => .inl ?_).trans (State.put_reports _ _ _ (by decide +revert) fun g hg => .inl ?_) <;>
    exact fun e => ring_field h (.inl rfl) g hg e.symm

theorem State.ringState_reports (s : State) (r x : Nat) (h : r < 64) : Reports s (s.put (Reg.HRG_RING_STAT_STATE r) x) :=
  State.put_reports s _ _ (by decide +revert) fun g hg => .inl fun e => ring_field h (.inl rfl) g hg e.symm

theorem State.ringCount_reports (s : State) (r n : Nat) (h : r < 64) : Reports s (s.add64 (Reg.HRG_RING_CNT r) n) :=
  State.wr64_reports s _ _ (ring_field h (.inr (.inl rfl))) (ring_field h (.inr (.inr (by unfold Reg.HRG_RING_CNT; omega))))

theorem State.ringSlot_lt (s : State) (r : Nat) : s.ringSlot r 32 + 32 ≤ s.rd64 (Reg.HRG_RING_BASE r) + 32 * s.ringN r := by
  have h : s.ringPos r % s.ringN r < s.ringN r := Nat.mod_lt _ (by unfold State.ringN; positivity)
  unfold State.ringSlot
  omega

theorem State.ringWrite_reports (s : State) (r : Nat) (l : List Nat) (h : 32 ≤ r ∧ r < 64) (hl : l.length ≤ 32) :
    Reports s (s.hostWrite (s.ringSlot r 32) l) := by
  refine ⟨rfl, State.hostWrite_stored _ _, fun _ _ _ => rfl, fun x a ha => ?_⟩
  refine Memory.read_writeBytes_outside l _ _ x.2.1 ?_
  simp only [State.inRecordRing, List.any_eq_false, List.mem_range'_1, Bool.and_eq_true, decide_eq_true_eq, not_and] at ha
  have h1 := ha r (by omega)
  have h2 := s.ringSlot_lt r
  have h3 : s.rd64 (Reg.HRG_RING_BASE r) ≤ s.ringSlot r 32 := by unfold State.ringSlot; omega
  omega

theorem State.ringPush_reports (s : State) (r : Nat) (rec : Nat → Nat → List Nat) (h : 32 ≤ r ∧ r < 64)
    (hl : ∀ p n, (rec p n).length ≤ 32) : Reports s (s.ringPush r rec) := by
  unfold State.ringPush
  exact (((State.ringWrite_reports s r _ h (hl _ _)).trans (State.setRingPos_reports _ r _ h.2)).trans
    (State.ringCount_reports _ r _ h.2)).trans (State.modRing_reports _ _ _)

theorem EventRec.bytes_length (e : EventRec) (p n : Nat) : (e.bytes p n).length = 32 := by simp [EventRec.bytes]

theorem Completion.bytes_length (c : Completion) (hd p n : Nat) : (c.bytes hd p n).length = 32 := by simp [Completion.bytes]

theorem State.flushLost_reports (s : State) (r : Nat) (h : 32 ≤ r ∧ r < 64) : Reports s (s.flushLost r) := by
  unfold State.flushLost
  dsimp only
  split
  · exact (State.ringPush_reports _ _ _ h fun p n => (EventRec.bytes_length _ _ _).le).trans (State.modRing_reports _ _ _)
  · exact .refl _

theorem State.evtLost_reports (s : State) : Reports s (s.setF Reg.HRG_STAT_EVT_LOST) := by
  refine State.put_reports s _ _ (by decide) fun g hg => ?_
  by_contra hc
  simp only [Field.apart, not_or, not_not] at hc
  have hreg : g.reg = Reg.HRG_STAT := hc.1.symm
  have h1 : ¬ g.lsb + g.width ≤ 4 := hc.2.2
  have h2 : ¬ 5 ≤ g.lsb := hc.2.1
  simp [recordField, hreg, h1, h2] at hg

theorem State.logHeld_reports (s : State) (n : Nat) : Reports s (s.put Reg.THM_WINDOW_HELD n) := by
  refine State.put_reports s _ _ (by decide) fun g hg => ?_
  by_contra hc
  simp only [Field.apart, not_or, not_not] at hc
  have hreg : g.reg = Reg.THM_WINDOW := hc.1.symm
  have h1 : ¬ g.lsb + g.width ≤ 8 := hc.2.2
  simp [recordField, hreg, h1] at hg

theorem State.logHeldLost_reports (s : State) : Reports s (s.setF Reg.THM_WINDOW_HELD_LOST) := by
  refine State.put_reports s _ _ (by decide) fun g hg => ?_
  by_contra hc
  simp only [Field.apart, not_or, not_not] at hc
  have hreg : g.reg = Reg.THM_WINDOW := hc.1.symm
  have h1 : ¬ g.lsb + g.width ≤ 17 := hc.2.2
  have h2 : ¬ g.lsb + g.width ≤ 8 := by omega
  simp [recordField, hreg, h2] at hg

theorem State.logWear_reports (s : State) (n : Nat) : Reports s (s.put Reg.FLT_LOG_WEAR_MAX_ERASE n) := by
  refine State.put_reports s _ _ (by decide) fun g hg => .inl fun e => ?_
  have hreg : g.reg = Reg.FLT_LOG_WEAR := e.symm
  simp [recordField, hreg] at hg

theorem State.logStop_reports (s : State) : Reports s (s.setF Reg.FLT_STAT_LOG_STOPPED) := by
  refine State.put_reports s _ _ (by decide) fun g hg => ?_
  by_contra hc
  simp only [Field.apart, not_or, not_not] at hc
  have hreg : g.reg = Reg.FLT_STAT := hc.1.symm
  have h1 : ¬ g.lsb + g.width ≤ 1 := hc.2.2
  have h2 : ¬ 2 ≤ g.lsb := hc.2.1
  simp [recordField, hreg, h1, h2] at hg

theorem State.eventToRing_reports (s : State) (r : Nat) (e : EventRec) (h : 32 ≤ r ∧ r < 64) : Reports s (s.eventToRing r e) := by
  unfold State.eventToRing
  refine (State.flushLost_reports s r h).trans (.ite (State.ringPush_reports _ _ _ h fun p n => (EventRec.bytes_length _ _ _).le) ?_)
  exact (State.modRing_reports _ _ _).trans (State.evtLost_reports _)

theorem State.keepEvent_reports (s : State) (r : Nat) (e : EventRec) : Reports s (s.keepEvent r e) := by
  unfold State.keepEvent
  split <;> exact ⟨rfl, id, fun _ _ _ => rfl, fun _ _ _ => rfl⟩

theorem FltState.logPut_frame (f : FltState) (e : EventRec) :
    { f.logPut e with log := [], logHeld := [], logSector := 0, logFill := 0, logErase := [], bucket := 0, bucketAt := 0,
                      logSkipped := 0 } =
    { f with log := [], logHeld := [], logSector := 0, logFill := 0, logErase := [], bucket := 0, bucketAt := 0, logSkipped := 0 } := by
  unfold FltState.logPut
  split <;> rfl

/-- A change of the log's own part of the state. -/
theorem Reports.logUpd (s : State) (f : FltState)
    (h : { f with log := [], logHeld := [], logSector := 0, logFill := 0, logErase := [], bucket := 0, bucketAt := 0, logSkipped := 0 } =
      { s.flt with log := [], logHeld := [], logSector := 0, logFill := 0, logErase := [], bucket := 0, bucketAt := 0, logSkipped := 0 }) :
    Reports s { s with flt := f } :=
  ⟨by unfold State.work; dsimp only; rw [h], id, fun _ _ _ => rfl, fun _ _ _ => rfl⟩

theorem State.logEvent_reports (s : State) (e : EventRec) : Reports s (s.logEvent e) := by
  unfold State.logEvent State.when
  dsimp only
  split
  · refine (Reports.logUpd s _ ?_).trans ((State.logHeld_reports _ _).trans (.ite (State.logHeldLost_reports _) (.refl _)))
    rfl
  · split
    · exact Reports.logUpd s _ rfl
    · refine (Reports.logUpd s _ ?_).trans ((State.logWear_reports _ _).trans (.ite (State.logStop_reports _) (.refl _)))
      rw [FltState.logPut_frame]

theorem State.eventRing_range (s : State) (src : Nat) : 32 ≤ s.eventRing src ∧ s.eventRing src < 64 := by
  unfold State.eventRing
  split
  · have : s.get Reg.ACD_CFG_RING < 2 ^ 4 := Nat.mod_lt _ (show 0 < 2 ^ 4 by decide)
    omega
  · have : bits (s.rd (Reg.HRG_EVT_ROUTE (src / 8))) (4 * (src % 8)) 4 < 2 ^ 4 := Nat.mod_lt _ (show 0 < 2 ^ 4 by decide)
    omega

theorem State.putEvent_reports (s : State) (time src code : Nat) (args : List Nat) : Reports s (s.putEvent time src code args) := by
  unfold State.putEvent
  dsimp only
  have h1 : Reports s (if s.canWriteRing (s.eventRing src) then s.eventToRing (s.eventRing src) ⟨time % 2 ^ 64, src, code, fit 16 args⟩
      else s.keepEvent (s.eventRing src) ⟨time % 2 ^ 64, src, code, fit 16 args⟩) :=
    .ite (State.eventToRing_reports _ _ _ (s.eventRing_range src)) (State.keepEvent_reports _ _ _)
  have h2 := h1.trans (State.logEvent_reports _ ⟨time % 2 ^ 64, src, code, fit 16 args⟩)
  generalize State.logEvent _ _ = u at h2 ⊢
  refine h2.trans ?_
  split <;> exact ⟨rfl, id, fun _ _ _ => rfl, fun _ _ _ => rfl⟩

theorem State.logState_reports (s : State) (kind count : Nat) : Reports s (s.logState kind count) := State.putEvent_reports _ _ _ _ _

theorem State.eventAt_reports (s : State) (time src code : Nat) (args : List Nat) : Reports s (s.eventAt time src code args) := by
  unfold State.eventAt State.when
  dsimp only
  have h1 := State.putEvent_reports s time src code args
  generalize State.putEvent _ _ _ _ _ = u at h1 ⊢
  have h2 : ∀ b : Bool, Reports u (if b then u.logState 0 0 else u) := fun b => .ite (State.logState_reports _ _ _) (.refl _)
  have h3 := h2 (!s.on Reg.FLT_STAT_LOG_STOPPED && u.on Reg.FLT_STAT_LOG_STOPPED)
  generalize (!s.on Reg.FLT_STAT_LOG_STOPPED && u.on Reg.FLT_STAT_LOG_STOPPED) = b at h3 ⊢
  generalize (if b = true then u.logState 0 0 else u) = v at h3 ⊢
  refine (h1.trans h3).trans (Reports.ite ?_ (.refl _))
  exact (Reports.logUpd v { v.flt with logSkipped := 0 } rfl).trans (State.logState_reports _ _ _)

/-- Raising an event record. -/
theorem State.event_reports (s : State) (src code : Nat) (args : List Nat) : Reports s (s.event src code args) :=
  State.eventAt_reports _ _ _ _ _

theorem State.setRingState_reports (s : State) (r new : Nat) (h : r < 64) : Reports s (s.setRingState r new) := by
  unfold State.setRingState State.when
  dsimp only
  exact .ite (.refl _) ((State.ringState_reports _ _ _ h).trans (.ite (State.event_reports _ _ _ _) (.refl _)))

theorem State.refreshRing_reports (s : State) (r : Nat) (h : r < 64) : Reports s (s.refreshRing r) := State.setRingState_reports _ _ _ h

theorem State.writeCompletion_reports (s : State) (cq : Nat) (c : Completion) (h : 32 ≤ cq ∧ cq < 64) :
    Reports s (s.writeCompletion cq c) := by
  unfold State.writeCompletion
  refine .ite (.refl _) (.ite ⟨rfl, id, fun _ _ _ => rfl, fun _ _ _ => rfl⟩ ?_)
  exact State.ringPush_reports _ _ _ h fun p n => (Completion.bytes_length _ _ _ _).le

theorem State.putCompletion_reports (s : State) (c : Completion) : Reports s (s.putCompletion c) := by
  have hq : s.get (Reg.HRG_RING_CFG_CQ c.ring) < 2 ^ 4 := Nat.mod_lt _ (show 0 < 2 ^ 4 by decide)
  unfold State.putCompletion
  dsimp only
  split
  · exact .refl _
  refine .ite (State.modRing_reports _ _ _) ?_
  have h : c.ring < 64 := by omega
  have h1 := State.modRing_reports s c.ring fun q => { q with running := q.running.erase c.tag }
  refine (h1.trans ?_).trans (State.refreshRing_reports _ _ h)
  refine Reports.trans (.ite (State.modRing_reports _ _ _) (.refl _)) (State.writeCompletion_reports _ _ _ ⟨by omega, by omega⟩)

/-- Completing a ring command. -/
theorem State.completeX_reports (s : State) (h : Hdr) (op status reason : Nat) (result : List Nat) (evt : Bool) :
    Reports s (s.completeX h op status reason result evt) := State.putCompletion_reports _ _

theorem State.complete_reports (s : State) (h : Hdr) (op status : Nat) : Reports s (s.complete h op status) :=
  State.putCompletion_reports _ _

theorem State.completeR_reports (s : State) (h : Hdr) (op status : Nat) (result : List Nat) :
    Reports s (s.completeR h op status result) := State.putCompletion_reports _ _

/-! ## What a report leaves, part by part -/

theorem Reports.pending {s t : State} (h : Reports s t) : t.pending = s.pending := by have e := congrArg State.pending h.work; exact e
theorem Reports.now {s t : State} (h : Reports s t) : t.now = s.now := by have e := congrArg State.now h.work; exact e
theorem Reports.frac {s t : State} (h : Reports s t) : t.frac = s.frac := by have e := congrArg State.frac h.work; exact e
theorem Reports.free {s t : State} (h : Reports s t) : t.free = s.free := by have e := congrArg State.free h.work; exact e
theorem Reports.devMem {s t : State} (h : Reports s t) : t.devMem = s.devMem := by have e := congrArg State.devMem h.work; exact e
theorem Reports.arch {s t : State} (h : Reports s t) : t.arch = s.arch := by have e := congrArg State.arch h.work; exact e
theorem Reports.tx {s t : State} (h : Reports s t) : t.tx = s.tx := by have e := congrArg State.tx h.work; exact e
theorem Reports.rx {s t : State} (h : Reports s t) : t.rx = s.rx := by have e := congrArg State.rx h.work; exact e
theorem Reports.beam {s t : State} (h : Reports s t) : t.beam = s.beam := by have e := congrArg State.beam h.work; exact e
theorem Reports.levee {s t : State} (h : Reports s t) : t.levee = s.levee := by have e := congrArg State.levee h.work; exact e
theorem Reports.rct {s t : State} (h : Reports s t) : t.rct = s.rct := by have e := congrArg State.rct h.work; exact e
theorem Reports.line {s t : State} (h : Reports s t) : t.line = s.line := by have e := congrArg State.line h.work; exact e
theorem Reports.cul {s t : State} (h : Reports s t) : t.cul = s.cul := by have e := congrArg State.cul h.work; exact e
theorem Reports.tim {s t : State} (h : Reports s t) : t.tim = s.tim := by have e := congrArg State.tim h.work; exact e
theorem Reports.eng {s t : State} (h : Reports s t) : t.eng = s.eng := by have e := congrArg State.eng h.work; exact e
theorem Reports.slu {s t : State} (h : Reports s t) : t.slu = s.slu := by have e := congrArg State.slu h.work; exact e
theorem Reports.sea {s t : State} (h : Reports s t) : t.sea = s.sea := by have e := congrArg State.sea h.work; exact e
theorem Reports.boot {s t : State} (h : Reports s t) : t.boot = s.boot := by have e := congrArg State.boot h.work; exact e
theorem Reports.pwr {s t : State} (h : Reports s t) : t.pwr = s.pwr := by have e := congrArg State.pwr h.work; exact e
theorem Reports.hka {s t : State} (h : Reports s t) : t.hka = s.hka := by have e := congrArg State.hka h.work; exact e
theorem Reports.gau {s t : State} (h : Reports s t) : t.gau = s.gau := by have e := congrArg State.gau h.work; exact e

theorem Reports.timed {s t : State} (h : Reports s t) : t.host.timed = s.host.timed := by
  have e := congrArg (fun u => u.host.timed) h.work; exact e
theorem Reports.linkUp {s t : State} (h : Reports s t) : t.host.linkUp = s.host.linkUp := by
  have e := congrArg (fun u => u.host.linkUp) h.work; exact e

/-! ## A report after what is already known to be one -/

theorem Reports.event {a s : State} (g : Reports a s) (src code : Nat) (args : List Nat) : Reports a (s.event src code args) :=
  g.trans (State.event_reports _ _ _ _)

theorem Reports.eventAt {a s : State} (g : Reports a s) (time src code : Nat) (args : List Nat) :
    Reports a (s.eventAt time src code args) := g.trans (State.eventAt_reports _ _ _ _ _)

theorem Reports.completeX {a s : State} (g : Reports a s) (h : Hdr) (op status reason : Nat) (result : List Nat) (evt : Bool) :
    Reports a (s.completeX h op status reason result evt) :=
  g.trans (State.completeX_reports _ _ _ _ _ _ _)

theorem Reports.complete {a s : State} (g : Reports a s) (h : Hdr) (op status : Nat) :
    Reports a (s.complete h op status) := g.trans (State.complete_reports _ _ _ _)

theorem Reports.completeR {a s : State} (g : Reports a s) (h : Hdr) (op status : Nat) (result : List Nat) :
    Reports a (s.completeR h op status result) := g.trans (State.completeR_reports _ _ _ _ _)

theorem Reports.refreshRing {a s : State} (g : Reports a s) (r : Nat) (hr : r < 64) : Reports a (s.refreshRing r) :=
  g.trans (State.refreshRing_reports _ _ hr)

theorem Reports.each {a s : State} {α : Type} (g : Reports a s) (l : List α) (f : State → α → State)
    (hf : ∀ x y, Reports a x → Reports a (f x y)) : Reports a (s.each l f) := by
  unfold State.each
  induction l generalizing s with
  | nil => exact g
  | cons x t ih => exact ih (hf _ _ g)

end Sys2Proof.Machine
end

