-- ==== Sys2Proof/Laws/Accept.lean ====
section
/-! SUPPORT. Ring commands that pass the checks of their header: an untimed one runs its meaning, a timed one is kept. -/
namespace Sys2Proof.Machine
open Sys2Proof

theorem State.TakesNow.headerFail {s : State} {h : Hdr} (g : s.TakesNow h) : s.headerFail h false = none := by
  simp [State.headerFail, firstFail, g.timed, g.frame, g.tick]

theorem State.TakesNow.acceptNow {s : State} {h : Hdr} (g : s.TakesNow h) (op : Nat) (run : State → State) :
    s.acceptNow h op none run = run s := by
  simp [State.acceptNow, g.headerFail, State.retiredRefuses, g.served]

theorem State.TakesTimed.headerFail {s : State} {h : Hdr} (g : s.TakesTimed h) : s.headerFail h true = none := by
  simp [State.headerFail, firstFail, g.timed, g.fence, g.tick]

theorem State.TakesTimed.acceptTimedK {s : State} {h : Hdr} (g : s.TakesTimed h) (op : Nat) (keep : State → State) :
    s.acceptTimedK h op none keep = keep s := by
  simp [State.acceptTimedK, g.headerFail, State.retiredRefuses, g.served, not_le.mpr g.early, not_lt.mpr g.near]

theorem State.hold_heldIn {s : State} (hs : s.stored) (h : Hdr) (c : Cmd) : HeldIn s (s.hold h c true) h c := by
  refine ⟨rfl, rfl, ?_, fun f hf => ?_, rfl⟩
  · unfold State.hold
    rw [State.get_put]
    · simp [Reg.HRG_STAT_TIMED_PENDING]
    · exact hs
    · decide
  · unfold State.hold
    rw [State.get_put_other]
    · rfl
    · exact hs
    · decide
    · rcases hf with h | h | h <;> [exact .inl (Ne.symm h); exact .inr (.inr h); exact .inr (.inl h)]

theorem Reports.completeTx {a s : State} (g : Reports a s) (h : Hdr) (op mask : Nat) :
    Reports a (s.completeTx h op mask) := by
  unfold State.completeTx; split
  · exact g.completeX _ _ _ _ _ _
  · exact g.complete _ _ _

theorem Tab.getD_set {α : Type} (t : Tab α) (a : Nat) (x d : α) : (t.set a x).getD a d = x := by simp [Tab.getD]

end Sys2Proof.Machine
end

