-- ==== Sys2Proof/Laws/Bundles.lean ====
section
/-! SUPPORT. A bundle of firmware with one instruction (R330). -/
namespace Sys2Proof.Machine
open Sys2Proof

/-- What such a bundle does is what its slot answers, committed. -/
theorem State.RunsBundle.bundle {s : State} {n p row : Nat} {o : SlotOut} (g : s.RunsBundle n p) (hr : bundleRow p 0 = row)
    (ho : slotRun ⟨s, n, (s.engine n).r, none, s.on (Reg.ENG_STAT_MODE n), s.free⟩ p = .ok o) :
    s.bundle n row = s.commitBundle n none o SlotOut.nothing := by
  have h1 : p * 2 ^ 32 / 2 ^ 32 = p := by omega
  have h2 : p * 2 ^ 32 % 2 ^ 32 = 0 := by omega
  have hq : ∀ c, slotQRun c 0 = .ok SlotOut.nothing := fun c => rfl
  have hc : o.clash SlotOut.nothing = false := by simp [SlotOut.clash, SlotOut.nothing, SlotOut.gWrites]
  simp only [State.bundle, g.word, h1, h2, g.ready, g.firmware, hr]
  simp [ho, hq, hc]

/-- The same in either slot; what slot Q draws of free values is numbered two on. -/
theorem State.RunsAlone.bundle {s : State} {n p row : Nat} {o : Nat → SlotOut} (g : s.RunsAlone n p) (hr : bundleRow p 0 = row)
    (ho : ∀ f, slotRun ⟨s, n, (s.engine n).r, none, s.on (Reg.ENG_STAT_MODE n), f⟩ p = .ok (o f)) :
    s.bundle n row = s.commitBundle n none (o s.free) SlotOut.nothing ∨
      slotQOk p = true ∧ s.bundle n row = s.commitBundle n none SlotOut.nothing (o (s.free + 2)) := by
  rcases g.word with h | ⟨h, hlt, hq⟩
  · exact .inl (State.RunsBundle.bundle ⟨h, g.ready, g.firmware⟩ hr (ho _))
  · refine .inr ⟨hq, ?_⟩
    have h1 : p / 2 ^ 32 = 0 := by omega
    have h2 : p % 2 ^ 32 = p := by omega
    have hr' : bundleRow 0 p = row := by rw [← hr]; by_cases e : p = 0 <;> simp [bundleRow, e]
    have hp : ∀ c, slotRun c 0 = .ok SlotOut.nothing := fun c => rfl
    have hc : ∀ x, SlotOut.nothing.clash x = false := fun x => by simp [SlotOut.clash, SlotOut.nothing, SlotOut.gWrites]
    simp only [State.bundle, h, h1, h2, g.ready, g.firmware, hr']
    simp [slotQRun, hq, ho, hp, hc]

end Sys2Proof.Machine
end

