-- ==== Sys2Proof/Laws/KeepsOps.lean ====
section
/-! SUPPORT. What every operation keeps: the queue of commands, and the canonical form of the register file and the memories. One lemma for
each operation, in the files `Laws/Keeps…`, each by those of the operations it is built from. -/
set_option linter.unreachableTactic false
set_option linter.unusedTactic false

namespace Sys2Proof.Machine
open Sys2Proof

/-- What every operation keeps: the queue, and the canonical form. -/
structure Keeps (a s : State) : Prop where
  queue : s.pending = a.pending
  mem : a.stored → s.stored

/-- An outcome that is a next state keeps them. -/
def OutKeeps (a : State) (o : Host.Outcome State Fault Refusal) : Prop := ∀ t, o = .next t → Keeps a t

theorem Keeps.refl (s : State) : Keeps s s := ⟨rfl, id⟩

theorem Keeps.upd {a s : State} (h : Keeps a s) {x1 x2 x3 y1 y2 y3 y4 y5 y6 y7 y8 y9 y10 y11 y12 y13 y14 y15 y16 y17 y18 y19 y20} :
    Keeps a (State.mk s.pending s.regs x1 x2 x3 s.hostMem s.devMem y1 y2 y3 y4 y5 y6 y7 y8 y9 y10 y11 y12 y13 y14 y15 y16 y17 y18
      y19 y20) := ⟨h.queue, h.mem⟩

theorem Keeps.ite {a s t : State} {c : Prop} [Decidable c] (h : Keeps a s) (h' : Keeps a t) : Keeps a (if c then s else t) := by
  split <;> assumption

theorem OutKeeps.next {a s : State} (h : Keeps a s) : OutKeeps a (.next s) := by
  intro t e; cases e; exact h

theorem State.wr_keeps {a : State} (s : State) (off v : Nat) (h : Keeps a s) : Keeps a (s.wr off v) :=
  ⟨h.queue, fun x => ⟨Sparse.write_wf _ _ (h.mem x).1, (h.mem x).2⟩⟩

theorem State.hostWrite_keeps {a : State} (s : State) (addr : Nat) (l : List Nat) (h : Keeps a s) : Keeps a (s.hostWrite addr l) :=
  ⟨h.queue, fun x => ⟨(h.mem x).1, Memory.writeBytes_wf _ _ (h.mem x).2.1, (h.mem x).2.2⟩⟩

theorem State.devWrite_keeps {a : State} (s : State) (addr : Nat) (l : List Nat) (h : Keeps a s) : Keeps a (s.devWrite addr l) :=
  ⟨h.queue, fun x => ⟨(h.mem x).1, (h.mem x).2.1, Memory.writeBytes_wf _ _ (h.mem x).2.2⟩⟩

theorem Keeps.foldl {a : State} {α : Type} (f : State → α → State) (hf : ∀ x y, Keeps a x → Keeps a (f x y)) (l : List α) (s : State)
    (h : Keeps a s) : Keeps a (l.foldl f s) := by
  induction l generalizing s with
  | nil => exact h
  | cons x t ih => exact ih _ (hf _ _ h)

theorem State.each_keeps {a : State} {α : Type} (s : State) (l : List α) (f : State → α → State) (h : Keeps a s)
    (hf : ∀ x y, Keeps a x → Keeps a (f x y)) : Keeps a (s.each l f) := Keeps.foldl f hf l s h

theorem State.when_keeps {a : State} (s : State) (c : Bool) (f : State → State) (h : Keeps a s)
    (hf : ∀ x, Keeps a x → Keeps a (f x)) : Keeps a (s.when c f) := by
  unfold State.when; split
  · exact hf _ h
  · exact h

theorem Keeps.foldl1 {a : State} {α β : Type} (f : State × β → α → State × β) (hf : ∀ p y, Keeps a p.1 → Keeps a (f p y).1)
    (l : List α) (p : State × β) (h : Keeps a p.1) : Keeps a (l.foldl f p).1 := by
  induction l generalizing p with
  | nil => exact h
  | cons x t ih => exact ih _ (hf _ _ h)

theorem Keeps.foldl2 {a : State} {α β : Type} (f : β × State → α → β × State) (hf : ∀ p y, Keeps a p.2 → Keeps a (f p y).2)
    (l : List α) (p : β × State) (h : Keeps a p.2) : Keeps a (l.foldl f p).2 := by
  induction l generalizing p with
  | nil => exact h
  | cons x t ih => exact ih _ (hf _ _ h)

theorem State.put_keeps {a : State} (s : State) (f : Field) (v : Nat) (hk : Keeps a s) :
    Keeps a (State.put s f v) := by
  unfold State.put
  repeat' (first
    | with_reducible assumption | with_reducible intro _ | with_reducible apply State.wr_keeps | split)

theorem State.setF_keeps {a : State} (s : State) (f : Field) (hk : Keeps a s) :
    Keeps a (State.setF s f) := by
  unfold State.setF
  repeat' (first
    | with_reducible assumption | with_reducible intro _ | with_reducible apply State.put_keeps | split)

theorem State.wr64_keeps {a : State} (s : State) (off v : Nat) (hk : Keeps a s) :
    Keeps a (State.wr64 s off v) := by
  unfold State.wr64
  repeat' (first
    | with_reducible assumption | with_reducible intro _ | with_reducible apply State.wr_keeps | split)

theorem State.add64_keeps {a : State} (s : State) (off n : Nat) (hk : Keeps a s) :
    Keeps a (State.add64 s off n) := by
  unfold State.add64
  repeat' (first
    | with_reducible assumption | with_reducible intro _ | with_reducible apply State.wr64_keeps | split)

theorem State.putBit64_keeps {a : State} (s : State) (off i : Nat) (b : Bool) (hk : Keeps a s) :
    Keeps a (State.putBit64 s off i b) := by
  unfold State.putBit64
  repeat' (first
    | with_reducible assumption | with_reducible intro _ | with_reducible apply State.wr64_keeps | split)

theorem State.satAdd_keeps {a : State} (s : State) (f : Field) (n : Nat) (hk : Keeps a s) :
    Keeps a (State.satAdd s f n) := by
  unfold State.satAdd
  repeat' (first
    | with_reducible assumption | with_reducible intro _ | with_reducible apply State.put_keeps | split)

theorem State.fresh_keeps {a : State} (s : State) (hk : Keeps a s) :
    Keeps a (State.fresh s) := by
  unfold State.fresh
  repeat' (first
    | with_reducible assumption | with_reducible intro _ | fail_if_no_progress (with_reducible apply Keeps.upd) | split)

theorem State.idle_keeps {a : State} (s : State) (hk : Keeps a s) :
    Keeps a (State.idle s) := by
  unfold State.idle
  repeat' (first
    | with_reducible assumption | with_reducible intro _ | fail_if_no_progress (with_reducible apply Keeps.upd) | split)

theorem State.setRingPos_keeps {a : State} (s : State) (r x : Nat) (hk : Keeps a s) :
    Keeps a (State.setRingPos s r x) := by
  unfold State.setRingPos
  repeat' (first
    | with_reducible assumption | with_reducible intro _ | with_reducible apply State.put_keeps | split)

theorem State.modRing_keeps {a : State} (s : State) (r : Nat) (f : RingState → RingState) (hk : Keeps a s) :
    Keeps a (State.modRing s r f) := by
  unfold State.modRing
  repeat' (first
    | with_reducible assumption | with_reducible intro _ | fail_if_no_progress (with_reducible apply Keeps.upd) | split)

theorem State.ringPush_keeps {a : State} (s : State) (r : Nat) (rec : Nat → Nat → List Nat) (hk : Keeps a s) :
    Keeps a (State.ringPush s r rec) := by
  unfold State.ringPush
  repeat' (first
    | with_reducible assumption | with_reducible intro _ | with_reducible apply State.modRing_keeps
    | with_reducible apply State.setRingPos_keeps | with_reducible apply State.hostWrite_keeps
    | with_reducible apply State.add64_keeps | with_reducible apply Keeps.ite | fail_if_no_progress (with_reducible apply Keeps.upd)
    | split)

theorem State.flushLost_keeps {a : State} (s : State) (r : Nat) (hk : Keeps a s) :
    Keeps a (State.flushLost s r) := by
  unfold State.flushLost
  repeat' (first
    | with_reducible assumption | with_reducible intro _ | with_reducible apply State.ringPush_keeps
    | with_reducible apply State.modRing_keeps | with_reducible apply Keeps.ite
    | fail_if_no_progress (with_reducible apply Keeps.upd) | split)

theorem State.eventToRing_keeps {a : State} (s : State) (r : Nat) (e : EventRec) (hk : Keeps a s) :
    Keeps a (State.eventToRing s r e) := by
  unfold State.eventToRing
  repeat' (first
    | with_reducible assumption | with_reducible intro _ | with_reducible apply State.flushLost_keeps
    | with_reducible apply State.ringPush_keeps | with_reducible apply State.modRing_keeps | with_reducible apply State.setF_keeps
    | with_reducible apply Keeps.ite | fail_if_no_progress (with_reducible apply Keeps.upd) | split)

theorem State.keepEvent_keeps {a : State} (s : State) (r : Nat) (e : EventRec) (hk : Keeps a s) :
    Keeps a (State.keepEvent s r e) := by
  unfold State.keepEvent
  repeat' (first
    | with_reducible assumption | with_reducible intro _ | with_reducible apply Keeps.ite
    | fail_if_no_progress (with_reducible apply Keeps.upd) | split)

theorem State.logEvent_keeps {a : State} (s : State) (e : EventRec) (hk : Keeps a s) :
    Keeps a (State.logEvent s e) := by
  unfold State.logEvent
  repeat' (first
    | with_reducible assumption | with_reducible intro _ | with_reducible apply State.when_keeps
    | with_reducible apply State.setF_keeps | with_reducible apply State.put_keeps | with_reducible apply Keeps.foldl
    | with_reducible apply Keeps.foldl1 | with_reducible apply Keeps.foldl2 | with_reducible apply Keeps.ite
    | fail_if_no_progress (with_reducible apply Keeps.upd) | split)

theorem State.putEvent_keeps {a : State} (s : State) (time src code : Nat) (args : List Nat) (hk : Keeps a s) :
    Keeps a (State.putEvent s time src code args) := by
  unfold State.putEvent
  repeat' (first
    | with_reducible assumption | with_reducible intro _ | with_reducible apply State.logEvent_keeps
    | with_reducible apply State.keepEvent_keeps | with_reducible apply State.eventToRing_keeps | with_reducible apply Keeps.ite
    | fail_if_no_progress (with_reducible apply Keeps.upd) | split)

theorem State.logState_keeps {a : State} (s : State) (kind count : Nat) (hk : Keeps a s) :
    Keeps a (State.logState s kind count) := by
  unfold State.logState
  repeat' (first
    | with_reducible assumption | with_reducible intro _ | with_reducible apply State.putEvent_keeps | split)

theorem State.eventAt_keeps {a : State} (s : State) (time src code : Nat) (args : List Nat) (hk : Keeps a s) :
    Keeps a (State.eventAt s time src code args) := by
  unfold State.eventAt
  repeat' (first
    | with_reducible assumption | with_reducible intro _ | with_reducible apply State.logState_keeps
    | with_reducible apply State.putEvent_keeps | with_reducible apply State.when_keeps | with_reducible apply Keeps.ite
    | fail_if_no_progress (with_reducible apply Keeps.upd) | split)

theorem State.event_keeps {a : State} (s : State) (src code : Nat) (args : List Nat) (hk : Keeps a s) :
    Keeps a (State.event s src code args) := by
  unfold State.event
  repeat' (first
    | with_reducible assumption | with_reducible intro _ | with_reducible apply State.eventAt_keeps | split)

theorem State.flushHeld_keeps {a : State} (s : State) (hk : Keeps a s) :
    Keeps a (State.flushHeld s) := by
  unfold State.flushHeld
  repeat' (first
    | with_reducible assumption | with_reducible intro _ | with_reducible apply State.eventToRing_keeps
    | with_reducible apply State.ringPush_keeps | with_reducible apply State.each_keeps | with_reducible apply Keeps.ite
    | fail_if_no_progress (with_reducible apply Keeps.upd) | split | (dsimp only; split))

theorem State.setRingState_keeps {a : State} (s : State) (r new : Nat) (hk : Keeps a s) :
    Keeps a (State.setRingState s r new) := by
  unfold State.setRingState
  repeat' (first
    | with_reducible assumption | with_reducible intro _ | with_reducible apply State.event_keeps
    | with_reducible apply State.when_keeps | with_reducible apply State.put_keeps | with_reducible apply Keeps.ite | split)

theorem State.refreshRing_keeps {a : State} (s : State) (r : Nat) (hk : Keeps a s) :
    Keeps a (State.refreshRing s r) := by
  unfold State.refreshRing
  repeat' (first
    | with_reducible assumption | with_reducible intro _ | with_reducible apply State.setRingState_keeps | split)

theorem State.pushCompletion_keeps {a : State} (s : State) (cq : Nat) (c : Completion) (hk : Keeps a s) :
    Keeps a (State.pushCompletion s cq c) := by
  unfold State.pushCompletion
  repeat' (first
    | with_reducible assumption | with_reducible intro _ | with_reducible apply State.ringPush_keeps | split)

theorem State.writeCompletion_keeps {a : State} (s : State) (cq : Nat) (c : Completion) (hk : Keeps a s) :
    Keeps a (State.writeCompletion s cq c) := by
  unfold State.writeCompletion
  repeat' (first
    | with_reducible assumption | with_reducible intro _ | with_reducible apply State.pushCompletion_keeps
    | with_reducible apply Keeps.ite | fail_if_no_progress (with_reducible apply Keeps.upd) | split)

theorem State.putCompletion_keeps {a : State} (s : State) (c : Completion) (hk : Keeps a s) :
    Keeps a (State.putCompletion s c) := by
  unfold State.putCompletion
  repeat' (first
    | with_reducible assumption | with_reducible intro _ | with_reducible apply State.writeCompletion_keeps
    | with_reducible apply State.refreshRing_keeps | with_reducible apply State.modRing_keeps | with_reducible apply Keeps.ite
    | fail_if_no_progress (with_reducible apply Keeps.upd) | split)

theorem State.flushCompletions_keeps {a : State} (s : State) (hk : Keeps a s) :
    Keeps a (State.flushCompletions s) := by
  unfold State.flushCompletions
  repeat' (first
    | with_reducible assumption | with_reducible intro _ | with_reducible apply State.pushCompletion_keeps
    | with_reducible apply State.each_keeps | with_reducible apply Keeps.ite | fail_if_no_progress (with_reducible apply Keeps.upd)
    | split)

theorem State.completeX_keeps {a : State} (s : State) (h : Hdr) (op status reason : Nat) (result : List Nat) (evt : Bool)
    (hk : Keeps a s) :
    Keeps a (State.completeX s h op status reason result evt) := by
  unfold State.completeX
  repeat' (first
    | with_reducible assumption | with_reducible intro _ | with_reducible apply State.putCompletion_keeps | split)

theorem State.complete_keeps {a : State} (s : State) (h : Hdr) (op status : Nat) (hk : Keeps a s) :
    Keeps a (State.complete s h op status) := by
  unfold State.complete
  repeat' (first
    | with_reducible assumption | with_reducible intro _ | with_reducible apply State.completeX_keeps | split)

theorem State.completeR_keeps {a : State} (s : State) (h : Hdr) (op status : Nat) (result : List Nat) (hk : Keeps a s) :
    Keeps a (State.completeR s h op status result) := by
  unfold State.completeR
  repeat' (first
    | with_reducible assumption | with_reducible intro _ | with_reducible apply State.completeX_keeps | split)

theorem State.hold_keeps {a : State} (s : State) (h : Hdr) (cmd : Cmd) (dataIn : Bool) (hk : Keeps a s) :
    Keeps a (State.hold s h cmd dataIn) := by
  unfold State.hold
  repeat' (first
    | with_reducible assumption | with_reducible intro _ | with_reducible apply State.put_keeps
    | fail_if_no_progress (with_reducible apply Keeps.upd) | split)

theorem State.acceptTimedK_keeps {a : State} (s : State) (h : Hdr) (op : Nat) (fieldFail : Option Nat) (keep : State → State)
    (hk : Keeps a s) (hkeep : ∀ x, Keeps a x → Keeps a (keep x)) :
    Keeps a (State.acceptTimedK s h op fieldFail keep) := by
  unfold State.acceptTimedK
  repeat' (first
    | with_reducible assumption | with_reducible intro _ | with_reducible apply State.completeR_keeps
    | with_reducible apply State.complete_keeps | apply hkeep | with_reducible apply Keeps.ite
    | fail_if_no_progress (with_reducible apply Keeps.upd) | split | (dsimp only; split))

theorem State.acceptTimed_keeps {a : State} (s : State) (h : Hdr) (op : Nat) (cmd : Cmd) (fieldFail : Option Nat) (dataIn : Bool)
    (hk : Keeps a s) :
    Keeps a (State.acceptTimed s h op cmd fieldFail dataIn) := by
  unfold State.acceptTimed
  repeat' (first
    | with_reducible assumption | with_reducible intro _ | with_reducible apply State.acceptTimedK_keeps
    | with_reducible apply State.hold_keeps | split)

theorem State.acceptNow_keeps {a : State} (s : State) (h : Hdr) (op : Nat) (fail : Option Nat) (run : State → State)
    (hk : Keeps a s) (hrun : ∀ x, Keeps a x → Keeps a (run x)) :
    Keeps a (State.acceptNow s h op fail run) := by
  unfold State.acceptNow
  repeat' (first
    | with_reducible assumption | with_reducible intro _ | with_reducible apply State.complete_keeps | apply hrun
    | with_reducible apply Keeps.ite | fail_if_no_progress (with_reducible apply Keeps.upd) | split | (dsimp only; split))

end Sys2Proof.Machine
end

