-- ==== Sys2Proof/Laws/KeepsPlan.lean ====
section
/-! SUPPORT. What the operations of Plan keep: the queue and the canonical form of the stores. -/
set_option linter.unreachableTactic false
set_option linter.unusedTactic false

namespace Sys2Proof.Machine
open Sys2Proof

theorem State.refreshPlan_keeps {a : State} (s : State) (hk : Keeps a s) :
    Keeps a (State.refreshPlan s) := by
  unfold State.refreshPlan
  repeat' (first
    | with_reducible assumption | with_reducible intro _ | with_reducible apply State.each_keeps
    | with_reducible apply State.put_keeps | with_reducible apply Keeps.ite | split)

end Sys2Proof.Machine
end

