-- ==== Sys2Proof/Laws/KeepsCapture.lean ====
section
/-! SUPPORT. What the operations of Capture keep: the queue and the canonical form of the stores. -/
set_option linter.unreachableTactic false
set_option linter.unusedTactic false

namespace Sys2Proof.Machine
open Sys2Proof

theorem State.setGau_keeps {a : State} (s : State) (k st : Nat) (hk : Keeps a s) :
    Keeps a (State.setGau s k st) := by
  unfold State.setGau
  repeat' (first
    | with_reducible assumption | with_reducible intro _ | with_reducible apply State.put_keeps | split)

theorem State.setCap_keeps {a : State} (s : State) (k : Nat) (c : Capture) (hk : Keeps a s) :
    Keeps a (State.setCap s k c) := by
  unfold State.setCap
  repeat' (first
    | with_reducible assumption | with_reducible intro _ | fail_if_no_progress (with_reducible apply Keeps.upd) | split)

theorem State.gauMissed_keeps {a : State} (s : State) (k : Nat) (c : Capture) (cond : Nat) (hk : Keeps a s) :
    Keeps a (State.gauMissed s k c cond) := by
  unfold State.gauMissed
  repeat' (first
    | with_reducible assumption | with_reducible intro _ | with_reducible apply State.setCap_keeps
    | with_reducible apply State.event_keeps | with_reducible apply State.when_keeps | with_reducible apply State.add64_keeps
    | with_reducible apply State.setF_keeps | fail_if_no_progress (with_reducible apply Keeps.upd) | split)

theorem State.gauMeet_keeps {a : State} (s : State) (k cond time : Nat) (hk : Keeps a s) :
    Keeps a (State.gauMeet s k cond time) := by
  unfold State.gauMeet
  repeat' (first
    | with_reducible assumption | with_reducible intro _ | with_reducible apply State.gauMissed_keeps
    | with_reducible apply State.setCap_keeps | with_reducible apply Keeps.ite
    | fail_if_no_progress (with_reducible apply Keeps.upd) | split | (dsimp only; split))

theorem State.leveeCapture_keeps {a : State} (s : State) (tile kind : Nat) (hk : Keeps a s) :
    Keeps a (State.leveeCapture s tile kind) := by
  unfold State.leveeCapture
  repeat' (first
    | with_reducible assumption | with_reducible intro _ | with_reducible apply State.gauMeet_keeps
    | with_reducible apply State.when_keeps | with_reducible apply State.each_keeps | split)

theorem State.tapStop_keeps {a : State} (s : State) (f : GauStreamCmd → Bool) (cause : Nat) (hk : Keeps a s) :
    Keeps a (State.tapStop s f cause) := by
  unfold State.tapStop
  repeat' (first
    | with_reducible assumption | with_reducible intro _ | with_reducible apply State.setCap_keeps
    | with_reducible apply State.setGau_keeps | with_reducible apply State.each_keeps | with_reducible apply State.setF_keeps
    | with_reducible apply Keeps.ite | fail_if_no_progress (with_reducible apply Keeps.upd) | split | (dsimp only; split))

theorem State.tapStart_keeps {a : State} (s : State) (n : Nat) (hk : Keeps a s) :
    Keeps a (State.tapStart s n) := by
  unfold State.tapStart
  repeat' (first
    | with_reducible assumption | with_reducible intro _ | with_reducible apply State.each_keeps | with_reducible apply Keeps.ite
    | fail_if_no_progress (with_reducible apply Keeps.upd) | split | (dsimp only; split))

end Sys2Proof.Machine
end

