-- ==== Sys2Proof/Laws/KeepsCross.lean ====
section
/-! SUPPORT. What the operations of Cross keep: the queue and the canonical form of the stores. -/
set_option linter.unreachableTactic false
set_option linter.unusedTactic false

namespace Sys2Proof.Machine
open Sys2Proof

theorem State.setBiasDac_keeps {a : State} (s : State) (n k : Nat) (d : BiasDac) (hk : Keeps a s) :
    Keeps a (State.setBiasDac s n k d) := by
  unfold State.setBiasDac
  repeat' (first
    | with_reducible assumption | with_reducible intro _ | fail_if_no_progress (with_reducible apply Keeps.upd) | split)

theorem State.queuedOutcome_keeps {a : State} (s : State) (tile kind idx bank status tag : Nat) (hk : Keeps a s) :
    Keeps a (State.queuedOutcome s tile kind idx bank status tag) := by
  unfold State.queuedOutcome
  repeat' (first
    | with_reducible assumption | with_reducible intro _ | with_reducible apply State.event_keeps | split)

theorem State.biasSafe_keeps {a : State} (s : State) (n k : Nat) (safe : Bool) (hk : Keeps a s) :
    Keeps a (State.biasSafe s n k safe) := by
  unfold State.biasSafe
  repeat' (first
    | with_reducible assumption | with_reducible intro _ | with_reducible apply State.setBiasDac_keeps
    | fail_if_no_progress (with_reducible apply Keeps.upd) | split)

theorem State.tileBias_keeps {a : State} (s : State) (n : Nat) (safe : Bool) (hk : Keeps a s) :
    Keeps a (State.tileBias s n safe) := by
  unfold State.tileBias
  repeat' (first
    | with_reducible assumption | with_reducible intro _ | with_reducible apply State.biasSafe_keeps
    | with_reducible apply State.each_keeps | split)

theorem State.pathBias_keeps {a : State} (s : State) (p : Nat) (safe : Bool) (hk : Keeps a s) :
    Keeps a (State.pathBias s p safe) := by
  unfold State.pathBias
  repeat' (first
    | with_reducible assumption | with_reducible intro _ | with_reducible apply State.biasSafe_keeps | split)

theorem State.tripBias_keeps {a : State} (s : State) (n : Nat) (hk : Keeps a s) :
    Keeps a (State.tripBias s n) := by
  unfold State.tripBias
  repeat' (first
    | with_reducible assumption | with_reducible intro _ | with_reducible apply State.biasSafe_keeps
    | with_reducible apply State.queuedOutcome_keeps | with_reducible apply State.setBiasDac_keeps
    | with_reducible apply State.each_keeps | fail_if_no_progress (with_reducible apply Keeps.upd) | split | (dsimp only; split))

theorem State.modStrobes_keeps {a : State} (s : State) (n : Nat) (f : Strobes → Strobes) (hk : Keeps a s) :
    Keeps a (State.modStrobes s n f) := by
  unfold State.modStrobes
  repeat' (first
    | with_reducible assumption | with_reducible intro _ | fail_if_no_progress (with_reducible apply Keeps.upd) | split)

theorem State.paOff_keeps {a : State} (s : State) (p : Nat) (hk : Keeps a s) :
    Keeps a (State.paOff s p) := by
  unfold State.paOff
  repeat' (first
    | with_reducible assumption | with_reducible intro _ | with_reducible apply State.modStrobes_keeps
    | fail_if_no_progress (with_reducible apply Keeps.upd) | split)

theorem State.showGated_keeps {a : State} (s : State) (n : Nat) (off : Bool) (hk : Keeps a s) :
    Keeps a (State.showGated s n off) := by
  unfold State.showGated
  repeat' (first
    | with_reducible assumption | with_reducible intro _ | with_reducible apply State.tapStart_keeps
    | with_reducible apply State.tapStop_keeps | with_reducible apply State.refreshPlan_keeps
    | with_reducible apply State.when_keeps | with_reducible apply State.put_keeps | with_reducible apply Keeps.ite | split)

theorem State.setTileState_keeps {a : State} (s : State) (n new cause : Nat) (hk : Keeps a s) :
    Keeps a (State.setTileState s n new cause) := by
  unfold State.setTileState
  repeat' (first
    | with_reducible assumption | with_reducible intro _ | with_reducible apply State.showGated_keeps
    | with_reducible apply State.modStrobes_keeps | with_reducible apply State.tileBias_keeps
    | with_reducible apply State.event_keeps | with_reducible apply State.when_keeps | with_reducible apply State.put_keeps
    | with_reducible apply Keeps.ite | fail_if_no_progress (with_reducible apply Keeps.upd) | split)

theorem State.modProtect_keeps {a : State} (s : State) (n : Nat) (f : Protect → Protect) (hk : Keeps a s) :
    Keeps a (State.modProtect s n f) := by
  unfold State.modProtect
  repeat' (first
    | with_reducible assumption | with_reducible intro _ | fail_if_no_progress (with_reducible apply Keeps.upd) | split)

theorem State.enterProtect_keeps {a : State} (s : State) (n cause : Nat) (goneAt : Option Nat) (hk : Keeps a s) :
    Keeps a (State.enterProtect s n cause goneAt) := by
  unfold State.enterProtect
  repeat' (first
    | with_reducible assumption | with_reducible intro _ | with_reducible apply State.modProtect_keeps
    | with_reducible apply State.setTileState_keeps | with_reducible apply State.when_keeps | with_reducible apply State.setF_keeps
    | with_reducible apply Keeps.ite | fail_if_no_progress (with_reducible apply Keeps.upd) | split)

theorem State.withhold_keeps {a : State} (s : State) (n reason : Nat) (hk : Keeps a s) :
    Keeps a (State.withhold s n reason) := by
  unfold State.withhold
  repeat' (first
    | with_reducible assumption | with_reducible intro _ | fail_if_no_progress (with_reducible apply Keeps.upd) | split)

theorem State.leaveProtect_keeps {a : State} (s : State) (n cause : Nat) (hk : Keeps a s) :
    Keeps a (State.leaveProtect s n cause) := by
  unfold State.leaveProtect
  repeat' (first
    | with_reducible assumption | with_reducible intro _ | with_reducible apply State.withhold_keeps
    | with_reducible apply State.modProtect_keeps | with_reducible apply State.setTileState_keeps
    | fail_if_no_progress (with_reducible apply Keeps.upd) | split)

theorem State.showPhase_keeps {a : State} (s : State) (n : Nat) (hk : Keeps a s) :
    Keeps a (State.showPhase s n) := by
  unfold State.showPhase
  repeat' (first
    | with_reducible assumption | with_reducible intro _ | with_reducible apply State.put_keeps | with_reducible apply Keeps.ite
    | fail_if_no_progress (with_reducible apply Keeps.upd) | split | (dsimp only; split))

theorem State.tileOffBy_keeps {a : State} (s : State) (n cause who : Nat) (hk : Keeps a s) :
    Keeps a (State.tileOffBy s n cause who) := by
  unfold State.tileOffBy
  repeat' (first
    | with_reducible assumption | with_reducible intro _ | with_reducible apply State.showPhase_keeps
    | with_reducible apply State.modProtect_keeps | with_reducible apply State.setTileState_keeps
    | with_reducible apply State.put_keeps | with_reducible apply Keeps.ite | fail_if_no_progress (with_reducible apply Keeps.upd)
    | split)

theorem State.tileOff_keeps {a : State} (s : State) (n cause : Nat) (hk : Keeps a s) :
    Keeps a (State.tileOff s n cause) := by
  unfold State.tileOff
  repeat' (first
    | with_reducible assumption | with_reducible intro _ | with_reducible apply State.tileOffBy_keeps
    | with_reducible apply Keeps.ite | split)

theorem State.pathStart_keeps {a : State} (s : State) (p : Nat) (hk : Keeps a s) :
    Keeps a (State.pathStart s p) := by
  unfold State.pathStart
  repeat' (first
    | with_reducible assumption | with_reducible intro _ | fail_if_no_progress (with_reducible apply Keeps.upd) | split)

theorem State.mutePath_keeps {a : State} (s : State) (p cause : Nat) (hk : Keeps a s) :
    Keeps a (State.mutePath s p cause) := by
  unfold State.mutePath
  repeat' (first
    | with_reducible assumption | with_reducible intro _ | with_reducible apply State.paOff_keeps
    | with_reducible apply State.leveeCapture_keeps | with_reducible apply State.event_keeps
    | with_reducible apply State.putBit64_keeps | with_reducible apply State.setF_keeps | with_reducible apply Keeps.ite
    | fail_if_no_progress (with_reducible apply Keeps.upd) | split)

theorem State.unmutePath_keeps {a : State} (s : State) (p cause : Nat) (hk : Keeps a s) :
    Keeps a (State.unmutePath s p cause) := by
  unfold State.unmutePath
  repeat' (first
    | with_reducible assumption | with_reducible intro _ | with_reducible apply State.pathStart_keeps
    | with_reducible apply State.withhold_keeps | with_reducible apply State.event_keeps | with_reducible apply State.when_keeps
    | with_reducible apply State.putBit64_keeps | with_reducible apply Keeps.ite
    | fail_if_no_progress (with_reducible apply Keeps.upd) | split)

theorem State.completeTx_keeps {a : State} (s : State) (h : Hdr) (op mask : Nat) (hk : Keeps a s) :
    Keeps a (State.completeTx s h op mask) := by
  unfold State.completeTx
  repeat' (first
    | with_reducible assumption | with_reducible intro _ | with_reducible apply State.complete_keeps
    | with_reducible apply State.completeX_keeps | fail_if_no_progress (with_reducible apply Keeps.upd) | split
    | (dsimp only; split))

theorem State.countBlank_keeps {a : State} (s : State) (n reason : Nat) (hk : Keeps a s) :
    Keeps a (State.countBlank s n reason) := by
  unfold State.countBlank
  repeat' (first
    | with_reducible assumption | with_reducible intro _ | with_reducible apply State.leveeCapture_keeps
    | with_reducible apply State.add64_keeps | with_reducible apply State.setF_keeps
    | fail_if_no_progress (with_reducible apply Keeps.upd) | split)

theorem State.culSend_keeps {a : State} (s : State) (link q : Nat) (f : CulFrameOut) (hk : Keeps a s) :
    Keeps a (State.culSend s link q f) := by
  unfold State.culSend
  repeat' (first
    | with_reducible assumption | with_reducible intro _ | fail_if_no_progress (with_reducible apply Keeps.upd) | split)

theorem State.calTrims_keeps {a : State} (s : State) (n : Nat) (hk : Keeps a s) :
    Keeps a (State.calTrims s n) := by
  unfold State.calTrims
  repeat' (first
    | with_reducible assumption | with_reducible intro _ | with_reducible apply State.each_keeps
    | fail_if_no_progress (with_reducible apply Keeps.upd) | split)

theorem State.seaSubmit_keeps {a : State} (s : State) (j : SeaJob) (hk : Keeps a s) :
    Keeps a (State.seaSubmit s j) := by
  unfold State.seaSubmit
  repeat' (first
    | with_reducible assumption | with_reducible intro _ | with_reducible apply State.setF_keeps
    | fail_if_no_progress (with_reducible apply Keeps.upd) | split | (dsimp only; split))

end Sys2Proof.Machine
end

