-- ==== Sys2Proof/Laws/KeepsTransmit.lean ====
section
/-! SUPPORT. What the operations of Transmit keep: the queue and the canonical form of the stores. -/
set_option linter.unreachableTactic false
set_option linter.unusedTactic false

namespace Sys2Proof.Machine
open Sys2Proof

theorem State.txCarrierPlan_keeps {a : State} (s : State) (c : TxCarrierCmd) (hk : Keeps a s) :
    Keeps a (State.txCarrierPlan s c) := by
  unfold State.txCarrierPlan
  repeat' (first
    | with_reducible assumption | with_reducible intro _ | with_reducible apply State.each_keeps
    | with_reducible apply State.put_keeps | with_reducible apply Keeps.ite | fail_if_no_progress (with_reducible apply Keeps.upd)
    | split)

theorem State.newPulse_keeps {a : State} (s : State) (n : Nat) (hk : Keeps a s) :
    Keeps a (State.newPulse s n) := by
  unfold State.newPulse
  repeat' (first
    | with_reducible assumption | with_reducible intro _ | fail_if_no_progress (with_reducible apply Keeps.upd) | split)

theorem State.applyTxCarrier_keeps {a : State} (s : State) (h : Hdr) (c : TxCarrierCmd) (hk : Keeps a s) :
    Keeps a (State.applyTxCarrier s h c) := by
  unfold State.applyTxCarrier
  repeat' (first
    | with_reducible assumption | with_reducible intro _ | with_reducible apply State.newPulse_keeps
    | with_reducible apply State.txCarrierPlan_keeps | with_reducible apply State.completeTx_keeps
    | with_reducible apply State.refreshPlan_keeps | with_reducible apply State.each_keeps | split)

theorem execTxCarrier_keeps {a : State} (h : Hdr) (c : TxCarrierCmd) (s : State) (hk : Keeps a s) :
    OutKeeps a (execTxCarrier h c s) := by
  unfold execTxCarrier
  repeat' (first
    | with_reducible assumption | with_reducible intro _ | with_reducible apply State.acceptTimed_keeps
    | with_reducible apply OutKeeps.next | split)

theorem State.txTilePlan_keeps {a : State} (s : State) (c : TxTileCmd) (hk : Keeps a s) :
    Keeps a (State.txTilePlan s c) := by
  unfold State.txTilePlan
  repeat' (first
    | with_reducible assumption | with_reducible intro _ | with_reducible apply State.each_keeps | with_reducible apply Keeps.ite
    | fail_if_no_progress (with_reducible apply Keeps.upd) | split)

theorem State.applyTxTile_keeps {a : State} (s : State) (h : Hdr) (c : TxTileCmd) (hk : Keeps a s) :
    Keeps a (State.applyTxTile s h c) := by
  unfold State.applyTxTile
  repeat' (first
    | with_reducible assumption | with_reducible intro _ | with_reducible apply State.txTilePlan_keeps
    | with_reducible apply State.completeTx_keeps | split)

theorem execTxTile_keeps {a : State} (h : Hdr) (c : TxTileCmd) (s : State) (hk : Keeps a s) :
    OutKeeps a (execTxTile h c s) := by
  unfold execTxTile
  repeat' (first
    | with_reducible assumption | with_reducible intro _ | with_reducible apply State.acceptTimed_keeps
    | with_reducible apply OutKeeps.next | split)

theorem State.putPathBit_keeps {a : State} (s : State) (f : Nat → Field) (p : Nat) (b : Bool) (hk : Keeps a s) :
    Keeps a (State.putPathBit s f p b) := by
  unfold State.putPathBit
  repeat' (first
    | with_reducible assumption | with_reducible intro _ | with_reducible apply State.put_keeps | split)

theorem State.setDpdBank_keeps {a : State} (s : State) (p b : Nat) (l : List Nat) (hk : Keeps a s) :
    Keeps a (State.setDpdBank s p b l) := by
  unfold State.setDpdBank
  repeat' (first
    | with_reducible assumption | with_reducible intro _ | fail_if_no_progress (with_reducible apply Keeps.upd) | split)

theorem State.queueDpdLoad_keeps {a : State} (s : State) (j : DpdJob) (hk : Keeps a s) :
    Keeps a (State.queueDpdLoad s j) := by
  unfold State.queueDpdLoad
  repeat' (first
    | with_reducible assumption | with_reducible intro _ | with_reducible apply State.putPathBit_keeps
    | with_reducible apply State.queuedOutcome_keeps | fail_if_no_progress (with_reducible apply Keeps.upd) | split
    | (dsimp only; split))

theorem State.startDpdLoad_keeps {a : State} (s : State) (j : DpdJob) (hk : Keeps a s) :
    Keeps a (State.startDpdLoad s j) := by
  unfold State.startDpdLoad
  repeat' (first
    | with_reducible assumption | with_reducible intro _ | fail_if_no_progress (with_reducible apply Keeps.upd) | split)

theorem execDpdLoad_keeps {a : State} (h : Hdr) (path bank count src : Nat) (s : State) (hk : Keeps a s) :
    OutKeeps a (execDpdLoad h path bank count src s) := by
  unfold execDpdLoad
  repeat' (first
    | with_reducible assumption | with_reducible intro _ | with_reducible apply State.startDpdLoad_keeps
    | with_reducible apply State.queueDpdLoad_keeps | with_reducible apply State.acceptNow_keeps
    | with_reducible apply State.complete_keeps | with_reducible apply State.completeX_keeps | with_reducible apply Keeps.ite
    | with_reducible apply OutKeeps.next | split)

theorem State.finishDpdLoad_keeps {a : State} (s : State) (path : Nat) (busOk : Bool) (hk : Keeps a s) :
    Keeps a (State.finishDpdLoad s path busOk) := by
  unfold State.finishDpdLoad
  repeat' (first
    | with_reducible assumption | with_reducible intro _ | with_reducible apply State.setDpdBank_keeps
    | with_reducible apply State.queuedOutcome_keeps | with_reducible apply State.complete_keeps | with_reducible apply Keeps.ite
    | fail_if_no_progress (with_reducible apply Keeps.upd) | split | (dsimp only; split))

theorem execDpdLoadComplete_keeps {a : State} (path : Nat) (busOk : Bool) (s : State) (hk : Keeps a s) :
    OutKeeps a (execDpdLoadComplete path busOk s) := by
  unfold execDpdLoadComplete
  repeat' (first
    | with_reducible assumption | with_reducible intro _ | with_reducible apply State.finishDpdLoad_keeps
    | with_reducible apply OutKeeps.next | split)

theorem State.holdDpdSwap_keeps {a : State} (s : State) (h : Hdr) (tile mask fade : Nat) (hk : Keeps a s) :
    Keeps a (State.holdDpdSwap s h tile mask fade) := by
  unfold State.holdDpdSwap
  repeat' (first
    | with_reducible assumption | with_reducible intro _ | with_reducible apply State.complete_keeps
    | with_reducible apply State.setF_keeps | fail_if_no_progress (with_reducible apply Keeps.upd) | split | (dsimp only; split))

theorem State.startDpdFades_keeps {a : State} (s : State) (tile mask fade : Nat) (hk : Keeps a s) :
    Keeps a (State.startDpdFades s tile mask fade) := by
  unfold State.startDpdFades
  repeat' (first
    | with_reducible assumption | with_reducible intro _ | with_reducible apply State.putPathBit_keeps
    | with_reducible apply State.each_keeps | with_reducible apply Keeps.ite | fail_if_no_progress (with_reducible apply Keeps.upd)
    | split)

theorem State.startDpdSwap_keeps {a : State} (s : State) (h : Hdr) (tile mask fade : Nat) (hk : Keeps a s) :
    Keeps a (State.startDpdSwap s h tile mask fade) := by
  unfold State.startDpdSwap
  repeat' (first
    | with_reducible assumption | with_reducible intro _ | with_reducible apply State.startDpdFades_keeps
    | with_reducible apply State.completeTx_keeps | with_reducible apply State.complete_keeps | with_reducible apply Keeps.ite
    | split)

theorem State.applyDpdSwap_keeps {a : State} (s : State) (h : Hdr) (tile mask fade : Nat) (hk : Keeps a s) :
    Keeps a (State.applyDpdSwap s h tile mask fade) := by
  unfold State.applyDpdSwap
  repeat' (first
    | with_reducible assumption | with_reducible intro _ | with_reducible apply State.startDpdSwap_keeps
    | with_reducible apply State.holdDpdSwap_keeps | with_reducible apply Keeps.ite | split)

theorem execDpdSwap_keeps {a : State} (h : Hdr) (tile pathMask fade : Nat) (s : State) (hk : Keeps a s) :
    OutKeeps a (execDpdSwap h tile pathMask fade s) := by
  unfold execDpdSwap
  repeat' (first
    | with_reducible assumption | with_reducible intro _ | with_reducible apply State.holdDpdSwap_keeps
    | with_reducible apply State.acceptTimedK_keeps | with_reducible apply State.hold_keeps
    | with_reducible apply State.complete_keeps | with_reducible apply Keeps.ite | with_reducible apply OutKeeps.next
    | fail_if_no_progress (with_reducible apply Keeps.upd) | split | (dsimp only; split))

theorem State.releaseDpdLoad_keeps {a : State} (s : State) (path : Nat) (hk : Keeps a s) :
    Keeps a (State.releaseDpdLoad s path) := by
  unfold State.releaseDpdLoad
  repeat' (first
    | with_reducible assumption | with_reducible intro _ | with_reducible apply State.startDpdLoad_keeps
    | with_reducible apply State.putPathBit_keeps | with_reducible apply State.queuedOutcome_keeps | with_reducible apply Keeps.ite
    | fail_if_no_progress (with_reducible apply Keeps.upd) | split | (dsimp only; split))

theorem execDpdFadeEnd_keeps {a : State} (path : Nat) (s : State) (hk : Keeps a s) :
    OutKeeps a (execDpdFadeEnd path s) := by
  unfold execDpdFadeEnd
  repeat' (first
    | with_reducible assumption | with_reducible intro _ | with_reducible apply State.releaseDpdLoad_keeps
    | with_reducible apply State.putPathBit_keeps | with_reducible apply Keeps.ite | with_reducible apply OutKeeps.next
    | fail_if_no_progress (with_reducible apply Keeps.upd) | split | (dsimp only; split))

theorem execHeldDpdSwapStart_keeps {a : State} (tile : Nat) (s : State) (hk : Keeps a s) :
    OutKeeps a (execHeldDpdSwapStart tile s) := by
  unfold execHeldDpdSwapStart
  repeat' (first
    | with_reducible assumption | with_reducible intro _ | with_reducible apply State.startDpdSwap_keeps
    | with_reducible apply State.put_keeps | with_reducible apply Keeps.ite | with_reducible apply OutKeeps.next
    | fail_if_no_progress (with_reducible apply Keeps.upd) | split | (dsimp only; split))

theorem State.supersedeBias_keeps {a : State} (s : State) (tile dac : Nat) (j : BiasJob) (hk : Keeps a s) :
    Keeps a (State.supersedeBias s tile dac j) := by
  unfold State.supersedeBias
  repeat' (first
    | with_reducible assumption | with_reducible intro _ | with_reducible apply State.queuedOutcome_keeps
    | with_reducible apply State.complete_keeps | with_reducible apply Keeps.ite | split)

theorem State.finishBias_keeps {a : State} (s : State) (tile dac : Nat) (j : BiasJob) (st : Nat) (hk : Keeps a s) :
    Keeps a (State.finishBias s tile dac j st) := by
  unfold State.finishBias
  repeat' (first
    | with_reducible assumption | with_reducible intro _ | with_reducible apply State.queuedOutcome_keeps
    | with_reducible apply State.complete_keeps | with_reducible apply Keeps.ite | split)

theorem State.queueReadback_keeps {a : State} (s : State) (tile dac : Nat) (hk : Keeps a s) :
    Keeps a (State.queueReadback s tile dac) := by
  unfold State.queueReadback
  repeat' (first
    | with_reducible assumption | with_reducible intro _ | fail_if_no_progress (with_reducible apply Keeps.upd) | split)

theorem State.biasCode_keeps {a : State} (s : State) (tile dac code : Nat) (hk : Keeps a s) :
    Keeps a (State.biasCode s tile dac code) := by
  unfold State.biasCode
  repeat' (first
    | with_reducible assumption | with_reducible intro _ | with_reducible apply State.queueReadback_keeps
    | with_reducible apply State.put_keeps | split)

theorem State.applyBiasSet_keeps {a : State} (s : State) (h : Hdr) (c : BiasSetCmd) (hk : Keeps a s) :
    Keeps a (State.applyBiasSet s h c) := by
  unfold State.applyBiasSet
  repeat' (first
    | with_reducible assumption | with_reducible intro _ | with_reducible apply State.supersedeBias_keeps
    | with_reducible apply State.setBiasDac_keeps | with_reducible apply Keeps.ite
    | fail_if_no_progress (with_reducible apply Keeps.upd) | split | (dsimp only; split))

theorem execBiasSet_keeps {a : State} (h : Hdr) (c : BiasSetCmd) (s : State) (hk : Keeps a s) :
    OutKeeps a (execBiasSet h c s) := by
  unfold execBiasSet
  repeat' (first
    | with_reducible assumption | with_reducible intro _ | with_reducible apply State.acceptTimed_keeps
    | with_reducible apply OutKeeps.next | split)

theorem State.endSpanChange_keeps {a : State} (s : State) (tile dac : Nat) (c : SpanChange) (st : Nat) (hk : Keeps a s) :
    Keeps a (State.endSpanChange s tile dac c st) := by
  unfold State.endSpanChange
  repeat' (first
    | with_reducible assumption | with_reducible intro _ | with_reducible apply State.biasCode_keeps
    | with_reducible apply State.finishBias_keeps | with_reducible apply State.setBiasDac_keeps | split)

theorem State.fireBias_keeps {a : State} (s : State) (tile dac st : Nat) (hk : Keeps a s) :
    Keeps a (State.fireBias s tile dac st) := by
  unfold State.fireBias
  repeat' (first
    | with_reducible assumption | with_reducible intro _ | with_reducible apply State.endSpanChange_keeps
    | with_reducible apply State.biasCode_keeps | with_reducible apply State.finishBias_keeps
    | with_reducible apply State.setBiasDac_keeps | with_reducible apply Keeps.ite
    | fail_if_no_progress (with_reducible apply Keeps.upd) | split | (dsimp only; split))

theorem execBiasTrigger_keeps {a : State} (tile dac edge : Nat) (s : State) (hk : Keeps a s) :
    OutKeeps a (execBiasTrigger tile dac edge s) := by
  unfold execBiasTrigger
  repeat' (first
    | with_reducible assumption | with_reducible intro _ | with_reducible apply State.fireBias_keeps
    | with_reducible apply Keeps.ite | with_reducible apply OutKeeps.next | fail_if_no_progress (with_reducible apply Keeps.upd)
    | split | (dsimp only; split))

theorem execBiasTriggerTimeout_keeps {a : State} (tile dac : Nat) (s : State) (hk : Keeps a s) :
    OutKeeps a (execBiasTriggerTimeout tile dac s) := by
  unfold execBiasTriggerTimeout
  repeat' (first
    | with_reducible assumption | with_reducible intro _ | with_reducible apply State.fireBias_keeps
    | with_reducible apply Keeps.ite | with_reducible apply OutKeeps.next | fail_if_no_progress (with_reducible apply Keeps.upd)
    | split | (dsimp only; split))

theorem execBiasSpanSwitch_keeps {a : State} (tile dac : Nat) (s : State) (hk : Keeps a s) :
    OutKeeps a (execBiasSpanSwitch tile dac s) := by
  unfold execBiasSpanSwitch
  repeat' (first
    | with_reducible assumption | with_reducible intro _ | with_reducible apply State.setBiasDac_keeps
    | with_reducible apply State.put_keeps | with_reducible apply Keeps.ite | with_reducible apply OutKeeps.next
    | fail_if_no_progress (with_reducible apply Keeps.upd) | split | (dsimp only; split))

theorem execBiasSafePhaseEnd_keeps {a : State} (tile dac : Nat) (s : State) (hk : Keeps a s) :
    OutKeeps a (execBiasSafePhaseEnd tile dac s) := by
  unfold execBiasSafePhaseEnd
  repeat' (first
    | with_reducible assumption | with_reducible intro _ | with_reducible apply State.endSpanChange_keeps
    | with_reducible apply State.setBiasDac_keeps | with_reducible apply Keeps.ite | with_reducible apply OutKeeps.next
    | fail_if_no_progress (with_reducible apply Keeps.upd) | split | (dsimp only; split))

theorem State.ddsPlan_keeps {a : State} (s : State) (c : DdsToneCmd) (hk : Keeps a s) :
    Keeps a (State.ddsPlan s c) := by
  unfold State.ddsPlan
  repeat' (first
    | with_reducible assumption | with_reducible intro _ | with_reducible apply State.each_keeps
    | with_reducible apply State.put_keeps | with_reducible apply Keeps.ite | fail_if_no_progress (with_reducible apply Keeps.upd)
    | split)

theorem State.applyDdsTone_keeps {a : State} (s : State) (h : Hdr) (c : DdsToneCmd) (hk : Keeps a s) :
    Keeps a (State.applyDdsTone s h c) := by
  unfold State.applyDdsTone
  repeat' (first
    | with_reducible assumption | with_reducible intro _ | with_reducible apply State.ddsPlan_keeps
    | with_reducible apply State.completeTx_keeps | split)

theorem execDdsTone_keeps {a : State} (h : Hdr) (c : DdsToneCmd) (s : State) (hk : Keeps a s) :
    OutKeeps a (execDdsTone h c s) := by
  unfold execDdsTone
  repeat' (first
    | with_reducible assumption | with_reducible intro _ | with_reducible apply State.acceptTimed_keeps
    | with_reducible apply OutKeeps.next | split)

theorem execTxSatSummary_keeps {a : State} (tile : Nat) (s : State) (hk : Keeps a s) :
    OutKeeps a (execTxSatSummary tile s) := by
  unfold execTxSatSummary
  repeat' (first
    | with_reducible assumption | with_reducible intro _ | with_reducible apply State.event_keeps | with_reducible apply Keeps.ite
    | with_reducible apply OutKeeps.next | fail_if_no_progress (with_reducible apply Keeps.upd) | split)

theorem execFeDelayApply_keeps {a : State} (s : State) (hk : Keeps a s) :
    OutKeeps a (execFeDelayApply s) := by
  unfold execFeDelayApply
  repeat' (first
    | with_reducible assumption | with_reducible intro _ | with_reducible apply State.refreshPlan_keeps
    | with_reducible apply State.each_keeps | with_reducible apply Keeps.ite | with_reducible apply OutKeeps.next
    | fail_if_no_progress (with_reducible apply Keeps.upd) | split)

end Sys2Proof.Machine
end

