-- ==== Sys2Proof/Laws/KeepsReceive.lean ====
section
/-! SUPPORT. What the operations of Receive keep: the queue and the canonical form of the stores. -/
set_option linter.unreachableTactic false
set_option linter.unusedTactic false

namespace Sys2Proof.Machine
open Sys2Proof

theorem State.rxCarrierPlan_keeps {a : State} (s : State) (c : RxCarrierCmd) (hk : Keeps a s) :
    Keeps a (State.rxCarrierPlan s c) := by
  unfold State.rxCarrierPlan
  repeat' (first
    | with_reducible assumption | with_reducible intro _ | with_reducible apply State.each_keeps
    | with_reducible apply State.put_keeps | with_reducible apply Keeps.ite | fail_if_no_progress (with_reducible apply Keeps.upd)
    | split)

theorem State.taintCarrier_keeps {a : State} (s : State) (p c until_ : Nat) (hk : Keeps a s) :
    Keeps a (State.taintCarrier s p c until_) := by
  unfold State.taintCarrier
  repeat' (first
    | with_reducible assumption | with_reducible intro _ | fail_if_no_progress (with_reducible apply Keeps.upd) | split)

theorem State.taintPath_keeps {a : State} (s : State) (p until_ : Nat) (hk : Keeps a s) :
    Keeps a (State.taintPath s p until_) := by
  unfold State.taintPath
  repeat' (first
    | with_reducible assumption | with_reducible intro _ | fail_if_no_progress (with_reducible apply Keeps.upd) | split)

theorem State.taintChange_keeps {a : State} (s : State) (n : Nat) (c : RxCarrierCmd) (hk : Keeps a s) :
    Keeps a (State.taintChange s n c) := by
  unfold State.taintChange
  repeat' (first
    | with_reducible assumption | with_reducible intro _ | with_reducible apply State.taintCarrier_keeps
    | with_reducible apply State.each_keeps | with_reducible apply Keeps.ite | fail_if_no_progress (with_reducible apply Keeps.upd)
    | split | (dsimp only; split))

theorem State.abortOccasions_keeps {a : State} (s : State) (carrier : Nat) (hk : Keeps a s) :
    Keeps a (State.abortOccasions s carrier) := by
  unfold State.abortOccasions
  repeat' (first
    | with_reducible assumption | with_reducible intro _ | with_reducible apply State.setF_keeps | with_reducible apply Keeps.ite
    | fail_if_no_progress (with_reducible apply Keeps.upd) | split | (dsimp only; split))

theorem State.applyRxCarrier_keeps {a : State} (s : State) (h : Hdr) (c : RxCarrierCmd) (hk : Keeps a s) :
    Keeps a (State.applyRxCarrier s h c) := by
  unfold State.applyRxCarrier
  repeat' (first
    | with_reducible assumption | with_reducible intro _ | with_reducible apply State.abortOccasions_keeps
    | with_reducible apply State.taintChange_keeps | with_reducible apply State.rxCarrierPlan_keeps
    | with_reducible apply State.tapStop_keeps | with_reducible apply State.refreshPlan_keeps
    | with_reducible apply State.complete_keeps | with_reducible apply State.each_keeps | with_reducible apply Keeps.ite | split)

theorem execRxCarrier_keeps {a : State} (h : Hdr) (c : RxCarrierCmd) (s : State) (hk : Keeps a s) :
    OutKeeps a (execRxCarrier h c s) := by
  unfold execRxCarrier
  repeat' (first
    | with_reducible assumption | with_reducible intro _ | with_reducible apply State.acceptTimed_keeps
    | with_reducible apply OutKeeps.next | split)

theorem State.rxExtractPlan_keeps {a : State} (s : State) (c : RxExtractCmd) (hk : Keeps a s) :
    Keeps a (State.rxExtractPlan s c) := by
  unfold State.rxExtractPlan
  repeat' (first
    | with_reducible assumption | with_reducible intro _ | with_reducible apply State.each_keeps
    | with_reducible apply State.put_keeps | with_reducible apply Keeps.ite | fail_if_no_progress (with_reducible apply Keeps.upd)
    | split)

theorem State.applyRxExtract_keeps {a : State} (s : State) (h : Hdr) (c : RxExtractCmd) (hk : Keeps a s) :
    Keeps a (State.applyRxExtract s h c) := by
  unfold State.applyRxExtract
  repeat' (first
    | with_reducible assumption | with_reducible intro _ | with_reducible apply State.rxExtractPlan_keeps
    | with_reducible apply State.complete_keeps | split)

theorem execRxExtract_keeps {a : State} (h : Hdr) (c : RxExtractCmd) (s : State) (hk : Keeps a s) :
    OutKeeps a (execRxExtract h c s) := by
  unfold execRxExtract
  repeat' (first
    | with_reducible assumption | with_reducible intro _ | with_reducible apply State.acceptTimed_keeps
    | with_reducible apply OutKeeps.next | split)

theorem State.addSync_keeps {a : State} (s : State) (p : PendingSync) (hk : Keeps a s) :
    Keeps a (State.addSync s p) := by
  unfold State.addSync
  repeat' (first
    | with_reducible assumption | with_reducible intro _ | fail_if_no_progress (with_reducible apply Keeps.upd) | split)

theorem State.sendPanelSync_keeps {a : State} (s : State) (h : Hdr) (hk : Keeps a s) :
    Keeps a (State.sendPanelSync s h) := by
  unfold State.sendPanelSync
  repeat' (first
    | with_reducible assumption | with_reducible intro _ | with_reducible apply State.culSend_keeps | with_reducible apply Keeps.ite
    | split)

theorem execRxSync_keeps {a : State} (h : Hdr) (panel : Bool) (s : State) (hk : Keeps a s) :
    OutKeeps a (execRxSync h panel s) := by
  unfold execRxSync
  repeat' (first
    | with_reducible assumption | with_reducible intro _ | with_reducible apply State.sendPanelSync_keeps
    | with_reducible apply State.acceptTimedK_keeps | with_reducible apply State.hold_keeps
    | with_reducible apply State.completeR_keeps | with_reducible apply State.when_keeps | with_reducible apply Keeps.ite
    | with_reducible apply OutKeeps.next | split)

theorem State.applyRxSync_keeps {a : State} (s : State) (h : Hdr) (panel : Bool) (hk : Keeps a s) :
    Keeps a (State.applyRxSync s h panel) := by
  unfold State.applyRxSync
  repeat' (first
    | with_reducible assumption | with_reducible intro _ | with_reducible apply State.addSync_keeps
    | with_reducible apply State.complete_keeps | with_reducible apply Keeps.ite | split)

theorem execSyncInEdge_keeps {a : State} (s : State) (hk : Keeps a s) :
    OutKeeps a (execSyncInEdge s) := by
  unfold execSyncInEdge
  repeat' (first
    | with_reducible assumption | with_reducible intro _ | with_reducible apply State.addSync_keeps
    | with_reducible apply State.setF_keeps | with_reducible apply State.put_keeps | with_reducible apply Keeps.ite
    | with_reducible apply OutKeeps.next | split)

theorem State.syncRecord_keeps {a : State} (s : State) (nop : Bool) (source missing edge : Nat) (hk : Keeps a s) :
    Keeps a (State.syncRecord s nop source missing edge) := by
  unfold State.syncRecord
  repeat' (first
    | with_reducible assumption | with_reducible intro _ | with_reducible apply State.event_keeps | split)

theorem State.applySync_keeps {a : State} (s : State) (edge : Nat) (hk : Keeps a s) :
    Keeps a (State.applySync s edge) := by
  unfold State.applySync
  repeat' (first
    | with_reducible assumption | with_reducible intro _ | with_reducible apply State.taintPath_keeps
    | with_reducible apply State.each_keeps | with_reducible apply State.setF_keeps | with_reducible apply State.put_keeps
    | with_reducible apply Keeps.ite | fail_if_no_progress (with_reducible apply Keeps.upd) | split)

theorem execSyncEvent_keeps {a : State} (s : State) (hk : Keeps a s) :
    OutKeeps a (execSyncEvent s) := by
  unfold execSyncEvent
  repeat' (first
    | with_reducible assumption | with_reducible intro _ | with_reducible apply State.applySync_keeps
    | with_reducible apply State.syncRecord_keeps | with_reducible apply State.culSend_keeps | with_reducible apply State.when_keeps
    | with_reducible apply Keeps.foldl | with_reducible apply Keeps.foldl1 | with_reducible apply Keeps.foldl2
    | with_reducible apply Keeps.ite | with_reducible apply OutKeeps.next | fail_if_no_progress (with_reducible apply Keeps.upd)
    | split | (dsimp only; split))

theorem State.endPanelSync_keeps {a : State} (s : State) (c : PanelConfirm) (hk : Keeps a s) :
    Keeps a (State.endPanelSync s c) := by
  unfold State.endPanelSync
  repeat' (first
    | with_reducible assumption | with_reducible intro _ | with_reducible apply State.syncRecord_keeps
    | with_reducible apply State.complete_keeps | with_reducible apply State.setF_keeps | with_reducible apply Keeps.ite
    | fail_if_no_progress (with_reducible apply Keeps.upd) | split)

theorem execSyncConfirmTimeout_keeps {a : State} (s : State) (hk : Keeps a s) :
    OutKeeps a (execSyncConfirmTimeout s) := by
  unfold execSyncConfirmTimeout
  repeat' (first
    | with_reducible assumption | with_reducible intro _ | with_reducible apply State.endPanelSync_keeps
    | with_reducible apply Keeps.ite | with_reducible apply OutKeeps.next | fail_if_no_progress (with_reducible apply Keeps.upd)
    | split | (dsimp only; split))

theorem State.putTileBit_keeps {a : State} (s : State) (f : Field) (p : Nat) (b : Bool) (hk : Keeps a s) :
    Keeps a (State.putTileBit s f p b) := by
  unfold State.putTileBit
  repeat' (first
    | with_reducible assumption | with_reducible intro _ | with_reducible apply State.put_keeps | split)

theorem execOverloadEpisodeStart_keeps {a : State} (path : Nat) (s : State) (hk : Keeps a s) :
    OutKeeps a (execOverloadEpisodeStart path s) := by
  unfold execOverloadEpisodeStart
  repeat' (first
    | with_reducible assumption | with_reducible intro _ | with_reducible apply State.putTileBit_keeps
    | with_reducible apply State.taintPath_keeps | with_reducible apply State.add64_keeps | with_reducible apply Keeps.ite
    | with_reducible apply OutKeeps.next | fail_if_no_progress (with_reducible apply Keeps.upd) | split)

theorem execOverloadProtect_keeps {a : State} (path : Nat) (s : State) (hk : Keeps a s) :
    OutKeeps a (execOverloadProtect path s) := by
  unfold execOverloadProtect
  repeat' (first
    | with_reducible assumption | with_reducible intro _ | with_reducible apply State.putTileBit_keeps
    | with_reducible apply State.enterProtect_keeps | with_reducible apply State.modStrobes_keeps | with_reducible apply Keeps.ite
    | with_reducible apply OutKeeps.next | fail_if_no_progress (with_reducible apply Keeps.upd) | split | (dsimp only; split))

theorem execOverloadEpisodeEnd_keeps {a : State} (path length : Nat) (s : State) (hk : Keeps a s) :
    OutKeeps a (execOverloadEpisodeEnd path length s) := by
  unfold execOverloadEpisodeEnd
  repeat' (first
    | with_reducible assumption | with_reducible intro _ | with_reducible apply State.putTileBit_keeps
    | with_reducible apply State.taintPath_keeps | with_reducible apply State.modProtect_keeps
    | with_reducible apply State.event_keeps | with_reducible apply Keeps.ite | with_reducible apply OutKeeps.next
    | fail_if_no_progress (with_reducible apply Keeps.upd) | split | (dsimp only; split))

theorem execRxSatSummary_keeps {a : State} (tile : Nat) (s : State) (hk : Keeps a s) :
    OutKeeps a (execRxSatSummary tile s) := by
  unfold execRxSatSummary
  repeat' (first
    | with_reducible assumption | with_reducible intro _ | with_reducible apply State.event_keeps | with_reducible apply Keeps.ite
    | with_reducible apply OutKeeps.next | fail_if_no_progress (with_reducible apply Keeps.upd) | split)

theorem execExtractionDrops_keeps {a : State} (tile : Nat) (s : State) (hk : Keeps a s) :
    OutKeeps a (execExtractionDrops tile s) := by
  unfold execExtractionDrops
  repeat' (first
    | with_reducible assumption | with_reducible intro _ | with_reducible apply State.event_keeps
    | with_reducible apply State.each_keeps | with_reducible apply OutKeeps.next
    | fail_if_no_progress (with_reducible apply Keeps.upd) | split | (dsimp only; split))

end Sys2Proof.Machine
end

