-- ==== Sys2Proof/Laws/KeepsLevee.lean ====
section
/-! SUPPORT. What the operations of Levee keep: the queue and the canonical form of the stores. -/
set_option linter.unreachableTactic false
set_option linter.unusedTactic false

namespace Sys2Proof.Machine
open Sys2Proof

theorem State.showLimits_keeps {a : State} (s : State) (words : List Nat) (version : Nat) (hk : Keeps a s) :
    Keeps a (State.showLimits s words version) := by
  unfold State.showLimits
  repeat' (first
    | with_reducible assumption | with_reducible intro _ | with_reducible apply State.each_keeps
    | with_reducible apply State.put_keeps | with_reducible apply State.wr_keeps | split)

theorem State.showNoLimits_keeps {a : State} (s : State) (noCert : Bool) (hk : Keeps a s) :
    Keeps a (State.showNoLimits s noCert) := by
  unfold State.showNoLimits
  repeat' (first
    | with_reducible assumption | with_reducible intro _ | with_reducible apply State.each_keeps
    | with_reducible apply State.put_keeps | with_reducible apply State.wr_keeps | split)

theorem State.enforceLimits_keeps {a : State} (s : State) (hk : Keeps a s) :
    Keeps a (State.enforceLimits s) := by
  unfold State.enforceLimits
  repeat' (first
    | with_reducible assumption | with_reducible intro _ | with_reducible apply State.refreshPlan_keeps
    | with_reducible apply State.event_keeps | with_reducible apply State.when_keeps | with_reducible apply State.each_keeps
    | fail_if_no_progress (with_reducible apply Keeps.upd) | split)

theorem State.withholdAll_keeps {a : State} (s : State) (reason : Nat) (hk : Keeps a s) :
    Keeps a (State.withholdAll s reason) := by
  unfold State.withholdAll
  repeat' (first
    | with_reducible assumption | with_reducible intro _ | with_reducible apply State.withhold_keeps
    | with_reducible apply State.each_keeps | split)

theorem execLimitsInForce_keeps {a : State} (s : State) (hk : Keeps a s) :
    OutKeeps a (execLimitsInForce s) := by
  unfold execLimitsInForce
  repeat' (first
    | with_reducible assumption | with_reducible intro _ | with_reducible apply State.withholdAll_keeps
    | with_reducible apply State.enforceLimits_keeps | with_reducible apply State.showLimits_keeps
    | with_reducible apply State.event_keeps | with_reducible apply State.when_keeps | with_reducible apply State.put_keeps
    | with_reducible apply Keeps.ite | with_reducible apply OutKeeps.next | fail_if_no_progress (with_reducible apply Keeps.upd)
    | split | (dsimp only; split))

theorem execLeveeCert_keeps {a : State} (h : Hdr) (addr : Nat) (s : State) (hk : Keeps a s) :
    OutKeeps a (execLeveeCert h addr s) := by
  unfold execLeveeCert
  repeat' (first
    | with_reducible assumption | with_reducible intro _ | with_reducible apply State.seaSubmit_keeps
    | with_reducible apply State.acceptNow_keeps | with_reducible apply OutKeeps.next | split)

theorem State.leveeMeter_keeps {a : State} (s : State) (powers : List (Nat × Int)) (hk : Keeps a s) :
    Keeps a (State.leveeMeter s powers) := by
  unfold State.leveeMeter
  repeat' (first
    | with_reducible assumption | with_reducible intro _ | with_reducible apply State.leveeCapture_keeps
    | with_reducible apply State.when_keeps | with_reducible apply State.each_keeps | with_reducible apply Keeps.ite
    | fail_if_no_progress (with_reducible apply Keeps.upd) | split)

theorem State.obsFail_keeps {a : State} (s : State) (n : Nat) (hk : Keeps a s) :
    Keeps a (State.obsFail s n) := by
  unfold State.obsFail
  repeat' (first
    | with_reducible assumption | with_reducible intro _ | with_reducible apply State.mutePath_keeps
    | with_reducible apply State.event_keeps | with_reducible apply State.each_keeps | with_reducible apply State.put_keeps
    | with_reducible apply Keeps.ite | fail_if_no_progress (with_reducible apply Keeps.upd) | split)

theorem State.obsRestore_keeps {a : State} (s : State) (n : Nat) (hk : Keeps a s) :
    Keeps a (State.obsRestore s n) := by
  unfold State.obsRestore
  repeat' (first
    | with_reducible assumption | with_reducible intro _ | with_reducible apply State.unmutePath_keeps
    | with_reducible apply State.event_keeps | with_reducible apply State.each_keeps | with_reducible apply State.put_keeps
    | with_reducible apply Keeps.ite | fail_if_no_progress (with_reducible apply Keeps.upd) | split | (dsimp only; split))

theorem State.takeDwell_keeps {a : State} (s : State) (p : Nat) (cpl mean : Int) (hk : Keeps a s) :
    Keeps a (State.takeDwell s p cpl mean) := by
  unfold State.takeDwell
  repeat' (first
    | with_reducible assumption | with_reducible intro _ | with_reducible apply State.mutePath_keeps
    | with_reducible apply Keeps.ite | fail_if_no_progress (with_reducible apply Keeps.upd) | split)

theorem execLeveeDwell_keeps {a : State} (path : Nat) (o : DwellObs) (s : State) (hk : Keeps a s) :
    OutKeeps a (execLeveeDwell path o s) := by
  unfold execLeveeDwell
  repeat' (first
    | with_reducible assumption | with_reducible intro _ | with_reducible apply State.takeDwell_keeps
    | with_reducible apply State.obsFail_keeps | with_reducible apply Keeps.ite | with_reducible apply OutKeeps.next
    | fail_if_no_progress (with_reducible apply Keeps.upd) | split | (dsimp only; split))

theorem execObsReferenceCheck_keeps {a : State} (tile : Nat) (passed samples : Bool) (s : State) (hk : Keeps a s) :
    OutKeeps a (execObsReferenceCheck tile passed samples s) := by
  unfold execObsReferenceCheck
  repeat' (first
    | with_reducible assumption | with_reducible intro _ | with_reducible apply State.obsRestore_keeps
    | with_reducible apply State.obsFail_keeps | with_reducible apply Keeps.ite | with_reducible apply OutKeeps.next
    | fail_if_no_progress (with_reducible apply Keeps.upd) | split)

theorem State.applyUnmute_keeps {a : State} (s : State) (h : Hdr) (mask : Nat) (hk : Keeps a s) :
    Keeps a (State.applyUnmute s h mask) := by
  unfold State.applyUnmute
  repeat' (first
    | with_reducible assumption | with_reducible intro _ | with_reducible apply State.unmutePath_keeps
    | with_reducible apply State.complete_keeps | with_reducible apply State.each_keeps
    | fail_if_no_progress (with_reducible apply Keeps.upd) | split)

theorem execLeveeUnmute_keeps {a : State} (h : Hdr) (mask : Nat) (s : State) (hk : Keeps a s) :
    OutKeeps a (execLeveeUnmute h mask s) := by
  unfold execLeveeUnmute
  repeat' (first
    | with_reducible assumption | with_reducible intro _ | with_reducible apply State.applyUnmute_keeps
    | with_reducible apply State.acceptNow_keeps | with_reducible apply OutKeeps.next | split)

theorem execBlankingSummary_keeps {a : State} (s : State) (hk : Keeps a s) :
    OutKeeps a (execBlankingSummary s) := by
  unfold execBlankingSummary
  repeat' (first
    | with_reducible assumption | with_reducible intro _ | with_reducible apply State.event_keeps
    | with_reducible apply State.each_keeps | with_reducible apply Keeps.ite | with_reducible apply OutKeeps.next
    | fail_if_no_progress (with_reducible apply Keeps.upd) | split)

end Sys2Proof.Machine
end

