-- ==== Sys2Proof/Laws/KeepsRestart.lean ====
section
/-! SUPPORT. What the operations of Restart keep: the queue and the canonical form of the stores. -/
set_option linter.unreachableTactic false
set_option linter.unusedTactic false

namespace Sys2Proof.Machine
open Sys2Proof

/-- A fold of writes keeps the canonical form. -/
theorem Sparse.foldl_wf {w : Nat} {α : Type} (f : Sparse w → α → Sparse w) (hf : ∀ m x, m.wf = true → (f m x).wf = true) (l : List α)
    (m : Sparse w) (h : m.wf = true) : (l.foldl f m).wf = true := by
  induction l generalizing m with
  | nil => exact h
  | cons x t ih => exact ih _ (hf _ _ h)

theorem resetRegs_wf : Sparse.wf resetRegs = true :=
  Sparse.foldl_wf _ (fun _ _ h => Sparse.write_wf _ _ h) _ _ rfl

theorem State.restartRegs_wf (s : State) (cause : Nat) (aonLost : Bool) : Sparse.wf (s.restartRegs cause aonLost) = true :=
  Sparse.write_wf _ _ (Sparse.write_wf _ _ (Sparse.write_wf _ _
    (Sparse.foldl_wf _ (fun _ _ h => Sparse.write_wf _ _ h) _ _ resetRegs_wf)))

theorem State.restart_keeps {a : State} (s : State) (cause : Nat) (aonLost : Bool) (hk : Keeps a s) :
    Keeps a (State.restart s cause aonLost) :=
  ⟨hk.queue, fun x => ⟨s.restartRegs_wf cause aonLost, (hk.mem x).2.1, rfl⟩⟩

theorem State.milestone_keeps {a : State} (s : State) (step tile : Nat) (hk : Keeps a s) :
    Keeps a (State.milestone s step tile) := by
  unfold State.milestone
  repeat' (first
    | with_reducible assumption | with_reducible intro _ | with_reducible apply State.event_keeps
    | fail_if_no_progress (with_reducible apply Keeps.upd) | split)

end Sys2Proof.Machine
end

