-- ==== Sys2Proof/Laws/KeepsRadio.lean ====
section
/-! SUPPORT. What the operations of Radio keep: the queue and the canonical form of the stores. -/
set_option linter.unreachableTactic false
set_option linter.unusedTactic false

namespace Sys2Proof.Machine
open Sys2Proof

theorem State.startSynthCal_keeps {a : State} (s : State) (cause : Nat) (hdrs : List Hdr) (hk : Keeps a s) :
    Keeps a (State.startSynthCal s cause hdrs) := by
  unfold State.startSynthCal
  repeat' (first
    | with_reducible assumption | with_reducible intro _ | with_reducible apply State.put_keeps
    | fail_if_no_progress (with_reducible apply Keeps.upd) | split)

theorem execSynRecal_keeps {a : State} (h : Hdr) (s : State) (hk : Keeps a s) :
    OutKeeps a (execSynRecal h s) := by
  unfold execSynRecal
  repeat' (first
    | with_reducible assumption | with_reducible intro _ | with_reducible apply State.acceptTimed_keeps
    | with_reducible apply OutKeeps.next | split)

theorem State.applySynRecal_keeps {a : State} (s : State) (h : Hdr) (hk : Keeps a s) :
    Keeps a (State.applySynRecal s h) := by
  unfold State.applySynRecal
  repeat' (first
    | with_reducible assumption | with_reducible intro _ | with_reducible apply State.startSynthCal_keeps
    | with_reducible apply State.complete_keeps | with_reducible apply Keeps.ite
    | fail_if_no_progress (with_reducible apply Keeps.upd) | split | (dsimp only; split))

theorem State.synthLost_keeps {a : State} (s : State) (which : Nat) (hk : Keeps a s) :
    Keeps a (State.synthLost s which) := by
  unfold State.synthLost
  repeat' (first
    | with_reducible assumption | with_reducible intro _ | with_reducible apply State.startSynthCal_keeps
    | with_reducible apply State.event_keeps | with_reducible apply State.when_keeps | with_reducible apply State.setF_keeps
    | with_reducible apply State.put_keeps | with_reducible apply Keeps.ite | fail_if_no_progress (with_reducible apply Keeps.upd)
    | split)

theorem execSynthLockLost_keeps {a : State} (which : Nat) (s : State) (hk : Keeps a s) :
    OutKeeps a (execSynthLockLost which s) := by
  unfold execSynthLockLost
  repeat' (first
    | with_reducible assumption | with_reducible intro _ | with_reducible apply State.synthLost_keeps
    | with_reducible apply OutKeeps.next | split)

theorem execSynthCalibrationDone_keeps {a : State} (calUs : Nat) (s : State) (hk : Keeps a s) :
    OutKeeps a (execSynthCalibrationDone calUs s) := by
  unfold execSynthCalibrationDone
  repeat' (first
    | with_reducible assumption | with_reducible intro _ | with_reducible apply State.milestone_keeps
    | with_reducible apply State.complete_keeps | with_reducible apply State.event_keeps | with_reducible apply State.each_keeps
    | with_reducible apply State.setF_keeps | with_reducible apply State.put_keeps | with_reducible apply Keeps.ite
    | with_reducible apply OutKeeps.next | fail_if_no_progress (with_reducible apply Keeps.upd) | split | (dsimp only; split))

theorem State.patternPlan_keeps {a : State} (s : State) (pattern tileMask period : Nat) (codes : List Nat) (hk : Keeps a s) :
    Keeps a (State.patternPlan s pattern tileMask period codes) := by
  unfold State.patternPlan
  repeat' (first
    | with_reducible assumption | with_reducible intro _ | with_reducible apply State.each_keeps
    | with_reducible apply State.put_keeps | fail_if_no_progress (with_reducible apply Keeps.upd) | split)

theorem State.applyRctPattern_keeps {a : State} (s : State) (h : Hdr) (pattern tileMask period : Nat) (codes : List Nat)
    (hk : Keeps a s) :
    Keeps a (State.applyRctPattern s h pattern tileMask period codes) := by
  unfold State.applyRctPattern
  repeat' (first
    | with_reducible assumption | with_reducible intro _ | with_reducible apply State.patternPlan_keeps
    | with_reducible apply State.withhold_keeps | with_reducible apply State.complete_keeps | with_reducible apply State.each_keeps
    | split)

theorem execRctPattern_keeps {a : State} (h : Hdr) (pattern tileMask period addr : Nat) (s : State) (hk : Keeps a s) :
    OutKeeps a (execRctPattern h pattern tileMask period addr s) := by
  unfold execRctPattern
  repeat' (first
    | with_reducible assumption | with_reducible intro _ | with_reducible apply State.acceptTimedK_keeps
    | with_reducible apply State.hold_keeps | with_reducible apply OutKeeps.next | split)

theorem execPatternBind_keeps {a : State} (tile : Nat) (s : State) (hk : Keeps a s) :
    OutKeeps a (execPatternBind tile s) := by
  unfold execPatternBind
  repeat' (first
    | with_reducible assumption | with_reducible intro _ | with_reducible apply State.withhold_keeps
    | with_reducible apply Keeps.ite | with_reducible apply OutKeeps.next | fail_if_no_progress (with_reducible apply Keeps.upd)
    | split | (dsimp only; split))

theorem execTimingApply_keeps {a : State} (tile : Nat) (s : State) (hk : Keeps a s) :
    OutKeeps a (execTimingApply tile s) := by
  unfold execTimingApply
  repeat' (first
    | with_reducible assumption | with_reducible intro _ | with_reducible apply Keeps.ite | with_reducible apply OutKeeps.next
    | fail_if_no_progress (with_reducible apply Keeps.upd) | split | (dsimp only; split))

theorem execDriftRecalibration_keeps {a : State} (s : State) (hk : Keeps a s) :
    OutKeeps a (execDriftRecalibration s) := by
  unfold execDriftRecalibration
  repeat' (first
    | with_reducible assumption | with_reducible intro _ | with_reducible apply State.startSynthCal_keeps
    | with_reducible apply Keeps.ite | with_reducible apply OutKeeps.next | fail_if_no_progress (with_reducible apply Keeps.upd)
    | split | (dsimp only; split))

theorem execProtectHoldExpiry_keeps {a : State} (tile : Nat) (s : State) (hk : Keeps a s) :
    OutKeeps a (execProtectHoldExpiry tile s) := by
  unfold execProtectHoldExpiry
  repeat' (first
    | with_reducible assumption | with_reducible intro _ | with_reducible apply State.leaveProtect_keeps
    | with_reducible apply Keeps.ite | with_reducible apply OutKeeps.next | fail_if_no_progress (with_reducible apply Keeps.upd)
    | split | (dsimp only; split))

theorem State.modCoex_keeps {a : State} (s : State) (k : Nat) (f : CoexPair → CoexPair) (hk : Keeps a s) :
    Keeps a (State.modCoex s k f) := by
  unfold State.modCoex
  repeat' (first
    | with_reducible assumption | with_reducible intro _ | fail_if_no_progress (with_reducible apply Keeps.upd) | split)

theorem execCoexGntChange_keeps {a : State} (pair : Nat) (granted : Bool) (s : State) (hk : Keeps a s) :
    OutKeeps a (execCoexGntChange pair granted s) := by
  unfold execCoexGntChange
  repeat' (first
    | with_reducible assumption | with_reducible intro _ | with_reducible apply State.modCoex_keeps
    | with_reducible apply State.countBlank_keeps | with_reducible apply State.withhold_keeps
    | with_reducible apply State.setTileState_keeps | with_reducible apply State.each_keeps | with_reducible apply Keeps.ite
    | with_reducible apply OutKeeps.next | fail_if_no_progress (with_reducible apply Keeps.upd) | split)

theorem execCoexReqChange_keeps {a : State} (pair : Nat) (requested : Bool) (s : State) (hk : Keeps a s) :
    OutKeeps a (execCoexReqChange pair requested s) := by
  unfold execCoexReqChange
  repeat' (first
    | with_reducible assumption | with_reducible intro _ | with_reducible apply State.modCoex_keeps
    | with_reducible apply State.withhold_keeps | with_reducible apply State.each_keeps | with_reducible apply Keeps.ite
    | with_reducible apply OutKeeps.next | fail_if_no_progress (with_reducible apply Keeps.upd) | split)

theorem State.coexTick_keeps {a : State} (s : State) (k : Nat) (hk : Keeps a s) :
    Keeps a (State.coexTick s k) := by
  unfold State.coexTick
  repeat' (first
    | with_reducible assumption | with_reducible intro _ | with_reducible apply State.modCoex_keeps | with_reducible apply Keeps.ite
    | fail_if_no_progress (with_reducible apply Keeps.upd) | split)

theorem State.coexBurstEnd_keeps {a : State} (s : State) (k : Nat) (abs : Int) (hk : Keeps a s) :
    Keeps a (State.coexBurstEnd s k abs) := by
  unfold State.coexBurstEnd
  repeat' (first
    | with_reducible assumption | with_reducible intro _ | with_reducible apply State.modCoex_keeps
    | with_reducible apply State.event_keeps | with_reducible apply Keeps.ite | fail_if_no_progress (with_reducible apply Keeps.upd)
    | split)

theorem State.rffePut_keeps {a : State} (s : State) (j : RffeJob) (hk : Keeps a s) :
    Keeps a (State.rffePut s j) := by
  unfold State.rffePut
  repeat' (first
    | with_reducible assumption | with_reducible intro _ | fail_if_no_progress (with_reducible apply Keeps.upd) | split)

theorem State.applyRffe_keeps {a : State} (s : State) (h : Hdr) (c : RffeCmd) (hk : Keeps a s) :
    Keeps a (State.applyRffe s h c) := by
  unfold State.applyRffe
  repeat' (first
    | with_reducible assumption | with_reducible intro _ | with_reducible apply State.rffePut_keeps | split)

theorem execRffeXfer_keeps {a : State} (h : Hdr) (c : RffeCmd) (s : State) (hk : Keeps a s) :
    OutKeeps a (execRffeXfer h c s) := by
  unfold execRffeXfer
  repeat' (first
    | with_reducible assumption | with_reducible intro _ | with_reducible apply State.rffePut_keeps
    | with_reducible apply State.acceptNow_keeps | with_reducible apply State.acceptTimedK_keeps
    | with_reducible apply State.hold_keeps | with_reducible apply State.completeR_keeps | with_reducible apply Keeps.ite
    | with_reducible apply OutKeeps.next | split)

theorem execRffeTransferDone_keeps {a : State} (tile : Nat) (results : List Nat) (failed : Option Nat) (s : State)
    (hk : Keeps a s) :
    OutKeeps a (execRffeTransferDone tile results failed s) := by
  unfold execRffeTransferDone
  repeat' (first
    | with_reducible assumption | with_reducible intro _ | with_reducible apply State.complete_keeps
    | with_reducible apply State.event_keeps | with_reducible apply State.hostWrite_keeps | with_reducible apply OutKeeps.next
    | fail_if_no_progress (with_reducible apply Keeps.upd) | split | (dsimp only; split))

theorem State.rffeStep5_keeps {a : State} (s : State) (n : Nat) (hk : Keeps a s) :
    Keeps a (State.rffeStep5 s n) := by
  unfold State.rffeStep5
  repeat' (first
    | with_reducible assumption | with_reducible intro _ | with_reducible apply Keeps.ite
    | fail_if_no_progress (with_reducible apply Keeps.upd) | split)

theorem execStrobeEdge_keeps {a : State} (tile step : Nat) (s : State) (hk : Keeps a s) :
    OutKeeps a (execStrobeEdge tile step s) := by
  unfold execStrobeEdge
  repeat' (first
    | with_reducible assumption | with_reducible intro _ | with_reducible apply State.rffeStep5_keeps
    | with_reducible apply State.modStrobes_keeps | with_reducible apply Keeps.ite | with_reducible apply OutKeeps.next
    | fail_if_no_progress (with_reducible apply Keeps.upd) | split)

theorem State.startSearch_keeps {a : State} (s : State) (tile mask rl : Nat) (hk : Keeps a s) :
    Keeps a (State.startSearch s tile mask rl) := by
  unfold State.startSearch
  repeat' (first
    | with_reducible assumption | with_reducible intro _ | fail_if_no_progress (with_reducible apply Keeps.upd) | split
    | (dsimp only; split))

theorem State.guardPath_keeps {a : State} (s : State) (p : Nat) (on : Bool) (hk : Keeps a s) :
    Keeps a (State.guardPath s p on) := by
  unfold State.guardPath
  repeat' (first
    | with_reducible assumption | with_reducible intro _ | with_reducible apply State.withhold_keeps
    | with_reducible apply State.paOff_keeps | with_reducible apply State.put_keeps | with_reducible apply Keeps.ite | split)

theorem execAerial_keeps {a : State} (h : Hdr) (tile pathMask : Nat) (search clear : Bool) (s : State) (hk : Keeps a s) :
    OutKeeps a (execAerial h tile pathMask search clear s) := by
  unfold execAerial
  repeat' (first
    | with_reducible assumption | with_reducible intro _ | with_reducible apply State.guardPath_keeps
    | with_reducible apply State.startSearch_keeps | with_reducible apply State.acceptNow_keeps
    | with_reducible apply State.complete_keeps | with_reducible apply State.event_keeps | with_reducible apply State.when_keeps
    | with_reducible apply State.each_keeps | with_reducible apply OutKeeps.next | split)

theorem execMismatchPair_keeps {a : State} (path : Nat) (fwd ref : Int) (s : State) (hk : Keeps a s) :
    OutKeeps a (execMismatchPair path fwd ref s) := by
  unfold execMismatchPair
  repeat' (first
    | with_reducible assumption | with_reducible intro _ | with_reducible apply State.guardPath_keeps
    | with_reducible apply State.startSearch_keeps | with_reducible apply State.event_keeps | with_reducible apply Keeps.ite
    | with_reducible apply OutKeeps.next | fail_if_no_progress (with_reducible apply Keeps.upd) | split | (dsimp only; split))

theorem execTunerTrial_keeps {a : State} (tile rl : Nat) (blanked : Bool) (s : State) (hk : Keeps a s) :
    OutKeeps a (execTunerTrial tile rl blanked s) := by
  unfold execTunerTrial
  repeat' (first
    | with_reducible assumption | with_reducible intro _ | with_reducible apply State.guardPath_keeps
    | with_reducible apply State.startSearch_keeps | with_reducible apply State.event_keeps | with_reducible apply Keeps.ite
    | with_reducible apply OutKeeps.next | fail_if_no_progress (with_reducible apply Keeps.upd) | split | (dsimp only; split))

end Sys2Proof.Machine
end

