-- ==== Sys2Proof/Laws/KeepsBeam.lean ====
section
/-! SUPPORT. What the operations of Beam keep: the queue and the canonical form of the stores. -/
set_option linter.unreachableTactic false
set_option linter.unusedTactic false

namespace Sys2Proof.Machine
open Sys2Proof

theorem State.bfPlan_keeps {a : State} (s : State) (carrier : Nat) (uplink : Bool) (layers ulShift prio : Nat) (hk : Keeps a s) :
    Keeps a (State.bfPlan s carrier uplink layers ulShift prio) := by
  unfold State.bfPlan
  repeat' (first
    | with_reducible assumption | with_reducible intro _ | with_reducible apply State.put_keeps | with_reducible apply Keeps.ite
    | fail_if_no_progress (with_reducible apply Keeps.upd) | split)

theorem State.applyBfLayers_keeps {a : State} (s : State) (h : Hdr) (carrier : Nat) (uplink : Bool) (layers ulShift prio : Nat)
    (hk : Keeps a s) :
    Keeps a (State.applyBfLayers s h carrier uplink layers ulShift prio) := by
  unfold State.applyBfLayers
  repeat' (first
    | with_reducible assumption | with_reducible intro _ | with_reducible apply State.bfPlan_keeps
    | with_reducible apply State.refreshPlan_keeps | with_reducible apply State.complete_keeps | split)

theorem execBfLayers_keeps {a : State} (h : Hdr) (carrier : Nat) (uplink : Bool) (layers ulShift prio : Nat) (s : State)
    (hk : Keeps a s) :
    OutKeeps a (execBfLayers h carrier uplink layers ulShift prio s) := by
  unfold execBfLayers
  repeat' (first
    | with_reducible assumption | with_reducible intro _ | with_reducible apply State.acceptTimed_keeps
    | with_reducible apply OutKeeps.next | split)

theorem State.blankLayers_keeps {a : State} (n : Nat) (s : State) (hk : Keeps a s) : Keeps a (State.blankLayers n s) := by
  induction n generalizing s with
  | zero => exact hk
  | succ n ih =>
    unfold State.blankLayers
    repeat' (first
      | with_reducible assumption | with_reducible apply ih | with_reducible apply Keeps.ite
      | fail_if_no_progress (with_reducible apply Keeps.upd) | split)

theorem State.blankEvents_keeps {a : State} (s : State) (kind : Nat) (l : List (Nat × Nat × Nat)) (hk : Keeps a s) :
    Keeps a (State.blankEvents s kind l) := by
  unfold State.blankEvents
  repeat' (first
    | with_reducible assumption | with_reducible intro _ | with_reducible apply State.event_keeps
    | with_reducible apply State.when_keeps | with_reducible apply State.each_keeps | split)

theorem State.t2Blank_keeps {a : State} (s : State) (hk : Keeps a s) :
    Keeps a (State.t2Blank s) := by
  unfold State.t2Blank
  repeat' (first
    | with_reducible assumption | with_reducible intro _ | with_reducible apply State.blankEvents_keeps
    | with_reducible apply State.blankLayers_keeps | with_reducible apply State.refreshPlan_keeps
    | with_reducible apply State.setF_keeps | with_reducible apply Keeps.ite | split)

theorem execT2Restore_keeps {a : State} (s : State) (hk : Keeps a s) :
    OutKeeps a (execT2Restore s) := by
  unfold execT2Restore
  repeat' (first
    | with_reducible assumption | with_reducible intro _ | with_reducible apply State.blankEvents_keeps
    | with_reducible apply State.refreshPlan_keeps | with_reducible apply Keeps.ite | with_reducible apply OutKeeps.next
    | fail_if_no_progress (with_reducible apply Keeps.upd) | split)

theorem State.showLoading_keeps {a : State} (s : State) (hk : Keeps a s) :
    Keeps a (State.showLoading s) := by
  unfold State.showLoading
  repeat' (first
    | with_reducible assumption | with_reducible intro _ | with_reducible apply State.put_keeps | split)

theorem State.writeOutcome_keeps {a : State} (s : State) (w : BeamWrite) (status : Nat) (hk : Keeps a s) :
    Keeps a (State.writeOutcome s w status) := by
  unfold State.writeOutcome
  repeat' (first
    | with_reducible assumption | with_reducible intro _ | with_reducible apply State.event_keeps
    | fail_if_no_progress (with_reducible apply Keeps.upd) | split | (dsimp only; split))

theorem State.queueWrite_keeps {a : State} (s : State) (w : BeamWrite) (hk : Keeps a s) :
    Keeps a (State.queueWrite s w) := by
  unfold State.queueWrite
  repeat' (first
    | with_reducible assumption | with_reducible intro _ | with_reducible apply State.writeOutcome_keeps
    | with_reducible apply State.setF_keeps | fail_if_no_progress (with_reducible apply Keeps.upd) | split | (dsimp only; split))

theorem State.startWrite_keeps {a : State} (s : State) (w : BeamWrite) (hk : Keeps a s) :
    Keeps a (State.startWrite s w) := by
  unfold State.startWrite
  repeat' (first
    | with_reducible assumption | with_reducible intro _ | with_reducible apply State.showLoading_keeps
    | fail_if_no_progress (with_reducible apply Keeps.upd) | split)

theorem State.flushPool_keeps {a : State} (s : State) (hk : Keeps a s) :
    Keeps a (State.flushPool s) := by
  unfold State.flushPool
  repeat' (first
    | with_reducible assumption | with_reducible intro _ | fail_if_no_progress (with_reducible apply Keeps.upd) | split)

theorem execBeamLoad_keeps {a : State} (h : Hdr) (c : BeamLoadCmd) (s : State) (hk : Keeps a s) :
    OutKeeps a (execBeamLoad h c s) := by
  unfold execBeamLoad
  repeat' (first
    | with_reducible assumption | with_reducible intro _ | with_reducible apply State.flushPool_keeps
    | with_reducible apply State.startWrite_keeps | with_reducible apply State.queueWrite_keeps
    | with_reducible apply State.acceptNow_keeps | with_reducible apply State.complete_keeps
    | with_reducible apply State.completeX_keeps | with_reducible apply Keeps.ite | with_reducible apply OutKeeps.next
    | fail_if_no_progress (with_reducible apply Keeps.upd) | split)

theorem State.doWrite_keeps {a : State} (s : State) (w : BeamWrite) (hk : Keeps a s) :
    Keeps a (State.doWrite s w) := by
  unfold State.doWrite
  repeat' (first
    | with_reducible assumption | with_reducible intro _ | with_reducible apply State.devWrite_keeps
    | with_reducible apply State.each_keeps | fail_if_no_progress (with_reducible apply Keeps.upd) | split)

theorem execBeamLoadComplete_keeps {a : State} (busOk : Bool) (s : State) (hk : Keeps a s) :
    OutKeeps a (execBeamLoadComplete busOk s) := by
  unfold execBeamLoadComplete
  repeat' (first
    | with_reducible assumption | with_reducible intro _ | with_reducible apply State.doWrite_keeps
    | with_reducible apply State.writeOutcome_keeps | with_reducible apply State.showLoading_keeps
    | with_reducible apply State.complete_keeps | with_reducible apply Keeps.ite | with_reducible apply OutKeeps.next
    | fail_if_no_progress (with_reducible apply Keeps.upd) | split | (dsimp only; split))

theorem execPoolFlushComplete_keeps {a : State} (s : State) (hk : Keeps a s) :
    OutKeeps a (execPoolFlushComplete s) := by
  unfold execPoolFlushComplete
  repeat' (first
    | with_reducible assumption | with_reducible intro _ | with_reducible apply State.complete_keeps
    | with_reducible apply State.each_keeps | with_reducible apply Keeps.ite | with_reducible apply OutKeeps.next
    | fail_if_no_progress (with_reducible apply Keeps.upd) | split)

theorem State.beginTransition_keeps {a : State} (s : State) (e : Int) (blend : Nat) (hk : Keeps a s) :
    Keeps a (State.beginTransition s e blend) := by
  unfold State.beginTransition
  repeat' (first
    | with_reducible assumption | with_reducible intro _ | with_reducible apply State.setF_keeps
    | with_reducible apply State.put_keeps | fail_if_no_progress (with_reducible apply Keeps.upd) | split)

theorem State.holdBeamSwap_keeps {a : State} (s : State) (q : HeldBeamSwap) (hk : Keeps a s) :
    Keeps a (State.holdBeamSwap s q) := by
  unfold State.holdBeamSwap
  repeat' (first
    | with_reducible assumption | with_reducible intro _ | with_reducible apply State.complete_keeps
    | with_reducible apply State.setF_keeps | fail_if_no_progress (with_reducible apply Keeps.upd) | split | (dsimp only; split))

theorem execBeamSwap_keeps {a : State} (h : Hdr) (blend : Nat) (s : State) (hk : Keeps a s) :
    OutKeeps a (execBeamSwap h blend s) := by
  unfold execBeamSwap
  repeat' (first
    | with_reducible assumption | with_reducible intro _ | with_reducible apply State.holdBeamSwap_keeps
    | with_reducible apply State.acceptTimedK_keeps | with_reducible apply State.hold_keeps | with_reducible apply Keeps.ite
    | with_reducible apply OutKeeps.next | split)

theorem State.flipBeams_keeps {a : State} (s : State) (hk : Keeps a s) :
    Keeps a (State.flipBeams s) := by
  unfold State.flipBeams
  repeat' (first
    | with_reducible assumption | with_reducible intro _ | with_reducible apply State.showLoading_keeps
    | with_reducible apply State.put_keeps | split)

theorem State.applyBeamSwap_keeps {a : State} (s : State) (h : Hdr) (hk : Keeps a s) :
    Keeps a (State.applyBeamSwap s h) := by
  unfold State.applyBeamSwap
  repeat' (first
    | with_reducible assumption | with_reducible intro _ | with_reducible apply State.flipBeams_keeps
    | with_reducible apply State.complete_keeps | split)

theorem execBeamTransitionEnd_keeps {a : State} (s : State) (hk : Keeps a s) :
    OutKeeps a (execBeamTransitionEnd s) := by
  unfold execBeamTransitionEnd
  repeat' (first
    | with_reducible assumption | with_reducible intro _ | with_reducible apply State.startWrite_keeps
    | with_reducible apply State.writeOutcome_keeps | with_reducible apply State.put_keeps | with_reducible apply Keeps.ite
    | with_reducible apply OutKeeps.next | fail_if_no_progress (with_reducible apply Keeps.upd) | split | (dsimp only; split))

theorem State.startHeldSwap_keeps {a : State} (s : State) (q : HeldBeamSwap) (hk : Keeps a s) :
    Keeps a (State.startHeldSwap s q) := by
  unfold State.startHeldSwap
  repeat' (first
    | with_reducible assumption | with_reducible intro _ | with_reducible apply State.beginTransition_keeps
    | with_reducible apply State.complete_keeps | with_reducible apply State.put_keeps | with_reducible apply Keeps.ite
    | fail_if_no_progress (with_reducible apply Keeps.upd) | split | (dsimp only; split))

theorem State.finishHeldSwap_keeps {a : State} (s : State) (q : HeldBeamSwap) (hk : Keeps a s) :
    Keeps a (State.finishHeldSwap s q) := by
  unfold State.finishHeldSwap
  repeat' (first
    | with_reducible assumption | with_reducible intro _ | with_reducible apply State.flipBeams_keeps
    | with_reducible apply State.complete_keeps | fail_if_no_progress (with_reducible apply Keeps.upd) | split | (dsimp only; split))

theorem execHeldBeamSwapStart_keeps {a : State} (s : State) (hk : Keeps a s) :
    OutKeeps a (execHeldBeamSwapStart s) := by
  unfold execHeldBeamSwapStart
  repeat' (first
    | with_reducible assumption | with_reducible intro _ | with_reducible apply State.finishHeldSwap_keeps
    | with_reducible apply State.startHeldSwap_keeps | with_reducible apply Keeps.ite | with_reducible apply OutKeeps.next
    | fail_if_no_progress (with_reducible apply Keeps.upd) | split | (dsimp only; split))

theorem State.demandPage_keeps {a : State} (s : State) (beam : Nat) (until_ : Int) (hk : Keeps a s) :
    Keeps a (State.demandPage s beam until_) := by
  unfold State.demandPage
  repeat' (first
    | with_reducible assumption | with_reducible intro _ | with_reducible apply State.setF_keeps | with_reducible apply Keeps.ite
    | fail_if_no_progress (with_reducible apply Keeps.upd) | split | (dsimp only; split))

theorem State.countMiss_keeps {a : State} (s : State) (beam prbs : Nat) (hk : Keeps a s) :
    Keeps a (State.countMiss s beam prbs) := by
  unfold State.countMiss
  repeat' (first
    | with_reducible assumption | with_reducible intro _ | with_reducible apply State.add64_keeps | with_reducible apply Keeps.ite
    | fail_if_no_progress (with_reducible apply Keeps.upd) | split)

theorem execPageLoadComplete_keeps {a : State} (entry : Nat) (s : State) (hk : Keeps a s) :
    OutKeeps a (execPageLoadComplete entry s) := by
  unfold execPageLoadComplete
  repeat' (first
    | with_reducible assumption | with_reducible intro _ | with_reducible apply State.devWrite_keeps
    | with_reducible apply Keeps.ite | with_reducible apply OutKeeps.next | fail_if_no_progress (with_reducible apply Keeps.upd)
    | split | (dsimp only; split))

theorem execPageMissSummary_keeps {a : State} (s : State) (hk : Keeps a s) :
    OutKeeps a (execPageMissSummary s) := by
  unfold execPageMissSummary
  repeat' (first
    | with_reducible assumption | with_reducible intro _ | with_reducible apply State.event_keeps | with_reducible apply Keeps.ite
    | with_reducible apply OutKeeps.next | fail_if_no_progress (with_reducible apply Keeps.upd) | split)

theorem State.covPlan_keeps {a : State} (s : State) (c : CovSetupCmd) (hk : Keeps a s) :
    Keeps a (State.covPlan s c) := by
  unfold State.covPlan
  repeat' (first
    | with_reducible assumption | with_reducible intro _ | with_reducible apply State.put_keeps | with_reducible apply Keeps.ite
    | fail_if_no_progress (with_reducible apply Keeps.upd) | split)

theorem State.showCov_keeps {a : State} (s : State) (hk : Keeps a s) :
    Keeps a (State.showCov s) := by
  unfold State.showCov
  repeat' (first
    | with_reducible assumption | with_reducible intro _ | with_reducible apply State.put_keeps | with_reducible apply Keeps.foldl
    | with_reducible apply Keeps.foldl1 | with_reducible apply Keeps.foldl2 | with_reducible apply Keeps.ite | split)

theorem State.applyCovSetup_keeps {a : State} (s : State) (h : Hdr) (c : CovSetupCmd) (hk : Keeps a s) :
    Keeps a (State.applyCovSetup s h c) := by
  unfold State.applyCovSetup
  repeat' (first
    | with_reducible assumption | with_reducible intro _ | with_reducible apply State.showCov_keeps
    | with_reducible apply State.covPlan_keeps | with_reducible apply State.refreshPlan_keeps
    | with_reducible apply State.complete_keeps | split)

theorem execCovSetup_keeps {a : State} (h : Hdr) (c : CovSetupCmd) (s : State) (hk : Keeps a s) :
    OutKeeps a (execCovSetup h c s) := by
  unfold execCovSetup
  repeat' (first
    | with_reducible assumption | with_reducible intro _ | with_reducible apply State.acceptTimed_keeps
    | with_reducible apply OutKeeps.next | split)

theorem execCovSolveStart_keeps {a : State} (carrier : Nat) (s : State) (hk : Keeps a s) :
    OutKeeps a (execCovSolveStart carrier s) := by
  unfold execCovSolveStart
  repeat' (first
    | with_reducible assumption | with_reducible intro _ | with_reducible apply State.setF_keeps | with_reducible apply Keeps.ite
    | with_reducible apply OutKeeps.next | fail_if_no_progress (with_reducible apply Keeps.upd) | split | (dsimp only; split))

theorem execCovSolveEnd_keeps {a : State} (carrier : Nat) (s : State) (hk : Keeps a s) :
    OutKeeps a (execCovSolveEnd carrier s) := by
  unfold execCovSolveEnd
  repeat' (first
    | with_reducible assumption | with_reducible intro _ | with_reducible apply State.holdBeamSwap_keeps
    | with_reducible apply State.doWrite_keeps | with_reducible apply State.queueWrite_keeps
    | with_reducible apply State.event_keeps | with_reducible apply State.fresh_keeps | with_reducible apply State.put_keeps
    | with_reducible apply Keeps.ite | with_reducible apply OutKeeps.next | fail_if_no_progress (with_reducible apply Keeps.upd)
    | split | (dsimp only; split))

theorem execRenormalisation_keeps {a : State} (s : State) (hk : Keeps a s) :
    OutKeeps a (execRenormalisation s) := by
  unfold execRenormalisation
  repeat' (first
    | with_reducible assumption | with_reducible intro _ | with_reducible apply State.event_keeps | with_reducible apply Keeps.ite
    | with_reducible apply OutKeeps.next | fail_if_no_progress (with_reducible apply Keeps.upd) | split | (dsimp only; split))

theorem State.acdPlan_keeps {a : State} (s : State) (c : AcdCmd) (hk : Keeps a s) :
    Keeps a (State.acdPlan s c) := by
  unfold State.acdPlan
  repeat' (first
    | with_reducible assumption | with_reducible intro _ | with_reducible apply State.put_keeps | with_reducible apply Keeps.ite
    | fail_if_no_progress (with_reducible apply Keeps.upd) | split)

theorem State.applyAcd_keeps {a : State} (s : State) (h : Hdr) (c : AcdCmd) (hk : Keeps a s) :
    Keeps a (State.applyAcd s h c) := by
  unfold State.applyAcd
  repeat' (first
    | with_reducible assumption | with_reducible intro _ | with_reducible apply State.acdPlan_keeps
    | with_reducible apply State.complete_keeps | with_reducible apply State.put_keeps | split)

theorem execAcdOccasion_keeps {a : State} (h : Hdr) (c : AcdCmd) (s : State) (hk : Keeps a s) :
    OutKeeps a (execAcdOccasion h c s) := by
  unfold execAcdOccasion
  repeat' (first
    | with_reducible assumption | with_reducible intro _ | with_reducible apply State.acceptTimed_keeps
    | with_reducible apply OutKeeps.next | split)

theorem State.showOccasions_keeps {a : State} (s : State) (hk : Keeps a s) :
    Keeps a (State.showOccasions s) := by
  unfold State.showOccasions
  repeat' (first
    | with_reducible assumption | with_reducible intro _ | with_reducible apply State.put_keeps | split)

theorem State.occasionSummary_keeps {a : State} (s : State) (o : Occasion) (n : Nat) (aborted : Bool) (hk : Keeps a s) :
    Keeps a (State.occasionSummary s o n aborted) := by
  unfold State.occasionSummary
  repeat' (first
    | with_reducible assumption | with_reducible intro _ | with_reducible apply State.eventAt_keeps | split)

theorem State.occasionAirEnd_keeps {a : State} (s : State) (o : Occasion) (hk : Keeps a s) :
    Keeps a (State.occasionAirEnd s o) := by
  unfold State.occasionAirEnd
  repeat' (first
    | with_reducible assumption | with_reducible intro _ | with_reducible apply State.occasionSummary_keeps
    | with_reducible apply State.showOccasions_keeps | with_reducible apply State.setF_keeps | with_reducible apply Keeps.ite
    | fail_if_no_progress (with_reducible apply Keeps.upd) | split)

theorem State.detection_keeps {a : State} (s : State) (o : Occasion) (c : AcdCmd) (l : List (AcdPeak × Bool)) (x : AcdPeak × Bool)
    (hk : Keeps a s) :
    Keeps a (State.detection s o c l x) := by
  unfold State.detection
  repeat' (first
    | with_reducible assumption | with_reducible intro _ | with_reducible apply State.eventAt_keeps | with_reducible apply Keeps.ite
    | split)

theorem execOccasionEnd_keeps {a : State} (config time : Nat) (peaks : List AcdPeak) (s : State) (hk : Keeps a s) :
    OutKeeps a (execOccasionEnd config time peaks s) := by
  unfold execOccasionEnd
  repeat' (first
    | with_reducible assumption | with_reducible intro _ | with_reducible apply State.detection_keeps
    | with_reducible apply State.occasionSummary_keeps | with_reducible apply State.showOccasions_keeps
    | with_reducible apply State.each_keeps | with_reducible apply State.add64_keeps | with_reducible apply State.setF_keeps
    | with_reducible apply Keeps.foldl | with_reducible apply Keeps.foldl1 | with_reducible apply Keeps.foldl2
    | with_reducible apply OutKeeps.next | fail_if_no_progress (with_reducible apply Keeps.upd) | split | (dsimp only; split))

theorem State.applyFo_keeps {a : State} (s : State) (h : Hdr) (c : FoCmd) (hk : Keeps a s) :
    Keeps a (State.applyFo s h c) := by
  unfold State.applyFo
  repeat' (first
    | with_reducible assumption | with_reducible intro _ | with_reducible apply State.complete_keeps
    | with_reducible apply State.put_keeps | with_reducible apply Keeps.ite | fail_if_no_progress (with_reducible apply Keeps.upd)
    | split)

theorem execFoReport_keeps {a : State} (h : Hdr) (c : FoCmd) (s : State) (hk : Keeps a s) :
    OutKeeps a (execFoReport h c s) := by
  unfold execFoReport
  repeat' (first
    | with_reducible assumption | with_reducible intro _ | with_reducible apply State.acceptTimed_keeps
    | with_reducible apply OutKeeps.next | split)

theorem execFoMeasurement_keeps {a : State} (entry layer : Nat) (offset power : Int) (snr : Nat) (tainted : Bool) (s : State)
    (hk : Keeps a s) :
    OutKeeps a (execFoMeasurement entry layer offset power snr tainted s) := by
  unfold execFoMeasurement
  repeat' (first
    | with_reducible assumption | with_reducible intro _ | with_reducible apply State.event_keeps | with_reducible apply Keeps.ite
    | with_reducible apply OutKeeps.next | fail_if_no_progress (with_reducible apply Keeps.upd) | split | (dsimp only; split))

end Sys2Proof.Machine
end

