-- ==== Sys2Proof/Laws/KeepsFaulting.lean ====
section
/-! SUPPORT. What the operations of Faulting keep: the queue and the canonical form of the stores. -/
set_option linter.unreachableTactic false
set_option linter.unusedTactic false

namespace Sys2Proof.Machine
open Sys2Proof

theorem State.countClass_keeps {a : State} (s : State) (c : Nat) (hk : Keeps a s) :
    Keeps a (State.countClass s c) := by
  unfold State.countClass
  repeat' (first
    | with_reducible assumption | with_reducible intro _ | with_reducible apply State.add64_keeps | split)

theorem State.windowPut_keeps {a : State} (s : State) (c src : Nat) (hk : Keeps a s) :
    Keeps a (State.windowPut s c src) := by
  unfold State.windowPut
  repeat' (first
    | with_reducible assumption | with_reducible intro _ | fail_if_no_progress (with_reducible apply Keeps.upd) | split)

theorem State.windowClear_keeps {a : State} (s : State) (c src : Nat) (hk : Keeps a s) :
    Keeps a (State.windowClear s c src) := by
  unfold State.windowClear
  repeat' (first
    | with_reducible assumption | with_reducible intro _ | fail_if_no_progress (with_reducible apply Keeps.upd) | split)

theorem State.thresholdRecord_keeps {a : State} (s : State) (c action what addr : Nat) (hk : Keeps a s) :
    Keeps a (State.thresholdRecord s c action what addr) := by
  unfold State.thresholdRecord
  repeat' (first
    | with_reducible assumption | with_reducible intro _ | with_reducible apply State.event_keeps | split)

theorem State.reportPaths_keeps {a : State} (s : State) (hk : Keeps a s) :
    Keeps a (State.reportPaths s) := by
  unfold State.reportPaths
  repeat' (first
    | with_reducible assumption | with_reducible intro _ | with_reducible apply State.event_keeps | split)

theorem State.showRemoved_keeps {a : State} (s : State) (hk : Keeps a s) :
    Keeps a (State.showRemoved s) := by
  unfold State.showRemoved
  repeat' (first
    | with_reducible assumption | with_reducible intro _ | with_reducible apply State.put_keeps | split)

theorem State.removePath_keeps {a : State} (s : State) (p cause : Nat) (hk : Keeps a s) :
    Keeps a (State.removePath s p cause) := by
  unfold State.removePath
  repeat' (first
    | with_reducible assumption | with_reducible intro _ | with_reducible apply State.showRemoved_keeps
    | with_reducible apply State.reportPaths_keeps | with_reducible apply State.tileOff_keeps
    | with_reducible apply State.paOff_keeps | with_reducible apply State.pathBias_keeps | with_reducible apply State.tapStop_keeps
    | with_reducible apply State.event_keeps | with_reducible apply State.when_keeps | with_reducible apply State.putBit64_keeps
    | with_reducible apply Keeps.ite | fail_if_no_progress (with_reducible apply Keeps.upd) | split)

theorem State.returnPath_keeps {a : State} (s : State) (p : Nat) (hk : Keeps a s) :
    Keeps a (State.returnPath s p) := by
  unfold State.returnPath
  repeat' (first
    | with_reducible assumption | with_reducible intro _ | with_reducible apply State.showRemoved_keeps
    | with_reducible apply State.reportPaths_keeps | with_reducible apply State.pathBias_keeps
    | with_reducible apply State.event_keeps | with_reducible apply State.putBit64_keeps
    | fail_if_no_progress (with_reducible apply Keeps.upd) | split)

theorem State.returnPaths_keeps {a : State} (s : State) (n : Nat) (hk : Keeps a s) :
    Keeps a (State.returnPaths s n) := by
  unfold State.returnPaths
  repeat' (first
    | with_reducible assumption | with_reducible intro _ | with_reducible apply State.returnPath_keeps
    | with_reducible apply State.each_keeps | split)

theorem State.lateFlag_keeps {a : State} (s : State) (f : Field) (hk : Keeps a s) :
    Keeps a (State.lateFlag s f) := by
  unfold State.lateFlag
  repeat' (first
    | with_reducible assumption | with_reducible intro _ | with_reducible apply State.event_keeps
    | with_reducible apply State.setF_keeps | split)

end Sys2Proof.Machine
end

