-- ==== Sys2Proof/Laws/KeepsKeys.lean ====
section
/-! SUPPORT. What the operations of Keys keep: the queue and the canonical form of the stores. -/
set_option linter.unreachableTactic false
set_option linter.unusedTactic false

namespace Sys2Proof.Machine
open Sys2Proof

theorem State.burn_keeps {a : State} (s : State) (k v : Nat) (hk : Keeps a s) :
    Keeps a (State.burn s k v) := by
  unfold State.burn
  repeat' (first
    | with_reducible assumption | with_reducible intro _ | fail_if_no_progress (with_reducible apply Keeps.upd) | split)

theorem State.burnWords_keeps {a : State} (s : State) (k : Nat) (l : List Nat) (hk : Keeps a s) :
    Keeps a (State.burnWords s k l) := by
  unfold State.burnWords
  repeat' (first
    | with_reducible assumption | with_reducible intro _ | with_reducible apply State.burn_keeps
    | with_reducible apply State.each_keeps | split)

theorem State.burnArb_keeps {a : State} (n : Nat) (s : State) (c : Nat) (hk : Keeps a s) : Keeps a (State.burnArb s c n) := by
  induction n generalizing s with
  | zero => exact hk
  | succ n ih =>
    unfold State.burnArb
    repeat' (first
      | with_reducible assumption | with_reducible apply ih | with_reducible apply State.burn_keeps | split)

theorem State.authCount_keeps {a : State} (s : State) (st : Nat) (hk : Keeps a s) :
    Keeps a (State.authCount s st) := by
  unfold State.authCount
  repeat' (first
    | with_reducible assumption | with_reducible intro _ | with_reducible apply State.when_keeps
    | with_reducible apply State.add64_keeps | with_reducible apply State.setF_keeps | split)

theorem State.verifyFail_keeps {a : State} (s : State) (cls who st ver : Nat) (hk : Keeps a s) :
    Keeps a (State.verifyFail s cls who st ver) := by
  unfold State.verifyFail
  repeat' (first
    | with_reducible assumption | with_reducible intro _ | with_reducible apply State.authCount_keeps
    | with_reducible apply State.event_keeps | split)

theorem State.idSign_keeps {a : State} (s : State) (l : List Nat) (hk : Keeps a s) : Keeps a (s.idSign l).1 :=
  State.fresh_keeps s hk

end Sys2Proof.Machine
end

