-- ==== Sys2Proof/Laws/KeepsAccess.lean ====
section
/-! SUPPORT. What the operations of Access keep: the queue and the canonical form of the stores. -/
set_option linter.unreachableTactic false
set_option linter.unusedTactic false

namespace Sys2Proof.Machine
open Sys2Proof

theorem State.latch_keeps {a : State} (s : State) (rq : Requester) (off : Nat) (hk : Keeps a s) :
    Keeps a (State.latch s rq off) := by
  unfold State.latch
  repeat' (first
    | with_reducible assumption | with_reducible intro _ | with_reducible apply Keeps.ite
    | fail_if_no_progress (with_reducible apply Keeps.upd) | split)

theorem execWideReadLatch_keeps {a : State} (rq : Requester) (off : Nat) (s : State) (hk : Keeps a s) :
    OutKeeps a (execWideReadLatch rq off s) := by
  unfold execWideReadLatch
  repeat' (first
    | with_reducible assumption | with_reducible intro _ | with_reducible apply State.latch_keeps
    | with_reducible apply OutKeeps.next | split)

theorem State.stage_keeps {a : State} (s : State) (rq : Requester) (off value : Nat) (hk : Keeps a s) :
    Keeps a (State.stage s rq off value) := by
  unfold State.stage
  repeat' (first
    | with_reducible assumption | with_reducible intro _ | fail_if_no_progress (with_reducible apply Keeps.upd) | split)

theorem execWideWriteStage_keeps {a : State} (rq : Requester) (off value : Nat) (s : State) (hk : Keeps a s) :
    OutKeeps a (execWideWriteStage rq off value s) := by
  unfold execWideWriteStage
  repeat' (first
    | with_reducible assumption | with_reducible intro _ | with_reducible apply State.stage_keeps | with_reducible apply Keeps.ite
    | with_reducible apply OutKeeps.next | fail_if_no_progress (with_reducible apply Keeps.upd) | split | (dsimp only; split))

theorem execMarginRst_keeps {a : State} (rq : Requester) (s : State) (hk : Keeps a s) :
    OutKeeps a (execMarginRst rq s) := by
  unfold execMarginRst
  repeat' (first
    | with_reducible assumption | with_reducible intro _ | with_reducible apply State.put_keeps | with_reducible apply Keeps.ite
    | with_reducible apply OutKeeps.next | split)

end Sys2Proof.Machine
end

