-- ==== Sys2Proof/Laws/KeepsHousekeeping.lean ====
section
/-! SUPPORT. What the operations of Housekeeping keep: the queue and the canonical form of the stores. -/
set_option linter.unreachableTactic false
set_option linter.unusedTactic false

namespace Sys2Proof.Machine
open Sys2Proof

theorem State.showMains_keeps {a : State} (s : State) (hk : Keeps a s) :
    Keeps a (State.showMains s) := by
  unfold State.showMains
  repeat' (first
    | with_reducible assumption | with_reducible intro _ | with_reducible apply State.put_keeps | split)

theorem State.setPass_keeps {a : State} (s : State) (cls : Nat) (p : Option Pass) (hk : Keeps a s) :
    Keeps a (State.setPass s cls p) := by
  unfold State.setPass
  repeat' (first
    | with_reducible assumption | with_reducible intro _ | with_reducible apply Keeps.ite
    | fail_if_no_progress (with_reducible apply Keeps.upd) | split)

theorem State.beginPass_keeps {a : State} (s : State) (cls : Nat) (hdr : Option Hdr) (hk : Keeps a s) :
    Keeps a (State.beginPass s cls hdr) := by
  unfold State.beginPass
  repeat' (first
    | with_reducible assumption | with_reducible intro _ | with_reducible apply State.setPass_keeps
    | with_reducible apply State.each_keeps | with_reducible apply State.wr_keeps | with_reducible apply Keeps.ite | split)

theorem State.showClass_keeps {a : State} (s : State) (hk : Keeps a s) :
    Keeps a (State.showClass s) := by
  unfold State.showClass
  repeat' (first
    | with_reducible assumption | with_reducible intro _ | with_reducible apply State.put_keeps | split)

theorem State.startConv_keeps {a : State} (s : State) (cls chan from_ settle tint : Nat) (hk : Keeps a s) :
    Keeps a (State.startConv s cls chan from_ settle tint) := by
  unfold State.startConv
  repeat' (first
    | with_reducible assumption | with_reducible intro _ | with_reducible apply State.showClass_keeps
    | fail_if_no_progress (with_reducible apply Keeps.upd) | split)

theorem State.startEntry_keeps {a : State} (s : State) (cls : Nat) (p : Pass) (from_ : Nat) (hk : Keeps a s) :
    Keeps a (State.startEntry s cls p from_) := by
  unfold State.startEntry
  repeat' (first
    | with_reducible assumption | with_reducible intro _ | with_reducible apply State.startConv_keeps
    | with_reducible apply State.setPass_keeps | with_reducible apply Keeps.ite
    | fail_if_no_progress (with_reducible apply Keeps.upd) | split)

theorem State.hkaNext_keeps {a : State} (s : State) (t : Nat) (hk : Keeps a s) :
    Keeps a (State.hkaNext s t) := by
  unfold State.hkaNext
  repeat' (first
    | with_reducible assumption | with_reducible intro _ | with_reducible apply State.startEntry_keeps
    | with_reducible apply State.startConv_keeps | with_reducible apply State.showClass_keeps | with_reducible apply Keeps.ite
    | fail_if_no_progress (with_reducible apply Keeps.upd) | split | (dsimp only; split))

theorem State.endEntry_keeps {a : State} (s : State) (cls : Nat) (p : Pass) (hk : Keeps a s) :
    Keeps a (State.endEntry s cls p) := by
  unfold State.endEntry
  repeat' (first
    | with_reducible assumption | with_reducible intro _ | with_reducible apply State.beginPass_keeps
    | with_reducible apply State.setPass_keeps | with_reducible apply State.completeR_keeps | with_reducible apply State.put_keeps
    | with_reducible apply Keeps.ite | fail_if_no_progress (with_reducible apply Keeps.upd) | split | (dsimp only; split))

theorem State.abortConv_keeps {a : State} (s : State) (at_ : Nat) (hk : Keeps a s) :
    Keeps a (State.abortConv s at_) := by
  unfold State.abortConv
  repeat' (first
    | with_reducible assumption | with_reducible intro _ | with_reducible apply State.endEntry_keeps
    | with_reducible apply State.setPass_keeps | with_reducible apply State.setF_keeps | with_reducible apply State.wr_keeps
    | with_reducible apply Keeps.ite | fail_if_no_progress (with_reducible apply Keeps.upd) | split | (dsimp only; split))

theorem State.hkaPreempt_keeps {a : State} (s : State) (hk : Keeps a s) :
    Keeps a (State.hkaPreempt s) := by
  unfold State.hkaPreempt
  repeat' (first
    | with_reducible assumption | with_reducible intro _ | with_reducible apply State.abortConv_keeps
    | with_reducible apply Keeps.ite | fail_if_no_progress (with_reducible apply Keeps.upd) | split | (dsimp only; split))

theorem State.hkaAdvance_keeps {a : State} (s : State) (hk : Keeps a s) :
    Keeps a (State.hkaAdvance s) := by
  unfold State.hkaAdvance
  repeat' (first
    | with_reducible assumption | with_reducible intro _ | with_reducible apply State.hkaPreempt_keeps
    | with_reducible apply State.hkaNext_keeps | split)

theorem State.regularTrigger_keeps {a : State} (s : State) (hk : Keeps a s) :
    Keeps a (State.regularTrigger s) := by
  unfold State.regularTrigger
  repeat' (first
    | with_reducible assumption | with_reducible intro _ | with_reducible apply State.hkaAdvance_keeps
    | with_reducible apply State.hkaNext_keeps | with_reducible apply State.beginPass_keeps | with_reducible apply State.setF_keeps
    | with_reducible apply Keeps.ite | fail_if_no_progress (with_reducible apply Keeps.upd) | split)

theorem State.urgentTrigger_keeps {a : State} (s : State) (hdr : Option Hdr) (hk : Keeps a s) :
    Keeps a (State.urgentTrigger s hdr) := by
  unfold State.urgentTrigger
  repeat' (first
    | with_reducible assumption | with_reducible intro _ | with_reducible apply State.hkaPreempt_keeps
    | with_reducible apply State.abortConv_keeps | with_reducible apply State.hkaNext_keeps
    | with_reducible apply State.beginPass_keeps | with_reducible apply State.event_keeps | with_reducible apply State.setF_keeps
    | with_reducible apply Keeps.ite | fail_if_no_progress (with_reducible apply Keeps.upd) | split)

theorem execHkaInject_keeps {a : State} (h : Hdr) (s : State) (hk : Keeps a s) :
    OutKeeps a (execHkaInject h s) := by
  unfold execHkaInject
  repeat' (first
    | with_reducible assumption | with_reducible intro _ | with_reducible apply State.urgentTrigger_keeps
    | with_reducible apply State.acceptNow_keeps | with_reducible apply Keeps.ite | with_reducible apply OutKeeps.next | split)

theorem execStart_keeps {a : State} (rq : Requester) (s : State) (hk : Keeps a s) :
    OutKeeps a (execStart rq s) := by
  unfold execStart
  repeat' (first
    | with_reducible assumption | with_reducible intro _ | with_reducible apply State.regularTrigger_keeps
    | with_reducible apply Keeps.ite | with_reducible apply OutKeeps.next | split)

theorem State.hkaTrigger_keeps {a : State} (s : State) (seq : Nat) (hk : Keeps a s) :
    Keeps a (State.hkaTrigger s seq) := by
  unfold State.hkaTrigger
  repeat' (first
    | with_reducible assumption | with_reducible intro _ | with_reducible apply State.urgentTrigger_keeps
    | with_reducible apply State.regularTrigger_keeps | with_reducible apply Keeps.ite | split)

theorem State.hkaTimer_keeps {a : State} (s : State) (seq : Nat) (hk : Keeps a s) :
    Keeps a (State.hkaTimer s seq) := by
  unfold State.hkaTimer
  repeat' (first
    | with_reducible assumption | with_reducible intro _ | with_reducible apply Keeps.ite
    | fail_if_no_progress (with_reducible apply Keeps.upd) | split)

theorem execHkaTimerTrigger_keeps {a : State} (seq : Nat) (s : State) (hk : Keeps a s) :
    OutKeeps a (execHkaTimerTrigger seq s) := by
  unfold execHkaTimerTrigger
  repeat' (first
    | with_reducible assumption | with_reducible intro _ | with_reducible apply State.hkaTrigger_keeps
    | with_reducible apply Keeps.ite | with_reducible apply OutKeeps.next | fail_if_no_progress (with_reducible apply Keeps.upd)
    | split | (dsimp only; split))

theorem State.hkaFrameEvents_keeps {a : State} (s : State) (on off : Nat → Bool) (hk : Keeps a s) :
    Keeps a (State.hkaFrameEvents s on off) := by
  unfold State.hkaFrameEvents
  repeat' (first
    | with_reducible assumption | with_reducible intro _ | with_reducible apply State.each_keeps | with_reducible apply Keeps.ite
    | fail_if_no_progress (with_reducible apply Keeps.upd) | split)

theorem execHkaEventTrigger_keeps {a : State} (seq : Nat) (s : State) (hk : Keeps a s) :
    OutKeeps a (execHkaEventTrigger seq s) := by
  unfold execHkaEventTrigger
  repeat' (first
    | with_reducible assumption | with_reducible intro _ | with_reducible apply State.hkaTrigger_keeps
    | with_reducible apply Keeps.ite | with_reducible apply OutKeeps.next | fail_if_no_progress (with_reducible apply Keeps.upd)
    | split | (dsimp only; split))

theorem State.streamResult_keeps {a : State} (s : State) (time entry cls chan flags : Nat) (code : Int) (hk : Keeps a s) :
    Keeps a (State.streamResult s time entry cls chan flags code) := by
  unfold State.streamResult
  repeat' (first
    | with_reducible assumption | with_reducible intro _ | with_reducible apply State.eventAt_keeps
    | with_reducible apply State.when_keeps | split)

theorem State.overRange_keeps {a : State} (s : State) (c : Conversion) (entry over_ : Nat) (hk : Keeps a s) :
    Keeps a (State.overRange s c entry over_) := by
  unfold State.overRange
  repeat' (first
    | with_reducible assumption | with_reducible intro _ | with_reducible apply State.event_keeps
    | with_reducible apply State.setF_keeps | with_reducible apply Keeps.ite | fail_if_no_progress (with_reducible apply Keeps.upd)
    | split)

theorem State.setSuspect_keeps {a : State} (s : State) (cls : Nat) (b : Bool) (hk : Keeps a s) :
    Keeps a (State.setSuspect s cls b) := by
  unfold State.setSuspect
  repeat' (first
    | with_reducible assumption | with_reducible intro _ | fail_if_no_progress (with_reducible apply Keeps.upd) | split)

theorem State.takeCode_keeps {a : State} (s : State) (c : Conversion) (p : Pass) (nv : Int) (hk : Keeps a s) :
    Keeps a (State.takeCode s c p nv) := by
  unfold State.takeCode
  repeat' (first
    | with_reducible assumption | with_reducible intro _ | with_reducible apply State.setSuspect_keeps
    | with_reducible apply State.overRange_keeps | with_reducible apply State.streamResult_keeps
    | with_reducible apply State.endEntry_keeps | with_reducible apply State.setPass_keeps | with_reducible apply State.wr_keeps
    | with_reducible apply Keeps.ite | fail_if_no_progress (with_reducible apply Keeps.upd) | split)

theorem execConversionDone_keeps {a : State} (nv : Int) (s : State) (hk : Keeps a s) :
    OutKeeps a (execConversionDone nv s) := by
  unfold execConversionDone
  repeat' (first
    | with_reducible assumption | with_reducible intro _ | with_reducible apply State.takeCode_keeps
    | with_reducible apply State.setSuspect_keeps | with_reducible apply State.overRange_keeps
    | with_reducible apply State.streamResult_keeps | with_reducible apply State.hkaAdvance_keeps
    | with_reducible apply State.hkaNext_keeps | with_reducible apply Keeps.ite | with_reducible apply OutKeeps.next
    | fail_if_no_progress (with_reducible apply Keeps.upd) | split | (dsimp only; split))

theorem State.readBack_keeps {a : State} (s : State) (n k : Nat) (nv : Int) (hk : Keeps a s) :
    Keeps a (State.readBack s n k nv) := by
  unfold State.readBack
  repeat' (first
    | with_reducible assumption | with_reducible intro _ | with_reducible apply State.enterProtect_keeps
    | with_reducible apply State.event_keeps | with_reducible apply State.when_keeps | with_reducible apply State.put_keeps
    | with_reducible apply Keeps.ite | split)

theorem execBiasReadback_keeps {a : State} (nv : Int) (s : State) (hk : Keeps a s) :
    OutKeeps a (execBiasReadback nv s) := by
  unfold execBiasReadback
  repeat' (first
    | with_reducible assumption | with_reducible intro _ | with_reducible apply State.readBack_keeps
    | with_reducible apply State.hkaAdvance_keeps | with_reducible apply State.hkaNext_keeps | with_reducible apply Keeps.ite
    | with_reducible apply OutKeeps.next | fail_if_no_progress (with_reducible apply Keeps.upd) | split | (dsimp only; split))

theorem execBiasSweep_keeps {a : State} (s : State) (hk : Keeps a s) :
    OutKeeps a (execBiasSweep s) := by
  unfold execBiasSweep
  repeat' (first
    | with_reducible assumption | with_reducible intro _ | with_reducible apply State.hkaAdvance_keeps
    | with_reducible apply Keeps.ite | with_reducible apply OutKeeps.next | fail_if_no_progress (with_reducible apply Keeps.upd)
    | split)

theorem execSupplyCheck_keeps {a : State} (s : State) (hk : Keeps a s) :
    OutKeeps a (execSupplyCheck s) := by
  unfold execSupplyCheck
  repeat' (first
    | with_reducible assumption | with_reducible intro _ | with_reducible apply State.hkaAdvance_keeps
    | with_reducible apply Keeps.ite | with_reducible apply OutKeeps.next | fail_if_no_progress (with_reducible apply Keeps.upd)
    | split)

theorem State.mainsRecord_keeps {a : State} (s : State) (kind : Nat) (hk : Keeps a s) :
    Keeps a (State.mainsRecord s kind) := by
  unfold State.mainsRecord
  repeat' (first
    | with_reducible assumption | with_reducible intro _ | with_reducible apply State.event_keeps | split)

theorem State.mainsLost_keeps {a : State} (s : State) (hk : Keeps a s) :
    Keeps a (State.mainsLost s) := by
  unfold State.mainsLost
  repeat' (first
    | with_reducible assumption | with_reducible intro _ | with_reducible apply State.mainsRecord_keeps
    | with_reducible apply State.showMains_keeps | with_reducible apply State.setF_keeps | with_reducible apply State.put_keeps
    | with_reducible apply Keeps.ite | fail_if_no_progress (with_reducible apply Keeps.upd) | split)

theorem execMainsEdge_keeps {a : State} (s : State) (hk : Keeps a s) :
    OutKeeps a (execMainsEdge s) := by
  unfold execMainsEdge
  repeat' (first
    | with_reducible assumption | with_reducible intro _ | with_reducible apply State.mainsLost_keeps
    | with_reducible apply State.mainsRecord_keeps | with_reducible apply State.showMains_keeps
    | with_reducible apply State.setF_keeps | with_reducible apply Keeps.ite | with_reducible apply OutKeeps.next
    | fail_if_no_progress (with_reducible apply Keeps.upd) | split | (dsimp only; split))

theorem execMainsLoss_keeps {a : State} (s : State) (hk : Keeps a s) :
    OutKeeps a (execMainsLoss s) := by
  unfold execMainsLoss
  repeat' (first
    | with_reducible assumption | with_reducible intro _ | with_reducible apply State.mainsLost_keeps
    | with_reducible apply Keeps.ite | with_reducible apply OutKeeps.next | fail_if_no_progress (with_reducible apply Keeps.upd)
    | split | (dsimp only; split))

theorem State.hkaAgree_keeps {a : State} (s : State) (hk : Keeps a s) :
    Keeps a (State.hkaAgree s) := by
  unfold State.hkaAgree
  repeat' (first
    | with_reducible assumption | with_reducible intro _ | with_reducible apply State.showClass_keeps
    | with_reducible apply Keeps.ite | fail_if_no_progress (with_reducible apply Keeps.upd) | split | (dsimp only; split))

theorem State.hkaSleep_keeps {a : State} (s : State) (hk : Keeps a s) :
    Keeps a (State.hkaSleep s) := by
  unfold State.hkaSleep
  repeat' (first
    | with_reducible assumption | with_reducible intro _ | with_reducible apply State.showMains_keeps
    | with_reducible apply State.complete_keeps | with_reducible apply State.each_keeps | with_reducible apply State.put_keeps
    | fail_if_no_progress (with_reducible apply Keeps.upd) | split)

end Sys2Proof.Machine
end

