-- ==== Sys2Proof/Laws/KeepsClock.lean ====
section
/-! SUPPORT. What the operations of Clock keep: the queue and the canonical form of the stores. -/
set_option linter.unreachableTactic false
set_option linter.unusedTactic false

namespace Sys2Proof.Machine
open Sys2Proof

theorem State.modTimePort_keeps {a : State} (s : State) (k : Nat) (f : TimePort → TimePort) (hk : Keeps a s) :
    Keeps a (State.modTimePort s k f) := by
  unfold State.modTimePort
  repeat' (first
    | with_reducible assumption | with_reducible intro _ | fail_if_no_progress (with_reducible apply Keeps.upd) | split)

theorem State.clockRecord_keeps {a : State} (s : State) (old new slewMs : Nat) (hk : Keeps a s) :
    Keeps a (State.clockRecord s old new slewMs) := by
  unfold State.clockRecord
  repeat' (first
    | with_reducible assumption | with_reducible intro _ | with_reducible apply State.event_keeps | split)

theorem State.clockTo_keeps {a : State} (s : State) (new : Nat) (hk : Keeps a s) :
    Keeps a (State.clockTo s new) := by
  unfold State.clockTo
  repeat' (first
    | with_reducible assumption | with_reducible intro _ | with_reducible apply State.clockRecord_keeps
    | with_reducible apply State.put_keeps | with_reducible apply Keeps.ite | fail_if_no_progress (with_reducible apply Keeps.upd)
    | split)

theorem State.modPtp_keeps {a : State} (s : State) (k : Nat) (f : PtpPort → PtpPort) (hk : Keeps a s) :
    Keeps a (State.modPtp s k f) := by
  unfold State.modPtp
  repeat' (first
    | with_reducible assumption | with_reducible intro _ | fail_if_no_progress (with_reducible apply Keeps.upd) | split)

theorem State.chooseSource_keeps {a : State} (s : State) (hk : Keeps a s) :
    Keeps a (State.chooseSource s) := by
  unfold State.chooseSource
  repeat' (first
    | with_reducible assumption | with_reducible intro _ | with_reducible apply State.clockTo_keeps
    | with_reducible apply State.put_keeps | with_reducible apply Keeps.ite | split)

theorem State.follow_keeps {a : State} (s : State) (key : RootKey) (parent : Option Nat) (hk : Keeps a s) :
    Keeps a (State.follow s key parent) := by
  unfold State.follow
  repeat' (first
    | with_reducible assumption | with_reducible intro _ | with_reducible apply State.chooseSource_keeps
    | with_reducible apply State.event_keeps | with_reducible apply State.when_keeps | with_reducible apply State.each_keeps
    | with_reducible apply State.put_keeps | with_reducible apply Keeps.ite | fail_if_no_progress (with_reducible apply Keeps.upd)
    | split)

theorem State.elect_keeps {a : State} (s : State) (hk : Keeps a s) :
    Keeps a (State.elect s) := by
  unfold State.elect
  repeat' (first
    | with_reducible assumption | with_reducible intro _ | with_reducible apply State.follow_keeps
    | with_reducible apply State.chooseSource_keeps | with_reducible apply State.put_keeps | with_reducible apply Keeps.ite
    | fail_if_no_progress (with_reducible apply Keeps.upd) | split | (dsimp only; split))

theorem State.joinPort_keeps {a : State} (s : State) (k : Nat) (b : Bool) (peer : Nat) (hk : Keeps a s) :
    Keeps a (State.joinPort s k b peer) := by
  unfold State.joinPort
  repeat' (first
    | with_reducible assumption | with_reducible intro _ | with_reducible apply State.elect_keeps
    | with_reducible apply State.modTimePort_keeps | with_reducible apply State.event_keeps | with_reducible apply State.put_keeps
    | with_reducible apply Keeps.ite | fail_if_no_progress (with_reducible apply Keeps.upd) | split)

theorem State.refusePort_keeps {a : State} (s : State) (k : Nat) (hk : Keeps a s) :
    Keeps a (State.refusePort s k) := by
  unfold State.refusePort
  repeat' (first
    | with_reducible assumption | with_reducible intro _ | with_reducible apply State.elect_keeps
    | with_reducible apply State.modTimePort_keeps | with_reducible apply State.event_keeps | with_reducible apply State.setF_keeps
    | with_reducible apply State.put_keeps | with_reducible apply Keeps.ite | fail_if_no_progress (with_reducible apply Keeps.upd)
    | split)

theorem State.setEpoch_keeps {a : State} (s : State) (e src : Nat) (hk : Keeps a s) :
    Keeps a (State.setEpoch s e src) := by
  unfold State.setEpoch
  repeat' (first
    | with_reducible assumption | with_reducible intro _ | with_reducible apply State.elect_keeps
    | with_reducible apply State.event_keeps | with_reducible apply State.put_keeps | with_reducible apply Keeps.ite
    | fail_if_no_progress (with_reducible apply Keeps.upd) | split)

theorem State.seeEpoch_keeps {a : State} (s : State) (e port : Nat) (hk : Keeps a s) :
    Keeps a (State.seeEpoch s e port) := by
  unfold State.seeEpoch
  repeat' (first
    | with_reducible assumption | with_reducible intro _ | with_reducible apply State.setEpoch_keeps
    | with_reducible apply Keeps.ite | split)

theorem State.measure_keeps {a : State} (s : State) (src : Nat) (ofs : Int) (hk : Keeps a s) :
    Keeps a (State.measure s src ofs) := by
  unfold State.measure
  repeat' (first
    | with_reducible assumption | with_reducible intro _ | with_reducible apply State.clockRecord_keeps
    | with_reducible apply State.when_keeps | with_reducible apply State.fresh_keeps | with_reducible apply State.put_keeps
    | with_reducible apply Keeps.ite | fail_if_no_progress (with_reducible apply Keeps.upd) | split)

end Sys2Proof.Machine
end

