-- ==== Sys2Proof/Laws/KeepsLine.lean ====
section
/-! SUPPORT. What the operations of Line keep: the queue and the canonical form of the stores. -/
set_option linter.unreachableTactic false
set_option linter.unusedTactic false

namespace Sys2Proof.Machine
open Sys2Proof

theorem State.modLane_keeps {a : State} (s : State) (n : Nat) (f : LaneState → LaneState) (hk : Keeps a s) :
    Keeps a (State.modLane s n f) := by
  unfold State.modLane
  repeat' (first
    | with_reducible assumption | with_reducible intro _ | fail_if_no_progress (with_reducible apply Keeps.upd) | split)

theorem State.modPort_keeps {a : State} (s : State) (k : Nat) (f : PortState → PortState) (hk : Keeps a s) :
    Keeps a (State.modPort s k f) := by
  unfold State.modPort
  repeat' (first
    | with_reducible assumption | with_reducible intro _ | fail_if_no_progress (with_reducible apply Keeps.upd) | split)

theorem State.laneCount_keeps {a : State} (s : State) (n r k : Nat) (hk : Keeps a s) :
    Keeps a (State.laneCount s n r k) := by
  unfold State.laneCount
  repeat' (first
    | with_reducible assumption | with_reducible intro _ | with_reducible apply State.add64_keeps | split)

theorem State.portCount_keeps {a : State} (s : State) (p r k : Nat) (hk : Keeps a s) :
    Keeps a (State.portCount s p r k) := by
  unfold State.portCount
  repeat' (first
    | with_reducible assumption | with_reducible intro _ | with_reducible apply State.add64_keeps | split)

theorem State.neighbourLost_keeps {a : State} (s : State) (k : Nat) (hk : Keeps a s) :
    Keeps a (State.neighbourLost s k) := by
  unfold State.neighbourLost
  repeat' (first
    | with_reducible assumption | with_reducible intro _ | with_reducible apply State.modPort_keeps
    | with_reducible apply State.joinPort_keeps | with_reducible apply State.event_keeps | with_reducible apply Keeps.ite
    | fail_if_no_progress (with_reducible apply Keeps.upd) | split)

theorem State.portLanes_keeps {a : State} (s : State) (k : Nat) (hk : Keeps a s) :
    Keeps a (State.portLanes s k) := by
  unfold State.portLanes
  repeat' (first
    | with_reducible assumption | with_reducible intro _ | with_reducible apply State.neighbourLost_keeps
    | with_reducible apply State.portCount_keeps | with_reducible apply State.event_keeps | with_reducible apply State.put_keeps
    | with_reducible apply Keeps.ite | split)

theorem State.setLane_keeps {a : State} (s : State) (n new : Nat) (cause : Option Nat) (hk : Keeps a s) :
    Keeps a (State.setLane s n new cause) := by
  unfold State.setLane
  repeat' (first
    | with_reducible assumption | with_reducible intro _ | with_reducible apply State.portLanes_keeps
    | with_reducible apply State.modLane_keeps | with_reducible apply State.event_keeps | with_reducible apply State.put_keeps
    | fail_if_no_progress (with_reducible apply Keeps.upd) | split | (dsimp only; split))

theorem State.setTaps_keeps {a : State} (s : State) (n : Nat) (t : List Int) (hk : Keeps a s) :
    Keeps a (State.setTaps s n t) := by
  unfold State.setTaps
  repeat' (first
    | with_reducible assumption | with_reducible intro _ | with_reducible apply State.put_keeps | split)

theorem State.enterDetect_keeps {a : State} (s : State) (n cause : Nat) (hk : Keeps a s) :
    Keeps a (State.enterDetect s n cause) := by
  unfold State.enterDetect
  repeat' (first
    | with_reducible assumption | with_reducible intro _ | with_reducible apply State.setTaps_keeps
    | with_reducible apply State.setLane_keeps | with_reducible apply State.laneCount_keeps
    | with_reducible apply State.modLane_keeps | with_reducible apply State.when_keeps | with_reducible apply State.put_keeps
    | with_reducible apply Keeps.ite | fail_if_no_progress (with_reducible apply Keeps.upd) | split)

theorem State.enterDown_keeps {a : State} (s : State) (n : Nat) (hk : Keeps a s) :
    Keeps a (State.enterDown s n) := by
  unfold State.enterDown
  repeat' (first
    | with_reducible assumption | with_reducible intro _ | with_reducible apply State.setLane_keeps
    | with_reducible apply State.modLane_keeps | with_reducible apply Keeps.ite
    | fail_if_no_progress (with_reducible apply Keeps.upd) | split)

theorem State.laneStart_keeps {a : State} (s : State) (n : Nat) (hk : Keeps a s) :
    Keeps a (State.laneStart s n) := by
  unfold State.laneStart
  repeat' (first
    | with_reducible assumption | with_reducible intro _ | with_reducible apply State.enterDetect_keeps
    | with_reducible apply Keeps.ite | split)

theorem State.enterAcquire_keeps {a : State} (s : State) (n : Nat) (hk : Keeps a s) :
    Keeps a (State.enterAcquire s n) := by
  unfold State.enterAcquire
  repeat' (first
    | with_reducible assumption | with_reducible intro _ | with_reducible apply State.setLane_keeps
    | with_reducible apply State.modLane_keeps | fail_if_no_progress (with_reducible apply Keeps.upd) | split)

theorem State.enterFecLock_keeps {a : State} (s : State) (n : Nat) (hk : Keeps a s) :
    Keeps a (State.enterFecLock s n) := by
  unfold State.enterFecLock
  repeat' (first
    | with_reducible assumption | with_reducible intro _ | with_reducible apply State.setLane_keeps
    | with_reducible apply State.modLane_keeps | fail_if_no_progress (with_reducible apply Keeps.upd) | split)

theorem State.startCountdown_keeps {a : State} (s : State) (n : Nat) (hk : Keeps a s) :
    Keeps a (State.startCountdown s n) := by
  unfold State.startCountdown
  repeat' (first
    | with_reducible assumption | with_reducible intro _ | with_reducible apply State.modLane_keeps | with_reducible apply Keeps.ite
    | fail_if_no_progress (with_reducible apply Keeps.upd) | split | (dsimp only; split))

theorem execLosChange_keeps {a : State} (lane : Nat) (lost : Bool) (s : State) (hk : Keeps a s) :
    OutKeeps a (execLosChange lane lost s) := by
  unfold execLosChange
  repeat' (first
    | with_reducible assumption | with_reducible intro _ | with_reducible apply State.enterAcquire_keeps
    | with_reducible apply State.enterDetect_keeps | with_reducible apply State.laneCount_keeps
    | with_reducible apply State.modLane_keeps | with_reducible apply State.when_keeps | with_reducible apply State.setF_keeps
    | with_reducible apply State.put_keeps | with_reducible apply Keeps.ite | with_reducible apply OutKeeps.next
    | fail_if_no_progress (with_reducible apply Keeps.upd) | split)

theorem execLaneBackoffEnd_keeps {a : State} (lane : Nat) (s : State) (hk : Keeps a s) :
    OutKeeps a (execLaneBackoffEnd lane s) := by
  unfold execLaneBackoffEnd
  repeat' (first
    | with_reducible assumption | with_reducible intro _ | with_reducible apply State.enterAcquire_keeps
    | with_reducible apply Keeps.ite | with_reducible apply OutKeeps.next | split)

theorem execLaneTimeout_keeps {a : State} (lane : Nat) (s : State) (hk : Keeps a s) :
    OutKeeps a (execLaneTimeout lane s) := by
  unfold execLaneTimeout
  repeat' (first
    | with_reducible assumption | with_reducible intro _ | with_reducible apply State.enterDetect_keeps
    | with_reducible apply Keeps.ite | with_reducible apply OutKeeps.next | fail_if_no_progress (with_reducible apply Keeps.upd)
    | split | (dsimp only; split))

theorem execMarkerLock_keeps {a : State} (lane : Nat) (s : State) (hk : Keeps a s) :
    OutKeeps a (execMarkerLock lane s) := by
  unfold execMarkerLock
  repeat' (first
    | with_reducible assumption | with_reducible intro _ | with_reducible apply State.setLane_keeps
    | with_reducible apply State.modLane_keeps | with_reducible apply State.event_keeps | with_reducible apply State.setF_keeps
    | with_reducible apply Keeps.ite | with_reducible apply OutKeeps.next | fail_if_no_progress (with_reducible apply Keeps.upd)
    | split)

theorem execFecLock_keeps {a : State} (lane : Nat) (s : State) (hk : Keeps a s) :
    OutKeeps a (execFecLock lane s) := by
  unfold execFecLock
  repeat' (first
    | with_reducible assumption | with_reducible intro _ | with_reducible apply State.setLane_keeps | with_reducible apply Keeps.ite
    | with_reducible apply OutKeeps.next | split)

theorem execBackoffReturn_keeps {a : State} (lane : Nat) (s : State) (hk : Keeps a s) :
    OutKeeps a (execBackoffReturn lane s) := by
  unfold execBackoffReturn
  repeat' (first
    | with_reducible assumption | with_reducible intro _ | with_reducible apply State.put_keeps | with_reducible apply Keeps.ite
    | with_reducible apply OutKeeps.next | split)

theorem execRxReady_keeps {a : State} (lane : Nat) (s : State) (hk : Keeps a s) :
    OutKeeps a (execRxReady lane s) := by
  unfold execRxReady
  repeat' (first
    | with_reducible assumption | with_reducible intro _ | with_reducible apply State.startCountdown_keeps
    | with_reducible apply State.enterFecLock_keeps | with_reducible apply State.modLane_keeps | with_reducible apply Keeps.ite
    | with_reducible apply OutKeeps.next | fail_if_no_progress (with_reducible apply Keeps.upd) | split | (dsimp only; split))

theorem execOneSidedTimeout_keeps {a : State} (lane : Nat) (s : State) (hk : Keeps a s) :
    OutKeeps a (execOneSidedTimeout lane s) := by
  unfold execOneSidedTimeout
  repeat' (first
    | with_reducible assumption | with_reducible intro _ | with_reducible apply State.enterFecLock_keeps
    | with_reducible apply State.event_keeps | with_reducible apply State.setF_keeps | with_reducible apply Keeps.ite
    | with_reducible apply OutKeeps.next | split)

theorem State.levelReq_keeps {a : State} (s : State) (f : Field) (req i : Nat) (hk : Keeps a s) : Keeps a (s.levelReq f req i).1 := by
  unfold State.levelReq
  dsimp only
  split
  · exact hk
  · split
    · exact State.put_keeps _ _ _ hk
    · exact hk

theorem State.applyRequest_keeps {a : State} (s : State) (n req : Nat) (hk : Keeps a s) : Keeps a (s.applyRequest n req).1 := by
  unfold State.applyRequest
  dsimp only
  apply State.levelReq_keeps
  apply State.levelReq_keeps
  split
  · exact State.setTaps_keeps _ _ _ hk
  · exact hk

theorem execTrainingCell_keeps {a : State} (lane : Nat) (bytes : List Nat) (s : State) (hk : Keeps a s) :
    OutKeeps a (execTrainingCell lane bytes s) := by
  unfold execTrainingCell
  repeat' (first
    | with_reducible assumption | with_reducible intro _ | with_reducible apply State.applyRequest_keeps
    | with_reducible apply State.startCountdown_keeps | with_reducible apply State.setTaps_keeps
    | with_reducible apply State.modLane_keeps | with_reducible apply Keeps.ite | with_reducible apply OutKeeps.next
    | fail_if_no_progress (with_reducible apply Keeps.upd) | split)

theorem execEqualiserUpdate_keeps {a : State} (lane : Nat) (o : EqualiserObs) (s : State) (hk : Keeps a s) :
    OutKeeps a (execEqualiserUpdate lane o s) := by
  unfold execEqualiserUpdate
  repeat' (first
    | with_reducible assumption | with_reducible intro _ | with_reducible apply State.modLane_keeps
    | with_reducible apply State.lateFlag_keeps | with_reducible apply State.when_keeps | with_reducible apply Keeps.ite
    | with_reducible apply OutKeeps.next | fail_if_no_progress (with_reducible apply Keeps.upd) | split)

theorem State.freezeWindow_keeps {a : State} (s : State) (n : Nat) (ok : Bool) (hk : Keeps a s) :
    Keeps a (State.freezeWindow s n ok) := by
  unfold State.freezeWindow
  repeat' (first
    | with_reducible assumption | with_reducible intro _ | with_reducible apply State.laneCount_keeps
    | with_reducible apply State.modLane_keeps | with_reducible apply State.event_keeps | with_reducible apply State.when_keeps
    | with_reducible apply State.setF_keeps | with_reducible apply State.put_keeps | with_reducible apply Keeps.ite
    | fail_if_no_progress (with_reducible apply Keeps.upd) | split)

theorem execOccupancyWindow_keeps {a : State} (lane : Nat) (o : OccupancyObs) (s : State) (hk : Keeps a s) :
    OutKeeps a (execOccupancyWindow lane o s) := by
  unfold execOccupancyWindow
  repeat' (first
    | with_reducible assumption | with_reducible intro _ | with_reducible apply State.freezeWindow_keeps
    | with_reducible apply State.modLane_keeps | with_reducible apply State.put_keeps | with_reducible apply State.wr_keeps
    | with_reducible apply Keeps.ite | with_reducible apply OutKeeps.next | fail_if_no_progress (with_reducible apply Keeps.upd)
    | split)

theorem execFreezeEvent_keeps {a : State} (lane : Nat) (s : State) (hk : Keeps a s) :
    OutKeeps a (execFreezeEvent lane s) := by
  unfold execFreezeEvent
  repeat' (first
    | with_reducible assumption | with_reducible intro _ | with_reducible apply State.modLane_keeps
    | with_reducible apply State.event_keeps | with_reducible apply Keeps.ite | with_reducible apply OutKeeps.next
    | fail_if_no_progress (with_reducible apply Keeps.upd) | split)

theorem State.startHist_keeps {a : State} (s : State) (lane : Nat) (hk : Keeps a s) :
    Keeps a (State.startHist s lane) := by
  unfold State.startHist
  repeat' (first
    | with_reducible assumption | with_reducible intro _ | with_reducible apply State.modLane_keeps
    | with_reducible apply State.put_keeps | fail_if_no_progress (with_reducible apply Keeps.upd) | split)

theorem execHistReq_keeps {a : State} (rq : Requester) (lane : Nat) (s : State) (hk : Keeps a s) :
    OutKeeps a (execHistReq rq lane s) := by
  unfold execHistReq
  repeat' (first
    | with_reducible assumption | with_reducible intro _ | with_reducible apply State.startHist_keeps
    | with_reducible apply Keeps.ite | with_reducible apply OutKeeps.next | split)

theorem execHistDone_keeps {a : State} (lane : Nat) (bins : List Nat) (s : State) (hk : Keeps a s) :
    OutKeeps a (execHistDone lane bins s) := by
  unfold execHistDone
  repeat' (first
    | with_reducible assumption | with_reducible intro _ | with_reducible apply State.modLane_keeps
    | with_reducible apply State.each_keeps | with_reducible apply State.setF_keeps | with_reducible apply State.wr_keeps
    | with_reducible apply Keeps.ite | with_reducible apply OutKeeps.next | fail_if_no_progress (with_reducible apply Keeps.upd)
    | split)

theorem State.sendCell_keeps {a : State} (s : State) (n : Nat) (hk : Keeps a s) :
    Keeps a (State.sendCell s n) := by
  unfold State.sendCell
  repeat' (first
    | with_reducible assumption | with_reducible intro _ | with_reducible apply State.modLane_keeps | with_reducible apply Keeps.ite
    | fail_if_no_progress (with_reducible apply Keeps.upd) | split | (dsimp only; split))

theorem State.countPeriod_keeps {a : State} (s : State) (n : Nat) (hk : Keeps a s) :
    Keeps a (State.countPeriod s n) := by
  unfold State.countPeriod
  repeat' (first
    | with_reducible assumption | with_reducible intro _ | with_reducible apply State.enterFecLock_keeps
    | with_reducible apply State.modLane_keeps | with_reducible apply Keeps.ite
    | fail_if_no_progress (with_reducible apply Keeps.upd) | split | (dsimp only; split))

theorem State.degrade_keeps {a : State} (s : State) (k bad : Nat) (hk : Keeps a s) :
    Keeps a (State.degrade s k bad) := by
  unfold State.degrade
  repeat' (first
    | with_reducible assumption | with_reducible intro _ | with_reducible apply State.modPort_keeps
    | with_reducible apply State.event_keeps | with_reducible apply State.setF_keeps | with_reducible apply Keeps.ite
    | fail_if_no_progress (with_reducible apply Keeps.upd) | split)

theorem execMarkerPeriod_keeps {a : State} (lane : Nat) (o : MarkerObs) (s : State) (hk : Keeps a s) :
    OutKeeps a (execMarkerPeriod lane o s) := by
  unfold execMarkerPeriod
  repeat' (first
    | with_reducible assumption | with_reducible intro _ | with_reducible apply State.degrade_keeps
    | with_reducible apply State.countPeriod_keeps | with_reducible apply State.sendCell_keeps
    | with_reducible apply State.enterDetect_keeps | with_reducible apply State.portCount_keeps
    | with_reducible apply State.laneCount_keeps | with_reducible apply State.modLane_keeps | with_reducible apply State.when_keeps
    | with_reducible apply State.put_keeps | with_reducible apply Keeps.ite | with_reducible apply OutKeeps.next
    | fail_if_no_progress (with_reducible apply Keeps.upd) | split | (dsimp only; split))

theorem execFecDegradeClear_keeps {a : State} (port : Nat) (s : State) (hk : Keeps a s) :
    OutKeeps a (execFecDegradeClear port s) := by
  unfold execFecDegradeClear
  repeat' (first
    | with_reducible assumption | with_reducible intro _ | with_reducible apply State.modPort_keeps
    | with_reducible apply State.event_keeps | with_reducible apply State.put_keeps | with_reducible apply Keeps.ite
    | with_reducible apply OutKeeps.next | fail_if_no_progress (with_reducible apply Keeps.upd) | split)

theorem execPortUp_keeps {a : State} (port : Nat) (skews : List Nat) (s : State) (hk : Keeps a s) :
    OutKeeps a (execPortUp port skews s) := by
  unfold execPortUp
  repeat' (first
    | with_reducible assumption | with_reducible intro _ | with_reducible apply State.portCount_keeps
    | with_reducible apply State.modPort_keeps | with_reducible apply State.event_keeps | with_reducible apply State.each_keeps
    | with_reducible apply State.fresh_keeps | with_reducible apply State.setF_keeps | with_reducible apply State.put_keeps
    | with_reducible apply Keeps.foldl | with_reducible apply Keeps.foldl1 | with_reducible apply Keeps.foldl2
    | with_reducible apply Keeps.ite | with_reducible apply OutKeeps.next | fail_if_no_progress (with_reducible apply Keeps.upd)
    | split)

theorem State.cellDrop_keeps {a : State} (s : State) (n reason type : Nat) (hk : Keeps a s) :
    Keeps a (State.cellDrop s n reason type) := by
  unfold State.cellDrop
  repeat' (first
    | with_reducible assumption | with_reducible intro _ | with_reducible apply State.laneCount_keeps
    | with_reducible apply State.event_keeps | split)

theorem execOverlayCell_keeps {a : State} (lane : Nat) (bytes : List Nat) (s : State) (hk : Keeps a s) :
    OutKeeps a (execOverlayCell lane bytes s) := by
  unfold execOverlayCell
  repeat' (first
    | with_reducible assumption | with_reducible intro _ | with_reducible apply State.cellDrop_keeps
    | with_reducible apply State.laneCount_keeps | with_reducible apply State.modLane_keeps | with_reducible apply Keeps.ite
    | with_reducible apply OutKeeps.next | fail_if_no_progress (with_reducible apply Keeps.upd) | split)

theorem State.popCell_keeps {a : State} (s : State) (n type : Nat) (c : List Nat) (t : State) (e : s.popCell n type = some (c, t))
    (hk : Keeps a s) : Keeps a t := by
  unfold State.popCell at e
  split at e
  · split at e
    · cases e; exact State.modLane_keeps _ _ _ hk
    · cases e
  · cases e

theorem State.queueCell14_keeps {a : State} (s : State) (n type : Nat) (payload : List Nat) (hk : Keeps a s) :
    Keeps a (State.queueCell14 s n type payload) := by
  unfold State.queueCell14
  repeat' (first
    | with_reducible assumption | with_reducible intro _ | with_reducible apply State.modLane_keeps | with_reducible apply Keeps.ite
    | fail_if_no_progress (with_reducible apply Keeps.upd) | split)

theorem execHeartbeatSend_keeps {a : State} (s : State) (hk : Keeps a s) :
    OutKeeps a (execHeartbeatSend s) := by
  unfold execHeartbeatSend
  repeat' (first
    | with_reducible assumption | with_reducible intro _ | with_reducible apply State.queueCell14_keeps
    | with_reducible apply State.each_keeps | with_reducible apply Keeps.ite | with_reducible apply OutKeeps.next
    | fail_if_no_progress (with_reducible apply Keeps.upd) | split)

theorem execNeighbourUnreachable_keeps {a : State} (port : Nat) (s : State) (hk : Keeps a s) :
    OutKeeps a (execNeighbourUnreachable port s) := by
  unfold execNeighbourUnreachable
  repeat' (first
    | with_reducible assumption | with_reducible intro _ | with_reducible apply State.neighbourLost_keeps
    | with_reducible apply Keeps.ite | with_reducible apply OutKeeps.next | split)

theorem State.sendOrder_keeps {a : State} (s : State) (k : Nat) (order : List Nat) (hops : Nat) (hk : Keeps a s) :
    Keeps a (State.sendOrder s k order hops) := by
  unfold State.sendOrder
  repeat' (first
    | with_reducible assumption | with_reducible intro _ | with_reducible apply State.queueCell14_keeps
    | with_reducible apply State.each_keeps | fail_if_no_progress (with_reducible apply Keeps.upd) | split | (dsimp only; split))

theorem execMuteFragment_keeps {a : State} (lane : Nat) (s : State) (hk : Keeps a s) :
    OutKeeps a (execMuteFragment lane s) := by
  unfold execMuteFragment
  repeat' (first
    | with_reducible assumption | with_reducible intro _ | refine State.popCell_keeps _ _ _ _ _ (by assumption) ?_
    | with_reducible apply State.modPort_keeps | with_reducible apply State.seaSubmit_keeps | with_reducible apply State.fresh_keeps
    | with_reducible apply Keeps.ite | with_reducible apply OutKeeps.next | fail_if_no_progress (with_reducible apply Keeps.upd)
    | split | (dsimp only; split))

theorem execFragmentTimeout_keeps {a : State} (port : Nat) (s : State) (hk : Keeps a s) :
    OutKeeps a (execFragmentTimeout port s) := by
  unfold execFragmentTimeout
  repeat' (first
    | with_reducible assumption | with_reducible intro _ | with_reducible apply State.modPort_keeps | with_reducible apply Keeps.ite
    | with_reducible apply OutKeeps.next | fail_if_no_progress (with_reducible apply Keeps.upd) | split | (dsimp only; split))

theorem execLineRmute_keeps {a : State} (h : Hdr) (addr : Nat) (s : State) (hk : Keeps a s) :
    OutKeeps a (execLineRmute h addr s) := by
  unfold execLineRmute
  repeat' (first
    | with_reducible assumption | with_reducible intro _ | with_reducible apply State.seaSubmit_keeps
    | with_reducible apply State.acceptNow_keeps | with_reducible apply OutKeeps.next | split)

theorem execLineMode_keeps {a : State} (h : Hdr) (port mode : Nat) (train : Bool) (s : State) (hk : Keeps a s) :
    OutKeeps a (execLineMode h port mode train s) := by
  unfold execLineMode
  repeat' (first
    | with_reducible assumption | with_reducible intro _ | with_reducible apply State.laneStart_keeps
    | with_reducible apply State.enterDown_keeps | with_reducible apply State.acceptNow_keeps
    | with_reducible apply State.complete_keeps | with_reducible apply State.each_keeps | with_reducible apply State.put_keeps
    | with_reducible apply OutKeeps.next | split)

theorem execLineRestart_keeps {a : State} (h : Hdr) (mask : Nat) (s : State) (hk : Keeps a s) :
    OutKeeps a (execLineRestart h mask s) := by
  unfold execLineRestart
  repeat' (first
    | with_reducible assumption | with_reducible intro _ | with_reducible apply State.laneStart_keeps
    | with_reducible apply State.enterDown_keeps | with_reducible apply State.acceptNow_keeps
    | with_reducible apply State.complete_keeps | with_reducible apply State.each_keeps | with_reducible apply State.put_keeps
    | with_reducible apply OutKeeps.next | split)

theorem execLineSnapshot_keeps {a : State} (h : Hdr) (lane addr : Nat) (s : State) (hk : Keeps a s) :
    OutKeeps a (execLineSnapshot h lane addr s) := by
  unfold execLineSnapshot
  repeat' (first
    | with_reducible assumption | with_reducible intro _ | with_reducible apply State.acceptNow_keeps
    | with_reducible apply State.complete_keeps | with_reducible apply State.hostWrite_keeps | with_reducible apply OutKeeps.next
    | split)

theorem execLineTest_keeps {a : State} (h : Hdr) (mask pattern addr : Nat) (s : State) (hk : Keeps a s) :
    OutKeeps a (execLineTest h mask pattern addr s) := by
  unfold execLineTest
  repeat' (first
    | with_reducible assumption | with_reducible intro _ | with_reducible apply State.laneStart_keeps
    | with_reducible apply State.enterDown_keeps | with_reducible apply State.modLane_keeps
    | with_reducible apply State.acceptNow_keeps | with_reducible apply State.complete_keeps | with_reducible apply State.each_keeps
    | with_reducible apply State.setF_keeps | with_reducible apply State.put_keeps | with_reducible apply Keeps.ite
    | with_reducible apply OutKeeps.next | fail_if_no_progress (with_reducible apply Keeps.upd) | split)

theorem execLineTestReport_keeps {a : State} (lane bits errors : Nat) (s : State) (hk : Keeps a s) :
    OutKeeps a (execLineTestReport lane bits errors s) := by
  unfold execLineTestReport
  repeat' (first
    | with_reducible assumption | with_reducible intro _ | with_reducible apply State.modLane_keeps
    | with_reducible apply State.hostWrite_keeps | with_reducible apply State.when_keeps | with_reducible apply Keeps.ite
    | with_reducible apply OutKeeps.next | fail_if_no_progress (with_reducible apply Keeps.upd) | split | (dsimp only; split))

end Sys2Proof.Machine
end

