-- ==== Sys2Proof/Laws/KeepsFronthaul.lean ====
section
/-! SUPPORT. What the operations of Fronthaul keep: the queue and the canonical form of the stores. -/
set_option linter.unreachableTactic false
set_option linter.unusedTactic false

namespace Sys2Proof.Machine
open Sys2Proof

theorem State.fthDrop_keeps {a : State} (s : State) (port r : Nat) (hk : Keeps a s) :
    Keeps a (State.fthDrop s port r) := by
  unfold State.fthDrop
  repeat' (first
    | with_reducible assumption | with_reducible intro _ | with_reducible apply State.add64_keeps
    | with_reducible apply State.setF_keeps | fail_if_no_progress (with_reducible apply Keeps.upd) | split | (dsimp only; split))

theorem State.fhSend_keeps {a : State} (s : State) (port q : Nat) (f : FrameOut) (hk : Keeps a s) :
    Keeps a (State.fhSend s port q f) := by
  unfold State.fhSend
  repeat' (first
    | with_reducible assumption | with_reducible intro _ | with_reducible apply State.fthDrop_keeps
    | with_reducible apply State.culSend_keeps | with_reducible apply Keeps.ite
    | fail_if_no_progress (with_reducible apply Keeps.upd) | split)

theorem State.modMsec_keeps {a : State} (s : State) (k : Nat) (f : MsecPort → MsecPort) (hk : Keeps a s) :
    Keeps a (State.modMsec s k f) := by
  unfold State.modMsec
  repeat' (first
    | with_reducible assumption | with_reducible intro _ | fail_if_no_progress (with_reducible apply Keeps.upd) | split)

theorem State.fhDrain_keeps {a : State} (s : State) (port : Nat) (hk : Keeps a s) :
    Keeps a (State.fhDrain s port) := by
  unfold State.fhDrain
  repeat' (first
    | with_reducible assumption | with_reducible intro _ | with_reducible apply State.modMsec_keeps
    | with_reducible apply State.when_keeps | with_reducible apply State.each_keeps | with_reducible apply State.add64_keeps
    | with_reducible apply Keeps.ite | fail_if_no_progress (with_reducible apply Keeps.upd) | split)

theorem State.nextSeq_keeps {a : State} (s : State) (key : Nat) (hk : Keeps a s) : Keeps a (s.nextSeq key).2 := by
  unfold State.nextSeq
  exact Keeps.upd hk

theorem State.moveSet_keeps {a : State} (s : State) (k new cause : Nat) (hk : Keeps a s) :
    Keeps a (State.moveSet s k new cause) := by
  unfold State.moveSet
  repeat' (first
    | with_reducible assumption | with_reducible intro _ | with_reducible apply State.event_keeps
    | with_reducible apply State.wr64_keeps | with_reducible apply Keeps.ite | fail_if_no_progress (with_reducible apply Keeps.upd)
    | split | (dsimp only; split))

theorem State.takeSeq_keeps {a : State} (s : State) (port key seq : Nat) (hk : Keeps a s) : Keeps a (s.takeSeq port key seq).2 := by
  unfold State.takeSeq
  dsimp only
  split
  · exact State.fthDrop_keeps s port 9 hk
  · exact Keeps.upd (State.add64_keeps _ _ _ hk)

theorem State.setFrame_keeps {a : State} (s : State) (set : Option Nat) (port seq : Nat) (hk : Keeps a s) :
    Keeps a (s.setFrame set port seq).2 := by
  unfold State.setFrame
  split
  · exact hk
  · split
    · exact State.fthDrop_keeps s port 3 hk
    · split
      · dsimp only
        split
        · exact hk
        · exact State.add64_keeps _ _ _ (State.fhSend_keeps _ _ _ _ hk)
      · exact State.fthDrop_keeps s port 3 hk

theorem State.takeSection_keeps {a : State} (s : State) (m : CPlaneIn) (num sym : Nat) (c : CSection) (hk : Keeps a s) :
    Keeps a (State.takeSection s m num sym c) := by
  unfold State.takeSection
  repeat' (first
    | with_reducible assumption | with_reducible intro _ | with_reducible apply State.fthDrop_keeps
    | with_reducible apply State.demandPage_keeps | with_reducible apply State.when_keeps | with_reducible apply State.each_keeps
    | with_reducible apply State.setF_keeps | with_reducible apply Keeps.ite | fail_if_no_progress (with_reducible apply Keeps.upd)
    | split)

theorem execCplaneMessage_keeps {a : State} (m : CPlaneIn) (s : State) (hk : Keeps a s) :
    OutKeeps a (execCplaneMessage m s) := by
  unfold execCplaneMessage
  repeat' (first
    | with_reducible assumption | with_reducible intro _ | with_reducible apply State.takeSection_keeps
    | with_reducible apply State.setFrame_keeps | with_reducible apply State.takeSeq_keeps
    | with_reducible apply State.fthDrop_keeps | with_reducible apply Keeps.foldl | with_reducible apply Keeps.foldl1
    | with_reducible apply Keeps.foldl2 | with_reducible apply Keeps.ite | with_reducible apply OutKeeps.next
    | fail_if_no_progress (with_reducible apply Keeps.upd) | split | (dsimp only; split))

theorem State.modCompDrop_keeps {a : State} (s : State) (c : Nat) (hk : Keeps a s) :
    Keeps a (State.modCompDrop s c) := by
  unfold State.modCompDrop
  repeat' (first
    | with_reducible assumption | with_reducible intro _ | with_reducible apply State.each_keeps
    | with_reducible apply State.setF_keeps | fail_if_no_progress (with_reducible apply Keeps.upd) | split)

theorem execUplaneMessage_keeps {a : State} (m : UPlaneIn) (s : State) (hk : Keeps a s) :
    OutKeeps a (execUplaneMessage m s) := by
  unfold execUplaneMessage
  repeat' (first
    | with_reducible assumption | with_reducible intro _ | with_reducible apply State.modCompDrop_keeps
    | with_reducible apply State.setFrame_keeps | with_reducible apply State.takeSeq_keeps
    | with_reducible apply State.fthDrop_keeps | with_reducible apply State.when_keeps | with_reducible apply State.each_keeps
    | with_reducible apply Keeps.ite | with_reducible apply OutKeeps.next | fail_if_no_progress (with_reducible apply Keeps.upd)
    | split | (dsimp only; split))

theorem State.closeWindows_keeps {a : State} (s : State) (hk : Keeps a s) :
    Keeps a (State.closeWindows s) := by
  unfold State.closeWindows
  repeat' (first
    | with_reducible assumption | with_reducible intro _ | with_reducible apply State.when_keeps
    | with_reducible apply State.add64_keeps | with_reducible apply State.setF_keeps
    | fail_if_no_progress (with_reducible apply Keeps.upd) | split)

theorem State.sendFinal_keeps {a : State} (s : State) (set : Nat) (c : CoopSetCmd) (m : PartialSum) (tick : Int) (hk : Keeps a s) :
    Keeps a (State.sendFinal s set c m tick) := by
  unfold State.sendFinal
  repeat' (first
    | with_reducible assumption | with_reducible intro _ | with_reducible apply State.nextSeq_keeps
    | with_reducible apply State.fhSend_keeps | with_reducible apply State.when_keeps | with_reducible apply State.add64_keeps
    | with_reducible apply State.setF_keeps | with_reducible apply Keeps.ite | fail_if_no_progress (with_reducible apply Keeps.upd)
    | split | (dsimp only; split))

theorem State.sendSum_keeps {a : State} (s : State) (set : Nat) (c : CoopSetCmd) (m : PartialSum) (tick : Int) (hk : Keeps a s) :
    Keeps a (State.sendSum s set c m tick) := by
  unfold State.sendSum
  repeat' (first
    | with_reducible assumption | with_reducible intro _ | with_reducible apply State.sendFinal_keeps
    | with_reducible apply State.nextSeq_keeps | with_reducible apply State.fhSend_keeps | with_reducible apply Keeps.ite
    | fail_if_no_progress (with_reducible apply Keeps.upd) | split)

theorem State.sendOwn_keeps {a : State} (s : State) (c : CoopSetCmd) (o : OwnSum) (hk : Keeps a s) :
    Keeps a (State.sendOwn s c o) := by
  unfold State.sendOwn
  repeat' (first
    | with_reducible assumption | with_reducible intro _ | with_reducible apply State.sendSum_keeps
    | with_reducible apply State.sendFinal_keeps | with_reducible apply Keeps.ite
    | fail_if_no_progress (with_reducible apply Keeps.upd) | split | (dsimp only; split))

theorem State.takeOwn_keeps {a : State} (s : State) (o : OwnSum) (hk : Keeps a s) :
    Keeps a (State.takeOwn s o) := by
  unfold State.takeOwn
  repeat' (first
    | with_reducible assumption | with_reducible intro _ | with_reducible apply State.sendOwn_keeps | with_reducible apply Keeps.ite
    | fail_if_no_progress (with_reducible apply Keeps.upd) | split | (dsimp only; split))

theorem State.combine_keeps {a : State} (s : State) (set : Nat) (c : CoopSetCmd) (m : PartialSum) (tick : Int) (hk : Keeps a s) :
    Keeps a (State.combine s set c m tick) := by
  unfold State.combine
  repeat' (first
    | with_reducible assumption | with_reducible intro _ | with_reducible apply State.sendSum_keeps
    | with_reducible apply State.when_keeps | with_reducible apply State.setF_keeps
    | fail_if_no_progress (with_reducible apply Keeps.upd) | split | (dsimp only; split))

theorem execPartialSumMessage_keeps {a : State} (port : Nat) (m : PartialSum) (s : State) (hk : Keeps a s) :
    OutKeeps a (execPartialSumMessage port m s) := by
  unfold execPartialSumMessage
  repeat' (first
    | with_reducible assumption | with_reducible intro _ | with_reducible apply State.combine_keeps
    | with_reducible apply State.takeSeq_keeps | with_reducible apply State.fthDrop_keeps | with_reducible apply Keeps.ite
    | with_reducible apply OutKeeps.next | fail_if_no_progress (with_reducible apply Keeps.upd) | split | (dsimp only; split))

theorem State.flushEarly_keeps {a : State} (s : State) (hk : Keeps a s) :
    Keeps a (State.flushEarly s) := by
  unfold State.flushEarly
  repeat' (first
    | with_reducible assumption | with_reducible intro _ | with_reducible apply State.combine_keeps
    | with_reducible apply State.each_keeps | with_reducible apply Keeps.ite | fail_if_no_progress (with_reducible apply Keeps.upd)
    | split | (dsimp only; split))

theorem execCombiningHoldEnd_keeps {a : State} (set : Nat) (tick : Int) (s : State) (hk : Keeps a s) :
    OutKeeps a (execCombiningHoldEnd set tick s) := by
  unfold execCombiningHoldEnd
  repeat' (first
    | with_reducible assumption | with_reducible intro _ | with_reducible apply State.sendOwn_keeps
    | with_reducible apply State.event_keeps | with_reducible apply State.when_keeps | with_reducible apply State.each_keeps
    | with_reducible apply State.add64_keeps | with_reducible apply State.setF_keeps | with_reducible apply Keeps.ite
    | with_reducible apply OutKeeps.next | fail_if_no_progress (with_reducible apply Keeps.upd) | split | (dsimp only; split))

theorem State.sendUplane_keeps {a : State} (s : State) (c : FhSection) (eaxc port : Nat) (tick : Int) (hk : Keeps a s) :
    Keeps a (State.sendUplane s c eaxc port tick) := by
  unfold State.sendUplane
  repeat' (first
    | with_reducible assumption | with_reducible intro _ | with_reducible apply State.nextSeq_keeps
    | with_reducible apply State.fhSend_keeps | with_reducible apply State.each_keeps | with_reducible apply Keeps.ite | split)

theorem State.uplaneEgress_keeps {a : State} (s : State) (limit : Option Nat) (hk : Keeps a s) :
    Keeps a (State.uplaneEgress s limit) := by
  unfold State.uplaneEgress
  repeat' (first
    | with_reducible assumption | with_reducible intro _ | with_reducible apply State.sendUplane_keeps
    | with_reducible apply State.each_keeps | with_reducible apply Keeps.ite | fail_if_no_progress (with_reducible apply Keeps.upd)
    | split | (dsimp only; split))

theorem State.takeContributions_keeps {a : State} (s : State) (l : List Contribution) (hk : Keeps a s) :
    Keeps a (State.takeContributions s l) := by
  unfold State.takeContributions
  repeat' (first
    | with_reducible assumption | with_reducible intro _ | with_reducible apply State.takeOwn_keeps
    | with_reducible apply State.each_keeps | fail_if_no_progress (with_reducible apply Keeps.upd) | split | (dsimp only; split))

theorem State.takePn_keeps {a : State} (s : State) (k pn : Nat) (hk : Keeps a s) :
    Keeps a (State.takePn s k pn) := by
  unfold State.takePn
  repeat' (first
    | with_reducible assumption | with_reducible intro _ | with_reducible apply State.modMsec_keeps
    | fail_if_no_progress (with_reducible apply Keeps.upd) | split)

theorem execLineFrame_keeps {a : State} (f : LineFrameIn) (s : State) (hk : Keeps a s) :
    OutKeeps a (execLineFrame f s) := by
  unfold execLineFrame
  repeat' (first
    | with_reducible assumption | with_reducible intro _ | with_reducible apply State.takePn_keeps
    | with_reducible apply State.fthDrop_keeps | with_reducible apply State.add64_keeps | with_reducible apply Keeps.ite
    | with_reducible apply OutKeeps.next | fail_if_no_progress (with_reducible apply Keeps.upd) | split | (dsimp only; split))

theorem State.sendOwdm_keeps {a : State} (s : State) (port id action : Nat) (hk : Keeps a s) :
    Keeps a (State.sendOwdm s port id action) := by
  unfold State.sendOwdm
  repeat' (first
    | with_reducible assumption | with_reducible intro _ | with_reducible apply State.fhSend_keeps | split)

theorem execOwdmMessage_keeps {a : State} (m : OwdmIn) (s : State) (hk : Keeps a s) :
    OutKeeps a (execOwdmMessage m s) := by
  unfold execOwdmMessage
  repeat' (first
    | with_reducible assumption | with_reducible intro _ | with_reducible apply State.sendOwdm_keeps
    | with_reducible apply State.fthDrop_keeps | with_reducible apply State.complete_keeps
    | with_reducible apply State.hostWrite_keeps | with_reducible apply Keeps.ite | with_reducible apply OutKeeps.next
    | fail_if_no_progress (with_reducible apply Keeps.upd) | split | (dsimp only; split))

theorem execFhOwdm_keeps {a : State} (h : Hdr) (c : FhOwdmCmd) (s : State) (hk : Keeps a s) :
    OutKeeps a (execFhOwdm h c s) := by
  unfold execFhOwdm
  repeat' (first
    | with_reducible assumption | with_reducible intro _ | with_reducible apply State.sendOwdm_keeps
    | with_reducible apply State.acceptNow_keeps | with_reducible apply Keeps.ite | with_reducible apply OutKeeps.next
    | fail_if_no_progress (with_reducible apply Keeps.upd) | split)

theorem execOwdmTimeout_keeps {a : State} (id : Nat) (s : State) (hk : Keeps a s) :
    OutKeeps a (execOwdmTimeout id s) := by
  unfold execOwdmTimeout
  repeat' (first
    | with_reducible assumption | with_reducible intro _ | with_reducible apply State.complete_keeps
    | with_reducible apply Keeps.ite | with_reducible apply OutKeeps.next | fail_if_no_progress (with_reducible apply Keeps.upd)
    | split | (dsimp only; split))

theorem State.msecEvent_keeps {a : State} (s : State) (k what : Nat) (hk : Keeps a s) :
    Keeps a (State.msecEvent s k what) := by
  unfold State.msecEvent
  repeat' (first
    | with_reducible assumption | with_reducible intro _ | with_reducible apply State.event_keeps | split)

theorem State.installSak_keeps {a : State} (s : State) (k an : Nat) (hk : Keeps a s) :
    Keeps a (State.installSak s k an) := by
  unfold State.installSak
  repeat' (first
    | with_reducible assumption | with_reducible intro _ | with_reducible apply State.msecEvent_keeps
    | with_reducible apply State.modMsec_keeps | with_reducible apply State.when_keeps | with_reducible apply State.setF_keeps
    | with_reducible apply State.put_keeps | with_reducible apply Keeps.ite | fail_if_no_progress (with_reducible apply Keeps.upd)
    | split)

theorem execMkaMessage_keeps {a : State} (m : MkaIn) (s : State) (hk : Keeps a s) :
    OutKeeps a (execMkaMessage m s) := by
  unfold execMkaMessage
  repeat' (first
    | with_reducible assumption | with_reducible intro _ | with_reducible apply State.installSak_keeps
    | with_reducible apply State.msecEvent_keeps | with_reducible apply State.modMsec_keeps | with_reducible apply State.when_keeps
    | with_reducible apply State.setF_keeps | with_reducible apply State.put_keeps | with_reducible apply Keeps.ite
    | with_reducible apply OutKeeps.next | fail_if_no_progress (with_reducible apply Keeps.upd) | split | (dsimp only; split))

theorem execMkaHello_keeps {a : State} (s : State) (hk : Keeps a s) :
    OutKeeps a (execMkaHello s) := by
  unfold execMkaHello
  repeat' (first
    | with_reducible assumption | with_reducible intro _ | with_reducible apply State.modMsec_keeps
    | with_reducible apply State.fhSend_keeps | with_reducible apply State.each_keeps | with_reducible apply Keeps.ite
    | with_reducible apply OutKeeps.next | fail_if_no_progress (with_reducible apply Keeps.upd) | split)

theorem State.dropSas_keeps {a : State} (s : State) (k : Nat) (hk : Keeps a s) :
    Keeps a (State.dropSas s k) := by
  unfold State.dropSas
  repeat' (first
    | with_reducible assumption | with_reducible intro _ | with_reducible apply State.modMsec_keeps
    | with_reducible apply State.put_keeps | fail_if_no_progress (with_reducible apply Keeps.upd) | split)

theorem execMkaPeerLost_keeps {a : State} (port : Nat) (s : State) (hk : Keeps a s) :
    OutKeeps a (execMkaPeerLost port s) := by
  unfold execMkaPeerLost
  repeat' (first
    | with_reducible assumption | with_reducible intro _ | with_reducible apply State.dropSas_keeps
    | with_reducible apply State.msecEvent_keeps | with_reducible apply State.setF_keeps | with_reducible apply Keeps.ite
    | with_reducible apply OutKeeps.next | split)

theorem execMsecRekey_keeps {a : State} (h : Hdr) (ports : Nat) (s : State) (hk : Keeps a s) :
    OutKeeps a (execMsecRekey h ports s) := by
  unfold execMsecRekey
  repeat' (first
    | with_reducible assumption | with_reducible intro _ | with_reducible apply State.modMsec_keeps
    | with_reducible apply State.acceptNow_keeps | with_reducible apply State.complete_keeps | with_reducible apply State.each_keeps
    | with_reducible apply OutKeeps.next | fail_if_no_progress (with_reducible apply Keeps.upd) | split)

theorem execFlowIdleTimeout_keeps {a : State} (s : State) (hk : Keeps a s) :
    OutKeeps a (execFlowIdleTimeout s) := by
  unfold execFlowIdleTimeout
  repeat' (first
    | with_reducible assumption | with_reducible intro _ | with_reducible apply OutKeeps.next
    | fail_if_no_progress (with_reducible apply Keeps.upd) | split)

theorem execDuReport_keeps {a : State} (s : State) (hk : Keeps a s) :
    OutKeeps a (execDuReport s) := by
  unfold execDuReport
  repeat' (first
    | with_reducible assumption | with_reducible intro _ | with_reducible apply State.fhSend_keeps | with_reducible apply Keeps.ite
    | with_reducible apply OutKeeps.next | fail_if_no_progress (with_reducible apply Keeps.upd) | split)

theorem execDropSummary_keeps {a : State} (s : State) (hk : Keeps a s) :
    OutKeeps a (execDropSummary s) := by
  unfold execDropSummary
  repeat' (first
    | with_reducible assumption | with_reducible intro _ | with_reducible apply State.event_keeps
    | with_reducible apply State.each_keeps | with_reducible apply OutKeeps.next
    | fail_if_no_progress (with_reducible apply Keeps.upd) | split)

theorem State.fhPlan_keeps {a : State} (s : State) (c : FhCarrierCmd) (hk : Keeps a s) :
    Keeps a (State.fhPlan s c) := by
  unfold State.fhPlan
  repeat' (first
    | with_reducible assumption | with_reducible intro _ | with_reducible apply Keeps.ite
    | fail_if_no_progress (with_reducible apply Keeps.upd) | split)

theorem State.applyFhCarrier_keeps {a : State} (s : State) (h : Hdr) (c : FhCarrierCmd) (hk : Keeps a s) :
    Keeps a (State.applyFhCarrier s h c) := by
  unfold State.applyFhCarrier
  repeat' (first
    | with_reducible assumption | with_reducible intro _ | with_reducible apply State.fhPlan_keeps
    | with_reducible apply State.complete_keeps | fail_if_no_progress (with_reducible apply Keeps.upd) | split)

theorem execFhCarrier_keeps {a : State} (h : Hdr) (c : FhCarrierCmd) (s : State) (hk : Keeps a s) :
    OutKeeps a (execFhCarrier h c s) := by
  unfold execFhCarrier
  repeat' (first
    | with_reducible assumption | with_reducible intro _ | with_reducible apply State.acceptTimed_keeps
    | with_reducible apply OutKeeps.next | split)

theorem execCoopSet_keeps {a : State} (h : Hdr) (c : CoopSetCmd) (s : State) (hk : Keeps a s) :
    OutKeeps a (execCoopSet h c s) := by
  unfold execCoopSet
  repeat' (first
    | with_reducible assumption | with_reducible intro _ | with_reducible apply State.acceptTimed_keeps
    | with_reducible apply OutKeeps.next | split)

theorem State.putSet_keeps {a : State} (s : State) (c : CoopSetCmd) (hk : Keeps a s) :
    Keeps a (State.putSet s c) := by
  unfold State.putSet
  repeat' (first
    | with_reducible assumption | with_reducible intro _ | with_reducible apply State.moveSet_keeps | with_reducible apply Keeps.ite
    | fail_if_no_progress (with_reducible apply Keeps.upd) | split)

end Sys2Proof.Machine
end

