-- ==== Sys2Proof/Laws/KeepsCulvert.lean ====
section
/-! SUPPORT. What the operations of Culvert keep: the queue and the canonical form of the stores. -/
set_option linter.unreachableTactic false
set_option linter.unusedTactic false

namespace Sys2Proof.Machine
open Sys2Proof

theorem State.modCulLane_keeps {a : State} (s : State) (n : Nat) (f : CulLane → CulLane) (hk : Keeps a s) :
    Keeps a (State.modCulLane s n f) := by
  unfold State.modCulLane
  repeat' (first
    | with_reducible assumption | with_reducible intro _ | fail_if_no_progress (with_reducible apply Keeps.upd) | split)

theorem State.modCulLink_keeps {a : State} (s : State) (k : Nat) (f : CulLink → CulLink) (hk : Keeps a s) :
    Keeps a (State.modCulLink s k f) := by
  unfold State.modCulLink
  repeat' (first
    | with_reducible assumption | with_reducible intro _ | fail_if_no_progress (with_reducible apply Keeps.upd) | split)

theorem State.setAwake_keeps {a : State} (s : State) (n : Nat) (b : Bool) (hk : Keeps a s) :
    Keeps a (State.setAwake s n b) := by
  unfold State.setAwake
  repeat' (first
    | with_reducible assumption | with_reducible intro _ | with_reducible apply State.put_keeps | split)

theorem State.culReport_keeps {a : State} (s : State) (k : Nat) (hk : Keeps a s) :
    Keeps a (State.culReport s k) := by
  unfold State.culReport
  repeat' (first
    | with_reducible assumption | with_reducible intro _ | with_reducible apply State.culSend_keeps | split)

theorem State.refreshLink_keeps {a : State} (s : State) (k : Nat) (hk : Keeps a s) :
    Keeps a (State.refreshLink s k) := by
  unfold State.refreshLink
  repeat' (first
    | with_reducible assumption | with_reducible intro _ | with_reducible apply State.modCulLink_keeps
    | with_reducible apply State.joinPort_keeps | with_reducible apply State.event_keeps | with_reducible apply State.when_keeps
    | with_reducible apply State.setF_keeps | with_reducible apply State.put_keeps | with_reducible apply Keeps.ite
    | fail_if_no_progress (with_reducible apply Keeps.upd) | split | (dsimp only; split))

theorem State.setWant_keeps {a : State} (s : State) (k cause : Nat) (hk : Keeps a s) :
    Keeps a (State.setWant s k cause) := by
  unfold State.setWant
  repeat' (first
    | with_reducible assumption | with_reducible intro _ | with_reducible apply State.modCulLink_keeps
    | with_reducible apply Keeps.ite | fail_if_no_progress (with_reducible apply Keeps.upd) | split)

theorem State.setCulRx_keeps {a : State} (s : State) (n new cause : Nat) (hk : Keeps a s) :
    Keeps a (State.setCulRx s n new cause) := by
  unfold State.setCulRx
  repeat' (first
    | with_reducible assumption | with_reducible intro _ | with_reducible apply State.modCulLane_keeps
    | with_reducible apply State.event_keeps | with_reducible apply State.put_keeps | with_reducible apply Keeps.ite
    | fail_if_no_progress (with_reducible apply Keeps.upd) | split)

theorem State.culStartLane_keeps {a : State} (s : State) (n : Nat) (hk : Keeps a s) :
    Keeps a (State.culStartLane s n) := by
  unfold State.culStartLane
  repeat' (first
    | with_reducible assumption | with_reducible intro _ | with_reducible apply State.setAwake_keeps
    | with_reducible apply State.modCulLane_keeps | with_reducible apply State.put_keeps | split)

theorem State.culStopLane_keeps {a : State} (s : State) (n : Nat) (hk : Keeps a s) :
    Keeps a (State.culStopLane s n) := by
  unfold State.culStopLane
  repeat' (first
    | with_reducible assumption | with_reducible intro _ | with_reducible apply State.setAwake_keeps
    | with_reducible apply State.modCulLane_keeps | with_reducible apply State.put_keeps | split)

theorem State.culRefresh_keeps {a : State} (s : State) (hk : Keeps a s) :
    Keeps a (State.culRefresh s) := by
  unfold State.culRefresh
  repeat' (first
    | with_reducible assumption | with_reducible intro _ | with_reducible apply State.culStopLane_keeps
    | with_reducible apply State.culStartLane_keeps | with_reducible apply State.setWant_keeps
    | with_reducible apply State.refreshLink_keeps | with_reducible apply State.modCulLink_keeps
    | with_reducible apply State.each_keeps | with_reducible apply State.put_keeps | with_reducible apply Keeps.ite
    | fail_if_no_progress (with_reducible apply Keeps.upd) | split)

theorem execHeaderLock_keeps {a : State} (lane : Nat) (s : State) (hk : Keeps a s) :
    OutKeeps a (execHeaderLock lane s) := by
  unfold execHeaderLock
  repeat' (first
    | with_reducible assumption | with_reducible intro _ | with_reducible apply State.setCulRx_keeps
    | with_reducible apply State.refreshLink_keeps | with_reducible apply State.culReport_keeps | with_reducible apply Keeps.ite
    | with_reducible apply OutKeeps.next | split)

theorem execLockLoss_keeps {a : State} (lane : Nat) (s : State) (hk : Keeps a s) :
    OutKeeps a (execLockLoss lane s) := by
  unfold execLockLoss
  repeat' (first
    | with_reducible assumption | with_reducible intro _ | with_reducible apply State.setCulRx_keeps
    | with_reducible apply State.refreshLink_keeps | with_reducible apply State.culReport_keeps
    | with_reducible apply State.add64_keeps | with_reducible apply Keeps.ite | with_reducible apply OutKeeps.next | split)

theorem execCulvertSignalLoss_keeps {a : State} (lane : Nat) (s : State) (hk : Keeps a s) :
    OutKeeps a (execCulvertSignalLoss lane s) := by
  unfold execCulvertSignalLoss
  repeat' (first
    | with_reducible assumption | with_reducible intro _ | with_reducible apply State.setCulRx_keeps
    | with_reducible apply State.refreshLink_keeps | with_reducible apply State.culReport_keeps
    | with_reducible apply State.when_keeps | with_reducible apply State.add64_keeps | with_reducible apply Keeps.ite
    | with_reducible apply OutKeeps.next | split)

theorem execCulvertSignalReturn_keeps {a : State} (lane : Nat) (s : State) (hk : Keeps a s) :
    OutKeeps a (execCulvertSignalReturn lane s) := by
  unfold execCulvertSignalReturn
  repeat' (first
    | with_reducible assumption | with_reducible intro _ | with_reducible apply State.setCulRx_keeps
    | with_reducible apply State.put_keeps | with_reducible apply Keeps.ite | with_reducible apply OutKeeps.next | split)

theorem execSleepBlocks_keeps {a : State} (lane : Nat) (s : State) (hk : Keeps a s) :
    OutKeeps a (execSleepBlocks lane s) := by
  unfold execSleepBlocks
  repeat' (first
    | with_reducible assumption | with_reducible intro _ | with_reducible apply State.setCulRx_keeps
    | with_reducible apply State.refreshLink_keeps | with_reducible apply State.culReport_keeps
    | with_reducible apply State.setF_keeps | with_reducible apply Keeps.ite | with_reducible apply OutKeeps.next | split)

theorem State.followMask_keeps {a : State} (s : State) (k : Nat) (b : AlignIn) (hk : Keeps a s) :
    Keeps a (State.followMask s k b) := by
  unfold State.followMask
  repeat' (first
    | with_reducible assumption | with_reducible intro _ | with_reducible apply State.modCulLink_keeps
    | with_reducible apply State.event_keeps | with_reducible apply State.put_keeps | with_reducible apply Keeps.ite
    | fail_if_no_progress (with_reducible apply Keeps.upd) | split)

theorem State.culRehunt_keeps {a : State} (s : State) (n cause : Nat) (hk : Keeps a s) :
    Keeps a (State.culRehunt s n cause) := by
  unfold State.culRehunt
  repeat' (first
    | with_reducible assumption | with_reducible intro _ | with_reducible apply State.setCulRx_keeps
    | with_reducible apply State.refreshLink_keeps | with_reducible apply State.culReport_keeps | split)

theorem execAlignBlock_keeps {a : State} (lane : Nat) (b : AlignIn) (s : State) (hk : Keeps a s) :
    OutKeeps a (execAlignBlock lane b s) := by
  unfold execAlignBlock
  repeat' (first
    | with_reducible assumption | with_reducible intro _ | with_reducible apply State.culRehunt_keeps
    | with_reducible apply State.followMask_keeps | with_reducible apply State.refreshLink_keeps
    | with_reducible apply State.culReport_keeps | with_reducible apply State.modCulLink_keeps
    | with_reducible apply State.modCulLane_keeps | with_reducible apply State.when_keeps | with_reducible apply State.add64_keeps
    | with_reducible apply State.put_keeps | with_reducible apply Keeps.ite | with_reducible apply OutKeeps.next
    | fail_if_no_progress (with_reducible apply Keeps.upd) | split)

theorem execMismatchReport_keeps {a : State} (link : Nat) (s : State) (hk : Keeps a s) :
    OutKeeps a (execMismatchReport link s) := by
  unfold execMismatchReport
  repeat' (first
    | with_reducible assumption | with_reducible intro _ | with_reducible apply State.modCulLink_keeps
    | with_reducible apply State.event_keeps | with_reducible apply Keeps.ite | with_reducible apply OutKeeps.next
    | fail_if_no_progress (with_reducible apply Keeps.upd) | split | (dsimp only; split))

theorem State.culFinish_keeps {a : State} (s : State) (n : Nat) (hk : Keeps a s) :
    Keeps a (State.culFinish s n) := by
  unfold State.culFinish
  repeat' (first
    | with_reducible assumption | with_reducible intro _ | with_reducible apply State.complete_keeps
    | with_reducible apply State.each_keeps | fail_if_no_progress (with_reducible apply Keeps.upd) | split)

theorem State.beginSleep_keeps {a : State} (s : State) (n : Nat) (hk : Keeps a s) :
    Keeps a (State.beginSleep s n) := by
  unfold State.beginSleep
  repeat' (first
    | with_reducible assumption | with_reducible intro _ | with_reducible apply State.modCulLane_keeps
    | with_reducible apply Keeps.ite | fail_if_no_progress (with_reducible apply Keeps.upd) | split)

theorem State.beginWake_keeps {a : State} (s : State) (n : Nat) (hk : Keeps a s) :
    Keeps a (State.beginWake s n) := by
  unfold State.beginWake
  repeat' (first
    | with_reducible assumption | with_reducible intro _ | with_reducible apply State.setAwake_keeps
    | with_reducible apply State.modCulLane_keeps | with_reducible apply State.put_keeps | with_reducible apply Keeps.ite
    | fail_if_no_progress (with_reducible apply Keeps.upd) | split)

theorem execCulSleep_keeps {a : State} (h : Hdr) (mask : Nat) (sleep : Bool) (s : State) (hk : Keeps a s) :
    OutKeeps a (execCulSleep h mask sleep s) := by
  unfold execCulSleep
  repeat' (first
    | with_reducible assumption | with_reducible intro _ | with_reducible apply State.beginWake_keeps
    | with_reducible apply State.beginSleep_keeps | with_reducible apply State.setWant_keeps
    | with_reducible apply State.acceptNow_keeps | with_reducible apply State.complete_keeps
    | with_reducible apply State.completeX_keeps | with_reducible apply State.each_keeps | with_reducible apply Keeps.foldl
    | with_reducible apply Keeps.foldl1 | with_reducible apply Keeps.foldl2 | with_reducible apply Keeps.ite
    | with_reducible apply OutKeeps.next | fail_if_no_progress (with_reducible apply Keeps.upd) | split)

theorem State.autoPlan_keeps {a : State} (s : State) (k : Nat) (hk : Keeps a s) :
    Keeps a (State.autoPlan s k) := by
  unfold State.autoPlan
  repeat' (first
    | with_reducible assumption | with_reducible intro _ | with_reducible apply State.beginWake_keeps
    | with_reducible apply State.modCulLane_keeps | with_reducible apply State.each_keeps | with_reducible apply Keeps.ite
    | fail_if_no_progress (with_reducible apply Keeps.upd) | split)

theorem execAutoSleep_keeps {a : State} (link : Nat) (s : State) (hk : Keeps a s) :
    OutKeeps a (execAutoSleep link s) := by
  unfold execAutoSleep
  repeat' (first
    | with_reducible assumption | with_reducible intro _ | with_reducible apply State.autoPlan_keeps
    | with_reducible apply State.beginSleep_keeps | with_reducible apply State.setWant_keeps | with_reducible apply State.idle_keeps
    | with_reducible apply State.each_keeps | with_reducible apply Keeps.ite | with_reducible apply OutKeeps.next
    | fail_if_no_progress (with_reducible apply Keeps.upd) | split | (dsimp only; split))

theorem State.coopWake_keeps {a : State} (s : State) (c : CoopSetCmd) (hk : Keeps a s) :
    Keeps a (State.coopWake s c) := by
  unfold State.coopWake
  repeat' (first
    | with_reducible assumption | with_reducible intro _ | with_reducible apply State.beginWake_keeps
    | with_reducible apply State.each_keeps | split)

theorem State.applyCoopSet_keeps {a : State} (s : State) (h : Hdr) (c : CoopSetCmd) (hk : Keeps a s) :
    Keeps a (State.applyCoopSet s h c) := by
  unfold State.applyCoopSet
  repeat' (first
    | with_reducible assumption | with_reducible intro _ | with_reducible apply State.coopWake_keeps
    | with_reducible apply State.autoPlan_keeps | with_reducible apply State.putSet_keeps
    | with_reducible apply State.completeR_keeps | with_reducible apply State.complete_keeps | with_reducible apply Keeps.ite
    | split)

theorem execLaneReadd_keeps {a : State} (lane : Nat) (s : State) (hk : Keeps a s) :
    OutKeeps a (execLaneReadd lane s) := by
  unfold execLaneReadd
  repeat' (first
    | with_reducible assumption | with_reducible intro _ | with_reducible apply State.setWant_keeps
    | with_reducible apply State.modCulLane_keeps | with_reducible apply Keeps.ite | with_reducible apply OutKeeps.next
    | fail_if_no_progress (with_reducible apply Keeps.upd) | split | (dsimp only; split))

theorem execCulvertFrame_keeps {a : State} (f : CulFrameIn) (s : State) (hk : Keeps a s) :
    OutKeeps a (execCulvertFrame f s) := by
  unfold execCulvertFrame
  repeat' (first
    | with_reducible assumption | with_reducible intro _ | with_reducible apply State.add64_keeps | with_reducible apply Keeps.ite
    | with_reducible apply OutKeeps.next | split)

theorem State.peerMasks_keeps {a : State} (s : State) (k lock aligned : Nat) (hk : Keeps a s) :
    Keeps a (State.peerMasks s k lock aligned) := by
  unfold State.peerMasks
  repeat' (first
    | with_reducible assumption | with_reducible intro _ | with_reducible apply State.setWant_keeps
    | with_reducible apply State.refreshLink_keeps | with_reducible apply State.modCulLink_keeps
    | with_reducible apply State.modCulLane_keeps | with_reducible apply State.each_keeps | with_reducible apply Keeps.foldl
    | with_reducible apply Keeps.foldl1 | with_reducible apply Keeps.foldl2 | with_reducible apply Keeps.ite
    | fail_if_no_progress (with_reducible apply Keeps.upd) | split)

theorem State.alignLink_keeps {a : State} (s : State) (k : Nat) (marks : List Nat) (hk : Keeps a s) :
    Keeps a (State.alignLink s k marks) := by
  unfold State.alignLink
  repeat' (first
    | with_reducible assumption | with_reducible intro _ | with_reducible apply State.beginWake_keeps
    | with_reducible apply State.culFinish_keeps | with_reducible apply State.refreshLink_keeps
    | with_reducible apply State.setAwake_keeps | with_reducible apply State.modCulLink_keeps
    | with_reducible apply State.modCulLane_keeps | with_reducible apply State.event_keeps | with_reducible apply State.each_keeps
    | with_reducible apply State.setF_keeps | with_reducible apply State.put_keeps | with_reducible apply Keeps.ite
    | fail_if_no_progress (with_reducible apply Keeps.upd) | split)

theorem State.culDrain_keeps {a : State} (s : State) (k : Nat) (hk : Keeps a s) :
    Keeps a (State.culDrain s k) := by
  unfold State.culDrain
  repeat' (first
    | with_reducible assumption | with_reducible intro _ | with_reducible apply State.modCulLink_keeps
    | with_reducible apply State.add64_keeps | with_reducible apply Keeps.ite | fail_if_no_progress (with_reducible apply Keeps.upd)
    | split)

theorem execPanelSyncFrame_keeps {a : State} (link : Nat) (f : PanelSync) (s : State) (hk : Keeps a s) :
    OutKeeps a (execPanelSyncFrame link f s) := by
  unfold execPanelSyncFrame
  repeat' (first
    | with_reducible assumption | with_reducible intro _ | with_reducible apply State.endPanelSync_keeps
    | with_reducible apply State.addSync_keeps | with_reducible apply State.culSend_keeps | with_reducible apply Keeps.ite
    | with_reducible apply OutKeeps.next | fail_if_no_progress (with_reducible apply Keeps.upd) | split | (dsimp only; split))

theorem execCulEyescan_keeps {a : State} (h : Hdr) (mask phi0 phi1 v0 v1 dwell addr : Nat) (s : State) (hk : Keeps a s) :
    OutKeeps a (execCulEyescan h mask phi0 phi1 v0 v1 dwell addr s) := by
  unfold execCulEyescan
  repeat' (first
    | with_reducible assumption | with_reducible intro _ | with_reducible apply State.acceptNow_keeps
    | with_reducible apply OutKeeps.next | fail_if_no_progress (with_reducible apply Keeps.upd) | split)

theorem execEyescanDone_keeps {a : State} (lanes : List EyeLane) (busOk : Bool) (s : State) (hk : Keeps a s) :
    OutKeeps a (execEyescanDone lanes busOk s) := by
  unfold execEyescanDone
  repeat' (first
    | with_reducible assumption | with_reducible intro _ | with_reducible apply State.complete_keeps
    | with_reducible apply State.hostWrite_keeps | with_reducible apply Keeps.ite | with_reducible apply OutKeeps.next
    | fail_if_no_progress (with_reducible apply Keeps.upd) | split | (dsimp only; split))

end Sys2Proof.Machine
end

