-- ==== Sys2Proof/Laws/KeepsTime.lean ====
section
/-! SUPPORT. What the operations of Time keep: the queue and the canonical form of the stores. -/
set_option linter.unreachableTactic false
set_option linter.unusedTactic false

namespace Sys2Proof.Machine
open Sys2Proof

theorem State.setAirOfs_keeps {a : State} (s : State) (value : Nat) (hk : Keeps a s) :
    Keeps a (State.setAirOfs s value) := by
  unfold State.setAirOfs
  repeat' (first
    | with_reducible assumption | with_reducible intro _ | with_reducible apply State.wr64_keeps
    | with_reducible apply State.setF_keeps | with_reducible apply Keeps.ite | split)

theorem execAirOfsWrite_keeps {a : State} (rq : Requester) (value : Nat) (s : State) (hk : Keeps a s) :
    OutKeeps a (execAirOfsWrite rq value s) := by
  unfold execAirOfsWrite
  repeat' (first
    | with_reducible assumption | with_reducible intro _ | with_reducible apply State.setAirOfs_keeps
    | with_reducible apply Keeps.ite | with_reducible apply OutKeeps.next | split)

theorem State.judgePtp_keeps {a : State} (s : State) (k : Nat) (hk : Keeps a s) :
    Keeps a (State.judgePtp s k) := by
  unfold State.judgePtp
  repeat' (first
    | with_reducible assumption | with_reducible intro _ | with_reducible apply State.elect_keeps
    | with_reducible apply State.modPtp_keeps | with_reducible apply Keeps.ite
    | fail_if_no_progress (with_reducible apply Keeps.upd) | split)

theorem execPtpAnnounce_keeps {a : State} (port : Nat) (a_ : AnnounceIn) (s : State) (hk : Keeps a s) :
    OutKeeps a (execPtpAnnounce port a_ s) := by
  unfold execPtpAnnounce
  repeat' (first
    | with_reducible assumption | with_reducible intro _ | with_reducible apply State.judgePtp_keeps
    | with_reducible apply State.modPtp_keeps | with_reducible apply Keeps.ite | with_reducible apply OutKeeps.next
    | fail_if_no_progress (with_reducible apply Keeps.upd) | split)

theorem State.ptpMeasure_keeps {a : State} (s : State) (k : Nat) (hk : Keeps a s) :
    Keeps a (State.ptpMeasure s k) := by
  unfold State.ptpMeasure
  repeat' (first
    | with_reducible assumption | with_reducible intro _ | with_reducible apply State.measure_keeps
    | with_reducible apply State.modPtp_keeps | with_reducible apply Keeps.ite
    | fail_if_no_progress (with_reducible apply Keeps.upd) | split | (dsimp only; split))

theorem execPtpSync_keeps {a : State} (port domain seq : Nat) (twoStep : Bool) (t1 corr : Nat) (s : State) (hk : Keeps a s) :
    OutKeeps a (execPtpSync port domain seq twoStep t1 corr s) := by
  unfold execPtpSync
  repeat' (first
    | with_reducible assumption | with_reducible intro _ | with_reducible apply State.ptpMeasure_keeps
    | with_reducible apply State.judgePtp_keeps | with_reducible apply State.modPtp_keeps | with_reducible apply Keeps.ite
    | with_reducible apply OutKeeps.next | fail_if_no_progress (with_reducible apply Keeps.upd) | split)

theorem execPtpFollowUp_keeps {a : State} (port domain seq t1 corr : Nat) (s : State) (hk : Keeps a s) :
    OutKeeps a (execPtpFollowUp port domain seq t1 corr s) := by
  unfold execPtpFollowUp
  repeat' (first
    | with_reducible assumption | with_reducible intro _ | with_reducible apply State.ptpMeasure_keeps
    | with_reducible apply State.modPtp_keeps | with_reducible apply Keeps.ite | with_reducible apply OutKeeps.next
    | fail_if_no_progress (with_reducible apply Keeps.upd) | split)

theorem execDelayReq_keeps {a : State} (port : Nat) (s : State) (hk : Keeps a s) :
    OutKeeps a (execDelayReq port s) := by
  unfold execDelayReq
  repeat' (first
    | with_reducible assumption | with_reducible intro _ | with_reducible apply State.modPtp_keeps | with_reducible apply Keeps.ite
    | with_reducible apply OutKeeps.next | fail_if_no_progress (with_reducible apply Keeps.upd) | split)

theorem execDelayResp_keeps {a : State} (port domain seq t4 corr : Nat) (s : State) (hk : Keeps a s) :
    OutKeeps a (execDelayResp port domain seq t4 corr s) := by
  unfold execDelayResp
  repeat' (first
    | with_reducible assumption | with_reducible intro _ | with_reducible apply State.modPtp_keeps | with_reducible apply Keeps.ite
    | with_reducible apply OutKeeps.next | fail_if_no_progress (with_reducible apply Keeps.upd) | split | (dsimp only; split))

theorem execPtpSourceLost_keeps {a : State} (port : Nat) (s : State) (hk : Keeps a s) :
    OutKeeps a (execPtpSourceLost port s) := by
  unfold execPtpSourceLost
  repeat' (first
    | with_reducible assumption | with_reducible intro _ | with_reducible apply State.judgePtp_keeps
    | with_reducible apply State.modPtp_keeps | with_reducible apply Keeps.ite | with_reducible apply OutKeeps.next
    | fail_if_no_progress (with_reducible apply Keeps.upd) | split)

theorem execPpsInEdge_keeps {a : State} (s : State) (hk : Keeps a s) :
    OutKeeps a (execPpsInEdge s) := by
  unfold execPpsInEdge
  repeat' (first
    | with_reducible assumption | with_reducible intro _ | with_reducible apply State.measure_keeps
    | with_reducible apply State.elect_keeps | with_reducible apply State.wr64_keeps | with_reducible apply State.setF_keeps
    | with_reducible apply Keeps.ite | with_reducible apply OutKeeps.next | fail_if_no_progress (with_reducible apply Keeps.upd)
    | split)

theorem execPpsLost_keeps {a : State} (s : State) (hk : Keeps a s) :
    OutKeeps a (execPpsLost s) := by
  unfold execPpsLost
  repeat' (first
    | with_reducible assumption | with_reducible intro _ | with_reducible apply State.elect_keeps | with_reducible apply Keeps.ite
    | with_reducible apply OutKeeps.next | fail_if_no_progress (with_reducible apply Keeps.upd) | split | (dsimp only; split))

theorem execPpsOut_keeps {a : State} (rise : Bool) (s : State) (hk : Keeps a s) :
    OutKeeps a (execPpsOut rise s) := by
  unfold execPpsOut
  repeat' (first
    | with_reducible assumption | with_reducible intro _ | with_reducible apply Keeps.ite | with_reducible apply OutKeeps.next
    | fail_if_no_progress (with_reducible apply Keeps.upd) | split)

theorem execClockLocked_keeps {a : State} (s : State) (hk : Keeps a s) :
    OutKeeps a (execClockLocked s) := by
  unfold execClockLocked
  repeat' (first
    | with_reducible assumption | with_reducible intro _ | with_reducible apply State.clockTo_keeps | with_reducible apply Keeps.ite
    | with_reducible apply OutKeeps.next | fail_if_no_progress (with_reducible apply Keeps.upd) | split | (dsimp only; split))

theorem execTimeCellSend_keeps {a : State} (port : Nat) (s : State) (hk : Keeps a s) :
    OutKeeps a (execTimeCellSend port s) := by
  unfold execTimeCellSend
  repeat' (first
    | with_reducible assumption | with_reducible intro _ | with_reducible apply State.modLane_keeps
    | with_reducible apply State.each_keeps | with_reducible apply Keeps.ite | with_reducible apply OutKeeps.next
    | fail_if_no_progress (with_reducible apply Keeps.upd) | split)

theorem State.thetaSample_keeps {a : State} (s : State) (port a1 a4 b2 b3 : Nat) (hk : Keeps a s) :
    Keeps a (State.thetaSample s port a1 a4 b2 b3) := by
  unfold State.thetaSample
  repeat' (first
    | with_reducible assumption | with_reducible intro _ | with_reducible apply State.modTimePort_keeps
    | with_reducible apply Keeps.ite | fail_if_no_progress (with_reducible apply Keeps.upd) | split)

theorem State.timeTransfer_keeps {a : State} (s : State) (port epoch : Nat) (b : List Nat) (tx rx : List (Nat × Nat))
    (hk : Keeps a s) :
    Keeps a (State.timeTransfer s port epoch b tx rx) := by
  unfold State.timeTransfer
  repeat' (first
    | with_reducible assumption | with_reducible intro _ | with_reducible apply State.thetaSample_keeps
    | with_reducible apply State.refusePort_keeps | with_reducible apply State.elect_keeps
    | with_reducible apply State.modTimePort_keeps | with_reducible apply Keeps.ite
    | fail_if_no_progress (with_reducible apply Keeps.upd) | split | (dsimp only; split))

theorem execTimeTransferCell_keeps {a : State} (lane : Nat) (s : State) (hk : Keeps a s) :
    OutKeeps a (execTimeTransferCell lane s) := by
  unfold execTimeTransferCell
  repeat' (first
    | with_reducible assumption | with_reducible intro _ | with_reducible apply State.timeTransfer_keeps
    | with_reducible apply State.modLane_keeps | with_reducible apply Keeps.ite | with_reducible apply OutKeeps.next
    | fail_if_no_progress (with_reducible apply Keeps.upd) | split | (dsimp only; split))

theorem execThetaUpdate_keeps {a : State} (port : Nat) (s : State) (hk : Keeps a s) :
    OutKeeps a (execThetaUpdate port s) := by
  unfold execThetaUpdate
  repeat' (first
    | with_reducible assumption | with_reducible intro _ | with_reducible apply State.measure_keeps
    | with_reducible apply State.modTimePort_keeps | with_reducible apply State.event_keeps | with_reducible apply State.when_keeps
    | with_reducible apply State.put_keeps | with_reducible apply Keeps.ite | with_reducible apply OutKeeps.next
    | fail_if_no_progress (with_reducible apply Keeps.upd) | split)

theorem execRootSeqAdvance_keeps {a : State} (s : State) (hk : Keeps a s) :
    OutKeeps a (execRootSeqAdvance s) := by
  unfold execRootSeqAdvance
  repeat' (first
    | with_reducible assumption | with_reducible intro _ | with_reducible apply Keeps.ite | with_reducible apply OutKeeps.next
    | fail_if_no_progress (with_reducible apply Keeps.upd) | split)

theorem execRootLost_keeps {a : State} (s : State) (hk : Keeps a s) :
    OutKeeps a (execRootLost s) := by
  unfold execRootLost
  repeat' (first
    | with_reducible assumption | with_reducible intro _ | with_reducible apply State.elect_keeps
    | with_reducible apply State.clockTo_keeps | with_reducible apply State.when_keeps | with_reducible apply Keeps.ite
    | with_reducible apply OutKeeps.next | fail_if_no_progress (with_reducible apply Keeps.upd) | split)

theorem execOwnKeyWindowEnd_keeps {a : State} (s : State) (hk : Keeps a s) :
    OutKeeps a (execOwnKeyWindowEnd s) := by
  unfold execOwnKeyWindowEnd
  repeat' (first
    | with_reducible assumption | with_reducible intro _ | with_reducible apply State.elect_keeps | with_reducible apply Keeps.ite
    | with_reducible apply OutKeeps.next | fail_if_no_progress (with_reducible apply Keeps.upd) | split | (dsimp only; split))

theorem execExtDisagree_keeps {a : State} (diff : Int) (s : State) (hk : Keeps a s) :
    OutKeeps a (execExtDisagree diff s) := by
  unfold execExtDisagree
  repeat' (first
    | with_reducible assumption | with_reducible intro _ | with_reducible apply State.event_keeps
    | with_reducible apply State.setF_keeps | with_reducible apply Keeps.ite | with_reducible apply OutKeeps.next
    | fail_if_no_progress (with_reducible apply Keeps.upd) | split | (dsimp only; split))

theorem execTimeStep_keeps {a : State} (h : Hdr) (sec ns : Nat) (s : State) (hk : Keeps a s) :
    OutKeeps a (execTimeStep h sec ns s) := by
  unfold execTimeStep
  repeat' (first
    | with_reducible assumption | with_reducible intro _ | with_reducible apply State.acceptNow_keeps
    | with_reducible apply State.complete_keeps | with_reducible apply OutKeeps.next
    | fail_if_no_progress (with_reducible apply Keeps.upd) | split)

theorem execTimeEpoch_keeps {a : State} (h : Hdr) (epoch : Nat) (s : State) (hk : Keeps a s) :
    OutKeeps a (execTimeEpoch h epoch s) := by
  unfold execTimeEpoch
  repeat' (first
    | with_reducible assumption | with_reducible intro _ | with_reducible apply State.setEpoch_keeps
    | with_reducible apply State.acceptNow_keeps | with_reducible apply State.complete_keeps | with_reducible apply OutKeeps.next
    | split)

theorem execOtaCal_keeps {a : State} (h : Hdr) (c : OtaCmd) (s : State) (hk : Keeps a s) :
    OutKeeps a (execOtaCal h c s) := by
  unfold execOtaCal
  repeat' (first
    | with_reducible assumption | with_reducible intro _ | with_reducible apply State.acceptTimed_keeps
    | with_reducible apply OutKeeps.next | split)

theorem State.applyOtaCal_keeps {a : State} (s : State) (h : Hdr) (c : OtaCmd) (hk : Keeps a s) :
    Keeps a (State.applyOtaCal s h c) := by
  unfold State.applyOtaCal
  repeat' (first
    | with_reducible assumption | with_reducible intro _ | fail_if_no_progress (with_reducible apply Keeps.upd) | split)

theorem execOtaCalResult_keeps {a : State} (o : OtaObs) (s : State) (hk : Keeps a s) :
    OutKeeps a (execOtaCalResult o s) := by
  unfold execOtaCalResult
  repeat' (first
    | with_reducible assumption | with_reducible intro _ | with_reducible apply State.complete_keeps
    | with_reducible apply State.completeX_keeps | with_reducible apply State.event_keeps
    | with_reducible apply State.hostWrite_keeps | with_reducible apply OutKeeps.next
    | fail_if_no_progress (with_reducible apply Keeps.upd) | split | (dsimp only; split))

theorem execHeartbeat_keeps {a : State} (lane : Nat) (s : State) (hk : Keeps a s) :
    OutKeeps a (execHeartbeat lane s) := by
  unfold execHeartbeat
  repeat' (first
    | with_reducible assumption | with_reducible intro _ | refine State.popCell_keeps _ _ _ _ _ (by assumption) ?_
    | with_reducible apply State.modPort_keeps | with_reducible apply State.seeEpoch_keeps
    | with_reducible apply State.refusePort_keeps | with_reducible apply State.joinPort_keeps
    | with_reducible apply State.modTimePort_keeps | with_reducible apply State.event_keeps | with_reducible apply State.when_keeps
    | with_reducible apply Keeps.ite | with_reducible apply OutKeeps.next | fail_if_no_progress (with_reducible apply Keeps.upd)
    | split | (dsimp only; split))

theorem execAlignPeriod_keeps {a : State} (link : Nat) (marks : List Nat) (s : State) (hk : Keeps a s) :
    OutKeeps a (execAlignPeriod link marks s) := by
  unfold execAlignPeriod
  repeat' (first
    | with_reducible assumption | with_reducible intro _ | with_reducible apply State.culDrain_keeps
    | with_reducible apply State.alignLink_keeps | with_reducible apply State.culReport_keeps
    | with_reducible apply State.culSend_keeps | with_reducible apply Keeps.ite | with_reducible apply OutKeeps.next | split)

theorem execLinkMgmtFrame_keeps {a : State} (link : Nat) (m : LinkMgmt) (s : State) (hk : Keeps a s) :
    OutKeeps a (execLinkMgmtFrame link m s) := by
  unfold execLinkMgmtFrame
  repeat' (first
    | with_reducible assumption | with_reducible intro _ | with_reducible apply State.timeTransfer_keeps
    | with_reducible apply State.peerMasks_keeps | with_reducible apply State.seeEpoch_keeps | with_reducible apply Keeps.ite
    | with_reducible apply OutKeeps.next | fail_if_no_progress (with_reducible apply Keeps.upd) | split | (dsimp only; split))

theorem execSetStateChange_keeps {a : State} (set : Nat) (s : State) (hk : Keeps a s) :
    OutKeeps a (execSetStateChange set s) := by
  unfold execSetStateChange
  repeat' (first
    | with_reducible assumption | with_reducible intro _ | with_reducible apply State.moveSet_keeps | with_reducible apply Keeps.ite
    | with_reducible apply OutKeeps.next | fail_if_no_progress (with_reducible apply Keeps.upd) | split | (dsimp only; split))

end Sys2Proof.Machine
end

