-- ==== Sys2Proof/Laws/KeepsSluice.lean ====
section
/-! SUPPORT. What the operations of Sluice keep: the queue and the canonical form of the stores. -/
set_option linter.unreachableTactic false
set_option linter.unusedTactic false

namespace Sys2Proof.Machine
open Sys2Proof

theorem State.modSlu_keeps {a : State} (s : State) (c : Nat) (f : SluChan → SluChan) (hk : Keeps a s) :
    Keeps a (State.modSlu s c f) := by
  unfold State.modSlu
  repeat' (first
    | with_reducible assumption | with_reducible intro _ | fail_if_no_progress (with_reducible apply Keeps.upd) | split)

theorem State.sluTo_keeps {a : State} (s : State) (c new : Nat) (hk : Keeps a s) :
    Keeps a (State.sluTo s c new) := by
  unfold State.sluTo
  repeat' (first
    | with_reducible assumption | with_reducible intro _ | with_reducible apply State.event_keeps
    | with_reducible apply State.put_keeps | with_reducible apply Keeps.ite | split)

theorem execSluiceDescriptor_keeps {a : State} (ch : Nat) (busFail : Option SluFail) (s : State) (hk : Keeps a s) :
    OutKeeps a (execSluiceDescriptor ch busFail s) := by
  unfold execSluiceDescriptor
  repeat' (first
    | with_reducible assumption | with_reducible intro _ | with_reducible apply State.sluTo_keeps
    | with_reducible apply State.modSlu_keeps | with_reducible apply State.event_keeps | with_reducible apply State.fresh_keeps
    | with_reducible apply State.setF_keeps | with_reducible apply Keeps.ite | with_reducible apply OutKeeps.next
    | fail_if_no_progress (with_reducible apply Keeps.upd) | split)

theorem State.sluFollow_keeps {a : State} (s : State) (c ctrl : Nat) (hk : Keeps a s) :
    Keeps a (State.sluFollow s c ctrl) := by
  unfold State.sluFollow
  repeat' (first
    | with_reducible assumption | with_reducible intro _ | with_reducible apply State.sluTo_keeps
    | with_reducible apply State.modSlu_keeps | with_reducible apply State.wr64_keeps | with_reducible apply State.put_keeps
    | with_reducible apply Keeps.ite | fail_if_no_progress (with_reducible apply Keeps.upd) | split)

theorem State.sluEnd_keeps {a : State} (s : State) (c pos : Nat) (j : SluJob) (hk : Keeps a s) :
    Keeps a (State.sluEnd s c pos j) := by
  unfold State.sluEnd
  repeat' (first
    | with_reducible assumption | with_reducible intro _ | with_reducible apply State.modSlu_keeps
    | with_reducible apply State.event_keeps | with_reducible apply State.when_keeps | with_reducible apply State.wr64_keeps
    | with_reducible apply State.setF_keeps | with_reducible apply Keeps.ite | fail_if_no_progress (with_reducible apply Keeps.upd)
    | split)

theorem execDescriptorComplete_keeps {a : State} (ch : Nat) (s : State) (hk : Keeps a s) :
    OutKeeps a (execDescriptorComplete ch s) := by
  unfold execDescriptorComplete
  repeat' (first
    | with_reducible assumption | with_reducible intro _ | with_reducible apply State.sluEnd_keeps
    | with_reducible apply State.sluFollow_keeps | with_reducible apply State.sluTo_keeps | with_reducible apply State.modSlu_keeps
    | with_reducible apply State.completeR_keeps | with_reducible apply State.devWrite_keeps
    | with_reducible apply State.hostWrite_keeps | with_reducible apply State.each_keeps | with_reducible apply State.add64_keeps
    | with_reducible apply State.put_keeps | with_reducible apply Keeps.ite | with_reducible apply OutKeeps.next
    | fail_if_no_progress (with_reducible apply Keeps.upd) | split | (dsimp only; split))

theorem execCtrlPoll_keeps {a : State} (ch : Nat) (s : State) (hk : Keeps a s) :
    OutKeeps a (execCtrlPoll ch s) := by
  unfold execCtrlPoll
  repeat' (first
    | with_reducible assumption | with_reducible intro _ | with_reducible apply State.sluFollow_keeps
    | with_reducible apply State.sluTo_keeps | with_reducible apply State.modSlu_keeps | with_reducible apply State.put_keeps
    | with_reducible apply Keeps.ite | with_reducible apply OutKeeps.next | fail_if_no_progress (with_reducible apply Keeps.upd)
    | split)

theorem State.sluKickOne_keeps {a : State} (s : State) (c : Nat) (hk : Keeps a s) :
    Keeps a (State.sluKickOne s c) := by
  unfold State.sluKickOne
  repeat' (first
    | with_reducible assumption | with_reducible intro _ | with_reducible apply State.sluTo_keeps
    | with_reducible apply State.modSlu_keeps | with_reducible apply State.setF_keeps | with_reducible apply State.put_keeps
    | with_reducible apply Keeps.ite | fail_if_no_progress (with_reducible apply Keeps.upd) | split)

theorem State.sluKick_keeps {a : State} (s : State) (value : Nat) (hk : Keeps a s) :
    Keeps a (State.sluKick s value) := by
  unfold State.sluKick
  repeat' (first
    | with_reducible assumption | with_reducible intro _ | with_reducible apply State.sluKickOne_keeps
    | with_reducible apply State.each_keeps | split)

theorem execSluKick_keeps {a : State} (rq : Requester) (value : Nat) (s : State) (hk : Keeps a s) :
    OutKeeps a (execSluKick rq value s) := by
  unfold execSluKick
  repeat' (first
    | with_reducible assumption | with_reducible intro _ | with_reducible apply State.sluKick_keeps | with_reducible apply Keeps.ite
    | with_reducible apply OutKeeps.next | split)

theorem execSluChain_keeps {a : State} (h : Hdr) (ch : Nat) (stopOnErr : Bool) (head : Nat) (s : State) (hk : Keeps a s) :
    OutKeeps a (execSluChain h ch stopOnErr head s) := by
  unfold execSluChain
  repeat' (first
    | with_reducible assumption | with_reducible intro _ | with_reducible apply State.sluTo_keeps
    | with_reducible apply State.modSlu_keeps | with_reducible apply State.acceptNow_keeps
    | with_reducible apply State.complete_keeps | with_reducible apply State.wr64_keeps | with_reducible apply State.put_keeps
    | with_reducible apply OutKeeps.next | split)

theorem execSluStop_keeps {a : State} (h : Hdr) (ch : Nat) (s : State) (hk : Keeps a s) :
    OutKeeps a (execSluStop h ch s) := by
  unfold execSluStop
  repeat' (first
    | with_reducible assumption | with_reducible intro _ | with_reducible apply State.sluTo_keeps
    | with_reducible apply State.modSlu_keeps | with_reducible apply State.acceptNow_keeps
    | with_reducible apply State.completeR_keeps | with_reducible apply State.put_keeps | with_reducible apply Keeps.ite
    | with_reducible apply OutKeeps.next | fail_if_no_progress (with_reducible apply Keeps.upd) | split)

end Sys2Proof.Machine
end

