-- ==== Sys2Proof/Laws/KeepsSeawall.lean ====
section
/-! SUPPORT. What the operations of Seawall keep: the queue and the canonical form of the stores. -/
set_option linter.unreachableTactic false
set_option linter.unusedTactic false

namespace Sys2Proof.Machine
open Sys2Proof

theorem execSeaIdentity_keeps {a : State} (h : Hdr) (addr : Nat) (s : State) (hk : Keeps a s) :
    OutKeeps a (execSeaIdentity h addr s) := by
  unfold execSeaIdentity
  repeat' (first
    | with_reducible assumption | with_reducible intro _ | with_reducible apply State.seaSubmit_keeps
    | with_reducible apply State.acceptNow_keeps | with_reducible apply OutKeeps.next | split)

theorem execSeaAttest_keeps {a : State} (h : Hdr) (nonce addr : Nat) (s : State) (hk : Keeps a s) :
    OutKeeps a (execSeaAttest h nonce addr s) := by
  unfold execSeaAttest
  repeat' (first
    | with_reducible assumption | with_reducible intro _ | with_reducible apply State.seaSubmit_keeps
    | with_reducible apply State.acceptNow_keeps | with_reducible apply OutKeeps.next | split)

theorem execSeaSetId_keeps {a : State} (h : Hdr) (id : Nat) (s : State) (hk : Keeps a s) :
    OutKeeps a (execSeaSetId h id s) := by
  unfold execSeaSetId
  repeat' (first
    | with_reducible assumption | with_reducible intro _ | with_reducible apply State.seaSubmit_keeps
    | with_reducible apply State.acceptNow_keeps | with_reducible apply OutKeeps.next | split)

theorem execSeaCommit_keeps {a : State} (h : Hdr) (cls version : Nat) (s : State) (hk : Keeps a s) :
    OutKeeps a (execSeaCommit h cls version s) := by
  unfold execSeaCommit
  repeat' (first
    | with_reducible assumption | with_reducible intro _ | with_reducible apply State.seaSubmit_keeps
    | with_reducible apply State.acceptNow_keeps | with_reducible apply OutKeeps.next | split)

theorem execSeaEnrol_keeps {a : State} (h : Hdr) (slot addr : Nat) (s : State) (hk : Keeps a s) :
    OutKeeps a (execSeaEnrol h slot addr s) := by
  unfold execSeaEnrol
  repeat' (first
    | with_reducible assumption | with_reducible intro _ | with_reducible apply State.seaSubmit_keeps
    | with_reducible apply State.acceptNow_keeps | with_reducible apply OutKeeps.next | split)

theorem execSeaCak_keeps {a : State} (h : Hdr) (addr : Nat) (s : State) (hk : Keeps a s) :
    OutKeeps a (execSeaCak h addr s) := by
  unfold execSeaCak
  repeat' (first
    | with_reducible assumption | with_reducible intro _ | with_reducible apply State.seaSubmit_keeps
    | with_reducible apply State.acceptNow_keeps | with_reducible apply OutKeeps.next | split)

theorem execSeaRetire_keeps {a : State} (h : Hdr) (uid : Nat) (s : State) (hk : Keeps a s) :
    OutKeeps a (execSeaRetire h uid s) := by
  unfold execSeaRetire
  repeat' (first
    | with_reducible assumption | with_reducible intro _ | with_reducible apply State.seaSubmit_keeps
    | with_reducible apply State.acceptNow_keeps | with_reducible apply OutKeeps.next | split)

theorem execEntropyFailure_keeps {a : State} (s : State) (hk : Keeps a s) :
    OutKeeps a (execEntropyFailure s) := by
  unfold execEntropyFailure
  repeat' (first
    | with_reducible assumption | with_reducible intro _ | with_reducible apply State.event_keeps
    | with_reducible apply State.setF_keeps | with_reducible apply Keeps.ite | with_reducible apply OutKeeps.next
    | fail_if_no_progress (with_reducible apply Keeps.upd) | split)

theorem execEntropyRecovered_keeps {a : State} (s : State) (hk : Keeps a s) :
    OutKeeps a (execEntropyRecovered s) := by
  unfold execEntropyRecovered
  repeat' (first
    | with_reducible assumption | with_reducible intro _ | with_reducible apply State.event_keeps | with_reducible apply Keeps.ite
    | with_reducible apply OutKeeps.next | fail_if_no_progress (with_reducible apply Keeps.upd) | split)

theorem State.burnSea_keeps {a : State} (s : State) (field : Nat) (l : List (Nat × Nat)) (stopped : Option Nat) (hk : Keeps a s) :
    Keeps a (s.burnSea field l stopped).1 := by
  unfold State.burnSea
  dsimp only
  apply State.when_keeps
  · exact State.each_keeps _ _ _ hk fun x y h => State.burn_keeps _ _ _ h
  · intro x h; exact State.event_keeps _ _ _ _ h

theorem State.raiseCount_keeps {a : State} (s : State) (c v : Nat) (stopped : Option Nat) (hk : Keeps a s) :
    Keeps a (s.raiseCount c v stopped).1 := by
  unfold State.raiseCount
  dsimp only
  apply State.when_keeps
  · exact State.burnSea_keeps _ _ _ _ hk
  · intro x h; exact State.event_keeps _ _ _ _ h

theorem State.acceptLimits_keeps {a : State} (s : State) (h : Hdr) (c : List Nat) (slot : Nat) (hk : Keeps a s) :
    Keeps a (State.acceptLimits s h c slot) := by
  unfold State.acceptLimits
  repeat' (first
    | with_reducible assumption | with_reducible intro _ | with_reducible apply State.complete_keeps
    | with_reducible apply State.event_keeps | with_reducible apply State.setF_keeps | with_reducible apply Keeps.ite
    | fail_if_no_progress (with_reducible apply Keeps.upd) | split)

theorem State.certRefused_keeps {a : State} (s : State) (h : Hdr) (st ver : Nat) (hk : Keeps a s) :
    Keeps a (State.certRefused s h st ver) := by
  unfold State.certRefused
  repeat' (first
    | with_reducible assumption | with_reducible intro _ | with_reducible apply State.verifyFail_keeps
    | with_reducible apply State.complete_keeps | split)

theorem State.doCert_keeps {a : State} (s : State) (h : Hdr) (addr : Nat) (stopped : Option Nat) (hk : Keeps a s) :
    Keeps a (State.doCert s h addr stopped) := by
  unfold State.doCert
  repeat' (first
    | with_reducible assumption | with_reducible intro _ | with_reducible apply State.certRefused_keeps
    | with_reducible apply State.acceptLimits_keeps | with_reducible apply State.raiseCount_keeps
    | with_reducible apply State.complete_keeps | with_reducible apply State.event_keeps | with_reducible apply State.each_keeps
    | with_reducible apply Keeps.ite | fail_if_no_progress (with_reducible apply Keeps.upd) | split | (dsimp only; split))

theorem State.setMuteCounter_keeps {a : State} (s : State) (n : Nat) (hk : Keeps a s) :
    Keeps a (State.setMuteCounter s n) := by
  unfold State.setMuteCounter
  repeat' (first
    | with_reducible assumption | with_reducible intro _ | with_reducible apply Keeps.ite
    | fail_if_no_progress (with_reducible apply Keeps.upd) | split)

theorem State.applyOrder_keeps {a : State} (s : State) (o : List Nat) (hk : Keeps a s) :
    Keeps a (State.applyOrder s o) := by
  unfold State.applyOrder
  repeat' (first
    | with_reducible assumption | with_reducible intro _ | with_reducible apply State.unmutePath_keeps
    | with_reducible apply State.mutePath_keeps | with_reducible apply State.each_keeps | with_reducible apply Keeps.ite
    | fail_if_no_progress (with_reducible apply Keeps.upd) | split)

theorem State.takeOrder_keeps {a : State} (s : State) (o : List Nat) (lane hops : Nat) (ports : List Nat) (always : Bool)
    (hk : Keeps a s) :
    Keeps a (State.takeOrder s o lane hops ports always) := by
  unfold State.takeOrder
  repeat' (first
    | with_reducible assumption | with_reducible intro _ | with_reducible apply State.applyOrder_keeps
    | with_reducible apply State.setMuteCounter_keeps | with_reducible apply State.sendOrder_keeps
    | with_reducible apply State.event_keeps | with_reducible apply State.when_keeps | with_reducible apply State.each_keeps
    | with_reducible apply Keeps.ite | split)

theorem State.doOrder_keeps {a : State} (s : State) (port : Nat) (o : List Nat) (hops : Nat) (hk : Keeps a s) :
    Keeps a (State.doOrder s port o hops) := by
  unfold State.doOrder
  repeat' (first
    | with_reducible assumption | with_reducible intro _ | with_reducible apply State.takeOrder_keeps
    | with_reducible apply State.authCount_keeps | with_reducible apply State.event_keeps | with_reducible apply Keeps.ite | split)

theorem State.doRmute_keeps {a : State} (s : State) (h : Hdr) (addr : Nat) (hk : Keeps a s) :
    Keeps a (State.doRmute s h addr) := by
  unfold State.doRmute
  repeat' (first
    | with_reducible assumption | with_reducible intro _ | with_reducible apply State.takeOrder_keeps
    | with_reducible apply State.authCount_keeps | with_reducible apply State.complete_keeps
    | with_reducible apply State.event_keeps | with_reducible apply Keeps.ite | split)

theorem State.modEngine_keeps {a : State} (s : State) (n : Nat) (f : Engine → Engine) (hk : Keeps a s) :
    Keeps a (State.modEngine s n f) := by
  unfold State.modEngine
  repeat' (first
    | with_reducible assumption | with_reducible intro _ | fail_if_no_progress (with_reducible apply Keeps.upd) | split)

theorem State.kernelWait_keeps {a : State} (s : State) (n : Nat) (h : Hdr) (k : Option Kernel) (hk : Keeps a s) :
    Keeps a (State.kernelWait s n h k) := by
  unfold State.kernelWait
  repeat' (first
    | with_reducible assumption | with_reducible intro _ | with_reducible apply State.modEngine_keeps
    | with_reducible apply State.complete_keeps | with_reducible apply State.each_keeps | with_reducible apply Keeps.ite
    | fail_if_no_progress (with_reducible apply Keeps.upd) | split | (dsimp only; split))

theorem State.doKernel_keeps {a : State} (s : State) (h : Hdr) (mask addr len : Nat) (hk : Keeps a s) :
    Keeps a (State.doKernel s h mask addr len) := by
  unfold State.doKernel
  repeat' (first
    | with_reducible assumption | with_reducible intro _ | with_reducible apply State.kernelWait_keeps
    | with_reducible apply State.verifyFail_keeps | with_reducible apply State.complete_keeps
    | with_reducible apply State.each_keeps | with_reducible apply Keeps.ite | fail_if_no_progress (with_reducible apply Keeps.upd)
    | split)

theorem State.doSetId_keeps {a : State} (s : State) (h : Hdr) (id : Nat) (hk : Keeps a s) :
    Keeps a (State.doSetId s h id) := by
  unfold State.doSetId
  repeat' (first
    | with_reducible assumption | with_reducible intro _ | with_reducible apply State.idSign_keeps
    | with_reducible apply State.complete_keeps | fail_if_no_progress (with_reducible apply Keeps.upd) | split | (dsimp only; split))

theorem State.doCommit_keeps {a : State} (s : State) (h : Hdr) (c v : Nat) (stopped : Option Nat) (hk : Keeps a s) :
    Keeps a (State.doCommit s h c v stopped) := by
  unfold State.doCommit
  repeat' (first
    | with_reducible assumption | with_reducible intro _ | with_reducible apply State.raiseCount_keeps
    | with_reducible apply State.burnSea_keeps | with_reducible apply State.complete_keeps | with_reducible apply Keeps.ite
    | fail_if_no_progress (with_reducible apply Keeps.upd) | split | (dsimp only; split))

theorem State.doEnrol_keeps {a : State} (s : State) (h : Hdr) (slot addr : Nat) (stopped : Option Nat) (hk : Keeps a s) :
    Keeps a (State.doEnrol s h slot addr stopped) := by
  unfold State.doEnrol
  repeat' (first
    | with_reducible assumption | with_reducible intro _ | with_reducible apply State.burnSea_keeps
    | with_reducible apply State.authCount_keeps | with_reducible apply State.complete_keeps
    | with_reducible apply State.event_keeps | with_reducible apply Keeps.ite | fail_if_no_progress (with_reducible apply Keeps.upd)
    | split | (dsimp only; split))

theorem State.doCak_keeps {a : State} (s : State) (h : Hdr) (addr : Nat) (hk : Keeps a s) :
    Keeps a (State.doCak s h addr) := by
  unfold State.doCak
  repeat' (first
    | with_reducible assumption | with_reducible intro _ | with_reducible apply State.authCount_keeps
    | with_reducible apply State.complete_keeps | with_reducible apply State.event_keeps | with_reducible apply State.each_keeps
    | with_reducible apply State.put_keeps | with_reducible apply Keeps.ite | fail_if_no_progress (with_reducible apply Keeps.upd)
    | split)

theorem State.doRetire_keeps {a : State} (s : State) (h : Hdr) (stopped : Option Nat) (hk : Keeps a s) :
    Keeps a (State.doRetire s h stopped) := by
  unfold State.doRetire
  repeat' (first
    | with_reducible assumption | with_reducible intro _ | with_reducible apply State.burnSea_keeps
    | with_reducible apply State.dropSas_keeps | with_reducible apply State.tileOff_keeps
    | with_reducible apply State.complete_keeps | with_reducible apply State.each_keeps | with_reducible apply State.put_keeps
    | with_reducible apply Keeps.ite | fail_if_no_progress (with_reducible apply Keeps.upd) | split | (dsimp only; split))

theorem State.seaRun_keeps {a : State} (s : State) (j : SeaJob) (stopped : Option Nat) (hk : Keeps a s) :
    Keeps a (State.seaRun s j stopped) := by
  unfold State.seaRun
  repeat' (first
    | with_reducible assumption | with_reducible intro _ | with_reducible apply State.doRetire_keeps
    | with_reducible apply State.doCak_keeps | with_reducible apply State.doEnrol_keeps | with_reducible apply State.doCommit_keeps
    | with_reducible apply State.doSetId_keeps | with_reducible apply State.doKernel_keeps
    | with_reducible apply State.doRmute_keeps | with_reducible apply State.doOrder_keeps | with_reducible apply State.doCert_keeps
    | with_reducible apply State.idSign_keeps | with_reducible apply State.complete_keeps
    | with_reducible apply State.hostWrite_keeps | fail_if_no_progress (with_reducible apply Keeps.upd) | split
    | (dsimp only; split))

theorem State.seaNext_keeps {a : State} (s : State) (hk : Keeps a s) :
    Keeps a (State.seaNext s) := by
  unfold State.seaNext
  repeat' (first
    | with_reducible assumption | with_reducible intro _ | with_reducible apply State.put_keeps
    | fail_if_no_progress (with_reducible apply Keeps.upd) | split | (dsimp only; split))

theorem execSeawallOperationDone_keeps {a : State} (stopped : Option Nat) (s : State) (hk : Keeps a s) :
    OutKeeps a (execSeawallOperationDone stopped s) := by
  unfold execSeawallOperationDone
  repeat' (first
    | with_reducible assumption | with_reducible intro _ | with_reducible apply State.seaNext_keeps
    | with_reducible apply State.seaRun_keeps | with_reducible apply OutKeeps.next
    | fail_if_no_progress (with_reducible apply Keeps.upd) | split | (dsimp only; split))

end Sys2Proof.Machine
end

