-- ==== Sys2Proof/Laws/KeepsBoot.lean ====
section
/-! SUPPORT. What the operations of Boot keep: the queue and the canonical form of the stores. -/
set_option linter.unreachableTactic false
set_option linter.unusedTactic false

namespace Sys2Proof.Machine
open Sys2Proof

theorem execRstnFall_keeps {a : State} (s : State) (hk : Keeps a s) :
    OutKeeps a (execRstnFall s) := by
  unfold execRstnFall
  repeat' (first
    | with_reducible assumption | with_reducible intro _ | with_reducible apply State.restart_keeps
    | with_reducible apply OutKeeps.next | fail_if_no_progress (with_reducible apply Keeps.upd) | split)

theorem execSupplyMonitorTrip_keeps {a : State} (aonLost : Bool) (s : State) (hk : Keeps a s) :
    OutKeeps a (execSupplyMonitorTrip aonLost s) := by
  unfold execSupplyMonitorTrip
  repeat' (first
    | with_reducible assumption | with_reducible intro _ | with_reducible apply State.restart_keeps
    | with_reducible apply OutKeeps.next | fail_if_no_progress (with_reducible apply Keeps.upd) | split)

theorem State.softReset_keeps {a : State} (s : State) (key : Nat) (hk : Keeps a s) :
    Keeps a (State.softReset s key) := by
  unfold State.softReset
  repeat' (first
    | with_reducible assumption | with_reducible intro _ | with_reducible apply State.restart_keeps | with_reducible apply Keeps.ite
    | split)

theorem execSoftRst_keeps {a : State} (rq : Requester) (key : Nat) (s : State) (hk : Keeps a s) :
    OutKeeps a (execSoftRst rq key s) := by
  unfold execSoftRst
  repeat' (first
    | with_reducible assumption | with_reducible intro _ | with_reducible apply State.softReset_keeps
    | with_reducible apply Keeps.ite | with_reducible apply OutKeeps.next | split)

theorem State.loadConfig_keeps {a : State} (s : State) (hk : Keeps a s) :
    Keeps a (State.loadConfig s) := by
  unfold State.loadConfig
  repeat' (first
    | with_reducible assumption | with_reducible intro _ | with_reducible apply State.event_keeps
    | with_reducible apply State.when_keeps | with_reducible apply State.setF_keeps | with_reducible apply State.put_keeps
    | with_reducible apply Keeps.ite | fail_if_no_progress (with_reducible apply Keeps.upd) | split)

theorem State.setSlot_keeps {a : State} (s : State) (k : Nat) (x : Slot) (hk : Keeps a s) :
    Keeps a (State.setSlot s k x) := by
  unfold State.setSlot
  repeat' (first
    | with_reducible assumption | with_reducible intro _ | fail_if_no_progress (with_reducible apply Keeps.upd) | split)

theorem State.slotEvent_keeps {a : State} (s : State) (k what cls st gen : Nat) (hk : Keeps a s) :
    Keeps a (State.slotEvent s k what cls st gen) := by
  unfold State.slotEvent
  repeat' (first
    | with_reducible assumption | with_reducible intro _ | with_reducible apply State.event_keeps | split)

theorem State.trySlots_keeps {a : State} (l : List Nat) (s : State) (hk : Keeps a s) : Keeps a (s.trySlots l).1 := by
  induction l generalizing s with
  | nil => exact hk
  | cons k t ih =>
    unfold State.trySlots
    split
    · exact ih _ hk
    · dsimp only
      split
      · exact State.slotEvent_keeps _ _ _ _ _ _ (State.setSlot_keeps _ _ _ hk)
      · exact ih _ (State.slotEvent_keeps _ _ _ _ _ _ (State.setSlot_keeps _ _ _ (State.setSlot_keeps _ _ _ hk)))

theorem State.chooseSlot_keeps {a : State} (s : State) (hk : Keeps a s) :
    Keeps a (State.chooseSlot s) := by
  unfold State.chooseSlot
  repeat' (first
    | with_reducible assumption | with_reducible intro _ | with_reducible apply State.trySlots_keeps
    | with_reducible apply State.slotEvent_keeps | with_reducible apply State.setSlot_keeps | with_reducible apply State.each_keeps
    | with_reducible apply State.setF_keeps | with_reducible apply State.put_keeps
    | fail_if_no_progress (with_reducible apply Keeps.upd) | split | (dsimp only; split))

theorem execResetRelease_keeps {a : State} (flashOk fast : Bool) (s : State) (hk : Keeps a s) :
    OutKeeps a (execResetRelease flashOk fast s) := by
  unfold execResetRelease
  repeat' (first
    | with_reducible assumption | with_reducible intro _ | with_reducible apply State.chooseSlot_keeps
    | with_reducible apply State.loadConfig_keeps | with_reducible apply State.milestone_keeps
    | with_reducible apply State.when_keeps | with_reducible apply State.setF_keeps | with_reducible apply State.put_keeps
    | with_reducible apply Keeps.ite | with_reducible apply OutKeeps.next | fail_if_no_progress (with_reducible apply Keeps.upd)
    | split)

theorem State.setMode_keeps {a : State} (s : State) (n mode cause : Nat) (hk : Keeps a s) :
    Keeps a (State.setMode s n mode cause) := by
  unfold State.setMode
  repeat' (first
    | with_reducible assumption | with_reducible intro _ | with_reducible apply State.event_keeps
    | with_reducible apply State.put_keeps | with_reducible apply Keeps.ite | split)

theorem State.loadEngine_keeps {a : State} (s : State) (n : Nat) (b : List Nat) (hk : Keeps a s) :
    Keeps a (State.loadEngine s n b) := by
  unfold State.loadEngine
  repeat' (first
    | with_reducible assumption | with_reducible intro _ | with_reducible apply State.modEngine_keeps
    | with_reducible apply State.devWrite_keeps | with_reducible apply State.put_keeps
    | fail_if_no_progress (with_reducible apply Keeps.upd) | split)

theorem State.dumpNotice_keeps {a : State} (s : State) (hk : Keeps a s) :
    Keeps a (State.dumpNotice s) := by
  unfold State.dumpNotice
  repeat' (first
    | with_reducible assumption | with_reducible intro _ | with_reducible apply State.event_keeps
    | fail_if_no_progress (with_reducible apply Keeps.upd) | split | (dsimp only; split))

theorem execImageVerification_keeps {a : State} (engine : Nat) (image : List Nat) (s : State) (hk : Keeps a s) :
    OutKeeps a (execImageVerification engine image s) := by
  unfold execImageVerification
  repeat' (first
    | with_reducible assumption | with_reducible intro _ | with_reducible apply State.dumpNotice_keeps
    | with_reducible apply State.loadEngine_keeps | with_reducible apply State.verifyFail_keeps
    | with_reducible apply State.milestone_keeps | with_reducible apply State.when_keeps | with_reducible apply State.put_keeps
    | with_reducible apply Keeps.ite | with_reducible apply OutKeeps.next | split)

theorem State.takeIdentity_keeps {a : State} (s : State) (hk : Keeps a s) :
    Keeps a (State.takeIdentity s) := by
  unfold State.takeIdentity
  repeat' (first
    | with_reducible assumption | with_reducible intro _ | with_reducible apply State.elect_keeps
    | with_reducible apply State.put_keeps | with_reducible apply Keeps.ite | split)

theorem State.chooseLimits_keeps {a : State} (s : State) (hk : Keeps a s) :
    Keeps a (State.chooseLimits s) := by
  unfold State.chooseLimits
  repeat' (first
    | with_reducible assumption | with_reducible intro _ | with_reducible apply State.showNoLimits_keeps
    | with_reducible apply State.showLimits_keeps | with_reducible apply State.event_keeps | with_reducible apply Keeps.ite
    | fail_if_no_progress (with_reducible apply Keeps.upd) | split | (dsimp only; split))

theorem State.startReference_keeps {a : State} (s : State) (hk : Keeps a s) :
    Keeps a (State.startReference s) := by
  unfold State.startReference
  repeat' (first
    | with_reducible assumption | with_reducible intro _ | with_reducible apply State.culRefresh_keeps
    | with_reducible apply State.laneStart_keeps | with_reducible apply State.startSynthCal_keeps
    | with_reducible apply State.each_keeps | with_reducible apply Keeps.ite | split)

theorem execImagesOk_keeps {a : State} (s : State) (hk : Keeps a s) :
    OutKeeps a (execImagesOk s) := by
  unfold execImagesOk
  repeat' (first
    | with_reducible assumption | with_reducible intro _ | with_reducible apply State.startReference_keeps
    | with_reducible apply State.chooseLimits_keeps | with_reducible apply State.takeIdentity_keeps
    | with_reducible apply State.setMode_keeps | with_reducible apply State.milestone_keeps | with_reducible apply State.when_keeps
    | with_reducible apply State.each_keeps | with_reducible apply State.setF_keeps | with_reducible apply State.put_keeps
    | with_reducible apply Keeps.ite | with_reducible apply OutKeeps.next | split)

theorem execReferenceMeasure_keeps {a : State} (khz : Nat) (s : State) (hk : Keeps a s) :
    OutKeeps a (execReferenceMeasure khz s) := by
  unfold execReferenceMeasure
  repeat' (first
    | with_reducible assumption | with_reducible intro _ | with_reducible apply State.startReference_keeps
    | with_reducible apply State.milestone_keeps | with_reducible apply State.event_keeps | with_reducible apply State.when_keeps
    | with_reducible apply State.setF_keeps | with_reducible apply State.put_keeps | with_reducible apply Keeps.ite
    | with_reducible apply OutKeeps.next | fail_if_no_progress (with_reducible apply Keeps.upd) | split)

theorem execReferenceLost_keeps {a : State} (s : State) (hk : Keeps a s) :
    OutKeeps a (execReferenceLost s) := by
  unfold execReferenceLost
  repeat' (first
    | with_reducible assumption | with_reducible intro _ | with_reducible apply State.synthLost_keeps
    | with_reducible apply State.event_keeps | with_reducible apply State.put_keeps | with_reducible apply Keeps.ite
    | with_reducible apply OutKeeps.next | fail_if_no_progress (with_reducible apply Keeps.upd) | split)

theorem execRailRecheck_keeps {a : State} (outMask : Nat) (s : State) (hk : Keeps a s) :
    OutKeeps a (execRailRecheck outMask s) := by
  unfold execRailRecheck
  repeat' (first
    | with_reducible assumption | with_reducible intro _ | with_reducible apply State.culRefresh_keeps
    | with_reducible apply State.laneStart_keeps | with_reducible apply State.enterDown_keeps
    | with_reducible apply State.event_keeps | with_reducible apply State.each_keeps | with_reducible apply Keeps.ite
    | with_reducible apply OutKeeps.next | fail_if_no_progress (with_reducible apply Keeps.upd) | split)

theorem State.confirmSlot_keeps {a : State} (s : State) (hk : Keeps a s) :
    Keeps a (State.confirmSlot s) := by
  unfold State.confirmSlot
  repeat' (first
    | with_reducible assumption | with_reducible intro _ | with_reducible apply State.slotEvent_keeps
    | with_reducible apply State.setSlot_keeps | with_reducible apply State.put_keeps | with_reducible apply Keeps.ite
    | fail_if_no_progress (with_reducible apply Keeps.upd) | split | (dsimp only; split))

theorem execConfirm_keeps {a : State} (rq : Requester) (s : State) (hk : Keeps a s) :
    OutKeeps a (execConfirm rq s) := by
  unfold execConfirm
  repeat' (first
    | with_reducible assumption | with_reducible intro _ | with_reducible apply State.confirmSlot_keeps
    | with_reducible apply Keeps.ite | with_reducible apply OutKeeps.next | split)

theorem State.endUpdate_keeps {a : State} (s : State) (kind slot st : Nat) (hk : Keeps a s) :
    Keeps a (State.endUpdate s kind slot st) := by
  unfold State.endUpdate
  repeat' (first
    | with_reducible assumption | with_reducible intro _ | with_reducible apply State.event_keeps
    | with_reducible apply State.setF_keeps | with_reducible apply State.put_keeps
    | fail_if_no_progress (with_reducible apply Keeps.upd) | split)

theorem State.startUpdate_keeps {a : State} (s : State) (hk : Keeps a s) :
    Keeps a (State.startUpdate s) := by
  unfold State.startUpdate
  repeat' (first
    | with_reducible assumption | with_reducible intro _ | with_reducible apply State.endUpdate_keeps
    | with_reducible apply State.setF_keeps | with_reducible apply Keeps.ite | fail_if_no_progress (with_reducible apply Keeps.upd)
    | split | (dsimp only; split))

theorem execGo_keeps {a : State} (rq : Requester) (s : State) (hk : Keeps a s) :
    OutKeeps a (execGo rq s) := by
  unfold execGo
  repeat' (first
    | with_reducible assumption | with_reducible intro _ | with_reducible apply State.startUpdate_keeps
    | with_reducible apply Keeps.ite | with_reducible apply OutKeeps.next | split)

theorem execUpdateDone_keeps {a : State} (busOk tempOk writeOk : Bool) (s : State) (hk : Keeps a s) :
    OutKeeps a (execUpdateDone busOk tempOk writeOk s) := by
  unfold execUpdateDone
  repeat' (first
    | with_reducible assumption | with_reducible intro _ | with_reducible apply State.endUpdate_keeps
    | with_reducible apply State.setSlot_keeps | with_reducible apply State.authCount_keeps | with_reducible apply Keeps.foldl
    | with_reducible apply Keeps.foldl1 | with_reducible apply Keeps.foldl2 | with_reducible apply Keeps.ite
    | with_reducible apply OutKeeps.next | fail_if_no_progress (with_reducible apply Keeps.upd) | split | (dsimp only; split))

end Sys2Proof.Machine
end

