-- ==== Sys2Proof/Laws/KeepsGauge.lean ====
section
/-! SUPPORT. What the operations of Gauge keep: the queue and the canonical form of the stores. -/
set_option linter.unreachableTactic false
set_option linter.unusedTactic false

namespace Sys2Proof.Machine
open Sys2Proof

theorem execGauStream_keeps {a : State} (h : Hdr) (c : GauStreamCmd) (s : State) (hk : Keeps a s) :
    OutKeeps a (execGauStream h c s) := by
  unfold execGauStream
  repeat' (first
    | with_reducible assumption | with_reducible intro _ | with_reducible apply State.acceptNow_keeps
    | with_reducible apply State.complete_keeps | with_reducible apply State.put_keeps | with_reducible apply OutKeeps.next
    | fail_if_no_progress (with_reducible apply Keeps.upd) | split)

theorem State.enterPre_keeps {a : State} (s : State) (ks : List Nat) (hk : Keeps a s) :
    Keeps a (State.enterPre s ks) := by
  unfold State.enterPre
  repeat' (first
    | with_reducible assumption | with_reducible intro _ | with_reducible apply State.setGau_keeps
    | with_reducible apply State.each_keeps | fail_if_no_progress (with_reducible apply Keeps.upd) | split | (dsimp only; split))

theorem execGauArm_keeps {a : State} (h : Hdr) (c : GauArmCmd) (s : State) (hk : Keeps a s) :
    OutKeeps a (execGauArm h c s) := by
  unfold execGauArm
  repeat' (first
    | with_reducible assumption | with_reducible intro _ | with_reducible apply State.enterPre_keeps
    | with_reducible apply State.setCap_keeps | with_reducible apply State.acceptNow_keeps
    | with_reducible apply State.complete_keeps | with_reducible apply State.each_keeps | with_reducible apply State.put_keeps
    | with_reducible apply Keeps.ite | with_reducible apply OutKeeps.next | split)

theorem State.endCapture_keeps {a : State} (s : State) (k : Nat) (c : Capture) (hk : Keeps a s) :
    Keeps a (State.endCapture s k c) := by
  unfold State.endCapture
  repeat' (first
    | with_reducible assumption | with_reducible intro _ | with_reducible apply State.setGau_keeps
    | with_reducible apply State.complete_keeps | with_reducible apply State.event_keeps | with_reducible apply State.each_keeps
    | with_reducible apply Keeps.ite | fail_if_no_progress (with_reducible apply Keeps.upd) | split | (dsimp only; split))

theorem execGauStop_keeps {a : State} (h : Hdr) (mask : Nat) (s : State) (hk : Keeps a s) :
    OutKeeps a (execGauStop h mask s) := by
  unfold execGauStop
  repeat' (first
    | with_reducible assumption | with_reducible intro _ | with_reducible apply State.endCapture_keeps
    | with_reducible apply State.setCap_keeps | with_reducible apply State.acceptNow_keeps
    | with_reducible apply State.complete_keeps | with_reducible apply State.each_keeps | with_reducible apply State.setF_keeps
    | with_reducible apply Keeps.ite | with_reducible apply OutKeeps.next | fail_if_no_progress (with_reducible apply Keeps.upd)
    | split | (dsimp only; split))

theorem execGauForce_keeps {a : State} (h : Hdr) (mask : Nat) (s : State) (hk : Keeps a s) :
    OutKeeps a (execGauForce h mask s) := by
  unfold execGauForce
  repeat' (first
    | with_reducible assumption | with_reducible intro _ | with_reducible apply State.gauMeet_keeps
    | with_reducible apply State.acceptNow_keeps | with_reducible apply State.complete_keeps | with_reducible apply State.each_keeps
    | with_reducible apply OutKeeps.next | split)

theorem execGauMask_keeps {a : State} (h : Hdr) (addr : Nat) (s : State) (hk : Keeps a s) :
    OutKeeps a (execGauMask h addr s) := by
  unfold execGauMask
  repeat' (first
    | with_reducible assumption | with_reducible intro _ | with_reducible apply State.acceptNow_keeps
    | with_reducible apply State.complete_keeps | with_reducible apply Keeps.ite | with_reducible apply OutKeeps.next
    | fail_if_no_progress (with_reducible apply Keeps.upd) | split)

theorem execGaugeTrigEdge_keeps {a : State} (rising : Bool) (s : State) (hk : Keeps a s) :
    OutKeeps a (execGaugeTrigEdge rising s) := by
  unfold execGaugeTrigEdge
  repeat' (first
    | with_reducible assumption | with_reducible intro _ | with_reducible apply State.gauMeet_keeps
    | with_reducible apply State.each_keeps | with_reducible apply Keeps.ite | with_reducible apply OutKeeps.next
    | fail_if_no_progress (with_reducible apply Keeps.upd) | split)

theorem execAutoTrigger_keeps {a : State} (source : Nat) (s : State) (hk : Keeps a s) :
    OutKeeps a (execAutoTrigger source s) := by
  unfold execAutoTrigger
  repeat' (first
    | with_reducible assumption | with_reducible intro _ | with_reducible apply State.gauMeet_keeps | with_reducible apply Keeps.ite
    | with_reducible apply OutKeeps.next | fail_if_no_progress (with_reducible apply Keeps.upd) | split | (dsimp only; split))

theorem execGaugeTrigger_keeps {a : State} (source conds : Nat) (s : State) (hk : Keeps a s) :
    OutKeeps a (execGaugeTrigger source conds s) := by
  unfold execGaugeTrigger
  repeat' (first
    | with_reducible assumption | with_reducible intro _ | with_reducible apply State.gauMissed_keeps
    | with_reducible apply State.setCap_keeps | with_reducible apply State.setGau_keeps | with_reducible apply State.each_keeps
    | with_reducible apply State.put_keeps | with_reducible apply Keeps.ite | with_reducible apply OutKeeps.next
    | fail_if_no_progress (with_reducible apply Keeps.upd) | split | (dsimp only; split))

theorem State.writeRolled_keeps {a : State} (s : State) (base area ofs : Nat) (data : List Nat) (hk : Keeps a s) :
    Keeps a (State.writeRolled s base area ofs data) := by
  unfold State.writeRolled
  repeat' (first
    | with_reducible assumption | with_reducible intro _ | with_reducible apply State.devWrite_keeps | split)

theorem State.writeRecord_keeps {a : State} (s : State) (k j : Nat) (data : List GauSamples) (hk : Keeps a s) :
    Keeps a (State.writeRecord s k j data) := by
  unfold State.writeRecord
  repeat' (first
    | with_reducible assumption | with_reducible intro _ | with_reducible apply State.writeRolled_keeps
    | with_reducible apply State.setCap_keeps | with_reducible apply State.setGau_keeps | with_reducible apply State.devWrite_keeps
    | with_reducible apply State.put_keeps | with_reducible apply Keeps.ite | fail_if_no_progress (with_reducible apply Keeps.upd)
    | split | (dsimp only; split))

theorem State.recordEvents_keeps {a : State} (s : State) (c : Capture) (hk : Keeps a s) :
    Keeps a (State.recordEvents s c) := by
  unfold State.recordEvents
  repeat' (first
    | with_reducible assumption | with_reducible intro _ | with_reducible apply State.event_keeps
    | with_reducible apply State.each_keeps | fail_if_no_progress (with_reducible apply Keeps.upd) | split | (dsimp only; split))

theorem State.afterRecords_keeps {a : State} (s : State) (k : Nat) (hk : Keeps a s) :
    Keeps a (State.afterRecords s k) := by
  unfold State.afterRecords
  repeat' (first
    | with_reducible assumption | with_reducible intro _ | with_reducible apply State.recordEvents_keeps
    | with_reducible apply State.endCapture_keeps | with_reducible apply State.setCap_keeps
    | with_reducible apply State.setGau_keeps | with_reducible apply State.each_keeps | with_reducible apply Keeps.ite
    | fail_if_no_progress (with_reducible apply Keeps.upd) | split | (dsimp only; split))

theorem execGaugeRecord_keeps {a : State} (source : Nat) (data : List GauSamples) (s : State) (hk : Keeps a s) :
    OutKeeps a (execGaugeRecord source data s) := by
  unfold execGaugeRecord
  repeat' (first
    | with_reducible assumption | with_reducible intro _ | with_reducible apply State.afterRecords_keeps
    | with_reducible apply State.writeRecord_keeps | with_reducible apply State.each_keeps | with_reducible apply Keeps.ite
    | with_reducible apply OutKeeps.next | fail_if_no_progress (with_reducible apply Keeps.upd) | split | (dsimp only; split))

theorem execGaugeDrained_keeps {a : State} (source : Nat) (s : State) (hk : Keeps a s) :
    OutKeeps a (execGaugeDrained source s) := by
  unfold execGaugeDrained
  repeat' (first
    | with_reducible assumption | with_reducible intro _ | with_reducible apply State.afterRecords_keeps
    | with_reducible apply State.hostWrite_keeps | with_reducible apply State.each_keeps | with_reducible apply Keeps.ite
    | with_reducible apply OutKeeps.next | fail_if_no_progress (with_reducible apply Keeps.upd) | split | (dsimp only; split))

theorem execGaugeRearm_keeps {a : State} (source : Nat) (s : State) (hk : Keeps a s) :
    OutKeeps a (execGaugeRearm source s) := by
  unfold execGaugeRearm
  repeat' (first
    | with_reducible assumption | with_reducible intro _ | with_reducible apply State.enterPre_keeps
    | with_reducible apply State.setCap_keeps | with_reducible apply State.each_keeps | with_reducible apply State.put_keeps
    | with_reducible apply Keeps.ite | with_reducible apply OutKeeps.next | fail_if_no_progress (with_reducible apply Keeps.upd)
    | split | (dsimp only; split))

theorem State.gauDiscard_keeps {a : State} (s : State) (hk : Keeps a s) :
    Keeps a (State.gauDiscard s) := by
  unfold State.gauDiscard
  repeat' (first
    | with_reducible assumption | with_reducible intro _ | with_reducible apply State.setGau_keeps
    | with_reducible apply State.each_keeps | fail_if_no_progress (with_reducible apply Keeps.upd) | split)

end Sys2Proof.Machine
end

