-- ==== Sys2Proof/Laws/KeepsPower.lean ====
section
/-! SUPPORT. What the operations of Power keep: the queue and the canonical form of the stores. -/
set_option linter.unreachableTactic false
set_option linter.unusedTactic false

namespace Sys2Proof.Machine
open Sys2Proof

theorem State.reqOver_keeps {a : State} (s : State) (hk : Keeps a s) :
    Keeps a (State.reqOver s) := by
  unfold State.reqOver
  repeat' (first
    | with_reducible assumption | with_reducible intro _ | with_reducible apply State.put_keeps
    | fail_if_no_progress (with_reducible apply Keeps.upd) | split)

theorem State.endTileCmd_keeps {a : State} (s : State) (k st : Nat) (result : List Nat) (hk : Keeps a s) :
    Keeps a (State.endTileCmd s k st result) := by
  unfold State.endTileCmd
  repeat' (first
    | with_reducible assumption | with_reducible intro _ | with_reducible apply State.reqOver_keeps
    | with_reducible apply State.completeR_keeps | with_reducible apply Keeps.ite
    | fail_if_no_progress (with_reducible apply Keeps.upd) | split | (dsimp only; split))

theorem State.supersede_keeps {a : State} (s : State) (l : List Nat) (hk : Keeps a s) :
    Keeps a (State.supersede s l) := by
  unfold State.supersede
  repeat' (first
    | with_reducible assumption | with_reducible intro _ | with_reducible apply State.endTileCmd_keeps
    | with_reducible apply State.each_keeps | split)

theorem State.settleCmd_keeps {a : State} (s : State) (k : Nat) (hk : Keeps a s) :
    Keeps a (State.settleCmd s k) := by
  unfold State.settleCmd
  repeat' (first
    | with_reducible assumption | with_reducible intro _ | with_reducible apply State.endTileCmd_keeps
    | with_reducible apply Keeps.ite | fail_if_no_progress (with_reducible apply Keeps.upd) | split | (dsimp only; split))

theorem State.tileDone_keeps {a : State} (s : State) (k n : Nat) (ok : Bool) (hk : Keeps a s) :
    Keeps a (State.tileDone s k n ok) := by
  unfold State.tileDone
  repeat' (first
    | with_reducible assumption | with_reducible intro _ | with_reducible apply State.settleCmd_keeps
    | with_reducible apply Keeps.ite | fail_if_no_progress (with_reducible apply Keeps.upd) | split | (dsimp only; split))

theorem State.countFrom_keeps {a : State} (s : State) (k t : Nat) (hk : Keeps a s) :
    Keeps a (State.countFrom s k t) := by
  unfold State.countFrom
  repeat' (first
    | with_reducible assumption | with_reducible intro _ | fail_if_no_progress (with_reducible apply Keeps.upd) | split
    | (dsimp only; split))

theorem State.setJob_keeps {a : State} (s : State) (n : Nat) (j : Option TileJob) (hk : Keeps a s) :
    Keeps a (State.setJob s n j) := by
  unfold State.setJob
  repeat' (first
    | with_reducible assumption | with_reducible intro _ | with_reducible apply State.showPhase_keeps
    | fail_if_no_progress (with_reducible apply Keeps.upd) | split | (dsimp only; split))

theorem State.setQueued_keeps {a : State} (s : State) (n : Nat) (j : Option TileJob) (hk : Keeps a s) :
    Keeps a (State.setQueued s n j) := by
  unfold State.setQueued
  repeat' (first
    | with_reducible assumption | with_reducible intro _ | with_reducible apply State.showPhase_keeps
    | fail_if_no_progress (with_reducible apply Keeps.upd) | split | (dsimp only; split))

theorem State.requeue_keeps {a : State} (s : State) (n : Nat) (j : Option TileJob) (hk : Keeps a s) :
    Keeps a (State.requeue s n j) := by
  unfold State.requeue
  repeat' (first
    | with_reducible assumption | with_reducible intro _ | with_reducible apply State.setQueued_keeps
    | with_reducible apply State.supersede_keeps | split)

theorem State.showAuto_keeps {a : State} (s : State) (n : Nat) (b : Bool) (hk : Keeps a s) :
    Keeps a (State.showAuto s n b) := by
  unfold State.showAuto
  repeat' (first
    | with_reducible assumption | with_reducible intro _ | with_reducible apply State.put_keeps | split)

theorem State.gateTile_keeps {a : State} (s : State) (n cause who : Nat) (cmds : List Nat) (hk : Keeps a s) :
    Keeps a (State.gateTile s n cause who cmds) := by
  unfold State.gateTile
  repeat' (first
    | with_reducible assumption | with_reducible intro _ | with_reducible apply State.requeue_keeps
    | with_reducible apply State.setJob_keeps | with_reducible apply State.tileDone_keeps
    | with_reducible apply State.tileOffBy_keeps | with_reducible apply State.each_keeps | with_reducible apply Keeps.ite
    | fail_if_no_progress (with_reducible apply Keeps.upd) | split | (dsimp only; split))

theorem State.ungateTile_keeps {a : State} (s : State) (n who : Nat) (cmds : List Nat) (hk : Keeps a s) :
    Keeps a (State.ungateTile s n who cmds) := by
  unfold State.ungateTile
  repeat' (first
    | with_reducible assumption | with_reducible intro _ | with_reducible apply State.requeue_keeps
    | with_reducible apply State.setJob_keeps | with_reducible apply State.countFrom_keeps
    | with_reducible apply State.tileDone_keeps | with_reducible apply State.each_keeps | with_reducible apply Keeps.ite
    | fail_if_no_progress (with_reducible apply Keeps.upd) | split | (dsimp only; split))

theorem State.powerRecord_keeps {a : State} (s : State) (old new cause us : Nat) (hk : Keeps a s) :
    Keeps a (State.powerRecord s old new cause us) := by
  unfold State.powerRecord
  repeat' (first
    | with_reducible assumption | with_reducible intro _ | with_reducible apply State.event_keeps | split)

theorem State.addTileCmd_keeps {a : State} (s : State) (c : TileCmd) (hk : Keeps a s) : Keeps a (s.addTileCmd c).1 := by
  unfold State.addTileCmd
  exact Keeps.upd hk

theorem State.startPolder_keeps {a : State} (s : State) (q : PwrReq) (hk : Keeps a s) :
    Keeps a (State.startPolder s q) := by
  unfold State.startPolder
  repeat' (first
    | with_reducible assumption | with_reducible intro _ | with_reducible apply State.hkaAgree_keeps
    | with_reducible apply State.hkaNext_keeps | with_reducible apply State.completeX_keeps | with_reducible apply State.event_keeps
    | with_reducible apply State.setF_keeps | with_reducible apply Keeps.ite | fail_if_no_progress (with_reducible apply Keeps.upd)
    | split | (dsimp only; split))

theorem State.startTiles_keeps {a : State} (s : State) (q : PwrReq) (hk : Keeps a s) :
    Keeps a (State.startTiles s q) := by
  unfold State.startTiles
  repeat' (first
    | with_reducible assumption | with_reducible intro _ | with_reducible apply State.addTileCmd_keeps
    | with_reducible apply State.ungateTile_keeps | with_reducible apply State.gateTile_keeps
    | with_reducible apply State.showAuto_keeps | with_reducible apply State.complete_keeps | with_reducible apply State.each_keeps
    | with_reducible apply State.setF_keeps | with_reducible apply Keeps.ite | fail_if_no_progress (with_reducible apply Keeps.upd)
    | split | (dsimp only; split))

theorem State.startQueued_keeps {a : State} (s : State) (hk : Keeps a s) :
    Keeps a (State.startQueued s) := by
  unfold State.startQueued
  repeat' (first
    | with_reducible assumption | with_reducible intro _ | with_reducible apply State.startTiles_keeps
    | with_reducible apply State.startPolder_keeps | with_reducible apply State.put_keeps | with_reducible apply Keeps.ite
    | fail_if_no_progress (with_reducible apply Keeps.upd) | split | (dsimp only; split))

theorem State.queuePwr_keeps {a : State} (s : State) (q : Option PwrReq) (hk : Keeps a s) :
    Keeps a (State.queuePwr s q) := by
  unfold State.queuePwr
  repeat' (first
    | with_reducible assumption | with_reducible intro _ | with_reducible apply State.complete_keeps
    | with_reducible apply State.put_keeps | fail_if_no_progress (with_reducible apply Keeps.upd) | split | (dsimp only; split))

theorem State.synthOff_keeps {a : State} (s : State) (hk : Keeps a s) :
    Keeps a (State.synthOff s) := by
  unfold State.synthOff
  repeat' (first
    | with_reducible assumption | with_reducible intro _ | with_reducible apply State.put_keeps
    | fail_if_no_progress (with_reducible apply Keeps.upd) | split)

theorem State.stopDomains_keeps {a : State} (s : State) (hk : Keeps a s) :
    Keeps a (State.stopDomains s) := by
  unfold State.stopDomains
  repeat' (first
    | with_reducible assumption | with_reducible intro _ | with_reducible apply State.synthOff_keeps
    | with_reducible apply State.culRefresh_keeps | with_reducible apply State.enterDown_keeps
    | with_reducible apply State.clockTo_keeps | with_reducible apply State.hkaSleep_keeps | with_reducible apply State.each_keeps
    | with_reducible apply Keeps.ite | split)

theorem State.startDormant_keeps {a : State} (s : State) (q : PwrReq) (hk : Keeps a s) :
    Keeps a (State.startDormant s q) := by
  unfold State.startDormant
  repeat' (first
    | with_reducible assumption | with_reducible intro _ | with_reducible apply State.stopDomains_keeps
    | with_reducible apply State.queuePwr_keeps | with_reducible apply State.supersede_keeps
    | with_reducible apply State.gauDiscard_keeps | with_reducible apply State.setTileState_keeps
    | with_reducible apply State.complete_keeps | with_reducible apply State.each_keeps | with_reducible apply State.setF_keeps
    | with_reducible apply State.put_keeps | with_reducible apply State.wr_keeps | with_reducible apply Keeps.ite
    | fail_if_no_progress (with_reducible apply Keeps.upd) | split | (dsimp only; split))

theorem execPwrState_keeps {a : State} (h : Hdr) (target mask sources timer : Nat) (s : State) (hk : Keeps a s) :
    OutKeeps a (execPwrState h target mask sources timer s) := by
  unfold execPwrState
  repeat' (first
    | with_reducible assumption | with_reducible intro _ | with_reducible apply State.startDormant_keeps
    | with_reducible apply State.queuePwr_keeps | with_reducible apply State.startTiles_keeps
    | with_reducible apply State.startPolder_keeps | with_reducible apply State.acceptNow_keeps | with_reducible apply Keeps.ite
    | with_reducible apply OutKeeps.next | split)

theorem execTileState_keeps {a : State} (h : Hdr) (tileMask target : Nat) (s : State) (hk : Keeps a s) :
    OutKeeps a (execTileState h tileMask target s) := by
  unfold execTileState
  repeat' (first
    | with_reducible assumption | with_reducible intro _ | with_reducible apply State.acceptTimed_keeps
    | with_reducible apply OutKeeps.next | split)

theorem State.applyTileState_keeps {a : State} (s : State) (h : Hdr) (tileMask target : Nat) (hk : Keeps a s) :
    Keeps a (State.applyTileState s h tileMask target) := by
  unfold State.applyTileState
  repeat' (first
    | with_reducible assumption | with_reducible intro _ | with_reducible apply State.addTileCmd_keeps
    | with_reducible apply State.ungateTile_keeps | with_reducible apply State.gateTile_keeps
    | with_reducible apply State.showAuto_keeps | with_reducible apply State.tileDone_keeps
    | with_reducible apply State.settleCmd_keeps | with_reducible apply State.leaveProtect_keeps
    | with_reducible apply State.enterProtect_keeps | with_reducible apply State.complete_keeps
    | with_reducible apply State.each_keeps | with_reducible apply State.put_keeps | with_reducible apply Keeps.ite
    | fail_if_no_progress (with_reducible apply Keeps.upd) | split | (dsimp only; split))

theorem execTileGated_keeps {a : State} (tile : Nat) (s : State) (hk : Keeps a s) :
    OutKeeps a (execTileGated tile s) := by
  unfold execTileGated
  repeat' (first
    | with_reducible assumption | with_reducible intro _ | with_reducible apply State.startQueued_keeps
    | with_reducible apply State.powerRecord_keeps | with_reducible apply State.setQueued_keeps
    | with_reducible apply State.setJob_keeps | with_reducible apply State.tileDone_keeps | with_reducible apply State.each_keeps
    | with_reducible apply Keeps.ite | with_reducible apply OutKeeps.next | fail_if_no_progress (with_reducible apply Keeps.upd)
    | split | (dsimp only; split))

theorem State.tileStarted_keeps {a : State} (s : State) (n : Nat) (j : TileJob) (full : Bool) (hk : Keeps a s) :
    Keeps a (State.tileStarted s n j full) := by
  unfold State.tileStarted
  repeat' (first
    | with_reducible assumption | with_reducible intro _ | with_reducible apply State.startQueued_keeps
    | with_reducible apply State.powerRecord_keeps | with_reducible apply State.showAuto_keeps
    | with_reducible apply State.setQueued_keeps | with_reducible apply State.setJob_keeps
    | with_reducible apply State.tileDone_keeps | with_reducible apply State.returnPaths_keeps
    | with_reducible apply State.tileOffBy_keeps | with_reducible apply State.setTileState_keeps
    | with_reducible apply State.event_keeps | with_reducible apply State.when_keeps | with_reducible apply State.each_keeps
    | with_reducible apply Keeps.ite | fail_if_no_progress (with_reducible apply Keeps.upd) | split | (dsimp only; split))

theorem execTileUngated_keeps {a : State} (tile : Nat) (s : State) (hk : Keeps a s) :
    OutKeeps a (execTileUngated tile s) := by
  unfold execTileUngated
  repeat' (first
    | with_reducible assumption | with_reducible intro _ | with_reducible apply State.tileStarted_keeps
    | with_reducible apply Keeps.ite | with_reducible apply OutKeeps.next | fail_if_no_progress (with_reducible apply Keeps.upd)
    | split | (dsimp only; split))

theorem State.beginExit_keeps {a : State} (s : State) (cause : Nat) (hk : Keeps a s) :
    Keeps a (State.beginExit s cause) := by
  unfold State.beginExit
  repeat' (first
    | with_reducible assumption | with_reducible intro _ | with_reducible apply State.setF_keeps | with_reducible apply Keeps.ite
    | fail_if_no_progress (with_reducible apply Keeps.upd) | split | (dsimp only; split))

theorem execWakeNLow_keeps {a : State} (s : State) (hk : Keeps a s) :
    OutKeeps a (execWakeNLow s) := by
  unfold execWakeNLow
  repeat' (first
    | with_reducible assumption | with_reducible intro _ | with_reducible apply State.beginExit_keeps
    | with_reducible apply OutKeeps.next | split)

theorem State.wakeWrite_keeps {a : State} (s : State) (hk : Keeps a s) :
    Keeps a (State.wakeWrite s) := by
  unfold State.wakeWrite
  repeat' (first
    | with_reducible assumption | with_reducible intro _ | with_reducible apply State.beginExit_keeps
    | with_reducible apply State.setF_keeps | with_reducible apply Keeps.ite | split)

theorem execWake_keeps {a : State} (rq : Requester) (s : State) (hk : Keeps a s) :
    OutKeeps a (execWake rq s) := by
  unfold execWake
  repeat' (first
    | with_reducible assumption | with_reducible intro _ | with_reducible apply State.wakeWrite_keeps
    | with_reducible apply Keeps.ite | with_reducible apply OutKeeps.next | split)

theorem execPolderEntryDone_keeps {a : State} (s : State) (hk : Keeps a s) :
    OutKeeps a (execPolderEntryDone s) := by
  unfold execPolderEntryDone
  repeat' (first
    | with_reducible assumption | with_reducible intro _ | with_reducible apply State.beginExit_keeps
    | with_reducible apply State.stopDomains_keeps | with_reducible apply State.powerRecord_keeps
    | with_reducible apply State.reqOver_keeps | with_reducible apply State.completeR_keeps | with_reducible apply State.put_keeps
    | with_reducible apply Keeps.ite | with_reducible apply OutKeeps.next | fail_if_no_progress (with_reducible apply Keeps.upd)
    | split | (dsimp only; split))

theorem execPolderExit_keeps {a : State} (s : State) (hk : Keeps a s) :
    OutKeeps a (execPolderExit s) := by
  unfold execPolderExit
  repeat' (first
    | with_reducible assumption | with_reducible intro _ | with_reducible apply State.startQueued_keeps
    | with_reducible apply State.powerRecord_keeps | with_reducible apply State.startReference_keeps
    | with_reducible apply State.sluTo_keeps | with_reducible apply State.modSlu_keeps | with_reducible apply State.each_keeps
    | with_reducible apply State.put_keeps | with_reducible apply OutKeeps.next
    | fail_if_no_progress (with_reducible apply Keeps.upd) | split | (dsimp only; split))

theorem State.dropUpdate_keeps {a : State} (s : State) (hk : Keeps a s) :
    Keeps a (State.dropUpdate s) := by
  unfold State.dropUpdate
  repeat' (first
    | with_reducible assumption | with_reducible intro _ | with_reducible apply State.setSlot_keeps | with_reducible apply Keeps.ite
    | fail_if_no_progress (with_reducible apply Keeps.upd) | split | (dsimp only; split))

theorem execDormantEntryDone_keeps {a : State} (s : State) (hk : Keeps a s) :
    OutKeeps a (execDormantEntryDone s) := by
  unfold execDormantEntryDone
  repeat' (first
    | with_reducible assumption | with_reducible intro _ | with_reducible apply State.dropUpdate_keeps
    | with_reducible apply State.reqOver_keeps | with_reducible apply State.completeR_keeps | with_reducible apply Keeps.ite
    | with_reducible apply OutKeeps.next | fail_if_no_progress (with_reducible apply Keeps.upd) | split | (dsimp only; split))

theorem execSentinelWake_keeps {a : State} (source : Nat) (s : State) (hk : Keeps a s) :
    OutKeeps a (execSentinelWake source s) := by
  unfold execSentinelWake
  repeat' (first
    | with_reducible assumption | with_reducible intro _ | with_reducible apply Keeps.ite | with_reducible apply OutKeeps.next
    | fail_if_no_progress (with_reducible apply Keeps.upd) | split)

theorem execAutoGating_keeps {a : State} (s : State) (hk : Keeps a s) :
    OutKeeps a (execAutoGating s) := by
  unfold execAutoGating
  repeat' (first
    | with_reducible assumption | with_reducible intro _ | with_reducible apply State.ungateTile_keeps
    | with_reducible apply State.gateTile_keeps | with_reducible apply State.showAuto_keeps | with_reducible apply State.each_keeps
    | with_reducible apply Keeps.ite | with_reducible apply OutKeeps.next | fail_if_no_progress (with_reducible apply Keeps.upd)
    | split | (dsimp only; split))

theorem execAvsUpdate_keeps {a : State} (target : Nat) (s : State) (hk : Keeps a s) :
    OutKeeps a (execAvsUpdate target s) := by
  unfold execAvsUpdate
  repeat' (first
    | with_reducible assumption | with_reducible intro _ | with_reducible apply State.put_keeps | with_reducible apply Keeps.ite
    | with_reducible apply OutKeeps.next | fail_if_no_progress (with_reducible apply Keeps.upd) | split)

theorem State.t3Gate_keeps {a : State} (s : State) (hk : Keeps a s) :
    Keeps a (State.t3Gate s) := by
  unfold State.t3Gate
  repeat' (first
    | with_reducible assumption | with_reducible intro _ | with_reducible apply State.gateTile_keeps
    | with_reducible apply State.showAuto_keeps | fail_if_no_progress (with_reducible apply Keeps.upd) | split | (dsimp only; split))

theorem State.setLevel_keeps {a : State} (s : State) (new : Nat) (hk : Keeps a s) :
    Keeps a (State.setLevel s new) := by
  unfold State.setLevel
  repeat' (first
    | with_reducible assumption | with_reducible intro _ | with_reducible apply State.t3Gate_keeps
    | with_reducible apply State.t2Blank_keeps | with_reducible apply State.refreshPlan_keeps
    | with_reducible apply State.event_keeps | with_reducible apply State.when_keeps | with_reducible apply State.put_keeps
    | with_reducible apply Keeps.ite | fail_if_no_progress (with_reducible apply Keeps.upd) | split)

theorem State.throttle_keeps {a : State} (s : State) (hk : Keeps a s) :
    Keeps a (State.throttle s) := by
  unfold State.throttle
  repeat' (first
    | with_reducible assumption | with_reducible intro _ | with_reducible apply State.setLevel_keeps
    | with_reducible apply Keeps.ite | fail_if_no_progress (with_reducible apply Keeps.upd) | split)

theorem execThrottleLower_keeps {a : State} (s : State) (hk : Keeps a s) :
    OutKeeps a (execThrottleLower s) := by
  unfold execThrottleLower
  repeat' (first
    | with_reducible assumption | with_reducible intro _ | with_reducible apply State.throttle_keeps
    | with_reducible apply State.setLevel_keeps | with_reducible apply Keeps.ite | with_reducible apply OutKeeps.next
    | fail_if_no_progress (with_reducible apply Keeps.upd) | split | (dsimp only; split))

theorem execT3Gating_keeps {a : State} (s : State) (hk : Keeps a s) :
    OutKeeps a (execT3Gating s) := by
  unfold execT3Gating
  repeat' (first
    | with_reducible assumption | with_reducible intro _ | with_reducible apply State.t3Gate_keeps | with_reducible apply Keeps.ite
    | with_reducible apply OutKeeps.next | split)

theorem execT3Release_keeps {a : State} (s : State) (hk : Keeps a s) :
    OutKeeps a (execT3Release s) := by
  unfold execT3Release
  repeat' (first
    | with_reducible assumption | with_reducible intro _ | with_reducible apply State.ungateTile_keeps
    | with_reducible apply Keeps.ite | with_reducible apply OutKeeps.next | fail_if_no_progress (with_reducible apply Keeps.upd)
    | split | (dsimp only; split))

theorem State.writeHeld_keeps {a : State} (s : State) (hk : Keeps a s) :
    Keeps a (State.writeHeld s) := by
  unfold State.writeHeld
  repeat' (first
    | with_reducible assumption | with_reducible intro _ | with_reducible apply State.when_keeps
    | with_reducible apply State.setF_keeps | with_reducible apply State.put_keeps | with_reducible apply Keeps.foldl
    | with_reducible apply Keeps.foldl1 | with_reducible apply Keeps.foldl2 | with_reducible apply Keeps.ite
    | fail_if_no_progress (with_reducible apply Keeps.upd) | split)

theorem State.setWindow_keeps {a : State} (s : State) (w : Nat) (now : Bool) (hk : Keeps a s) :
    Keeps a (State.setWindow s w now) := by
  unfold State.setWindow
  repeat' (first
    | with_reducible assumption | with_reducible intro _ | with_reducible apply State.writeHeld_keeps
    | with_reducible apply State.event_keeps | with_reducible apply State.logState_keeps | with_reducible apply State.put_keeps
    | with_reducible apply Keeps.ite | split)

theorem execThermalSampling_keeps {a : State} (temps : List Int) (s : State) (hk : Keeps a s) :
    OutKeeps a (execThermalSampling temps s) := by
  unfold execThermalSampling
  repeat' (first
    | with_reducible assumption | with_reducible intro _ | with_reducible apply State.setWindow_keeps
    | with_reducible apply State.throttle_keeps | with_reducible apply State.lateFlag_keeps | with_reducible apply State.when_keeps
    | with_reducible apply State.each_keeps | with_reducible apply State.put_keeps | with_reducible apply State.wr_keeps
    | with_reducible apply Keeps.foldl | with_reducible apply Keeps.foldl1 | with_reducible apply Keeps.foldl2
    | with_reducible apply Keeps.ite | with_reducible apply OutKeeps.next | fail_if_no_progress (with_reducible apply Keeps.upd)
    | split)

theorem State.silence_keeps {a : State} (s : State) (cause : Nat) (hk : Keeps a s) :
    Keeps a (State.silence s cause) := by
  unfold State.silence
  repeat' (first
    | with_reducible assumption | with_reducible intro _ | with_reducible apply State.synthOff_keeps
    | with_reducible apply State.culRefresh_keeps | with_reducible apply State.enterDown_keeps
    | with_reducible apply State.tileOff_keeps | with_reducible apply State.tripBias_keeps
    | with_reducible apply State.complete_keeps | with_reducible apply State.each_keeps
    | fail_if_no_progress (with_reducible apply Keeps.upd) | split)

theorem execThermalTrip_keeps {a : State} (mask : Nat) (s : State) (hk : Keeps a s) :
    OutKeeps a (execThermalTrip mask s) := by
  unfold execThermalTrip
  repeat' (first
    | with_reducible assumption | with_reducible intro _ | with_reducible apply State.silence_keeps
    | with_reducible apply State.setQueued_keeps | with_reducible apply State.setJob_keeps
    | with_reducible apply State.endTileCmd_keeps | with_reducible apply State.reqOver_keeps
    | with_reducible apply State.tapStop_keeps | with_reducible apply State.complete_keeps | with_reducible apply State.event_keeps
    | with_reducible apply State.each_keeps | with_reducible apply State.setF_keeps | with_reducible apply State.put_keeps
    | with_reducible apply Keeps.ite | with_reducible apply OutKeeps.next | fail_if_no_progress (with_reducible apply Keeps.upd)
    | split | (dsimp only; split))

theorem execTripLatchClear_keeps {a : State} (s : State) (hk : Keeps a s) :
    OutKeeps a (execTripLatchClear s) := by
  unfold execTripLatchClear
  repeat' (first
    | with_reducible assumption | with_reducible intro _ | with_reducible apply State.put_keeps | with_reducible apply Keeps.ite
    | with_reducible apply OutKeeps.next | fail_if_no_progress (with_reducible apply Keeps.upd) | split)

theorem State.calRecord_keeps {a : State} (s : State) (n kind ms : Nat) (hk : Keeps a s) :
    Keeps a (State.calRecord s n kind ms) := by
  unfold State.calRecord
  repeat' (first
    | with_reducible assumption | with_reducible intro _ | with_reducible apply State.event_keeps | split)

theorem State.tileReadyNow_keeps {a : State} (s : State) (n : Nat) (full : Bool) (hk : Keeps a s) :
    Keeps a (State.tileReadyNow s n full) := by
  unfold State.tileReadyNow
  repeat' (first
    | with_reducible assumption | with_reducible intro _ | with_reducible apply State.setMode_keeps
    | with_reducible apply State.calTrims_keeps | with_reducible apply State.refreshPlan_keeps
    | with_reducible apply State.when_keeps | with_reducible apply State.put_keeps | with_reducible apply Keeps.ite
    | fail_if_no_progress (with_reducible apply Keeps.upd) | split)

theorem State.checkFull_keeps {a : State} (s : State) (hk : Keeps a s) :
    Keeps a (State.checkFull s) := by
  unfold State.checkFull
  repeat' (first
    | with_reducible assumption | with_reducible intro _ | with_reducible apply State.milestone_keeps
    | with_reducible apply State.setF_keeps | with_reducible apply State.put_keeps | with_reducible apply Keeps.ite | split)

theorem State.nextCal_keeps {a : State} (s : State) (n : Nat) (hk : Keeps a s) :
    Keeps a (State.nextCal s n) := by
  unfold State.nextCal
  repeat' (first
    | with_reducible assumption | with_reducible intro _ | with_reducible apply Keeps.ite
    | fail_if_no_progress (with_reducible apply Keeps.upd) | split)

theorem execReducedService_keeps {a : State} (s : State) (hk : Keeps a s) :
    OutKeeps a (execReducedService s) := by
  unfold execReducedService
  repeat' (first
    | with_reducible assumption | with_reducible intro _ | with_reducible apply State.nextCal_keeps
    | with_reducible apply State.tileReadyNow_keeps | with_reducible apply State.calRecord_keeps
    | with_reducible apply State.milestone_keeps | with_reducible apply State.setF_keeps | with_reducible apply State.put_keeps
    | with_reducible apply Keeps.ite | with_reducible apply OutKeeps.next | fail_if_no_progress (with_reducible apply Keeps.upd)
    | split | (dsimp only; split))

theorem State.recalibrated_keeps {a : State} (s : State) (n : Nat) (j : TileJob) (ok : Bool) (hk : Keeps a s) :
    Keeps a (State.recalibrated s n j ok) := by
  unfold State.recalibrated
  repeat' (first
    | with_reducible assumption | with_reducible intro _ | with_reducible apply State.checkFull_keeps
    | with_reducible apply State.tileReadyNow_keeps | with_reducible apply State.calRecord_keeps
    | with_reducible apply State.tileStarted_keeps | with_reducible apply State.startQueued_keeps
    | with_reducible apply State.setQueued_keeps | with_reducible apply State.setJob_keeps
    | with_reducible apply State.tileDone_keeps | with_reducible apply State.each_keeps | with_reducible apply Keeps.ite | split)

theorem execTileCalibrated_keeps {a : State} (tile : Nat) (ok : Bool) (s : State) (hk : Keeps a s) :
    OutKeeps a (execTileCalibrated tile ok s) := by
  unfold execTileCalibrated
  repeat' (first
    | with_reducible assumption | with_reducible intro _ | with_reducible apply State.recalibrated_keeps
    | with_reducible apply State.nextCal_keeps | with_reducible apply State.checkFull_keeps
    | with_reducible apply State.tileReadyNow_keeps | with_reducible apply State.calRecord_keeps
    | with_reducible apply State.milestone_keeps | with_reducible apply Keeps.ite | with_reducible apply OutKeeps.next
    | fail_if_no_progress (with_reducible apply Keeps.upd) | split | (dsimp only; split))

theorem execCalibrationRefined_keeps {a : State} (s : State) (hk : Keeps a s) :
    OutKeeps a (execCalibrationRefined s) := by
  unfold execCalibrationRefined
  repeat' (first
    | with_reducible assumption | with_reducible intro _ | with_reducible apply State.checkFull_keeps
    | with_reducible apply State.tileReadyNow_keeps | with_reducible apply State.calRecord_keeps | with_reducible apply Keeps.ite
    | with_reducible apply OutKeeps.next | fail_if_no_progress (with_reducible apply Keeps.upd) | split)

end Sys2Proof.Machine
end

