-- ==== Sys2Proof/Laws/KeepsFaults.lean ====
section
/-! SUPPORT. What the operations of Faults keep: the queue and the canonical form of the stores. -/
set_option linter.unreachableTactic false
set_option linter.unusedTactic false

namespace Sys2Proof.Machine
open Sys2Proof

theorem State.quietDevice_keeps {a : State} (s : State) (hk : Keeps a s) :
    Keeps a (State.quietDevice s) := by
  unfold State.quietDevice
  repeat' (first
    | with_reducible assumption | with_reducible intro _ | with_reducible apply State.dropUpdate_keeps
    | with_reducible apply State.synthOff_keeps | with_reducible apply State.modStrobes_keeps
    | with_reducible apply State.tileBias_keeps | with_reducible apply State.tapStop_keeps | with_reducible apply State.each_keeps
    | with_reducible apply State.put_keeps | fail_if_no_progress (with_reducible apply Keeps.upd) | split)

theorem State.dumpLost_keeps {a : State} (s : State) (cause : Nat) (hk : Keeps a s) :
    Keeps a (State.dumpLost s cause) := by
  unfold State.dumpLost
  repeat' (first
    | with_reducible assumption | with_reducible intro _ | with_reducible apply State.dumpNotice_keeps
    | with_reducible apply State.restart_keeps | with_reducible apply State.setF_keeps | with_reducible apply State.put_keeps
    | fail_if_no_progress (with_reducible apply Keeps.upd) | split)

theorem State.fatal_keeps {a : State} (s : State) (cause engine : Nat) (hk : Keeps a s) :
    Keeps a (State.fatal s cause engine) := by
  unfold State.fatal
  repeat' (first
    | with_reducible assumption | with_reducible intro _ | with_reducible apply State.dumpLost_keeps
    | with_reducible apply State.quietDevice_keeps | with_reducible apply Keeps.ite
    | fail_if_no_progress (with_reducible apply Keeps.upd) | split | (dsimp only; split))

theorem execFatalError_keeps {a : State} (cause engine : Nat) (s : State) (hk : Keeps a s) :
    OutKeeps a (execFatalError cause engine s) := by
  unfold execFatalError
  repeat' (first
    | with_reducible assumption | with_reducible intro _ | with_reducible apply State.fatal_keeps | with_reducible apply Keeps.ite
    | with_reducible apply OutKeeps.next | split)

theorem State.dumpBytes_keeps {a : State} (s : State) (d : DumpJob) (flash full : Bool) (hk : Keeps a s) :
    Keeps a (s.dumpBytes d flash full).1 := by
  unfold State.dumpBytes
  dsimp only
  split
  · exact hk
  · exact State.fresh_keeps s hk

theorem State.finishDump_keeps {a : State} (s : State) (d : DumpJob) (flash : Bool) (hk : Keeps a s) :
    Keeps a (State.finishDump s d flash) := by
  unfold State.finishDump
  repeat' (first
    | with_reducible assumption | with_reducible intro _ | with_reducible apply State.dumpBytes_keeps
    | with_reducible apply State.dumpNotice_keeps | with_reducible apply State.restart_keeps
    | with_reducible apply State.complete_keeps | with_reducible apply State.hostWrite_keeps | with_reducible apply State.setF_keeps
    | with_reducible apply State.put_keeps | with_reducible apply Keeps.ite | fail_if_no_progress (with_reducible apply Keeps.upd)
    | split | (dsimp only; split))

theorem execDumpWritten_keeps {a : State} (s : State) (hk : Keeps a s) :
    OutKeeps a (execDumpWritten s) := by
  unfold execDumpWritten
  repeat' (first
    | with_reducible assumption | with_reducible intro _ | with_reducible apply State.finishDump_keeps
    | with_reducible apply OutKeeps.next | fail_if_no_progress (with_reducible apply Keeps.upd) | split | (dsimp only; split))

theorem execDumpRetry_keeps {a : State} (s : State) (hk : Keeps a s) :
    OutKeeps a (execDumpRetry s) := by
  unfold execDumpRetry
  repeat' (first
    | with_reducible assumption | with_reducible intro _ | with_reducible apply State.finishDump_keeps
    | with_reducible apply State.dumpLost_keeps | with_reducible apply State.complete_keeps | with_reducible apply Keeps.ite
    | with_reducible apply OutKeeps.next | fail_if_no_progress (with_reducible apply Keeps.upd) | split | (dsimp only; split))

theorem execDumpSlotErase_keeps {a : State} (slot : Nat) (s : State) (hk : Keeps a s) :
    OutKeeps a (execDumpSlotErase slot s) := by
  unfold execDumpSlotErase
  repeat' (first
    | with_reducible assumption | with_reducible intro _ | with_reducible apply Keeps.ite | with_reducible apply OutKeeps.next
    | fail_if_no_progress (with_reducible apply Keeps.upd) | split)

theorem execFltDumpTest_keeps {a : State} (h : Hdr) (s : State) (hk : Keeps a s) :
    OutKeeps a (execFltDumpTest h s) := by
  unfold execFltDumpTest
  repeat' (first
    | with_reducible assumption | with_reducible intro _ | with_reducible apply State.acceptNow_keeps
    | with_reducible apply Keeps.ite | with_reducible apply OutKeeps.next | fail_if_no_progress (with_reducible apply Keeps.upd)
    | split)

theorem execFltDumpRegion_keeps {a : State} (h : Hdr) (fullMem clear : Bool) (addr len : Nat) (s : State) (hk : Keeps a s) :
    OutKeeps a (execFltDumpRegion h fullMem clear addr len s) := by
  unfold execFltDumpRegion
  repeat' (first
    | with_reducible assumption | with_reducible intro _ | with_reducible apply State.acceptNow_keeps
    | with_reducible apply State.complete_keeps | with_reducible apply State.put_keeps | with_reducible apply Keeps.ite
    | with_reducible apply OutKeeps.next | fail_if_no_progress (with_reducible apply Keeps.upd) | split)

theorem execFltDumpFetch_keeps {a : State} (h : Hdr) (erase : Bool) (addr : Nat) (s : State) (hk : Keeps a s) :
    OutKeeps a (execFltDumpFetch h erase addr s) := by
  unfold execFltDumpFetch
  repeat' (first
    | with_reducible assumption | with_reducible intro _ | with_reducible apply State.acceptNow_keeps
    | with_reducible apply State.completeR_keeps | with_reducible apply State.hostWrite_keeps | with_reducible apply State.put_keeps
    | with_reducible apply Keeps.ite | with_reducible apply OutKeeps.next | fail_if_no_progress (with_reducible apply Keeps.upd)
    | split)

theorem execTelSetup_keeps {a : State} (h : Hdr) (k b addr : Nat) (s : State) (hk : Keeps a s) :
    OutKeeps a (execTelSetup h k b addr s) := by
  unfold execTelSetup
  repeat' (first
    | with_reducible assumption | with_reducible intro _ | with_reducible apply State.acceptNow_keeps
    | with_reducible apply State.complete_keeps | with_reducible apply State.put_keeps | with_reducible apply Keeps.ite
    | with_reducible apply OutKeeps.next | fail_if_no_progress (with_reducible apply Keeps.upd) | split)

theorem execTelemetryRecord_keeps {a : State} (o : TelemetryObs) (s : State) (hk : Keeps a s) :
    OutKeeps a (execTelemetryRecord o s) := by
  unfold execTelemetryRecord
  repeat' (first
    | with_reducible assumption | with_reducible intro _ | with_reducible apply State.lateFlag_keeps
    | with_reducible apply State.event_keeps | with_reducible apply State.hostWrite_keeps | with_reducible apply State.when_keeps
    | with_reducible apply State.put_keeps | with_reducible apply Keeps.ite | with_reducible apply OutKeeps.next
    | fail_if_no_progress (with_reducible apply Keeps.upd) | split | (dsimp only; split))

theorem execLogRead_keeps {a : State} (h : Hdr) (count addr : Nat) (s : State) (hk : Keeps a s) :
    OutKeeps a (execLogRead h count addr s) := by
  unfold execLogRead
  repeat' (first
    | with_reducible assumption | with_reducible intro _ | with_reducible apply State.acceptNow_keeps
    | with_reducible apply State.completeR_keeps | with_reducible apply State.hostWrite_keeps | with_reducible apply OutKeeps.next
    | split)

theorem State.settleTest_keeps {a : State} (s : State) (h : Hdr) (left failing : Nat) (hk : Keeps a s) :
    Keeps a (State.settleTest s h left failing) := by
  unfold State.settleTest
  repeat' (first
    | with_reducible assumption | with_reducible intro _ | with_reducible apply State.completeR_keeps
    | with_reducible apply State.complete_keeps | with_reducible apply Keeps.ite
    | fail_if_no_progress (with_reducible apply Keeps.upd) | split)

theorem execPathRestore_keeps {a : State} (h : Hdr) (mask : Nat) (s : State) (hk : Keeps a s) :
    OutKeeps a (execPathRestore h mask s) := by
  unfold execPathRestore
  repeat' (first
    | with_reducible assumption | with_reducible intro _ | with_reducible apply State.settleTest_keeps
    | with_reducible apply State.acceptNow_keeps | with_reducible apply OutKeeps.next | split)

theorem State.testedBanks_keeps {a : State} (s : State) (p : Nat) (hk : Keeps a s) :
    Keeps a (State.testedBanks s p) := by
  unfold State.testedBanks
  repeat' (first
    | with_reducible assumption | with_reducible intro _ | fail_if_no_progress (with_reducible apply Keeps.upd) | split)

theorem execPathTestDone_keeps {a : State} (path : Nat) (passed : Bool) (s : State) (hk : Keeps a s) :
    OutKeeps a (execPathTestDone path passed s) := by
  unfold execPathTestDone
  repeat' (first
    | with_reducible assumption | with_reducible intro _ | with_reducible apply State.testedBanks_keeps
    | with_reducible apply State.settleTest_keeps | with_reducible apply Keeps.ite | with_reducible apply OutKeeps.next
    | fail_if_no_progress (with_reducible apply Keeps.upd) | split | (dsimp only; split))

theorem execScrubRead_keeps {a : State} (r : ScrubResult) (late : Bool) (s : State) (hk : Keeps a s) :
    OutKeeps a (execScrubRead r late s) := by
  unfold execScrubRead
  repeat' (first
    | with_reducible assumption | with_reducible intro _ | with_reducible apply State.lateFlag_keeps
    | with_reducible apply State.countClass_keeps | with_reducible apply State.when_keeps | with_reducible apply Keeps.ite
    | with_reducible apply OutKeeps.next | fail_if_no_progress (with_reducible apply Keeps.upd) | split | (dsimp only; split))

end Sys2Proof.Machine
end

