-- ==== Sys2Proof/Laws/KeepsDoorbell.lean ====
section
/-! SUPPORT. What the operations of Doorbell keep: the queue and the canonical form of the stores. -/
set_option linter.unreachableTactic false
set_option linter.unusedTactic false

namespace Sys2Proof.Machine
open Sys2Proof

theorem State.doorbellError_keeps {a : State} (s : State) (r cause value : Nat) (hk : Keeps a s) :
    Keeps a (State.doorbellError s r cause value) := by
  unfold State.doorbellError
  repeat' (first
    | with_reducible assumption | with_reducible intro _ | with_reducible apply State.event_keeps
    | with_reducible apply State.setF_keeps | split)

theorem State.unstall_keeps {a : State} (s : State) (r : Nat) (hk : Keeps a s) :
    Keeps a (State.unstall s r) := by
  unfold State.unstall
  repeat' (first
    | with_reducible assumption | with_reducible intro _ | with_reducible apply State.setRingState_keeps
    | with_reducible apply State.modRing_keeps | with_reducible apply Keeps.ite
    | fail_if_no_progress (with_reducible apply Keeps.upd) | split)

theorem State.refreshNaming_keeps {a : State} (s : State) (cq : Nat) (hk : Keeps a s) :
    Keeps a (State.refreshNaming s cq) := by
  unfold State.refreshNaming
  repeat' (first
    | with_reducible assumption | with_reducible intro _ | with_reducible apply State.refreshRing_keeps
    | with_reducible apply State.each_keeps | split)

theorem State.kickRing_keeps {a : State} (s : State) (r : Nat) (hk : Keeps a s) :
    Keeps a (State.kickRing s r) := by
  unfold State.kickRing
  repeat' (first
    | with_reducible assumption | with_reducible intro _ | with_reducible apply State.unstall_keeps
    | with_reducible apply State.refreshRing_keeps | with_reducible apply State.modRing_keeps | with_reducible apply Keeps.ite
    | fail_if_no_progress (with_reducible apply Keeps.upd) | split)

theorem State.doorbellWrite_keeps {a : State} (s : State) (r value size : Nat) (hk : Keeps a s) :
    Keeps a (State.doorbellWrite s r value size) := by
  unfold State.doorbellWrite
  repeat' (first
    | with_reducible assumption | with_reducible intro _ | with_reducible apply State.kickRing_keeps
    | with_reducible apply State.refreshNaming_keeps | with_reducible apply State.unstall_keeps
    | with_reducible apply State.doorbellError_keeps | with_reducible apply State.flushCompletions_keeps
    | with_reducible apply State.refreshRing_keeps | with_reducible apply State.flushLost_keeps
    | with_reducible apply State.modRing_keeps | with_reducible apply Keeps.ite
    | fail_if_no_progress (with_reducible apply Keeps.upd) | split)

theorem execDoorbell_keeps {a : State} (ring value size : Nat) (s : State) (hk : Keeps a s) :
    OutKeeps a (execDoorbell ring value size s) := by
  unfold execDoorbell
  repeat' (first
    | with_reducible assumption | with_reducible intro _ | with_reducible apply State.doorbellWrite_keeps
    | with_reducible apply Keeps.ite | with_reducible apply OutKeeps.next | split)

theorem execKick_keeps {a : State} (ring value size : Nat) (s : State) (hk : Keeps a s) :
    OutKeeps a (execKick ring value size s) := by
  unfold execKick
  repeat' (first
    | with_reducible assumption | with_reducible intro _ | with_reducible apply State.doorbellWrite_keeps
    | with_reducible apply Keeps.ite | with_reducible apply OutKeeps.next | split)

theorem execHeadDoorbell_keeps {a : State} (ring value size : Nat) (s : State) (hk : Keeps a s) :
    OutKeeps a (execHeadDoorbell ring value size s) := by
  unfold execHeadDoorbell
  repeat' (first
    | with_reducible assumption | with_reducible intro _ | with_reducible apply State.doorbellWrite_keeps
    | with_reducible apply Keeps.ite | with_reducible apply OutKeeps.next | split)

theorem State.enableRing_keeps {a : State} (s : State) (r : Nat) (hk : Keeps a s) :
    Keeps a (State.enableRing s r) := by
  unfold State.enableRing
  repeat' (first
    | with_reducible assumption | with_reducible intro _ | with_reducible apply State.refreshNaming_keeps
    | with_reducible apply State.refreshRing_keeps | with_reducible apply State.flushHeld_keeps
    | with_reducible apply State.modRing_keeps | with_reducible apply State.setRingPos_keeps | with_reducible apply State.put_keeps
    | with_reducible apply Keeps.ite | fail_if_no_progress (with_reducible apply Keeps.upd) | split)

theorem State.disableRing_keeps {a : State} (s : State) (r : Nat) (hk : Keeps a s) :
    Keeps a (State.disableRing s r) := by
  unfold State.disableRing
  repeat' (first
    | with_reducible assumption | with_reducible intro _ | with_reducible apply State.refreshNaming_keeps
    | with_reducible apply State.refreshRing_keeps | with_reducible apply State.put_keeps | with_reducible apply Keeps.ite | split)

theorem State.writeRingEn_keeps {a : State} (s : State) (r : Nat) (en : Bool) (hk : Keeps a s) :
    Keeps a (State.writeRingEn s r en) := by
  unfold State.writeRingEn
  repeat' (first
    | with_reducible assumption | with_reducible intro _ | with_reducible apply State.disableRing_keeps
    | with_reducible apply State.enableRing_keeps | with_reducible apply State.setF_keeps | with_reducible apply Keeps.ite | split)

theorem execRingEnable_keeps {a : State} (rq : Requester) (ring : Nat) (en : Bool) (s : State) (hk : Keeps a s) :
    OutKeeps a (execRingEnable rq ring en s) := by
  unfold execRingEnable
  repeat' (first
    | with_reducible assumption | with_reducible intro _ | with_reducible apply State.writeRingEn_keeps
    | with_reducible apply Keeps.ite | with_reducible apply OutKeeps.next | split)

theorem State.resetRings_keeps {a : State} (s : State) (cause : Nat) (hk : Keeps a s) :
    Keeps a (State.resetRings s cause) := by
  unfold State.resetRings
  repeat' (first
    | with_reducible assumption | with_reducible intro _ | with_reducible apply State.setRingState_keeps
    | with_reducible apply State.event_keeps | with_reducible apply State.modRing_keeps | with_reducible apply State.each_keeps
    | with_reducible apply State.put_keeps | with_reducible apply Keeps.ite | fail_if_no_progress (with_reducible apply Keeps.upd)
    | split)

theorem execRingsDisable_keeps {a : State} (rq : Requester) (s : State) (hk : Keeps a s) :
    OutKeeps a (execRingsDisable rq s) := by
  unfold execRingsDisable
  repeat' (first
    | with_reducible assumption | with_reducible intro _ | with_reducible apply State.resetRings_keeps
    | with_reducible apply Keeps.ite | with_reducible apply OutKeeps.next | split)

theorem State.msixSend_keeps {a : State} (s : State) (v : Nat) (hk : Keeps a s) :
    Keeps a (State.msixSend s v) := by
  unfold State.msixSend
  repeat' (first
    | with_reducible assumption | with_reducible intro _ | with_reducible apply State.modRing_keeps
    | with_reducible apply State.hostWrite_keeps | with_reducible apply State.each_keeps
    | fail_if_no_progress (with_reducible apply Keeps.upd) | split)

theorem State.msixSignal_keeps {a : State} (s : State) (v : Nat) (hk : Keeps a s) :
    Keeps a (State.msixSignal s v) := by
  unfold State.msixSignal
  repeat' (first
    | with_reducible assumption | with_reducible intro _ | with_reducible apply State.msixSend_keeps
    | with_reducible apply State.putBit64_keeps | with_reducible apply Keeps.ite | split)

theorem execMsixMessage_keeps {a : State} (vector : Nat) (s : State) (hk : Keeps a s) :
    OutKeeps a (execMsixMessage vector s) := by
  unfold execMsixMessage
  repeat' (first
    | with_reducible assumption | with_reducible intro _ | with_reducible apply State.msixSignal_keeps
    | with_reducible apply Keeps.ite | with_reducible apply OutKeeps.next | split)

theorem State.msixUnmask_keeps {a : State} (s : State) (v : Nat) (hk : Keeps a s) :
    Keeps a (State.msixUnmask s v) := by
  unfold State.msixUnmask
  repeat' (first
    | with_reducible assumption | with_reducible intro _ | with_reducible apply State.msixSend_keeps
    | with_reducible apply State.putBit64_keeps | with_reducible apply State.wr_keeps | with_reducible apply Keeps.ite | split)

theorem execMsixUnmask_keeps {a : State} (vector : Nat) (s : State) (hk : Keeps a s) :
    OutKeeps a (execMsixUnmask vector s) := by
  unfold execMsixUnmask
  repeat' (first
    | with_reducible assumption | with_reducible intro _ | with_reducible apply State.msixUnmask_keeps
    | with_reducible apply Keeps.ite | with_reducible apply OutKeeps.next | split)

theorem State.hostReturns_keeps {a : State} (s : State) (hk : Keeps a s) :
    Keeps a (State.hostReturns s) := by
  unfold State.hostReturns
  repeat' (first
    | with_reducible assumption | with_reducible intro _ | with_reducible apply State.msixSignal_keeps
    | with_reducible apply State.flushCompletions_keeps | with_reducible apply State.flushHeld_keeps
    | with_reducible apply State.each_keeps | split)

theorem execLinkDown_keeps {a : State} (s : State) (hk : Keeps a s) :
    OutKeeps a (execLinkDown s) := by
  unfold execLinkDown
  repeat' (first
    | with_reducible assumption | with_reducible intro _ | with_reducible apply State.event_keeps
    | with_reducible apply State.when_keeps | with_reducible apply OutKeeps.next
    | fail_if_no_progress (with_reducible apply Keeps.upd) | split)

theorem execLinkUp_keeps {a : State} (s : State) (hk : Keeps a s) :
    OutKeeps a (execLinkUp s) := by
  unfold execLinkUp
  repeat' (first
    | with_reducible assumption | with_reducible intro _ | with_reducible apply State.hostReturns_keeps
    | with_reducible apply Keeps.ite | with_reducible apply OutKeeps.next | fail_if_no_progress (with_reducible apply Keeps.upd)
    | split)

theorem execConfigRequest_keeps {a : State} (s : State) (hk : Keeps a s) :
    OutKeeps a (execConfigRequest s) := by
  unfold execConfigRequest
  repeat' (first
    | with_reducible assumption | with_reducible intro _ | with_reducible apply Keeps.ite | with_reducible apply OutKeeps.next
    | fail_if_no_progress (with_reducible apply Keeps.upd) | split)

theorem execPerstFall_keeps {a : State} (s : State) (hk : Keeps a s) :
    OutKeeps a (execPerstFall s) := by
  unfold execPerstFall
  repeat' (first
    | with_reducible assumption | with_reducible intro _ | with_reducible apply State.resetRings_keeps
    | with_reducible apply State.each_keeps | with_reducible apply State.wr64_keeps | with_reducible apply State.setF_keeps
    | with_reducible apply State.put_keeps | with_reducible apply State.wr_keeps | with_reducible apply Keeps.ite
    | with_reducible apply OutKeeps.next | fail_if_no_progress (with_reducible apply Keeps.upd) | split)

theorem execPerstRise_keeps {a : State} (s : State) (hk : Keeps a s) :
    OutKeeps a (execPerstRise s) := by
  unfold execPerstRise
  repeat' (first
    | with_reducible assumption | with_reducible intro _ | with_reducible apply State.setF_keeps | with_reducible apply Keeps.ite
    | with_reducible apply OutKeeps.next | fail_if_no_progress (with_reducible apply Keeps.upd) | split)

theorem State.modPeer_keeps {a : State} (s : State) (k : Nat) (f : TunnelPeer → TunnelPeer) (hk : Keeps a s) :
    Keeps a (State.modPeer s k f) := by
  unfold State.modPeer
  repeat' (first
    | with_reducible assumption | with_reducible intro _ | fail_if_no_progress (with_reducible apply Keeps.upd) | split)

theorem State.setRoute_keeps {a : State} (s : State) (k : Nat) (hk : Keeps a s) :
    Keeps a (State.setRoute s k) := by
  unfold State.setRoute
  repeat' (first
    | with_reducible assumption | with_reducible intro _ | with_reducible apply State.modPeer_keeps
    | with_reducible apply State.nextSeq_keeps | with_reducible apply State.event_keeps | with_reducible apply State.when_keeps
    | fail_if_no_progress (with_reducible apply Keeps.upd) | split)

theorem State.tunnelSend_keeps {a : State} (s : State) (k : Nat) (m : TunnelMsg) (hk : Keeps a s) :
    Keeps a (State.tunnelSend s k m) := by
  unfold State.tunnelSend
  repeat' (first
    | with_reducible assumption | with_reducible intro _ | with_reducible apply State.setRoute_keeps
    | with_reducible apply State.modPeer_keeps | with_reducible apply State.nextSeq_keeps | with_reducible apply State.culSend_keeps
    | fail_if_no_progress (with_reducible apply Keeps.upd) | split)

theorem State.tunnelDoorbell_keeps {a : State} (s : State) (d off value size : Nat) (hk : Keeps a s) :
    Keeps a (State.tunnelDoorbell s d off value size) := by
  unfold State.tunnelDoorbell
  repeat' (first
    | with_reducible assumption | with_reducible intro _ | with_reducible apply State.tunnelSend_keeps
    | with_reducible apply Keeps.ite | split)

theorem execTunnelDoorbell_keeps {a : State} (window off value size : Nat) (s : State) (hk : Keeps a s) :
    OutKeeps a (execTunnelDoorbell window off value size s) := by
  unfold execTunnelDoorbell
  repeat' (first
    | with_reducible assumption | with_reducible intro _ | with_reducible apply State.tunnelDoorbell_keeps
    | with_reducible apply Keeps.ite | with_reducible apply OutKeeps.next | split)

end Sys2Proof.Machine
end

