-- ==== Sys2Proof/Laws/KeepsRegisters.lean ====
section
/-! SUPPORT. What the operations of Registers keep: the queue and the canonical form of the stores. -/
set_option linter.unreachableTactic false
set_option linter.unusedTactic false

namespace Sys2Proof.Machine
open Sys2Proof

theorem State.cfgErr_keeps {a : State} (s : State) (off : Nat) (hk : Keeps a s) :
    Keeps a (State.cfgErr s off) := by
  unfold State.cfgErr
  repeat' (first
    | with_reducible assumption | with_reducible intro _ | with_reducible apply State.each_keeps
    | with_reducible apply State.setF_keeps | split)

theorem State.lockViolation_keeps {a : State} (s : State) (off : Nat) (hk : Keeps a s) :
    Keeps a (State.lockViolation s off) := by
  unfold State.lockViolation
  repeat' (first
    | with_reducible assumption | with_reducible intro _ | with_reducible apply State.cfgErr_keeps
    | with_reducible apply State.satAdd_keeps | with_reducible apply State.setF_keeps | split)

theorem State.portFlows_keeps {a : State} (s : State) (k : Nat) (hk : Keeps a s) :
    Keeps a (State.portFlows s k) := by
  unfold State.portFlows
  repeat' (first
    | with_reducible assumption | with_reducible intro _ | fail_if_no_progress (with_reducible apply Keeps.upd) | split)

theorem State.afterWrite_keeps {a : State} (s : State) (off old new value : Nat) (hk : Keeps a s) :
    Keeps a (State.afterWrite s off old new value) := by
  unfold State.afterWrite
  repeat' (first
    | with_reducible assumption | with_reducible intro _ | with_reducible apply State.portFlows_keeps
    | with_reducible apply State.throttle_keeps | with_reducible apply State.startUpdate_keeps
    | with_reducible apply State.confirmSlot_keeps | with_reducible apply State.softReset_keeps
    | with_reducible apply State.autoPlan_keeps | with_reducible apply State.culRefresh_keeps
    | with_reducible apply State.startHist_keeps | with_reducible apply State.laneStart_keeps
    | with_reducible apply State.enterDown_keeps | with_reducible apply State.elect_keeps
    | with_reducible apply State.hkaTimer_keeps | with_reducible apply State.regularTrigger_keeps
    | with_reducible apply State.showMains_keeps | with_reducible apply State.modCoex_keeps | with_reducible apply State.when_keeps
    | with_reducible apply State.each_keeps | with_reducible apply State.put_keeps | with_reducible apply Keeps.ite
    | fail_if_no_progress (with_reducible apply Keeps.upd) | split)

theorem State.writeLock_keeps {a : State} (s : State) (value : Nat) (hk : Keeps a s) :
    Keeps a (State.writeLock s value) := by
  unfold State.writeLock
  repeat' (first
    | with_reducible assumption | with_reducible intro _ | with_reducible apply State.setF_keeps | with_reducible apply Keeps.ite
    | split)

theorem State.writeRefNum_keeps {a : State} (s : State) (value : Nat) (hk : Keeps a s) :
    Keeps a (State.writeRefNum s value) := by
  unfold State.writeRefNum
  repeat' (first
    | with_reducible assumption | with_reducible intro _ | with_reducible apply State.lockViolation_keeps
    | with_reducible apply State.cfgErr_keeps | with_reducible apply State.when_keeps | with_reducible apply State.put_keeps
    | with_reducible apply Keeps.ite | fail_if_no_progress (with_reducible apply Keeps.upd) | split)

theorem State.writeRingCfg_keeps {a : State} (s : State) (r value : Nat) (hk : Keeps a s) :
    Keeps a (State.writeRingCfg s r value) := by
  unfold State.writeRingCfg
  repeat' (first
    | with_reducible assumption | with_reducible intro _ | with_reducible apply State.cfgErr_keeps
    | with_reducible apply State.writeRingEn_keeps | with_reducible apply State.when_keeps | with_reducible apply State.wr_keeps
    | with_reducible apply Keeps.ite | split)

theorem State.writeRingCtl_keeps {a : State} (s : State) (value : Nat) (hk : Keeps a s) :
    Keeps a (State.writeRingCtl s value) := by
  unfold State.writeRingCtl
  repeat' (first
    | with_reducible assumption | with_reducible intro _ | with_reducible apply State.resetRings_keeps
    | with_reducible apply State.setF_keeps | with_reducible apply Keeps.ite | split)

theorem State.takeStage_keeps {a : State} (s : State) (rq : Requester) (low : Nat) (hk : Keeps a s) : Keeps a (s.takeStage rq low).1 := by
  unfold State.takeStage
  split
  · exact Keeps.upd hk
  · exact hk

theorem State.commitWide_keeps {a : State} (s : State) (d : RegDesc) (off lower value : Nat) (hk : Keeps a s) :
    Keeps a (State.commitWide s d off lower value) := by
  unfold State.commitWide
  repeat' (first
    | with_reducible assumption | with_reducible intro _ | with_reducible apply State.lockViolation_keeps
    | with_reducible apply State.cfgErr_keeps | with_reducible apply State.setAirOfs_keeps | with_reducible apply State.wr64_keeps
    | with_reducible apply Keeps.ite | split)

theorem State.writeFields_keeps {a : State} (s : State) (d : RegDesc) (off value : Nat) (hk : Keeps a s) :
    Keeps a (State.writeFields s d off value) := by
  unfold State.writeFields
  repeat' (first
    | with_reducible assumption | with_reducible intro _ | with_reducible apply State.afterWrite_keeps
    | with_reducible apply State.lockViolation_keeps | with_reducible apply State.cfgErr_keeps
    | with_reducible apply State.when_keeps | with_reducible apply State.wr_keeps | with_reducible apply Keeps.ite | split
    | (dsimp only; split))

theorem State.writeReg_keeps {a : State} (s : State) (rq : Requester) (off value : Nat) (hk : Keeps a s) :
    Keeps a (State.writeReg s rq off value) := by
  unfold State.writeReg
  repeat' (first
    | with_reducible assumption | with_reducible intro _ | with_reducible apply State.writeFields_keeps
    | with_reducible apply State.commitWide_keeps | with_reducible apply State.takeStage_keeps
    | with_reducible apply State.writeRingCtl_keeps | with_reducible apply State.writeRingCfg_keeps
    | with_reducible apply State.writeRefNum_keeps | with_reducible apply State.writeLock_keeps
    | with_reducible apply State.tunnelDoorbell_keeps | with_reducible apply State.msixUnmask_keeps
    | with_reducible apply State.doorbellWrite_keeps | with_reducible apply State.wakeWrite_keeps
    | with_reducible apply State.sluKick_keeps | with_reducible apply State.stage_keeps | with_reducible apply State.when_keeps
    | with_reducible apply State.wr_keeps | with_reducible apply Keeps.ite | fail_if_no_progress (with_reducible apply Keeps.upd)
    | split | (dsimp only; split))

theorem execRegisterWrite_keeps {a : State} (rq : Requester) (off size value : Nat) (s : State) (hk : Keeps a s) :
    OutKeeps a (execRegisterWrite rq off size value s) := by
  unfold execRegisterWrite
  repeat' (first
    | with_reducible assumption | with_reducible intro _ | with_reducible apply State.writeReg_keeps
    | with_reducible apply State.doorbellWrite_keeps | with_reducible apply State.setF_keeps | with_reducible apply Keeps.ite
    | with_reducible apply OutKeeps.next | split)

theorem execDevLock_keeps {a : State} (rq : Requester) (value : Nat) (s : State) (hk : Keeps a s) :
    OutKeeps a (execDevLock rq value s) := by
  unfold execDevLock
  repeat' (first
    | with_reducible assumption | with_reducible intro _ | with_reducible apply State.writeLock_keeps
    | with_reducible apply Keeps.ite | with_reducible apply OutKeeps.next | split)

theorem execTimRefNumWrite_keeps {a : State} (rq : Requester) (value : Nat) (s : State) (hk : Keeps a s) :
    OutKeeps a (execTimRefNumWrite rq value s) := by
  unfold execTimRefNumWrite
  repeat' (first
    | with_reducible assumption | with_reducible intro _ | with_reducible apply State.writeRefNum_keeps
    | with_reducible apply Keeps.ite | with_reducible apply OutKeeps.next | split)

theorem execRefNumChange_keeps {a : State} (s : State) (hk : Keeps a s) :
    OutKeeps a (execRefNumChange s) := by
  unfold execRefNumChange
  repeat' (first
    | with_reducible assumption | with_reducible intro _ | with_reducible apply State.refreshPlan_keeps
    | with_reducible apply Keeps.ite | with_reducible apply OutKeeps.next | fail_if_no_progress (with_reducible apply Keeps.upd)
    | split | (dsimp only; split))

theorem execTAdvApply_keeps {a : State} (s : State) (hk : Keeps a s) :
    OutKeeps a (execTAdvApply s) := by
  unfold execTAdvApply
  repeat' (first
    | with_reducible assumption | with_reducible intro _ | with_reducible apply Keeps.ite | with_reducible apply OutKeeps.next
    | fail_if_no_progress (with_reducible apply Keeps.upd) | split | (dsimp only; split))

end Sys2Proof.Machine
end

