-- ==== Sys2Proof/Laws/KeepsEngine.lean ====
section
/-! SUPPORT. What the operations of Engine keep: the queue and the canonical form of the stores. -/
set_option linter.unreachableTactic false
set_option linter.unusedTactic false

namespace Sys2Proof.Machine
open Sys2Proof

theorem State.endKernel_keeps {a : State} (s : State) (n : Nat) (hk : Keeps a s) :
    Keeps a (State.endKernel s n) := by
  unfold State.endKernel
  repeat' (first
    | with_reducible assumption | with_reducible intro _ | with_reducible apply State.modEngine_keeps
    | with_reducible apply State.put_keeps | with_reducible apply Keeps.ite | fail_if_no_progress (with_reducible apply Keeps.upd)
    | split | (dsimp only; split))

theorem State.kernelEvent_keeps {a : State} (s : State) (n what : Nat) (k : Kernel) (hk : Keeps a s) :
    Keeps a (State.kernelEvent s n what k) := by
  unfold State.kernelEvent
  repeat' (first
    | with_reducible assumption | with_reducible intro _ | with_reducible apply State.event_keeps | split)

theorem State.kernelFault_keeps {a : State} (s : State) (n : Nat) (hk : Keeps a s) :
    Keeps a (State.kernelFault s n) := by
  unfold State.kernelFault
  repeat' (first
    | with_reducible assumption | with_reducible intro _ | with_reducible apply State.kernelEvent_keeps
    | with_reducible apply State.endKernel_keeps | with_reducible apply State.modEngine_keeps
    | with_reducible apply State.setF_keeps | fail_if_no_progress (with_reducible apply Keeps.upd) | split | (dsimp only; split))

theorem State.firmwareFault_keeps {a : State} (s : State) (n : Nat) (hk : Keeps a s) :
    Keeps a (State.firmwareFault s n) := by
  unfold State.firmwareFault
  repeat' (first
    | with_reducible assumption | with_reducible intro _ | with_reducible apply State.fatal_keeps
    | with_reducible apply State.modEngine_keeps | with_reducible apply State.complete_keeps | with_reducible apply State.each_keeps
    | with_reducible apply State.setF_keeps | with_reducible apply State.put_keeps | with_reducible apply Keeps.ite
    | fail_if_no_progress (with_reducible apply Keeps.upd) | split | (dsimp only; split))

theorem State.engFault_keeps {a : State} (s : State) (n cause pc : Nat) (slotQ : Bool) (addr : Nat) (hk : Keeps a s) :
    Keeps a (State.engFault s n cause pc slotQ addr) := by
  unfold State.engFault
  repeat' (first
    | with_reducible assumption | with_reducible intro _ | with_reducible apply State.firmwareFault_keeps
    | with_reducible apply State.kernelFault_keeps | with_reducible apply State.event_keeps | with_reducible apply State.put_keeps
    | with_reducible apply Keeps.ite | split)

theorem State.countCycles_keeps {a : State} (s : State) (n cycles : Nat) (hk : Keeps a s) :
    Keeps a (State.countCycles s n cycles) := by
  unfold State.countCycles
  repeat' (first
    | with_reducible assumption | with_reducible intro _ | with_reducible apply State.modEngine_keeps
    | with_reducible apply State.add64_keeps | with_reducible apply Keeps.ite | fail_if_no_progress (with_reducible apply Keeps.upd)
    | split)

theorem State.engFlow_keeps {a : State} (s : State) (n : Nat) (f : Flow) (hk : Keeps a s) :
    Keeps a (State.engFlow s n f) := by
  unfold State.engFlow
  repeat' (first
    | with_reducible assumption | with_reducible intro _ | with_reducible apply State.endKernel_keeps
    | with_reducible apply State.writeReg_keeps | with_reducible apply State.modEngine_keeps
    | with_reducible apply State.latch_keeps | with_reducible apply State.put_keeps | with_reducible apply Keeps.ite
    | fail_if_no_progress (with_reducible apply Keeps.upd) | split | (dsimp only; split))

theorem State.commitBundle_keeps {a : State} (s : State) (n : Nat) (k : Option Kernel) (p q : SlotOut) (hk : Keeps a s) :
    Keeps a (State.commitBundle s n k p q) := by
  unfold State.commitBundle
  repeat' (first
    | with_reducible assumption | with_reducible intro _ | with_reducible apply State.engFlow_keeps
    | with_reducible apply State.countCycles_keeps | with_reducible apply State.engFault_keeps
    | with_reducible apply State.modEngine_keeps | with_reducible apply State.devWrite_keeps | with_reducible apply State.when_keeps
    | with_reducible apply State.each_keeps | with_reducible apply State.setF_keeps | with_reducible apply Keeps.ite
    | fail_if_no_progress (with_reducible apply Keeps.upd) | split | (dsimp only; split))

theorem State.bundle_keeps {a : State} (s : State) (n row : Nat) (hk : Keeps a s) :
    Keeps a (State.bundle s n row) := by
  unfold State.bundle
  repeat' (first
    | with_reducible assumption | with_reducible intro _ | with_reducible apply State.commitBundle_keeps
    | with_reducible apply State.engFault_keeps | with_reducible apply Keeps.ite
    | fail_if_no_progress (with_reducible apply Keeps.upd) | split | (dsimp only; split))

theorem execEngNopBundle_keeps {a : State} (n : Nat) (s : State) (hk : Keeps a s) :
    OutKeeps a (execEngNopBundle n s) := by
  unfold execEngNopBundle
  repeat' (first
    | with_reducible assumption | with_reducible intro _ | with_reducible apply State.bundle_keeps
    | with_reducible apply OutKeeps.next | split)

theorem execEngMac4_keeps {a : State} (n : Nat) (s : State) (hk : Keeps a s) :
    OutKeeps a (execEngMac4 n s) := by
  unfold execEngMac4
  repeat' (first
    | with_reducible assumption | with_reducible intro _ | with_reducible apply State.bundle_keeps
    | with_reducible apply OutKeeps.next | split)

theorem execEngDot4_keeps {a : State} (n : Nat) (s : State) (hk : Keeps a s) :
    OutKeeps a (execEngDot4 n s) := by
  unfold execEngDot4
  repeat' (first
    | with_reducible assumption | with_reducible intro _ | with_reducible apply State.bundle_keeps
    | with_reducible apply OutKeeps.next | split)

theorem execEngCmac_keeps {a : State} (n : Nat) (s : State) (hk : Keeps a s) :
    OutKeeps a (execEngCmac n s) := by
  unfold execEngCmac
  repeat' (first
    | with_reducible assumption | with_reducible intro _ | with_reducible apply State.bundle_keeps
    | with_reducible apply OutKeeps.next | split)

theorem execEngTapmv_keeps {a : State} (n : Nat) (s : State) (hk : Keeps a s) :
    OutKeeps a (execEngTapmv n s) := by
  unfold execEngTapmv
  repeat' (first
    | with_reducible assumption | with_reducible intro _ | with_reducible apply State.bundle_keeps
    | with_reducible apply OutKeeps.next | split)

theorem execEngSta4_keeps {a : State} (n : Nat) (s : State) (hk : Keeps a s) :
    OutKeeps a (execEngSta4 n s) := by
  unfold execEngSta4
  repeat' (first
    | with_reducible assumption | with_reducible intro _ | with_reducible apply State.bundle_keeps
    | with_reducible apply OutKeeps.next | split)

theorem execEngStc_keeps {a : State} (n : Nat) (s : State) (hk : Keeps a s) :
    OutKeeps a (execEngStc n s) := by
  unfold execEngStc
  repeat' (first
    | with_reducible assumption | with_reducible intro _ | with_reducible apply State.bundle_keeps
    | with_reducible apply OutKeeps.next | split)

theorem execEngAdd_keeps {a : State} (n : Nat) (s : State) (hk : Keeps a s) :
    OutKeeps a (execEngAdd n s) := by
  unfold execEngAdd
  repeat' (first
    | with_reducible assumption | with_reducible intro _ | with_reducible apply State.bundle_keeps
    | with_reducible apply OutKeeps.next | split)

theorem execEngAddi_keeps {a : State} (n : Nat) (s : State) (hk : Keeps a s) :
    OutKeeps a (execEngAddi n s) := by
  unfold execEngAddi
  repeat' (first
    | with_reducible assumption | with_reducible intro _ | with_reducible apply State.bundle_keeps
    | with_reducible apply OutKeeps.next | split)

theorem execEngSub_keeps {a : State} (n : Nat) (s : State) (hk : Keeps a s) :
    OutKeeps a (execEngSub n s) := by
  unfold execEngSub
  repeat' (first
    | with_reducible assumption | with_reducible intro _ | with_reducible apply State.bundle_keeps
    | with_reducible apply OutKeeps.next | split)

theorem execEngAnd_keeps {a : State} (n : Nat) (s : State) (hk : Keeps a s) :
    OutKeeps a (execEngAnd n s) := by
  unfold execEngAnd
  repeat' (first
    | with_reducible assumption | with_reducible intro _ | with_reducible apply State.bundle_keeps
    | with_reducible apply OutKeeps.next | split)

theorem execEngOr_keeps {a : State} (n : Nat) (s : State) (hk : Keeps a s) :
    OutKeeps a (execEngOr n s) := by
  unfold execEngOr
  repeat' (first
    | with_reducible assumption | with_reducible intro _ | with_reducible apply State.bundle_keeps
    | with_reducible apply OutKeeps.next | split)

theorem execEngXor_keeps {a : State} (n : Nat) (s : State) (hk : Keeps a s) :
    OutKeeps a (execEngXor n s) := by
  unfold execEngXor
  repeat' (first
    | with_reducible assumption | with_reducible intro _ | with_reducible apply State.bundle_keeps
    | with_reducible apply OutKeeps.next | split)

theorem execEngShli_keeps {a : State} (n : Nat) (s : State) (hk : Keeps a s) :
    OutKeeps a (execEngShli n s) := by
  unfold execEngShli
  repeat' (first
    | with_reducible assumption | with_reducible intro _ | with_reducible apply State.bundle_keeps
    | with_reducible apply OutKeeps.next | split)

theorem execEngShri_keeps {a : State} (n : Nat) (s : State) (hk : Keeps a s) :
    OutKeeps a (execEngShri n s) := by
  unfold execEngShri
  repeat' (first
    | with_reducible assumption | with_reducible intro _ | with_reducible apply State.bundle_keeps
    | with_reducible apply OutKeeps.next | split)

theorem execEngSari_keeps {a : State} (n : Nat) (s : State) (hk : Keeps a s) :
    OutKeeps a (execEngSari n s) := by
  unfold execEngSari
  repeat' (first
    | with_reducible assumption | with_reducible intro _ | with_reducible apply State.bundle_keeps
    | with_reducible apply OutKeeps.next | split)

theorem execEngMovi_keeps {a : State} (n : Nat) (s : State) (hk : Keeps a s) :
    OutKeeps a (execEngMovi n s) := by
  unfold execEngMovi
  repeat' (first
    | with_reducible assumption | with_reducible intro _ | with_reducible apply State.bundle_keeps
    | with_reducible apply OutKeeps.next | split)

theorem execEngOrh_keeps {a : State} (n : Nat) (s : State) (hk : Keeps a s) :
    OutKeeps a (execEngOrh n s) := by
  unfold execEngOrh
  repeat' (first
    | with_reducible assumption | with_reducible intro _ | with_reducible apply State.bundle_keeps
    | with_reducible apply OutKeeps.next | split)

theorem execEngLdg_keeps {a : State} (n : Nat) (s : State) (hk : Keeps a s) :
    OutKeeps a (execEngLdg n s) := by
  unfold execEngLdg
  repeat' (first
    | with_reducible assumption | with_reducible intro _ | with_reducible apply State.bundle_keeps
    | with_reducible apply OutKeeps.next | split)

theorem execEngStg_keeps {a : State} (n : Nat) (s : State) (hk : Keeps a s) :
    OutKeeps a (execEngStg n s) := by
  unfold execEngStg
  repeat' (first
    | with_reducible assumption | with_reducible intro _ | with_reducible apply State.bundle_keeps
    | with_reducible apply OutKeeps.next | split)

theorem execEngSth_keeps {a : State} (n : Nat) (s : State) (hk : Keeps a s) :
    OutKeeps a (execEngSth n s) := by
  unfold execEngSth
  repeat' (first
    | with_reducible assumption | with_reducible intro _ | with_reducible apply State.bundle_keeps
    | with_reducible apply OutKeeps.next | split)

theorem execEngMvag_keeps {a : State} (n : Nat) (s : State) (hk : Keeps a s) :
    OutKeeps a (execEngMvag n s) := by
  unfold execEngMvag
  repeat' (first
    | with_reducible assumption | with_reducible intro _ | with_reducible apply State.bundle_keeps
    | with_reducible apply OutKeeps.next | split)

theorem execEngMvga_keeps {a : State} (n : Nat) (s : State) (hk : Keeps a s) :
    OutKeeps a (execEngMvga n s) := by
  unfold execEngMvga
  repeat' (first
    | with_reducible assumption | with_reducible intro _ | with_reducible apply State.bundle_keeps
    | with_reducible apply OutKeeps.next | split)

theorem execEngExp_keeps {a : State} (n : Nat) (s : State) (hk : Keeps a s) :
    OutKeeps a (execEngExp n s) := by
  unfold execEngExp
  repeat' (first
    | with_reducible assumption | with_reducible intro _ | with_reducible apply State.bundle_keeps
    | with_reducible apply OutKeeps.next | split)

theorem execEngNorm_keeps {a : State} (n : Nat) (s : State) (hk : Keeps a s) :
    OutKeeps a (execEngNorm n s) := by
  unfold execEngNorm
  repeat' (first
    | with_reducible assumption | with_reducible intro _ | with_reducible apply State.bundle_keeps
    | with_reducible apply OutKeeps.next | split)

theorem execEngBexr_keeps {a : State} (n : Nat) (s : State) (hk : Keeps a s) :
    OutKeeps a (execEngBexr n s) := by
  unfold execEngBexr
  repeat' (first
    | with_reducible assumption | with_reducible intro _ | with_reducible apply State.bundle_keeps
    | with_reducible apply OutKeeps.next | split)

theorem execEngAgset_keeps {a : State} (n : Nat) (s : State) (hk : Keeps a s) :
    OutKeeps a (execEngAgset n s) := by
  unfold execEngAgset
  repeat' (first
    | with_reducible assumption | with_reducible intro _ | with_reducible apply State.bundle_keeps
    | with_reducible apply OutKeeps.next | split)

theorem execEngRcp_keeps {a : State} (n : Nat) (s : State) (hk : Keeps a s) :
    OutKeeps a (execEngRcp n s) := by
  unfold execEngRcp
  repeat' (first
    | with_reducible assumption | with_reducible intro _ | with_reducible apply State.bundle_keeps
    | with_reducible apply OutKeeps.next | split)

theorem execEngRsq_keeps {a : State} (n : Nat) (s : State) (hk : Keeps a s) :
    OutKeeps a (execEngRsq n s) := by
  unfold execEngRsq
  repeat' (first
    | with_reducible assumption | with_reducible intro _ | with_reducible apply State.bundle_keeps
    | with_reducible apply OutKeeps.next | split)

theorem execEngMul_keeps {a : State} (n : Nat) (s : State) (hk : Keeps a s) :
    OutKeeps a (execEngMul n s) := by
  unfold execEngMul
  repeat' (first
    | with_reducible assumption | with_reducible intro _ | with_reducible apply State.bundle_keeps
    | with_reducible apply OutKeeps.next | split)

theorem execEngTapc_keeps {a : State} (n : Nat) (s : State) (hk : Keeps a s) :
    OutKeeps a (execEngTapc n s) := by
  unfold execEngTapc
  repeat' (first
    | with_reducible assumption | with_reducible intro _ | with_reducible apply State.bundle_keeps
    | with_reducible apply OutKeeps.next | split)

theorem execEngBr_keeps {a : State} (n : Nat) (s : State) (hk : Keeps a s) :
    OutKeeps a (execEngBr n s) := by
  unfold execEngBr
  repeat' (first
    | with_reducible assumption | with_reducible intro _ | with_reducible apply State.bundle_keeps
    | with_reducible apply OutKeeps.next | split)

theorem execEngCall_keeps {a : State} (n : Nat) (s : State) (hk : Keeps a s) :
    OutKeeps a (execEngCall n s) := by
  unfold execEngCall
  repeat' (first
    | with_reducible assumption | with_reducible intro _ | with_reducible apply State.bundle_keeps
    | with_reducible apply OutKeeps.next | split)

theorem execEngRet_keeps {a : State} (n : Nat) (s : State) (hk : Keeps a s) :
    OutKeeps a (execEngRet n s) := by
  unfold execEngRet
  repeat' (first
    | with_reducible assumption | with_reducible intro _ | with_reducible apply State.bundle_keeps
    | with_reducible apply OutKeeps.next | split)

theorem execEngLoop_keeps {a : State} (n : Nat) (s : State) (hk : Keeps a s) :
    OutKeeps a (execEngLoop n s) := by
  unfold execEngLoop
  repeat' (first
    | with_reducible assumption | with_reducible intro _ | with_reducible apply State.bundle_keeps
    | with_reducible apply OutKeeps.next | split)

theorem execEngWait_keeps {a : State} (n : Nat) (s : State) (hk : Keeps a s) :
    OutKeeps a (execEngWait n s) := by
  unfold execEngWait
  repeat' (first
    | with_reducible assumption | with_reducible intro _ | with_reducible apply State.bundle_keeps
    | with_reducible apply OutKeeps.next | split)

theorem execEngTrap_keeps {a : State} (n : Nat) (s : State) (hk : Keeps a s) :
    OutKeeps a (execEngTrap n s) := by
  unfold execEngTrap
  repeat' (first
    | with_reducible assumption | with_reducible intro _ | with_reducible apply State.bundle_keeps
    | with_reducible apply OutKeeps.next | split)

theorem execEngFence_keeps {a : State} (n : Nat) (s : State) (hk : Keeps a s) :
    OutKeeps a (execEngFence n s) := by
  unfold execEngFence
  repeat' (first
    | with_reducible assumption | with_reducible intro _ | with_reducible apply State.bundle_keeps
    | with_reducible apply OutKeeps.next | split)

theorem execEngRetk_keeps {a : State} (n : Nat) (s : State) (hk : Keeps a s) :
    OutKeeps a (execEngRetk n s) := by
  unfold execEngRetk
  repeat' (first
    | with_reducible assumption | with_reducible intro _ | with_reducible apply State.bundle_keeps
    | with_reducible apply OutKeeps.next | split)

theorem execEngHalt_keeps {a : State} (n : Nat) (s : State) (hk : Keeps a s) :
    OutKeeps a (execEngHalt n s) := by
  unfold execEngHalt
  repeat' (first
    | with_reducible assumption | with_reducible intro _ | with_reducible apply State.bundle_keeps
    | with_reducible apply OutKeeps.next | split)

end Sys2Proof.Machine
end

