-- ==== Sys2Proof/Laws/KeepsEngineControl.lean ====
section
/-! SUPPORT. What the operations of EngineControl keep: the queue and the canonical form of the stores. -/
set_option linter.unreachableTactic false
set_option linter.unusedTactic false

namespace Sys2Proof.Machine
open Sys2Proof

theorem execEngineWake_keeps {a : State} (n events : Nat) (s : State) (hk : Keeps a s) :
    OutKeeps a (execEngineWake n events s) := by
  unfold execEngineWake
  repeat' (first
    | with_reducible assumption | with_reducible intro _ | with_reducible apply State.modEngine_keeps
    | with_reducible apply State.put_keeps | with_reducible apply Keeps.ite | with_reducible apply OutKeeps.next
    | fail_if_no_progress (with_reducible apply Keeps.upd) | split)

theorem execWatchdog_keeps {a : State} (n : Nat) (s : State) (hk : Keeps a s) :
    OutKeeps a (execWatchdog n s) := by
  unfold execWatchdog
  repeat' (first
    | with_reducible assumption | with_reducible intro _ | with_reducible apply State.engFault_keeps
    | with_reducible apply Keeps.ite | with_reducible apply OutKeeps.next | split)

theorem State.writeKernel_keeps {a : State} (s : State) (n : Nat) (k : Kernel) (hk : Keeps a s) :
    Keeps a (State.writeKernel s n k) := by
  unfold State.writeKernel
  repeat' (first
    | with_reducible assumption | with_reducible intro _ | with_reducible apply State.modEngine_keeps
    | with_reducible apply State.devWrite_keeps | fail_if_no_progress (with_reducible apply Keeps.upd) | split)

theorem State.engineLost_keeps {a : State} (s : State) (n : Nat) (hk : Keeps a s) :
    Keeps a (State.engineLost s n) := by
  unfold State.engineLost
  repeat' (first
    | with_reducible assumption | with_reducible intro _ | with_reducible apply State.fatal_keeps
    | with_reducible apply State.enterDown_keeps | with_reducible apply State.tileOff_keeps | with_reducible apply Keeps.ite | split)

theorem State.restartEvent_keeps {a : State} (s : State) (n what : Nat) (hk : Keeps a s) :
    Keeps a (State.restartEvent s n what) := by
  unfold State.restartEvent
  repeat' (first
    | with_reducible assumption | with_reducible intro _ | with_reducible apply State.event_keeps | split)

theorem execEngineRestart_keeps {a : State} (n : Nat) (s : State) (hk : Keeps a s) :
    OutKeeps a (execEngineRestart n s) := by
  unfold execEngineRestart
  repeat' (first
    | with_reducible assumption | with_reducible intro _ | with_reducible apply State.restartEvent_keeps
    | with_reducible apply State.engineLost_keeps | with_reducible apply State.writeKernel_keeps
    | with_reducible apply State.loadEngine_keeps | with_reducible apply State.setMode_keeps
    | with_reducible apply State.satAdd_keeps | with_reducible apply State.put_keeps | with_reducible apply Keeps.ite
    | with_reducible apply OutKeeps.next | fail_if_no_progress (with_reducible apply Keeps.upd) | split | (dsimp only; split))

theorem State.changeMode_keeps {a : State} (s : State) (n mode cause : Nat) (hk : Keeps a s) :
    Keeps a (State.changeMode s n mode cause) := by
  unfold State.changeMode
  repeat' (first
    | with_reducible assumption | with_reducible intro _ | with_reducible apply State.endKernel_keeps
    | with_reducible apply State.setMode_keeps | with_reducible apply State.when_keeps | split)

theorem State.applyMode_keeps {a : State} (s : State) (n : Nat) (hk : Keeps a s) :
    Keeps a (State.applyMode s n) := by
  unfold State.applyMode
  repeat' (first
    | with_reducible assumption | with_reducible intro _ | with_reducible apply State.changeMode_keeps
    | with_reducible apply State.modEngine_keeps | with_reducible apply State.complete_keeps | with_reducible apply State.each_keeps
    | fail_if_no_progress (with_reducible apply Keeps.upd) | split | (dsimp only; split))

theorem execModeChange_keeps {a : State} (n : Nat) (maintenance : Bool) (cause : Nat) (s : State) (hk : Keeps a s) :
    OutKeeps a (execModeChange n maintenance cause s) := by
  unfold execModeChange
  repeat' (first
    | with_reducible assumption | with_reducible intro _ | with_reducible apply State.applyMode_keeps
    | with_reducible apply State.changeMode_keeps | with_reducible apply Keeps.ite | with_reducible apply OutKeeps.next | split)

theorem execEngMode_keeps {a : State} (h : Hdr) (engine mode : Nat) (s : State) (hk : Keeps a s) :
    OutKeeps a (execEngMode h engine mode s) := by
  unfold execEngMode
  repeat' (first
    | with_reducible assumption | with_reducible intro _ | with_reducible apply State.applyMode_keeps
    | with_reducible apply State.modEngine_keeps | with_reducible apply State.acceptNow_keeps
    | with_reducible apply State.complete_keeps | with_reducible apply Keeps.ite | with_reducible apply OutKeeps.next
    | fail_if_no_progress (with_reducible apply Keeps.upd) | split | (dsimp only; split))

theorem execEngKernel_keeps {a : State} (h : Hdr) (tileMask action addr len : Nat) (s : State) (hk : Keeps a s) :
    OutKeeps a (execEngKernel h tileMask action addr len s) := by
  unfold execEngKernel
  repeat' (first
    | with_reducible assumption | with_reducible intro _ | with_reducible apply State.kernelWait_keeps
    | with_reducible apply State.seaSubmit_keeps | with_reducible apply State.acceptNow_keeps
    | with_reducible apply State.each_keeps | with_reducible apply Keeps.ite | with_reducible apply OutKeeps.next | split)

theorem State.placeKernel_keeps {a : State} (s : State) (n : Nat) (k : Kernel) (hk : Keeps a s) :
    Keeps a (State.placeKernel s n k) := by
  unfold State.placeKernel
  repeat' (first
    | with_reducible assumption | with_reducible intro _ | with_reducible apply State.writeKernel_keeps
    | with_reducible apply State.kernelEvent_keeps | with_reducible apply State.modEngine_keeps
    | with_reducible apply State.setF_keeps | with_reducible apply State.wr_keeps
    | fail_if_no_progress (with_reducible apply Keeps.upd) | split)

theorem State.removeKernel_keeps {a : State} (s : State) (n : Nat) (hk : Keeps a s) :
    Keeps a (State.removeKernel s n) := by
  unfold State.removeKernel
  repeat' (first
    | with_reducible assumption | with_reducible intro _ | with_reducible apply State.kernelEvent_keeps
    | with_reducible apply State.modEngine_keeps | with_reducible apply State.put_keeps | with_reducible apply State.wr_keeps
    | fail_if_no_progress (with_reducible apply Keeps.upd) | split | (dsimp only; split))

theorem State.kernelDone_keeps {a : State} (s : State) (h : Option Hdr) (hk : Keeps a s) :
    Keeps a (State.kernelDone s h) := by
  unfold State.kernelDone
  repeat' (first
    | with_reducible assumption | with_reducible intro _ | with_reducible apply State.complete_keeps
    | with_reducible apply Keeps.ite | fail_if_no_progress (with_reducible apply Keeps.upd) | split | (dsimp only; split))

theorem execKernelPlacement_keeps {a : State} (n : Nat) (s : State) (hk : Keeps a s) :
    OutKeeps a (execKernelPlacement n s) := by
  unfold execKernelPlacement
  repeat' (first
    | with_reducible assumption | with_reducible intro _ | with_reducible apply State.kernelDone_keeps
    | with_reducible apply State.removeKernel_keeps | with_reducible apply State.placeKernel_keeps
    | with_reducible apply State.modEngine_keeps | with_reducible apply Keeps.ite | with_reducible apply OutKeeps.next
    | fail_if_no_progress (with_reducible apply Keeps.upd) | split | (dsimp only; split))

theorem execKernelInvocation_keeps {a : State} (n arg : Nat) (s : State) (hk : Keeps a s) :
    OutKeeps a (execKernelInvocation n arg s) := by
  unfold execKernelInvocation
  repeat' (first
    | with_reducible assumption | with_reducible intro _ | with_reducible apply State.modEngine_keeps
    | with_reducible apply State.fresh_keeps | with_reducible apply State.satAdd_keeps | with_reducible apply State.setF_keeps
    | with_reducible apply State.put_keeps | with_reducible apply Keeps.ite | with_reducible apply OutKeeps.next
    | fail_if_no_progress (with_reducible apply Keeps.upd) | split | (dsimp only; split))

theorem State.serviceDone_keeps {a : State} (s : State) (n status : Nat) (hk : Keeps a s) :
    Keeps a (State.serviceDone s n status) := by
  unfold State.serviceDone
  repeat' (first
    | with_reducible assumption | with_reducible intro _ | with_reducible apply State.modEngine_keeps
    | fail_if_no_progress (with_reducible apply Keeps.upd) | split)

theorem State.inKernelData_keeps {a : State} (s : State) (n addr len : Nat) (run : State → State)
    (hk : Keeps a s) (hrun : ∀ x, Keeps a x → Keeps a (run x)) :
    Keeps a (State.inKernelData s n addr len run) := by
  unfold State.inKernelData
  repeat' (first
    | with_reducible assumption | with_reducible intro _ | with_reducible apply State.engFault_keeps | apply hrun
    | with_reducible apply Keeps.ite | fail_if_no_progress (with_reducible apply Keeps.upd) | split | (dsimp only; split))

theorem execEngTime_keeps {a : State} (n : Nat) (s : State) (hk : Keeps a s) :
    OutKeeps a (execEngTime n s) := by
  unfold execEngTime
  repeat' (first
    | with_reducible assumption | with_reducible intro _ | with_reducible apply State.serviceDone_keeps
    | with_reducible apply State.modEngine_keeps | with_reducible apply Keeps.ite | with_reducible apply OutKeeps.next
    | fail_if_no_progress (with_reducible apply Keeps.upd) | split)

theorem execEngWriteWeights_keeps {a : State} (n : Nat) (s : State) (hk : Keeps a s) :
    OutKeeps a (execEngWriteWeights n s) := by
  unfold execEngWriteWeights
  repeat' (first
    | with_reducible assumption | with_reducible intro _ | with_reducible apply State.inKernelData_keeps
    | with_reducible apply State.serviceDone_keeps | with_reducible apply State.doWrite_keeps
    | with_reducible apply State.queueWrite_keeps | with_reducible apply Keeps.ite | with_reducible apply OutKeeps.next
    | fail_if_no_progress (with_reducible apply Keeps.upd) | split | (dsimp only; split))

theorem execEngCovRead_keeps {a : State} (n : Nat) (s : State) (hk : Keeps a s) :
    OutKeeps a (execEngCovRead n s) := by
  unfold execEngCovRead
  repeat' (first
    | with_reducible assumption | with_reducible intro _ | with_reducible apply State.inKernelData_keeps
    | with_reducible apply State.serviceDone_keeps | with_reducible apply State.devWrite_keeps | with_reducible apply Keeps.ite
    | with_reducible apply OutKeeps.next | fail_if_no_progress (with_reducible apply Keeps.upd) | split | (dsimp only; split))

theorem execEngEvent_keeps {a : State} (n : Nat) (s : State) (hk : Keeps a s) :
    OutKeeps a (execEngEvent n s) := by
  unfold execEngEvent
  repeat' (first
    | with_reducible assumption | with_reducible intro _ | with_reducible apply State.inKernelData_keeps
    | with_reducible apply State.serviceDone_keeps | with_reducible apply State.modEngine_keeps
    | with_reducible apply State.event_keeps | with_reducible apply Keeps.ite | with_reducible apply OutKeeps.next
    | fail_if_no_progress (with_reducible apply Keeps.upd) | split)

theorem execEngSolved_keeps {a : State} (n : Nat) (s : State) (hk : Keeps a s) :
    OutKeeps a (execEngSolved n s) := by
  unfold execEngSolved
  repeat' (first
    | with_reducible assumption | with_reducible intro _ | with_reducible apply State.serviceDone_keeps
    | with_reducible apply State.fresh_keeps | with_reducible apply Keeps.ite | with_reducible apply OutKeeps.next
    | fail_if_no_progress (with_reducible apply Keeps.upd) | split | (dsimp only; split))

end Sys2Proof.Machine
end

