-- ==== Sys2Proof/Laws/KeepsRetry.lean ====
section
/-! SUPPORT. What the operations of Retry keep: the queue and the canonical form of the stores. -/
set_option linter.unreachableTactic false
set_option linter.unusedTactic false

namespace Sys2Proof.Machine
open Sys2Proof

theorem State.overrun_keeps {a : State} (s : State) (uplink : Bool) (hk : Keeps a s) :
    Keeps a (State.overrun s uplink) := by
  unfold State.overrun
  repeat' (first
    | with_reducible assumption | with_reducible intro _ | with_reducible apply State.event_keeps
    | with_reducible apply State.add64_keeps | with_reducible apply State.setF_keeps | with_reducible apply Keeps.ite | split)

theorem State.markBad_keeps {a : State} (s : State) (bank entry addr : Nat) (hk : Keeps a s) :
    Keeps a (State.markBad s bank entry addr) := by
  unfold State.markBad
  repeat' (first
    | with_reducible assumption | with_reducible intro _ | with_reducible apply State.event_keeps
    | with_reducible apply State.setF_keeps | with_reducible apply Keeps.ite | fail_if_no_progress (with_reducible apply Keeps.upd)
    | split)

theorem State.engineEcc_keeps {a : State} (s : State) (n addr cause : Nat) (hk : Keeps a s) :
    Keeps a (State.engineEcc s n addr cause) := by
  unfold State.engineEcc
  repeat' (first
    | with_reducible assumption | with_reducible intro _ | with_reducible apply State.firmwareFault_keeps
    | with_reducible apply State.kernelEvent_keeps | with_reducible apply State.fatal_keeps
    | with_reducible apply State.modEngine_keeps | with_reducible apply State.event_keeps | with_reducible apply State.when_keeps
    | with_reducible apply State.put_keeps | with_reducible apply Keeps.ite | fail_if_no_progress (with_reducible apply Keeps.upd)
    | split | (dsimp only; split))

theorem State.dropHeadFrame_keeps {a : State} (s : State) (hk : Keeps a s) :
    Keeps a (State.dropHeadFrame s) := by
  unfold State.dropHeadFrame
  repeat' (first
    | with_reducible assumption | with_reducible intro _ | with_reducible apply State.fthDrop_keeps
    | fail_if_no_progress (with_reducible apply Keeps.upd) | split | (dsimp only; split))

theorem State.slotFailed_keeps {a : State} (s : State) (r index : Nat) (hk : Keeps a s) :
    Keeps a (State.slotFailed s r index) := by
  unfold State.slotFailed
  repeat' (first
    | with_reducible assumption | with_reducible intro _ | with_reducible apply State.writeCompletion_keeps
    | with_reducible apply State.refreshRing_keeps | with_reducible apply State.modRing_keeps
    | with_reducible apply State.setRingPos_keeps | with_reducible apply State.add64_keeps | with_reducible apply Keeps.ite
    | fail_if_no_progress (with_reducible apply Keeps.upd) | split)

theorem State.thresholdAction_keeps {a : State} (s : State) (k : FailKind) (hk : Keeps a s) :
    Keeps a (State.thresholdAction s k) := by
  unfold State.thresholdAction
  repeat' (first
    | with_reducible assumption | with_reducible intro _ | with_reducible apply State.engineEcc_keeps
    | with_reducible apply State.markBad_keeps | with_reducible apply State.removePath_keeps
    | with_reducible apply State.thresholdRecord_keeps | with_reducible apply State.setF_keeps | with_reducible apply Keeps.ite
    | fail_if_no_progress (with_reducible apply Keeps.upd) | split | (dsimp only; split))

theorem State.windowFault_keeps {a : State} (s : State) (k : FailKind) (hk : Keeps a s) :
    Keeps a (State.windowFault s k) := by
  unfold State.windowFault
  repeat' (first
    | with_reducible assumption | with_reducible intro _ | with_reducible apply State.thresholdAction_keeps
    | with_reducible apply State.windowClear_keeps | with_reducible apply State.windowPut_keeps | with_reducible apply Keeps.ite
    | split | (dsimp only; split))

theorem State.transientFault_keeps {a : State} (s : State) (k : FailKind) (hk : Keeps a s) :
    Keeps a (State.transientFault s k) := by
  unfold State.transientFault
  repeat' (first
    | with_reducible assumption | with_reducible intro _ | with_reducible apply State.windowFault_keeps
    | with_reducible apply State.countClass_keeps | with_reducible apply Keeps.ite | split)

theorem State.lastingFault_keeps {a : State} (s : State) (k : FailKind) (hk : Keeps a s) :
    Keeps a (State.lastingFault s k) := by
  unfold State.lastingFault
  repeat' (first
    | with_reducible assumption | with_reducible intro _ | with_reducible apply State.windowFault_keeps
    | with_reducible apply State.slotFailed_keeps | with_reducible apply State.dropHeadFrame_keeps
    | with_reducible apply State.engineEcc_keeps | with_reducible apply State.markBad_keeps
    | with_reducible apply State.overrun_keeps | with_reducible apply State.removePath_keeps
    | with_reducible apply State.countClass_keeps | with_reducible apply State.put_keeps | with_reducible apply Keeps.ite
    | fail_if_no_progress (with_reducible apply Keeps.upd) | split | (dsimp only; split))

theorem execAccessRetry_keeps {a : State} (k : FailKind) (ok : Bool) (s : State) (hk : Keeps a s) :
    OutKeeps a (execAccessRetry k ok s) := by
  unfold execAccessRetry
  repeat' (first
    | with_reducible assumption | with_reducible intro _ | with_reducible apply State.lastingFault_keeps
    | with_reducible apply State.transientFault_keeps | with_reducible apply Keeps.ite | with_reducible apply OutKeeps.next | split)

theorem execCalibrationStep_keeps {a : State} (tile : Nat) (fits late : Bool) (s : State) (hk : Keeps a s) :
    OutKeeps a (execCalibrationStep tile fits late s) := by
  unfold execCalibrationStep
  repeat' (first
    | with_reducible assumption | with_reducible intro _ | with_reducible apply State.lateFlag_keeps
    | with_reducible apply State.calTrims_keeps | with_reducible apply State.when_keeps | with_reducible apply Keeps.ite
    | with_reducible apply OutKeeps.next | split)

theorem execDpdAdaptation_keeps {a : State} (path : Nat) (late : Bool) (s : State) (hk : Keeps a s) :
    OutKeeps a (execDpdAdaptation path late s) := by
  unfold execDpdAdaptation
  repeat' (first
    | with_reducible assumption | with_reducible intro _ | with_reducible apply State.lateFlag_keeps
    | with_reducible apply State.startDpdFades_keeps | with_reducible apply State.setDpdBank_keeps
    | with_reducible apply State.when_keeps | with_reducible apply State.fresh_keeps | with_reducible apply Keeps.ite
    | with_reducible apply OutKeeps.next | split)

end Sys2Proof.Machine
end

