-- ==== Sys2Proof/Laws/KeepsCulvertTunnel.lean ====
section
/-! SUPPORT. What the operations of CulvertTunnel keep: the queue and the canonical form of the stores. -/
set_option linter.unreachableTactic false
set_option linter.unusedTactic false

namespace Sys2Proof.Machine
open Sys2Proof

theorem State.tunnelAck_keeps {a : State} (s : State) (k : Nat) (hk : Keeps a s) :
    Keeps a (State.tunnelAck s k) := by
  unfold State.tunnelAck
  repeat' (first
    | with_reducible assumption | with_reducible intro _ | with_reducible apply State.culSend_keeps | split)

theorem State.tunnelAcked_keeps {a : State} (s : State) (k seq : Nat) (hk : Keeps a s) :
    Keeps a (State.tunnelAcked s k seq) := by
  unfold State.tunnelAcked
  repeat' (first
    | with_reducible assumption | with_reducible intro _ | with_reducible apply State.modPeer_keeps
    | fail_if_no_progress (with_reducible apply Keeps.upd) | split)

theorem execTunnelResend_keeps {a : State} (member : Nat) (s : State) (hk : Keeps a s) :
    OutKeeps a (execTunnelResend member s) := by
  unfold execTunnelResend
  repeat' (first
    | with_reducible assumption | with_reducible intro _ | with_reducible apply State.setRoute_keeps
    | with_reducible apply State.modPeer_keeps | with_reducible apply State.culSend_keeps | with_reducible apply State.each_keeps
    | with_reducible apply State.add64_keeps | with_reducible apply Keeps.ite | with_reducible apply OutKeeps.next
    | fail_if_no_progress (with_reducible apply Keeps.upd) | split)

theorem State.tunnelRegister_keeps {a : State} (s : State) (k : Nat) (m : TunnelMsg) (hk : Keeps a s) :
    Keeps a (State.tunnelRegister s k m) := by
  unfold State.tunnelRegister
  repeat' (first
    | with_reducible assumption | with_reducible intro _ | with_reducible apply State.writeReg_keeps
    | with_reducible apply State.tunnelSend_keeps | with_reducible apply State.latch_keeps | with_reducible apply State.when_keeps
    | with_reducible apply Keeps.ite | split)

theorem State.registerCompletion_keeps {a : State} (s : State) (member : Nat) (m : TunnelMsg) (hk : Keeps a s) :
    Keeps a (State.registerCompletion s member m) := by
  unfold State.registerCompletion
  repeat' (first
    | with_reducible assumption | with_reducible intro _ | with_reducible apply State.complete_keeps
    | with_reducible apply State.hostWrite_keeps | with_reducible apply Keeps.ite
    | fail_if_no_progress (with_reducible apply Keeps.upd) | split | (dsimp only; split))

theorem execCulReg_keeps {a : State} (h : Hdr) (pos n addr : Nat) (s : State) (hk : Keeps a s) :
    OutKeeps a (execCulReg h pos n addr s) := by
  unfold execCulReg
  repeat' (first
    | with_reducible assumption | with_reducible intro _ | with_reducible apply State.tunnelSend_keeps
    | with_reducible apply State.acceptNow_keeps | with_reducible apply State.each_keeps | with_reducible apply Keeps.ite
    | with_reducible apply OutKeeps.next | fail_if_no_progress (with_reducible apply Keeps.upd) | split)

theorem State.memberRequest_keeps {a : State} (s : State) (k : Nat) (m : TunnelMsg) (hk : Keeps a s) :
    Keeps a (State.memberRequest s k m) := by
  unfold State.memberRequest
  repeat' (first
    | with_reducible assumption | with_reducible intro _ | with_reducible apply State.tunnelSend_keeps
    | with_reducible apply State.hostWrite_keeps | with_reducible apply Keeps.ite | split)

theorem State.tunnelledDoorbell_keeps {a : State} (s : State) (m : TunnelMsg) (hk : Keeps a s) :
    Keeps a (State.tunnelledDoorbell s m) := by
  unfold State.tunnelledDoorbell
  repeat' (first
    | with_reducible assumption | with_reducible intro _ | with_reducible apply State.doorbellWrite_keeps
    | with_reducible apply Keeps.ite | split)

theorem State.tunnelEffect_keeps {a : State} (s : State) (k : Nat) (m : TunnelMsg) (hk : Keeps a s) :
    Keeps a (State.tunnelEffect s k m) := by
  unfold State.tunnelEffect
  repeat' (first
    | with_reducible assumption | with_reducible intro _ | with_reducible apply State.tunnelledDoorbell_keeps
    | with_reducible apply State.memberRequest_keeps | with_reducible apply State.registerCompletion_keeps
    | with_reducible apply State.tunnelRegister_keeps | with_reducible apply Keeps.ite
    | fail_if_no_progress (with_reducible apply Keeps.upd) | split)

theorem execTunnelMessage_keeps {a : State} (link member : Nat) (m : TunnelMsg) (s : State) (hk : Keeps a s) :
    OutKeeps a (execTunnelMessage link member m s) := by
  unfold execTunnelMessage
  repeat' (first
    | with_reducible assumption | with_reducible intro _ | with_reducible apply State.tunnelEffect_keeps
    | with_reducible apply State.tunnelAcked_keeps | with_reducible apply State.tunnelAck_keeps
    | with_reducible apply State.modPeer_keeps | with_reducible apply State.event_keeps | with_reducible apply State.when_keeps
    | with_reducible apply Keeps.ite | with_reducible apply OutKeeps.next | fail_if_no_progress (with_reducible apply Keeps.upd)
    | split)

theorem execTunnelReadTimeout_keeps {a : State} (k : FailKind) (s : State) (hk : Keeps a s) :
    OutKeeps a (execTunnelReadTimeout k s) := by
  unfold execTunnelReadTimeout
  repeat' (first
    | with_reducible assumption | with_reducible intro _ | with_reducible apply State.lastingFault_keeps
    | with_reducible apply State.transientFault_keeps | with_reducible apply Keeps.ite | with_reducible apply OutKeeps.next | split)

theorem execLeadUnreachable_keeps {a : State} (lost : Bool) (s : State) (hk : Keeps a s) :
    OutKeeps a (execLeadUnreachable lost s) := by
  unfold execLeadUnreachable
  repeat' (first
    | with_reducible assumption | with_reducible intro _ | with_reducible apply State.hostReturns_keeps
    | with_reducible apply State.event_keeps | with_reducible apply State.setF_keeps | with_reducible apply Keeps.ite
    | with_reducible apply OutKeeps.next | fail_if_no_progress (with_reducible apply Keeps.upd) | split)

end Sys2Proof.Machine
end

