-- ==== Sys2Proof/Laws/KeepsPackage.lean ====
section
/-! SUPPORT. What the operations of Package keep: the queue and the canonical form of the stores. -/
set_option linter.unreachableTactic false
set_option linter.unusedTactic false

namespace Sys2Proof.Machine
open Sys2Proof

theorem execSmbSetOffset_keeps {a : State} (off : Nat) (pecOk : Bool) (s : State) (hk : Keeps a s) :
    OutKeeps a (execSmbSetOffset off pecOk s) := by
  unfold execSmbSetOffset
  repeat' (first
    | with_reducible assumption | with_reducible intro _ | with_reducible apply Keeps.ite | with_reducible apply OutKeeps.next
    | fail_if_no_progress (with_reducible apply Keeps.upd) | split)

theorem execSmbRead_keeps {a : State} (pecOk : Bool) (s : State) (hk : Keeps a s) :
    OutKeeps a (execSmbRead pecOk s) := by
  unfold execSmbRead
  repeat' (first
    | with_reducible assumption | with_reducible intro _ | with_reducible apply State.latch_keeps | with_reducible apply Keeps.ite
    | with_reducible apply OutKeeps.next | fail_if_no_progress (with_reducible apply Keeps.upd) | split)

theorem execSmbWrite_keeps {a : State} (off value : Nat) (pecOk : Bool) (s : State) (hk : Keeps a s) :
    OutKeeps a (execSmbWrite off value pecOk s) := by
  unfold execSmbWrite
  repeat' (first
    | with_reducible assumption | with_reducible intro _ | with_reducible apply State.writeReg_keeps
    | with_reducible apply Keeps.ite | with_reducible apply OutKeeps.next | split)

theorem execAlertResponse_keeps {a : State} (s : State) (hk : Keeps a s) :
    OutKeeps a (execAlertResponse s) := by
  unfold execAlertResponse
  repeat' (first
    | with_reducible assumption | with_reducible intro _ | with_reducible apply Keeps.ite | with_reducible apply OutKeeps.next
    | fail_if_no_progress (with_reducible apply Keeps.upd) | split)

theorem execTestEnRise_keeps {a : State} (s : State) (hk : Keeps a s) :
    OutKeeps a (execTestEnRise s) := by
  unfold execTestEnRise
  repeat' (first
    | with_reducible assumption | with_reducible intro _ | with_reducible apply State.restart_keeps
    | with_reducible apply OutKeeps.next | fail_if_no_progress (with_reducible apply Keeps.upd) | split)

theorem State.setIr_keeps {a : State} (s : State) (ir : JtagIr) (bits : List Bool) (hk : Keeps a s) :
    Keeps a (State.setIr s ir bits) := by
  unfold State.setIr
  repeat' (first
    | with_reducible assumption | with_reducible intro _ | fail_if_no_progress (with_reducible apply Keeps.upd) | split)

theorem State.tapBypass_keeps {a : State} (s : State) (hk : Keeps a s) :
    Keeps a (State.tapBypass s) := by
  unfold State.tapBypass
  repeat' (first
    | with_reducible assumption | with_reducible intro _ | with_reducible apply State.setIr_keeps | split)

theorem State.tapTest_keeps {a : State} (s : State) (ir : JtagIr) (sample : Bool) (hk : Keeps a s) :
    Keeps a (State.tapTest s ir sample) := by
  unfold State.tapTest
  repeat' (first
    | with_reducible assumption | with_reducible intro _ | with_reducible apply State.tapBypass_keeps
    | with_reducible apply State.setIr_keeps | with_reducible apply State.fresh_keeps | with_reducible apply Keeps.ite | split)

theorem execBypass_keeps {a : State} (s : State) (hk : Keeps a s) :
    OutKeeps a (execBypass s) := by
  unfold execBypass
  repeat' (first
    | with_reducible assumption | with_reducible intro _ | with_reducible apply State.tapBypass_keeps
    | with_reducible apply OutKeeps.next | split)

theorem execIdcode_keeps {a : State} (s : State) (hk : Keeps a s) :
    OutKeeps a (execIdcode s) := by
  unfold execIdcode
  repeat' (first
    | with_reducible assumption | with_reducible intro _ | with_reducible apply State.setIr_keeps
    | with_reducible apply OutKeeps.next | split)

theorem execSamplePreload_keeps {a : State} (data : List Bool) (s : State) (hk : Keeps a s) :
    OutKeeps a (execSamplePreload data s) := by
  unfold execSamplePreload
  repeat' (first
    | with_reducible assumption | with_reducible intro _ | with_reducible apply State.setIr_keeps
    | with_reducible apply State.fresh_keeps | with_reducible apply OutKeeps.next
    | fail_if_no_progress (with_reducible apply Keeps.upd) | split)

theorem execExtest_keeps {a : State} (s : State) (hk : Keeps a s) :
    OutKeeps a (execExtest s) := by
  unfold execExtest
  repeat' (first
    | with_reducible assumption | with_reducible intro _ | with_reducible apply State.tapTest_keeps
    | with_reducible apply OutKeeps.next | split)

theorem execExtestPulse_keeps {a : State} (s : State) (hk : Keeps a s) :
    OutKeeps a (execExtestPulse s) := by
  unfold execExtestPulse
  repeat' (first
    | with_reducible assumption | with_reducible intro _ | with_reducible apply State.tapTest_keeps
    | with_reducible apply OutKeeps.next | split)

theorem execExtestTrain_keeps {a : State} (s : State) (hk : Keeps a s) :
    OutKeeps a (execExtestTrain s) := by
  unfold execExtestTrain
  repeat' (first
    | with_reducible assumption | with_reducible intro _ | with_reducible apply State.tapTest_keeps
    | with_reducible apply OutKeeps.next | split)

theorem execClamp_keeps {a : State} (s : State) (hk : Keeps a s) :
    OutKeeps a (execClamp s) := by
  unfold execClamp
  repeat' (first
    | with_reducible assumption | with_reducible intro _ | with_reducible apply State.tapTest_keeps
    | with_reducible apply OutKeeps.next | split)

theorem execHighz_keeps {a : State} (s : State) (hk : Keeps a s) :
    OutKeeps a (execHighz s) := by
  unfold execHighz
  repeat' (first
    | with_reducible assumption | with_reducible intro _ | with_reducible apply State.tapTest_keeps
    | with_reducible apply OutKeeps.next | split)

end Sys2Proof.Machine
end

