-- ==== Sys2Proof/Laws/KeepsRings.lean ====
section
/-! SUPPORT. What the operations of Rings keep: the queue and the canonical form of the stores. -/
set_option linter.unreachableTactic false
set_option linter.unusedTactic false

namespace Sys2Proof.Machine
open Sys2Proof

theorem execNop_keeps {a : State} (h : Hdr) (s : State) (hk : Keeps a s) :
    OutKeeps a (execNop h s) := by
  unfold execNop
  repeat' (first
    | with_reducible assumption | with_reducible intro _ | with_reducible apply State.acceptNow_keeps
    | with_reducible apply State.complete_keeps | with_reducible apply OutKeeps.next | split)

theorem execNow_keeps {a : State} (h : Hdr) (s : State) (hk : Keeps a s) :
    OutKeeps a (execNow h s) := by
  unfold execNow
  repeat' (first
    | with_reducible assumption | with_reducible intro _ | with_reducible apply State.acceptNow_keeps
    | with_reducible apply State.completeR_keeps | with_reducible apply OutKeeps.next | split)

theorem execProfile_keeps {a : State} (h : Hdr) (p : Nat) (s : State) (hk : Keeps a s) :
    OutKeeps a (execProfile h p s) := by
  unfold execProfile
  repeat' (first
    | with_reducible assumption | with_reducible intro _ | with_reducible apply State.acceptNow_keeps
    | with_reducible apply OutKeeps.next | fail_if_no_progress (with_reducible apply Keeps.upd) | split)

theorem runCmd_keeps {a : State} (h : Hdr) (c : Cmd) (s : State) (hk : Keeps a s) :
    OutKeeps a (runCmd h c s) := by
  unfold runCmd
  repeat' (first
    | with_reducible assumption | with_reducible intro _ | with_reducible apply execProfile_keeps
    | with_reducible apply execNow_keeps | with_reducible apply execNop_keeps | with_reducible apply execCulReg_keeps
    | with_reducible apply execEngKernel_keeps | with_reducible apply execEngMode_keeps | with_reducible apply execPathRestore_keeps
    | with_reducible apply execLogRead_keeps | with_reducible apply execTelSetup_keeps | with_reducible apply execFltDumpFetch_keeps
    | with_reducible apply execFltDumpRegion_keeps | with_reducible apply execFltDumpTest_keeps
    | with_reducible apply execTileState_keeps | with_reducible apply execPwrState_keeps | with_reducible apply execGauMask_keeps
    | with_reducible apply execGauForce_keeps | with_reducible apply execGauStop_keeps | with_reducible apply execGauArm_keeps
    | with_reducible apply execGauStream_keeps | with_reducible apply execSeaRetire_keeps | with_reducible apply execSeaCak_keeps
    | with_reducible apply execSeaEnrol_keeps | with_reducible apply execSeaCommit_keeps | with_reducible apply execSeaSetId_keeps
    | with_reducible apply execSeaAttest_keeps | with_reducible apply execSeaIdentity_keeps | with_reducible apply execSluStop_keeps
    | with_reducible apply execSluChain_keeps | with_reducible apply execOtaCal_keeps | with_reducible apply execTimeEpoch_keeps
    | with_reducible apply execTimeStep_keeps | with_reducible apply execCulEyescan_keeps | with_reducible apply execCulSleep_keeps
    | with_reducible apply execCoopSet_keeps | with_reducible apply execFhCarrier_keeps | with_reducible apply execMsecRekey_keeps
    | with_reducible apply execFhOwdm_keeps | with_reducible apply execLineTest_keeps | with_reducible apply execLineSnapshot_keeps
    | with_reducible apply execLineRestart_keeps | with_reducible apply execLineMode_keeps
    | with_reducible apply execLineRmute_keeps | with_reducible apply execHkaInject_keeps | with_reducible apply execFoReport_keeps
    | with_reducible apply execAcdOccasion_keeps | with_reducible apply execCovSetup_keeps | with_reducible apply execBeamSwap_keeps
    | with_reducible apply execBeamLoad_keeps | with_reducible apply execBfLayers_keeps | with_reducible apply execAerial_keeps
    | with_reducible apply execRffeXfer_keeps | with_reducible apply execRctPattern_keeps | with_reducible apply execSynRecal_keeps
    | with_reducible apply execLeveeUnmute_keeps | with_reducible apply execLeveeCert_keeps | with_reducible apply execRxSync_keeps
    | with_reducible apply execRxExtract_keeps | with_reducible apply execRxCarrier_keeps | with_reducible apply execDdsTone_keeps
    | with_reducible apply execBiasSet_keeps | with_reducible apply execDpdSwap_keeps | with_reducible apply execDpdLoad_keeps
    | with_reducible apply execTxTile_keeps | with_reducible apply execTxCarrier_keeps | with_reducible apply OutKeeps.next
    | fail_if_no_progress (with_reducible apply Keeps.upd) | split | (dsimp only; split))

theorem State.after_keeps {a : State} (s : State) (o : Host.Outcome State Fault Refusal) (hk : Keeps a s) (ho : OutKeeps a o) :
    Keeps a (State.after s o) := by
  unfold State.after
  split
  · exact ho _ rfl
  · exact hk

theorem State.consumeSlot_keeps {a : State} (s : State) (r : Nat) (hk : Keeps a s) :
    Keeps a (State.consumeSlot s r) := by
  unfold State.consumeSlot
  repeat' (first
    | with_reducible assumption | with_reducible intro _ | with_reducible apply State.modRing_keeps
    | with_reducible apply State.setRingPos_keeps | with_reducible apply State.add64_keeps
    | fail_if_no_progress (with_reducible apply Keeps.upd) | split)

theorem State.reserveSlot_keeps {a : State} (s : State) (r tag : Nat) (hk : Keeps a s) :
    Keeps a (State.reserveSlot s r tag) := by
  unfold State.reserveSlot
  repeat' (first
    | with_reducible assumption | with_reducible intro _ | with_reducible apply State.modRing_keeps
    | fail_if_no_progress (with_reducible apply Keeps.upd) | split)

theorem State.takeDescriptor_keeps {a : State} (s : State) (r : Nat) (d : List Nat) (hk : Keeps a s) :
    Keeps a (State.takeDescriptor s r d) := by
  unfold State.takeDescriptor
  repeat' (first
    | with_reducible assumption | with_reducible intro _ | with_reducible apply State.reserveSlot_keeps
    | with_reducible apply State.consumeSlot_keeps | with_reducible apply State.after_keeps | with_reducible apply runCmd_keeps
    | with_reducible apply State.complete_keeps | with_reducible apply State.refreshRing_keeps | with_reducible apply Keeps.ite
    | fail_if_no_progress (with_reducible apply Keeps.upd) | split | (dsimp only; split))

theorem State.phaseMiss_keeps {a : State} (s : State) (r : Nat) (hk : Keeps a s) :
    Keeps a (State.phaseMiss s r) := by
  unfold State.phaseMiss
  repeat' (first
    | with_reducible assumption | with_reducible intro _ | with_reducible apply State.modRing_keeps
    | fail_if_no_progress (with_reducible apply Keeps.upd) | split)

theorem State.fetchRing_keeps {a : State} (n : Nat) (s : State) (r : Nat) (hk : Keeps a s) : Keeps a (State.fetchRing n s r) := by
  induction n generalizing s with
  | zero => exact hk
  | succ n ih =>
    unfold State.fetchRing
    repeat' (first
      | with_reducible assumption | with_reducible apply ih | with_reducible apply State.takeDescriptor_keeps
      | with_reducible apply State.phaseMiss_keeps | with_reducible apply Keeps.ite)

theorem State.grantFetch_keeps {a : State} (s : State) (r : Nat) (hk : Keeps a s) : Keeps a (State.grantFetch s r) := by
  unfold State.grantFetch
  with_reducible apply Keeps.upd <;> assumption

theorem execDescriptorFetch_keeps {a : State} (ring : Nat) (s : State) (hk : Keeps a s) :
    OutKeeps a (execDescriptorFetch ring s) := by
  unfold execDescriptorFetch
  repeat' (first
    | with_reducible assumption | with_reducible intro _ | with_reducible apply State.fetchRing_keeps
    | with_reducible apply State.grantFetch_keeps | with_reducible apply Keeps.ite | with_reducible apply OutKeeps.next | split)

theorem State.staleDescriptor_keeps {a : State} (s : State) (r : Nat) (hk : Keeps a s) :
    Keeps a (State.staleDescriptor s r) := by
  unfold State.staleDescriptor
  repeat' (first
    | with_reducible assumption | with_reducible intro _ | with_reducible apply State.consumeSlot_keeps
    | with_reducible apply State.writeCompletion_keeps | with_reducible apply State.setRingState_keeps
    | with_reducible apply State.event_keeps | with_reducible apply State.setF_keeps | split)

theorem execPhaseReread_keeps {a : State} (ring : Nat) (s : State) (hk : Keeps a s) :
    OutKeeps a (execPhaseReread ring s) := by
  unfold execPhaseReread
  repeat' (first
    | with_reducible assumption | with_reducible intro _ | with_reducible apply State.staleDescriptor_keeps
    | with_reducible apply State.phaseMiss_keeps | with_reducible apply State.takeDescriptor_keeps
    | with_reducible apply State.modRing_keeps | with_reducible apply Keeps.ite | with_reducible apply OutKeeps.next
    | fail_if_no_progress (with_reducible apply Keeps.upd) | split)

theorem State.planHeld_keeps {a : State} (s : State) (i : Held) (hk : Keeps a s) :
    Keeps a (State.planHeld s i) := by
  unfold State.planHeld
  repeat' (first
    | with_reducible assumption | with_reducible intro _ | with_reducible apply State.fhPlan_keeps
    | with_reducible apply State.acdPlan_keeps | with_reducible apply State.covPlan_keeps | with_reducible apply State.bfPlan_keeps
    | with_reducible apply State.patternPlan_keeps | with_reducible apply State.rxExtractPlan_keeps
    | with_reducible apply State.rxCarrierPlan_keeps | with_reducible apply State.ddsPlan_keeps
    | with_reducible apply State.txTilePlan_keeps | with_reducible apply State.txCarrierPlan_keeps
    | fail_if_no_progress (with_reducible apply Keeps.upd) | split | (dsimp only; split))

theorem State.planBefore_keeps {a : State} (s : State) (i : Held) (hk : Keeps a s) :
    Keeps a (State.planBefore s i) := by
  unfold State.planBefore
  repeat' (first
    | with_reducible assumption | with_reducible intro _ | with_reducible apply State.planHeld_keeps
    | with_reducible apply Keeps.foldl | with_reducible apply Keeps.foldl1 | with_reducible apply Keeps.foldl2 | split)

theorem State.withTiles_keeps {a : State} (s : State) (l : List Nat) (hk : Keeps a s) :
    Keeps a (State.withTiles s l) := by
  unfold State.withTiles
  repeat' (first
    | with_reducible assumption | with_reducible intro _ | with_reducible apply State.each_keeps
    | with_reducible apply State.put_keeps | split)

theorem State.unhold_keeps {a : State} (s : State) (i : Held) (hk : Keeps a s) :
    Keeps a (State.unhold s i) := by
  unfold State.unhold
  repeat' (first
    | with_reducible assumption | with_reducible intro _ | with_reducible apply State.put_keeps
    | fail_if_no_progress (with_reducible apply Keeps.upd) | split)

theorem State.markChecked_keeps {a : State} (s : State) (i : Held) (hk : Keeps a s) :
    Keeps a (State.markChecked s i) := by
  unfold State.markChecked
  repeat' (first
    | with_reducible assumption | with_reducible intro _ | with_reducible apply Keeps.ite
    | fail_if_no_progress (with_reducible apply Keeps.upd) | split)

theorem State.failHeld_keeps {a : State} (s : State) (i : Held) (st : Nat) (hk : Keeps a s) :
    Keeps a (State.failHeld s i st) := by
  unfold State.failHeld
  repeat' (first
    | with_reducible assumption | with_reducible intro _ | with_reducible apply State.unhold_keeps
    | with_reducible apply State.ungateTile_keeps | with_reducible apply State.complete_keeps
    | with_reducible apply State.each_keeps | fail_if_no_progress (with_reducible apply Keeps.upd) | split | (dsimp only; split))

theorem State.passHeld_keeps {a : State} (s : State) (i : Held) (hk : Keeps a s) :
    Keeps a (State.passHeld s i) := by
  unfold State.passHeld
  repeat' (first
    | with_reducible assumption | with_reducible intro _ | with_reducible apply State.markChecked_keeps
    | with_reducible apply State.coopWake_keeps | with_reducible apply State.beginTransition_keeps
    | fail_if_no_progress (with_reducible apply Keeps.upd) | split | (dsimp only; split))

theorem State.checkHeld_keeps {a : State} (s : State) (i : Held) (hk : Keeps a s) :
    Keeps a (State.checkHeld s i) := by
  unfold State.checkHeld
  repeat' (first
    | with_reducible assumption | with_reducible intro _ | with_reducible apply State.passHeld_keeps
    | with_reducible apply State.failHeld_keeps | with_reducible apply State.unhold_keeps
    | with_reducible apply State.planBefore_keeps | with_reducible apply State.holdBeamSwap_keeps
    | fail_if_no_progress (with_reducible apply Keeps.upd) | split | (dsimp only; split))

theorem State.checkTimed_keeps {a : State} (s : State) (hk : Keeps a s) :
    Keeps a (State.checkTimed s) := by
  unfold State.checkTimed
  repeat' (first
    | with_reducible assumption | with_reducible intro _ | with_reducible apply State.checkHeld_keeps
    | with_reducible apply State.each_keeps | split)

theorem execTimedCheck_keeps {a : State} (s : State) (hk : Keeps a s) :
    OutKeeps a (execTimedCheck s) := by
  unfold execTimedCheck
  repeat' (first
    | with_reducible assumption | with_reducible intro _ | with_reducible apply State.checkTimed_keeps
    | with_reducible apply OutKeeps.next | split)

theorem State.applyHeld_keeps {a : State} (s : State) (i : Held) (hk : Keeps a s) :
    Keeps a (State.applyHeld s i) := by
  unfold State.applyHeld
  repeat' (first
    | with_reducible assumption | with_reducible intro _ | with_reducible apply State.unhold_keeps
    | with_reducible apply State.applyTileState_keeps | with_reducible apply State.applyOtaCal_keeps
    | with_reducible apply State.applyCoopSet_keeps | with_reducible apply State.applyFhCarrier_keeps
    | with_reducible apply State.applyFo_keeps | with_reducible apply State.applyAcd_keeps
    | with_reducible apply State.applyCovSetup_keeps | with_reducible apply State.applyBeamSwap_keeps
    | with_reducible apply State.applyBfLayers_keeps | with_reducible apply State.applyRffe_keeps
    | with_reducible apply State.applyRctPattern_keeps | with_reducible apply State.applySynRecal_keeps
    | with_reducible apply State.applyRxSync_keeps | with_reducible apply State.applyRxExtract_keeps
    | with_reducible apply State.applyRxCarrier_keeps | with_reducible apply State.applyDdsTone_keeps
    | with_reducible apply State.applyBiasSet_keeps | with_reducible apply State.applyDpdSwap_keeps
    | with_reducible apply State.applyTxTile_keeps | with_reducible apply State.applyTxCarrier_keeps
    | fail_if_no_progress (with_reducible apply Keeps.upd) | split | (dsimp only; split))

theorem State.applyTimed_keeps {a : State} (s : State) (hk : Keeps a s) :
    Keeps a (State.applyTimed s) := by
  unfold State.applyTimed
  repeat' (first
    | with_reducible assumption | with_reducible intro _ | with_reducible apply State.applyHeld_keeps
    | with_reducible apply State.each_keeps | split)

theorem execTimedApply_keeps {a : State} (s : State) (hk : Keeps a s) :
    OutKeeps a (execTimedApply s) := by
  unfold execTimedApply
  repeat' (first
    | with_reducible assumption | with_reducible intro _ | with_reducible apply State.applyTimed_keeps
    | with_reducible apply State.checkTimed_keeps | with_reducible apply OutKeeps.next | split)

theorem State.applyProfile_keeps {a : State} (s : State) (e : Hdr × Nat × Int) (hk : Keeps a s) :
    Keeps a (State.applyProfile s e) := by
  unfold State.applyProfile
  repeat' (first
    | with_reducible assumption | with_reducible intro _ | with_reducible apply State.planHeld_keeps
    | with_reducible apply State.refreshPlan_keeps | with_reducible apply State.completeR_keeps
    | with_reducible apply State.complete_keeps | with_reducible apply State.put_keeps | with_reducible apply Keeps.foldl
    | with_reducible apply Keeps.foldl1 | with_reducible apply Keeps.foldl2 | with_reducible apply Keeps.ite | split)

theorem execProfileApply_keeps {a : State} (s : State) (hk : Keeps a s) :
    OutKeeps a (execProfileApply s) := by
  unfold execProfileApply
  repeat' (first
    | with_reducible assumption | with_reducible intro _ | with_reducible apply State.applyProfile_keeps
    | with_reducible apply State.each_keeps | with_reducible apply OutKeeps.next
    | fail_if_no_progress (with_reducible apply Keeps.upd) | split)

end Sys2Proof.Machine
end

