-- ==== Sys2Proof/Laws/KeepsFlags.lean ====
section
/-! SUPPORT. What the operations of Flags keep: the queue and the canonical form of the stores. -/
set_option linter.unreachableTactic false
set_option linter.unusedTactic false

namespace Sys2Proof.Machine
open Sys2Proof

theorem State.setFlags_keeps {a : State} (s : State) (off lsb n mask : Nat) (hk : Keeps a s) :
    Keeps a (State.setFlags s off lsb n mask) := by
  unfold State.setFlags
  repeat' (first
    | with_reducible assumption | with_reducible intro _ | with_reducible apply State.wr_keeps | split)

theorem State.txSaturation_keeps {a : State} (s : State) (n mask count : Nat) (hk : Keeps a s) :
    Keeps a (State.txSaturation s n mask count) := by
  unfold State.txSaturation
  repeat' (first
    | with_reducible assumption | with_reducible intro _ | with_reducible apply State.setFlags_keeps
    | fail_if_no_progress (with_reducible apply Keeps.upd) | split)

theorem State.rxSaturation_keeps {a : State} (s : State) (n mask count : Nat) (hk : Keeps a s) :
    Keeps a (State.rxSaturation s n mask count) := by
  unfold State.rxSaturation
  repeat' (first
    | with_reducible assumption | with_reducible intro _ | with_reducible apply State.setFlags_keeps
    | fail_if_no_progress (with_reducible apply Keeps.upd) | split)

theorem State.arraySaturation_keeps {a : State} (s : State) (dl ul : Bool) (hk : Keeps a s) :
    Keeps a (State.arraySaturation s dl ul) := by
  unfold State.arraySaturation
  repeat' (first
    | with_reducible assumption | with_reducible intro _ | with_reducible apply State.when_keeps
    | with_reducible apply State.setF_keeps | split)

theorem State.takeSlack_keeps {a : State} (s : State) (slack : Nat) (hk : Keeps a s) :
    Keeps a (State.takeSlack s slack) := by
  unfold State.takeSlack
  repeat' (first
    | with_reducible assumption | with_reducible intro _ | with_reducible apply State.put_keeps
    | fail_if_no_progress (with_reducible apply Keeps.upd) | split)

end Sys2Proof.Machine
end

