-- ==== Sys2Proof/Laws/KeepsTick.lean ====
section
/-! SUPPORT. What the operations of Tick keep: the queue and the canonical form of the stores. -/
set_option linter.unreachableTactic false
set_option linter.unusedTactic false

namespace Sys2Proof.Machine
open Sys2Proof

theorem State.occasionFlags_keeps {a : State} (s : State) (t : TickPast) (hk : Keeps a s) :
    Keeps a (State.occasionFlags s t) := by
  unfold State.occasionFlags
  repeat' (first
    | with_reducible assumption | with_reducible intro _ | with_reducible apply Keeps.ite
    | fail_if_no_progress (with_reducible apply Keeps.upd) | split | (dsimp only; split))

theorem State.endTick_keeps {a : State} (s : State) (o : TickObs) (hk : Keeps a s) :
    Keeps a (State.endTick s o) := by
  unfold State.endTick
  repeat' (first
    | with_reducible assumption | with_reducible intro _ | with_reducible apply State.occasionFlags_keeps
    | with_reducible apply State.takeSlack_keeps | with_reducible apply State.leveeMeter_keeps
    | fail_if_no_progress (with_reducible apply Keeps.upd) | split)

theorem State.patternsNow_keeps {a : State} (s : State) (hk : Keeps a s) :
    Keeps a (State.patternsNow s) := by
  unfold State.patternsNow
  repeat' (first
    | with_reducible assumption | with_reducible intro _ | with_reducible apply State.patternPlan_keeps
    | with_reducible apply State.each_keeps | with_reducible apply Keeps.ite | fail_if_no_progress (with_reducible apply Keeps.upd)
    | split | (dsimp only; split))

theorem State.blankTile_keeps {a : State} (s : State) (n reason : Nat) (hk : Keeps a s) :
    Keeps a (State.blankTile s n reason) := by
  unfold State.blankTile
  repeat' (first
    | with_reducible assumption | with_reducible intro _ | with_reducible apply State.modCoex_keeps
    | with_reducible apply State.countBlank_keeps | with_reducible apply State.setTileState_keeps
    | with_reducible apply State.when_keeps | with_reducible apply State.each_keeps | with_reducible apply Keeps.ite
    | fail_if_no_progress (with_reducible apply Keeps.upd) | split)

theorem State.sendTile_keeps {a : State} (s : State) (n len : Nat) (hk : Keeps a s) :
    Keeps a (State.sendTile s n len) := by
  unfold State.sendTile
  repeat' (first
    | with_reducible assumption | with_reducible intro _ | with_reducible apply State.countBlank_keeps
    | with_reducible apply State.setTileState_keeps | with_reducible apply State.when_keeps
    | fail_if_no_progress (with_reducible apply Keeps.upd) | split)

theorem State.tileSymbol_keeps {a : State} (s : State) (n code len : Nat) (hk : Keeps a s) :
    Keeps a (State.tileSymbol s n code len) := by
  unfold State.tileSymbol
  repeat' (first
    | with_reducible assumption | with_reducible intro _ | with_reducible apply State.sendTile_keeps
    | with_reducible apply State.blankTile_keeps | with_reducible apply State.setTileState_keeps | with_reducible apply Keeps.ite
    | fail_if_no_progress (with_reducible apply Keeps.upd) | split | (dsimp only; split))

theorem State.frameDuty_keeps {a : State} (s : State) (hk : Keeps a s) :
    Keeps a (State.frameDuty s) := by
  unfold State.frameDuty
  repeat' (first
    | with_reducible assumption | with_reducible intro _ | with_reducible apply State.withhold_keeps
    | with_reducible apply State.each_keeps | with_reducible apply Keeps.ite | fail_if_no_progress (with_reducible apply Keeps.upd)
    | split)

theorem State.tileSymbols_keeps {a : State} (s : State) (hk : Keeps a s) :
    Keeps a (State.tileSymbols s) := by
  unfold State.tileSymbols
  repeat' (first
    | with_reducible assumption | with_reducible intro _ | with_reducible apply State.frameDuty_keeps
    | with_reducible apply State.tileSymbol_keeps | with_reducible apply State.patternsNow_keeps
    | with_reducible apply State.coexBurstEnd_keeps | with_reducible apply State.coexTick_keeps
    | with_reducible apply State.each_keeps | fail_if_no_progress (with_reducible apply Keeps.upd) | split)

theorem State.tickTriggers_keeps {a : State} (s : State) (hk : Keeps a s) :
    Keeps a (State.tickTriggers s) := by
  unfold State.tickTriggers
  repeat' (first
    | with_reducible assumption | with_reducible intro _ | with_reducible apply State.patternsNow_keeps
    | with_reducible apply State.hkaFrameEvents_keeps | split)

theorem State.missSection_keeps {a : State} (s : State) (c : FhSection) (hk : Keeps a s) :
    Keeps a (State.missSection s c) := by
  unfold State.missSection
  repeat' (first
    | with_reducible assumption | with_reducible intro _ | with_reducible apply State.countMiss_keeps
    | with_reducible apply Keeps.ite | fail_if_no_progress (with_reducible apply Keeps.upd) | split)

theorem State.fetchWeights_keeps {a : State} (s : State) (uplink : Bool) (hk : Keeps a s) :
    Keeps a (State.fetchWeights s uplink) := by
  unfold State.fetchWeights
  repeat' (first
    | with_reducible assumption | with_reducible intro _ | with_reducible apply State.missSection_keeps
    | with_reducible apply State.when_keeps | with_reducible apply State.each_keeps | with_reducible apply State.setF_keeps
    | with_reducible apply Keeps.ite | fail_if_no_progress (with_reducible apply Keeps.upd) | split)

theorem State.soundingSymbol_keeps {a : State} (s : State) (v : CovSet) (span : Nat) (tick : Int) (obs : List CovObs)
    (hk : Keeps a s) :
    Keeps a (State.soundingSymbol s v span tick obs) := by
  unfold State.soundingSymbol
  repeat' (first
    | with_reducible assumption | with_reducible intro _ | with_reducible apply Keeps.foldl | with_reducible apply Keeps.foldl1
    | with_reducible apply Keeps.foldl2 | with_reducible apply Keeps.ite | fail_if_no_progress (with_reducible apply Keeps.upd)
    | split | (dsimp only; split))

theorem State.accumulate_keeps {a : State} (s : State) (obs : List CovObs) (hk : Keeps a s) :
    Keeps a (State.accumulate s obs) := by
  unfold State.accumulate
  repeat' (first
    | with_reducible assumption | with_reducible intro _ | with_reducible apply State.soundingSymbol_keeps
    | with_reducible apply State.each_keeps | with_reducible apply Keeps.ite | fail_if_no_progress (with_reducible apply Keeps.upd)
    | split | (dsimp only; split))

theorem State.countTaint_keeps {a : State} (s : State) (n : Nat) (hk : Keeps a s) :
    Keeps a (State.countTaint s n) := by
  unfold State.countTaint
  repeat' (first
    | with_reducible assumption | with_reducible intro _ | with_reducible apply State.when_keeps
    | with_reducible apply State.add64_keeps | with_reducible apply Keeps.ite | split)

theorem State.putExtract_keeps {a : State} (s : State) (n k : Nat) (e : ExtractEntry) (rec : List Nat) (hk : Keeps a s) :
    Keeps a (State.putExtract s n k e rec) := by
  unfold State.putExtract
  repeat' (first
    | with_reducible assumption | with_reducible intro _ | with_reducible apply State.devWrite_keeps
    | with_reducible apply State.fresh_keeps | with_reducible apply State.setF_keeps | with_reducible apply Keeps.ite
    | fail_if_no_progress (with_reducible apply Keeps.upd) | split)

theorem State.extractEntry_keeps {a : State} (s : State) (key : Nat) (e : ExtractEntry) (data : List Nat) (hk : Keeps a s) :
    Keeps a (State.extractEntry s key e data) := by
  unfold State.extractEntry
  repeat' (first
    | with_reducible assumption | with_reducible intro _ | with_reducible apply State.putExtract_keeps
    | with_reducible apply Keeps.ite | fail_if_no_progress (with_reducible apply Keeps.upd) | split | (dsimp only; split))

theorem State.extractions_keeps {a : State} (s : State) (obs : List (Nat × List Nat)) (hk : Keeps a s) :
    Keeps a (State.extractions s obs) := by
  unfold State.extractions
  repeat' (first
    | with_reducible assumption | with_reducible intro _ | with_reducible apply State.extractEntry_keeps
    | with_reducible apply State.each_keeps | fail_if_no_progress (with_reducible apply Keeps.upd) | split | (dsimp only; split))

theorem State.startOccasion_keeps {a : State} (s : State) (c : AcdCmd) (f : Int) (k t : Nat) (hk : Keeps a s) :
    Keeps a (State.startOccasion s c f k t) := by
  unfold State.startOccasion
  repeat' (first
    | with_reducible assumption | with_reducible intro _ | fail_if_no_progress (with_reducible apply Keeps.upd) | split)

theorem State.occasionTick_keeps {a : State} (s : State) (hk : Keeps a s) :
    Keeps a (State.occasionTick s) := by
  unfold State.occasionTick
  repeat' (first
    | with_reducible assumption | with_reducible intro _ | with_reducible apply State.startOccasion_keeps
    | with_reducible apply State.occasionAirEnd_keeps | with_reducible apply State.each_keeps | with_reducible apply Keeps.ite
    | split)

theorem State.ncoTick_keeps {a : State} (s : State) (hk : Keeps a s) :
    Keeps a (State.ncoTick s) := by
  unfold State.ncoTick
  repeat' (first
    | with_reducible assumption | with_reducible intro _ | with_reducible apply Keeps.ite
    | fail_if_no_progress (with_reducible apply Keeps.upd) | split)

theorem State.saturations_keeps {a : State} (s : State) (o : TickObs) (hk : Keeps a s) :
    Keeps a (State.saturations s o) := by
  unfold State.saturations
  repeat' (first
    | with_reducible assumption | with_reducible intro _ | with_reducible apply State.arraySaturation_keeps
    | with_reducible apply State.rxSaturation_keeps | with_reducible apply State.txSaturation_keeps
    | with_reducible apply State.each_keeps | split)

theorem State.fronthaulTick_keeps {a : State} (s : State) (o : TickObs) (hk : Keeps a s) :
    Keeps a (State.fronthaulTick s o) := by
  unfold State.fronthaulTick
  repeat' (first
    | with_reducible assumption | with_reducible intro _ | with_reducible apply State.takeContributions_keeps
    | with_reducible apply State.uplaneEgress_keeps | with_reducible apply State.flushEarly_keeps
    | with_reducible apply State.closeWindows_keeps | with_reducible apply State.fhDrain_keeps | with_reducible apply Keeps.ite
    | split)

theorem State.tickWork_keeps {a : State} (s : State) (o : TickObs) (hk : Keeps a s) :
    Keeps a (State.tickWork s o) := by
  unfold State.tickWork
  repeat' (first
    | with_reducible assumption | with_reducible intro _ | with_reducible apply State.fronthaulTick_keeps
    | with_reducible apply State.saturations_keeps | with_reducible apply State.ncoTick_keeps
    | with_reducible apply State.occasionTick_keeps | with_reducible apply State.extractions_keeps
    | with_reducible apply State.countTaint_keeps | with_reducible apply State.accumulate_keeps
    | with_reducible apply State.fetchWeights_keeps | with_reducible apply State.tickTriggers_keeps
    | with_reducible apply State.tileSymbols_keeps | with_reducible apply State.overrun_keeps
    | with_reducible apply State.when_keeps | with_reducible apply State.each_keeps
    | fail_if_no_progress (with_reducible apply Keeps.upd) | split)

theorem execSymbolTick_keeps {a : State} (o : TickObs) (s : State) (hk : Keeps a s) :
    OutKeeps a (execSymbolTick o s) := by
  unfold execSymbolTick
  repeat' (first
    | with_reducible assumption | with_reducible intro _ | with_reducible apply State.tickWork_keeps
    | with_reducible apply State.endTick_keeps | with_reducible apply Keeps.ite | with_reducible apply OutKeeps.next
    | fail_if_no_progress (with_reducible apply Keeps.upd) | split)

end Sys2Proof.Machine
end

