-- ==== Sys2Proof/Laws/Reset.lean ====
section
/-! SUPPORT. The state after reset: its stores are canonical, and each register reads as `resetWords` lists it. -/
namespace Sys2Proof.Machine
open Sys2Proof

/-- What a store holds after a list of writes: the last word written at the address. -/
theorem Sparse.read_foldl_write {w : Nat} (l : List (Nat × Nat)) (m : Sparse w) (h : m.wf = true) (a : Nat) :
    Sparse.read (l.foldl (fun m p => Sparse.write m p.1 (BitVec.ofNat w p.2)) m) a =
      ((l.reverse.find? fun p => p.1 == a).map fun p => BitVec.ofNat w p.2).getD (Sparse.read m a) := by
  induction l generalizing m with
  | nil => rfl
  | cons p l ih =>
    rw [List.foldl_cons, ih _ (Sparse.write_wf _ _ h), Sparse.read_write h, List.reverse_cons, List.find?_append]
    cases e : l.reverse.find? fun p => p.1 == a with
    | some q => rfl
    | none =>
      by_cases h : a = p.1
      · subst h; simp [List.find?_cons]
      · have : (p.1 == a) = false := by simp [Ne.symm h]
        simp [List.find?_cons, this, h]

theorem State.reset_stored : State.reset.stored := by
  unfold State.stored State.reset
  dsimp only
  exact And.intro resetRegs_wf (And.intro rfl rfl)

/-- A register after reset: the word `resetWords` lists for it, or zero. -/
theorem State.reset_rd (a : Nat) : State.reset.rd a = ((resetWords.reverse.find? fun p => p.1 == a).map fun p => p.2 % 2 ^ 32).getD 0 := by
  unfold State.rd State.reset resetRegs
  dsimp only
  rw [Sparse.read_foldl_write _ _ rfl]
  cases resetWords.reverse.find? (fun p => p.1 == a) with
  | none => rfl
  | some p => simp only [Option.map_some, Option.getD_some, BitVec.toNat_ofNat]

end Sys2Proof.Machine
end

