-- ==== Sys2Proof/Laws/State.lean ====
section
/-! SUPPORT. What each update of the state leaves alone, field by field, and what its own part then is. -/
namespace Sys2Proof.Machine
open Sys2Proof

/-! ## The part an update changes -/

@[simp] theorem State.ring_modRing (s : State) (n : Nat) (f : RingState → RingState) (m : Nat) :
    (s.modRing n f).ring m = if m = n then f (s.ring n) else s.ring m := by
  simp only [State.ring, State.modRing, Tab.getD, Tab.get?_set]; split <;> rfl
@[simp] theorem State.strobes_modStrobes (s : State) (n : Nat) (f : Strobes → Strobes) (m : Nat) :
    (s.modStrobes n f).strobes m = if m = n then f (s.strobes n) else s.strobes m := by
  simp only [State.strobes, State.modStrobes, Tab.getD, Tab.get?_set]; split <;> rfl
@[simp] theorem State.protect_modProtect (s : State) (n : Nat) (f : Protect → Protect) (m : Nat) :
    (s.modProtect n f).protect m = if m = n then f (s.protect n) else s.protect m := by
  simp only [State.protect, State.modProtect, Tab.getD, Tab.get?_set]; split <;> rfl
@[simp] theorem State.coex_modCoex (s : State) (n : Nat) (f : CoexPair → CoexPair) (m : Nat) :
    (s.modCoex n f).coex m = if m = n then f (s.coex n) else s.coex m := by
  simp only [State.coex, State.modCoex, Tab.getD, Tab.get?_set]; split <;> rfl
@[simp] theorem State.engine_modEngine (s : State) (n : Nat) (f : Engine → Engine) (m : Nat) :
    (s.modEngine n f).engine m = if m = n then f (s.engine n) else s.engine m := by
  simp only [State.engine, State.modEngine, Tab.getD, Tab.get?_set]; split <;> rfl
@[simp] theorem State.timePort_modTimePort (s : State) (n : Nat) (f : TimePort → TimePort) (m : Nat) :
    (s.modTimePort n f).timePort m = if m = n then f (s.timePort n) else s.timePort m := by
  simp only [State.timePort, State.modTimePort, Tab.getD, Tab.get?_set]; split <;> rfl
@[simp] theorem State.ptp_modPtp (s : State) (n : Nat) (f : PtpPort → PtpPort) (m : Nat) :
    (s.modPtp n f).ptp m = if m = n then f (s.ptp n) else s.ptp m := by
  simp only [State.ptp, State.modPtp, Tab.getD, Tab.get?_set]; split <;> rfl
@[simp] theorem State.culLane_modCulLane (s : State) (n : Nat) (f : CulLane → CulLane) (m : Nat) :
    (s.modCulLane n f).culLane m = if m = n then f (s.culLane n) else s.culLane m := by
  simp only [State.culLane, State.modCulLane, Tab.getD, Tab.get?_set]; split <;> rfl
@[simp] theorem State.culLink_modCulLink (s : State) (n : Nat) (f : CulLink → CulLink) (m : Nat) :
    (s.modCulLink n f).culLink m = if m = n then f (s.culLink n) else s.culLink m := by
  simp only [State.culLink, State.modCulLink, Tab.getD, Tab.get?_set]; split <;> rfl
@[simp] theorem State.peer_modPeer (s : State) (n : Nat) (f : TunnelPeer → TunnelPeer) (m : Nat) :
    (s.modPeer n f).peer m = if m = n then f (s.peer n) else s.peer m := by
  simp only [State.peer, State.modPeer, Tab.getD, Tab.get?_set]; split <;> rfl
@[simp] theorem State.msec_modMsec (s : State) (n : Nat) (f : MsecPort → MsecPort) (m : Nat) :
    (s.modMsec n f).msec m = if m = n then f (s.msec n) else s.msec m := by
  simp only [State.msec, State.modMsec, Tab.getD, Tab.get?_set]; split <;> rfl
@[simp] theorem State.lane_modLane (s : State) (n : Nat) (f : LaneState → LaneState) (m : Nat) :
    (s.modLane n f).lane m = if m = n then f (s.lane n) else s.lane m := by
  simp only [State.lane, State.modLane, Tab.getD, Tab.get?_set]; split <;> rfl
@[simp] theorem State.port_modPort (s : State) (n : Nat) (f : PortState → PortState) (m : Nat) :
    (s.modPort n f).port m = if m = n then f (s.port n) else s.port m := by
  simp only [State.port, State.modPort, Tab.getD, Tab.get?_set]; split <;> rfl
@[simp] theorem State.sluChan_modSlu (s : State) (n : Nat) (f : SluChan → SluChan) (m : Nat) :
    (s.modSlu n f).sluChan m = if m = n then f (s.sluChan n) else s.sluChan m := by
  simp only [State.sluChan, State.modSlu, Tab.getD, Tab.get?_set]; split <;> rfl

/-! ## The parts it leaves alone -/

@[simp] theorem State.wr_pending (s : State) (off v : Nat) : (s.wr off v).pending = s.pending := rfl
@[simp] theorem State.wr_now (s : State) (off v : Nat) : (s.wr off v).now = s.now := rfl
@[simp] theorem State.wr_frac (s : State) (off v : Nat) : (s.wr off v).frac = s.frac := rfl
@[simp] theorem State.wr_free (s : State) (off v : Nat) : (s.wr off v).free = s.free := rfl
@[simp] theorem State.wr_hostMem (s : State) (off v : Nat) : (s.wr off v).hostMem = s.hostMem := rfl
@[simp] theorem State.wr_devMem (s : State) (off v : Nat) : (s.wr off v).devMem = s.devMem := rfl
@[simp] theorem State.wr_host (s : State) (off v : Nat) : (s.wr off v).host = s.host := rfl
@[simp] theorem State.wr_arch (s : State) (off v : Nat) : (s.wr off v).arch = s.arch := rfl
@[simp] theorem State.wr_tx (s : State) (off v : Nat) : (s.wr off v).tx = s.tx := rfl
@[simp] theorem State.wr_rx (s : State) (off v : Nat) : (s.wr off v).rx = s.rx := rfl
@[simp] theorem State.wr_beam (s : State) (off v : Nat) : (s.wr off v).beam = s.beam := rfl
@[simp] theorem State.wr_levee (s : State) (off v : Nat) : (s.wr off v).levee = s.levee := rfl
@[simp] theorem State.wr_rct (s : State) (off v : Nat) : (s.wr off v).rct = s.rct := rfl
@[simp] theorem State.wr_fh (s : State) (off v : Nat) : (s.wr off v).fh = s.fh := rfl
@[simp] theorem State.wr_line (s : State) (off v : Nat) : (s.wr off v).line = s.line := rfl
@[simp] theorem State.wr_cul (s : State) (off v : Nat) : (s.wr off v).cul = s.cul := rfl
@[simp] theorem State.wr_tim (s : State) (off v : Nat) : (s.wr off v).tim = s.tim := rfl
@[simp] theorem State.wr_eng (s : State) (off v : Nat) : (s.wr off v).eng = s.eng := rfl
@[simp] theorem State.wr_slu (s : State) (off v : Nat) : (s.wr off v).slu = s.slu := rfl
@[simp] theorem State.wr_sea (s : State) (off v : Nat) : (s.wr off v).sea = s.sea := rfl
@[simp] theorem State.wr_boot (s : State) (off v : Nat) : (s.wr off v).boot = s.boot := rfl
@[simp] theorem State.wr_pwr (s : State) (off v : Nat) : (s.wr off v).pwr = s.pwr := rfl
@[simp] theorem State.wr_hka (s : State) (off v : Nat) : (s.wr off v).hka = s.hka := rfl
@[simp] theorem State.wr_gau (s : State) (off v : Nat) : (s.wr off v).gau = s.gau := rfl
@[simp] theorem State.wr_flt (s : State) (off v : Nat) : (s.wr off v).flt = s.flt := rfl
@[simp] theorem State.wr_pkg (s : State) (off v : Nat) : (s.wr off v).pkg = s.pkg := rfl

@[simp] theorem State.put_pending (s : State) (f : Field) (v : Nat) : (s.put f v).pending = s.pending := rfl
@[simp] theorem State.put_now (s : State) (f : Field) (v : Nat) : (s.put f v).now = s.now := rfl
@[simp] theorem State.put_frac (s : State) (f : Field) (v : Nat) : (s.put f v).frac = s.frac := rfl
@[simp] theorem State.put_free (s : State) (f : Field) (v : Nat) : (s.put f v).free = s.free := rfl
@[simp] theorem State.put_hostMem (s : State) (f : Field) (v : Nat) : (s.put f v).hostMem = s.hostMem := rfl
@[simp] theorem State.put_devMem (s : State) (f : Field) (v : Nat) : (s.put f v).devMem = s.devMem := rfl
@[simp] theorem State.put_host (s : State) (f : Field) (v : Nat) : (s.put f v).host = s.host := rfl
@[simp] theorem State.put_arch (s : State) (f : Field) (v : Nat) : (s.put f v).arch = s.arch := rfl
@[simp] theorem State.put_tx (s : State) (f : Field) (v : Nat) : (s.put f v).tx = s.tx := rfl
@[simp] theorem State.put_rx (s : State) (f : Field) (v : Nat) : (s.put f v).rx = s.rx := rfl
@[simp] theorem State.put_beam (s : State) (f : Field) (v : Nat) : (s.put f v).beam = s.beam := rfl
@[simp] theorem State.put_levee (s : State) (f : Field) (v : Nat) : (s.put f v).levee = s.levee := rfl
@[simp] theorem State.put_rct (s : State) (f : Field) (v : Nat) : (s.put f v).rct = s.rct := rfl
@[simp] theorem State.put_fh (s : State) (f : Field) (v : Nat) : (s.put f v).fh = s.fh := rfl
@[simp] theorem State.put_line (s : State) (f : Field) (v : Nat) : (s.put f v).line = s.line := rfl
@[simp] theorem State.put_cul (s : State) (f : Field) (v : Nat) : (s.put f v).cul = s.cul := rfl
@[simp] theorem State.put_tim (s : State) (f : Field) (v : Nat) : (s.put f v).tim = s.tim := rfl
@[simp] theorem State.put_eng (s : State) (f : Field) (v : Nat) : (s.put f v).eng = s.eng := rfl
@[simp] theorem State.put_slu (s : State) (f : Field) (v : Nat) : (s.put f v).slu = s.slu := rfl
@[simp] theorem State.put_sea (s : State) (f : Field) (v : Nat) : (s.put f v).sea = s.sea := rfl
@[simp] theorem State.put_boot (s : State) (f : Field) (v : Nat) : (s.put f v).boot = s.boot := rfl
@[simp] theorem State.put_pwr (s : State) (f : Field) (v : Nat) : (s.put f v).pwr = s.pwr := rfl
@[simp] theorem State.put_hka (s : State) (f : Field) (v : Nat) : (s.put f v).hka = s.hka := rfl
@[simp] theorem State.put_gau (s : State) (f : Field) (v : Nat) : (s.put f v).gau = s.gau := rfl
@[simp] theorem State.put_flt (s : State) (f : Field) (v : Nat) : (s.put f v).flt = s.flt := rfl
@[simp] theorem State.put_pkg (s : State) (f : Field) (v : Nat) : (s.put f v).pkg = s.pkg := rfl

@[simp] theorem State.setF_pending (s : State) (f : Field) : (s.setF f).pending = s.pending := rfl
@[simp] theorem State.setF_now (s : State) (f : Field) : (s.setF f).now = s.now := rfl
@[simp] theorem State.setF_frac (s : State) (f : Field) : (s.setF f).frac = s.frac := rfl
@[simp] theorem State.setF_free (s : State) (f : Field) : (s.setF f).free = s.free := rfl
@[simp] theorem State.setF_hostMem (s : State) (f : Field) : (s.setF f).hostMem = s.hostMem := rfl
@[simp] theorem State.setF_devMem (s : State) (f : Field) : (s.setF f).devMem = s.devMem := rfl
@[simp] theorem State.setF_host (s : State) (f : Field) : (s.setF f).host = s.host := rfl
@[simp] theorem State.setF_arch (s : State) (f : Field) : (s.setF f).arch = s.arch := rfl
@[simp] theorem State.setF_tx (s : State) (f : Field) : (s.setF f).tx = s.tx := rfl
@[simp] theorem State.setF_rx (s : State) (f : Field) : (s.setF f).rx = s.rx := rfl
@[simp] theorem State.setF_beam (s : State) (f : Field) : (s.setF f).beam = s.beam := rfl
@[simp] theorem State.setF_levee (s : State) (f : Field) : (s.setF f).levee = s.levee := rfl
@[simp] theorem State.setF_rct (s : State) (f : Field) : (s.setF f).rct = s.rct := rfl
@[simp] theorem State.setF_fh (s : State) (f : Field) : (s.setF f).fh = s.fh := rfl
@[simp] theorem State.setF_line (s : State) (f : Field) : (s.setF f).line = s.line := rfl
@[simp] theorem State.setF_cul (s : State) (f : Field) : (s.setF f).cul = s.cul := rfl
@[simp] theorem State.setF_tim (s : State) (f : Field) : (s.setF f).tim = s.tim := rfl
@[simp] theorem State.setF_eng (s : State) (f : Field) : (s.setF f).eng = s.eng := rfl
@[simp] theorem State.setF_slu (s : State) (f : Field) : (s.setF f).slu = s.slu := rfl
@[simp] theorem State.setF_sea (s : State) (f : Field) : (s.setF f).sea = s.sea := rfl
@[simp] theorem State.setF_boot (s : State) (f : Field) : (s.setF f).boot = s.boot := rfl
@[simp] theorem State.setF_pwr (s : State) (f : Field) : (s.setF f).pwr = s.pwr := rfl
@[simp] theorem State.setF_hka (s : State) (f : Field) : (s.setF f).hka = s.hka := rfl
@[simp] theorem State.setF_gau (s : State) (f : Field) : (s.setF f).gau = s.gau := rfl
@[simp] theorem State.setF_flt (s : State) (f : Field) : (s.setF f).flt = s.flt := rfl
@[simp] theorem State.setF_pkg (s : State) (f : Field) : (s.setF f).pkg = s.pkg := rfl

@[simp] theorem State.wr64_pending (s : State) (off v : Nat) : (s.wr64 off v).pending = s.pending := rfl
@[simp] theorem State.wr64_now (s : State) (off v : Nat) : (s.wr64 off v).now = s.now := rfl
@[simp] theorem State.wr64_frac (s : State) (off v : Nat) : (s.wr64 off v).frac = s.frac := rfl
@[simp] theorem State.wr64_free (s : State) (off v : Nat) : (s.wr64 off v).free = s.free := rfl
@[simp] theorem State.wr64_hostMem (s : State) (off v : Nat) : (s.wr64 off v).hostMem = s.hostMem := rfl
@[simp] theorem State.wr64_devMem (s : State) (off v : Nat) : (s.wr64 off v).devMem = s.devMem := rfl
@[simp] theorem State.wr64_host (s : State) (off v : Nat) : (s.wr64 off v).host = s.host := rfl
@[simp] theorem State.wr64_arch (s : State) (off v : Nat) : (s.wr64 off v).arch = s.arch := rfl
@[simp] theorem State.wr64_tx (s : State) (off v : Nat) : (s.wr64 off v).tx = s.tx := rfl
@[simp] theorem State.wr64_rx (s : State) (off v : Nat) : (s.wr64 off v).rx = s.rx := rfl
@[simp] theorem State.wr64_beam (s : State) (off v : Nat) : (s.wr64 off v).beam = s.beam := rfl
@[simp] theorem State.wr64_levee (s : State) (off v : Nat) : (s.wr64 off v).levee = s.levee := rfl
@[simp] theorem State.wr64_rct (s : State) (off v : Nat) : (s.wr64 off v).rct = s.rct := rfl
@[simp] theorem State.wr64_fh (s : State) (off v : Nat) : (s.wr64 off v).fh = s.fh := rfl
@[simp] theorem State.wr64_line (s : State) (off v : Nat) : (s.wr64 off v).line = s.line := rfl
@[simp] theorem State.wr64_cul (s : State) (off v : Nat) : (s.wr64 off v).cul = s.cul := rfl
@[simp] theorem State.wr64_tim (s : State) (off v : Nat) : (s.wr64 off v).tim = s.tim := rfl
@[simp] theorem State.wr64_eng (s : State) (off v : Nat) : (s.wr64 off v).eng = s.eng := rfl
@[simp] theorem State.wr64_slu (s : State) (off v : Nat) : (s.wr64 off v).slu = s.slu := rfl
@[simp] theorem State.wr64_sea (s : State) (off v : Nat) : (s.wr64 off v).sea = s.sea := rfl
@[simp] theorem State.wr64_boot (s : State) (off v : Nat) : (s.wr64 off v).boot = s.boot := rfl
@[simp] theorem State.wr64_pwr (s : State) (off v : Nat) : (s.wr64 off v).pwr = s.pwr := rfl
@[simp] theorem State.wr64_hka (s : State) (off v : Nat) : (s.wr64 off v).hka = s.hka := rfl
@[simp] theorem State.wr64_gau (s : State) (off v : Nat) : (s.wr64 off v).gau = s.gau := rfl
@[simp] theorem State.wr64_flt (s : State) (off v : Nat) : (s.wr64 off v).flt = s.flt := rfl
@[simp] theorem State.wr64_pkg (s : State) (off v : Nat) : (s.wr64 off v).pkg = s.pkg := rfl

@[simp] theorem State.add64_pending (s : State) (off n : Nat) : (s.add64 off n).pending = s.pending := rfl
@[simp] theorem State.add64_now (s : State) (off n : Nat) : (s.add64 off n).now = s.now := rfl
@[simp] theorem State.add64_frac (s : State) (off n : Nat) : (s.add64 off n).frac = s.frac := rfl
@[simp] theorem State.add64_free (s : State) (off n : Nat) : (s.add64 off n).free = s.free := rfl
@[simp] theorem State.add64_hostMem (s : State) (off n : Nat) : (s.add64 off n).hostMem = s.hostMem := rfl
@[simp] theorem State.add64_devMem (s : State) (off n : Nat) : (s.add64 off n).devMem = s.devMem := rfl
@[simp] theorem State.add64_host (s : State) (off n : Nat) : (s.add64 off n).host = s.host := rfl
@[simp] theorem State.add64_arch (s : State) (off n : Nat) : (s.add64 off n).arch = s.arch := rfl
@[simp] theorem State.add64_tx (s : State) (off n : Nat) : (s.add64 off n).tx = s.tx := rfl
@[simp] theorem State.add64_rx (s : State) (off n : Nat) : (s.add64 off n).rx = s.rx := rfl
@[simp] theorem State.add64_beam (s : State) (off n : Nat) : (s.add64 off n).beam = s.beam := rfl
@[simp] theorem State.add64_levee (s : State) (off n : Nat) : (s.add64 off n).levee = s.levee := rfl
@[simp] theorem State.add64_rct (s : State) (off n : Nat) : (s.add64 off n).rct = s.rct := rfl
@[simp] theorem State.add64_fh (s : State) (off n : Nat) : (s.add64 off n).fh = s.fh := rfl
@[simp] theorem State.add64_line (s : State) (off n : Nat) : (s.add64 off n).line = s.line := rfl
@[simp] theorem State.add64_cul (s : State) (off n : Nat) : (s.add64 off n).cul = s.cul := rfl
@[simp] theorem State.add64_tim (s : State) (off n : Nat) : (s.add64 off n).tim = s.tim := rfl
@[simp] theorem State.add64_eng (s : State) (off n : Nat) : (s.add64 off n).eng = s.eng := rfl
@[simp] theorem State.add64_slu (s : State) (off n : Nat) : (s.add64 off n).slu = s.slu := rfl
@[simp] theorem State.add64_sea (s : State) (off n : Nat) : (s.add64 off n).sea = s.sea := rfl
@[simp] theorem State.add64_boot (s : State) (off n : Nat) : (s.add64 off n).boot = s.boot := rfl
@[simp] theorem State.add64_pwr (s : State) (off n : Nat) : (s.add64 off n).pwr = s.pwr := rfl
@[simp] theorem State.add64_hka (s : State) (off n : Nat) : (s.add64 off n).hka = s.hka := rfl
@[simp] theorem State.add64_gau (s : State) (off n : Nat) : (s.add64 off n).gau = s.gau := rfl
@[simp] theorem State.add64_flt (s : State) (off n : Nat) : (s.add64 off n).flt = s.flt := rfl
@[simp] theorem State.add64_pkg (s : State) (off n : Nat) : (s.add64 off n).pkg = s.pkg := rfl

@[simp] theorem State.putBit64_pending (s : State) (off i : Nat) (b : Bool) : (s.putBit64 off i b).pending = s.pending := rfl
@[simp] theorem State.putBit64_now (s : State) (off i : Nat) (b : Bool) : (s.putBit64 off i b).now = s.now := rfl
@[simp] theorem State.putBit64_frac (s : State) (off i : Nat) (b : Bool) : (s.putBit64 off i b).frac = s.frac := rfl
@[simp] theorem State.putBit64_free (s : State) (off i : Nat) (b : Bool) : (s.putBit64 off i b).free = s.free := rfl
@[simp] theorem State.putBit64_hostMem (s : State) (off i : Nat) (b : Bool) : (s.putBit64 off i b).hostMem = s.hostMem := rfl
@[simp] theorem State.putBit64_devMem (s : State) (off i : Nat) (b : Bool) : (s.putBit64 off i b).devMem = s.devMem := rfl
@[simp] theorem State.putBit64_host (s : State) (off i : Nat) (b : Bool) : (s.putBit64 off i b).host = s.host := rfl
@[simp] theorem State.putBit64_arch (s : State) (off i : Nat) (b : Bool) : (s.putBit64 off i b).arch = s.arch := rfl
@[simp] theorem State.putBit64_tx (s : State) (off i : Nat) (b : Bool) : (s.putBit64 off i b).tx = s.tx := rfl
@[simp] theorem State.putBit64_rx (s : State) (off i : Nat) (b : Bool) : (s.putBit64 off i b).rx = s.rx := rfl
@[simp] theorem State.putBit64_beam (s : State) (off i : Nat) (b : Bool) : (s.putBit64 off i b).beam = s.beam := rfl
@[simp] theorem State.putBit64_levee (s : State) (off i : Nat) (b : Bool) : (s.putBit64 off i b).levee = s.levee := rfl
@[simp] theorem State.putBit64_rct (s : State) (off i : Nat) (b : Bool) : (s.putBit64 off i b).rct = s.rct := rfl
@[simp] theorem State.putBit64_fh (s : State) (off i : Nat) (b : Bool) : (s.putBit64 off i b).fh = s.fh := rfl
@[simp] theorem State.putBit64_line (s : State) (off i : Nat) (b : Bool) : (s.putBit64 off i b).line = s.line := rfl
@[simp] theorem State.putBit64_cul (s : State) (off i : Nat) (b : Bool) : (s.putBit64 off i b).cul = s.cul := rfl
@[simp] theorem State.putBit64_tim (s : State) (off i : Nat) (b : Bool) : (s.putBit64 off i b).tim = s.tim := rfl
@[simp] theorem State.putBit64_eng (s : State) (off i : Nat) (b : Bool) : (s.putBit64 off i b).eng = s.eng := rfl
@[simp] theorem State.putBit64_slu (s : State) (off i : Nat) (b : Bool) : (s.putBit64 off i b).slu = s.slu := rfl
@[simp] theorem State.putBit64_sea (s : State) (off i : Nat) (b : Bool) : (s.putBit64 off i b).sea = s.sea := rfl
@[simp] theorem State.putBit64_boot (s : State) (off i : Nat) (b : Bool) : (s.putBit64 off i b).boot = s.boot := rfl
@[simp] theorem State.putBit64_pwr (s : State) (off i : Nat) (b : Bool) : (s.putBit64 off i b).pwr = s.pwr := rfl
@[simp] theorem State.putBit64_hka (s : State) (off i : Nat) (b : Bool) : (s.putBit64 off i b).hka = s.hka := rfl
@[simp] theorem State.putBit64_gau (s : State) (off i : Nat) (b : Bool) : (s.putBit64 off i b).gau = s.gau := rfl
@[simp] theorem State.putBit64_flt (s : State) (off i : Nat) (b : Bool) : (s.putBit64 off i b).flt = s.flt := rfl
@[simp] theorem State.putBit64_pkg (s : State) (off i : Nat) (b : Bool) : (s.putBit64 off i b).pkg = s.pkg := rfl

@[simp] theorem State.satAdd_pending (s : State) (f : Field) (n : Nat) : (s.satAdd f n).pending = s.pending := rfl
@[simp] theorem State.satAdd_now (s : State) (f : Field) (n : Nat) : (s.satAdd f n).now = s.now := rfl
@[simp] theorem State.satAdd_frac (s : State) (f : Field) (n : Nat) : (s.satAdd f n).frac = s.frac := rfl
@[simp] theorem State.satAdd_free (s : State) (f : Field) (n : Nat) : (s.satAdd f n).free = s.free := rfl
@[simp] theorem State.satAdd_hostMem (s : State) (f : Field) (n : Nat) : (s.satAdd f n).hostMem = s.hostMem := rfl
@[simp] theorem State.satAdd_devMem (s : State) (f : Field) (n : Nat) : (s.satAdd f n).devMem = s.devMem := rfl
@[simp] theorem State.satAdd_host (s : State) (f : Field) (n : Nat) : (s.satAdd f n).host = s.host := rfl
@[simp] theorem State.satAdd_arch (s : State) (f : Field) (n : Nat) : (s.satAdd f n).arch = s.arch := rfl
@[simp] theorem State.satAdd_tx (s : State) (f : Field) (n : Nat) : (s.satAdd f n).tx = s.tx := rfl
@[simp] theorem State.satAdd_rx (s : State) (f : Field) (n : Nat) : (s.satAdd f n).rx = s.rx := rfl
@[simp] theorem State.satAdd_beam (s : State) (f : Field) (n : Nat) : (s.satAdd f n).beam = s.beam := rfl
@[simp] theorem State.satAdd_levee (s : State) (f : Field) (n : Nat) : (s.satAdd f n).levee = s.levee := rfl
@[simp] theorem State.satAdd_rct (s : State) (f : Field) (n : Nat) : (s.satAdd f n).rct = s.rct := rfl
@[simp] theorem State.satAdd_fh (s : State) (f : Field) (n : Nat) : (s.satAdd f n).fh = s.fh := rfl
@[simp] theorem State.satAdd_line (s : State) (f : Field) (n : Nat) : (s.satAdd f n).line = s.line := rfl
@[simp] theorem State.satAdd_cul (s : State) (f : Field) (n : Nat) : (s.satAdd f n).cul = s.cul := rfl
@[simp] theorem State.satAdd_tim (s : State) (f : Field) (n : Nat) : (s.satAdd f n).tim = s.tim := rfl
@[simp] theorem State.satAdd_eng (s : State) (f : Field) (n : Nat) : (s.satAdd f n).eng = s.eng := rfl
@[simp] theorem State.satAdd_slu (s : State) (f : Field) (n : Nat) : (s.satAdd f n).slu = s.slu := rfl
@[simp] theorem State.satAdd_sea (s : State) (f : Field) (n : Nat) : (s.satAdd f n).sea = s.sea := rfl
@[simp] theorem State.satAdd_boot (s : State) (f : Field) (n : Nat) : (s.satAdd f n).boot = s.boot := rfl
@[simp] theorem State.satAdd_pwr (s : State) (f : Field) (n : Nat) : (s.satAdd f n).pwr = s.pwr := rfl
@[simp] theorem State.satAdd_hka (s : State) (f : Field) (n : Nat) : (s.satAdd f n).hka = s.hka := rfl
@[simp] theorem State.satAdd_gau (s : State) (f : Field) (n : Nat) : (s.satAdd f n).gau = s.gau := rfl
@[simp] theorem State.satAdd_flt (s : State) (f : Field) (n : Nat) : (s.satAdd f n).flt = s.flt := rfl
@[simp] theorem State.satAdd_pkg (s : State) (f : Field) (n : Nat) : (s.satAdd f n).pkg = s.pkg := rfl

@[simp] theorem State.hostWrite_pending (s : State) (a : Nat) (l : List Nat) : (s.hostWrite a l).pending = s.pending := rfl
@[simp] theorem State.hostWrite_regs (s : State) (a : Nat) (l : List Nat) : (s.hostWrite a l).regs = s.regs := rfl
@[simp] theorem State.hostWrite_now (s : State) (a : Nat) (l : List Nat) : (s.hostWrite a l).now = s.now := rfl
@[simp] theorem State.hostWrite_frac (s : State) (a : Nat) (l : List Nat) : (s.hostWrite a l).frac = s.frac := rfl
@[simp] theorem State.hostWrite_free (s : State) (a : Nat) (l : List Nat) : (s.hostWrite a l).free = s.free := rfl
@[simp] theorem State.hostWrite_devMem (s : State) (a : Nat) (l : List Nat) : (s.hostWrite a l).devMem = s.devMem := rfl
@[simp] theorem State.hostWrite_host (s : State) (a : Nat) (l : List Nat) : (s.hostWrite a l).host = s.host := rfl
@[simp] theorem State.hostWrite_arch (s : State) (a : Nat) (l : List Nat) : (s.hostWrite a l).arch = s.arch := rfl
@[simp] theorem State.hostWrite_tx (s : State) (a : Nat) (l : List Nat) : (s.hostWrite a l).tx = s.tx := rfl
@[simp] theorem State.hostWrite_rx (s : State) (a : Nat) (l : List Nat) : (s.hostWrite a l).rx = s.rx := rfl
@[simp] theorem State.hostWrite_beam (s : State) (a : Nat) (l : List Nat) : (s.hostWrite a l).beam = s.beam := rfl
@[simp] theorem State.hostWrite_levee (s : State) (a : Nat) (l : List Nat) : (s.hostWrite a l).levee = s.levee := rfl
@[simp] theorem State.hostWrite_rct (s : State) (a : Nat) (l : List Nat) : (s.hostWrite a l).rct = s.rct := rfl
@[simp] theorem State.hostWrite_fh (s : State) (a : Nat) (l : List Nat) : (s.hostWrite a l).fh = s.fh := rfl
@[simp] theorem State.hostWrite_line (s : State) (a : Nat) (l : List Nat) : (s.hostWrite a l).line = s.line := rfl
@[simp] theorem State.hostWrite_cul (s : State) (a : Nat) (l : List Nat) : (s.hostWrite a l).cul = s.cul := rfl
@[simp] theorem State.hostWrite_tim (s : State) (a : Nat) (l : List Nat) : (s.hostWrite a l).tim = s.tim := rfl
@[simp] theorem State.hostWrite_eng (s : State) (a : Nat) (l : List Nat) : (s.hostWrite a l).eng = s.eng := rfl
@[simp] theorem State.hostWrite_slu (s : State) (a : Nat) (l : List Nat) : (s.hostWrite a l).slu = s.slu := rfl
@[simp] theorem State.hostWrite_sea (s : State) (a : Nat) (l : List Nat) : (s.hostWrite a l).sea = s.sea := rfl
@[simp] theorem State.hostWrite_boot (s : State) (a : Nat) (l : List Nat) : (s.hostWrite a l).boot = s.boot := rfl
@[simp] theorem State.hostWrite_pwr (s : State) (a : Nat) (l : List Nat) : (s.hostWrite a l).pwr = s.pwr := rfl
@[simp] theorem State.hostWrite_hka (s : State) (a : Nat) (l : List Nat) : (s.hostWrite a l).hka = s.hka := rfl
@[simp] theorem State.hostWrite_gau (s : State) (a : Nat) (l : List Nat) : (s.hostWrite a l).gau = s.gau := rfl
@[simp] theorem State.hostWrite_flt (s : State) (a : Nat) (l : List Nat) : (s.hostWrite a l).flt = s.flt := rfl
@[simp] theorem State.hostWrite_pkg (s : State) (a : Nat) (l : List Nat) : (s.hostWrite a l).pkg = s.pkg := rfl

@[simp] theorem State.devWrite_pending (s : State) (a : Nat) (l : List Nat) : (s.devWrite a l).pending = s.pending := rfl
@[simp] theorem State.devWrite_regs (s : State) (a : Nat) (l : List Nat) : (s.devWrite a l).regs = s.regs := rfl
@[simp] theorem State.devWrite_now (s : State) (a : Nat) (l : List Nat) : (s.devWrite a l).now = s.now := rfl
@[simp] theorem State.devWrite_frac (s : State) (a : Nat) (l : List Nat) : (s.devWrite a l).frac = s.frac := rfl
@[simp] theorem State.devWrite_free (s : State) (a : Nat) (l : List Nat) : (s.devWrite a l).free = s.free := rfl
@[simp] theorem State.devWrite_hostMem (s : State) (a : Nat) (l : List Nat) : (s.devWrite a l).hostMem = s.hostMem := rfl
@[simp] theorem State.devWrite_host (s : State) (a : Nat) (l : List Nat) : (s.devWrite a l).host = s.host := rfl
@[simp] theorem State.devWrite_arch (s : State) (a : Nat) (l : List Nat) : (s.devWrite a l).arch = s.arch := rfl
@[simp] theorem State.devWrite_tx (s : State) (a : Nat) (l : List Nat) : (s.devWrite a l).tx = s.tx := rfl
@[simp] theorem State.devWrite_rx (s : State) (a : Nat) (l : List Nat) : (s.devWrite a l).rx = s.rx := rfl
@[simp] theorem State.devWrite_beam (s : State) (a : Nat) (l : List Nat) : (s.devWrite a l).beam = s.beam := rfl
@[simp] theorem State.devWrite_levee (s : State) (a : Nat) (l : List Nat) : (s.devWrite a l).levee = s.levee := rfl
@[simp] theorem State.devWrite_rct (s : State) (a : Nat) (l : List Nat) : (s.devWrite a l).rct = s.rct := rfl
@[simp] theorem State.devWrite_fh (s : State) (a : Nat) (l : List Nat) : (s.devWrite a l).fh = s.fh := rfl
@[simp] theorem State.devWrite_line (s : State) (a : Nat) (l : List Nat) : (s.devWrite a l).line = s.line := rfl
@[simp] theorem State.devWrite_cul (s : State) (a : Nat) (l : List Nat) : (s.devWrite a l).cul = s.cul := rfl
@[simp] theorem State.devWrite_tim (s : State) (a : Nat) (l : List Nat) : (s.devWrite a l).tim = s.tim := rfl
@[simp] theorem State.devWrite_eng (s : State) (a : Nat) (l : List Nat) : (s.devWrite a l).eng = s.eng := rfl
@[simp] theorem State.devWrite_slu (s : State) (a : Nat) (l : List Nat) : (s.devWrite a l).slu = s.slu := rfl
@[simp] theorem State.devWrite_sea (s : State) (a : Nat) (l : List Nat) : (s.devWrite a l).sea = s.sea := rfl
@[simp] theorem State.devWrite_boot (s : State) (a : Nat) (l : List Nat) : (s.devWrite a l).boot = s.boot := rfl
@[simp] theorem State.devWrite_pwr (s : State) (a : Nat) (l : List Nat) : (s.devWrite a l).pwr = s.pwr := rfl
@[simp] theorem State.devWrite_hka (s : State) (a : Nat) (l : List Nat) : (s.devWrite a l).hka = s.hka := rfl
@[simp] theorem State.devWrite_gau (s : State) (a : Nat) (l : List Nat) : (s.devWrite a l).gau = s.gau := rfl
@[simp] theorem State.devWrite_flt (s : State) (a : Nat) (l : List Nat) : (s.devWrite a l).flt = s.flt := rfl
@[simp] theorem State.devWrite_pkg (s : State) (a : Nat) (l : List Nat) : (s.devWrite a l).pkg = s.pkg := rfl

@[simp] theorem State.fresh_pending (s : State) : (s.fresh).pending = s.pending := rfl
@[simp] theorem State.fresh_regs (s : State) : (s.fresh).regs = s.regs := rfl
@[simp] theorem State.fresh_now (s : State) : (s.fresh).now = s.now := rfl
@[simp] theorem State.fresh_frac (s : State) : (s.fresh).frac = s.frac := rfl
@[simp] theorem State.fresh_hostMem (s : State) : (s.fresh).hostMem = s.hostMem := rfl
@[simp] theorem State.fresh_devMem (s : State) : (s.fresh).devMem = s.devMem := rfl
@[simp] theorem State.fresh_host (s : State) : (s.fresh).host = s.host := rfl
@[simp] theorem State.fresh_arch (s : State) : (s.fresh).arch = s.arch := rfl
@[simp] theorem State.fresh_tx (s : State) : (s.fresh).tx = s.tx := rfl
@[simp] theorem State.fresh_rx (s : State) : (s.fresh).rx = s.rx := rfl
@[simp] theorem State.fresh_beam (s : State) : (s.fresh).beam = s.beam := rfl
@[simp] theorem State.fresh_levee (s : State) : (s.fresh).levee = s.levee := rfl
@[simp] theorem State.fresh_rct (s : State) : (s.fresh).rct = s.rct := rfl
@[simp] theorem State.fresh_fh (s : State) : (s.fresh).fh = s.fh := rfl
@[simp] theorem State.fresh_line (s : State) : (s.fresh).line = s.line := rfl
@[simp] theorem State.fresh_cul (s : State) : (s.fresh).cul = s.cul := rfl
@[simp] theorem State.fresh_tim (s : State) : (s.fresh).tim = s.tim := rfl
@[simp] theorem State.fresh_eng (s : State) : (s.fresh).eng = s.eng := rfl
@[simp] theorem State.fresh_slu (s : State) : (s.fresh).slu = s.slu := rfl
@[simp] theorem State.fresh_sea (s : State) : (s.fresh).sea = s.sea := rfl
@[simp] theorem State.fresh_boot (s : State) : (s.fresh).boot = s.boot := rfl
@[simp] theorem State.fresh_pwr (s : State) : (s.fresh).pwr = s.pwr := rfl
@[simp] theorem State.fresh_hka (s : State) : (s.fresh).hka = s.hka := rfl
@[simp] theorem State.fresh_gau (s : State) : (s.fresh).gau = s.gau := rfl
@[simp] theorem State.fresh_flt (s : State) : (s.fresh).flt = s.flt := rfl
@[simp] theorem State.fresh_pkg (s : State) : (s.fresh).pkg = s.pkg := rfl

@[simp] theorem State.modRing_pending (s : State) (r : Nat) (f : RingState → RingState) : (s.modRing r f).pending = s.pending := rfl
@[simp] theorem State.modRing_regs (s : State) (r : Nat) (f : RingState → RingState) : (s.modRing r f).regs = s.regs := rfl
@[simp] theorem State.modRing_now (s : State) (r : Nat) (f : RingState → RingState) : (s.modRing r f).now = s.now := rfl
@[simp] theorem State.modRing_frac (s : State) (r : Nat) (f : RingState → RingState) : (s.modRing r f).frac = s.frac := rfl
@[simp] theorem State.modRing_free (s : State) (r : Nat) (f : RingState → RingState) : (s.modRing r f).free = s.free := rfl
@[simp] theorem State.modRing_hostMem (s : State) (r : Nat) (f : RingState → RingState) : (s.modRing r f).hostMem = s.hostMem := rfl
@[simp] theorem State.modRing_devMem (s : State) (r : Nat) (f : RingState → RingState) : (s.modRing r f).devMem = s.devMem := rfl
@[simp] theorem State.modRing_arch (s : State) (r : Nat) (f : RingState → RingState) : (s.modRing r f).arch = s.arch := rfl
@[simp] theorem State.modRing_tx (s : State) (r : Nat) (f : RingState → RingState) : (s.modRing r f).tx = s.tx := rfl
@[simp] theorem State.modRing_rx (s : State) (r : Nat) (f : RingState → RingState) : (s.modRing r f).rx = s.rx := rfl
@[simp] theorem State.modRing_beam (s : State) (r : Nat) (f : RingState → RingState) : (s.modRing r f).beam = s.beam := rfl
@[simp] theorem State.modRing_levee (s : State) (r : Nat) (f : RingState → RingState) : (s.modRing r f).levee = s.levee := rfl
@[simp] theorem State.modRing_rct (s : State) (r : Nat) (f : RingState → RingState) : (s.modRing r f).rct = s.rct := rfl
@[simp] theorem State.modRing_fh (s : State) (r : Nat) (f : RingState → RingState) : (s.modRing r f).fh = s.fh := rfl
@[simp] theorem State.modRing_line (s : State) (r : Nat) (f : RingState → RingState) : (s.modRing r f).line = s.line := rfl
@[simp] theorem State.modRing_cul (s : State) (r : Nat) (f : RingState → RingState) : (s.modRing r f).cul = s.cul := rfl
@[simp] theorem State.modRing_tim (s : State) (r : Nat) (f : RingState → RingState) : (s.modRing r f).tim = s.tim := rfl
@[simp] theorem State.modRing_eng (s : State) (r : Nat) (f : RingState → RingState) : (s.modRing r f).eng = s.eng := rfl
@[simp] theorem State.modRing_slu (s : State) (r : Nat) (f : RingState → RingState) : (s.modRing r f).slu = s.slu := rfl
@[simp] theorem State.modRing_sea (s : State) (r : Nat) (f : RingState → RingState) : (s.modRing r f).sea = s.sea := rfl
@[simp] theorem State.modRing_boot (s : State) (r : Nat) (f : RingState → RingState) : (s.modRing r f).boot = s.boot := rfl
@[simp] theorem State.modRing_pwr (s : State) (r : Nat) (f : RingState → RingState) : (s.modRing r f).pwr = s.pwr := rfl
@[simp] theorem State.modRing_hka (s : State) (r : Nat) (f : RingState → RingState) : (s.modRing r f).hka = s.hka := rfl
@[simp] theorem State.modRing_gau (s : State) (r : Nat) (f : RingState → RingState) : (s.modRing r f).gau = s.gau := rfl
@[simp] theorem State.modRing_flt (s : State) (r : Nat) (f : RingState → RingState) : (s.modRing r f).flt = s.flt := rfl
@[simp] theorem State.modRing_pkg (s : State) (r : Nat) (f : RingState → RingState) : (s.modRing r f).pkg = s.pkg := rfl

@[simp] theorem State.modStrobes_pending (s : State) (n : Nat) (f : Strobes → Strobes) : (s.modStrobes n f).pending = s.pending := rfl
@[simp] theorem State.modStrobes_regs (s : State) (n : Nat) (f : Strobes → Strobes) : (s.modStrobes n f).regs = s.regs := rfl
@[simp] theorem State.modStrobes_now (s : State) (n : Nat) (f : Strobes → Strobes) : (s.modStrobes n f).now = s.now := rfl
@[simp] theorem State.modStrobes_frac (s : State) (n : Nat) (f : Strobes → Strobes) : (s.modStrobes n f).frac = s.frac := rfl
@[simp] theorem State.modStrobes_free (s : State) (n : Nat) (f : Strobes → Strobes) : (s.modStrobes n f).free = s.free := rfl
@[simp] theorem State.modStrobes_hostMem (s : State) (n : Nat) (f : Strobes → Strobes) : (s.modStrobes n f).hostMem = s.hostMem := rfl
@[simp] theorem State.modStrobes_devMem (s : State) (n : Nat) (f : Strobes → Strobes) : (s.modStrobes n f).devMem = s.devMem := rfl
@[simp] theorem State.modStrobes_host (s : State) (n : Nat) (f : Strobes → Strobes) : (s.modStrobes n f).host = s.host := rfl
@[simp] theorem State.modStrobes_arch (s : State) (n : Nat) (f : Strobes → Strobes) : (s.modStrobes n f).arch = s.arch := rfl
@[simp] theorem State.modStrobes_tx (s : State) (n : Nat) (f : Strobes → Strobes) : (s.modStrobes n f).tx = s.tx := rfl
@[simp] theorem State.modStrobes_rx (s : State) (n : Nat) (f : Strobes → Strobes) : (s.modStrobes n f).rx = s.rx := rfl
@[simp] theorem State.modStrobes_beam (s : State) (n : Nat) (f : Strobes → Strobes) : (s.modStrobes n f).beam = s.beam := rfl
@[simp] theorem State.modStrobes_levee (s : State) (n : Nat) (f : Strobes → Strobes) : (s.modStrobes n f).levee = s.levee := rfl
@[simp] theorem State.modStrobes_fh (s : State) (n : Nat) (f : Strobes → Strobes) : (s.modStrobes n f).fh = s.fh := rfl
@[simp] theorem State.modStrobes_line (s : State) (n : Nat) (f : Strobes → Strobes) : (s.modStrobes n f).line = s.line := rfl
@[simp] theorem State.modStrobes_cul (s : State) (n : Nat) (f : Strobes → Strobes) : (s.modStrobes n f).cul = s.cul := rfl
@[simp] theorem State.modStrobes_tim (s : State) (n : Nat) (f : Strobes → Strobes) : (s.modStrobes n f).tim = s.tim := rfl
@[simp] theorem State.modStrobes_eng (s : State) (n : Nat) (f : Strobes → Strobes) : (s.modStrobes n f).eng = s.eng := rfl
@[simp] theorem State.modStrobes_slu (s : State) (n : Nat) (f : Strobes → Strobes) : (s.modStrobes n f).slu = s.slu := rfl
@[simp] theorem State.modStrobes_sea (s : State) (n : Nat) (f : Strobes → Strobes) : (s.modStrobes n f).sea = s.sea := rfl
@[simp] theorem State.modStrobes_boot (s : State) (n : Nat) (f : Strobes → Strobes) : (s.modStrobes n f).boot = s.boot := rfl
@[simp] theorem State.modStrobes_pwr (s : State) (n : Nat) (f : Strobes → Strobes) : (s.modStrobes n f).pwr = s.pwr := rfl
@[simp] theorem State.modStrobes_hka (s : State) (n : Nat) (f : Strobes → Strobes) : (s.modStrobes n f).hka = s.hka := rfl
@[simp] theorem State.modStrobes_gau (s : State) (n : Nat) (f : Strobes → Strobes) : (s.modStrobes n f).gau = s.gau := rfl
@[simp] theorem State.modStrobes_flt (s : State) (n : Nat) (f : Strobes → Strobes) : (s.modStrobes n f).flt = s.flt := rfl
@[simp] theorem State.modStrobes_pkg (s : State) (n : Nat) (f : Strobes → Strobes) : (s.modStrobes n f).pkg = s.pkg := rfl

@[simp] theorem State.modProtect_pending (s : State) (n : Nat) (f : Protect → Protect) : (s.modProtect n f).pending = s.pending := rfl
@[simp] theorem State.modProtect_regs (s : State) (n : Nat) (f : Protect → Protect) : (s.modProtect n f).regs = s.regs := rfl
@[simp] theorem State.modProtect_now (s : State) (n : Nat) (f : Protect → Protect) : (s.modProtect n f).now = s.now := rfl
@[simp] theorem State.modProtect_frac (s : State) (n : Nat) (f : Protect → Protect) : (s.modProtect n f).frac = s.frac := rfl
@[simp] theorem State.modProtect_free (s : State) (n : Nat) (f : Protect → Protect) : (s.modProtect n f).free = s.free := rfl
@[simp] theorem State.modProtect_hostMem (s : State) (n : Nat) (f : Protect → Protect) : (s.modProtect n f).hostMem = s.hostMem := rfl
@[simp] theorem State.modProtect_devMem (s : State) (n : Nat) (f : Protect → Protect) : (s.modProtect n f).devMem = s.devMem := rfl
@[simp] theorem State.modProtect_host (s : State) (n : Nat) (f : Protect → Protect) : (s.modProtect n f).host = s.host := rfl
@[simp] theorem State.modProtect_arch (s : State) (n : Nat) (f : Protect → Protect) : (s.modProtect n f).arch = s.arch := rfl
@[simp] theorem State.modProtect_tx (s : State) (n : Nat) (f : Protect → Protect) : (s.modProtect n f).tx = s.tx := rfl
@[simp] theorem State.modProtect_rx (s : State) (n : Nat) (f : Protect → Protect) : (s.modProtect n f).rx = s.rx := rfl
@[simp] theorem State.modProtect_beam (s : State) (n : Nat) (f : Protect → Protect) : (s.modProtect n f).beam = s.beam := rfl
@[simp] theorem State.modProtect_levee (s : State) (n : Nat) (f : Protect → Protect) : (s.modProtect n f).levee = s.levee := rfl
@[simp] theorem State.modProtect_fh (s : State) (n : Nat) (f : Protect → Protect) : (s.modProtect n f).fh = s.fh := rfl
@[simp] theorem State.modProtect_line (s : State) (n : Nat) (f : Protect → Protect) : (s.modProtect n f).line = s.line := rfl
@[simp] theorem State.modProtect_cul (s : State) (n : Nat) (f : Protect → Protect) : (s.modProtect n f).cul = s.cul := rfl
@[simp] theorem State.modProtect_tim (s : State) (n : Nat) (f : Protect → Protect) : (s.modProtect n f).tim = s.tim := rfl
@[simp] theorem State.modProtect_eng (s : State) (n : Nat) (f : Protect → Protect) : (s.modProtect n f).eng = s.eng := rfl
@[simp] theorem State.modProtect_slu (s : State) (n : Nat) (f : Protect → Protect) : (s.modProtect n f).slu = s.slu := rfl
@[simp] theorem State.modProtect_sea (s : State) (n : Nat) (f : Protect → Protect) : (s.modProtect n f).sea = s.sea := rfl
@[simp] theorem State.modProtect_boot (s : State) (n : Nat) (f : Protect → Protect) : (s.modProtect n f).boot = s.boot := rfl
@[simp] theorem State.modProtect_pwr (s : State) (n : Nat) (f : Protect → Protect) : (s.modProtect n f).pwr = s.pwr := rfl
@[simp] theorem State.modProtect_hka (s : State) (n : Nat) (f : Protect → Protect) : (s.modProtect n f).hka = s.hka := rfl
@[simp] theorem State.modProtect_gau (s : State) (n : Nat) (f : Protect → Protect) : (s.modProtect n f).gau = s.gau := rfl
@[simp] theorem State.modProtect_flt (s : State) (n : Nat) (f : Protect → Protect) : (s.modProtect n f).flt = s.flt := rfl
@[simp] theorem State.modProtect_pkg (s : State) (n : Nat) (f : Protect → Protect) : (s.modProtect n f).pkg = s.pkg := rfl

@[simp] theorem State.modCoex_pending (s : State) (k : Nat) (f : CoexPair → CoexPair) : (s.modCoex k f).pending = s.pending := rfl
@[simp] theorem State.modCoex_regs (s : State) (k : Nat) (f : CoexPair → CoexPair) : (s.modCoex k f).regs = s.regs := rfl
@[simp] theorem State.modCoex_now (s : State) (k : Nat) (f : CoexPair → CoexPair) : (s.modCoex k f).now = s.now := rfl
@[simp] theorem State.modCoex_frac (s : State) (k : Nat) (f : CoexPair → CoexPair) : (s.modCoex k f).frac = s.frac := rfl
@[simp] theorem State.modCoex_free (s : State) (k : Nat) (f : CoexPair → CoexPair) : (s.modCoex k f).free = s.free := rfl
@[simp] theorem State.modCoex_hostMem (s : State) (k : Nat) (f : CoexPair → CoexPair) : (s.modCoex k f).hostMem = s.hostMem := rfl
@[simp] theorem State.modCoex_devMem (s : State) (k : Nat) (f : CoexPair → CoexPair) : (s.modCoex k f).devMem = s.devMem := rfl
@[simp] theorem State.modCoex_host (s : State) (k : Nat) (f : CoexPair → CoexPair) : (s.modCoex k f).host = s.host := rfl
@[simp] theorem State.modCoex_arch (s : State) (k : Nat) (f : CoexPair → CoexPair) : (s.modCoex k f).arch = s.arch := rfl
@[simp] theorem State.modCoex_tx (s : State) (k : Nat) (f : CoexPair → CoexPair) : (s.modCoex k f).tx = s.tx := rfl
@[simp] theorem State.modCoex_rx (s : State) (k : Nat) (f : CoexPair → CoexPair) : (s.modCoex k f).rx = s.rx := rfl
@[simp] theorem State.modCoex_beam (s : State) (k : Nat) (f : CoexPair → CoexPair) : (s.modCoex k f).beam = s.beam := rfl
@[simp] theorem State.modCoex_levee (s : State) (k : Nat) (f : CoexPair → CoexPair) : (s.modCoex k f).levee = s.levee := rfl
@[simp] theorem State.modCoex_fh (s : State) (k : Nat) (f : CoexPair → CoexPair) : (s.modCoex k f).fh = s.fh := rfl
@[simp] theorem State.modCoex_line (s : State) (k : Nat) (f : CoexPair → CoexPair) : (s.modCoex k f).line = s.line := rfl
@[simp] theorem State.modCoex_cul (s : State) (k : Nat) (f : CoexPair → CoexPair) : (s.modCoex k f).cul = s.cul := rfl
@[simp] theorem State.modCoex_tim (s : State) (k : Nat) (f : CoexPair → CoexPair) : (s.modCoex k f).tim = s.tim := rfl
@[simp] theorem State.modCoex_eng (s : State) (k : Nat) (f : CoexPair → CoexPair) : (s.modCoex k f).eng = s.eng := rfl
@[simp] theorem State.modCoex_slu (s : State) (k : Nat) (f : CoexPair → CoexPair) : (s.modCoex k f).slu = s.slu := rfl
@[simp] theorem State.modCoex_sea (s : State) (k : Nat) (f : CoexPair → CoexPair) : (s.modCoex k f).sea = s.sea := rfl
@[simp] theorem State.modCoex_boot (s : State) (k : Nat) (f : CoexPair → CoexPair) : (s.modCoex k f).boot = s.boot := rfl
@[simp] theorem State.modCoex_pwr (s : State) (k : Nat) (f : CoexPair → CoexPair) : (s.modCoex k f).pwr = s.pwr := rfl
@[simp] theorem State.modCoex_hka (s : State) (k : Nat) (f : CoexPair → CoexPair) : (s.modCoex k f).hka = s.hka := rfl
@[simp] theorem State.modCoex_gau (s : State) (k : Nat) (f : CoexPair → CoexPair) : (s.modCoex k f).gau = s.gau := rfl
@[simp] theorem State.modCoex_flt (s : State) (k : Nat) (f : CoexPair → CoexPair) : (s.modCoex k f).flt = s.flt := rfl
@[simp] theorem State.modCoex_pkg (s : State) (k : Nat) (f : CoexPair → CoexPair) : (s.modCoex k f).pkg = s.pkg := rfl

@[simp] theorem State.setBiasDac_pending (s : State) (n k : Nat) (d : BiasDac) : (s.setBiasDac n k d).pending = s.pending := rfl
@[simp] theorem State.setBiasDac_regs (s : State) (n k : Nat) (d : BiasDac) : (s.setBiasDac n k d).regs = s.regs := rfl
@[simp] theorem State.setBiasDac_now (s : State) (n k : Nat) (d : BiasDac) : (s.setBiasDac n k d).now = s.now := rfl
@[simp] theorem State.setBiasDac_frac (s : State) (n k : Nat) (d : BiasDac) : (s.setBiasDac n k d).frac = s.frac := rfl
@[simp] theorem State.setBiasDac_free (s : State) (n k : Nat) (d : BiasDac) : (s.setBiasDac n k d).free = s.free := rfl
@[simp] theorem State.setBiasDac_hostMem (s : State) (n k : Nat) (d : BiasDac) : (s.setBiasDac n k d).hostMem = s.hostMem := rfl
@[simp] theorem State.setBiasDac_devMem (s : State) (n k : Nat) (d : BiasDac) : (s.setBiasDac n k d).devMem = s.devMem := rfl
@[simp] theorem State.setBiasDac_host (s : State) (n k : Nat) (d : BiasDac) : (s.setBiasDac n k d).host = s.host := rfl
@[simp] theorem State.setBiasDac_arch (s : State) (n k : Nat) (d : BiasDac) : (s.setBiasDac n k d).arch = s.arch := rfl
@[simp] theorem State.setBiasDac_rx (s : State) (n k : Nat) (d : BiasDac) : (s.setBiasDac n k d).rx = s.rx := rfl
@[simp] theorem State.setBiasDac_beam (s : State) (n k : Nat) (d : BiasDac) : (s.setBiasDac n k d).beam = s.beam := rfl
@[simp] theorem State.setBiasDac_levee (s : State) (n k : Nat) (d : BiasDac) : (s.setBiasDac n k d).levee = s.levee := rfl
@[simp] theorem State.setBiasDac_rct (s : State) (n k : Nat) (d : BiasDac) : (s.setBiasDac n k d).rct = s.rct := rfl
@[simp] theorem State.setBiasDac_fh (s : State) (n k : Nat) (d : BiasDac) : (s.setBiasDac n k d).fh = s.fh := rfl
@[simp] theorem State.setBiasDac_line (s : State) (n k : Nat) (d : BiasDac) : (s.setBiasDac n k d).line = s.line := rfl
@[simp] theorem State.setBiasDac_cul (s : State) (n k : Nat) (d : BiasDac) : (s.setBiasDac n k d).cul = s.cul := rfl
@[simp] theorem State.setBiasDac_tim (s : State) (n k : Nat) (d : BiasDac) : (s.setBiasDac n k d).tim = s.tim := rfl
@[simp] theorem State.setBiasDac_eng (s : State) (n k : Nat) (d : BiasDac) : (s.setBiasDac n k d).eng = s.eng := rfl
@[simp] theorem State.setBiasDac_slu (s : State) (n k : Nat) (d : BiasDac) : (s.setBiasDac n k d).slu = s.slu := rfl
@[simp] theorem State.setBiasDac_sea (s : State) (n k : Nat) (d : BiasDac) : (s.setBiasDac n k d).sea = s.sea := rfl
@[simp] theorem State.setBiasDac_boot (s : State) (n k : Nat) (d : BiasDac) : (s.setBiasDac n k d).boot = s.boot := rfl
@[simp] theorem State.setBiasDac_pwr (s : State) (n k : Nat) (d : BiasDac) : (s.setBiasDac n k d).pwr = s.pwr := rfl
@[simp] theorem State.setBiasDac_hka (s : State) (n k : Nat) (d : BiasDac) : (s.setBiasDac n k d).hka = s.hka := rfl
@[simp] theorem State.setBiasDac_gau (s : State) (n k : Nat) (d : BiasDac) : (s.setBiasDac n k d).gau = s.gau := rfl
@[simp] theorem State.setBiasDac_flt (s : State) (n k : Nat) (d : BiasDac) : (s.setBiasDac n k d).flt = s.flt := rfl
@[simp] theorem State.setBiasDac_pkg (s : State) (n k : Nat) (d : BiasDac) : (s.setBiasDac n k d).pkg = s.pkg := rfl

@[simp] theorem State.setDpdBank_pending (s : State) (p b : Nat) (l : List Nat) : (s.setDpdBank p b l).pending = s.pending := rfl
@[simp] theorem State.setDpdBank_regs (s : State) (p b : Nat) (l : List Nat) : (s.setDpdBank p b l).regs = s.regs := rfl
@[simp] theorem State.setDpdBank_now (s : State) (p b : Nat) (l : List Nat) : (s.setDpdBank p b l).now = s.now := rfl
@[simp] theorem State.setDpdBank_frac (s : State) (p b : Nat) (l : List Nat) : (s.setDpdBank p b l).frac = s.frac := rfl
@[simp] theorem State.setDpdBank_free (s : State) (p b : Nat) (l : List Nat) : (s.setDpdBank p b l).free = s.free := rfl
@[simp] theorem State.setDpdBank_hostMem (s : State) (p b : Nat) (l : List Nat) : (s.setDpdBank p b l).hostMem = s.hostMem := rfl
@[simp] theorem State.setDpdBank_devMem (s : State) (p b : Nat) (l : List Nat) : (s.setDpdBank p b l).devMem = s.devMem := rfl
@[simp] theorem State.setDpdBank_host (s : State) (p b : Nat) (l : List Nat) : (s.setDpdBank p b l).host = s.host := rfl
@[simp] theorem State.setDpdBank_arch (s : State) (p b : Nat) (l : List Nat) : (s.setDpdBank p b l).arch = s.arch := rfl
@[simp] theorem State.setDpdBank_rx (s : State) (p b : Nat) (l : List Nat) : (s.setDpdBank p b l).rx = s.rx := rfl
@[simp] theorem State.setDpdBank_beam (s : State) (p b : Nat) (l : List Nat) : (s.setDpdBank p b l).beam = s.beam := rfl
@[simp] theorem State.setDpdBank_levee (s : State) (p b : Nat) (l : List Nat) : (s.setDpdBank p b l).levee = s.levee := rfl
@[simp] theorem State.setDpdBank_rct (s : State) (p b : Nat) (l : List Nat) : (s.setDpdBank p b l).rct = s.rct := rfl
@[simp] theorem State.setDpdBank_fh (s : State) (p b : Nat) (l : List Nat) : (s.setDpdBank p b l).fh = s.fh := rfl
@[simp] theorem State.setDpdBank_line (s : State) (p b : Nat) (l : List Nat) : (s.setDpdBank p b l).line = s.line := rfl
@[simp] theorem State.setDpdBank_cul (s : State) (p b : Nat) (l : List Nat) : (s.setDpdBank p b l).cul = s.cul := rfl
@[simp] theorem State.setDpdBank_tim (s : State) (p b : Nat) (l : List Nat) : (s.setDpdBank p b l).tim = s.tim := rfl
@[simp] theorem State.setDpdBank_eng (s : State) (p b : Nat) (l : List Nat) : (s.setDpdBank p b l).eng = s.eng := rfl
@[simp] theorem State.setDpdBank_slu (s : State) (p b : Nat) (l : List Nat) : (s.setDpdBank p b l).slu = s.slu := rfl
@[simp] theorem State.setDpdBank_sea (s : State) (p b : Nat) (l : List Nat) : (s.setDpdBank p b l).sea = s.sea := rfl
@[simp] theorem State.setDpdBank_boot (s : State) (p b : Nat) (l : List Nat) : (s.setDpdBank p b l).boot = s.boot := rfl
@[simp] theorem State.setDpdBank_pwr (s : State) (p b : Nat) (l : List Nat) : (s.setDpdBank p b l).pwr = s.pwr := rfl
@[simp] theorem State.setDpdBank_hka (s : State) (p b : Nat) (l : List Nat) : (s.setDpdBank p b l).hka = s.hka := rfl
@[simp] theorem State.setDpdBank_gau (s : State) (p b : Nat) (l : List Nat) : (s.setDpdBank p b l).gau = s.gau := rfl
@[simp] theorem State.setDpdBank_flt (s : State) (p b : Nat) (l : List Nat) : (s.setDpdBank p b l).flt = s.flt := rfl
@[simp] theorem State.setDpdBank_pkg (s : State) (p b : Nat) (l : List Nat) : (s.setDpdBank p b l).pkg = s.pkg := rfl

@[simp] theorem State.modEngine_pending (s : State) (n : Nat) (f : Engine → Engine) : (s.modEngine n f).pending = s.pending := rfl
@[simp] theorem State.modEngine_regs (s : State) (n : Nat) (f : Engine → Engine) : (s.modEngine n f).regs = s.regs := rfl
@[simp] theorem State.modEngine_now (s : State) (n : Nat) (f : Engine → Engine) : (s.modEngine n f).now = s.now := rfl
@[simp] theorem State.modEngine_frac (s : State) (n : Nat) (f : Engine → Engine) : (s.modEngine n f).frac = s.frac := rfl
@[simp] theorem State.modEngine_free (s : State) (n : Nat) (f : Engine → Engine) : (s.modEngine n f).free = s.free := rfl
@[simp] theorem State.modEngine_hostMem (s : State) (n : Nat) (f : Engine → Engine) : (s.modEngine n f).hostMem = s.hostMem := rfl
@[simp] theorem State.modEngine_devMem (s : State) (n : Nat) (f : Engine → Engine) : (s.modEngine n f).devMem = s.devMem := rfl
@[simp] theorem State.modEngine_host (s : State) (n : Nat) (f : Engine → Engine) : (s.modEngine n f).host = s.host := rfl
@[simp] theorem State.modEngine_arch (s : State) (n : Nat) (f : Engine → Engine) : (s.modEngine n f).arch = s.arch := rfl
@[simp] theorem State.modEngine_tx (s : State) (n : Nat) (f : Engine → Engine) : (s.modEngine n f).tx = s.tx := rfl
@[simp] theorem State.modEngine_rx (s : State) (n : Nat) (f : Engine → Engine) : (s.modEngine n f).rx = s.rx := rfl
@[simp] theorem State.modEngine_beam (s : State) (n : Nat) (f : Engine → Engine) : (s.modEngine n f).beam = s.beam := rfl
@[simp] theorem State.modEngine_levee (s : State) (n : Nat) (f : Engine → Engine) : (s.modEngine n f).levee = s.levee := rfl
@[simp] theorem State.modEngine_rct (s : State) (n : Nat) (f : Engine → Engine) : (s.modEngine n f).rct = s.rct := rfl
@[simp] theorem State.modEngine_fh (s : State) (n : Nat) (f : Engine → Engine) : (s.modEngine n f).fh = s.fh := rfl
@[simp] theorem State.modEngine_line (s : State) (n : Nat) (f : Engine → Engine) : (s.modEngine n f).line = s.line := rfl
@[simp] theorem State.modEngine_cul (s : State) (n : Nat) (f : Engine → Engine) : (s.modEngine n f).cul = s.cul := rfl
@[simp] theorem State.modEngine_tim (s : State) (n : Nat) (f : Engine → Engine) : (s.modEngine n f).tim = s.tim := rfl
@[simp] theorem State.modEngine_slu (s : State) (n : Nat) (f : Engine → Engine) : (s.modEngine n f).slu = s.slu := rfl
@[simp] theorem State.modEngine_sea (s : State) (n : Nat) (f : Engine → Engine) : (s.modEngine n f).sea = s.sea := rfl
@[simp] theorem State.modEngine_boot (s : State) (n : Nat) (f : Engine → Engine) : (s.modEngine n f).boot = s.boot := rfl
@[simp] theorem State.modEngine_pwr (s : State) (n : Nat) (f : Engine → Engine) : (s.modEngine n f).pwr = s.pwr := rfl
@[simp] theorem State.modEngine_hka (s : State) (n : Nat) (f : Engine → Engine) : (s.modEngine n f).hka = s.hka := rfl
@[simp] theorem State.modEngine_gau (s : State) (n : Nat) (f : Engine → Engine) : (s.modEngine n f).gau = s.gau := rfl
@[simp] theorem State.modEngine_flt (s : State) (n : Nat) (f : Engine → Engine) : (s.modEngine n f).flt = s.flt := rfl
@[simp] theorem State.modEngine_pkg (s : State) (n : Nat) (f : Engine → Engine) : (s.modEngine n f).pkg = s.pkg := rfl

@[simp] theorem State.modTimePort_pending (s : State) (k : Nat) (f : TimePort → TimePort) : (s.modTimePort k f).pending = s.pending := rfl
@[simp] theorem State.modTimePort_regs (s : State) (k : Nat) (f : TimePort → TimePort) : (s.modTimePort k f).regs = s.regs := rfl
@[simp] theorem State.modTimePort_now (s : State) (k : Nat) (f : TimePort → TimePort) : (s.modTimePort k f).now = s.now := rfl
@[simp] theorem State.modTimePort_frac (s : State) (k : Nat) (f : TimePort → TimePort) : (s.modTimePort k f).frac = s.frac := rfl
@[simp] theorem State.modTimePort_free (s : State) (k : Nat) (f : TimePort → TimePort) : (s.modTimePort k f).free = s.free := rfl
@[simp] theorem State.modTimePort_hostMem (s : State) (k : Nat) (f : TimePort → TimePort) : (s.modTimePort k f).hostMem = s.hostMem := rfl
@[simp] theorem State.modTimePort_devMem (s : State) (k : Nat) (f : TimePort → TimePort) : (s.modTimePort k f).devMem = s.devMem := rfl
@[simp] theorem State.modTimePort_host (s : State) (k : Nat) (f : TimePort → TimePort) : (s.modTimePort k f).host = s.host := rfl
@[simp] theorem State.modTimePort_arch (s : State) (k : Nat) (f : TimePort → TimePort) : (s.modTimePort k f).arch = s.arch := rfl
@[simp] theorem State.modTimePort_tx (s : State) (k : Nat) (f : TimePort → TimePort) : (s.modTimePort k f).tx = s.tx := rfl
@[simp] theorem State.modTimePort_rx (s : State) (k : Nat) (f : TimePort → TimePort) : (s.modTimePort k f).rx = s.rx := rfl
@[simp] theorem State.modTimePort_beam (s : State) (k : Nat) (f : TimePort → TimePort) : (s.modTimePort k f).beam = s.beam := rfl
@[simp] theorem State.modTimePort_levee (s : State) (k : Nat) (f : TimePort → TimePort) : (s.modTimePort k f).levee = s.levee := rfl
@[simp] theorem State.modTimePort_rct (s : State) (k : Nat) (f : TimePort → TimePort) : (s.modTimePort k f).rct = s.rct := rfl
@[simp] theorem State.modTimePort_fh (s : State) (k : Nat) (f : TimePort → TimePort) : (s.modTimePort k f).fh = s.fh := rfl
@[simp] theorem State.modTimePort_line (s : State) (k : Nat) (f : TimePort → TimePort) : (s.modTimePort k f).line = s.line := rfl
@[simp] theorem State.modTimePort_cul (s : State) (k : Nat) (f : TimePort → TimePort) : (s.modTimePort k f).cul = s.cul := rfl
@[simp] theorem State.modTimePort_eng (s : State) (k : Nat) (f : TimePort → TimePort) : (s.modTimePort k f).eng = s.eng := rfl
@[simp] theorem State.modTimePort_slu (s : State) (k : Nat) (f : TimePort → TimePort) : (s.modTimePort k f).slu = s.slu := rfl
@[simp] theorem State.modTimePort_sea (s : State) (k : Nat) (f : TimePort → TimePort) : (s.modTimePort k f).sea = s.sea := rfl
@[simp] theorem State.modTimePort_boot (s : State) (k : Nat) (f : TimePort → TimePort) : (s.modTimePort k f).boot = s.boot := rfl
@[simp] theorem State.modTimePort_pwr (s : State) (k : Nat) (f : TimePort → TimePort) : (s.modTimePort k f).pwr = s.pwr := rfl
@[simp] theorem State.modTimePort_hka (s : State) (k : Nat) (f : TimePort → TimePort) : (s.modTimePort k f).hka = s.hka := rfl
@[simp] theorem State.modTimePort_gau (s : State) (k : Nat) (f : TimePort → TimePort) : (s.modTimePort k f).gau = s.gau := rfl
@[simp] theorem State.modTimePort_flt (s : State) (k : Nat) (f : TimePort → TimePort) : (s.modTimePort k f).flt = s.flt := rfl
@[simp] theorem State.modTimePort_pkg (s : State) (k : Nat) (f : TimePort → TimePort) : (s.modTimePort k f).pkg = s.pkg := rfl

@[simp] theorem State.modPtp_pending (s : State) (k : Nat) (f : PtpPort → PtpPort) : (s.modPtp k f).pending = s.pending := rfl
@[simp] theorem State.modPtp_regs (s : State) (k : Nat) (f : PtpPort → PtpPort) : (s.modPtp k f).regs = s.regs := rfl
@[simp] theorem State.modPtp_now (s : State) (k : Nat) (f : PtpPort → PtpPort) : (s.modPtp k f).now = s.now := rfl
@[simp] theorem State.modPtp_frac (s : State) (k : Nat) (f : PtpPort → PtpPort) : (s.modPtp k f).frac = s.frac := rfl
@[simp] theorem State.modPtp_free (s : State) (k : Nat) (f : PtpPort → PtpPort) : (s.modPtp k f).free = s.free := rfl
@[simp] theorem State.modPtp_hostMem (s : State) (k : Nat) (f : PtpPort → PtpPort) : (s.modPtp k f).hostMem = s.hostMem := rfl
@[simp] theorem State.modPtp_devMem (s : State) (k : Nat) (f : PtpPort → PtpPort) : (s.modPtp k f).devMem = s.devMem := rfl
@[simp] theorem State.modPtp_host (s : State) (k : Nat) (f : PtpPort → PtpPort) : (s.modPtp k f).host = s.host := rfl
@[simp] theorem State.modPtp_arch (s : State) (k : Nat) (f : PtpPort → PtpPort) : (s.modPtp k f).arch = s.arch := rfl
@[simp] theorem State.modPtp_tx (s : State) (k : Nat) (f : PtpPort → PtpPort) : (s.modPtp k f).tx = s.tx := rfl
@[simp] theorem State.modPtp_rx (s : State) (k : Nat) (f : PtpPort → PtpPort) : (s.modPtp k f).rx = s.rx := rfl
@[simp] theorem State.modPtp_beam (s : State) (k : Nat) (f : PtpPort → PtpPort) : (s.modPtp k f).beam = s.beam := rfl
@[simp] theorem State.modPtp_levee (s : State) (k : Nat) (f : PtpPort → PtpPort) : (s.modPtp k f).levee = s.levee := rfl
@[simp] theorem State.modPtp_rct (s : State) (k : Nat) (f : PtpPort → PtpPort) : (s.modPtp k f).rct = s.rct := rfl
@[simp] theorem State.modPtp_fh (s : State) (k : Nat) (f : PtpPort → PtpPort) : (s.modPtp k f).fh = s.fh := rfl
@[simp] theorem State.modPtp_line (s : State) (k : Nat) (f : PtpPort → PtpPort) : (s.modPtp k f).line = s.line := rfl
@[simp] theorem State.modPtp_cul (s : State) (k : Nat) (f : PtpPort → PtpPort) : (s.modPtp k f).cul = s.cul := rfl
@[simp] theorem State.modPtp_eng (s : State) (k : Nat) (f : PtpPort → PtpPort) : (s.modPtp k f).eng = s.eng := rfl
@[simp] theorem State.modPtp_slu (s : State) (k : Nat) (f : PtpPort → PtpPort) : (s.modPtp k f).slu = s.slu := rfl
@[simp] theorem State.modPtp_sea (s : State) (k : Nat) (f : PtpPort → PtpPort) : (s.modPtp k f).sea = s.sea := rfl
@[simp] theorem State.modPtp_boot (s : State) (k : Nat) (f : PtpPort → PtpPort) : (s.modPtp k f).boot = s.boot := rfl
@[simp] theorem State.modPtp_pwr (s : State) (k : Nat) (f : PtpPort → PtpPort) : (s.modPtp k f).pwr = s.pwr := rfl
@[simp] theorem State.modPtp_hka (s : State) (k : Nat) (f : PtpPort → PtpPort) : (s.modPtp k f).hka = s.hka := rfl
@[simp] theorem State.modPtp_gau (s : State) (k : Nat) (f : PtpPort → PtpPort) : (s.modPtp k f).gau = s.gau := rfl
@[simp] theorem State.modPtp_flt (s : State) (k : Nat) (f : PtpPort → PtpPort) : (s.modPtp k f).flt = s.flt := rfl
@[simp] theorem State.modPtp_pkg (s : State) (k : Nat) (f : PtpPort → PtpPort) : (s.modPtp k f).pkg = s.pkg := rfl

@[simp] theorem State.modCulLane_pending (s : State) (n : Nat) (f : CulLane → CulLane) : (s.modCulLane n f).pending = s.pending := rfl
@[simp] theorem State.modCulLane_regs (s : State) (n : Nat) (f : CulLane → CulLane) : (s.modCulLane n f).regs = s.regs := rfl
@[simp] theorem State.modCulLane_now (s : State) (n : Nat) (f : CulLane → CulLane) : (s.modCulLane n f).now = s.now := rfl
@[simp] theorem State.modCulLane_frac (s : State) (n : Nat) (f : CulLane → CulLane) : (s.modCulLane n f).frac = s.frac := rfl
@[simp] theorem State.modCulLane_free (s : State) (n : Nat) (f : CulLane → CulLane) : (s.modCulLane n f).free = s.free := rfl
@[simp] theorem State.modCulLane_hostMem (s : State) (n : Nat) (f : CulLane → CulLane) : (s.modCulLane n f).hostMem = s.hostMem := rfl
@[simp] theorem State.modCulLane_devMem (s : State) (n : Nat) (f : CulLane → CulLane) : (s.modCulLane n f).devMem = s.devMem := rfl
@[simp] theorem State.modCulLane_host (s : State) (n : Nat) (f : CulLane → CulLane) : (s.modCulLane n f).host = s.host := rfl
@[simp] theorem State.modCulLane_arch (s : State) (n : Nat) (f : CulLane → CulLane) : (s.modCulLane n f).arch = s.arch := rfl
@[simp] theorem State.modCulLane_tx (s : State) (n : Nat) (f : CulLane → CulLane) : (s.modCulLane n f).tx = s.tx := rfl
@[simp] theorem State.modCulLane_rx (s : State) (n : Nat) (f : CulLane → CulLane) : (s.modCulLane n f).rx = s.rx := rfl
@[simp] theorem State.modCulLane_beam (s : State) (n : Nat) (f : CulLane → CulLane) : (s.modCulLane n f).beam = s.beam := rfl
@[simp] theorem State.modCulLane_levee (s : State) (n : Nat) (f : CulLane → CulLane) : (s.modCulLane n f).levee = s.levee := rfl
@[simp] theorem State.modCulLane_rct (s : State) (n : Nat) (f : CulLane → CulLane) : (s.modCulLane n f).rct = s.rct := rfl
@[simp] theorem State.modCulLane_fh (s : State) (n : Nat) (f : CulLane → CulLane) : (s.modCulLane n f).fh = s.fh := rfl
@[simp] theorem State.modCulLane_line (s : State) (n : Nat) (f : CulLane → CulLane) : (s.modCulLane n f).line = s.line := rfl
@[simp] theorem State.modCulLane_tim (s : State) (n : Nat) (f : CulLane → CulLane) : (s.modCulLane n f).tim = s.tim := rfl
@[simp] theorem State.modCulLane_eng (s : State) (n : Nat) (f : CulLane → CulLane) : (s.modCulLane n f).eng = s.eng := rfl
@[simp] theorem State.modCulLane_slu (s : State) (n : Nat) (f : CulLane → CulLane) : (s.modCulLane n f).slu = s.slu := rfl
@[simp] theorem State.modCulLane_sea (s : State) (n : Nat) (f : CulLane → CulLane) : (s.modCulLane n f).sea = s.sea := rfl
@[simp] theorem State.modCulLane_boot (s : State) (n : Nat) (f : CulLane → CulLane) : (s.modCulLane n f).boot = s.boot := rfl
@[simp] theorem State.modCulLane_pwr (s : State) (n : Nat) (f : CulLane → CulLane) : (s.modCulLane n f).pwr = s.pwr := rfl
@[simp] theorem State.modCulLane_hka (s : State) (n : Nat) (f : CulLane → CulLane) : (s.modCulLane n f).hka = s.hka := rfl
@[simp] theorem State.modCulLane_gau (s : State) (n : Nat) (f : CulLane → CulLane) : (s.modCulLane n f).gau = s.gau := rfl
@[simp] theorem State.modCulLane_flt (s : State) (n : Nat) (f : CulLane → CulLane) : (s.modCulLane n f).flt = s.flt := rfl
@[simp] theorem State.modCulLane_pkg (s : State) (n : Nat) (f : CulLane → CulLane) : (s.modCulLane n f).pkg = s.pkg := rfl

@[simp] theorem State.modCulLink_pending (s : State) (k : Nat) (f : CulLink → CulLink) : (s.modCulLink k f).pending = s.pending := rfl
@[simp] theorem State.modCulLink_regs (s : State) (k : Nat) (f : CulLink → CulLink) : (s.modCulLink k f).regs = s.regs := rfl
@[simp] theorem State.modCulLink_now (s : State) (k : Nat) (f : CulLink → CulLink) : (s.modCulLink k f).now = s.now := rfl
@[simp] theorem State.modCulLink_frac (s : State) (k : Nat) (f : CulLink → CulLink) : (s.modCulLink k f).frac = s.frac := rfl
@[simp] theorem State.modCulLink_free (s : State) (k : Nat) (f : CulLink → CulLink) : (s.modCulLink k f).free = s.free := rfl
@[simp] theorem State.modCulLink_hostMem (s : State) (k : Nat) (f : CulLink → CulLink) : (s.modCulLink k f).hostMem = s.hostMem := rfl
@[simp] theorem State.modCulLink_devMem (s : State) (k : Nat) (f : CulLink → CulLink) : (s.modCulLink k f).devMem = s.devMem := rfl
@[simp] theorem State.modCulLink_host (s : State) (k : Nat) (f : CulLink → CulLink) : (s.modCulLink k f).host = s.host := rfl
@[simp] theorem State.modCulLink_arch (s : State) (k : Nat) (f : CulLink → CulLink) : (s.modCulLink k f).arch = s.arch := rfl
@[simp] theorem State.modCulLink_tx (s : State) (k : Nat) (f : CulLink → CulLink) : (s.modCulLink k f).tx = s.tx := rfl
@[simp] theorem State.modCulLink_rx (s : State) (k : Nat) (f : CulLink → CulLink) : (s.modCulLink k f).rx = s.rx := rfl
@[simp] theorem State.modCulLink_beam (s : State) (k : Nat) (f : CulLink → CulLink) : (s.modCulLink k f).beam = s.beam := rfl
@[simp] theorem State.modCulLink_levee (s : State) (k : Nat) (f : CulLink → CulLink) : (s.modCulLink k f).levee = s.levee := rfl
@[simp] theorem State.modCulLink_rct (s : State) (k : Nat) (f : CulLink → CulLink) : (s.modCulLink k f).rct = s.rct := rfl
@[simp] theorem State.modCulLink_fh (s : State) (k : Nat) (f : CulLink → CulLink) : (s.modCulLink k f).fh = s.fh := rfl
@[simp] theorem State.modCulLink_line (s : State) (k : Nat) (f : CulLink → CulLink) : (s.modCulLink k f).line = s.line := rfl
@[simp] theorem State.modCulLink_tim (s : State) (k : Nat) (f : CulLink → CulLink) : (s.modCulLink k f).tim = s.tim := rfl
@[simp] theorem State.modCulLink_eng (s : State) (k : Nat) (f : CulLink → CulLink) : (s.modCulLink k f).eng = s.eng := rfl
@[simp] theorem State.modCulLink_slu (s : State) (k : Nat) (f : CulLink → CulLink) : (s.modCulLink k f).slu = s.slu := rfl
@[simp] theorem State.modCulLink_sea (s : State) (k : Nat) (f : CulLink → CulLink) : (s.modCulLink k f).sea = s.sea := rfl
@[simp] theorem State.modCulLink_boot (s : State) (k : Nat) (f : CulLink → CulLink) : (s.modCulLink k f).boot = s.boot := rfl
@[simp] theorem State.modCulLink_pwr (s : State) (k : Nat) (f : CulLink → CulLink) : (s.modCulLink k f).pwr = s.pwr := rfl
@[simp] theorem State.modCulLink_hka (s : State) (k : Nat) (f : CulLink → CulLink) : (s.modCulLink k f).hka = s.hka := rfl
@[simp] theorem State.modCulLink_gau (s : State) (k : Nat) (f : CulLink → CulLink) : (s.modCulLink k f).gau = s.gau := rfl
@[simp] theorem State.modCulLink_flt (s : State) (k : Nat) (f : CulLink → CulLink) : (s.modCulLink k f).flt = s.flt := rfl
@[simp] theorem State.modCulLink_pkg (s : State) (k : Nat) (f : CulLink → CulLink) : (s.modCulLink k f).pkg = s.pkg := rfl

@[simp] theorem State.modPeer_pending (s : State) (k : Nat) (f : TunnelPeer → TunnelPeer) : (s.modPeer k f).pending = s.pending := rfl
@[simp] theorem State.modPeer_regs (s : State) (k : Nat) (f : TunnelPeer → TunnelPeer) : (s.modPeer k f).regs = s.regs := rfl
@[simp] theorem State.modPeer_now (s : State) (k : Nat) (f : TunnelPeer → TunnelPeer) : (s.modPeer k f).now = s.now := rfl
@[simp] theorem State.modPeer_frac (s : State) (k : Nat) (f : TunnelPeer → TunnelPeer) : (s.modPeer k f).frac = s.frac := rfl
@[simp] theorem State.modPeer_free (s : State) (k : Nat) (f : TunnelPeer → TunnelPeer) : (s.modPeer k f).free = s.free := rfl
@[simp] theorem State.modPeer_hostMem (s : State) (k : Nat) (f : TunnelPeer → TunnelPeer) : (s.modPeer k f).hostMem = s.hostMem := rfl
@[simp] theorem State.modPeer_devMem (s : State) (k : Nat) (f : TunnelPeer → TunnelPeer) : (s.modPeer k f).devMem = s.devMem := rfl
@[simp] theorem State.modPeer_host (s : State) (k : Nat) (f : TunnelPeer → TunnelPeer) : (s.modPeer k f).host = s.host := rfl
@[simp] theorem State.modPeer_arch (s : State) (k : Nat) (f : TunnelPeer → TunnelPeer) : (s.modPeer k f).arch = s.arch := rfl
@[simp] theorem State.modPeer_tx (s : State) (k : Nat) (f : TunnelPeer → TunnelPeer) : (s.modPeer k f).tx = s.tx := rfl
@[simp] theorem State.modPeer_rx (s : State) (k : Nat) (f : TunnelPeer → TunnelPeer) : (s.modPeer k f).rx = s.rx := rfl
@[simp] theorem State.modPeer_beam (s : State) (k : Nat) (f : TunnelPeer → TunnelPeer) : (s.modPeer k f).beam = s.beam := rfl
@[simp] theorem State.modPeer_levee (s : State) (k : Nat) (f : TunnelPeer → TunnelPeer) : (s.modPeer k f).levee = s.levee := rfl
@[simp] theorem State.modPeer_rct (s : State) (k : Nat) (f : TunnelPeer → TunnelPeer) : (s.modPeer k f).rct = s.rct := rfl
@[simp] theorem State.modPeer_fh (s : State) (k : Nat) (f : TunnelPeer → TunnelPeer) : (s.modPeer k f).fh = s.fh := rfl
@[simp] theorem State.modPeer_line (s : State) (k : Nat) (f : TunnelPeer → TunnelPeer) : (s.modPeer k f).line = s.line := rfl
@[simp] theorem State.modPeer_tim (s : State) (k : Nat) (f : TunnelPeer → TunnelPeer) : (s.modPeer k f).tim = s.tim := rfl
@[simp] theorem State.modPeer_eng (s : State) (k : Nat) (f : TunnelPeer → TunnelPeer) : (s.modPeer k f).eng = s.eng := rfl
@[simp] theorem State.modPeer_slu (s : State) (k : Nat) (f : TunnelPeer → TunnelPeer) : (s.modPeer k f).slu = s.slu := rfl
@[simp] theorem State.modPeer_sea (s : State) (k : Nat) (f : TunnelPeer → TunnelPeer) : (s.modPeer k f).sea = s.sea := rfl
@[simp] theorem State.modPeer_boot (s : State) (k : Nat) (f : TunnelPeer → TunnelPeer) : (s.modPeer k f).boot = s.boot := rfl
@[simp] theorem State.modPeer_pwr (s : State) (k : Nat) (f : TunnelPeer → TunnelPeer) : (s.modPeer k f).pwr = s.pwr := rfl
@[simp] theorem State.modPeer_hka (s : State) (k : Nat) (f : TunnelPeer → TunnelPeer) : (s.modPeer k f).hka = s.hka := rfl
@[simp] theorem State.modPeer_gau (s : State) (k : Nat) (f : TunnelPeer → TunnelPeer) : (s.modPeer k f).gau = s.gau := rfl
@[simp] theorem State.modPeer_flt (s : State) (k : Nat) (f : TunnelPeer → TunnelPeer) : (s.modPeer k f).flt = s.flt := rfl
@[simp] theorem State.modPeer_pkg (s : State) (k : Nat) (f : TunnelPeer → TunnelPeer) : (s.modPeer k f).pkg = s.pkg := rfl

@[simp] theorem State.modMsec_pending (s : State) (k : Nat) (f : MsecPort → MsecPort) : (s.modMsec k f).pending = s.pending := rfl
@[simp] theorem State.modMsec_regs (s : State) (k : Nat) (f : MsecPort → MsecPort) : (s.modMsec k f).regs = s.regs := rfl
@[simp] theorem State.modMsec_now (s : State) (k : Nat) (f : MsecPort → MsecPort) : (s.modMsec k f).now = s.now := rfl
@[simp] theorem State.modMsec_frac (s : State) (k : Nat) (f : MsecPort → MsecPort) : (s.modMsec k f).frac = s.frac := rfl
@[simp] theorem State.modMsec_free (s : State) (k : Nat) (f : MsecPort → MsecPort) : (s.modMsec k f).free = s.free := rfl
@[simp] theorem State.modMsec_hostMem (s : State) (k : Nat) (f : MsecPort → MsecPort) : (s.modMsec k f).hostMem = s.hostMem := rfl
@[simp] theorem State.modMsec_devMem (s : State) (k : Nat) (f : MsecPort → MsecPort) : (s.modMsec k f).devMem = s.devMem := rfl
@[simp] theorem State.modMsec_host (s : State) (k : Nat) (f : MsecPort → MsecPort) : (s.modMsec k f).host = s.host := rfl
@[simp] theorem State.modMsec_arch (s : State) (k : Nat) (f : MsecPort → MsecPort) : (s.modMsec k f).arch = s.arch := rfl
@[simp] theorem State.modMsec_tx (s : State) (k : Nat) (f : MsecPort → MsecPort) : (s.modMsec k f).tx = s.tx := rfl
@[simp] theorem State.modMsec_rx (s : State) (k : Nat) (f : MsecPort → MsecPort) : (s.modMsec k f).rx = s.rx := rfl
@[simp] theorem State.modMsec_beam (s : State) (k : Nat) (f : MsecPort → MsecPort) : (s.modMsec k f).beam = s.beam := rfl
@[simp] theorem State.modMsec_levee (s : State) (k : Nat) (f : MsecPort → MsecPort) : (s.modMsec k f).levee = s.levee := rfl
@[simp] theorem State.modMsec_rct (s : State) (k : Nat) (f : MsecPort → MsecPort) : (s.modMsec k f).rct = s.rct := rfl
@[simp] theorem State.modMsec_line (s : State) (k : Nat) (f : MsecPort → MsecPort) : (s.modMsec k f).line = s.line := rfl
@[simp] theorem State.modMsec_cul (s : State) (k : Nat) (f : MsecPort → MsecPort) : (s.modMsec k f).cul = s.cul := rfl
@[simp] theorem State.modMsec_tim (s : State) (k : Nat) (f : MsecPort → MsecPort) : (s.modMsec k f).tim = s.tim := rfl
@[simp] theorem State.modMsec_eng (s : State) (k : Nat) (f : MsecPort → MsecPort) : (s.modMsec k f).eng = s.eng := rfl
@[simp] theorem State.modMsec_slu (s : State) (k : Nat) (f : MsecPort → MsecPort) : (s.modMsec k f).slu = s.slu := rfl
@[simp] theorem State.modMsec_sea (s : State) (k : Nat) (f : MsecPort → MsecPort) : (s.modMsec k f).sea = s.sea := rfl
@[simp] theorem State.modMsec_boot (s : State) (k : Nat) (f : MsecPort → MsecPort) : (s.modMsec k f).boot = s.boot := rfl
@[simp] theorem State.modMsec_pwr (s : State) (k : Nat) (f : MsecPort → MsecPort) : (s.modMsec k f).pwr = s.pwr := rfl
@[simp] theorem State.modMsec_hka (s : State) (k : Nat) (f : MsecPort → MsecPort) : (s.modMsec k f).hka = s.hka := rfl
@[simp] theorem State.modMsec_gau (s : State) (k : Nat) (f : MsecPort → MsecPort) : (s.modMsec k f).gau = s.gau := rfl
@[simp] theorem State.modMsec_flt (s : State) (k : Nat) (f : MsecPort → MsecPort) : (s.modMsec k f).flt = s.flt := rfl
@[simp] theorem State.modMsec_pkg (s : State) (k : Nat) (f : MsecPort → MsecPort) : (s.modMsec k f).pkg = s.pkg := rfl

@[simp] theorem State.modLane_pending (s : State) (n : Nat) (f : LaneState → LaneState) : (s.modLane n f).pending = s.pending := rfl
@[simp] theorem State.modLane_regs (s : State) (n : Nat) (f : LaneState → LaneState) : (s.modLane n f).regs = s.regs := rfl
@[simp] theorem State.modLane_now (s : State) (n : Nat) (f : LaneState → LaneState) : (s.modLane n f).now = s.now := rfl
@[simp] theorem State.modLane_frac (s : State) (n : Nat) (f : LaneState → LaneState) : (s.modLane n f).frac = s.frac := rfl
@[simp] theorem State.modLane_free (s : State) (n : Nat) (f : LaneState → LaneState) : (s.modLane n f).free = s.free := rfl
@[simp] theorem State.modLane_hostMem (s : State) (n : Nat) (f : LaneState → LaneState) : (s.modLane n f).hostMem = s.hostMem := rfl
@[simp] theorem State.modLane_devMem (s : State) (n : Nat) (f : LaneState → LaneState) : (s.modLane n f).devMem = s.devMem := rfl
@[simp] theorem State.modLane_host (s : State) (n : Nat) (f : LaneState → LaneState) : (s.modLane n f).host = s.host := rfl
@[simp] theorem State.modLane_arch (s : State) (n : Nat) (f : LaneState → LaneState) : (s.modLane n f).arch = s.arch := rfl
@[simp] theorem State.modLane_tx (s : State) (n : Nat) (f : LaneState → LaneState) : (s.modLane n f).tx = s.tx := rfl
@[simp] theorem State.modLane_rx (s : State) (n : Nat) (f : LaneState → LaneState) : (s.modLane n f).rx = s.rx := rfl
@[simp] theorem State.modLane_beam (s : State) (n : Nat) (f : LaneState → LaneState) : (s.modLane n f).beam = s.beam := rfl
@[simp] theorem State.modLane_levee (s : State) (n : Nat) (f : LaneState → LaneState) : (s.modLane n f).levee = s.levee := rfl
@[simp] theorem State.modLane_rct (s : State) (n : Nat) (f : LaneState → LaneState) : (s.modLane n f).rct = s.rct := rfl
@[simp] theorem State.modLane_fh (s : State) (n : Nat) (f : LaneState → LaneState) : (s.modLane n f).fh = s.fh := rfl
@[simp] theorem State.modLane_cul (s : State) (n : Nat) (f : LaneState → LaneState) : (s.modLane n f).cul = s.cul := rfl
@[simp] theorem State.modLane_tim (s : State) (n : Nat) (f : LaneState → LaneState) : (s.modLane n f).tim = s.tim := rfl
@[simp] theorem State.modLane_eng (s : State) (n : Nat) (f : LaneState → LaneState) : (s.modLane n f).eng = s.eng := rfl
@[simp] theorem State.modLane_slu (s : State) (n : Nat) (f : LaneState → LaneState) : (s.modLane n f).slu = s.slu := rfl
@[simp] theorem State.modLane_sea (s : State) (n : Nat) (f : LaneState → LaneState) : (s.modLane n f).sea = s.sea := rfl
@[simp] theorem State.modLane_boot (s : State) (n : Nat) (f : LaneState → LaneState) : (s.modLane n f).boot = s.boot := rfl
@[simp] theorem State.modLane_pwr (s : State) (n : Nat) (f : LaneState → LaneState) : (s.modLane n f).pwr = s.pwr := rfl
@[simp] theorem State.modLane_hka (s : State) (n : Nat) (f : LaneState → LaneState) : (s.modLane n f).hka = s.hka := rfl
@[simp] theorem State.modLane_gau (s : State) (n : Nat) (f : LaneState → LaneState) : (s.modLane n f).gau = s.gau := rfl
@[simp] theorem State.modLane_flt (s : State) (n : Nat) (f : LaneState → LaneState) : (s.modLane n f).flt = s.flt := rfl
@[simp] theorem State.modLane_pkg (s : State) (n : Nat) (f : LaneState → LaneState) : (s.modLane n f).pkg = s.pkg := rfl

@[simp] theorem State.modPort_pending (s : State) (k : Nat) (f : PortState → PortState) : (s.modPort k f).pending = s.pending := rfl
@[simp] theorem State.modPort_regs (s : State) (k : Nat) (f : PortState → PortState) : (s.modPort k f).regs = s.regs := rfl
@[simp] theorem State.modPort_now (s : State) (k : Nat) (f : PortState → PortState) : (s.modPort k f).now = s.now := rfl
@[simp] theorem State.modPort_frac (s : State) (k : Nat) (f : PortState → PortState) : (s.modPort k f).frac = s.frac := rfl
@[simp] theorem State.modPort_free (s : State) (k : Nat) (f : PortState → PortState) : (s.modPort k f).free = s.free := rfl
@[simp] theorem State.modPort_hostMem (s : State) (k : Nat) (f : PortState → PortState) : (s.modPort k f).hostMem = s.hostMem := rfl
@[simp] theorem State.modPort_devMem (s : State) (k : Nat) (f : PortState → PortState) : (s.modPort k f).devMem = s.devMem := rfl
@[simp] theorem State.modPort_host (s : State) (k : Nat) (f : PortState → PortState) : (s.modPort k f).host = s.host := rfl
@[simp] theorem State.modPort_arch (s : State) (k : Nat) (f : PortState → PortState) : (s.modPort k f).arch = s.arch := rfl
@[simp] theorem State.modPort_tx (s : State) (k : Nat) (f : PortState → PortState) : (s.modPort k f).tx = s.tx := rfl
@[simp] theorem State.modPort_rx (s : State) (k : Nat) (f : PortState → PortState) : (s.modPort k f).rx = s.rx := rfl
@[simp] theorem State.modPort_beam (s : State) (k : Nat) (f : PortState → PortState) : (s.modPort k f).beam = s.beam := rfl
@[simp] theorem State.modPort_levee (s : State) (k : Nat) (f : PortState → PortState) : (s.modPort k f).levee = s.levee := rfl
@[simp] theorem State.modPort_rct (s : State) (k : Nat) (f : PortState → PortState) : (s.modPort k f).rct = s.rct := rfl
@[simp] theorem State.modPort_fh (s : State) (k : Nat) (f : PortState → PortState) : (s.modPort k f).fh = s.fh := rfl
@[simp] theorem State.modPort_cul (s : State) (k : Nat) (f : PortState → PortState) : (s.modPort k f).cul = s.cul := rfl
@[simp] theorem State.modPort_tim (s : State) (k : Nat) (f : PortState → PortState) : (s.modPort k f).tim = s.tim := rfl
@[simp] theorem State.modPort_eng (s : State) (k : Nat) (f : PortState → PortState) : (s.modPort k f).eng = s.eng := rfl
@[simp] theorem State.modPort_slu (s : State) (k : Nat) (f : PortState → PortState) : (s.modPort k f).slu = s.slu := rfl
@[simp] theorem State.modPort_sea (s : State) (k : Nat) (f : PortState → PortState) : (s.modPort k f).sea = s.sea := rfl
@[simp] theorem State.modPort_boot (s : State) (k : Nat) (f : PortState → PortState) : (s.modPort k f).boot = s.boot := rfl
@[simp] theorem State.modPort_pwr (s : State) (k : Nat) (f : PortState → PortState) : (s.modPort k f).pwr = s.pwr := rfl
@[simp] theorem State.modPort_hka (s : State) (k : Nat) (f : PortState → PortState) : (s.modPort k f).hka = s.hka := rfl
@[simp] theorem State.modPort_gau (s : State) (k : Nat) (f : PortState → PortState) : (s.modPort k f).gau = s.gau := rfl
@[simp] theorem State.modPort_flt (s : State) (k : Nat) (f : PortState → PortState) : (s.modPort k f).flt = s.flt := rfl
@[simp] theorem State.modPort_pkg (s : State) (k : Nat) (f : PortState → PortState) : (s.modPort k f).pkg = s.pkg := rfl

@[simp] theorem State.modSlu_pending (s : State) (c : Nat) (f : SluChan → SluChan) : (s.modSlu c f).pending = s.pending := rfl
@[simp] theorem State.modSlu_regs (s : State) (c : Nat) (f : SluChan → SluChan) : (s.modSlu c f).regs = s.regs := rfl
@[simp] theorem State.modSlu_now (s : State) (c : Nat) (f : SluChan → SluChan) : (s.modSlu c f).now = s.now := rfl
@[simp] theorem State.modSlu_frac (s : State) (c : Nat) (f : SluChan → SluChan) : (s.modSlu c f).frac = s.frac := rfl
@[simp] theorem State.modSlu_free (s : State) (c : Nat) (f : SluChan → SluChan) : (s.modSlu c f).free = s.free := rfl
@[simp] theorem State.modSlu_hostMem (s : State) (c : Nat) (f : SluChan → SluChan) : (s.modSlu c f).hostMem = s.hostMem := rfl
@[simp] theorem State.modSlu_devMem (s : State) (c : Nat) (f : SluChan → SluChan) : (s.modSlu c f).devMem = s.devMem := rfl
@[simp] theorem State.modSlu_host (s : State) (c : Nat) (f : SluChan → SluChan) : (s.modSlu c f).host = s.host := rfl
@[simp] theorem State.modSlu_arch (s : State) (c : Nat) (f : SluChan → SluChan) : (s.modSlu c f).arch = s.arch := rfl
@[simp] theorem State.modSlu_tx (s : State) (c : Nat) (f : SluChan → SluChan) : (s.modSlu c f).tx = s.tx := rfl
@[simp] theorem State.modSlu_rx (s : State) (c : Nat) (f : SluChan → SluChan) : (s.modSlu c f).rx = s.rx := rfl
@[simp] theorem State.modSlu_beam (s : State) (c : Nat) (f : SluChan → SluChan) : (s.modSlu c f).beam = s.beam := rfl
@[simp] theorem State.modSlu_levee (s : State) (c : Nat) (f : SluChan → SluChan) : (s.modSlu c f).levee = s.levee := rfl
@[simp] theorem State.modSlu_rct (s : State) (c : Nat) (f : SluChan → SluChan) : (s.modSlu c f).rct = s.rct := rfl
@[simp] theorem State.modSlu_fh (s : State) (c : Nat) (f : SluChan → SluChan) : (s.modSlu c f).fh = s.fh := rfl
@[simp] theorem State.modSlu_line (s : State) (c : Nat) (f : SluChan → SluChan) : (s.modSlu c f).line = s.line := rfl
@[simp] theorem State.modSlu_cul (s : State) (c : Nat) (f : SluChan → SluChan) : (s.modSlu c f).cul = s.cul := rfl
@[simp] theorem State.modSlu_tim (s : State) (c : Nat) (f : SluChan → SluChan) : (s.modSlu c f).tim = s.tim := rfl
@[simp] theorem State.modSlu_eng (s : State) (c : Nat) (f : SluChan → SluChan) : (s.modSlu c f).eng = s.eng := rfl
@[simp] theorem State.modSlu_sea (s : State) (c : Nat) (f : SluChan → SluChan) : (s.modSlu c f).sea = s.sea := rfl
@[simp] theorem State.modSlu_boot (s : State) (c : Nat) (f : SluChan → SluChan) : (s.modSlu c f).boot = s.boot := rfl
@[simp] theorem State.modSlu_pwr (s : State) (c : Nat) (f : SluChan → SluChan) : (s.modSlu c f).pwr = s.pwr := rfl
@[simp] theorem State.modSlu_hka (s : State) (c : Nat) (f : SluChan → SluChan) : (s.modSlu c f).hka = s.hka := rfl
@[simp] theorem State.modSlu_gau (s : State) (c : Nat) (f : SluChan → SluChan) : (s.modSlu c f).gau = s.gau := rfl
@[simp] theorem State.modSlu_flt (s : State) (c : Nat) (f : SluChan → SluChan) : (s.modSlu c f).flt = s.flt := rfl
@[simp] theorem State.modSlu_pkg (s : State) (c : Nat) (f : SluChan → SluChan) : (s.modSlu c f).pkg = s.pkg := rfl

@[simp] theorem State.setCap_pending (s : State) (k : Nat) (c : Capture) : (s.setCap k c).pending = s.pending := rfl
@[simp] theorem State.setCap_regs (s : State) (k : Nat) (c : Capture) : (s.setCap k c).regs = s.regs := rfl
@[simp] theorem State.setCap_now (s : State) (k : Nat) (c : Capture) : (s.setCap k c).now = s.now := rfl
@[simp] theorem State.setCap_frac (s : State) (k : Nat) (c : Capture) : (s.setCap k c).frac = s.frac := rfl
@[simp] theorem State.setCap_free (s : State) (k : Nat) (c : Capture) : (s.setCap k c).free = s.free := rfl
@[simp] theorem State.setCap_hostMem (s : State) (k : Nat) (c : Capture) : (s.setCap k c).hostMem = s.hostMem := rfl
@[simp] theorem State.setCap_devMem (s : State) (k : Nat) (c : Capture) : (s.setCap k c).devMem = s.devMem := rfl
@[simp] theorem State.setCap_host (s : State) (k : Nat) (c : Capture) : (s.setCap k c).host = s.host := rfl
@[simp] theorem State.setCap_arch (s : State) (k : Nat) (c : Capture) : (s.setCap k c).arch = s.arch := rfl
@[simp] theorem State.setCap_tx (s : State) (k : Nat) (c : Capture) : (s.setCap k c).tx = s.tx := rfl
@[simp] theorem State.setCap_rx (s : State) (k : Nat) (c : Capture) : (s.setCap k c).rx = s.rx := rfl
@[simp] theorem State.setCap_beam (s : State) (k : Nat) (c : Capture) : (s.setCap k c).beam = s.beam := rfl
@[simp] theorem State.setCap_levee (s : State) (k : Nat) (c : Capture) : (s.setCap k c).levee = s.levee := rfl
@[simp] theorem State.setCap_rct (s : State) (k : Nat) (c : Capture) : (s.setCap k c).rct = s.rct := rfl
@[simp] theorem State.setCap_fh (s : State) (k : Nat) (c : Capture) : (s.setCap k c).fh = s.fh := rfl
@[simp] theorem State.setCap_line (s : State) (k : Nat) (c : Capture) : (s.setCap k c).line = s.line := rfl
@[simp] theorem State.setCap_cul (s : State) (k : Nat) (c : Capture) : (s.setCap k c).cul = s.cul := rfl
@[simp] theorem State.setCap_tim (s : State) (k : Nat) (c : Capture) : (s.setCap k c).tim = s.tim := rfl
@[simp] theorem State.setCap_eng (s : State) (k : Nat) (c : Capture) : (s.setCap k c).eng = s.eng := rfl
@[simp] theorem State.setCap_slu (s : State) (k : Nat) (c : Capture) : (s.setCap k c).slu = s.slu := rfl
@[simp] theorem State.setCap_sea (s : State) (k : Nat) (c : Capture) : (s.setCap k c).sea = s.sea := rfl
@[simp] theorem State.setCap_boot (s : State) (k : Nat) (c : Capture) : (s.setCap k c).boot = s.boot := rfl
@[simp] theorem State.setCap_pwr (s : State) (k : Nat) (c : Capture) : (s.setCap k c).pwr = s.pwr := rfl
@[simp] theorem State.setCap_hka (s : State) (k : Nat) (c : Capture) : (s.setCap k c).hka = s.hka := rfl
@[simp] theorem State.setCap_flt (s : State) (k : Nat) (c : Capture) : (s.setCap k c).flt = s.flt := rfl
@[simp] theorem State.setCap_pkg (s : State) (k : Nat) (c : Capture) : (s.setCap k c).pkg = s.pkg := rfl

@[simp] theorem State.setSlot_pending (s : State) (k : Nat) (x : Slot) : (s.setSlot k x).pending = s.pending := rfl
@[simp] theorem State.setSlot_regs (s : State) (k : Nat) (x : Slot) : (s.setSlot k x).regs = s.regs := rfl
@[simp] theorem State.setSlot_now (s : State) (k : Nat) (x : Slot) : (s.setSlot k x).now = s.now := rfl
@[simp] theorem State.setSlot_frac (s : State) (k : Nat) (x : Slot) : (s.setSlot k x).frac = s.frac := rfl
@[simp] theorem State.setSlot_free (s : State) (k : Nat) (x : Slot) : (s.setSlot k x).free = s.free := rfl
@[simp] theorem State.setSlot_hostMem (s : State) (k : Nat) (x : Slot) : (s.setSlot k x).hostMem = s.hostMem := rfl
@[simp] theorem State.setSlot_devMem (s : State) (k : Nat) (x : Slot) : (s.setSlot k x).devMem = s.devMem := rfl
@[simp] theorem State.setSlot_host (s : State) (k : Nat) (x : Slot) : (s.setSlot k x).host = s.host := rfl
@[simp] theorem State.setSlot_arch (s : State) (k : Nat) (x : Slot) : (s.setSlot k x).arch = s.arch := rfl
@[simp] theorem State.setSlot_tx (s : State) (k : Nat) (x : Slot) : (s.setSlot k x).tx = s.tx := rfl
@[simp] theorem State.setSlot_rx (s : State) (k : Nat) (x : Slot) : (s.setSlot k x).rx = s.rx := rfl
@[simp] theorem State.setSlot_beam (s : State) (k : Nat) (x : Slot) : (s.setSlot k x).beam = s.beam := rfl
@[simp] theorem State.setSlot_levee (s : State) (k : Nat) (x : Slot) : (s.setSlot k x).levee = s.levee := rfl
@[simp] theorem State.setSlot_rct (s : State) (k : Nat) (x : Slot) : (s.setSlot k x).rct = s.rct := rfl
@[simp] theorem State.setSlot_fh (s : State) (k : Nat) (x : Slot) : (s.setSlot k x).fh = s.fh := rfl
@[simp] theorem State.setSlot_line (s : State) (k : Nat) (x : Slot) : (s.setSlot k x).line = s.line := rfl
@[simp] theorem State.setSlot_cul (s : State) (k : Nat) (x : Slot) : (s.setSlot k x).cul = s.cul := rfl
@[simp] theorem State.setSlot_tim (s : State) (k : Nat) (x : Slot) : (s.setSlot k x).tim = s.tim := rfl
@[simp] theorem State.setSlot_eng (s : State) (k : Nat) (x : Slot) : (s.setSlot k x).eng = s.eng := rfl
@[simp] theorem State.setSlot_slu (s : State) (k : Nat) (x : Slot) : (s.setSlot k x).slu = s.slu := rfl
@[simp] theorem State.setSlot_sea (s : State) (k : Nat) (x : Slot) : (s.setSlot k x).sea = s.sea := rfl
@[simp] theorem State.setSlot_pwr (s : State) (k : Nat) (x : Slot) : (s.setSlot k x).pwr = s.pwr := rfl
@[simp] theorem State.setSlot_hka (s : State) (k : Nat) (x : Slot) : (s.setSlot k x).hka = s.hka := rfl
@[simp] theorem State.setSlot_gau (s : State) (k : Nat) (x : Slot) : (s.setSlot k x).gau = s.gau := rfl
@[simp] theorem State.setSlot_flt (s : State) (k : Nat) (x : Slot) : (s.setSlot k x).flt = s.flt := rfl
@[simp] theorem State.setSlot_pkg (s : State) (k : Nat) (x : Slot) : (s.setSlot k x).pkg = s.pkg := rfl

@[simp] theorem State.setSuspect_pending (s : State) (c : Nat) (b : Bool) : (s.setSuspect c b).pending = s.pending := rfl
@[simp] theorem State.setSuspect_regs (s : State) (c : Nat) (b : Bool) : (s.setSuspect c b).regs = s.regs := rfl
@[simp] theorem State.setSuspect_now (s : State) (c : Nat) (b : Bool) : (s.setSuspect c b).now = s.now := rfl
@[simp] theorem State.setSuspect_frac (s : State) (c : Nat) (b : Bool) : (s.setSuspect c b).frac = s.frac := rfl
@[simp] theorem State.setSuspect_free (s : State) (c : Nat) (b : Bool) : (s.setSuspect c b).free = s.free := rfl
@[simp] theorem State.setSuspect_hostMem (s : State) (c : Nat) (b : Bool) : (s.setSuspect c b).hostMem = s.hostMem := rfl
@[simp] theorem State.setSuspect_devMem (s : State) (c : Nat) (b : Bool) : (s.setSuspect c b).devMem = s.devMem := rfl
@[simp] theorem State.setSuspect_host (s : State) (c : Nat) (b : Bool) : (s.setSuspect c b).host = s.host := rfl
@[simp] theorem State.setSuspect_arch (s : State) (c : Nat) (b : Bool) : (s.setSuspect c b).arch = s.arch := rfl
@[simp] theorem State.setSuspect_tx (s : State) (c : Nat) (b : Bool) : (s.setSuspect c b).tx = s.tx := rfl
@[simp] theorem State.setSuspect_rx (s : State) (c : Nat) (b : Bool) : (s.setSuspect c b).rx = s.rx := rfl
@[simp] theorem State.setSuspect_beam (s : State) (c : Nat) (b : Bool) : (s.setSuspect c b).beam = s.beam := rfl
@[simp] theorem State.setSuspect_levee (s : State) (c : Nat) (b : Bool) : (s.setSuspect c b).levee = s.levee := rfl
@[simp] theorem State.setSuspect_rct (s : State) (c : Nat) (b : Bool) : (s.setSuspect c b).rct = s.rct := rfl
@[simp] theorem State.setSuspect_fh (s : State) (c : Nat) (b : Bool) : (s.setSuspect c b).fh = s.fh := rfl
@[simp] theorem State.setSuspect_line (s : State) (c : Nat) (b : Bool) : (s.setSuspect c b).line = s.line := rfl
@[simp] theorem State.setSuspect_cul (s : State) (c : Nat) (b : Bool) : (s.setSuspect c b).cul = s.cul := rfl
@[simp] theorem State.setSuspect_tim (s : State) (c : Nat) (b : Bool) : (s.setSuspect c b).tim = s.tim := rfl
@[simp] theorem State.setSuspect_eng (s : State) (c : Nat) (b : Bool) : (s.setSuspect c b).eng = s.eng := rfl
@[simp] theorem State.setSuspect_slu (s : State) (c : Nat) (b : Bool) : (s.setSuspect c b).slu = s.slu := rfl
@[simp] theorem State.setSuspect_sea (s : State) (c : Nat) (b : Bool) : (s.setSuspect c b).sea = s.sea := rfl
@[simp] theorem State.setSuspect_boot (s : State) (c : Nat) (b : Bool) : (s.setSuspect c b).boot = s.boot := rfl
@[simp] theorem State.setSuspect_pwr (s : State) (c : Nat) (b : Bool) : (s.setSuspect c b).pwr = s.pwr := rfl
@[simp] theorem State.setSuspect_gau (s : State) (c : Nat) (b : Bool) : (s.setSuspect c b).gau = s.gau := rfl
@[simp] theorem State.setSuspect_flt (s : State) (c : Nat) (b : Bool) : (s.setSuspect c b).flt = s.flt := rfl
@[simp] theorem State.setSuspect_pkg (s : State) (c : Nat) (b : Bool) : (s.setSuspect c b).pkg = s.pkg := rfl

end Sys2Proof.Machine
end

