-- ==== Sys2Proof/Tests/Slice0.lean ====
section
/-! SUPPORT. Tests: every check of `WellFormed` refuses an ill-formed term; the hypotheses of every statement are met by a small state, at the ends
of their ranges; and the model agrees with the spec's worked examples. -/
namespace Sys2Proof.Tests
open Sys2Proof Sys2Proof.Machine
set_option Elab.async false

/-! ### Every check refuses a term that breaks it, whatever its other fields -/

theorem test_wf_Hdr (c : Hdr) :
    ¬ Hdr.wf { c with ring := 32 } ∧
    ¬ Hdr.wf { c with tag := 65536 } ∧
    ¬ Hdr.wf { c with effFrame := (2 ^ 32) } ∧
    ¬ Hdr.wf { c with effTick := 65536 } := by
  simp

theorem test_wf_TxTileCmd (c : TxTileCmd) :
    ¬ TxTileCmd.wf { c with tile := 256 } ∧
    ¬ TxTileCmd.wf { c with ftw := (2 ^ 48) } ∧
    ¬ TxTileCmd.wf { c with gains := [] } ∧
    ¬ TxTileCmd.wf { c with gains := List.replicate 8 65536 } := by
  simp

theorem test_wf_RffeOp (c : RffeOp) :
    ¬ RffeOp.wf { c with usid := 16 } ∧
    ¬ RffeOp.wf { c with kind := 16 } ∧
    ¬ RffeOp.wf { c with count := 256 } ∧
    ¬ RffeOp.wf { c with addr := 65536 } ∧
    ¬ RffeOp.wf { c with data := (2 ^ 32) } := by
  simp

theorem test_wf_RffeCmd (c : RffeCmd) :
    ¬ RffeCmd.wf { c with tile := 256 } ∧
    ¬ RffeCmd.wf { c with nops := 256 } ∧
    ¬ RffeCmd.wf { c with timing := 256 } ∧
    ¬ RffeCmd.wf { c with result := (2 ^ 64) } ∧
    ¬ RffeCmd.wf { c with ops := [] } ∧
    (∀ x : RffeOp, ¬ RffeCmd.wf { c with ops := List.replicate 4 { x with usid := 16 } }) := by
  simp

theorem test_wf_TxCarrierCmd (c : TxCarrierCmd) :
    ¬ TxCarrierCmd.wf { c with tileMask := 256 } ∧
    ¬ TxCarrierCmd.wf { c with carrier := 8 } ∧
    ¬ TxCarrierCmd.wf { c with num := 16 } ∧
    ¬ TxCarrierCmd.wf { c with log2n := 256 } ∧
    ¬ TxCarrierCmd.wf { c with nprb := 65536 } ∧
    ¬ TxCarrierCmd.wf { c with gain := 65536 } ∧
    ¬ TxCarrierCmd.wf { c with ftw := (2 ^ 48) } ∧
    ¬ TxCarrierCmd.wf { c with f0khz := (2 ^ 25) } ∧
    ¬ TxCarrierCmd.wf { c with cfrWeight := 256 } := by
  simp

theorem test_wf_BiasSetCmd (c : BiasSetCmd) :
    ¬ BiasSetCmd.wf { c with tile := 256 } ∧
    ¬ BiasSetCmd.wf { c with dac := 256 } ∧
    ¬ BiasSetCmd.wf { c with span := 4 } ∧
    ¬ BiasSetCmd.wf { c with code := 65536 } := by
  simp

theorem test_wf_DdsToneCmd (c : DdsToneCmd) :
    ¬ DdsToneCmd.wf { c with pathMask := (2 ^ 64) } ∧
    ¬ DdsToneCmd.wf { c with ftw := (2 ^ 48) } ∧
    ¬ DdsToneCmd.wf { c with ampl := 65536 } ∧
    ¬ DdsToneCmd.wf { c with phase := 65536 } := by
  simp

theorem test_wf_RxCarrierCmd (c : RxCarrierCmd) :
    ¬ RxCarrierCmd.wf { c with tileMask := 256 } ∧
    ¬ RxCarrierCmd.wf { c with carrier := 8 } ∧
    ¬ RxCarrierCmd.wf { c with num := 8 } ∧
    ¬ RxCarrierCmd.wf { c with log2n := 256 } ∧
    ¬ RxCarrierCmd.wf { c with nprb := 65536 } ∧
    ¬ RxCarrierCmd.wf { c with gain := 65536 } ∧
    ¬ RxCarrierCmd.wf { c with ftw := (2 ^ 48) } ∧
    ¬ RxCarrierCmd.wf { c with filter := 32 } ∧
    ¬ RxCarrierCmd.wf { c with f0khz := (2 ^ 25) } ∧
    ¬ RxCarrierCmd.wf { c with winAdv := 65536 } := by
  simp

theorem test_wf_RxExtractCmd (c : RxExtractCmd) :
    ¬ RxExtractCmd.wf { c with tileMask := 256 } ∧
    ¬ RxExtractCmd.wf { c with entry := 16 } ∧
    ¬ RxExtractCmd.wf { c with carrier := 256 } ∧
    ¬ RxExtractCmd.wf { c with buf := 256 } ∧
    ¬ RxExtractCmd.wf { c with symMask := (2 ^ 14) } ∧
    ¬ RxExtractCmd.wf { c with prbStart := 65536 } ∧
    ¬ RxExtractCmd.wf { c with prbCount := 65536 } ∧
    ¬ RxExtractCmd.wf { c with combLog2 := 4 } ∧
    ¬ RxExtractCmd.wf { c with combOffset := 8 } ∧
    ¬ RxExtractCmd.wf { c with slotPeriod := 65536 } ∧
    ¬ RxExtractCmd.wf { c with slotOffset := 65536 } := by
  simp

theorem test_wf_BeamLoadCmd (c : BeamLoadCmd) :
    ¬ BeamLoadCmd.wf { c with bank := 2 } ∧
    ¬ BeamLoadCmd.wf { c with first := 65536 } ∧
    ¬ BeamLoadCmd.wf { c with count := 65536 } ∧
    ¬ BeamLoadCmd.wf { c with src := (2 ^ 64) } ∧
    ¬ BeamLoadCmd.wf { c with index := (2 ^ 64) } := by
  simp

theorem test_wf_CovSetupCmd (c : CovSetupCmd) :
    ¬ CovSetupCmd.wf { c with carrier := 8 } ∧
    ¬ CovSetupCmd.wf { c with layers := 256 } ∧
    ¬ CovSetupCmd.wf { c with sbPrb := 65536 } ∧
    ¬ CovSetupCmd.wf { c with prbFirst := 65536 } ∧
    ¬ CovSetupCmd.wf { c with prbCount := 65536 } ∧
    ¬ CovSetupCmd.wf { c with base := 65536 } ∧
    ¬ CovSetupCmd.wf { c with period := 65536 } ∧
    ¬ CovSetupCmd.wf { c with offset := 65536 } ∧
    ¬ CovSetupCmd.wf { c with reg := 65536 } ∧
    ¬ CovSetupCmd.wf { c with symMask := (2 ^ 14) } ∧
    ¬ CovSetupCmd.wf { c with autoBlend := 16 } ∧
    ¬ CovSetupCmd.wf { c with paramAddr := (2 ^ 64) } := by
  simp

theorem test_wf_AcdCmd (c : AcdCmd) :
    ¬ AcdCmd.wf { c with config := 16 } ∧
    ¬ AcdCmd.wf { c with carrier := 256 } ∧
    ¬ AcdCmd.wf { c with format := 256 } ∧
    ¬ AcdCmd.wf { c with scs := 256 } ∧
    ¬ AcdCmd.wf { c with framePeriod := 256 } ∧
    ¬ AcdCmd.wf { c with frameOffset := 256 } ∧
    ¬ AcdCmd.wf { c with firstSymbol := 256 } ∧
    ¬ AcdCmd.wf { c with occasions := 256 } ∧
    ¬ AcdCmd.wf { c with slotMask := (2 ^ 80) } ∧
    ¬ AcdCmd.wf { c with fdm := 256 } ∧
    ¬ AcdCmd.wf { c with prbStart := 65536 } ∧
    ¬ AcdCmd.wf { c with root := 65536 } ∧
    ¬ AcdCmd.wf { c with ncs := 65536 } ∧
    ¬ AcdCmd.wf { c with preambles := 256 } ∧
    ¬ AcdCmd.wf { c with set := 4 } ∧
    ¬ AcdCmd.wf { c with beamFirst := 65536 } ∧
    ¬ AcdCmd.wf { c with beams := 256 } ∧
    ¬ AcdCmd.wf { c with thresh := 65536 } := by
  simp

theorem test_wf_FoCmd (c : FoCmd) :
    ¬ FoCmd.wf { c with entry := 32 } ∧
    ¬ FoCmd.wf { c with carrier := 256 } ∧
    ¬ FoCmd.wf { c with layerMask := (2 ^ 32) } ∧
    ¬ FoCmd.wf { c with l1 := 256 } ∧
    ¬ FoCmd.wf { c with l2 := 256 } ∧
    ¬ FoCmd.wf { c with prbFirst := 65536 } ∧
    ¬ FoCmd.wf { c with prbCount := 65536 } ∧
    ¬ FoCmd.wf { c with dmrs := 4 } ∧
    ¬ FoCmd.wf { c with scrambling := 65536 } ∧
    ¬ FoCmd.wf { c with slotPeriod := 65536 } ∧
    ¬ FoCmd.wf { c with slotOffset := 65536 } ∧
    ¬ FoCmd.wf { c with portBase := 256 } := by
  simp

theorem test_wf_FhCarrierCmd (c : FhCarrierCmd) :
    ¬ FhCarrierCmd.wf { c with carrier := 8 } ∧
    ¬ FhCarrierCmd.wf { c with transport := 256 } ∧
    ¬ FhCarrierCmd.wf { c with method := 16 } ∧
    ¬ FhCarrierCmd.wf { c with width := 16 } := by
  simp

theorem test_wf_CoopSetCmd (c : CoopSetCmd) :
    ¬ CoopSetCmd.wf { c with index := 256 } ∧
    ¬ CoopSetCmd.wf { c with position := 256 } ∧
    ¬ CoopSetCmd.wf { c with members := 256 } ∧
    ¬ CoopSetCmd.wf { c with setId := 65536 } ∧
    ¬ CoopSetCmd.wf { c with vid := 4096 } ∧
    ¬ CoopSetCmd.wf { c with pcp := 8 } ∧
    ¬ CoopSetCmd.wf { c with group := (2 ^ 48) } ∧
    ¬ CoopSetCmd.wf { c with upPort := 256 } ∧
    ¬ CoopSetCmd.wf { c with downPort := 256 } ∧
    ¬ CoopSetCmd.wf { c with downMac := (2 ^ 48) } ∧
    ¬ CoopSetCmd.wf { c with carriers := 256 } ∧
    ¬ CoopSetCmd.wf { c with first := 32 } ∧
    ¬ CoopSetCmd.wf { c with layers := 256 } ∧
    ¬ CoopSetCmd.wf { c with finalShift := 8 } ∧
    ¬ CoopSetCmd.wf { c with bs := 256 } ∧
    ¬ CoopSetCmd.wf { c with segPrb := 256 } ∧
    ¬ CoopSetCmd.wf { c with upDelay := (2 ^ 32) } := by
  simp

theorem test_wf_FhOwdmCmd (c : FhOwdmCmd) :
    ¬ FhOwdmCmd.wf { c with port := 256 } ∧
    ¬ FhOwdmCmd.wf { c with peer := (2 ^ 48) } ∧
    ¬ FhOwdmCmd.wf { c with eaxc := 65536 } ∧
    ¬ FhOwdmCmd.wf { c with id := 256 } ∧
    ¬ FhOwdmCmd.wf { c with result := (2 ^ 64) } := by
  simp

theorem test_wf_OtaCmd (c : OtaCmd) :
    ¬ OtaCmd.wf { c with role := 256 } ∧
    ¬ OtaCmd.wf { c with tile := 256 } ∧
    ¬ OtaCmd.wf { c with carrier := 256 } ∧
    ¬ OtaCmd.wf { c with partner := 65536 } ∧
    ¬ OtaCmd.wf { c with txBeam := 65536 } ∧
    ¬ OtaCmd.wf { c with rxBeam := 65536 } ∧
    ¬ OtaCmd.wf { c with addr := (2 ^ 64) } := by
  simp

theorem test_wf_GauStreamCmd (c : GauStreamCmd) :
    ¬ GauStreamCmd.wf { c with stream := 256 } ∧
    ¬ GauStreamCmd.wf { c with tap := 256 } ∧
    ¬ GauStreamCmd.wf { c with sel := 256 } ∧
    ¬ GauStreamCmd.wf { c with carrier := 256 } ∧
    ¬ GauStreamCmd.wf { c with d := 65536 } ∧
    ¬ GauStreamCmd.wf { c with first := 65536 } ∧
    ¬ GauStreamCmd.wf { c with pages := 65536 } ∧
    ¬ GauStreamCmd.wf { c with segments := 256 } := by
  simp

theorem test_wf_GauArmCmd (c : GauArmCmd) :
    ¬ GauArmCmd.wf { c with mask := 256 } ∧
    ¬ GauArmCmd.wf { c with source := 256 } ∧
    ¬ GauArmCmd.wf { c with cond := 64 } ∧
    ¬ GauArmCmd.wf { c with pre := (2 ^ 32) } ∧
    ¬ GauArmCmd.wf { c with post := (2 ^ 32) } ∧
    ¬ GauArmCmd.wf { c with autoUs := (2 ^ 32) } ∧
    ¬ GauArmCmd.wf { c with level := 65536 } ∧
    ¬ GauArmCmd.wf { c with power := 65536 } ∧
    ¬ GauArmCmd.wf { c with wlog := 16 } ∧
    ¬ GauArmCmd.wf { c with leveeMask := 8 } ∧
    ¬ GauArmCmd.wf { c with hold := 256 } ∧
    ¬ GauArmCmd.wf { c with frame := (2 ^ 32) } ∧
    ¬ GauArmCmd.wf { c with tick := 65536 } ∧
    ¬ GauArmCmd.wf { c with tOfs := (2 ^ 32) } ∧
    ¬ GauArmCmd.wf { c with dest := (2 ^ 64) } ∧
    ¬ GauArmCmd.wf { c with stride := (2 ^ 32) } := by
  simp

theorem test_wf_Cmd_0 :
    ¬ Cmd.wf (.profile 8) ∧
    (∀ a b d, ¬ Cmd.wf (.pwrState 256 a b d)) ∧
    (∀ a b d, ¬ Cmd.wf (.pwrState a 256 b d)) ∧
    (∀ a b d, ¬ Cmd.wf (.pwrState a b 8 d)) ∧
    (∀ a b d, ¬ Cmd.wf (.pwrState a b d (2 ^ 32))) ∧
    (∀ c : TxCarrierCmd, ¬ Cmd.wf (.txCarrier { c with carrier := 8 })) ∧
    (∀ c : TxTileCmd, ¬ Cmd.wf (.txTile { c with tile := 256 })) ∧
    (∀ a b d, ¬ Cmd.wf (.dpdLoad 256 a b d)) ∧
    (∀ a b d, ¬ Cmd.wf (.dpdLoad a 256 b d)) ∧
    (∀ a b d, ¬ Cmd.wf (.dpdLoad a b 65536 d)) ∧
    (∀ a b d, ¬ Cmd.wf (.dpdLoad a b d (2 ^ 64))) ∧
    (∀ a b, ¬ Cmd.wf (.dpdSwap 256 a b)) ∧
    (∀ a b, ¬ Cmd.wf (.dpdSwap a 256 b)) ∧
    (∀ a b, ¬ Cmd.wf (.dpdSwap a b 256)) ∧
    (∀ c : BiasSetCmd, ¬ Cmd.wf (.biasSet { c with span := 4 })) ∧
    (∀ c : DdsToneCmd, ¬ Cmd.wf (.ddsTone { c with ftw := 2 ^ 48 })) ∧
    (∀ c : RxCarrierCmd, ¬ Cmd.wf (.rxCarrier { c with carrier := 8 })) ∧
    (∀ c : RxExtractCmd, ¬ Cmd.wf (.rxExtract { c with entry := 16 })) ∧
    (∀ a b d e, ¬ Cmd.wf (.bfLayers 8 a b d e)) ∧
    (∀ a b d e, ¬ Cmd.wf (.bfLayers a b 256 d e)) ∧
    (∀ a b d e, ¬ Cmd.wf (.bfLayers a b d 8 e)) ∧
    (∀ a b d e, ¬ Cmd.wf (.bfLayers a b d e (2 ^ 128))) ∧
    (∀ c : BeamLoadCmd, ¬ Cmd.wf (.beamLoad { c with bank := 2 })) ∧
    ¬ Cmd.wf (.beamSwap 256) ∧
    (∀ c : CovSetupCmd, ¬ Cmd.wf (.covSetup { c with carrier := 8 })) ∧
    (∀ c : AcdCmd, ¬ Cmd.wf (.acdOccasion { c with config := 16 })) ∧
    (∀ c : FoCmd, ¬ Cmd.wf (.foReport { c with entry := 32 })) ∧
    ¬ Cmd.wf (.leveeCert (2 ^ 64)) ∧
    ¬ Cmd.wf (.leveeUnmute (2 ^ 64)) ∧
    (∀ a b d e, ¬ Cmd.wf (.rctPattern 256 a b d e)) ∧
    (∀ a b d e, ¬ Cmd.wf (.rctPattern a 256 b d e)) ∧
    (∀ a b d e, ¬ Cmd.wf (.rctPattern a b 65536 d e)) ∧
    (∀ a b d e, ¬ Cmd.wf (.rctPattern a b d (2 ^ 64) e)) ∧
    (∀ a b d e, ¬ Cmd.wf (.rctPattern a b d e [0])) ∧
    (∀ a, ¬ Cmd.wf (.tileState 256 a)) ∧
    (∀ a, ¬ Cmd.wf (.tileState a 256)) ∧
    (∀ c : RffeCmd, ¬ Cmd.wf (.rffeXfer { c with tile := 256 })) ∧
    (∀ a b d, ¬ Cmd.wf (.aerial 256 a b d)) ∧
    (∀ a b d, ¬ Cmd.wf (.aerial a 256 b d)) ∧
    (∀ c : FhCarrierCmd, ¬ Cmd.wf (.fhCarrier { c with carrier := 8 })) := by
  simp [Cmd.wf]

theorem test_wf_Cmd_1 :
    (∀ c : CoopSetCmd, ¬ Cmd.wf (.coopSet { c with index := 256 })) ∧
    ¬ Cmd.wf (.msecRekey 256) ∧
    (∀ c : FhOwdmCmd, ¬ Cmd.wf (.fhOwdm { c with port := 256 })) ∧
    (∀ a b, ¬ Cmd.wf (.lineMode 256 a b)) ∧
    (∀ a b, ¬ Cmd.wf (.lineMode a 256 b)) ∧
    ¬ Cmd.wf (.lineRestart (2 ^ 64)) ∧
    (∀ a, ¬ Cmd.wf (.lineSnapshot 256 a)) ∧
    (∀ a, ¬ Cmd.wf (.lineSnapshot a (2 ^ 64))) ∧
    (∀ a b, ¬ Cmd.wf (.lineTest 256 a b)) ∧
    (∀ a b, ¬ Cmd.wf (.lineTest a 256 b)) ∧
    (∀ a b, ¬ Cmd.wf (.lineTest a b (2 ^ 64))) ∧
    ¬ Cmd.wf (.lineRmute (2 ^ 64)) ∧
    (∀ a, ¬ Cmd.wf (.culSleep 4096 a)) ∧
    (∀ a b d e i j, ¬ Cmd.wf (.culEyescan 65536 a b d e i j)) ∧
    (∀ a b d e i j, ¬ Cmd.wf (.culEyescan a 256 b d e i j)) ∧
    (∀ a b d e i j, ¬ Cmd.wf (.culEyescan a b 256 d e i j)) ∧
    (∀ a b d e i j, ¬ Cmd.wf (.culEyescan a b d 256 e i j)) ∧
    (∀ a b d e i j, ¬ Cmd.wf (.culEyescan a b d e 256 i j)) ∧
    (∀ a b d e i j, ¬ Cmd.wf (.culEyescan a b d e i 256 j)) ∧
    (∀ a b d e i j, ¬ Cmd.wf (.culEyescan a b d e i j (2 ^ 64))) ∧
    (∀ a b, ¬ Cmd.wf (.culReg 256 a b)) ∧
    (∀ a b, ¬ Cmd.wf (.culReg a 256 b)) ∧
    (∀ a b, ¬ Cmd.wf (.culReg a b (2 ^ 64))) ∧
    (∀ a, ¬ Cmd.wf (.timeStep (2 ^ 48) a)) ∧
    (∀ a, ¬ Cmd.wf (.timeStep a (2 ^ 32))) ∧
    ¬ Cmd.wf (.timeEpoch (2 ^ 32)) ∧
    (∀ c : OtaCmd, ¬ Cmd.wf (.otaCal { c with role := 256 })) ∧
    (∀ a b d, ¬ Cmd.wf (.engKernel 256 a b d)) ∧
    (∀ a b d, ¬ Cmd.wf (.engKernel a 256 b d)) ∧
    (∀ a b d, ¬ Cmd.wf (.engKernel a b (2 ^ 64) d)) ∧
    (∀ a b d, ¬ Cmd.wf (.engKernel a b d (2 ^ 32))) ∧
    (∀ a, ¬ Cmd.wf (.engMode 256 a)) ∧
    (∀ a, ¬ Cmd.wf (.engMode a 256)) ∧
    (∀ a b, ¬ Cmd.wf (.sluChain 256 a b)) ∧
    (∀ a b, ¬ Cmd.wf (.sluChain a b (2 ^ 64))) ∧
    ¬ Cmd.wf (.sluStop 256) ∧
    ¬ Cmd.wf (.seaIdentity (2 ^ 64)) ∧
    (∀ a, ¬ Cmd.wf (.seaAttest (2 ^ 64) a)) ∧
    (∀ a, ¬ Cmd.wf (.seaAttest a (2 ^ 64))) ∧
    ¬ Cmd.wf (.seaSetId 65536) := by
  simp [Cmd.wf]

theorem test_wf_Cmd_2 :
    (∀ a, ¬ Cmd.wf (.seaCommit 256 a)) ∧
    (∀ a, ¬ Cmd.wf (.seaCommit a 65536)) ∧
    (∀ a, ¬ Cmd.wf (.seaEnrol 256 a)) ∧
    (∀ a, ¬ Cmd.wf (.seaEnrol a (2 ^ 64))) ∧
    ¬ Cmd.wf (.seaCak (2 ^ 64)) ∧
    ¬ Cmd.wf (.seaRetire (2 ^ 128)) ∧
    (∀ c : GauStreamCmd, ¬ Cmd.wf (.gauStream { c with stream := 256 })) ∧
    (∀ c : GauArmCmd, ¬ Cmd.wf (.gauArm { c with mask := 256 })) ∧
    ¬ Cmd.wf (.gauStop 256) ∧
    ¬ Cmd.wf (.gauForce 256) ∧
    ¬ Cmd.wf (.gauMask (2 ^ 64)) ∧
    (∀ a b d, ¬ Cmd.wf (.fltDumpRegion a b (2 ^ 64) d)) ∧
    (∀ a b d, ¬ Cmd.wf (.fltDumpRegion a b d (2 ^ 32))) ∧
    (∀ a, ¬ Cmd.wf (.fltDumpFetch a (2 ^ 64))) ∧
    (∀ a b, ¬ Cmd.wf (.telSetup 256 a b)) ∧
    (∀ a b, ¬ Cmd.wf (.telSetup a 256 b)) ∧
    (∀ a b, ¬ Cmd.wf (.telSetup a b (2 ^ 64))) ∧
    (∀ a, ¬ Cmd.wf (.logRead (2 ^ 32) a)) ∧
    (∀ a, ¬ Cmd.wf (.logRead a (2 ^ 64))) ∧
    ¬ Cmd.wf (.pathRestore (2 ^ 64)) := by
  simp [Cmd.wf]

theorem test_wf_Instr_0 :
    (∀ a, ¬ Instr.wf (.combiningHoldEnd 32 a)) ∧
    (∀ a, ¬ Instr.wf (.wideReadLatch (.engine 16) a)) ∧
    (∀ a, ¬ Instr.wf (.wideReadLatch a (2 ^ 22))) ∧
    (∀ a b, ¬ Instr.wf (.wideWriteStage (.engine 16) a b)) ∧
    (∀ a b, ¬ Instr.wf (.wideWriteStage a (2 ^ 22) b)) ∧
    (∀ a b, ¬ Instr.wf (.wideWriteStage a b (2 ^ 32))) ∧
    (∀ a, ¬ Instr.wf (.timRefNumWrite (.engine 16) a)) ∧
    (∀ a, ¬ Instr.wf (.timRefNumWrite a (2 ^ 32))) ∧
    ¬ Instr.wf (.marginRst (.engine 16)) ∧
    (∀ a b, ¬ Instr.wf (.calibrationStep 8 a b)) ∧
    (∀ a, ¬ Instr.wf (.dpdAdaptation 64 a)) ∧
    (∀ a, ¬ Instr.wf (.equaliserUpdate 8 a)) ∧
    (∀ a, ¬ Instr.wf (.txCarrier ⟨32, 0, false, false, 0, 0⟩ a)) ∧
    (∀ (h : Hdr) (c : TxCarrierCmd), ¬ Instr.wf (.txCarrier h { c with carrier := 8 })) ∧
    (∀ a, ¬ Instr.wf (.txTile ⟨32, 0, false, false, 0, 0⟩ a)) ∧
    (∀ (h : Hdr) (c : TxTileCmd), ¬ Instr.wf (.txTile h { c with tile := 256 })) ∧
    (∀ a b d e, ¬ Instr.wf (.dpdLoad ⟨32, 0, false, false, 0, 0⟩ a b d e)) ∧
    (∀ a b d e, ¬ Instr.wf (.dpdLoad a 256 b d e)) ∧
    (∀ a b d e, ¬ Instr.wf (.dpdLoad a b 256 d e)) ∧
    (∀ a b d e, ¬ Instr.wf (.dpdLoad a b d 65536 e)) ∧
    (∀ a b d e, ¬ Instr.wf (.dpdLoad a b d e (2 ^ 64))) ∧
    (∀ a, ¬ Instr.wf (.dpdLoadComplete 64 a)) ∧
    (∀ a b d, ¬ Instr.wf (.dpdSwap ⟨32, 0, false, false, 0, 0⟩ a b d)) ∧
    (∀ a b d, ¬ Instr.wf (.dpdSwap a 256 b d)) ∧
    (∀ a b d, ¬ Instr.wf (.dpdSwap a b 256 d)) ∧
    (∀ a b d, ¬ Instr.wf (.dpdSwap a b d 256)) ∧
    ¬ Instr.wf (.dpdFadeEnd 64) ∧
    ¬ Instr.wf (.heldDpdSwapStart 8) ∧
    (∀ a, ¬ Instr.wf (.biasSet ⟨32, 0, false, false, 0, 0⟩ a)) ∧
    (∀ (h : Hdr) (c : BiasSetCmd), ¬ Instr.wf (.biasSet h { c with span := 4 })) ∧
    (∀ a b, ¬ Instr.wf (.biasTrigger 8 a b)) ∧
    (∀ a b, ¬ Instr.wf (.biasTrigger a 16 b)) ∧
    (∀ a b, ¬ Instr.wf (.biasTrigger a b 4)) ∧
    (∀ a, ¬ Instr.wf (.biasTriggerTimeout 8 a)) ∧
    (∀ a, ¬ Instr.wf (.biasTriggerTimeout a 16)) ∧
    (∀ a, ¬ Instr.wf (.biasSpanSwitch 8 a)) ∧
    (∀ a, ¬ Instr.wf (.biasSpanSwitch a 16)) ∧
    (∀ a, ¬ Instr.wf (.biasSafePhaseEnd 8 a)) ∧
    (∀ a, ¬ Instr.wf (.biasSafePhaseEnd a 16)) ∧
    (∀ a, ¬ Instr.wf (.ddsTone ⟨32, 0, false, false, 0, 0⟩ a)) := by
  simp [Instr.wf]

theorem test_wf_Instr_1 :
    (∀ (h : Hdr) (c : DdsToneCmd), ¬ Instr.wf (.ddsTone h { c with ftw := 2 ^ 48 })) ∧
    ¬ Instr.wf (.txSatSummary 8) ∧
    ¬ Instr.wf (.overloadEpisodeStart 64) ∧
    ¬ Instr.wf (.overloadProtect 64) ∧
    (∀ a, ¬ Instr.wf (.overloadEpisodeEnd 64 a)) ∧
    (∀ a, ¬ Instr.wf (.rxCarrier ⟨32, 0, false, false, 0, 0⟩ a)) ∧
    (∀ (h : Hdr) (c : RxCarrierCmd), ¬ Instr.wf (.rxCarrier h { c with carrier := 8 })) ∧
    (∀ a, ¬ Instr.wf (.rxExtract ⟨32, 0, false, false, 0, 0⟩ a)) ∧
    (∀ (h : Hdr) (c : RxExtractCmd), ¬ Instr.wf (.rxExtract h { c with entry := 16 })) ∧
    (∀ a, ¬ Instr.wf (.rxSync ⟨32, 0, false, false, 0, 0⟩ a)) ∧
    ¬ Instr.wf (.rxSatSummary 8) ∧
    ¬ Instr.wf (.extractionDrops 8) ∧
    (∀ a b d e i, ¬ Instr.wf (.bfLayers ⟨32, 0, false, false, 0, 0⟩ a b d e i)) ∧
    (∀ a b d e i, ¬ Instr.wf (.bfLayers a 8 b d e i)) ∧
    (∀ a b d e i, ¬ Instr.wf (.bfLayers a b d 256 e i)) ∧
    (∀ a b d e i, ¬ Instr.wf (.bfLayers a b d e 8 i)) ∧
    (∀ a b d e i, ¬ Instr.wf (.bfLayers a b d e i (2 ^ 128))) ∧
    (∀ a, ¬ Instr.wf (.beamLoad ⟨32, 0, false, false, 0, 0⟩ a)) ∧
    (∀ (h : Hdr) (c : BeamLoadCmd), ¬ Instr.wf (.beamLoad h { c with bank := 2 })) ∧
    (∀ a, ¬ Instr.wf (.beamSwap ⟨32, 0, false, false, 0, 0⟩ a)) ∧
    (∀ a, ¬ Instr.wf (.beamSwap a 256)) ∧
    ¬ Instr.wf (.pageLoadComplete 4096) ∧
    (∀ a, ¬ Instr.wf (.covSetup ⟨32, 0, false, false, 0, 0⟩ a)) ∧
    (∀ (h : Hdr) (c : CovSetupCmd), ¬ Instr.wf (.covSetup h { c with carrier := 8 })) ∧
    ¬ Instr.wf (.covSolveStart 8) ∧
    ¬ Instr.wf (.covSolveEnd 8) ∧
    (∀ a, ¬ Instr.wf (.acdOccasion ⟨32, 0, false, false, 0, 0⟩ a)) ∧
    (∀ (h : Hdr) (c : AcdCmd), ¬ Instr.wf (.acdOccasion h { c with config := 16 })) ∧
    (∀ a b, ¬ Instr.wf (.occasionEnd 16 a b)) ∧
    (∀ a b, ¬ Instr.wf (.occasionEnd a 7 b)) ∧
    (∀ a, ¬ Instr.wf (.foReport ⟨32, 0, false, false, 0, 0⟩ a)) ∧
    (∀ (h : Hdr) (c : FoCmd), ¬ Instr.wf (.foReport h { c with entry := 32 })) ∧
    (∀ a b d e i, ¬ Instr.wf (.foMeasurement 32 a b d e i)) ∧
    (∀ a b d e i, ¬ Instr.wf (.foMeasurement a 32 b d e i)) ∧
    (∀ a, ¬ Instr.wf (.leveeCert ⟨32, 0, false, false, 0, 0⟩ a)) ∧
    (∀ a, ¬ Instr.wf (.leveeCert a (2 ^ 64))) ∧
    (∀ a, ¬ Instr.wf (.leveeUnmute ⟨32, 0, false, false, 0, 0⟩ a)) ∧
    (∀ a, ¬ Instr.wf (.leveeUnmute a (2 ^ 64))) ∧
    (∀ a, ¬ Instr.wf (.leveeDwell 64 a)) ∧
    (∀ a b, ¬ Instr.wf (.obsReferenceCheck 8 a b)) := by
  simp [Instr.wf]

theorem test_wf_Instr_2 :
    (∀ a b d e, ¬ Instr.wf (.rctPattern ⟨32, 0, false, false, 0, 0⟩ a b d e)) ∧
    (∀ a b d e, ¬ Instr.wf (.rctPattern a 256 b d e)) ∧
    (∀ a b d e, ¬ Instr.wf (.rctPattern a b 256 d e)) ∧
    (∀ a b d e, ¬ Instr.wf (.rctPattern a b d 65536 e)) ∧
    (∀ a b d e, ¬ Instr.wf (.rctPattern a b d e (2 ^ 64))) ∧
    ¬ Instr.wf (.patternBind 8) ∧
    ¬ Instr.wf (.timingApply 8) ∧
    (∀ a b, ¬ Instr.wf (.tileState ⟨32, 0, false, false, 0, 0⟩ a b)) ∧
    (∀ a b, ¬ Instr.wf (.tileState a 256 b)) ∧
    (∀ a b, ¬ Instr.wf (.tileState a b 256)) ∧
    ¬ Instr.wf (.protectHoldExpiry 8) ∧
    (∀ a, ¬ Instr.wf (.strobeEdge 8 a)) ∧
    (∀ a, ¬ Instr.wf (.strobeEdge a 0)) ∧
    (∀ a, ¬ Instr.wf (.strobeEdge a 8)) ∧
    (∀ a, ¬ Instr.wf (.strobeEdge a 3)) ∧
    (∀ a, ¬ Instr.wf (.strobeEdge a 4)) ∧
    (∀ a, ¬ Instr.wf (.coexGntChange 2 a)) ∧
    (∀ a, ¬ Instr.wf (.coexReqChange 2 a)) ∧
    (∀ a, ¬ Instr.wf (.rffeXfer ⟨32, 0, false, false, 0, 0⟩ a)) ∧
    (∀ (h : Hdr) (c : RffeCmd), ¬ Instr.wf (.rffeXfer h { c with tile := 256 })) ∧
    ¬ Instr.wf (.synRecal ⟨32, 0, false, false, 0, 0⟩) ∧
    ¬ Instr.wf (.synthLockLost 2) ∧
    (∀ a b d e, ¬ Instr.wf (.aerial ⟨32, 0, false, false, 0, 0⟩ a b d e)) ∧
    (∀ a b d e, ¬ Instr.wf (.aerial a 256 b d e)) ∧
    (∀ a b d e, ¬ Instr.wf (.aerial a b 256 d e)) ∧
    (∀ a b, ¬ Instr.wf (.mismatchPair 64 a b)) ∧
    (∀ a b, ¬ Instr.wf (.tunerTrial 8 a b)) ∧
    (∀ a b, ¬ Instr.wf (.rffeTransferDone 8 a b)) ∧
    (∀ (f : LineFrameIn), ¬ Instr.wf (.lineFrame { f with port := 2 })) ∧
    (∀ (m : CPlaneIn), ¬ Instr.wf (.cplaneMessage { m with port := 4 })) ∧
    (∀ (m : UPlaneIn), ¬ Instr.wf (.uplaneMessage { m with port := 4 })) ∧
    (∀ (m : OwdmIn), ¬ Instr.wf (.owdmMessage { m with port := 2 })) ∧
    (∀ a, ¬ Instr.wf (.partialSumMessage 4 a)) ∧
    (∀ (m : MkaIn), ¬ Instr.wf (.mkaMessage { m with port := 2 })) ∧
    ¬ Instr.wf (.mkaPeerLost 2) ∧
    ¬ Instr.wf (.setStateChange 32) ∧
    (∀ a, ¬ Instr.wf (.fhCarrier ⟨32, 0, false, false, 0, 0⟩ a)) ∧
    (∀ (h : Hdr) (c : FhCarrierCmd), ¬ Instr.wf (.fhCarrier h { c with carrier := 8 })) ∧
    (∀ a, ¬ Instr.wf (.coopSet ⟨32, 0, false, false, 0, 0⟩ a)) ∧
    (∀ (h : Hdr) (c : CoopSetCmd), ¬ Instr.wf (.coopSet h { c with index := 256 })) := by
  simp [Instr.wf]

theorem test_wf_Instr_3 :
    (∀ a, ¬ Instr.wf (.msecRekey ⟨32, 0, false, false, 0, 0⟩ a)) ∧
    (∀ a, ¬ Instr.wf (.msecRekey a 256)) ∧
    (∀ a, ¬ Instr.wf (.fhOwdm ⟨32, 0, false, false, 0, 0⟩ a)) ∧
    (∀ (h : Hdr) (c : FhOwdmCmd), ¬ Instr.wf (.fhOwdm h { c with port := 256 })) ∧
    ¬ Instr.wf (.owdmTimeout 512) ∧
    (∀ a b d, ¬ Instr.wf (.lineMode ⟨32, 0, false, false, 0, 0⟩ a b d)) ∧
    (∀ a b d, ¬ Instr.wf (.lineMode a 256 b d)) ∧
    (∀ a b d, ¬ Instr.wf (.lineMode a b 256 d)) ∧
    (∀ a, ¬ Instr.wf (.lineRestart ⟨32, 0, false, false, 0, 0⟩ a)) ∧
    (∀ a, ¬ Instr.wf (.lineRestart a (2 ^ 64))) ∧
    (∀ a b, ¬ Instr.wf (.lineSnapshot ⟨32, 0, false, false, 0, 0⟩ a b)) ∧
    (∀ a b, ¬ Instr.wf (.lineSnapshot a 256 b)) ∧
    (∀ a b, ¬ Instr.wf (.lineSnapshot a b (2 ^ 64))) ∧
    (∀ a b d, ¬ Instr.wf (.lineTest ⟨32, 0, false, false, 0, 0⟩ a b d)) ∧
    (∀ a b d, ¬ Instr.wf (.lineTest a 256 b d)) ∧
    (∀ a b d, ¬ Instr.wf (.lineTest a b 256 d)) ∧
    (∀ a b d, ¬ Instr.wf (.lineTest a b d (2 ^ 64))) ∧
    (∀ a b, ¬ Instr.wf (.lineTestReport 8 a b)) ∧
    (∀ a, ¬ Instr.wf (.lineRmute ⟨32, 0, false, false, 0, 0⟩ a)) ∧
    (∀ a, ¬ Instr.wf (.lineRmute a (2 ^ 64))) ∧
    (∀ a, ¬ Instr.wf (.losChange 8 a)) ∧
    ¬ Instr.wf (.laneBackoffEnd 8) ∧
    ¬ Instr.wf (.laneTimeout 8) ∧
    ¬ Instr.wf (.markerLock 8) ∧
    ¬ Instr.wf (.fecLock 8) ∧
    (∀ a, ¬ Instr.wf (.portUp 2 a)) ∧
    (∀ a, ¬ Instr.wf (.markerPeriod 8 a)) ∧
    ¬ Instr.wf (.fecDegradeClear 2) ∧
    (∀ a, ¬ Instr.wf (.occupancyWindow 8 a)) ∧
    ¬ Instr.wf (.freezeEvent 8) ∧
    (∀ a, ¬ Instr.wf (.overlayCell 8 a)) ∧
    (∀ a, ¬ Instr.wf (.overlayCell a [])) ∧
    (∀ a, ¬ Instr.wf (.trainingCell 8 a)) ∧
    (∀ a, ¬ Instr.wf (.trainingCell a [])) ∧
    ¬ Instr.wf (.rxReady 8) ∧
    ¬ Instr.wf (.oneSidedTimeout 8) ∧
    ¬ Instr.wf (.heartbeat 8) ∧
    ¬ Instr.wf (.neighbourUnreachable 2) ∧
    ¬ Instr.wf (.muteFragment 8) ∧
    ¬ Instr.wf (.fragmentTimeout 2) := by
  simp [Instr.wf]

theorem test_wf_Instr_4 :
    (∀ a, ¬ Instr.wf (.histReq (.engine 16) a)) ∧
    (∀ a, ¬ Instr.wf (.histReq a 8)) ∧
    (∀ a, ¬ Instr.wf (.histDone 8 a)) ∧
    ¬ Instr.wf (.backoffReturn 8) ∧
    (∀ a b, ¬ Instr.wf (.culSleep ⟨32, 0, false, false, 0, 0⟩ a b)) ∧
    (∀ a b, ¬ Instr.wf (.culSleep a 4096 b)) ∧
    (∀ a b d e i j k, ¬ Instr.wf (.culEyescan ⟨32, 0, false, false, 0, 0⟩ a b d e i j k)) ∧
    (∀ a b d e i j k, ¬ Instr.wf (.culEyescan a 65536 b d e i j k)) ∧
    (∀ a b d e i j k, ¬ Instr.wf (.culEyescan a b 256 d e i j k)) ∧
    (∀ a b d e i j k, ¬ Instr.wf (.culEyescan a b d 256 e i j k)) ∧
    (∀ a b d e i j k, ¬ Instr.wf (.culEyescan a b d e 256 i j k)) ∧
    (∀ a b d e i j k, ¬ Instr.wf (.culEyescan a b d e i 256 j k)) ∧
    (∀ a b d e i j k, ¬ Instr.wf (.culEyescan a b d e i j 256 k)) ∧
    (∀ a b d e i j k, ¬ Instr.wf (.culEyescan a b d e i j k (2 ^ 64))) ∧
    (∀ a b d, ¬ Instr.wf (.culReg ⟨32, 0, false, false, 0, 0⟩ a b d)) ∧
    (∀ a b d, ¬ Instr.wf (.culReg a 256 b d)) ∧
    (∀ a b d, ¬ Instr.wf (.culReg a b 256 d)) ∧
    (∀ a b d, ¬ Instr.wf (.culReg a b d (2 ^ 64))) ∧
    ¬ Instr.wf (.headerLock 12) ∧
    ¬ Instr.wf (.lockLoss 12) ∧
    ¬ Instr.wf (.culvertSignalLoss 12) ∧
    ¬ Instr.wf (.culvertSignalReturn 12) ∧
    (∀ a, ¬ Instr.wf (.alignPeriod 2 a)) ∧
    (∀ a, ¬ Instr.wf (.alignBlock 12 a)) ∧
    ¬ Instr.wf (.sleepBlocks 12) ∧
    ¬ Instr.wf (.laneReadd 12) ∧
    ¬ Instr.wf (.autoSleep 2) ∧
    (∀ a, ¬ Instr.wf (.linkMgmtFrame 2 a)) ∧
    (∀ a, ¬ Instr.wf (.panelSyncFrame 2 a)) ∧
    (∀ a b, ¬ Instr.wf (.tunnelMessage 2 a b)) ∧
    (∀ a b, ¬ Instr.wf (.tunnelMessage a 8 b)) ∧
    ¬ Instr.wf (.tunnelResend 8) ∧
    (∀ a b d, ¬ Instr.wf (.tunnelDoorbell 8 a b d)) ∧
    (∀ a b d, ¬ Instr.wf (.tunnelDoorbell a b d 5)) ∧
    (∀ a b d, ¬ Instr.wf (.tunnelDoorbell a b (2 ^ 64) d)) ∧
    ¬ Instr.wf (.mismatchReport 2) ∧
    (∀ a, ¬ Instr.wf (.airOfsWrite (.engine 16) a)) ∧
    (∀ a, ¬ Instr.wf (.airOfsWrite a (2 ^ 64))) ∧
    (∀ a, ¬ Instr.wf (.ptpAnnounce 2 a)) ∧
    (∀ a b d e i, ¬ Instr.wf (.ptpSync 2 a b d e i)) := by
  simp [Instr.wf]

theorem test_wf_Instr_5 :
    (∀ a b d e i, ¬ Instr.wf (.ptpSync a b (2 ^ 16) d e i)) ∧
    (∀ a b d e, ¬ Instr.wf (.ptpFollowUp 2 a b d e)) ∧
    (∀ a b d e, ¬ Instr.wf (.ptpFollowUp a b (2 ^ 16) d e)) ∧
    ¬ Instr.wf (.delayReq 2) ∧
    (∀ a b d e, ¬ Instr.wf (.delayResp 2 a b d e)) ∧
    (∀ a b d e, ¬ Instr.wf (.delayResp a b (2 ^ 16) d e)) ∧
    ¬ Instr.wf (.ptpSourceLost 2) ∧
    ¬ Instr.wf (.timeCellSend 4) ∧
    ¬ Instr.wf (.timeTransferCell 8) ∧
    ¬ Instr.wf (.thetaUpdate 4) ∧
    (∀ a b, ¬ Instr.wf (.timeStep ⟨32, 0, false, false, 0, 0⟩ a b)) ∧
    (∀ a b, ¬ Instr.wf (.timeStep a (2 ^ 48) b)) ∧
    (∀ a b, ¬ Instr.wf (.timeStep a b (2 ^ 32))) ∧
    (∀ a, ¬ Instr.wf (.timeEpoch ⟨32, 0, false, false, 0, 0⟩ a)) ∧
    (∀ a, ¬ Instr.wf (.timeEpoch a (2 ^ 32))) ∧
    (∀ a, ¬ Instr.wf (.otaCal ⟨32, 0, false, false, 0, 0⟩ a)) ∧
    (∀ (h : Hdr) (c : OtaCmd), ¬ Instr.wf (.otaCal h { c with role := 256 })) ∧
    ¬ Instr.wf (.engNopBundle 16) ∧
    ¬ Instr.wf (.engMac4 16) ∧
    ¬ Instr.wf (.engDot4 16) ∧
    ¬ Instr.wf (.engCmac 16) ∧
    ¬ Instr.wf (.engTapmv 16) ∧
    ¬ Instr.wf (.engSta4 16) ∧
    ¬ Instr.wf (.engStc 16) ∧
    ¬ Instr.wf (.engAdd 16) ∧
    ¬ Instr.wf (.engAddi 16) ∧
    ¬ Instr.wf (.engSub 16) ∧
    ¬ Instr.wf (.engAnd 16) ∧
    ¬ Instr.wf (.engOr 16) ∧
    ¬ Instr.wf (.engXor 16) ∧
    ¬ Instr.wf (.engShli 16) ∧
    ¬ Instr.wf (.engShri 16) ∧
    ¬ Instr.wf (.engSari 16) ∧
    ¬ Instr.wf (.engMovi 16) ∧
    ¬ Instr.wf (.engOrh 16) ∧
    ¬ Instr.wf (.engLdg 16) ∧
    ¬ Instr.wf (.engStg 16) ∧
    ¬ Instr.wf (.engSth 16) ∧
    ¬ Instr.wf (.engMvag 16) ∧
    ¬ Instr.wf (.engMvga 16) := by
  simp [Instr.wf]

theorem test_wf_Instr_6 :
    ¬ Instr.wf (.engExp 16) ∧
    ¬ Instr.wf (.engNorm 16) ∧
    ¬ Instr.wf (.engBexr 16) ∧
    ¬ Instr.wf (.engAgset 16) ∧
    ¬ Instr.wf (.engRcp 16) ∧
    ¬ Instr.wf (.engRsq 16) ∧
    ¬ Instr.wf (.engMul 16) ∧
    ¬ Instr.wf (.engTapc 16) ∧
    ¬ Instr.wf (.engBr 16) ∧
    ¬ Instr.wf (.engCall 16) ∧
    ¬ Instr.wf (.engRet 16) ∧
    ¬ Instr.wf (.engLoop 16) ∧
    ¬ Instr.wf (.engWait 16) ∧
    (∀ a, ¬ Instr.wf (.engineWake 16 a)) ∧
    (∀ a, ¬ Instr.wf (.engineWake a (2 ^ 32))) ∧
    ¬ Instr.wf (.engTrap 16) ∧
    ¬ Instr.wf (.engTime 16) ∧
    ¬ Instr.wf (.engWriteWeights 16) ∧
    ¬ Instr.wf (.engCovRead 16) ∧
    ¬ Instr.wf (.engEvent 16) ∧
    ¬ Instr.wf (.engSolved 16) ∧
    ¬ Instr.wf (.engFence 16) ∧
    ¬ Instr.wf (.engRetk 16) ∧
    ¬ Instr.wf (.engHalt 16) ∧
    ¬ Instr.wf (.watchdog 16) ∧
    ¬ Instr.wf (.engineRestart 16) ∧
    (∀ a b, ¬ Instr.wf (.modeChange 16 a b)) ∧
    (∀ a, ¬ Instr.wf (.kernelInvocation 8 a)) ∧
    (∀ a, ¬ Instr.wf (.kernelInvocation a (2 ^ 32))) ∧
    ¬ Instr.wf (.kernelPlacement 8) ∧
    (∀ a b d e, ¬ Instr.wf (.engKernel ⟨32, 0, false, false, 0, 0⟩ a b d e)) ∧
    (∀ a b d e, ¬ Instr.wf (.engKernel a 256 b d e)) ∧
    (∀ a b d e, ¬ Instr.wf (.engKernel a b 256 d e)) ∧
    (∀ a b d e, ¬ Instr.wf (.engKernel a b d (2 ^ 64) e)) ∧
    (∀ a b d e, ¬ Instr.wf (.engKernel a b d e (2 ^ 32))) ∧
    (∀ a b, ¬ Instr.wf (.engMode ⟨32, 0, false, false, 0, 0⟩ a b)) ∧
    (∀ a b, ¬ Instr.wf (.engMode a 256 b)) ∧
    (∀ a b, ¬ Instr.wf (.engMode a b 256)) ∧
    ¬ Instr.wf (.nop ⟨32, 0, false, false, 0, 0⟩) ∧
    (∀ a, ¬ Instr.wf (.profile ⟨32, 0, false, false, 0, 0⟩ a)) := by
  simp [Instr.wf]

theorem test_wf_Instr_7 :
    (∀ a, ¬ Instr.wf (.profile a 8)) ∧
    ¬ Instr.wf (.now ⟨32, 0, false, false, 0, 0⟩) ∧
    (∀ a b, ¬ Instr.wf (.doorbell 32 a b)) ∧
    (∀ a b, ¬ Instr.wf (.doorbell a b 5)) ∧
    (∀ a b, ¬ Instr.wf (.doorbell a (2 ^ 32) b)) ∧
    (∀ a b, ¬ Instr.wf (.kick 32 a b)) ∧
    (∀ a b, ¬ Instr.wf (.kick a b 5)) ∧
    (∀ a b, ¬ Instr.wf (.kick a (2 ^ 32) b)) ∧
    (∀ a b, ¬ Instr.wf (.headDoorbell 31 a b)) ∧
    (∀ a b, ¬ Instr.wf (.headDoorbell 64 a b)) ∧
    (∀ a b, ¬ Instr.wf (.headDoorbell a b 5)) ∧
    (∀ a b, ¬ Instr.wf (.headDoorbell a (2 ^ 32) b)) ∧
    (∀ a b, ¬ Instr.wf (.ringEnable (.engine 16) a b)) ∧
    (∀ a b, ¬ Instr.wf (.ringEnable a 64 b)) ∧
    ¬ Instr.wf (.ringsDisable (.engine 16)) ∧
    ¬ Instr.wf (.descriptorFetch 32) ∧
    ¬ Instr.wf (.phaseReread 32) ∧
    ¬ Instr.wf (.msixMessage 64) ∧
    ¬ Instr.wf (.msixUnmask 64) ∧
    (∀ a b d, ¬ Instr.wf (.sluChain ⟨32, 0, false, false, 0, 0⟩ a b d)) ∧
    (∀ a b d, ¬ Instr.wf (.sluChain a 256 b d)) ∧
    (∀ a b d, ¬ Instr.wf (.sluChain a b d (2 ^ 64))) ∧
    (∀ a, ¬ Instr.wf (.sluStop ⟨32, 0, false, false, 0, 0⟩ a)) ∧
    (∀ a, ¬ Instr.wf (.sluStop a 256)) ∧
    (∀ a, ¬ Instr.wf (.sluKick (.engine 16) a)) ∧
    (∀ a, ¬ Instr.wf (.sluKick a (2 ^ 32))) ∧
    ¬ Instr.wf (.ctrlPoll 32) ∧
    (∀ a, ¬ Instr.wf (.sluiceDescriptor 32 a)) ∧
    ¬ Instr.wf (.descriptorComplete 32) ∧
    (∀ a, ¬ Instr.wf (.seaIdentity ⟨32, 0, false, false, 0, 0⟩ a)) ∧
    (∀ a, ¬ Instr.wf (.seaIdentity a (2 ^ 64))) ∧
    (∀ a b, ¬ Instr.wf (.seaAttest ⟨32, 0, false, false, 0, 0⟩ a b)) ∧
    (∀ a b, ¬ Instr.wf (.seaAttest a (2 ^ 64) b)) ∧
    (∀ a b, ¬ Instr.wf (.seaAttest a b (2 ^ 64))) ∧
    (∀ a, ¬ Instr.wf (.seaSetId ⟨32, 0, false, false, 0, 0⟩ a)) ∧
    (∀ a, ¬ Instr.wf (.seaSetId a 65536)) ∧
    (∀ a b, ¬ Instr.wf (.seaCommit ⟨32, 0, false, false, 0, 0⟩ a b)) ∧
    (∀ a b, ¬ Instr.wf (.seaCommit a 256 b)) ∧
    (∀ a b, ¬ Instr.wf (.seaCommit a b 65536)) ∧
    (∀ a b, ¬ Instr.wf (.seaEnrol ⟨32, 0, false, false, 0, 0⟩ a b)) := by
  simp [Instr.wf]

theorem test_wf_Instr_8 :
    (∀ a b, ¬ Instr.wf (.seaEnrol a 256 b)) ∧
    (∀ a b, ¬ Instr.wf (.seaEnrol a b (2 ^ 64))) ∧
    (∀ a, ¬ Instr.wf (.seaCak ⟨32, 0, false, false, 0, 0⟩ a)) ∧
    (∀ a, ¬ Instr.wf (.seaCak a (2 ^ 64))) ∧
    (∀ a, ¬ Instr.wf (.seaRetire ⟨32, 0, false, false, 0, 0⟩ a)) ∧
    (∀ a, ¬ Instr.wf (.seaRetire a (2 ^ 128))) ∧
    (∀ a, ¬ Instr.wf (.imageVerification 16 a)) ∧
    ¬ Instr.wf (.railRecheck (2 ^ 32)) ∧
    (∀ a, ¬ Instr.wf (.tileCalibrated 8 a)) ∧
    ¬ Instr.wf (.confirm (.engine 16)) ∧
    (∀ a, ¬ Instr.wf (.softRst (.engine 16) a)) ∧
    (∀ a, ¬ Instr.wf (.softRst a (2 ^ 32))) ∧
    ¬ Instr.wf (.go (.engine 16)) ∧
    ¬ Instr.wf (.thermalSampling []) ∧
    ¬ Instr.wf (.thermalTrip (2 ^ 40)) ∧
    (∀ a b d e, ¬ Instr.wf (.pwrState ⟨32, 0, false, false, 0, 0⟩ a b d e)) ∧
    (∀ a b d e, ¬ Instr.wf (.pwrState a 256 b d e)) ∧
    (∀ a b d e, ¬ Instr.wf (.pwrState a b 256 d e)) ∧
    (∀ a b d e, ¬ Instr.wf (.pwrState a b d 8 e)) ∧
    (∀ a b d e, ¬ Instr.wf (.pwrState a b d e (2 ^ 32))) ∧
    ¬ Instr.wf (.tileGated 8) ∧
    ¬ Instr.wf (.tileUngated 8) ∧
    ¬ Instr.wf (.wake (.engine 16)) ∧
    ¬ Instr.wf (.sentinelWake 5) ∧
    ¬ Instr.wf (.hkaInject ⟨32, 0, false, false, 0, 0⟩) ∧
    ¬ Instr.wf (.start (.engine 16)) ∧
    ¬ Instr.wf (.hkaTimerTrigger 2) ∧
    ¬ Instr.wf (.hkaEventTrigger 2) ∧
    (∀ a, ¬ Instr.wf (.gauStream ⟨32, 0, false, false, 0, 0⟩ a)) ∧
    (∀ (h : Hdr) (c : GauStreamCmd), ¬ Instr.wf (.gauStream h { c with stream := 256 })) ∧
    (∀ a, ¬ Instr.wf (.gauArm ⟨32, 0, false, false, 0, 0⟩ a)) ∧
    (∀ (h : Hdr) (c : GauArmCmd), ¬ Instr.wf (.gauArm h { c with mask := 256 })) ∧
    (∀ a, ¬ Instr.wf (.gauStop ⟨32, 0, false, false, 0, 0⟩ a)) ∧
    (∀ a, ¬ Instr.wf (.gauStop a 256)) ∧
    (∀ a, ¬ Instr.wf (.gauForce ⟨32, 0, false, false, 0, 0⟩ a)) ∧
    (∀ a, ¬ Instr.wf (.gauForce a 256)) ∧
    (∀ a, ¬ Instr.wf (.gauMask ⟨32, 0, false, false, 0, 0⟩ a)) ∧
    (∀ a, ¬ Instr.wf (.gauMask a (2 ^ 64))) ∧
    (∀ a, ¬ Instr.wf (.gaugeTrigger 8 a)) ∧
    ¬ Instr.wf (.autoTrigger 8) := by
  simp [Instr.wf]

theorem test_wf_Instr_9 :
    (∀ a, ¬ Instr.wf (.gaugeRecord 8 a)) ∧
    ¬ Instr.wf (.gaugeDrained 8) ∧
    ¬ Instr.wf (.gaugeRearm 8) ∧
    (∀ a, ¬ Instr.wf (.pathRestore ⟨32, 0, false, false, 0, 0⟩ a)) ∧
    (∀ a, ¬ Instr.wf (.pathRestore a (2 ^ 64))) ∧
    (∀ a, ¬ Instr.wf (.pathTestDone 64 a)) ∧
    (∀ a b d, ¬ Instr.wf (.telSetup ⟨32, 0, false, false, 0, 0⟩ a b d)) ∧
    (∀ a b d, ¬ Instr.wf (.telSetup a 256 b d)) ∧
    (∀ a b d, ¬ Instr.wf (.telSetup a b 256 d)) ∧
    (∀ a b d, ¬ Instr.wf (.telSetup a b d (2 ^ 64))) ∧
    (∀ a b, ¬ Instr.wf (.logRead ⟨32, 0, false, false, 0, 0⟩ a b)) ∧
    (∀ a b, ¬ Instr.wf (.logRead a (2 ^ 32) b)) ∧
    (∀ a b, ¬ Instr.wf (.logRead a b (2 ^ 64))) ∧
    (∀ a b d e, ¬ Instr.wf (.fltDumpRegion ⟨32, 0, false, false, 0, 0⟩ a b d e)) ∧
    (∀ a b d e, ¬ Instr.wf (.fltDumpRegion a b d (2 ^ 64) e)) ∧
    (∀ a b d e, ¬ Instr.wf (.fltDumpRegion a b d e (2 ^ 32))) ∧
    (∀ a b, ¬ Instr.wf (.fltDumpFetch ⟨32, 0, false, false, 0, 0⟩ a b)) ∧
    (∀ a b, ¬ Instr.wf (.fltDumpFetch a b (2 ^ 64))) ∧
    ¬ Instr.wf (.fltDumpTest ⟨32, 0, false, false, 0, 0⟩) ∧
    (∀ a, ¬ Instr.wf (.fatalError 256 a)) ∧
    (∀ a, ¬ Instr.wf (.fatalError a 16)) ∧
    ¬ Instr.wf (.dumpSlotErase 2) ∧
    (∀ a, ¬ Instr.wf (.smbSetOffset (2 ^ 32) a)) ∧
    (∀ a b, ¬ Instr.wf (.smbWrite (2 ^ 32) a b)) ∧
    (∀ a b, ¬ Instr.wf (.smbWrite a (2 ^ 32) b)) ∧
    (∀ a, ¬ Instr.wf (.devLock (.engine 16) a)) ∧
    (∀ a, ¬ Instr.wf (.devLock a (2 ^ 32))) ∧
    (∀ a b d, ¬ Instr.wf (.registerWrite (.engine 16) a b d)) ∧
    (∀ a b d, ¬ Instr.wf (.registerWrite a (2 ^ 22) b d)) ∧
    (∀ a b d, ¬ Instr.wf (.registerWrite a b 5 d)) ∧
    (∀ a b d, ¬ Instr.wf (.registerWrite a b d (2 ^ 64))) := by
  simp [Instr.wf]

/-! ### Small states that meet the hypotheses of the statements -/

/-- A small state: reset with nothing written in the registers, so that the kernel reads them fast. -/
def wReset : State := { State.reset with regs := [] }

/-- A device in service, its rings ready, at the beginning of frame 0 of air time. -/
def wServed : State :=
  { wReset with now := 315964819000000000, boot := { wReset.boot with step := 9 } }.put Reg.HRG_STAT_READY 1

/-- A timed header at the last frame that may be named, and an untimed one. -/
def wTimed : Hdr := ⟨31, 65535, true, false, 1024, 0⟩
def wNow : Hdr := ⟨31, 65535, false, false, 0, 0⟩

theorem wServed_stored : wServed.stored := by decide +kernel
theorem wServed_takesNow : wServed.TakesNow wNow := ⟨by decide +kernel, by decide +kernel, by decide +kernel, by decide +kernel, by decide +kernel⟩
theorem wServed_takesTimed : wServed.TakesTimed wTimed :=
  ⟨by decide +kernel, by decide +kernel, by decide +kernel, by decide +kernel, by decide +kernel, by decide +kernel, by decide +kernel⟩

/-- Whether an outcome is a next state. -/
def goesOn (o : Host.Outcome State Fault Refusal) : Bool :=
  match o with
  | .next _ => true
  | _ => false

/-! ### The machine as a whole, rings, registers and the package -/

theorem test_wit_StepRunsTheFrontCommand : State.reset.pending = [] := by decide +kernel

theorem test_wit_EveryStepKeepsTheStoresCanonical : State.reset.stored ∧ goesOn (step State.reset) = true :=
  ⟨State.reset_stored, by decide +kernel⟩

theorem test_wit_CommandsKeepToTheirParts :
    wServed.stored ∧ goesOn (exec .idcode wServed) = true ∧ Part.regs ∉ touches .idcode ∧ Part.clock ∉ touches .idcode := by decide +kernel

theorem test_wit_DescriptorsSpellTheirCommands :
    Hdr.wf ⟨31, 65535, true, true, 2 ^ 32 - 1, 65535⟩ ∧ Cmd.wf (.dpdLoad 255 255 65535 (2 ^ 64 - 1)) ∧ Cmd.wf .nop ∧
    Cmd.wf (.seaRetire (2 ^ 128 - 1)) := by decide

/-- A device with completion ring 63 of 16 slots in place, empty or full. -/
def wRing63 (hostPos : Nat) : State :=
  ((((wServed.put Reg.HRG_CTL_EN 1).put (Reg.HRG_RING_CFG_EN 63) 1).put (Reg.HRG_RING_CFG_LOG2SIZE 63) 4).put (Reg.HRG_RING_STAT_POS_PHASE 63) 1).modRing
    63 fun q => { q with hostPos := hostPos }

theorem test_wit_RecordsReachTheirRings :
    (wRing63 16).stored ∧ (wRing63 16).ringOn 63 = true ∧ (wRing63 16).hostUp = true ∧ (wRing63 16).ringFree 63 ≠ 0 ∧
    ((wRing63 16).host.heldCompletions.any fun (e : Nat × Completion) => e.1 == 63) = false ∧
    (wRing63 0).stored ∧ (wRing63 0).ringOn 63 = true ∧ (wRing63 0).hostUp = true ∧ (wRing63 0).ringFree 63 = 0 ∧
    (∀ p q : Nat, (List.replicate 32 (p + q)).length = 32) := by
  refine ⟨by decide +kernel, by decide +kernel, by decide +kernel, by decide +kernel, by decide +kernel, by decide +kernel, by decide +kernel,
    by decide +kernel, by decide +kernel, fun _ _ => List.length_replicate ..⟩

theorem test_wit_TimedCommandsWaitInTheStore :
    wServed.stored ∧ wServed.TakesTimed wTimed ∧
    txCarrierFields wServed wTimed ⟨255, 7, false, 15, 0, 0, 0, 0, 0, 0⟩ = none ∧
    txCarrierFields wServed wTimed ⟨1, 0, true, 1, 12, 273, 0, 0, 0, 0⟩ = none ∧
    txTileFields wServed wTimed ⟨7, true, true, 0, [0, 0, 0, 0, 0, 0, 0, 0]⟩ = none ∧
    biasSetFields ⟨7, 15, 2, true, 65535⟩ = none ∧ ddsToneFields ⟨2 ^ 63, 0, 0, 0, true, false⟩ = none ∧
    dpdSwapFields wServed wTimed 7 255 14 = none ∧ wServed.anyFading 7 255 = false ∧
    rxCarrierFields wServed wTimed ⟨255, 7, false, 7, 0, 0, 0, 0, 31, 0, 0⟩ = none ∧
    rxExtractFields wServed wTimed ⟨255, 15, true, 7, 3, 16383, 0, 275, 3, 7, 2560, 2559⟩ = none ∧
    wServed.airNs + 1000000 ≤ wServed.tickStart (wServed.effAbs wTimed) ∧
    bfLayersFields wServed wTimed 7 32 7 = none ∧ beamSwapFields wServed wTimed 14 = none ∧ wServed.beam.transition = none ∧
    covSetupFields wServed wTimed ⟨7, true, 16, 275, 0, 1, 0, 2560, 2559, 0, 16383, true, 14, 0⟩ = none ∧
    acdFields wTimed ⟨15, true, 7, 3, 1, 16, 15, 13, 7, 0, 8, 0, 837, 839, 64, 1, 0, 16, 0⟩ = none ∧
    foFields wServed wTimed ⟨31, true, 7, 1, 12, 13, 0, 1, 3, 0, 1, 0, 0⟩ = none ∧
    rctPatternFields wServed wTimed 3 255 40 8 = none ∧ tileStateFields wServed wTimed 255 3 = none ∧
    rffeFields wTimed ⟨7, 4, 2, List.replicate 4 ⟨15, 7, 4, 0, 0⟩, 8⟩ = none ∧
    fhCarrierFields ⟨7, true, 1, 1, 14, false⟩ = none ∧
    coopSetFields wTimed ⟨31, true, true, true, 23, 24, 1, 1, 0, 0, 3, 255, 0, 255, 31, 32, 7, 0, 192, 0⟩ = none ∧
    otaFields ⟨1, 7, 7, 16383, 4095, 4095, 64⟩ = none := by
  refine ⟨wServed_stored, wServed_takesTimed, ?_⟩; and_intros <;> decide +kernel

/-- The device with submission ring 31 of 16 slots enabled at position 0, the host one ahead, and completion ring 47 in
place for it; a byte of its memory gives the phase there. -/
def wRing31 (phase : Nat) (retries : Nat) : State :=
  let s := { wRing63 16 with hostMem := if phase = 0 then [] else [(1, 1)] }
  let s := ((s.put (Reg.HRG_RING_CFG_EN 31) 1).put (Reg.HRG_RING_CFG_LOG2SIZE 31) 4).put (Reg.HRG_RING_CFG_CQ 31) 15
  let s := ((s.put (Reg.HRG_RING_CFG_EN 47) 1).put (Reg.HRG_RING_CFG_LOG2SIZE 47) 4).modRing 47 fun q => { q with hostPos := 16 }
  (s.put (Reg.HRG_RING_STAT_POS_PHASE 47) 1).modRing 31 fun q => { q with hostPos := 1, retries := retries, retryAt := wServed.now - 1000 }

/-- The device with profile changes waiting for a frame. -/
def wProfile (l : List (Hdr × Nat × Int)) : State := { wServed with host := { wServed.host with profilePending := l } }

theorem test_wit_RingsFetchTheirCommands :
    wServed.stored ∧ wServed.TakesNow wNow ∧ wServed.profileFits 4 = true ∧ (wProfile [(wNow, 4, 0)]).stored ∧
    (wProfile [(wNow, 4, 0)]).host.timed = [] ∧ (wProfile [(wNow, 4, 0)]).profileFits 4 = true ∧
    (wRing31 0 0).stored ∧ (wRing31 0 0).ringTurn 31 = true ∧ (wRing31 0 0).mayFetch 31 = true ∧ (wRing31 0 0).phaseMatches 31 = true ∧
    (wRing31 0 0).fenced 31 ((wRing31 0 0).descriptor 31) = false ∧ (wRing31 1 0).stored ∧ (wRing31 1 0).ringTurn 31 = true ∧
    (wRing31 1 0).mayFetch 31 = true ∧ (wRing31 1 0).phaseMatches 31 = false ∧
    ((wRing31 1 4).ring 31).retryAt + 1000 ≤ (wRing31 1 4).now ∧ (wRing31 1 4).mayFetch 31 = true ∧ (wRing31 1 4).phaseMatches 31 = false ∧
    (wRing31 1 3).mayFetch 31 = true ∧ (wRing31 1 3).phaseMatches 31 = false ∧ (wRing31 0 3).mayFetch 31 = true ∧
    (wRing31 0 3).phaseMatches 31 = true := by
  refine ⟨wServed_stored, wServed_takesNow, ?_⟩; and_intros <;> decide +kernel

theorem test_wit_RingsFollowTheirDoorbells :
    (wRing31 0 0).doorbellReached 31 = true ∧ (wRing31 0 0).on Reg.HRG_STAT_READY = true ∧ (wRing31 0 0).ringOn 31 = true ∧
    (wRing31 0 0).ringN 31 = 16 ∧ (wRing31 0 0).tailOk 31 16 = true ∧
    (((wRing31 0 0).modRing 31 fun q => { q with hostPos := 0 }).ring 31).hostPos = (wRing31 0 0).ringPos 31 ∧
    (wRing63 0).doorbellReached 63 = true ∧ (wRing63 0).ringN 63 = 16 ∧ (wRing63 0).headOk 63 16 = true ∧ ((wRing63 0).ring 63).dropped = 0 ∧
    wServed.mayWrite .pcie (Reg.HRG_RING_CFG 31) = true ∧ (wServed.put Reg.HRG_CTL_EN 1).on Reg.HRG_CTL_EN = true ∧
    (wServed.put Reg.HRG_CTL_EN 1).on (Reg.HRG_RING_CFG_EN 31) = false ∧ (wRing31 0 0).on (Reg.HRG_RING_CFG_EN 31) = true ∧
    (wRing31 0 0).mayWrite .pcie Reg.HRG_CTL = true := by
  and_intros <;> decide +kernel

/-- The device with one command in the timed store: a BEAM_SWAP of frame 0. -/
def wHeld (tick : Nat) (checked : Bool) : State :=
  { wServed with host := { wServed.host with timed := [⟨wTimed, .synRecal, 0, tick, checked, true, 0⟩] } }

theorem test_wit_TicksCarryOutTheirWork :
    (wHeld 2 false).stored ∧ (wHeld 2 false).heldTick ⟨wTimed, .synRecal, 0, 2, false, true, 0⟩ - 2 = (wHeld 2 false).absTick ∧
    (wHeld 3 false).absTick < (wHeld 3 false).heldTick ⟨wTimed, .synRecal, 0, 3, false, true, 0⟩ - 2 ∧
    (wHeld 0 true).heldTick ⟨wTimed, .synRecal, 0, 0, true, true, 0⟩ = (wHeld 0 true).absTick ∧ wServed.running = true ∧
    wServed.atFrame = true := by
  and_intros <;> decide +kernel

/-- The device with a completion ring of 16 slots that has records of vector 63 unsignalled. -/
def wSignal (masked : Bool) : State :=
  (((((wRing63 16).put (Reg.HRG_RING_CFG_IRQ_EN 63) 1).put (Reg.HRG_RING_CFG_VECTOR 63) 63).modRing 63 fun q => { q with unsignalled := 1 }).wr
    (msixEntry 63 + 12) (if masked then 1 else 0)).putBit64 msixPba 63 true

theorem test_wit_InterruptsAndTheLink :
    (wSignal true).stored ∧ (wSignal true).hostUp = true ∧ (List.range' 32 32).any ((wSignal true).msixDue 63) = true ∧
    bit ((wSignal true).rd (msixEntry 63 + 12)) 0 = true ∧ (wSignal false).stored ∧
    (List.range' 32 32).any ((wSignal false).msixDue 63) = true ∧ bit ((wSignal false).rd (msixEntry 63 + 12)) 0 = false ∧
    (wSignal true).reaches .pcie (msixEntry 63) = true ∧ (wSignal true).bit64 msixPba 63 = true ∧ wServed.boot.tunnel = false ∧
    wServed.running = true ∧ wServed.inService = true := by
  and_intros <;> decide +kernel

theorem test_wit_RegistersAreWritten :
    wServed.stored ∧ wServed.mayWrite .pcie (Reg.DEV_SCRATCH 3) = true ∧ wServed.mayWrite .smbus 0x08FFFC = true ∧
    wReset.mayWrite .pcie 0 = false ∧ wServed.mayWrite (.engine 14) Reg.DEV_LOCK = true ∧ bit 0x5A01 0 = true ∧ bits 0x5A01 8 8 = 0x5A ∧
    (findReg Reg.TIM_AIR_OFS).any (fun d => decide (d.word = 0 ∧ 1 < d.words ∧ d.fields ≠ [])) = true ∧ wServed.mayRead .pcie Reg.TIM_AIR_OFS = true ∧
    wServed.mayWrite .pcie Reg.TIM_AIR_OFS = true ∧ wServed.mayWrite .pcie Reg.DEV_TICK_STAT = true ∧
    wServed.mayWrite .pcie Reg.TIM_REF_NUM = true ∧ bit 0x200 16 = false ∧ bits 0x200 0 2 = wServed.get Reg.TIM_REF_NUM_MU ∧
    bits 0x200 2 1 = wServed.get Reg.TIM_REF_NUM_ECP ∧ bits 0x200 8 3 ≠ wServed.get Reg.TIM_REF_NUM_T_ADV ∧ bits 0x200 8 3 = 2 ∧ bits 0x600 8 3 = 6 ∧
    wServed.atFrame = true := by
  and_intros <;> decide +kernel

/-- The device with every engine of its tiles running. -/
def wEngines : State :=
  ((wServed.put (Reg.ENG_STAT_STATE 7) 1).put (Reg.RCT_TILE_STATE_STATE 7) 1)

theorem test_wit_BackgroundWorkAndSummaries :
    wEngines.stored ∧ wEngines.running = true ∧ realFail (.engineMem 15 0) = true ∧ realFail (.otherSram 0 4) = true ∧
    wEngines.engineRuns 7 = true ∧ wEngines.tileState 7 ≠ 0 ∧ wEngines.get Reg.PWR_STAT_STATE < 2 ∧
    (wEngines.put (Reg.TIL_DPD_CTL_OWNER 7) 255).dpdOwned 63 = true ∧ wEngines.dpdFading 63 = false ∧ wEngines.atSlot = true ∧
    ({ wEngines with tx := { wEngines.tx with satFlags := [(7, 1)] } }).tx.satFlags.getD 7 0 ≠ 0 ∧
    ({ wEngines with rx := { wEngines.rx with satCount := [(7, 1)] } }).rx.satCount.getD 7 0 ≠ 0 := by
  and_intros <;> decide +kernel

theorem test_wit_ManagementAndTest :
    wServed.stored ∧ wServed.running = true ∧ wServed.mayRead .smbus wServed.pkg.smbOffset = true ∧ wServed.pkg.smbOffset % 4 = 0 ∧
    ({ wServed with pkg := { wServed.pkg with smbOffset := 0x400000 } }).mayRead .smbus 0x400000 = false ∧
    (wServed.put Reg.THM_STAT_LEVEL 2).smbAlert = true ∧ wServed.boot.testEn = false ∧
    ({ wServed with boot := { wServed.boot with testEn := true } }).boot.testEn = true := by
  and_intros <;> decide +kernel

/-! ### The transmit and the receive chain, beams and radio control -/

/-- The device with 65 valid entries in the active bank of path 63 and as many in host memory, with a load or a profile waiting. -/
def wDpd (loads : List DpdJob) (waiting : List (Hdr × Nat × Int)) : State :=
  { wServed with
    hostMem := (List.range 65).map fun i => (8 * i + 7, 0x80),
    tx := { wServed.tx with banks := [(63 * 2, List.replicate 65 (2 ^ 63))], loads := loads },
    host := { wServed.host with profilePending := waiting } }

theorem test_wit_DpdBanksKeepTheProfilesLimit :
    (wDpd [⟨wNow, 63, 1, 65, 0, false⟩] []).stored ∧ (wDpd [⟨wNow, 63, 1, 65, 0, false⟩] []).TakesNow wNow ∧
    (wDpd [⟨wNow, 63, 1, 65, 0, false⟩] []).tx.loads.find? (fun (j : DpdJob) => j.path == 63) = some ⟨wNow, 63, 1, 65, 0, false⟩ ∧
    profileDpd (wDpd [⟨wNow, 63, 1, 65, 0, false⟩] []).profile <
      dpdCount (words8 65 ((wDpd [⟨wNow, 63, 1, 65, 0, false⟩] []).hostRead 0 (8 * 65))) ∧
    profileDpd 4 < dpdCount ((wDpd [] []).dpdBank 63 ((wDpd [] []).dpdActive 63)) ∧
    (0 : Int) ≤ (wDpd [] [(wNow, 4, 0)]).frame ∧ (wDpd [] [(wNow, 4, 0)]).host.timed = [] := by
  refine ⟨by decide +kernel, ⟨by decide +kernel, by decide +kernel, by decide +kernel, by decide +kernel, by decide +kernel⟩, ?_⟩
  and_intros <;> decide +kernel

/-- The device with a fade of path 63 that ends now, or a held swap of tile 7. -/
def wFade : State := { wServed with tx := { wServed.tx with fades := [(63, ⟨-14, 14⟩)] } }
def wSwapQ : State := { wServed with tx := { wServed.tx with swapQ := [(7, ⟨wNow, 255, 14, 0⟩)] } }

theorem test_wit_DpdBanksLoadAndSwap :
    wServed.stored ∧ wServed.TakesNow wNow ∧ dpdLoadFields 63 1 128 8 = none ∧ wServed.dpdOwned 63 = false ∧ wServed.dpdFading 63 = false ∧
    wServed.dpdActive 63 ≠ 1 ∧
    wFade.stored ∧ wFade.tx.fades.get? 63 = some ⟨-14, 14⟩ ∧ ((-14 : Int) + (14 : Nat) = wFade.absTick) ∧ wFade.tx.loadQ.get? 63 = none ∧
    wSwapQ.stored ∧ wSwapQ.tx.swapQ.get? 7 = some ⟨wNow, 255, 14, 0⟩ ∧ wSwapQ.atSlot = true ∧ wSwapQ.absTick = 0 ∧
    wSwapQ.anyFading 7 255 = false ∧ wSwapQ.anyOwned 7 255 = false ∧ wSwapQ.anyLoading 7 255 = false := by
  refine ⟨wServed_stored, wServed_takesNow, ?_⟩; and_intros <;> decide +kernel

/-- The device with the bias output 15 of tile 7 in a given condition, its trigger the effective tick. -/
def wBias (d : BiasDac) : State := (wServed.put (Reg.TIL_BIAS_CFG_TRIG 7 15) 3).setBiasDac 7 15 d

theorem test_wit_BiasCodesReachTheirOutputs :
    let j : BiasJob := ⟨wNow, none, 65535, 0, wServed.now, false⟩
    let k : BiasJob := ⟨wNow, some 2, 65535, 0, wServed.now, false⟩
    (wBias ⟨some j, none, none, false⟩).stored ∧ (wBias ⟨some j, none, none, false⟩).get (Reg.TIL_BIAS_CFG_TRIG 7 15) = 3 ∧
    ((j.effAt : Int) + (wBias ⟨some j, none, none, false⟩).biasOffset 7 = (wBias ⟨some j, none, none, false⟩).now) ∧
    (wBias ⟨some { j with effAt := wServed.now - 10000000 }, none, none, false⟩).atSlot = true ∧
    (wBias ⟨some j, none, none, false⟩).tileState 7 ≠ 3 ∧
    ((wBias ⟨none, some ⟨k, wServed.now - 5000, false, false⟩, none, false⟩).biasDac 7 15).change = some ⟨k, wServed.now - 5000, false, false⟩ ∧
    ((wBias ⟨none, some ⟨k, wServed.now - 20000, true, true⟩, none, false⟩).biasDac 7 15).change = some ⟨k, wServed.now - 20000, true, true⟩ := by
  and_intros <;> decide +kernel

/-- The device with an overload episode of path 63 that began 200 ns ago. -/
def wOverload : State := { (wServed.put (Reg.TIL_RX_CFG_PROT_EN 7) 1) with rx := { wServed.rx with episodes := [(63, ⟨wServed.now - 200, false⟩)] } }

theorem test_wit_OverloadEpisodes :
    wServed.stored ∧ wServed.rx.episodes.get? 63 = none ∧ wOverload.stored ∧
    wOverload.rx.episodes.get? 63 = some ⟨wServed.now - 200, false⟩ ∧ wServed.now - 200 + 200 = wOverload.now ∧
    wOverload.on (Reg.TIL_RX_CFG_PROT_EN 7) = true := by
  and_intros <;> decide +kernel

/-- The device with a sync event whose edge has come, and with a panel confirmation at its deadline. -/
def wSync : State :=
  { (wServed.put Reg.TIM_SYNC_CTL_PIN_EN 1) with rx := { wServed.rx with syncs := [⟨0, 0, none, false⟩], confirm := some ⟨wNow, wServed.now, 0, 0, false⟩ } }

theorem test_wit_SyncEventsSetTheGrid :
    wSync.stored ∧ wSync.on Reg.TIM_SYNC_CTL_PIN_EN = true ∧ wSync.rx.syncs = [⟨0, 0, none, false⟩] ∧ refEdgeNs 0 ≤ wSync.now ∧
    wSync.rx.confirm = some ⟨wNow, wServed.now, 0, 0, false⟩ ∧ wServed.now = wSync.now := by
  and_intros <;> decide +kernel

/-- The device with its beam unit in a given condition. -/
def wBeam (f : BeamState → BeamState) : State := { wServed with beam := f wServed.beam }

theorem test_wit_BeamTablesFillAndSwap :
    let w : BeamWrite := ⟨0, some wNow, 1, 0, 4096, 64, false, 0, false, false, []⟩
    wServed.stored ∧ wServed.TakesNow wNow ∧ beamLoadFields ⟨1, false, false, false, 0, 4096, 64, 0⟩ = none ∧
    beamLoadFields ⟨1, false, false, true, 4095, 1, 64, 4⟩ = none ∧ wServed.beam.transition = none ∧ 1 ≠ wServed.beamActive ∧
    wServed.flushPool.beam.pool = [] ∧ (wBeam fun b => { b with writes := [w] }).beam.writes = w :: [] ∧
    (wBeam fun b => { b with pool := [(4095, ⟨4095, false, 0, 0, false⟩)] }).beam.pool.get? 4095 = some ⟨4095, false, 0, 0, false⟩ ∧
    (wBeam fun b => { b with missFlags := 1 }).beam.missFlags ≠ 0 ∧
    (wBeam fun b => { b with transition := some ⟨-15, 14, 0⟩ }).absTick = 0 ∧ (wBeam fun b => { b with transition := some ⟨-15, 14, 0⟩ }).beam.queue = none ∧
    ({ wServed with now := wServed.now + 434000 }).slotStart (({ wServed with now := wServed.now + 434000 }).absTick + 2) = true ∧
    wServed.shadowBusy = false ∧ wServed.beam.starting = none := by
  refine ⟨wServed_stored, wServed_takesNow, ?_⟩; and_intros <;> decide +kernel

theorem test_wit_CovarianceAndDetection :
    let c : CovSetupCmd := ⟨7, true, 16, 275, 0, 1, 0, 2560, 2559, 0, 16383, false, 14, 0⟩
    let o : Occasion := ⟨15, 6, 0, 0, 0, 0, 0, true, false, false, false⟩
    let fo : FoCmd := ⟨31, true, 7, 2 ^ 31, 12, 13, 0, 1, 3, 0, 1, 0, 0⟩
    let s := wBeam fun b => { b with cov := [(7, ⟨c, [], 0, 0, 0, [], []⟩)], solves := [(6, ⟨0, 0, []⟩)], normDue := some 0, occasions := [o], fo := [(31, fo)] }
    let t := { s with rx := { s.rx with carriers := [(7, ⟨1, 12, 273, 0, 0, 0, 0, 0⟩)] } }
    s.stored ∧ s.beam.cov.get? 7 = some ⟨c, [], 0, 0, 0, [], []⟩ ∧ s.beam.solves.has 7 = false ∧
    (0 : Int) + 2 ≤ ({ s with now := s.now + 100000 }).absTick ∧ s.beam.solves.get? 6 = some ⟨0, 0, []⟩ ∧ (0 : Int) ≤ s.absTick ∧
    s.beam.transition = none ∧ s.beam.normDue ≠ none ∧
    s.beam.occasions.find? (fun o => o.config == 15 && o.time == 6 && o.processing) = some o ∧ t.beam.fo.get? 31 = some fo ∧
    bit fo.layerMask 31 = true ∧ t.setCarrier 1 fo.carrier = some (1, 273) ∧ (scsKhz 1 * 500 : Int) = 15000 := by
  and_intros <;> decide +kernel

/-- The device with transmission allowed. -/
def wAllowed : State := (wServed.put Reg.LVE_STAT_TX_ALLOWED 1).put Reg.LVE_STAT_OBS_FAIL 128

theorem test_wit_LeveeKeepsItsLimits :
    wAllowed.stored ∧ wAllowed.txAllowed = true ∧ wAllowed.atFrame = true ∧ wAllowed.dwellTurn 7 = some 0 ∧ wAllowed.limitPath = 0 ∧
    wAllowed.coupling = 0 ∧ wAllowed.tileGated 7 = false ∧ bit (wAllowed.get Reg.LVE_STAT_OBS_FAIL) 7 = true ∧
    ({ wAllowed.putBit64 Reg.LVE_MUTE 63 true with levee := { wAllowed.levee with mutes := [(63, ⟨0, wServed.now - 1000000000⟩)] } }).unmutable 63 = true ∧
    (wAllowed.putBit64 Reg.LVE_MUTE 63 true).muted 63 = true := by
  and_intros <;> decide +kernel

theorem test_wit_SynthesisersCalibrate :
    let s : State := { wServed with rct := { wServed.rct with synth := some ⟨2, 0, [wNow]⟩ } }
    let t : State := { wServed.put Reg.DEV_BOOT_STAT_REF_OK 1 with rct := { wServed.rct with driftSince := some 0 } }
    s.stored ∧ s.rct.synth = some ⟨2, 0, [wNow]⟩ ∧ t.stored ∧ t.rct.driftSince = some 0 ∧ t.rct.synth = none ∧
    t.on Reg.DEV_BOOT_STAT_REF_OK = true ∧ t.gapNow = true := by
  and_intros <;> decide +kernel

theorem test_wit_TilesFollowTheirPatterns :
    let a : State := wServed.put (Reg.RCT_TILE_STATE_STATE 7) 1
    let p : State := { wServed.put (Reg.RCT_TILE_STATE_STATE 7) 4 with rct := { wServed.rct with protect := [(7, ⟨[], some wServed.now⟩)] } }
    let b : State := { a with rct := { a.rct with binding := [(7, 3)], timingNext := [(7, 0)], bound := [(7, 3)], patterns := [(3, ⟨1, List.replicate 14 2⟩)] } }
    let c : State := wServed.put (Reg.RCT_COEX_CFG_EN 1) 1
    b.stored ∧ b.rct.binding.get? 7 = some 3 ∧ b.rct.timingNext.get? 7 = some 0 ∧ b.atEvenFrame = true ∧
    p.stored ∧ (p.protect 7).goneAt = some wServed.now ∧ p.tileState 7 = 4 ∧ p.on (Reg.RCT_TILE_STATE_LATCHED 7) = false ∧ p.atSlot = true ∧
    wServed.now + p.get (Reg.RCT_TILE_CFG_PROT_HOLD 7) * 1000000 ≤ p.now ∧
    a.tileState 7 = 1 ∧ a.coexBlocks 7 = false ∧ (a.put Reg.LVE_STAT_TX_ALLOWED 1).txAllowed = true ∧
    ((a.modStrobes 7 fun t => { t with trsw := true }).strobes 7).trsw = true ∧ b.codeOf 7 (b.absTick + 1) = 2 ∧
    c.coexOn 1 = true ∧ c.coexArbiter 1 = false ∧ (c.coex 1).gnt = false ∧ (c.put (Reg.RCT_COEX_CFG_ROLE 1) 1).coexArbiter 1 = true := by
  and_intros <;> decide +kernel

theorem test_wit_FrontEndControl :
    let c : RffeCmd := ⟨7, 4, 0, List.replicate 4 ⟨15, 7, 4, 0, 0⟩, 8⟩
    let s : State := { wServed with rct := { wServed.rct with rffe := [(7, [⟨wNow, c, false⟩])] } }
    let q : Search := ⟨63, 0, 0, 0, 1, 0, false, 0, 0⟩
    let t : State := { wServed.put Reg.RCT_AER_CFG_RL_TARGET 63 with rct := { wServed.rct with search := [(7, q)] } }
    wServed.stored ∧ wServed.TakesNow wNow ∧ rffeFields wNow c = none ∧ s.rct.rffe.getD 7 [] = ⟨wNow, c, false⟩ :: [] ∧
    wServed.rct.search.has 7 = false ∧ (∀ p ∈ maskList 255 8, wServed.get (Reg.RCT_TILE_TUNE_USID0 7) + p ≤ 15) ∧
    t.rct.search.get? 7 = some q ∧ (q.next 0 2).rl < t.get Reg.RCT_AER_CFG_RL_TARGET ∧ (q.next 0 2).step ≠ 0 ∧ (q.next 0 2).trials < 64 := by
  refine ⟨wServed_stored, wServed_takesNow, ?_⟩; and_intros <;> decide +kernel

/-! ### The fronthaul and the lines -/

/-- The device with port 1 up, its fronthaul on, carrier 0 in both directions, and layer sets of one layer. -/
def wFronthaul : State :=
  { (((wServed.put (Reg.LIN_PORT_STAT_PORT_UP 1) 1).put Reg.FTH_CFG_EN_WEST 1).put Reg.FTH_CFG_EN_EAST 1).put Reg.FTH_CFG_MAX_FRAME 9216 with
    tx := { wServed.tx with carriers := [(0, ⟨1, 12, 273, 0, 0, 0, 0⟩)] }, rx := { wServed.rx with carriers := [(0, ⟨1, 12, 273, 0, 0, 0, 0, 0⟩)] },
    beam := { wServed.beam with sets := [(0, ⟨1, 0, 0⟩), (8, ⟨1, 0, 0⟩)] } }

/-- The same device with a static configuration of the downlink of carrier 0. -/
def wStatic : State := { wFronthaul with fh := { wFronthaul.fh with cfg := [(0, ⟨false, 1, 9, true⟩)] } }

theorem test_wit_FronthaulMessagesAreTaken :
    let m : CPlaneIn := ⟨1, none, 0, 0, true, 0, 1, false, 0, 0, 0, 0, 10, 0, 0, 1, 64, [⟨0, 0, false, 0, 0, 4095, 1, 0, 0, []⟩]⟩
    let u : UPlaneIn := ⟨1, none, 0, 0, true, 0, 1, 0, 0, 0, 10, 64, [⟨0, 0, 0, 273, none⟩]⟩
    wFronthaul.stored ∧ wFronthaul.portUp 1 = true ∧ wFronthaul.get Reg.FTH_CFG_MAX_FRAME = 9216 ∧ wFronthaul.dstOk 1 1 = false ∧
    wFronthaul.dstOk 1 0x011B19000000 = true ∧ wFronthaul.strict 1 = false ∧ (wFronthaul.put (Reg.FTH_MSEC_CTL_MODE 1) 1).strict 1 = true ∧
    wFronthaul.fthOn 1 = true ∧ wFronthaul.eaxcOk none m.eaxc m.uplink false = true ∧ (wFronthaul.takeSeq 1 (2 * 2 ^ 20) 0).1 = true ∧
    (wFronthaul.takeSeq 1 (2 * 2 ^ 20) 0).2.carrierNum 0 ((wFronthaul.takeSeq 1 (2 * 2 ^ 20) 0).2.eaxcCc 0) = some 1 ∧
    (wFronthaul.takeSeq 1 (2 * 2 ^ 20) 0).2.windowFail ((wFronthaul.takeSeq 1 (2 * 2 ^ 20) 0).2.symbolTick 1 m.sfn m.subframe m.slot m.symbol)
      false false = none ∧
    wStatic.stored ∧ (wStatic.takeSeq 1 0 0).1 = true ∧ (wStatic.takeSeq 1 0 0).2.carrierNum 0 ((wStatic.takeSeq 1 0 0).2.eaxcCc 0) = some 1 ∧
    (wStatic.takeSeq 1 0 0).2.windowFail ((wStatic.takeSeq 1 0 0).2.symbolTick 1 u.sfn u.subframe u.slot u.symbol) true false = none ∧
    ((wStatic.takeSeq 1 0 0).2.fhCfg 0 0).static = true ∧
    (wStatic.takeSeq 1 0 0).2.fh.sections = [] := by
  and_intros <;> decide +kernel

theorem test_wit_FronthaulMeasuresAndReports :
    let c : FhOwdmCmd := ⟨1, false, 0, 0, 255, 8⟩
    let s : State := { wFronthaul with fh := { wFronthaul.fh with owdm := [(511, ⟨wNow, c, wServed.now - 100000000⟩)], report := [⟨0, 0, 0, []⟩] } }
    wFronthaul.stored ∧ wFronthaul.TakesNow wNow ∧ wFronthaul.fh.owdm.get? (owdmKey c.port c.id) = none ∧ s.stored ∧ s.fthOn 1 = true ∧
    s.fh.owdm.get? (owdmKey 1 255) = some ⟨wNow, c, wServed.now - 100000000⟩ ∧ wServed.now - 100000000 + 100000000 = s.now ∧
    s.fh.report ≠ [] ∧ s.fthOn s.duPort = true := by
  refine ⟨by decide +kernel, ⟨by decide +kernel, by decide +kernel, by decide +kernel, by decide +kernel, by decide +kernel⟩, ?_⟩
  and_intros <;> decide +kernel

/-- A device that is the last member of cooperating set 31, whose state is given. -/
def wSet (state : Nat) : State :=
  { wFronthaul.wr64 Reg.FTH_SET_STATE (state * 2 ^ 62) with
    fh := { wFronthaul.fh with sets := [(31, ⟨31, true, true, true, 1, 2, 7, 1, 0, 0, 1, 255, 0, 255, 0, 32, 0, 0, 192, 0⟩)],
                               own := [⟨31, 0, 0, 0, 0, 0, none, false, false⟩] },
    line := { wFronthaul.line with ports := [(1, { PortState.initial with reachable := true })] },
    tim := { wFronthaul.tim with ports := [(1, { TimePort.initial with joined := true })] } }

theorem test_wit_CooperatingSetsCombine :
    let c : CoopSetCmd := ⟨31, true, true, true, 1, 2, 7, 1, 0, 0, 1, 255, 0, 255, 0, 32, 0, 0, 192, 0⟩
    let m : PartialSum := ⟨7, 0, false, false, false, 0, 0, 0, 0, 31, 0, 0, 0, 1, [⟨0, List.replicate 24 0⟩]⟩
    (wSet 1).stored ∧ (wSet 1).fh.sets = [(31, c)] ∧ (wSet 1).atSlot = true ∧ (wSet 1).setState 31 = 1 ∧
    (chainPorts c).all (wSet 1).chainReachable = true ∧ (chainPorts c).all ((wSet 1).put (Reg.TIM_PORT_STAT_XFER 1) 2).chainAligned = true ∧
    (wSet 2).stored ∧ (wSet 2).setState 31 = 2 ∧ (chainPorts c).all (wSet 2).chainAligned = false ∧ setCovers c 1 m.carrier m.layer = true ∧
    m.startPrb + m.blocks.length ≤ (wSet 2).carrierPrb 1 0 ∧ ((wSet 2).takeSeq 1 (0x40 * 2 ^ 20 + 31 * 256 + 0) 0).1 = true ∧
    ((wSet 2).takeSeq 1 (0x40 * 2 ^ 20 + 31 * 256 + 0) 0).2.setState 31 = 2 ∧
    ((wSet 2).takeSeq 1 (0x40 * 2 ^ 20 + 31 * 256 + 0) 0).2.carrierNum 1 0 = some 1 ∧ (wSet 2).now < (wSet 2).holdEnd 0 ∧
    (wSet 2).absTick < 0 + 2 ∧ ({ wSet 2 with now := wServed.now + 80000 }).now < (wSet 2).holdEnd 0 ∧
    (0 : Int) + 2 ≤ ({ wSet 2 with now := wServed.now + 80000 }).absTick ∧ (wSet 2).holdEnd (-280) ≤ (wSet 2).now := by
  and_intros <;> decide +kernel

/-- The member of `wSet` at the end of the hold of tick −280, its own sum waiting, with the final sums given. -/
def wHold (finals : List (Nat × Int × Nat)) : State :=
  let o : OwnSum := ⟨31, 0, 0, 0, 0, -280, none, false, false⟩
  { wSet 2 with fh := { (wSet 2).fh with own := [o], finals := finals } }

theorem test_wit_CooperatingSetsCombine_hold :
    let o : OwnSum := ⟨31, 0, 0, 0, 0, -280, none, false, false⟩
    let c : CoopSetCmd := ⟨31, true, true, true, 1, 2, 7, 1, 0, 0, 1, 255, 0, 255, 0, 32, 0, 0, 192, 0⟩
    let u := fun f => (({ wHold f with fh := { (wHold f).fh with own := [] } }.sendOwn c o).add64 (Reg.FTH_CNT 10) 1).setF Reg.FTH_ERR_PSUM_LATE
    (wHold []).stored ∧ (wHold []).fh.sets.get? 31 = some c ∧ (wHold []).holdEnd (-280) ≤ (wHold []).now ∧ (wHold []).fh.own = [o] ∧
    (u []).fh.finals = [] ∧ (wHold [(31, -280, 1)]).stored ∧ (u [(31, -280, 1)]).fh.finals = [(31, -280, 1)] := by
  and_intros <;> decide +kernel

/-- The device with a CAK on port 1 and its key agreement in a given condition. -/
def wKeys (m : MsecPort) : State :=
  { (wFronthaul.put (Reg.FTH_MSEC_STAT_MKA_UP 1) 1) with sea := { wFronthaul.sea with caks := [(1, ⟨[1], [2]⟩)] }, fh := { wFronthaul.fh with msec := [(1, m)] } }

theorem test_wit_PortsAgreeTheirKeys :
    let m : MsecPort := { MsecPort.initial with live := true, heardAt := wServed.now - 6000000000, helloAt := wServed.now - 2000000000 }
    (wKeys m).stored ∧ (wKeys m).sea.caks.has 1 = true ∧ (wKeys m).mkaUp 1 = true ∧ ((wKeys m).msec 1).movePending = none ∧
    ((wKeys m).msec 1).txSas.contains (3 % 4) = false ∧ (wKeys m).portUp 1 = true ∧ ((wKeys m).msec 1).helloAt + 2000000000 = (wKeys m).now ∧
    ((wKeys m).msec 1).live = true ∧ ((wKeys m).msec 1).heardAt + 6000000000 = (wKeys m).now := by
  and_intros <;> decide +kernel

/-- The device with lane 7 in a state, its record given. -/
def wLane (state : Nat) (l : LaneState) : State := { wServed.put (Reg.LIN_STAT_STATE 7) state with line := { wServed.line with lanes := [(7, l)] } }

theorem test_wit_LanesMoveBetweenTheirStates :
    let a : LaneState := { LaneState.initial with waitEnd := wServed.now, losAt := wServed.now - 10000 }
    (wLane 4 a).stored ∧ (wLane 4 a).laneAt 7 = 4 ∧ (wLane 4 a).on (Reg.LIN_STAT_LOS 7) = false ∧ (wLane 1 a).laneAt 7 = 1 ∧
    ((wLane 1 a).lane 7).waitEnd = (wLane 1 a).now ∧ ((wLane 2 { a with since := wServed.now - 50000000 }).lane 7).since + 50000000 = wServed.now ∧
    ((wLane 3 { a with since := wServed.now - 1000000000 }).lane 7).since + 1000000000 = wServed.now ∧
    ((wLane 4 { a with since := wServed.now - 20000000 }).lane 7).since + 20000000 = wServed.now ∧
    ((wLane 5 a).put (Reg.LIN_STAT_LOS 7) 1).laneAt 7 = 5 ∧ ((wLane 5 a).put (Reg.LIN_STAT_LOS 7) 1).on (Reg.LIN_STAT_LOS 7) = true ∧
    ((wLane 5 a).lane 7).losAt + 10000 = wServed.now ∧ (wLane 2 a).laneAt 7 = 2 := by
  and_intros <;> decide +kernel

theorem test_wit_LanesTrain :
    let l : LaneState := { LaneState.initial with snrSince := some (wServed.now - 10000000), lastCell := wServed.now - 300000000, ready := true }
    let two : State := (wLane 3 l).put (Reg.LIN_PORT_CFG_MODE 1) 5
    let cell : List Nat := [0, 0, 0, 2, 0, 0, 0, 0, 0xFF]
    (wLane 3 l).stored ∧ (wLane 3 l).laneAt 7 = 3 ∧ (wLane 3 l).trainsAlone 7 = true ∧ two.stored ∧ two.laneAt 7 = 3 ∧ two.trainsAlone 7 = false ∧
    (two.lane 7).snrSince = some (wServed.now - 10000000) ∧ wServed.now - 10000000 + 10000000 = two.now ∧ (two.lane 7).countdown = none ∧
    (two.lane 7).lastCell + 300000000 = two.now ∧ (two.lane 7).ready = true ∧ bit (nth cell 3) 1 = true ∧ nth cell 8 = 0xFF ∧
    bit (nth cell 3) 0 = false := by
  and_intros <;> decide +kernel

theorem test_wit_LanesAreWatched :
    let l : LaneState := { LaneState.initial with freezeAt := wServed.now - 1000000, histBusy := true, syncLost := 3 }
    let s : State := (((wLane 5 l).put (Reg.LIN_PORT_CFG_MODE 1) 5).put (Reg.ENG_STAT_STATE 11) 1).put (Reg.LIN_CTL_FREEZE_EN 7) 1
    s.stored ∧ s.laneAt 7 = 5 ∧ s.engineRuns (8 + 7 / 2) = true ∧ s.on (Reg.LIN_CTL_FREEZE_EN 7) = true ∧ s.on (Reg.LIN_STAT_FROZEN 7) = false ∧
    (s.put (Reg.LIN_STAT_FROZEN 7) 1).on (Reg.LIN_STAT_FROZEN 7) = true ∧ (s.lane 7).freezeTold = false ∧
    (s.lane 7).freezeAt + 1000000 = s.now ∧ s.mayWrite .pcie (Reg.LIN_CTL 7) = true ∧ (s.lane 7).histBusy = true ∧
    s.lineMode (portOf 7) = 5 ∧ (s.lane 7).countdown = none ∧ 3 = (s.lane 7).syncLost ∧
    (s.put (Reg.LIN_PORT_STAT_FEC_DEGRADE 1) 1).on (Reg.LIN_PORT_STAT_FEC_DEGRADE 1) = true ∧ (s.port 1).bad = [] := by
  and_intros <;> decide +kernel

/-- The device with a heartbeat or a mute fragment at lane 7, and room in its queues. -/
def wOverlay (cell : List Nat) : State :=
  { ((wServed.put (Reg.LIN_STAT_STATE 7) 5).put (Reg.LIN_PORT_CFG_MODE 1) 5).put (Reg.LIN_PORT_STAT_LANES_UP 1) 15 with
    line := { wServed.line with lanes := [(7, { LaneState.initial with rx14 := [cell] })], lastBeatSent := wServed.now - 1000000,
                                ports := [(1, { PortState.initial with mute := some ⟨wServed.now - 1000000, 0, 0, []⟩ })] } }

/-- A cell of a type, its check right. -/
def wCell (type : Nat) : List Nat := let b := type :: List.replicate 29 0; b ++ bytesBE 2 (crc16 b)

theorem test_wit_PortsAndTheOverlay :
    let s : State := wOverlay [4, 0, 0, 1]
    let m : State := { wOverlay [3, 0, 0x28, 1] with line := { (wOverlay [3, 0, 0x28, 1]).line with ports := [] } }
    s.stored ∧ s.portUp 1 = false ∧ s.get (Reg.LIN_PORT_STAT_LANES_UP 1) = 15 ∧ (∀ a ∈ [0, 20000, 0, 1], ∀ b ∈ [0, 20000, 0, 1], a ≤ b + 20000) ∧
    2 ≤ s.laneAt 7 ∧ s.lineMode (portOf 7) = 5 ∧ (wCell 1).length = 32 ∧ crc16 ((wCell 1).take 30) = natBE (slice (wCell 1) 30 2) ∧
    crc16 ((wCell 4).take 30) = natBE (slice (wCell 4) 30 2) ∧ s.strict (portOf 7) = false ∧ nth (wCell 4) 0 = 4 ∧ nth (wCell 1) 0 = 1 ∧
    (s.lane 7).rx13.length < 32 ∧ (s.lane 7).rx14.length < 32 ∧ s.line.lastBeatSent + 1000000 = s.now ∧ portOf 7 = 1 ∧
    (s.lane 7).rx14 = [4, 0, 0, 1] :: [] ∧ s.on Reg.TIM_ROOT_NO_ID = false ∧ natBE (slice [4, 0, 0, 1] 2 2) % 2 ^ 14 ≠ s.deviceId ∧
    m.stored ∧ (m.lane 7).rx14 = [3, 0, 0x28, 1] :: [] ∧ (m.port 1).mute = none ∧ bits (nth [3, 0, 0x28, 1] 2) 3 3 ≠ 6 ∧
    (s.port 1).mute = some ⟨s.now - 1000000, 0, 0, []⟩ := by
  and_intros <;> decide +kernel

theorem test_wit_LineCommandsRun :
    let s : State := wLane 5 { LaneState.initial with test := some ⟨4, 8, 0, 0, wServed.now - 10000000⟩ }
    s.stored ∧ s.sea.retired = false ∧ s.trip = false ∧ s.laneAt 7 ≠ 0 ∧ (s.lane 7).test = some ⟨4, 8, 0, 0, s.now - 10000000⟩ ∧ s.hostUp = true := by
  and_intros <;> decide +kernel

/-! ### The Culvert, time and the signal engines -/

/-- The device with lane 11 of the Culvert in use and in a receive state. -/
def wCul (rx : Nat) : State :=
  let s := (((wServed.put Reg.CUL_CFG_MEMBERS_M1 7).put Reg.CUL_CFG_EN_NEXT 1).put Reg.CUL_CFG_EN_PREV 1).put Reg.CUL_CFG_LANES 6
  (s.put Reg.DEV_BOOT_STAT_IMAGES_OK 1).put (Reg.CUL_LANE_STAT_RX 11) rx

theorem test_wit_CulvertLanesAlign :
    let l : CulLane := { CulLane.initial with failed := true }
    let s : State := { wCul 2 with cul := { (wCul 2).cul with lanes := [(11, l)], links := [(1, { CulLink.initial with peerSince := [(5, wServed.now - 1000000000)] })] } }
    (wCul 1).stored ∧ (wCul 1).culRx 11 = 1 ∧ (wCul 0).culRx 11 = 0 ∧ (wCul 0).culMay 11 = true ∧ s.stored ∧ s.culRx 11 = 2 ∧
    (s.culLane 11).aligns = 0 ∧ (s.culLane 11).inverted = false ∧ (s.culLink (11 / 6)).peerSince.get? (11 % 6) = some (wServed.now - 1000000000) ∧
    (s.culLane 11).failed = true ∧ wServed.now - 1000000000 + 1000000000 = s.now := by
  and_intros <;> decide +kernel

/-- The device with link 1 of the Culvert in a state, all its lanes wanted and awake. -/
def wLink (state : Nat) : State :=
  let s := ((wCul 2).put (Reg.CUL_LINK_STAT_STATE 1) state).put (Reg.CUL_LINK_STAT_TX_AWAKE 1) 63
  { s with cul := { s.cul with links := [(1, { CulLink.initial with want := 63, peerAligned := 63 })] } }

theorem test_wit_CulvertLinksCarry :
    let s : State := { wLink 2 with cul := { (wLink 2).cul with scan := some ⟨wNow, 2048, 63, 63, 127, 127, 8⟩ } }
    (wLink 2).stored ∧ (wLink 2).culState 1 = 2 ∧ (wLink 3).culState 1 = 3 ∧ ((wLink 3).culLink 1).mismatchAt ≤ (wLink 3).now ∧
    7 ≠ (wLink 2).get Reg.CUL_CFG_POSITION ∧ (culLanesOf 1).any (wLink 2).culMay = true ∧
    ((wLink 2).put Reg.CUL_CFG_AUTO_SLEEP 1).on Reg.CUL_CFG_AUTO_SLEEP = true ∧
    (wLink 2).sea.retired = false ∧ (wLink 2).culMay 11 = true ∧ (wLink 2).culAwake 11 = true ∧ ((wLink 2).culLane 11).sleeping = none ∧
    (wLink 2).sleepCode (11 / 6) (2 ^ (11 % 6)) = 0 ∧ (maskList 63 12).all (wLink 2).culMay = true ∧
    (∀ j, j < 12 → (wLink 2).on (Reg.CUL_LANE_STAT_TX_ASLEEP j) = false ∧ ((wLink 2).culLane j).sleeping = none ∧ ((wLink 2).culLane j).waking = none) ∧
    ((wLink 2).culLink 0).want = (wLink 2).wantMask 0 ∧ ((wLink 2).culLink 1).want = (wLink 2).wantMask 1 ∧ (wLink 2).cul.scan = none ∧
    (maskList 2048 12).all (fun n => decide (2 ≤ (wLink 2).culRx n)) = true ∧ s.cul.scan = some ⟨wNow, 2048, 63, 63, 127, 127, 8⟩ := by
  and_intros <;> decide +kernel

theorem test_wit_CulvertLanesSleepThemselves :
    let s : State := wCul 2
    s.on Reg.CUL_CFG_AUTO_SLEEP = false ∧
    (let t := { (wServed.put Reg.CUL_CFG_AUTO_SLEEP 1) with cul := wServed.cul }
     t.on Reg.CUL_CFG_AUTO_SLEEP = true ∧ ∀ n, n < 12 → ((t.autoPlan 1).culLane n).idleSince = none) := by
  and_intros <;> decide +kernel

theorem test_wit_TheTunnelReachesMembers :
    let m : TunnelMsg := ⟨1, 0, 0, 0, 0, 0, []⟩
    let s : State := (wLink 2).put Reg.CUL_CFG_LEAD 1
    let q : State := s.modPeer 7 fun p => { p with unacked := [(m, wServed.now - 200000)] }
    let t : State := { wLink 2 with boot := { wServed.boot with tunnel := true } }
    s.stored ∧ s.sea.retired = false ∧ s.leads = true ∧ s.canReach 7 = true ∧ s.hostUp = true ∧ s.culState 1 = 2 ∧ s.cul.standDown = false ∧
    fromLead m = false ∧ fromLead { m with type := 8 } = false ∧ (s.peer 8).expect = 0 ∧ (q.peer 7).unacked ≠ [] ∧
    (∀ x ∈ (q.peer 7).unacked, x.2 + 200000 ≤ q.now) ∧ s.mayWrite .pcie (0x340000 + 0x8000 * 7) = true ∧ t.stored ∧ t.boot.tunnel = true ∧
    pcieFail (.pcieDescriptor 31 0) = true ∧ realFail (.pcieDescriptor 31 0) = true ∧ t.running = true ∧ t.inService = true ∧
    t.cul.leadLost = false ∧ ({ t with cul := { t.cul with leadLost := true } }).cul.leadLost = true := by
  and_intros <;> decide +kernel

/-- The device with PTP on its port 1, in domain 24, and the port's record given. -/
def wPtp (p : PtpPort) : State :=
  { (wServed.put Reg.TIM_CTL_PTP_WEST 1).put Reg.TIM_CTL_PTP_DOMAIN 24 with tim := { wServed.tim with ptp := [(1, p)] } }

theorem test_wit_ClockSourcesAreFollowed :
    let p : PtpPort := { PtpPort.initial with validSince := some 0, t1 := some 5, t3 := some 6, reqAt := wServed.now - 62500000 }
    let s : State := ((wPtp p).put Reg.TIM_CTL_PPS_EN 1).put Reg.TIM_PPS_CFG_OUT_EN 1
    let u : State := { (s.put Reg.TIM_STAT_CLK_STATE 1).put Reg.TIM_STAT_SOURCE 3 with
      tim := { s.tim with ppsAt := some (wServed.now - 2000000000), ppsSince := some 0, ppsHigh := true, within := some (wServed.now - 1000000000),
                          disagreeSince := some (wServed.now - 10000000000) } }
    s.stored ∧ s.mayWrite .pcie Reg.TIM_AIR_OFS = true ∧ s.radioQuiet = true ∧ (s.put (Reg.RCT_TILE_STATE_STATE 7) 1).radioQuiet = false ∧
    s.ptpTakes 1 24 = true ∧ ((wPtp PtpPort.initial).ptp 1).t1 = none ∧ s.ptpOn 1 = true ∧ (s.ptp 1).validSince ≠ none ∧
    (s.ptp 1).reqAt + 62500000 = s.now ∧ (s.ptp 1).t1 = some 5 ∧ (s.ptp 1).t3 = some 6 ∧ s.ptpHeard 1 = false ∧ s.on Reg.TIM_CTL_PPS_EN = true ∧
    s.get Reg.TIM_STAT_CLK_STATE ≠ 2 ∧ u.stored ∧ u.tim.ppsAt = some (wServed.now - 2000000000) ∧ s.on Reg.TIM_PPS_CFG_OUT_EN = true ∧
    s.now % 10 ^ 9 = 0 ∧ u.tim.ppsHigh = true ∧ u.tim.ppsUntil ≤ u.now ∧ u.get Reg.TIM_STAT_CLK_STATE = 1 ∧
    u.tim.within = some (wServed.now - 1000000000) ∧ wServed.now - 1000000000 + (lockLimit (u.get Reg.TIM_STAT_SOURCE)).2 = u.now ∧
    u.get Reg.TIM_STAT_SOURCE = 3 ∧ u.extTime = true ∧ (100001 : Int).natAbs > 100000 ∧
    u.tim.disagreeSince = some (wServed.now - 10000000000) ∧ u.on Reg.TIM_STAT_EXT_DISAGREE = false := by
  and_intros <;> decide +kernel

theorem test_wit_TimeIsTransferred :
    let s : State := { (wServed.put Reg.TIM_CTL_OVL_EN 1).put Reg.TIM_STAT_ROOT 1 with
      line := { wServed.line with lanes := [(7, { LaneState.initial with rx13 := [[1]] })] },
      tim := { wServed.tim with ports := [(1, { TimePort.initial with joined := true, thetas := [50, 49] })], parent := some 0, rootAt := wServed.now - 10000000,
                                ownUntil := some wServed.now, ota := some ⟨wNow, ⟨1, 7, 7, 16383, 4095, 4095, 64⟩, 0⟩ } }
    s.stored ∧ s.overlayOn = true ∧ s.strict 1 = false ∧ (s.lane 7).rx13 = [1] :: [] ∧ nth [1] 0 = 1 ∧ (s.timePort 1).joined = true ∧
    (s.timePort 1).thetas ≠ [] ∧ s.tim.parent ≠ some 1 ∧ s.on Reg.TIM_STAT_ROOT = true ∧ s.tim.rootAt + 1000000 ≤ s.now ∧ s.tim.parent ≠ none ∧
    s.tim.rootAt + 10000000 = s.now ∧ s.tim.ownUntil = some s.now ∧ s.sea.retired = false ∧ s.radioQuiet = true ∧
    s.get Reg.TIM_EPOCH_EPOCH < 2 ^ 32 - 1 ∧ s.tim.ota = some ⟨wNow, ⟨1, 7, 7, 16383, 4095, 4095, 64⟩, 0⟩ := by
  and_intros <;> decide +kernel

/-- Engine 15 running, with `p` in slot P of its first bundle, its registers given. -/
def wBundle (p : Nat) (r : EngRegs) : State :=
  (wServed.put (Reg.ENG_STAT_STATE 15) 1).modEngine 15 fun e =>
    { e with r := r, prog := ((List.range 4).map fun i => (4 + i, BitVec.ofNat 8 (p / 256 ^ i))).filter fun c => c.2 != 0 }

theorem wBundle_runs (p : Nat) (r : EngRegs := EngRegs.initial)
    (h : ((wBundle p r).engine 15).prog.readLE (8 * ((wBundle p r).engine 15).r.pc) 8 = p * 2 ^ 32 ∧ (wBundle p r).bundleReady 15 = true ∧
      (wBundle p r).kernelRuns 15 = false ∧ (wBundle p r).stored) :
    (wBundle p r).RunsBundle 15 p ∧ (wBundle p r).stored :=
  ⟨⟨h.1, h.2.1, h.2.2.1⟩, h.2.2.2⟩

theorem test_wit_EnginesComputeInRegisters :
    (∀ op ∈ [0, 0x10, 0x11, 0x12, 0x13, 0x14, 0x15, 0x16, 0x17, 0x18, 0x19, 0x1A, 0x22, 0x23, 0x24, 0x25, 0x26, 0x27, 0x2A, 0x2B],
      ((wBundle (op * 2 ^ 26) EngRegs.initial).RunsBundle 15 (op * 2 ^ 26) ∧ (wBundle (op * 2 ^ 26) EngRegs.initial).stored) ∧
        opOf (op * 2 ^ 26) = op ∧ bits (op * 2 ^ 26) 0 3 = 0) ∧
    (∀ v ∈ [0x4000, 0x7FFF], ∀ op ∈ [0x28, 0x29],
      ((wBundle (op * 2 ^ 26) { EngRegs.initial with g := List.replicate 16 v }).RunsBundle 15 (op * 2 ^ 26) ∧
        (wBundle (op * 2 ^ 26) { EngRegs.initial with g := List.replicate 16 v }).stored) ∧
      ({ EngRegs.initial with g := List.replicate 16 v }).reg (fRa (op * 2 ^ 26 + 2 ^ 18)) % 2 ^ 16 = v) := by
  constructor
  · intro op h
    fin_cases h <;> exact ⟨wBundle_runs _ (h := by decide +kernel), by decide +kernel, by decide +kernel⟩
  · intro v hv op h
    fin_cases hv <;> fin_cases h <;> exact ⟨wBundle_runs _ (r := { EngRegs.initial with g := List.replicate 16 _ }) (h := by decide +kernel), by decide +kernel⟩

/-- Engine 15 with `p` in slot P and `q` in slot Q of its first bundle, its registers given. -/
def wPair (p q : Nat) (r : EngRegs) : State :=
  (wServed.put (Reg.ENG_STAT_STATE 15) 1).modEngine 15 fun e =>
    { e with r := r, prog := ((List.range 8).map fun i => (i, BitVec.ofNat 8 ((p * 2 ^ 32 + q) / 256 ^ i))).filter fun c => c.2 != 0 }

theorem test_wit_EnginesComputeInRegisters_slots :
    let ones : EngRegs := { EngRegs.initial with g := List.replicate 16 3 }
    (∀ op ∈ [0x10, 0x19, 0x22, 0x28], (wPair 0 (op * 2 ^ 26) ones).RunsAlone 15 (op * 2 ^ 26) ∧ (wPair 0 (op * 2 ^ 26) ones).stored) ∧
    (∀ op ∈ [0x10, 0x27, 0x28], (wPair (op * 2 ^ 26) 0 ones).RunsAlone 15 (op * 2 ^ 26) ∧ (wPair (op * 2 ^ 26) 0 ones).stored) ∧
    (∀ k ∈ [0, 1, 2, 3, 4, 5, 7], ((wPair (0x27 * 2 ^ 26 + k) 0 EngRegs.initial).RunsAlone 15 (0x27 * 2 ^ 26 + k) ∧
      (wPair (0x27 * 2 ^ 26 + k) 0 EngRegs.initial).stored) ∧ opOf (0x27 * 2 ^ 26 + k) = 0x27 ∧ bits (0x27 * 2 ^ 26 + k) 0 3 = k) ∧
    2 < ones.reg (fRa (2 ^ 18)) ∧ EngRegs.initial.reg (fRa (2 ^ 18)) ≤ 2 ∧ ones.reg (fRa (2 ^ 18)) % 2 ^ 16 < 0x4000 ∧
    ({ EngRegs.initial with g := List.replicate 16 0x8000 }).reg (fRa (2 ^ 18)) % 2 ^ 16 = 0x7FFF + 1 ∧
    (∀ rd ∈ [0, 1, 15], let p := 0x10 * 2 ^ 26 + rd * 2 ^ 22
      let q := 0x10 * 2 ^ 26 + 15 * 2 ^ 22
      let s := wPair p q ones
      s.stored ∧ (s.engine 15).prog.readLE (8 * (s.engine 15).r.pc) 8 = p * 2 ^ 32 + q ∧ q < 2 ^ 32 ∧ s.bundleReady 15 = true ∧
      s.kernelRuns 15 = false ∧ opOf p = 0x10 ∧ opOf q = 0x10 ∧ fRd p = rd ∧ fRd q = 15) := by
  have mk : ∀ p q w (r : EngRegs), ((((wPair p q r).engine 15).prog.readLE (8 * ((wPair p q r).engine 15).r.pc) 8 = w * 2 ^ 32 ∨
      ((wPair p q r).engine 15).prog.readLE (8 * ((wPair p q r).engine 15).r.pc) 8 = w ∧ w < 2 ^ 32 ∧ slotQOk w = true) ∧
      (wPair p q r).bundleReady 15 = true ∧ (wPair p q r).kernelRuns 15 = false ∧ (wPair p q r).stored) →
      (wPair p q r).RunsAlone 15 w ∧ (wPair p q r).stored := fun _ _ _ _ h => ⟨⟨h.1, h.2.1, h.2.2.1⟩, h.2.2.2⟩
  refine ⟨?_, ?_, ?_, by decide, by decide, by decide, by decide, ?_⟩
  · intro op h; fin_cases h <;> (apply mk; decide +kernel)
  · intro op h; fin_cases h <;> (apply mk; decide +kernel)
  · intro k h
    fin_cases h <;> (refine ⟨?_, by decide, by decide⟩; apply mk; decide +kernel)
  · intro rd h; fin_cases h <;> decide +kernel

/-- The engine's slot as the statements name it. -/
def wSlot (s : State) : SlotIn := ⟨s, 15, (s.engine 15).r, none, s.on (Reg.ENG_STAT_MODE 15), s.free⟩

/-- Pointers at the last aligned place of the data memory, or one byte further. -/
def wPtrs (addr : Nat) : EngRegs := { EngRegs.initial with ptrs := List.replicate 8 ⟨addr, 0, 0, 0, 0, 0⟩ }

theorem test_wit_EnginesUseTheirMemory :
    (∀ op ∈ [1, 2, 3, 4, 5, 6], (wBundle (op * 2 ^ 26) (wPtrs 0x3FFF8)).RunsBundle 15 (op * 2 ^ 26) ∧ (wBundle (op * 2 ^ 26) (wPtrs 0x3FFF8)).stored) ∧
    (∀ op ∈ [1, 2, 3, 4, 5, 6], mOk (op * 2 ^ 26) = true ∧ opOf (op * 2 ^ 26) = op ∧ mAcc (op * 2 ^ 26) = 0 ∧ mConj (op * 2 ^ 26) = false ∧
      (wSlot (wBundle (op * 2 ^ 26) (wPtrs 0x3FFF8))).ptrFault ((wPtrs 0x3FFF8).ptr (mPx (op * 2 ^ 26))) 8 false = none ∧
      (wSlot (wBundle (op * 2 ^ 26) (wPtrs 0x3FFF8))).ptrFault ((wPtrs 0x3FFF8).ptr (mPy (op * 2 ^ 26))) 8 true = none) ∧
    (∀ op ∈ [0x20, 0x21, 0x2C], (wBundle (op * 2 ^ 26) EngRegs.initial).RunsBundle 15 (op * 2 ^ 26) ∧ (wBundle (op * 2 ^ 26) EngRegs.initial).stored) ∧
    (∀ op ∈ [0x20, 0x21, 0x2C], opOf (op * 2 ^ 26) = op ∧ (wSlot (wBundle (op * 2 ^ 26) EngRegs.initial)).ea (op * 2 ^ 26) 4 = 0) ∧
    ((wBundle (4 * 2 ^ 26) (wPtrs 0)).put (Reg.ENG_STAT_MODE 15) 1).on (Reg.ENG_STAT_MODE 15) = true := by
  refine ⟨?_, ?_, ?_, ?_, by decide +kernel⟩
  · intro op h; fin_cases h <;> exact wBundle_runs _ (r := wPtrs 0x3FFF8) (h := by decide +kernel)
  · intro op h; fin_cases h <;> decide +kernel
  · intro op h; fin_cases h <;> exact wBundle_runs _ (h := by decide +kernel)
  · intro op h; fin_cases h <;> decide +kernel

theorem test_wit_EnginesUseTheirMemory_space :
    let at_ : Nat → EngRegs := fun a => { EngRegs.initial with g := 0 :: List.replicate 15 a }
    let p : Nat → Nat := fun op => op * 2 ^ 26 + 2 ^ 18
    (∀ op ∈ [0x20, 0x21], ∀ a ∈ [0x440000, 0x47FFFC], (wBundle (p op) (at_ a)).RunsBundle 15 (p op) ∧ (wBundle (p op) (at_ a)).stored ∧
      opOf (p op) = op ∧ (wSlot (wBundle (p op) (at_ a))).ea (p op) 4 = a ∧ engineReach 15 (a - 0x400000) = true) ∧
    (∀ op ∈ [0x20, 0x21, 0x2C], ∀ a ∈ [0x40000, 0x480000, 0x800000], (wBundle (p op) (at_ a)).RunsBundle 15 (p op) ∧
      (wBundle (p op) (at_ a)).stored ∧ (wSlot (wBundle (p op) (at_ a))).ea (p op) (if op = 0x2C then 2 else 4) = a) ∧
    engineReach 15 (0x480000 - 0x400000) = false := by
  refine ⟨?_, ?_, by decide⟩
  · intro op h a ha
    fin_cases h <;> fin_cases ha <;> exact ⟨(wBundle_runs _ (r := { EngRegs.initial with g := 0 :: List.replicate 15 _ }) (h := by decide +kernel)).1,
      (wBundle_runs _ (r := { EngRegs.initial with g := 0 :: List.replicate 15 _ }) (h := by decide +kernel)).2, by decide +kernel, by decide +kernel, by decide +kernel⟩
  · intro op h a ha
    fin_cases h <;> fin_cases ha <;> exact ⟨(wBundle_runs _ (r := { EngRegs.initial with g := 0 :: List.replicate 15 _ }) (h := by decide +kernel)).1,
      (wBundle_runs _ (r := { EngRegs.initial with g := 0 :: List.replicate 15 _ }) (h := by decide +kernel)).2, by decide +kernel⟩

theorem test_wit_MisalignedAccessesRaiseMisaligned :
    (∀ op ∈ [1, 2, 3, 4, 5, 6], (wBundle (op * 2 ^ 26) (wPtrs 2)).RunsBundle 15 (op * 2 ^ 26) ∧ (wBundle (op * 2 ^ 26) (wPtrs 2)).stored) ∧
    (wPtrs 2).ptr 0 = ⟨2, 0, 0, 0, 0, 0⟩ ∧ 2 % 8 ≠ 0 ∧ 2 % 4 ≠ 0 ∧ mAcc (5 * 2 ^ 26) = 0 ∧
    (∀ op ∈ [0x20, 0x21, 0x2C], (wBundle (op * 2 ^ 26 + 1) { EngRegs.initial with g := List.replicate 16 1 }).RunsBundle 15 (op * 2 ^ 26 + 1) ∧
      (wBundle (op * 2 ^ 26 + 1) { EngRegs.initial with g := List.replicate 16 1 }).stored) ∧
    (wSlot (wBundle (0x20 * 2 ^ 26 + 2 ^ 18) { EngRegs.initial with g := List.replicate 16 1 })).ea (0x20 * 2 ^ 26 + 2 ^ 18) 4 % 4 ≠ 0 ∧
    (wSlot (wBundle (0x2C * 2 ^ 26 + 2 ^ 18) { EngRegs.initial with g := List.replicate 16 1 })).ea (0x2C * 2 ^ 26 + 2 ^ 18) 2 % 2 ≠ 0 ∧
    (wSlot (wBundle (2 ^ 26) { EngRegs.initial with ptrs := ⟨8, 4, 16, 0, 1, 0⟩ :: List.replicate 7 ⟨0, 0, 0, 0, 0, 0⟩ })).ptrFault
      ⟨8, 4, 16, 0, 1, 0⟩ 8 false = some 2 := by
  refine ⟨?_, by decide +kernel, by decide, by decide, by decide +kernel, ?_, by decide +kernel, by decide +kernel, by decide +kernel⟩
  · intro op h; fin_cases h <;> exact wBundle_runs _ (r := wPtrs 2) (h := by decide +kernel)
  · intro op h; fin_cases h <;> exact wBundle_runs _ (r := { EngRegs.initial with g := List.replicate 16 1 }) (h := by decide +kernel)

/-- A kernel of one page at the top of both memories, of a hook. -/
def wKernel (hook : Nat) : Kernel := ⟨hook, 15, 100, 1, 0, 1, 0, 4096, [], [], 63, 1, 63, 1⟩

/-- Engine 7 in its kernel, at a RETK, a covariance window open. -/
def wRetk : State :=
  let s := { (wServed.put (Reg.ENG_STAT_STATE 7) 1).put (Reg.ENG_STAT_KRUN 7) 1 with beam := { wServed.beam with solves := [(7, ⟨0, 0, []⟩)] } }
  s.modEngine 7 fun e => { e with
    r := { EngRegs.initial with pc := 63 * 512 }, prog := [(8 * 63 * 512 + 7, 0xE0)], kernel := some (wKernel 0), saved := some (EngRegs.initial, none) }

theorem test_wit_EnginesBranchAndStop :
    (∀ op ∈ [0x30, 0x31, 0x32, 0x34, 0x35, 0x36, 0x3F], ((wBundle (op * 2 ^ 26) EngRegs.initial).RunsBundle 15 (op * 2 ^ 26) ∧
      (wBundle (op * 2 ^ 26) EngRegs.initial).stored) ∧ opOf (op * 2 ^ 26) = op ∧ cCond (op * 2 ^ 26) ≤ 4 ∧ bits (op * 2 ^ 26) 7 9 = 0) ∧
    ((wBundle (0x33 * 2 ^ 26 + 2 ^ 22) { EngRegs.initial with g := List.replicate 16 1, loops := [⟨0, 0, 1⟩] }).RunsBundle 15 (0x33 * 2 ^ 26 + 2 ^ 22) ∧
      (wBundle (0x33 * 2 ^ 26 + 2 ^ 22) { EngRegs.initial with g := List.replicate 16 1, loops := [⟨0, 0, 1⟩] }).stored) ∧
    0 < ({ EngRegs.initial with g := List.replicate 16 1, loops := [⟨0, 0, 1⟩] }).reg (cRa (0x33 * 2 ^ 26 + 2 ^ 22)) ∧
    wRetk.stored ∧ (wRetk.engine 7).prog.readLE (8 * (wRetk.engine 7).r.pc) 8 = 0x38 * 2 ^ 26 * 2 ^ 32 ∧ opOf (0x38 * 2 ^ 26) = 0x38 ∧
    wRetk.bundleReady 7 = true ∧ wRetk.kernelRuns 7 = true ∧ (wRetk.engine 7).kernel = some (wKernel 0) ∧ (wRetk.engine 7).r.pc = 63 * 512 ∧
    (wRetk.engine 7).saved = some (EngRegs.initial, none) ∧ wRetk.beam.solves ≠ [] ∧ wRetk.budgetUsed 7 ≤ wRetk.budgetOf (wKernel 0) := by
  refine ⟨?_, wBundle_runs _ (r := { EngRegs.initial with g := List.replicate 16 1, loops := [⟨0, 0, 1⟩] }) (h := by decide +kernel), ?_⟩
  · intro op h; fin_cases h <;> exact ⟨wBundle_runs _ (h := by decide +kernel), by decide +kernel, by decide +kernel, by decide +kernel⟩
  · and_intros <;> decide +kernel

theorem test_wit_EnginesBranchAndStop_illegal :
    (∀ w ∈ [0x30 * 2 ^ 26 + 5 * 2 ^ 18, 0x33 * 2 ^ 26, 0x34 * 2 ^ 26 + 2 ^ 7, 0x38 * 2 ^ 26, 7 * 2 ^ 26, 1],
      (wBundle w { EngRegs.initial with loops := [⟨0, 0, 1⟩, ⟨0, 0, 1⟩] }).RunsBundle 15 w ∧
      (wBundle w { EngRegs.initial with loops := [⟨0, 0, 1⟩, ⟨0, 0, 1⟩] }).stored) ∧
    4 < cCond (0x30 * 2 ^ 26 + 5 * 2 ^ 18) ∧ bits (0x34 * 2 ^ 26 + 2 ^ 7) 7 9 ≠ 0 ∧ knownOp (opOf (7 * 2 ^ 26)) = false ∧ knownOp (opOf 1) = false ∧
    (wBundle (0x33 * 2 ^ 26) EngRegs.initial).RunsBundle 15 (0x33 * 2 ^ 26) ∧ EngRegs.initial.reg (cRa (0x33 * 2 ^ 26)) = 0 := by
  refine ⟨?_, by decide, by decide, by decide, by decide, (wBundle_runs _ (h := by decide +kernel)).1, by decide⟩
  intro w h
  fin_cases h <;> exact wBundle_runs _ (r := { EngRegs.initial with loops := [⟨0, 0, 1⟩, ⟨0, 0, 1⟩] }) (h := by decide +kernel)

/-- Engine n in a state and mode, its record given. -/
def wEngine (n state mode : Nat) (f : Engine → Engine) : State :=
  ((wServed.put (Reg.ENG_STAT_STATE n) state).put (Reg.ENG_STAT_MODE n) mode).modEngine n f

theorem test_wit_EnginesAreControlled :
    let s : State := wEngine 15 2 0 fun e => { e with wait := some (15, 127), modeNext := some (1, [wNow]) }
    s.stored ∧ s.get Reg.PWR_STAT_STATE < 2 ∧ s.flt.dump = none ∧ s.engineRuns 15 = true ∧ (s.engine 15).wait = some (15, 127) ∧
    64 &&& 127 ≠ 0 ∧ 128 &&& 127 = 0 ∧ (s.engine 15).saved = none ∧ (wEngine 15 1 0 id).get (Reg.ENG_STAT_STATE 15) = 1 ∧
    ((wEngine 15 1 0 id).engine 15).yieldAt + 10000000 ≤ wServed.now ∧ (wEngine 15 4 0 id).get (Reg.ENG_STAT_STATE 15) = 4 ∧
    ((wEngine 15 4 0 id).engine 15).kernel = none ∧ ((wEngine 15 4 0 id).put (Reg.ENG_STAT_RESTARTS 15) 254).get (Reg.ENG_STAT_RESTARTS 15) < 255 ∧
    (s.engine 15).modeNext = some (b2n true, [wNow]) ∧ s.sea.retired = false ∧ (wEngine 11 1 0 id).engineRuns 11 = true ∧
    (wEngine 11 1 0 id).engineAtRest 11 = true ∧ ((wEngine 11 1 0 id).engine 11).modeNext = none ∧
    (wEngine 11 1 0 id).get (Reg.ENG_STAT_MODE 11) = 0 ∧ (wEngine 11 1 1 id).get (Reg.ENG_STAT_MODE 11) = 1 ∧ (wEngine 11 1 1 id).engineRuns 11 = true := by
  and_intros <;> decide +kernel

/-- Engine 7 in its kernel, waiting for a service, its arguments given. -/
def wService (k : Kernel) (trap a b c : Nat) : State :=
  let g := [0, 0, a, b, c]
  ((wEngine 7 1 0 fun e => { e with r := { EngRegs.initial with g := g ++ List.replicate 11 0 }, kernel := some k, trap := some trap }).put
    (Reg.ENG_STAT_KRUN 7) 1)

theorem test_wit_KernelsRunAtTheirHooks :
    let idle : State := wEngine 7 1 0 fun e => { e with kernel := some (wKernel 1) }
    let cov : CovSetupCmd := ⟨7, true, 1, 4, 0, 32, 0, 2560, 2559, 0, 16383, false, 14, 0⟩
    let big : Kernel := { wKernel 0 with dataPage := 0, dataPages := 64 }
    let s : State := { wService big 2 7 7 0 with beam := { wServed.beam with cov := [(7, ⟨cov, [], 0, 0, 0, [], []⟩)], solves := [(7, ⟨0, 0, []⟩)] } }
    idle.stored ∧ idle.get Reg.PWR_STAT_STATE < 2 ∧ idle.flt.dump = none ∧ idle.sea.retired = false ∧ (idle.engine 7).kpend = none ∧
    (idle.engine 7).kernel = some (wKernel 1) ∧ idle.engineRuns 7 = true ∧ (idle.engine 7).kernelOff = false ∧ idle.on (Reg.ENG_STAT_MODE 7) = false ∧
    idle.hookDue 7 (wKernel 1) 3 = true ∧ idle.kernelRuns 7 = false ∧ idle.atSlot = true ∧
    ((wEngine 7 1 0 fun e => { e with kpend := some ⟨none, some (wKernel 0)⟩ }).engine 7).kpend = some ⟨none, some (wKernel 0)⟩ ∧
    (wService big 0 0 0 0).kernelRuns 7 = true ∧ ((wService big 0 0 0 0).engine 7).trap = some 0 ∧
    ((wService big 1 4095 1 (64 * 4096 - 256)).engReg 7 2) + ((wService big 1 4095 1 (64 * 4096 - 256)).engReg 7 3) = big.wFirst + big.wCount ∧
    big.holdsData ((wService big 1 4095 1 (64 * 4096 - 256)).engReg 7 4) (256 * 1) = true ∧ (wService big 1 4095 1 0).beam.transition = none ∧
    (wService big 2 7 7 0).beam.solves.get? ((wService big 2 7 7 0).engReg 7 2) = none ∧ s.stored ∧
    s.beam.cov.get? (s.engReg 7 2) = some ⟨cov, [], 0, 0, 0, [], []⟩ ∧ s.beam.solves.get? (s.engReg 7 2) = some ⟨0, 0, []⟩ ∧ s.engReg 7 3 % 8 = 7 ∧
    s.engReg 7 3 < covSubbands cov ∧ big.holdsData (s.engReg 7 4) (covBytes cov.layers) = true ∧ ((wService big 3 0 0 0).engine 7).events = [] ∧
    big.holdsData ((wService big 3 0 0 0).engReg 7 2) 16 = true := by
  and_intros <;> decide +kernel

/-! ### The Sluice and Seawall, reset, power and heat -/

/-- The device with channel 31 in a state, its record given. -/
def wSlu (state : Nat) (q : SluChan) : State :=
  { wServed.put (Reg.SLU_CH_STAT_STATE 31) state with slu := { wServed.slu with chans := [(31, q)] } }

theorem test_wit_SluiceFollowsItsChains :
    let j : SluJob := ⟨0, St.done, 0, 0, 0, false, [(false, 8, [1])]⟩
    (wSlu 4 SluChan.initial).stored ∧ (wSlu 4 SluChan.initial).sea.retired = false ∧ (wSlu 4 SluChan.initial).sluState 31 = 4 ∧
    (wSlu 0 SluChan.initial).sluState 31 = 0 ∧ ((wSlu 1 SluChan.initial).sluChan 31).job = none ∧
    (wSlu 3 SluChan.initial).mayWrite .pcie Reg.SLU_KICK = true ∧ (wSlu 3 SluChan.initial).sluState 31 = 3 ∧
    (wSlu 1 SluChan.initial).sluState 31 = 1 ∧ (wSlu 1 SluChan.initial).hostUp = true ∧
    ((wSlu 1 { SluChan.initial with job := some j }).sluChan 31).job = some j ∧ ((wSlu 1 { SluChan.initial with job := some j }).sluChan 31).stop = [] ∧
    (wSlu 2 SluChan.initial).sluState 31 = 2 ∧ ((wSlu 2 SluChan.initial).sluChan 31).pollAt ≤ (wSlu 2 SluChan.initial).now ∧
    bit (natLE ((wSlu 2 SluChan.initial).sluRead ((wSlu 2 SluChan.initial).rd64 (Reg.SLU_CH_POS 31)) 8)) 0 = false ∧
    bit (natLE (({ wSlu 2 SluChan.initial with hostMem := [(0, 1)] }).sluRead 0 8)) 0 = true ∧
    2 ≤ ((wSlu 2 SluChan.initial).put (Reg.SLU_CH_STAT_POLLS 31) 2).get (Reg.SLU_CH_STAT_POLLS 31) ∧
    (wSlu 2 SluChan.initial).get (Reg.SLU_CH_STAT_POLLS 31) ≤ 1 ∧ some (SluFail.data 0) ≠ some .fetch ∧ St.busError ≠ St.done ∧
    ((wSlu 1 { SluChan.initial with job := some j, stop := [wNow] }).sluChan 31).stop = [wNow] ∧
    ((wSlu 1 { SluChan.initial with job := some { j with status := St.busError } }).put (Reg.SLU_CH_STAT_STOP_ON_ERR 31) 1).on
      (Reg.SLU_CH_STAT_STOP_ON_ERR 31) = true := by
  and_intros <;> decide +kernel

/-- The device with an identity, its key 1, and the customer's key in force. -/
def wIdentity : State :=
  { wServed.put Reg.THM_WINDOW_FLASH_OPEN 1 with sea := { wServed.sea with fuses := [(4, 0xB0), (69, 1)] } }

theorem test_wit_SeawallTakesOneOperation :
    wIdentity.sea.retired = false ∧ wIdentity.hasIdentity = true ∧ wIdentity.idKeyOk = true ∧ wIdentity.custSlot ≠ 0 ∧
    wIdentity.sea.entropyBad = false ∧ wIdentity.radioQuiet = true ∧ wIdentity.flashOpen = true ∧
    (let s := (wIdentity.put (Reg.LIN_STAT_STATE 7) 5).put (Reg.LIN_PORT_CFG_MODE 1) 5
     (s.upLanes 0 ++ s.upLanes 1) ≠ []) := by
  and_intros <;> decide +kernel

theorem test_wit_SeawallOperationsEnd :
    let s : State := { wIdentity with sea := { wIdentity.sea with running := some (.cmd wNow (.seaIdentity 64)), entropyBad := true } }
    s.stored ∧ s.sea.running = some (.cmd wNow (.seaIdentity 64)) ∧ s.sea.queue = [] ∧ s.sea.entropyBad = true ∧ wIdentity.sea.entropyBad = false := by
  and_intros <;> decide +kernel

theorem test_wit_ResetsKeepTheIsland :
    wServed.stored ∧ wServed.mayWrite .jtag Reg.DEV_BOOT_CTL = true ∧ 0x3FFFFC ∉ [Reg.FLT_DUMP_STAT, Reg.THM_STAT, Reg.PWR_WAKE, Reg.DEV_RESET_CAUSE] ∧
    ∀ k, k < 4 → 0x3FFFFC ≠ Reg.DEV_SCRATCH k := by
  and_intros <;> decide +kernel

/-- Whether the image is accepted rests on the hash and the signature, which the model leaves open: this says that nothing else stands against
an image, so that the clause about an accepted one is met wherever they accept it. -/
theorem test_wit_BringUpReachesService :
    let wait : State := { wReset with pwr := { wReset.pwr with sentinel := { wReset.pwr.sentinel with pwrEn := true } } }
    let image : List Nat := [0x41, 0x5A, 0x46, 0x31, 1, 0, 0, 0, 0, 0x80] ++ List.replicate 314 0
    let all : State := { wReset with boot := { wReset.boot with step := 8 }, regs := (List.range 16).map fun n => (Reg.ENG_STAT n, (1 : BitVec 32)) }
    let ref : State := { wReset with boot := { wReset.boot with step := 5 } }
    wait.stored ∧ wait.boot.step = 0 ∧ wait.pwr.sentinel.pwrEn = true ∧ image.length = 324 ∧
    (3 ≤ ref.boot.step ∧ ref.get (Reg.ENG_STAT_STATE 15) = 0 ∧ bit (fieldLE image 8 2) 15 = true ∧ imageForm image = true ∧ ref.arbCount (nth image 6) ≤ fieldLE image 10 2) ∧
    all.stored ∧ all.on Reg.DEV_BOOT_STAT_IMAGES_OK = false ∧ all.host.perstHigh = true ∧ all.boot.tunnel = false ∧
    ref.boot.refCfg = 0 ∧ refCode 122880 ≠ 0 ∧ refCode 491520 ≠ 0 ∧ ref.on Reg.DEV_BOOT_STAT_REF_OK = false ∧
    (ref.put Reg.DEV_BOOT_STAT_REF_OK 1).on Reg.DEV_BOOT_STAT_REF_OK = true ∧ bit ref.boot.railsOut 2 = bit (3 % 8) 2 ∧
    bit ref.boot.railsOut 2 = false ∧ bit (7 % 8) 2 = true ∧ ref.boot.refLost = false ∧ refCode 110591 = 0 ∧ (2 : Nat) ≠ 0 ∧
    bit (fieldLE (List.replicate 324 0) 8 2) 15 = false := by
  and_intros <;> decide +kernel

theorem test_wit_FlashUpdates :
    let x : Slot := ⟨true, 1, slotTrial, 3, []⟩
    let c : List Nat := [0x31, 0x43, 0x46, 0x47, 1, 0, 0, 0, 0, 6, 0, 0, 0, 0, 0, 0]
    let u : UpdateJob := ⟨1, 0, c ++ bytesLE 4 (crc32 c)⟩
    let s : State := { (wServed.put Reg.DEV_UPD_CTL_KIND 2).put Reg.THM_WINDOW_FLASH_OPEN 1 with boot := { wServed.boot with slot := some 1, slots := [(1, x)], update := some u } }
    s.stored ∧ s.mayWrite .pcie Reg.DEV_BOOT_CTL = true ∧ s.boot.slot = some 1 ∧ s.boot.slots.get? 1 = some x ∧
    s.mayWrite .pcie Reg.DEV_UPD_CTL = true ∧ s.on Reg.DEV_UPD_STAT_BUSY = false ∧ s.rd64 Reg.DEV_UPD_ADDR % 64 = 0 ∧
    s.get Reg.DEV_UPD_CTL_KIND = 2 ∧ s.on Reg.DEV_BOOT_STAT_NO_IMAGE = false ∧ s.flashOpen = true ∧ s.boot.update = some u ∧
    u.data.length = 20 ∧ configOk u.data = true := by
  and_intros <;> decide +kernel

/-- As with the images of a boot, whether an image is accepted is left open: what a refused update meets is shown. -/
theorem test_wit_FlashUpdates_images :
    let s : State := (wServed.put Reg.DEV_UPD_CTL_LEN (6 * 2 ^ 20)).put Reg.DEV_BOOT_STAT_NO_IMAGE 1
    s.stored ∧ s.mayWrite .pcie Reg.DEV_UPD_CTL = true ∧ s.on Reg.DEV_UPD_STAT_BUSY = false ∧ s.rd64 Reg.DEV_UPD_ADDR % 64 = 0 ∧
    (s.wr64 Reg.DEV_UPD_ADDR 63).rd64 Reg.DEV_UPD_ADDR % 64 ≠ 0 ∧ s.get Reg.DEV_UPD_CTL_KIND = 0 ∧ s.get Reg.DEV_UPD_CTL_LEN ≤ 6 * 2 ^ 20 ∧
    s.boot.slot = none ∧ s.on Reg.DEV_BOOT_STAT_NO_IMAGE = true ∧ s.slotFail ⟨true, 0, slotTrial, 0xFF, List.replicate 6 []⟩ = some (0, St.range) ∧
    updateImages [] = none ∧ configOk [] = false := by
  and_intros <;> decide +kernel

theorem test_wit_updateImages :
    let head : List Nat := [0x31, 0x4C, 0x53, 0x47, 1, 0, 0, 0, 0, 0, 6, 0, 0, 0, 0, 0] ++ (List.replicate 6 [0, 16, 0, 0, 0, 0, 0, 0]).flatten
    updateImages (head ++ List.replicate 4032 0) = some (List.replicate 6 []) := by
  decide +kernel

theorem test_wit_TilesCalibrateInTurn :
    let s : State := { wServed with boot := { wServed.boot with bootTile := 7, cal := some ⟨7, 0, false⟩, provisional := true } }
    s.stored ∧ s.boot.bootTile = 7 ∧ s.boot.cal = some ⟨7, 0, false⟩ ∧ s.calAllowed = true ∧ s.boot.provisional = true ∧
    ({ s with boot := { s.boot with cal := some ⟨7, 0, true⟩ } }).boot.cal = some ⟨7, 0, true⟩ := by
  and_intros <;> decide +kernel

/-- The device in POLDER or with its tiles gated, and a request given. -/
def wPower (state gated : Nat) (q : Option PwrReq) : State :=
  { (wServed.put Reg.PWR_STAT_STATE state).put Reg.PWR_STAT_GATED gated with pwr := { wServed.pwr with req := q } }

theorem test_wit_PowerTransitionsEnd :
    let on : State := { wPower 0 0 none with pwr := { wServed.pwr with tiles := [(7, ⟨true, 0, [], 0⟩), (6, ⟨false, 0, [], 0⟩)] } }
    let polder : State := wPower 2 255 none
    let dormant : State := { wServed with pwr := { wServed.pwr with sentinel := ⟨7, 0, 0, false, false⟩ } }
    (wPower 1 255 none).stored ∧ (wPower 1 255 none).sea.retired = false ∧ pwrStateFail 2 0 0 0 = none ∧ pwrStateFail 1 255 0 0 = none ∧
    pwrStateFail 3 0 7 1 = none ∧ (wPower 1 255 none).pwr.req = none ∧ (wPower 1 255 none).pwr.exit = none ∧
    (wPower 1 255 none).get Reg.PWR_STAT_STATE < 2 ∧ (wPower 1 255 none).sleepRefusal = none ∧
    on.stored ∧ on.job 6 = some ⟨false, 0, [], 0⟩ ∧ on.job 7 = some ⟨true, 0, [], 0⟩ ∧ bit on.boot.failed 7 = false ∧ on.queued 7 = none ∧
    on.pwr.queue = none ∧ polder.stored ∧ polder.get Reg.PWR_STAT_STATE = 2 ∧ polder.pwr.exit = none ∧ polder.mayWrite .smbus Reg.PWR_WAKE = true ∧
    (wPower 1 255 (some ⟨wNow, 2, 0, 0, 0, 0⟩)).pwr.req = some ⟨wNow, 2, 0, 0, 0, 0⟩ ∧
    ({ polder with pwr := { polder.pwr with exit := some (0, 1) } }).pwr.exit = some (0, 1) ∧
    (wPower 1 255 (some ⟨wNow, 3, 0, 7, 1, 0⟩)).pwr.req = some ⟨wNow, 3, 0, 7, 1, 0⟩ ∧
    (∀ x ∈ [(1, 0), (3, 1), (4, 2)], bit dormant.pwr.sentinel.sources x.2 = true) ∧ dormant.pwr.sentinel.pwrEn = false := by
  and_intros <;> decide +kernel

theorem test_wit_HeatIsThrottled :
    let auto : State := ((wServed.put Reg.PWR_POLICY_AUTO_EN 1).put Reg.DEV_PROFILE_IN_FORCE 2).put (Reg.RCT_TILE_STATE_STATE 7) 1
    let avs : State := { (wServed.put Reg.PWR_AVS_AVS_EN 1).put Reg.PWR_AVS_VID_MAX 63 with pwr := { wServed.pwr with avsAt := wServed.now - 100000 } }
    let hot : State := { wServed.put Reg.THM_STAT_LEVEL 3 with pwr := { wServed.pwr with belowSince := some (wServed.now - 1000000000), gatedAt := wServed.now - 100000000 } }
    let cool : State := { wServed.put Reg.DEV_BOOT_STAT_TILE_READY 255 with
      pwr := { wServed.pwr with coolSince := some (wServed.now - 10000000000), t3Mask := 128 }, beam := { wServed.beam with blanked := [(0, 0, 1)] } }
    auto.stored ∧ auto.autoActs = true ∧ auto.tilesNeeded < ((List.range 8).filter auto.powered).length ∧ auto.pwr.surplusSince = none ∧
    avs.stored ∧ avs.get Reg.PWR_STAT_STATE < 2 ∧ avs.running = true ∧ avs.on Reg.PWR_AVS_AVS_EN = true ∧
    avs.get Reg.PWR_AVS_VID_MIN ≤ 63 ∧ 63 ≤ avs.get Reg.PWR_AVS_VID_MAX ∧ avs.get Reg.PWR_AVS_VID < 63 ∧ avs.pwr.avsAt + 100000 = avs.now ∧
    hot.stored ∧ hot.pwr.belowSince = some (wServed.now - 1000000000) ∧ hot.get Reg.THM_STAT_LEVEL = 3 ∧ hot.pwr.gatedAt + 100000000 = hot.now ∧
    cool.stored ∧ cool.beam.blanked ≠ [] ∧ cool.atT2 = false ∧ cool.atSlot = true ∧ cool.pwr.coolSince = some (wServed.now - 10000000000) ∧
    (∀ n ∈ maskList cool.pwr.t3Mask 8, cool.job n = none) ∧ (maskList cool.pwr.t3Mask 8).find? cool.canStart = some 7 ∧ wServed.trip = false ∧
    ({ wServed with boot := { wServed.boot with rstnHigh := false } }).boot.rstnHigh = false := by
  and_intros <;> decide +kernel

/-! ### The housekeeping converter, captures and faults -/

/-- The device with the converter enabled. -/
def wHka (f : HkaState → HkaState) : State := { wServed.put Reg.HKA_CFG_EN 1 with hka := f wServed.hka }

/-- A pass of one entry. -/
def wPass : Pass := ⟨[0], 0, [], 0, false, false, false, false, none⟩

theorem test_wit_ConverterTriggers :
    let timer : State := (wHka fun k => { k with timers := [(1, wServed.now)], delays := [(1, wServed.now)] }).put Reg.HKA_CFG_INJ_SRC 1
    let sweep : State := { (wServed.put Reg.HKA_CFG_SWEEP 15) with boot := { wServed.boot with railsOut := 7 } }
    (wHka id).stored ∧ (wHka id).sea.retired = false ∧ (wHka id).on Reg.HKA_CFG_EN = true ∧ (wHka id).hka.held = none ∧ (wHka id).hka.inj = none ∧
    (wHka id).hka.conv = none ∧ (wHka fun k => { k with inj := some wPass }).hka.inj ≠ none ∧ (wHka id).mayWrite .pcie Reg.HKA_CFG = true ∧
    (wHka id).hka.reg = none ∧ (wHka fun k => { k with reg := some wPass }).hka.reg ≠ none ∧ timer.stored ∧
    timer.hka.timers.get? 1 = some timer.now ∧ timer.hkaSource 1 = 1 ∧ timer.hka.delays = (1, timer.now) :: [] ∧
    (timer.put Reg.HKA_CFG_INJ_SRC 2).hkaSource 1 = 2 ∧ sweep.stored ∧ sweep.get Reg.HKA_CFG_SWEEP ≠ 0 ∧
    sweep.hka.sweepAt + sweep.get Reg.HKA_CFG_SWEEP * 1000000000 ≤ sweep.now ∧ sweep.running = true ∧ sweep.boot.railsOut ≠ 0 := by
  and_intros <;> decide +kernel

theorem test_wit_ConversionsAndMains :
    let reg : State := wHka fun k => { k with conv := some ⟨3, 0, 0, wServed.now, false⟩, reg := some wPass }
    let sys : State := wHka fun k => { k with conv := some ⟨1, 0xFF, 0, wServed.now, false⟩ }
    let mains : State := wServed.put Reg.HKA_MAINS_LOCKED 1
    reg.stored ∧ reg.hkaAdvance.hka.conv = some ⟨3, 0, 0, wServed.now, false⟩ ∧ wServed.now = reg.hkaAdvance.now ∧ reg.hkaAdvance.hkaPass 3 = some wPass ∧
    sys.stored ∧ sys.hkaAdvance.hka.conv = some ⟨1, 0xFF, 0, wServed.now, false⟩ ∧ wServed.now = sys.hkaAdvance.now ∧
    mains.stored ∧ mains.get Reg.HKA_CFG_MAINS_MODE = 0 ∧ mains.running = true ∧ mains.hka.edge = none ∧
    153850 = (15384950 + 50) / 100 ∧ (22222049 + 50) / 100 = 222220 ∧ (15384949 + 50) / 100 < 153850 ∧
    222220 < (22222050 + 50) / 100 ∧
    (wHka fun k => { k with conv := some ⟨1, 0x40, 0, wServed.now, false⟩ }).hkaAdvance.hka.conv = some ⟨1, 0x40, 0, wServed.now, false⟩ ∧ mains.on Reg.HKA_MAINS_LOCKED = true := by
  and_intros <;> decide +kernel

/-- A stream of one page on path 63, an arm command for it, and the device with both, source 7 in a state. -/
def wStream : GauStreamCmd := ⟨7, 0, 63, 0, 1, 4095, 1, 1⟩
def wArm : GauArmCmd := ⟨128, 7, false, false, true, false, true, false, 0, 0, 1, 0, 0, 0, 0, false, 0, 0, 0, 0, 0, 64, 64⟩
def wCapture : Capture := ⟨wNow, wArm, true, 0, 0, 0, 0, 0, false, false, false, 0, [], [(7, 0, 0, [])], 0, none⟩
def wGauge (state : Nat) : State :=
  { ((wServed.put (Reg.GAU_S_STAT_STATE 7) state).put Reg.GAU_PIN_EN 1) with
    gau := { wServed.gau with streams := [(7, ⟨wStream, 0, 0⟩)], caps := [(7, wCapture)] } }

theorem test_wit_CapturesRunTheirStates :
    wServed.stored ∧ wServed.TakesNow wNow ∧ gauStreamFail wServed wStream = none ∧
    gauArmFail { wServed with gau := { wServed.gau with streams := [(7, ⟨wStream, 0, 0⟩)] } } wArm = none ∧
    (wGauge 1).stored ∧ (wGauge 1).gau.caps = [(7, wCapture)] ∧ wCapture.cfg.mask &&& 128 ≠ 0 ∧ (wGauge 1).gauState 7 = 1 ∧
    ((maskList 128 8).any fun k => (wGauge 1).gauState k != 0) = true ∧ (wGauge 1).hostUp = true ∧ (wGauge 1).on Reg.GAU_PIN_EN = true ∧
    (wGauge 1).get Reg.GAU_PIN_EDGE = 0 ∧ (wGauge 1).gau.caps.get? 7 = some wCapture ∧ (wGauge 1).gauStream 7 = some ⟨wStream, 0, 0⟩ ∧
    wCapture.cfg.reqFull = false ∧ (wGauge 1).metNow { wCapture with cfg := { wArm with cond := 32 } } 32 ≠ 0 ∧ wCapture.cfg.auto = true ∧
    wCapture.armedAt + wCapture.cfg.autoUs * 1000 ≤ (wGauge 1).now ∧ (wGauge 2).gauState 7 = 2 ∧ (wGauge 2).filled { wCapture with cut := true } = true ∧
    wCapture.cfg.drain = true ∧ (wGauge 3).gauState 7 = 3 ∧ wCapture.records = [(7, 0, 0, [])] ∧ (wGauge 4).gauState 7 = 4 := by
  refine ⟨wServed_stored, wServed_takesNow, ?_⟩; and_intros <;> decide +kernel

theorem test_wit_FatalErrorsAreDumped :
    let d : DumpJob := ⟨1, 0, wServed.now - 100000000, none, none, false, 0⟩
    let s : State := { wServed.put Reg.THM_WINDOW_FLASH_OPEN 1 with flt := { wServed.flt with dump := some d, dumpSlots := [(1, ⟨false, [1], 1⟩)] } }
    let none_ : State := { wServed with flt := { wServed.flt with dump := some d } }
    wServed.stored ∧ wServed.TakesNow wNow ∧ wServed.running = true ∧ wServed.flt.dump = none ∧
    ({ wServed with flt := { wServed.flt with region := some (0, 262144, false) } }).flt.region ≠ none ∧ s.stored ∧ s.flt.dump = some d ∧
    s.dumpDest d = some true ∧ none_.dumpDest d = none ∧ d.detected + (d.retries + 1) * 100000000 = none_.now ∧ d.retries + 1 < 600 ∧
    s.flashOpen = true ∧ s.on Reg.FLT_DUMP_STAT_FLASH_PENDING = false ∧ (s.dumpSlot (1 - 0)).erased = false ∧
    (s.put Reg.FLT_DUMP_STAT_FLASH_PENDING 1).on Reg.FLT_DUMP_STAT_FLASH_PENDING = true ∧ s.hostUp = true := by
  refine ⟨wServed_stored, wServed_takesNow, ?_⟩; and_intros <;> decide +kernel

theorem test_wit_HealthIsReported :
    let tl : Telemetry := ⟨16, 256, 128, 0, wServed.now - 10000000, 0, 0, 0, 0⟩
    let s : State := { wServed.putBit64 Reg.BFM_REMOVED 63 true with flt := { wServed.flt with telemetry := some tl } }
    wServed.stored ∧ wServed.TakesNow wNow ∧ s.stored ∧ s.flt.telemetry = some tl ∧ tl.lastAt + 10000000 = s.now ∧ s.now ≤ tl.lastAt + 15000000 ∧
    s.hostUp = true ∧ s.get Reg.PWR_STAT_STATE < 2 ∧ s.removed 63 = true ∧ s.tileState 7 = 0 ∧ bit s.flt.heldPaths 63 = false ∧
    ({ s with flt := { s.flt with testing := [(wNow, 2 ^ 63, 0)] } }).flt.testing = [(wNow, 2 ^ 63, 0)] ∧ s.running = true := by
  refine ⟨wServed_stored, wServed_takesNow, ?_⟩; and_intros <;> decide +kernel

/-! ### The worked examples of the spec -/

/-- 11_host_rings.md, worked example: bytes 0 to 18 of a `DPD_SWAP` descriptor, the others zero. -/
def exampleSwap : List Nat :=
  [0x23, 0x03, 0x41, 0x01, 0x98, 0xDE, 0x95, 0xE1, 0x38, 0, 0, 0, 0, 0, 0, 0, 0x02, 0x08, 0x04] ++ List.replicate 45 0

theorem test_descriptor_dpd_swap :
    descriptorCmd (dByte exampleSwap 0) exampleSwap = some (.dpdSwap 2 0x08 4) ∧ reservedOk 0x23 exampleSwap = true ∧
    dHdr 3 exampleSwap = ⟨3, 0x0141, true, false, 3784695448, 56⟩ := by decide +kernel

/-- Its `EFF_FRAME` is extended to frame 158,403,518,104 a few frames before. -/
theorem test_full_frame : ({ wReset with now := 1900000001020000000 }).fullFrame 0xE195DE98 = 158403518104 := by decide +kernel

/-- By R83 and R263, R319, R498: the bytes of `DPD_LOAD`, `LINE_MODE`, `TIME_STEP` and `GAU_STOP` after a header. -/
theorem test_descriptor_line_mode :
    descriptorCmd 0x70 ([0x70, 0, 0, 0, 0, 0, 0, 0, 0, 0, 0, 0, 0, 0, 0, 0, 1, 5, 1] ++ List.replicate 45 0) = some (.lineMode 1 5 true) := by
  decide +kernel
theorem test_descriptor_time_step :
    descriptorCmd 0x80 (List.replicate 16 0 ++ [1, 2, 3, 4, 5, 6, 0, 0, 7, 8, 9, 10] ++ List.replicate 36 0) =
      some (.timeStep 0x060504030201 0x0A090807) := by decide +kernel
theorem test_descriptor_gau_stop : descriptorCmd 0xCA (List.replicate 16 0 ++ [0x81] ++ List.replicate 47 0) = some (.gauStop 0x81) := by
  decide +kernel

/-- 09_time_and_constellation.md, worked example: T = 1,900,000,000 s + 3.76 ms is 660.7.7, 9,739 ns into the symbol. -/
theorem test_air_time :
    let s : State := { wReset with now := 1900000000003760000 }
    s.frame = 158403518100 ∧ s.frame % 1024 = 660 ∧ s.tick = 7 * 14 + 7 ∧ s.airNs - s.tickStart s.absTick = 9739 := by decide +kernel

/-- 09_time_and_constellation.md, worked example: an offset of 1,234 ps across one fibre pair. -/
theorem test_theta :
    ((wReset.put (Reg.TIM_PORT_CFG_ASYM_PS 0) 280).thetaSample 0 500000000000 500012344166 500009786354 500002560000).timePort 0 =
      { TimePort.initial with thetas := [1234], delays := [9785260] } := by decide +kernel

/-- 02_transmit_chain.md and 03_receive_chain.md, worked examples: one carrier of 100 MHz has `LATENCY` 377 and `RELEASE` 2,900. -/
theorem test_latencies :
    let s : State := { wReset with
      tx := { wReset.tx with carriers := (List.range 8).map fun n => (8 * n, ⟨1, 12, 273, 0x4000, 0x04571C71C71C, 0x362B30, 0xFF⟩),
                             feDelay := (List.range 8).map fun n => (n, 250), pathFtw := (List.range 8).map fun n => (n, 0x4BF471C71C72) },
      rx := { wReset.rx with carriers := (List.range 8).map fun n => (8 * n, ⟨1, 12, 273, 0x4000, 0x9A1471C71C72, 0, 0x362B30, 36⟩),
                             feDelay := (List.range 8).map fun n => (n, 250) } }
    s.txTileFits 0 7 = true ∧ s.rxTileFits 0 7 = true ∧ s.refreshPlan.get (Reg.TIL_TX_STAT_LATENCY 7) = 377 ∧
      s.refreshPlan.get (Reg.TIL_RX_STAT_RELEASE 7) = 2900 := by decide +kernel

/-- 03_receive_chain.md, worked example: the exponent follows the rounding, not the length. -/
theorem test_bfp_exponent : bfpExp 9 [6716, -8000] = 5 ∧ bfpExp 9 [8190, -8000] = 6 := by decide

/-- 04_beamforming_and_access.md, worked example: a mixed carrier plan under CAPACITY. -/
def examplePlan : State := { wReset with
  arch := { wReset.arch with mu := 3 },
  tx := { wReset.tx with carriers := [(0, ⟨3, 12, 264, 0, 0, 0, 0⟩), (1, ⟨3, 12, 264, 0, 0, 0, 0⟩), (2, ⟨1, 12, 273, 0, 0, 0, 0⟩), (3, ⟨1, 12, 273, 0, 0, 0, 0⟩)] },
  rx := { wReset.rx with carriers := [(0, ⟨3, 12, 264, 0, 0, 0, 0, 0⟩), (1, ⟨3, 12, 264, 0, 0, 0, 0, 0⟩), (2, ⟨1, 12, 273, 0, 0, 0, 0, 0⟩), (3, ⟨1, 12, 273, 0, 0, 0, 0, 0⟩)] },
  beam := { wReset.beam with sets := [(0, ⟨16, 0, 0⟩), (1, ⟨16, 0, 0⟩), (2, ⟨32, 0, 0⟩), (3, ⟨32, 0, 0⟩), (8, ⟨8, 0, 0⟩), (9, ⟨8, 0, 0⟩), (10, ⟨16, 0, 0⟩), (11, ⟨16, 0, 0⟩)] } }
theorem test_plan :
    examplePlan.layerKhz 0 = 18455040 ∧ examplePlan.layerKhz 1 = 9227520 ∧ examplePlan.refreshPlan.rd Reg.BFM_BUDGET = 0x240C4818 ∧
    examplePlan.refreshPlan.get Reg.BFM_PEAK_PEAK_NS = 0x1C43 ∧ examplePlan.shortest = 8919 ∧ examplePlan.arrayFits 0 = true := by decide +kernel

/-- 05_levee_and_radio_control.md, worked example: the limits of fuse words 0 and 1. -/
theorem test_limits :
    let s : State := (wReset.wr (Reg.LVE_INFORCE 0) 0x09C4FF6A).wr (Reg.LVE_INFORCE 1) 0x00001068
    s.limitPath = 2650 ∧ s.limitTotal = 4350 := by decide +kernel

/-- 06_fronthaul_and_combining.md, worked example: a three-member chain; a member's own sums carry 16 bits below the LSB. -/
theorem test_chain :
    let head := ownBlock [20000 * 2 ^ 16, divRound (-12346 * 2 ^ 16) 10]
    let middle := (addBlocks (ownBlock [divRound (450004 * 2 ^ 16) 10, 3001 * 2 ^ 16]) head).1
    let tail := (addBlocks (ownBlock [30000 * 2 ^ 16, -200025 * 2 ^ 16 / 100]) middle).1
    head = ⟨0, [20000, -1235]⟩ ∧ middle = ⟨1, [32500, 883]⟩ ∧ tail = ⟨2, [23750, -58]⟩ := by decide +kernel

/-- 08_culvert_lanes.md, worked example: a frame of 6,896 bytes takes 864 blocks. -/
theorem test_culvert_blocks : culBlocks 6896 = 864 ∧ culBlocks 6846 = 858 := by decide

/-- 13_seawall.md, worked example: `ARB5` before and after the commit of version 40. -/
theorem test_arb :
    ({ wReset with sea := { wReset.sea with fuses := [(134, 0x0007FFFF)] } }).arbCount 5 = 19 ∧
    ({ wReset with sea := { wReset.sea with fuses := [(134, 0xFFFFFFFF), (135, 0xFF)] } }).arbCount 5 = 40 := by decide +kernel

/-- 15_power_and_thermal.md, worked example: with every tile OFF and channel 26 RUNNING, Sluice refuses POLDER with 0x01, 0x1A. -/
theorem test_sleep_refusal :
    ((wServed.put Reg.PWR_STAT_GATED 255).put (Reg.SLU_CH_STAT_STATE 26) 1).sleepRefusal = some (0x0A, 0x01, 0x1A) := by decide +kernel

/-- 16_housekeeping_adc.md, worked example: the code of 0.800 V on a supply, and of an input above full scale. -/
theorem test_hka_codes : hkaCode (hkaExact 0x41 800000000) = 0x28F5C3 ∧ hkaCode (hkaExact 0x05 3000000000) = 0x7FFFFF := by decide +kernel

/-- 17_gauge_capture.md, worked example: a segment of 193 pages of RX_DDC holds 197,616 samples. -/
theorem test_segment : segSamples ⟨0, 1, 21, 0, 1, 0, 193, 2⟩ = 197616 := by decide +kernel

/-- 20_address_map.md, worked example: a write of `FTH_VLAN` after the lock leaves `VID` and takes the priorities. -/
theorem test_locked_write :
    let s := ((wServed.wr Reg.FTH_VLAN 0x000460C8).setF Reg.DEV_LOCK_LOCK).writeReg .pcie Reg.FTH_VLAN 0x00005064
    s.rd Reg.FTH_VLAN = 0x000050C8 ∧ s.on Reg.FTH_CFG_CFG_ERR = true ∧ s.on Reg.DEV_ACC_STAT_LOCK_VIOL = true ∧
      s.get Reg.DEV_LOCK_VIOLATIONS = 1 := by decide +kernel

end Sys2Proof.Tests
end

section
namespace Sys2Proof.Machine

/-! ## The limit of R65 on the valid entries of a bank

What a load past the limit leaves, which profiles the active banks shut out, and the two moments at which `PROFILE` is judged: its fetch
and, by assumption 153, the frame boundary. -/

@[simp] theorem exec_dpdLoadComplete (path : Nat) (busOk : Bool) (s : State) :
    exec (.dpdLoadComplete path busOk) s = .next (s.finishDpdLoad path busOk) := rfl

@[simp] theorem exec_profile (h : Hdr) (p : Nat) (s : State) : exec (.profile h p) s = execProfile h p s := rfl

@[simp] theorem exec_profileApply (s : State) : exec .profileApply s = execProfileApply s := rfl

@[simp] theorem profileDpd_reach : profileDpd 1 = 128 := rfl

theorem profileDpd_of_ne_reach {p : Nat} (hp : p ≠ 1) : profileDpd p = 64 := if_neg hp

/-- A load whose bytes come whole but hold more valid entries than the limit: RANGE, whatever else its entries are. -/
theorem dpdLoaded_over_limit {limit : Nat} {entries : List Nat} (hover : limit < dpdCount entries) :
    dpdLoaded limit true entries = (St.range, dpdIdentityBank) := by
  simp [dpdLoaded, hover]

/-- How the load of a path that was not queued ends: its bank takes what `dpdLoaded` leaves, and it completes with that status. -/
theorem State.finishDpdLoad_unqueued {s : State} {path : Nat} {j : DpdJob} {busOk : Bool}
    (hfind : s.tx.loads.find? (fun j => j.path == path) = some j) (hqueued : j.queued = false) :
    s.finishDpdLoad path busOk =
      (({ s with tx := { s.tx with loads := s.tx.loads.erase j } }.setDpdBank path j.bank
        (dpdLoaded (profileDpd s.profile) busOk (words8 j.count (s.hostRead j.src (8 * j.count)))).2).complete j.hdr 0x22
        (dpdLoaded (profileDpd s.profile) busOk (words8 j.count (s.hostRead j.src (8 * j.count)))).1) := by
  simp [State.finishDpdLoad, hfind, hqueued]

/-- R65: a configuration with an active bank above a profile's limit does not fit that profile. -/
theorem State.profileFits_of_bank_over {s : State} {p q : Nat} (hq : q < 64)
    (hover : profileDpd p < dpdCount (s.dpdBank q (s.dpdActive q))) : s.profileFits p = false := by
  have hbanks : ((List.range 64).all fun q => decide (dpdCount (s.dpdBank q (s.dpdActive q)) ≤ profileDpd p)) = false :=
    List.all_eq_false.mpr ⟨q, List.mem_range.mpr hq, by simpa using hover⟩
  simp [State.profileFits, hbanks]

/-- An untimed command whose own checks fail completes with the status they give. -/
theorem State.TakesNow.acceptNow_fail {s : State} {h : Hdr} (g : s.TakesNow h) (op st : Nat) (run : State → State) :
    s.acceptNow h op (some st) run = s.complete h op st := by
  simp [State.acceptNow, g.headerFail, State.retiredRefuses, g.served]

/-- A profile asked for that the configuration does not fit is refused at its fetch. -/
theorem State.TakesNow.exec_profile_unfit {s : State} {h : Hdr} (g : s.TakesNow h) {p : Nat} (hfits : s.profileFits p = false) :
    exec (.profile h p) s = .next (s.complete h 0x01 St.range) := by
  have hfail : rangeUnless [decide (p ≤ 4), s.profileFits p] = some St.range := by simp [rangeUnless, hfits]
  simp only [exec_profile, execProfile, hfail, g.acceptNow_fail]

/-- With no timed command held, a waiting profile is judged against the configuration as it stands. -/
theorem State.applyProfile_unfit {s : State} {e : Hdr × Nat × Int} (htimed : s.host.timed = [])
    (hfits : s.profileFits e.2.1 = false) : s.applyProfile e = s.complete e.1 0x01 St.range := by
  simp [State.applyProfile, htimed, State.inOrder, sortBy, hfits]

/-- At a frame boundary the one profile that waits is due, and nothing waits after it. -/
theorem exec_profileApply_one {s : State} {e : Hdr × Nat × Int} (hpend : s.host.profilePending = [e]) (hdue : e.2.2 ≤ s.frame) :
    exec .profileApply s = .next ({ s with host := { s.host with profilePending := [] } }.applyProfile e) := by
  simp [execProfileApply, hpend, hdue, State.each]

/-- Settles O16: each of the three refusals is its command's ending where R65's limit is passed. -/
theorem dpdBanksKeepTheProfilesLimit : Obligations.DpdBanksKeepTheProfilesLimit := by
  intro s h _ g
  refine ⟨profileDpd_reach, fun _ => profileDpd_of_ne_reach, ?load, ?asked, ?applied⟩
  case load =>
    intro path j hfind hqueued hover
    simp only [exec_dpdLoadComplete, State.finishDpdLoad_unqueued hfind hqueued, dpdLoaded_over_limit hover]
  case asked =>
    intro p q _ hq hover
    exact g.exec_profile_unfit (State.profileFits_of_bank_over hq hover)
  case applied =>
    intro p q f hpend hdue htimed hq hover
    rw [exec_profileApply_one hpend hdue]
    exact congrArg _ (State.applyProfile_unfit htimed (State.profileFits_of_bank_over hq hover))

end Sys2Proof.Machine
end

section
namespace Sys2Proof.Machine
open Sys2Proof

/-! ## The alignment of an engine's accesses (R327)

An access is judged by its alignment before anything else is asked of its address (assumption 136), an instruction raises the first fault
among its accesses, and a bundle whose slot P faults ends in that fault. -/

/-- A pointer whose access of `w` bytes R327 refuses: its address is off that width, or its distance from the base of a modulo buffer is. -/
def Ptr.Misaligned (q : Ptr) (w : Nat) : Prop := q.addr % w ≠ 0 ∨ q.mode = 1 ∧ ((q.addr : Int) - q.base) % (w : Int) ≠ 0

theorem SlotIn.accessFault_misaligned (c : SlotIn) {addr w : Nat} (write regs : Bool) (h : addr % w ≠ 0) :
    c.accessFault addr w write regs = some 2 := if_pos h

theorem SlotIn.ptrFault_misaligned (c : SlotIn) {q : Ptr} {w : Nat} (write : Bool) (h : q.Misaligned w) :
    c.ptrFault q w write = some 2 := by
  unfold SlotIn.ptrFault
  split
  · rfl
  · next hmod => exact c.accessFault_misaligned write false (h.resolve_right hmod)

/-! ### What each instruction accesses (R332) -/

/-- The instruction in a word does its work unless one of the accesses listed, each with its fault and its address, faults. -/
def SlotIn.Accesses (c : SlotIn) (p : Nat) (l : List (Option Nat × Nat)) : Prop := ∃ o, slotRun c p = noFault l o

/-- The accesses of an instruction that reads two operands of `w` bytes: x through `PX`, then y through `PY`. -/
def SlotIn.operandReads (c : SlotIn) (p w : Nat) : List (Option Nat × Nat) :=
  [(c.ptrFault (c.r.ptr (mPx p)) w false, (c.r.ptr (mPx p)).addr), (c.ptrFault (c.r.ptr (mPy p)) w false, (c.r.ptr (mPy p)).addr)]

section
variable {c : SlotIn} {p : Nat}

theorem SlotIn.accesses_mac4 (hop : opOf p = 1) (hm : mOk p = true) (hacc : mAcc p % 4 = 0) : c.Accesses p (c.operandReads p 8) :=
  ⟨_, by simp only [slotRun, hop, hm, opMac4, hacc]; rfl⟩

theorem SlotIn.accesses_dot4 (hop : opOf p = 2) (hm : mOk p = true) : c.Accesses p (c.operandReads p 8) :=
  ⟨_, by simp only [slotRun, hop, hm]; rfl⟩

theorem SlotIn.accesses_cmac (hop : opOf p = 3) (hm : mOk p = true) (hacc : mAcc p % 2 = 0) : c.Accesses p (c.operandReads p 4) :=
  ⟨_, by simp only [slotRun, hop, hm, opCmac, hacc]; rfl⟩

theorem SlotIn.accesses_tapmv (hop : opOf p = 4) (hm : mOk p = true) (hmaint : c.maint = true) : c.Accesses p (c.operandReads p 8) :=
  ⟨_, by simp only [slotRun, hop, hm, opTapmv, hmaint]; rfl⟩

theorem SlotIn.accesses_sta4 (hop : opOf p = 5) (hm : mOk p = true) (hacc : mAcc p ≤ 4) :
    c.Accesses p [(c.ptrFault (c.r.ptr (mPy p)) 8 true, (c.r.ptr (mPy p)).addr)] :=
  ⟨_, by simp only [slotRun, hop, hm, opSta4, if_neg (not_lt.mpr hacc)]; rfl⟩

theorem SlotIn.accesses_stc (hop : opOf p = 6) (hm : mOk p = true) (hacc : mAcc p ≤ 6) :
    c.Accesses p [(c.ptrFault (c.r.ptr (mPy p)) 4 true, (c.r.ptr (mPy p)).addr)] :=
  ⟨_, by simp only [slotRun, hop, hm, opStc, if_neg (not_lt.mpr hacc)]; rfl⟩

theorem SlotIn.accesses_ldg (hop : opOf p = 0x20) : c.Accesses p [(c.accessFault (c.ea p 4) 4 false true, c.ea p 4)] :=
  ⟨_, by simp only [slotRun, hop]; rfl⟩

theorem SlotIn.accesses_stg (hop : opOf p = 0x21) : c.Accesses p [(c.accessFault (c.ea p 4) 4 true true, c.ea p 4)] :=
  ⟨_, by simp only [slotRun, hop]; rfl⟩

theorem SlotIn.accesses_sth (hop : opOf p = 0x2C) : c.Accesses p [(c.accessFault (c.ea p 2) 2 true false, c.ea p 2)] :=
  ⟨_, by simp only [slotRun, hop]; rfl⟩

end

/-! ### The fault of a bundle with one instruction (R330, R337) -/

/-- What a slot of an engine's firmware sees. -/
abbrev State.firmwareSlot (s : State) (n : Nat) : SlotIn :=
  ⟨s, n, (s.engine n).r, none, s.on (Reg.ENG_STAT_MODE n), s.free⟩

theorem bundleRow_of_known {p : Nat} (h : knownOp (opOf p) = true) : bundleRow p 0 = opOf p := by
  have hslot : (if p = 0 then 0 else p) = p := by split <;> simp [*]
  simp [bundleRow, hslot, h]

/-- The counterpart of `State.RunsBundle.bundle` for an instruction that faults. -/
theorem State.RunsBundle.bundle_fault {s : State} {n p row : Nat} {f : Nat × Nat} (g : s.RunsBundle n p) (hr : bundleRow p 0 = row)
    (hf : slotRun (s.firmwareSlot n) p = .error f) : s.bundle n row = s.engFault n f.1 (s.engine n).r.pc false f.2 := by
  have hp : p * 2 ^ 32 / 2 ^ 32 = p := by omega
  have hq : p * 2 ^ 32 % 2 ^ 32 = 0 := by omega
  simp only [State.bundle, g.word, hp, hq, g.ready, g.firmware, hr]
  simp [hf]

/-- The instruction `con` is the row of the command table for the word in slot P. -/
structure State.RunsRow (s : State) (n p : Nat) (con : Instr) : Prop extends s.RunsBundle n p where
  known : knownOp (opOf p) = true
  runs : exec con s = .next (s.bundle n (opOf p))

section
variable {s : State} {n p w : Nat} {con : Instr}

theorem State.RunsRow.exec_misaligned (g : s.RunsRow n p con) {addr : Nat} {l : List (Option Nat × Nat)}
    (hacc : (s.firmwareSlot n).Accesses p ((some 2, addr) :: l)) :
    exec con s = .next (s.engFault n 2 (s.engine n).r.pc false addr) := by
  obtain ⟨o, hslot⟩ := hacc
  rw [g.runs, g.bundle_fault (bundleRow_of_known g.known) (f := (2, addr)) hslot]

/-- Two operands: x decides where it is MISALIGNED, and y where the read of x is in order. -/
theorem State.RunsRow.operands_misaligned (g : s.RunsRow n p con)
    (hacc : (s.firmwareSlot n).Accesses p ((s.firmwareSlot n).operandReads p w)) :
    (((s.engine n).r.ptr (mPx p)).Misaligned w →
      exec con s = .next (s.engFault n 2 (s.engine n).r.pc false ((s.engine n).r.ptr (mPx p)).addr)) ∧
    ((s.firmwareSlot n).ptrFault ((s.engine n).r.ptr (mPx p)) w false = none → ((s.engine n).r.ptr (mPy p)).Misaligned w →
      exec con s = .next (s.engFault n 2 (s.engine n).r.pc false ((s.engine n).r.ptr (mPy p)).addr)) := by
  unfold SlotIn.operandReads at hacc
  constructor
  · intro hx
    rw [SlotIn.ptrFault_misaligned _ _ hx] at hacc
    exact g.exec_misaligned hacc
  · intro hx hy
    rw [hx, SlotIn.ptrFault_misaligned _ _ hy] at hacc
    exact g.exec_misaligned (l := []) hacc

theorem State.RunsRow.ptr_misaligned (g : s.RunsRow n p con) {q : Ptr} {write : Bool}
    (hacc : (s.firmwareSlot n).Accesses p [((s.firmwareSlot n).ptrFault q w write, q.addr)]) (hq : q.Misaligned w) :
    exec con s = .next (s.engFault n 2 (s.engine n).r.pc false q.addr) :=
  g.exec_misaligned (SlotIn.ptrFault_misaligned _ write hq ▸ hacc)

theorem State.RunsRow.address_misaligned (g : s.RunsRow n p con) {addr : Nat} {write regs : Bool}
    (hacc : (s.firmwareSlot n).Accesses p [((s.firmwareSlot n).accessFault addr w write regs, addr)]) (ha : addr % w ≠ 0) :
    exec con s = .next (s.engFault n 2 (s.engine n).r.pc false addr) :=
  g.exec_misaligned (SlotIn.accessFault_misaligned _ write regs ha ▸ hacc)

end

/-- Settles O43: each instruction's accesses, of which the first that R327 refuses is the bundle's fault. That MISALIGNED is judged before
PROTECT is the model's choice (assumption 136). -/
theorem misalignedAccessesRaiseMisaligned : Obligations.MisalignedAccessesRaiseMisaligned := by
  intro s n p _ g hform r c bad misaligned
  have row : ∀ {con op}, opOf p = op → knownOp op = true → exec con s = .next (s.bundle n op) → s.RunsRow n p con := by
    rintro con op rfl hknown hruns
    exact ⟨g, hknown, hruns⟩
  have hm : opOf p < 0x20 → mOk p = true := fun h => hform.resolve_right (not_le.mpr h)
  refine ⟨?operands, ?stores, ?addresses⟩
  case operands =>
    rintro con w (⟨hop, rfl, rfl, hacc⟩ | ⟨hop, rfl, rfl⟩ | ⟨hop, rfl, rfl, hacc⟩ | ⟨hop, rfl, rfl, hmaint⟩)
    · exact (row hop rfl rfl).operands_misaligned (SlotIn.accesses_mac4 hop (hm (by omega)) hacc)
    · exact (row hop rfl rfl).operands_misaligned (SlotIn.accesses_dot4 hop (hm (by omega)))
    · exact (row hop rfl rfl).operands_misaligned (SlotIn.accesses_cmac hop (hm (by omega)) hacc)
    · exact (row hop rfl rfl).operands_misaligned (SlotIn.accesses_tapmv hop (hm (by omega)) hmaint)
  case stores =>
    rintro con w (⟨hop, rfl, rfl, hacc⟩ | ⟨hop, rfl, rfl, hacc⟩)
    · exact (row hop rfl rfl).ptr_misaligned (SlotIn.accesses_sta4 hop (hm (by omega)) hacc)
    · exact (row hop rfl rfl).ptr_misaligned (SlotIn.accesses_stc hop (hm (by omega)) hacc)
  case addresses =>
    rintro con w (⟨hop, rfl, rfl⟩ | ⟨hop, rfl, rfl⟩ | ⟨hop, rfl, rfl⟩)
    · exact (row hop rfl rfl).address_misaligned (SlotIn.accesses_ldg hop)
    · exact (row hop rfl rfl).address_misaligned (SlotIn.accesses_stg hop)
    · exact (row hop rfl rfl).address_misaligned (SlotIn.accesses_sth hop)

end Sys2Proof.Machine
end

section
namespace Sys2Proof.Machine
open Sys2Proof

/-! ## What every step keeps -/

/-- Every command leaves the queue alone and keeps the stores canonical: one arm of `exec` after the other. -/
theorem exec_keeps : ∀ (c : Instr) (s : State), OutKeeps s (exec c s)
  | .symbolTick o, s => execSymbolTick_keeps o s (.refl s)
  | .combiningHoldEnd set tick, s => execCombiningHoldEnd_keeps set tick s (.refl s)
  | .accessRetry k ok, s => execAccessRetry_keeps k ok s (.refl s)
  | .wideReadLatch rq off, s => execWideReadLatch_keeps rq off s (.refl s)
  | .wideWriteStage rq off value, s => execWideWriteStage_keeps rq off value s (.refl s)
  | .timRefNumWrite rq value, s => execTimRefNumWrite_keeps rq value s (.refl s)
  | .refNumChange, s => execRefNumChange_keeps s (.refl s)
  | .tAdvApply, s => execTAdvApply_keeps s (.refl s)
  | .marginRst rq, s => execMarginRst_keeps rq s (.refl s)
  | .scrubRead r late, s => execScrubRead_keeps r late s (.refl s)
  | .calibrationStep tile fits late, s => execCalibrationStep_keeps tile fits late s (.refl s)
  | .dpdAdaptation path late, s => execDpdAdaptation_keeps path late s (.refl s)
  | .equaliserUpdate lane o, s => execEqualiserUpdate_keeps lane o s (.refl s)
  | .thermalSampling temps, s => execThermalSampling_keeps temps s (.refl s)
  | .throttleLower, s => execThrottleLower_keeps s (.refl s)
  | .t2Restore, s => execT2Restore_keeps s (.refl s)
  | .t3Gating, s => execT3Gating_keeps s (.refl s)
  | .t3Release, s => execT3Release_keeps s (.refl s)
  | .thermalTrip mask, s => execThermalTrip_keeps mask s (.refl s)
  | .txCarrier h c, s => execTxCarrier_keeps h c s (.refl s)
  | .txTile h c, s => execTxTile_keeps h c s (.refl s)
  | .dpdLoad h path bank count src, s => execDpdLoad_keeps h path bank count src s (.refl s)
  | .dpdLoadComplete path busOk, s => execDpdLoadComplete_keeps path busOk s (.refl s)
  | .dpdSwap h tile pathMask fade, s => execDpdSwap_keeps h tile pathMask fade s (.refl s)
  | .dpdFadeEnd path, s => execDpdFadeEnd_keeps path s (.refl s)
  | .heldDpdSwapStart tile, s => execHeldDpdSwapStart_keeps tile s (.refl s)
  | .biasSet h c, s => execBiasSet_keeps h c s (.refl s)
  | .biasTrigger tile dac edge, s => execBiasTrigger_keeps tile dac edge s (.refl s)
  | .biasTriggerTimeout tile dac, s => execBiasTriggerTimeout_keeps tile dac s (.refl s)
  | .biasSpanSwitch tile dac, s => execBiasSpanSwitch_keeps tile dac s (.refl s)
  | .biasSafePhaseEnd tile dac, s => execBiasSafePhaseEnd_keeps tile dac s (.refl s)
  | .ddsTone h c, s => execDdsTone_keeps h c s (.refl s)
  | .txSatSummary tile, s => execTxSatSummary_keeps tile s (.refl s)
  | .overloadEpisodeStart path, s => execOverloadEpisodeStart_keeps path s (.refl s)
  | .overloadProtect path, s => execOverloadProtect_keeps path s (.refl s)
  | .overloadEpisodeEnd path length, s => execOverloadEpisodeEnd_keeps path length s (.refl s)
  | .syncInEdge, s => execSyncInEdge_keeps s (.refl s)
  | .syncEvent, s => execSyncEvent_keeps s (.refl s)
  | .syncConfirmTimeout, s => execSyncConfirmTimeout_keeps s (.refl s)
  | .rxCarrier h c, s => execRxCarrier_keeps h c s (.refl s)
  | .rxExtract h c, s => execRxExtract_keeps h c s (.refl s)
  | .rxSync h panel, s => execRxSync_keeps h panel s (.refl s)
  | .rxSatSummary tile, s => execRxSatSummary_keeps tile s (.refl s)
  | .extractionDrops tile, s => execExtractionDrops_keeps tile s (.refl s)
  | .bfLayers h carrier uplink layers ulShift prio, s => execBfLayers_keeps h carrier uplink layers ulShift prio s (.refl s)
  | .beamLoad h c, s => execBeamLoad_keeps h c s (.refl s)
  | .beamLoadComplete busOk, s => execBeamLoadComplete_keeps busOk s (.refl s)
  | .poolFlushComplete, s => execPoolFlushComplete_keeps s (.refl s)
  | .beamSwap h blend, s => execBeamSwap_keeps h blend s (.refl s)
  | .beamTransitionEnd, s => execBeamTransitionEnd_keeps s (.refl s)
  | .heldBeamSwapStart, s => execHeldBeamSwapStart_keeps s (.refl s)
  | .pageLoadComplete entry, s => execPageLoadComplete_keeps entry s (.refl s)
  | .pageMissSummary, s => execPageMissSummary_keeps s (.refl s)
  | .covSetup h c, s => execCovSetup_keeps h c s (.refl s)
  | .covSolveStart carrier, s => execCovSolveStart_keeps carrier s (.refl s)
  | .covSolveEnd carrier, s => execCovSolveEnd_keeps carrier s (.refl s)
  | .renormalisation, s => execRenormalisation_keeps s (.refl s)
  | .acdOccasion h c, s => execAcdOccasion_keeps h c s (.refl s)
  | .occasionEnd config time peaks, s => execOccasionEnd_keeps config time peaks s (.refl s)
  | .foReport h c, s => execFoReport_keeps h c s (.refl s)
  | .foMeasurement entry layer offset power snr tainted, s => execFoMeasurement_keeps entry layer offset power snr tainted s (.refl s)
  | .leveeCert h addr, s => execLeveeCert_keeps h addr s (.refl s)
  | .limitsInForce, s => execLimitsInForce_keeps s (.refl s)
  | .leveeUnmute h mask, s => execLeveeUnmute_keeps h mask s (.refl s)
  | .leveeDwell path o, s => execLeveeDwell_keeps path o s (.refl s)
  | .obsReferenceCheck tile passed samples, s => execObsReferenceCheck_keeps tile passed samples s (.refl s)
  | .rctPattern h pattern tileMask period addr, s => execRctPattern_keeps h pattern tileMask period addr s (.refl s)
  | .patternBind tile, s => execPatternBind_keeps tile s (.refl s)
  | .timingApply tile, s => execTimingApply_keeps tile s (.refl s)
  | .tileState h tileMask target, s => execTileState_keeps h tileMask target s (.refl s)
  | .protectHoldExpiry tile, s => execProtectHoldExpiry_keeps tile s (.refl s)
  | .strobeEdge tile step, s => execStrobeEdge_keeps tile step s (.refl s)
  | .coexGntChange pair granted, s => execCoexGntChange_keeps pair granted s (.refl s)
  | .coexReqChange pair requested, s => execCoexReqChange_keeps pair requested s (.refl s)
  | .rffeXfer h c, s => execRffeXfer_keeps h c s (.refl s)
  | .synRecal h, s => execSynRecal_keeps h s (.refl s)
  | .synthLockLost which, s => execSynthLockLost_keeps which s (.refl s)
  | .synthCalibrationDone calUs, s => execSynthCalibrationDone_keeps calUs s (.refl s)
  | .driftRecalibration, s => execDriftRecalibration_keeps s (.refl s)
  | .aerial h tile pathMask search clear, s => execAerial_keeps h tile pathMask search clear s (.refl s)
  | .mismatchPair path fwd ref, s => execMismatchPair_keeps path fwd ref s (.refl s)
  | .tunerTrial tile rl blanked, s => execTunerTrial_keeps tile rl blanked s (.refl s)
  | .blankingSummary, s => execBlankingSummary_keeps s (.refl s)
  | .lineFrame f, s => execLineFrame_keeps f s (.refl s)
  | .cplaneMessage m, s => execCplaneMessage_keeps m s (.refl s)
  | .uplaneMessage m, s => execUplaneMessage_keeps m s (.refl s)
  | .owdmMessage m, s => execOwdmMessage_keeps m s (.refl s)
  | .partialSumMessage port m, s => execPartialSumMessage_keeps port m s (.refl s)
  | .mkaMessage m, s => execMkaMessage_keeps m s (.refl s)
  | .mkaHello, s => execMkaHello_keeps s (.refl s)
  | .mkaPeerLost port, s => execMkaPeerLost_keeps port s (.refl s)
  | .flowIdleTimeout, s => execFlowIdleTimeout_keeps s (.refl s)
  | .duReport, s => execDuReport_keeps s (.refl s)
  | .dropSummary, s => execDropSummary_keeps s (.refl s)
  | .setStateChange set, s => execSetStateChange_keeps set s (.refl s)
  | .fhCarrier h c, s => execFhCarrier_keeps h c s (.refl s)
  | .coopSet h c, s => execCoopSet_keeps h c s (.refl s)
  | .msecRekey h ports, s => execMsecRekey_keeps h ports s (.refl s)
  | .fhOwdm h c, s => execFhOwdm_keeps h c s (.refl s)
  | .owdmTimeout id, s => execOwdmTimeout_keeps id s (.refl s)
  | .lineMode h port mode train, s => execLineMode_keeps h port mode train s (.refl s)
  | .lineRestart h mask, s => execLineRestart_keeps h mask s (.refl s)
  | .lineSnapshot h lane addr, s => execLineSnapshot_keeps h lane addr s (.refl s)
  | .lineTest h mask pattern addr, s => execLineTest_keeps h mask pattern addr s (.refl s)
  | .lineTestReport lane bits errors, s => execLineTestReport_keeps lane bits errors s (.refl s)
  | .lineRmute h addr, s => execLineRmute_keeps h addr s (.refl s)
  | .losChange lane lost, s => execLosChange_keeps lane lost s (.refl s)
  | .laneBackoffEnd lane, s => execLaneBackoffEnd_keeps lane s (.refl s)
  | .laneTimeout lane, s => execLaneTimeout_keeps lane s (.refl s)
  | .markerLock lane, s => execMarkerLock_keeps lane s (.refl s)
  | .fecLock lane, s => execFecLock_keeps lane s (.refl s)
  | .portUp port skews, s => execPortUp_keeps port skews s (.refl s)
  | .markerPeriod lane o, s => execMarkerPeriod_keeps lane o s (.refl s)
  | .fecDegradeClear port, s => execFecDegradeClear_keeps port s (.refl s)
  | .occupancyWindow lane o, s => execOccupancyWindow_keeps lane o s (.refl s)
  | .freezeEvent lane, s => execFreezeEvent_keeps lane s (.refl s)
  | .overlayCell lane bytes, s => execOverlayCell_keeps lane bytes s (.refl s)
  | .trainingCell lane bytes, s => execTrainingCell_keeps lane bytes s (.refl s)
  | .rxReady lane, s => execRxReady_keeps lane s (.refl s)
  | .oneSidedTimeout lane, s => execOneSidedTimeout_keeps lane s (.refl s)
  | .heartbeatSend, s => execHeartbeatSend_keeps s (.refl s)
  | .heartbeat lane, s => execHeartbeat_keeps lane s (.refl s)
  | .neighbourUnreachable port, s => execNeighbourUnreachable_keeps port s (.refl s)
  | .muteFragment lane, s => execMuteFragment_keeps lane s (.refl s)
  | .fragmentTimeout port, s => execFragmentTimeout_keeps port s (.refl s)
  | .histReq rq lane, s => execHistReq_keeps rq lane s (.refl s)
  | .histDone lane bins, s => execHistDone_keeps lane bins s (.refl s)
  | .culSleep h mask sleep, s => execCulSleep_keeps h mask sleep s (.refl s)
  | .culEyescan h mask phi0 phi1 v0 v1 dwell addr, s => execCulEyescan_keeps h mask phi0 phi1 v0 v1 dwell addr s (.refl s)
  | .eyescanDone lanes busOk, s => execEyescanDone_keeps lanes busOk s (.refl s)
  | .culReg h pos n addr, s => execCulReg_keeps h pos n addr s (.refl s)
  | .headerLock lane, s => execHeaderLock_keeps lane s (.refl s)
  | .lockLoss lane, s => execLockLoss_keeps lane s (.refl s)
  | .culvertSignalLoss lane, s => execCulvertSignalLoss_keeps lane s (.refl s)
  | .alignPeriod link marks, s => execAlignPeriod_keeps link marks s (.refl s)
  | .alignBlock lane b, s => execAlignBlock_keeps lane b s (.refl s)
  | .sleepBlocks lane, s => execSleepBlocks_keeps lane s (.refl s)
  | .laneReadd lane, s => execLaneReadd_keeps lane s (.refl s)
  | .autoSleep link, s => execAutoSleep_keeps link s (.refl s)
  | .culvertFrame f, s => execCulvertFrame_keeps f s (.refl s)
  | .linkMgmtFrame link m, s => execLinkMgmtFrame_keeps link m s (.refl s)
  | .panelSyncFrame link f, s => execPanelSyncFrame_keeps link f s (.refl s)
  | .tunnelMessage link member m, s => execTunnelMessage_keeps link member m s (.refl s)
  | .tunnelResend member, s => execTunnelResend_keeps member s (.refl s)
  | .tunnelReadTimeout k, s => execTunnelReadTimeout_keeps k s (.refl s)
  | .tunnelDoorbell window off value size, s => execTunnelDoorbell_keeps window off value size s (.refl s)
  | .leadUnreachable lost, s => execLeadUnreachable_keeps lost s (.refl s)
  | .mismatchReport link, s => execMismatchReport_keeps link s (.refl s)
  | .airOfsWrite rq value, s => execAirOfsWrite_keeps rq value s (.refl s)
  | .ptpAnnounce port a, s => execPtpAnnounce_keeps port a s (.refl s)
  | .ptpSync port domain seq twoStep t1 corr, s => execPtpSync_keeps port domain seq twoStep t1 corr s (.refl s)
  | .ptpFollowUp port domain seq t1 corr, s => execPtpFollowUp_keeps port domain seq t1 corr s (.refl s)
  | .delayReq port, s => execDelayReq_keeps port s (.refl s)
  | .delayResp port domain seq t4 corr, s => execDelayResp_keeps port domain seq t4 corr s (.refl s)
  | .ptpSourceLost port, s => execPtpSourceLost_keeps port s (.refl s)
  | .ppsInEdge, s => execPpsInEdge_keeps s (.refl s)
  | .ppsLost, s => execPpsLost_keeps s (.refl s)
  | .ppsOut rise, s => execPpsOut_keeps rise s (.refl s)
  | .clockLocked, s => execClockLocked_keeps s (.refl s)
  | .timeCellSend port, s => execTimeCellSend_keeps port s (.refl s)
  | .timeTransferCell lane, s => execTimeTransferCell_keeps lane s (.refl s)
  | .thetaUpdate port, s => execThetaUpdate_keeps port s (.refl s)
  | .rootSeqAdvance, s => execRootSeqAdvance_keeps s (.refl s)
  | .rootLost, s => execRootLost_keeps s (.refl s)
  | .ownKeyWindowEnd, s => execOwnKeyWindowEnd_keeps s (.refl s)
  | .extDisagree diff, s => execExtDisagree_keeps diff s (.refl s)
  | .timeStep h sec ns, s => execTimeStep_keeps h sec ns s (.refl s)
  | .timeEpoch h epoch, s => execTimeEpoch_keeps h epoch s (.refl s)
  | .otaCal h c, s => execOtaCal_keeps h c s (.refl s)
  | .otaCalResult o, s => execOtaCalResult_keeps o s (.refl s)
  | .engNopBundle n, s => execEngNopBundle_keeps n s (.refl s)
  | .engMac4 n, s => execEngMac4_keeps n s (.refl s)
  | .engDot4 n, s => execEngDot4_keeps n s (.refl s)
  | .engCmac n, s => execEngCmac_keeps n s (.refl s)
  | .engTapmv n, s => execEngTapmv_keeps n s (.refl s)
  | .engSta4 n, s => execEngSta4_keeps n s (.refl s)
  | .engStc n, s => execEngStc_keeps n s (.refl s)
  | .engAdd n, s => execEngAdd_keeps n s (.refl s)
  | .engAddi n, s => execEngAddi_keeps n s (.refl s)
  | .engSub n, s => execEngSub_keeps n s (.refl s)
  | .engAnd n, s => execEngAnd_keeps n s (.refl s)
  | .engOr n, s => execEngOr_keeps n s (.refl s)
  | .engXor n, s => execEngXor_keeps n s (.refl s)
  | .engShli n, s => execEngShli_keeps n s (.refl s)
  | .engShri n, s => execEngShri_keeps n s (.refl s)
  | .engSari n, s => execEngSari_keeps n s (.refl s)
  | .engMovi n, s => execEngMovi_keeps n s (.refl s)
  | .engOrh n, s => execEngOrh_keeps n s (.refl s)
  | .engLdg n, s => execEngLdg_keeps n s (.refl s)
  | .engStg n, s => execEngStg_keeps n s (.refl s)
  | .engSth n, s => execEngSth_keeps n s (.refl s)
  | .engMvag n, s => execEngMvag_keeps n s (.refl s)
  | .engMvga n, s => execEngMvga_keeps n s (.refl s)
  | .engExp n, s => execEngExp_keeps n s (.refl s)
  | .engNorm n, s => execEngNorm_keeps n s (.refl s)
  | .engBexr n, s => execEngBexr_keeps n s (.refl s)
  | .engAgset n, s => execEngAgset_keeps n s (.refl s)
  | .engRcp n, s => execEngRcp_keeps n s (.refl s)
  | .engRsq n, s => execEngRsq_keeps n s (.refl s)
  | .engMul n, s => execEngMul_keeps n s (.refl s)
  | .engTapc n, s => execEngTapc_keeps n s (.refl s)
  | .engBr n, s => execEngBr_keeps n s (.refl s)
  | .engCall n, s => execEngCall_keeps n s (.refl s)
  | .engRet n, s => execEngRet_keeps n s (.refl s)
  | .engLoop n, s => execEngLoop_keeps n s (.refl s)
  | .engWait n, s => execEngWait_keeps n s (.refl s)
  | .engineWake n events, s => execEngineWake_keeps n events s (.refl s)
  | .engTrap n, s => execEngTrap_keeps n s (.refl s)
  | .engTime n, s => execEngTime_keeps n s (.refl s)
  | .engWriteWeights n, s => execEngWriteWeights_keeps n s (.refl s)
  | .engCovRead n, s => execEngCovRead_keeps n s (.refl s)
  | .engEvent n, s => execEngEvent_keeps n s (.refl s)
  | .engSolved n, s => execEngSolved_keeps n s (.refl s)
  | .engFence n, s => execEngFence_keeps n s (.refl s)
  | .engRetk n, s => execEngRetk_keeps n s (.refl s)
  | .engHalt n, s => execEngHalt_keeps n s (.refl s)
  | .watchdog n, s => execWatchdog_keeps n s (.refl s)
  | .engineRestart n, s => execEngineRestart_keeps n s (.refl s)
  | .modeChange n maintenance cause, s => execModeChange_keeps n maintenance cause s (.refl s)
  | .kernelInvocation n arg, s => execKernelInvocation_keeps n arg s (.refl s)
  | .kernelPlacement n, s => execKernelPlacement_keeps n s (.refl s)
  | .engKernel h tileMask action addr len, s => execEngKernel_keeps h tileMask action addr len s (.refl s)
  | .engMode h engine mode, s => execEngMode_keeps h engine mode s (.refl s)
  | .nop h, s => execNop_keeps h s (.refl s)
  | .profile h p, s => execProfile_keeps h p s (.refl s)
  | .profileApply, s => execProfileApply_keeps s (.refl s)
  | .now h, s => execNow_keeps h s (.refl s)
  | .doorbell ring value size, s => execDoorbell_keeps ring value size s (.refl s)
  | .kick ring value size, s => execKick_keeps ring value size s (.refl s)
  | .headDoorbell ring value size, s => execHeadDoorbell_keeps ring value size s (.refl s)
  | .ringEnable rq ring en, s => execRingEnable_keeps rq ring en s (.refl s)
  | .ringsDisable rq, s => execRingsDisable_keeps rq s (.refl s)
  | .descriptorFetch ring, s => execDescriptorFetch_keeps ring s (.refl s)
  | .phaseReread ring, s => execPhaseReread_keeps ring s (.refl s)
  | .timedCheck, s => execTimedCheck_keeps s (.refl s)
  | .timedApply, s => execTimedApply_keeps s (.refl s)
  | .msixMessage vector, s => execMsixMessage_keeps vector s (.refl s)
  | .msixUnmask vector, s => execMsixUnmask_keeps vector s (.refl s)
  | .linkDown, s => execLinkDown_keeps s (.refl s)
  | .linkUp, s => execLinkUp_keeps s (.refl s)
  | .configRequest, s => execConfigRequest_keeps s (.refl s)
  | .sluChain h ch stopOnErr head, s => execSluChain_keeps h ch stopOnErr head s (.refl s)
  | .sluStop h ch, s => execSluStop_keeps h ch s (.refl s)
  | .sluKick rq value, s => execSluKick_keeps rq value s (.refl s)
  | .ctrlPoll ch, s => execCtrlPoll_keeps ch s (.refl s)
  | .sluiceDescriptor ch busFail, s => execSluiceDescriptor_keeps ch busFail s (.refl s)
  | .descriptorComplete ch, s => execDescriptorComplete_keeps ch s (.refl s)
  | .seaIdentity h addr, s => execSeaIdentity_keeps h addr s (.refl s)
  | .seaAttest h nonce addr, s => execSeaAttest_keeps h nonce addr s (.refl s)
  | .seaSetId h id, s => execSeaSetId_keeps h id s (.refl s)
  | .seaCommit h cls version, s => execSeaCommit_keeps h cls version s (.refl s)
  | .seaEnrol h slot addr, s => execSeaEnrol_keeps h slot addr s (.refl s)
  | .seaCak h addr, s => execSeaCak_keeps h addr s (.refl s)
  | .seaRetire h uid, s => execSeaRetire_keeps h uid s (.refl s)
  | .entropyFailure, s => execEntropyFailure_keeps s (.refl s)
  | .entropyRecovered, s => execEntropyRecovered_keeps s (.refl s)
  | .imageVerification engine image, s => execImageVerification_keeps engine image s (.refl s)
  | .rstnFall, s => execRstnFall_keeps s (.refl s)
  | .supplyMonitorTrip aonLost, s => execSupplyMonitorTrip_keeps aonLost s (.refl s)
  | .resetRelease flashOk fast, s => execResetRelease_keeps flashOk fast s (.refl s)
  | .referenceMeasure khz, s => execReferenceMeasure_keeps khz s (.refl s)
  | .referenceLost, s => execReferenceLost_keeps s (.refl s)
  | .railRecheck outMask, s => execRailRecheck_keeps outMask s (.refl s)
  | .imagesOk, s => execImagesOk_keeps s (.refl s)
  | .reducedService, s => execReducedService_keeps s (.refl s)
  | .tileCalibrated tile ok, s => execTileCalibrated_keeps tile ok s (.refl s)
  | .calibrationRefined, s => execCalibrationRefined_keeps s (.refl s)
  | .perstFall, s => execPerstFall_keeps s (.refl s)
  | .perstRise, s => execPerstRise_keeps s (.refl s)
  | .confirm rq, s => execConfirm_keeps rq s (.refl s)
  | .softRst rq key, s => execSoftRst_keeps rq key s (.refl s)
  | .go rq, s => execGo_keeps rq s (.refl s)
  | .updateDone busOk tempOk writeOk, s => execUpdateDone_keeps busOk tempOk writeOk s (.refl s)
  | .pwrState h target mask sources timer, s => execPwrState_keeps h target mask sources timer s (.refl s)
  | .tileGated tile, s => execTileGated_keeps tile s (.refl s)
  | .tileUngated tile, s => execTileUngated_keeps tile s (.refl s)
  | .wakeNLow, s => execWakeNLow_keeps s (.refl s)
  | .wake rq, s => execWake_keeps rq s (.refl s)
  | .polderExit, s => execPolderExit_keeps s (.refl s)
  | .sentinelWake source, s => execSentinelWake_keeps source s (.refl s)
  | .autoGating, s => execAutoGating_keeps s (.refl s)
  | .avsUpdate target, s => execAvsUpdate_keeps target s (.refl s)
  | .hkaInject h, s => execHkaInject_keeps h s (.refl s)
  | .start rq, s => execStart_keeps rq s (.refl s)
  | .hkaTimerTrigger seq, s => execHkaTimerTrigger_keeps seq s (.refl s)
  | .hkaEventTrigger seq, s => execHkaEventTrigger_keeps seq s (.refl s)
  | .conversionDone nv, s => execConversionDone_keeps nv s (.refl s)
  | .biasReadback nv, s => execBiasReadback_keeps nv s (.refl s)
  | .biasSweep, s => execBiasSweep_keeps s (.refl s)
  | .supplyCheck, s => execSupplyCheck_keeps s (.refl s)
  | .mainsEdge, s => execMainsEdge_keeps s (.refl s)
  | .mainsLoss, s => execMainsLoss_keeps s (.refl s)
  | .gauStream h c, s => execGauStream_keeps h c s (.refl s)
  | .gauArm h c, s => execGauArm_keeps h c s (.refl s)
  | .gauStop h mask, s => execGauStop_keeps h mask s (.refl s)
  | .gauForce h mask, s => execGauForce_keeps h mask s (.refl s)
  | .gauMask h addr, s => execGauMask_keeps h addr s (.refl s)
  | .gaugeTrigEdge rising, s => execGaugeTrigEdge_keeps rising s (.refl s)
  | .gaugeTrigger source conds, s => execGaugeTrigger_keeps source conds s (.refl s)
  | .autoTrigger source, s => execAutoTrigger_keeps source s (.refl s)
  | .gaugeRecord source data, s => execGaugeRecord_keeps source data s (.refl s)
  | .gaugeDrained source, s => execGaugeDrained_keeps source s (.refl s)
  | .gaugeRearm source, s => execGaugeRearm_keeps source s (.refl s)
  | .pathRestore h mask, s => execPathRestore_keeps h mask s (.refl s)
  | .pathTestDone path passed, s => execPathTestDone_keeps path passed s (.refl s)
  | .telemetryRecord o, s => execTelemetryRecord_keeps o s (.refl s)
  | .telSetup h k b addr, s => execTelSetup_keeps h k b addr s (.refl s)
  | .logRead h count addr, s => execLogRead_keeps h count addr s (.refl s)
  | .fltDumpRegion h fullMem clear addr len, s => execFltDumpRegion_keeps h fullMem clear addr len s (.refl s)
  | .fltDumpFetch h erase addr, s => execFltDumpFetch_keeps h erase addr s (.refl s)
  | .fltDumpTest h, s => execFltDumpTest_keeps h s (.refl s)
  | .fatalError cause engine, s => execFatalError_keeps cause engine s (.refl s)
  | .dumpWritten, s => execDumpWritten_keeps s (.refl s)
  | .dumpRetry, s => execDumpRetry_keeps s (.refl s)
  | .dumpSlotErase slot, s => execDumpSlotErase_keeps slot s (.refl s)
  | .smbSetOffset off pecOk, s => execSmbSetOffset_keeps off pecOk s (.refl s)
  | .smbRead pecOk, s => execSmbRead_keeps pecOk s (.refl s)
  | .smbWrite off value pecOk, s => execSmbWrite_keeps off value pecOk s (.refl s)
  | .alertResponse, s => execAlertResponse_keeps s (.refl s)
  | .testEnRise, s => execTestEnRise_keeps s (.refl s)
  | .bypass, s => execBypass_keeps s (.refl s)
  | .idcode, s => execIdcode_keeps s (.refl s)
  | .samplePreload data, s => execSamplePreload_keeps data s (.refl s)
  | .extest, s => execExtest_keeps s (.refl s)
  | .extestPulse, s => execExtestPulse_keeps s (.refl s)
  | .extestTrain, s => execExtestTrain_keeps s (.refl s)
  | .clamp, s => execClamp_keeps s (.refl s)
  | .highz, s => execHighz_keeps s (.refl s)
  | .feDelayApply, s => execFeDelayApply_keeps s (.refl s)
  | .devLock rq value, s => execDevLock_keeps rq value s (.refl s)
  | .registerWrite rq off size value, s => execRegisterWrite_keeps rq off size value s (.refl s)
  | .polderEntryDone, s => execPolderEntryDone_keeps s (.refl s)
  | .dormantEntryDone, s => execDormantEntryDone_keeps s (.refl s)
  | .seawallOperationDone stopped, s => execSeawallOperationDone_keeps stopped s (.refl s)
  | .rffeTransferDone tile results failed, s => execRffeTransferDone_keeps tile results failed s (.refl s)
  | .culvertSignalReturn lane, s => execCulvertSignalReturn_keeps lane s (.refl s)
  | .tripLatchClear, s => execTripLatchClear_keeps s (.refl s)
  | .backoffReturn lane, s => execBackoffReturn_keeps lane s (.refl s)

/-- No command stops the machine. -/
theorem exec_next (c : Instr) (s : State) : ∃ t, exec c s = .next t := by
  cases c <;> exact ⟨_, rfl⟩

theorem step_cons {s : State} {c : Instr} {rest : List Instr} (h : s.pending = c :: rest) :
    step s = exec c { s with pending := rest } := by simp [step, h]

theorem step_idle {s : State} (h : s.pending = []) : step s = .next s.idle := by simp [step, h]

/-- Settles O1: both branches of `step`. -/
theorem stepRunsTheFrontCommand : Obligations.StepRunsTheFrontCommand :=
  ⟨fun _ _ => step_cons rfl, fun _ h => step_idle h⟩

/-- Settles O2: every arm of `exec` answers a next state, and `exec_keeps` has its queue. That no command stops is the model's choice
(assumption 10), and so is the queue itself (assumption 1). -/
theorem everyCommandAnswersAndLeavesTheQueue : Obligations.EveryCommandAnswersAndLeavesTheQueue := by
  intro c s
  obtain ⟨t, ht⟩ := exec_next c s
  exact ⟨t, ht, (exec_keeps c s t ht).queue⟩

/-- Settles O3: an idle step touches no store, and any other step is a command, which keeps them canonical. -/
theorem everyStepKeepsTheStoresCanonical : Obligations.EveryStepKeepsTheStoresCanonical := by
  intro s t hs hstep
  cases hq : s.pending with
  | nil =>
    rw [step_idle hq] at hstep
    cases hstep
    exact hs
  | cons c rest =>
    rw [step_cons hq] at hstep
    exact (exec_keeps c _ t hstep).mem hs

end Sys2Proof.Machine
end

section
namespace Sys2Proof.Machine
open Sys2Proof

/-! ## Reset -/

/-- Settles O5: a register after reset reads the last word `resetWords` lists for it, and the fields are read off those words. That the
memories and the queue start empty is the model's choice (assumptions 1, 4, 5 and 6). -/
theorem resetLeavesTheSpecsValues : Obligations.ResetLeavesTheSpecsValues := by
  refine ⟨State.reset_stored, rfl, rfl, rfl, ?_⟩
  simp only [State.on, State.laneAt, State.get, State.reset_rd]
  decide +kernel

end Sys2Proof.Machine
end

section
namespace Sys2Proof.Machine
open Sys2Proof

/-! ## Descriptors (R357)

A descriptor's command bytes are those of its fields, which stand apart from each other: so each field reads back, and a byte that no field
covers is zero. What is left to each command is how its packed bytes come apart, and which of its bytes hold reserved bits. -/

/-- The bytes of a number, one after the other. -/
theorem bytesLE_eq_map (n x : Nat) : bytesLE n x = (List.range n).map fun k => x / 256 ^ k % 256 := by
  induction n generalizing x with
  | zero => rfl
  | succ n ih => simp [bytesLE, ih, List.range_succ_eq_map, Nat.div_div_eq_div_mul, pow_succ']

/-- The fields of a command lie in its command bytes, one apart from the other. -/
def apartFields : List (Nat × Nat × Nat) → Bool
  | [] => true
  | e :: t => decide (16 ≤ e.1 ∧ e.1 + e.2.1 ≤ 64) && t.all (fun f => decide (e.1 + e.2.1 ≤ f.1 ∨ f.1 + f.2.1 ≤ e.1)) && apartFields t

theorem apartFields_cons {e : Nat × Nat × Nat} {t : List (Nat × Nat × Nat)} (h : apartFields (e :: t) = true) :
    (16 ≤ e.1 ∧ e.1 + e.2.1 ≤ 64) ∧ (∀ f ∈ t, e.1 + e.2.1 ≤ f.1 ∨ f.1 + f.2.1 ≤ e.1) ∧ apartFields t = true := by
  simpa only [apartFields, Bool.and_eq_true, decide_eq_true_eq, List.all_eq_true, and_assoc] using h

theorem apartFields_within {l : List (Nat × Nat × Nat)} (hl : apartFields l = true) {e : Nat × Nat × Nat} (he : e ∈ l) :
    16 ≤ e.1 ∧ e.1 + e.2.1 ≤ 64 := by
  induction l with
  | nil => cases he
  | cons f t ih =>
    obtain ⟨hf, -, ht⟩ := apartFields_cons hl
    rcases List.mem_cons.1 he with rfl | he
    · exact hf
    · exact ih ht he

theorem fieldByte_cons (e : Nat × Nat × Nat) (l : List (Nat × Nat × Nat)) (i : Nat) :
    fieldByte (e :: l) i = (if e.1 ≤ i ∧ i < e.1 + e.2.1 then e.2.2 / 256 ^ (i - e.1) % 256 else 0) + fieldByte l i := by
  simp only [fieldByte, sumL, ← List.sum_eq_foldl, List.map_cons, List.sum_cons]

theorem fieldByte_uncovered {l : List (Nat × Nat × Nat)} {i : Nat} (h : ∀ e ∈ l, ¬(e.1 ≤ i ∧ i < e.1 + e.2.1)) : fieldByte l i = 0 := by
  induction l with
  | nil => rfl
  | cons e t ih =>
    rw [fieldByte_cons, if_neg (h e List.mem_cons_self), ih fun f hf => h f (List.mem_cons_of_mem _ hf)]

theorem fieldByte_covered {l : List (Nat × Nat × Nat)} (hl : apartFields l = true) {e : Nat × Nat × Nat} (he : e ∈ l) {i : Nat} (hi : e.1 ≤ i)
    (hi' : i < e.1 + e.2.1) : fieldByte l i = e.2.2 / 256 ^ (i - e.1) % 256 := by
  induction l with
  | nil => cases he
  | cons f t ih =>
    obtain ⟨-, hf, ht⟩ := apartFields_cons hl
    rw [fieldByte_cons]
    rcases List.mem_cons.1 he with rfl | he
    · rw [if_pos ⟨hi, hi'⟩, fieldByte_uncovered fun g hg => by have := hf g hg; omega, Nat.add_zero]
    · have := hf e he
      rw [if_neg (by omega), ih ht he, Nat.zero_add]

section
variable (phase : Bool) (h : Hdr) (c : Cmd)

@[simp] theorem encodeDescriptor_length : (encodeDescriptor phase h c).length = 64 := by simp [encodeDescriptor]

theorem encodeDescriptor_drop {off : Nat} (ho : 16 ≤ off) :
    (encodeDescriptor phase h c).drop off = (List.range' off (64 - off)).map (fieldByte (cmdFields c)) := by
  obtain ⟨k, rfl⟩ := Nat.exists_eq_add_of_le ho
  have h16 : (encodeDescriptor phase h c).drop 16 = (List.range' 16 48).map (fieldByte (cmdFields c)) :=
    List.drop_left' (by simp)
  rw [← List.drop_drop, h16, ← List.map_drop, List.drop_range', show 64 - (16 + k) = 48 - k by omega, Nat.mul_one]

theorem dByte_encode {i : Nat} (h16 : 16 ≤ i) (h64 : i < 64) : dByte (encodeDescriptor phase h c) i = fieldByte (cmdFields c) i := by
  have hd := encodeDescriptor_drop phase h c h16
  have : 64 - i = (63 - i) + 1 := by omega
  rw [this, List.range'_succ, List.map_cons] at hd
  have := congrArg (·.head?) hd
  simp only [List.head?_drop, List.head?_cons] at this
  simp [dByte, nth, List.getD, this]

/-- A field reads back, modulo its width. -/
theorem dNat_encode (hl : apartFields (cmdFields c) = true) {e : Nat × Nat × Nat} (he : e ∈ cmdFields c) :
    dNat (encodeDescriptor phase h c) e.1 e.2.1 = e.2.2 % 256 ^ e.2.1 := by
  obtain ⟨hlo, hhi⟩ := apartFields_within hl he
  have hbytes : (List.range' e.1 e.2.1).map (fieldByte (cmdFields c)) = bytesLE e.2.1 e.2.2 := by
    rw [bytesLE_eq_map, List.range'_eq_map_range, List.map_map]
    refine List.map_congr_left fun k hk => ?_
    rw [List.mem_range] at hk
    rw [Function.comp_apply, fieldByte_covered hl he (by omega) (by omega), Nat.add_sub_cancel_left]
  rw [dNat, encodeDescriptor_drop _ _ _ hlo, ← List.map_take, List.range'_eq_map_range, ← List.map_take, List.take_range,
    Nat.min_eq_left (by omega), ← List.range'_eq_map_range, hbytes, natLE_bytesLE]

end


theorem dNat_one (d : List Nat) (off : Nat) : dNat d off 1 = dByte d off := by
  unfold dNat dByte nth
  rw [List.getD_eq_getElem?_getD, ← List.head?_drop]
  cases d.drop off <;> simp [natLE]

theorem b2n_le_one (b : Bool) : b2n b ≤ 1 := by cases b <;> decide

theorem bit_eq_iff {n i : Nat} {b : Bool} : bit n i = b ↔ n / 2 ^ i % 2 = b2n b := by
  unfold bit b2n
  cases b <;> simp

/-- The fields of a command stand apart in its descriptor. -/
theorem apartFields_cmdFields {c : Cmd} (hc : c.wf) : apartFields (cmdFields c) = true := by
  cases c
  case rffeXfer c =>
    obtain ⟨tile, nops, timing, ops, result⟩ := c
    obtain ⟨-, -, -, -, hops, -⟩ := hc
    obtain ⟨o0, o1, o2, o3, rfl⟩ := List.length_eq_four.1 hops
    rfl
  all_goals rfl


/-- The bytes of a descriptor hold the fields of a command. -/
def Spells (d : List Nat) (c : Cmd) : Prop := ∀ e ∈ cmdFields c, dNat d e.1 e.2.1 = e.2.2 % 256 ^ e.2.1


theorem length_eq_eight {α : Type} {l : List α} (h : l.length = 8) :
    ∃ a b c d e f g i, l = [a, b, c, d, e, f, g, i] := by
  match l, h with
  | [a, b, c, d, e, f, g, i], _ => exact ⟨a, b, c, d, e, f, g, i, rfl⟩


section
variable {d : List Nat}

theorem descriptorCmd_txTile {c : TxTileCmd} (hc : c.wf) (hs : Spells d (.txTile c)) : descriptorCmd 0x21 d = some (.txTile c) := by
  obtain ⟨tile, updNco, updGain, ftw, gains⟩ := c
  obtain ⟨htile, hftw, hlen, hgains⟩ := hc
  obtain ⟨g0, g1, g2, g3, g4, g5, g6, g7, rfl⟩ := length_eq_eight hlen
  simp only [Spells, cmdFields, List.forall_mem_cons, dNat_one, List.not_mem_nil, false_implies, implies_true, and_true] at hs hgains
  simp only [descriptorCmd, decodeTx, List.range_succ_eq_map, List.range_zero, List.map_nil, List.map_cons, hs]
  simp [bit_eq_iff, nth]
  grind [b2n_le_one]

/-- An operation of an `RFFE_XFER` reads back from the four fields that spell it. -/
theorem dRffe_of_fields {off : Nat} {o : RffeOp} (ho : o.wf)
    (hs : ∀ e ∈ [(off, 1, o.usid + 16 * o.kind), (off + 1, 1, o.count), (off + 2, 2, o.addr), (off + 4, 4, o.data)],
      dNat d e.1 e.2.1 = e.2.2 % 256 ^ e.2.1) : dRffe d off = o := by
  obtain ⟨usid, kind, count, addr, data⟩ := o
  obtain ⟨husid, hkind, hcount, haddr, hdata⟩ := ho
  simp only [List.forall_mem_cons, dNat_one, List.not_mem_nil, false_implies, implies_true, and_true] at hs husid hkind hcount haddr hdata
  simp only [dRffe, hs, bits, RffeOp.mk.injEq]
  omega

theorem descriptorCmd_rffeXfer {c : RffeCmd} (hc : c.wf) (hs : Spells d (.rffeXfer c)) : descriptorCmd 0x54 d = some (.rffeXfer c) := by
  obtain ⟨tile, nops, timing, ops, result⟩ := c
  obtain ⟨htile, hnops, htiming, hresult, hlen, hops⟩ := hc
  obtain ⟨o0, o1, o2, o3, rfl⟩ := List.length_eq_four.1 hlen
  simp only [List.forall_mem_cons, List.not_mem_nil, false_implies, implies_true, and_true] at hops htile hnops htiming hresult
  obtain ⟨h0, h1, h2, h3⟩ := hops
  have r0 : dRffe d 24 = o0 := dRffe_of_fields h0 fun e he => hs e (by simp only [cmdFields, rffeOpFields]; grind)
  have r1 : dRffe d 32 = o1 := dRffe_of_fields h1 fun e he => hs e (by simp only [cmdFields, rffeOpFields]; grind)
  have r2 : dRffe d 40 = o2 := dRffe_of_fields h2 fun e he => hs e (by simp only [cmdFields, rffeOpFields]; grind)
  have r3 : dRffe d 48 = o3 := dRffe_of_fields h3 fun e he => hs e (by simp only [cmdFields, rffeOpFields]; grind)
  simp only [Spells, cmdFields, List.forall_mem_cons, List.forall_mem_append, dNat_one, List.not_mem_nil, false_implies, implies_true,
    and_true] at hs
  simp only [descriptorCmd, decodeRadio, hs, r0, r1, r2, r3, Option.some.injEq, Cmd.rffeXfer.injEq, RffeCmd.mk.injEq]
  grind

theorem descriptorCmd_coopSet {c : CoopSetCmd} (hc : c.wf) (hs : Spells d (.coopSet c)) (hpcp : dByte d 23 = (c.vid + 8192 * c.pcp) / 256 % 256) :
    descriptorCmd 0x61 d = some (.coopSet c) := by
  obtain ⟨index, enable, dl, ul, position, members, setId, vid, pcp, group, upPort, downPort, downMac, carriers, first, layers, finalShift,
    bs, segPrb, upDelay⟩ := c
  simp only [CoopSetCmd.wf] at hc hpcp
  rw [show (vid + 8192 * pcp) / 256 % 256 = vid / 256 + 32 * pcp by omega] at hpcp
  simp only [Spells, cmdFields, List.forall_mem_cons, dNat_one, List.not_mem_nil, false_implies, implies_true, and_true] at hs
  simp only [descriptorCmd, decodeFh, hs, hpcp]
  simp [bit_eq_iff, bits]
  have hen := b2n_le_one enable
  have hdl := b2n_le_one dl
  have hul := b2n_le_one ul
  omega

theorem descriptorCmd_gauArm {c : GauArmCmd} (hc : c.wf) (hs : Spells d (.gauArm c)) : descriptorCmd 0xC9 d = some (.gauArm c) := by
  cases c
  simp only [GauArmCmd.wf] at hc
  simp only [Spells, cmdFields, List.forall_mem_cons, dNat_one, List.not_mem_nil, false_implies, implies_true, and_true] at hs
  simp only [descriptorCmd, decodeGau, hs]
  simp [bit_eq_iff, bits]
  grind [b2n_le_one]

end

/-- A command is read from the bytes that spell it: a value in a field of its own as it stands, and a packed byte by its parts. The upper
byte of `COOP_SET`'s tag is read once more by itself. -/
theorem descriptorCmd_of_spells {d : List Nat} {c : Cmd} (hc : c.wf) (hs : Spells d c)
    (hpcp : ∀ x, c = .coopSet x → dByte d 23 = (x.vid + 8192 * x.pcp) / 256 % 256) : descriptorCmd (opcodeOf c) d = some c := by
  cases c
  case nop | now | synRecal | hkaInject | fltDumpTest => rfl
  case txTile c => exact descriptorCmd_txTile hc hs
  case rffeXfer c => exact descriptorCmd_rffeXfer hc hs
  case coopSet c => exact descriptorCmd_coopSet hc hs (hpcp c rfl)
  case gauArm c => exact descriptorCmd_gauArm hc hs
  case txCarrier c | biasSet c | ddsTone c | rxCarrier c | rxExtract c | beamLoad c | covSetup c | acdOccasion c | foReport c | fhCarrier c
      | fhOwdm c | otaCal c | gauStream c =>
    cases c
    simp only [Spells, cmdFields, List.forall_mem_cons, dNat_one, List.not_mem_nil, false_implies, implies_true, and_true] at hs
    simp only [descriptorCmd, opcodeOf, decodeTx, decodeRx, decodeBeam, decodeFh, decodeTime, decodeGau, hs]
    simp only [Cmd.wf, TxCarrierCmd.wf, BiasSetCmd.wf, DdsToneCmd.wf, RxCarrierCmd.wf, RxExtractCmd.wf, BeamLoadCmd.wf, CovSetupCmd.wf,
      AcdCmd.wf, FoCmd.wf, FhCarrierCmd.wf, FhOwdmCmd.wf, OtaCmd.wf, GauStreamCmd.wf] at hc
    simp [bit_eq_iff, bits]
    grind [b2n_le_one]
  all_goals
    simp only [Spells, cmdFields, List.forall_mem_cons, dNat_one, List.not_mem_nil, false_implies, implies_true, and_true] at hs
    simp only [descriptorCmd, opcodeOf, decodeBasic, decodeTx, decodeRx, decodeBeam, decodeRadio, decodeFh, decodeLane, decodeTime, decodeSys,
      decodeGau, decodeFlt, hs]
    simp only [Cmd.wf] at hc
    simp [bit_eq_iff, bits]
    grind [b2n_le_one]

/-! ### Reserved bits -/

/-- A mask with one run of bits, `w` of them from bit `l` on, meets no bit of a number whose bits there are zero. -/
theorem land_run {x l w : Nat} (h : bits x l w = 0) : Nat.land x (2 ^ l * (2 ^ w - 1)) = 0 := by
  refine Nat.eq_of_testBit_eq fun k => ?_
  refine (Nat.testBit_land x _ k).trans ?_
  rw [Nat.zero_testBit, Nat.testBit_two_pow_mul, Nat.testBit_two_pow_sub_one]
  by_cases hk : l ≤ k ∧ k - l < w
  · have hbit : (x / 2 ^ l % 2 ^ w).testBit (k - l) = false := by rw [show x / 2 ^ l % 2 ^ w = 0 from h, Nat.zero_testBit]
    rw [Nat.testBit_mod_two_pow, Nat.testBit_div_two_pow, Nat.sub_add_cancel hk.1] at hbit
    simpa [hk] using hbit
  · grind

/-- Of the command bytes that fields at these places cover, those of which the opcode uses only some bits. -/
def partBytesOf (op : Nat) (places : List (Nat × Nat)) : List Nat :=
  (List.range' 16 48).filter fun i => places.any (fun e => decide (e.1 ≤ i ∧ i < e.1 + e.2)) && usedMask (usedOf op) i != 255

/-- The command bytes of which a command uses only some bits. -/
def partBytes (c : Cmd) : List Nat := partBytesOf (opcodeOf c) ((cmdFields c).map fun e => (e.1, e.2.1))

theorem fieldByte_lt {l : List (Nat × Nat × Nat)} (hl : apartFields l = true) (i : Nat) : fieldByte l i < 256 := by
  by_cases h : ∃ e ∈ l, e.1 ≤ i ∧ i < e.1 + e.2.1
  · obtain ⟨e, he, hi, hi'⟩ := h
    rw [fieldByte_covered hl he hi hi']
    omega
  · rw [fieldByte_uncovered fun e he hi => h ⟨e, he, hi⟩]
    omega

/-- The reserved bits in the bytes that an opcode uses in part: byte, first bit, count of bits. -/
def reservedRuns : Nat → List (Nat × Nat × Nat)
  | 0x01 => [(16, 3, 5)]
  | 0x10 => [(18, 3, 5)]
  | 0x20 => [(17, 3, 4), (18, 4, 4), (35, 1, 7)]
  | 0x21 => [(17, 2, 6)]
  | 0x24 => [(18, 2, 5)]
  | 0x25 => [(34, 2, 6)]
  | 0x30 => [(17, 3, 4), (18, 3, 5), (30, 5, 3), (35, 1, 7)]
  | 0x31 => [(17, 4, 3), (21, 6, 2), (26, 5, 3)]
  | 0x32 => [(16, 1, 7)]
  | 0x40 => [(16, 3, 4), (18, 3, 5)]
  | 0x41 => [(16, 4, 4)]
  | 0x43 => [(16, 3, 4), (33, 6, 2), (34, 5, 3)]
  | 0x44 => [(16, 4, 3), (43, 2, 6)]
  | 0x45 => [(16, 5, 2), (28, 2, 6)]
  | 0x56 => [(18, 2, 6)]
  | 0x60 => [(16, 3, 4), (19, 1, 7)]
  | 0x61 => [(17, 3, 5), (23, 4, 1), (39, 5, 3), (41, 3, 5)]
  | 0x63 => [(17, 1, 7)]
  | 0x70 => [(18, 1, 7)]
  | 0x78 => [(17, 4, 4), (18, 1, 7)]
  | 0xA0 => [(17, 1, 7)]
  | 0xC9 => [(18, 6, 2), (19, 6, 2), (36, 4, 3), (37, 3, 5)]
  | 0xD0 => [(16, 2, 6)]
  | 0xD1 => [(16, 1, 7)]
  | _ => []

theorem partBytes_eq {c : Cmd} (hc : c.wf) : (partBytes c).map (fun i => (i, 255 - usedMask (usedOf (opcodeOf c)) i)) =
    (reservedRuns (opcodeOf c)).map fun r => (r.1, 2 ^ r.2.1 * (2 ^ r.2.2 - 1)) := by
  cases c
  case rffeXfer c =>
    obtain ⟨tile, nops, timing, ops, result⟩ := c
    obtain ⟨-, -, -, -, hlen, -⟩ := hc
    obtain ⟨o0, o1, o2, o3, rfl⟩ := List.length_eq_four.1 hlen
    simp only [partBytes, opcodeOf, cmdFields, rffeOpFields, List.map_append, List.map_cons, List.map_nil]
    decide +kernel
  all_goals
    simp only [partBytes, opcodeOf, cmdFields, List.map]
    decide +kernel

theorem reservedRuns_clear_coopSet {c : CoopSetCmd} (hc : c.wf) :
    ∀ r ∈ reservedRuns 0x61, bits (fieldByte (cmdFields (.coopSet c)) r.1) r.2.1 r.2.2 = 0 := by
  obtain ⟨-, -, -, -, hvid, -, -, -, -, -, -, hfirst, -, hshift, -⟩ := hc
  simp only [reservedRuns, List.forall_mem_cons, List.not_mem_nil, false_implies, implies_true, and_true]
  simp [fieldByte, cmdFields, sumL, bits]
  have hen := b2n_le_one c.enable
  have hdl := b2n_le_one c.dl
  have hul := b2n_le_one c.ul
  omega

theorem reservedRuns_clear_gauArm {c : GauArmCmd} (hc : c.wf) :
    ∀ r ∈ reservedRuns 0xC9, bits (fieldByte (cmdFields (.gauArm c)) r.1) r.2.1 r.2.2 = 0 := by
  obtain ⟨-, -, hcond, -, -, -, -, -, hwlog, hlevee, -⟩ := hc
  simp only [reservedRuns, List.forall_mem_cons, List.not_mem_nil, false_implies, implies_true, and_true]
  simp [fieldByte, cmdFields, sumL, bits]
  have hrep := b2n_le_one c.rep
  have hreq := b2n_le_one c.reqFull
  have hauto := b2n_le_one c.auto
  have hmask := b2n_le_one c.maskStop
  have hdrain := b2n_le_one c.drain
  have hevt := b2n_le_one c.evtMissed
  have hbelow := b2n_le_one c.below
  omega

/-- The values of a command leave its reserved bits clear. -/
theorem reservedRuns_clear {c : Cmd} (hc : c.wf) : ∀ r ∈ reservedRuns (opcodeOf c), bits (fieldByte (cmdFields c) r.1) r.2.1 r.2.2 = 0 := by
  cases c
  case coopSet c => exact reservedRuns_clear_coopSet hc
  case gauArm c => exact reservedRuns_clear_gauArm hc
  all_goals simp only [reservedRuns, opcodeOf, List.forall_mem_cons, List.not_mem_nil, false_implies, implies_true, and_true]
  all_goals
    simp only [Cmd.wf, TxCarrierCmd.wf, TxTileCmd.wf, BiasSetCmd.wf, DdsToneCmd.wf, RxCarrierCmd.wf, RxExtractCmd.wf, BeamLoadCmd.wf,
      CovSetupCmd.wf, AcdCmd.wf, FoCmd.wf, FhCarrierCmd.wf, FhOwdmCmd.wf] at hc
    simp [fieldByte, cmdFields, sumL, bits]
    grind [b2n_le_one]

/-- No command byte has a reserved bit set. -/
theorem reserved_clear {c : Cmd} (hc : c.wf) {i : Nat} (hi : i ∈ List.range' 16 48) :
    Nat.land (fieldByte (cmdFields c) i) (255 - usedMask (usedOf (opcodeOf c)) i) = 0 := by
  by_cases hp : i ∈ partBytes c
  · have hmem := List.mem_map_of_mem (f := fun i => (i, 255 - usedMask (usedOf (opcodeOf c)) i)) hp
    rw [partBytes_eq hc] at hmem
    obtain ⟨r, hr, heq⟩ := List.mem_map.1 hmem
    obtain ⟨rfl, hmask⟩ := Prod.mk.inj heq
    rw [← hmask]
    exact land_run (reservedRuns_clear hc r hr)
  simp only [partBytes, partBytesOf, List.any_map, Function.comp_apply, List.mem_filter, hi, true_and, Bool.and_eq_true, not_and,
    List.any_eq_true, decide_eq_true_eq, bne_iff_ne, ne_eq, not_not] at hp
  by_cases hcov : ∃ e ∈ cmdFields c, e.1 ≤ i ∧ i < e.1 + e.2.1
  · rw [hp hcov]
    exact Nat.and_zero _
  · rw [fieldByte_uncovered fun e he hi => hcov ⟨e, he, hi⟩]
    exact Nat.zero_and _

/-! ### The header -/

section
variable (phase : Bool) (h : Hdr) (c : Cmd)

theorem dByte_encode_opcode : dByte (encodeDescriptor phase h c) 0 = opcodeOf c := rfl

theorem dByte_encode_flags : dByte (encodeDescriptor phase h c) 1 = b2n phase + 2 * b2n h.timed + 4 * b2n h.fence := rfl

theorem dByte_encode_unused {i : Nat} (hi : i ∈ List.range' 10 6) : dByte (encodeDescriptor phase h c) i = 0 := by
  simp only [List.range'_succ, List.range'_zero, List.mem_cons, List.not_mem_nil, or_false] at hi
  rcases hi with rfl | rfl | rfl | rfl | rfl | rfl <;> rfl

theorem dHdr_encode (hh : h.wf) : dHdr h.ring (encodeDescriptor phase h c) = h := by
  obtain ⟨hring, htag, hframe, htick⟩ := hh
  have e2 : dNat (encodeDescriptor phase h c) 2 2 = natLE (bytesLE 2 h.tag) := rfl
  have e4 : dNat (encodeDescriptor phase h c) 4 4 = natLE (bytesLE 4 h.effFrame) := rfl
  have e8 : dNat (encodeDescriptor phase h c) 8 2 = natLE (bytesLE 2 h.effTick) := rfl
  have ht : bit (dByte (encodeDescriptor phase h c) 1) 1 = h.timed := by
    rw [bit_eq_iff, dByte_encode_flags]
    grind [b2n_le_one]
  have hf : bit (dByte (encodeDescriptor phase h c) 1) 2 = h.fence := by
    rw [bit_eq_iff, dByte_encode_flags]
    grind [b2n_le_one]
  simp only [dHdr, e2, e4, e8, ht, hf, natLE_bytesLE]
  rw [Nat.mod_eq_of_lt (by omega), Nat.mod_eq_of_lt (by omega), Nat.mod_eq_of_lt (by omega)]

end

theorem reservedOk_encode {phase : Bool} {h : Hdr} {c : Cmd} (hc : c.wf) : reservedOk (opcodeOf c) (encodeDescriptor phase h c) = true := by
  simp only [reservedOk, Bool.and_eq_true, decide_eq_true_eq, List.all_eq_true, beq_iff_eq]
  refine ⟨⟨?_, fun i hi => dByte_encode_unused _ _ _ hi⟩, fun i hi => ?_⟩
  · rw [dByte_encode_flags]
    grind [b2n_le_one]
  · have hi' := List.mem_range'_1.1 hi
    rw [dByte_encode _ _ _ (by omega) (by omega)]
    exact reserved_clear hc hi

theorem spells_encode {phase : Bool} {h : Hdr} {c : Cmd} (hc : c.wf) : Spells (encodeDescriptor phase h c) c :=
  fun _ he => dNat_encode _ _ _ (apartFields_cmdFields hc) he

/-- Settles O6: the bytes of a command spell its fields, which read back as the command; the reserved bits are clear byte by byte. -/
theorem descriptorsSpellTheirCommands : Obligations.DescriptorsSpellTheirCommands := by
  intro phase h c hh hc
  have hap := apartFields_cmdFields hc
  refine ⟨encodeDescriptor_length _ _ _, dByte_encode_opcode _ _ _, ?phase, dHdr_encode _ _ _ hh,
    descriptorCmd_of_spells hc (spells_encode hc) ?tag, reservedOk_encode hc⟩
  case phase =>
    rw [bit_eq_iff, dByte_encode_flags]
    grind [b2n_le_one]
  case tag =>
    rintro x rfl
    rw [dByte_encode _ _ _ (by omega) (by omega)]
    exact fieldByte_covered hap (e := (22, 2, x.vid + 8192 * x.pcp)) (by simp [cmdFields]) (i := 23) (Nat.le_of_ble_eq_true rfl) (Nat.le_of_ble_eq_true rfl)

end Sys2Proof.Machine
end


section
/-! SUPPORT. Reading registers of a state that is written as a record update, and after a report. -/
namespace Sys2Proof.Machine
open Sys2Proof

/-! ## A state that differs from another outside the registers

The reading operations look at the register file only, so on a record update they read what the register file of the update holds:
the lemmas `…_mk` and `…Of_regs` together let `simp` see through `{ s with rx := … }`. -/

/-- The word of a register file at an offset. -/
def rdOf (m : RegFile) (off : Nat) : Nat := (m.read off).toNat
/-- The value of a field of a register file. -/
def getOf (m : RegFile) (f : Field) : Nat := bits (rdOf m f.reg) f.lsb f.width
/-- Whether a one-bit field of a register file is 1. -/
def onOf (m : RegFile) (f : Field) : Bool := getOf m f == 1
/-- A value of two consecutive registers of a register file. -/
def rd64Of (m : RegFile) (off : Nat) : Nat := rdOf m off + 2 ^ 32 * rdOf m (off + 4)

@[simp] theorem rdOf_regs (s : State) (off : Nat) : rdOf s.regs off = s.rd off := rfl
@[simp] theorem getOf_regs (s : State) (f : Field) : getOf s.regs f = s.get f := rfl
@[simp] theorem onOf_regs (s : State) (f : Field) : onOf s.regs f = s.on f := rfl
@[simp] theorem rd64Of_regs (s : State) (off : Nat) : rd64Of s.regs off = s.rd64 off := rfl

section
variable (pending : List Instr) (regs : RegFile) (now frac free : Nat) (hostMem devMem : Memory) (host : HostState) (arch : ArchState)
  (tx : TxState) (rx : RxState) (beam : BeamState) (levee : LeveeState) (rct : RadioState) (fh : FhState) (line : LineState)
  (cul : CulvertState) (tim : TimeState) (eng : EngState) (slu : SluState) (sea : SeaState) (boot : BootState) (pwr : PwrState)
  (hka : HkaState) (gau : GauState) (flt : FltState) (pkg : PkgState)

@[simp] theorem State.rd_mk (off : Nat) :
    State.rd ⟨pending, regs, now, frac, free, hostMem, devMem, host, arch, tx, rx, beam, levee, rct, fh, line, cul, tim, eng, slu, sea, boot, pwr, hka, gau, flt, pkg⟩
      off = rdOf regs off := rfl
@[simp] theorem State.get_mk (f : Field) :
    State.get ⟨pending, regs, now, frac, free, hostMem, devMem, host, arch, tx, rx, beam, levee, rct, fh, line, cul, tim, eng, slu, sea, boot, pwr, hka, gau, flt, pkg⟩
      f = getOf regs f := rfl
@[simp] theorem State.on_mk (f : Field) :
    State.on ⟨pending, regs, now, frac, free, hostMem, devMem, host, arch, tx, rx, beam, levee, rct, fh, line, cul, tim, eng, slu, sea, boot, pwr, hka, gau, flt, pkg⟩
      f = onOf regs f := rfl
@[simp] theorem State.rd64_mk (off : Nat) :
    State.rd64 ⟨pending, regs, now, frac, free, hostMem, devMem, host, arch, tx, rx, beam, levee, rct, fh, line, cul, tim, eng, slu, sea, boot, pwr, hka, gau, flt, pkg⟩
      off = rd64Of regs off := rfl
end

/-! ## Registers after a write

The laws of `Laws/Registers` with the one part of `State.stored` they need. -/


theorem State.rd_wr_of_wf {s : State} (h : s.regs.wf = true) (off v a : Nat) : (s.wr off v).rd a = if a = off then v % 2 ^ 32 else s.rd a :=
  State.rd_wr (s := { s with hostMem := [], devMem := [] }) ⟨h, rfl, rfl⟩ off v a

@[simp] theorem State.get_put_same {s : State} (h : s.regs.wf = true) (f : Field) (v : Nat) (hf : f.ok) :
    (s.put f v).get f = v % 2 ^ f.width :=
  State.get_put (s := { s with hostMem := [], devMem := [] }) ⟨h, rfl, rfl⟩ f v hf

@[simp] theorem State.get_put_apart {s : State} (h : s.regs.wf = true) (f g : Field) (v : Nat) (hf : f.ok) (hg : f.apart g) :
    (s.put f v).get g = s.get g :=
  State.get_put_other (s := { s with hostMem := [], devMem := [] }) ⟨h, rfl, rfl⟩ f g v hf hg

@[simp] theorem State.on_put_same {s : State} (h : s.regs.wf = true) (f : Field) (v : Nat) (hf : f.ok) :
    (s.put f v).on f = (v % 2 ^ f.width == 1) := by
  rw [State.on, State.get_put_same h f v hf]

@[simp] theorem State.on_put_apart {s : State} (h : s.regs.wf = true) (f g : Field) (v : Nat) (hf : f.ok) (hg : f.apart g) :
    (s.put f v).on g = s.on g := by
  rw [State.on, State.get_put_apart h f g v hf hg, State.on]

@[simp] theorem State.rd_put_ne {s : State} (h : s.regs.wf = true) (f : Field) (v : Nat) {a : Nat} (ha : a ≠ f.reg) :
    (s.put f v).rd a = s.rd a :=
  State.rd_put_other (s := { s with hostMem := [], devMem := [] }) ⟨h, rfl, rfl⟩ f v ha

@[simp] theorem State.rd64_put_ne {s : State} (h : s.regs.wf = true) (f : Field) (v : Nat) {a : Nat} (h1 : a ≠ f.reg)
    (h2 : a + 4 ≠ f.reg) : (s.put f v).rd64 a = s.rd64 a := by
  rw [State.rd64, State.rd_put_ne h f v h1, State.rd_put_ne h f v h2, State.rd64]

@[simp] theorem State.rd_wr_same {s : State} (h : s.regs.wf = true) (off v : Nat) : (s.wr off v).rd off = v % 2 ^ 32 := by
  rw [State.rd_wr_of_wf h, if_pos rfl]

@[simp] theorem State.rd_wr_ne {s : State} (h : s.regs.wf = true) (off v : Nat) {a : Nat} (ha : a ≠ off) : (s.wr off v).rd a = s.rd a := by
  rw [State.rd_wr_of_wf h, if_neg ha]

@[simp] theorem State.get_wr_ne {s : State} (h : s.regs.wf = true) (off v : Nat) (g : Field) (hg : g.reg ≠ off) :
    (s.wr off v).get g = s.get g := by
  rw [State.get, State.rd_wr_ne h _ _ hg, State.get]

@[simp] theorem State.rd64_wr_ne {s : State} (h : s.regs.wf = true) (off v : Nat) {a : Nat} (h1 : a ≠ off) (h2 : a + 4 ≠ off) :
    (s.wr off v).rd64 a = s.rd64 a := by
  rw [State.rd64, State.rd_wr_ne h _ _ h1, State.rd_wr_ne h _ _ h2, State.rd64]

@[simp] theorem State.rd64_wr64_same {s : State} (h : s.regs.wf = true) (off v : Nat) : (s.wr64 off v).rd64 off = v % 2 ^ 64 :=
  State.rd64_wr64 (s := { s with hostMem := [], devMem := [] }) ⟨h, rfl, rfl⟩ off v

@[simp] theorem State.rd_wr64_ne {s : State} (h : s.regs.wf = true) (off v : Nat) {a : Nat} (h1 : a ≠ off) (h2 : a ≠ off + 4) :
    (s.wr64 off v).rd a = s.rd a :=
  State.rd_wr64_other (s := { s with hostMem := [], devMem := [] }) ⟨h, rfl, rfl⟩ off v h1 h2

@[simp] theorem State.get_wr64_ne {s : State} (h : s.regs.wf = true) (off v : Nat) (g : Field) (h1 : g.reg ≠ off) (h2 : g.reg ≠ off + 4) :
    (s.wr64 off v).get g = s.get g :=
  State.get_wr64_other (s := { s with hostMem := [], devMem := [] }) ⟨h, rfl, rfl⟩ off v g h1 h2

@[simp] theorem State.on_wr64_ne {s : State} (h : s.regs.wf = true) (off v : Nat) (g : Field) (h1 : g.reg ≠ off) (h2 : g.reg ≠ off + 4) :
    (s.wr64 off v).on g = s.on g := by
  rw [State.on, State.get_wr64_ne h off v g h1 h2, State.on]

@[simp] theorem State.rd64_wr64_ne {s : State} (h : s.regs.wf = true) (off v : Nat) {a : Nat} (h1 : a ≠ off) (h2 : a ≠ off + 4)
    (h3 : a + 4 ≠ off) : (s.wr64 off v).rd64 a = s.rd64 a :=
  State.rd64_wr64_other (s := { s with hostMem := [], devMem := [] }) ⟨h, rfl, rfl⟩ off v h1 h2 h3


/-! ## Canonical stores through a chain of updates

That an update keeps a store canonical is stated as an equation without premises, which `simp` chains through any number of updates down
to the hypothesis on the first state; a conditional rule would reach three updates deep only. The other branch is never taken. -/

/-- The other branch of the rules below, for the register file. -/
def State.regsRaw (s : State) : Bool := s.regs.wf
/-- The same for host memory. -/
def State.hostRaw (s : State) : Bool := s.hostMem.wf
/-- The same for device memory. -/
def State.devRaw (s : State) : Bool := s.devMem.wf

theorem eq_ite_of_imp {p : Prop} [Decidable p] {a : Bool} (h : p → a = true) : a = if p then true else a := by
  split
  · exact h ‹_›
  · rfl

@[simp] theorem State.wr_regs_wf (s : State) (off v : Nat) :
    (s.wr off v).regs.wf = if s.regs.wf = true then true else (s.wr off v).regsRaw := eq_ite_of_imp fun h => Sparse.write_wf _ _ h
@[simp] theorem State.put_regs_wf (s : State) (f : Field) (v : Nat) :
    (s.put f v).regs.wf = if s.regs.wf = true then true else (s.put f v).regsRaw := eq_ite_of_imp fun h => Sparse.write_wf _ _ h
@[simp] theorem State.setF_regs_wf (s : State) (f : Field) :
    (s.setF f).regs.wf = if s.regs.wf = true then true else (s.setF f).regsRaw := eq_ite_of_imp fun h => Sparse.write_wf _ _ h
@[simp] theorem State.satAdd_regs_wf (s : State) (f : Field) (v : Nat) :
    (s.satAdd f v).regs.wf = if s.regs.wf = true then true else (s.satAdd f v).regsRaw := eq_ite_of_imp fun h => Sparse.write_wf _ _ h
@[simp] theorem State.wr64_regs_wf (s : State) (off v : Nat) :
    (s.wr64 off v).regs.wf = if s.regs.wf = true then true else (s.wr64 off v).regsRaw :=
  eq_ite_of_imp fun h => Sparse.write_wf _ _ (Sparse.write_wf _ _ h)
@[simp] theorem State.add64_regs_wf (s : State) (off v : Nat) :
    (s.add64 off v).regs.wf = if s.regs.wf = true then true else (s.add64 off v).regsRaw :=
  eq_ite_of_imp fun h => Sparse.write_wf _ _ (Sparse.write_wf _ _ h)
@[simp] theorem State.putBit64_regs_wf (s : State) (off i : Nat) (b : Bool) :
    (s.putBit64 off i b).regs.wf = if s.regs.wf = true then true else (s.putBit64 off i b).regsRaw :=
  eq_ite_of_imp fun h => Sparse.write_wf _ _ (Sparse.write_wf _ _ h)

@[simp] theorem State.hostWrite_hostMem_wf (s : State) (a : Nat) (l : List Nat) :
    (s.hostWrite a l).hostMem.wf = if s.hostMem.wf = true then true else (s.hostWrite a l).hostRaw :=
  eq_ite_of_imp fun h => Memory.writeBytes_wf _ _ h
@[simp] theorem State.devWrite_devMem_wf (s : State) (a : Nat) (l : List Nat) :
    (s.devWrite a l).devMem.wf = if s.devMem.wf = true then true else (s.devWrite a l).devRaw :=
  eq_ite_of_imp fun h => Memory.writeBytes_wf _ _ h

/-! ## Registers after an update of another part -/

@[simp] theorem State.hostWrite_rd (s : State) (a : Nat) (l : List Nat) (off : Nat) : (s.hostWrite a l).rd off = s.rd off := rfl
@[simp] theorem State.hostWrite_get (s : State) (a : Nat) (l : List Nat) (fld : Field) : (s.hostWrite a l).get fld = s.get fld := rfl
@[simp] theorem State.hostWrite_on (s : State) (a : Nat) (l : List Nat) (fld : Field) : (s.hostWrite a l).on fld = s.on fld := rfl
@[simp] theorem State.hostWrite_rd64 (s : State) (a : Nat) (l : List Nat) (off : Nat) : (s.hostWrite a l).rd64 off = s.rd64 off := rfl
@[simp] theorem State.devWrite_rd (s : State) (a : Nat) (l : List Nat) (off : Nat) : (s.devWrite a l).rd off = s.rd off := rfl
@[simp] theorem State.devWrite_get (s : State) (a : Nat) (l : List Nat) (fld : Field) : (s.devWrite a l).get fld = s.get fld := rfl
@[simp] theorem State.devWrite_on (s : State) (a : Nat) (l : List Nat) (fld : Field) : (s.devWrite a l).on fld = s.on fld := rfl
@[simp] theorem State.devWrite_rd64 (s : State) (a : Nat) (l : List Nat) (off : Nat) : (s.devWrite a l).rd64 off = s.rd64 off := rfl
@[simp] theorem State.fresh_rd (s : State)  (a : Nat) : (s.fresh).rd a = s.rd a := rfl
@[simp] theorem State.fresh_get (s : State)  (fld : Field) : (s.fresh).get fld = s.get fld := rfl
@[simp] theorem State.fresh_on (s : State)  (fld : Field) : (s.fresh).on fld = s.on fld := rfl
@[simp] theorem State.fresh_rd64 (s : State)  (a : Nat) : (s.fresh).rd64 a = s.rd64 a := rfl
@[simp] theorem State.modRing_rd (s : State) (r : Nat) (g : RingState → RingState) (a : Nat) : (s.modRing r g).rd a = s.rd a := rfl
@[simp] theorem State.modRing_get (s : State) (r : Nat) (g : RingState → RingState) (fld : Field) : (s.modRing r g).get fld = s.get fld := rfl
@[simp] theorem State.modRing_on (s : State) (r : Nat) (g : RingState → RingState) (fld : Field) : (s.modRing r g).on fld = s.on fld := rfl
@[simp] theorem State.modRing_rd64 (s : State) (r : Nat) (g : RingState → RingState) (a : Nat) : (s.modRing r g).rd64 a = s.rd64 a := rfl
@[simp] theorem State.modStrobes_rd (s : State) (n : Nat) (g : Strobes → Strobes) (a : Nat) : (s.modStrobes n g).rd a = s.rd a := rfl
@[simp] theorem State.modStrobes_get (s : State) (n : Nat) (g : Strobes → Strobes) (fld : Field) : (s.modStrobes n g).get fld = s.get fld := rfl
@[simp] theorem State.modStrobes_on (s : State) (n : Nat) (g : Strobes → Strobes) (fld : Field) : (s.modStrobes n g).on fld = s.on fld := rfl
@[simp] theorem State.modStrobes_rd64 (s : State) (n : Nat) (g : Strobes → Strobes) (a : Nat) : (s.modStrobes n g).rd64 a = s.rd64 a := rfl
@[simp] theorem State.modProtect_rd (s : State) (n : Nat) (g : Protect → Protect) (a : Nat) : (s.modProtect n g).rd a = s.rd a := rfl
@[simp] theorem State.modProtect_get (s : State) (n : Nat) (g : Protect → Protect) (fld : Field) : (s.modProtect n g).get fld = s.get fld := rfl
@[simp] theorem State.modProtect_on (s : State) (n : Nat) (g : Protect → Protect) (fld : Field) : (s.modProtect n g).on fld = s.on fld := rfl
@[simp] theorem State.modProtect_rd64 (s : State) (n : Nat) (g : Protect → Protect) (a : Nat) : (s.modProtect n g).rd64 a = s.rd64 a := rfl
@[simp] theorem State.modCoex_rd (s : State) (k : Nat) (g : CoexPair → CoexPair) (a : Nat) : (s.modCoex k g).rd a = s.rd a := rfl
@[simp] theorem State.modCoex_get (s : State) (k : Nat) (g : CoexPair → CoexPair) (fld : Field) : (s.modCoex k g).get fld = s.get fld := rfl
@[simp] theorem State.modCoex_on (s : State) (k : Nat) (g : CoexPair → CoexPair) (fld : Field) : (s.modCoex k g).on fld = s.on fld := rfl
@[simp] theorem State.modCoex_rd64 (s : State) (k : Nat) (g : CoexPair → CoexPair) (a : Nat) : (s.modCoex k g).rd64 a = s.rd64 a := rfl
@[simp] theorem State.setBiasDac_rd (s : State) (n k : Nat) (d : BiasDac) (a : Nat) : (s.setBiasDac n k d).rd a = s.rd a := rfl
@[simp] theorem State.setBiasDac_get (s : State) (n k : Nat) (d : BiasDac) (fld : Field) : (s.setBiasDac n k d).get fld = s.get fld := rfl
@[simp] theorem State.setBiasDac_on (s : State) (n k : Nat) (d : BiasDac) (fld : Field) : (s.setBiasDac n k d).on fld = s.on fld := rfl
@[simp] theorem State.setBiasDac_rd64 (s : State) (n k : Nat) (d : BiasDac) (a : Nat) : (s.setBiasDac n k d).rd64 a = s.rd64 a := rfl
@[simp] theorem State.setDpdBank_rd (s : State) (p b : Nat) (l : List Nat) (a : Nat) : (s.setDpdBank p b l).rd a = s.rd a := rfl
@[simp] theorem State.setDpdBank_get (s : State) (p b : Nat) (l : List Nat) (fld : Field) : (s.setDpdBank p b l).get fld = s.get fld := rfl
@[simp] theorem State.setDpdBank_on (s : State) (p b : Nat) (l : List Nat) (fld : Field) : (s.setDpdBank p b l).on fld = s.on fld := rfl
@[simp] theorem State.setDpdBank_rd64 (s : State) (p b : Nat) (l : List Nat) (a : Nat) : (s.setDpdBank p b l).rd64 a = s.rd64 a := rfl
@[simp] theorem State.modEngine_rd (s : State) (n : Nat) (g : Engine → Engine) (a : Nat) : (s.modEngine n g).rd a = s.rd a := rfl
@[simp] theorem State.modEngine_get (s : State) (n : Nat) (g : Engine → Engine) (fld : Field) : (s.modEngine n g).get fld = s.get fld := rfl
@[simp] theorem State.modEngine_on (s : State) (n : Nat) (g : Engine → Engine) (fld : Field) : (s.modEngine n g).on fld = s.on fld := rfl
@[simp] theorem State.modEngine_rd64 (s : State) (n : Nat) (g : Engine → Engine) (a : Nat) : (s.modEngine n g).rd64 a = s.rd64 a := rfl
@[simp] theorem State.modTimePort_rd (s : State) (k : Nat) (g : TimePort → TimePort) (a : Nat) : (s.modTimePort k g).rd a = s.rd a := rfl
@[simp] theorem State.modTimePort_get (s : State) (k : Nat) (g : TimePort → TimePort) (fld : Field) : (s.modTimePort k g).get fld = s.get fld := rfl
@[simp] theorem State.modTimePort_on (s : State) (k : Nat) (g : TimePort → TimePort) (fld : Field) : (s.modTimePort k g).on fld = s.on fld := rfl
@[simp] theorem State.modTimePort_rd64 (s : State) (k : Nat) (g : TimePort → TimePort) (a : Nat) : (s.modTimePort k g).rd64 a = s.rd64 a := rfl
@[simp] theorem State.modPtp_rd (s : State) (k : Nat) (g : PtpPort → PtpPort) (a : Nat) : (s.modPtp k g).rd a = s.rd a := rfl
@[simp] theorem State.modPtp_get (s : State) (k : Nat) (g : PtpPort → PtpPort) (fld : Field) : (s.modPtp k g).get fld = s.get fld := rfl
@[simp] theorem State.modPtp_on (s : State) (k : Nat) (g : PtpPort → PtpPort) (fld : Field) : (s.modPtp k g).on fld = s.on fld := rfl
@[simp] theorem State.modPtp_rd64 (s : State) (k : Nat) (g : PtpPort → PtpPort) (a : Nat) : (s.modPtp k g).rd64 a = s.rd64 a := rfl
@[simp] theorem State.modCulLane_rd (s : State) (n : Nat) (g : CulLane → CulLane) (a : Nat) : (s.modCulLane n g).rd a = s.rd a := rfl
@[simp] theorem State.modCulLane_get (s : State) (n : Nat) (g : CulLane → CulLane) (fld : Field) : (s.modCulLane n g).get fld = s.get fld := rfl
@[simp] theorem State.modCulLane_on (s : State) (n : Nat) (g : CulLane → CulLane) (fld : Field) : (s.modCulLane n g).on fld = s.on fld := rfl
@[simp] theorem State.modCulLane_rd64 (s : State) (n : Nat) (g : CulLane → CulLane) (a : Nat) : (s.modCulLane n g).rd64 a = s.rd64 a := rfl
@[simp] theorem State.modCulLink_rd (s : State) (k : Nat) (g : CulLink → CulLink) (a : Nat) : (s.modCulLink k g).rd a = s.rd a := rfl
@[simp] theorem State.modCulLink_get (s : State) (k : Nat) (g : CulLink → CulLink) (fld : Field) : (s.modCulLink k g).get fld = s.get fld := rfl
@[simp] theorem State.modCulLink_on (s : State) (k : Nat) (g : CulLink → CulLink) (fld : Field) : (s.modCulLink k g).on fld = s.on fld := rfl
@[simp] theorem State.modCulLink_rd64 (s : State) (k : Nat) (g : CulLink → CulLink) (a : Nat) : (s.modCulLink k g).rd64 a = s.rd64 a := rfl
@[simp] theorem State.modPeer_rd (s : State) (k : Nat) (g : TunnelPeer → TunnelPeer) (a : Nat) : (s.modPeer k g).rd a = s.rd a := rfl
@[simp] theorem State.modPeer_get (s : State) (k : Nat) (g : TunnelPeer → TunnelPeer) (fld : Field) : (s.modPeer k g).get fld = s.get fld := rfl
@[simp] theorem State.modPeer_on (s : State) (k : Nat) (g : TunnelPeer → TunnelPeer) (fld : Field) : (s.modPeer k g).on fld = s.on fld := rfl
@[simp] theorem State.modPeer_rd64 (s : State) (k : Nat) (g : TunnelPeer → TunnelPeer) (a : Nat) : (s.modPeer k g).rd64 a = s.rd64 a := rfl
@[simp] theorem State.modMsec_rd (s : State) (k : Nat) (g : MsecPort → MsecPort) (a : Nat) : (s.modMsec k g).rd a = s.rd a := rfl
@[simp] theorem State.modMsec_get (s : State) (k : Nat) (g : MsecPort → MsecPort) (fld : Field) : (s.modMsec k g).get fld = s.get fld := rfl
@[simp] theorem State.modMsec_on (s : State) (k : Nat) (g : MsecPort → MsecPort) (fld : Field) : (s.modMsec k g).on fld = s.on fld := rfl
@[simp] theorem State.modMsec_rd64 (s : State) (k : Nat) (g : MsecPort → MsecPort) (a : Nat) : (s.modMsec k g).rd64 a = s.rd64 a := rfl
@[simp] theorem State.modLane_rd (s : State) (n : Nat) (g : LaneState → LaneState) (a : Nat) : (s.modLane n g).rd a = s.rd a := rfl
@[simp] theorem State.modLane_get (s : State) (n : Nat) (g : LaneState → LaneState) (fld : Field) : (s.modLane n g).get fld = s.get fld := rfl
@[simp] theorem State.modLane_on (s : State) (n : Nat) (g : LaneState → LaneState) (fld : Field) : (s.modLane n g).on fld = s.on fld := rfl
@[simp] theorem State.modLane_rd64 (s : State) (n : Nat) (g : LaneState → LaneState) (a : Nat) : (s.modLane n g).rd64 a = s.rd64 a := rfl
@[simp] theorem State.modPort_rd (s : State) (k : Nat) (g : PortState → PortState) (a : Nat) : (s.modPort k g).rd a = s.rd a := rfl
@[simp] theorem State.modPort_get (s : State) (k : Nat) (g : PortState → PortState) (fld : Field) : (s.modPort k g).get fld = s.get fld := rfl
@[simp] theorem State.modPort_on (s : State) (k : Nat) (g : PortState → PortState) (fld : Field) : (s.modPort k g).on fld = s.on fld := rfl
@[simp] theorem State.modPort_rd64 (s : State) (k : Nat) (g : PortState → PortState) (a : Nat) : (s.modPort k g).rd64 a = s.rd64 a := rfl
@[simp] theorem State.modSlu_rd (s : State) (c : Nat) (g : SluChan → SluChan) (a : Nat) : (s.modSlu c g).rd a = s.rd a := rfl
@[simp] theorem State.modSlu_get (s : State) (c : Nat) (g : SluChan → SluChan) (fld : Field) : (s.modSlu c g).get fld = s.get fld := rfl
@[simp] theorem State.modSlu_on (s : State) (c : Nat) (g : SluChan → SluChan) (fld : Field) : (s.modSlu c g).on fld = s.on fld := rfl
@[simp] theorem State.modSlu_rd64 (s : State) (c : Nat) (g : SluChan → SluChan) (a : Nat) : (s.modSlu c g).rd64 a = s.rd64 a := rfl
@[simp] theorem State.setCap_rd (s : State) (k : Nat) (c : Capture) (a : Nat) : (s.setCap k c).rd a = s.rd a := rfl
@[simp] theorem State.setCap_get (s : State) (k : Nat) (c : Capture) (fld : Field) : (s.setCap k c).get fld = s.get fld := rfl
@[simp] theorem State.setCap_on (s : State) (k : Nat) (c : Capture) (fld : Field) : (s.setCap k c).on fld = s.on fld := rfl
@[simp] theorem State.setCap_rd64 (s : State) (k : Nat) (c : Capture) (a : Nat) : (s.setCap k c).rd64 a = s.rd64 a := rfl
@[simp] theorem State.setSlot_rd (s : State) (k : Nat) (x : Slot) (a : Nat) : (s.setSlot k x).rd a = s.rd a := rfl
@[simp] theorem State.setSlot_get (s : State) (k : Nat) (x : Slot) (fld : Field) : (s.setSlot k x).get fld = s.get fld := rfl
@[simp] theorem State.setSlot_on (s : State) (k : Nat) (x : Slot) (fld : Field) : (s.setSlot k x).on fld = s.on fld := rfl
@[simp] theorem State.setSlot_rd64 (s : State) (k : Nat) (x : Slot) (a : Nat) : (s.setSlot k x).rd64 a = s.rd64 a := rfl

/-! ## What a report leaves, as rewriting rules -/

@[simp] theorem State.event_pending (s : State) (src code : Nat) (args : List Nat) : (s.event src code args).pending = s.pending := (s.event_reports _ _ _).pending
@[simp] theorem State.event_now (s : State) (src code : Nat) (args : List Nat) : (s.event src code args).now = s.now := (s.event_reports _ _ _).now
@[simp] theorem State.event_frac (s : State) (src code : Nat) (args : List Nat) : (s.event src code args).frac = s.frac := (s.event_reports _ _ _).frac
@[simp] theorem State.event_free (s : State) (src code : Nat) (args : List Nat) : (s.event src code args).free = s.free := (s.event_reports _ _ _).free
@[simp] theorem State.event_devMem (s : State) (src code : Nat) (args : List Nat) : (s.event src code args).devMem = s.devMem := (s.event_reports _ _ _).devMem
@[simp] theorem State.event_arch (s : State) (src code : Nat) (args : List Nat) : (s.event src code args).arch = s.arch := (s.event_reports _ _ _).arch
@[simp] theorem State.event_tx (s : State) (src code : Nat) (args : List Nat) : (s.event src code args).tx = s.tx := (s.event_reports _ _ _).tx
@[simp] theorem State.event_rx (s : State) (src code : Nat) (args : List Nat) : (s.event src code args).rx = s.rx := (s.event_reports _ _ _).rx
@[simp] theorem State.event_beam (s : State) (src code : Nat) (args : List Nat) : (s.event src code args).beam = s.beam := (s.event_reports _ _ _).beam
@[simp] theorem State.event_levee (s : State) (src code : Nat) (args : List Nat) : (s.event src code args).levee = s.levee := (s.event_reports _ _ _).levee
@[simp] theorem State.event_rct (s : State) (src code : Nat) (args : List Nat) : (s.event src code args).rct = s.rct := (s.event_reports _ _ _).rct
@[simp] theorem State.event_line (s : State) (src code : Nat) (args : List Nat) : (s.event src code args).line = s.line := (s.event_reports _ _ _).line
@[simp] theorem State.event_cul (s : State) (src code : Nat) (args : List Nat) : (s.event src code args).cul = s.cul := (s.event_reports _ _ _).cul
@[simp] theorem State.event_tim (s : State) (src code : Nat) (args : List Nat) : (s.event src code args).tim = s.tim := (s.event_reports _ _ _).tim
@[simp] theorem State.event_eng (s : State) (src code : Nat) (args : List Nat) : (s.event src code args).eng = s.eng := (s.event_reports _ _ _).eng
@[simp] theorem State.event_slu (s : State) (src code : Nat) (args : List Nat) : (s.event src code args).slu = s.slu := (s.event_reports _ _ _).slu
@[simp] theorem State.event_sea (s : State) (src code : Nat) (args : List Nat) : (s.event src code args).sea = s.sea := (s.event_reports _ _ _).sea
@[simp] theorem State.event_boot (s : State) (src code : Nat) (args : List Nat) : (s.event src code args).boot = s.boot := (s.event_reports _ _ _).boot
@[simp] theorem State.event_pwr (s : State) (src code : Nat) (args : List Nat) : (s.event src code args).pwr = s.pwr := (s.event_reports _ _ _).pwr
@[simp] theorem State.event_hka (s : State) (src code : Nat) (args : List Nat) : (s.event src code args).hka = s.hka := (s.event_reports _ _ _).hka
@[simp] theorem State.event_gau (s : State) (src code : Nat) (args : List Nat) : (s.event src code args).gau = s.gau := (s.event_reports _ _ _).gau
@[simp] theorem State.event_regs_wf (s : State) (src code : Nat) (args : List Nat) :
    (s.event src code args).regs.wf = if s.regs.wf = true ∧ s.hostMem.wf = true ∧ s.devMem.wf = true then true else (s.event src code args).regsRaw :=
  eq_ite_of_imp fun h => ((s.event_reports _ _ _).stored h).1
@[simp] theorem State.event_hostMem_wf (s : State) (src code : Nat) (args : List Nat) :
    (s.event src code args).hostMem.wf = if s.regs.wf = true ∧ s.hostMem.wf = true ∧ s.devMem.wf = true then true else (s.event src code args).hostRaw :=
  eq_ite_of_imp fun h => ((s.event_reports _ _ _).stored h).2.1
@[simp] theorem State.event_get (s : State) (src code : Nat) (args : List Nat) (h1 : s.regs.wf = true) (h2 : s.hostMem.wf = true) (h3 : s.devMem.wf = true) (f : Field)
    (hf : recordField f = false) : (s.event src code args).get f = s.get f := (s.event_reports _ _ _).fields ⟨h1, h2, h3⟩ f hf
@[simp] theorem State.event_on (s : State) (src code : Nat) (args : List Nat) (h1 : s.regs.wf = true) (h2 : s.hostMem.wf = true) (h3 : s.devMem.wf = true) (f : Field)
    (hf : recordField f = false) : (s.event src code args).on f = s.on f := by
  rw [State.on, State.event_get s _ _ _ h1 h2 h3 f hf, State.on]
@[simp] theorem State.event_rd (s : State) (src code : Nat) (args : List Nat) (h1 : s.regs.wf = true) (h2 : s.hostMem.wf = true) (h3 : s.devMem.wf = true) (off : Nat)
    (ho : recordField ⟨off, 0, 32⟩ = false) : (s.event src code args).rd off = s.rd off := (s.event_reports _ _ _).rd ⟨h1, h2, h3⟩ ho
@[simp] theorem State.event_rd64 (s : State) (src code : Nat) (args : List Nat) (h1 : s.regs.wf = true) (h2 : s.hostMem.wf = true) (h3 : s.devMem.wf = true) (off : Nat)
    (ho : recordField ⟨off, 0, 32⟩ = false) (ho4 : recordField ⟨off + 4, 0, 32⟩ = false) : (s.event src code args).rd64 off = s.rd64 off :=
  (s.event_reports _ _ _).rd64 ⟨h1, h2, h3⟩ ho ho4

@[simp] theorem State.eventAt_pending (s : State) (time src code : Nat) (args : List Nat) : (s.eventAt time src code args).pending = s.pending := (s.eventAt_reports _ _ _ _).pending
@[simp] theorem State.eventAt_now (s : State) (time src code : Nat) (args : List Nat) : (s.eventAt time src code args).now = s.now := (s.eventAt_reports _ _ _ _).now
@[simp] theorem State.eventAt_frac (s : State) (time src code : Nat) (args : List Nat) : (s.eventAt time src code args).frac = s.frac := (s.eventAt_reports _ _ _ _).frac
@[simp] theorem State.eventAt_free (s : State) (time src code : Nat) (args : List Nat) : (s.eventAt time src code args).free = s.free := (s.eventAt_reports _ _ _ _).free
@[simp] theorem State.eventAt_devMem (s : State) (time src code : Nat) (args : List Nat) : (s.eventAt time src code args).devMem = s.devMem := (s.eventAt_reports _ _ _ _).devMem
@[simp] theorem State.eventAt_arch (s : State) (time src code : Nat) (args : List Nat) : (s.eventAt time src code args).arch = s.arch := (s.eventAt_reports _ _ _ _).arch
@[simp] theorem State.eventAt_tx (s : State) (time src code : Nat) (args : List Nat) : (s.eventAt time src code args).tx = s.tx := (s.eventAt_reports _ _ _ _).tx
@[simp] theorem State.eventAt_rx (s : State) (time src code : Nat) (args : List Nat) : (s.eventAt time src code args).rx = s.rx := (s.eventAt_reports _ _ _ _).rx
@[simp] theorem State.eventAt_beam (s : State) (time src code : Nat) (args : List Nat) : (s.eventAt time src code args).beam = s.beam := (s.eventAt_reports _ _ _ _).beam
@[simp] theorem State.eventAt_levee (s : State) (time src code : Nat) (args : List Nat) : (s.eventAt time src code args).levee = s.levee := (s.eventAt_reports _ _ _ _).levee
@[simp] theorem State.eventAt_rct (s : State) (time src code : Nat) (args : List Nat) : (s.eventAt time src code args).rct = s.rct := (s.eventAt_reports _ _ _ _).rct
@[simp] theorem State.eventAt_line (s : State) (time src code : Nat) (args : List Nat) : (s.eventAt time src code args).line = s.line := (s.eventAt_reports _ _ _ _).line
@[simp] theorem State.eventAt_cul (s : State) (time src code : Nat) (args : List Nat) : (s.eventAt time src code args).cul = s.cul := (s.eventAt_reports _ _ _ _).cul
@[simp] theorem State.eventAt_tim (s : State) (time src code : Nat) (args : List Nat) : (s.eventAt time src code args).tim = s.tim := (s.eventAt_reports _ _ _ _).tim
@[simp] theorem State.eventAt_eng (s : State) (time src code : Nat) (args : List Nat) : (s.eventAt time src code args).eng = s.eng := (s.eventAt_reports _ _ _ _).eng
@[simp] theorem State.eventAt_slu (s : State) (time src code : Nat) (args : List Nat) : (s.eventAt time src code args).slu = s.slu := (s.eventAt_reports _ _ _ _).slu
@[simp] theorem State.eventAt_sea (s : State) (time src code : Nat) (args : List Nat) : (s.eventAt time src code args).sea = s.sea := (s.eventAt_reports _ _ _ _).sea
@[simp] theorem State.eventAt_boot (s : State) (time src code : Nat) (args : List Nat) : (s.eventAt time src code args).boot = s.boot := (s.eventAt_reports _ _ _ _).boot
@[simp] theorem State.eventAt_pwr (s : State) (time src code : Nat) (args : List Nat) : (s.eventAt time src code args).pwr = s.pwr := (s.eventAt_reports _ _ _ _).pwr
@[simp] theorem State.eventAt_hka (s : State) (time src code : Nat) (args : List Nat) : (s.eventAt time src code args).hka = s.hka := (s.eventAt_reports _ _ _ _).hka
@[simp] theorem State.eventAt_gau (s : State) (time src code : Nat) (args : List Nat) : (s.eventAt time src code args).gau = s.gau := (s.eventAt_reports _ _ _ _).gau
@[simp] theorem State.eventAt_regs_wf (s : State) (time src code : Nat) (args : List Nat) :
    (s.eventAt time src code args).regs.wf = if s.regs.wf = true ∧ s.hostMem.wf = true ∧ s.devMem.wf = true then true else (s.eventAt time src code args).regsRaw :=
  eq_ite_of_imp fun h => ((s.eventAt_reports _ _ _ _).stored h).1
@[simp] theorem State.eventAt_hostMem_wf (s : State) (time src code : Nat) (args : List Nat) :
    (s.eventAt time src code args).hostMem.wf = if s.regs.wf = true ∧ s.hostMem.wf = true ∧ s.devMem.wf = true then true else (s.eventAt time src code args).hostRaw :=
  eq_ite_of_imp fun h => ((s.eventAt_reports _ _ _ _).stored h).2.1
@[simp] theorem State.eventAt_get (s : State) (time src code : Nat) (args : List Nat) (h1 : s.regs.wf = true) (h2 : s.hostMem.wf = true) (h3 : s.devMem.wf = true) (f : Field)
    (hf : recordField f = false) : (s.eventAt time src code args).get f = s.get f := (s.eventAt_reports _ _ _ _).fields ⟨h1, h2, h3⟩ f hf
@[simp] theorem State.eventAt_on (s : State) (time src code : Nat) (args : List Nat) (h1 : s.regs.wf = true) (h2 : s.hostMem.wf = true) (h3 : s.devMem.wf = true) (f : Field)
    (hf : recordField f = false) : (s.eventAt time src code args).on f = s.on f := by
  rw [State.on, State.eventAt_get s _ _ _ _ h1 h2 h3 f hf, State.on]
@[simp] theorem State.eventAt_rd (s : State) (time src code : Nat) (args : List Nat) (h1 : s.regs.wf = true) (h2 : s.hostMem.wf = true) (h3 : s.devMem.wf = true) (off : Nat)
    (ho : recordField ⟨off, 0, 32⟩ = false) : (s.eventAt time src code args).rd off = s.rd off := (s.eventAt_reports _ _ _ _).rd ⟨h1, h2, h3⟩ ho
@[simp] theorem State.eventAt_rd64 (s : State) (time src code : Nat) (args : List Nat) (h1 : s.regs.wf = true) (h2 : s.hostMem.wf = true) (h3 : s.devMem.wf = true) (off : Nat)
    (ho : recordField ⟨off, 0, 32⟩ = false) (ho4 : recordField ⟨off + 4, 0, 32⟩ = false) : (s.eventAt time src code args).rd64 off = s.rd64 off :=
  (s.eventAt_reports _ _ _ _).rd64 ⟨h1, h2, h3⟩ ho ho4

@[simp] theorem State.completeX_pending (s : State) (h : Hdr) (op status reason : Nat) (result : List Nat) (evt : Bool) : (s.completeX h op status reason result evt).pending = s.pending := (s.completeX_reports _ _ _ _ _ _).pending
@[simp] theorem State.completeX_now (s : State) (h : Hdr) (op status reason : Nat) (result : List Nat) (evt : Bool) : (s.completeX h op status reason result evt).now = s.now := (s.completeX_reports _ _ _ _ _ _).now
@[simp] theorem State.completeX_frac (s : State) (h : Hdr) (op status reason : Nat) (result : List Nat) (evt : Bool) : (s.completeX h op status reason result evt).frac = s.frac := (s.completeX_reports _ _ _ _ _ _).frac
@[simp] theorem State.completeX_free (s : State) (h : Hdr) (op status reason : Nat) (result : List Nat) (evt : Bool) : (s.completeX h op status reason result evt).free = s.free := (s.completeX_reports _ _ _ _ _ _).free
@[simp] theorem State.completeX_devMem (s : State) (h : Hdr) (op status reason : Nat) (result : List Nat) (evt : Bool) : (s.completeX h op status reason result evt).devMem = s.devMem := (s.completeX_reports _ _ _ _ _ _).devMem
@[simp] theorem State.completeX_arch (s : State) (h : Hdr) (op status reason : Nat) (result : List Nat) (evt : Bool) : (s.completeX h op status reason result evt).arch = s.arch := (s.completeX_reports _ _ _ _ _ _).arch
@[simp] theorem State.completeX_tx (s : State) (h : Hdr) (op status reason : Nat) (result : List Nat) (evt : Bool) : (s.completeX h op status reason result evt).tx = s.tx := (s.completeX_reports _ _ _ _ _ _).tx
@[simp] theorem State.completeX_rx (s : State) (h : Hdr) (op status reason : Nat) (result : List Nat) (evt : Bool) : (s.completeX h op status reason result evt).rx = s.rx := (s.completeX_reports _ _ _ _ _ _).rx
@[simp] theorem State.completeX_beam (s : State) (h : Hdr) (op status reason : Nat) (result : List Nat) (evt : Bool) : (s.completeX h op status reason result evt).beam = s.beam := (s.completeX_reports _ _ _ _ _ _).beam
@[simp] theorem State.completeX_levee (s : State) (h : Hdr) (op status reason : Nat) (result : List Nat) (evt : Bool) : (s.completeX h op status reason result evt).levee = s.levee := (s.completeX_reports _ _ _ _ _ _).levee
@[simp] theorem State.completeX_rct (s : State) (h : Hdr) (op status reason : Nat) (result : List Nat) (evt : Bool) : (s.completeX h op status reason result evt).rct = s.rct := (s.completeX_reports _ _ _ _ _ _).rct
@[simp] theorem State.completeX_line (s : State) (h : Hdr) (op status reason : Nat) (result : List Nat) (evt : Bool) : (s.completeX h op status reason result evt).line = s.line := (s.completeX_reports _ _ _ _ _ _).line
@[simp] theorem State.completeX_cul (s : State) (h : Hdr) (op status reason : Nat) (result : List Nat) (evt : Bool) : (s.completeX h op status reason result evt).cul = s.cul := (s.completeX_reports _ _ _ _ _ _).cul
@[simp] theorem State.completeX_tim (s : State) (h : Hdr) (op status reason : Nat) (result : List Nat) (evt : Bool) : (s.completeX h op status reason result evt).tim = s.tim := (s.completeX_reports _ _ _ _ _ _).tim
@[simp] theorem State.completeX_eng (s : State) (h : Hdr) (op status reason : Nat) (result : List Nat) (evt : Bool) : (s.completeX h op status reason result evt).eng = s.eng := (s.completeX_reports _ _ _ _ _ _).eng
@[simp] theorem State.completeX_slu (s : State) (h : Hdr) (op status reason : Nat) (result : List Nat) (evt : Bool) : (s.completeX h op status reason result evt).slu = s.slu := (s.completeX_reports _ _ _ _ _ _).slu
@[simp] theorem State.completeX_sea (s : State) (h : Hdr) (op status reason : Nat) (result : List Nat) (evt : Bool) : (s.completeX h op status reason result evt).sea = s.sea := (s.completeX_reports _ _ _ _ _ _).sea
@[simp] theorem State.completeX_boot (s : State) (h : Hdr) (op status reason : Nat) (result : List Nat) (evt : Bool) : (s.completeX h op status reason result evt).boot = s.boot := (s.completeX_reports _ _ _ _ _ _).boot
@[simp] theorem State.completeX_pwr (s : State) (h : Hdr) (op status reason : Nat) (result : List Nat) (evt : Bool) : (s.completeX h op status reason result evt).pwr = s.pwr := (s.completeX_reports _ _ _ _ _ _).pwr
@[simp] theorem State.completeX_hka (s : State) (h : Hdr) (op status reason : Nat) (result : List Nat) (evt : Bool) : (s.completeX h op status reason result evt).hka = s.hka := (s.completeX_reports _ _ _ _ _ _).hka
@[simp] theorem State.completeX_gau (s : State) (h : Hdr) (op status reason : Nat) (result : List Nat) (evt : Bool) : (s.completeX h op status reason result evt).gau = s.gau := (s.completeX_reports _ _ _ _ _ _).gau
@[simp] theorem State.completeX_regs_wf (s : State) (h : Hdr) (op status reason : Nat) (result : List Nat) (evt : Bool) :
    (s.completeX h op status reason result evt).regs.wf = if s.regs.wf = true ∧ s.hostMem.wf = true ∧ s.devMem.wf = true then true else (s.completeX h op status reason result evt).regsRaw :=
  eq_ite_of_imp fun h => ((s.completeX_reports _ _ _ _ _ _).stored h).1
@[simp] theorem State.completeX_hostMem_wf (s : State) (h : Hdr) (op status reason : Nat) (result : List Nat) (evt : Bool) :
    (s.completeX h op status reason result evt).hostMem.wf = if s.regs.wf = true ∧ s.hostMem.wf = true ∧ s.devMem.wf = true then true else (s.completeX h op status reason result evt).hostRaw :=
  eq_ite_of_imp fun h => ((s.completeX_reports _ _ _ _ _ _).stored h).2.1
@[simp] theorem State.completeX_get (s : State) (h : Hdr) (op status reason : Nat) (result : List Nat) (evt : Bool) (h1 : s.regs.wf = true) (h2 : s.hostMem.wf = true) (h3 : s.devMem.wf = true) (f : Field)
    (hf : recordField f = false) : (s.completeX h op status reason result evt).get f = s.get f := (s.completeX_reports _ _ _ _ _ _).fields ⟨h1, h2, h3⟩ f hf
@[simp] theorem State.completeX_on (s : State) (h : Hdr) (op status reason : Nat) (result : List Nat) (evt : Bool) (h1 : s.regs.wf = true) (h2 : s.hostMem.wf = true) (h3 : s.devMem.wf = true) (f : Field)
    (hf : recordField f = false) : (s.completeX h op status reason result evt).on f = s.on f := by
  rw [State.on, State.completeX_get s _ _ _ _ _ _ h1 h2 h3 f hf, State.on]
@[simp] theorem State.completeX_rd (s : State) (h : Hdr) (op status reason : Nat) (result : List Nat) (evt : Bool) (h1 : s.regs.wf = true) (h2 : s.hostMem.wf = true) (h3 : s.devMem.wf = true) (off : Nat)
    (ho : recordField ⟨off, 0, 32⟩ = false) : (s.completeX h op status reason result evt).rd off = s.rd off := (s.completeX_reports _ _ _ _ _ _).rd ⟨h1, h2, h3⟩ ho
@[simp] theorem State.completeX_rd64 (s : State) (h : Hdr) (op status reason : Nat) (result : List Nat) (evt : Bool) (h1 : s.regs.wf = true) (h2 : s.hostMem.wf = true) (h3 : s.devMem.wf = true) (off : Nat)
    (ho : recordField ⟨off, 0, 32⟩ = false) (ho4 : recordField ⟨off + 4, 0, 32⟩ = false) : (s.completeX h op status reason result evt).rd64 off = s.rd64 off :=
  (s.completeX_reports _ _ _ _ _ _).rd64 ⟨h1, h2, h3⟩ ho ho4

@[simp] theorem State.complete_pending (s : State) (h : Hdr) (op status : Nat) : (s.complete h op status).pending = s.pending := (s.complete_reports _ _ _).pending
@[simp] theorem State.complete_now (s : State) (h : Hdr) (op status : Nat) : (s.complete h op status).now = s.now := (s.complete_reports _ _ _).now
@[simp] theorem State.complete_frac (s : State) (h : Hdr) (op status : Nat) : (s.complete h op status).frac = s.frac := (s.complete_reports _ _ _).frac
@[simp] theorem State.complete_free (s : State) (h : Hdr) (op status : Nat) : (s.complete h op status).free = s.free := (s.complete_reports _ _ _).free
@[simp] theorem State.complete_devMem (s : State) (h : Hdr) (op status : Nat) : (s.complete h op status).devMem = s.devMem := (s.complete_reports _ _ _).devMem
@[simp] theorem State.complete_arch (s : State) (h : Hdr) (op status : Nat) : (s.complete h op status).arch = s.arch := (s.complete_reports _ _ _).arch
@[simp] theorem State.complete_tx (s : State) (h : Hdr) (op status : Nat) : (s.complete h op status).tx = s.tx := (s.complete_reports _ _ _).tx
@[simp] theorem State.complete_rx (s : State) (h : Hdr) (op status : Nat) : (s.complete h op status).rx = s.rx := (s.complete_reports _ _ _).rx
@[simp] theorem State.complete_beam (s : State) (h : Hdr) (op status : Nat) : (s.complete h op status).beam = s.beam := (s.complete_reports _ _ _).beam
@[simp] theorem State.complete_levee (s : State) (h : Hdr) (op status : Nat) : (s.complete h op status).levee = s.levee := (s.complete_reports _ _ _).levee
@[simp] theorem State.complete_rct (s : State) (h : Hdr) (op status : Nat) : (s.complete h op status).rct = s.rct := (s.complete_reports _ _ _).rct
@[simp] theorem State.complete_line (s : State) (h : Hdr) (op status : Nat) : (s.complete h op status).line = s.line := (s.complete_reports _ _ _).line
@[simp] theorem State.complete_cul (s : State) (h : Hdr) (op status : Nat) : (s.complete h op status).cul = s.cul := (s.complete_reports _ _ _).cul
@[simp] theorem State.complete_tim (s : State) (h : Hdr) (op status : Nat) : (s.complete h op status).tim = s.tim := (s.complete_reports _ _ _).tim
@[simp] theorem State.complete_eng (s : State) (h : Hdr) (op status : Nat) : (s.complete h op status).eng = s.eng := (s.complete_reports _ _ _).eng
@[simp] theorem State.complete_slu (s : State) (h : Hdr) (op status : Nat) : (s.complete h op status).slu = s.slu := (s.complete_reports _ _ _).slu
@[simp] theorem State.complete_sea (s : State) (h : Hdr) (op status : Nat) : (s.complete h op status).sea = s.sea := (s.complete_reports _ _ _).sea
@[simp] theorem State.complete_boot (s : State) (h : Hdr) (op status : Nat) : (s.complete h op status).boot = s.boot := (s.complete_reports _ _ _).boot
@[simp] theorem State.complete_pwr (s : State) (h : Hdr) (op status : Nat) : (s.complete h op status).pwr = s.pwr := (s.complete_reports _ _ _).pwr
@[simp] theorem State.complete_hka (s : State) (h : Hdr) (op status : Nat) : (s.complete h op status).hka = s.hka := (s.complete_reports _ _ _).hka
@[simp] theorem State.complete_gau (s : State) (h : Hdr) (op status : Nat) : (s.complete h op status).gau = s.gau := (s.complete_reports _ _ _).gau
@[simp] theorem State.complete_regs_wf (s : State) (h : Hdr) (op status : Nat) :
    (s.complete h op status).regs.wf = if s.regs.wf = true ∧ s.hostMem.wf = true ∧ s.devMem.wf = true then true else (s.complete h op status).regsRaw :=
  eq_ite_of_imp fun h => ((s.complete_reports _ _ _).stored h).1
@[simp] theorem State.complete_hostMem_wf (s : State) (h : Hdr) (op status : Nat) :
    (s.complete h op status).hostMem.wf = if s.regs.wf = true ∧ s.hostMem.wf = true ∧ s.devMem.wf = true then true else (s.complete h op status).hostRaw :=
  eq_ite_of_imp fun h => ((s.complete_reports _ _ _).stored h).2.1
@[simp] theorem State.complete_get (s : State) (h : Hdr) (op status : Nat) (h1 : s.regs.wf = true) (h2 : s.hostMem.wf = true) (h3 : s.devMem.wf = true) (f : Field)
    (hf : recordField f = false) : (s.complete h op status).get f = s.get f := (s.complete_reports _ _ _).fields ⟨h1, h2, h3⟩ f hf
@[simp] theorem State.complete_on (s : State) (h : Hdr) (op status : Nat) (h1 : s.regs.wf = true) (h2 : s.hostMem.wf = true) (h3 : s.devMem.wf = true) (f : Field)
    (hf : recordField f = false) : (s.complete h op status).on f = s.on f := by
  rw [State.on, State.complete_get s _ _ _ h1 h2 h3 f hf, State.on]
@[simp] theorem State.complete_rd (s : State) (h : Hdr) (op status : Nat) (h1 : s.regs.wf = true) (h2 : s.hostMem.wf = true) (h3 : s.devMem.wf = true) (off : Nat)
    (ho : recordField ⟨off, 0, 32⟩ = false) : (s.complete h op status).rd off = s.rd off := (s.complete_reports _ _ _).rd ⟨h1, h2, h3⟩ ho
@[simp] theorem State.complete_rd64 (s : State) (h : Hdr) (op status : Nat) (h1 : s.regs.wf = true) (h2 : s.hostMem.wf = true) (h3 : s.devMem.wf = true) (off : Nat)
    (ho : recordField ⟨off, 0, 32⟩ = false) (ho4 : recordField ⟨off + 4, 0, 32⟩ = false) : (s.complete h op status).rd64 off = s.rd64 off :=
  (s.complete_reports _ _ _).rd64 ⟨h1, h2, h3⟩ ho ho4

@[simp] theorem State.completeR_pending (s : State) (h : Hdr) (op status : Nat) (result : List Nat) : (s.completeR h op status result).pending = s.pending := (s.completeR_reports _ _ _ _).pending
@[simp] theorem State.completeR_now (s : State) (h : Hdr) (op status : Nat) (result : List Nat) : (s.completeR h op status result).now = s.now := (s.completeR_reports _ _ _ _).now
@[simp] theorem State.completeR_frac (s : State) (h : Hdr) (op status : Nat) (result : List Nat) : (s.completeR h op status result).frac = s.frac := (s.completeR_reports _ _ _ _).frac
@[simp] theorem State.completeR_free (s : State) (h : Hdr) (op status : Nat) (result : List Nat) : (s.completeR h op status result).free = s.free := (s.completeR_reports _ _ _ _).free
@[simp] theorem State.completeR_devMem (s : State) (h : Hdr) (op status : Nat) (result : List Nat) : (s.completeR h op status result).devMem = s.devMem := (s.completeR_reports _ _ _ _).devMem
@[simp] theorem State.completeR_arch (s : State) (h : Hdr) (op status : Nat) (result : List Nat) : (s.completeR h op status result).arch = s.arch := (s.completeR_reports _ _ _ _).arch
@[simp] theorem State.completeR_tx (s : State) (h : Hdr) (op status : Nat) (result : List Nat) : (s.completeR h op status result).tx = s.tx := (s.completeR_reports _ _ _ _).tx
@[simp] theorem State.completeR_rx (s : State) (h : Hdr) (op status : Nat) (result : List Nat) : (s.completeR h op status result).rx = s.rx := (s.completeR_reports _ _ _ _).rx
@[simp] theorem State.completeR_beam (s : State) (h : Hdr) (op status : Nat) (result : List Nat) : (s.completeR h op status result).beam = s.beam := (s.completeR_reports _ _ _ _).beam
@[simp] theorem State.completeR_levee (s : State) (h : Hdr) (op status : Nat) (result : List Nat) : (s.completeR h op status result).levee = s.levee := (s.completeR_reports _ _ _ _).levee
@[simp] theorem State.completeR_rct (s : State) (h : Hdr) (op status : Nat) (result : List Nat) : (s.completeR h op status result).rct = s.rct := (s.completeR_reports _ _ _ _).rct
@[simp] theorem State.completeR_line (s : State) (h : Hdr) (op status : Nat) (result : List Nat) : (s.completeR h op status result).line = s.line := (s.completeR_reports _ _ _ _).line
@[simp] theorem State.completeR_cul (s : State) (h : Hdr) (op status : Nat) (result : List Nat) : (s.completeR h op status result).cul = s.cul := (s.completeR_reports _ _ _ _).cul
@[simp] theorem State.completeR_tim (s : State) (h : Hdr) (op status : Nat) (result : List Nat) : (s.completeR h op status result).tim = s.tim := (s.completeR_reports _ _ _ _).tim
@[simp] theorem State.completeR_eng (s : State) (h : Hdr) (op status : Nat) (result : List Nat) : (s.completeR h op status result).eng = s.eng := (s.completeR_reports _ _ _ _).eng
@[simp] theorem State.completeR_slu (s : State) (h : Hdr) (op status : Nat) (result : List Nat) : (s.completeR h op status result).slu = s.slu := (s.completeR_reports _ _ _ _).slu
@[simp] theorem State.completeR_sea (s : State) (h : Hdr) (op status : Nat) (result : List Nat) : (s.completeR h op status result).sea = s.sea := (s.completeR_reports _ _ _ _).sea
@[simp] theorem State.completeR_boot (s : State) (h : Hdr) (op status : Nat) (result : List Nat) : (s.completeR h op status result).boot = s.boot := (s.completeR_reports _ _ _ _).boot
@[simp] theorem State.completeR_pwr (s : State) (h : Hdr) (op status : Nat) (result : List Nat) : (s.completeR h op status result).pwr = s.pwr := (s.completeR_reports _ _ _ _).pwr
@[simp] theorem State.completeR_hka (s : State) (h : Hdr) (op status : Nat) (result : List Nat) : (s.completeR h op status result).hka = s.hka := (s.completeR_reports _ _ _ _).hka
@[simp] theorem State.completeR_gau (s : State) (h : Hdr) (op status : Nat) (result : List Nat) : (s.completeR h op status result).gau = s.gau := (s.completeR_reports _ _ _ _).gau
@[simp] theorem State.completeR_regs_wf (s : State) (h : Hdr) (op status : Nat) (result : List Nat) :
    (s.completeR h op status result).regs.wf = if s.regs.wf = true ∧ s.hostMem.wf = true ∧ s.devMem.wf = true then true else (s.completeR h op status result).regsRaw :=
  eq_ite_of_imp fun h => ((s.completeR_reports _ _ _ _).stored h).1
@[simp] theorem State.completeR_hostMem_wf (s : State) (h : Hdr) (op status : Nat) (result : List Nat) :
    (s.completeR h op status result).hostMem.wf = if s.regs.wf = true ∧ s.hostMem.wf = true ∧ s.devMem.wf = true then true else (s.completeR h op status result).hostRaw :=
  eq_ite_of_imp fun h => ((s.completeR_reports _ _ _ _).stored h).2.1
@[simp] theorem State.completeR_get (s : State) (h : Hdr) (op status : Nat) (result : List Nat) (h1 : s.regs.wf = true) (h2 : s.hostMem.wf = true) (h3 : s.devMem.wf = true) (f : Field)
    (hf : recordField f = false) : (s.completeR h op status result).get f = s.get f := (s.completeR_reports _ _ _ _).fields ⟨h1, h2, h3⟩ f hf
@[simp] theorem State.completeR_on (s : State) (h : Hdr) (op status : Nat) (result : List Nat) (h1 : s.regs.wf = true) (h2 : s.hostMem.wf = true) (h3 : s.devMem.wf = true) (f : Field)
    (hf : recordField f = false) : (s.completeR h op status result).on f = s.on f := by
  rw [State.on, State.completeR_get s _ _ _ _ h1 h2 h3 f hf, State.on]
@[simp] theorem State.completeR_rd (s : State) (h : Hdr) (op status : Nat) (result : List Nat) (h1 : s.regs.wf = true) (h2 : s.hostMem.wf = true) (h3 : s.devMem.wf = true) (off : Nat)
    (ho : recordField ⟨off, 0, 32⟩ = false) : (s.completeR h op status result).rd off = s.rd off := (s.completeR_reports _ _ _ _).rd ⟨h1, h2, h3⟩ ho
@[simp] theorem State.completeR_rd64 (s : State) (h : Hdr) (op status : Nat) (result : List Nat) (h1 : s.regs.wf = true) (h2 : s.hostMem.wf = true) (h3 : s.devMem.wf = true) (off : Nat)
    (ho : recordField ⟨off, 0, 32⟩ = false) (ho4 : recordField ⟨off + 4, 0, 32⟩ = false) : (s.completeR h op status result).rd64 off = s.rd64 off :=
  (s.completeR_reports _ _ _ _).rd64 ⟨h1, h2, h3⟩ ho ho4

end Sys2Proof.Machine
end


section
/-! SUPPORT. Bits of a field, loops that leave a reading alone, and the small operations of the transmit and receive chain. -/
namespace Sys2Proof.Machine
open Sys2Proof

/-! ## Bits of a field -/

theorem bit_putBit_same (m i : Nat) (b : Bool) : bit (putBit m i b) i = b := by
  have h : bits (putBits m i 1 (b2n b)) i 1 = b2n b % 2 ^ 1 := bits_putBits m i 1 (b2n b)
  rw [bit, show putBit m i b / 2 ^ i % 2 = b2n b % 2 from h]
  cases b <;> rfl

theorem bit_eq_testBit (n i : Nat) : bit n i = n.testBit i := by
  rw [Nat.testBit_eq_decide_div_mod_eq, bit, beq_eq_decide]

/-- A bit below a field's width reads the same from the field. -/
theorem bit_mod_two_pow {i w : Nat} (h : i < w) (n : Nat) : bit (n % 2 ^ w) i = bit n i := by
  rw [bit_eq_testBit, bit_eq_testBit, Nat.testBit_mod_two_pow, decide_eq_true h, Bool.true_and]

theorem Field.apart.symm {f g : Field} (h : f.apart g) : g.apart f := by
  rcases h with h | h | h
  · exact .inl (Ne.symm h)
  · exact .inr (.inr h)
  · exact .inr (.inl h)

/-- What a reading of the state keeps in every turn of a loop, the loop keeps. -/
theorem State.each_reads {α β : Type} (s : State) (l : List α) (f : State → α → State) (g : State → β) (hf : ∀ u x, g (f u x) = g u) :
    g (s.each l f) = g s := by
  unfold State.each
  induction l generalizing s with
  | nil => rfl
  | cons x t ih => exact (ih (f s x)).trans (hf s x)

/-! ## Bits of a path in the registers of its tile -/

theorem State.bit_putTileBit_same {s : State} (h : s.regs.wf = true) (f : Field) (p : Nat) (b : Bool) (hf : f.ok) (hw : f.width = 8) :
    bit ((s.putTileBit f p b).get f) (p % 8) = b := by
  rw [State.putTileBit, State.get_put_same h f _ hf, hw, bit_mod_two_pow (Nat.mod_lt _ (by decide)), bit_putBit_same]

theorem State.bit_putPathBit_same {s : State} (h : s.regs.wf = true) (f : Nat → Field) (p : Nat) (b : Bool) (hf : (f (p / 8)).ok)
    (hw : (f (p / 8)).width = 8) : bit ((s.putPathBit f p b).get (f (p / 8))) (p % 8) = b :=
  State.bit_putTileBit_same h (f (p / 8)) p b hf hw

theorem State.putPathBit_get_apart {s : State} (h : s.regs.wf = true) (f : Nat → Field) (p : Nat) (b : Bool) (g : Field) (hf : (f (p / 8)).ok)
    (hg : (f (p / 8)).apart g) : (s.putPathBit f p b).get g = s.get g :=
  State.get_put_apart h _ g _ hf hg

@[simp] theorem State.putTileBit_rx (s : State) (f : Field) (p : Nat) (b : Bool) : (s.putTileBit f p b).rx = s.rx := rfl
@[simp] theorem State.putPathBit_tx (s : State) (f : Nat → Field) (p : Nat) (b : Bool) : (s.putPathBit f p b).tx = s.tx := rfl

theorem b2n_not_bit (n i : Nat) : b2n (b2n (bit n i) == 0) = 1 - b2n (bit n i) := by cases bit n i <;> rfl

theorem State.queuedOutcome_reports (s : State) (tile kind idx bank status tag : Nat) :
    Reports s (s.queuedOutcome tile kind idx bank status tag) := State.event_reports _ _ _ _

theorem Answers.of_reports {s u : State} (h : Reports u s) : Answers (.next s) u := ⟨s, rfl, h⟩

end Sys2Proof.Machine
end

section
/-! The predistorter's banks (R63 to R72, R85). -/
namespace Sys2Proof.Machine
open Sys2Proof

theorem State.TakesNow.exec_dpdLoad {s : State} {h : Hdr} {path bank count src : Nat} (g : s.TakesNow h)
    (hfields : dpdLoadFields path bank count src = none) (howned : s.dpdOwned path = false) (hfading : s.dpdFading path = false)
    (hactive : s.dpdActive path ≠ bank) : exec (.dpdLoad h path bank count src) s = .next (s.startDpdLoad ⟨h, path, bank, count, src, false⟩) := by
  show Host.Outcome.next (s.acceptNow h 0x22 (dpdLoadFields path bank count src) _) = _
  simp [hfields, g.acceptNow, howned, hfading, hactive]

/-- A finished load leaves its bank and is gone, whether its outcome is a completion or the record of a queued load. -/
theorem State.finishDpdLoad_reports {s : State} {path : Nat} {busOk : Bool} {j : DpdJob}
    (hfind : s.tx.loads.find? (fun j => j.path == path) = some j) :
    Reports { s with tx := { s.tx with
        loads := s.tx.loads.erase j,
        banks := s.tx.banks.set (path * 2 + j.bank)
          (dpdLoaded (profileDpd s.profile) busOk (words8 j.count (s.hostRead j.src (8 * j.count)))).2 } }
      (s.finishDpdLoad path busOk) := by
  simp only [State.finishDpdLoad, hfind]
  split
  · exact State.queuedOutcome_reports _ _ _ _ _ _ _
  · exact State.complete_reports _ _ _ _

/-- At the end of a fade the state is the one without the fade whose two status bits of the path are written. -/
theorem exec_dpdFadeEnd {s : State} {path : Nat} {f : DpdFade} (hfade : s.tx.fades.get? path = some f) (hend : f.start + f.len ≤ s.absTick)
    (hqueue : s.tx.loadQ.get? path = none) :
    exec (.dpdFadeEnd path) s = .next
      (({ s with tx := { s.tx with fades := s.tx.fades.del path } }.putPathBit Reg.TIL_DPD_STAT_FADING path false).putPathBit
        Reg.TIL_DPD_STAT_ACTIVE path
        (({ s with tx := { s.tx with fades := s.tx.fades.del path } }.putPathBit Reg.TIL_DPD_STAT_FADING path false).dpdActive path == 0)) := by
  show execDpdFadeEnd path s = _
  simp only [execDpdFadeEnd, hfade, not_lt.mpr hend, if_false, State.releaseDpdLoad, State.putPathBit_tx, hqueue]

theorem exec_heldDpdSwapStart {s : State} {tile : Nat} {q : HeldDpdSwap} (hswap : s.tx.swapQ.get? tile = some q) (hslot : s.atSlot = true)
    (hdue : q.eff ≤ s.absTick) (hfading : s.anyFading tile q.mask = false) :
    exec (.heldDpdSwapStart tile) s = .next
      (({ s with tx := { s.tx with swapQ := s.tx.swapQ.del tile } }.put (Reg.TIL_DPD_STAT_SWAP_Q tile) 0).startDpdSwap q.hdr tile q.mask q.fade) := by
  show execHeldDpdSwapStart tile s = _
  simp [execHeldDpdSwapStart, hswap, hslot, hdue, hfading]

theorem State.startDpdSwap_reports {u : State} {tile mask fade : Nat} (h : Hdr) (howned : u.anyOwned tile mask = false)
    (hloading : u.anyLoading tile mask = false) : Reports (u.startDpdFades tile mask fade) (u.startDpdSwap h tile mask fade) := by
  simp only [State.startDpdSwap, howned, hloading, Bool.false_eq_true, if_false]
  exact (Reports.refl _).completeTx _ _ _

/-- The bits that a fade's end writes, and the field it leaves. -/
theorem dpdFadeEnd_bits {u : State} (hu : u.regs.wf = true) (path : Nat) :
    let t := (u.putPathBit Reg.TIL_DPD_STAT_FADING path false).putPathBit Reg.TIL_DPD_STAT_ACTIVE path
      ((u.putPathBit Reg.TIL_DPD_STAT_FADING path false).dpdActive path == 0)
    t.dpdActive path = 1 - u.dpdActive path ∧ t.get (Reg.TIL_DPD_STAT_SWAP_Q (path / 8)) = u.get (Reg.TIL_DPD_STAT_SWAP_Q (path / 8)) := by
  have hv : (u.putPathBit Reg.TIL_DPD_STAT_FADING path false).regs.wf = true := Sparse.write_wf _ _ hu
  have hactive : (u.putPathBit Reg.TIL_DPD_STAT_FADING path false).dpdActive path = u.dpdActive path := by
    unfold State.dpdActive
    rw [State.putPathBit_get_apart hu _ _ _ _ (Nat.le_of_ble_eq_true rfl) (.inr (.inr (Nat.le_of_ble_eq_true rfl)))]
  constructor
  · rw [hactive, State.dpdActive, State.bit_putPathBit_same hv _ _ _ (Nat.le_of_ble_eq_true rfl) rfl]
    exact b2n_not_bit _ _
  · rw [State.putPathBit_get_apart hv _ _ _ _ (Nat.le_of_ble_eq_true rfl) (.inr (.inl (Nat.le_of_ble_eq_true rfl))),
      State.putPathBit_get_apart hu _ _ _ _ (Nat.le_of_ble_eq_true rfl) (.inr (.inl (Nat.le_of_ble_eq_true rfl)))]

/-- Settles O17: loads by their two outcomes, a fade's end by the two path bits it writes, a held swap by its checks. -/
theorem dpdBanksLoadAndSwap : Obligations.DpdBanksLoadAndSwap := by
  intro s hs
  refine ⟨?load, ?complete, ?fadeEnd, ?heldSwap⟩
  case load =>
    intro h path bank count src g hfields howned hfading hactive
    exact g.exec_dpdLoad hfields howned hfading hactive
  case complete =>
    intro path busOk j hfind _
    exact .of_reports (State.finishDpdLoad_reports hfind)
  case fadeEnd =>
    intro path f _ hfade hend hqueue
    exact ⟨_, exec_dpdFadeEnd hfade hend hqueue, rfl, dpdFadeEnd_bits hs.1 path⟩
  case heldSwap =>
    intro tile q _ hswap hslot hdue hfading _ u howned hloading
    rw [exec_heldDpdSwapStart hswap hslot hdue hfading]
    exact .of_reports (State.startDpdSwap_reports _ howned hloading)

end Sys2Proof.Machine
end


section
/-! Bias codes (R78, R79). -/
namespace Sys2Proof.Machine
open Sys2Proof

theorem State.biasDac_setBiasDac (s : State) (n k : Nat) (d : BiasDac) : (s.setBiasDac n k d).biasDac n k = d := Tab.getD_set _ _ _ _

theorem State.finishBias_reports (s : State) (tile dac : Nat) (j : BiasJob) (st : Nat) : Reports s (s.finishBias tile dac j st) := by
  unfold State.finishBias
  exact (State.complete_reports s _ _ _).trans (.ite (State.queuedOutcome_reports _ _ _ _ _ _ _) (.refl _))

theorem biasCode_unrecorded : ∀ tile < 8, ∀ dac < 16, recordField (Reg.TIL_BIAS_OUT_CODE tile dac) = false := by decide

/-- What stands once a code has reached the output of DAC `dac` of tile `tile`, which then keeps `d`, and its read-back is queued. -/
structure BiasDone (s t : State) (tile dac code : Nat) (d : BiasDac) : Prop where
  out : t.get (Reg.TIL_BIAS_OUT_CODE tile dac) = code % 2 ^ 16
  kept : t.biasDac tile dac = d
  readback : t.hka.sys = (s.hka.sys.filter fun e => e.1 != 0x80 + 16 * tile + dac) ++ [(0x80 + 16 * tile + dac, s.now + 10000)]

theorem BiasDone.biasCode {s : State} (hs : s.regs.wf = true) (tile dac code : Nat) (d : BiasDac) :
    BiasDone s ((s.setBiasDac tile dac d).biasCode tile dac code) tile dac code d :=
  ⟨State.get_put_same (s := s.setBiasDac tile dac d) hs _ _ (Nat.le_of_ble_eq_true rfl), State.biasDac_setBiasDac s _ _ _, rfl⟩

theorem BiasDone.reports {s t u : State} {tile dac code : Nat} {d : BiasDac} (g : BiasDone s t tile dac code d) (h : Reports t u)
    (ht : t.stored) (htile : tile < 8) (hdac : dac < 16) : BiasDone s u tile dac code d where
  out := (h.fields ht _ (biasCode_unrecorded tile htile dac hdac)).trans g.out
  kept := (congrArg (fun x : TxState => x.bias.getD (tile * 16 + dac) BiasDac.initial) h.tx).trans g.kept
  readback := by rw [h.hka, g.readback]

/-- A code that reaches its output, whatever then tells of it. -/
theorem BiasDone.finish {s : State} (hs : s.stored) {tile dac : Nat} (htile : tile < 8) (hdac : dac < 16) (d : BiasDac) (j : BiasJob) (st : Nat) :
    BiasDone s (((s.setBiasDac tile dac d).biasCode tile dac j.code).finishBias tile dac j st) tile dac j.code d :=
  (BiasDone.biasCode hs.1 tile dac j.code d).reports (State.finishBias_reports _ _ _ _ _)
    (State.put_stored (s := s.setBiasDac tile dac d) _ _ hs) htile hdac

/-- A trigger brings a staged code of no span change to the output. -/
theorem State.fireBias_staged {s : State} {tile dac : Nat} {j : BiasJob} (hchange : (s.biasDac tile dac).change = none)
    (hstaged : (s.biasDac tile dac).staged = some j) (hspan : j.span = none) (st : Nat) :
    s.fireBias tile dac st =
      ((s.setBiasDac tile dac { s.biasDac tile dac with staged := none }).biasCode tile dac j.code).finishBias tile dac j st := by
  simp only [State.fireBias, hchange, hstaged, hspan]

theorem exec_biasTrigger {s : State} {tile dac : Nat} {j : BiasJob} (hchange : (s.biasDac tile dac).change = none)
    (hstaged : (s.biasDac tile dac).staged = some j) (hdue : (j.effAt : Int) + s.biasOffset tile ≤ s.now) :
    exec (.biasTrigger tile dac (s.get (Reg.TIL_BIAS_CFG_TRIG tile dac))) s = .next (s.fireBias tile dac St.done) := by
  show execBiasTrigger _ _ _ s = _
  simp [execBiasTrigger, hchange, hstaged, hdue]

theorem exec_biasTriggerTimeout {s : State} {tile dac : Nat} {j : BiasJob} (hchange : (s.biasDac tile dac).change = none)
    (hstaged : (s.biasDac tile dac).staged = some j) (hslot : s.atSlot = true) (htx : s.tileState tile ≠ 3)
    (hdue : j.effAt + 10000000 ≤ s.now) : exec (.biasTriggerTimeout tile dac) s = .next (s.fireBias tile dac St.donePartial) := by
  show execBiasTriggerTimeout _ _ s = _
  simp [execBiasTriggerTimeout, hchange, hstaged, hslot, htx, State.due, hdue]

theorem exec_biasSpanSwitch {s : State} {tile dac : Nat} {c : SpanChange} (hchange : (s.biasDac tile dac).change = some c)
    (hnew : c.switched = false) (hdue : c.start + 5000 ≤ s.now) :
    exec (.biasSpanSwitch tile dac) s = .next ((s.put (Reg.TIL_BIAS_CFG_SPAN tile dac) (c.job.span.getD 0)).setBiasDac tile dac
      { s.biasDac tile dac with change := some { c with switched := true } }) := by
  show execBiasSpanSwitch _ _ s = _
  simp [execBiasSpanSwitch, hchange, hnew, State.due, hdue]

/-- With the effective tick as trigger the code follows its span at once. -/
theorem exec_biasSafePhaseEnd {s : State} {tile dac : Nat} {c : SpanChange} (hchange : (s.biasDac tile dac).change = some c)
    (hswitched : c.switched = true) (hdue : c.start + 20000 ≤ s.now) (htrig : s.get (Reg.TIL_BIAS_CFG_TRIG tile dac) = 3) :
    let d := s.biasDac tile dac
    let u := s.setBiasDac tile dac { d with change := some { c with safeDone := true } }
    exec (.biasSafePhaseEnd tile dac) s = .next
      (((u.setBiasDac tile dac ⟨d.waiting, none, none, decide (s.tileState tile = 0)⟩).biasCode tile dac c.job.code).finishBias tile dac
        c.job St.done) := by
  intro d u
  have hu : u.get (Reg.TIL_BIAS_CFG_TRIG tile dac) = 3 := htrig
  have hd : u.biasDac tile dac = { d with change := some { c with safeDone := true } } := State.biasDac_setBiasDac _ _ _ _
  show execBiasSafePhaseEnd _ _ s = _
  have hrun : (s.due (c.start + 20000) && c.switched) = true := by simp [hswitched, State.due, hdue]
  simp only [execBiasSafePhaseEnd, hchange, if_pos hrun]
  show Host.Outcome.next (if u.get (Reg.TIL_BIAS_CFG_TRIG tile dac) = 3 then u.endSpanChange tile dac { c with safeDone := true } St.done else u) = _
  rw [if_pos hu, State.endSpanChange, hd]
  rfl

/-- Settles O18: a trigger, its time limit and the end of a span change each bring a code to its output as `BiasDone` says; the switch of
a span writes the span's field alone. -/
theorem biasCodesReachTheirOutputs : Obligations.BiasCodesReachTheirOutputs := by
  intro s tile dac hs htile hdac
  refine ⟨?trigger, ?timeout, ?spanSwitch, ?safePhaseEnd⟩
  case trigger =>
    intro edge j hedge hchange hstaged hspan _ hdue
    subst hedge
    have done := BiasDone.finish hs htile hdac { s.biasDac tile dac with staged := none } j St.done
    rw [← State.fireBias_staged hchange hstaged hspan] at done
    exact ⟨_, exec_biasTrigger hchange hstaged hdue, done.out, done.kept, done.readback⟩
  case timeout =>
    intro j hchange hstaged hspan _ hslot htx hdue
    have done := BiasDone.finish hs htile hdac { s.biasDac tile dac with staged := none } j St.donePartial
    rw [← State.fireBias_staged hchange hstaged hspan] at done
    exact ⟨_, exec_biasTriggerTimeout hchange hstaged hslot htx hdue, done.out, done.kept⟩
  case spanSwitch =>
    intro c hchange hnew hdue
    have hok : (Reg.TIL_BIAS_CFG_SPAN tile dac).ok := Nat.le_of_ble_eq_true rfl
    refine ⟨_, exec_biasSpanSwitch hchange hnew hdue, ?_, State.biasDac_setBiasDac _ _ _ _, fun f hf => ?_⟩
    · exact State.get_put hs _ _ hok
    · exact State.get_put_other hs _ _ _ hok hf.symm
  case safePhaseEnd =>
    intro c hchange hswitched hdue htrig _
    have done := BiasDone.finish (s := s.setBiasDac tile dac { s.biasDac tile dac with change := some { c with safeDone := true } }) hs htile hdac
      ⟨(s.biasDac tile dac).waiting, none, none, decide (s.tileState tile = 0)⟩ c.job St.done
    exact ⟨_, exec_biasSafePhaseEnd hchange hswitched hdue htrig, done.out, done.kept⟩

end Sys2Proof.Machine
end


section
/-! Overload episodes (R90, R91). -/
namespace Sys2Proof.Machine
open Sys2Proof

theorem exec_overloadEpisodeStart {s : State} {path : Nat} (hnone : s.rx.episodes.get? path = none) :
    exec (.overloadEpisodeStart path) s = .next
      ((((({ s with rx := { s.rx with episodes := s.rx.episodes.set path ⟨s.now, false⟩ } }.putTileBit (Reg.TIL_RX_OVL_LIVE (path / 8)) path
        true).putTileBit (Reg.TIL_RX_OVL_SEEN (path / 8)) path true)).add64 (Reg.TIL_RX_OVLCNT (path / 8)) 1).taintPath path (s.now + 1200)) := by
  show execOverloadEpisodeStart path s = _
  simp only [execOverloadEpisodeStart, Tab.has, hnone, Option.isSome_none, Bool.false_eq_true, if_false]
  rfl

@[simp] theorem State.taintPath_get (s : State) (p u : Nat) (f : Field) : (s.taintPath p u).get f = s.get f := rfl
@[simp] theorem State.taintPath_rd64 (s : State) (p u : Nat) (a : Nat) : (s.taintPath p u).rd64 a = s.rd64 a := rfl
@[simp] theorem State.taintPath_regs (s : State) (p u : Nat) : (s.taintPath p u).regs = s.regs := rfl

/-- The three registers of tile `n` that a new episode of path `p` writes. -/
theorem overloadShown {u : State} (hu : u.regs.wf = true) (n p : Nat) :
    let t := ((u.putTileBit (Reg.TIL_RX_OVL_LIVE n) p true).putTileBit (Reg.TIL_RX_OVL_SEEN n) p true).add64 (Reg.TIL_RX_OVLCNT n) 1
    bit (t.get (Reg.TIL_RX_OVL_LIVE n)) (p % 8) = true ∧ bit (t.get (Reg.TIL_RX_OVL_SEEN n)) (p % 8) = true ∧
      t.rd64 (Reg.TIL_RX_OVLCNT n) = (u.rd64 (Reg.TIL_RX_OVLCNT n) + 1) % 2 ^ 64 := by
  have hlive : (u.putTileBit (Reg.TIL_RX_OVL_LIVE n) p true).regs.wf = true := Sparse.write_wf _ _ hu
  have hseen := State.bit_putTileBit_same hlive (Reg.TIL_RX_OVL_SEEN n) p true (Nat.le_of_ble_eq_true rfl) rfl
  have hlive2 := State.bit_putTileBit_same hu (Reg.TIL_RX_OVL_LIVE n) p true (Nat.le_of_ble_eq_true rfl) rfl
  unfold State.putTileBit at *
  refine ⟨?_, ?_, ?_⟩
  · simp (disch := grind [Reg.TIL_RX_OVL_LIVE, Reg.TIL_RX_OVL_SEEN, Reg.TIL_RX_OVL, Reg.TIL_RX_OVLCNT, State.put_regs_wf]) only
      [State.add64, State.get_wr64_ne, State.get_put_apart, hlive2]
  · simp (disch := grind [Reg.TIL_RX_OVL_SEEN, Reg.TIL_RX_OVL, Reg.TIL_RX_OVLCNT, State.put_regs_wf]) only
      [State.add64, State.get_wr64_ne, hseen]
  · simp (disch := grind [Reg.TIL_RX_OVL_LIVE, Reg.TIL_RX_OVL_SEEN, Reg.TIL_RX_OVL, Reg.TIL_RX_OVLCNT, State.put_regs_wf]) only
      [State.add64, State.rd64_wr64_same, State.rd64_put_ne, Nat.mod_mod]

theorem overload_unrecorded : ∀ n < 8, recordField (Reg.TIL_RX_OVL_LIVE n) = false := by decide

/-- The end of an episode: what it leaves of its path and of the field that shows the live ones. -/
theorem exec_overloadEpisodeEnd {s : State} (hs : s.stored) {path : Nat} (hpath : path < 64) {e : Episode}
    (he : s.rx.episodes.get? path = some e) (length : Nat) :
    let u := { s with rx := { s.rx with episodes := s.rx.episodes.del path } }.putTileBit (Reg.TIL_RX_OVL_LIVE (path / 8)) path false
    ∃ t, exec (.overloadEpisodeEnd path length) s = .next t ∧ t.rx.episodes = s.rx.episodes.del path ∧
      t.get (Reg.TIL_RX_OVL_LIVE (path / 8)) = u.get (Reg.TIL_RX_OVL_LIVE (path / 8)) := by
  intro u
  have hu : u.stored := State.put_stored (s := { s with rx := _ }) _ _ hs
  show ∃ t, execOverloadEpisodeEnd path length s = _ ∧ _
  simp only [execOverloadEpisodeEnd, he]
  refine ⟨_, rfl, ?_, ?_⟩
  · rw [State.event_rx]
    split <;> rfl
  · have hrec := overload_unrecorded (path / 8) (by omega)
    split <;> simp [State.taintPath, State.putTileBit, hs.1, hs.2.1, hs.2.2, hrec, u]

/-- Settles O19: a new episode by its record and its three registers, the protection by its own rule, the end by the record it removes
and the bit it clears. -/
theorem overloadEpisodes : Obligations.OverloadEpisodes := by
  intro s path hs hpath
  refine ⟨?start, ?protect, ?stop⟩
  case start =>
    intro hnone
    refine ⟨_, exec_overloadEpisodeStart hnone, ?_, ?_⟩
    · exact (Tab.get?_set _ _ _ _).trans (if_pos rfl)
    · simp only [State.taintPath_get, State.taintPath_rd64]
      exact overloadShown (u := { s with rx := _ }) hs.1 (path / 8) path
  case protect =>
    intro e he hdue hfresh hon u
    show execOverloadProtect path s = _
    simp [execOverloadProtect, he, State.due, hdue, hfresh, hon, u]
  case stop =>
    intro e length he
    obtain ⟨t, ht, hepisodes, hlive⟩ := exec_overloadEpisodeEnd hs hpath he length
    refine ⟨t, ht, ?_, ?_⟩
    · rw [hepisodes, Tab.get?_del]
    · rw [hlive]
      exact State.bit_putTileBit_same (s := { s with rx := _ }) hs.1 _ path false (Nat.le_of_ble_eq_true rfl) rfl

end Sys2Proof.Machine
end


section
/-! Synchronisation of the decimators (R106, R108). -/
namespace Sys2Proof.Machine
open Sys2Proof

theorem exec_syncInEdge {s : State} (hpin : s.on Reg.TIM_SYNC_CTL_PIN_EN = true) :
    exec .syncInEdge s = .next (
      let u := (s.setF Reg.TIM_SYNC_STAT_PIN_SEEN).addSync ⟨refEdgeAfter s.now + s.get Reg.TIM_SYNC_CTL_SYNC_DLY, 0, none, false⟩
      if u.on Reg.TIM_SYNC_CTL_ONE_SHOT then u.put Reg.TIM_SYNC_CTL_PIN_EN 0 else u) := by
  show execSyncInEdge s = _
  simp only [execSyncInEdge, hpin, Bool.not_true, Bool.false_eq_true, if_false]

/-- A pin edge shows itself seen, and disables the pin in the one-shot mode. -/
theorem syncInEdge_fields {s : State} (hs : s.stored) (p : PendingSync) (hpin : s.on Reg.TIM_SYNC_CTL_PIN_EN = true) :
    let u := (s.setF Reg.TIM_SYNC_STAT_PIN_SEEN).addSync p
    let t := if u.on Reg.TIM_SYNC_CTL_ONE_SHOT then u.put Reg.TIM_SYNC_CTL_PIN_EN 0 else u
    t.get Reg.TIM_SYNC_STAT_PIN_SEEN = 1 ∧ t.get Reg.TIM_SYNC_CTL_PIN_EN = if s.on Reg.TIM_SYNC_CTL_ONE_SHOT then 0 else 1 := by
  intro u t
  have hu : u.regs.wf = true := Sparse.write_wf _ _ hs.1
  have hseen : u.get Reg.TIM_SYNC_STAT_PIN_SEEN = 1 := State.get_put_same hs.1 _ _ (by decide)
  have hshot : u.on Reg.TIM_SYNC_CTL_ONE_SHOT = s.on Reg.TIM_SYNC_CTL_ONE_SHOT :=
    State.on_put_apart hs.1 _ _ _ (by decide) (by decide)
  have hen : u.get Reg.TIM_SYNC_CTL_PIN_EN = 1 :=
    (State.get_put_apart hs.1 _ _ _ (by decide) (by decide)).trans (beq_iff_eq.mp hpin)
  simp only [t, hshot]
  split
  · rw [State.get_put_apart hu _ _ _ (by decide) (by decide), State.get_put_same hu _ _ (by decide)]
    exact ⟨hseen, rfl⟩
  · exact ⟨hseen, hen⟩

/-- Tainting paths changes what is kept of their taint alone. -/
theorem State.taintPaths_reads {β : Type} (s : State) (l : List Nat) (until_ : Nat) (g : State → β) (hg : ∀ u p, g (u.taintPath p until_) = g u) :
    g (s.each l fun s p => s.taintPath p until_) = g s := State.each_reads _ _ _ g hg

/-- The two fields a sync event that sets a new grid shows last. -/
theorem syncShown {u : State} (hu : u.regs.wf = true) (count : Nat) :
    let t := ((u.put Reg.TIM_SYNC_STAT_COUNT count).put Reg.TIM_SYNC_STAT_LAST_NOP 0).setF Reg.TIM_SYNC_STAT_SYNCED
    t.get Reg.TIM_SYNC_STAT_SYNCED = 1 ∧ t.get Reg.TIM_SYNC_STAT_COUNT = count % 2 ^ 16 := by
  have h1 : (u.put Reg.TIM_SYNC_STAT_COUNT count).regs.wf = true := Sparse.write_wf _ _ hu
  have h2 : ((u.put Reg.TIM_SYNC_STAT_COUNT count).put Reg.TIM_SYNC_STAT_LAST_NOP 0).regs.wf = true := Sparse.write_wf _ _ h1
  constructor
  · exact State.get_put_same h2 _ _ (by decide)
  · rw [State.setF, State.get_put_apart h2 _ _ _ (by decide) (by decide), State.get_put_apart h1 _ _ _ (by decide) (by decide),
      State.get_put_same hu _ _ (by decide)]
    rfl

/-- A sync event sets the grid and shows the device synchronised; it counts where the counters did not stand at zero on its edge. -/
theorem State.applySync_sets {s : State} (hs : s.stored) (edge : Nat) :
    (s.applySync edge).stored ∧ (s.applySync edge).rx.grid = some (edge % 2) ∧ (s.applySync edge).rx.syncs = s.rx.syncs ∧
      (s.applySync edge).get Reg.TIM_SYNC_STAT_SYNCED = 1 ∧ (s.applySync edge).get Reg.TIM_SYNC_STAT_COUNT =
        if s.rx.grid = some (edge % 2) then s.get Reg.TIM_SYNC_STAT_COUNT else (s.get Reg.TIM_SYNC_STAT_COUNT + 1) % 2 ^ 16 := by
  unfold State.applySync
  split
  next hgrid =>
    refine ⟨State.put_stored _ _ (State.put_stored _ _ hs), hgrid, rfl, ?_, ?_⟩
    · exact State.get_put_same (Sparse.write_wf _ _ hs.1) _ _ (by decide)
    · exact (State.get_put_apart (Sparse.write_wf _ _ hs.1) _ _ _ (by decide) (by decide)).trans
        (State.get_put_apart hs.1 _ _ _ (by decide) (by decide))
  next hgrid =>
    dsimp only
    have hshown := syncShown (u := { s with rx := { s.rx with grid := some (edge % 2) } }) hs.1 (s.get Reg.TIM_SYNC_STAT_COUNT + 1)
    refine ⟨?_, ?_, ?_, ?_, ?_⟩
    · rw [State.taintPaths_reads _ _ _ State.stored fun _ _ => rfl]
      exact State.put_stored _ _ (State.put_stored _ _ (State.put_stored _ _ hs))
    · rw [State.taintPaths_reads _ _ _ (·.rx.grid) fun _ _ => rfl]
      rfl
    · rw [State.taintPaths_reads _ _ _ (·.rx.syncs) fun _ _ => rfl]
      rfl
    · rw [State.taintPaths_reads _ _ _ (·.get Reg.TIM_SYNC_STAT_SYNCED) fun _ _ => rfl]
      exact hshown.1
    · rw [State.taintPaths_reads _ _ _ (·.get Reg.TIM_SYNC_STAT_COUNT) fun _ _ => rfl]
      exact hshown.2

theorem State.syncRecord_reports (s : State) (nop : Bool) (source missing edge : Nat) : Reports s (s.syncRecord nop source missing edge) :=
  State.event_reports _ _ _ _

/-- The one event that is due, from a pin, is applied and recorded. -/
theorem exec_syncEvent {s : State} {p : PendingSync} (hone : s.rx.syncs = [p]) (hdue : refEdgeNs p.edge ≤ s.now) (hpin : p.hdr = none)
    (hpanel : p.panel = false) :
    exec .syncEvent s = .next (({ s with rx := { s.rx with syncs := [] } }.applySync p.edge).syncRecord (s.rx.grid == some (p.edge % 2))
      p.source 0 (refEdgeNs p.edge)) := by
  show execSyncEvent s = _
  simp [execSyncEvent, hone, State.due, hdue, hpin, hpanel, State.when]

theorem exec_syncConfirmTimeout {s : State} {c : PanelConfirm} (hc : s.rx.confirm = some c) (hdue : c.deadline ≤ s.now) :
    exec .syncConfirmTimeout s = .next (s.endPanelSync c) := by
  show execSyncConfirmTimeout s = _
  simp [execSyncConfirmTimeout, hc, State.due, hdue]

/-- The panel's confirmation is gone, and members that did not confirm are shown missing. -/
theorem State.endPanelSync_sets {s : State} (hs : s.stored) (c : PanelConfirm) :
    (s.endPanelSync c).rx = { s.rx with confirm := none } ∧
      (s.endPanelSync c).get Reg.TIM_SYNC_STAT_MISS = if c.missing = 0 then s.get Reg.TIM_SYNC_STAT_MISS else 1 := by
  have hrec : recordField Reg.TIM_SYNC_STAT_MISS = false := by decide
  have hu : { s with rx := { s.rx with confirm := none } }.stored := hs
  unfold State.endPanelSync
  dsimp only
  have hreport := State.syncRecord_reports { s with rx := { s.rx with confirm := none } } c.nop 1 c.missing c.edgeAt
  generalize { s with rx := { s.rx with confirm := none } }.syncRecord c.nop 1 c.missing c.edgeAt = v at hreport ⊢
  have hv := hreport.stored hu
  split
  next hall =>
    have h := hreport.complete c.hdr 0x32 St.done
    exact ⟨h.rx, h.fields hu _ hrec⟩
  next hmissing =>
    have h := State.complete_reports (v.setF Reg.TIM_SYNC_STAT_MISS) c.hdr 0x32 St.donePartial
    refine ⟨h.rx.trans hreport.rx, (h.fields (State.setF_stored _ hv) _ hrec).trans ?_⟩
    exact State.get_put_same hv.1 _ _ (by decide)

/-- Settles O20: an edge is queued and shown, the event that is due sets the grid, the confirmation ends. That the counter stands still where
the counters stood at zero on the event's edge is the model's choice (assumption 25). -/
theorem syncEventsSetTheGrid : Obligations.SyncEventsSetTheGrid := by
  intro s hs
  refine ⟨?pin, ?event, ?timeout⟩
  case pin =>
    intro hpin
    refine ⟨_, exec_syncInEdge hpin, ?_, syncInEdge_fields hs _ hpin⟩
    dsimp only
    split <;> rfl
  case event =>
    intro p hone hdue hpin hpanel
    let u := { s with rx := { s.rx with syncs := [] } }
    obtain ⟨hstored, hgrid, hsyncs, hsynced, hcount⟩ := State.applySync_sets (s := u) hs p.edge
    have hreport := State.syncRecord_reports (u.applySync p.edge) (s.rx.grid == some (p.edge % 2)) p.source 0 (refEdgeNs p.edge)
    refine ⟨_, exec_syncEvent hone hdue hpin hpanel, ?_, ?_, ?_, ?_⟩
    · exact (congrArg RxState.syncs hreport.rx).trans hsyncs
    · exact (congrArg RxState.grid hreport.rx).trans hgrid
    · exact (hreport.fields hstored _ (by decide)).trans hsynced
    · exact (hreport.fields hstored _ (by decide)).trans hcount
  case timeout =>
    intro c hc hdue _
    exact ⟨_, exec_syncConfirmTimeout hc hdue, State.endPanelSync_sets hs c⟩

end Sys2Proof.Machine
end


section
/-! Timed commands in the timed store (R24, R364, R365). -/
namespace Sys2Proof.Machine
open Sys2Proof

/-- A timed command that passes its checks and is then only kept waits in the timed store. -/
theorem State.TakesTimed.held {s : State} {h : Hdr} (g : s.TakesTimed h) (hs : s.stored) {fields : Option Nat} (hfields : fields = none) (op : Nat)
    (c : Cmd) : ∃ t, (.next (s.acceptTimed h op c fields true) : Res) = .next t ∧ HeldIn s t h c := by
  subst hfields
  exact ⟨_, congrArg _ (g.acceptTimedK op _), State.hold_heldIn hs h c⟩

/-- The same where what keeps the command chooses, and chooses to hold it. -/
theorem State.TakesTimed.heldBy {s : State} {h : Hdr} (g : s.TakesTimed h) {u : State} (hu : u.stored) {fields : Option Nat}
    (hfields : fields = none) (op : Nat) (c : Cmd) {keep : State → State} (hkeep : keep s = u.hold h c true) :
    ∃ t, (.next (s.acceptTimedK h op fields keep) : Res) = .next t ∧ HeldIn u t h c := by
  subst hfields
  exact ⟨_, congrArg _ ((g.acceptTimedK op keep).trans hkeep), State.hold_heldIn hu h c⟩

theorem State.sendPanelSync_stored {s : State} (hs : s.stored) (h : Hdr) : (s.sendPanelSync h).stored :=
  (State.sendPanelSync_keeps s h (.refl s)).mem hs

/-- Settles O8: each command's own keeping, where it chooses, chooses the store. That `RCT_PATTERN` reads its codes at the fetch is the model's
choice (assumption 38). -/
theorem timedCommandsWaitInTheStore : Obligations.TimedCommandsWaitInTheStore := by
  intro s h hs g
  refine ⟨?txCarrier, ?txTile, ?biasSet, ?ddsTone, ?dpdSwap, ?rxCarrier, ?rxExtract, ?rxSync, ?panelSync, ?bfLayers, ?beamSwap, ?covSetup,
    ?acdOccasion, ?foReport, ?rctPattern, ?tileState, ?rffeXfer, ?synRecal, ?fhCarrier, ?coopSet, ?otaCal⟩
  case txCarrier => exact fun c hc => g.held hs hc _ _
  case txTile => exact fun c hc => g.held hs hc _ _
  case biasSet => exact fun c hc => g.held hs hc _ _
  case ddsTone => exact fun c hc => g.held hs hc _ _
  case dpdSwap => exact fun tile mask fade hc hfading => g.heldBy hs hc _ _ (by simp [hfading])
  case rxCarrier => exact fun c hc => g.held hs hc _ _
  case rxExtract => exact fun c hc => g.held hs hc _ _
  case rxSync => exact g.heldBy hs rfl _ _ (by simp [State.when])
  case panelSync =>
    intro hearly
    exact g.heldBy (State.sendPanelSync_stored hs h) rfl _ _ (by simp [State.when, not_lt.mpr hearly])
  case bfLayers => exact fun carrier uplink layers ulShift prio hc => g.held hs hc _ _
  case beamSwap => exact fun blend hc hidle => g.heldBy hs hc _ _ (by simp [hidle])
  case covSetup => exact fun c hc => g.held hs hc _ _
  case acdOccasion => exact fun c hc => g.held hs hc _ _
  case foReport => exact fun c hc => g.held hs hc _ _
  case rctPattern => exact fun pattern mask period addr hc => g.heldBy hs hc _ _ rfl
  case tileState => exact fun mask target hc => g.held hs hc _ _
  case rffeXfer =>
    intro c hc htiming
    have hlater : c.timing ≠ 0 := by omega
    have hbus : (decide (c.timing = 1) && decide (s.tickStart (s.effAbs h) < s.airNs + s.rffeBus c)) = false := by
      rcases htiming with h2 | ⟨_, hfits⟩
      · simp [h2]
      · simp [not_lt.mpr hfits]
    obtain ⟨t, ht, hheld⟩ := g.heldBy hs hc 0x54 (.rffeXfer c) (keep := fun s =>
      if c.timing = 1 && decide (s.tickStart (s.effAbs h) < s.airNs + s.rffeBus c) then s.completeR h 0x54 St.late s.lateResult
      else s.hold h (.rffeXfer c) true) (by simp only [hbus, Bool.false_eq_true, if_false])
    exact ⟨t, (congrArg Host.Outcome.next (if_neg hlater)).trans ht, hheld⟩
  case synRecal => exact g.held hs rfl _ _
  case fhCarrier => exact fun c hc => g.held hs hc _ _
  case coopSet => exact fun c hc => g.held hs hc _ _
  case otaCal => exact fun c hc => g.held hs hc _ _

end Sys2Proof.Machine
end


section
/-! Records in their rings (R355, R361, R366, R371). -/
namespace Sys2Proof.Machine
open Sys2Proof

/-! ## Bytes written and read again -/

theorem Memory.readBytes_eq_map (m : Memory) (a n : Nat) : m.readBytes a n = (List.range n).map fun i => (Sparse.read m (a + i)).toNat := by
  induction n generalizing a with
  | zero => rfl
  | succ n ih =>
    rw [Memory.readBytes, ih, List.range_succ_eq_map, List.map_cons, List.map_map]
    congr 1
    refine List.map_congr_left fun i _ => ?_
    simp [Function.comp, Nat.add_assoc, Nat.add_comm 1 i]

theorem Memory.readBytes_writeBytes {m : Memory} (hm : Sparse.wf m = true) (a : Nat) (l : List Nat) :
    (m.writeBytes a l).readBytes a l.length = l.map (· % 256) := by
  rw [Memory.readBytes_eq_map]
  refine List.ext_getElem (by simp) fun i h1 h2 => ?_
  have hi : i < l.length := by simpa using h2
  simp [Memory.read_writeBytes l a i hm hi, hi]

/-! ## Positions -/

theorem State.ringN_le (s : State) (r : Nat) : s.ringN r ≤ 2 ^ 15 := by
  have h : s.get (Reg.HRG_RING_CFG_LOG2SIZE r) < 2 ^ 4 := Nat.mod_lt _ (show 0 < 2 ^ 4 by decide)
  exact Nat.pow_le_pow_right (by decide) (by omega)

theorem State.ringN_pos (s : State) (r : Nat) : 0 < s.ringN r := Nat.pow_pos (by decide)

/-- The position of a ring is kept in one register, away from the ring's size. -/
theorem State.setRingPos_ringN {s : State} (hs : s.stored) (r x : Nat) : (s.setRingPos r x).ringN r = s.ringN r := by
  have hsep : Reg.HRG_RING_STAT r ≠ Reg.HRG_RING_CFG r := by simp only [Reg.HRG_RING_STAT, Reg.HRG_RING_CFG]; omega
  unfold State.setRingPos State.ringN
  rw [State.get_put_other (State.put_stored _ _ hs) _ _ _ (Nat.le_of_ble_eq_true rfl) (.inl hsep),
    State.get_put_other hs _ _ _ (Nat.le_of_ble_eq_true rfl) (.inl hsep)]

theorem State.setRingPos_shown {s : State} (hs : s.stored) (r : Nat) {x : Nat} (hx : x < 2 * s.ringN r) :
    (s.setRingPos r x).get (Reg.HRG_RING_STAT_POS r) = x % s.ringN r ∧ (s.setRingPos r x).get (Reg.HRG_RING_STAT_POS_PHASE r) = x / s.ringN r := by
  have hn := s.ringN_le r
  have hpos : x % s.ringN r < 2 ^ 16 := lt_of_lt_of_le (Nat.mod_lt _ (s.ringN_pos r)) (by omega)
  have hphase : x / s.ringN r < 2 := Nat.div_lt_of_lt_mul (by omega)
  have hs1 := State.put_stored (Reg.HRG_RING_STAT_POS r) (x % s.ringN r) hs
  constructor
  · rw [State.setRingPos, State.get_put_other hs1 _ _ _ (Nat.le_of_ble_eq_true rfl) (.inr (.inr (Nat.le_of_ble_eq_true rfl))),
      State.get_put hs _ _ (Nat.le_of_ble_eq_true rfl)]
    exact Nat.mod_eq_of_lt hpos
  · rw [State.setRingPos, State.get_put hs1 _ _ (Nat.le_of_ble_eq_true rfl)]
    exact (Nat.mod_mod _ 2).trans (Nat.mod_eq_of_lt hphase)

theorem State.setRingPos_ringPos {s : State} (hs : s.stored) (r : Nat) {x : Nat} (hx : x < 2 * s.ringN r) :
    (s.setRingPos r x).ringPos r = x := by
  obtain ⟨hpos, hphase⟩ := State.setRingPos_shown hs r hx
  rw [State.ringPos, State.setRingPos_ringN hs, hpos, hphase, Nat.mul_comm, Nat.div_add_mod]

/-! ## A record is pushed -/

theorem State.ring_fields_apart (r : Nat) : Reg.HRG_RING_STAT r ≠ Reg.HRG_RING_CNT r ∧ Reg.HRG_RING_STAT r ≠ Reg.HRG_RING_CNT r + 4 ∧
    Reg.HRG_RING_CFG r ≠ Reg.HRG_RING_CNT r ∧ Reg.HRG_RING_CFG r ≠ Reg.HRG_RING_CNT r + 4 := by
  simp only [Reg.HRG_RING_STAT, Reg.HRG_RING_CNT, Reg.HRG_RING_CFG]
  omega

/-- Counting a record leaves a ring's position. -/
theorem State.ringCount_ringPos {s : State} (hs : s.stored) (r n : Nat) : (s.add64 (Reg.HRG_RING_CNT r) n).ringPos r = s.ringPos r := by
  obtain ⟨h1, h2, h3, h4⟩ := State.ring_fields_apart r
  unfold State.ringPos State.ringN State.add64
  rw [State.get_wr64_other hs _ _ (Reg.HRG_RING_STAT_POS_PHASE r) h1 h2, State.get_wr64_other hs _ _ (Reg.HRG_RING_STAT_POS r) h1 h2,
    State.get_wr64_other hs _ _ (Reg.HRG_RING_CFG_LOG2SIZE r) h3 h4]

theorem State.setRingPos_count {s : State} (hs : s.stored) (r x : Nat) :
    (s.setRingPos r x).rd64 (Reg.HRG_RING_CNT r) = s.rd64 (Reg.HRG_RING_CNT r) := by
  obtain ⟨h1, h2, _, _⟩ := State.ring_fields_apart r
  unfold State.setRingPos
  rw [State.rd64_put_ne (State.put_stored _ _ hs).1 _ _ h1.symm h2.symm, State.rd64_put_ne hs.1 _ _ h1.symm h2.symm]

theorem State.ring_of_host {s t : State} (h : t.host = s.host) (r : Nat) : t.ring r = s.ring r := by rw [State.ring, h, State.ring]

theorem State.modRing_ringPos (s : State) (r : Nat) (f : RingState → RingState) (k : Nat) : (s.modRing r f).ringPos k = s.ringPos k := rfl

/-- What stands after a record of 32 bytes was pushed on ring `r`. -/
structure Pushed (s t : State) (r : Nat) (rec : Nat → Nat → List Nat) : Prop where
  bytes : t.hostRead (s.ringSlot r 32) 32 = (rec (s.ringPos r / s.ringN r % 2) (s.ring r).seq).map (· % 256)
  pos : t.ringPos r = (s.ringPos r + 1) % (2 * s.ringN r)
  seq : (t.ring r).seq = ((s.ring r).seq + 1) % 2 ^ 32
  count : t.rd64 (Reg.HRG_RING_CNT r) = (s.rd64 (Reg.HRG_RING_CNT r) + 1) % 2 ^ 64
  mem : ∀ a, a < s.ringSlot r 32 ∨ s.ringSlot r 32 + 32 ≤ a → t.hostMem.read a = s.hostMem.read a

theorem State.ringPush_pushed {s : State} (hs : s.stored) (r : Nat) {rec : Nat → Nat → List Nat} (hlen : ∀ p q, (rec p q).length = 32) :
    Pushed s (s.ringPush r rec) r rec := by
  let u := s.hostWrite (s.ringSlot r 32) (rec (s.ringPos r / s.ringN r % 2) (s.ring r).seq)
  let y := (s.ringPos r + 1) % (2 * s.ringN r)
  have hu : u.stored := State.hostWrite_stored _ _ hs
  have hv : (u.setRingPos r y).stored := State.put_stored _ _ (State.put_stored _ _ hu)
  have hy : y < 2 * s.ringN r := Nat.mod_lt _ (by have := s.ringN_pos r; omega)
  refine ⟨?bytes, ?pos, ?seq, ?count, fun a ha => ?mem⟩
  case bytes =>
    have h := Memory.readBytes_writeBytes hs.2.1 (s.ringSlot r 32) (rec (s.ringPos r / s.ringN r % 2) (s.ring r).seq)
    rwa [hlen] at h
  case pos =>
    unfold State.ringPush
    rw [State.modRing_ringPos, State.ringCount_ringPos, State.setRingPos_ringPos]
    · exact hu
    · exact hy
    · exact hv
  case seq =>
    unfold State.ringPush
    rw [State.ring_modRing, if_pos rfl]
    dsimp only
    rw [State.ring_of_host (s := s) (t := State.add64 (State.setRingPos (State.hostWrite s _ _) _ _) _ _) rfl]
  case count =>
    unfold State.ringPush
    rw [State.modRing_rd64, State.add64, State.rd64_wr64, State.setRingPos_count, Nat.mod_mod, State.hostWrite_rd64]
    · exact hu
    · exact hv
  case mem => exact Memory.read_writeBytes_outside _ _ _ hs.2.1 (by rw [hlen]; exact ha)

/-- A completion goes to its ring where that is enabled, reached, with a free slot and no older completion held. -/
theorem State.writeCompletion_pushes {s : State} {r : Nat} (c : Completion) (hon : s.ringOn r = true) (hup : s.hostUp = true)
    (hfree : s.ringFree r ≠ 0) (hfirst : s.host.heldCompletions.any (fun (e : Nat × Completion) => e.1 == r) = false) :
    s.writeCompletion r c = s.pushCompletion r c := by
  simp [State.writeCompletion, hon, hup, hfree, hfirst]

theorem State.writeCompletion_holds {s : State} {r : Nat} (c : Completion) (hon : s.ringOn r = true) (hfull : s.ringFree r = 0) :
    s.writeCompletion r c = { s with host := { s.host with heldCompletions := s.host.heldCompletions ++ [(r, c)] } } := by
  simp [State.writeCompletion, hon, hfull]

/-- Settles O7: a push by `Pushed`, a completion by its two ways. That a completion waits where its ring is full is deduced (assumption 127);
where a ring's position stands is the model's choice (assumption 168). -/
theorem recordsReachTheirRings : Obligations.RecordsReachTheirRings := by
  intro s r hs _ _ x n
  refine ⟨fun rec hlen => ?push, fun c hon hup hfree hfirst => ?complete, fun c hon _ hfull => ?held⟩
  case push =>
    have h := State.ringPush_pushed hs r hlen
    exact ⟨h.bytes, h.pos, h.seq, h.count, h.mem⟩
  case complete => exact State.writeCompletion_pushes c hon hup hfree hfirst
  case held => exact State.writeCompletion_holds c hon hfull

end Sys2Proof.Machine
end


section
/-! SUPPORT. Event records leave the submission and completion rings, and the completions held, as they are: their rings are 48 and up. -/
namespace Sys2Proof.Machine
open Sys2Proof

/-- The submission and completion rings stand where they stood, with the same completions held. -/
structure RingsKept (s t : State) : Prop where
  ring : ∀ k < 48, t.ring k = s.ring k
  held : t.host.heldCompletions = s.host.heldCompletions
  stored : s.stored → t.stored
  shown : s.stored → ∀ k < 48, t.get (Reg.HRG_RING_STAT_POS k) = s.get (Reg.HRG_RING_STAT_POS k) ∧
    t.get (Reg.HRG_RING_STAT_POS_PHASE k) = s.get (Reg.HRG_RING_STAT_POS_PHASE k) ∧
    t.get (Reg.HRG_RING_CFG_LOG2SIZE k) = s.get (Reg.HRG_RING_CFG_LOG2SIZE k)

theorem RingsKept.size {s t : State} (h : RingsKept s t) (hs : s.stored) {k : Nat} (hk : k < 48) : t.ringN k = s.ringN k := by
  rw [State.ringN, (h.shown hs k hk).2.2, State.ringN]

theorem RingsKept.pos {s t : State} (h : RingsKept s t) (hs : s.stored) {k : Nat} (hk : k < 48) : t.ringPos k = s.ringPos k := by
  obtain ⟨hpos, hphase, _⟩ := h.shown hs k hk
  rw [State.ringPos, h.size hs hk, hpos, hphase, State.ringPos]

theorem RingsKept.refl (s : State) : RingsKept s s := ⟨fun _ _ => rfl, rfl, id, fun _ _ _ => ⟨rfl, rfl, rfl⟩⟩

theorem RingsKept.trans {s t u : State} (h : RingsKept s t) (g : RingsKept t u) : RingsKept s u :=
  ⟨fun k hk => (g.ring k hk).trans (h.ring k hk), g.held.trans h.held, fun hs => g.stored (h.stored hs),
    fun hs k hk =>
      have ⟨g1, g2, g3⟩ := g.shown (h.stored hs) k hk
      have ⟨h1, h2, h3⟩ := h.shown hs k hk
      ⟨g1.trans h1, g2.trans h2, g3.trans h3⟩⟩

theorem RingsKept.ite {s t u : State} {c : Prop} [Decidable c] (h : RingsKept s t) (g : RingsKept s u) : RingsKept s (if c then t else u) := by
  split <;> assumption

/-- A change outside the registers that leaves these rings and the held completions. -/
theorem RingsKept.of_regs {s t : State} (hregs : t.regs = s.regs) (hstored : s.stored → t.stored)
    (hring : ∀ k < 48, t.ring k = s.ring k) (hheld : t.host.heldCompletions = s.host.heldCompletions) : RingsKept s t := by
  refine ⟨hring, hheld, hstored, fun _ k _ => ?_⟩
  unfold State.get State.rd
  rw [hregs]
  exact ⟨rfl, rfl, rfl⟩

/-- A write to a field that shows none of these rings' positions and sizes. -/
theorem State.put_ringsKept (s : State) (f : Field) (v : Nat) (hf : f.ok)
    (hpos : ∀ k < 48, f.apart (Reg.HRG_RING_STAT_POS k) ∧ f.apart (Reg.HRG_RING_STAT_POS_PHASE k) ∧ f.apart (Reg.HRG_RING_CFG_LOG2SIZE k)) :
    RingsKept s (s.put f v) := by
  refine ⟨fun _ _ => rfl, rfl, State.put_stored _ _, fun hs k hk => ?_⟩
  obtain ⟨h1, h2, h3⟩ := hpos k hk
  exact ⟨State.get_put_other hs _ _ _ hf h1, State.get_put_other hs _ _ _ hf h2, State.get_put_other hs _ _ _ hf h3⟩

theorem State.ringState_ringsKept (s : State) (r x : Nat) : RingsKept s (s.put (Reg.HRG_RING_STAT_STATE r) x) := by
  refine State.put_ringsKept s _ _ (Nat.le_of_ble_eq_true rfl) fun k _ => ⟨?_, ?_, .inl ?_⟩
  · exact .inr (.inr (Nat.le_of_ble_eq_true rfl))
  · exact .inr (.inr (Nat.le_of_ble_eq_true rfl))
  · simp only [Reg.HRG_RING_STAT_STATE, Reg.HRG_RING_CFG_LOG2SIZE, Reg.HRG_RING_STAT, Reg.HRG_RING_CFG]
    omega

theorem State.setRingPos_ringsKept (s : State) {r : Nat} (h : 48 ≤ r) (x : Nat) : RingsKept s (s.setRingPos r x) := by
  have hsep : ∀ k < 48, Reg.HRG_RING_STAT r ≠ Reg.HRG_RING_STAT k ∧ Reg.HRG_RING_STAT r ≠ Reg.HRG_RING_CFG k := by
    intro k hk
    simp only [Reg.HRG_RING_STAT, Reg.HRG_RING_CFG]
    omega
  have hput (u : State) (f : Field) (v : Nat) (hreg : f.reg = Reg.HRG_RING_STAT r) (hf : f.ok) : RingsKept u (u.put f v) := by
    refine State.put_ringsKept u f v hf fun k hk => ?_
    obtain ⟨h1, h2⟩ := hsep k hk
    exact ⟨.inl (hreg ▸ h1), .inl (hreg ▸ h1), .inl (hreg ▸ h2)⟩
  exact (hput s _ _ rfl (Nat.le_of_ble_eq_true rfl)).trans (hput _ _ _ rfl (Nat.le_of_ble_eq_true rfl))

theorem State.ringCount_ringsKept (s : State) (r n : Nat) : RingsKept s (s.add64 (Reg.HRG_RING_CNT r) n) := by
  refine ⟨fun _ _ => rfl, rfl, State.add64_stored _ _, fun hs k _ => ?_⟩
  have hsep : Reg.HRG_RING_STAT k ≠ Reg.HRG_RING_CNT r ∧ Reg.HRG_RING_STAT k ≠ Reg.HRG_RING_CNT r + 4 ∧
      Reg.HRG_RING_CFG k ≠ Reg.HRG_RING_CNT r ∧ Reg.HRG_RING_CFG k ≠ Reg.HRG_RING_CNT r + 4 := by
    simp only [Reg.HRG_RING_STAT, Reg.HRG_RING_CFG, Reg.HRG_RING_CNT]
    omega
  obtain ⟨h1, h2, h3, h4⟩ := hsep
  exact ⟨State.get_wr64_other hs _ _ _ h1 h2, State.get_wr64_other hs _ _ _ h1 h2, State.get_wr64_other hs _ _ _ h3 h4⟩

theorem State.modRing_ringsKept (s : State) {r : Nat} (h : 48 ≤ r) (f : RingState → RingState) : RingsKept s (s.modRing r f) :=
  .of_regs rfl id (fun k hk => (State.ring_modRing s r f k).trans (if_neg (by omega))) rfl

theorem State.hostWrite_ringsKept (s : State) (a : Nat) (l : List Nat) : RingsKept s (s.hostWrite a l) :=
  .of_regs rfl (State.hostWrite_stored _ _) (fun _ _ => rfl) rfl

theorem State.ringPush_ringsKept (s : State) {r : Nat} (h : 48 ≤ r) (rec : Nat → Nat → List Nat) : RingsKept s (s.ringPush r rec) := by
  unfold State.ringPush
  exact (((State.hostWrite_ringsKept s _ _).trans (State.setRingPos_ringsKept _ h _)).trans (State.ringCount_ringsKept _ _ _)).trans
    (State.modRing_ringsKept _ h _)

/-- A write to a field of another block. -/
theorem State.put_elsewhere_ringsKept (s : State) (f : Field) (v : Nat) (hf : f.ok) (h : f.reg < 0x081000 ∨ 0x081800 ≤ f.reg) :
    RingsKept s (s.put f v) := by
  refine State.put_ringsKept s f v hf fun k hk => ?_
  have h1 : f.reg ≠ Reg.HRG_RING_STAT k ∧ f.reg ≠ Reg.HRG_RING_CFG k := by
    simp only [Reg.HRG_RING_STAT, Reg.HRG_RING_CFG]
    omega
  exact ⟨.inl h1.1, .inl h1.1, .inl h1.2⟩

theorem State.flushLost_ringsKept (s : State) {r : Nat} (h : 48 ≤ r) : RingsKept s (s.flushLost r) := by
  unfold State.flushLost
  exact .ite ((State.ringPush_ringsKept _ h _).trans (State.modRing_ringsKept _ h _)) (.refl _)

theorem State.eventToRing_ringsKept (s : State) {r : Nat} (h : 48 ≤ r) (e : EventRec) : RingsKept s (s.eventToRing r e) := by
  unfold State.eventToRing
  refine (State.flushLost_ringsKept s h).trans (.ite (State.ringPush_ringsKept _ h _) ?_)
  exact (State.modRing_ringsKept _ h _).trans (State.put_elsewhere_ringsKept _ _ _ (by decide) (by decide))

theorem State.keepEvent_ringsKept (s : State) (r : Nat) (e : EventRec) : RingsKept s (s.keepEvent r e) := by
  unfold State.keepEvent
  exact .ite (.of_regs rfl id (fun _ _ => rfl) rfl) (.of_regs rfl id (fun _ _ => rfl) rfl)

theorem State.logEvent_ringsKept (s : State) (e : EventRec) : RingsKept s (s.logEvent e) := by
  have hflt (u : State) (f : FltState) : RingsKept u { u with flt := f } := .of_regs rfl id (fun _ _ => rfl) rfl
  have hput (u : State) (f : Field) (v : Nat) (hf : f.ok) (h : f.reg < 0x081000 ∨ 0x081800 ≤ f.reg) := State.put_elsewhere_ringsKept u f v hf h
  unfold State.logEvent State.when
  refine .ite ?held (.ite (hflt s _) ?logged)
  case held => exact ((hflt s _).trans (hput _ _ _ (by decide) (by decide))).trans (.ite (hput _ _ _ (by decide) (by decide)) (.refl _))
  case logged => exact ((hflt s _).trans (hput _ _ _ (by decide) (by decide))).trans (.ite (hput _ _ _ (by decide) (by decide)) (.refl _))

theorem State.putEvent_ringsKept (s : State) (time src code : Nat) (args : List Nat) : RingsKept s (s.putEvent time src code args) := by
  unfold State.putEvent
  dsimp only
  have hring (e : EventRec) : RingsKept s (if s.canWriteRing (s.eventRing src) then s.eventToRing (s.eventRing src) e
      else s.keepEvent (s.eventRing src) e) :=
    .ite (State.eventToRing_ringsKept s (Nat.le_add_right 48 _) _) (State.keepEvent_ringsKept s _ _)
  have hlog (e : EventRec) := (hring e).trans (State.logEvent_ringsKept _ e)
  have hlogged := hlog ⟨time % 2 ^ 64, src, code, fit 16 args⟩
  generalize State.logEvent _ _ = u at hlogged ⊢
  refine hlogged.trans (.ite ?_ ?_) <;> exact .of_regs rfl id (fun _ _ => rfl) rfl

theorem State.eventAt_ringsKept (s : State) (time src code : Nat) (args : List Nat) : RingsKept s (s.eventAt time src code args) := by
  unfold State.eventAt State.when
  dsimp only
  have hfirst := State.putEvent_ringsKept s time src code args
  generalize s.putEvent time src code args = u at hfirst ⊢
  have hlog (b : Bool) : RingsKept s (if b then u.logState 0 0 else u) := .ite (hfirst.trans (State.putEvent_ringsKept _ _ _ _ _)) hfirst
  have hsecond := hlog (!s.on Reg.FLT_STAT_LOG_STOPPED && u.on Reg.FLT_STAT_LOG_STOPPED)
  generalize (if (!s.on Reg.FLT_STAT_LOG_STOPPED && u.on Reg.FLT_STAT_LOG_STOPPED) = true then u.logState 0 0 else u) = v at hsecond ⊢
  have hskip : RingsKept v { v with flt := { v.flt with logSkipped := 0 } } := .of_regs rfl id (fun _ _ => rfl) rfl
  exact .ite ((hsecond.trans hskip).trans (State.putEvent_ringsKept _ _ _ _ _)) hsecond

theorem State.event_ringsKept (s : State) (src code : Nat) (args : List Nat) : RingsKept s (s.event src code args) :=
  State.eventAt_ringsKept _ _ _ _ _

theorem State.setRingState_ringsKept (s : State) (r new : Nat) : RingsKept s (s.setRingState r new) := by
  unfold State.setRingState State.when
  exact .ite (.refl _) ((State.ringState_ringsKept _ _ _).trans (.ite (State.event_ringsKept _ _ _ _) (.refl _)))

theorem State.refreshRing_ringsKept (s : State) (r : Nat) : RingsKept s (s.refreshRing r) := State.setRingState_ringsKept _ _ _

end Sys2Proof.Machine
end


section
/-! Doorbells, and rings enabled and disabled (R353 to R356, R550). -/
namespace Sys2Proof.Machine
open Sys2Proof

/-! ## Doorbells -/

/-- Leaving STALLED makes the ring's next read due, and may show another state. -/
theorem State.unstall_kept (s : State) (r : Nat) :
    RingsKept (s.modRing r fun q => { q with retries := 0, retryAt := s.now }) (s.unstall r) := by
  unfold State.unstall
  exact .ite (State.setRingState_ringsKept _ _ _) (.refl _)

/-- A reached doorbell of a ring that is on. -/
theorem exec_doorbell {s : State} {r : Nat} (hreached : s.doorbellReached r = true) (value size : Nat) :
    exec (.doorbell r value size) s = .next (s.doorbellWrite r value size) := congrArg _ (if_pos hreached)

theorem exec_kick {s : State} {r : Nat} (hreached : s.doorbellReached r = true) (value size : Nat) :
    exec (.kick r value size) s = .next (s.doorbellWrite r (putBit value 31 true) size) := congrArg _ (if_pos hreached)

theorem exec_headDoorbell {s : State} {r : Nat} (hreached : s.doorbellReached r = true) (value size : Nat) :
    exec (.headDoorbell r value size) s = .next (s.doorbellWrite r value size) := congrArg _ (if_pos hreached)

section
variable {s : State} {r value : Nat} (hready : s.on Reg.HRG_STAT_READY = true)
include hready

theorem State.doorbellWrite_size {size : Nat} (hsize : size ≠ 4) : s.doorbellWrite r value size = s.doorbellError r 1 value := by
  simp [State.doorbellWrite, hready, hsize]

variable (hon : s.ringOn r = true)
include hon

theorem State.doorbellWrite_kick (hkick : bit value 31 = true) (hr : r < 32) : s.doorbellWrite r value 4 = s.kickRing r := by
  simp [State.doorbellWrite, hready, hon, hkick, hr]

variable (hplain : bit value 31 = false) (hindex : bits value 0 16 < s.ringN r)
include hplain hindex

theorem State.doorbellWrite_tail (hr : r < 32) (hok : s.tailOk r (bits value 16 1 * s.ringN r + bits value 0 16) = true) :
    s.doorbellWrite r value 4 =
      ((s.modRing r fun q => { q with hostPos := bits value 16 1 * s.ringN r + bits value 0 16 }).unstall r).refreshRing r := by
  simp [State.doorbellWrite, hready, hon, hplain, not_le.mpr hindex, hr, hok]

/-- The head of an event ring with no record lost moves the host's position and nothing else. -/
theorem State.doorbellWrite_head (hr : 48 ≤ r) (hok : s.headOk r (bits value 16 1 * s.ringN r + bits value 0 16) = true)
    (hlost : (s.ring r).dropped = 0) :
    s.doorbellWrite r value 4 = s.modRing r fun q => { q with hostPos := bits value 16 1 * s.ringN r + bits value 0 16 } := by
  simp [State.doorbellWrite, hready, hon, hplain, not_le.mpr hindex, hok, State.flushLost, hlost, show ¬ r < 32 by omega,
    show ¬ r < 48 by omega]

end

/-- A new tail moves the host's position, makes the next read due, and leaves the device's position. -/
theorem tail_moves (s : State) (hs : s.stored) {r : Nat} (hr : r < 48) (x : Nat) :
    let t := ((s.modRing r fun q => { q with hostPos := x }).unstall r).refreshRing r
    (t.ring r).hostPos = x ∧ (t.ring r).retries = 0 ∧ t.ringPos r = s.ringPos r := by
  have kept := (State.unstall_kept (s.modRing r fun q => { q with hostPos := x }) r).trans (State.refreshRing_ringsKept _ r)
  refine ⟨?_, ?_, ?_⟩
  · rw [kept.ring r hr, State.ring_modRing, if_pos rfl, State.ring_modRing, if_pos rfl]
  · rw [kept.ring r hr, State.ring_modRing, if_pos rfl]
  · rw [kept.pos hs hr, State.modRing_ringPos, State.modRing_ringPos]

/-- A kick counts a descriptor with the expected phase as outstanding where none is. -/
theorem State.kickRing_counts {s : State} (hs : s.stored) {r : Nat} (hr : r < 48) (hnone : (s.ring r).hostPos % (2 * s.ringN r) = s.ringPos r)
    (hup : s.hostUp = true) (hphase : s.phaseMatches r = true) :
    ((s.kickRing r).ring r).hostPos = (s.ringPos r + 1) % (2 * s.ringN r) := by
  have kept := State.unstall_kept s r
  have hpos : (s.unstall r).ringPos r = s.ringPos r := kept.pos hs hr
  have hsize : (s.unstall r).ringN r = s.ringN r := kept.size hs hr
  have hfresh : (decide ((s.ring r).hostPos % (2 * s.ringN r) = s.ringPos r) && s.hostUp && s.phaseMatches r) = true := by
    simp [hnone, hup, hphase]
  simp only [State.kickRing, if_pos hfresh]
  rw [(State.refreshRing_ringsKept _ r).ring r hr, State.ring_modRing, if_pos rfl, hpos, hsize]

/-- An ignored write shows the error and moves no ring of commands. -/
theorem State.doorbellError_shown {s : State} (hs : s.stored) (r cause value : Nat) :
    (s.doorbellError r cause value).get Reg.HRG_STAT_DB_ERR = 1 ∧ ∀ k < 48, (s.doorbellError r cause value).ringPos k = s.ringPos k := by
  have hput : RingsKept s (s.setF Reg.HRG_STAT_DB_ERR) := State.put_elsewhere_ringsKept _ _ _ (by decide) (by decide)
  refine ⟨?_, fun k hk => (hput.trans (State.event_ringsKept _ _ _ _)).pos hs hk⟩
  exact ((State.event_reports _ _ _ _).fields (hput.stored hs) _ (by decide)).trans (State.get_put hs _ _ (by decide))

/-! ## Rings enabled and disabled -/

theorem ringEn_unrecorded : ∀ r < 64, recordField (Reg.HRG_RING_CFG_EN r) = false := by decide

theorem ringEn_apart (r k : Nat) : Reg.HRG_RING_STAT r ≠ Reg.HRG_RING_CFG k := by
  simp only [Reg.HRG_RING_STAT, Reg.HRG_RING_CFG]
  omega

/-- What the device shows of a ring's position and state leaves its `EN`. -/
theorem State.put_stat_en {s : State} (hs : s.stored) (r k : Nat) {f : Field} (v : Nat) (hf : f.ok) (hreg : f.reg = Reg.HRG_RING_STAT k) :
    (s.put f v).get (Reg.HRG_RING_CFG_EN r) = s.get (Reg.HRG_RING_CFG_EN r) :=
  State.get_put_other hs _ _ _ hf (.inl (hreg ▸ ringEn_apart k r))

theorem State.setRingPos_stored {s : State} (hs : s.stored) (r x : Nat) : (s.setRingPos r x).stored :=
  State.put_stored _ _ (State.put_stored _ _ hs)

/-- A ring put at index 0 with phase 1 on both sides. -/
theorem State.ringStarted {u : State} (hu : u.stored) (r : Nat) (f : RingState → RingState) (hf : ∀ q, (f q).hostPos = u.ringN r) :
    let w := (u.setRingPos r (u.ringN r)).modRing r f
    w.get (Reg.HRG_RING_CFG_EN r) = u.get (Reg.HRG_RING_CFG_EN r) ∧ w.get (Reg.HRG_RING_STAT_POS r) = 0 ∧
      w.get (Reg.HRG_RING_STAT_POS_PHASE r) = 1 ∧ (w.ring r).hostPos = w.ringN r := by
  have hn := u.ringN_pos r
  obtain ⟨hpos, hphase⟩ := State.setRingPos_shown hu r (x := u.ringN r) (by omega)
  have hmid := State.put_stored (Reg.HRG_RING_STAT_POS r) (u.ringN r % u.ringN r) hu
  refine ⟨?_, ?_, ?_, ?_⟩
  · rw [State.modRing_get, State.setRingPos, State.put_stat_en hmid r r _ (Nat.le_of_ble_eq_true rfl) rfl,
      State.put_stat_en hu r r _ (Nat.le_of_ble_eq_true rfl) rfl]
  · rw [State.modRing_get, hpos, Nat.mod_self]
  · rw [State.modRing_get, hphase, Nat.div_self hn]
  · rw [State.ring_modRing, if_pos rfl, hf]
    exact (State.setRingPos_ringN hu r _).symm

/-- Showing a ring's state leaves all that. -/
theorem State.ringStateShown {w : State} (hw : w.stored) {r : Nat} (hr : r < 32) (x : Nat) :
    let t := (w.put (Reg.HRG_RING_STAT_STATE r) x).refreshRing r
    t.get (Reg.HRG_RING_CFG_EN r) = w.get (Reg.HRG_RING_CFG_EN r) ∧ t.get (Reg.HRG_RING_STAT_POS r) = w.get (Reg.HRG_RING_STAT_POS r) ∧
      t.get (Reg.HRG_RING_STAT_POS_PHASE r) = w.get (Reg.HRG_RING_STAT_POS_PHASE r) ∧ t.ring r = w.ring r ∧ t.ringN r = w.ringN r := by
  have kept := (State.ringState_ringsKept w r x).trans (State.refreshRing_ringsKept _ r)
  obtain ⟨hpos, hphase, _⟩ := kept.shown hw r (by omega)
  refine ⟨?_, hpos, hphase, kept.ring r (by omega), kept.size hw (by omega)⟩
  rw [(State.refreshRing_reports _ r (by omega)).fields (State.put_stored _ _ hw) _ (ringEn_unrecorded r (by omega)),
    State.put_stat_en hw r r x (Nat.le_of_ble_eq_true rfl) rfl]

theorem State.ringStarted_shown {u : State} (hu : u.stored) {r : Nat} (hr : r < 32) (hen : u.get (Reg.HRG_RING_CFG_EN r) = 1)
    (f : RingState → RingState) (hf : ∀ q, (f q).hostPos = u.ringN r) :
    let t := (((u.setRingPos r (u.ringN r)).modRing r f).put (Reg.HRG_RING_STAT_STATE r) 1).refreshRing r
    t.on (Reg.HRG_RING_CFG_EN r) = true ∧ t.get (Reg.HRG_RING_STAT_POS r) = 0 ∧ t.get (Reg.HRG_RING_STAT_POS_PHASE r) = 1 ∧
      (t.ring r).hostPos = t.ringN r := by
  obtain ⟨w1, w2, w3, w4⟩ := State.ringStarted hu r f hf
  have hw : ((u.setRingPos r (u.ringN r)).modRing r f).stored := State.setRingPos_stored hu r _
  obtain ⟨t1, t2, t3, t4, t5⟩ := State.ringStateShown hw hr 1
  exact ⟨by rw [State.on, t1, w1, hen]; rfl, t2.trans w2, t3.trans w3, by rw [t4, t5, w4]⟩

/-- An enabled submission ring stands at index 0 with phase 1 on both sides. -/
theorem State.enableRing_starts {s : State} (hs : s.stored) {r : Nat} (hr : r < 32) :
    let t := s.enableRing r
    t.on (Reg.HRG_RING_CFG_EN r) = true ∧ t.get (Reg.HRG_RING_STAT_POS r) = 0 ∧ t.get (Reg.HRG_RING_STAT_POS_PHASE r) = 1 ∧
      (t.ring r).hostPos = t.ringN r := by
  unfold State.enableRing
  dsimp only
  rw [if_pos hr]
  exact State.ringStarted_shown (State.put_stored _ _ hs) hr (State.get_put hs _ _ (Nat.le_of_ble_eq_true rfl)) _ fun _ => rfl

/-- A disabled submission ring is off. -/
theorem State.disableRing_off {s : State} (hs : s.stored) {r : Nat} (hr : r < 32) :
    (s.disableRing r).on (Reg.HRG_RING_CFG_EN r) = false := by
  have hget : (s.disableRing r).get (Reg.HRG_RING_CFG_EN r) = 0 := by
    rw [State.disableRing, if_pos hr, (State.refreshRing_reports _ r (by omega)).fields (State.put_stored _ _ hs) _ (ringEn_unrecorded r (by omega)),
      State.get_put hs _ _ (Nat.le_of_ble_eq_true rfl)]
    rfl
  rw [State.on, hget]
  rfl

/-! ## Every ring off -/

/-- Each ring of a list is off. -/
def State.RingsOff (s : State) (l : List Nat) : Prop := ∀ r ∈ l, s.get (Reg.HRG_RING_CFG_EN r) = 0

/-- Clearing the rings of a list one by one leaves them all off, and the `EN` of the interface as it was. -/
theorem ringsCleared (l : List Nat) (f : RingState → RingState) (s : State) (hs : s.stored) (done : List Nat) (hdone : s.RingsOff done) :
    let t := s.each l fun s r => (s.put (Reg.HRG_RING_CFG_EN r) 0).modRing r f
    t.stored ∧ t.RingsOff (done ++ l) ∧ t.get Reg.HRG_CTL_EN = s.get Reg.HRG_CTL_EN ∧ t.host.heldCompletions = s.host.heldCompletions := by
  induction l generalizing s done with
  | nil => simpa [State.each] using ⟨hs, hdone⟩
  | cons r l ih =>
    let u := (s.put (Reg.HRG_RING_CFG_EN r) 0).modRing r f
    have hu : u.stored := State.put_stored (Reg.HRG_RING_CFG_EN r) 0 hs
    have hoff : u.RingsOff (done ++ [r]) := by
      intro k hk
      rw [State.modRing_get]
      by_cases hkr : k = r
      · subst hkr
        exact State.get_put hs _ _ (Nat.le_of_ble_eq_true rfl)
      · have hreg : Reg.HRG_RING_CFG r ≠ Reg.HRG_RING_CFG k := by simp only [Reg.HRG_RING_CFG]; omega
        rw [State.get_put_other hs _ _ _ (Nat.le_of_ble_eq_true rfl) (.inl hreg)]
        exact hdone k (by simpa [hkr] using hk)
    have hctl : u.get Reg.HRG_CTL_EN = s.get Reg.HRG_CTL_EN := by
      have hreg : Reg.HRG_RING_CFG r ≠ Reg.HRG_CTL := by simp only [Reg.HRG_RING_CFG, Reg.HRG_CTL]; omega
      exact State.get_put_other hs _ _ _ (Nat.le_of_ble_eq_true rfl) (.inl hreg)
    obtain ⟨h1, h2, h3, h4⟩ := ih u hu (done ++ [r]) hoff
    rw [List.append_assoc] at h2
    exact ⟨h1, h2, h3.trans hctl, h4⟩

/-- Showing a ring's state, and telling of it, leaves every ring's `EN` and the completions held. -/
structure EnKept (s t : State) : Prop where
  stored : t.stored
  en : ∀ r < 64, t.get (Reg.HRG_RING_CFG_EN r) = s.get (Reg.HRG_RING_CFG_EN r)
  ctl : t.get Reg.HRG_CTL_EN = s.get Reg.HRG_CTL_EN
  held : t.host.heldCompletions = s.host.heldCompletions

theorem EnKept.trans {s t u : State} (h : EnKept s t) (g : EnKept t u) : EnKept s u :=
  ⟨g.stored, fun r hr => (g.en r hr).trans (h.en r hr), g.ctl.trans h.ctl, g.held.trans h.held⟩

theorem EnKept.of_reports {s t : State} (hs : s.stored) (h : Reports s t) (k : RingsKept s t) : EnKept s t :=
  ⟨h.stored hs, fun r hr => h.fields hs _ (ringEn_unrecorded r hr), h.fields hs _ (by decide), k.held⟩

theorem EnKept.each {α : Type} (l : List α) (f : State → α → State) (hf : ∀ s, s.stored → ∀ x ∈ l, EnKept s (f s x)) {s : State} (hs : s.stored) :
    EnKept s (s.each l f) := by
  induction l generalizing s with
  | nil => exact ⟨hs, fun _ _ => rfl, rfl, rfl⟩
  | cons x l ih =>
    have h := hf s hs x List.mem_cons_self
    exact h.trans (ih (fun u hu y hy => hf u hu y (List.mem_cons_of_mem _ hy)) h.stored)

theorem EnKept.events {α : Type} {s : State} (hs : s.stored) (l : List α) (src code : Nat) (args : α → List Nat) :
    EnKept s (s.each l fun s e => s.event src code (args e)) :=
  .each _ _ (fun s hs _ _ => .of_reports hs (State.event_reports s _ _ _) (State.event_ringsKept s _ _ _)) hs

theorem EnKept.off {s t : State} (h : EnKept s t) (hctl : s.get Reg.HRG_CTL_EN = 0) (hheld : s.host.heldCompletions = [])
    (hoff : s.RingsOff (List.range 64)) :
    t.on Reg.HRG_CTL_EN = false ∧ t.host.heldCompletions = [] ∧ ∀ r < 64, t.on (Reg.HRG_RING_CFG_EN r) = false := by
  refine ⟨?_, h.held.trans hheld, fun r hr => ?_⟩
  · rw [State.on, h.ctl, hctl]
    rfl
  · rw [State.on, h.en r hr, hoff r (List.mem_range.mpr hr)]
    rfl

/-- Where every ring is disabled none is on, and no completion waits. -/
theorem State.resetRings_off {s : State} (hs : s.stored) (cause : Nat) :
    (s.resetRings cause).on Reg.HRG_CTL_EN = false ∧ (s.resetRings cause).host.heldCompletions = [] ∧
      ∀ r < 64, (s.resetRings cause).on (Reg.HRG_RING_CFG_EN r) = false := by
  have hu : { s.put Reg.HRG_CTL_EN 0 with host := { s.host with heldCompletions := [] } }.stored := State.put_stored Reg.HRG_CTL_EN 0 hs
  have hctl : { s.put Reg.HRG_CTL_EN 0 with host := { s.host with heldCompletions := [] } }.get Reg.HRG_CTL_EN = 0 :=
    State.get_put hs Reg.HRG_CTL_EN 0 (by decide)
  unfold State.resetRings
  dsimp only [State.put_host]
  obtain ⟨h1, h2, h3, h4⟩ := ringsCleared (List.range 64) (fun q => { q with
    reserved := 0, retries := 0, running := [], lost := q.lost ++ q.running }) _ hu [] (by simp [State.RingsOff])
  generalize State.each _ (List.range 64) (fun s r => (s.put (Reg.HRG_RING_CFG_EN r) 0).modRing r _) = v at h1 h2 h3 h4 ⊢
  have hstates : EnKept v (v.each (List.range 64) fun s r => if r < 32 then s.setRingState r 0 else s.put (Reg.HRG_RING_STAT_STATE r) 0) := by
    refine EnKept.each _ _ (fun s hs r hr => ?_) h1
    have hr64 : r < 64 := List.mem_range.mp hr
    exact .of_reports hs (.ite (State.setRingState_reports _ _ _ hr64) (State.ringState_reports _ _ _ hr64))
      (.ite (State.setRingState_ringsKept _ _ _) (State.ringState_ringsKept _ _ _))
  exact (hstates.trans (.events hstates.stored _ _ _ _)).off (h3.trans hctl) h4 h2

/-! ## The obligation -/

theorem exec_ringEnable {s : State} {rq : Requester} {r : Nat} (hready : s.on Reg.HRG_STAT_READY = true)
    (hmay : s.mayWrite rq (Reg.HRG_RING_CFG r) = true) (en : Bool) : exec (.ringEnable rq r en) s = .next (s.writeRingEn r en) :=
  congrArg _ (if_pos (by rw [hmay, hready]; rfl))

theorem exec_ringsDisable {s : State} {rq : Requester} (hready : s.on Reg.HRG_STAT_READY = true) (hmay : s.mayWrite rq Reg.HRG_CTL = true) :
    exec (.ringsDisable rq) s = .next (s.resetRings 1) := congrArg _ (if_pos (by rw [hmay, hready]; rfl))

/-- Settles O10: a tail, a kick, a head and an ignored write by what each leaves of its ring; a ring enabled or disabled, and all of them. -/
theorem ringsFollowTheirDoorbells : Obligations.RingsFollowTheirDoorbells := by
  refine ⟨?doorbells, ?enables⟩
  case doorbells =>
    intro s r value hs hr hreached hready hon hindex x
    refine ⟨?tail, ?kick, ?head, ?size⟩
    case tail =>
      intro hsub hplain hok
      refine ⟨_, exec_doorbell hreached value 4, ?_⟩
      rw [State.doorbellWrite_tail hready hon hplain hindex hsub hok]
      exact tail_moves s hs (by omega) x
    case kick =>
      intro hsub hnone hup hphase
      refine ⟨_, exec_kick hreached value 4, ?_⟩
      rw [State.doorbellWrite_kick hready hon (bit_putBit_same value 31 true) hsub]
      exact State.kickRing_counts hs (by omega) hnone hup hphase
    case head =>
      intro hevent hplain hok hlost
      rw [exec_headDoorbell hreached, State.doorbellWrite_head hready hon hplain hindex hevent hok hlost]
    case size =>
      intro size hsize
      refine ⟨_, exec_doorbell hreached value size, ?_⟩
      rw [State.doorbellWrite_size hready hsize]
      obtain ⟨herr, hpos⟩ := State.doorbellError_shown hs r 1 value
      exact ⟨herr, hpos r⟩
  case enables =>
    intro s rq hs hready
    refine ⟨?on, ?off, ?all⟩
    case on =>
      intro r hr hmay hctl hoff
      refine ⟨_, exec_ringEnable hready hmay true, ?_⟩
      have hw : s.writeRingEn r true = s.enableRing r := by simp [State.writeRingEn, hoff, hctl]
      rw [hw]
      exact State.enableRing_starts hs hr
    case off =>
      intro r hr hmay hon
      refine ⟨_, exec_ringEnable hready hmay false, ?_⟩
      have hw : s.writeRingEn r false = s.disableRing r := by simp [State.writeRingEn, hon, State.cqNamed, show ¬ 32 ≤ r by omega]
      rw [hw]
      exact State.disableRing_off hs hr
    case all =>
      intro hmay
      exact ⟨_, exec_ringsDisable hready hmay, State.resetRings_off hs 1⟩

end Sys2Proof.Machine
end


section
/-! Interrupts, the PCIe link and `PERST_N` (R373, R434, R435, R551). -/
namespace Sys2Proof.Machine
open Sys2Proof

/-- What holds before a loop and through each of its turns holds after it. -/
theorem State.each_induct {α : Type} {P : State → Prop} {s : State} (l : List α) (f : State → α → State) (h : P s)
    (hf : ∀ u, P u → ∀ x ∈ l, P (f u x)) : P (s.each l f) := by
  unfold State.each
  induction l generalizing s with
  | nil => exact h
  | cons x l ih => exact ih (hf s h x List.mem_cons_self) fun u hu y hy => hf u hu y (List.mem_cons_of_mem _ hy)

/-! ## Messages -/

/-- A message is a write of host memory; beside it only the rings' counts of unsignalled records change. -/
theorem State.msixSend_writes (s : State) (v : Nat) :
    (s.msixSend v).regs = s.regs ∧
      (s.msixSend v).hostMem = s.hostMem.writeBytes (s.rd64 (msixEntry v)) (bytesLE 4 (s.rd (msixEntry v + 8))) :=
  ⟨State.each_reads _ _ _ State.regs fun _ _ => rfl, State.each_reads _ _ _ State.hostMem fun _ _ => rfl⟩

theorem exec_msixMessage {s : State} {v : Nat} (hup : s.hostUp = true) (hdue : (List.range' 32 32).any (s.msixDue v) = true) :
    exec (.msixMessage v) s = .next (s.msixSignal v) := congrArg _ (if_pos (by rw [hup, hdue]; rfl))

theorem State.rd_of_regs {s t : State} (h : t.regs = s.regs) (a : Nat) : t.rd a = s.rd a := by rw [State.rd, h, State.rd]

theorem State.rd64_of_regs {s t : State} (h : t.regs = s.regs) (a : Nat) : t.rd64 a = s.rd64 a := by
  rw [State.rd64, State.rd_of_regs h, State.rd_of_regs h, State.rd64]

theorem State.get_of_regs {s t : State} (h : t.regs = s.regs) (f : Field) : t.get f = s.get f := by
  rw [State.get, State.rd_of_regs h, State.get]

/-- Unmasking a vector whose bit is pending clears both and sends the message its entry spells. -/
theorem State.msixUnmask_sends {s : State} (hs : s.stored) {v : Nat} (hv : v < 64) (hup : s.hostUp = true) (hpend : s.bit64 msixPba v = true) :
    let t := s.msixUnmask v
    bit (t.rd (msixEntry v + 12)) 0 = false ∧ t.bit64 msixPba v = false ∧
      t.hostMem = s.hostMem.writeBytes (s.rd64 (msixEntry v)) (bytesLE 4 (s.rd (msixEntry v + 8))) := by
  have hsep : msixPba ≠ msixEntry v + 12 ∧ msixPba + 4 ≠ msixEntry v + 12 ∧ msixEntry v + 12 ≠ msixPba ∧ msixEntry v + 12 ≠ msixPba + 4 ∧
      msixEntry v ≠ msixPba ∧ msixEntry v ≠ msixPba + 4 ∧ msixEntry v + 4 ≠ msixPba ∧ msixEntry v + 8 ≠ msixPba ∧
      msixEntry v + 8 ≠ msixPba + 4 ∧ Reg.HRG_STAT ≠ msixEntry v + 12 := by
    simp only [msixPba, msixEntry, Reg.HRG_STAT]
    omega
  obtain ⟨p1, p2, p3, p4, p5, p6, p7, p8, p9, p10⟩ := hsep
  let u := s.wr (msixEntry v + 12) (putBit (s.rd (msixEntry v + 12)) 0 false)
  have hu : u.stored := State.wr_stored _ _ hs
  have hpba : u.rd64 msixPba = s.rd64 msixPba := State.rd64_wr_ne hs.1 _ _ p1 p2
  have hready : u.on Reg.HRG_STAT_READY = s.on Reg.HRG_STAT_READY := by
    rw [State.on, State.get_wr_ne hs.1 _ _ _ p10, State.on]
  have hrun : (u.bit64 msixPba v && u.hostUp) = true := by
    rw [State.bit64, hpba, ← State.bit64, hpend, State.hostUp, hready]
    exact hup
  let w := u.putBit64 msixPba v false
  have hsent : s.msixUnmask v = w.msixSend v := if_pos hrun
  obtain ⟨hregs, hmem⟩ := State.msixSend_writes w v
  refine ⟨?mask, ?pending, ?message⟩
  case mask =>
    have hword : w.rd (msixEntry v + 12) = putBit (s.rd (msixEntry v + 12)) 0 false % 2 ^ 32 :=
      (State.rd_wr64_ne hu.1 _ _ p3 p4).trans (State.rd_wr_same hs.1 _ _)
    rw [hsent, State.rd_of_regs hregs, hword, bit_mod_two_pow (by decide), bit_putBit_same]
  case pending =>
    have hbits : w.rd64 msixPba = putBit (u.rd64 msixPba) v false % 2 ^ 64 := State.rd64_wr64 hu _ _
    rw [State.bit64, hsent, State.rd64_of_regs hregs, hbits, bit_mod_two_pow hv, bit_putBit_same]
  case message =>
    have h64 : w.rd64 (msixEntry v) = s.rd64 (msixEntry v) :=
      (State.rd64_wr64_ne hu.1 _ _ p5 p6 p7).trans (State.rd64_wr_ne hs.1 _ _ (by omega) (by omega))
    have h8 : w.rd (msixEntry v + 8) = s.rd (msixEntry v + 8) :=
      (State.rd_wr64_ne hu.1 _ _ p8 p9).trans (State.rd_wr_ne hs.1 _ _ (by omega))
    rw [hsent, hmem, h64, h8]
    rfl

theorem exec_msixUnmask {s : State} {v : Nat} (hreach : s.reaches .pcie (msixEntry v) = true) (hv : v < 64) :
    exec (.msixUnmask v) s = .next (s.msixUnmask v) := congrArg _ (if_pos (by simp [hreach, hv]))

/-! ## The link returns -/

/-- The link and the timed store stand as they were. -/
structure LinkKept (s t : State) : Prop where
  link : t.host.linkUp = s.host.linkUp
  perst : t.host.perstHigh = s.host.perstHigh
  timed : t.host.timed = s.host.timed

theorem LinkKept.refl (s : State) : LinkKept s s := ⟨rfl, rfl, rfl⟩

theorem LinkKept.trans {s t u : State} (h : LinkKept s t) (g : LinkKept t u) : LinkKept s u :=
  ⟨g.link.trans h.link, g.perst.trans h.perst, g.timed.trans h.timed⟩

theorem LinkKept.ite {s t u : State} {c : Prop} [Decidable c] (h : LinkKept s t) (g : LinkKept s u) : LinkKept s (if c then t else u) := by
  split <;> assumption

theorem LinkKept.each {α : Type} {s u : State} (h : LinkKept s u) (l : List α) (f : State → α → State) (hf : ∀ u x, LinkKept u (f u x)) :
    LinkKept s (u.each l f) := State.each_induct l f h fun v hv x _ => hv.trans (hf v x)

theorem LinkKept.of_host {s t : State} (h : t.host = s.host) : LinkKept s t := by constructor <;> rw [h]

section
variable {s u : State} (h : LinkKept s u)
include h

theorem LinkKept.heldEvents (x : List (Nat × EventRec)) : LinkKept s { u with host.heldEvents := x } := ⟨h.link, h.perst, h.timed⟩
theorem LinkKept.heldDropped (x : Nat) : LinkKept s { u with host.heldDropped := x } := ⟨h.link, h.perst, h.timed⟩
theorem LinkKept.heldCompletions (x : List (Nat × Completion)) : LinkKept s { u with host.heldCompletions := x } := ⟨h.link, h.perst, h.timed⟩
theorem LinkKept.modRing (r : Nat) (f : RingState → RingState) : LinkKept s (u.modRing r f) := ⟨h.link, h.perst, h.timed⟩

end

theorem State.setF_linkKept (s : State) (f : Field) : LinkKept s (s.setF f) := .of_host rfl

theorem State.ringPush_linkKept (s : State) (r : Nat) (rec : Nat → Nat → List Nat) : LinkKept s (s.ringPush r rec) := ⟨rfl, rfl, rfl⟩

theorem State.flushLost_linkKept (s : State) (r : Nat) : LinkKept s (s.flushLost r) := by
  unfold State.flushLost
  exact .ite ((State.ringPush_linkKept _ _ _).modRing _ _) (.refl s)

theorem State.eventToRing_linkKept (s : State) (r : Nat) (e : EventRec) : LinkKept s (s.eventToRing r e) := by
  unfold State.eventToRing
  refine (State.flushLost_linkKept s r).trans (.ite (State.ringPush_linkKept _ _ _) ?_)
  exact ((LinkKept.refl _).modRing _ _).trans (State.setF_linkKept _ _)

/-- The held events that can be written go out. -/
theorem LinkKept.flushKept {s u : State} (h : LinkKept s u) (kept : List (Nat × EventRec)) (out : List (Nat × EventRec)) :
    LinkKept s ({ u with host := { u.host with heldEvents := kept } }.each out fun v e => v.eventToRing e.1 e.2) :=
  (h.heldEvents kept).each _ _ fun v e => State.eventToRing_linkKept v e.1 e.2

theorem State.flushHeld_linkKept (s : State) : LinkKept s s.flushHeld := by
  unfold State.flushHeld
  dsimp only
  split
  · split
    · exact LinkKept.flushKept ((State.ringPush_linkKept s _ _).heldDropped _) _ _
    · exact LinkKept.flushKept (.refl s) _ _
  · exact LinkKept.flushKept (.refl s) _ _

theorem State.flushCompletions_linkKept (s : State) : LinkKept s s.flushCompletions := by
  unfold State.flushCompletions
  dsimp only
  refine LinkKept.each ((LinkKept.refl s).heldCompletions _) _ _ fun u e => ?_
  split
  · exact State.ringPush_linkKept _ _ _
  · exact (LinkKept.refl u).heldCompletions _

theorem State.msixSignal_linkKept (s : State) (v : Nat) : LinkKept s (s.msixSignal v) := by
  unfold State.msixSignal State.msixSend
  dsimp only
  split
  · exact .of_host rfl
  · refine LinkKept.each ?_ _ _ fun u r => (LinkKept.refl u).modRing _ _
    exact .of_host rfl

theorem State.hostReturns_linkKept (s : State) : LinkKept s s.hostReturns := by
  unfold State.hostReturns
  exact ((State.flushCompletions_linkKept s).trans (State.flushHeld_linkKept _)).each _ _ State.msixSignal_linkKept

/-! ## `PERST_N` -/

/-- A state in which a field has a value, with the level of `PERST_N` given. -/
structure Holds (f : Field) (c : Nat) (perst : Bool) (s : State) : Prop where
  stored : s.stored
  field : s.get f = c
  perst : s.host.perstHigh = perst

section
variable {f : Field} {c : Nat} {b : Bool} {s : State} (h : Holds f c b s)
include h

theorem Holds.put {g : Field} (v : Nat) (hg : g.ok) (hsep : g.apart f) : Holds f c b (s.put g v) :=
  ⟨State.put_stored _ _ h.stored, (State.get_put_other h.stored _ _ _ hg hsep).trans h.field, h.perst⟩

theorem Holds.wr {off : Nat} (v : Nat) (hsep : f.reg ≠ off) : Holds f c b (s.wr off v) :=
  ⟨State.wr_stored _ _ h.stored, (State.get_wr_other h.stored _ _ _ hsep).trans h.field, h.perst⟩

theorem Holds.wr64 {off : Nat} (v : Nat) (h1 : f.reg ≠ off) (h2 : f.reg ≠ off + 4) : Holds f c b (s.wr64 off v) := (h.wr v h1).wr _ h2

theorem Holds.modRing (r : Nat) (g : RingState → RingState) : Holds f c b (s.modRing r g) := ⟨h.stored, h.field, h.perst⟩

theorem Holds.reports {t : State} (hr : Reports s t) (hf : recordField f = false) : Holds f c b t :=
  ⟨hr.stored h.stored, (hr.fields h.stored f hf).trans h.field, (congrArg (fun u => u.host.perstHigh) hr.work).trans h.perst⟩

theorem Holds.each {α : Type} (l : List α) (g : State → α → State) (hg : ∀ u, Holds f c b u → ∀ x ∈ l, Holds f c b (g u x)) :
    Holds f c b (s.each l g) := State.each_induct l g h hg

/-- Disabling every ring leaves a field of another block. -/
theorem Holds.resetRings (hf : recordField f = false) (hreg : f.reg < 0x081000 ∨ 0x081800 ≤ f.reg) (hctl : f.reg ≠ Reg.HRG_CTL) (cause : Nat) :
    Holds f c b (s.resetRings cause) := by
  have hen (r : Nat) (hr : r < 64) : f.reg ≠ (Reg.HRG_RING_CFG_EN r).reg := by
    simp only [Reg.HRG_RING_CFG_EN, Reg.HRG_RING_CFG]
    omega
  have hoff : Holds f c b { s.put Reg.HRG_CTL_EN 0 with host.heldCompletions := [] } :=
    have hput := h.put (g := Reg.HRG_CTL_EN) 0 (by decide) (.inl hctl.symm)
    ⟨hput.stored, hput.field, hput.perst⟩
  unfold State.resetRings
  dsimp only
  refine Holds.each (Holds.each (hoff.each _ _ fun u hu r hr => ?clear) _ _ fun u hu r hr => ?state) _ _ fun u hu e _ => ?record
  case clear => exact (hu.put 0 (Nat.le_of_ble_eq_true rfl) (.inl (hen r (List.mem_range.mp hr)).symm)).modRing _ _
  case state =>
    have hr64 : r < 64 := List.mem_range.mp hr
    exact hu.reports (.ite (State.setRingState_reports _ _ _ hr64) (State.ringState_reports _ _ _ hr64)) hf
  case record => exact hu.reports (State.event_reports _ _ _ _) hf

/-- So do the vectors' entries as `PERST_N` leaves them. -/
theorem Holds.maskVectors (hreg : f.reg < 0x084000 ∨ 0x084400 ≤ f.reg) :
    Holds f c b (s.each (List.range 64) fun s v => ((s.wr64 (msixEntry v) 0).wr (msixEntry v + 8) 0).wr (msixEntry v + 12) 1) := by
  refine h.each _ _ fun u hu v hv => ?_
  have hv64 : v < 64 := List.mem_range.mp hv
  have hsep : f.reg ≠ msixEntry v ∧ f.reg ≠ msixEntry v + 4 ∧ f.reg ≠ msixEntry v + 8 ∧ f.reg ≠ msixEntry v + 12 := by
    simp only [msixEntry]
    omega
  obtain ⟨h1, h2, h3, h4⟩ := hsep
  exact ((hu.wr64 _ h1 h2).wr _ h3).wr _ h4

end

/-- The fall of `PERST_N` on a running device whose host path is its own link. -/
theorem exec_perstFall {s : State} (htunnel : s.boot.tunnel = false) (hrunning : s.running = true) :
    exec .perstFall s = .next ((((({ s with host := { s.host with perstHigh := false, shadows := s.host.shadows.del 0 } }.setF
      Reg.DEV_RESET_CAUSE_PERST).put Reg.HRG_STAT_READY 0).each (List.range 64) fun s v =>
        ((s.wr64 (msixEntry v) 0).wr (msixEntry v + 8) 0).wr (msixEntry v + 12) 1).wr64 msixPba 0).resetRings 0) := by
  have hkeep : ¬ (s.boot.tunnel || !s.running) = true := by simp [htunnel, hrunning]
  exact congrArg Host.Outcome.next (if_neg hkeep)

theorem exec_perstRise {s : State} (htunnel : s.boot.tunnel = false) (hservice : s.inService = true) :
    exec .perstRise s = .next ({ s with host := { s.host with perstHigh := true } }.setF Reg.HRG_STAT_READY) := by
  have hkeep : ¬ (s.boot.tunnel || !s.inService) = true := by simp [htunnel, hservice]
  exact congrArg Host.Outcome.next (if_neg hkeep)

theorem perstFall_sets {s : State} (hs : s.stored) (htunnel : s.boot.tunnel = false) (hrunning : s.running = true) :
    ∃ t, exec .perstFall s = .next t ∧ t.host.perstHigh = false ∧ t.get Reg.HRG_STAT_READY = 0 ∧ t.get Reg.DEV_RESET_CAUSE_PERST = 1 ∧
      t.on Reg.HRG_CTL_EN = false := by
  have hcause : Holds Reg.DEV_RESET_CAUSE_PERST 1 false
      ({ s with host := { s.host with perstHigh := false, shadows := s.host.shadows.del 0 } }.setF Reg.DEV_RESET_CAUSE_PERST) :=
    ⟨State.setF_stored (s := { s with host := _ }) _ hs, State.get_put (s := { s with host := _ }) hs _ _ (by decide), rfl⟩
  have hready := Holds.mk (f := Reg.HRG_STAT_READY) (State.put_stored Reg.HRG_STAT_READY 0 hcause.stored)
    (State.get_put hcause.stored _ 0 (by decide)) rfl
  have hcause2 := ((((hcause.put (g := Reg.HRG_STAT_READY) 0 (by decide) (by decide)).maskVectors (by decide)).wr64 (off := msixPba) 0 (by decide)
    (by decide)).resetRings (by decide) (by decide) (by decide) 0)
  have hready1 := (hready.maskVectors (by decide)).wr64 (off := msixPba) 0 (by decide) (by decide)
  have hready2 := hready1.resetRings (by decide) (by decide) (by decide) 0
  exact ⟨_, exec_perstFall htunnel hrunning, hcause2.perst, hready2.field, hcause2.field, (State.resetRings_off hready1.stored 0).1⟩

/-- Settles O12: a message by the write it is, the link's return by what it leaves, the fall of `PERST_N` by the fields that stand through
the reset of the rings. The layout of an entry of the MSI-X table is presumed (assumption 125). -/
theorem interruptsAndTheLink : Obligations.InterruptsAndTheLink := by
  intro s hs
  refine ⟨?message, ?unmask, ?down, ?up, ?config, ?fall, ?rise⟩
  case message =>
    intro v _ hup hdue
    rw [exec_msixMessage hup hdue]
    constructor
    · intro hmask
      exact congrArg _ (if_pos hmask)
    · intro hmask
      have hsend : s.msixSignal v = s.msixSend v := if_neg (by rw [hmask]; decide)
      exact ⟨_, rfl, by rw [hsend]; exact State.msixSend_writes s v⟩
  case unmask =>
    intro v hv hreach hup hpend
    exact ⟨_, exec_msixUnmask hreach hv, State.msixUnmask_sends hs hv hup hpend⟩
  case down =>
    refine .of_reports ?_
    unfold State.when
    exact .ite (State.event_reports _ _ _ _) (.refl _)
  case up =>
    have hkept : LinkKept { s with host := { s.host with linkUp := true } } (if { s with host := { s.host with linkUp := true } }.hostUp then
        { s with host := { s.host with linkUp := true } }.hostReturns else { s with host := { s.host with linkUp := true } }) :=
      .ite (State.hostReturns_linkKept _) (.refl _)
    exact ⟨_, rfl, hkept.link, hkept.perst, hkept.timed⟩
  case config => rfl
  case fall => exact perstFall_sets hs
  case rise => exact fun htunnel hservice => exec_perstRise htunnel hservice

end Sys2Proof.Machine
end


section
/-! Register accesses (R33 to R35, R541, R543, R546, R549). -/
namespace Sys2Proof.Machine
open Sys2Proof

/-! ## The scratch registers, which a write of four bytes changes as a whole -/

/-- The one field of a scratch register. -/
def scratchField : FieldDesc := ⟨0, 32, .rws, 0, 4294967295⟩

theorem findReg_scratch : ∀ k < 4, findReg (Reg.DEV_SCRATCH k) = some ⟨0x000020, 4, 0x4, 1, 0x0, 0, 1, [scratchField]⟩ := by decide

theorem bits_word (n : Nat) : bits n 0 32 = n % 2 ^ 32 := by rw [bits, Nat.pow_zero, Nat.div_one]

/-- Such a field takes every value. -/
theorem writeWord_scratch (locked : Bool) (ok : FieldDesc → Nat → Bool) (d : RegDesc) (hd : d.fields = [scratchField]) (old value : Nat)
    (hok : ok scratchField (bits value 0 32) = true) : writeWord locked ok d old value = (putBits old 0 32 (bits value 0 32), false, false) := by
  have hrange : bits value 0 32 ≤ 4294967295 := by
    rw [bits_word]
    omega
  simp [writeWord, hd, writeField, scratchField, hrange]
  simpa [scratchField] using hok

theorem State.writeFields_scratch (s : State) {k : Nat} (hk : k < 4) (d : RegDesc) (hd : d.fields = [scratchField]) (value : Nat) :
    s.writeFields d (Reg.DEV_SCRATCH k) value =
      s.wr (Reg.DEV_SCRATCH k) (putBits (s.rd (Reg.DEV_SCRATCH k)) 0 32 (bits value 0 32)) := by
  have hrules : s.fieldRule (Reg.DEV_SCRATCH k) scratchField (bits value 0 32) = true ∧ (∀ w, s.wordRule (Reg.DEV_SCRATCH k) w = true) ∧
      ∀ (u : State) (old new : Nat), u.afterWrite (Reg.DEV_SCRATCH k) old new value = u := by
    interval_cases k <;> exact ⟨rfl, fun _ => rfl, fun _ _ _ => rfl⟩
  obtain ⟨hfield, hword, hafter⟩ := hrules
  simp [State.writeFields, writeWord_scratch _ _ d hd _ _ hfield, hword, hafter, State.when]

theorem State.writeReg_scratch {s : State} {rq : Requester} {k : Nat} (hk : k < 4) (hmay : s.mayWrite rq (Reg.DEV_SCRATCH k) = true)
    (value : Nat) : s.writeReg rq (Reg.DEV_SCRATCH k) value =
      s.wr (Reg.DEV_SCRATCH k) (putBits (s.rd (Reg.DEV_SCRATCH k)) 0 32 (bits (value % 2 ^ 32) 0 32)) := by
  have hfind := findReg_scratch k hk
  have htake : s.ringsTake (Reg.DEV_SCRATCH k) = true := by
    have : ¬ 0x080000 ≤ Reg.DEV_SCRATCH k := by unfold Reg.DEV_SCRATCH; omega
    simp [State.ringsTake, this]
  have hplain : ¬ (0x084000 ≤ Reg.DEV_SCRATCH k ∧ Reg.DEV_SCRATCH k < 0x084400) ∧
      ¬ (0x348000 ≤ Reg.DEV_SCRATCH k ∧ Reg.DEV_SCRATCH k < 0x380000) ∧ ¬ (0x090000 ≤ Reg.DEV_SCRATCH k ∧ Reg.DEV_SCRATCH k < 0x098000) ∧
      ¬ Reg.DEV_SCRATCH k = Reg.DEV_LOCK ∧ ¬ Reg.DEV_SCRATCH k = Reg.TIM_REF_NUM ∧ ¬ Reg.DEV_SCRATCH k = Reg.HRG_CTL ∧
      ¬ (0x081000 ≤ Reg.DEV_SCRATCH k ∧ Reg.DEV_SCRATCH k < 0x081800 ∧ Reg.DEV_SCRATCH k % 0x20 = 8) ∧
      ¬ Reg.DEV_SCRATCH k = Reg.SLU_KICK ∧ ¬ Reg.DEV_SCRATCH k = Reg.PWR_WAKE := by
    interval_cases k <;> decide
  obtain ⟨h1, h2, h3, h4, h5, h6, h7, h8, h9⟩ := hplain
  have hgo : (!s.mayWrite rq (Reg.DEV_SCRATCH k) || !s.ringsTake (Reg.DEV_SCRATCH k)) = false := by rw [hmay, htake]; rfl
  have hone : ¬ (1 > 1 ∧ [scratchField] ≠ []) := by decide
  simp only [State.writeReg, hgo, hfind, Bool.false_eq_true, if_false, if_neg h1, if_neg h2, if_neg h3, if_neg h4, if_neg h5, if_neg h6,
    if_neg h7, if_neg h8, if_neg h9, if_neg hone]
  exact State.writeFields_scratch s hk _ rfl _

theorem exec_registerWrite_scratch {s : State} {rq : Requester} {k : Nat} (hk : k < 4) (hmay : s.mayWrite rq (Reg.DEV_SCRATCH k) = true)
    (value : Nat) : exec (.registerWrite rq (Reg.DEV_SCRATCH k) 4 value) s = .next
      (s.wr (Reg.DEV_SCRATCH k) (putBits (s.rd (Reg.DEV_SCRATCH k)) 0 32 (bits (value % 2 ^ 32) 0 32))) := by
  have haligned : Reg.DEV_SCRATCH k % 4 = 0 := by unfold Reg.DEV_SCRATCH; omega
  show execRegisterWrite _ _ _ _ s = _
  simp only [execRegisterWrite, hmay, haligned, State.writeReg_scratch hk hmay]
  rfl

/-- Such a write leaves the word it brings, and every other register. -/
theorem State.wr_scratch_word {s : State} (hs : s.stored) (off value : Nat) :
    (s.wr off (putBits (s.rd off) 0 32 (bits (value % 2 ^ 32) 0 32))).rd off = value % 2 ^ 32 := by
  rw [State.rd_wr hs, if_pos rfl, ← bits_word, bits_putBits, bits_word, Nat.mod_mod, Nat.mod_mod]

/-! ## The other accesses -/

theorem exec_registerWrite_narrow {s : State} {rq : Requester} {off : Nat} (hmay : s.mayWrite rq off = true) (hoff : off < 0x090000)
    (value : Nat) : exec (.registerWrite rq off 2 value) s = .next (s.setF Reg.DEV_ACC_STAT_BAD_WIDTH) := by
  have hdb : ¬ (0x090000 ≤ off ∧ off < 0x098000) := by omega
  show execRegisterWrite _ _ _ _ s = _
  simp only [execRegisterWrite, hmay, if_neg hdb]
  rfl

theorem exec_registerWrite_unreached {s : State} {rq : Requester} {off : Nat} (hmay : s.mayWrite rq off = false) (size value : Nat) :
    exec (.registerWrite rq off size value) s = .next s := by
  show execRegisterWrite _ _ _ _ s = _
  simp only [execRegisterWrite, hmay]
  rfl

theorem exec_devLock {s : State} {rq : Requester} {value : Nat} (hmay : s.mayWrite rq Reg.DEV_LOCK = true) (hlock : bit value 0 = true)
    (hkey : bits value 8 8 = 0x5A) : exec (.devLock rq value) s = .next (s.setF Reg.DEV_LOCK_LOCK) := by
  show execDevLock _ _ s = _
  simp only [execDevLock, State.writeLock, hmay, hlock, hkey]
  rfl

theorem exec_wideReadLatch {s : State} {rq : Requester} {off : Nat} {d : RegDesc} (hfind : findReg off = some d) (hlow : d.word = 0)
    (hwide : 1 < d.words) (hmay : s.mayRead rq off = true) :
    exec (.wideReadLatch rq off) s = .next
      { s with host.shadows := s.host.shadows.set (rqNo rq) (off, (List.range (d.words - 1)).map fun i => s.readReg (off + 4 * (i + 1))) } := by
  have hw : wordOf off = (0, d.words) := by rw [wordOf, hfind, ← hlow]
  have hgo : (s.mayRead rq off && (wordOf off).1 == 0 && decide ((wordOf off).2 > 1)) = true := by simp [hmay, hw, hwide]
  show Host.Outcome.next (s.latch rq off) = _
  simp only [State.latch, if_pos hgo]
  rw [hw]

theorem exec_wideWriteStage {s : State} {rq : Requester} {off : Nat} {d : RegDesc} (hfind : findReg off = some d) (hlow : d.word = 0)
    (hwide : 1 < d.words) (hfields : d.fields ≠ []) (hmay : s.mayWrite rq off = true) (value : Nat) :
    exec (.wideWriteStage rq off value) s = .next (s.stage rq off (value % 2 ^ 32)) := by
  show execWideWriteStage _ _ _ s = _
  simp [execWideWriteStage, hfind, hlow, hwide, hfields, hmay]

theorem exec_marginRst {s : State} {rq : Requester} (hmay : s.mayWrite rq Reg.DEV_TICK_STAT = true) :
    exec (.marginRst rq) s = .next (s.put Reg.DEV_TICK_STAT_MIN_MARGIN 0xFFFF) := congrArg _ (if_pos hmay)

theorem State.put_regs_back (s : State) (f : Field) (v : Nat) : { s.put f v with regs := s.regs } = s := rfl

/-- A new downlink advance in range is shown at once and waits for the frame boundary. -/
theorem exec_timRefNumWrite_advance {s : State} {rq : Requester} {value : Nat} (hmay : s.mayWrite rq Reg.TIM_REF_NUM = true)
    (hclear : bit value 16 = false) (hmu : bits value 0 2 = s.get Reg.TIM_REF_NUM_MU) (hecp : bits value 2 1 = s.get Reg.TIM_REF_NUM_ECP)
    (hnew : bits value 8 3 ≠ s.get Reg.TIM_REF_NUM_T_ADV) (hlow : 2 ≤ bits value 8 3) (hhigh : bits value 8 3 ≤ 6) :
    exec (.timRefNumWrite rq value) s = .next
      ({ s with arch := { s.arch with tAdvPending := some (bits value 8 3) } }.put Reg.TIM_REF_NUM_T_ADV (bits value 8 3)) := by
  show execTimRefNumWrite _ _ s = _
  simp [execTimRefNumWrite, State.writeRefNum, State.when, hmay, hclear, hmu, hecp, hnew, hlow, hhigh]

theorem exec_refNumChange {s : State} {mu ecp : Nat} (hpend : s.arch.refNumPending = some (mu, ecp)) (hframe : s.atFrame = true) :
    exec .refNumChange s = .next ({ s with
      arch := { s.arch with refNumPending := none, mu := mu, ecp := ecp }, rct := { s.rct with patterns := [] } }.refreshPlan) := by
  show execRefNumChange s = _
  simp only [execRefNumChange, hpend, if_pos hframe]

theorem exec_tAdvApply {s : State} {adv : Nat} (hpend : s.arch.tAdvPending = some adv) (hframe : s.atFrame = true) :
    exec .tAdvApply s = .next { s with arch := { s.arch with tAdvPending := none, tAdv := adv } } := by
  show execTAdvApply s = _
  simp only [execTAdvApply, hpend, if_pos hframe]

/-- Settles O13: each access by what it runs. -/
theorem registersAreWritten : Obligations.RegistersAreWritten := by
  intro s rq hs
  refine ⟨?scratch, ?narrow, ?unreached, ?lock, ?latch, ?stage, ?margin, ?advance, ?change, ?apply⟩
  case scratch =>
    intro k value hk hmay
    exact ⟨_, exec_registerWrite_scratch hk hmay value, State.wr_scratch_word hs _ value,
      fun off hoff => (State.rd_wr hs _ _ off).trans (if_neg hoff), rfl⟩
  case narrow => exact fun off value hmay hoff => exec_registerWrite_narrow hmay hoff value
  case unreached => exact fun off size value hmay => exec_registerWrite_unreached hmay size value
  case lock => exact fun value hmay hlock hkey => exec_devLock hmay hlock hkey
  case latch => exact fun off d hfind hlow hwide hmay => exec_wideReadLatch hfind hlow hwide hmay
  case stage => exact fun off d value hfind hlow hwide hfields hmay => exec_wideWriteStage hfind hlow hwide hfields hmay value
  case margin =>
    intro hmay
    have hok : Reg.DEV_TICK_STAT_MIN_MARGIN.ok := by decide
    refine ⟨_, exec_marginRst hmay, ?_, fun f hf => ?_, State.put_regs_back s _ _⟩
    · rw [State.get_put hs _ _ hok]
      decide
    · rw [State.get_put_other hs _ _ _ hok hf.symm]
  case advance =>
    exact fun value hmay hclear hmu hecp hnew hlow hhigh => exec_timRefNumWrite_advance hmay hclear hmu hecp hnew hlow hhigh
  case change => exact fun mu ecp hpend hframe => exec_refNumChange hpend hframe
  case apply => exact fun adv hpend hframe => exec_tAdvApply hpend hframe

end Sys2Proof.Machine
end


section
/-! The registers after a reset (R422), and the management and test interfaces (R532 to R537). -/
namespace Sys2Proof.Machine
open Sys2Proof

/-! ## What a reset leaves in the registers -/

/-- A store into which the words of another are copied at a list of addresses. -/
theorem Sparse.read_foldl_copy {w : Nat} (src : Sparse w) (l : List Nat) (m : Sparse w) (hm : m.wf = true) (a : Nat) :
    Sparse.read (l.foldl (fun m off => Sparse.write m off (Sparse.read src off)) m) a = if a ∈ l then Sparse.read src a else Sparse.read m a := by
  induction l generalizing m with
  | nil => simp
  | cons b l ih =>
    rw [List.foldl_cons, ih _ (Sparse.write_wf _ _ hm), Sparse.read_write hm]
    by_cases hl : a ∈ l
    · simp [hl]
    · by_cases hab : a = b
      · simp [hab]
      · simp [hl, hab]

/-- The registers of the always-on island that a reset keeps as they are. -/
def islandKept : List Nat := Reg.FLT_DUMP_STAT :: (List.range 4).map Reg.DEV_SCRATCH

/-- The registers a reset writes itself. -/
def resetWritten : List Nat := [Reg.THM_STAT, Reg.PWR_WAKE, Reg.DEV_RESET_CAUSE]

/-- The register file before a reset writes its own registers. -/
def State.restartBase (s : State) (aonLost : Bool) : RegFile :=
  (if aonLost then [] else islandKept).foldl (fun m off => Sparse.write m off (Sparse.read s.regs off)) resetRegs

theorem State.restartBase_wf (s : State) (aonLost : Bool) : (s.restartBase aonLost).wf = true :=
  Sparse.foldl_wf _ (fun _ _ h => Sparse.write_wf _ _ h) _ _ resetRegs_wf

theorem State.restartBase_read (s : State) (aonLost : Bool) (a : Nat) :
    (Sparse.read (s.restartBase aonLost) a).toNat = if aonLost = false ∧ a ∈ islandKept then s.rd a else State.reset.rd a := by
  rw [State.restartBase, Sparse.read_foldl_copy _ _ _ resetRegs_wf]
  cases aonLost
  · by_cases h : a ∈ islandKept <;> simp [h, State.rd, State.reset]
  · simp [State.rd, State.reset]

/-- Every other register than those it writes reads as that. -/
theorem State.restart_rd (s : State) (cause : Nat) (aonLost : Bool) {a : Nat} (ha : a ∉ resetWritten) :
    (s.restart cause aonLost).rd a = if aonLost = false ∧ a ∈ islandKept then s.rd a else State.reset.rd a := by
  have hb := s.restartBase_wf aonLost
  have h1 : a ≠ Reg.THM_STAT ∧ a ≠ Reg.PWR_WAKE ∧ a ≠ Reg.DEV_RESET_CAUSE := by simpa [resetWritten] using ha
  rw [← State.restartBase_read]
  show (Sparse.read (Sparse.write (Sparse.write (Sparse.write (s.restartBase aonLost) _ _) _ _) _ _) a).toNat = _
  rw [Sparse.read_write (Sparse.write_wf _ _ (Sparse.write_wf _ _ hb)), if_neg h1.2.2, Sparse.read_write (Sparse.write_wf _ _ hb),
    if_neg h1.2.1, Sparse.read_write hb, if_neg h1.1]

/-- The reset's cause joins those that are kept. -/
theorem State.restart_cause (s : State) (cause : Nat) (aonLost : Bool) :
    (s.restart cause aonLost).rd Reg.DEV_RESET_CAUSE =
      ((if aonLost then 0 else s.rd Reg.DEV_RESET_CAUSE) ||| cause ||| (if (s.pwr.tripped && !aonLost) = true then 32 else 0)) % 2 ^ 32 := by
  have hb := s.restartBase_wf aonLost
  show (Sparse.read (Sparse.write (Sparse.write (Sparse.write (s.restartBase aonLost) _ _) _ _) _ _) Reg.DEV_RESET_CAUSE).toNat = _
  rw [Sparse.read_write (Sparse.write_wf _ _ (Sparse.write_wf _ _ hb)), if_pos rfl, BitVec.toNat_ofNat]

theorem State.restart_cause_kept (s : State) {cause : Nat} (hcause : cause < 2 ^ 32) :
    (s.restart cause false).rd Reg.DEV_RESET_CAUSE = s.rd Reg.DEV_RESET_CAUSE ||| cause ||| (if s.pwr.tripped then 32 else 0) := by
  have htrip : (if s.pwr.tripped then 32 else 0) < 2 ^ 32 := by split <;> decide
  rw [State.restart_cause, Bool.not_false, Bool.and_true, if_neg (by decide)]
  exact Nat.mod_eq_of_lt (Nat.or_lt_two_pow (Nat.or_lt_two_pow (s.rd_lt _) hcause) htrip)

/-! ## Resets -/

/-- Settles O50: a reset's registers by `State.restart_rd` and `State.restart_cause`; the rest of what it keeps is its definition. That device
memory is empty after it, and that the causes add up, is the model's choice (assumptions 40 and 7). -/
theorem resetsKeepTheIsland : Obligations.ResetsKeepTheIsland := by
  intro s _
  have hscratch (k : Nat) (hk : k < 4) : Reg.DEV_SCRATCH k ∈ islandKept ∧ Reg.DEV_SCRATCH k ∉ resetWritten := by
    interval_cases k <;> decide
  have hkept (cause : Nat) (k : Nat) (hk : k < 4) : (s.restart cause false).rd (Reg.DEV_SCRATCH k) = s.rd (Reg.DEV_SCRATCH k) := by
    rw [State.restart_rd _ _ _ (hscratch k hk).2, if_pos ⟨rfl, (hscratch k hk).1⟩]
  have hother (cause off : Nat) (hoff : off ∉ [Reg.FLT_DUMP_STAT, Reg.THM_STAT, Reg.PWR_WAKE, Reg.DEV_RESET_CAUSE])
      (hnot : ∀ k, k < 4 → off ≠ Reg.DEV_SCRATCH k) : (s.restart cause false).rd off = State.reset.rd off := by
    have hw : off ∉ resetWritten := fun h => hoff (List.mem_cons_of_mem _ h)
    have hi : off ∉ islandKept := by
      simp only [islandKept, List.mem_cons, List.mem_map, List.mem_range, not_or, not_exists, not_and]
      exact ⟨fun h => hoff (h ▸ List.mem_cons_self), fun k hk h => hnot k hk h.symm⟩
    rw [State.restart_rd _ _ _ hw, if_neg fun h => hi h.2]
  refine ⟨?pin, ?supply, ?island, ?soft⟩
  case pin =>
    exact ⟨_, rfl, rfl, rfl, rfl, rfl, rfl, rfl, rfl, State.restart_cause_kept s (by decide), hkept 2, hother 2⟩
  case supply =>
    exact ⟨_, rfl, rfl, rfl, rfl, rfl, rfl, rfl, rfl, State.restart_cause_kept s (by decide), hkept 1, hother 1⟩
  case island =>
    refine ⟨_, rfl, ?_, fun k hk => ?_⟩
    · exact (State.restart_cause s 1 true).trans (by simp)
    · refine (State.restart_rd s 1 true (hscratch k hk).2).trans ?_
      rw [if_neg (by simp), State.reset_rd]
      interval_cases k <;> decide +kernel
  case soft =>
    intro rq hmay
    have hexec : exec (.softRst rq 0xA5) s = .next (s.restart 4 false) := congrArg Host.Outcome.next (if_pos hmay)
    exact ⟨_, hexec, rfl, rfl, rfl, rfl, rfl, rfl, State.restart_cause_kept s (by decide), hkept 4, hother 4⟩

/-! ## The management bus and the test access port -/

theorem exec_smbRead {s : State} (hrunning : s.running = true) (hmay : s.mayRead .smbus s.pkg.smbOffset = true)
    (haligned : s.pkg.smbOffset % 4 = 0) :
    ∃ t, exec (.smbRead true) s = .next t ∧ t.pkg = { s.pkg with smbOut := bytesLE 4 (s.readAs .smbus s.pkg.smbOffset) ++ [0] } ∧
      t.regs = s.regs := by
  have hlatch : (s.latch .smbus s.pkg.smbOffset).pkg = s.pkg ∧ (s.latch .smbus s.pkg.smbOffset).regs = s.regs := by
    unfold State.latch
    dsimp only
    split <;> exact ⟨rfl, rfl⟩
  have hgo : ¬ (!s.smbAnswers || !true) = true := by simp [State.smbAnswers, hrunning]
  have hreach : (s.mayRead .smbus s.pkg.smbOffset && s.pkg.smbOffset % 4 == 0) = true := by simp [hmay, haligned]
  exact ⟨_, congrArg Host.Outcome.next ((if_neg hgo).trans (if_pos hreach)), by dsimp only; rw [hlatch.1], hlatch.2⟩

/-- An instruction that needs `TEST_EN` acts as BYPASS without it. -/
theorem State.tapTest_off {s : State} (h : s.boot.testEn = false) (ir : JtagIr) (sample : Bool) : s.tapTest ir sample = s.tapBypass := by
  simp [State.tapTest, h]

theorem State.tapTest_on {s : State} (h : s.boot.testEn = true) (ir : JtagIr) (sample : Bool) :
    s.tapTest ir sample = if sample then (s.setIr ir (Config.pinSample s.free)).fresh else s.setIr ir [false] := by
  simp [State.tapTest, h]

theorem State.tapTest_sampled {s : State} (h : s.boot.testEn = true) (ir : JtagIr) :
    (s.tapTest ir true).pkg = { s.pkg with ir := ir, captured := Config.pinSample s.free } ∧ (s.tapTest ir true).regs = s.regs ∧
      (s.tapTest ir true).tx = s.tx := by
  rw [State.tapTest_on h]
  exact ⟨rfl, rfl, rfl⟩

theorem State.tapTest_plain {s : State} (h : s.boot.testEn = true) (ir : JtagIr) :
    (s.tapTest ir false).pkg = { s.pkg with ir := ir, captured := [false] } ∧ (s.tapTest ir false).regs = s.regs ∧
      (s.tapTest ir false).tx = s.tx := by
  rw [State.tapTest_on h]
  exact ⟨rfl, rfl, rfl⟩

/-- Settles O15: the bus by its five commands, `TEST_EN` by the reset it is, the instructions by `State.tapTest`. The alert's address and status are
the model's choice (assumption 148), as are the free pins and the order of IDCODE's bits (assumption 149). -/
theorem managementAndTest : Obligations.ManagementAndTest := by
  intro s _
  refine ⟨fun hrunning => ⟨?offset, ?read, ?refused, ?write, ?alert⟩, ?test, ?bypass, ?idcode, ?sample, fun hon => ?on, fun hoff => ?off⟩
  case offset => exact fun off => congrArg _ (if_pos (by simp [State.smbAnswers, hrunning]))
  case read => exact fun hmay haligned => exec_smbRead hrunning hmay haligned
  case refused =>
    intro hmay
    show execSmbRead true s = _
    simp [execSmbRead, State.smbAnswers, hrunning, hmay]
  case write => exact fun off value haligned => congrArg _ (if_pos (by simp [State.smbAnswers, hrunning, haligned]))
  case alert => exact fun halert => congrArg _ (if_pos (by simp [State.smbAnswers, hrunning, halert]))
  case test =>
    have hcause := State.restart_cause_kept s (cause := 2) (by decide)
    refine ⟨_, rfl, rfl, rfl, (congrArg (bit · 1) hcause).trans ?_⟩
    rw [bit_eq_testBit, Nat.testBit_or, Nat.testBit_or]
    simp [Nat.testBit_two_pow (n := 1)]
  case bypass => exact ⟨_, rfl, rfl, rfl, rfl⟩
  case idcode => exact ⟨_, rfl, rfl, rfl, rfl⟩
  case sample => exact fun data => ⟨_, rfl, rfl, rfl, rfl⟩
  case on =>
    exact ⟨⟨_, rfl, State.tapTest_sampled hon _⟩, ⟨_, rfl, State.tapTest_sampled hon _⟩, ⟨_, rfl, State.tapTest_sampled hon _⟩,
      ⟨_, rfl, State.tapTest_plain hon _⟩, ⟨_, rfl, State.tapTest_plain hon _⟩⟩
  case off =>
    have hbypass (ir : JtagIr) (sample : Bool) : (s.tapTest ir sample).pkg = { s.pkg with ir := .bypass, captured := [false] } ∧
        (s.tapTest ir sample).regs = s.regs ∧ (s.tapTest ir sample).tx = s.tx := by
      rw [State.tapTest_off hoff]
      exact ⟨rfl, rfl, rfl⟩
    intro c hc
    simp only [List.mem_cons, List.not_mem_nil, or_false] at hc
    obtain rfl | rfl | rfl | rfl | rfl := hc
    · exact ⟨_, rfl, hbypass .extest true⟩
    · exact ⟨_, rfl, hbypass .extestPulse true⟩
    · exact ⟨_, rfl, hbypass .extestTrain true⟩
    · exact ⟨_, rfl, hbypass .clamp false⟩
    · exact ⟨_, rfl, hbypass .highz false⟩

end Sys2Proof.Machine
end


section
/-! The beam tables (R131 to R139). -/
namespace Sys2Proof.Machine
open Sys2Proof

theorem State.get_lt (s : State) (f : Field) : s.get f < 2 ^ f.width := Nat.mod_lt _ (Nat.two_pow_pos _)

theorem State.beamActive_lt (s : State) : s.beamActive < 2 := s.get_lt Reg.BFM_BANK_STAT_ACTIVE

/-- A field of `BFM_BANK_STAT` beside `ACTIVE` leaves the active bank. -/
theorem State.beamActive_put {s : State} (hs : s.stored) {f : Field} (v : Nat) (hf : f.ok) (hsep : f.apart Reg.BFM_BANK_STAT_ACTIVE) :
    (s.put f v).beamActive = s.beamActive := State.get_put_other hs _ _ _ hf hsep

/-! ## Loads -/

theorem beamLoadFields_none {c : BeamLoadCmd} (h : beamLoadFields c = none) : c.bank < 2 := by
  unfold beamLoadFields at h
  split at h
  · simpa [rangeUnless] using h
  · simp only [firstFail] at h
    split at h
    next hok => exact (of_decide_eq_true hok).1
    next => exact absurd h (by simp)

/-- A write of the shadow bank shows it loading. -/
theorem State.startWrite_shows {s : State} (hs : s.stored) {w : BeamWrite} (hbank : w.bank < 2) (hshadow : w.bank ≠ s.beamActive) :
    (s.startWrite w).beam = { s.beam with writes := s.beam.writes ++ [w] } ∧ (s.startWrite w).get Reg.BFM_BANK_STAT_LOADING = 1 := by
  have hlt := s.beamActive_lt
  have hw : (w.bank == 1 - s.beamActive) = true := beq_iff_eq.mpr (by omega)
  have hany : ((s.beam.writes ++ [w]).any fun w => w.bank == 1 - s.beamActive) = true := by
    rw [List.any_append, List.any_cons, hw]
    simp
  refine ⟨rfl, (State.get_put (s := { s with beam := _ }) hs _ _ (by decide)).trans ?_⟩
  exact (congrArg (fun b => b2n b % 2) hany).trans rfl

theorem State.TakesNow.exec_beamLoad {s : State} {h : Hdr} (g : s.TakesNow h) {c : BeamLoadCmd} (hflush : c.flush = false)
    (hfields : beamLoadFields c = none) (hidle : s.beam.transition = none) (hshadow : c.bank ≠ s.beamActive) :
    exec (.beamLoad h c) s = .next (s.startWrite ⟨0, some h, c.bank, c.first, c.count, c.src, c.gather, c.index, c.repair, false, []⟩) := by
  show Host.Outcome.next (s.acceptNow h 0x41 (beamLoadFields c) _) = _
  rw [hfields, g.acceptNow]
  simp [hflush, hidle, hshadow]

/-- A flush of a pool with no entry in use is done at once. -/
theorem State.TakesNow.exec_beamLoad_flush {s : State} {h : Hdr} (g : s.TakesNow h) {c : BeamLoadCmd} (hflush : c.flush = true)
    (hbank : c.bank < 2) (hempty : s.flushPool.beam.pool = []) : exec (.beamLoad h c) s = .next (s.flushPool.complete h 0x41 St.done) := by
  have hfields : beamLoadFields c = none := by simp [beamLoadFields, hflush, rangeUnless, hbank]
  show Host.Outcome.next (s.acceptNow h 0x41 (beamLoadFields c) _) = _
  rw [hfields, g.acceptNow]
  simp [hflush, hempty]

/-- At the end of a write the oldest one is gone, and its entries stand where the bus brought them. -/
theorem exec_beamLoadComplete {s : State} {w : BeamWrite} {rest : List BeamWrite} (hfirst : s.beam.writes = w :: rest)
    (hqueued : w.queued = false) (busOk : Bool) :
    ∃ t, exec (.beamLoadComplete busOk) s = .next t ∧ t.beam.writes = rest ∧
      t.devMem = (if busOk then (s.doWrite w).devMem else s.devMem) := by
  show ∃ t, execBeamLoadComplete busOk s = _ ∧ _
  simp only [execBeamLoadComplete, hfirst, hqueued, Bool.false_eq_true, if_false]
  refine ⟨_, rfl, ?_, ?_⟩
  · split
    · rw [State.complete_beam]
      rfl
    · rfl
  · split
    · rw [State.complete_devMem]
      cases busOk <;> rfl
    · cases busOk <;> rfl

/-! ## The pool -/

theorem exec_poolFlushComplete (s : State) :
    ∃ t, exec .poolFlushComplete s = .next t ∧ t.beam.pool = s.beam.pool.filter (fun e => !(e.2.flush && !e.2.referenced s.absTick)) ∧
      t.beam.flushes = if t.beam.pool.any (fun e => e.2.flush) then s.beam.flushes else [] := by
  show ∃ t, execPoolFlushComplete s = _ ∧ _
  unfold execPoolFlushComplete
  dsimp only
  refine ⟨_, rfl, ?_⟩
  split
  next hdone =>
    rw [State.each_reads _ _ _ State.beam fun u h => State.complete_beam u h _ _]
    exact ⟨rfl, (if_neg (by simpa using hdone)).symm⟩
  next hdone => exact ⟨rfl, (if_pos (by simpa using hdone)).symm⟩

/-- A byte of a run of bytes read from host memory. -/
theorem Memory.readBytes_getD (m : Memory) (a : Nat) {n i : Nat} (hi : i < n) :
    BitVec.ofNat 8 ((m.readBytes a n).getD i 0) = Sparse.read m (a + i) := by
  rw [Memory.readBytes_eq_map]
  simp [hi]

theorem Memory.readBytes_length (m : Memory) (a n : Nat) : (m.readBytes a n).length = n := by simp [Memory.readBytes_eq_map]

/-- The two copies of an entry's bytes, one in each bank, do not meet. -/
theorem devMem_both_banks {m : Memory} (hm : Sparse.wf m = true) (entry : Nat) (l : List Nat) (hl : l.length = 256) :
    let m' := (m.writeBytes (beamAddr 0 entry) l).writeBytes (beamAddr 1 entry) l
    (∀ bank i, bank < 2 → i < 256 → Sparse.read m' (beamAddr bank entry + i) = BitVec.ofNat 8 (l.getD i 0)) ∧
      (∀ a, (∀ bank, bank < 2 → a < beamAddr bank entry ∨ beamAddr bank entry + 256 ≤ a) → Sparse.read m' a = Sparse.read m a) := by
  have hm1 := Memory.writeBytes_wf l (beamAddr 0 entry) hm
  constructor
  · intro bank i hbank hi
    obtain rfl | rfl : bank = 0 ∨ bank = 1 := by omega
    · have hbelow : beamAddr 0 entry + i < beamAddr 1 entry := by unfold beamAddr; omega
      rw [Memory.read_writeBytes_outside _ _ _ hm1 (.inl hbelow), Memory.read_writeBytes _ _ _ hm (hl ▸ hi)]
    · rw [Memory.read_writeBytes _ _ _ hm1 (hl ▸ hi)]
  · intro a ha
    rw [Memory.read_writeBytes_outside _ _ _ hm1 (hl.symm ▸ ha 1 (by decide)), Memory.read_writeBytes_outside _ _ _ hm (hl.symm ▸ ha 0 (by decide))]

/-- A page fills its entry in both banks and is marked resident. -/
theorem exec_pageLoadComplete {s : State} {entry : Nat} {e : PoolEntry} (he : s.beam.pool.get? entry = some e) (hnew : e.resident = false) :
    exec (.pageLoadComplete entry) s = .next
      (let bytes := s.hostRead (s.rd64 Reg.BFM_PAGE_BASE + 256 * e.beamId) 256
       let u := (s.devWrite (beamAddr 0 entry) bytes).devWrite (beamAddr 1 entry) bytes
       { u with beam := { u.beam with pool := u.beam.pool.set entry { e with resident := true } } }) := by
  show execPageLoadComplete entry s = _
  simp only [execPageLoadComplete, he, hnew, Bool.false_eq_true, if_false]

theorem exec_pageMissSummary {s : State} (h : s.beam.missCount ≠ 0 ∨ s.beam.missFlags ≠ 0) :
    Answers (exec .pageMissSummary s) { s with beam := { s.beam with missFlags := 0, missFirst := 0, missCount := 0 } } := by
  have hsome : ¬ (s.beam.missCount = 0 && s.beam.missFlags = 0) = true := by simpa [or_iff_not_imp_left] using h
  show Answers (execPageMissSummary s) _
  simp only [execPageMissSummary, if_neg hsome]
  exact .of_reports (State.event_reports _ _ _ _)

/-! ## Swaps -/

/-- A transition's end clears what showed it. -/
theorem exec_beamTransitionEnd {s : State} {tr : BeamTransition} (htr : s.beam.transition = some tr) (hend : tr.stop ≤ s.absTick)
    (hqueue : s.beam.queue = none) :
    exec .beamTransitionEnd s = .next (({ s with beam := { s.beam with transition := none } }.put Reg.BFM_BANK_STAT_BUSY 0).put
      Reg.BFM_BANK_STAT_BLEND 0) := by
  show execBeamTransitionEnd s = _
  simp only [execBeamTransitionEnd, htr, if_neg (not_lt.mpr hend), State.put_beam, hqueue]

theorem exec_heldBeamSwapStart_begins {s : State} {q : HeldBeamSwap} (hstart : s.beam.starting = none) (hq : s.beam.swapQ = some q)
    (hidle : s.beam.transition = none) (hslot : s.slotStart (s.absTick + 2) = true) (hdue : q.eff ≤ s.absTick + 2) :
    exec .heldBeamSwapStart s = .next (s.startHeldSwap q) := by
  show execHeldBeamSwapStart s = _
  simp [execHeldBeamSwapStart, hstart, hq, hidle, hslot, hdue]

theorem exec_heldBeamSwapStart_ends {s : State} {q : HeldBeamSwap} (hstart : s.beam.starting = some q) (hdue : q.eff ≤ s.absTick) :
    exec .heldBeamSwapStart s = .next (s.finishHeldSwap q) := by
  show execHeldBeamSwapStart s = _
  simp [execHeldBeamSwapStart, hstart, hdue]

/-- A transition shows itself, and leaves the rest of what is shown of the banks. -/
theorem State.beginTransition_shows {s : State} (hs : s.stored) (e : Int) (blend : Nat) :
    let t := s.beginTransition e blend
    t.beam = { s.beam with transition := some ⟨e, blend, e + blend + s.mMax + 1⟩ } ∧ t.get Reg.BFM_BANK_STAT_BUSY = 1 ∧
      t.get Reg.BFM_BANK_STAT_SWAP_Q = s.get Reg.BFM_BANK_STAT_SWAP_Q ∧ t.beamActive = s.beamActive := by
  let u := { s with beam := { s.beam with transition := some ⟨e, blend, e + blend + s.mMax + 1⟩ } }.setF Reg.BFM_BANK_STAT_BUSY
  have hv : { s with beam := { s.beam with transition := some ⟨e, blend, e + blend + s.mMax + 1⟩ } }.stored := hs
  have hu : u.stored := State.setF_stored _ hv
  refine ⟨rfl, ?_, ?_, ?_⟩
  · exact (State.get_put_other hu _ _ _ (by decide) (by decide)).trans (State.get_put hv _ _ (by decide))
  · exact (State.get_put_other hu _ _ _ (by decide) (by decide)).trans (State.get_put_other hv _ _ _ (by decide) (by decide))
  · exact (State.beamActive_put hu _ (by decide) (by decide)).trans (State.beamActive_put hv _ (by decide) (by decide))

/-- Air time, and the tick it gives, is read of the clock, the grid and the air offset's register. -/
theorem State.absTick_of {s u : State} (hnow : u.now = s.now) (harch : u.arch = s.arch)
    (hofs : u.rd64 Reg.TIM_AIR_OFS = s.rd64 Reg.TIM_AIR_OFS) : u.absTick = s.absTick := by
  have hair : u.airNs = s.airNs := by
    unfold State.airNs State.airOfs
    rw [hnow, hofs]
  unfold State.absTick State.frame State.tpf State.tick
  rw [hair, harch]

theorem State.mMax_of {s u : State} (htx : u.tx = s.tx) (hrx : u.rx = s.rx) (harch : u.arch = s.arch) : u.mMax = s.mMax := by
  simp only [State.mMax, State.spanOf, htx, hrx, harch]

/-- A held swap begins its transition two ticks ahead. -/
theorem State.startHeldSwap_begins {s : State} (hs : s.stored) (q : HeldBeamSwap) (hshadow : s.shadowBusy = false) :
    let t := s.startHeldSwap q
    t.beam.swapQ = none ∧ t.beam.transition = some ⟨s.absTick + 2, q.blend, s.absTick + 2 + q.blend + s.mMax + 1⟩ ∧
      t.get Reg.BFM_BANK_STAT_BUSY = 1 ∧ t.get Reg.BFM_BANK_STAT_SWAP_Q = 0 ∧ t.beamActive = s.beamActive := by
  let u := { s with beam := { s.beam with swapQ := none } }.put Reg.BFM_BANK_STAT_SWAP_Q 0
  have hu : u.stored := State.put_stored (s := { s with beam := _ }) _ _ hs
  have hactive : u.beamActive = s.beamActive := State.beamActive_put (s := { s with beam := _ }) hs _ (by decide) (by decide)
  have hbusy : ¬ u.shadowBusy = true := by
    rw [State.shadowBusy, hactive]
    exact (Bool.eq_false_iff.mp hshadow)
  have hq : u.get Reg.BFM_BANK_STAT_SWAP_Q = 0 := State.get_put (s := { s with beam := _ }) hs _ _ (by decide)
  have ht : s.startHeldSwap q =
      { u with beam := { u.beam with starting := some { q with eff := u.absTick + 2 } } }.beginTransition (u.absTick + 2) q.blend :=
    if_neg hbusy
  have htick : u.absTick = s.absTick :=
    State.absTick_of rfl rfl (State.rd64_put_ne (s := { s with beam := _ }) hs.1 _ _ (by decide) (by decide))
  have hmax : u.mMax = s.mMax := State.mMax_of rfl rfl rfl
  obtain ⟨hbeam, hb, hsq, hact⟩ := State.beginTransition_shows (s := { u with beam := { u.beam with
    starting := some { q with eff := u.absTick + 2 } } }) hu (u.absTick + 2) q.blend
  intro t
  rw [show t = _ from ht]
  refine ⟨by rw [hbeam]; rfl, ?_, hb, hsq.trans hq, hact.trans hactive⟩
  rw [hbeam, ← htick, ← hmax]
  rfl

/-- At a held swap's boundary the other bank is active. -/
theorem State.finishHeldSwap_flips {s : State} (hs : s.stored) (q : HeldBeamSwap) :
    (s.finishHeldSwap q).beamActive = 1 - s.beamActive ∧ (s.finishHeldSwap q).beam = { s.beam with starting := none } := by
  let v := { s with beam := { s.beam with starting := none } }.flipBeams
  have hp : ({ s with beam := { s.beam with starting := none } }.put Reg.BFM_BANK_STAT_ACTIVE (1 - s.beamActive)).stored :=
    State.put_stored (s := { s with beam := _ }) _ _ hs
  have hv : v.stored := State.put_stored _ _ hp
  have hlt := s.beamActive_lt
  have hactive : v.beamActive = 1 - s.beamActive := by
    refine (State.beamActive_put hp _ (by decide) (by decide)).trans ((State.get_put (s := { s with beam := _ }) hs _ _ (by decide)).trans ?_)
    exact Nat.mod_eq_of_lt (show 1 - s.beamActive < 2 by omega)
  have hbeam : v.beam = { s.beam with starting := none } := rfl
  have hreport : Reports v (s.finishHeldSwap q) := by
    unfold State.finishHeldSwap
    dsimp only
    split
    · exact State.complete_reports _ _ _ _
    · exact .refl _
  exact ⟨(hreport.fields hv _ (by decide)).trans hactive, hreport.beam.trans hbeam⟩

/-- Settles O21: loads, the pool's flush and its pages by what each leaves of the beam's state and of device memory; a held swap by the
transition it begins and the bank it makes active. -/
theorem beamTablesFillAndSwap : Obligations.BeamTablesFillAndSwap := by
  refine ⟨fun s hs => ⟨?load, ?flush, ?complete, ?flushed, ?page, ?misses⟩, fun s hs => ⟨?transitionEnd, ?begins, ?ends⟩⟩
  case load =>
    intro h c g hflush hfields hidle hshadow
    exact ⟨_, g.exec_beamLoad hflush hfields hidle hshadow, State.startWrite_shows hs (beamLoadFields_none hfields) hshadow⟩
  case flush =>
    intro h c g hflush hbank hempty
    rw [g.exec_beamLoad_flush hflush hbank hempty]
    exact .of_reports (State.complete_reports _ _ _ _)
  case complete => exact fun busOk w rest hfirst hqueued _ => exec_beamLoadComplete hfirst hqueued busOk
  case flushed => exact fun _ => exec_poolFlushComplete s
  case page =>
    intro entry e _ he hnew
    obtain ⟨hfilled, hkept⟩ := devMem_both_banks hs.2.2 entry (s.hostRead (s.rd64 Reg.BFM_PAGE_BASE + 256 * e.beamId) 256)
      (Memory.readBytes_length _ _ _)
    refine ⟨_, exec_pageLoadComplete he hnew, rfl, fun bank i hbank hi => ?_, fun a ha => ?_, rfl, rfl⟩
    · dsimp only [State.devWrite]
      exact (hfilled bank i hbank hi).trans (Memory.readBytes_getD _ _ hi)
    · dsimp only [State.devWrite]
      exact hkept a ha
  case misses => exact fun h => exec_pageMissSummary h
  case transitionEnd =>
    intro tr htr hend hqueue
    let u := { s with beam := { s.beam with transition := none } }.put Reg.BFM_BANK_STAT_BUSY 0
    have hu : u.stored := State.put_stored (s := { s with beam := _ }) _ _ hs
    refine ⟨_, exec_beamTransitionEnd htr hend hqueue, rfl, ?_, State.get_put hu _ _ (by decide), ?_⟩
    · exact (State.get_put_other hu _ _ _ (by decide) (by decide)).trans (State.get_put (s := { s with beam := _ }) hs _ _ (by decide))
    · exact (State.beamActive_put hu _ (by decide) (by decide)).trans
        (State.beamActive_put (s := { s with beam := _ }) hs _ (by decide) (by decide))
  case begins =>
    intro q hstart hq hidle hslot hdue hshadow
    exact ⟨_, exec_heldBeamSwapStart_begins hstart hq hidle hslot hdue, State.startHeldSwap_begins hs q hshadow⟩
  case ends =>
    intro q hstart hdue _
    exact ⟨_, exec_heldBeamSwapStart_ends hstart hdue, State.finishHeldSwap_flips hs q⟩

end Sys2Proof.Machine
end


section
/-! Covariance, renormalisation, access detection and frequency offsets (R140 to R161). -/
namespace Sys2Proof.Machine
open Sys2Proof

/-! ## Covariance -/

theorem exec_covSolveStart {s : State} {carrier : Nat} {v : CovSet} (hv : s.beam.cov.get? carrier = some v) (hfilled : 0 ≤ v.lastTick)
    (hdue : v.lastTick + 2 ≤ s.absTick) (hidle : s.beam.solves.has carrier = false) :
    exec (.covSolveStart carrier) s = .next ({ s with beam := { s.beam with
      solves := s.beam.solves.set carrier ⟨s.absTick, v.lastTick + s.tps, []⟩ } }.setF Reg.BFM_COV_STAT_SOLVING) := by
  show execCovSolveStart carrier s = _
  simp [execCovSolveStart, hv, hidle, not_lt.mpr hfilled, not_lt.mpr hdue]

/-- A write to a beam table leaves the beam's sets and solves. -/
theorem State.doWrite_sets (s : State) (w : BeamWrite) :
    (s.doWrite w).beam.solves = s.beam.solves ∧ (s.doWrite w).beam.cov = s.beam.cov := by
  unfold State.doWrite
  dsimp only
  have hbeam := State.each_reads s (List.range w.count)
    (fun s i => s.devWrite (beamAddr w.bank (w.first + i)) (s.writeBytesOf w i)) State.beam fun _ _ => rfl
  exact ⟨congrArg BeamState.solves hbeam, congrArg BeamState.cov hbeam⟩

theorem exec_covSolveEnd {s : State} {carrier : Nat} {v : CovSet} {w : CovSolve} (hv : s.beam.cov.get? carrier = some v)
    (hw : s.beam.solves.get? carrier = some w) (hstop : w.stop ≤ s.absTick) (hswap : v.cfg.autoSwap = false)
    (hidle : s.beam.transition = none) :
    ∃ t, exec (.covSolveEnd carrier) s = .next t ∧ t.beam.solves = s.beam.solves.del carrier ∧
      t.beam.cov.get? carrier = some { v with lastTick := -1, res := [], sums := [] } := by
  show ∃ t, execCovSolveEnd carrier s = _ ∧ _
  simp only [execCovSolveEnd, hv, hw, if_neg (not_lt.mpr hstop), hswap, hidle, Option.isSome_none, Bool.false_eq_true, if_false]
  refine ⟨_, rfl, ?_, ?_⟩
  · rw [State.event_beam, State.put_beam]
    exact congrArg (Tab.del · carrier) (State.doWrite_sets s _).1
  · rw [State.event_beam, State.put_beam]
    exact (Tab.get?_set _ _ _ _).trans (if_pos rfl)

theorem exec_renormalisation {s : State} (hdue : s.beam.normDue ≠ none) :
    Answers (exec .renormalisation s) { s with beam := { s.beam with normMask := s.rd64 Reg.BFM_REMOVED, normDue := none } } := by
  obtain ⟨d, hd⟩ := Option.ne_none_iff_exists'.mp hdue
  show Answers (execRenormalisation s) _
  simp only [execRenormalisation, hd]
  exact .of_reports (State.event_reports _ _ _ _)

/-! ## Access detection -/

theorem State.occasionSummary_reports (s : State) (o : Occasion) (n : Nat) (aborted : Bool) :
    Reports s (s.occasionSummary o n aborted) := State.eventAt_reports _ _ _ _ _

/-- An occasion's detections are records. -/
theorem State.detections_reports (s : State) (o : Occasion) (c : AcdCmd) (l : List (AcdPeak × Bool)) :
    Reports s (s.each l fun s x => s.detection o c l x) :=
  (Reports.refl s).each _ _ fun _ _ g => g.eventAt _ _ _ _

theorem State.add64_rd64 {s : State} (hs : s.stored) (off n : Nat) : (s.add64 off n).rd64 off = (s.rd64 off + n) % 2 ^ 64 :=
  (State.rd64_wr64_same hs.1 off _).trans (Nat.mod_mod _ _)

/-- What an occasion with a configuration leaves: detections are raised and counted, and so is the occasion. -/
theorem State.countOccasion {s u v t : State} (hs : s.stored) (hshown : u = s.showOccasions) (hv : Reports u v) {n : Nat}
    (ht : Reports ((v.add64 Reg.ACD_DET_CNT n).add64 Reg.ACD_OCC_CNT 1) t) :
    t.beam = s.beam ∧ t.rd64 Reg.ACD_OCC_CNT = (s.rd64 Reg.ACD_OCC_CNT + 1) % 2 ^ 64 := by
  subst hshown
  have hu : s.showOccasions.stored := State.put_stored _ _ hs
  have hvs : v.stored := hv.stored hu
  have hd : (v.add64 Reg.ACD_DET_CNT n).stored := State.add64_stored _ _ hvs
  refine ⟨ht.beam.trans hv.beam, ?_⟩
  calc t.rd64 Reg.ACD_OCC_CNT
      = ((v.add64 Reg.ACD_DET_CNT n).add64 Reg.ACD_OCC_CNT 1).rd64 Reg.ACD_OCC_CNT :=
        ht.rd64 (State.add64_stored _ _ hd) (by decide) (by decide)
    _ = ((v.add64 Reg.ACD_DET_CNT n).rd64 Reg.ACD_OCC_CNT + 1) % 2 ^ 64 := State.add64_rd64 hd _ _
    _ = (v.rd64 Reg.ACD_OCC_CNT + 1) % 2 ^ 64 := by
        rw [show (v.add64 Reg.ACD_DET_CNT n).rd64 Reg.ACD_OCC_CNT = v.rd64 Reg.ACD_OCC_CNT from
          State.rd64_wr64_ne hvs.1 _ _ (by decide) (by decide) (by decide)]
    _ = (s.rd64 Reg.ACD_OCC_CNT + 1) % 2 ^ 64 := by
        rw [hv.rd64 hu (by decide) (by decide), show s.showOccasions.rd64 Reg.ACD_OCC_CNT = s.rd64 Reg.ACD_OCC_CNT from
          State.rd64_put_ne hs.1 _ _ (by decide) (by decide)]

theorem exec_occasionEnd {s : State} (hs : s.stored) {config time : Nat} (peaks : List AcdPeak) {o : Occasion}
    (ho : s.beam.occasions.find? (fun o => o.config == config && o.time == time && o.processing) = some o) :
    ∃ t, exec (.occasionEnd config time peaks) s = .next t ∧ t.beam = { s.beam with occasions := s.beam.occasions.erase o } ∧
      (o.aborted = false → s.beam.acd.has config = true →
        t.rd64 Reg.ACD_OCC_CNT = (s.rd64 Reg.ACD_OCC_CNT + 1) % 2 ^ 64) ∧
      (o.aborted = true → t.get Reg.ACD_STAT_ABORTED = 1) := by
  let s1 : State := { s with beam := { s.beam with occasions := s.beam.occasions.erase o } }
  have hs1 : s1.stored := hs
  have hput : s1.showOccasions.stored := State.put_stored _ _ hs1
  have haborted : Reports (s1.showOccasions.setF Reg.ACD_STAT_ABORTED)
      ((s1.showOccasions.setF Reg.ACD_STAT_ABORTED).occasionSummary o 0 true) := State.occasionSummary_reports _ _ _ _
  have hshows : ((s1.showOccasions.setF Reg.ACD_STAT_ABORTED).occasionSummary o 0 true).get Reg.ACD_STAT_ABORTED = 1 :=
    (haborted.fields (State.setF_stored _ hput) _ (by decide)).trans (State.get_put hput _ _ (by decide))
  show ∃ t, execOccasionEnd config time peaks s = _ ∧ _
  simp only [execOccasionEnd, ho]
  refine ⟨_, rfl, ?_⟩
  cases ha : o.aborted with
  | true => exact ⟨haborted.beam, fun h => absurd h (by decide), fun _ => hshows⟩
  | false =>
    cases hc : s.beam.acd.get? config with
    | none =>
      have hno : ¬ s.beam.acd.has config = true := by simp [Tab.has, hc]
      have hnone : s1.showOccasions.beam.acd.get? config = none := hc
      simp only [s1] at hnone
      simp only [hnone]
      exact ⟨haborted.beam, fun _ h => absurd h hno, fun h => absurd h (by decide)⟩
    | some c =>
      have hsome : s1.showOccasions.beam.acd.get? config = some c := hc
      simp only [s1] at hsome
      simp only [hsome]
      obtain ⟨hbeam, hcount⟩ := State.countOccasion hs1 rfl (State.detections_reports s1.showOccasions o c _)
        (State.occasionSummary_reports _ o _ false)
      exact ⟨hbeam, fun _ _ => hcount, fun h => absurd h (by decide)⟩

/-! ## Frequency offsets -/

theorem exec_foMeasurement {s : State} {entry layer : Nat} {offset : Int} (power : Int) (snr : Nat) (tainted : Bool) {c : FoCmd}
    {num khz : Nat} (hc : s.beam.fo.get? entry = some c) (hlayer : bit c.layerMask layer = true)
    (hset : s.setCarrier 1 c.carrier = some (num, khz)) (hlow : -(scsKhz num * 500 : Int) ≤ offset) (hhigh : offset ≤ scsKhz num * 500) :
    exec (.foMeasurement entry layer offset power snr tainted) s = .next
      (s.event 0x0024 0x0403 ([entry, layer] ++ bytesLE 2 (ux 10 s.frame) ++ [s.slotOfCarrier 1 c.carrier, b2n tainted] ++
        bytesLE 2 (ux 16 power) ++ bytesLE 4 (ux 32 offset) ++ bytesLE 2 (min snr 65535))) := by
  show execFoMeasurement entry layer offset power snr tainted s = _
  simp only [execFoMeasurement, hc, hlayer, hset, if_neg (not_lt.mpr hlow), if_neg (not_lt.mpr hhigh), Bool.not_true, Bool.false_eq_true,
    if_false]

/-- Settles O22: one equation for each step of the covariance, renormalisation, detection and frequency offset units. -/
theorem covarianceAndDetection : Obligations.CovarianceAndDetection := by
  refine fun s hs => ⟨?start, ?stop, fun h => exec_renormalisation h, fun config time peaks o ho => exec_occasionEnd hs peaks ho, ?offset⟩
  case start =>
    intro carrier v hv hfilled hdue hidle
    exact ⟨_, exec_covSolveStart hv hfilled hdue hidle, State.setF_beam _ _, State.get_put (s := { s with beam := _ }) hs _ _ (by decide)⟩
  case stop => exact fun carrier v w hv hw hstop hswap hidle => exec_covSolveEnd hv hw hstop hswap hidle
  case offset => exact fun entry layer offset power snr tainted c num khz hc hlayer hset hlow hhigh =>
    exec_foMeasurement power snr tainted hc hlayer hset hlow hhigh

end Sys2Proof.Machine
end


section
/-! Levee (R166 to R178). -/
namespace Sys2Proof.Machine
open Sys2Proof

/-! ## Limits -/

theorem exec_limitsInForce {s : State} {l : PendingLimits} (hl : s.levee.pending = some l) (hframe : s.atFrame = true)
    (hallowed : s.txAllowed = true) :
    exec .limitsInForce s = .next
      (((({ s with levee := { s.levee with pending := none } }.put Reg.LVE_STAT_PENDING 0).showLimits l.words l.version).event
        0x0038 0x0504 ([1] ++ bytesLE 2 l.version)).enforceLimits) := by
  show execLimitsInForce s = _
  simp only [execLimitsInForce, hl, hframe, hallowed, State.when, Bool.not_true, Bool.false_eq_true, if_false]

/-! ## Dwells -/

/-- A dwell within the path's limit is kept, and mutes nothing. -/
theorem State.takeDwell_within {s : State} {path : Nat} {cpl : Int} (mean : Int) (h : cpl ≤ s.limitPath + 50) :
    s.takeDwell path cpl mean = { s with levee := { s.levee with
      dwells := s.levee.dwells.set path ⟨((cpl - mean) :: (s.dwells path).gains).take 4, 0, cpl⟩ } } := by
  simp only [State.takeDwell, gt_iff_lt, if_neg (not_lt.mpr h), ge_iff_le, nonpos_iff_eq_zero, OfNat.ofNat_ne_zero, if_false]

theorem exec_leveeDwell {s : State} {path : Nat} {pw : Int} {o : DwellObs} (hpower : o.obsPower = some pw) (hsound : o.nonZero = true)
    (hthrough : o.txThroughout = true) (hallowed : s.txAllowed = true) (hturn : s.dwellTurn (path / 8) = some (path % 8))
    (hlow : s.limitPath - 2000 ≤ pw - s.coupling) (hhigh : pw - s.coupling ≤ s.limitPath + 50) :
    exec (.leveeDwell path o) s = .next { s with levee := { s.levee with
      turn := s.levee.turn.set (path / 8) ((path % 8 + 1) % 8),
      dwells := s.levee.dwells.set path ⟨((pw - s.coupling - o.meanPower) :: (s.dwells path).gains).take 4, 0, pw - s.coupling⟩ } } := by
  let u : State := { s with levee := { s.levee with turn := s.levee.turn.set (path / 8) ((path % 8 + 1) % 8) } }
  have hword : ∀ i, u.limitWord i = s.limitWord i := fun _ => rfl
  have hlimit : u.limitPath = s.limitPath := by simp only [State.limitPath, hword]
  have hcoupling : u.coupling = s.coupling := by simp only [State.coupling, hword]
  have hvalid : (o.nonZero && decide (pw - u.coupling ≥ u.limitPath - 2000)) = true := by
    rw [hsound, hcoupling, hlimit, Bool.true_and]
    exact decide_eq_true hlow
  have hshut : ¬ (!s.txAllowed || decide (s.dwellTurn (path / 8) ≠ some (path % 8)) || !o.txThroughout) = true := by
    simp [hallowed, hturn, hthrough]
  have hexec : exec (.leveeDwell path o) s = .next (u.takeDwell path (pw - u.coupling) o.meanPower) := by
    show execLeveeDwell path o s = _
    simp only [execLeveeDwell, hpower, if_neg hshut]
    exact congrArg Host.Outcome.next (if_pos hvalid)
  have hwithin : pw - u.coupling ≤ u.limitPath + 50 := by rwa [hcoupling, hlimit]
  rw [hexec, State.takeDwell_within o.meanPower hwithin, hcoupling]
  rfl

/-! ## Observation receivers -/

theorem exec_obsReferenceCheck {s : State} {tile : Nat} (hon : s.tileGated tile = false)
    (hfailed : bit (s.get Reg.LVE_STAT_OBS_FAIL) tile = true) :
    let u : State := { s with levee := { s.levee with obsPasses := s.levee.obsPasses.set tile (s.levee.obsPasses.getD tile 0 + 1) } }
    exec (.obsReferenceCheck tile true true) s = .next (if s.levee.obsPasses.getD tile 0 = 0 then u else u.obsRestore tile) := by
  intro u
  have hexec : exec (.obsReferenceCheck tile true true) s =
      .next (if s.levee.obsPasses.getD tile 0 + 1 ≥ 2 then u.obsRestore tile else u) := by
    show execObsReferenceCheck tile true true s = _
    simp only [execObsReferenceCheck, hon, hfailed, Bool.not_true, Bool.or_false, Bool.false_eq_true, if_false, u]
  rw [hexec]
  by_cases hfirst : s.levee.obsPasses.getD tile 0 = 0
  · rw [if_pos hfirst, if_neg (by omega)]
  · rw [if_neg hfirst, if_pos (by omega)]

/-! ## Mutes -/

/-- A mask with one bit names one path. -/
theorem maskList_two_pow {p n : Nat} (hp : p < n) : maskList (2 ^ p) n = [p] := by
  have hbit : ∀ i, bit (2 ^ p) i = (i == p) := fun i => by rw [bit_eq_testBit, Nat.testBit_two_pow, beq_eq_decide]; simp only [eq_comm]
  unfold maskList
  rw [show (fun i => bit (2 ^ p) i) = (fun i => i == p) from funext hbit, List.filter_beq,
    List.count_eq_one_of_mem List.nodup_range (List.mem_range.mpr hp), List.replicate_one]

theorem State.applyUnmute_single {s : State} (h : Hdr) {path : Nat} (hp : path < 64) (hcan : s.unmutable path = true)
    (hmuted : s.muted path = true) :
    Reports (let u := s.unmutePath path 0
      { u with line := { u.line with remote := maskOf ((maskList s.line.remote 64).filter fun p => p != path) } })
      (s.applyUnmute h (2 ^ path)) := by
  have hwere : (maskList (2 ^ path) 64).filter s.muted = [path] := by rw [maskList_two_pow hp]; simp [hmuted]
  have hlifted : [path].filter (fun p => s.unmutable p || (s.levee.mutes.getD p ⟨0, 0⟩).cause == 1) = [path] :=
    by
    rw [List.filter_singleton, hcan, Bool.true_or, cond_true]
  have hfree : [path].filter s.unmutable = [path] := by simp [hcan]
  have hleft : (fun p => !([path].contains p)) = fun p => p != path := funext fun p => by simp [bne, beq_eq_decide]
  unfold State.applyUnmute
  simp only [hwere, hlifted, hfree, hleft]
  exact State.complete_reports _ _ _ _

theorem State.TakesNow.exec_leveeUnmute {s : State} {h : Hdr} (g : s.TakesNow h) {path : Nat} (hp : path < 64)
    (hcan : s.unmutable path = true) (hmuted : s.muted path = true) :
    Answers (exec (.leveeUnmute h (2 ^ path)) s) (let u := s.unmutePath path 0
      { u with line := { u.line with remote := maskOf ((maskList s.line.remote 64).filter fun p => p != path) } }) := by
  have hrange : rangeUnless [decide (0 < 2 ^ path ∧ 2 ^ path < 2 ^ 64)] = none := by
    have hlt : 2 ^ path < 2 ^ 64 := Nat.pow_lt_pow_right (by decide) hp
    rw [rangeUnless, List.all_cons, decide_eq_true ⟨Nat.two_pow_pos _, hlt⟩]
    rfl
  have hexec : exec (.leveeUnmute h (2 ^ path)) s = .next (s.applyUnmute h (2 ^ path)) := by
    show execLeveeUnmute h (2 ^ path) s = _
    rw [execLeveeUnmute, hrange, g.acceptNow]
  exact ⟨_, hexec, State.applyUnmute_single h hp hcan hmuted⟩

/-- Settles O23: one equation for each step of Levee. -/
theorem leveeKeepsItsLimits : Obligations.LeveeKeepsItsLimits := fun _ _ =>
  ⟨fun _ hl hframe hallowed => exec_limitsInForce hl hframe hallowed,
    fun _ _ _ hpower hsound hthrough hallowed hturn hlow hhigh =>
      exec_leveeDwell hpower hsound hthrough hallowed hturn hlow hhigh,
    fun _ hon hfailed => exec_obsReferenceCheck hon hfailed,
    fun _ _ g hp hcan hmuted => g.exec_leveeUnmute hp hcan hmuted⟩

end Sys2Proof.Machine
end


section
/-! A field's value followed through a command's writes: each operation on the state leaves it, or writes it. -/
namespace Sys2Proof.Machine
open Sys2Proof

/-- A state whose stores are canonical shows a field's value. -/
structure State.Shows (s : State) (f : Field) (v : Nat) : Prop where
  stored : s.stored
  value : s.get f = v

theorem State.shows {s : State} (hs : s.stored) (f : Field) : s.Shows f (s.get f) := ⟨hs, rfl⟩

theorem State.put_shows {s : State} (hs : s.stored) (f : Field) (v : Nat) {w : Nat} (hv : v % 2 ^ f.width = w := by rfl)
    (hf : f.ok := by decide) : (s.put f v).Shows f w := ⟨State.put_stored _ _ hs, (State.get_put hs _ _ hf).trans hv⟩

theorem State.setF_shows {s : State} (hs : s.stored) (f : Field) (hw : 1 % 2 ^ f.width = 1 := by rfl) (hf : f.ok := by decide) :
    (s.setF f).Shows f 1 := State.put_shows hs f 1 hw hf

namespace State.Shows

section
variable {s t u : State} {f : Field} {v : Nat} (h : s.Shows f v)
include h

theorem on (hv : v = 1 := by rfl) : s.on f = true := by rw [State.on, h.value, hv]; rfl

theorem off (hv : v = 0 := by rfl) : s.on f = false := by rw [State.on, h.value, hv]; rfl

/-- A state with the same registers and memories. -/
theorem upd (hregs : t.regs = s.regs := by rfl) (hhost : t.hostMem = s.hostMem := by rfl) (hdev : t.devMem = s.devMem := by rfl) :
    t.Shows f v := by
  refine ⟨?_, (State.get_of_regs hregs _).trans h.value⟩
  unfold State.stored
  rw [hregs, hhost, hdev]
  exact h.stored

/-! A unit's own part is not among the stores. -/

theorem updTx (x : TxState) : ({ s with tx := x } : State).Shows f v := ⟨h.stored, h.value⟩

theorem updRx (x : RxState) : ({ s with rx := x } : State).Shows f v := ⟨h.stored, h.value⟩

theorem updBeam (x : BeamState) : ({ s with beam := x } : State).Shows f v := ⟨h.stored, h.value⟩

theorem updLevee (x : LeveeState) : ({ s with levee := x } : State).Shows f v := ⟨h.stored, h.value⟩

theorem updRct (x : RadioState) : ({ s with rct := x } : State).Shows f v := ⟨h.stored, h.value⟩

theorem updFh (x : FhState) : ({ s with fh := x } : State).Shows f v := ⟨h.stored, h.value⟩

theorem updLine (x : LineState) : ({ s with line := x } : State).Shows f v := ⟨h.stored, h.value⟩

theorem updCul (x : CulvertState) : ({ s with cul := x } : State).Shows f v := ⟨h.stored, h.value⟩

theorem updTim (x : TimeState) : ({ s with tim := x } : State).Shows f v := ⟨h.stored, h.value⟩

theorem updEng (x : EngState) : ({ s with eng := x } : State).Shows f v := ⟨h.stored, h.value⟩

theorem updSlu (x : SluState) : ({ s with slu := x } : State).Shows f v := ⟨h.stored, h.value⟩

theorem updSea (x : SeaState) : ({ s with sea := x } : State).Shows f v := ⟨h.stored, h.value⟩

theorem updBoot (x : BootState) : ({ s with boot := x } : State).Shows f v := ⟨h.stored, h.value⟩

theorem updPwr (x : PwrState) : ({ s with pwr := x } : State).Shows f v := ⟨h.stored, h.value⟩

theorem updHka (x : HkaState) : ({ s with hka := x } : State).Shows f v := ⟨h.stored, h.value⟩

theorem updGau (x : GauState) : ({ s with gau := x } : State).Shows f v := ⟨h.stored, h.value⟩

theorem put {g : Field} {w : Nat} (hg : g.ok ∧ g.apart f := by decide) : (s.put g w).Shows f v :=
  ⟨State.put_stored _ _ h.stored, (State.get_put_other h.stored _ _ _ hg.1 hg.2).trans h.value⟩

theorem setF {g : Field} (hg : g.ok ∧ g.apart f := by decide) : (s.setF g).Shows f v := h.put hg

theorem wr {off w : Nat} (hsep : f.reg ≠ off := by decide) : (s.wr off w).Shows f v :=
  ⟨State.wr_stored _ _ h.stored, (State.get_wr_ne h.stored.1 _ _ _ hsep).trans h.value⟩

theorem wr64 {off w : Nat} (hsep : f.reg ≠ off ∧ f.reg ≠ off + 4 := by decide) : (s.wr64 off w).Shows f v :=
  (h.wr hsep.1).wr hsep.2

theorem add64 {off n : Nat} (hsep : f.reg ≠ off ∧ f.reg ≠ off + 4 := by decide) : (s.add64 off n).Shows f v := h.wr64 hsep

theorem satAdd {g : Field} {n : Nat} (hg : g.ok ∧ g.apart f := by decide) : (s.satAdd g n).Shows f v := h.put hg

theorem hostWrite {a : Nat} {l : List Nat} : (s.hostWrite a l).Shows f v := ⟨State.hostWrite_stored _ _ h.stored, h.value⟩

theorem devWrite {a : Nat} {l : List Nat} : (s.devWrite a l).Shows f v := ⟨State.devWrite_stored _ _ h.stored, h.value⟩

theorem reports (hr : Reports s t) (hf : recordField f = false := by decide) : t.Shows f v :=
  ⟨hr.stored h.stored, (hr.fields h.stored _ hf).trans h.value⟩

theorem event {src code : Nat} {args : List Nat} (hf : recordField f = false := by decide) : (s.event src code args).Shows f v :=
  h.reports (State.event_reports _ _ _ _) hf

theorem complete {hdr : Hdr} {op status : Nat} (hf : recordField f = false := by decide) : (s.complete hdr op status).Shows f v :=
  h.reports (State.complete_reports _ _ _ _) hf

theorem completeR {hdr : Hdr} {op status : Nat} {l : List Nat} (hf : recordField f = false := by decide) :
    (s.completeR hdr op status l).Shows f v :=
  h.reports (State.completeR_reports _ _ _ _ _) hf

theorem each {α : Type} {l : List α} {run : State → α → State} (hrun : ∀ u x, u.Shows f v → (run u x).Shows f v) :
    (s.each l run).Shows f v := State.each_induct l run h fun u hu x _ => hrun u x hu

theorem when {c : Bool} {run : State → State} (hrun : s.Shows f v → (run s).Shows f v) : (s.when c run).Shows f v := by
  unfold State.when
  split
  · exact hrun h
  · exact h

end

theorem ite {t u : State} {f : Field} {v : Nat} {c : Prop} [Decidable c] (ht : t.Shows f v) (hu : u.Shows f v) :
    (if c then t else u).Shows f v := by
  split <;> assumption

end State.Shows

end Sys2Proof.Machine
end


section
/-! The synthesisers (R46, R47). -/
namespace Sys2Proof.Machine
open Sys2Proof

theorem State.Shows.startSynthCal {s : State} {f : Field} {v : Nat} (h : s.Shows f v) (cause : Nat) (hdrs : List Hdr)
    (hbusy : Reg.CLK_SYN_STAT_CAL_BUSY.apart f := by decide) (hok : Reg.CLK_SYN_STAT_SYNTH_OK.apart f := by decide)
    (htx : Reg.CLK_SYN_STAT_TX_LOCK.apart f := by decide) (hrx : Reg.CLK_SYN_STAT_RX_LOCK.apart f := by decide) :
    (s.startSynthCal cause hdrs).Shows f v := by
  let u : State := { s with rct := { s.rct with synth := some ⟨cause, s.now, hdrs⟩, driftSince := none } }
  have hu : u.Shows f v := h.upd
  exact (((hu.put ⟨by decide, hbusy⟩).put ⟨by decide, hok⟩).put ⟨by decide, htx⟩).put ⟨by decide, hrx⟩

/-- A calibration that starts shows itself, and `SYNTH_OK` low. -/
theorem State.startSynthCal_shows {s : State} (hs : s.stored) (cause : Nat) (hdrs : List Hdr) :
    (s.startSynthCal cause hdrs).Shows Reg.CLK_SYN_STAT_CAL_BUSY 1 ∧ (s.startSynthCal cause hdrs).Shows Reg.CLK_SYN_STAT_SYNTH_OK 0 := by
  let u : State := { s with rct := { s.rct with synth := some ⟨cause, s.now, hdrs⟩, driftSince := none } }
  have hbusy : (u.put Reg.CLK_SYN_STAT_CAL_BUSY 1).Shows Reg.CLK_SYN_STAT_CAL_BUSY 1 := State.put_shows (s := u) hs _ _
  exact ⟨hbusy.put.put.put, (State.put_shows hbusy.stored _ _).put.put⟩

theorem State.startSynthCal_rct (s : State) (cause : Nat) (hdrs : List Hdr) :
    (s.startSynthCal cause hdrs).rct = { s.rct with synth := some ⟨cause, s.now, hdrs⟩, driftSince := none } := rfl

/-- A lost lock up to its record: the locks, `SYNTH_OK`, `LOST`, the decimators' grid and `SYNCED`. -/
def State.synthUnlocked (s : State) (which : Nat) : State :=
  let s := s.when (which ≠ 1) fun s => s.put Reg.CLK_SYN_STAT_TX_LOCK 0
  let s := s.when (which ≠ 0) fun s => s.put Reg.CLK_SYN_STAT_RX_LOCK 0
  let s := (s.put Reg.CLK_SYN_STAT_SYNTH_OK 0).setF Reg.CLK_SYN_STAT_LOST
  let s := { s with rx := { s.rx with grid := none } }
  s.put Reg.TIM_SYNC_STAT_SYNCED 0

theorem State.synthLost_eq (s : State) (which : Nat) :
    s.synthLost which =
      let u := (s.synthUnlocked which).event 0x0002 0x0521 [0, which, 0, 0, 2]
      if u.on Reg.DEV_BOOT_STAT_REF_OK && u.rct.synth.isNone then u.startSynthCal 2 [] else u := rfl

theorem State.synthUnlocked_rx (s : State) (which : Nat) : (s.synthUnlocked which).rx = { s.rx with grid := none } := by
  unfold State.synthUnlocked State.when
  split <;> split <;> rfl

theorem State.synthUnlocked_rct (s : State) (which : Nat) : (s.synthUnlocked which).rct = s.rct := by
  unfold State.synthUnlocked State.when
  split <;> split <;> rfl

theorem State.synthUnlocked_now (s : State) (which : Nat) : (s.synthUnlocked which).now = s.now := by
  unfold State.synthUnlocked State.when
  split <;> split <;> rfl

theorem State.synthUnlocked_shows {s : State} (hs : s.stored) (which : Nat) :
    let u := s.synthUnlocked which
    u.Shows Reg.CLK_SYN_STAT_SYNTH_OK 0 ∧ u.Shows Reg.CLK_SYN_STAT_LOST 1 ∧ u.Shows Reg.TIM_SYNC_STAT_SYNCED 0 ∧
      u.Shows Reg.DEV_BOOT_STAT_REF_OK (s.get Reg.DEV_BOOT_STAT_REF_OK) := by
  let a := s.when (which ≠ 1) fun s => s.put Reg.CLK_SYN_STAT_TX_LOCK 0
  let b := a.when (which ≠ 0) fun s => s.put Reg.CLK_SYN_STAT_RX_LOCK 0
  have href : b.Shows Reg.DEV_BOOT_STAT_REF_OK (s.get Reg.DEV_BOOT_STAT_REF_OK) :=
    ((State.shows hs _).when fun h => h.put).when fun h => h.put
  let c := (b.put Reg.CLK_SYN_STAT_SYNTH_OK 0).setF Reg.CLK_SYN_STAT_LOST
  have hok : (b.put Reg.CLK_SYN_STAT_SYNTH_OK 0).Shows Reg.CLK_SYN_STAT_SYNTH_OK 0 := State.put_shows href.stored _ _
  have hlost : c.Shows Reg.CLK_SYN_STAT_LOST 1 := State.setF_shows hok.stored _
  have hgrid : ({ c with rx := { c.rx with grid := none } } : State).stored := hlost.stored
  have hc : ∀ {f v}, c.Shows f v → ({ c with rx := { c.rx with grid := none } } : State).Shows f v := fun h => h.upd
  exact ⟨(hc hok.setF).put, (hc hlost).put, State.put_shows hgrid _ _, (hc href.put.setF).put⟩

/-- A lost lock: `SYNTH_OK` and the grid fall, and a calibration starts where the reference is good and none runs. -/
theorem State.synthLost_shows {s : State} (hs : s.stored) (which : Nat) :
    let t := s.synthLost which
    t.get Reg.CLK_SYN_STAT_SYNTH_OK = 0 ∧ t.get Reg.CLK_SYN_STAT_LOST = 1 ∧ t.get Reg.TIM_SYNC_STAT_SYNCED = 0 ∧
      t.rx = { s.rx with grid := none } ∧
      (s.on Reg.DEV_BOOT_STAT_REF_OK = true → s.rct.synth = none → t.rct.synth = some ⟨2, s.now, []⟩) := by
  obtain ⟨hok, hlost, hsynced, href⟩ := State.synthUnlocked_shows hs which
  let u := (s.synthUnlocked which).event 0x0002 0x0521 [0, which, 0, 0, 2]
  have hrecord : Reports (s.synthUnlocked which) u := State.event_reports _ _ _ _
  have hrx : u.rx = { s.rx with grid := none } := hrecord.rx.trans (State.synthUnlocked_rx s which)
  have hrct : u.rct = s.rct := hrecord.rct.trans (State.synthUnlocked_rct s which)
  have hnow : u.now = s.now := hrecord.now.trans (State.synthUnlocked_now s which)
  intro t
  have ht : t = if (u.on Reg.DEV_BOOT_STAT_REF_OK && u.rct.synth.isNone) = true then u.startSynthCal 2 [] else u := s.synthLost_eq which
  rw [ht]
  refine ⟨?_, ?_, ?_, ?_, fun hgood hidle => ?_⟩
  · exact (State.Shows.ite (State.startSynthCal_shows (hok.event).stored 2 []).2 hok.event).value
  · exact (State.Shows.ite (hlost.event.startSynthCal 2 []) hlost.event).value
  · exact (State.Shows.ite (hsynced.event.startSynthCal 2 []) hsynced.event).value
  · split
    · exact hrx
    · exact hrx
  · have hstart : (u.on Reg.DEV_BOOT_STAT_REF_OK && u.rct.synth.isNone) = true := by
      rw [hrct, hidle, State.on, (href.event : u.Shows _ _).value]
      rwa [Option.isNone_none, Bool.and_true]
    rw [if_pos hstart, State.startSynthCal_rct, hnow]

theorem exec_driftRecalibration {s : State} {since : Nat} (hsince : s.rct.driftSince = some since) (hidle : s.rct.synth = none)
    (hgood : s.on Reg.DEV_BOOT_STAT_REF_OK = true) (hgap : s.gapNow = true) :
    exec .driftRecalibration s = .next (s.startSynthCal 1 []) := by
  show execDriftRecalibration s = _
  simp only [execDriftRecalibration, hsince, hidle, hgood, hgap, Option.isSome_none, Bool.not_true, Bool.or_false, Bool.true_or,
    Bool.false_eq_true, if_false, if_true]

/-- A calibration's end up to the bring-up's part of it: both synthesisers lock, and the decimators ask for a synchronisation. -/
def State.synthLocked (s : State) (calUs : Nat) (c : SynthCal) : State :=
  let s := { s with rct := { s.rct with synth := none, calTemp := s.junction } }
  let s := ((s.put Reg.CLK_SYN_STAT_CAL_BUSY 0).put Reg.CLK_SYN_STAT_TX_LOCK 1).put Reg.CLK_SYN_STAT_RX_LOCK 1
  let s := s.setF Reg.CLK_SYN_STAT_SYNTH_OK
  let s := s.put Reg.CLK_SYN_STAT_RECALS (s.get Reg.CLK_SYN_STAT_RECALS + 1)
  let own : PendingSync := ⟨refEdgeAfter s.now, 2, none, false⟩
  let s := { s with rx := { s.rx with grid := none, syncs := s.rx.syncs ++ [own] } }
  let s := s.put Reg.TIM_SYNC_STAT_SYNCED 0
  let kind := if c.cause = 0 || c.cause = 1 then 2 else 1
  let s := s.event 0x0002 0x0521 ([kind, 2] ++ bytesLE 2 (min calUs 65535) ++ [c.cause])
  s.each c.hdrs fun s h => s.complete h 0x55 St.done

theorem exec_synthCalibrationDone {s : State} {c : SynthCal} (hc : s.rct.synth = some c) (us : Nat) :
    exec (.synthCalibrationDone us) s = .next
      (let u := s.synthLocked us c
       if u.boot.step = 9 then
         let u := (u.put Reg.DEV_TICK_STAT_MIN_MARGIN 0xFFFF).milestone 10 0xFF
         { u with boot := { u.boot with cal := some ⟨u.boot.bootTile, u.now, false⟩ } }
       else u) := by
  show execSynthCalibrationDone us s = _
  simp only [execSynthCalibrationDone, hc]
  rfl

/-- What a calibration's end leaves in the registers of the synthesisers. -/
structure State.SynthIsLocked (s : State) : Prop where
  busy : s.Shows Reg.CLK_SYN_STAT_CAL_BUSY 0
  tx : s.Shows Reg.CLK_SYN_STAT_TX_LOCK 1
  rx : s.Shows Reg.CLK_SYN_STAT_RX_LOCK 1
  ok : s.Shows Reg.CLK_SYN_STAT_SYNTH_OK 1

theorem State.SynthIsLocked.reports {s t : State} (h : s.SynthIsLocked) (hr : Reports s t) : t.SynthIsLocked :=
  ⟨h.busy.reports hr, h.tx.reports hr, h.rx.reports hr, h.ok.reports hr⟩

theorem State.SynthIsLocked.updBoot {s : State} (h : s.SynthIsLocked) (b : BootState) :
    ({ s with boot := b } : State).SynthIsLocked := ⟨h.busy.updBoot b, h.tx.updBoot b, h.rx.updBoot b, h.ok.updBoot b⟩

/-- A milestone counts the step reached, and raises its record. -/
theorem State.milestone_reports (s : State) (step tile : Nat) :
    Reports { s with boot := { s.boot with step := max s.boot.step step } } (s.milestone step tile) := State.event_reports _ _ _ _

theorem State.milestone_rct (s : State) (step tile : Nat) : (s.milestone step tile).rct = s.rct := (s.milestone_reports step tile).rct

theorem State.milestone_rx (s : State) (step tile : Nat) : (s.milestone step tile).rx = s.rx := (s.milestone_reports step tile).rx

theorem State.SynthIsLocked.milestone {s : State} (h : s.SynthIsLocked) (step tile : Nat) : (s.milestone step tile).SynthIsLocked :=
  (h.updBoot _).reports (s.milestone_reports step tile)

/-- A calibration's end before its records. -/
def State.synthRelocked (s : State) : State :=
  let s := { s with rct := { s.rct with synth := none, calTemp := s.junction } }
  let s := ((s.put Reg.CLK_SYN_STAT_CAL_BUSY 0).put Reg.CLK_SYN_STAT_TX_LOCK 1).put Reg.CLK_SYN_STAT_RX_LOCK 1
  let s := s.setF Reg.CLK_SYN_STAT_SYNTH_OK
  let s := s.put Reg.CLK_SYN_STAT_RECALS (s.get Reg.CLK_SYN_STAT_RECALS + 1)
  let own : PendingSync := ⟨refEdgeAfter s.now, 2, none, false⟩
  let s := { s with rx := { s.rx with grid := none, syncs := s.rx.syncs ++ [own] } }
  s.put Reg.TIM_SYNC_STAT_SYNCED 0

theorem State.synthLocked_reports (s : State) (us : Nat) (c : SynthCal) : Reports s.synthRelocked (s.synthLocked us c) :=
  (State.event_reports _ _ _ _).each _ _ fun _ _ g => g.complete _ _ _

theorem State.synthRelocked_locked {s : State} (hs : s.stored) : s.synthRelocked.SynthIsLocked := by
  let a : State := { s with rct := { s.rct with synth := none, calTemp := s.junction } }
  have hbusy : (a.put Reg.CLK_SYN_STAT_CAL_BUSY 0).Shows Reg.CLK_SYN_STAT_CAL_BUSY 0 := State.put_shows (s := a) hs _ _
  have htx : ((a.put Reg.CLK_SYN_STAT_CAL_BUSY 0).put Reg.CLK_SYN_STAT_TX_LOCK 1).Shows Reg.CLK_SYN_STAT_TX_LOCK 1 :=
    State.put_shows hbusy.stored _ _
  let d := ((a.put Reg.CLK_SYN_STAT_CAL_BUSY 0).put Reg.CLK_SYN_STAT_TX_LOCK 1).put Reg.CLK_SYN_STAT_RX_LOCK 1
  have hrx : d.Shows Reg.CLK_SYN_STAT_RX_LOCK 1 := State.put_shows htx.stored _ _
  have hok : (d.setF Reg.CLK_SYN_STAT_SYNTH_OK).Shows Reg.CLK_SYN_STAT_SYNTH_OK 1 := State.setF_shows hrx.stored _
  let e := (d.setF Reg.CLK_SYN_STAT_SYNTH_OK).put Reg.CLK_SYN_STAT_RECALS
    ((d.setF Reg.CLK_SYN_STAT_SYNTH_OK).get Reg.CLK_SYN_STAT_RECALS + 1)
  let g : State := { e with rx := { e.rx with grid := none, syncs := e.rx.syncs ++ [⟨refEdgeAfter e.now, 2, none, false⟩] } }
  have hgrid : ∀ {f v}, e.Shows f v → (Reg.TIM_SYNC_STAT_SYNCED.ok ∧ Reg.TIM_SYNC_STAT_SYNCED.apart f) →
      (g.put Reg.TIM_SYNC_STAT_SYNCED 0).Shows f v := fun h hf => (h.updRx _).put hf
  exact ⟨hgrid hbusy.put.put.setF.put (by decide), hgrid htx.put.setF.put (by decide), hgrid hrx.setF.put (by decide),
    hgrid hok.put (by decide)⟩

theorem State.synthRelocked_rx (s : State) :
    s.synthRelocked.rx = { s.rx with grid := none, syncs := s.rx.syncs ++ [⟨refEdgeAfter s.now, 2, none, false⟩] } := by
  unfold State.synthRelocked
  dsimp only
  rw [State.put_rx, State.put_rx, State.setF_rx, State.put_now, State.setF_now]
  rfl

theorem exec_synthCalibrationDone_shows {s : State} (hs : s.stored) {c : SynthCal} (hc : s.rct.synth = some c) (us : Nat) :
    ∃ t, exec (.synthCalibrationDone us) s = .next t ∧ t.SynthIsLocked ∧ t.rct.synth = none ∧
      t.rx = { s.rx with grid := none, syncs := s.rx.syncs ++ [⟨refEdgeAfter s.now, 2, none, false⟩] } := by
  have hrecords := s.synthLocked_reports us c
  have hlocked := (State.synthRelocked_locked hs).reports hrecords
  have hrct : (s.synthLocked us c).rct.synth = none := congrArg RadioState.synth hrecords.rct
  have hrx : (s.synthLocked us c).rx = { s.rx with grid := none, syncs := s.rx.syncs ++ [⟨refEdgeAfter s.now, 2, none, false⟩] } :=
    hrecords.rx.trans s.synthRelocked_rx
  refine ⟨_, exec_synthCalibrationDone hc us, ?_⟩
  dsimp only
  split
  · have hmargin : ((s.synthLocked us c).put Reg.DEV_TICK_STAT_MIN_MARGIN 0xFFFF).SynthIsLocked :=
      ⟨hlocked.busy.put, hlocked.tx.put, hlocked.rx.put, hlocked.ok.put⟩
    exact ⟨(hmargin.milestone 10 0xFF).updBoot _, (congrArg RadioState.synth ((State.milestone_rct _ _ _).trans (State.put_rct _ _ _))).trans hrct,
      ((State.milestone_rx _ _ _).trans (State.put_rx _ _ _)).trans hrx⟩
  · exact ⟨hlocked, hrct, hrx⟩

/-- Settles O24: a lost lock, the end of a calibration and a drift recalibration, each by what it shows of the synthesisers. -/
theorem synthesisersCalibrate : Obligations.SynthesisersCalibrate := by
  refine fun s hs => ⟨fun which => ⟨_, rfl, State.synthLost_shows hs which⟩, ?done, ?drift⟩
  case done =>
    intro c us hc _
    obtain ⟨t, ht, hlocked, hrct, hrx⟩ := exec_synthCalibrationDone_shows hs hc us
    exact ⟨t, ht, hrct, hlocked.busy.value, hlocked.tx.value, hlocked.rx.value, hlocked.ok.value, hrx⟩
  case drift =>
    intro since hsince hidle hgood hgap
    obtain ⟨hbusy, hok⟩ := State.startSynthCal_shows hs 1 []
    exact ⟨_, exec_driftRecalibration hsince hidle hgood hgap, s.startSynthCal_rct 1 [], hbusy.value, hok.value⟩

end Sys2Proof.Machine
end


section
/-! Patterns, timing words, PROTECT, strobes and coexistence (R179 to R195). -/
namespace Sys2Proof.Machine
open Sys2Proof

/-! ## The radio's part through the changes of a tile's state -/

theorem State.tapStop_rct (s : State) (f : GauStreamCmd → Bool) (cause : Nat) : (s.tapStop f cause).rct = s.rct := by
  refine State.each_reads s _ _ State.rct fun u k => ?_
  dsimp only
  split
  · rfl
  · split
    · rw [State.setF_rct, State.each_reads _ _ _ State.rct fun u j => by rw [State.setGau, State.put_rct, State.put_rct, State.put_rct]]
      rfl
    · rfl

theorem State.tapStart_rct (s : State) (n : Nat) : (s.tapStart n).rct = s.rct := by
  refine State.each_reads s _ _ State.rct fun u k => ?_
  dsimp only
  split
  · split <;> rfl
  · rfl

theorem State.refreshPlan_rct (s : State) : s.refreshPlan.rct = s.rct := by
  unfold State.refreshPlan
  dsimp only
  rw [State.each_reads _ _ _ State.rct fun u n => by rw [State.put_rct, State.put_rct]]
  simp only [State.put_rct]

theorem State.showGated_rct (s : State) (n : Nat) (off : Bool) : (s.showGated n off).rct = s.rct := by
  unfold State.showGated State.when
  dsimp only
  rw [State.refreshPlan_rct, apply_ite State.rct, State.tapStop_rct, State.tapStart_rct, ite_self]
  split <;> simp only [State.put_rct]

theorem State.tileBias_rct (s : State) (n : Nat) (safe : Bool) : (s.tileBias n safe).rct = s.rct :=
  State.each_reads s _ _ State.rct fun _ _ => rfl

theorem State.setTileState_coexOf (s : State) (n new cause : Nat) : (s.setTileState n new cause).rct.coex = s.rct.coex := by
  have hgated : ∀ c, ((s.put (Reg.RCT_TILE_STATE_STATE n) new).when c fun s => s.showGated n (new == 0)).rct = s.rct := by
    intro c
    unfold State.when
    rw [apply_ite State.rct, State.showGated_rct, State.put_rct, ite_self]
  unfold State.setTileState
  dsimp only
  split
  · rfl
  · rw [apply_ite State.rct, State.event_rct, ite_self]
    simp only [apply_ite State.rct, State.tileBias_rct]
    simp only [apply_ite RadioState.coex]
    have hstrobes : ∀ (u : State) (f : Strobes → Strobes), (u.modStrobes n f).rct.coex = u.rct.coex := fun _ _ => rfl
    simp only [hstrobes, ite_self, hgated]

theorem State.gauMeet_rct (s : State) (k cond time : Nat) : (s.gauMeet k cond time).rct = s.rct := by
  unfold State.gauMeet
  split
  · rfl
  · split
    · rfl
    · split
      · rfl
      · split
        · unfold State.gauMissed State.when
          dsimp only
          split
          · rw [State.event_rct, State.setF_rct, State.add64_rct]
            rfl
          · rw [State.setF_rct, State.add64_rct]
            rfl
        · rfl

theorem State.countBlank_rct (s : State) (n reason : Nat) : (s.countBlank n reason).rct = s.rct := by
  unfold State.countBlank State.leveeCapture
  dsimp only
  rw [State.each_reads _ _ _ State.rct fun u k => by
    unfold State.when
    rw [apply_ite State.rct, State.gauMeet_rct, ite_self], State.setF_rct, State.add64_rct]

/-! ## Patterns and PROTECT -/

theorem exec_patternBind {s : State} {tile p : Nat} (hp : s.rct.binding.get? tile = some p) (heven : s.atEvenFrame = true) :
    ∃ t, exec (.patternBind tile) s = .next t ∧ t.boundPattern tile = p ∧ t.rct.binding = s.rct.binding.del tile ∧ t.regs = s.regs := by
  show ∃ t, execPatternBind tile s = _ ∧ _
  simp only [execPatternBind, hp, heven, if_true]
  refine ⟨_, rfl, ?_, rfl, rfl⟩
  unfold State.boundPattern State.withhold
  dsimp only
  rw [Tab.getD, Tab.get?_set, if_pos rfl]
  rfl

theorem exec_timingApply {s : State} {tile : Nat} {w : Nat} (hw : s.rct.timingNext.get? tile = some w) (heven : s.atEvenFrame = true) :
    exec (.timingApply tile) s = .next
      { s with rct := { s.rct with timing := s.rct.timing.set tile w, timingNext := s.rct.timingNext.del tile } } := by
  show execTimingApply tile s = _
  simp only [execTimingApply, hw, heven, if_true]

theorem tileState_unrecorded : ∀ n < 8, recordField (Reg.RCT_TILE_STATE_STATE n) = false := by decide

/-- From PROTECT to STANDBY only the state, the protection strobe and a record change. -/
theorem State.setTileState_unprotect {s : State} {n : Nat} (cause : Nat) (h : s.tileState n = 4) :
    Reports ((s.put (Reg.RCT_TILE_STATE_STATE n) 1).modStrobes n fun t => { t with prot := false }) (s.setTileState n 1 cause) := by
  unfold State.setTileState
  simp only [h, State.when, show ((4 : Nat) = 1) = False from eq_false (by decide), show ((1 : Nat) = 0) = False from eq_false (by decide),
    show ((1 : Nat) = 4) = False from eq_false (by decide), show ((4 : Nat) = 0) = False from eq_false (by decide),
    show ((4 : Nat) == 0 || (1 : Nat) == 0) = false from rfl, Bool.false_eq_true, if_false, if_true, decide_true,
    decide_false, Bool.false_or, Bool.true_or]
  exact State.event_reports _ _ _ _

theorem exec_protectHoldExpiry {s : State} (hs : s.stored) {tile : Nat} (htile : tile < 8) {since : Nat}
    (hgone : (s.protect tile).goneAt = some since) (hprotect : s.tileState tile = 4)
    (hfree : s.on (Reg.RCT_TILE_STATE_LATCHED tile) = false) (hslot : s.atSlot = true)
    (hheld : since + s.get (Reg.RCT_TILE_CFG_PROT_HOLD tile) * 1000000 ≤ s.now) :
    ∃ t, exec (.protectHoldExpiry tile) s = .next t ∧ t.tileState tile = 1 ∧ (t.strobes tile).prot = false ∧
      (t.protect tile).goneAt = none := by
  let u := s.modProtect tile fun q => { q with goneAt := none }
  let v := (u.put (Reg.RCT_TILE_STATE_STATE tile) 1).modStrobes tile fun t => { t with prot := false }
  have hexec : exec (.protectHoldExpiry tile) s = .next (s.leaveProtect tile 3) := by
    show execProtectHoldExpiry tile s = _
    simp only [execProtectHoldExpiry, hgone, hprotect, hfree, hslot, State.due, decide_eq_true hheld, decide_true, Bool.not_false,
      Bool.and_true, if_true]
  have hleft : Reports v (u.setTileState tile 1 3) := State.setTileState_unprotect 3 hprotect
  have hshown : v.Shows (Reg.RCT_TILE_STATE_STATE tile) 1 :=
    (State.put_shows (s := u) hs (Reg.RCT_TILE_STATE_STATE tile) 1 rfl (Nat.le_of_ble_eq_true rfl)).updRct _
  have hstrobes : (v.strobes tile).prot = false := by
    rw [State.strobes_modStrobes, if_pos rfl]
  have hprot : (v.protect tile).goneAt = none := by
    rw [show v.protect tile = u.protect tile from rfl, State.protect_modProtect, if_pos rfl]
  refine ⟨_, hexec, ?_, ?_, ?_⟩
  · exact (hshown.reports hleft (tileState_unrecorded tile htile)).value
  · exact (congrArg (fun r : RadioState => (r.strobes.getD tile Strobes.off).prot) hleft.rct).trans hstrobes
  · exact (congrArg (fun r : RadioState => (r.protect.getD tile Protect.initial).goneAt) hleft.rct).trans hprot

/-! ## The strobes of a burst -/

section
variable {s : State} {tile : Nat} (hon : s.tileState tile ≠ 0) (hlive : s.tileState tile ≠ 4)
include hon hlive

theorem exec_strobeEdge_first (hfree : s.coexBlocks tile = false) (hallowed : s.txAllowed = true) :
    exec (.strobeEdge tile 1) s = .next (s.modStrobes tile fun t => { t with lnaProt := true, trsw := true }) := by
  show execStrobeEdge tile 1 s = _
  simp [execStrobeEdge, hon, hlive, hfree, hallowed]

theorem exec_strobeEdge_pa (hswitched : (s.strobes tile).trsw = true) (hfree : s.coexBlocks tile = false) :
    exec (.strobeEdge tile 2) s = .next (s.modStrobes tile fun t => { t with pa := s.ableMask tile }) := by
  show execStrobeEdge tile 2 s = _
  simp [execStrobeEdge, hon, hlive, hfree, hswitched]

theorem exec_strobeEdge_paOff : exec (.strobeEdge tile 5) s = .next ((s.modStrobes tile fun t => { t with pa := 0 }).rffeStep5 tile) := by
  show execStrobeEdge tile 5 s = _
  simp [execStrobeEdge, hon, hlive]

theorem exec_strobeEdge_receive : exec (.strobeEdge tile 6) s = .next (s.modStrobes tile fun t => { t with trsw := false }) := by
  show execStrobeEdge tile 6 s = _
  simp [execStrobeEdge, hon, hlive]

theorem exec_strobeEdge_lna (hnext : s.codeOf tile (s.absTick + 1) = 2) :
    exec (.strobeEdge tile 7) s = .next (s.modStrobes tile fun t => { t with lnaProt := false }) := by
  show execStrobeEdge tile 7 s = _
  simp [execStrobeEdge, hon, hlive, hnext]

end

/-- The transfers that waited for step 5 leave the strobes. -/
theorem State.rffeStep5_strobes (s : State) (n m : Nat) : (s.rffeStep5 n).strobes m = s.strobes m := by
  unfold State.rffeStep5
  dsimp only
  split <;> rfl

/-! ## Coexistence -/

theorem State.coex_of_radio {s t : State} (h : t.rct.coex = s.rct.coex) (k : Nat) : t.coex k = s.coex k := by
  rw [State.coex, h, State.coex]

theorem State.coex_each {α : Type} (s : State) (l : List α) (f : State → α → State) (hf : ∀ u x, (f u x).rct.coex = u.rct.coex) (k : Nat) :
    (s.each l f).coex k = s.coex k :=
  State.coex_of_radio (State.each_reads s l f (fun u => u.rct.coex) hf) k

theorem State.countBlank_setTileState_coex (s : State) (n new cause reason : Nat) :
    ((s.setTileState n new cause).countBlank n reason).rct.coex = s.rct.coex := by
  rw [State.countBlank_rct, State.setTileState_coexOf]

theorem exec_coexGntChange {s : State} {pair : Nat} {granted : Bool} (hon : s.coexOn pair = true) (hasks : s.coexArbiter pair = false)
    (hnew : (s.coex pair).gnt ≠ granted) :
    ∃ t, exec (.coexGntChange pair granted) s = .next t ∧ (t.coex pair).gnt = granted := by
  have hidle : ¬ (!s.coexOn pair || s.coexArbiter pair || decide ((s.coex pair).gnt = granted)) = true := by simp [hon, hasks, hnew]
  show ∃ t, execCoexGntChange pair granted s = _ ∧ _
  simp only [execCoexGntChange, if_neg hidle]
  refine ⟨_, rfl, ?_⟩
  split
  next hgrant =>
    rw [State.coex_each _ _ (fun s n => s.withhold n 0x04) (fun _ _ => rfl), State.coex_modCoex, if_pos rfl]
  next hgrant =>
    rw [State.coex_each _ _ (fun s n => (s.setTileState n 1 0).countBlank n 0x04)
      (fun u n => u.countBlank_setTileState_coex n 1 0 0x04), State.coex_modCoex, if_pos rfl, State.coex_modCoex, if_pos rfl]

theorem exec_coexReqChange {s : State} {pair : Nat} (requested : Bool) (hon : s.coexOn pair = true) (harbiter : s.coexArbiter pair = true) :
    ∃ t, exec (.coexReqChange pair requested) s = .next t ∧ (t.coex pair).req = requested ∧
      (requested = false → (t.coex pair).gnt = false) := by
  have hidle : ¬ (!s.coexOn pair || !s.coexArbiter pair) = true := by simp [hon, harbiter]
  show ∃ t, execCoexReqChange pair requested s = _ ∧ _
  simp only [execCoexReqChange, if_neg hidle]
  refine ⟨_, rfl, ?_⟩
  cases requested with
  | true =>
    rw [if_pos rfl, State.coex_modCoex, if_pos rfl]
    exact ⟨rfl, fun h => absurd h (by decide)⟩
  | false =>
    have hcoex : ∀ u : State, ((if ((s.coex pair).gnt && u.on (Reg.RCT_COEX_CFG_YIELD pair)) = true then
        u.each (u.coexTiles pair) fun s n => s.withhold n 0x04 else u).coex pair) = u.coex pair := fun u => by
      split
      · exact State.coex_each u _ (fun s n => s.withhold n 0x04) (fun _ _ => rfl) pair
      · rfl
    rw [if_neg Bool.false_ne_true, hcoex, State.coex_modCoex, if_pos rfl]
    exact ⟨rfl, fun _ => rfl⟩

/-- Settles O25: one equation or one fact for each step that moves a tile. -/
theorem tilesFollowTheirPatterns : Obligations.TilesFollowTheirPatterns := by
  refine fun s tile hs htile => ⟨fun p hp heven => exec_patternBind hp heven, fun w hw heven => exec_timingApply hw heven,
    fun since hgone hprotect hfree hslot hheld => exec_protectHoldExpiry hs htile hgone hprotect hfree hslot hheld, ?strobes,
    fun pair granted hon hasks hnew => exec_coexGntChange hon hasks hnew,
    fun pair requested hon harbiter => exec_coexReqChange requested hon harbiter⟩
  case strobes =>
    intro hon hlive
    refine ⟨exec_strobeEdge_first hon hlive, exec_strobeEdge_pa hon hlive, ⟨_, exec_strobeEdge_paOff hon hlive, ?_⟩,
      exec_strobeEdge_receive hon hlive, exec_strobeEdge_lna hon hlive⟩
    rw [State.rffeStep5_strobes, State.strobes_modStrobes, if_pos rfl]

end Sys2Proof.Machine
end


section
/-! Front end control (R196 to R210). -/
namespace Sys2Proof.Machine
open Sys2Proof

theorem bit_eq_bits (n i : Nat) : bit n i = (bits n i 1 == 1) := rfl

theorem bit_putBit_other {i j : Nat} (h : i ≠ j) (m : Nat) (b : Bool) : bit (putBit m i b) j = bit m j := by
  rw [bit_eq_bits, bit_eq_bits, putBit]
  rcases Nat.lt_or_gt_of_ne h with hlt | hgt
  · rw [bits_putBits_above m i 1 _ 1 hlt]
  · rw [bits_putBits_below m i 1 _ hgt]

/-! ## Guarded paths -/

theorem tileState_apart {n m : Nat} (h : n ≠ m) : (Reg.RCT_TILE_STATE_GUARDED n).apart (Reg.RCT_TILE_STATE_GUARDED m) := by
  refine .inl ?_
  simp only [Reg.RCT_TILE_STATE_GUARDED, Reg.RCT_TILE_STATE]
  omega

theorem guarded_unrecorded : ∀ n < 8, recordField (Reg.RCT_TILE_STATE_GUARDED n) = false := by decide

theorem State.guarded_put {s : State} (h : s.regs.wf = true) (p q : Nat) (on : Bool) :
    (s.put (Reg.RCT_TILE_STATE_GUARDED (p / 8)) (putBit (s.get (Reg.RCT_TILE_STATE_GUARDED (p / 8))) (p % 8) on)).guarded q =
      if q = p then on else s.guarded q := by
  have hok : (Reg.RCT_TILE_STATE_GUARDED (p / 8)).ok := Nat.le_of_ble_eq_true rfl
  have hbit : q % 8 < 8 := Nat.mod_lt _ (by decide)
  unfold State.guarded
  by_cases htile : q / 8 = p / 8
  · rw [htile, State.get_put_same h _ _ hok, show (Reg.RCT_TILE_STATE_GUARDED (p / 8)).width = 8 from rfl, bit_mod_two_pow hbit]
    split
    next heq => rw [heq, bit_putBit_same]
    next hne => rw [bit_putBit_other (by omega)]
  · rw [State.get_put_apart h _ _ _ hok (tileState_apart (Ne.symm htile)), if_neg (fun heq => htile (by rw [heq]))]

theorem State.guardPath_regs (s : State) (p : Nat) (on : Bool) :
    (s.guardPath p on).regs =
      (s.put (Reg.RCT_TILE_STATE_GUARDED (p / 8)) (putBit (s.get (Reg.RCT_TILE_STATE_GUARDED (p / 8))) (p % 8) on)).regs := by
  unfold State.guardPath
  dsimp only
  split <;> rfl

theorem State.guarded_of_regs {s t : State} (h : t.regs = s.regs) (q : Nat) : t.guarded q = s.guarded q := by
  rw [State.guarded, State.get_of_regs h, State.guarded]

theorem State.guarded_guardPath {s : State} (h : s.regs.wf = true) (p q : Nat) (on : Bool) :
    (s.guardPath p on).guarded q = if q = p then on else s.guarded q := by
  rw [State.guarded_of_regs (s.guardPath_regs p on), State.guarded_put h]

theorem State.guardPath_stored {s : State} (hs : s.stored) (p : Nat) (on : Bool) : (s.guardPath p on).stored := by
  have hput : (s.put (Reg.RCT_TILE_STATE_GUARDED (p / 8))
    (putBit (s.get (Reg.RCT_TILE_STATE_GUARDED (p / 8))) (p % 8) on)).stored := State.put_stored _ _ hs
  unfold State.guardPath
  dsimp only
  split
  · exact hput
  · exact hput

/-- A guard touches no mismatch count. -/
theorem State.guardPath_mismatch (s : State) (p : Nat) (on : Bool) : (s.guardPath p on).rct.mismatch = s.rct.mismatch := by
  unfold State.guardPath
  dsimp only
  split <;> rfl

theorem Reports.guarded {s t : State} (hr : Reports s t) (hs : s.stored) {q : Nat} (hq : q < 64) : t.guarded q = s.guarded q := by
  rw [State.guarded, hr.fields hs _ (guarded_unrecorded _ (by omega)), State.guarded]

/-! ## Transfers -/

theorem State.TakesNow.exec_rffeXfer {s : State} {h : Hdr} {c : RffeCmd} (g : s.TakesNow h) (hnow : c.timing = 0)
    (hfields : rffeFields h c = none) : exec (.rffeXfer h c) s = .next (s.rffePut ⟨h, c, false⟩) := by
  show execRffeXfer h c s = _
  rw [execRffeXfer, if_pos hnow, hfields, g.acceptNow]

theorem exec_rffeTransferDone {s : State} {tile : Nat} {j : RffeJob} {rest : List RffeJob} (results : List Nat)
    (hfirst : s.rct.rffe.getD tile [] = j :: rest) (hready : j.waitsStep5 = false) :
    Answers (exec (.rffeTransferDone tile results none) s)
      ({ s with rct := { s.rct with rffe := s.rct.rffe.set tile rest } }.hostWrite j.cmd.result (fit (8 * j.cmd.nops) results)) := by
  have hfind : (j :: rest).find? (fun j => !j.waitsStep5) = some j := List.find?_cons_of_pos (by rw [hready]; rfl)
  show Answers (execRffeTransferDone tile results none s) _
  simp only [execRffeTransferDone, hfirst, hfind, List.erase_cons_head]
  exact .of_reports (State.complete_reports _ _ _ _)

/-! ## Aerials -/

/-- The paths of an aerial command that its guard is lifted from, one after the other. -/
def State.unguardAll (s : State) (tile : Nat) (l : List Nat) : State :=
  s.each l fun s p => (s.guardPath p false).event 0x0039 0x0512 [tile, p % 8, 2, 0]

theorem State.unguardAll_clears {s : State} (hs : s.stored) (tile : Nat) (l : List Nat) :
    (s.unguardAll tile l).stored ∧ ∀ q, q < 64 → (q ∈ l ∨ s.guarded q = false) → (s.unguardAll tile l).guarded q = false := by
  unfold State.unguardAll State.each
  induction l generalizing s with
  | nil => exact ⟨hs, fun q _ h => h.resolve_left (List.not_mem_nil)⟩
  | cons p l ih =>
    have hguard : (s.guardPath p false).stored := State.guardPath_stored hs p false
    have hrecord : Reports (s.guardPath p false) ((s.guardPath p false).event 0x0039 0x0512 [tile, p % 8, 2, 0]) :=
      State.event_reports _ _ _ _
    obtain ⟨hstored, hclear⟩ := ih (hrecord.stored hguard)
    refine ⟨hstored, fun q hq hin => hclear q hq ?_⟩
    rw [hrecord.guarded hguard hq, State.guarded_guardPath hs.1]
    by_cases heq : q = p
    · exact .inr (if_pos heq)
    · rw [if_neg heq]
      exact hin.imp_left fun hmem => (List.mem_cons.mp hmem).resolve_left heq

/-- An aerial command that is accepted: the guards it lifts, then its search, then its completion. -/
theorem State.TakesNow.exec_aerial {s : State} {h : Hdr} (g : s.TakesNow h) {tile mask : Nat} {search : Bool} (clear : Bool)
    (htile : tile < 8) (hpos : 0 < mask) (hmask : mask < 256) (hidle : s.rct.search.has tile = false)
    (husids : search = true → ∀ p ∈ maskList mask 8, s.get (Reg.RCT_TILE_TUNE_USID0 tile) + p ≤ 15) :
    exec (.aerial h tile mask search clear) s = .next
      (((s.when clear fun s => s.unguardAll tile ((tilePaths tile mask).filter s.guarded)).when search fun s =>
        s.startSearch tile mask 0).complete h 0x56 St.done) := by
  have hall : (!search || (maskList mask 8).all fun p => decide (s.get (Reg.RCT_TILE_TUNE_USID0 tile) + p ≤ 15)) = true := by
    cases search with
    | false => rfl
    | true =>
      rw [Bool.not_true, Bool.false_or, List.all_eq_true]
      exact fun p hp => decide_eq_true (husids rfl p hp)
  show execAerial h tile mask search clear s = _
  unfold execAerial
  dsimp only
  rw [hall, hidle, decide_eq_true ⟨htile, hpos, hmask⟩, Bool.true_and, Bool.not_false]
  exact congrArg Host.Outcome.next (g.acceptNow _ _)

theorem State.TakesNow.exec_aerial_clear {s : State} (hs : s.stored) {h : Hdr} (g : s.TakesNow h) {tile mask : Nat} (htile : tile < 8)
    (hpos : 0 < mask) (hmask : mask < 256) (hidle : s.rct.search.has tile = false) :
    ∃ t, exec (.aerial h tile mask false true) s = .next t ∧ ∀ p ∈ tilePaths tile mask, t.guarded p = false := by
  refine ⟨_, g.exec_aerial true htile hpos hmask hidle (fun h => absurd h (by decide)), fun p hp => ?_⟩
  obtain ⟨i, hi, rfl⟩ := List.mem_map.mp hp
  have hlt : 8 * tile + i < 64 := by
    have := List.mem_range.mp (List.mem_filter.mp hi).1
    omega
  obtain ⟨hstored, hclear⟩ := State.unguardAll_clears hs tile ((tilePaths tile mask).filter s.guarded)
  refine ((State.complete_reports _ _ _ _).guarded hstored hlt).trans (hclear _ hlt ?_)
  cases hguarded : s.guarded (8 * tile + i) with
  | false => exact .inr rfl
  | true => exact .inl (List.mem_filter.mpr ⟨hp, hguarded⟩)

/-! ## Mismatch -/

theorem State.startSearch_regs (s : State) (tile mask rl : Nat) : (s.startSearch tile mask rl).regs = s.regs := by
  unfold State.startSearch
  split <;> rfl

theorem State.startSearch_stored {s : State} (hs : s.stored) (tile mask rl : Nat) : (s.startSearch tile mask rl).stored := by
  unfold State.startSearch
  split
  · exact hs
  · exact hs

theorem State.startSearch_mismatch (s : State) (tile mask rl : Nat) : (s.startSearch tile mask rl).rct.mismatch = s.rct.mismatch := by
  unfold State.startSearch
  split <;> rfl

/-- What a second count in a row below the warning limit brings: its record, and a search where the tile may tune. -/
def State.warnMismatch (s : State) (path warn : Nat) (rl : Int) : State :=
  if warn = 2 then
    let t := s.event 0x0039 0x0512 [path / 8, path % 8, 0, rlByte rl]
    if t.on (Reg.RCT_TILE_TUNE_TUNE_EN (path / 8)) && !t.rct.search.has (path / 8) &&
        decide (t.get (Reg.RCT_TILE_TUNE_USID0 (path / 8)) + path % 8 ≤ 15) then
      t.startSearch (path / 8) (2 ^ (path % 8)) (rlByte rl)
    else t
  else s

/-- What a third count in a row below the guard's limit brings. -/
def State.guardMismatch (s : State) (path grd : Nat) (rl : Int) : State :=
  if grd ≥ 3 && !s.guarded path then (s.guardPath path true).event 0x0039 0x0512 [path / 8, path % 8, 1, rlByte rl] else s

theorem exec_mismatchPair (s : State) (path : Nat) (fwd ref : Int) :
    let old := s.rct.mismatch.getD path ⟨0, 0⟩
    let warn := if fwd - ref < s.get Reg.RCT_AER_CFG_RL_WARN * 25 then old.warn + 1 else 0
    let grd := if fwd - ref < s.get Reg.RCT_AER_CFG_RL_GUARD * 25 then old.guard + 1 else 0
    exec (.mismatchPair path fwd ref) s = .next
      ((({ s with rct := { s.rct with mismatch := s.rct.mismatch.set path ⟨warn, grd⟩ } } : State).warnMismatch path warn
        (fwd - ref)).guardMismatch path grd (fwd - ref)) := rfl

theorem State.warnMismatch_keeps_counts {s : State} (hs : s.stored) (path warn : Nat) (rl : Int) :
    (s.warnMismatch path warn rl).stored ∧ (s.warnMismatch path warn rl).rct.mismatch = s.rct.mismatch := by
  have hrecord : Reports s (s.event 0x0039 0x0512 [path / 8, path % 8, 0, rlByte rl]) := State.event_reports _ _ _ _
  have hcounts := congrArg RadioState.mismatch hrecord.rct
  unfold State.warnMismatch
  dsimp only
  split
  · split
    · exact ⟨State.startSearch_stored (hrecord.stored hs) _ _ _, (State.startSearch_mismatch _ _ _ _).trans hcounts⟩
    · exact ⟨hrecord.stored hs, hcounts⟩
  · exact ⟨hs, rfl⟩

theorem State.guardMismatch_guards {s : State} (hs : s.stored) {path : Nat} (hpath : path < 64) (grd : Nat) (rl : Int) :
    (s.guardMismatch path grd rl).rct.mismatch = s.rct.mismatch ∧ (3 ≤ grd → (s.guardMismatch path grd rl).guarded path = true) := by
  have hguard := State.guardPath_stored hs path true
  have hrecord : Reports (s.guardPath path true) ((s.guardPath path true).event 0x0039 0x0512 [path / 8, path % 8, 1, rlByte rl]) :=
    State.event_reports _ _ _ _
  unfold State.guardMismatch
  split
  · refine ⟨(congrArg RadioState.mismatch hrecord.rct).trans (s.guardPath_mismatch path true), fun _ => ?_⟩
    rw [hrecord.guarded hguard hpath, State.guarded_guardPath hs.1, if_pos rfl]
  next hno =>
    refine ⟨rfl, fun hgrd => ?_⟩
    simpa [hgrd] using hno

theorem exec_mismatchPair_counts {s : State} (hs : s.stored) {path : Nat} (fwd ref : Int) (hpath : path < 64) :
    let old := s.rct.mismatch.getD path ⟨0, 0⟩
    let warn := if fwd - ref < s.get Reg.RCT_AER_CFG_RL_WARN * 25 then old.warn + 1 else 0
    let grd := if fwd - ref < s.get Reg.RCT_AER_CFG_RL_GUARD * 25 then old.guard + 1 else 0
    ∃ t, exec (.mismatchPair path fwd ref) s = .next t ∧ t.rct.mismatch.get? path = some ⟨warn, grd⟩ ∧
      (3 ≤ grd → t.guarded path = true) := by
  intro old warn grd
  let u : State := { s with rct := { s.rct with mismatch := s.rct.mismatch.set path ⟨warn, grd⟩ } }
  have hu : u.stored := hs
  obtain ⟨hstored, hwarned⟩ := State.warnMismatch_keeps_counts hu path warn (fwd - ref)
  obtain ⟨hcounts, hguards⟩ := State.guardMismatch_guards hstored hpath grd (fwd - ref)
  refine ⟨_, exec_mismatchPair s path fwd ref, ?_, hguards⟩
  exact (congrArg (Tab.get? · path) (hcounts.trans hwarned)).trans ((Tab.get?_set _ _ _ _).trans (if_pos rfl))

/-! ## Searches -/

/-- A search that has not reached its target, its last step or its last trial goes on from the trial's result. -/
theorem exec_tunerTrial {s : State} {tile : Nat} (rl : Nat) {q : Search} (hq : s.rct.search.get? tile = some q)
    (htarget : (q.next rl (if s.get (Reg.RCT_TILE_TUNE_REG_B tile) = 0 then 2 else 4)).rl < s.get Reg.RCT_AER_CFG_RL_TARGET)
    (hstep : (q.next rl (if s.get (Reg.RCT_TILE_TUNE_REG_B tile) = 0 then 2 else 4)).step ≠ 0)
    (htrials : (q.next rl (if s.get (Reg.RCT_TILE_TUNE_REG_B tile) = 0 then 2 else 4)).trials < 64) :
    exec (.tunerTrial tile rl false) s = .next { s with rct := { s.rct with
      search := s.rct.search.set tile (q.next rl (if s.get (Reg.RCT_TILE_TUNE_REG_B tile) = 0 then 2 else 4)) } } := by
  show execTunerTrial tile rl false s = _
  simp only [execTunerTrial, hq, Bool.false_eq_true, if_false, ge_iff_le, if_neg (not_le.mpr htarget), if_neg hstep,
    if_neg (not_le.mpr htrials)]

/-- The clauses of front end control, with the return loss of a mismatch pair an integer. That an aerial search begins at return loss 0 and
goes path after path is the model's choice (assumption log 33 and 172). -/
theorem frontEndControl_signed (s : State) (hs : s.stored) :
    (∀ h c, s.TakesNow h → c.timing = 0 → rffeFields h c = none → exec (.rffeXfer h c) s = .next (s.rffePut ⟨h, c, false⟩)) ∧
    (∀ tile j rest results, s.rct.rffe.getD tile [] = j :: rest → j.waitsStep5 = false →
      Answers (exec (.rffeTransferDone tile results none) s)
        ({ s with rct := { s.rct with rffe := s.rct.rffe.set tile rest } }.hostWrite j.cmd.result (fit (8 * j.cmd.nops) results))) ∧
    (∀ h tile mask search, s.TakesNow h → tile < 8 → 0 < mask → mask < 256 → s.rct.search.has tile = false →
      (search = true → ∀ p ∈ maskList mask 8, s.get (Reg.RCT_TILE_TUNE_USID0 tile) + p ≤ 15) →
      Answers (exec (.aerial h tile mask search false) s) (if search then s.startSearch tile mask 0 else s)) ∧
    (∀ h tile mask, s.TakesNow h → tile < 8 → 0 < mask → mask < 256 → s.rct.search.has tile = false →
      ∃ t, exec (.aerial h tile mask false true) s = .next t ∧ ∀ p ∈ tilePaths tile mask, t.guarded p = false) ∧
    (∀ path (fwd ref : Int), path < 64 →
      let old := s.rct.mismatch.getD path ⟨0, 0⟩
      let warn := if fwd - ref < s.get Reg.RCT_AER_CFG_RL_WARN * 25 then old.warn + 1 else 0
      let grd := if fwd - ref < s.get Reg.RCT_AER_CFG_RL_GUARD * 25 then old.guard + 1 else 0
      ∃ t, exec (.mismatchPair path fwd ref) s = .next t ∧ t.rct.mismatch.get? path = some ⟨warn, grd⟩ ∧
        (3 ≤ grd → t.guarded path = true)) ∧
    (∀ tile rl q, s.rct.search.get? tile = some q →
      let q' := q.next rl (if s.get (Reg.RCT_TILE_TUNE_REG_B tile) = 0 then 2 else 4)
      q'.rl < s.get Reg.RCT_AER_CFG_RL_TARGET → q'.step ≠ 0 → q'.trials < 64 →
      exec (.tunerTrial tile rl false) s = .next { s with rct := { s.rct with search := s.rct.search.set tile q' } }) := by
  refine ⟨fun h c g hnow hfields => g.exec_rffeXfer hnow hfields,
    fun tile j rest results hfirst hready => exec_rffeTransferDone results hfirst hready, ?aerial,
    fun h tile mask g htile hpos hmask hidle => g.exec_aerial_clear hs htile hpos hmask hidle,
    fun path fwd ref hpath => exec_mismatchPair_counts hs fwd ref hpath,
    fun tile rl q hq htarget hstep htrials => exec_tunerTrial rl hq htarget hstep htrials⟩
  case aerial =>
    intro h tile mask search g htile hpos hmask hidle husids
    rw [g.exec_aerial false htile hpos hmask hidle husids]
    exact .of_reports (State.complete_reports _ _ _ _)

/-- Refutes O26: its mismatch clause subtracts natural numbers, so a reflected power above the forward one gives return loss 0, where the
model's is negative. With `RL_WARN` at 0, forward power 0 and reflected power 1 the model counts one pair below the limit, and the clause
asks for none. With integers the statement holds (`frontEndControl_signed`). -/
theorem not_frontEndControl : ¬ Obligations.FrontEndControl := by
  intro h
  have hs : (State.reset.put Reg.RCT_AER_CFG_RL_WARN 0).stored := State.put_stored _ _ State.reset_stored
  have hlimit : (State.reset.put Reg.RCT_AER_CFG_RL_WARN 0).get Reg.RCT_AER_CFG_RL_WARN = 0 :=
    State.get_put State.reset_stored _ _ (by decide)
  obtain ⟨-, -, -, -, hpairs, -⟩ := h _ hs
  obtain ⟨t, ht, hasked, -⟩ := hpairs 0 0 1 (by decide)
  obtain ⟨t', ht', hcounted, -⟩ := exec_mismatchPair_counts hs 0 1 (path := 0) (by decide)
  obtain rfl : t' = t := Host.Outcome.next.inj (ht'.symm.trans ht)
  have hwarn := congrArg MismatchCount.warn (Option.some.inj (hcounted.symm.trans hasked))
  rw [hlimit] at hwarn
  exact absurd hwarn (by decide)

end Sys2Proof.Machine
end


section
/-! Frames from the line (R212, R213). -/
namespace Sys2Proof.Machine
open Sys2Proof

/-- A port number no port has: its MACsec control word would be the low word of `FTH_CNT`'s first counter. -/
theorem strict_word_of_port_48 : Reg.FTH_MSEC_CTL 48 = Reg.FTH_CNT 0 := rfl

/-- The reset state with the port numbered 48 up, frames of 64 bytes allowed, and one frame counted. -/
def State.portAliased : State :=
  ((State.reset.put (Reg.LIN_PORT_STAT_PORT_UP 48) 1).put Reg.FTH_CFG_MAX_FRAME 64).wr (Reg.FTH_CNT 0) 1

/-- A frame of 64 bytes to a group every port takes, without MACsec, of a type no port takes. -/
def frameAtPort48 : LineFrameIn := ⟨48, 0x0180C2000003, 64, true, none, [], 0, none⟩

theorem portAliased_stored : State.portAliased.stored :=
  State.wr_stored _ _ (State.put_stored _ _ (State.put_stored _ _ State.reset_stored))

theorem portAliased_up : State.portAliased.portUp 48 = true := by
  have h : (State.reset.put (Reg.LIN_PORT_STAT_PORT_UP 48) 1).Shows (Reg.LIN_PORT_STAT_PORT_UP 48) 1 :=
    State.put_shows State.reset_stored _ _
  exact h.put.wr.on

theorem portAliased_maxFrame : State.portAliased.Shows Reg.FTH_CFG_MAX_FRAME 64 :=
  (State.put_shows (State.put_stored _ _ State.reset_stored) Reg.FTH_CFG_MAX_FRAME 64).wr

theorem portAliased_count : State.portAliased.rd (Reg.FTH_CNT 0) = 1 := by
  rw [State.portAliased, State.rd_wr_same (State.put_stored _ _ (State.put_stored _ _ State.reset_stored)).1]
  rfl

/-- Before the frame is counted the port would be strict. -/
theorem portAliased_strict : State.portAliased.strict 48 = true := by
  rw [State.strict, State.get, show (Reg.FTH_MSEC_CTL_MODE 48).reg = Reg.FTH_CNT 0 from rfl, portAliased_count]
  rfl

theorem dstOk_pause (s : State) (k : Nat) : s.dstOk k 0x0180C2000003 = true := by simp [State.dstOk]

/-- Once it is counted the port would not be strict. -/
theorem portAliased_counted : (State.portAliased.add64 (Reg.FTH_CNT 0) 1).strict 48 = false := by
  have hcount : (State.portAliased.add64 (Reg.FTH_CNT 0) 1).rd (Reg.FTH_CNT 0) = 2 := by
    rw [State.add64, State.wr64, State.rd_wr_ne (State.wr_stored _ _ portAliased_stored).1 _ _ (by decide),
      State.rd_wr_same portAliased_stored.1, State.rd64, portAliased_count]
    omega
  rw [State.strict, State.get, show (Reg.FTH_MSEC_CTL_MODE 48).reg = Reg.FTH_CNT 0 from rfl, hcount]
  rfl

/-- The model counts the frame before it asks whether its port is strict, and drops it for its type. -/
theorem exec_frameAtPort48 :
    exec (.lineFrame frameAtPort48) State.portAliased = .next ((State.portAliased.add64 (Reg.FTH_CNT 0) 1).fthDrop 48 3) := by
  have hmax : (State.portAliased.add64 (Reg.FTH_CNT 0) 1).get Reg.FTH_CFG_MAX_FRAME = 64 := portAliased_maxFrame.add64.value
  show execLineFrame frameAtPort48 State.portAliased = _
  unfold execLineFrame
  simp only [frameAtPort48, portAliased_up, hmax, dstOk_pause, portAliased_counted, Bool.not_true, Bool.false_eq_true, false_or,
    if_false, false_and]
  rfl

theorem State.fthDrop_drops (s : State) (port r key : Nat) :
    (s.fthDrop port r).fh.drops.get? key =
      if key = port * 16 + r then some (s.fh.drops.getD (port * 16 + r) 0 + 1) else s.fh.drops.get? key := by
  unfold State.fthDrop
  dsimp only
  split
  all_goals exact Tab.get?_set _ _ _ _

/-- Refutes O27: its frames may come at a port of any number, and the MACsec control word that the model reads for port 48 is the counter of
received frames (`FTH_CNT`), which the frame itself moves from 1 to 2. Strict before and not after, the port drops the frame under reason 3,
where the statement asks for reason 13. -/
theorem not_fronthaulMessagesAreTaken : ¬ Obligations.FronthaulMessagesAreTaken := by
  intro h
  obtain ⟨hframes, -⟩ := h State.portAliased portAliased_stored
  obtain ⟨-, hstrict, -⟩ := hframes frameAtPort48 portAliased_up rfl (by decide) portAliased_maxFrame.value.ge
  have hasked := hstrict (dstOk_pause _ _) rfl portAliased_strict (by decide)
  have hdrops := congrArg (fun u : State => u.fh.drops.get? (48 * 16 + 3))
    (Host.Outcome.next.inj (exec_frameAtPort48.symm.trans hasked))
  rw [State.fthDrop_drops, State.fthDrop_drops, if_pos rfl, if_neg (by decide)] at hdrops
  exact Option.some_ne_none _ hdrops

end Sys2Proof.Machine
end


section
/-! Cooperating sets (R218 to R234). -/
namespace Sys2Proof.Machine
open Sys2Proof

/-! ## The states of the sets -/

theorem bits_mod_two_pow {l w n : Nat} (h : l + w ≤ n) (v : Nat) : bits (v % 2 ^ n) l w = bits v l w := by
  refine Nat.eq_of_testBit_eq fun i => ?_
  simp only [bits, Nat.testBit_mod_two_pow, Nat.testBit_div_two_pow]
  by_cases hi : i < w
  · rw [decide_eq_true hi, decide_eq_true (by omega : i + l < n), Bool.true_and]
  · rw [decide_eq_false hi, Bool.false_and, Bool.false_and]

/-- The states of the sets after one of them is written. -/
theorem State.setState_write {s : State} (hs : s.stored) {k j : Nat} (hj : j < 32) {v : Nat} (hv : v < 4) :
    (s.wr64 Reg.FTH_SET_STATE (putBits (s.rd64 Reg.FTH_SET_STATE) (2 * k) 2 v)).setState j = if j = k then v else s.setState j := by
  unfold State.setState
  rw [State.rd64_wr64 hs, bits_mod_two_pow (by omega)]
  split
  next heq => rw [heq, bits_putBits, Nat.mod_eq_of_lt (show v < 2 ^ 2 from hv)]
  next hne =>
    rcases Nat.lt_or_gt_of_ne hne with hlt | hgt
    · exact bits_putBits_below _ _ _ _ (by omega)
    · exact bits_putBits_above _ _ _ _ _ (by omega)

theorem Reports.setState {s t : State} (hr : Reports s t) (hs : s.stored) (j : Nat) : t.setState j = s.setState j := by
  rw [State.setState, hr.rd64 hs (by decide) (by decide), State.setState]

theorem State.setState_moveSet {s : State} (hs : s.stored) (k new cause : Nat) (hnew : new < 4) {j : Nat} (hj : j < 32) :
    (s.moveSet k new cause).setState j = if j = k then new else s.setState j := by
  rw [← State.setState_write hs hj hnew]
  have hstored : (s.wr64 Reg.FTH_SET_STATE (putBits (s.rd64 Reg.FTH_SET_STATE) (2 * k) 2 new)).stored := State.wr64_stored _ _ hs
  unfold State.moveSet
  dsimp only
  split
  · rfl
  · exact (State.event_reports _ _ _ _).setState hstored j

theorem exec_setStateChange_forms {s : State} {k : Nat} {c : CoopSetCmd} (hset : s.fh.sets.get? k = some c) (hslot : s.atSlot = true)
    (hstate : s.setState k ≠ 2) (hreach : (chainPorts c).all s.chainReachable = true) (halign : (chainPorts c).all s.chainAligned = true) :
    exec (.setStateChange k) s = .next (s.moveSet k 2 1) := by
  show execSetStateChange k s = _
  simp [execSetStateChange, hset, hslot, hstate, hreach, halign, -List.all_eq_true]

theorem exec_setStateChange_dissolves {s : State} {k : Nat} {c : CoopSetCmd} (hset : s.fh.sets.get? k = some c) (hslot : s.atSlot = true)
    (hstate : s.setState k = 2) (halign : (chainPorts c).all s.chainAligned = false) :
    exec (.setStateChange k) s = .next (s.moveSet k 3 (if (chainPorts c).all s.chainReachable then 1 else 2)) := by
  show execSetStateChange k s = _
  simp [execSetStateChange, hset, hslot, hstate, halign, -List.all_eq_true, -List.all_eq_false]

/-! ## Partial sums -/

section
variable {s : State} {k : Nat} {c : CoopSetCmd} {m : PartialSum} {num : Nat} (hsets : s.fh.sets = [(k, c)]) (hid : c.setId = m.setId)
  (hul : c.ul = true) (hsender : m.sender + 1 = c.position) (hblocks : m.blocks ≠ []) (hlen : m.blocks.length ≤ c.segPrb)
  (hcovers : setCovers c 1 m.carrier m.layer = true) (hend : m.startPrb + m.blocks.length ≤ s.carrierPrb 1 m.carrier)
  (hseq : (s.takeSeq c.upPort (0x40 * 2 ^ 20 + k * 256 + m.sender) m.seq).1 = true)
include hsets hid hul hsender hblocks hlen hcovers hend hseq

/-- A partial sum that is taken waits, is combined, or comes too late. -/
theorem exec_partialSumMessage :
    let u := (s.takeSeq c.upPort (0x40 * 2 ^ 20 + k * 256 + m.sender) m.seq).2
    let tick : Int := ((u.frame : Int) + sx 10 (ux 10 ((m.sfn : Int) - u.frame))) * u.tpf +
      (((m.slot * u.tps + m.symbol) * u.symSpan num : Nat) : Int)
    u.setState k = 2 → u.carrierNum 1 m.carrier = some num → u.now < u.holdEnd tick →
      exec (.partialSumMessage c.upPort m) s = .next (if u.absTick < tick + 2 then { u with fh := { u.fh with early := u.fh.early ++ [(k, m)] } }
        else u.combine k c m tick) := by
  intro u tick hformed hnum hheld
  have hfind : s.fh.sets.find? (fun e => e.2.setId == m.setId) = some (k, c) := by
    rw [hsets]
    exact List.find?_cons_of_pos (by simp [hid])
  have hgood : ¬ (!c.ul || decide (c.upPort ≠ c.upPort) || decide (m.sender + 1 ≠ c.position) || m.blocks.isEmpty ||
      decide (m.blocks.length > c.segPrb) || !setCovers c 1 m.carrier m.layer ||
      decide (m.startPrb + m.blocks.length > s.carrierPrb 1 m.carrier)) = true := by
    simp [hul, hsender, hblocks, hcovers, not_lt.mpr hlen, not_lt.mpr hend]
  have hdue : ¬ u.due (u.holdEnd tick) = true := by simpa [State.due] using hheld
  have hin : ¬ (!(s.takeSeq c.upPort (0x40 * 2 ^ 20 + k * 256 + m.sender) m.seq).1 || decide (u.setState k ≠ 2)) = true := by
    rw [hseq, hformed]
    decide
  show execPartialSumMessage c.upPort m s = _
  unfold execPartialSumMessage
  simp only [hfind]
  rw [if_neg hgood]
  refine congrArg Host.Outcome.next ((if_neg hin).trans ?_)
  simp only [u] at hnum
  simp only [hnum]
  exact if_neg hdue

end

/-! ## The hold of a combining member -/

/-- What both branches leave, the choice leaves. -/
theorem State.ite_reads {β : Type} {c : Prop} [Decidable c] {a b : State} {v : β} (g : State → β) (ha : g a = v) (hb : g b = v) :
    g (if c then a else b) = v := by
  split <;> assumption

theorem State.fthDrop_own (s : State) (port r : Nat) : (s.fthDrop port r).fh.own = s.fh.own := by
  unfold State.fthDrop
  dsimp only
  split
  all_goals rfl

theorem State.fhSend_own (s : State) (port q : Nat) (f : FrameOut) : (s.fhSend port q f).fh.own = s.fh.own := by
  unfold State.fhSend
  dsimp only
  split
  · split
    · rfl
    · exact State.fthDrop_own _ _ _
  · split
    · exact State.fthDrop_own _ _ _
    · rfl

theorem State.sendFinal_own (s : State) (set : Nat) (c : CoopSetCmd) (m : PartialSum) (tick : Int) :
    (s.sendFinal set c m tick).fh.own = s.fh.own := by
  have hsat : ∀ b : Bool, (s.when b fun s => s.setF Reg.FTH_ERR_SUM_SAT).fh.own = s.fh.own := fun b => by
    cases b <;> rfl
  unfold State.sendFinal
  split
  · rfl
  · exact State.ite_reads (fun u : State => u.fh.own) ((State.fhSend_own _ _ _ _).trans (hsat _))
      ((State.fhSend_own _ _ _ _).trans (hsat _))

theorem State.sendSum_own (s : State) (set : Nat) (c : CoopSetCmd) (m : PartialSum) (tick : Int) :
    (s.sendSum set c m tick).fh.own = s.fh.own := by
  unfold State.sendSum
  dsimp only
  split
  · exact State.sendFinal_own _ _ _ _ _
  · exact State.fhSend_own _ _ _ _

theorem State.sendOwn_own (s : State) (c : CoopSetCmd) (o : OwnSum) : (s.sendOwn c o).fh.own = s.fh.own := by
  unfold State.sendOwn
  split
  · rfl
  · dsimp only
    split
    · exact State.sendSum_own _ _ _ _ _
    · exact State.sendFinal_own _ _ _ _ _

/-- The end of a member's hold with its own sum alone: the sum is sent and counted late, and then the gathered mask is recorded. -/
theorem exec_combiningHoldEnd {s : State} {k : Nat} {c : CoopSetCmd} {tick : Int} {o : OwnSum} (hset : s.fh.sets.get? k = some c)
    (hdue : s.holdEnd tick ≤ s.now) (hown : s.fh.own = [o]) (hk : o.set = k) (htick : o.tick = tick) :
    let u := (({ s with fh := { s.fh with own := [] } }.sendOwn c o).add64 (Reg.FTH_CNT 10) 1).setF Reg.FTH_ERR_PSUM_LATE
    exec (.combiningHoldEnd k tick) s = .next (match u.fh.finals.find? fun e => e.1 == k && e.2.1 == tick with
      | none => u
      | some e =>
        let s := { u with fh := { u.fh with finals := u.fh.finals.filter fun x => !(x.1 == k && x.2.1 == tick) } }
        let car := (maskList c.carriers 8).headD 0
        let nm := s.symbolName car tick
        s.event 0x0028 0x0603
          ([k] ++ bytesLE 2 c.setId ++ bytesLE 2 nm.1 ++ [nm.2.1, nm.2.2, 0] ++ bytesLE 4 e.2.2)) := by
  have hmine : s.fh.own.filter (fun o => o.set == k && o.tick == tick) = [o] := by
    rw [hown, List.filter_singleton, hk, htick, beq_self_eq_true, beq_self_eq_true]
    rfl
  have hrest : s.fh.own.filter (fun o => !(o.set == k && o.tick == tick)) = [] := by
    rw [hown, List.filter_singleton, hk, htick, beq_self_eq_true, beq_self_eq_true]
    rfl
  have hended : ¬ (!s.due (s.holdEnd tick)) = true := by simpa [State.due] using hdue
  intro u
  show execCombiningHoldEnd k tick s = _
  unfold execCombiningHoldEnd
  simp only [hset, hmine, hrest]
  rw [if_neg hended]
  rfl

/-- Settles O29: sets change state by `moveSet`, a partial sum is taken by one equation, and a hold's end sends the own sum alone. That a
miss at the hold's end counts under reason 10 and raises `PSUM_LATE` is the model's choice (assumption log 58). -/
theorem cooperatingSetsCombine : Obligations.CooperatingSetsCombine := by
  refine fun s k c hs hk hset => ⟨?forms, ?dissolves, ?sums, ?hold⟩
  case forms =>
    intro hslot hstate hreach halign
    refine ⟨_, exec_setStateChange_forms hset hslot hstate hreach halign, ?_, fun j hj hlt => ?_⟩
    · rw [State.setState_moveSet hs k 2 1 (by decide) hk, if_pos rfl]
    · rw [State.setState_moveSet hs k 2 1 (by decide) hlt, if_neg hj]
  case dissolves =>
    intro hslot hstate halign
    refine ⟨_, exec_setStateChange_dissolves hset hslot hstate halign, ?_, fun j hj hlt => ?_⟩
    · rw [State.setState_moveSet hs k 3 _ (by decide) hk, if_pos rfl]
    · rw [State.setState_moveSet hs k 3 _ (by decide) hlt, if_neg hj]
  case sums =>
    intro m num hsets hid hul hsender hblocks hlen hcovers hend hseq u tick hformed hnum hheld
    have hexec := exec_partialSumMessage hsets hid hul hsender hblocks hlen hcovers hend hseq hformed hnum hheld
    exact ⟨fun hearly => hexec.trans (congrArg Host.Outcome.next (if_pos hearly)),
      fun hlate => hexec.trans (congrArg Host.Outcome.next (if_neg (not_lt.mpr hlate)))⟩
  case hold =>
    intro tick o hdue hown hk htick u
    have hexec := exec_combiningHoldEnd hset hdue hown hk htick
    have hsent : u.fh.own = [] := State.sendOwn_own { s with fh := { s.fh with own := [] } } c o
    refine ⟨fun hnone => ?_, fun e hfinals hset' htick' => ?_⟩
    · have hfind : u.fh.finals.find? (fun e => e.1 == k && e.2.1 == tick) = none := by rw [hnone]; rfl
      simp only [u] at hfind
      simpa only [hfind] using hexec
    · have hfind : u.fh.finals.find? (fun e => e.1 == k && e.2.1 == tick) = some e := by
        rw [hfinals]
        exact List.find?_cons_of_pos (by simp [hset', htick'])
      have hgone : u.fh.finals.filter (fun x => !(x.1 == k && x.2.1 == tick)) = [] := by
        rw [hfinals, List.filter_singleton, hset', htick', beq_self_eq_true, beq_self_eq_true]
        rfl
      let v : State := { u with fh := { u.fh with finals := u.fh.finals.filter fun x => !(x.1 == k && x.2.1 == tick) } }
      have hrecord := fun l => State.event_reports v 0x0028 0x0603 l
      simp only [u] at hfind
      simp only [hfind] at hexec
      refine ⟨_, hexec, ?_, ?_⟩
      · exact (congrArg (fun w : State => w.fh.finals) (hrecord _).work).trans hgone
      · exact (congrArg (fun w : State => w.fh.own) (hrecord _).work).trans hsent

end Sys2Proof.Machine
end


section
/-! MKA (R223 to R229). -/
namespace Sys2Proof.Machine
open Sys2Proof

theorem msecStat_unrecorded {k : Nat} (hk : k < 2) (lsb w : Nat) : recordField ⟨Reg.FTH_MSEC_STAT k, lsb, w⟩ = false := by
  obtain rfl | rfl : k = 0 ∨ k = 1 := by omega
  · rfl
  · rfl

theorem State.msec_of_work {s t : State} (h : t.fh.msec = s.fh.msec) (k : Nat) : t.msec k = s.msec k := by
  rw [State.msec, h, State.msec]

theorem Reports.msec {s t : State} (hr : Reports s t) (k : Nat) : t.msec k = s.msec k :=
  State.msec_of_work (congrArg (fun w : State => w.fh.msec) hr.work) k

theorem State.msecEvent_reports (s : State) (k kind : Nat) : Reports s (s.msecEvent k kind) := by
  unfold State.msecEvent
  exact State.event_reports _ _ _ _

/-! ## Messages -/

/-- A message that is good brings the port up and marks the peer heard. -/
def State.mkaHeard (s : State) (k : Nat) : State :=
  ((s.setF (Reg.FTH_MSEC_STAT_MKA_UP k)).modMsec k fun p => { p with live := true, heardAt := s.now }).when (!s.mkaUp k) fun s =>
    s.msecEvent k 0

theorem State.mkaHeard_reports (s : State) (k : Nat) :
    Reports ((s.setF (Reg.FTH_MSEC_STAT_MKA_UP k)).modMsec k fun p => { p with live := true, heardAt := s.now }) (s.mkaHeard k) := by
  unfold State.mkaHeard State.when
  split
  · exact State.msecEvent_reports _ _ _
  · exact .refl _

theorem State.mkaHeard_shows {s : State} (hs : s.stored) {k : Nat} (hk : k < 2) :
    (s.mkaHeard k).Shows (Reg.FTH_MSEC_STAT_MKA_UP k) 1 ∧
      (s.mkaHeard k).Shows (Reg.FTH_MSEC_STAT_SAK_COUNT k) (s.get (Reg.FTH_MSEC_STAT_SAK_COUNT k)) := by
  have hup : (s.setF (Reg.FTH_MSEC_STAT_MKA_UP k)).Shows (Reg.FTH_MSEC_STAT_MKA_UP k) 1 :=
    State.setF_shows hs _ rfl (Nat.le_of_ble_eq_true rfl)
  have hcount : (s.setF (Reg.FTH_MSEC_STAT_MKA_UP k)).Shows (Reg.FTH_MSEC_STAT_SAK_COUNT k) (s.get (Reg.FTH_MSEC_STAT_SAK_COUNT k)) :=
    (State.shows hs _).setF ⟨Nat.le_of_ble_eq_true rfl, .inr (.inl (Nat.le_of_ble_eq_true rfl))⟩
  exact ⟨(hup.updFh _).reports (s.mkaHeard_reports k) (msecStat_unrecorded hk 0 1),
    (hcount.updFh _).reports (s.mkaHeard_reports k) (msecStat_unrecorded hk 16 16)⟩

theorem State.mkaHeard_msec (s : State) (k : Nat) : (s.mkaHeard k).msec k = { s.msec k with live := true, heardAt := s.now } := by
  rw [(s.mkaHeard_reports k).msec, State.msec_modMsec, if_pos rfl]
  rfl

/-- A message of the key server: its key is installed where it is new, and the transmit association moves once the peer has it. -/
theorem exec_mkaMessage_server {s : State} {m : MkaIn} (hicv : m.icvOk = true) (hcak : s.sea.caks.has m.port = true)
    (hserver : m.keyServer = true) :
    exec (.mkaMessage m) s = .next
      (let u := s.mkaHeard m.port
       let v := match m.sakAn with
         | some an => if (u.msec m.port).txSas.contains (an % 4) then u else u.installSak m.port (an % 4)
         | none => u
       match (v.msec m.port).movePending with
       | some an =>
         if m.peerInstalled then
           (v.put (Reg.FTH_MSEC_STAT_TX_AN m.port) an).modMsec m.port fun p => { p with movePending := none, txPn := 1 }
         else v
       | none => v) := by
  have hgood : ¬ ((!m.icvOk) = true ∨ (!s.sea.caks.has m.port) = true) := by simp [hicv, hcak]
  show execMkaMessage m s = _
  unfold execMkaMessage
  simp only [if_neg hgood, hserver, if_true]
  rfl

theorem exec_mkaMessage_heard {s : State} {m : MkaIn} (hicv : m.icvOk = true) (hcak : s.sea.caks.has m.port = true)
    (hserver : m.keyServer = true) (hsak : m.sakAn = none) (hidle : (s.msec m.port).movePending = none) :
    exec (.mkaMessage m) s = .next (s.mkaHeard m.port) := by
  have hmove : ((s.mkaHeard m.port).msec m.port).movePending = none := by rw [State.mkaHeard_msec, hidle]
  rw [exec_mkaMessage_server hicv hcak hserver]
  simp only [hsak, hmove]

theorem exec_mkaMessage_sak {s : State} {m : MkaIn} {an : Nat} (hicv : m.icvOk = true) (hcak : s.sea.caks.has m.port = true)
    (hserver : m.keyServer = true) (hsak : m.sakAn = some an) (hnew : (s.msec m.port).txSas.contains (an % 4) = false)
    (hpeer : m.peerInstalled = false) :
    exec (.mkaMessage m) s = .next ((s.mkaHeard m.port).installSak m.port (an % 4)) := by
  have hinstall : ¬ ((s.mkaHeard m.port).msec m.port).txSas.contains (an % 4) = true := by
    rw [State.mkaHeard_msec]
    exact Bool.eq_false_iff.mp hnew
  rw [exec_mkaMessage_server hicv hcak hserver]
  simp only [hsak, if_neg hinstall, hpeer, Bool.false_eq_true, if_false]
  cases (((s.mkaHeard m.port).installSak m.port (an % 4)).msec m.port).movePending <;> rfl

/-! ## Keys -/

/-- The associations of a port after a key: the newest two. -/
def addSa (an : Nat) (l : List Nat) : List Nat :=
  let l := l.filter (· != an) ++ [an]
  l.drop (l.length - 2)

theorem addSa_contains (an : Nat) (l : List Nat) : (addSa an l).contains an = true := by
  have hlen : (l.filter (· != an) ++ [an]).length - 2 ≤ (l.filter (· != an)).length := by
    rw [List.length_append, List.length_singleton]
    omega
  unfold addSa
  dsimp only
  rw [List.contains_iff_mem, List.drop_append_of_le_length hlen]
  exact List.mem_append_right _ (List.mem_singleton_self an)

/-- A key's installation before its record. -/
def State.sakInstalled (s : State) (k an : Nat) : State :=
  let first := (s.msec k).txSas.isEmpty
  let s := s.modMsec k fun m =>
    { m with txSas := addSa an m.txSas, rxSas := addSa an m.rxSas, rekeying := false, movePending := if first then none else some an,
             txPn := if first then 1 else m.txPn, rxHigh := if first then 1 else m.rxHigh }
  let s := s.when first fun s => s.put (Reg.FTH_MSEC_STAT_TX_AN k) an
  let s := s.put (Reg.FTH_MSEC_STAT_SAK_COUNT k) ((s.get (Reg.FTH_MSEC_STAT_SAK_COUNT k) + 1) % 65536)
  (s.setF (Reg.FTH_MSEC_STAT_SECURED k)).setF (Reg.FTH_MSEC_STAT_REKEY k)

theorem State.installSak_reports (s : State) (k an : Nat) : Reports (s.sakInstalled k an) (s.installSak k an) :=
  State.msecEvent_reports (s.sakInstalled k an) k 2

theorem State.sakInstalled_msec (s : State) (k an : Nat) :
    ((s.sakInstalled k an).msec k).heardAt = (s.msec k).heardAt ∧ ((s.sakInstalled k an).msec k).rxSas = addSa an (s.msec k).rxSas := by
  have hwhen : ∀ (u : State) (c : Bool), (u.when c fun s => s.put (Reg.FTH_MSEC_STAT_TX_AN k) an).msec k = u.msec k := fun u c => by
    cases c <;> rfl
  have hmsec : ∀ u : State, (((u.put (Reg.FTH_MSEC_STAT_SAK_COUNT k) ((u.get (Reg.FTH_MSEC_STAT_SAK_COUNT k) + 1) % 65536)).setF
      (Reg.FTH_MSEC_STAT_SECURED k)).setF (Reg.FTH_MSEC_STAT_REKEY k)).msec k = u.msec k := fun _ => rfl
  unfold State.sakInstalled
  dsimp only
  rw [hmsec, hwhen, State.msec_modMsec, if_pos rfl]
  exact ⟨rfl, rfl⟩

/-- A field of the MACsec status word beside another. -/
theorem msecStat_apart {k a b c d : Nat} (h : a + b ≤ c ∨ c + d ≤ a) :
    Field.apart ⟨Reg.FTH_MSEC_STAT k, a, b⟩ ⟨Reg.FTH_MSEC_STAT k, c, d⟩ := .inr h

theorem State.sakInstalled_shows {s : State} {k : Nat} (an : Nat) {n : Nat} (hup : s.Shows (Reg.FTH_MSEC_STAT_MKA_UP k) 1)
    (hcount : s.Shows (Reg.FTH_MSEC_STAT_SAK_COUNT k) n) :
    (s.sakInstalled k an).Shows (Reg.FTH_MSEC_STAT_MKA_UP k) 1 ∧ (s.sakInstalled k an).Shows (Reg.FTH_MSEC_STAT_SECURED k) 1 ∧
      (s.sakInstalled k an).Shows (Reg.FTH_MSEC_STAT_SAK_COUNT k) ((n + 1) % 65536) := by
  let a := s.modMsec k fun m =>
    { m with txSas := addSa an m.txSas, rxSas := addSa an m.rxSas, rekeying := false,
             movePending := if (s.msec k).txSas.isEmpty then none else some an,
             txPn := if (s.msec k).txSas.isEmpty then 1 else m.txPn, rxHigh := if (s.msec k).txSas.isEmpty then 1 else m.rxHigh }
  let b := a.when (s.msec k).txSas.isEmpty fun s => s.put (Reg.FTH_MSEC_STAT_TX_AN k) an
  have hb1 : b.Shows (Reg.FTH_MSEC_STAT_MKA_UP k) 1 :=
    (show a.Shows _ _ from hup.updFh _).when fun h => h.put ⟨Nat.le_of_ble_eq_true rfl, msecStat_apart (by decide)⟩
  have hb2 : b.Shows (Reg.FTH_MSEC_STAT_SAK_COUNT k) n :=
    (show a.Shows _ _ from hcount.updFh _).when fun h => h.put ⟨Nat.le_of_ble_eq_true rfl, msecStat_apart (by decide)⟩
  let d := b.put (Reg.FTH_MSEC_STAT_SAK_COUNT k) ((b.get (Reg.FTH_MSEC_STAT_SAK_COUNT k) + 1) % 65536)
  have hd1 : d.Shows (Reg.FTH_MSEC_STAT_MKA_UP k) 1 := hb1.put ⟨Nat.le_of_ble_eq_true rfl, msecStat_apart (by decide)⟩
  have hd2 : d.Shows (Reg.FTH_MSEC_STAT_SAK_COUNT k) ((n + 1) % 65536) :=
    State.put_shows hb2.stored _ _ (by rw [hb2.value]; exact Nat.mod_mod _ _) (Nat.le_of_ble_eq_true rfl)
  have he : (d.setF (Reg.FTH_MSEC_STAT_SECURED k)).Shows (Reg.FTH_MSEC_STAT_SECURED k) 1 :=
    State.setF_shows hd1.stored _ rfl (Nat.le_of_ble_eq_true rfl)
  exact ⟨(hd1.setF ⟨Nat.le_of_ble_eq_true rfl, msecStat_apart (by decide)⟩).setF ⟨Nat.le_of_ble_eq_true rfl, msecStat_apart (by decide)⟩,
    he.setF ⟨Nat.le_of_ble_eq_true rfl, msecStat_apart (by decide)⟩,
    (hd2.setF ⟨Nat.le_of_ble_eq_true rfl, msecStat_apart (by decide)⟩).setF ⟨Nat.le_of_ble_eq_true rfl, msecStat_apart (by decide)⟩⟩

/-! ## Hellos -/

/-- One port's part of a hello. -/
def State.mkaHelloOf (s : State) (k : Nat) : State :=
  if s.sea.caks.has k && s.portUp k && s.due ((s.msec k).helloAt + 2000000000) then
    (s.modMsec k fun m => { m with helloAt := s.now }).fhSend k 3 (.eapol true (s.msec k).rekeying)
  else s

theorem exec_mkaHello (s : State) : exec .mkaHello s = .next ((s.mkaHelloOf 0).mkaHelloOf 1) := rfl

/-- What a frame sent out of the line leaves: all but the counters, queues and drops. -/
structure LineSent (s t : State) : Prop where
  now : t.now = s.now
  caks : t.sea = s.sea
  msec : t.fh.msec = s.fh.msec
  up : s.stored → ∀ k < 2, t.portUp k = s.portUp k

theorem portUp_field {k off : Nat} (hk : k < 2) (hoff : off < 0x304010) : (Reg.LIN_PORT_STAT_PORT_UP k).reg ≠ off := by
  simp only [Reg.LIN_PORT_STAT_PORT_UP, Reg.LIN_PORT_STAT]
  omega

/-- A frame dropped for a full queue. -/
theorem State.fthDrop_queue (s : State) (port : Nat) :
    s.fthDrop port 15 =
      (let u := s.add64 (Reg.FTH_CNT 15) 1
       { u with fh := { u.fh with drops := u.fh.drops.set (port * 16 + 15) (u.fh.drops.getD (port * 16 + 15) 0 + 1) } } : State).setF
        Reg.FTH_ERR_QUEUE_DROP := rfl

theorem State.Shows.fthDrop15 {s : State} {k v : Nat} (hk : k < 2) (h : s.Shows (Reg.LIN_PORT_STAT_PORT_UP k) v) (port : Nat) :
    (s.fthDrop port 15).Shows (Reg.LIN_PORT_STAT_PORT_UP k) v := by
  rw [State.fthDrop_queue]
  exact ((h.add64 (off := Reg.FTH_CNT 15) (n := 1) ⟨portUp_field hk (by decide), portUp_field hk (by decide)⟩).updFh _).setF
    (g := Reg.FTH_ERR_QUEUE_DROP) ⟨by decide, .inl (portUp_field hk (by decide)).symm⟩

theorem State.portUp_of_shows {s t : State} {k : Nat} (h : t.Shows (Reg.LIN_PORT_STAT_PORT_UP k) (s.get (Reg.LIN_PORT_STAT_PORT_UP k))) :
    t.portUp k = s.portUp k := by
  rw [State.portUp, State.on, h.value, State.portUp, State.on]

theorem State.fthDrop15_lineSent (s : State) (port : Nat) : LineSent s (s.fthDrop port 15) := by
  refine ⟨?_, ?_, ?_, fun hs _ hk => State.portUp_of_shows ((State.shows hs _).fthDrop15 hk port)⟩
  · rw [State.fthDrop_queue, State.setF_now]
    dsimp only
    rw [State.add64_now]
  · rw [State.fthDrop_queue, State.setF_sea]
    dsimp only
    rw [State.add64_sea]
  · rw [State.fthDrop_queue, State.setF_fh]
    dsimp only
    rw [State.add64_fh]

theorem State.fhSend_lineSent (s : State) {port : Nat} (hport : port < 2) (q : Nat) (f : FrameOut) : LineSent s (s.fhSend port q f) := by
  unfold State.fhSend
  rw [if_neg (not_le.mpr hport)]
  dsimp only
  split
  · exact s.fthDrop15_lineSent port
  · exact ⟨rfl, rfl, rfl, fun _ _ _ => rfl⟩

/-- A hello leaves what the other port's hello asks for. -/
theorem State.mkaHelloOf_sent (s : State) {k : Nat} (hk : k < 2) :
    (s.mkaHelloOf k).now = s.now ∧ (s.mkaHelloOf k).sea = s.sea ∧ (∀ j, j ≠ k → (s.mkaHelloOf k).msec j = s.msec j) ∧
      (s.stored → ∀ j < 2, (s.mkaHelloOf k).portUp j = s.portUp j) ∧
      (s.sea.caks.has k = true → s.portUp k = true → (s.msec k).helloAt + 2000000000 ≤ s.now →
        ((s.mkaHelloOf k).msec k).helloAt = s.now) := by
  let u := s.modMsec k fun m => { m with helloAt := s.now }
  obtain ⟨hnow, hsea, hmsec, hup⟩ := State.fhSend_lineSent u hk 3 (.eapol true (s.msec k).rekeying)
  unfold State.mkaHelloOf
  split
  next _ =>
    refine ⟨hnow, hsea, fun j hj => ?_, fun hs j hj => hup hs j hj, fun _ _ _ => ?_⟩
    · rw [State.msec_of_work hmsec, State.msec_modMsec, if_neg hj]
    · rw [State.msec_of_work hmsec, State.msec_modMsec, if_pos rfl]
  next hidle =>
    refine ⟨rfl, rfl, fun _ _ => rfl, fun _ _ _ => rfl, fun hcak hport hdue => absurd ?_ hidle⟩
    rw [hcak, hport, State.due, decide_eq_true hdue]
    rfl

theorem exec_mkaHello_sends {s : State} (hs : s.stored) {k : Nat} (hk : k < 2) (hcak : s.sea.caks.has k = true) (hup : s.portUp k = true)
    (hdue : (s.msec k).helloAt + 2000000000 ≤ s.now) : ∃ t, exec .mkaHello s = .next t ∧ (t.msec k).helloAt = s.now := by
  obtain ⟨hnow, hsea, hother, hports, hsent⟩ := s.mkaHelloOf_sent (k := 0) (by decide)
  obtain ⟨-, -, hother', -, hsent'⟩ := (s.mkaHelloOf 0).mkaHelloOf_sent (k := 1) (by decide)
  refine ⟨_, exec_mkaHello s, ?_⟩
  obtain rfl | rfl : k = 0 ∨ k = 1 := by omega
  · rw [hother' 0 (by decide)]
    exact hsent hcak hup hdue
  · rw [← hnow]
    refine hsent' (by rw [hsea]; exact hcak) (by rw [hports hs 1 (by decide)]; exact hup) ?_
    rw [hother 1 (by decide), hnow]
    exact hdue

/-! ## A silent peer, and a rekey -/

theorem exec_mkaPeerLost {s : State} {k : Nat} (hlive : (s.msec k).live = true) (hdue : (s.msec k).heardAt + 6000000000 ≤ s.now) :
    exec (.mkaPeerLost k) s = .next (((s.dropSas k).setF (Reg.FTH_MSEC_STAT_PEER_LOST k)).msecEvent k 1) := by
  have hsilent : ((s.msec k).live && s.due ((s.msec k).heardAt + 6000000000)) = true := by
    rw [hlive, State.due, decide_eq_true hdue]
    rfl
  exact congrArg Host.Outcome.next (if_pos hsilent)

theorem State.dropSas_shows {s : State} (hs : s.stored) (k : Nat) :
    (s.dropSas k).Shows (Reg.FTH_MSEC_STAT_MKA_UP k) 0 ∧ (s.dropSas k).Shows (Reg.FTH_MSEC_STAT_SECURED k) 0 := by
  have hsecured := State.put_shows (s := s.modMsec k fun m => { m with txSas := [], rxSas := [], movePending := none, live := false, rekeying := false })
    hs (Reg.FTH_MSEC_STAT_SECURED k) 0 rfl (Nat.le_of_ble_eq_true rfl)
  exact ⟨State.put_shows hsecured.stored _ _ rfl (Nat.le_of_ble_eq_true rfl),
    hsecured.put ⟨Nat.le_of_ble_eq_true rfl, msecStat_apart (by decide)⟩⟩

theorem State.dropSas_msec (s : State) (k : Nat) :
    (s.dropSas k).msec k = { s.msec k with txSas := [], rxSas := [], movePending := none, live := false, rekeying := false } := by
  have hmsec : ∀ u : State, ((u.put (Reg.FTH_MSEC_STAT_SECURED k) 0).put (Reg.FTH_MSEC_STAT_MKA_UP k) 0).msec k = u.msec k := fun _ => rfl
  unfold State.dropSas
  dsimp only
  rw [hmsec, State.msec_modMsec, if_pos rfl]

theorem State.TakesNow.exec_msecRekey {s : State} {h : Hdr} (g : s.TakesNow h) {k : Nat} (hk : k < 2) (hup : s.mkaUp k = true) :
    Answers (exec (.msecRekey h (2 ^ k)) s) (s.modMsec k fun m => { m with rekeying := true }) := by
  have hlt : 2 ^ k < 4 := Nat.pow_lt_pow_right (by decide) hk
  have hfields : firstFail [(decide (0 < 2 ^ k ∧ 2 ^ k < 4), St.range), ((maskList (2 ^ k) 2).all s.mkaUp, St.notReady)] = none := by
    rw [maskList_two_pow hk, decide_eq_true ⟨Nat.two_pow_pos _, hlt⟩, List.all_cons, hup]
    rfl
  show Answers (execMsecRekey h (2 ^ k) s) _
  rw [execMsecRekey, hfields, g.acceptNow, maskList_two_pow hk]
  exact .of_reports (State.complete_reports _ _ _ _)

/-- Settles O30: messages, hellos, a silent peer and a rekey, each by its equation and what it shows. That a rekey only asks for a key, which
the next message installs, is the model's choice (assumption log 62). -/
theorem portsAgreeTheirKeys : Obligations.PortsAgreeTheirKeys := by
  refine fun s k hs hk => ⟨?heard, ?sak, fun hcak hup hdue => exec_mkaHello_sends hs hk hcak hup hdue, ?lost,
    fun h g hup => g.exec_msecRekey hk hup⟩
  case heard =>
    rintro m rfl hicv hcak hup hserver hsak hidle
    exact ⟨_, exec_mkaMessage_heard hicv hcak hserver hsak hidle, (State.mkaHeard_shows hs hk).1.on, s.mkaHeard_msec m.port⟩
  case sak =>
    rintro m an rfl hicv hcak hserver hsak hnew hpeer
    obtain ⟨hup, hcount⟩ := State.mkaHeard_shows hs hk
    obtain ⟨hup', hsecured, hcount'⟩ := State.sakInstalled_shows (an % 4) hup hcount
    obtain ⟨hheard, hrx⟩ := (s.mkaHeard m.port).sakInstalled_msec m.port (an % 4)
    have hrecord := (s.mkaHeard m.port).installSak_reports m.port (an % 4)
    refine ⟨_, exec_mkaMessage_sak hicv hcak hserver hsak hnew hpeer, (hup'.reports hrecord (msecStat_unrecorded hk 0 1)).on,
      (hsecured.reports hrecord (msecStat_unrecorded hk 1 1)).on, ?_, ?_, (hcount'.reports hrecord (msecStat_unrecorded hk 16 16)).value⟩
    · rw [hrecord.msec, hheard, State.mkaHeard_msec]
    · rw [hrecord.msec, hrx]
      exact addSa_contains _ _
  case lost =>
    intro hlive hdue
    obtain ⟨hup, hsecured⟩ := State.dropSas_shows hs k
    have hlost : ((s.dropSas k).setF (Reg.FTH_MSEC_STAT_PEER_LOST k)).Shows (Reg.FTH_MSEC_STAT_PEER_LOST k) 1 :=
      State.setF_shows hup.stored _ rfl (Nat.le_of_ble_eq_true rfl)
    have hrecord := State.msecEvent_reports ((s.dropSas k).setF (Reg.FTH_MSEC_STAT_PEER_LOST k)) k 1
    have hmsec : ((s.dropSas k).setF (Reg.FTH_MSEC_STAT_PEER_LOST k)).msec k = (s.dropSas k).msec k := rfl
    refine ⟨_, exec_mkaPeerLost hlive hdue, ?_, ?_, (hlost.reports hrecord (msecStat_unrecorded hk 5 1)).on, ?_, ?_⟩
    · exact ((hup.setF ⟨Nat.le_of_ble_eq_true rfl, msecStat_apart (by decide)⟩).reports hrecord (msecStat_unrecorded hk 0 1)).off
    · exact ((hsecured.setF ⟨Nat.le_of_ble_eq_true rfl, msecStat_apart (by decide)⟩).reports hrecord (msecStat_unrecorded hk 1 1)).off
    · rw [hrecord.msec, hmsec, State.dropSas_msec]
    · rw [hrecord.msec, hmsec, State.dropSas_msec]

end Sys2Proof.Machine
end


section
/-! What the time unit's own steps leave alone: every part but its own, and every register outside its block (R283 to R310). -/
namespace Sys2Proof.Machine
open Sys2Proof

/-- The second state is the first but for records, the time unit's part and the registers of its block. -/
structure TimeOnly (s t : State) : Prop where
  work : { t.work with tim := s.tim } = s.work
  stored : s.stored → t.stored
  fields : s.stored → ∀ f, recordField f = false → f.reg < 0x030000 ∨ 0x031000 ≤ f.reg → t.get f = s.get f

namespace TimeOnly

theorem refl (s : State) : TimeOnly s s := ⟨rfl, id, fun _ _ _ _ => rfl⟩

theorem of_reports {s t : State} (h : Reports s t) : TimeOnly s t :=
  ⟨congrArg (fun w : State => { w with tim := s.tim }) h.work, h.stored, fun hs f hf _ => h.fields hs f hf⟩

theorem trans {s t u : State} (h : TimeOnly s t) (h' : TimeOnly t u) : TimeOnly s u where
  work := (congrArg (fun w : State => { w with tim := s.tim }) h'.work).trans h.work
  stored hs := h'.stored (h.stored hs)
  fields hs f hf hout := (h'.fields (h.stored hs) f hf hout).trans (h.fields hs f hf hout)

section
variable {s t : State} (h : TimeOnly s t)
include h

theorem put {g : Field} {v : Nat} (hreg : 0x030000 ≤ g.reg ∧ g.reg < 0x031000) (hok : g.ok) : TimeOnly s (t.put g v) :=
  h.trans ⟨rfl, State.put_stored _ _, fun hs _ _ hout => State.get_put_other hs _ _ _ hok (.inl (by omega))⟩

theorem upd (x : TimeState) : TimeOnly s { t with tim := x } := h.trans ⟨rfl, id, fun _ _ _ _ => rfl⟩

theorem event (src code : Nat) (args : List Nat) : TimeOnly s (t.event src code args) := h.trans (of_reports (State.event_reports _ _ _ _))

end

theorem ite {s t u : State} {c : Prop} [Decidable c] (h : TimeOnly s t) (h' : TimeOnly s u) : TimeOnly s (if c then t else u) := by
  split <;> assumption

variable {s t : State} (h : TimeOnly s t)
include h

theorem now : t.now = s.now := by have e := congrArg State.now h.work; exact e
theorem line : t.line = s.line := by have e := congrArg State.line h.work; exact e
theorem cul : t.cul = s.cul := by have e := congrArg State.cul h.work; exact e
theorem rct : t.rct = s.rct := by have e := congrArg State.rct h.work; exact e
theorem boot : t.boot = s.boot := by have e := congrArg State.boot h.work; exact e

end TimeOnly

theorem timPortStat_block {k : Nat} (hk : k < 4) : 0x030000 ≤ Reg.TIM_PORT_STAT k ∧ Reg.TIM_PORT_STAT k < 0x031000 := by
  unfold Reg.TIM_PORT_STAT
  omega

theorem State.clockRecord_reports (s : State) (old new why : Nat) : Reports s (s.clockRecord old new why) := State.event_reports _ _ _ _

theorem State.clockTo_timeOnly {a s : State} (h : TimeOnly a s) (new : Nat) : TimeOnly a (s.clockTo new) := by
  unfold State.clockTo
  dsimp only
  refine TimeOnly.ite h ?_
  have hput : TimeOnly a (s.put Reg.TIM_STAT_CLK_STATE new) := h.put (by decide) (by decide)
  have hhold := TimeOnly.ite (c := new = 3) (hput.upd
    { (s.put Reg.TIM_STAT_CLK_STATE new).tim with holdSince := (s.put Reg.TIM_STAT_CLK_STATE new).now,
                                                   y := (s.put Reg.TIM_STAT_CLK_STATE new).tim.yMean }) hput
  exact (TimeOnly.ite (hhold.upd _) hhold).trans (.of_reports (State.clockRecord_reports _ _ _ _))

theorem State.chooseSource_timeOnly {a s : State} (h : TimeOnly a s) : TimeOnly a s.chooseSource := by
  have hput : TimeOnly a (s.put Reg.TIM_STAT_SOURCE s.sourceOf) := h.put (by decide) (by decide)
  exact TimeOnly.ite (State.clockTo_timeOnly hput 3) (TimeOnly.ite (State.clockTo_timeOnly hput 1) hput)

theorem State.follow_timeOnly {a s : State} (h : TimeOnly a s) (key : RootKey) (parent : Option Nat) : TimeOnly a (s.follow key parent) := by
  let advanced := decide (seqAhead key.seq s.tim.key.seq > 0) || !keySame key s.tim.key
  let u : State := { s with tim := { s.tim with key := key, parent := parent, rootAt := if advanced then s.now else s.tim.rootAt } }
  have hu : TimeOnly a u := h.upd _
  let v := (((u.put Reg.TIM_ROOT_ROOT_ID key.id).put Reg.TIM_ROOT_ROOT_EXT (b2n key.ext)).put Reg.TIM_ROOT_STEPS (min 255 key.steps)).put
    Reg.TIM_STAT_ROOT (b2n parent.isNone)
  have hv : TimeOnly a v := (((hu.put (by decide) (by decide)).put (by decide) (by decide)).put (by decide) (by decide)).put (by decide)
    (by decide)
  have hports : TimeOnly a (v.each (List.range 4) fun s k => s.put (Reg.TIM_PORT_STAT_PARENT k) (b2n (parent == some k))) :=
    State.each_induct _ _ hv fun w hw k hk => hw.put (timPortStat_block (List.mem_range.mp hk)) (Nat.le_of_ble_eq_true rfl)
  have hsource := State.chooseSource_timeOnly hports
  unfold State.follow State.when
  exact TimeOnly.ite (hsource.event _ _ _) hsource

theorem State.elect_timeOnly {a s : State} (h : TimeOnly a s) : TimeOnly a s.elect := by
  have hput : TimeOnly a (s.put Reg.TIM_STAT_EXT_TIME (b2n s.extTime)) := h.put (by decide) (by decide)
  unfold State.elect
  dsimp only
  refine TimeOnly.ite (State.chooseSource_timeOnly ((hput.upd _).put (by decide) (by decide))) ?_
  split
  · exact TimeOnly.ite (State.follow_timeOnly hput _ _) (State.follow_timeOnly hput _ _)
  · exact State.follow_timeOnly hput _ _

/-- A port that joins or leaves the constellation (R309). -/
theorem State.joinPort_timeOnly {a s : State} (h : TimeOnly a s) {k : Nat} (hk : k < 4) (b : Bool) (peer : Nat) :
    TimeOnly a (s.joinPort k b peer) := by
  have hleft : TimeOnly a (s.modTimePort k fun p => { TimePort.initial with joined := b, refused := p.refused }) := h.upd _
  unfold State.joinPort
  exact TimeOnly.ite h (State.elect_timeOnly ((hleft.put (timPortStat_block hk) (Nat.le_of_ble_eq_true rfl)).event _ _ _))

/-! ## The lanes of the line through a port's steps -/

/-- Whether a field stands in the registers of the lanes, in the configuration of the ports, or in the counters of received codewords. -/
def Field.ofLanes (f : Field) : Prop :=
  0x300000 ≤ f.reg ∧ f.reg < 0x304010 ∨ 0x304100 ≤ f.reg ∧ f.reg < 0x304200 ∧ f.reg % 0x80 < 0x18

theorem Field.ofLanes_block {f : Field} (h : 0x300000 ≤ f.reg ∧ f.reg < 0x304010) : f.ofLanes := .inl h

/-- The second state keeps the first one's time, lanes and registers of the lanes. -/
structure LanesKept (s t : State) : Prop where
  now : t.now = s.now
  lanes : t.line.lanes = s.line.lanes
  stored : s.stored → t.stored
  fields : s.stored → ∀ f, f.ofLanes → t.get f = s.get f

theorem recordField_lane {f : Field} (h : f.ofLanes) : recordField f = false := by
  have hblock : 0x300000 ≤ f.reg ∧ f.reg < 0x304200 := by
    unfold Field.ofLanes at h
    omega
  have hout : ∀ off < 0x300000, f.reg ≠ off := fun off hoff => by omega
  have hout' : ∀ off ≥ 0x304200, f.reg ≠ off := fun off hoff => by omega
  have hrings : ¬ f.reg < 0x081800 := by omega
  simp only [recordField, hrings, beq_false_of_ne (hout Reg.HRG_STAT (by decide)), beq_false_of_ne (hout' Reg.THM_WINDOW (by decide)),
    beq_false_of_ne (hout' Reg.FLT_STAT (by decide)), beq_false_of_ne (hout' Reg.FLT_LOG_WEAR (by decide)), decide_false, Bool.and_false,
    Bool.false_and, Bool.or_false]

namespace LanesKept

theorem refl (s : State) : LanesKept s s := ⟨rfl, rfl, id, fun _ _ _ => rfl⟩

theorem trans {s t u : State} (h : LanesKept s t) (h' : LanesKept t u) : LanesKept s u :=
  ⟨h'.now.trans h.now, h'.lanes.trans h.lanes, fun hs => h'.stored (h.stored hs),
    fun hs f hf => (h'.fields (h.stored hs) f hf).trans (h.fields hs f hf)⟩

theorem of_timeOnly {s t : State} (h : TimeOnly s t) : LanesKept s t :=
  ⟨h.now, congrArg LineState.lanes h.line, h.stored, fun hs f hf => h.fields hs f (recordField_lane hf) (.inr (by
    unfold Field.ofLanes at hf
    omega))⟩

theorem of_reports {s t : State} (h : Reports s t) : LanesKept s t := of_timeOnly (.of_reports h)

theorem put {s : State} {g : Field} {v : Nat} (hreg : ∀ f : Field, f.ofLanes → g.reg ≠ f.reg) (hok : g.ok) : LanesKept s (s.put g v) :=
  ⟨rfl, rfl, State.put_stored _ _, fun hs f hf => State.get_put_other hs _ _ _ hok (.inl (hreg f hf))⟩

theorem add64 {s : State} {off n : Nat} (hreg : ∀ f : Field, f.ofLanes → f.reg ≠ off ∧ f.reg ≠ off + 4) : LanesKept s (s.add64 off n) :=
  ⟨rfl, rfl, State.add64_stored _ _, fun hs f hf => State.get_wr64_other hs _ _ _ (hreg f hf).1 (hreg f hf).2⟩

theorem ite {s t u : State} {c : Prop} [Decidable c] (h : LanesKept s t) (h' : LanesKept s u) : LanesKept s (if c then t else u) := by
  split <;> assumption

theorem shows_lane {s t : State} (h : LanesKept s t) {f : Field} {v : Nat} (hs : s.Shows f v) (hf : f.ofLanes) : t.Shows f v :=
  ⟨h.stored hs.stored, (h.fields hs.stored f hf).trans hs.value⟩

theorem lane {s t : State} (h : LanesKept s t) (n : Nat) : t.lane n = s.lane n := by rw [State.lane, h.lanes, State.lane]

end LanesKept

theorem State.neighbourLost_lanesKept (s : State) {k : Nat} (hk : k < 4) : LanesKept s (s.neighbourLost k) := by
  have hport : LanesKept s (s.modPort k fun p => { p with reachable := false }) := ⟨rfl, rfl, id, fun _ _ _ => rfl⟩
  unfold State.neighbourLost
  exact LanesKept.ite (.refl s) (hport.trans (.of_timeOnly (State.joinPort_timeOnly (.of_reports (State.event_reports _ _ _ _)) hk _ _)))

/-- The state of a port stands apart from what `ofLanes` names. -/
theorem linPortStat_apart {k : Nat} (hk : k < 2) {f : Field} (hf : f.ofLanes) : Reg.LIN_PORT_STAT k ≠ f.reg := by
  unfold Field.ofLanes at hf
  unfold Reg.LIN_PORT_STAT
  omega

theorem State.portLanes_lanesKept (s : State) {k : Nat} (hk : k < 2) : LanesKept s (s.portLanes k) := by
  let u := s.put (Reg.LIN_PORT_STAT_LANES_UP k) (maskOf ((List.range 4).filter fun j => s.laneAt (4 * k + j) == 5))
  have hu : LanesKept s u := .put (fun _ => linPortStat_apart hk) (Nat.le_of_ble_eq_true rfl)
  have hdown : LanesKept u (u.put (Reg.LIN_PORT_STAT_PORT_UP k) 0) := .put (fun _ => linPortStat_apart hk) (Nat.le_of_ble_eq_true rfl)
  have hcount : LanesKept (u.put (Reg.LIN_PORT_STAT_PORT_UP k) 0) ((u.put (Reg.LIN_PORT_STAT_PORT_UP k) 0).portCount k 3 1) :=
    .add64 fun f hf => by
      unfold Field.ofLanes at hf
      unfold Reg.LIN_PORT_CNT
      omega
  unfold State.portLanes
  exact LanesKept.ite (hu.trans (hdown.trans (hcount.trans ((LanesKept.of_reports (State.event_reports _ _ _ _)).trans
    (State.neighbourLost_lanesKept _ (by omega)))))) hu

end Sys2Proof.Machine
end


section
/-! The states of a lane (R255 to R259). -/
namespace Sys2Proof.Machine
open Sys2Proof

theorem linStat_ofLanes {n : Nat} (hn : n < 8) (lsb w : Nat) : Field.ofLanes ⟨Reg.LIN_STAT n, lsb, w⟩ := by
  refine Field.ofLanes_block ?_
  unfold Reg.LIN_STAT
  dsimp only
  omega

theorem linRxeq_ofLanes {n : Nat} (hn : n < 8) (lsb w : Nat) : Field.ofLanes ⟨Reg.LIN_RXEQ n, lsb, w⟩ := by
  refine Field.ofLanes_block ?_
  unfold Reg.LIN_RXEQ
  dsimp only
  omega

theorem linPortCfg_ofLanes {k : Nat} (hk : k < 2) (lsb w : Nat) : Field.ofLanes ⟨Reg.LIN_PORT_CFG k, lsb, w⟩ := by
  refine Field.ofLanes_block ?_
  unfold Reg.LIN_PORT_CFG
  dsimp only
  omega

theorem portOf_lt {n : Nat} (hn : n < 8) : portOf n < 2 := by
  unfold portOf
  omega

theorem State.Shows.event_lane {s : State} {f : Field} {v : Nat} (h : s.Shows f v) (hf : f.ofLanes) {src code : Nat} {args : List Nat} :
    (s.event src code args).Shows f v := h.event (recordField_lane hf)

/-! ## A move to a state -/

/-- A lane's move before its port is looked at. -/
def State.movedLane (s : State) (n new : Nat) (cause : Option Nat) : State :=
  let old := s.laneAt n
  let s := (s.put (Reg.LIN_STAT_STATE n) new).modLane n fun l => { l with since := s.now }
  match cause with
  | some c => s.event 0x0030 0x0701 [n, old, new, c, s.get (Reg.LIN_STAT_BACKOFF n)]
  | none => s

theorem State.setLane_eq (s : State) (n new : Nat) (cause : Option Nat) :
    s.setLane n new cause = (s.movedLane n new cause).portLanes (portOf n) := rfl

theorem State.movedLane_reports (s : State) (n new : Nat) (cause : Option Nat) :
    Reports ((s.put (Reg.LIN_STAT_STATE n) new).modLane n fun l => { l with since := s.now }) (s.movedLane n new cause) := by
  unfold State.movedLane
  cases cause with
  | some c => exact State.event_reports _ _ _ _
  | none => exact .refl _

section
variable {s : State} {n : Nat} (hn : n < 8) (new : Nat) (cause : Option Nat)
include hn

theorem State.setLane_lanesKept :
    LanesKept ((s.put (Reg.LIN_STAT_STATE n) new).modLane n fun l => { l with since := s.now }) (s.setLane n new cause) :=
  (LanesKept.of_reports (s.movedLane_reports n new cause)).trans (State.portLanes_lanesKept _ (portOf_lt hn))

theorem State.setLane_at (hs : s.stored) (hnew : new < 8) : (s.setLane n new cause).Shows (Reg.LIN_STAT_STATE n) new :=
  (State.setLane_lanesKept hn new cause).shows_lane
    ((State.put_shows hs (Reg.LIN_STAT_STATE n) new (Nat.mod_eq_of_lt (show new < 2 ^ 3 from hnew)) (Nat.le_of_ble_eq_true rfl)).updLine _)
    (linStat_ofLanes hn 0 3)

theorem State.Shows.setLane {f : Field} {v : Nat} (h : s.Shows f v) (hf : f.ofLanes) (hsep : (Reg.LIN_STAT_STATE n).apart f) :
    (s.setLane n new cause).Shows f v :=
  (State.setLane_lanesKept hn new cause).shows_lane ((h.put ⟨Nat.le_of_ble_eq_true rfl, hsep⟩).updLine _) hf

theorem State.setLane_lane : (s.setLane n new cause).lane n = { s.lane n with since := s.now } := by
  rw [(State.setLane_lanesKept hn new cause).lane, State.lane_modLane, if_pos rfl]
  rfl

theorem State.setLane_now : (s.setLane n new cause).now = s.now := (State.setLane_lanesKept hn new cause).now

end

/-! ## ACQUIRE -/

/-- A lane in ACQUIRE begins at its cursor. -/
theorem State.enterAcquire_shows {s : State} {n : Nat} (hn : n < 8) (hs : s.stored) :
    (s.enterAcquire n).laneAt n = 2 ∧ ((s.enterAcquire n).lane n).since = s.now ∧
      ((s.enterAcquire n).lane n).cursor = s.get (Reg.LIN_RXEQ_CURSOR n) := by
  have hat := State.setLane_at (s := s.modLane n fun l => { l with cursor := s.get (Reg.LIN_RXEQ_CURSOR n) }) hn 2 none hs (by decide)
  have hlane := State.setLane_lane (s := s.modLane n fun l => { l with cursor := s.get (Reg.LIN_RXEQ_CURSOR n) }) hn 2 none
  have hmod : (s.modLane n fun l => { l with cursor := s.get (Reg.LIN_RXEQ_CURSOR n) }).lane n =
      { s.lane n with cursor := s.get (Reg.LIN_RXEQ_CURSOR n) } := by rw [State.lane_modLane, if_pos rfl]
  refine ⟨hat.value, ?_, ?_⟩
  · exact congrArg LaneState.since hlane
  · exact (congrArg LaneState.cursor hlane).trans (congrArg LaneState.cursor hmod)

theorem exec_losChange_lost {s : State} (hs : s.stored) {n : Nat} (hat : s.laneAt n = 2 ∨ s.laneAt n = 3 ∨ s.laneAt n = 4)
    (hsignal : s.on (Reg.LIN_STAT_LOS n) = false) :
    exec (.losChange n true) s = .next
      ((((s.setF (Reg.LIN_STAT_LOS n)).laneCount n 5 1).modLane n fun l => { l with losAt := s.now }).enterDetect n 1) := by
  let u := ((s.setF (Reg.LIN_STAT_LOS n)).laneCount n 5 1).modLane n fun l => { l with losAt := s.now }
  have hu : u.laneAt n = s.laneAt n := by
    have hlos : (s.setF (Reg.LIN_STAT_LOS n)).Shows (Reg.LIN_STAT_STATE n) (s.laneAt n) :=
      (State.shows hs _).setF ⟨Nat.le_of_ble_eq_true rfl, .inr (.inr (Nat.le_of_ble_eq_true rfl))⟩
    have hcount : ((s.setF (Reg.LIN_STAT_LOS n)).laneCount n 5 1).Shows (Reg.LIN_STAT_STATE n) (s.laneAt n) :=
      hlos.add64 (by simp only [Reg.LIN_STAT_STATE, Reg.LIN_STAT, Reg.LIN_CNT]; omega)
    exact (hcount.updLine _).value
  have hdown : s.laneAt n ≠ 0 := by omega
  have hrange : 2 ≤ u.laneAt n ∧ u.laneAt n ≤ 4 := by rw [hu]; omega
  show execLosChange n true s = _
  unfold execLosChange
  simp only [if_neg hdown, hsignal, State.when, Bool.not_false, if_true]
  exact congrArg Host.Outcome.next (if_pos hrange)

theorem exec_losChange_found {s : State} (hs : s.stored) {n : Nat} (hn : n < 8) (hat : s.laneAt n = 1) (hend : (s.lane n).waitEnd ≤ s.now) :
    ∃ t, exec (.losChange n false) s = .next t ∧ t.laneAt n = 2 ∧ t.on (Reg.LIN_STAT_LOS n) = false ∧ (t.lane n).since = s.now ∧
      (t.lane n).cursor = s.get (Reg.LIN_RXEQ_CURSOR n) := by
  let u := s.put (Reg.LIN_STAT_LOS n) 0
  have hlos : u.Shows (Reg.LIN_STAT_LOS n) 0 := State.put_shows hs _ _ rfl (Nat.le_of_ble_eq_true rfl)
  have hat' : u.laneAt n = 1 :=
    ((⟨hs, hat⟩ : s.Shows (Reg.LIN_STAT_STATE n) 1).put ⟨Nat.le_of_ble_eq_true rfl, .inr (.inr (Nat.le_of_ble_eq_true rfl))⟩).value
  have hcursor : u.get (Reg.LIN_RXEQ_CURSOR n) = s.get (Reg.LIN_RXEQ_CURSOR n) :=
    State.get_put_other hs _ _ _ (Nat.le_of_ble_eq_true rfl) (.inl (by
      simp only [Reg.LIN_RXEQ_CURSOR, Reg.LIN_RXEQ, Reg.LIN_STAT_LOS, Reg.LIN_STAT]; omega))
  have hdue : u.laneAt n = 1 ∧ u.due (u.lane n).waitEnd = true := ⟨hat', decide_eq_true hend⟩
  have hexec : exec (.losChange n false) s = .next (u.enterAcquire n) := by
    show execLosChange n false s = _
    unfold execLosChange
    simp only [hat, Nat.one_ne_zero, Bool.false_eq_true, if_false]
    exact congrArg Host.Outcome.next (if_pos hdue)
  obtain ⟨hacquire, hsince, hcur⟩ := State.enterAcquire_shows hn hlos.stored
  refine ⟨_, hexec, hacquire, ?_, hsince, hcur.trans hcursor⟩
  exact (State.Shows.setLane (s := u.modLane n fun l => { l with cursor := u.get (Reg.LIN_RXEQ_CURSOR n) }) hn 2 none
    (hlos.updLine _) (linStat_ofLanes hn 5 1) (.inr (.inl (Nat.le_of_ble_eq_true rfl)))).off

theorem exec_laneBackoffEnd {s : State} {n : Nat} (hat : s.laneAt n = 1) (hend : (s.lane n).waitEnd ≤ s.now)
    (hsignal : s.on (Reg.LIN_STAT_LOS n) = false) : exec (.laneBackoffEnd n) s = .next (s.enterAcquire n) := by
  have hdue : s.laneAt n = 1 ∧ s.due (s.lane n).waitEnd = true ∧ (!s.on (Reg.LIN_STAT_LOS n)) = true :=
    ⟨hat, decide_eq_true hend, by rw [hsignal]; rfl⟩
  exact congrArg Host.Outcome.next (if_pos hdue)

/-! ## DETECT -/

theorem State.Shows.setTaps {s : State} {f : Field} {v n : Nat} (h : s.Shows f v) (hsep : f.reg ≠ Reg.LIN_TXFFE n) (l : List Int) :
    (s.setTaps n l).Shows f v := by
  have hf : ∀ lsb w, lsb + w ≤ 32 → Field.ok ⟨Reg.LIN_TXFFE n, lsb, w⟩ ∧ Field.apart ⟨Reg.LIN_TXFFE n, lsb, w⟩ f :=
    fun _ _ hok => ⟨hok, .inl hsep.symm⟩
  exact ((((h.put (hf _ _ (by decide))).put (hf _ _ (by decide))).put (hf _ _ (by decide))).put (hf _ _ (by decide))).put
    (hf _ _ (by decide))

theorem linStat_apart {n a b c d : Nat} (h : a + b ≤ c ∨ c + d ≤ a) : Field.apart ⟨Reg.LIN_STAT n, a, b⟩ ⟨Reg.LIN_STAT n, c, d⟩ := .inr h

/-- The back-off of a lane that goes to DETECT: doubled where it failed on its way up. -/
def State.backoffOf (s : State) (n : Nat) : Nat :=
  if 2 ≤ s.laneAt n ∧ s.laneAt n ≤ 4 then min 64 (2 * s.get (Reg.LIN_STAT_BACKOFF n)) else s.get (Reg.LIN_STAT_BACKOFF n)

/-- A failed lane's back-off and its count. -/
def State.countFailure (s : State) (n : Nat) : State :=
  s.when (decide (2 ≤ s.laneAt n ∧ s.laneAt n ≤ 4)) fun s' =>
    (s'.put (Reg.LIN_STAT_BACKOFF n) (min 64 (2 * s.get (Reg.LIN_STAT_BACKOFF n)))).laneCount n 6 1

theorem State.countFailure_now (s : State) (n : Nat) : (s.countFailure n).now = s.now := by
  unfold State.countFailure State.when
  split <;> rfl

theorem State.countFailure_shows {s : State} (hs : s.stored) (n : Nat) :
    (s.countFailure n).Shows (Reg.LIN_STAT_BACKOFF n) (s.backoffOf n) := by
  unfold State.countFailure State.backoffOf State.when
  by_cases hfailed : 2 ≤ s.laneAt n ∧ s.laneAt n ≤ 4
  · rw [if_pos hfailed, if_pos (decide_eq_true hfailed)]
    exact (State.put_shows hs _ _ (Nat.mod_eq_of_lt (show min 64 (2 * s.get (Reg.LIN_STAT_BACKOFF n)) < 2 ^ 7 by omega))
      (Nat.le_of_ble_eq_true rfl)).add64 (by simp only [Reg.LIN_STAT_BACKOFF, Reg.LIN_STAT, Reg.LIN_CNT]; omega)
  · rw [if_neg hfailed, if_neg (by rwa [decide_eq_true_eq])]
    exact State.shows hs _

/-- How long a lane waits in DETECT by the state it comes from. -/
def State.detectWait (s : State) (n : Nat) : Nat :=
  if decide (2 ≤ s.laneAt n ∧ s.laneAt n ≤ 4) || s.laneAt n = 5 then s.get (Reg.LIN_STAT_BACKOFF n) * 1000000 else 0

/-- The preset's taps and a cleared `ONE_SIDED`. -/
def State.detectTaps (s : State) (n : Nat) : State :=
  (s.setTaps n (presetTaps (s.get (Reg.LIN_CTL_TX_PRESET n)))).put (Reg.LIN_STAT_ONE_SIDED n) 0

/-- What a lane keeps when it enters DETECT from state `old`. -/
def LaneState.detecting (l : LaneState) (old stop : Nat) : LaneState :=
  { l with waitEnd := if old = 1 then l.waitEnd else stop, snrSince := none, ready := false, partnerReady := 0,
           partnerCount := none, countdown := none, syncLost := 0, status := 0 }

theorem LaneState.detecting_waitEnd (l : LaneState) {old : Nat} (h : old ≠ 1) (stop : Nat) : (l.detecting old stop).waitEnd = stop := if_neg h

theorem State.enterDetect_eq (s : State) (n cause : Nat) :
    s.enterDetect n cause =
      (let u := (s.countFailure n).detectTaps n
       let v := u.modLane n fun l => l.detecting (s.laneAt n) (u.now + s.detectWait n)
       if s.laneAt n = 1 then v else v.setLane n 1 (some cause)) := by
  unfold State.enterDetect State.countFailure State.detectTaps State.detectWait LaneState.detecting
  dsimp only

theorem State.Shows.detectTaps {s : State} {n v : Nat} (h : s.Shows (Reg.LIN_STAT_BACKOFF n) v) :
    (s.detectTaps n).Shows (Reg.LIN_STAT_BACKOFF n) v :=
  (h.setTaps (by simp only [Reg.LIN_STAT_BACKOFF, Reg.LIN_STAT, Reg.LIN_TXFFE]; omega) _).put
    ⟨Nat.le_of_ble_eq_true rfl, linStat_apart (by decide)⟩

theorem State.detectTaps_now (s : State) (n : Nat) : (s.detectTaps n).now = s.now := by
  unfold State.detectTaps State.setTaps
  rw [State.put_now, State.put_now, State.put_now, State.put_now, State.put_now, State.put_now]

/-- A lane that goes to DETECT from another state: its back-off, and the end of its wait. -/
theorem State.enterDetect_shows {s : State} (hs : s.stored) {n : Nat} (hn : n < 8) (cause : Nat) (hat : s.laneAt n ≠ 1) :
    (s.enterDetect n cause).laneAt n = 1 ∧ (s.enterDetect n cause).get (Reg.LIN_STAT_BACKOFF n) = s.backoffOf n ∧
      ((s.enterDetect n cause).lane n).waitEnd = s.now + s.detectWait n := by
  have hback : ((s.countFailure n).detectTaps n).Shows (Reg.LIN_STAT_BACKOFF n) (s.backoffOf n) := (State.countFailure_shows hs n).detectTaps
  have hnow : ((s.countFailure n).detectTaps n).now = s.now := (State.detectTaps_now _ _).trans (s.countFailure_now n)
  rw [s.enterDetect_eq]
  dsimp only
  rw [if_neg hat]
  generalize (s.countFailure n).detectTaps n = u at hback hnow
  have hmod : (u.modLane n fun l => l.detecting (s.laneAt n) (u.now + s.detectWait n)).Shows (Reg.LIN_STAT_BACKOFF n) (s.backoffOf n) :=
    hback.updLine _
  refine ⟨(State.setLane_at hn 1 (some cause) hmod.stored (by decide)).value,
    (hmod.setLane hn 1 (some cause) (linStat_ofLanes hn 8 7) (linStat_apart (by decide))).value, ?_⟩
  rw [State.setLane_lane hn, State.lane_modLane, if_pos rfl, LaneState.detecting_waitEnd _ hat, hnow]

theorem exec_laneTimeout_failed {s : State} {n : Nat}
    (h : s.laneAt n = 2 ∧ (s.lane n).since + 50000000 ≤ s.now ∨ s.laneAt n = 3 ∧ (s.lane n).since + 1000000000 ≤ s.now ∨
      s.laneAt n = 4 ∧ (s.lane n).since + 20000000 ≤ s.now) : exec (.laneTimeout n) s = .next (s.enterDetect n 2) := by
  show execLaneTimeout n s = _
  unfold execLaneTimeout
  rcases h with ⟨hat, hdue⟩ | ⟨hat, hdue⟩ | ⟨hat, hdue⟩
  all_goals
    simp only [hat]
    exact congrArg Host.Outcome.next (if_pos (decide_eq_true hdue))

theorem exec_laneTimeout_lost {s : State} {n : Nat} (hat : s.laneAt n = 5) (hsignal : s.on (Reg.LIN_STAT_LOS n) = true)
    (hdue : (s.lane n).losAt + 10000 ≤ s.now) : exec (.laneTimeout n) s = .next (s.enterDetect n 1) := by
  have hlost : (s.on (Reg.LIN_STAT_LOS n) && s.due ((s.lane n).losAt + 10000)) = true := by
    rw [hsignal, State.due, decide_eq_true hdue]
    rfl
  show execLaneTimeout n s = _
  unfold execLaneTimeout
  simp only [hat]
  exact congrArg Host.Outcome.next (if_pos hlost)

/-! ## TRAIN and UP -/

/-- A lane that found the markers: it is in TRAIN, and its last training cell counts from now. -/
def State.lockMarkers (s : State) (n : Nat) : State :=
  (s.setLane n 3 none).modLane n fun l => { l with lastCell := s.now }

/-- Whether a lane trains without its partner. -/
def State.oneSided (s : State) (n : Nat) : Bool := s.lineMode (portOf n) == 5 && !s.on (Reg.LIN_PORT_CFG_TRAIN_EN (portOf n))

theorem exec_markerLock {s : State} {n : Nat} (hat : s.laneAt n = 2) :
    exec (.markerLock n) s = .next (if (s.lockMarkers n).oneSided n then
      ((s.lockMarkers n).setF (Reg.LIN_STAT_ONE_SIDED n)).event 0x0030 0x0702 [n, 1] else s.lockMarkers n) := by
  show execMarkerLock n s = _
  unfold execMarkerLock State.oneSided State.lockMarkers
  rw [if_neg (not_not.mpr hat)]
  simp only [Bool.and_eq_true, beq_iff_eq]

theorem State.lockMarkers_keeps {s : State} (hs : s.stored) {n : Nat} (hn : n < 8) {f : Field} (hf : f.ofLanes)
    (hsep : (Reg.LIN_STAT_STATE n).apart f) : (s.lockMarkers n).Shows f (s.get f) :=
  ((State.shows hs f).setLane hn 3 none hf hsep).updLine _

theorem State.lockMarkers_at {s : State} (hs : s.stored) {n : Nat} (hn : n < 8) : (s.lockMarkers n).Shows (Reg.LIN_STAT_STATE n) 3 :=
  (State.setLane_at hn 3 none hs (by decide)).updLine _

theorem State.lockMarkers_lane (s : State) {n : Nat} (hn : n < 8) :
    (s.lockMarkers n).lane n = { s.lane n with since := s.now, lastCell := s.now } := by
  rw [State.lockMarkers, State.lane_modLane, if_pos rfl, State.setLane_lane hn]

theorem State.lockMarkers_oneSided {s : State} (hs : s.stored) {n : Nat} (hn : n < 8) : (s.lockMarkers n).oneSided n = s.oneSided n := by
  have hcfg : ∀ lsb w, (s.lockMarkers n).get ⟨Reg.LIN_PORT_CFG (portOf n), lsb, w⟩ = s.get ⟨Reg.LIN_PORT_CFG (portOf n), lsb, w⟩ :=
    fun lsb w => (State.lockMarkers_keeps hs hn (linPortCfg_ofLanes (portOf_lt hn) lsb w) (.inl (by
      have := portOf_lt hn
      simp only [Reg.LIN_STAT_STATE, Reg.LIN_STAT, Reg.LIN_PORT_CFG]
      omega))).value
  have hmode : (s.lockMarkers n).lineMode (portOf n) = s.lineMode (portOf n) := hcfg 0 3
  have htrain : (s.lockMarkers n).on (Reg.LIN_PORT_CFG_TRAIN_EN (portOf n)) = s.on (Reg.LIN_PORT_CFG_TRAIN_EN (portOf n)) :=
    congrArg (· == 1) (hcfg 3 1)
  rw [State.oneSided, hmode, htrain, State.oneSided]

theorem exec_markerLock_shows {s : State} (hs : s.stored) {n : Nat} (hn : n < 8) (hat : s.laneAt n = 2) :
    ∃ t, exec (.markerLock n) s = .next t ∧ t.laneAt n = 3 ∧ (t.lane n).since = s.now ∧ (t.lane n).lastCell = s.now ∧
      t.on (Reg.LIN_STAT_ONE_SIDED n) = (s.on (Reg.LIN_STAT_ONE_SIDED n) || s.oneSided n) := by
  have hat' := State.lockMarkers_at hs hn
  have hlane := s.lockMarkers_lane hn
  have hsided := State.lockMarkers_keeps hs hn (linStat_ofLanes hn 3 1) (f := Reg.LIN_STAT_ONE_SIDED n) (linStat_apart (by decide))
  refine ⟨_, exec_markerLock hat, ?_⟩
  rw [State.lockMarkers_oneSided hs hn]
  generalize s.lockMarkers n = v at hat' hlane hsided
  cases s.oneSided n with
  | true =>
    have hrecord : LanesKept (v.setF (Reg.LIN_STAT_ONE_SIDED n)) ((v.setF (Reg.LIN_STAT_ONE_SIDED n)).event 0x0030 0x0702 [n, 1]) :=
      .of_reports (State.event_reports _ _ _ _)
    have hset : (v.setF (Reg.LIN_STAT_ONE_SIDED n)).Shows (Reg.LIN_STAT_ONE_SIDED n) 1 :=
      State.setF_shows hat'.stored _ rfl (Nat.le_of_ble_eq_true rfl)
    have hlane' : (v.setF (Reg.LIN_STAT_ONE_SIDED n)).lane n = v.lane n := rfl
    rw [if_pos rfl, hrecord.lane, hlane', hlane, (hrecord.shows_lane hset (linStat_ofLanes hn 3 1)).on, Bool.or_true]
    exact ⟨(hrecord.shows_lane (hat'.setF ⟨Nat.le_of_ble_eq_true rfl, linStat_apart (by decide)⟩) (linStat_ofLanes hn 0 3)).value,
      rfl, rfl, rfl⟩
  | false =>
    rw [if_neg Bool.false_ne_true, hlane, Bool.or_false, State.on, hsided.value, State.on]
    exact ⟨hat'.value, rfl, rfl, rfl⟩

theorem exec_fecLock {s : State} {n : Nat} (hat : s.laneAt n = 4) : exec (.fecLock n) s = .next (s.setLane n 5 (some 5)) :=
  congrArg Host.Outcome.next (if_pos hat)

theorem exec_backoffReturn {s : State} {n : Nat} (hat : s.laneAt n = 5) (hdue : (s.lane n).since + 1000000000 ≤ s.now) :
    exec (.backoffReturn n) s = .next (s.put (Reg.LIN_STAT_BACKOFF n) 1) :=
  congrArg Host.Outcome.next (if_pos (show s.laneAt n = 5 ∧ s.due ((s.lane n).since + 1000000000) = true from ⟨hat, decide_eq_true hdue⟩))

/-- Settles O31: each step of a lane by its equation, and what `setLane` and `enterDetect` show of the lane. That a lane in UP acts on a
loss of signal of 10 µs at its time-out is the model's choice (assumption log 47). -/
theorem lanesMoveBetweenTheirStates : Obligations.LanesMoveBetweenTheirStates := by
  refine fun s n hs hn => ⟨fun hat hsignal => exec_losChange_lost hs hat hsignal, fun hat hend => exec_losChange_found hs hn hat hend,
    ?backoff, ?failed, ?lost, fun hat => exec_markerLock_shows hs hn hat, ?fec, fun hat hdue => exec_backoffReturn hat hdue⟩
  case backoff => exact fun hat hend hsignal => ⟨_, exec_laneBackoffEnd hat hend hsignal, State.enterAcquire_shows hn hs⟩
  case failed =>
    intro h
    have hrange : 2 ≤ s.laneAt n ∧ s.laneAt n ≤ 4 := by omega
    obtain ⟨hat, hback, hwait⟩ := State.enterDetect_shows hs hn 2 (by omega)
    rw [State.backoffOf, if_pos hrange] at hback
    rw [State.detectWait, decide_eq_true hrange, Bool.true_or, if_pos rfl] at hwait
    exact ⟨_, exec_laneTimeout_failed h, hat, hback, hwait⟩
  case lost =>
    intro hup hsignal hdue
    obtain ⟨hat, hback, -⟩ := State.enterDetect_shows hs hn 1 (by omega)
    rw [State.backoffOf, if_neg (by omega)] at hback
    exact ⟨_, exec_laneTimeout_lost hup hsignal hdue, hat, hback⟩
  case fec =>
    intro hat
    refine ⟨_, exec_fecLock hat, (State.setLane_at hn 5 (some 5) hs (by decide)).value, ?_⟩
    rw [State.setLane_lane hn]

end Sys2Proof.Machine
end


section
/-! Training (R242 to R248). -/
namespace Sys2Proof.Machine
open Sys2Proof

theorem exec_rxReady {s : State} {n t0 : Nat} (hat : s.laneAt n = 3) (hsince : (s.lane n).snrSince = some t0)
    (hdue : t0 + 10000000 ≤ s.now) :
    exec (.rxReady n) s = .next (if (s.modLane n fun l => { l with ready := true }).trainsAlone n then
      (s.modLane n fun l => { l with ready := true }).enterFecLock n else (s.modLane n fun l => { l with ready := true }).startCountdown n) := by
  have hready : ¬ (s.laneAt n ≠ 3 ∨ (!s.due (t0 + 10000000)) = true) := by
    rw [State.due, decide_eq_true hdue]
    exact fun h => h.elim (fun h => h hat) Bool.false_ne_true
  show execRxReady n s = _
  unfold execRxReady
  simp only [hsince]
  rw [if_neg hready]

theorem exec_oneSidedTimeout {s : State} {n : Nat} (hat : s.laneAt n = 3) (hpartner : s.trainsAlone n = false)
    (hcount : (s.lane n).countdown = none) (hdue : (s.lane n).lastCell + 300000000 ≤ s.now) (hready : (s.lane n).ready = true) :
    exec (.oneSidedTimeout n) s = .next (((s.setF (Reg.LIN_STAT_ONE_SIDED n)).event 0x0030 0x0702 [n, 0]).enterFecLock n) := by
  have hsilent : s.laneAt n = 3 ∧ (!s.trainsAlone n) = true ∧ (s.lane n).countdown.isNone = true ∧
      s.due ((s.lane n).lastCell + 300000000) = true :=
    ⟨hat, by rw [hpartner]; rfl, by rw [hcount]; rfl, decide_eq_true hdue⟩
  show execOneSidedTimeout n s = _
  unfold execOneSidedTimeout
  dsimp only
  rw [if_pos hsilent, if_pos hready]

/-! ## Training cells -/

/-- What a training cell leaves of its lane. -/
def LaneState.celled (l : LaneState) (now status : Nat) (bytes : List Nat) : LaneState :=
  { l with lastCell := now, status := status, partnerReady := if bit (nth bytes 3) 0 then l.partnerReady + 1 else 0,
           partnerCount := if nth bytes 8 = 0xFF then none else some (nth bytes 8) }

theorem exec_trainingCell_preset {s : State} {n : Nat} {bytes : List Nat} (hat : s.laneAt n = 3) (hpartner : s.trainsAlone n = false)
    (hpreset : bit (nth bytes 3) 1 = true) :
    exec (.trainingCell n bytes) s = .next (((s.setTaps n (presetTaps (bits (nth bytes 3) 2 2))).modLane n fun l =>
      l.celled s.now 0x155 bytes).startCountdown n) := by
  have htrains : ¬ (s.laneAt n ≠ 3 ∨ s.trainsAlone n = true) := by simp [hat, hpartner]
  show execTrainingCell n bytes s = _
  unfold execTrainingCell
  rw [if_neg htrains]
  simp only [hpreset, if_true]
  rfl

theorem exec_trainingCell_request {s : State} {n : Nat} {bytes : List Nat} (hat : s.laneAt n = 3) (hpartner : s.trainsAlone n = false)
    (hpreset : bit (nth bytes 3) 1 = false) :
    exec (.trainingCell n bytes) s = .next (((s.applyRequest n (natBE (slice bytes 4 2))).1.modLane n fun l =>
      l.celled s.now (s.applyRequest n (natBE (slice bytes 4 2))).2 bytes).startCountdown n) := by
  have htrains : ¬ (s.laneAt n ≠ 3 ∨ s.trainsAlone n = true) := by simp [hat, hpartner]
  show execTrainingCell n bytes s = _
  unfold execTrainingCell
  rw [if_neg htrains]
  simp only [hpreset, Bool.false_eq_true, if_false]
  rfl

/-- A lane that is ready, with no count of its own, takes its partner's count. -/
theorem State.startCountdown_takes {s : State} {n c : Nat} (hat : s.laneAt n = 3) (hcount : (s.lane n).countdown = none)
    (hready : (s.lane n).ready = true) (hpartner : (s.lane n).partnerCount = some c) :
    s.startCountdown n = s.modLane n fun l => { l with countdown := some c } := by
  have hwaits : ¬ ((s.lane n).countdown.isSome || !(s.lane n).ready || s.laneAt n != 3) = true := by
    rw [hcount, hready, hat]
    decide
  unfold State.startCountdown
  dsimp only
  rw [if_neg hwaits, hpartner]

theorem State.levelReq_line (s : State) (f : Field) (req i : Nat) : (s.levelReq f req i).1.line = s.line := by
  unfold State.levelReq
  dsimp only
  split
  · rfl
  · split <;> rfl

theorem State.Shows.levelReq {s : State} {g : Field} {v : Nat} (h : s.Shows g v) (f : Field) (req i : Nat) (hf : f.ok ∧ f.apart g) :
    (s.levelReq f req i).1.Shows g v := by
  unfold State.levelReq
  dsimp only
  split
  · exact h
  · split
    · exact h.put hf
    · exact h

theorem State.setTaps_line (s : State) (n : Nat) (l : List Int) : (s.setTaps n l).line = s.line := by
  unfold State.setTaps
  dsimp only
  rw [State.put_line, State.put_line, State.put_line, State.put_line, State.put_line]

/-- A request changes a lane's taps and levels, and not its state. -/
theorem State.applyRequest_lane {s : State} (hs : s.stored) (n req : Nat) :
    (s.applyRequest n req).1.line = s.line ∧ (s.applyRequest n req).1.Shows (Reg.LIN_STAT_STATE n) (s.laneAt n) := by
  have hlevel : ∀ lsb w, lsb + w ≤ 32 → Field.ok ⟨Reg.LIN_TXLVL n, lsb, w⟩ ∧ Field.apart ⟨Reg.LIN_TXLVL n, lsb, w⟩ (Reg.LIN_STAT_STATE n) :=
    fun _ _ hok => ⟨hok, .inl (by simp only [Reg.LIN_TXLVL, Reg.LIN_STAT_STATE, Reg.LIN_STAT]; omega)⟩
  have htaps : ∀ (c : Bool) (l : List Int), (if c then s.setTaps n l else s).line = s.line ∧
      (if c then s.setTaps n l else s).Shows (Reg.LIN_STAT_STATE n) (s.laneAt n) := fun c l => by
    split
    · exact ⟨s.setTaps_line n l, (State.shows hs _).setTaps (by simp only [Reg.LIN_STAT_STATE, Reg.LIN_STAT, Reg.LIN_TXFFE]; omega) l⟩
    · exact ⟨rfl, State.shows hs _⟩
  unfold State.applyRequest
  dsimp only
  exact ⟨(State.levelReq_line _ _ _ _).trans ((State.levelReq_line _ _ _ _).trans (htaps _ _).1),
    ((htaps _ _).2.levelReq _ _ _ (hlevel 0 7 (by decide))).levelReq _ _ _ (hlevel 8 7 (by decide))⟩

/-- Settles O32: readiness, the partner's silence and training cells, each by its equation. -/
theorem lanesTrain : Obligations.LanesTrain := by
  refine fun s n hs _ hat => ⟨?alone, ?paired, fun hpartner hcount hdue hready => exec_oneSidedTimeout hat hpartner hcount hdue hready,
    ?preset, ?request⟩
  case alone =>
    intro t0 hsince hdue halone
    exact (exec_rxReady hat hsince hdue).trans (congrArg Host.Outcome.next (if_pos halone))
  case paired =>
    intro t0 hsince hdue hpartner
    exact (exec_rxReady hat hsince hdue).trans (congrArg Host.Outcome.next (if_neg (Bool.eq_false_iff.mp hpartner)))
  case preset =>
    intro bytes hpartner hpreset hnone hunready
    rw [exec_trainingCell_preset hat hpartner hpreset]
    unfold LaneState.celled
    rw [hnone, hunready]
    rfl
  case request =>
    intro bytes hpartner hpreset hcount hidle hready
    obtain ⟨hline, hstate⟩ := State.applyRequest_lane hs n (natBE (slice bytes 4 2))
    have hexec := exec_trainingCell_request hat hpartner hpreset
    generalize s.applyRequest n (natBE (slice bytes 4 2)) = r at hexec hline hstate
    have hlane : (r.1.modLane n fun l => l.celled s.now r.2 bytes).lane n = (s.lane n).celled s.now r.2 bytes := by
      rw [State.lane_modLane, if_pos rfl, State.lane, hline, State.lane]
    have hat' : (r.1.modLane n fun l => l.celled s.now r.2 bytes).laneAt n = 3 := hstate.value.trans hat
    have hasked : ((s.lane n).celled s.now r.2 bytes).partnerCount = some (nth bytes 8) := if_neg (by omega)
    have htakes := State.startCountdown_takes hat' (by rw [hlane]; exact hidle) (by rw [hlane]; exact hready) (by rw [hlane]; exact hasked)
    rw [htakes] at hexec
    refine ⟨_, hexec, ?_⟩
    rw [State.lane_modLane, if_pos rfl, hlane]
    exact ⟨rfl, rfl, rfl⟩

end Sys2Proof.Machine
end


section
/-! Watching the lanes (R240, R249, R250, R260 to R262). -/
namespace Sys2Proof.Machine
open Sys2Proof

theorem exec_equaliserUpdate {s : State} {n : Nat} {o : EqualiserObs} (hlate : o.late = false) (hat : 2 ≤ s.laneAt n)
    (hruns : s.engineRuns (8 + n / 2) = true) :
    exec (.equaliserUpdate n o) s = .next (s.modLane n fun l =>
      { l with ffe := l.ffe.zipIdx.map fun (e : Int × Nat) => satS 10 (e.1 + clipStep (s.on (Reg.LIN_STAT_FROZEN n)) (o.ffe.getD e.2 0)),
               mlse := l.mlse.zipIdx.map fun (e : Int × Nat) =>
                 satS 16 (e.1 + clipStep (s.on (Reg.LIN_STAT_FROZEN n)) (o.mlse.getD e.2 0)) }) := by
  have hadapts : ¬ (s.laneAt n < 2 ∨ (!s.engineRuns (8 + n / 2)) = true) := by
    rw [hruns]
    exact fun h => h.elim (by omega) Bool.false_ne_true
  show execEqualiserUpdate n o s = _
  unfold execEqualiserUpdate
  simp only [hlate, State.when, Bool.false_eq_true, if_false, if_neg hadapts]

theorem exec_freezeEvent {s : State} {n : Nat} (hfrozen : s.on (Reg.LIN_STAT_FROZEN n) = true) (huntold : (s.lane n).freezeTold = false)
    (hdue : (s.lane n).freezeAt + 1000000 ≤ s.now) :
    Answers (exec (.freezeEvent n) s) (s.modLane n fun l => { l with freezeTold := true }) := by
  have htell : (s.on (Reg.LIN_STAT_FROZEN n) && !(s.lane n).freezeTold && s.due ((s.lane n).freezeAt + 1000000)) = true := by
    rw [hfrozen, huntold, State.due, decide_eq_true hdue]
    rfl
  show Answers (execFreezeEvent n s) _
  unfold execFreezeEvent
  dsimp only
  rw [if_pos htell]
  exact .of_reports (State.event_reports _ _ _ _)

/-! ## Windows of the slicer -/

/-- What a window writes before the freeze is judged: the signal's quality, the shares, and since when the quality holds. -/
def State.windowed (s : State) (n : Nat) (o : OccupancyObs) : State :=
  let s := s.put (Reg.LIN_MON_SNR n) (min (snrTenths o.snr) 65535)
  let s := s.wr (Reg.LIN_OCC n) (natLE ((fit 4 o.counts).map fun (c : Nat) => (divRound ((c * 200 : Nat) : Int) 65536).toNat))
  s.modLane n fun l => { l with snrSince := if snrTenths o.snr < 170 then none else some (l.snrSince.getD s.now) }

theorem exec_occupancyWindow {s : State} {n : Nat} (o : OccupancyObs) (hat : 2 ≤ s.laneAt n) :
    exec (.occupancyWindow n o) s = .next
      (if (s.windowed n o).on (Reg.LIN_CTL_FREEZE_EN n) then
        (s.windowed n o).freezeWindow n (sharesOk ((s.windowed n o).lineMode (portOf n) == 1) o.counts)
      else (s.windowed n o).put (Reg.LIN_STAT_FROZEN n) 0) := by
  show execOccupancyWindow n o s = _
  unfold execOccupancyWindow
  rw [if_neg (not_lt.mpr hat)]
  unfold State.windowed
  dsimp only

theorem linMon_ofLanes {n : Nat} (hn : n < 8) (lsb w : Nat) : Field.ofLanes ⟨Reg.LIN_MON n, lsb, w⟩ := by
  refine Field.ofLanes_block ?_
  unfold Reg.LIN_MON
  dsimp only
  omega

theorem State.windowed_quality {s : State} (hs : s.stored) (n : Nat) (o : OccupancyObs) :
    (s.windowed n o).Shows (Reg.LIN_MON_SNR n) (min (snrTenths o.snr) 65535) := by
  have hquality : (s.put (Reg.LIN_MON_SNR n) (min (snrTenths o.snr) 65535)).Shows (Reg.LIN_MON_SNR n) (min (snrTenths o.snr) 65535) :=
    State.put_shows hs _ _ (Nat.mod_eq_of_lt (show min (snrTenths o.snr) 65535 < 2 ^ 16 by omega)) (Nat.le_of_ble_eq_true rfl)
  exact (hquality.wr (by simp only [Reg.LIN_MON_SNR, Reg.LIN_MON, Reg.LIN_OCC]; omega)).updLine _

theorem State.windowed_keeps {s : State} (hs : s.stored) (n : Nat) (o : OccupancyObs) {f : Field} (hmon : f.reg ≠ Reg.LIN_MON n)
    (hocc : f.reg ≠ Reg.LIN_OCC n) : (s.windowed n o).Shows f (s.get f) :=
  (((State.shows hs f).put ⟨Nat.le_of_ble_eq_true rfl, .inl hmon.symm⟩).wr hocc).updLine _

theorem State.windowed_since (s : State) (n : Nat) (o : OccupancyObs) :
    ((s.windowed n o).lane n).snrSince = none ↔ snrTenths o.snr < 170 := by
  unfold State.windowed
  dsimp only
  rw [State.lane_modLane, if_pos rfl]
  dsimp only
  split
  next hlow => exact iff_of_true rfl hlow
  next hhigh => exact iff_of_false (fun h => Option.some_ne_none _ h) hhigh

theorem State.put_lane (u : State) (f : Field) (v n : Nat) : (u.put f v).lane n = u.lane n := rfl

/-- A change of a lane that leaves since when its quality holds. -/
theorem State.modLane_since (u : State) (n : Nat) (f : LaneState → LaneState) (hf : ∀ l, (f l).snrSince = l.snrSince) :
    ((u.modLane n f).lane n).snrSince = (u.lane n).snrSince := by
  rw [State.lane_modLane, if_pos rfl, hf]

/-- The freeze's judgement leaves since when the quality holds. -/
theorem State.freezeWindow_since (s : State) (n : Nat) (ok : Bool) : ((s.freezeWindow n ok).lane n).snrSince = (s.lane n).snrSince := by
  have htold : ∀ (u : State) (c : Bool) (l : List Nat), ((u.when c fun s => s.event 0x0030 0x0703 l).lane n).snrSince = (u.lane n).snrSince :=
    fun u c l => by
      unfold State.when
      split
      · rw [(LanesKept.of_reports (State.event_reports u 0x0030 0x0703 l)).lane]
      · rfl
  unfold State.freezeWindow
  dsimp only
  refine State.ite_reads (fun u => (u.lane n).snrSince) (State.ite_reads (fun u => (u.lane n).snrSince) rfl
    (State.modLane_since (s.setF (Reg.LIN_STAT_FROZEN n)) n _ fun _ => rfl)) (State.ite_reads (fun u => (u.lane n).snrSince)
      (State.modLane_since (s.laneCount n 4 1) n _ fun _ => rfl) ?_)
  rw [htold, State.put_lane]
  exact State.modLane_since (s.laneCount n 4 1) n _ fun _ => rfl

/-- The freeze's judgement leaves a field of the lanes beside its flag and its counter. -/
theorem State.Shows.freezeWindow {s : State} {f : Field} {v n : Nat} (h : s.Shows f v) (hf : f.ofLanes)
    (hfrozen : (Reg.LIN_STAT_FROZEN n).apart f) (hcnt : f.reg ≠ Reg.LIN_CNT n 4 ∧ f.reg ≠ Reg.LIN_CNT n 4 + 4) (ok : Bool) :
    (s.freezeWindow n ok).Shows f v := by
  have hcount : (s.laneCount n 4 1).Shows f v := h.add64 hcnt
  unfold State.freezeWindow
  dsimp only
  refine State.Shows.ite (State.Shows.ite h ((h.setF ⟨Nat.le_of_ble_eq_true rfl, hfrozen⟩).updLine _))
    (State.Shows.ite (hcount.updLine _) ?_)
  exact State.Shows.when ((hcount.updLine _).put ⟨Nat.le_of_ble_eq_true rfl, hfrozen⟩) fun h => h.event_lane hf

theorem State.freezeWindow_frozen {s : State} (hs : s.stored) {n : Nat} (hfree : s.on (Reg.LIN_STAT_FROZEN n) = false) (ok : Bool) :
    (s.freezeWindow n ok).on (Reg.LIN_STAT_FROZEN n) = !ok := by
  unfold State.freezeWindow
  dsimp only
  rw [hfree, Bool.not_false, if_pos rfl]
  cases ok with
  | true =>
    rw [if_pos rfl]
    exact hfree
  | false =>
    rw [if_neg Bool.false_ne_true]
    exact ((State.setF_shows hs (Reg.LIN_STAT_FROZEN n) rfl (Nat.le_of_ble_eq_true rfl)).updLine _).on

theorem exec_occupancyWindow_shows {s : State} (hs : s.stored) {n : Nat} (hn : n < 8) (o : OccupancyObs) (hat : 2 ≤ s.laneAt n) :
    ∃ t, exec (.occupancyWindow n o) s = .next t ∧ t.get (Reg.LIN_MON_SNR n) = min (snrTenths o.snr) 65535 ∧
      ((t.lane n).snrSince = none ↔ snrTenths o.snr < 170) ∧
      (s.on (Reg.LIN_CTL_FREEZE_EN n) = true → s.on (Reg.LIN_STAT_FROZEN n) = false →
        t.on (Reg.LIN_STAT_FROZEN n) = !sharesOk (s.lineMode (portOf n) == 1) o.counts) ∧
      (s.on (Reg.LIN_CTL_FREEZE_EN n) = false → t.on (Reg.LIN_STAT_FROZEN n) = false) := by
  have hquality := State.windowed_quality hs n o
  have hsince := s.windowed_since n o
  have hkeep : ∀ f : Field, f.reg ≠ Reg.LIN_MON n → f.reg ≠ Reg.LIN_OCC n → (s.windowed n o).get f = s.get f := fun f hmon hocc =>
    (State.windowed_keeps hs n o hmon hocc).value
  have henable : (s.windowed n o).on (Reg.LIN_CTL_FREEZE_EN n) = s.on (Reg.LIN_CTL_FREEZE_EN n) :=
    congrArg (· == 1) (hkeep _ (by simp only [Reg.LIN_CTL_FREEZE_EN, Reg.LIN_CTL, Reg.LIN_MON]; omega)
      (by simp only [Reg.LIN_CTL_FREEZE_EN, Reg.LIN_CTL, Reg.LIN_OCC]; omega))
  have hfrozen : (s.windowed n o).on (Reg.LIN_STAT_FROZEN n) = s.on (Reg.LIN_STAT_FROZEN n) :=
    congrArg (· == 1) (hkeep _ (by simp only [Reg.LIN_STAT_FROZEN, Reg.LIN_STAT, Reg.LIN_MON]; omega)
      (by simp only [Reg.LIN_STAT_FROZEN, Reg.LIN_STAT, Reg.LIN_OCC]; omega))
  have hmode : (s.windowed n o).lineMode (portOf n) = s.lineMode (portOf n) :=
    hkeep _ (by simp only [Reg.LIN_PORT_CFG_MODE, Reg.LIN_PORT_CFG, Reg.LIN_MON]; have := portOf_lt hn; omega)
      (by simp only [Reg.LIN_PORT_CFG_MODE, Reg.LIN_PORT_CFG, Reg.LIN_OCC]; have := portOf_lt hn; omega)
  refine ⟨_, exec_occupancyWindow o hat, ?_⟩
  rw [henable, hmode]
  generalize s.windowed n o = u at hquality hsince hfrozen
  cases s.on (Reg.LIN_CTL_FREEZE_EN n) with
  | true =>
    rw [if_pos rfl, State.freezeWindow_since]
    refine ⟨?_, hsince, fun _ hfree => State.freezeWindow_frozen hquality.stored (hfrozen.trans hfree) _, fun h => absurd h (by decide)⟩
    exact (hquality.freezeWindow (linMon_ofLanes hn 0 16) (.inl (by
      simp only [Reg.LIN_STAT_FROZEN, Reg.LIN_STAT, Reg.LIN_MON_SNR, Reg.LIN_MON]; omega)) (by
      simp only [Reg.LIN_MON_SNR, Reg.LIN_MON, Reg.LIN_CNT]; omega) _).value
  | false =>
    rw [if_neg Bool.false_ne_true]
    refine ⟨?_, hsince, fun h => absurd h (by decide), fun _ => ?_⟩
    · exact (hquality.put ⟨Nat.le_of_ble_eq_true rfl, .inl (by
        simp only [Reg.LIN_STAT_FROZEN, Reg.LIN_STAT, Reg.LIN_MON_SNR, Reg.LIN_MON]; omega)⟩).value
    · exact (State.put_shows hquality.stored (Reg.LIN_STAT_FROZEN n) 0 rfl (Nat.le_of_ble_eq_true rfl)).off

/-! ## Histograms -/

theorem State.startHist_shows {s : State} (hs : s.stored) (n : Nat) :
    (s.startHist n).on (Reg.LIN_STAT_HIST_DONE n) = false ∧ ((s.startHist n).lane n).histBusy = true := by
  refine ⟨((State.put_shows hs (Reg.LIN_STAT_HIST_DONE n) 0 rfl (Nat.le_of_ble_eq_true rfl)).updLine _).off, ?_⟩
  rw [State.startHist, State.lane_modLane, if_pos rfl]

/-- The bins of a histogram, written one after the other. -/
theorem State.histBins_read {s : State} (hs : s.stored) (n : Nat) (bins : List Nat) (m : Nat) :
    (s.each (List.range m) fun s b => s.wr (Reg.LIN_HIST n b) (nth bins b)).stored ∧
      ∀ b < m, (s.each (List.range m) fun s b => s.wr (Reg.LIN_HIST n b) (nth bins b)).rd (Reg.LIN_HIST n b) = nth bins b % 2 ^ 32 := by
  induction m with
  | zero => exact ⟨hs, fun b hb => absurd hb (Nat.not_lt_zero b)⟩
  | succ m ih =>
    obtain ⟨hstored, hread⟩ := ih
    unfold State.each at hstored hread ⊢
    rw [List.range_succ, List.foldl_append, List.foldl_cons, List.foldl_nil]
    refine ⟨State.wr_stored _ _ hstored, fun b hb => ?_⟩
    rw [State.rd_wr_of_wf hstored.1]
    by_cases heq : b = m
    · rw [heq, if_pos rfl]
    · rw [if_neg (by unfold Reg.LIN_HIST; omega)]
      exact hread b (by omega)

theorem exec_histDone {s : State} (hs : s.stored) {n : Nat} {bins : List Nat} (hbusy : (s.lane n).histBusy = true)
    (hbins : ∀ b, b < 64 → nth bins b < 2 ^ 32) :
    ∃ t, exec (.histDone n bins) s = .next t ∧ t.on (Reg.LIN_STAT_HIST_DONE n) = true ∧
      (∀ b, b < 64 → t.rd (Reg.LIN_HIST n b) = nth bins b) ∧ (t.lane n).histBusy = false := by
  obtain ⟨hstored, hread⟩ := State.histBins_read hs n bins 64
  refine ⟨_, congrArg Host.Outcome.next (if_pos hbusy), ?_, fun b hb => ?_, ?_⟩
  · exact ((State.setF_shows hstored (Reg.LIN_STAT_HIST_DONE n) rfl (Nat.le_of_ble_eq_true rfl)).updLine _).on
  · rw [State.modLane_rd, State.setF, State.rd_put_ne hstored.1 _ _ (by
      simp only [Reg.LIN_HIST, Reg.LIN_STAT_HIST_DONE, Reg.LIN_STAT]; omega), hread b hb]
    exact Nat.mod_eq_of_lt (hbins b hb)
  · rw [State.lane_modLane, if_pos rfl]

theorem exec_fecDegradeClear {s : State} {k : Nat} (hshown : s.on (Reg.LIN_PORT_STAT_FEC_DEGRADE k) = true)
    (hgood : ∀ e ∈ (s.port k).bad, e.1 + 10000000 ≤ s.now) :
    Answers (exec (.fecDegradeClear k) s) ((s.put (Reg.LIN_PORT_STAT_FEC_DEGRADE k) 0).modPort k fun p => { p with bad := [] }) := by
  have hclear : (s.on (Reg.LIN_PORT_STAT_FEC_DEGRADE k) && (s.port k).bad.all fun e => s.due (e.1 + 10000000)) = true := by
    rw [hshown, Bool.true_and, List.all_eq_true]
    exact fun e he => decide_eq_true (hgood e he)
  show Answers (execFecDegradeClear k s) _
  unfold execFecDegradeClear
  rw [if_pos hclear]
  exact .of_reports (State.event_reports _ _ _ _)

end Sys2Proof.Machine
end


section
/-! The marker period of a lane (R249, R259, R260). -/
namespace Sys2Proof.Machine
open Sys2Proof

/-- Whether a field stands in the counters of a lane's codewords, inner failures and uncorrectable codewords. -/
def Field.counts (n : Nat) (f : Field) : Prop :=
  ∃ off, (off = Reg.LIN_CNT n 0 ∨ off = Reg.LIN_CNT n 2 ∨ off = Reg.LIN_PORT_CNT (portOf n) 2) ∧ (f.reg = off ∨ f.reg = off + 4)

theorem Field.counts.ofLanes {n : Nat} (hn : n < 8) {f : Field} (h : f.counts n) : f.ofLanes := by
  obtain ⟨off, hoff, hf⟩ := h
  have hk := portOf_lt hn
  unfold Field.ofLanes
  unfold Reg.LIN_CNT Reg.LIN_PORT_CNT at hoff
  omega

/-- A lane's other registers, and its port's, are none of those counters. -/
theorem Field.counts.apart {n : Nat} (hn : n < 8) {f : Field} (h : f.counts n) :
    f.reg ≠ Reg.LIN_STAT n ∧ f.reg ≠ Reg.LIN_MON n ∧ f.reg ≠ Reg.LIN_TXFFE n ∧ f.reg ≠ Reg.LIN_PORT_STAT (portOf n) ∧
      f.reg ≠ Reg.LIN_CNT n 6 ∧ f.reg ≠ Reg.LIN_CNT n 6 + 4 := by
  obtain ⟨off, hoff, hf⟩ := h
  have hk := portOf_lt hn
  unfold Reg.LIN_CNT Reg.LIN_PORT_CNT at hoff
  unfold Reg.LIN_STAT Reg.LIN_MON Reg.LIN_TXFFE Reg.LIN_PORT_STAT Reg.LIN_CNT
  omega

/-- What the rest of a marker period keeps of what it counted. -/
structure MarkerKept (n : Nat) (s t : State) : Prop where
  period : (t.lane n).period = (s.lane n).period
  stored : s.stored → t.stored
  fields : s.stored → ∀ f, f.counts n → t.get f = s.get f

namespace MarkerKept

theorem refl (n : Nat) (s : State) : MarkerKept n s s := ⟨rfl, id, fun _ _ _ => rfl⟩

theorem trans {n : Nat} {s t u : State} (h : MarkerKept n s t) (h' : MarkerKept n t u) : MarkerKept n s u :=
  ⟨h'.period.trans h.period, fun hs => h'.stored (h.stored hs),
    fun hs f hf => (h'.fields (h.stored hs) f hf).trans (h.fields hs f hf)⟩

theorem of_lanesKept {n : Nat} (hn : n < 8) {s t : State} (h : LanesKept s t) : MarkerKept n s t :=
  ⟨by rw [h.lane], h.stored, fun hs f hf => h.fields hs f (hf.ofLanes hn)⟩

theorem ite {n : Nat} {s t u : State} {c : Prop} [Decidable c] (h : MarkerKept n s t) (h' : MarkerKept n s u) :
    MarkerKept n s (if c then t else u) := by
  split <;> assumption

theorem modLane (n : Nat) (s : State) (f : LaneState → LaneState) (hf : ∀ l, (f l).period = l.period) : MarkerKept n s (s.modLane n f) :=
  ⟨by rw [State.lane_modLane, if_pos rfl, hf], id, fun _ _ _ => rfl⟩

theorem put {n : Nat} {s : State} {g : Field} {v : Nat} (hreg : ∀ f : Field, f.counts n → f.reg ≠ g.reg) (hok : g.ok) :
    MarkerKept n s (s.put g v) :=
  ⟨rfl, State.put_stored _ _, fun hs f hf => State.get_put_other hs _ _ _ hok (.inl (hreg f hf).symm)⟩

theorem rd64 {n : Nat} {s t : State} (h : MarkerKept n s t) (hs : s.stored) {off : Nat}
    (hoff : off = Reg.LIN_CNT n 0 ∨ off = Reg.LIN_CNT n 2 ∨ off = Reg.LIN_PORT_CNT (portOf n) 2) : t.rd64 off = s.rd64 off := by
  rw [State.rd64, State.rd64, ← State.get_word, ← State.get_word, h.fields hs _ ⟨off, hoff, .inl rfl⟩, h.fields hs _ ⟨off, hoff, .inr rfl⟩,
    State.get_word, State.get_word]

end MarkerKept

section
variable {n : Nat} (hn : n < 8)
include hn

theorem State.setLane_markerKept (s : State) (new : Nat) (cause : Option Nat) : MarkerKept n s (s.setLane n new cause) := by
  have hput : MarkerKept n s (s.put (Reg.LIN_STAT_STATE n) new) := .put (fun f hf => (hf.apart hn).1) (Nat.le_of_ble_eq_true rfl)
  have hmod := MarkerKept.modLane n (s.put (Reg.LIN_STAT_STATE n) new) (fun l => { l with since := s.now }) fun _ => rfl
  exact (hput.trans hmod).trans (.of_lanesKept hn (State.setLane_lanesKept hn new cause))

theorem State.setTaps_markerKept (s : State) (l : List Int) : MarkerKept n s (s.setTaps n l) := by
  have hput : ∀ (u : State) lsb w v, lsb + w ≤ 32 → MarkerKept n u (u.put ⟨Reg.LIN_TXFFE n, lsb, w⟩ v) :=
    fun u lsb w v hok => .put (fun f hf => (hf.apart hn).2.2.1) hok
  exact ((((hput _ _ _ _ (by decide)).trans (hput _ _ _ _ (by decide))).trans (hput _ _ _ _ (by decide))).trans
    (hput _ _ _ _ (by decide))).trans (hput _ _ _ _ (by decide))

theorem State.countFailure_markerKept (s : State) : MarkerKept n s (s.countFailure n) := by
  have hput : MarkerKept n s (s.put (Reg.LIN_STAT_BACKOFF n) (min 64 (2 * s.get (Reg.LIN_STAT_BACKOFF n)))) :=
    .put (fun f hf => (hf.apart hn).1) (Nat.le_of_ble_eq_true rfl)
  unfold State.countFailure State.when
  refine MarkerKept.ite (hput.trans ?_) (.refl n s)
  exact ⟨rfl, State.add64_stored _ _, fun hs f hf => State.get_wr64_other hs _ _ _ (hf.apart hn).2.2.2.2.1 (hf.apart hn).2.2.2.2.2⟩

theorem State.detectTaps_markerKept (s : State) : MarkerKept n s (s.detectTaps n) :=
  (State.setTaps_markerKept hn s _).trans (.put (fun _ hf => (hf.apart hn).1) (Nat.le_of_ble_eq_true rfl))

theorem State.enterDetect_markerKept (s : State) (cause : Nat) : MarkerKept n s (s.enterDetect n cause) := by
  have hreset : MarkerKept n s ((s.countFailure n).detectTaps n) :=
    (s.countFailure_markerKept hn).trans ((s.countFailure n).detectTaps_markerKept hn)
  rw [s.enterDetect_eq]
  dsimp only
  generalize (s.countFailure n).detectTaps n = u at hreset
  have hmod := hreset.trans (.modLane n u (fun l => l.detecting (s.laneAt n) (u.now + s.detectWait n)) fun _ => rfl)
  exact MarkerKept.ite hmod (hmod.trans (State.setLane_markerKept hn _ _ _))

theorem State.enterFecLock_markerKept (s : State) : MarkerKept n s (s.enterFecLock n) :=
  (MarkerKept.modLane n s (fun l => { l with countdown := none }) fun _ => rfl).trans (State.setLane_markerKept hn _ _ _)

omit hn in
theorem State.sendCell_markerKept (s : State) : MarkerKept n s (s.sendCell n) := by
  unfold State.sendCell
  refine MarkerKept.ite (.refl n s) ?_
  dsimp only
  split
  · exact .modLane n s _ fun _ => rfl
  · exact .modLane n s _ fun _ => rfl
  · exact .refl n s

theorem State.degrade_lanesKept (s : State) (bad : Nat) : LanesKept s (s.degrade (portOf n) bad) := by
  let f : PortState → PortState := fun p => { p with bad := (s.now, bad) :: p.bad.filter fun e => decide (s.now < e.1 + 10000000) }
  have hport : LanesKept s (s.modPort (portOf n) f) := ⟨rfl, rfl, id, fun _ _ _ => rfl⟩
  have hflag : LanesKept (s.modPort (portOf n) f) ((s.modPort (portOf n) f).setF (Reg.LIN_PORT_STAT_FEC_DEGRADE (portOf n))) :=
    .put (fun _ => linPortStat_apart (portOf_lt hn)) (Nat.le_of_ble_eq_true rfl)
  unfold State.degrade
  exact LanesKept.ite (.refl s) (LanesKept.ite (hport.trans (hflag.trans (.of_reports (State.event_reports _ _ _ _)))) hport)

theorem State.countPeriod_markerKept (s : State) : MarkerKept n s (s.countPeriod n) := by
  unfold State.countPeriod
  split
  · exact .refl n s
  · exact MarkerKept.ite (s.enterFecLock_markerKept hn) (.modLane n s _ fun _ => rfl)

end

/-! ## The period -/

/-- The counters of a period. -/
def State.periodCounted (s : State) (n : Nat) (o : MarkerObs) : State :=
  let s := (s.laneCount n 0 o.codewords).laneCount n 1 o.correctedBits
  let s := (s.laneCount n 2 o.innerFailures).laneCount n 3 o.rsSymbolErrors
  ((s.portCount (portOf n) 0 o.rsCodewords).portCount (portOf n) 1 o.rsCorrected).portCount (portOf n) 2 o.rsUncorrectable

/-- The marks of a period: what it shows of the decoder's work, the next period, and the marker received or missed. -/
def State.periodMarked (s : State) (n : Nat) (o : MarkerObs) : State :=
  let s := s.when (o.codewords != 0) fun s => s.put (Reg.LIN_MON_ITER n) (min 255 (o.iterations * 16 / o.codewords))
  let s := s.modLane n fun l => { l with period := (l.period + 1) % 65536, txMarks := ((l.period, o.txMark) :: l.txMarks).take 8 }
  match o.marker with
  | none => s.modLane n fun l => { l with syncLost := l.syncLost + 1 }
  | some m =>
    (s.put (Reg.LIN_STAT_LANE_ID n) m.lane).modLane n fun l =>
      { l with syncLost := 0, lane := m.lane, rxMarks := ((m.period, m.mark) :: l.rxMarks).take 8 }

/-- The rest of a period before a lane in UP is judged. -/
def State.periodCounts (s : State) (n : Nat) (o : MarkerObs) : State :=
  ((s.sendCell n).degrade (portOf n) o.rsUncorrectable).countPeriod n

theorem exec_markerPeriod {s : State} {n : Nat} (o : MarkerObs) (hon : s.laneAt n ≠ 0) (hmode : s.lineMode (portOf n) = 5) :
    exec (.markerPeriod n o) s = .next
      (let v := ((s.periodCounted n o).periodMarked n o).periodCounts n o
       if v.laneAt n ≠ 5 then v
       else if (v.lane n).syncLost ≥ 4 then v.enterDetect n 3
       else if o.innerFailures > 62 then v.enterDetect n 4
       else v) := by
  have hruns : ¬ (s.laneAt n = 0 ∨ s.lineMode (portOf n) ≠ 5) := fun h => h.elim hon fun h => h hmode
  show execMarkerPeriod n o s = _
  unfold execMarkerPeriod State.periodCounted State.periodMarked State.periodCounts
  dsimp only
  exact congrArg Host.Outcome.next (if_neg hruns)

theorem State.rd64_add64_ne {s : State} (hs : s.stored) {off n a : Nat} (h : a ≠ off ∧ a ≠ off + 4 ∧ a + 4 ≠ off) :
    (s.add64 off n).rd64 a = s.rd64 a := State.rd64_wr64_other hs _ _ h.1 h.2.1 h.2.2

/-- The counters of a period that are told of. -/
theorem State.periodCounted_reads {s : State} (hs : s.stored) {n : Nat} (hn : n < 8) (o : MarkerObs) :
    (s.periodCounted n o).rd64 (Reg.LIN_CNT n 0) = (s.rd64 (Reg.LIN_CNT n 0) + o.codewords) % 2 ^ 64 ∧
      (s.periodCounted n o).rd64 (Reg.LIN_CNT n 2) = (s.rd64 (Reg.LIN_CNT n 2) + o.innerFailures) % 2 ^ 64 ∧
      (s.periodCounted n o).rd64 (Reg.LIN_PORT_CNT (portOf n) 2) =
        (s.rd64 (Reg.LIN_PORT_CNT (portOf n) 2) + o.rsUncorrectable) % 2 ^ 64 := by
  have hk := portOf_lt hn
  have h1 := State.add64_stored (Reg.LIN_CNT n 0) o.codewords hs
  have h2 := State.add64_stored (Reg.LIN_CNT n 1) o.correctedBits h1
  have h3 := State.add64_stored (Reg.LIN_CNT n 2) o.innerFailures h2
  have h4 := State.add64_stored (Reg.LIN_CNT n 3) o.rsSymbolErrors h3
  have h5 := State.add64_stored (Reg.LIN_PORT_CNT (portOf n) 0) o.rsCodewords h4
  have h6 := State.add64_stored (Reg.LIN_PORT_CNT (portOf n) 1) o.rsCorrected h5
  unfold State.periodCounted State.laneCount State.portCount
  dsimp only
  refine ⟨?_, ?_, ?_⟩
  · rw [State.rd64_add64_ne h6 (by unfold Reg.LIN_CNT Reg.LIN_PORT_CNT; omega), State.rd64_add64_ne h5 (by unfold Reg.LIN_CNT Reg.LIN_PORT_CNT; omega),
      State.rd64_add64_ne h4 (by unfold Reg.LIN_CNT Reg.LIN_PORT_CNT; omega), State.rd64_add64_ne h3 (by unfold Reg.LIN_CNT; omega),
      State.rd64_add64_ne h2 (by unfold Reg.LIN_CNT; omega), State.rd64_add64_ne h1 (by unfold Reg.LIN_CNT; omega), State.add64_rd64 hs]
  · rw [State.rd64_add64_ne h6 (by unfold Reg.LIN_CNT Reg.LIN_PORT_CNT; omega), State.rd64_add64_ne h5 (by unfold Reg.LIN_CNT Reg.LIN_PORT_CNT; omega),
      State.rd64_add64_ne h4 (by unfold Reg.LIN_CNT Reg.LIN_PORT_CNT; omega), State.rd64_add64_ne h3 (by unfold Reg.LIN_CNT; omega),
      State.add64_rd64 h2, State.rd64_add64_ne h1 (by unfold Reg.LIN_CNT; omega), State.rd64_add64_ne hs (by unfold Reg.LIN_CNT; omega)]
  · rw [State.add64_rd64 h6, State.rd64_add64_ne h5 (by unfold Reg.LIN_PORT_CNT; omega), State.rd64_add64_ne h4 (by unfold Reg.LIN_PORT_CNT; omega),
      State.rd64_add64_ne h3 (by unfold Reg.LIN_CNT Reg.LIN_PORT_CNT; omega), State.rd64_add64_ne h2 (by unfold Reg.LIN_CNT Reg.LIN_PORT_CNT; omega),
      State.rd64_add64_ne h1 (by unfold Reg.LIN_CNT Reg.LIN_PORT_CNT; omega), State.rd64_add64_ne hs (by unfold Reg.LIN_CNT Reg.LIN_PORT_CNT; omega)]

theorem State.laneCount_line (s : State) (n r k : Nat) : (s.laneCount n r k).line = s.line := State.add64_line _ _ _

theorem State.portCount_line (s : State) (k r m : Nat) : (s.portCount k r m).line = s.line := State.add64_line _ _ _

theorem State.periodCounted_line (s : State) (n : Nat) (o : MarkerObs) : (s.periodCounted n o).line = s.line := by
  unfold State.periodCounted
  dsimp only
  rw [State.portCount_line, State.portCount_line, State.portCount_line, State.laneCount_line, State.laneCount_line, State.laneCount_line,
    State.laneCount_line]

theorem State.periodCounted_at {s : State} (hs : s.stored) {n : Nat} (hn : n < 8) (o : MarkerObs) :
    (s.periodCounted n o).Shows (Reg.LIN_STAT_STATE n) (s.laneAt n) := by
  have hk := portOf_lt hn
  have hlane : ∀ r < 4, (Reg.LIN_STAT_STATE n).reg ≠ Reg.LIN_CNT n r ∧ (Reg.LIN_STAT_STATE n).reg ≠ Reg.LIN_CNT n r + 4 := fun r hr => by
    simp only [Reg.LIN_STAT_STATE, Reg.LIN_STAT, Reg.LIN_CNT]
    omega
  have hport : ∀ r, (Reg.LIN_STAT_STATE n).reg ≠ Reg.LIN_PORT_CNT (portOf n) r ∧
      (Reg.LIN_STAT_STATE n).reg ≠ Reg.LIN_PORT_CNT (portOf n) r + 4 := fun r => by
    simp only [Reg.LIN_STAT_STATE, Reg.LIN_STAT, Reg.LIN_PORT_CNT]
    omega
  exact (((((((State.shows hs _).add64 (hlane 0 (by decide))).add64 (hlane 1 (by decide))).add64 (hlane 2 (by decide))).add64
    (hlane 3 (by decide))).add64 (hport 0)).add64 (hport 1)).add64 (hport 2)

/-- What a period's marks leave: the counters and the lane's state, the next period, its countdown, and one more period without a marker
where none was received. -/
theorem State.periodMarked_keeps {s : State} {n : Nat} (hn : n < 8) (o : MarkerObs) {v : Nat} (h : s.Shows (Reg.LIN_STAT_STATE n) v) :
    (s.periodMarked n o).Shows (Reg.LIN_STAT_STATE n) v ∧ (∀ f, f.counts n → (s.periodMarked n o).get f = s.get f) ∧
      ((s.periodMarked n o).lane n).period = ((s.lane n).period + 1) % 65536 ∧
      ((s.periodMarked n o).lane n).countdown = (s.lane n).countdown ∧
      (o.marker = none → ((s.periodMarked n o).lane n).syncLost = (s.lane n).syncLost + 1) := by
  let a := s.when (o.codewords != 0) fun s => s.put (Reg.LIN_MON_ITER n) (min 255 (o.iterations * 16 / o.codewords))
  have ha : a.Shows (Reg.LIN_STAT_STATE n) v := h.when fun h => h.put ⟨Nat.le_of_ble_eq_true rfl, .inl (by
    simp only [Reg.LIN_MON_ITER, Reg.LIN_MON, Reg.LIN_STAT_STATE, Reg.LIN_STAT]; omega)⟩
  have hcounts : ∀ f : Field, f.counts n → a.get f = s.get f := fun f hf =>
    ((State.shows h.stored f).when (c := o.codewords != 0)
      (run := fun s => s.put (Reg.LIN_MON_ITER n) (min 255 (o.iterations * 16 / o.codewords)))
      fun h => h.put ⟨Nat.le_of_ble_eq_true rfl, .inl (hf.apart hn).2.1.symm⟩).value
  have hlane : a.lane n = s.lane n := by
    show (State.when s _ _).lane n = _
    unfold State.when
    split <;> rfl
  unfold State.periodMarked
  dsimp only
  rw [show (s.when (o.codewords != 0) fun s => s.put (Reg.LIN_MON_ITER n) (min 255 (o.iterations * 16 / o.codewords))) = a from rfl]
  generalize a = a at ha hcounts hlane
  let b := a.modLane n fun l => { l with period := (l.period + 1) % 65536, txMarks := ((l.period, o.txMark) :: l.txMarks).take 8 }
  have hb : b.Shows (Reg.LIN_STAT_STATE n) v := ha.updLine _
  have hblane : b.lane n = { s.lane n with period := ((s.lane n).period + 1) % 65536,
                                           txMarks := (((s.lane n).period, o.txMark) :: (s.lane n).txMarks).take 8 } := by
    rw [State.lane_modLane, if_pos rfl, hlane]
  cases o.marker with
  | none =>
    refine ⟨hb.updLine _, fun f hf => hcounts f hf, ?_, ?_, fun _ => ?_⟩
    all_goals rw [State.lane_modLane, if_pos rfl, hblane]
  | some m =>
    refine ⟨(hb.put ⟨Nat.le_of_ble_eq_true rfl, linStat_apart (by decide)⟩).updLine _, fun f hf => ?_, ?_, ?_,
      fun h => absurd h (Option.some_ne_none m)⟩
    · exact (State.get_put_other hb.stored _ _ _ (Nat.le_of_ble_eq_true rfl) (.inl (hf.apart hn).1.symm)).trans (hcounts f hf)
    all_goals rw [State.lane_modLane, if_pos rfl, State.put_lane, hblane]

/-- A period's rest leaves the state and the missed markers of a lane without a countdown. -/
theorem State.periodCounts_idle {s : State} {n : Nat} (hn : n < 8) (o : MarkerObs) (hidle : (s.lane n).countdown = none) {v : Nat}
    (h : s.Shows (Reg.LIN_STAT_STATE n) v) :
    (s.periodCounts n o).Shows (Reg.LIN_STAT_STATE n) v ∧ ((s.periodCounts n o).lane n).syncLost = (s.lane n).syncLost := by
  have hsent : (s.sendCell n).Shows (Reg.LIN_STAT_STATE n) v ∧ ((s.sendCell n).lane n).syncLost = (s.lane n).syncLost ∧
      ((s.sendCell n).lane n).countdown = (s.lane n).countdown := by
    unfold State.sendCell
    dsimp only
    split
    · exact ⟨h, rfl, rfl⟩
    · split
      · exact ⟨h.updLine _, by rw [State.lane_modLane, if_pos rfl], by rw [State.lane_modLane, if_pos rfl]⟩
      · exact ⟨h.updLine _, by rw [State.lane_modLane, if_pos rfl], by rw [State.lane_modLane, if_pos rfl]⟩
      · exact ⟨h, rfl, rfl⟩
  obtain ⟨hstate, hsync, hcount⟩ := hsent
  have hkept := State.degrade_lanesKept hn (s.sendCell n) o.rsUncorrectable
  have hnone : (((s.sendCell n).degrade (portOf n) o.rsUncorrectable).lane n).countdown = none := by rw [hkept.lane, hcount, hidle]
  have hsame : s.periodCounts n o = (s.sendCell n).degrade (portOf n) o.rsUncorrectable := by
    unfold State.periodCounts State.countPeriod
    rw [hnone]
  rw [hsame, hkept.lane]
  exact ⟨hkept.shows_lane hstate (linStat_ofLanes hn 0 3), hsync⟩

theorem State.periodCounts_markerKept {n : Nat} (hn : n < 8) (s : State) (o : MarkerObs) : MarkerKept n s (s.periodCounts n o) :=
  (s.sendCell_markerKept.trans (.of_lanesKept hn (State.degrade_lanesKept hn _ _))).trans (State.countPeriod_markerKept hn _)

theorem exec_markerPeriod_shows {s : State} (hs : s.stored) {n : Nat} (hn : n < 8) (o : MarkerObs) (hon : s.laneAt n ≠ 0)
    (hmode : s.lineMode (portOf n) = 5) :
    ∃ t, exec (.markerPeriod n o) s = .next t ∧
      t.rd64 (Reg.LIN_CNT n 0) = (s.rd64 (Reg.LIN_CNT n 0) + o.codewords) % 2 ^ 64 ∧
      t.rd64 (Reg.LIN_CNT n 2) = (s.rd64 (Reg.LIN_CNT n 2) + o.innerFailures) % 2 ^ 64 ∧
      t.rd64 (Reg.LIN_PORT_CNT (portOf n) 2) = (s.rd64 (Reg.LIN_PORT_CNT (portOf n) 2) + o.rsUncorrectable) % 2 ^ 64 ∧
      (t.lane n).period = ((s.lane n).period + 1) % 65536 ∧
      (s.laneAt n = 5 → (s.lane n).countdown = none → o.innerFailures > 62 → t.laneAt n = 1) ∧
      (s.laneAt n = 5 → (s.lane n).countdown = none → o.marker = none → 3 ≤ (s.lane n).syncLost → t.laneAt n = 1) := by
  obtain ⟨hcw, hinner, hrs⟩ := State.periodCounted_reads hs hn o
  have hline := s.periodCounted_line n o
  have hlane : (s.periodCounted n o).lane n = s.lane n := by rw [State.lane, hline, State.lane]
  obtain ⟨hstate, hcounts, hperiod, hcountdown, hmissed⟩ := State.periodMarked_keeps hn o (State.periodCounted_at hs hn o)
  rw [hlane] at hperiod hcountdown hmissed
  have hmarked : ∀ off, (off = Reg.LIN_CNT n 0 ∨ off = Reg.LIN_CNT n 2 ∨ off = Reg.LIN_PORT_CNT (portOf n) 2) →
      ((s.periodCounted n o).periodMarked n o).rd64 off = (s.periodCounted n o).rd64 off := fun off hoff => by
    rw [State.rd64, State.rd64, ← State.get_word, ← State.get_word, hcounts _ ⟨off, hoff, .inl rfl⟩, hcounts _ ⟨off, hoff, .inr rfl⟩,
      State.get_word, State.get_word]
  have hexec := exec_markerPeriod o hon hmode
  dsimp only at hexec
  have hidleCounts := fun h => State.periodCounts_idle hn o (hcountdown.trans h) hstate
  have hkept := State.periodCounts_markerKept hn ((s.periodCounted n o).periodMarked n o) o
  generalize (s.periodCounted n o).periodMarked n o = u at hexec hidleCounts hkept hmarked hstate hperiod hmissed
  generalize u.periodCounts n o = v at hexec hidleCounts hkept
  have hv : v.stored := hkept.stored hstate.stored
  have hlast : MarkerKept n v (if v.laneAt n ≠ 5 then v else if (v.lane n).syncLost ≥ 4 then v.enterDetect n 3
      else if o.innerFailures > 62 then v.enterDetect n 4 else v) :=
    .ite (.refl n v) (.ite (v.enterDetect_markerKept hn 3) (.ite (v.enterDetect_markerKept hn 4) (.refl n v)))
  have hall := hkept.trans hlast
  refine ⟨_, hexec, ?_, ?_, ?_, hall.period.trans hperiod, fun hup hidle hfailed => ?_, fun hup hidle hnone hmiss => ?_⟩
  · rw [hall.rd64 hstate.stored (.inl rfl), hmarked _ (.inl rfl), hcw]
  · rw [hall.rd64 hstate.stored (.inr (.inl rfl)), hmarked _ (.inr (.inl rfl)), hinner]
  · rw [hall.rd64 hstate.stored (.inr (.inr rfl)), hmarked _ (.inr (.inr rfl)), hrs]
  · have hat : v.laneAt n = 5 := (hidleCounts hidle).1.value.trans hup
    rw [if_neg (not_not.mpr hat), if_pos hfailed]
    split
    · exact (State.enterDetect_shows hv hn 3 (by omega)).1
    · exact (State.enterDetect_shows hv hn 4 (by omega)).1
  · have hat : v.laneAt n = 5 := (hidleCounts hidle).1.value.trans hup
    have hlost : (v.lane n).syncLost ≥ 4 := by rw [(hidleCounts hidle).2, hmissed hnone]; omega
    rw [if_neg (not_not.mpr hat), if_pos hlost]
    exact (State.enterDetect_shows hv hn 3 (by omega)).1

/-- Settles O33: each step of a lane's watch by its equation and what it shows. How a window's quality and shares are reckoned is the
model's choice (assumption log 48 and 49). -/
theorem lanesAreWatched : Obligations.LanesAreWatched := fun _ n hs hn =>
  ⟨fun _ hlate hat hruns => exec_equaliserUpdate hlate hat hruns, fun o hat => exec_occupancyWindow_shows hs hn o hat,
    fun hfrozen huntold hdue => exec_freezeEvent hfrozen huntold hdue,
    fun _ hmay => ⟨_, congrArg Host.Outcome.next (if_pos hmay), State.startHist_shows hs n⟩,
    fun _ hbusy hbins => exec_histDone hs hbusy hbins, fun o hon hmode => exec_markerPeriod_shows hs hn o hon hmode,
    fun _ _ hshown hgood => exec_fecDegradeClear hshown hgood⟩

end Sys2Proof.Machine
end


section
/-! The commands of the line (R262 to R265). -/
namespace Sys2Proof.Machine
open Sys2Proof

/-- A loop whose turn for each element establishes that element's property, and keeps the others', establishes them all. -/
theorem State.each_establishes {α : Type} {I : State → Prop} {P : α → State → Prop} {s : State} (l : List α) (f : State → α → State)
    (h : I s) (hinv : ∀ u x, x ∈ l → I u → I (f u x)) (hnew : ∀ u x, x ∈ l → I u → P x (f u x))
    (hkeep : ∀ u x y, x ∈ l → y ∈ l → y ≠ x → I u → P y u → P y (f u x)) : I (s.each l f) ∧ ∀ x ∈ l, P x (s.each l f) := by
  unfold State.each
  induction l using List.reverseRecOn with
  | nil => exact ⟨h, fun x hx => absurd hx List.not_mem_nil⟩
  | append_singleton l x ih =>
    have hsub : ∀ y ∈ l, y ∈ l ++ [x] := fun y hy => List.mem_append_left _ hy
    have hx : x ∈ l ++ [x] := List.mem_append_right _ (List.mem_singleton_self x)
    obtain ⟨hi, hp⟩ := ih (fun u y hy => hinv u y (hsub y hy)) (fun u y hy => hnew u y (hsub y hy))
      fun u y z hy hz => hkeep u y z (hsub y hy) (hsub z hz)
    rw [List.foldl_append, List.foldl_cons, List.foldl_nil]
    refine ⟨hinv _ x hx hi, fun y hy => ?_⟩
    by_cases heq : y = x
    · rw [heq]
      exact hnew _ x hx hi
    · have hy' : y ∈ l := (List.mem_append.mp hy).resolve_right fun h => heq (List.mem_singleton.mp h)
      exact hkeep _ x y hx hy heq hi (hp y hy')

/-! ## Steps of one lane -/

/-- Whether a field of the lanes stands outside a lane's own registers. -/
def Field.besideLane (m : Nat) (f : Field) : Prop := f.ofLanes ∧ (f.reg < 0x300000 + 0x400 * m ∨ 0x300400 + 0x400 * m ≤ f.reg)

/-- The second state is the first but for one lane, its registers, and what is not of the lanes. -/
structure OnlyLane (m : Nat) (s t : State) : Prop where
  now : t.now = s.now
  lanes : ∀ n, n ≠ m → t.lane n = s.lane n
  stored : s.stored → t.stored
  fields : s.stored → ∀ f, f.besideLane m → t.get f = s.get f

namespace OnlyLane

theorem refl (m : Nat) (s : State) : OnlyLane m s s := ⟨rfl, fun _ _ => rfl, id, fun _ _ _ => rfl⟩

theorem trans {m : Nat} {s t u : State} (h : OnlyLane m s t) (h' : OnlyLane m t u) : OnlyLane m s u :=
  ⟨h'.now.trans h.now, fun n hn => (h'.lanes n hn).trans (h.lanes n hn), fun hs => h'.stored (h.stored hs),
    fun hs f hf => (h'.fields (h.stored hs) f hf).trans (h.fields hs f hf)⟩

theorem of_lanesKept {m : Nat} {s t : State} (h : LanesKept s t) : OnlyLane m s t :=
  ⟨h.now, fun n _ => h.lane n, h.stored, fun hs f hf => h.fields hs f hf.1⟩

theorem ite {m : Nat} {s t u : State} {c : Prop} [Decidable c] (h : OnlyLane m s t) (h' : OnlyLane m s u) :
    OnlyLane m s (if c then t else u) := by
  split <;> assumption

theorem put {m : Nat} {s : State} {g : Field} {v : Nat} (hreg : 0x300000 + 0x400 * m ≤ g.reg ∧ g.reg < 0x300400 + 0x400 * m)
    (hok : g.ok) : OnlyLane m s (s.put g v) :=
  ⟨rfl, fun _ _ => rfl, State.put_stored _ _, fun hs f hf => State.get_put_other hs _ _ _ hok (.inl (by have := hf.2; omega))⟩

theorem add64 {m : Nat} {s : State} {off n : Nat} (hreg : 0x300000 + 0x400 * m ≤ off ∧ off + 4 < 0x300400 + 0x400 * m) :
    OnlyLane m s (s.add64 off n) :=
  ⟨rfl, fun _ _ => rfl, State.add64_stored _ _, fun hs f hf =>
    State.get_wr64_other hs _ _ _ (by have := hf.2; omega) (by have := hf.2; omega)⟩

theorem modLane (m : Nat) (s : State) (f : LaneState → LaneState) : OnlyLane m s (s.modLane m f) :=
  ⟨rfl, fun n hn => by rw [State.lane_modLane, if_neg hn], id, fun _ _ _ => rfl⟩

theorem shows {m : Nat} {s t : State} (h : OnlyLane m s t) {f : Field} {v : Nat} (hs : s.Shows f v) (hf : f.besideLane m) : t.Shows f v :=
  ⟨h.stored hs.stored, (h.fields hs.stored f hf).trans hs.value⟩

end OnlyLane

theorem linStat_ownLane (n : Nat) : 0x300000 + 0x400 * n ≤ Reg.LIN_STAT n ∧ Reg.LIN_STAT n < 0x300400 + 0x400 * n := by
  unfold Reg.LIN_STAT
  omega

theorem linStat_beside {n m : Nat} (hn : n < 8) (h : n ≠ m) (lsb w : Nat) : Field.besideLane m ⟨Reg.LIN_STAT n, lsb, w⟩ := by
  refine ⟨linStat_ofLanes hn lsb w, ?_⟩
  unfold Reg.LIN_STAT
  dsimp only
  omega

theorem linPortCfg_beside {k m : Nat} (hk : k < 2) (hm : m < 8) (lsb w : Nat) : Field.besideLane m ⟨Reg.LIN_PORT_CFG k, lsb, w⟩ := by
  refine ⟨linPortCfg_ofLanes hk lsb w, ?_⟩
  unfold Reg.LIN_PORT_CFG
  dsimp only
  omega

section
variable {n : Nat} (hn : n < 8) (s : State)
include hn

theorem State.setLane_onlyLane (new : Nat) (cause : Option Nat) : OnlyLane n s (s.setLane n new cause) := by
  have hput : OnlyLane n s (s.put (Reg.LIN_STAT_STATE n) new) := .put (linStat_ownLane n) (Nat.le_of_ble_eq_true rfl)
  exact (hput.trans (.modLane n _ fun l => { l with since := s.now })).trans (.of_lanesKept (State.setLane_lanesKept hn new cause))

omit hn in
theorem State.setTaps_onlyLane (l : List Int) : OnlyLane n s (s.setTaps n l) := by
  have hput : ∀ (u : State) lsb w v, lsb + w ≤ 32 → OnlyLane n u (u.put ⟨Reg.LIN_TXFFE n, lsb, w⟩ v) := fun u lsb w v hok =>
    .put (by unfold Reg.LIN_TXFFE; dsimp only; omega) hok
  exact ((((hput _ _ _ _ (by decide)).trans (hput _ _ _ _ (by decide))).trans (hput _ _ _ _ (by decide))).trans
    (hput _ _ _ _ (by decide))).trans (hput _ _ _ _ (by decide))

omit hn in
theorem State.detectTaps_onlyLane : OnlyLane n s (s.detectTaps n) :=
  (s.setTaps_onlyLane _).trans (.put (linStat_ownLane n) (Nat.le_of_ble_eq_true rfl))

omit hn in
theorem State.countFailure_onlyLane : OnlyLane n s (s.countFailure n) := by
  have hput : OnlyLane n s (s.put (Reg.LIN_STAT_BACKOFF n) (min 64 (2 * s.get (Reg.LIN_STAT_BACKOFF n)))) :=
    .put (linStat_ownLane n) (Nat.le_of_ble_eq_true rfl)
  unfold State.countFailure State.when
  exact OnlyLane.ite (hput.trans (.add64 (by unfold Reg.LIN_CNT; omega))) (.refl n s)

theorem State.enterDetect_onlyLane (cause : Nat) : OnlyLane n s (s.enterDetect n cause) := by
  have hreset : OnlyLane n s ((s.countFailure n).detectTaps n) := s.countFailure_onlyLane.trans (State.detectTaps_onlyLane _)
  rw [s.enterDetect_eq]
  dsimp only
  generalize (s.countFailure n).detectTaps n = u at hreset
  have hmod := hreset.trans (.modLane n u fun l => l.detecting (s.laneAt n) (u.now + s.detectWait n))
  exact OnlyLane.ite hmod (hmod.trans (State.setLane_onlyLane hn _ 1 (some cause)))

theorem State.laneStart_onlyLane : OnlyLane n s (s.laneStart n) := OnlyLane.ite (s.enterDetect_onlyLane hn 0) (.refl n s)

theorem State.enterDown_onlyLane : OnlyLane n s (s.enterDown n) := by
  have hmod := OnlyLane.modLane n s fun l => { l with ready := false, countdown := none, partnerCount := none, partnerReady := 0 }
  exact OnlyLane.ite (.refl n s) (hmod.trans (State.setLane_onlyLane hn _ 0 (some 0)))

/-- A lane taken down is in DOWN. -/
theorem State.enterDown_at (hs : s.stored) : (s.enterDown n).Shows (Reg.LIN_STAT_STATE n) 0 := by
  unfold State.enterDown
  split
  next hdown => exact ⟨hs, hdown⟩
  next _ =>
    exact State.setLane_at (s := s.modLane n fun l => { l with ready := false, countdown := none, partnerCount := none, partnerReady := 0 })
      hn 0 (some 0) hs (by decide)

end

/-- A lane whose port has no mode stays down. -/
theorem State.laneStart_off {s : State} {n : Nat} (hmode : s.lineMode (portOf n) = 0) : s.laneStart n = s := by
  have hoff : ¬ (s.laneAt n = 0 && s.laneMayRun n) = true := by
    unfold State.laneMayRun
    rw [hmode]
    simp
  exact if_neg hoff

/-- A lane started from DOWN with back-off 1 waits with back-off 1, or stays down. -/
theorem State.laneStart_restarts {s : State} {n : Nat} (hn : n < 8) (hat : s.Shows (Reg.LIN_STAT_STATE n) 0)
    (hback : s.get (Reg.LIN_STAT_BACKOFF n) = 1) :
    (s.laneStart n).get (Reg.LIN_STAT_BACKOFF n) = 1 ∧ (s.laneStart n).laneAt n ≤ 1 := by
  have hdown : s.laneAt n = 0 := hat.value
  unfold State.laneStart
  split
  · obtain ⟨hdetect, hkept, -⟩ := State.enterDetect_shows hat.stored hn 0 (by omega)
    rw [State.backoffOf, if_neg (by omega), hback] at hkept
    exact ⟨hkept, by omega⟩
  · exact ⟨hback, by omega⟩

/-! ## Modes -/

/-- The lanes of a port. -/
def lanesOf (k : Nat) : List Nat := (List.range 4).map fun j => 4 * k + j

theorem mem_lanesOf {k n : Nat} : n ∈ lanesOf k ↔ ∃ j < 4, n = 4 * k + j := by
  unfold lanesOf
  simp [eq_comm]

theorem lanesOf_lane {k n : Nat} (hk : k < 2) (h : n ∈ lanesOf k) : n < 8 ∧ portOf n = k := by
  obtain ⟨j, hj, rfl⟩ := mem_lanesOf.mp h
  unfold portOf
  omega

/-- All lanes of a port taken down. -/
def State.portDown (s : State) (k : Nat) : State := s.each (lanesOf k) fun s n => s.enterDown n

theorem State.portDown_at {s : State} (hs : s.stored) {k : Nat} (hk : k < 2) :
    (s.portDown k).stored ∧ ∀ n ∈ lanesOf k, (s.portDown k).Shows (Reg.LIN_STAT_STATE n) 0 :=
  State.each_establishes (I := State.stored) (P := fun n u => u.Shows (Reg.LIN_STAT_STATE n) 0) _ _ hs
    (fun u _ hn hu => (u.enterDown_onlyLane (lanesOf_lane hk hn).1).stored hu)
    (fun u _ hn hu => State.enterDown_at (lanesOf_lane hk hn).1 u hu)
    (fun u _ _ hn hm hne _ h => (u.enterDown_onlyLane (lanesOf_lane hk hn).1).shows h (linStat_beside (lanesOf_lane hk hm).1 hne 0 3))

/-- A port's configuration as `LINE_MODE` writes it. -/
def State.portMode (s : State) (k mode : Nat) (train : Bool) : State :=
  (s.put (Reg.LIN_PORT_CFG_MODE k) mode).put (Reg.LIN_PORT_CFG_TRAIN_EN k) (b2n train)

theorem State.portMode_shows {s : State} (hs : s.stored) (k : Nat) {mode : Nat} (hmode : mode < 8) (train : Bool) :
    (s.portMode k mode train).Shows (Reg.LIN_PORT_CFG_MODE k) mode ∧
      (s.portMode k mode train).Shows (Reg.LIN_PORT_CFG_TRAIN_EN k) (b2n train) := by
  have hput : (s.put (Reg.LIN_PORT_CFG_MODE k) mode).Shows (Reg.LIN_PORT_CFG_MODE k) mode :=
    State.put_shows hs _ _ (Nat.mod_eq_of_lt (show mode < 2 ^ 3 from hmode)) (Nat.le_of_ble_eq_true rfl)
  exact ⟨hput.put ⟨Nat.le_of_ble_eq_true rfl, .inr (.inr (Nat.le_of_ble_eq_true rfl))⟩,
    State.put_shows hput.stored _ _ (by cases train <;> rfl) (Nat.le_of_ble_eq_true rfl)⟩

theorem State.TakesNow.exec_lineMode {s : State} {h : Hdr} (g : s.TakesNow h) {k mode : Nat} (train : Bool) (hk : k < 2) (hmode : mode ≤ 5)
    (htrip : (s.trip && mode != 0) = false) :
    exec (.lineMode h k mode train) s = .next
      ((((s.portDown k).portMode k mode train).each (lanesOf k) fun s n => s.laneStart n).complete h 0x70 St.done) := by
  have hfields : firstFail [(decide (k < 2 ∧ mode ≤ 5), St.range), (!(s.trip && mode != 0), St.notReady)] = none := by
    rw [decide_eq_true ⟨hk, hmode⟩, htrip]
    rfl
  show execLineMode h k mode train s = _
  rw [execLineMode, hfields, g.acceptNow]
  rfl

theorem State.TakesNow.exec_lineMode_off {s : State} (hs : s.stored) {h : Hdr} (g : s.TakesNow h) {k : Nat} (train : Bool) (hk : k < 2) :
    ∃ t, exec (.lineMode h k 0 train) s = .next t ∧ t.lineMode k = 0 ∧ ∀ j, j < 4 → t.laneAt (4 * k + j) = 0 := by
  obtain ⟨hstored, hdown⟩ := State.portDown_at hs hk
  obtain ⟨hmode, -⟩ := State.portMode_shows hstored k (show 0 < 8 by decide) train
  have hstays : ((s.portDown k).portMode k 0 train).each (lanesOf k) (fun s n => s.laneStart n) = (s.portDown k).portMode k 0 train :=
    State.each_induct (P := fun u => u = (s.portDown k).portMode k 0 train) _ _ rfl fun u hu n hn => by
      rw [hu]
      refine State.laneStart_off ?_
      rw [(lanesOf_lane hk hn).2]
      exact hmode.value
  rw [g.exec_lineMode train hk (by decide) (Bool.and_false _), hstays]
  refine ⟨_, rfl, (hmode.complete (recordField_lane (linPortCfg_ofLanes hk 0 3))).value, fun j hj => ?_⟩
  have hn : 4 * k + j ∈ lanesOf k := mem_lanesOf.mpr ⟨j, hj, rfl⟩
  have happart : ∀ lsb w, Field.apart ⟨Reg.LIN_PORT_CFG k, lsb, w⟩ (Reg.LIN_STAT_STATE (4 * k + j)) := fun lsb w => .inl (by
    simp only [Reg.LIN_PORT_CFG, Reg.LIN_STAT_STATE, Reg.LIN_STAT]
    omega)
  have hat : ((s.portDown k).portMode k 0 train).Shows (Reg.LIN_STAT_STATE (4 * k + j)) 0 :=
    ((hdown _ hn).put ⟨Nat.le_of_ble_eq_true rfl, happart 0 3⟩).put ⟨Nat.le_of_ble_eq_true rfl, happart 3 1⟩
  exact (hat.complete (recordField_lane (linStat_ofLanes (lanesOf_lane hk hn).1 0 3))).value

theorem State.TakesNow.exec_lineMode_shows {s : State} (hs : s.stored) {h : Hdr} (g : s.TakesNow h) {k mode : Nat} (train : Bool) (hk : k < 2)
    (hmode : mode ≤ 5) (htrip : s.trip = false) :
    ∃ t, exec (.lineMode h k mode train) s = .next t ∧ t.lineMode k = mode ∧ t.get (Reg.LIN_PORT_CFG_TRAIN_EN k) = if train then 1 else 0 := by
  obtain ⟨hmode', htrain⟩ := State.portMode_shows (State.portDown_at hs hk).1 k (show mode < 8 by omega) train
  have hkeep : ∀ lsb w v, ((s.portDown k).portMode k mode train).Shows ⟨Reg.LIN_PORT_CFG k, lsb, w⟩ v →
      (((s.portDown k).portMode k mode train).each (lanesOf k) fun s n => s.laneStart n).Shows ⟨Reg.LIN_PORT_CFG k, lsb, w⟩ v :=
    fun lsb w v h => State.each_induct _ _ h fun u hu n hn =>
      (u.laneStart_onlyLane (lanesOf_lane hk hn).1).shows hu (linPortCfg_beside hk (lanesOf_lane hk hn).1 lsb w)
  refine ⟨_, g.exec_lineMode train hk hmode (by rw [htrip]; rfl),
    ((hkeep 0 3 mode hmode').complete (recordField_lane (linPortCfg_ofLanes hk 0 3))).value,
    ((hkeep 3 1 _ htrain).complete (recordField_lane (linPortCfg_ofLanes hk 3 1))).value.trans ?_⟩
  cases train <;> rfl

/-! ## Restarts, snapshots and tests -/

theorem mem_maskList {m n i : Nat} : i ∈ maskList m n ↔ i < n ∧ bit m i = true := by
  rw [maskList, List.mem_filter, List.mem_range]

theorem State.TakesNow.exec_lineRestart {s : State} (hs : s.stored) {h : Hdr} (g : s.TakesNow h) {mask : Nat} (hpos : 0 < mask)
    (hmask : mask < 256) (htrip : s.trip = false) :
    ∃ t, exec (.lineRestart h mask) s = .next t ∧ ∀ n, n < 8 → bit mask n = true → t.get (Reg.LIN_STAT_BACKOFF n) = 1 ∧ t.laneAt n ≤ 1 := by
  have hfields : firstFail [(decide (0 < mask ∧ mask < 256), St.range), (!s.trip, St.notReady)] = none := by
    rw [decide_eq_true ⟨hpos, hmask⟩, htrip]
    rfl
  have hlane : ∀ {n}, n ∈ maskList mask 8 → n < 8 := fun h => (mem_maskList.mp h).1
  have hown : ∀ (u : State) {n}, n < 8 → OnlyLane n u (((u.enterDown n).put (Reg.LIN_STAT_BACKOFF n) 1).laneStart n) := fun u n hn =>
    ((u.enterDown_onlyLane hn).trans (.put (linStat_ownLane n) (Nat.le_of_ble_eq_true rfl))).trans (State.laneStart_onlyLane hn _)
  obtain ⟨hstored, hstarted⟩ := State.each_establishes (I := State.stored)
    (P := fun n u => u.get (Reg.LIN_STAT_BACKOFF n) = 1 ∧ u.laneAt n ≤ 1) (maskList mask 8)
    (fun s n => ((s.enterDown n).put (Reg.LIN_STAT_BACKOFF n) 1).laneStart n) hs
    (fun u n hn hu => (hown u (hlane hn)).stored hu)
    (fun u n hn hu => by
      have hdown := State.enterDown_at (hlane hn) u hu
      have hback := State.put_shows hdown.stored (Reg.LIN_STAT_BACKOFF n) 1 rfl (Nat.le_of_ble_eq_true rfl)
      exact State.laneStart_restarts (hlane hn) (hdown.put ⟨Nat.le_of_ble_eq_true rfl, linStat_apart (by decide)⟩) hback.value)
    (fun u n m hn hm hne hu hp => by
      have hkeep := fun lsb w => (hown u (hlane hn)).fields hu ⟨Reg.LIN_STAT m, lsb, w⟩ (linStat_beside (hlane hm) hne lsb w)
      exact ⟨(hkeep 8 7).trans hp.1, (hkeep 0 3).le.trans hp.2⟩)
  show ∃ t, execLineRestart h mask s = _ ∧ _
  rw [execLineRestart, hfields, g.acceptNow]
  refine ⟨_, rfl, fun n hn hbit => ?_⟩
  have hp := hstarted n (mem_maskList.mpr ⟨hn, hbit⟩)
  have hkeep := fun lsb w => (State.complete_reports _ h 0x71 St.done).fields hstored ⟨Reg.LIN_STAT n, lsb, w⟩
    (recordField_lane (linStat_ofLanes hn lsb w))
  exact ⟨(hkeep 8 7).trans hp.1, (hkeep 0 3).le.trans hp.2⟩

theorem State.TakesNow.exec_lineSnapshot {s : State} {h : Hdr} (g : s.TakesNow h) {n addr : Nat} (hn : n < 8) (haddr : addr % 64 = 0)
    (hon : s.laneAt n ≠ 0) : Answers (exec (.lineSnapshot h n addr) s) (s.hostWrite addr (s.snapshot n)) := by
  have hfields : firstFail [(decide (n < 8), St.range), (addr % 64 == 0, St.misaligned), (s.laneAt n != 0, St.notReady)] = none := by
    rw [decide_eq_true hn, haddr, bne_iff_ne.mpr hon]
    rfl
  show Answers (execLineSnapshot h n addr s) _
  rw [execLineSnapshot, hfields, g.acceptNow]
  exact .of_reports (State.complete_reports _ _ _ _)

/-- A lane put under test. -/
def State.underTest (s : State) (n pattern addr : Nat) : State :=
  ((s.enterDown n).setF (Reg.LIN_STAT_TEST n)).modLane n fun l => { l with test := some ⟨pattern, addr, 0, 0, s.now⟩ }

theorem State.underTest_onlyLane {n : Nat} (hn : n < 8) (s : State) (pattern addr : Nat) : OnlyLane n s (s.underTest n pattern addr) :=
  ((s.enterDown_onlyLane hn).trans (.put (linStat_ownLane n) (Nat.le_of_ble_eq_true rfl))).trans (.modLane n _ _)

theorem State.TakesNow.exec_lineTest {s : State} (hs : s.stored) {h : Hdr} (g : s.TakesNow h) {mask pattern addr : Nat} (hpos : 0 < mask)
    (hmask : mask < 256) (hlow : 1 ≤ pattern) (hhigh : pattern ≤ 4) (haddr : addr % 8 = 0) (htrip : s.trip = false) :
    ∃ t, exec (.lineTest h mask pattern addr) s = .next t ∧ ∀ n, n < 8 → bit mask n = true → t.laneAt n = 0 ∧
      t.on (Reg.LIN_STAT_TEST n) = true ∧ (t.lane n).test = some ⟨pattern, addr, 0, 0, s.now⟩ := by
  have hfields : firstFail [(decide (0 < mask ∧ mask < 256 ∧ pattern ≤ 4), St.range), (addr % 8 == 0, St.misaligned),
      (!(s.trip && pattern != 0), St.notReady)] = none := by
    rw [decide_eq_true ⟨hpos, hmask, hhigh⟩, haddr, htrip]
    rfl
  have hlane : ∀ {n}, n ∈ maskList mask 8 → n < 8 := fun h => (mem_maskList.mp h).1
  obtain ⟨⟨hstored, -⟩, htested⟩ := State.each_establishes (I := fun u => u.stored ∧ u.now = s.now)
    (P := fun n u => u.get (Reg.LIN_STAT_STATE n) = 0 ∧ u.get (Reg.LIN_STAT_TEST n) = 1 ∧
      (u.lane n).test = some ⟨pattern, addr, 0, 0, s.now⟩)
    (maskList mask 8) (fun s n => s.underTest n pattern addr) ⟨hs, rfl⟩
    (fun u n hn hu => ⟨(u.underTest_onlyLane (hlane hn) pattern addr).stored hu.1, (u.underTest_onlyLane (hlane hn) pattern addr).now.trans hu.2⟩)
    (fun u n hn hu => by
      have hdown := State.enterDown_at (hlane hn) u hu.1
      have htest := State.setF_shows hdown.stored (Reg.LIN_STAT_TEST n) rfl (Nat.le_of_ble_eq_true rfl)
      refine ⟨((hdown.setF ⟨Nat.le_of_ble_eq_true rfl, linStat_apart (by decide)⟩).updLine _).value, (htest.updLine _).value, ?_⟩
      rw [State.underTest, State.lane_modLane, if_pos rfl, hu.2])
    (fun u n m hn hm hne hu hp => by
      have honly := u.underTest_onlyLane (hlane hn) pattern addr
      have hkeep := fun lsb w => honly.fields hu.1 ⟨Reg.LIN_STAT m, lsb, w⟩ (linStat_beside (hlane hm) hne lsb w)
      exact ⟨(hkeep 0 3).trans hp.1, (hkeep 7 1).trans hp.2.1, (congrArg LaneState.test (honly.lanes m hne)).trans hp.2.2⟩)
  have hpattern : ¬ pattern = 0 := by omega
  show ∃ t, execLineTest h mask pattern addr s = _ ∧ _
  rw [execLineTest, hfields, g.acceptNow]
  simp only [if_neg hpattern]
  refine ⟨_, rfl, fun n hn hbit => ?_⟩
  obtain ⟨hat, htest, hjob⟩ := htested n (mem_maskList.mpr ⟨hn, hbit⟩)
  have hrecord := LanesKept.of_reports (State.complete_reports
    (s.each (maskList mask 8) fun s n => s.underTest n pattern addr) h 0x73 St.done)
  have hkeep := fun lsb w => hrecord.fields hstored ⟨Reg.LIN_STAT n, lsb, w⟩ (linStat_ofLanes hn lsb w)
  exact ⟨(hkeep 0 3).trans hat, beq_iff_eq.mpr ((hkeep 7 1).trans htest), (congrArg LaneState.test (hrecord.lane n)).trans hjob⟩

theorem exec_lineTestReport {s : State} {n : Nat} {m : LaneTest} (nbits errors : Nat) (htest : (s.lane n).test = some m)
    (hdue : m.lastAt + 10000000 ≤ s.now) (hup : s.hostUp = true) :
    exec (.lineTestReport n nbits errors) s = .next ((s.modLane n fun l =>
      { l with test := some { m with bits := m.bits + nbits, errors := m.errors + errors, lastAt := s.now } }).hostWrite m.addr
        (bytesLE 8 (m.bits + nbits) ++ bytesLE 8 (m.errors + errors))) := by
  have hnow : ¬ (!s.due (m.lastAt + 10000000)) = true := by
    rw [State.due, decide_eq_true hdue]
    exact Bool.false_ne_true
  have hup' : ∀ f, (s.modLane n f).hostUp = true := fun f => hup
  show execLineTestReport n nbits errors s = _
  unfold execLineTestReport
  simp only [htest, if_neg hnow, State.when, hup', if_true]

/-- Settles O35: each command of the line by its equation and what its loop over the lanes establishes. The layout of a snapshot is the
model's choice (assumption log 51). -/
theorem lineCommandsRun : Obligations.LineCommandsRun := by
  refine fun s h hs g => ⟨fun k train hk => g.exec_lineMode_off hs train hk,
    fun k mode train hk hmode htrip => g.exec_lineMode_shows hs train hk hmode htrip,
    fun mask hpos hmask htrip => g.exec_lineRestart hs hpos hmask htrip,
    fun n addr hn haddr hon => g.exec_lineSnapshot hn haddr hon,
    fun mask pattern addr hpos hmask hlow hhigh haddr htrip => g.exec_lineTest hs hpos hmask hlow hhigh haddr htrip, ?report⟩
  case report =>
    intro n m nbits errors _ htest hdue hup
    refine ⟨_, exec_lineTestReport nbits errors htest hdue hup, rfl, ?_, rfl⟩
    have hhost : ∀ (u : State) a l, (u.hostWrite a l).lane n = u.lane n := fun _ _ _ => rfl
    rw [hhost, State.lane_modLane, if_pos rfl]

end Sys2Proof.Machine
end


section
/-! The receive lanes of the Culvert links (R266 to R274). -/
namespace Sys2Proof.Machine
open Sys2Proof

/-! ## What the rest of a link's step keeps of its lanes -/

/-- Whether a field stands in the registers of the Culvert lanes. -/
def Field.ofCulLanes (f : Field) : Prop := 0x341000 ≤ f.reg ∧ f.reg < 0x341300

theorem recordField_culLane {f : Field} (h : f.ofCulLanes) : recordField f = false := by
  have hblock : 0x341000 ≤ f.reg ∧ f.reg < 0x341300 := h
  have hout : ∀ off < 0x341000, f.reg ≠ off := fun off hoff => by omega
  have hout' : ∀ off ≥ 0x341300, f.reg ≠ off := fun off hoff => by omega
  have hrings : ¬ f.reg < 0x081800 := by omega
  simp only [recordField, hrings, beq_false_of_ne (hout Reg.HRG_STAT (by decide)), beq_false_of_ne (hout' Reg.THM_WINDOW (by decide)),
    beq_false_of_ne (hout' Reg.FLT_STAT (by decide)), beq_false_of_ne (hout' Reg.FLT_LOG_WEAR (by decide)), decide_false, Bool.and_false,
    Bool.false_and, Bool.or_false]

/-- The second state keeps the first one's Culvert lanes and their registers. -/
structure CulKept (s t : State) : Prop where
  lanes : t.cul.lanes = s.cul.lanes
  stored : s.stored → t.stored
  fields : s.stored → ∀ f, f.ofCulLanes → t.get f = s.get f

namespace CulKept

theorem refl (s : State) : CulKept s s := ⟨rfl, id, fun _ _ _ => rfl⟩

theorem trans {s t u : State} (h : CulKept s t) (h' : CulKept t u) : CulKept s u :=
  ⟨h'.lanes.trans h.lanes, fun hs => h'.stored (h.stored hs), fun hs f hf => (h'.fields (h.stored hs) f hf).trans (h.fields hs f hf)⟩

theorem of_timeOnly {s t : State} (h : TimeOnly s t) : CulKept s t :=
  ⟨congrArg CulvertState.lanes h.cul, h.stored, fun hs f hf => h.fields hs f (recordField_culLane hf) (.inr (by have := hf.1; omega))⟩

theorem of_reports {s t : State} (h : Reports s t) : CulKept s t := of_timeOnly (.of_reports h)

theorem put {s : State} {g : Field} {v : Nat} (hreg : g.reg < 0x341000 ∨ 0x341300 ≤ g.reg) (hok : g.ok) : CulKept s (s.put g v) :=
  ⟨rfl, State.put_stored _ _, fun hs f hf => State.get_put_other hs _ _ _ hok (.inl (by have := hf.1; have := hf.2; omega))⟩

theorem modCulLink (s : State) (k : Nat) (f : CulLink → CulLink) : CulKept s (s.modCulLink k f) := ⟨rfl, id, fun _ _ _ => rfl⟩

theorem ite {s t u : State} {c : Prop} [Decidable c] (h : CulKept s t) (h' : CulKept s u) : CulKept s (if c then t else u) := by
  split <;> assumption

theorem when {s t : State} (h : CulKept s t) (c : Bool) (run : State → State) (hrun : ∀ u, CulKept u (run u)) : CulKept s (t.when c run) :=
  ite (h.trans (hrun t)) h

theorem shows {s t : State} (h : CulKept s t) {f : Field} {v : Nat} (hs : s.Shows f v) (hf : f.ofCulLanes) : t.Shows f v :=
  ⟨h.stored hs.stored, (h.fields hs.stored f hf).trans hs.value⟩

theorem rd64 {s t : State} (h : CulKept s t) (hs : s.stored) {off : Nat} (hoff : 0x341000 ≤ off ∧ off + 4 < 0x341300) :
    t.rd64 off = s.rd64 off := by
  have hword : ∀ a, 0x341000 ≤ a ∧ a < 0x341300 → t.rd a = s.rd a := fun a ha => by
    rw [← State.get_word, ← State.get_word, h.fields hs ⟨a, 0, 32⟩ ha]
  rw [State.rd64, State.rd64, hword off (by omega), hword (off + 4) (by omega)]

theorem lane {s t : State} (h : CulKept s t) (n : Nat) : t.culLane n = s.culLane n := by rw [State.culLane, h.lanes, State.culLane]

end CulKept

theorem State.culReport_culKept (s : State) (k : Nat) : CulKept s (s.culReport k) := ⟨rfl, id, fun _ _ _ => rfl⟩

theorem culLink_block {k : Nat} (hk : k < 2) : Reg.CUL_LINK_STAT k < 0x341000 := by
  unfold Reg.CUL_LINK_STAT
  omega

theorem State.refreshLink_culKept (s : State) {k : Nat} (hk : k < 2) : CulKept s (s.refreshLink k) := by
  have hput : CulKept s (s.put (Reg.CUL_LINK_STAT_STATE k) (s.culStateOf k)) := .put (.inl (culLink_block hk)) (Nat.le_of_ble_eq_true rfl)
  have hevent := fun l => hput.trans (.of_reports (State.event_reports _ 0x0034 0x0802 l))
  unfold State.refreshLink
  dsimp only
  refine CulKept.ite (.refl s) ?_
  have hmismatch := fun l => (hevent l).when (s.culStateOf k == 3) (fun s => s.modCulLink k fun l => { l with mismatchAt := s.now })
    fun u => .modCulLink u k _
  exact ((hmismatch _).when _ (fun s => s.setF Reg.HRG_STAT_READY) fun u => .put (.inl (by decide)) (by decide)).trans
    (.of_timeOnly (State.joinPort_timeOnly (.refl _) (by omega) _ _))

theorem State.followMask_culKept (s : State) {k : Nat} (hk : k < 2) (b : AlignIn) : CulKept s (s.followMask k b) := by
  have hlink := CulKept.modCulLink s k fun l => { l with rxPeriod := some b.period, rxNext := b.nextMask }
  unfold State.followMask
  exact CulKept.ite (.refl s) (CulKept.ite hlink ((hlink.trans (.put (.inl (culLink_block hk)) (Nat.le_of_ble_eq_true rfl))).trans
    (.of_reports (State.event_reports _ _ _ _))))

/-! ## Moves of a lane -/

theorem culStat_ofCulLanes {n : Nat} (hn : n < 12) (lsb w : Nat) : Field.ofCulLanes ⟨Reg.CUL_LANE_STAT n, lsb, w⟩ := by
  unfold Field.ofCulLanes Reg.CUL_LANE_STAT
  dsimp only
  omega

theorem culStat_apart {n a b c d : Nat} (h : a + b ≤ c ∨ c + d ≤ a) :
    Field.apart ⟨Reg.CUL_LANE_STAT n, a, b⟩ ⟨Reg.CUL_LANE_STAT n, c, d⟩ := .inr h

section
variable {n : Nat} (hn : n < 12)
include hn

theorem State.setCulRx_shows {s : State} (hs : s.stored) {new : Nat} (hnew : new < 4) (cause : Nat) :
    (s.setCulRx n new cause).Shows (Reg.CUL_LANE_STAT_RX n) new := by
  unfold State.setCulRx
  dsimp only
  split
  next hsame => exact ⟨hs, hsame⟩
  next _ =>
    exact ((State.put_shows hs (Reg.CUL_LANE_STAT_RX n) new (Nat.mod_eq_of_lt (show new < 2 ^ 2 from hnew))
      (Nat.le_of_ble_eq_true rfl)).updCul _).event (recordField_culLane (culStat_ofCulLanes hn 0 2))

omit hn in
theorem State.Shows.setCulRx {s : State} {f : Field} {v : Nat} (h : s.Shows f v) (hf : f.ofCulLanes) (hsep : (Reg.CUL_LANE_STAT_RX n).apart f)
    (new cause : Nat) : (s.setCulRx n new cause).Shows f v := by
  unfold State.setCulRx
  exact State.Shows.ite h (((h.put ⟨Nat.le_of_ble_eq_true rfl, hsep⟩).updCul _).event (recordField_culLane hf))

omit hn in
/-- A lane that changes its state has seen no ALIGN block. -/
theorem State.setCulRx_lane {s : State} {new : Nat} (hnew : s.culRx n ≠ new) (cause : Nat) :
    (s.setCulRx n new cause).culLane n = { s.culLane n with aligns := 0, alignedSince := none } := by
  unfold State.setCulRx
  dsimp only
  rw [if_neg hnew, (CulKept.of_reports (State.event_reports _ _ _ _)).lane, State.culLane_modCulLane, if_pos rfl]
  rfl

/-- A step's end: the link's peer is told, and the link's state follows. -/
theorem State.culEnd_culKept (s : State) : CulKept s ((s.culReport (n / 6)).refreshLink (n / 6)) :=
  (s.culReport_culKept _).trans (State.refreshLink_culKept _ (by omega))

end

theorem exec_headerLock {s : State} {n : Nat} (hat : s.culRx n = 1) :
    exec (.headerLock n) s = .next (((s.setCulRx n 2 0).culReport (n / 6)).refreshLink (n / 6)) :=
  congrArg Host.Outcome.next (if_neg (not_not.mpr hat))

/-- The counts of a lost lock. -/
def State.lockLost (s : State) (n : Nat) : State := (s.add64 (Reg.CUL_LANE_CNT n 0) 24).add64 (Reg.CUL_LANE_CNT n 1) 1

theorem exec_lockLoss {s : State} {n : Nat} (hat : 2 ≤ s.culRx n) :
    exec (.lockLoss n) s = .next ((((s.lockLost n).setCulRx n 1 1).culReport (n / 6)).refreshLink (n / 6)) :=
  congrArg Host.Outcome.next (if_neg (not_lt.mpr hat))

theorem culCnt_apart (n r : Nat) (hr : r < 3) : Reg.CUL_LANE_STAT n ≠ Reg.CUL_LANE_CNT n r ∧ Reg.CUL_LANE_STAT n ≠ Reg.CUL_LANE_CNT n r + 4 := by
  unfold Reg.CUL_LANE_STAT Reg.CUL_LANE_CNT
  omega

theorem State.lockLost_reads {s : State} (hs : s.stored) (n : Nat) :
    (s.lockLost n).stored ∧ (s.lockLost n).rd64 (Reg.CUL_LANE_CNT n 0) = (s.rd64 (Reg.CUL_LANE_CNT n 0) + 24) % 2 ^ 64 ∧
      (s.lockLost n).rd64 (Reg.CUL_LANE_CNT n 1) = (s.rd64 (Reg.CUL_LANE_CNT n 1) + 1) % 2 ^ 64 := by
  have h0 := State.add64_stored (Reg.CUL_LANE_CNT n 0) 24 hs
  refine ⟨State.add64_stored _ _ h0, ?_, ?_⟩
  · rw [State.lockLost, State.rd64_add64_ne h0 (by unfold Reg.CUL_LANE_CNT; omega), State.add64_rd64 hs]
  · rw [State.lockLost, State.add64_rd64 h0, State.rd64_add64_ne hs (by unfold Reg.CUL_LANE_CNT; omega)]

/-- A counter of a lane through a change of its state. -/
theorem State.setCulRx_rd64 {s : State} (hs : s.stored) {n r : Nat} (hn : n < 12) (hr : r < 3) (new cause : Nat) :
    (s.setCulRx n new cause).rd64 (Reg.CUL_LANE_CNT n r) = s.rd64 (Reg.CUL_LANE_CNT n r) := by
  have hword : ∀ off, (off = Reg.CUL_LANE_CNT n r ∨ off = Reg.CUL_LANE_CNT n r + 4) → (s.setCulRx n new cause).rd off = s.rd off :=
    fun off hoff => by
      have hapart := culCnt_apart n r hr
      rw [← State.get_word, ← State.get_word]
      refine ((State.shows hs ⟨off, 0, 32⟩).setCulRx ?_ (.inl ?_) new cause).value
      · unfold Field.ofCulLanes
        unfold Reg.CUL_LANE_CNT at hoff
        dsimp only
        omega
      · rcases hoff with rfl | rfl
        · exact hapart.1
        · exact hapart.2
  rw [State.rd64, hword _ (.inl rfl), hword _ (.inr rfl), State.rd64]

theorem exec_lockLoss_shows {s : State} (hs : s.stored) {n : Nat} (hn : n < 12) (hat : 2 ≤ s.culRx n) :
    ∃ t, exec (.lockLoss n) s = .next t ∧ t.culRx n = 1 ∧
      t.rd64 (Reg.CUL_LANE_CNT n 0) = (s.rd64 (Reg.CUL_LANE_CNT n 0) + 24) % 2 ^ 64 ∧
      t.rd64 (Reg.CUL_LANE_CNT n 1) = (s.rd64 (Reg.CUL_LANE_CNT n 1) + 1) % 2 ^ 64 := by
  obtain ⟨hstored, h0, h1⟩ := State.lockLost_reads hs n
  have hrx := State.setCulRx_shows hn hstored (show 1 < 4 by decide) 1
  have hend := State.culEnd_culKept hn ((s.lockLost n).setCulRx n 1 1)
  have hblock : ∀ r < 3, 0x341000 ≤ Reg.CUL_LANE_CNT n r ∧ Reg.CUL_LANE_CNT n r + 4 < 0x341300 := fun r hr => by
    unfold Reg.CUL_LANE_CNT
    omega
  refine ⟨_, exec_lockLoss hat, (hend.shows hrx (culStat_ofCulLanes hn 0 2)).value, ?_, ?_⟩
  · rw [hend.rd64 hrx.stored (hblock 0 (by decide)), State.setCulRx_rd64 hstored hn (by decide), h0]
  · rw [hend.rd64 hrx.stored (hblock 1 (by decide)), State.setCulRx_rd64 hstored hn (by decide), h1]

theorem exec_culvertSignalLoss {s : State} {n : Nat} (hat : s.culRx n ≠ 0) :
    exec (.culvertSignalLoss n) s = .next
      ((((s.when (s.culRx n ≥ 2) fun s => s.add64 (Reg.CUL_LANE_CNT n 1) 1).setCulRx n 0 0).culReport (n / 6)).refreshLink (n / 6)) :=
  congrArg Host.Outcome.next (if_neg hat)

theorem exec_culvertSignalReturn {s : State} {n : Nat} (hat : s.culRx n = 0) (hmay : s.culMay n = true) :
    exec (.culvertSignalReturn n) s = .next ((s.put (Reg.CUL_LANE_STAT_RX_ASLEEP n) 0).setCulRx n 1 0) :=
  congrArg Host.Outcome.next (if_pos (by rw [hat, hmay]; rfl))

theorem exec_sleepBlocks {s : State} {n : Nat} (hat : 2 ≤ s.culRx n) :
    exec (.sleepBlocks n) s = .next
      ((((s.setCulRx n 0 2).setF (Reg.CUL_LANE_STAT_RX_ASLEEP n)).culReport (n / 6)).refreshLink (n / 6)) :=
  congrArg Host.Outcome.next (if_neg (not_lt.mpr hat))

/-! ## ALIGN blocks -/

/-- A lane that finds its polarity inverted hunts again. -/
def State.culInverted (s : State) (n : Nat) : State :=
  (s.modCulLane n fun l => { l with inverted := true }).put (Reg.CUL_LANE_STAT_RX_INV n) (1 - s.get (Reg.CUL_LANE_STAT_RX_INV n))

theorem exec_alignBlock_inverted {s : State} {n : Nat} {b : AlignIn} (hat : 2 ≤ s.culRx n) (hinv : b.inverted = true)
    (hnew : (s.culLane n).inverted = false) : exec (.alignBlock n b) s = .next ((s.culInverted n).culRehunt n 3) := by
  show execAlignBlock n b s = _
  unfold execAlignBlock
  dsimp only
  rw [if_neg (not_lt.mpr hat), if_pos hinv, if_neg (by rw [hnew]; exact Bool.false_ne_true)]
  rfl

/-- What an ALIGN block leaves of its lane. -/
def CulLane.alignedBy (l : CulLane) (b : AlignIn) (now : Nat) : CulLane :=
  { l with aligns := min 2 (l.aligns + 1), rxMarks := ((b.period, b.mark) :: l.rxMarks).take 16,
           alignedSince := if l.aligns = 1 then some now else l.alignedSince }

/-- An ALIGN block's part in its lane: the errors counted, the number shown, and the lane aligned from the second one on. -/
def State.culAlign (s : State) (n : Nat) (b : AlignIn) : State :=
  (((s.add64 (Reg.CUL_LANE_CNT n 2) b.bipErrors).put (Reg.CUL_LANE_STAT_RX_LANE n) b.lane).modCulLane n fun l => l.alignedBy b s.now).when
    (decide ((s.culLane n).aligns ≥ 1)) fun s => s.put (Reg.CUL_LANE_STAT_RX n) 3

/-- Its part in its link. -/
def State.culFollow (s : State) (n was : Nat) (b : AlignIn) : State :=
  let k := n / 6
  let ok := s.culIdOk k b
  let s := (s.modCulLink k fun l => { l with peerId := b.devId, idOk := ok }).put (Reg.CUL_LINK_STAT_PEER_ID_LO k) b.devId
  let s := s.followMask k b
  let s := s.when (was ≠ s.culRx n) fun s => s.culReport k
  s.refreshLink k

theorem exec_alignBlock {s : State} {n : Nat} {b : AlignIn} (hat : 2 ≤ s.culRx n) (hinv : b.inverted = false)
    (hspaced : (s.culLane n).aligns = 0 ∨ b.blocks = 16384) :
    exec (.alignBlock n b) s = .next ((s.culAlign n b).culFollow n (s.culRx n) b) := by
  have hgood : ¬ ((s.culLane n).aligns ≠ 0 ∧ b.blocks ≠ 16384) := fun h => hspaced.elim h.1 h.2
  show execAlignBlock n b s = _
  unfold execAlignBlock
  dsimp only
  rw [if_neg (not_lt.mpr hat), if_neg (by rw [hinv]; exact Bool.false_ne_true), if_neg hgood]
  rfl

theorem State.culFollow_culKept {n : Nat} (hn : n < 12) (s : State) (was : Nat) (b : AlignIn) : CulKept s (s.culFollow n was b) := by
  have hk : n / 6 < 2 := by omega
  have hlink := (CulKept.modCulLink s (n / 6) fun l => { l with peerId := b.devId, idOk := s.culIdOk (n / 6) b }).trans
    (.put (g := Reg.CUL_LINK_STAT_PEER_ID_LO (n / 6)) (v := b.devId) (.inl (culLink_block hk)) (Nat.le_of_ble_eq_true rfl))
  have hmask := hlink.trans (State.followMask_culKept _ hk b)
  exact (hmask.when _ (fun s => s.culReport (n / 6)) fun u => u.culReport_culKept _).trans (State.refreshLink_culKept _ hk)

theorem State.culAlign_shows {s : State} (hs : s.stored) {n : Nat} {b : AlignIn} (hlane : b.lane < 6) :
    (s.culAlign n b).Shows (Reg.CUL_LANE_STAT_RX_LANE n) b.lane ∧
      (s.culAlign n b).rd64 (Reg.CUL_LANE_CNT n 2) = (s.rd64 (Reg.CUL_LANE_CNT n 2) + b.bipErrors) % 2 ^ 64 ∧
      (s.culAlign n b).culLane n = (s.culLane n).alignedBy b s.now ∧
      (1 ≤ (s.culLane n).aligns → (s.culAlign n b).culRx n = 3) ∧ ((s.culLane n).aligns = 0 → (s.culAlign n b).culRx n = s.culRx n) := by
  have hcnt := culCnt_apart n 2 (by decide)
  let a := s.add64 (Reg.CUL_LANE_CNT n 2) b.bipErrors
  have ha : a.stored := State.add64_stored _ _ hs
  have hrx : a.Shows (Reg.CUL_LANE_STAT_RX n) (s.culRx n) := (State.shows hs _).add64 hcnt
  have hput : (a.put (Reg.CUL_LANE_STAT_RX_LANE n) b.lane).Shows (Reg.CUL_LANE_STAT_RX_LANE n) b.lane :=
    State.put_shows ha _ _ (Nat.mod_eq_of_lt (show b.lane < 2 ^ 3 by omega)) (Nat.le_of_ble_eq_true rfl)
  have hcount : (a.put (Reg.CUL_LANE_STAT_RX_LANE n) b.lane).rd64 (Reg.CUL_LANE_CNT n 2) =
      (s.rd64 (Reg.CUL_LANE_CNT n 2) + b.bipErrors) % 2 ^ 64 :=
    (State.rd64_put_ne ha.1 _ _ hcnt.1.symm hcnt.2.symm).trans (State.add64_rd64 hs _ _)
  have hrx' : (a.put (Reg.CUL_LANE_STAT_RX_LANE n) b.lane).Shows (Reg.CUL_LANE_STAT_RX n) (s.culRx n) :=
    hrx.put ⟨Nat.le_of_ble_eq_true rfl, culStat_apart (by decide)⟩
  have halane : a.culLane n = s.culLane n := congrArg (fun c : CulvertState => c.lanes.getD n CulLane.initial) (State.add64_cul s _ _)
  let c := (a.put (Reg.CUL_LANE_STAT_RX_LANE n) b.lane).modCulLane n fun l => l.alignedBy b s.now
  have hc : c.culLane n = (s.culLane n).alignedBy b s.now := by
    rw [State.culLane_modCulLane, if_pos rfl, ← halane]
    rfl
  have hcget : ∀ f, c.get f = (a.put (Reg.CUL_LANE_STAT_RX_LANE n) b.lane).get f := fun _ => rfl
  have hclane : c.Shows (Reg.CUL_LANE_STAT_RX_LANE n) b.lane := hput.updCul _
  have hcrx : c.Shows (Reg.CUL_LANE_STAT_RX n) (s.culRx n) := hrx'.updCul _
  have hcount' : c.rd64 (Reg.CUL_LANE_CNT n 2) = (s.rd64 (Reg.CUL_LANE_CNT n 2) + b.bipErrors) % 2 ^ 64 := hcount
  rw [show s.culAlign n b = c.when (decide ((s.culLane n).aligns ≥ 1)) fun s => s.put (Reg.CUL_LANE_STAT_RX n) 3 from rfl]
  generalize c = c at hc hclane hcrx hcount'
  unfold State.when
  by_cases haligned : (s.culLane n).aligns ≥ 1
  · rw [if_pos (decide_eq_true haligned)]
    refine ⟨hclane.put ⟨Nat.le_of_ble_eq_true rfl, culStat_apart (by decide)⟩, ?_, hc, fun _ => ?_, fun h => by omega⟩
    · rw [State.rd64_put_ne hclane.stored.1 _ _ hcnt.1.symm hcnt.2.symm, hcount']
    · exact (State.put_shows hclane.stored (Reg.CUL_LANE_STAT_RX n) 3 rfl (Nat.le_of_ble_eq_true rfl)).value
  · rw [if_neg (by rwa [decide_eq_true_eq])]
    exact ⟨hclane, hcount', hc, fun h => absurd h haligned, fun _ => hcrx.value⟩

/-- Settles O36: each step of a lane by its equation; what `setCulRx` and an ALIGN block write is kept to the step's end. That 24 is added to
the lost-block count at a lost lock is the model's choice (assumption log 72). -/
theorem culvertLanesAlign : Obligations.CulvertLanesAlign := by
  refine fun s n hs hn => ⟨?lock, ?loss, ?signal, ?returns, ?sleep, ?align, ?inverted, ?readd⟩
  case lock =>
    intro hat
    have hrx := State.setCulRx_shows hn hs (show 2 < 4 by decide) 0
    have hend := State.culEnd_culKept hn (s.setCulRx n 2 0)
    refine ⟨_, exec_headerLock hat, (hend.shows hrx (culStat_ofCulLanes hn 0 2)).value, ?_⟩
    rw [hend.lane, State.setCulRx_lane (by omega)]
  case loss => exact fun hat => exec_lockLoss_shows hs hn (by omega)
  case signal =>
    intro hat
    have hcount : (s.when (s.culRx n ≥ 2) fun s => s.add64 (Reg.CUL_LANE_CNT n 1) 1).stored := by
      unfold State.when
      split
      · exact State.add64_stored _ _ hs
      · exact hs
    have hrx := State.setCulRx_shows hn hcount (show 0 < 4 by decide) 0
    exact ⟨_, exec_culvertSignalLoss hat, ((State.culEnd_culKept hn _).shows hrx (culStat_ofCulLanes hn 0 2)).value⟩
  case returns =>
    intro hat hmay
    have hawake := State.put_shows hs (Reg.CUL_LANE_STAT_RX_ASLEEP n) 0 rfl (Nat.le_of_ble_eq_true rfl)
    exact ⟨_, exec_culvertSignalReturn hat hmay, (State.setCulRx_shows hn hawake.stored (by decide) 0).value,
      (hawake.setCulRx (culStat_ofCulLanes hn 4 1) (culStat_apart (by decide)) 1 0).off⟩
  case sleep =>
    intro hat
    have hrx := State.setCulRx_shows hn hs (show 0 < 4 by decide) 2
    have hasleep := State.setF_shows hrx.stored (Reg.CUL_LANE_STAT_RX_ASLEEP n) rfl (Nat.le_of_ble_eq_true rfl)
    have hend := State.culEnd_culKept hn ((s.setCulRx n 0 2).setF (Reg.CUL_LANE_STAT_RX_ASLEEP n))
    exact ⟨_, exec_sleepBlocks (by omega),
      (hend.shows (hrx.setF ⟨Nat.le_of_ble_eq_true rfl, culStat_apart (by decide)⟩) (culStat_ofCulLanes hn 0 2)).value,
      (hend.shows hasleep (culStat_ofCulLanes hn 4 1)).on⟩
  case align =>
    intro b hat hinv hspaced hlane
    obtain ⟨hshown, hcount, haligned, hthird, hfirst⟩ := State.culAlign_shows hs (n := n) hlane
    have hend := State.culFollow_culKept hn (s.culAlign n b) (s.culRx n) b
    have hkeep := hend.fields hshown.stored (Reg.CUL_LANE_STAT_RX n) (culStat_ofCulLanes hn 0 2)
    refine ⟨_, exec_alignBlock (by omega) hinv hspaced, (hend.shows hshown (culStat_ofCulLanes hn 5 3)).value, ?_, ?_,
      fun h => hkeep.trans (hthird h), fun h => hkeep.trans (hfirst h)⟩
    · rw [hend.rd64 hshown.stored (by unfold Reg.CUL_LANE_CNT; omega), hcount]
    · rw [hend.lane, haligned]
      rfl
  case inverted =>
    intro b hat hinv hnew
    have hbit : s.get (Reg.CUL_LANE_STAT_RX_INV n) < 2 := s.get_lt _
    have hrxinv : (s.culInverted n).Shows (Reg.CUL_LANE_STAT_RX_INV n) (1 - s.get (Reg.CUL_LANE_STAT_RX_INV n)) :=
      State.put_shows (s := s.modCulLane n fun l => { l with inverted := true }) hs _ _
        (Nat.mod_eq_of_lt (show 1 - s.get (Reg.CUL_LANE_STAT_RX_INV n) < 2 ^ 1 by omega)) (Nat.le_of_ble_eq_true rfl)
    have hlane : (s.culInverted n).culLane n = { s.culLane n with inverted := true } :=
      (State.culLane_modCulLane s n (fun l => { l with inverted := true }) n).trans (if_pos rfl)
    have hat' : (s.culInverted n).culRx n = s.culRx n :=
      (((State.shows hs (Reg.CUL_LANE_STAT_RX n)).updCul _).put ⟨Nat.le_of_ble_eq_true rfl, culStat_apart (by decide)⟩).value
    have hrx := State.setCulRx_shows hn hrxinv.stored (show 1 < 4 by decide) 3
    have hend := State.culEnd_culKept hn ((s.culInverted n).setCulRx n 1 3)
    refine ⟨_, exec_alignBlock_inverted (by omega) hinv hnew, (hend.shows hrx (culStat_ofCulLanes hn 0 2)).value, ?_, ?_⟩
    · exact (congrArg CulLane.inverted (hend.lane n)).trans
        ((congrArg CulLane.inverted (State.setCulRx_lane (by omega) 3)).trans (congrArg CulLane.inverted hlane))
    · exact (hend.shows (hrxinv.setCulRx (culStat_ofCulLanes hn 2 1) (culStat_apart (by decide)) 1 3) (culStat_ofCulLanes hn 2 1)).value
  case readd =>
    intro t0 hsince hfailed hdue
    have hready : ((s.culLane n).failed && s.due (t0 + 1000000000)) = true := by
      rw [hfailed, State.due, decide_eq_true hdue]
      rfl
    show execLaneReadd n s = _
    unfold execLaneReadd
    simp only [hsince, if_pos hready]

end Sys2Proof.Machine
end

section
namespace Sys2Proof.Machine
open Sys2Proof

/-! ## The records that waited for the host -/

theorem State.Shows.modRing {s : State} {f : Field} {v : Nat} (h : s.Shows f v) (r : Nat) (g : RingState → RingState) :
    (s.modRing r g).Shows f v := ⟨h.stored, h.value⟩

theorem State.Shows.updHost {s : State} {f : Field} {v : Nat} (h : s.Shows f v) (x : HostState) :
    ({ s with host := x } : State).Shows f v := ⟨h.stored, h.value⟩

namespace State.Shows

variable {s : State} {v : Nat} (h : s.Shows Reg.HRG_STAT_READY v)
include h

theorem setRingPos (r x : Nat) : (s.setRingPos r x).Shows Reg.HRG_STAT_READY v := by
  have hpos : ∀ lsb w, lsb + w ≤ 32 → (⟨Reg.HRG_RING_STAT r, lsb, w⟩ : Field).ok ∧
      (⟨Reg.HRG_RING_STAT r, lsb, w⟩ : Field).apart Reg.HRG_STAT_READY := fun lsb w hok =>
    ⟨hok, .inl (by simp only [Reg.HRG_RING_STAT, Reg.HRG_STAT_READY, Reg.HRG_STAT]; omega)⟩
  exact (h.put (hpos 0 16 (by decide))).put (hpos 16 1 (by decide))

theorem ringPush (r : Nat) (rec : Nat → Nat → List Nat) : (s.ringPush r rec).Shows Reg.HRG_STAT_READY v := by
  have hcnt : Reg.HRG_STAT_READY.reg ≠ Reg.HRG_RING_CNT r ∧ Reg.HRG_STAT_READY.reg ≠ Reg.HRG_RING_CNT r + 4 := by
    simp only [Reg.HRG_RING_CNT, Reg.HRG_STAT_READY, Reg.HRG_STAT]; omega
  unfold State.ringPush
  exact ((h.hostWrite.setRingPos r _).add64 hcnt).modRing r _

theorem flushLost (r : Nat) : (s.flushLost r).Shows Reg.HRG_STAT_READY v := by
  unfold State.flushLost
  dsimp only
  exact .ite ((h.ringPush r _).modRing r _) h

theorem eventToRing (r : Nat) (e : EventRec) : (s.eventToRing r e).Shows Reg.HRG_STAT_READY v := by
  unfold State.eventToRing
  exact .ite ((h.flushLost r).ringPush r _) ((h.flushLost r).modRing r _).setF

theorem flushHeld : s.flushHeld.Shows Reg.HRG_STAT_READY v := by
  unfold State.flushHeld
  dsimp only
  split
  · split
    · exact (((h.ringPush _ _).updHost _).updHost _).each fun u e hu => hu.eventToRing e.1 e.2
    · exact (h.updHost _).each fun u e hu => hu.eventToRing e.1 e.2
  · exact (h.updHost _).each fun u e hu => hu.eventToRing e.1 e.2

theorem flushCompletions : s.flushCompletions.Shows Reg.HRG_STAT_READY v := by
  unfold State.flushCompletions State.pushCompletion
  exact (h.updHost _).each fun u e hu => .ite (hu.ringPush _ _) (hu.updHost _)

theorem msixSignal (n : Nat) : (s.msixSignal n).Shows Reg.HRG_STAT_READY v := by
  unfold State.msixSignal State.msixSend
  exact .ite (h.wr64 (by decide)) (h.hostWrite.each fun u r hu => hu.modRing r _)

theorem hostReturns : s.hostReturns.Shows Reg.HRG_STAT_READY v := by
  unfold State.hostReturns
  exact h.flushCompletions.flushHeld.each fun u n hu => hu.msixSignal n

end State.Shows

theorem State.ringPush_cul (s : State) (r : Nat) (rec : Nat → Nat → List Nat) : (s.ringPush r rec).cul = s.cul := rfl

theorem State.flushLost_cul (s : State) (r : Nat) : (s.flushLost r).cul = s.cul := by
  unfold State.flushLost
  dsimp only
  split <;> rfl

theorem State.eventToRing_cul (s : State) (r : Nat) (e : EventRec) : (s.eventToRing r e).cul = s.cul := by
  have h := s.flushLost_cul r
  unfold State.eventToRing
  dsimp only
  split
  · exact h
  · exact h

theorem State.flushHeld_cul (s : State) : s.flushHeld.cul = s.cul := by
  unfold State.flushHeld
  split
  · split
    · exact State.each_reads _ _ _ State.cul fun u e => u.eventToRing_cul e.1 e.2
    · exact State.each_reads _ _ _ State.cul fun u e => u.eventToRing_cul e.1 e.2
  · exact State.each_reads _ _ _ State.cul fun u e => u.eventToRing_cul e.1 e.2

theorem State.flushCompletions_cul (s : State) : s.flushCompletions.cul = s.cul := by
  unfold State.flushCompletions
  exact State.each_reads _ _ _ State.cul fun u e => State.ite_reads State.cul rfl rfl

theorem State.msixSignal_cul (s : State) (n : Nat) : (s.msixSignal n).cul = s.cul := by
  unfold State.msixSignal State.msixSend
  exact State.ite_reads State.cul rfl (State.each_reads _ _ _ State.cul fun _ _ => rfl)

theorem State.hostReturns_cul (s : State) : s.hostReturns.cul = s.cul := by
  unfold State.hostReturns
  exact ((State.each_reads _ _ _ State.cul fun u n => u.msixSignal_cul n).trans (State.flushHeld_cul _)).trans s.flushCompletions_cul

/-! ## Messages through the tunnel -/

theorem State.setRoute_now (s : State) (k : Nat) : (s.setRoute k).now = s.now := by
  unfold State.setRoute State.when
  exact State.ite_reads State.now (State.event_now _ _ _ _) rfl

theorem State.setRoute_cul (s : State) (k : Nat) : (s.setRoute k).cul = (s.modPeer k fun p => { p with route := s.tunnelRoute k }).cul := by
  unfold State.setRoute State.when
  exact State.ite_reads State.cul (State.event_cul _ _ _ _) rfl

/-- A change of route leaves what waits for an acknowledgement. -/
theorem State.setRoute_unacked (s : State) (k : Nat) : ((s.setRoute k).peer k).unacked = (s.peer k).unacked := by
  have h : (s.setRoute k).peer k = (s.modPeer k fun p => { p with route := s.tunnelRoute k }).peer k := by
    rw [State.peer, s.setRoute_cul k, State.peer]
  rw [h, State.peer_modPeer, if_pos rfl]

theorem State.tunnelSend_unacked (s : State) (k : Nat) (m : TunnelMsg) :
    ((s.tunnelSend k m).peer k).unacked.length = (s.peer k).unacked.length + 1 := by
  have hsend : ∀ (u : State) (l q : Nat) (f : CulFrameOut), (u.culSend l q f).peer k = u.peer k := fun _ _ _ _ => rfl
  unfold State.tunnelSend
  dsimp only
  rw [hsend, State.peer_modPeer, if_pos rfl, List.length_append, s.setRoute_unacked k]
  rfl

theorem State.tunnelSend_jobs (s : State) (k : Nat) (m : TunnelMsg) :
    (s.tunnelSend k m).cul.regJobs = s.cul.regJobs ∧ (s.tunnelSend k m).cul.nextTag = s.cul.nextTag := by
  change (s.setRoute k).cul.regJobs = _ ∧ (s.setRoute k).cul.nextTag = _
  rw [s.setRoute_cul k]
  exact ⟨rfl, rfl⟩

theorem State.TakesNow.exec_culReg {s : State} {h : Hdr} (g : s.TakesNow h) {pos : Nat} (addr : Nat) (hpos : pos < 8)
    (hlead : s.leads = true) (hreach : s.canReach pos = true) (hup : s.hostUp = true) :
    ∃ t, exec (.culReg h pos 1 addr) s = .next t ∧
      t.cul.regJobs = s.cul.regJobs ++ [⟨h, pos, addr, [(s.cul.nextTag % 256, 0)], false⟩] ∧ t.cul.nextTag = (s.cul.nextTag + 1) % 256 ∧
      (t.peer pos).unacked.length = (s.peer pos).unacked.length + 1 := by
  have hfields : firstFail [(decide (1 ≤ 1 ∧ 1 ≤ 8 ∧ pos < 8), St.range), (s.leads && s.canReach pos, St.notReady), (s.hostUp, St.busError)] =
      none := by
    rw [decide_eq_true ⟨le_rfl, by decide, hpos⟩, hlead, hreach, hup]
    rfl
  show ∃ t, execCulReg h pos 1 addr s = _ ∧ _
  rw [execCulReg, hfields, g.acceptNow]
  refine ⟨_, rfl, ?_⟩
  simp only [List.range_one, List.map_cons, List.map_nil, State.each, List.foldl_cons, List.foldl_nil, Nat.add_zero]
  exact ⟨(State.tunnelSend_jobs _ _ _).1, (State.tunnelSend_jobs _ _ _).2, State.tunnelSend_unacked _ _ _⟩

/-! A message is heard on a link that is up, from a member, at a lead that has not stood down (R287). -/
section
variable {s : State} {link member : Nat} {m : TunnelMsg} (hlink : link < 2) (hstate : s.culState link = 2) (hmember : member ≤ 8)
  (hlead : s.leads = true) (hstands : s.cul.standDown = false) (hfrom : fromLead m = false)
include hlink hstate hmember hlead hstands hfrom

theorem exec_tunnelMessage :
    exec (.tunnelMessage link member m) s = .next (
      if m.type = 8 then s.tunnelAcked member m.seq
      else if m.seq % 65536 ≠ (s.peer member).expect then s.tunnelAck member
      else ((s.modPeer member fun p => { p with expect := (p.expect + 1) % 65536 }).tunnelAck member).tunnelEffect member m) := by
  have hheard : ¬ (decide (link ≥ 2) || s.culState link != 2 || decide (member > 8) || s.cul.standDown) = true := by
    rw [hstands, hstate, decide_eq_false (by omega : ¬ link ≥ 2), decide_eq_false (by omega : ¬ member > 8)]
    decide
  have hnotLead : ¬ (s.leads && fromLead m) = true := by rw [hlead, hfrom]; decide
  show execTunnelMessage link member m s = _
  unfold execTunnelMessage
  rw [if_neg hheard, if_neg hnotLead, hlead]
  rfl

theorem exec_tunnelMessage_ack (htype : m.type = 8) : exec (.tunnelMessage link member m) s = .next (s.tunnelAcked member m.seq) := by
  rw [exec_tunnelMessage hlink hstate hmember hlead hstands hfrom, if_pos htype]

theorem exec_tunnelMessage_outOfOrder (htype : m.type ≠ 8) (hseq : m.seq % 65536 ≠ (s.peer member).expect) :
    exec (.tunnelMessage link member m) s = .next (s.tunnelAck member) := by
  rw [exec_tunnelMessage hlink hstate hmember hlead hstands hfrom, if_neg htype, if_pos hseq]

theorem exec_tunnelMessage_inOrder (htype : m.type ≠ 8) (hseq : m.seq % 65536 = (s.peer member).expect) :
    exec (.tunnelMessage link member m) s = .next
      (((s.modPeer member fun p => { p with expect := (p.expect + 1) % 65536 }).tunnelAck member).tunnelEffect member m) := by
  rw [exec_tunnelMessage hlink hstate hmember hlead hstands hfrom, if_neg htype, if_neg (not_not_intro hseq)]

end

theorem exec_tunnelResend {s : State} {member : Nat} (hsome : (s.peer member).unacked ≠ [])
    (hlate : ∀ x ∈ (s.peer member).unacked, x.2 + 200000 ≤ s.now) :
    ∃ t, exec (.tunnelResend member) s = .next t ∧
      (t.peer member).unacked = (s.peer member).unacked.map fun (x : TunnelMsg × Nat) => (x.1, s.now) := by
  have hfilter : ((s.peer member).unacked.filter fun x => decide (x.2 + 200000 ≤ s.now)) = (s.peer member).unacked :=
    List.filter_eq_self.mpr fun x hx => decide_eq_true (hlate x hx)
  have hfull : ¬ (s.peer member).unacked.isEmpty = true := by rwa [List.isEmpty_iff]
  have hsend : ∀ (l : List (TunnelMsg × Nat)) (u : State) (k : Nat),
      (u.each l fun s x => (s.culSend k 3 (.tunnel member x.1)).add64 (Reg.CUL_LINK_CNT k 3) 1).peer member = u.peer member :=
    fun l u k => State.each_reads u l _ (fun u => u.peer member) fun _ _ => rfl
  show ∃ t, execTunnelResend member s = _ ∧ _
  unfold execTunnelResend
  dsimp only
  rw [hfilter, if_neg hfull]
  refine ⟨_, rfl, ?_⟩
  rw [hsend, State.peer_modPeer, if_pos rfl, s.setRoute_now member, s.setRoute_unacked member]
  exact List.map_congr_left fun x hx => if_pos (decide_eq_true (hlate x hx))

theorem exec_tunnelDoorbell {s : State} {window : Nat} (off value size : Nat) (hmay : s.mayWrite .pcie (0x340000 + 0x8000 * window) = true) :
    exec (.tunnelDoorbell window off value size) s = .next (s.tunnelDoorbell window off value size) :=
  congrArg Host.Outcome.next (if_pos hmay)

theorem exec_tunnelReadTimeout {s : State} {k : FailKind} (htunnel : s.boot.tunnel = true) (hpcie : pcieFail k = true)
    (hreal : realFail k = true) (hruns : s.running = true) :
    exec (.tunnelReadTimeout k) s =
      .next (if s.hostUp && s.culState (s.tunnelRoute 8) == 2 then s.transientFault k else s.lastingFault k) :=
  congrArg Host.Outcome.next (if_neg (by rw [htunnel, hpcie, hreal, hruns]; decide))

theorem exec_leadUnreachable_lost {s : State} (htunnel : s.boot.tunnel = true) (hserves : s.inService = true)
    (hfound : s.cul.leadLost = false) :
    Answers (exec (.leadUnreachable true) s) { s with cul := { s.cul with leadLost := true } } := by
  refine ⟨_, congrArg Host.Outcome.next ((if_neg ?_).trans (if_pos rfl)), State.event_reports _ _ _ _⟩
  rw [htunnel, hserves, hfound]
  decide

theorem exec_leadUnreachable_found {s : State} (hs : s.stored) (htunnel : s.boot.tunnel = true) (hserves : s.inService = true)
    (hlost : s.cul.leadLost = true) :
    ∃ t, exec (.leadUnreachable false) s = .next t ∧ t.cul.leadLost = false ∧ t.on Reg.HRG_STAT_READY = true := by
  refine ⟨_, congrArg Host.Outcome.next ((if_neg ?_).trans (if_neg Bool.false_ne_true)), ?_, ?_⟩
  · rw [htunnel, hserves, hlost]
    decide
  · exact congrArg CulvertState.leadLost ((State.hostReturns_cul _).trans (State.event_cul _ _ _ _))
  · have hclear : ({ s with cul := { s.cul with leadLost := false } } : State).stored := hs
    exact (State.setF_shows hclear Reg.HRG_STAT_READY).event.hostReturns.on

/-- Settles O38: each command of the tunnel by its equation, and what a message sent and a change of route leave of a peer. The message key
8 of `fromLead` and the timed-out read whose retry succeeds are the model's choice (assumption log 147). -/
theorem theTunnelReachesMembers : Obligations.TheTunnelReachesMembers := fun _ hs =>
  ⟨fun _ _ addr g hpos hlead hreach hup => g.exec_culReg addr hpos hlead hreach hup,
    fun _ _ _ hlink hstate hmember hlead hstands htype hfrom => exec_tunnelMessage_ack hlink hstate hmember hlead hstands hfrom htype,
    fun _ _ _ hlink hstate hmember hlead hstands htype hfrom hseq =>
      exec_tunnelMessage_outOfOrder hlink hstate hmember hlead hstands hfrom htype hseq,
    fun _ _ _ hlink hstate hmember hlead hstands htype hfrom hseq =>
      exec_tunnelMessage_inOrder hlink hstate hmember hlead hstands hfrom htype hseq,
    fun _ hsome hlate => exec_tunnelResend hsome hlate,
    fun _ off value size hmay => exec_tunnelDoorbell off value size hmay,
    fun _ htunnel hpcie hreal hruns => exec_tunnelReadTimeout htunnel hpcie hreal hruns,
    fun htunnel hserves hfound => exec_leadUnreachable_lost htunnel hserves hfound,
    fun htunnel hserves hlost => exec_leadUnreachable_found hs htunnel hserves hlost⟩

end Sys2Proof.Machine
end

section
namespace Sys2Proof.Machine
open Sys2Proof

/-! ## What the choice of a clock source leaves alone -/

/-- Whether a field stands in none of the registers that a choice of the source or of the root writes. -/
def Field.notElected (f : Field) : Prop :=
  recordField f = false ∧ f.reg ≠ Reg.TIM_STAT ∧ f.reg ≠ Reg.TIM_ROOT ∧ ∀ k < 4, f.reg ≠ Reg.TIM_PORT_STAT k

/-- The second state has what the sources brought, and the registers that no choice of a source writes, as the first has them. -/
structure ElectKept (s t : State) : Prop where
  stored : s.stored → t.stored
  ptp : t.tim.ptp = s.tim.ptp
  ppsAt : t.tim.ppsAt = s.tim.ppsAt
  ppsSince : t.tim.ppsSince = s.tim.ppsSince
  ownUntil : t.tim.ownUntil = s.tim.ownUntil
  fields : s.stored → ∀ f : Field, f.notElected → t.get f = s.get f

namespace ElectKept

theorem refl (s : State) : ElectKept s s := ⟨id, rfl, rfl, rfl, rfl, fun _ _ _ => rfl⟩

theorem trans {s t u : State} (h : ElectKept s t) (h' : ElectKept t u) : ElectKept s u where
  stored hs := h'.stored (h.stored hs)
  ptp := h'.ptp.trans h.ptp
  ppsAt := h'.ppsAt.trans h.ppsAt
  ppsSince := h'.ppsSince.trans h.ppsSince
  ownUntil := h'.ownUntil.trans h.ownUntil
  fields hs f hf := (h'.fields (h.stored hs) f hf).trans (h.fields hs f hf)

theorem of_reports {s t : State} (h : Reports s t) : ElectKept s t :=
  have htim : t.tim = s.tim := h.tim
  ⟨h.stored, congrArg TimeState.ptp htim, congrArg TimeState.ppsAt htim, congrArg TimeState.ppsSince htim,
    congrArg TimeState.ownUntil htim, fun hs f hf => h.fields hs f hf.1⟩

theorem ite {s t u : State} {c : Prop} [Decidable c] (h : ElectKept s t) (h' : ElectKept s u) : ElectKept s (if c then t else u) := by
  split <;> assumption

section
variable {s t : State} (h : ElectKept s t)
include h

theorem put {g : Field} {v : Nat} (hreg : ∀ f : Field, f.notElected → g.reg ≠ f.reg) (hok : g.ok) : ElectKept s (t.put g v) :=
  h.trans ⟨State.put_stored _ _, rfl, rfl, rfl, rfl, fun hs f hf => State.get_put_other hs _ _ _ hok (.inl (hreg f hf))⟩

theorem putStat {v lsb w : Nat} (hok : lsb + w ≤ 32) : ElectKept s (t.put ⟨Reg.TIM_STAT, lsb, w⟩ v) := h.put (fun _ hf => hf.2.1.symm) hok

theorem putRoot {v lsb w : Nat} (hok : lsb + w ≤ 32) : ElectKept s (t.put ⟨Reg.TIM_ROOT, lsb, w⟩ v) := h.put (fun _ hf => hf.2.2.1.symm) hok

theorem upd (x : TimeState) (hx : x.ptp = t.tim.ptp ∧ x.ppsAt = t.tim.ppsAt ∧ x.ppsSince = t.tim.ppsSince ∧ x.ownUntil = t.tim.ownUntil) :
    ElectKept s { t with tim := x } := h.trans ⟨id, hx.1, hx.2.1, hx.2.2.1, hx.2.2.2, fun _ _ _ => rfl⟩

theorem event (src code : Nat) (args : List Nat) : ElectKept s (t.event src code args) :=
  h.trans (of_reports (State.event_reports _ _ _ _))

theorem clockRecord (old new why : Nat) : ElectKept s (t.clockRecord old new why) :=
  h.trans (of_reports (State.clockRecord_reports _ _ _ _))

theorem hold (n : Nat) (y : Int) : ElectKept s { t with tim := { t.tim with holdSince := n, y := y } } := h.upd _ ⟨rfl, rfl, rfl, rfl⟩

theorem notWithin : ElectKept s { t with tim := { t.tim with within := none } } := h.upd _ ⟨rfl, rfl, rfl, rfl⟩

theorem alone : ElectKept s { t with tim := { t.tim with parent := none } } := h.upd _ ⟨rfl, rfl, rfl, rfl⟩

theorem clockTo (new : Nat) : ElectKept s (t.clockTo new) := by
  unfold State.clockTo
  dsimp only
  refine .ite h ?_
  have hput : ElectKept s (t.put Reg.TIM_STAT_CLK_STATE new) := h.putStat (by decide)
  exact (ElectKept.ite (ElectKept.ite (hput.hold _ _) hput).notWithin (ElectKept.ite (hput.hold _ _) hput)).clockRecord _ _ _

theorem chooseSource : ElectKept s t.chooseSource := by
  have hput : ElectKept s (t.put Reg.TIM_STAT_SOURCE t.sourceOf) := h.putStat (by decide)
  exact .ite (hput.clockTo 3) (.ite (hput.clockTo 1) hput)

theorem follow (key : RootKey) (parent : Option Nat) : ElectKept s (t.follow key parent) := by
  let advanced := decide (seqAhead key.seq t.tim.key.seq > 0) || !keySame key t.tim.key
  let u : State := { t with tim := { t.tim with key := key, parent := parent, rootAt := if advanced then t.now else t.tim.rootAt } }
  have hu : ElectKept s u := h.upd _ ⟨rfl, rfl, rfl, rfl⟩
  let v := (((u.put Reg.TIM_ROOT_ROOT_ID key.id).put Reg.TIM_ROOT_ROOT_EXT (b2n key.ext)).put Reg.TIM_ROOT_STEPS (min 255 key.steps)).put
    Reg.TIM_STAT_ROOT (b2n parent.isNone)
  have hv : ElectKept s v := (((hu.putRoot (by decide)).putRoot (by decide)).putRoot (by decide)).putStat (by decide)
  have hports : ElectKept s (v.each (List.range 4) fun s k => s.put (Reg.TIM_PORT_STAT_PARENT k) (b2n (parent == some k))) :=
    State.each_induct _ _ hv fun w hw k hk =>
      hw.put (fun _ hf => (hf.2.2.2 k (List.mem_range.mp hk)).symm) (Nat.le_of_ble_eq_true rfl)
  have hsource := hports.chooseSource
  unfold State.follow State.when
  exact .ite (hsource.event _ _ _) hsource

theorem elect : ElectKept s t.elect := by
  have hput : ElectKept s (t.put Reg.TIM_STAT_EXT_TIME (b2n t.extTime)) := h.putStat (by decide)
  unfold State.elect
  dsimp only
  refine .ite (hput.alone.putStat (by decide)).chooseSource ?_
  split
  · exact .ite (hput.follow _ _) (hput.follow _ _)
  · exact hput.follow _ _

theorem atTime (n : Nat) : ElectKept s { t with now := n } := h.trans ⟨id, rfl, rfl, rfl, rfl, fun _ _ _ => rfl⟩

theorem fresh : ElectKept s t.fresh := h.trans ⟨id, rfl, rfl, rfl, rfl, fun _ _ _ => rfl⟩

theorem steered (b : Bool) (ofs y mean : Int) (w : Option Nat) (n : Nat) :
    ElectKept s { t with tim := { t.tim with fresh := b, offset := ofs, y := y, yMean := mean, within := w, slewUntil := n } } :=
  h.upd _ ⟨rfl, rfl, rfl, rfl⟩

/-- A measured offset may step the time; what the sources brought stays. -/
theorem measure (src : Nat) (ofs : Int) : ElectKept s (t.measure src ofs) := by
  unfold State.measure State.when
  dsimp only
  generalize hstep : (t.tim.fresh && t.radioQuiet && decide (ofs.natAbs > 1000000)) = c
  have hnow : ElectKept s (if c = true then { t with now := ((t.now : Int) - divRound ofs 1000).toNat } else t) := .ite (h.atTime _) h
  generalize (if c = true then { t with now := ((t.now : Int) - divRound ofs 1000).toNat } else t) = u at hnow ⊢
  have hput := fun ofs y mean w n v => ((hnow.steered false ofs y mean w n).fresh).putStat (v := v) (lsb := 7) (w := 1) (by decide)
  exact .ite h (.ite ((hput _ _ _ _ _ _).clockRecord _ _ _) (hput _ _ _ _ _ _))

end

section
variable {s t : State} (h : ElectKept s t)
include h

theorem ptpPort (k : Nat) : t.ptp k = s.ptp k := by rw [State.ptp, h.ptp, State.ptp]

theorem rd64 (hs : s.stored) {off : Nat} (hlow : (⟨off, 0, 32⟩ : Field).notElected) (hhigh : (⟨off + 4, 0, 32⟩ : Field).notElected) :
    t.rd64 off = s.rd64 off := by
  rw [State.rd64, State.rd64, ← State.get_word, ← State.get_word, ← State.get_word, ← State.get_word, h.fields hs _ hlow, h.fields hs _ hhigh]

end
end ElectKept

end Sys2Proof.Machine
end

section
namespace Sys2Proof.Machine
open Sys2Proof

/-! ## PTP -/

/-- Judging a port's source sets since when the source is valid, and elects. -/
theorem State.judgePtp_ptp (s : State) (k : Nat) :
    (s.judgePtp k).ptp k = { s.ptp k with validSince := if s.ptpHeard k then some ((s.ptp k).validSince.getD s.now) else none } := by
  unfold State.judgePtp
  rw [((ElectKept.refl _).elect).ptpPort k, State.ptp_modPtp, if_pos rfl]

theorem State.ptpMeasure_none {s : State} {k : Nat} (h : (s.ptp k).t1 = none) : s.ptpMeasure k = s := by
  unfold State.ptpMeasure
  rw [h]

theorem State.ptpMeasure_some {s : State} {k t1 : Nat} (h : (s.ptp k).t1 = some t1) :
    (s.ptpMeasure k).ptp k = { s.ptp k with offset := ((s.ptp k).t2 : Int) - t1 - (s.ptp k).delay } := by
  have hport : ∀ o : Int, (s.modPtp k fun p => { p with offset := o }).ptp k = { s.ptp k with offset := o } := fun o => by
    rw [State.ptp_modPtp, if_pos rfl]
  unfold State.ptpMeasure
  rw [h]
  refine (State.ite_reads (fun u : State => u.ptp k) ?_ rfl).trans (hport _)
  exact ((ElectKept.refl _).measure _ _).ptpPort k

section
variable {s : State} {k domain : Nat} (htakes : s.ptpTakes k domain = true)
include htakes

theorem exec_ptpAnnounce {a : AnnounceIn} (ha : a.domain = domain) :
    ∃ t, exec (.ptpAnnounce k a) s = .next t ∧ (t.ptp k).announce = some a ∧ (t.ptp k).announceAt = s.now := by
  subst ha
  refine ⟨_, congrArg Host.Outcome.next (if_neg (by rw [htakes]; decide)), ?_⟩
  rw [State.judgePtp_ptp, State.ptp_modPtp, if_pos rfl]
  exact ⟨rfl, rfl⟩

theorem exec_ptpSync (seq t1 corr : Nat) :
    ∃ t, exec (.ptpSync k domain seq true t1 corr) s = .next t ∧ (t.ptp k).syncSeq = seq ∧ (t.ptp k).syncAt = s.now ∧
      (t.ptp k).t1 = none ∧ (t.ptp k).t2 = s.time16 - corr := by
  refine ⟨_, congrArg Host.Outcome.next (if_neg (by rw [htakes]; decide)), ?_⟩
  rw [State.ptpMeasure_none (by rw [State.judgePtp_ptp, State.ptp_modPtp, if_pos rfl]; rfl), State.judgePtp_ptp, State.ptp_modPtp, if_pos rfl]
  exact ⟨rfl, rfl, rfl, rfl⟩

theorem exec_ptpFollowUp (t1 corr : Nat) (hopen : (s.ptp k).t1 = none) :
    ∃ t, exec (.ptpFollowUp k domain (s.ptp k).syncSeq t1 corr) s = .next t ∧ (t.ptp k).t1 = some (t1 + corr) ∧
      (t.ptp k).offset = ((s.ptp k).t2 : Int) - (t1 + corr : Nat) - (s.ptp k).delay := by
  have hport : (s.modPtp k fun p => { p with t1 := some (t1 + corr) }).ptp k = { s.ptp k with t1 := some (t1 + corr) } := by
    rw [State.ptp_modPtp, if_pos rfl]
  refine ⟨_, congrArg Host.Outcome.next (if_neg (by rw [htakes, hopen, bne_self_eq_false]; decide)), ?_⟩
  rw [State.ptpMeasure_some (t1 := t1 + corr) (by rw [hport]), hport]
  exact ⟨rfl, rfl⟩

theorem exec_delayResp {t1 t3 : Nat} (t4 corr : Nat) (h1 : (s.ptp k).t1 = some t1) (h3 : (s.ptp k).t3 = some t3) :
    exec (.delayResp k domain (s.ptp k).reqSeq t4 corr) s = .next (s.modPtp k fun p =>
      { p with t3 := none, delay := (((s.ptp k).t2 : Int) - t1 + ((t4 : Int) - corr - t3)) / 2 }) := by
  show execDelayResp k domain (s.ptp k).reqSeq t4 corr s = _
  unfold execDelayResp
  rw [h1, h3]
  exact congrArg Host.Outcome.next (if_neg (by rw [htakes, bne_self_eq_false]; decide))

end

theorem exec_delayReq {s : State} {k : Nat} (hon : s.ptpOn k = true) (hvalid : (s.ptp k).validSince ≠ none)
    (hdue : (s.ptp k).reqAt + 62500000 ≤ s.now) :
    exec (.delayReq k) s = .next
      (s.modPtp k fun p => { p with reqSeq := (p.reqSeq + 1) % 65536, t3 := some s.time16, reqAt := s.now }) := by
  have hdue' : s.due ((s.ptp k).reqAt + 62500000) = true := decide_eq_true hdue
  have hvalid' : (s.ptp k).validSince.isNone = false := by
    rw [Option.isNone_eq_false_iff]
    exact Option.isSome_iff_ne_none.mpr hvalid
  exact congrArg Host.Outcome.next (if_neg (by rw [hon, hvalid', hdue']; decide))

theorem exec_ptpSourceLost {s : State} {k : Nat} (hvalid : (s.ptp k).validSince ≠ none) (hlost : s.ptpHeard k = false) :
    ∃ t, exec (.ptpSourceLost k) s = .next t ∧ (t.ptp k).announce = none ∧ (t.ptp k).validSince = none := by
  have hsome : (s.ptp k).validSince.isSome = true := Option.isSome_iff_ne_none.mpr hvalid
  have hsilent : (s.modPtp k fun p => { p with announce := none, t1 := none, t3 := none }).ptpHeard k = false := by
    unfold State.ptpHeard
    rw [State.ptp_modPtp, if_pos rfl]
    rfl
  refine ⟨_, congrArg Host.Outcome.next (if_pos (by rw [hsome, hlost]; decide)), ?_⟩
  rw [State.judgePtp_ptp, hsilent, State.ptp_modPtp, if_pos rfl]
  exact ⟨rfl, rfl⟩

/-! ## The pulse per second -/

theorem notElected_ppsTod : (⟨Reg.TIM_PPS_TOD, 0, 32⟩ : Field).notElected ∧ (⟨Reg.TIM_PPS_TOD + 4, 0, 32⟩ : Field).notElected := by
  constructor <;> exact ⟨by decide, by decide, by decide, fun k _ => by simp only [Reg.TIM_PPS_TOD, Reg.TIM_PORT_STAT]; omega⟩

theorem exec_ppsInEdge {s : State} (hs : s.stored) (hon : s.on Reg.TIM_CTL_PPS_EN = true) (hfree : s.get Reg.TIM_STAT_CLK_STATE ≠ 2) :
    ∃ t, exec .ppsInEdge s = .next t ∧ t.tim.ppsAt = some s.now ∧
      t.rd64 Reg.TIM_PPS_TOD = (s.rd64 Reg.TIM_PPS_TOD % 2 ^ 48 + 1) % 2 ^ 48 := by
  show ∃ t, execPpsInEdge s = _ ∧ _
  unfold execPpsInEdge
  dsimp only
  rw [if_neg (by rw [hon]; decide), if_neg (fun h => hfree h.1)]
  refine ⟨_, rfl, ?_⟩
  generalize hv : (s.rd64 Reg.TIM_PPS_TOD % 2 ^ 48 + 1) % 2 ^ 48 = v
  have hstored : (s.wr64 Reg.TIM_PPS_TOD v).stored := State.wr64_stored _ _ hs
  have hkept := fun ofs => ((ElectKept.refl { (s.wr64 Reg.TIM_PPS_TOD v) with tim := { (s.wr64 Reg.TIM_PPS_TOD v).tim with
    ppsAt := some s.now, ppsSince := some (s.tim.ppsSince.getD s.now) } }).elect).measure 2 ofs
  refine ⟨(hkept _).ppsAt, ((hkept _).rd64 hstored notElected_ppsTod.1 notElected_ppsTod.2).trans ?_⟩
  have hsmall : v < 2 ^ 64 := hv ▸ (Nat.mod_lt _ (by decide)).trans (by decide)
  exact (State.rd64_wr64_same hs.1 _ _).trans (Nat.mod_eq_of_lt hsmall)

theorem exec_ppsLost {s : State} {t0 : Nat} (hat : s.tim.ppsAt = some t0) (hdue : t0 + 2000000000 ≤ s.now) :
    ∃ t, exec .ppsLost s = .next t ∧ t.tim.ppsAt = none ∧ t.tim.ppsSince = none := by
  have hdue' : s.due (t0 + 2000000000) = true := decide_eq_true hdue
  have hkept := (ElectKept.refl { s with tim := { s.tim with ppsAt := none, ppsSince := none } }).elect
  refine ⟨_, ?_, hkept.ppsAt, hkept.ppsSince⟩
  show execPpsLost s = _
  unfold execPpsLost
  rw [hat]
  exact congrArg Host.Outcome.next (if_pos hdue')

theorem exec_ppsOut_rise {s : State} (hon : s.on Reg.TIM_PPS_CFG_OUT_EN = true) (hsecond : s.now % 10 ^ 9 = 0) :
    exec (.ppsOut true) s = .next
      { s with tim := { s.tim with ppsHigh := true, ppsUntil := s.now + s.get Reg.TIM_PPS_CFG_OUT_WIDTH * 1000000 } } :=
  congrArg Host.Outcome.next ((if_pos rfl).trans (if_pos (by rw [hon, hsecond]; rfl)))

theorem exec_ppsOut_fall {s : State} (hhigh : s.tim.ppsHigh = true) (hdue : s.tim.ppsUntil ≤ s.now) :
    exec (.ppsOut false) s = .next { s with tim := { s.tim with ppsHigh := false } } := by
  have hdue' : s.due s.tim.ppsUntil = true := decide_eq_true hdue
  exact congrArg Host.Outcome.next ((if_neg Bool.false_ne_true).trans (if_pos (by rw [hhigh, hdue']; rfl)))

/-! ## The clock's state -/

theorem State.clockTo_locked {s : State} (hs : s.stored) (hacquires : s.get Reg.TIM_STAT_CLK_STATE = 1) :
    (s.clockTo 2).get Reg.TIM_STAT_CLK_STATE = 2 := by
  unfold State.clockTo State.clockRecord
  dsimp only
  rw [if_neg (by rw [hacquires]; decide), if_neg (by decide), if_neg (by decide)]
  exact (State.put_shows hs Reg.TIM_STAT_CLK_STATE 2).event.value

theorem exec_clockLocked {s : State} (hs : s.stored) {t0 : Nat} (hwithin : s.tim.within = some t0)
    (hacquires : s.get Reg.TIM_STAT_CLK_STATE = 1) (hdue : t0 + (lockLimit (s.get Reg.TIM_STAT_SOURCE)).2 ≤ s.now) :
    ∃ t, exec .clockLocked s = .next t ∧ t.get Reg.TIM_STAT_CLK_STATE = 2 := by
  refine ⟨_, ?_, State.clockTo_locked hs hacquires⟩
  show execClockLocked s = _
  unfold execClockLocked
  rw [hwithin]
  exact congrArg Host.Outcome.next (if_pos ⟨hacquires, decide_eq_true hdue⟩)

theorem exec_extDisagree_near {s : State} {diff : Int} (hnear : diff.natAbs ≤ 100000) :
    exec (.extDisagree diff) s = .next { s with tim := { s.tim with disagreeSince := none } } :=
  congrArg Host.Outcome.next (if_pos (.inr (.inr hnear)))

theorem exec_extDisagree_far {s : State} {diff : Int} {t0 : Nat} (hsource : s.get Reg.TIM_STAT_SOURCE = 3) (hext : s.extTime = true)
    (hfar : 100000 < diff.natAbs) (hsince : s.tim.disagreeSince = some t0) (hdue : t0 + 10000000000 ≤ s.now)
    (hoff : s.on Reg.TIM_STAT_EXT_DISAGREE = false) :
    Answers (exec (.extDisagree diff) s) (s.setF Reg.TIM_STAT_EXT_DISAGREE) := by
  have hcond : ¬ (s.get Reg.TIM_STAT_SOURCE ≠ 3 ∨ s.extTime = false ∨ diff.natAbs ≤ 100000) := by
    rintro (h | h | h)
    · exact h hsource
    · exact absurd (hext.symm.trans h) (by decide)
    · omega
  have hdue' : s.due (t0 + 10000000000) = true := decide_eq_true hdue
  refine ⟨_, ?_, State.event_reports _ 0x0003 0x0906 (bytesLE 8 (ux 64 diff))⟩
  show execExtDisagree diff s = _
  unfold execExtDisagree
  rw [if_neg hcond, hsince]
  exact congrArg Host.Outcome.next (if_pos (by rw [hdue', hoff]; rfl))

theorem exec_airOfsWrite {s : State} (hs : s.stored) {rq : Requester} (value : Nat) (hmay : s.mayWrite rq Reg.TIM_AIR_OFS = true)
    (hquiet : s.radioQuiet = true) :
    ∃ t, exec (.airOfsWrite rq value) s = .next t ∧ t.rd64 Reg.TIM_AIR_OFS = value % 2 ^ 64 ∧ { t with regs := s.regs } = s := by
  refine ⟨_, congrArg Host.Outcome.next ((if_pos hmay).trans (if_pos hquiet)), ?_, rfl⟩
  exact (State.rd64_wr64_same hs.1 _ _).trans (Nat.mod_mod _ _)

theorem exec_airOfsWrite_busy {s : State} {rq : Requester} (value : Nat) (hmay : s.mayWrite rq Reg.TIM_AIR_OFS = true)
    (hbusy : s.radioQuiet = false) : exec (.airOfsWrite rq value) s = .next (s.setF Reg.TIM_STAT_CFG_ERR) :=
  congrArg Host.Outcome.next ((if_pos hmay).trans (if_neg (by rw [hbusy]; decide)))

/-- Settles O39: each clock command by its equation; a choice of the source leaves what the sources brought (`ElectKept`). Subtracting the
correction of a Sync from its arrival is the model's choice (assumption log 80). -/
theorem clockSourcesAreFollowed : Obligations.ClockSourcesAreFollowed := fun _ _ hs _ =>
  ⟨fun _ value hmay hquiet => exec_airOfsWrite hs value hmay hquiet, fun _ value hmay hbusy => exec_airOfsWrite_busy value hmay hbusy,
    fun _ htakes => exec_ptpAnnounce htakes rfl, fun _ seq t1 corr htakes => exec_ptpSync htakes seq t1 corr,
    fun _ t1 corr htakes hopen => exec_ptpFollowUp htakes t1 corr hopen,
    fun hon hvalid hdue => exec_delayReq hon hvalid hdue,
    fun _ _ _ t4 corr htakes h1 h3 => exec_delayResp htakes t4 corr h1 h3,
    fun hvalid hlost => exec_ptpSourceLost hvalid hlost,
    fun hon hfree => exec_ppsInEdge hs hon hfree, fun _ hat hdue => exec_ppsLost hat hdue,
    fun hon hsecond => exec_ppsOut_rise hon hsecond, fun hhigh hdue => exec_ppsOut_fall hhigh hdue,
    fun _ hwithin hacquires hdue => exec_clockLocked hs hwithin hacquires hdue,
    fun _ hnear => exec_extDisagree_near hnear,
    fun _ _ hsource hext hfar hsince hdue hoff => exec_extDisagree_far hsource hext hfar hsince hdue hoff⟩

end Sys2Proof.Machine
end

section
namespace Sys2Proof.Machine
open Sys2Proof

/-! ## The transfer of time -/

theorem exec_timeCellSend {s : State} {k : Nat} (hon : s.overlayOn = true) (hopen : s.strict k = false) :
    exec (.timeCellSend k) s = .next
      (s.each ((s.upLanes k).filter fun (n : Nat) => (s.lane n).period % 8 == 0 && decide ((s.lane n).tx13.length < 16)) fun s n =>
        s.modLane n fun l => { l with tx13 := l.tx13 ++ [1 :: s.timeBytes l.txMarks l.rxMarks] }) :=
  congrArg Host.Outcome.next (if_neg (by rw [hon, hopen, Bool.false_and]; decide))

theorem exec_timeTransferCell {s : State} {n : Nat} {c : List Nat} {rest : List (List Nat)} (hrx : (s.lane n).rx13 = c :: rest)
    (htype : nth c 0 = 1) (hon : s.overlayOn = true) :
    exec (.timeTransferCell n) s = .next
      ((s.modLane n fun l => { l with rx13 := rest }).timeTransfer (portOf n) (s.port (portOf n)).epoch (slice c 2 24) (s.lane n).txMarks
        (s.lane n).rxMarks) := by
  have hcond : ¬ (nth c 0 ≠ 1 ∨ (!decide ((s.modLane n fun l => { l with rx13 := rest }).overlayOn = true)) = true) := by
    have hon' : (s.modLane n fun l => { l with rx13 := rest }).overlayOn = true := hon
    rw [hon', decide_eq_true rfl]
    exact fun h => h.elim (fun h => h htype) (by decide)
  show execTimeTransferCell n s = _
  unfold execTimeTransferCell
  rw [hrx]
  dsimp only
  exact congrArg Host.Outcome.next (if_neg hcond)

/-- The offset averaged at a port, with the mean delay (R308). -/
def State.thetaMeasured (s : State) (k : Nat) (th dl : Int) : State :=
  (((s.modTimePort k fun p => { p with theta := some th, thetas := [], delays := [] }).put (Reg.TIM_PORT_OFFSET_THETA k)
    (ux 32 (satS 32 th))).put (Reg.TIM_PORT_DELAY_DELAY k) (min dl.toNat (2 ^ 32 - 1))).put (Reg.TIM_PORT_STAT_XFER k)
      (if decide (th.natAbs < 50) then 2 else 1)

theorem State.thetaMeasured_timePort (s : State) (k : Nat) (th dl : Int) :
    (s.thetaMeasured k th dl).timePort k = { s.timePort k with theta := some th, thetas := [], delays := [] } := by
  have hport : ∀ (u : State) (f : Field) v, (u.put f v).timePort k = u.timePort k := fun _ _ _ => rfl
  rw [State.thetaMeasured, hport, hport, hport, State.timePort_modTimePort, if_pos rfl]

theorem State.thetaMeasured_theta {s : State} (hs : s.stored) (k : Nat) (th dl : Int) :
    (s.thetaMeasured k th dl).Shows (Reg.TIM_PORT_OFFSET_THETA k) (ux 32 (satS 32 th) % 2 ^ 32) := by
  have hstored : (s.modTimePort k fun p => { p with theta := some th, thetas := [], delays := [] }).stored := hs
  have hput := State.put_shows hstored (Reg.TIM_PORT_OFFSET_THETA k) (ux 32 (satS 32 th)) rfl (Nat.le_of_ble_eq_true rfl)
  refine (hput.put ⟨Nat.le_of_ble_eq_true rfl, .inl ?_⟩).put ⟨Nat.le_of_ble_eq_true rfl, .inl ?_⟩
  · simp only [Reg.TIM_PORT_DELAY_DELAY, Reg.TIM_PORT_OFFSET_THETA, Reg.TIM_PORT_DELAY, Reg.TIM_PORT_OFFSET]; omega
  · simp only [Reg.TIM_PORT_STAT_XFER, Reg.TIM_PORT_OFFSET_THETA, Reg.TIM_PORT_STAT, Reg.TIM_PORT_OFFSET]; omega

theorem State.thetaMeasured_xfer {s : State} (hs : s.stored) (k : Nat) (th dl : Int) :
    (s.thetaMeasured k th dl).Shows (Reg.TIM_PORT_STAT_XFER k) (if th.natAbs < 50 then 2 else 1) := by
  have hstored : ∀ f v g w, (((s.modTimePort k fun p => { p with theta := some th, thetas := [], delays := [] }).put f v).put g w).stored :=
    fun _ _ _ _ => State.put_stored _ _ (State.put_stored _ _ hs)
  refine State.put_shows (hstored _ _ _ _) (Reg.TIM_PORT_STAT_XFER k) _ ?_ (Nat.le_of_ble_eq_true rfl)
  simp only [decide_eq_true_eq]
  split <;> rfl

theorem ux_lt (w : Nat) (z : Int) : ux w z < 2 ^ w := by
  have hpos : (0 : Int) < 2 ^ w := by positivity
  rw [ux, Int.toNat_lt (Int.emod_nonneg _ hpos.ne')]
  exact_mod_cast Int.emod_lt_of_pos z hpos

/-- The record of a port that comes within 50 ps or leaves it (R308). -/
def State.thetaTold (s : State) (k : Nat) (c near : Bool) (sender : Nat) : State :=
  s.when c fun s => s.event 0x0003 0x0903 ([k, if near then 3 else 4] ++ bytesLE 2 sender)

theorem State.thetaTold_reports (s : State) (k : Nat) (c near : Bool) (sender : Nat) : Reports s (s.thetaTold k c near sender) := by
  unfold State.thetaTold State.when
  split
  · exact State.event_reports _ _ _ _
  · exact .refl _

theorem exec_thetaUpdate_eq {s : State} {k : Nat} (hjoined : (s.timePort k).joined = true) (hsome : (s.timePort k).thetas ≠ [])
    (hparent : s.tim.parent ≠ some k) {th : Int} (hth : th = divRound (sumZ (s.timePort k).thetas) (s.timePort k).thetas.length) :
    ∃ dl c, exec (.thetaUpdate k) s =
      .next ((s.thetaMeasured k th dl).thetaTold k c (decide (th.natAbs < 50)) (s.timePort k).sender) := by
  subst hth
  have hwait : ¬ (!(s.timePort k).joined || (s.timePort k).thetas.isEmpty) = true := by
    rw [hjoined, List.isEmpty_eq_false_iff.mpr hsome]
    decide
  have hstays : ∀ th dl c near sender, ((s.thetaMeasured k th dl).thetaTold k c near sender).tim.parent ≠ some k := fun th dl c near sender =>
    ((congrArg TimeState.parent (State.thetaTold_reports (s.thetaMeasured k th dl) k c near sender).tim).trans rfl).trans_ne hparent
  refine ⟨divRound (sumZ (s.timePort k).delays) (10 * (s.timePort k).delays.length), (s.get (Reg.TIM_PORT_STAT_XFER k) == 2) !=
    decide ((divRound (sumZ (s.timePort k).thetas) (s.timePort k).thetas.length).natAbs < 50), ?_⟩
  show execThetaUpdate k s = _
  unfold execThetaUpdate
  dsimp only
  rw [if_neg hwait]
  exact congrArg Host.Outcome.next (if_neg (hstays _ _ _ _ _))

theorem exec_thetaUpdate {s : State} (hs : s.stored) {k : Nat} (hk : k < 2) (hjoined : (s.timePort k).joined = true)
    (hsome : (s.timePort k).thetas ≠ []) (hparent : s.tim.parent ≠ some k) :
    let th := divRound (sumZ (s.timePort k).thetas) (s.timePort k).thetas.length
    ∃ t, exec (.thetaUpdate k) s = .next t ∧ (t.timePort k).theta = some th ∧ (t.timePort k).thetas = [] ∧
      t.get (Reg.TIM_PORT_OFFSET_THETA k) = ux 32 (satS 32 th) ∧ t.get (Reg.TIM_PORT_STAT_XFER k) = (if th.natAbs < 50 then 2 else 1) := by
  intro th
  obtain ⟨dl, c, heq⟩ := exec_thetaUpdate_eq hjoined hsome hparent (th := th) rfl
  have hreports := State.thetaTold_reports (s.thetaMeasured k th dl) k c (decide (th.natAbs < 50)) (s.timePort k).sender
  have hport : (((s.thetaMeasured k th dl).thetaTold k c (decide (th.natAbs < 50)) (s.timePort k).sender).timePort k) =
      { s.timePort k with theta := some th, thetas := [], delays := [] } :=
    (congrArg (fun x : TimeState => x.ports.getD k TimePort.initial) hreports.tim).trans (s.thetaMeasured_timePort k th dl)
  have hout : recordField (Reg.TIM_PORT_OFFSET_THETA k) = false ∧ recordField (Reg.TIM_PORT_STAT_XFER k) = false := by
    have hcases : k = 0 ∨ k = 1 := by omega
    rcases hcases with rfl | rfl <;> decide
  refine ⟨_, heq, congrArg TimePort.theta hport, congrArg TimePort.thetas hport, ?_,
    ((State.thetaMeasured_xfer hs k th dl).reports hreports hout.2).value⟩
  exact ((State.thetaMeasured_theta hs k th dl).reports hreports hout.1).value.trans (Nat.mod_eq_of_lt (ux_lt _ _))

/-! ## The root -/

theorem exec_rootSeqAdvance {s : State} (hroot : s.on Reg.TIM_STAT_ROOT = true) (hdue : s.tim.rootAt + 1000000 ≤ s.now) :
    exec .rootSeqAdvance s = .next
      { s with tim := { s.tim with ownSeq := (s.tim.ownSeq + 1) % 65536, key := { s.tim.key with seq := (s.tim.ownSeq + 1) % 65536 },
                                   rootAt := s.now } } := by
  have hdue' : s.due (s.tim.rootAt + 1000000) = true := decide_eq_true hdue
  exact congrArg Host.Outcome.next (if_pos (by rw [hroot, hdue']; rfl))

theorem exec_rootLost {s : State} (hparent : s.tim.parent ≠ none) (hdue : s.tim.rootAt + 10000000 ≤ s.now) :
    ∃ t, exec .rootLost s = .next t ∧ t.tim.ownUntil = some (s.now + 20000000) := by
  have hdue' : s.due (s.tim.rootAt + 10000000) = true := decide_eq_true hdue
  have hnow : (s.when (s.get Reg.TIM_STAT_CLK_STATE ≠ 0) fun s => s.clockTo 3).now = s.now := by
    unfold State.when
    exact State.ite_reads State.now (State.clockTo_timeOnly (.refl s) 3).now rfl
  refine ⟨_, congrArg Host.Outcome.next (if_pos (by rw [Option.isSome_iff_ne_none.mpr hparent, hdue']; rfl)), ?_⟩
  rw [((ElectKept.refl _).elect).ownUntil]
  exact congrArg (fun n => some (n + 20000000)) hnow

theorem exec_ownKeyWindowEnd {s : State} {t0 : Nat} (huntil : s.tim.ownUntil = some t0) (hdue : t0 ≤ s.now) :
    ∃ t, exec .ownKeyWindowEnd s = .next t ∧ t.tim.ownUntil = none := by
  have hdue' : s.due t0 = true := decide_eq_true hdue
  show ∃ t, execOwnKeyWindowEnd s = .next t ∧ _
  unfold execOwnKeyWindowEnd
  rw [huntil]
  dsimp only
  rw [if_pos hdue']
  exact ⟨_, rfl, ((ElectKept.refl _).elect).ownUntil⟩

/-! ## Device time and the epoch -/

theorem State.TakesNow.exec_timeStep {s : State} {h : Hdr} (g : s.TakesNow h) {sec ns : Nat} (hsec : sec < 2 ^ 48) (hns : ns < 10 ^ 9)
    (hquiet : s.radioQuiet = true) : Answers (exec (.timeStep h sec ns) s) { s with now := sec * 10 ^ 9 + ns, frac := 0 } := by
  have hfields : rangeUnless [decide (sec < 2 ^ 48 ∧ ns < 10 ^ 9), s.radioQuiet] = none := by
    rw [decide_eq_true ⟨hsec, hns⟩, hquiet]
    rfl
  refine ⟨_, ?_, State.complete_reports _ h 0x80 St.done⟩
  show execTimeStep h sec ns s = _
  rw [execTimeStep, hfields, g.acceptNow]

theorem State.setEpoch_epoch {s : State} (hs : s.stored) {e : Nat} (src : Nat) (he : e < 2 ^ 32) :
    (s.setEpoch e src).Shows Reg.TIM_EPOCH_EPOCH e := by
  have hput := State.put_shows hs Reg.TIM_EPOCH_EPOCH e (Nat.mod_eq_of_lt he)
  have hout : Reg.TIM_EPOCH_EPOCH.notElected :=
    ⟨by decide, by decide, by decide, fun k _ => by simp only [Reg.TIM_EPOCH_EPOCH, Reg.TIM_EPOCH, Reg.TIM_PORT_STAT]; omega⟩
  have helect : ∀ u : State, u.Shows Reg.TIM_EPOCH_EPOCH e → u.elect.Shows Reg.TIM_EPOCH_EPOCH e := fun u hu =>
    have hkept := (ElectKept.refl u).elect
    ⟨hkept.stored hu.stored, (hkept.fields hu.stored _ hout).trans hu.value⟩
  unfold State.setEpoch
  exact helect _ (State.Shows.ite (hput.updBoot _) (hput.updBoot _)).event

theorem State.TakesNow.exec_timeEpoch {s : State} (hs : s.stored) {h : Hdr} (g : s.TakesNow h) {epoch : Nat}
    (hlater : s.get Reg.TIM_EPOCH_EPOCH < epoch) (hwide : epoch < 2 ^ 32) :
    ∃ t, exec (.timeEpoch h epoch) s = .next t ∧ t.get Reg.TIM_EPOCH_EPOCH = epoch := by
  have hfields : rangeUnless [decide (s.get Reg.TIM_EPOCH_EPOCH < epoch ∧ epoch < 2 ^ 32)] = none := by
    rw [decide_eq_true ⟨hlater, hwide⟩]
    rfl
  show ∃ t, execTimeEpoch h epoch s = .next t ∧ _
  rw [execTimeEpoch, hfields, g.acceptNow]
  exact ⟨_, rfl, (State.setEpoch_epoch hs 0xFF hwide).complete.value⟩

/-! ## Calibration over the air -/

theorem exec_otaCalResult {s : State} {j : OtaJob} {o : OtaObs} (hjob : s.tim.ota = some j) (hclear : o.blanked = none) :
    Answers (exec (.otaCalResult o) s) ({ s with tim := { s.tim with ota := none } }.hostWrite j.cmd.addr (otaRecord j.cmd o)) := by
  refine ⟨_, ?_, (State.event_reports _ 0x0003 0x0905 (bytesLE 2 j.cmd.partner ++ [j.cmd.role, b2n o.valid + 2 * b2n o.tainted] ++
    bytesLE 6 o.send ++ bytesLE 6 o.arrival)).trans (State.complete_reports _ j.hdr 0x82 St.done)⟩
  show execOtaCalResult o s = _
  unfold execOtaCalResult
  rw [hjob]
  dsimp only
  rw [hclear]

theorem exec_otaCalResult_blanked {s : State} {j : OtaJob} {o : OtaObs} {r : Nat} (hjob : s.tim.ota = some j) (hblank : o.blanked = some r) :
    Answers (exec (.otaCalResult o) s) { s with tim := { s.tim with ota := none } } := by
  refine ⟨_, ?_, State.completeX_reports _ j.hdr 0x82 St.blanked r [] false⟩
  show execOtaCalResult o s = _
  unfold execOtaCalResult
  rw [hjob]
  dsimp only
  rw [hblank]

/-- Settles O40: each command of the transfer of time by its equation. What a taken stamp does inside `timeTransfer` is the model's choice
(assumption log 41). -/
theorem timeIsTransferred : Obligations.TimeIsTransferred := fun _ _ hs hk =>
  ⟨fun hon hopen => exec_timeCellSend hon hopen, fun _ _ _ _ hrx htype hon => exec_timeTransferCell hrx htype hon,
    fun hjoined hsome hparent => exec_thetaUpdate hs hk hjoined hsome hparent,
    fun hroot hdue => exec_rootSeqAdvance hroot hdue, fun hparent hdue => exec_rootLost hparent hdue,
    fun _ huntil hdue => exec_ownKeyWindowEnd huntil hdue,
    fun _ _ _ g hsec hns hquiet => g.exec_timeStep hsec hns hquiet,
    fun _ _ g hlater hwide => g.exec_timeEpoch hs hlater hwide,
    fun _ _ hjob _ hclear => exec_otaCalResult hjob hclear,
    fun _ _ _ hjob _ hblank => exec_otaCalResult_blanked hjob hblank⟩

end Sys2Proof.Machine
end

section
/-! Bundles of firmware: what a commit without a fault leaves, for any effect of the slots (R330 to R333). -/
namespace Sys2Proof.Machine
open Sys2Proof

/-! ## The commit of a bundle -/

/-- The registers, the data memory and the sticky flags after a bundle. -/
def State.bundleStored (s : State) (n : Nat) (p q : SlotOut) : State :=
  let s' := (s.modEngine n fun e => { e with r := ((e.r.apply p).apply q).flow p.flow }).each p.stores fun s e =>
    s.devWrite (engData n + e.1) e.2
  (s'.when (p.accSat || q.accSat) fun s => s.setF (Reg.ENG_STAT_ACC_SAT n)).when (p.stSat || q.stSat) fun s =>
    s.setF (Reg.ENG_STAT_ST_SAT n)

/-- A bundle's cycles are counted and its free values drawn. -/
def State.bundleCounted (s : State) (n cycles : Nat) : State := { s.add64 (Reg.ENG_CYC n) cycles with free := s.free + 4 }

theorem engCyc_apart_stat (n m lsb w : Nat) : (⟨Reg.ENG_STAT m, lsb, w⟩ : Field).reg ≠ Reg.ENG_CYC n ∧
    (⟨Reg.ENG_STAT m, lsb, w⟩ : Field).reg ≠ Reg.ENG_CYC n + 4 := by
  simp only [Reg.ENG_STAT, Reg.ENG_CYC]
  omega

/-- Fields of an engine's status that no sticky flag touches stay through a commit. -/
theorem State.bundleStored_shows {s : State} {n m lsb w v : Nat} (h : s.Shows ⟨Reg.ENG_STAT m, lsb, w⟩ v) (p q : SlotOut)
    (hacc : lsb + w ≤ 6 ∨ 7 ≤ lsb ∨ (p.accSat || q.accSat) = false) (hst : lsb + w ≤ 7 ∨ 8 ≤ lsb ∨ (p.stSat || q.stSat) = false) :
    (s.bundleStored n p q).Shows ⟨Reg.ENG_STAT m, lsb, w⟩ v := by
  have hstored : (s.modEngine n fun e => { e with r := ((e.r.apply p).apply q).flow p.flow }).Shows ⟨Reg.ENG_STAT m, lsb, w⟩ v := h.updEng _
  have heach : ((s.modEngine n fun e => { e with r := ((e.r.apply p).apply q).flow p.flow }).each p.stores fun s e =>
      s.devWrite (engData n + e.1) e.2).Shows ⟨Reg.ENG_STAT m, lsb, w⟩ v := hstored.each fun u e hu => hu.devWrite
  have hput : ∀ {u : State} {c : Bool} {l : Nat}, u.Shows ⟨Reg.ENG_STAT m, lsb, w⟩ v → l + 1 ≤ 32 → (lsb + w ≤ l ∨ l + 1 ≤ lsb ∨ c = false) →
      (u.when c fun s => s.setF ⟨Reg.ENG_STAT n, l, 1⟩).Shows ⟨Reg.ENG_STAT m, lsb, w⟩ v := by
    intro u c l hu hl hc
    unfold State.when
    split
    next hset =>
      refine hu.setF ⟨hl, .inr ?_⟩
      rcases hc with h | h | h
      · exact .inr h
      · exact .inl h
      · exact absurd (hset.symm.trans h) (by decide)
    next => exact hu
  unfold State.bundleStored
  exact hput (hput heach (by decide) hacc) (by decide) hst

theorem State.commitBundle_firmware {s : State} (hs : s.stored) {n : Nat} (hfirm : s.kernelRuns n = false) (p q : SlotOut) :
    s.commitBundle n none p q = ((s.bundleStored n p q).bundleCounted n p.cycles).engFlow n p.flow := by
  have hget : s.get (Reg.ENG_STAT_KRUN n) ≠ 1 := fun h => absurd (hfirm.symm.trans (beq_iff_eq.mpr h)) (by decide)
  have hshows := (State.bundleStored_shows (n := n) (State.shows hs (Reg.ENG_STAT_KRUN n)) p q (.inl (by decide)) (.inl (by decide))).add64
    (n := p.cycles) (engCyc_apart_stat n n 5 1)
  have hruns : ((s.bundleStored n p q).add64 (Reg.ENG_CYC n) p.cycles).kernelRuns n = false := by
    have hvalue : ((s.bundleStored n p q).add64 (Reg.ENG_CYC n) p.cycles).get (Reg.ENG_STAT_KRUN n) = s.get (Reg.ENG_STAT_KRUN n) :=
      hshows.value
    rw [State.kernelRuns, State.on, hvalue]
    exact beq_eq_false_iff_ne.mpr hget
  have hcount : (s.bundleStored n p q).countCycles n p.cycles = (s.bundleStored n p q).add64 (Reg.ENG_CYC n) p.cycles := by
    unfold State.countCycles
    dsimp only
    rw [hruns]
    rfl
  have heq : s.commitBundle n none p q =
      { (s.bundleStored n p q).countCycles n p.cycles with free := (s.bundleStored n p q).free + 4 }.engFlow n p.flow := rfl
  rw [heq, hcount]
  rfl

theorem State.bundleStored_engine (s : State) (n : Nat) (p q : SlotOut) :
    (s.bundleStored n p q).engine n = { s.engine n with r := (((s.engine n).r.apply p).apply q).flow p.flow } := by
  have hset : ∀ (u : State) (c : Bool) (f : Field), (u.when c fun s => s.setF f).engine n = u.engine n := fun u c f => by
    unfold State.when
    exact State.ite_reads (fun u : State => u.engine n) rfl rfl
  unfold State.bundleStored
  rw [hset, hset]
  refine (State.each_reads _ p.stores (fun s e => s.devWrite (engData n + e.1) e.2) (fun u : State => u.engine n) fun _ _ => rfl).trans ?_
  rw [State.engine_modEngine, if_pos rfl]

/-- An effect without stores and sticky flags leaves but the registers. -/
theorem State.bundleStored_plain (s : State) (n : Nat) {p q : SlotOut} (hstores : p.stores = [])
    (hacc : (p.accSat || q.accSat) = false) (hst : (p.stSat || q.stSat) = false) :
    s.bundleStored n p q = s.modEngine n fun e => { e with r := ((e.r.apply p).apply q).flow p.flow } := by
  unfold State.bundleStored
  rw [hstores, hacc, hst]
  rfl

/-- The effects a bundle of one register instruction has: no store, no sticky flag, one cycle, and the flow to the next bundle. -/
structure SlotOut.Plain (o : SlotOut) : Prop where
  stores : o.stores = []
  acc : o.accSat = false
  st : o.stSat = false
  flow : o.flow = .next
  cycles : o.cycles = 1

theorem SlotOut.plain_nothing : SlotOut.nothing.Plain := ⟨rfl, rfl, rfl, rfl, rfl⟩

theorem SlotOut.plain_ofReg (rd v : Nat) : (SlotOut.ofReg rd v).Plain := ⟨rfl, rfl, rfl, rfl, rfl⟩

theorem EngRegs.apply_nothing (r : EngRegs) : r.apply SlotOut.nothing = r := rfl

theorem EngRegs.apply_ofReg (r : EngRegs) (rd v : Nat) : r.apply (SlotOut.ofReg rd v) = r.setReg rd v := rfl

theorem State.commitBundle_plain {s : State} (hs : s.stored) {n : Nat} (hfirm : s.kernelRuns n = false) {p q : SlotOut} (hp : p.Plain)
    (hq : q.Plain) : s.commitBundle n none p q = s.ranBundle n 1 ((((s.engine n).r.apply p).apply q).flow .next) := by
  rw [State.commitBundle_firmware hs hfirm, s.bundleStored_plain n hp.stores (by rw [hp.acc, hq.acc]; rfl) (by rw [hp.st, hq.st]; rfl),
    hp.flow, hp.cycles]
  rfl

/-! ## The sticky flags -/

theorem State.when_setF_on {u : State} (hu : u.stored) (c : Bool) {f : Field} (hw : f.width = 1) (hok : f.ok) :
    (u.when c fun s => s.setF f).on f = (u.on f || c) := by
  cases c with
  | false => exact (Bool.or_false _).symm
  | true => exact (State.setF_shows hu f (by rw [hw]; rfl) hok).on.trans (Bool.or_true _).symm

theorem State.when_setF_stored {u : State} (hu : u.stored) (c : Bool) (f : Field) : (u.when c fun s => s.setF f).stored := by
  unfold State.when
  split
  · exact State.put_stored _ _ hu
  · exact hu

theorem State.when_setF_other {u : State} (hu : u.stored) (c : Bool) {f g : Field} (hok : g.ok) (hapart : g.apart f) :
    (u.when c fun s => s.setF g).on f = u.on f := by
  have hset : (u.setF g).on f = u.on f := congrArg (· == 1) ((State.shows hu f).setF ⟨hok, hapart⟩).value
  unfold State.when
  exact State.ite_reads (fun u : State => u.on f) hset rfl

theorem State.devWrites_stored {s : State} (hs : s.stored) (n : Nat) (l : List (Nat × List Nat)) :
    (s.each l fun s e => s.devWrite (engData n + e.1) e.2).stored :=
  State.each_induct l _ hs fun _ hu _ _ => State.devWrite_stored _ _ hu

theorem State.devWrites_on (s : State) (n : Nat) (l : List (Nat × List Nat)) (f : Field) :
    (s.each l fun s e => s.devWrite (engData n + e.1) e.2).on f = s.on f :=
  State.each_reads s l (fun s e => s.devWrite (engData n + e.1) e.2) (fun u : State => u.on f) fun _ _ => rfl

theorem State.bundleStored_stored {s : State} (hs : s.stored) (n : Nat) (p q : SlotOut) : (s.bundleStored n p q).stored :=
  State.when_setF_stored (State.when_setF_stored (State.devWrites_stored
    (s := s.modEngine n fun e => { e with r := ((e.r.apply p).apply q).flow p.flow }) hs n p.stores) _ _) _ _

theorem State.bundleStored_accSat {s : State} (hs : s.stored) (n : Nat) (p q : SlotOut) :
    (s.bundleStored n p q).on (Reg.ENG_STAT_ACC_SAT n) = (s.on (Reg.ENG_STAT_ACC_SAT n) || (p.accSat || q.accSat)) := by
  have hwrites := State.devWrites_stored (s := s.modEngine n fun e => { e with r := ((e.r.apply p).apply q).flow p.flow }) hs n p.stores
  unfold State.bundleStored
  dsimp only
  rw [State.when_setF_other (State.when_setF_stored hwrites _ _) _ (Nat.le_of_ble_eq_true rfl) (.inr (.inr (Nat.le_of_ble_eq_true rfl))),
    State.when_setF_on hwrites _ rfl (Nat.le_of_ble_eq_true rfl), State.devWrites_on]
  rfl

theorem State.bundleStored_stSat {s : State} (hs : s.stored) (n : Nat) (p q : SlotOut) :
    (s.bundleStored n p q).on (Reg.ENG_STAT_ST_SAT n) = (s.on (Reg.ENG_STAT_ST_SAT n) || (p.stSat || q.stSat)) := by
  have hwrites := State.devWrites_stored (s := s.modEngine n fun e => { e with r := ((e.r.apply p).apply q).flow p.flow }) hs n p.stores
  unfold State.bundleStored
  dsimp only
  rw [State.when_setF_on (State.when_setF_stored hwrites _ _) _ rfl (Nat.le_of_ble_eq_true rfl),
    State.when_setF_other hwrites _ (Nat.le_of_ble_eq_true rfl) (.inr (.inl (Nat.le_of_ble_eq_true rfl))), State.devWrites_on]
  rfl

theorem State.bundleStored_devMem (s : State) (n : Nat) (p q : SlotOut) :
    (s.bundleStored n p q).devMem = (s.each p.stores fun s e => s.devWrite (engData n + e.1) e.2).devMem := by
  have hset : ∀ (u : State) (c : Bool) (f : Field), (u.when c fun s => s.setF f).devMem = u.devMem := fun u c f => by
    unfold State.when
    exact State.ite_reads State.devMem rfl rfl
  have heach : ∀ (l : List (Nat × List Nat)) (u v : State), u.devMem = v.devMem →
      (u.each l fun s e => s.devWrite (engData n + e.1) e.2).devMem = (v.each l fun s e => s.devWrite (engData n + e.1) e.2).devMem := by
    intro l
    unfold State.each
    induction l with
    | nil => exact fun _ _ h => h
    | cons e l ih =>
      intro u v h
      exact ih _ _ (congrArg (fun m : Memory => m.writeBytes (engData n + e.1) e.2) h)
  unfold State.bundleStored
  dsimp only
  rw [hset, hset]
  exact heach _ _ _ rfl

/-- What a bundle whose flow is to the next one leaves of the registers, the data memory and the sticky flags. -/
theorem State.commitBundle_leaves {s : State} (hs : s.stored) {n : Nat} (hfirm : s.kernelRuns n = false) {p q : SlotOut} (hp : p.flow = .next) :
    ((s.commitBundle n none p q).engine n).r = (((s.engine n).r.apply p).apply q).flow .next ∧
      (s.commitBundle n none p q).devMem = (s.each p.stores fun s e => s.devWrite (engData n + e.1) e.2).devMem ∧
      (s.commitBundle n none p q).on (Reg.ENG_STAT_ACC_SAT n) = (s.on (Reg.ENG_STAT_ACC_SAT n) || (p.accSat || q.accSat)) ∧
      (s.commitBundle n none p q).on (Reg.ENG_STAT_ST_SAT n) = (s.on (Reg.ENG_STAT_ST_SAT n) || (p.stSat || q.stSat)) := by
  have hstored := State.bundleStored_stored hs n p q
  have hon : ∀ lsb, ((s.bundleStored n p q).bundleCounted n p.cycles).on ⟨Reg.ENG_STAT n, lsb, 1⟩ =
      (s.bundleStored n p q).on ⟨Reg.ENG_STAT n, lsb, 1⟩ := fun lsb =>
    congrArg (· == 1) ((State.shows hstored ⟨Reg.ENG_STAT n, lsb, 1⟩).add64 (n := p.cycles) (engCyc_apart_stat n n lsb 1)).value
  have hregs := congrArg Engine.r (s.bundleStored_engine n p q)
  rw [hp] at hregs
  rw [State.commitBundle_firmware hs hfirm, hp]
  exact ⟨hregs, s.bundleStored_devMem n p q, (hon 6).trans (State.bundleStored_accSat hs n p q),
    (hon 7).trans (State.bundleStored_stSat hs n p q)⟩

end Sys2Proof.Machine
end

section
/-! The instructions that compute in registers (R332). -/
namespace Sys2Proof.Machine
open Sys2Proof

/-! ## A bundle with one instruction -/

/-- What a slot's instruction sees of an engine's firmware, with the number of its free values. -/
abbrev State.slotAt (s : State) (n free : Nat) : SlotIn := ⟨s, n, (s.engine n).r, none, s.on (Reg.ENG_STAT_MODE n), free⟩

theorem slotRun_zero (c : SlotIn) : slotRun c 0 = .ok SlotOut.nothing := rfl

theorem bundleRow_zero : bundleRow 0 0 = 0 := rfl

section
variable {s : State} {n p : Nat}

/-- A bundle with one instruction without a store or a sticky flag leaves but its registers; its free values are numbered from `free`, or
two on in slot Q. -/
theorem State.RunsAlone.bundle_plain (hs : s.stored) (g : s.RunsAlone n p) {row : Nat} (hr : bundleRow p 0 = row) {o : Nat → SlotOut}
    (ho : ∀ f, slotRun (s.slotAt n f) p = .ok (o f)) (hplain : ∀ f, (o f).Plain) :
    ∃ f, s.bundle n row = s.ranBundle n 1 (((s.engine n).r.apply (o f)).flow .next) := by
  rcases g.bundle hr ho with h | ⟨-, h⟩
  · exact ⟨s.free, h.trans (State.commitBundle_plain hs g.firmware (hplain _) SlotOut.plain_nothing)⟩
  · exact ⟨s.free + 2, h.trans (State.commitBundle_plain hs g.firmware SlotOut.plain_nothing (hplain _))⟩

theorem State.RunsAlone.bundle_fixed (hs : s.stored) (g : s.RunsAlone n p) {row : Nat} (hr : bundleRow p 0 = row) {o : SlotOut}
    (ho : ∀ f, slotRun (s.slotAt n f) p = .ok o) (hplain : o.Plain) :
    s.bundle n row = s.ranBundle n 1 (((s.engine n).r.apply o).flow .next) := by
  rcases g.bundle hr (o := fun _ => o) ho with h | ⟨-, h⟩
  · exact h.trans (State.commitBundle_plain hs g.firmware hplain SlotOut.plain_nothing)
  · exact h.trans (State.commitBundle_plain hs g.firmware SlotOut.plain_nothing hplain)

/-- An instruction that sets a register. -/
theorem State.RunsAlone.bundle_reg (hs : s.stored) (g : s.RunsAlone n p) {op v : Nat} (hop : opOf p = op) (hknown : knownOp op = true)
    (ho : ∀ f, slotRun (s.slotAt n f) p = .ok (.ofReg (fRd p) v)) :
    s.bundle n op = s.ranBundle n 1 (((s.engine n).r.setReg (fRd p) v).flow .next) := by
  rw [← EngRegs.apply_ofReg]
  exact g.bundle_fixed hs ((bundleRow_of_known (hop ▸ hknown)).trans hop) ho (SlotOut.plain_ofReg _ _)

theorem bundleRow_of_op {op : Nat} (hop : opOf p = op) (hknown : knownOp op = true) : bundleRow p 0 = op :=
  (bundleRow_of_known (hop ▸ hknown)).trans hop

theorem State.RunsAlone.bundle_nothing (hs : s.stored) (g : s.RunsAlone n 0) :
    s.bundle n 0 = s.ranBundle n 1 ((s.engine n).r.flow .next) :=
  g.bundle_fixed hs (bundleRow_zero) (o := SlotOut.nothing) (fun _ => slotRun_zero _) SlotOut.plain_nothing

/-- An effect with sticky flags leaves its registers and the flags. -/
theorem State.RunsAlone.bundle_flags (hs : s.stored) (g : s.RunsAlone n p) {row : Nat} (hr : bundleRow p 0 = row) {o : SlotOut}
    (ho : ∀ f, slotRun (s.slotAt n f) p = .ok o) (hflow : o.flow = .next) :
    ((s.bundle n row).engine n).r = ((s.engine n).r.apply o).flow .next ∧
      (s.bundle n row).on (Reg.ENG_STAT_ACC_SAT n) = (s.on (Reg.ENG_STAT_ACC_SAT n) || o.accSat) ∧
      (s.bundle n row).on (Reg.ENG_STAT_ST_SAT n) = (s.on (Reg.ENG_STAT_ST_SAT n) || o.stSat) := by
  rcases g.bundle hr (o := fun _ => o) ho with h | ⟨-, h⟩
  · obtain ⟨hregs, -, hacc, hst⟩ := State.commitBundle_leaves hs g.firmware (p := o) (q := SlotOut.nothing) hflow
    rw [h]
    exact ⟨hregs, by rw [hacc]; simp [SlotOut.nothing], by rw [hst]; simp [SlotOut.nothing]⟩
  · obtain ⟨hregs, -, hacc, hst⟩ := State.commitBundle_leaves hs g.firmware (p := SlotOut.nothing) (q := o) rfl
    rw [h]
    exact ⟨hregs, by rw [hacc]; simp [SlotOut.nothing], by rw [hst]; simp [SlotOut.nothing]⟩

/-- An instruction that no slot Q may hold stands in slot P. -/
theorem State.RunsAlone.bundle_of_slotP (g : s.RunsAlone n p) (hq : slotQOk p = false) : s.RunsBundle n p := by
  refine ⟨g.word.resolve_right fun h => ?_, g.ready, g.firmware⟩
  exact absurd (h.2.2.symm.trans hq) (by decide)

theorem State.RunsBundle.alone (g : s.RunsBundle n p) : s.RunsAlone n p := ⟨.inl g.word, g.ready, g.firmware⟩

/-! ## Saturating and converting instructions -/

theorem exec_engMvag (hs : s.stored) (g : s.RunsAlone n p) (hop : opOf p = 0x22) :
    let z := divRound ((s.engine n).r.accu (fRa p % 8)) (2 ^ bits p 0 5)
    ∃ t, exec (.engMvag n) s = .next t ∧ (t.engine n).r = ((s.engine n).r.setReg (fRd p) (ux 32 (satS 32 z))).flow .next ∧
      t.on (Reg.ENG_STAT_ST_SAT n) = (s.on (Reg.ENG_STAT_ST_SAT n) || satS 32 z != z) := by
  intro z
  obtain ⟨hregs, -, hst⟩ := g.bundle_flags hs (bundleRow_of_op hop rfl)
    (o := { SlotOut.ofReg (fRd p) (ux 32 (satS 32 z)) with stSat := satS 32 z != z }) (fun _ => by simp only [slotRun, hop]; rfl) rfl
  exact ⟨_, rfl, hregs, hst⟩

theorem exec_engMvga (hs : s.stored) (g : s.RunsAlone n p) (hop : opOf p = 0x23) :
    let z := sx 32 ((s.engine n).r.reg (fRa p)) * 2 ^ bits p 0 5
    ∃ t, exec (.engMvga n) s = .next t ∧
      (t.engine n).r = ({ (s.engine n).r with acc := (s.engine n).r.acc.set (fRd p % 8) (satAcc z) }).flow .next ∧
      t.on (Reg.ENG_STAT_ACC_SAT n) = (s.on (Reg.ENG_STAT_ACC_SAT n) || satAcc z != z) := by
  intro z
  obtain ⟨hregs, hacc, -⟩ := g.bundle_flags hs (bundleRow_of_op hop rfl)
    (o := { SlotOut.nothing with acc := [(fRd p % 8, satAcc z)], accSat := satAcc z != z }) (fun _ => by simp only [slotRun, hop]; rfl) rfl
  exact ⟨_, rfl, hregs, hacc⟩

theorem EngRegs.setReg_acc (r : EngRegs) (i v : Nat) : (r.setReg i v).acc = r.acc := by
  unfold EngRegs.setReg
  split <;> rfl

theorem exec_engNorm (hs : s.stored) (g : s.RunsAlone n p) (hop : opOf p = 0x25) :
    let r := (s.engine n).r
    let a := r.accu (fRa p % 8)
    exec (.engNorm n) s = .next (s.ranBundle n 1
      ({ r.setReg (fRd p) (signBits 40 a) with acc := r.acc.set (fRa p % 8) (a * 2 ^ signBits 40 a) }.flow .next)) := by
  intro r a
  have hbundle := g.bundle_fixed hs (bundleRow_of_op hop rfl)
    (o := { SlotOut.ofReg (fRd p) (signBits 40 a) with acc := [(fRa p % 8, a * 2 ^ signBits 40 a)] })
    (fun _ => by simp only [slotRun, hop]; rfl) ⟨rfl, rfl, rfl, rfl, rfl⟩
  have happly : r.apply { SlotOut.ofReg (fRd p) (signBits 40 a) with acc := [(fRa p % 8, a * 2 ^ signBits 40 a)] } =
      { r.setReg (fRd p) (signBits 40 a) with acc := r.acc.set (fRa p % 8) (a * 2 ^ signBits 40 a) } := by
    rw [← r.setReg_acc (fRd p) (signBits 40 a)]
    rfl
  rw [← happly]
  exact congrArg Host.Outcome.next hbundle

theorem EngRegs.setReg_bex (r : EngRegs) (i v : Nat) : (r.setReg i v).bex = r.bex := by
  unfold EngRegs.setReg
  split <;> rfl

theorem exec_engBexr (hs : s.stored) (g : s.RunsAlone n p) (hop : opOf p = 0x26) :
    let r := (s.engine n).r
    exec (.engBexr n) s = .next (s.ranBundle n 1
      ({ r.setReg (fRd p) r.bex with bex := if bit p 0 then 0 else r.bex }.flow .next)) := by
  intro r
  have hbundle := g.bundle_fixed hs (bundleRow_of_op hop rfl)
    (o := { SlotOut.ofReg (fRd p) r.bex with bex := if bit p 0 then some 0 else none })
    (fun _ => by simp only [slotRun, hop]; rfl) ⟨rfl, rfl, rfl, rfl, rfl⟩
  have hbex : (if bit p 0 then some 0 else none : Option Nat).getD r.bex = if bit p 0 then 0 else r.bex := by split <;> rfl
  have happly : r.apply { SlotOut.ofReg (fRd p) r.bex with bex := if bit p 0 then some 0 else none } =
      { r.setReg (fRd p) r.bex with bex := if bit p 0 then 0 else r.bex } := by
    have hset : r.apply { SlotOut.ofReg (fRd p) r.bex with bex := if bit p 0 then some 0 else none } =
        { r.setReg (fRd p) r.bex with bex := (if bit p 0 then some 0 else none : Option Nat).getD (r.setReg (fRd p) r.bex).bex } := rfl
    rw [hset, r.setReg_bex, hbex]
  rw [← happly]
  exact congrArg Host.Outcome.next hbundle

/-! ## Reciprocals -/

theorem within_le {r : Nat × Nat} (h : r.1 ≤ r.2) (f : Nat) : r.1 ≤ within r f ∧ within r f ≤ r.2 := by
  have hmod : f % (r.2 - r.1 + 1) < r.2 - r.1 + 1 := Nat.mod_lt _ (Nat.succ_pos _)
  unfold within
  omega

theorem rcpRange_ordered (v : Nat) : (rcpRange v).1 ≤ (rcpRange v).2 := by
  have h : ceilDiv (2 ^ 29) v ≤ 2 ^ 29 / v + 1 := by
    rcases Nat.eq_zero_or_pos v with rfl | hv
    · decide
    · unfold ceilDiv
      rw [Nat.div_le_iff_le_mul_add_pred hv]
      have := Nat.div_add_mod (2 ^ 29) v
      have := Nat.mod_lt (2 ^ 29) hv
      have : v * (2 ^ 29 / v + 1) = v * (2 ^ 29 / v) + v := by ring
      omega
  unfold rcpRange
  omega

theorem rsqRange_ordered (v : Nat) : (rsqRange v).1 ≤ (rsqRange v).2 := by
  unfold rsqRange
  dsimp only
  split <;> omega

theorem exec_engRcp (hs : s.stored) (g : s.RunsAlone n p) (hop : opOf p = 0x28) {v : Nat} (hv : (s.engine n).r.reg (fRa p) % 2 ^ 16 = v)
    (hlow : 0x4000 ≤ v) (hhigh : v ≤ 0x7FFF) :
    ∃ q, ceilDiv (2 ^ 29) v ≤ q + 4 ∧ q ≤ 2 ^ 29 / v + 4 ∧
      exec (.engRcp n) s = .next (s.ranBundle n 1 (((s.engine n).r.setReg (fRd p) q).flow .next)) := by
  have hslot : ∀ f, slotRun (s.slotAt n f) p = .ok (.ofReg (fRd p) (within (rcpRange v) (Config.engRcp f))) := fun f => by
    simp only [slotRun, hop, opRcp, hv, if_pos (And.intro hlow hhigh)]
  obtain ⟨f, hbundle⟩ := g.bundle_plain hs (bundleRow_of_op hop rfl) hslot fun _ => SlotOut.plain_ofReg _ _
  obtain ⟨hge, hle⟩ := within_le (rcpRange_ordered v) (Config.engRcp f)
  refine ⟨within (rcpRange v) (Config.engRcp f), ?_, hle, ?_⟩
  · unfold rcpRange at hge ⊢
    omega
  · rw [← EngRegs.apply_ofReg]
    exact congrArg Host.Outcome.next hbundle

theorem exec_engRsq (hs : s.stored) (g : s.RunsAlone n p) (hop : opOf p = 0x29) {v : Nat} (hv : (s.engine n).r.reg (fRa p) % 2 ^ 16 = v)
    (hlow : 0x4000 ≤ v) (hhigh : v ≤ 0x7FFF) :
    ∃ q, (rsqRange v).1 ≤ q ∧ q ≤ (rsqRange v).2 ∧
      exec (.engRsq n) s = .next (s.ranBundle n 1 (((s.engine n).r.setReg (fRd p) q).flow .next)) := by
  have hslot : ∀ f, slotRun (s.slotAt n f) p = .ok (.ofReg (fRd p) (within (rsqRange v) (Config.engRsq f))) := fun f => by
    simp only [slotRun, hop, opRsq, hv, if_pos (And.intro hlow hhigh)]
  obtain ⟨f, hbundle⟩ := g.bundle_plain hs (bundleRow_of_op hop rfl) hslot fun _ => SlotOut.plain_ofReg _ _
  obtain ⟨hge, hle⟩ := within_le (rsqRange_ordered v) (Config.engRsq f)
  refine ⟨within (rsqRange v) (Config.engRsq f), hge, hle, ?_⟩
  rw [← EngRegs.apply_ofReg]
  exact congrArg Host.Outcome.next hbundle

/-- Outside 0x4000 to 0x7FFF both reciprocals saturate. -/
theorem exec_reciprocal_saturates (hs : s.stored) (g : s.RunsAlone n p) {con : Instr}
    (hcon : opOf p = 0x28 ∧ con = .engRcp n ∨ opOf p = 0x29 ∧ con = .engRsq n)
    (hout : (s.engine n).r.reg (fRa p) % 2 ^ 16 < 0x4000 ∨ 0x7FFF < (s.engine n).r.reg (fRa p) % 2 ^ 16) :
    ∃ t, exec con s = .next t ∧ (t.engine n).r = ((s.engine n).r.setReg (fRd p) 0x7FFF).flow .next ∧
      t.on (Reg.ENG_STAT_ST_SAT n) = true := by
  have hrange : ¬ (0x4000 ≤ (s.engine n).r.reg (fRa p) % 2 ^ 16 ∧ (s.engine n).r.reg (fRa p) % 2 ^ 16 ≤ 0x7FFF) := by omega
  have hslot : ∀ f, slotRun (s.slotAt n f) p = .ok { SlotOut.ofReg (fRd p) 0x7FFF with stSat := true } := fun f => by
    rcases hcon with ⟨hop, -⟩ | ⟨hop, -⟩
    · simp only [slotRun, hop, opRcp, if_neg hrange]
    · simp only [slotRun, hop, opRsq, if_neg hrange]
  rcases hcon with ⟨hop, rfl⟩ | ⟨hop, rfl⟩
  · obtain ⟨hregs, -, hst⟩ := g.bundle_flags hs (bundleRow_of_op hop rfl) hslot rfl
    exact ⟨_, rfl, hregs, hst.trans (Bool.or_true _)⟩
  · obtain ⟨hregs, -, hst⟩ := g.bundle_flags hs (bundleRow_of_op hop rfl) hslot rfl
    exact ⟨_, rfl, hregs, hst.trans (Bool.or_true _)⟩

/-! ## Pointers and the tap counter -/

theorem exec_engTapc (hs : s.stored) (g : s.RunsAlone n p) (hop : opOf p = 0x2B) :
    exec (.engTapc n) s =
      .next (s.ranBundle n 1 ({ (s.engine n).r with tapc := (s.engine n).r.reg (fRa p) % 2 ^ 16 }.flow .next)) :=
  congrArg Host.Outcome.next (g.bundle_fixed hs (bundleRow_of_op hop rfl)
    (o := { SlotOut.nothing with tapc := some ((s.engine n).r.reg (fRa p) % 2 ^ 16) })
    (fun _ => by simp only [slotRun, hop]; rfl) ⟨rfl, rfl, rfl, rfl, rfl⟩)

/-- The field of the old pointer that AGSET sets, and to what. -/
def Ptr.Set (old : Ptr) (field v : Nat) (q : Ptr) : Prop :=
  field = 0 ∧ q = { old with addr := v % 2 ^ 24, count := 0 } ∨ field = 1 ∧ q = { old with base := v % 2 ^ 24 } ∨
    field = 2 ∧ q = { old with len := v % 2 ^ 18 } ∨ field = 3 ∧ q = { old with step := sx 18 v } ∨
    field = 4 ∧ v ≤ 2 ∧ q = { old with mode := v }

theorem opAgset_set {c : SlotIn} {w : Nat} {q : Ptr} (h : (c.r.ptr (fRd w % 8)).Set (bits w 0 3) (c.r.reg (fRa w)) q) :
    opAgset c w = .ok { SlotOut.nothing with ptr := [(fRd w % 8, q)] } := by
  unfold opAgset
  generalize bits w 0 3 = field at h ⊢
  rcases h with ⟨rfl, rfl⟩ | ⟨rfl, rfl⟩ | ⟨rfl, rfl⟩ | ⟨rfl, rfl⟩ | ⟨rfl, hv, rfl⟩
  · rfl
  · rfl
  · rfl
  · rfl
  · exact if_neg (not_lt.mpr hv)

theorem opAgset_illegal {c : SlotIn} {w : Nat} (h : bits w 0 3 = 4 ∧ 2 < c.r.reg (fRa w) ∨ 5 ≤ bits w 0 3) :
    opAgset c w = .error (1, 0) := by
  unfold opAgset
  generalize bits w 0 3 = field at h ⊢
  rcases h with ⟨rfl, hv⟩ | hfield
  · exact if_pos hv
  · dsimp only
    split
    · omega
    · omega
    · omega
    · omega
    · omega
    · rfl

theorem EngRegs.apply_ptr (r : EngRegs) (i : Nat) (q : Ptr) :
    r.apply { SlotOut.nothing with ptr := [(i, q)] } = { r with ptrs := r.ptrs.set i q } := rfl

theorem exec_engAgset (hs : s.stored) (g : s.RunsAlone n p) (hop : opOf p = 0x27) {q : Ptr}
    (hset : ((s.engine n).r.ptr (fRd p % 8)).Set (bits p 0 3) ((s.engine n).r.reg (fRa p)) q) :
    exec (.engAgset n) s =
      .next (s.ranBundle n 1 ({ (s.engine n).r with ptrs := (s.engine n).r.ptrs.set (fRd p % 8) q }.flow .next)) := by
  have hslot : ∀ f, slotRun (s.slotAt n f) p = .ok { SlotOut.nothing with ptr := [(fRd p % 8, q)] } := fun f => by
    simp only [slotRun, hop]
    exact opAgset_set (c := s.slotAt n f) hset
  rw [← EngRegs.apply_ptr]
  exact congrArg Host.Outcome.next (g.bundle_fixed hs (bundleRow_of_op hop rfl) hslot ⟨rfl, rfl, rfl, rfl, rfl⟩)

theorem exec_engAgset_illegal (g : s.RunsAlone n p) (hop : opOf p = 0x27)
    (hbad : bits p 0 3 = 4 ∧ 2 < (s.engine n).r.reg (fRa p) ∨ 5 ≤ bits p 0 3) :
    exec (.engAgset n) s = .next (s.engFault n 1 (s.engine n).r.pc false 0) := by
  have hp : p ≠ 0 := by rintro rfl; exact absurd hop (by decide)
  have hq : slotQOk p = false := by simp [slotQOk, hop, hp]
  have hslot : slotRun (s.firmwareSlot n) p = .error (1, 0) := by
    simp only [slotRun, hop]
    exact opAgset_illegal (c := s.firmwareSlot n) hbad
  have hbundle : s.bundle n 0x27 = s.engFault n 1 (s.engine n).r.pc false 0 :=
    (g.bundle_of_slotP hq).bundle_fault (f := (1, 0)) (bundleRow_of_op hop rfl) hslot
  exact congrArg Host.Outcome.next hbundle

/-! ## Two instructions in one bundle -/

/-- Two additions in one bundle: both read the registers before either writes them. -/
theorem exec_engAdd_two (hs : s.stored) {q : Nat} (hword : (s.engine n).prog.readLE (8 * (s.engine n).r.pc) 8 = p * 2 ^ 32 + q)
    (hq : q < 2 ^ 32) (hready : s.bundleReady n = true) (hfirm : s.kernelRuns n = false) (hop : opOf p = 0x10) (hoq : opOf q = 0x10) :
    let r := (s.engine n).r
    exec (.engAdd n) s = .next (if (SlotOut.ofReg (fRd p) (r.reg (fRa p) + r.reg (fRb p))).clash
        (SlotOut.ofReg (fRd q) (r.reg (fRa q) + r.reg (fRb q))) then s.engFault n 1 r.pc false 0
      else s.ranBundle n 1 (((r.setReg (fRd p) (r.reg (fRa p) + r.reg (fRb p))).setReg (fRd q) (r.reg (fRa q) + r.reg (fRb q))).flow .next)) := by
  intro r
  have hp0 : p ≠ 0 := by rintro rfl; exact absurd hop (by decide)
  have h1 : (p * 2 ^ 32 + q) / 2 ^ 32 = p := by omega
  have h2 : (p * 2 ^ 32 + q) % 2 ^ 32 = q := by omega
  have hrow : bundleRow p q = 0x10 := by rw [bundleRow, if_neg hp0, hop]; rfl
  have hslotP : ∀ c, slotRun c p = opAdd c p := fun c => by simp only [slotRun, hop]
  have hslotQ : ∀ c, slotQRun c q = opAdd { c with free := c.free + 2 } q := fun c => by
    simp only [slotQRun, slotQOk, hoq, slotRun]
    simp
  have hcommit := State.commitBundle_plain hs hfirm (SlotOut.plain_ofReg (fRd p) (r.reg (fRa p) + r.reg (fRb p)))
    (SlotOut.plain_ofReg (fRd q) (r.reg (fRa q) + r.reg (fRb q)))
  rw [EngRegs.apply_ofReg, EngRegs.apply_ofReg] at hcommit
  rw [← hcommit]
  show Host.Outcome.next (s.bundle n 0x10) = _
  simp only [State.bundle, hword, h1, h2, hready, hfirm, hrow, hslotP, hslotQ]
  rfl

theorem ofReg_clash (a b v w : Nat) : (SlotOut.ofReg a v).clash (SlotOut.ofReg b w) = true ↔ a = b ∧ a ≠ 0 := by
  by_cases ha : a = 0 <;> by_cases hb : b = 0 <;> simp [SlotOut.clash, SlotOut.ofReg, SlotOut.nothing, SlotOut.gWrites, ha, hb]

end

/-- Settles O41: each instruction by the effect of its slot, which the commit carries out. That AGSET's other fields and modes are ILLEGAL
and that two writes to g0 do not clash is the model's choice (assumption log 135 and 136). -/
theorem enginesComputeInRegisters : Obligations.EnginesComputeInRegisters := by
  intro s n hs r sets
  have hsets : ∀ {p op : Nat} {v : Nat}, s.RunsAlone n p → opOf p = op → knownOp op = true →
      (∀ f, slotRun (s.slotAt n f) p = .ok (.ofReg (fRd p) v)) →
      Host.Outcome.next (s.bundle n op) = (.next (s.ranBundle n 1 ((r.setReg (fRd p) v).flow .next)) : Host.Outcome State Fault Refusal) :=
    fun g hop hknown ho => congrArg Host.Outcome.next (g.bundle_reg hs hop hknown ho)
  refine ⟨fun g => congrArg Host.Outcome.next (g.bundle_nothing hs), ?_, ?_, ?_, ?_, ?_, ?_, ?_, ?_, ?_, ?_, ?_, ?_, ?_,
    fun p g hop => exec_engMvag hs g hop, fun p g hop => exec_engMvga hs g hop, fun p g hop => exec_engNorm hs g hop,
    fun p g hop => exec_engBexr hs g hop, fun p v g hop hv hlow hhigh => exec_engRcp hs g hop hv hlow hhigh,
    fun p v g hop hv hlow hhigh => exec_engRsq hs g hop hv hlow hhigh, fun p g hop => exec_engTapc hs g hop,
    fun p q g hop => ⟨fun hset => exec_engAgset hs g hop hset, exec_engAgset_illegal g hop⟩,
    fun p con g hcon hout => exec_reciprocal_saturates hs g hcon hout, ?two⟩
  case two =>
    intro p q hword hq hready hfirm hop hoq
    have hadd := exec_engAdd_two hs hword hq hready hfirm hop hoq
    refine ⟨fun hne => hadd.trans (congrArg _ (if_neg ?_)), fun heq hne => hadd.trans (congrArg _ (if_pos ((ofReg_clash _ _ _ _).mpr ⟨heq, hne⟩)))⟩
    rw [ofReg_clash]
    exact fun h => hne.elim (fun hd => hd h.1) h.2
  all_goals exact fun p g hop => hsets g hop rfl fun f => by simp only [slotRun, hop]; rfl

end Sys2Proof.Machine
end

section
/-! The instructions that use the data memory and the registers an engine reaches (R324 to R329, R332). -/
namespace Sys2Proof.Machine
open Sys2Proof

/-! ## Accesses without a fault -/

theorem noFault_one {a : Option Nat} (h : a = none) (x : Nat) (k : SlotOut) : noFault [(a, x)] k = .ok k := by
  rw [h]
  rfl

theorem noFault_two {a b : Option Nat} (ha : a = none) (hb : b = none) (x y : Nat) (k : SlotOut) : noFault [(a, x), (b, y)] k = .ok k := by
  rw [ha, hb]
  rfl

section
variable {c : SlotIn} {addr w : Nat} {write regs : Bool}

theorem SlotIn.accessFault_data (hkernel : c.kernel = none) (haligned : addr % w = 0) (hdata : addr < 0x40000) :
    c.accessFault addr w write regs = none := by
  rw [SlotIn.accessFault, if_neg (not_not_intro haligned), if_pos hdata, hkernel]

theorem SlotIn.accessFault_regs (hkernel : c.kernel = none) (haligned : addr % w = 0) (hlow : 0x400000 ≤ addr) (hhigh : addr < 0x800000)
    (hreach : engineReach c.n (addr - 0x400000) = true) : c.accessFault addr w write true = none := by
  rw [SlotIn.accessFault, if_neg (not_not_intro haligned), if_neg (by omega), if_pos]
  rw [hkernel, hreach, decide_eq_true ⟨hlow, hhigh⟩]
  rfl

theorem SlotIn.accessFault_protect (haligned : addr % w = 0) (hout : 0x40000 ≤ addr)
    (hbad : regs = false ∨ addr < 0x400000 ∨ 0x800000 ≤ addr ∨ engineReach c.n (addr - 0x400000) = false) :
    c.accessFault addr w write regs = some 3 := by
  rw [SlotIn.accessFault, if_neg (not_not_intro haligned), if_neg (not_lt.mpr hout), if_neg]
  rw [Bool.and_eq_true, Bool.and_eq_true, Bool.and_eq_true, decide_eq_true_eq]
  rintro ⟨⟨⟨hregs, -⟩, hlow, hhigh⟩, hreach⟩
  rcases hbad with h | h | h | h
  · exact absurd (hregs.symm.trans h) (by decide)
  · omega
  · omega
  · exact absurd (hreach.symm.trans h) (by decide)

end

/-! ## Multiplying and storing instructions -/

section
variable {s : State} {n p : Nat}

/-- What a bundle with one instruction in slot P leaves where the flow is to the next bundle. -/
theorem State.RunsBundle.bundle_leaves (hs : s.stored) (g : s.RunsBundle n p) {op : Nat} (hop : opOf p = op) (hknown : knownOp op = true)
    {o : SlotOut} (ho : slotRun (s.firmwareSlot n) p = .ok o) (hflow : o.flow = .next) :
    ((s.bundle n op).engine n).r = ((s.engine n).r.apply o).flow .next ∧
      (s.bundle n op).devMem = (s.each o.stores fun s e => s.devWrite (engData n + e.1) e.2).devMem ∧
      (s.bundle n op).on (Reg.ENG_STAT_ACC_SAT n) = (s.on (Reg.ENG_STAT_ACC_SAT n) || o.accSat) := by
  rw [g.bundle (bundleRow_of_op hop hknown) ho]
  obtain ⟨hregs, hmem, hacc, -⟩ := State.commitBundle_leaves hs g.firmware (p := o) (q := SlotOut.nothing) hflow
  exact ⟨hregs, hmem, hacc.trans (by simp [SlotOut.nothing])⟩

/-- A bundle that leaves sums in the accumulators and moves pointers, and stores nothing. -/
theorem State.RunsBundle.bundle_sums (hs : s.stored) (g : s.RunsBundle n p) {op : Nat} (hop : opOf p = op) (hknown : knownOp op = true)
    {l : List (Nat × Int)} {width : Nat} {usesX : Bool}
    (ho : slotRun (s.firmwareSlot n) p =
      .ok { (s.firmwareSlot n).accumulate p l with ptr := (s.firmwareSlot n).moved p width usesX }) :
    ∃ t, (.next (s.bundle n op) : Host.Outcome State Fault Refusal) = .next t ∧
      (t.engine n).r = ((s.engine n).r.apply
        { (s.firmwareSlot n).accumulate p l with ptr := (s.firmwareSlot n).moved p width usesX }).flow .next ∧
      t.devMem = s.devMem ∧
      t.on (Reg.ENG_STAT_ACC_SAT n) = (s.on (Reg.ENG_STAT_ACC_SAT n) || ((s.firmwareSlot n).accumulate p l).accSat) := by
  obtain ⟨hregs, hmem, hacc⟩ := g.bundle_leaves hs hop hknown ho rfl
  exact ⟨_, rfl, hregs, hmem, hacc⟩

theorem slotRun_mac4 {c : SlotIn} (hop : opOf p = 1) (hm : mOk p = true) (hacc : mAcc p % 4 = 0)
    (hx : c.ptrFault (c.r.ptr (mPx p)) 8 false = none) (hy : c.ptrFault (c.r.ptr (mPy p)) 8 false = none) :
    slotRun c p = .ok { c.accumulate p ((products (c.operands p 4).1 (c.operands p 4).2.1).zipIdx.map fun e => (mAcc p + e.2, e.1)) with
      ptr := c.moved p 8 true } := by
  simp only [slotRun, hop, if_pos hm, opMac4, hacc]
  exact noFault_two hx hy _ _ _

theorem slotRun_dot4 {c : SlotIn} (hop : opOf p = 2) (hm : mOk p = true)
    (hx : c.ptrFault (c.r.ptr (mPx p)) 8 false = none) (hy : c.ptrFault (c.r.ptr (mPy p)) 8 false = none) :
    slotRun c p = .ok { c.accumulate p [(mAcc p, sumZ (products (c.operands p 4).1 (c.operands p 4).2.1))] with ptr := c.moved p 8 true } := by
  simp only [slotRun, hop, if_pos hm, opDot4]
  exact noFault_two hx hy _ _ _

/-- The imaginary part of y that CMAC multiplies by. -/
def SlotIn.cmacIm (c : SlotIn) (p : Nat) : Int :=
  if mConj p then -((c.operands p 2).2.1.getD 1 0) else (c.operands p 2).2.1.getD 1 0

theorem slotRun_cmac {c : SlotIn} (hop : opOf p = 3) (hm : mOk p = true) (hacc : mAcc p % 2 = 0)
    (hx : c.ptrFault (c.r.ptr (mPx p)) 4 false = none) (hy : c.ptrFault (c.r.ptr (mPy p)) 4 false = none) :
    slotRun c p = .ok { c.accumulate p
      [(mAcc p, (c.operands p 2).1.getD 0 0 * (c.operands p 2).2.1.getD 0 0 - (c.operands p 2).1.getD 1 0 * c.cmacIm p),
        (mAcc p + 1, (c.operands p 2).1.getD 0 0 * c.cmacIm p + (c.operands p 2).1.getD 1 0 * (c.operands p 2).2.1.getD 0 0)] with
      ptr := c.moved p 4 true } := by
  simp only [slotRun, hop, if_pos hm, opCmac, hacc]
  exact noFault_two hx hy _ _ _

theorem slotRun_tapmv {c : SlotIn} (hop : opOf p = 4) (hm : mOk p = true) (hmaint : c.maint = true)
    (hx : c.ptrFault (c.r.ptr (mPx p)) 8 false = none) (hy : c.ptrFault (c.r.ptr (mPy p)) 8 false = none) {line : List Int}
    (hline : line = sx 16 c.r.tapc :: (c.operands p 4).2.1.take 3) :
    slotRun c p = .ok { c.accumulate p [(mAcc p, sumZ (products (c.operands p 4).1 line))] with
      ptr := c.moved p 8 true, tapc := some (ux 16 ((c.operands p 4).2.1.getD 3 0)),
      stores := [((c.r.ptr (mPy p)).addr, line.flatMap fun z => bytesLE 2 (ux 16 z))] } := by
  subst hline
  simp only [slotRun, hop, if_pos hm, opTapmv, hmaint]
  exact noFault_two hx hy _ _ _

/-- The effect of a store of accumulators. -/
def SlotIn.storesAcc (c : SlotIn) (p k : Nat) : SlotOut :=
  let exact := (List.range k).map fun i => divRound (c.r.accu (mAcc p + i)) (2 ^ mSh p)
  let vals := exact.map (satS 16)
  { SlotOut.nothing with
    ptr := c.moved p (2 * k) false, stores := [((c.r.ptr (mPy p)).addr, vals.flatMap fun z => bytesLE 2 (ux 16 z))],
    bex := some ((vals.map blockExp).foldl max c.r.bex), stSat := vals != exact }

theorem storeAcc_ok {c : SlotIn} {k : Nat} (hy : c.ptrFault (c.r.ptr (mPy p)) (2 * k) true = none) : storeAcc c p k = .ok (c.storesAcc p k) :=
  noFault_one hy _ _

theorem slotRun_storeAcc {c : SlotIn} {k : Nat} (hop : opOf p = 5 ∧ k = 4 ∨ opOf p = 6 ∧ k = 2) (hm : mOk p = true) (hfits : mAcc p + k ≤ 8)
    (hy : c.ptrFault (c.r.ptr (mPy p)) (2 * k) true = none) : slotRun c p = .ok (c.storesAcc p k) := by
  rcases hop with ⟨hop, rfl⟩ | ⟨hop, rfl⟩
  · simp only [slotRun, hop, if_pos hm, opSta4, if_neg (by omega : ¬ mAcc p > 4)]
    exact storeAcc_ok hy
  · simp only [slotRun, hop, if_pos hm, opStc, if_neg (by omega : ¬ mAcc p > 6)]
    exact storeAcc_ok hy

theorem exec_engTapmv (hs : s.stored) (g : s.RunsBundle n p) (hop : opOf p = 4) (hm : mOk p = true)
    (hmaint : s.on (Reg.ENG_STAT_MODE n) = true)
    (hx : (s.firmwareSlot n).ptrFault ((s.engine n).r.ptr (mPx p)) 8 false = none)
    (hy : (s.firmwareSlot n).ptrFault ((s.engine n).r.ptr (mPy p)) 8 false = none) {line : List Int}
    (hline : line = sx 16 (s.engine n).r.tapc :: ((s.firmwareSlot n).operands p 4).2.1.take 3) :
    ∃ t, exec (.engTapmv n) s = .next t ∧
      (t.engine n).r = ((s.engine n).r.apply
        { (s.firmwareSlot n).accumulate p [(mAcc p, sumZ (products ((s.firmwareSlot n).operands p 4).1 line))] with
          ptr := (s.firmwareSlot n).moved p 8 true,
          tapc := some (ux 16 (((s.firmwareSlot n).operands p 4).2.1.getD 3 0)) }).flow .next ∧
      t.devMem = (s.devWrite (engData n + ((s.engine n).r.ptr (mPy p)).addr) (line.flatMap fun z => bytesLE 2 (ux 16 z))).devMem := by
  obtain ⟨hregs, hmem, -⟩ := g.bundle_leaves hs hop rfl (slotRun_tapmv (c := s.firmwareSlot n) hop hm hmaint hx hy hline) rfl
  exact ⟨_, rfl, hregs, hmem⟩

theorem exec_storeAcc (hs : s.stored) (g : s.RunsBundle n p) {k : Nat} {con : Instr}
    (hcon : opOf p = 5 ∧ k = 4 ∧ con = .engSta4 n ∨ opOf p = 6 ∧ k = 2 ∧ con = .engStc n) (hm : mOk p = true) (hfits : mAcc p + k ≤ 8)
    (hy : (s.firmwareSlot n).ptrFault ((s.engine n).r.ptr (mPy p)) (2 * k) true = none) :
    let r := (s.engine n).r
    let out := (List.range k).map fun i => satS 16 (divRound (r.accu (mAcc p + i)) (2 ^ mSh p))
    ∃ t, exec con s = .next t ∧ (t.engine n).r = (r.apply { SlotOut.nothing with
        ptr := (s.firmwareSlot n).moved p (2 * k) false, bex := some ((out.map blockExp).foldl max r.bex) }).flow .next ∧
      t.devMem = (s.devWrite (engData n + (r.ptr (mPy p)).addr) (out.flatMap fun (z : Int) => bytesLE 2 (ux 16 z))).devMem := by
  intro r out
  have hop : opOf p = 5 ∧ k = 4 ∨ opOf p = 6 ∧ k = 2 := hcon.imp (fun h => ⟨h.1, h.2.1⟩) fun h => ⟨h.1, h.2.1⟩
  have hslot := slotRun_storeAcc (c := s.firmwareSlot n) hop hm hfits hy
  have hout : ((List.range k).map fun i => divRound (r.accu (mAcc p + i)) (2 ^ mSh p)).map (satS 16) = out := List.map_map
  have heffect : (s.firmwareSlot n).storesAcc p k = { SlotOut.nothing with
      ptr := (s.firmwareSlot n).moved p (2 * k) false, bex := some ((out.map blockExp).foldl max r.bex),
      stores := [((r.ptr (mPy p)).addr, out.flatMap fun z => bytesLE 2 (ux 16 z))], stSat := ((s.firmwareSlot n).storesAcc p k).stSat } := by
    rw [← hout]
    rfl
  rw [heffect] at hslot
  rcases hcon with ⟨hop, -, rfl⟩ | ⟨hop, -, rfl⟩
  · obtain ⟨hregs, hmem, -⟩ := g.bundle_leaves hs hop rfl hslot rfl
    exact ⟨_, rfl, hregs, hmem⟩
  · obtain ⟨hregs, hmem, -⟩ := g.bundle_leaves hs hop rfl hslot rfl
    exact ⟨_, rfl, hregs, hmem⟩

/-! ## Loads and stores -/

theorem SlotOut.plain_flow {o : SlotOut} (hstores : o.stores = []) (hacc : o.accSat = false) (hst : o.stSat = false) (hs : s.stored)
    (hfirm : s.kernelRuns n = false) :
    s.commitBundle n none o SlotOut.nothing = (s.ranBundle n o.cycles (((s.engine n).r.apply o).flow o.flow)).engFlow n o.flow := by
  rw [State.commitBundle_firmware hs hfirm, s.bundleStored_plain n hstores (by rw [hacc]; rfl) (by rw [hst]; rfl)]
  rfl

/-- A bundle with one instruction in slot P without stores and sticky flags: its registers, then what its flow asks of the device. -/
theorem State.RunsBundle.bundle_flow (hs : s.stored) (g : s.RunsBundle n p) {op : Nat} (hop : opOf p = op) (hknown : knownOp op = true)
    {o : SlotOut} (ho : slotRun (s.firmwareSlot n) p = .ok o) (hstores : o.stores = []) (hacc : o.accSat = false) (hst : o.stSat = false) :
    s.bundle n op = (s.ranBundle n o.cycles (((s.engine n).r.apply o).flow o.flow)).engFlow n o.flow :=
  (g.bundle (bundleRow_of_op hop hknown) ho).trans (SlotOut.plain_flow hstores hacc hst hs g.firmware)

theorem State.bundleCounted_devWrite (u : State) (n k a : Nat) (l : List Nat) :
    (u.devWrite a l).bundleCounted n k = (u.bundleCounted n k).devWrite a l := rfl

/-- A bundle whose one instruction stores bytes in the data memory. -/
theorem State.RunsBundle.bundle_store (hs : s.stored) (g : s.RunsBundle n p) {op : Nat} (hop : opOf p = op) (hknown : knownOp op = true)
    {a : Nat} {l : List Nat} (ho : slotRun (s.firmwareSlot n) p = .ok { SlotOut.nothing with stores := [(a, l)] }) :
    s.bundle n op = (s.ranBundle n 1 ((s.engine n).r.flow .next)).devWrite (engData n + a) l := by
  rw [g.bundle (bundleRow_of_op hop hknown) ho, State.commitBundle_firmware hs g.firmware]
  rfl

end
end Sys2Proof.Machine
end

section
namespace Sys2Proof.Machine
open Sys2Proof

section
variable {s : State} {n p : Nat}

theorem exec_engLdg_data (hs : s.stored) (g : s.RunsBundle n p) (hop : opOf p = 0x20)
    (haligned : (s.firmwareSlot n).ea p 4 % 4 = 0) (hdata : (s.firmwareSlot n).ea p 4 < 0x40000) :
    exec (.engLdg n) s = .next (s.ranBundle n 1
      (((s.engine n).r.setReg (fRd p) (s.devMem.readLE (engData n + (s.firmwareSlot n).ea p 4) 4)).flow .next)) := by
  have hslot : slotRun (s.firmwareSlot n) p =
      .ok (.ofReg (fRd p) (s.devMem.readLE (engData n + (s.firmwareSlot n).ea p 4) 4)) := by
    simp only [slotRun, hop, opLdg, if_pos hdata]
    exact noFault_one (SlotIn.accessFault_data rfl haligned hdata) _ _
  have hbundle := g.bundle_flow hs hop rfl hslot rfl rfl rfl
  exact congrArg Host.Outcome.next hbundle

theorem exec_engStg_data (hs : s.stored) (g : s.RunsBundle n p) (hop : opOf p = 0x21)
    (haligned : (s.firmwareSlot n).ea p 4 % 4 = 0) (hdata : (s.firmwareSlot n).ea p 4 < 0x40000) :
    exec (.engStg n) s = .next ((s.ranBundle n 1 ((s.engine n).r.flow .next)).devWrite (engData n + (s.firmwareSlot n).ea p 4)
      (bytesLE 4 ((s.engine n).r.reg (fRb p)))) := by
  have hslot : slotRun (s.firmwareSlot n) p = .ok { SlotOut.nothing with
      stores := [((s.firmwareSlot n).ea p 4, bytesLE 4 ((s.engine n).r.reg (fRb p)))] } := by
    simp only [slotRun, hop, opStg, if_pos hdata]
    exact noFault_one (SlotIn.accessFault_data rfl haligned hdata) _ _
  exact congrArg Host.Outcome.next (g.bundle_store hs hop rfl hslot)

theorem exec_engSth_data (hs : s.stored) (g : s.RunsBundle n p) (hop : opOf p = 0x2C)
    (haligned : (s.firmwareSlot n).ea p 2 % 2 = 0) (hdata : (s.firmwareSlot n).ea p 2 < 0x40000) :
    exec (.engSth n) s = .next ((s.ranBundle n 1 ((s.engine n).r.flow .next)).devWrite (engData n + (s.firmwareSlot n).ea p 2)
      (bytesLE 2 ((s.engine n).r.reg (fRb p)))) := by
  have hslot : slotRun (s.firmwareSlot n) p = .ok { SlotOut.nothing with
      stores := [((s.firmwareSlot n).ea p 2, bytesLE 2 ((s.engine n).r.reg (fRb p)))] } := by
    simp only [slotRun, hop, opSth]
    exact noFault_one (SlotIn.accessFault_data rfl haligned hdata) _ _
  exact congrArg Host.Outcome.next (g.bundle_store hs hop rfl hslot)

section
variable (haligned : (s.firmwareSlot n).ea p 4 % 4 = 0) (hlow : 0x400000 ≤ (s.firmwareSlot n).ea p 4)
  (hhigh : (s.firmwareSlot n).ea p 4 < 0x800000) (hreach : engineReach n ((s.firmwareSlot n).ea p 4 - 0x400000) = true)
include haligned hlow hhigh hreach

theorem exec_engLdg_regs (hs : s.stored) (g : s.RunsBundle n p) (hop : opOf p = 0x20) :
    let u := s.ranBundle n 1 ((s.engine n).r.flow .next)
    let off := (s.firmwareSlot n).ea p 4 - 0x400000
    exec (.engLdg n) s = .next
      ((u.latch (.engine n) off).modEngine n fun e => { e with r := e.r.setReg (fRd p) (u.readAs (.engine n) off) }) := by
  intro u off
  have hdata : ¬ (s.firmwareSlot n).ea p 4 < 0x40000 := by omega
  have hslot : slotRun (s.firmwareSlot n) p = .ok { SlotOut.nothing with flow := .load (fRd p) off } := by
    simp only [slotRun, hop, opLdg, if_neg hdata]
    exact noFault_one (SlotIn.accessFault_regs (c := s.firmwareSlot n) rfl haligned hlow hhigh hreach) _ _
  have hbundle := g.bundle_flow hs hop rfl hslot rfl rfl rfl
  exact congrArg Host.Outcome.next hbundle

theorem exec_engStg_regs (hs : s.stored) (g : s.RunsBundle n p) (hop : opOf p = 0x21) :
    exec (.engStg n) s = .next ((s.ranBundle n 1 ((s.engine n).r.flow .next)).writeReg (.engine n)
      ((s.firmwareSlot n).ea p 4 - 0x400000) ((s.engine n).r.reg (fRb p))) := by
  have hdata : ¬ (s.firmwareSlot n).ea p 4 < 0x40000 := by omega
  have hslot : slotRun (s.firmwareSlot n) p = .ok { SlotOut.nothing with
      flow := .store ((s.firmwareSlot n).ea p 4 - 0x400000) ((s.engine n).r.reg (fRb p)) } := by
    simp only [slotRun, hop, opStg, if_neg hdata]
    exact noFault_one (SlotIn.accessFault_regs (c := s.firmwareSlot n) rfl haligned hlow hhigh hreach) _ _
  have hbundle := g.bundle_flow hs hop rfl hslot rfl rfl rfl
  exact congrArg Host.Outcome.next hbundle

end

theorem exec_protect (g : s.RunsBundle n p) {con : Instr} {w : Nat}
    (hcon : opOf p = 0x20 ∧ con = .engLdg n ∧ w = 4 ∨ opOf p = 0x21 ∧ con = .engStg n ∧ w = 4 ∨ opOf p = 0x2C ∧ con = .engSth n ∧ w = 2)
    (haligned : (s.firmwareSlot n).ea p w % w = 0) (hout : 0x40000 ≤ (s.firmwareSlot n).ea p w)
    (hbad : w = 2 ∨ (s.firmwareSlot n).ea p w < 0x400000 ∨ 0x800000 ≤ (s.firmwareSlot n).ea p w ∨
      engineReach n ((s.firmwareSlot n).ea p w - 0x400000) = false) :
    exec con s = .next (s.engFault n 3 (s.engine n).r.pc false ((s.firmwareSlot n).ea p w)) := by
  have fault : ∀ {op : Nat}, opOf p = op → knownOp op = true →
      slotRun (s.firmwareSlot n) p = .error (3, (s.firmwareSlot n).ea p w) →
      (.next (s.bundle n op) : Host.Outcome State Fault Refusal) = .next (s.engFault n 3 (s.engine n).r.pc false ((s.firmwareSlot n).ea p w)) :=
    fun hop hknown hslot => congrArg Host.Outcome.next
      (g.bundle_fault (f := (3, (s.firmwareSlot n).ea p w)) (bundleRow_of_op hop hknown) hslot)
  have hnoFault : ∀ {b : Option Nat} (k : SlotOut), b = some 3 →
      noFault [(b, (s.firmwareSlot n).ea p w)] k = .error (3, (s.firmwareSlot n).ea p w) := by
    rintro b k rfl
    rfl
  rcases hcon with ⟨hop, rfl, rfl⟩ | ⟨hop, rfl, rfl⟩ | ⟨hop, rfl, rfl⟩
  · refine fault hop rfl ?_
    simp only [slotRun, hop, opLdg]
    exact hnoFault _ (SlotIn.accessFault_protect haligned hout (.inr (hbad.resolve_left (by decide))))
  · refine fault hop rfl ?_
    simp only [slotRun, hop, opStg]
    exact hnoFault _ (SlotIn.accessFault_protect haligned hout (.inr (hbad.resolve_left (by decide))))
  · refine fault hop rfl ?_
    simp only [slotRun, hop, opSth]
    exact hnoFault _ (SlotIn.accessFault_protect haligned hout (.inl rfl))

end

/-- Settles O42: each instruction by the effect of its slot. That CLR, SUB and CONJ have no effect elsewhere, that addresses are taken modulo
2^32 and that PROTECT is raised at 2^24 and above is the model's choice (assumption log 135). -/
theorem enginesUseTheirMemory : Obligations.EnginesUseTheirMemory := by
  intro s n p hs g hform r c readable vals sums
  have hm : ∀ {op : Nat}, opOf p = op → op < 0x20 → mOk p = true := fun hop hlt => hform.resolve_right (by omega)
  refine ⟨fun hop hacc hx hy => g.bundle_sums hs hop rfl (slotRun_mac4 (c := c) hop (hm hop (by decide)) hacc hx hy),
    fun hop hx hy => g.bundle_sums hs hop rfl (slotRun_dot4 (c := c) hop (hm hop (by decide)) hx hy),
    fun hop hacc hx hy => g.bundle_sums hs hop rfl (slotRun_cmac (c := c) hop (hm hop (by decide)) hacc hx hy),
    fun hop hmaint hx hy => exec_engTapmv hs g hop (hm hop (by decide)) hmaint hx hy rfl,
    fun k con hcon hfits hy => exec_storeAcc hs g hcon (hcon.elim (fun h => hm h.1 (by decide)) fun h => hm h.1 (by decide)) hfits hy,
    fun hop haligned hdata => exec_engLdg_data hs g hop haligned hdata, fun hop haligned hdata => exec_engStg_data hs g hop haligned hdata,
    fun hop haligned hdata => exec_engSth_data hs g hop haligned hdata, ?_,
    fun con w hcon haligned hout hbad => exec_protect g hcon haligned hout hbad⟩
  exact fun haligned hlow hhigh hreach => ⟨fun hop => exec_engLdg_regs haligned hlow hhigh hreach hs g hop,
    fun hop => exec_engStg_regs haligned hlow hhigh hreach hs g hop⟩

end Sys2Proof.Machine
end

section
/-! The instructions that set the bundle that follows, stop the engine, or ask for a service (R331 to R333, R343). -/
namespace Sys2Proof.Machine
open Sys2Proof

section
variable {s : State} {n p : Nat}

theorem EngRegs.apply_flowOnly (r : EngRegs) (k : Nat) (f : Flow) : r.apply { SlotOut.nothing with flow := f, cycles := k } = r := rfl

/-- A bundle whose one instruction has a flow and no other effect. -/
theorem State.RunsBundle.bundle_flowOnly (hs : s.stored) (g : s.RunsBundle n p) {op k : Nat} (hop : opOf p = op) (hknown : knownOp op = true)
    {f : Flow} (ho : slotRun (s.firmwareSlot n) p = .ok { SlotOut.nothing with flow := f, cycles := k }) :
    s.bundle n op = (s.ranBundle n k ((s.engine n).r.flow f)).engFlow n f := by
  have hbundle := g.bundle_flow hs hop hknown ho rfl rfl rfl
  rw [EngRegs.apply_flowOnly] at hbundle
  exact hbundle

theorem exec_engBr (hs : s.stored) (g : s.RunsBundle n p) (hop : opOf p = 0x30) (hcond : cCond p ≤ 4) :
    exec (.engBr n) s = .next (if condHolds (cCond p) ((s.engine n).r.reg (cRa p)) then
      s.ranBundle n 2 { (s.engine n).r with pc := cTarget p % 2 ^ 15 } else s.ranBundle n 1 ((s.engine n).r.flow .next)) := by
  refine congrArg Host.Outcome.next ?_
  by_cases hholds : condHolds (cCond p) ((s.engine n).r.reg (cRa p)) = true
  · have hslot : slotRun (s.firmwareSlot n) p = .ok { SlotOut.nothing with flow := .jump (cTarget p % 2 ^ 15), cycles := 2 } := by
      simp only [slotRun, hop, opBr, if_neg (not_lt.mpr hcond), if_pos hholds]
    rw [if_pos hholds]
    exact g.bundle_flowOnly hs hop rfl hslot
  · have hslot : slotRun (s.firmwareSlot n) p = .ok { SlotOut.nothing with flow := .next, cycles := 1 } := by
      simp only [slotRun, hop, opBr, if_neg (not_lt.mpr hcond), if_neg hholds]
      rfl
    rw [if_neg hholds]
    exact g.bundle_flowOnly hs hop rfl hslot

theorem exec_engCall (hs : s.stored) (g : s.RunsBundle n p) (hop : opOf p = 0x31) :
    exec (.engCall n) s = .next (s.ranBundle n 2
      { (s.engine n).r.setReg 15 (((s.engine n).r.pc + 1) % 2 ^ 15) with pc := cTarget p % 2 ^ 15 }) := by
  have hslot : slotRun (s.firmwareSlot n) p = .ok { SlotOut.ofReg 15 (((s.engine n).r.pc + 1) % 2 ^ 15) with
      flow := .jump (cTarget p % 2 ^ 15), cycles := 2 } := by
    simp only [slotRun, hop, opCall]
  have hbundle := g.bundle_flow hs hop rfl hslot rfl rfl rfl
  exact congrArg Host.Outcome.next hbundle

theorem exec_engRet (hs : s.stored) (g : s.RunsBundle n p) (hop : opOf p = 0x32) :
    exec (.engRet n) s = .next (s.ranBundle n 2 { (s.engine n).r with pc := (s.engine n).r.reg 15 % 2 ^ 15 }) := by
  have hslot : slotRun (s.firmwareSlot n) p = .ok { SlotOut.nothing with
      flow := .jump ((s.engine n).r.reg 15 % 2 ^ 15), cycles := 2 } := by
    simp only [slotRun, hop, opRet]
  exact congrArg Host.Outcome.next (g.bundle_flowOnly hs hop rfl hslot)

/-- LOOP with a free level sets its level, or skips the loop where its count is 0. -/
theorem exec_engLoop (hs : s.stored) (g : s.RunsBundle n p) (hop : opOf p = 0x33) (hfree : (s.engine n).r.loops.length < 2) :
    exec (.engLoop n) s = .next (s.ranBundle n 1
      ((s.engine n).r.flow (.loop (cTarget p % 2 ^ 15) ((s.engine n).r.reg (cRa p))))) := by
  have hslot : slotRun (s.firmwareSlot n) p = .ok { SlotOut.nothing with
      flow := .loop (cTarget p % 2 ^ 15) ((s.engine n).r.reg (cRa p)), cycles := 1 } := by
    simp only [slotRun, hop, opLoop, ge_iff_le, if_neg (not_le.mpr hfree)]
    rfl
  exact congrArg Host.Outcome.next (g.bundle_flowOnly hs hop rfl hslot)

theorem exec_engLoop_enters (hs : s.stored) (g : s.RunsBundle n p) (hop : opOf p = 0x33) (hfree : (s.engine n).r.loops.length < 2)
    (hcount : 0 < (s.engine n).r.reg (cRa p)) :
    let r := (s.engine n).r
    exec (.engLoop n) s = .next (s.ranBundle n 1
      { r with loops := ⟨(r.pc + 1) % 2 ^ 15, cTarget p % 2 ^ 15, r.reg (cRa p)⟩ :: r.loops, pc := (r.pc + 1) % 2 ^ 15 }) := by
  intro r
  have hloop := exec_engLoop hs g hop hfree
  obtain ⟨k, hk⟩ : ∃ k, r.reg (cRa p) = k + 1 := Nat.exists_eq_succ_of_ne_zero (Nat.pos_iff_ne_zero.mp hcount)
  rw [hk] at hloop ⊢
  exact hloop

theorem exec_engLoop_skips (hs : s.stored) (g : s.RunsBundle n p) (hop : opOf p = 0x33) (hfree : (s.engine n).r.loops.length < 2)
    (hcount : (s.engine n).r.reg (cRa p) = 0) :
    let r := (s.engine n).r
    exec (.engLoop n) s = .next (s.ranBundle n 1
      (let e := loopEnd r.loops (cTarget p % 2 ^ 15)
       { r with loops := e.1, pc := e.2 })) := by
  have hloop := exec_engLoop hs g hop hfree
  rw [hcount] at hloop
  exact hloop

/-! ## ILLEGAL -/

/-- An opcode outside the table is ILLEGAL, but for the zero word. -/
theorem slotRun_unknown (c : SlotIn) {w : Nat} (hw : w ≠ 0) (hop : knownOp (opOf w) = false) : slotRun c w = .error (1, 0) := by
  have hne : ∀ {k : Nat}, knownOp k = true → opOf w ≠ k := by
    rintro k hk rfl
    exact absurd (hk.symm.trans hop) (by decide)
  unfold slotRun
  dsimp only
  split
  case h_1 => exact if_neg hw
  case h_41 => rfl
  all_goals next hk => exact absurd hk (hne rfl)

theorem exec_illegal (g : s.RunsBundle n p) {con : Instr}
    (hcon : opOf p = 0x30 ∧ con = .engBr n ∧ 4 < cCond p ∨ opOf p = 0x33 ∧ con = .engLoop n ∧ 2 ≤ (s.engine n).r.loops.length ∨
      opOf p = 0x34 ∧ con = .engWait n ∧ bits p 7 9 ≠ 0 ∨ opOf p = 0x38 ∧ con = .engRetk n ∨
      con = .engNopBundle n ∧ p ≠ 0 ∧ knownOp (opOf p) = false) :
    exec con s = .next (s.engFault n 1 (s.engine n).r.pc false 0) := by
  have fault : ∀ {row : Nat}, bundleRow p 0 = row → slotRun (s.firmwareSlot n) p = .error (1, 0) →
      (.next (s.bundle n row) : Host.Outcome State Fault Refusal) = .next (s.engFault n 1 (s.engine n).r.pc false 0) :=
    fun hrow hslot => congrArg Host.Outcome.next (g.bundle_fault (f := (1, 0)) hrow hslot)
  rcases hcon with ⟨hop, rfl, hcond⟩ | ⟨hop, rfl, hlevels⟩ | ⟨hop, rfl, hmask⟩ | ⟨hop, rfl⟩ | ⟨rfl, hp, hunknown⟩
  · exact fault (bundleRow_of_op hop rfl) (by simp only [slotRun, hop, opBr, gt_iff_lt, if_pos hcond])
  · exact fault (bundleRow_of_op hop rfl) (by simp only [slotRun, hop, opLoop, ge_iff_le, if_pos hlevels])
  · exact fault (bundleRow_of_op hop rfl) (by simp only [slotRun, hop, opWait, if_pos hmask])
  · exact fault (bundleRow_of_op hop rfl) (by simp only [slotRun, hop, opRetk]; rfl)
  · refine fault ?_ (slotRun_unknown _ hp hunknown)
    rw [bundleRow, if_neg hp, hunknown]
    rfl

theorem exec_engHalt (g : s.RunsBundle n p) (hop : opOf p = 0x3F) :
    exec (.engHalt n) s = .next (s.engFault n 5 (s.engine n).r.pc false 0) := by
  have hslot : slotRun (s.firmwareSlot n) p = .error (5, 0) := by
    simp only [slotRun, hop, opHalt]
    rfl
  have hbundle : s.bundle n 0x3F = s.engFault n 5 (s.engine n).r.pc false 0 := g.bundle_fault (f := (5, 0)) (bundleRow_of_op hop rfl) hslot
  exact congrArg Host.Outcome.next hbundle

/-! ## WAIT, TRAP, FENCE and RETK -/

theorem exec_engFence (hs : s.stored) (g : s.RunsBundle n p) (hop : opOf p = 0x36) :
    exec (.engFence n) s = .next (s.ranBundle n 1 ((s.engine n).r.flow .next)) := by
  have hslot : slotRun (s.firmwareSlot n) p = .ok { SlotOut.nothing with flow := .next, cycles := 1 } := by
    simp only [slotRun, hop, opFence]
    rfl
  exact congrArg Host.Outcome.next (g.bundle_flowOnly hs hop rfl hslot)

theorem State.ranBundle_stored (hs : s.stored) (k : Nat) (r : EngRegs) : (s.ranBundle n k r).stored :=
  State.add64_stored (s := s.modEngine n fun e => { e with r := r }) _ _ hs

theorem State.ranBundle_engine (s : State) (n k : Nat) (r : EngRegs) : (s.ranBundle n k r).engine n = { s.engine n with r := r } :=
  (State.engine_modEngine s n (fun e => { e with r := r }) n).trans (if_pos rfl)

theorem exec_engWait (hs : s.stored) (g : s.RunsBundle n p) (hop : opOf p = 0x34) (hmask : bits p 7 9 = 0) :
    ∃ t, exec (.engWait n) s = .next t ∧ t.get (Reg.ENG_STAT_STATE n) = 2 ∧
      (t.engine n).wait = some (cRa p, bits p 0 7) ∧ (t.engine n).r = (s.engine n).r.flow .next ∧ (t.engine n).yieldAt = s.now := by
  have hslot : slotRun (s.firmwareSlot n) p = .ok { SlotOut.nothing with flow := .wait (cRa p) (bits p 0 7), cycles := 1 } := by
    simp only [slotRun, hop, opWait, hmask]
    rfl
  have hbundle := g.bundle_flowOnly hs hop rfl hslot
  have hran := s.ranBundle_engine n 1 ((s.engine n).r.flow (.wait (cRa p) (bits p 0 7)))
  have hstored := State.ranBundle_stored (n := n) hs 1 ((s.engine n).r.flow (.wait (cRa p) (bits p 0 7)))
  have hnow : (s.ranBundle n 1 ((s.engine n).r.flow (.wait (cRa p) (bits p 0 7)))).now = s.now := rfl
  generalize s.ranBundle n 1 ((s.engine n).r.flow (.wait (cRa p) (bits p 0 7))) = u at hbundle hran hstored hnow
  have hengine : ((u.engFlow n (.wait (cRa p) (bits p 0 7))).engine n) =
      { u.engine n with wait := some (cRa p, bits p 0 7), yieldAt := u.now } :=
    (State.engine_modEngine u n (fun e => { e with wait := some (cRa p, bits p 0 7), yieldAt := u.now }) n).trans (if_pos rfl)
  have hwaits : (u.modEngine n fun e => { e with wait := some (cRa p, bits p 0 7), yieldAt := u.now }).stored := hstored
  refine ⟨_, congrArg Host.Outcome.next hbundle, (State.put_shows hwaits (Reg.ENG_STAT_STATE n) 2 rfl (Nat.le_of_ble_eq_true rfl)).value, ?_⟩
  rw [hengine, hran, hnow]
  exact ⟨rfl, rfl, rfl⟩

theorem exec_engTrap (hs : s.stored) (g : s.RunsBundle n p) (hop : opOf p = 0x35) :
    ∃ t, exec (.engTrap n) s = .next t ∧ t.eng.mailbox = s.eng.mailbox ++ [(n, bits p 0 8)] ∧
      (t.engine n).r = (s.engine n).r.flow .next ∧ (t.engine n).yieldAt = s.now := by
  have hslot : slotRun (s.firmwareSlot n) p = .ok { SlotOut.nothing with flow := .trap (bits p 0 8), cycles := 40 } := by
    simp only [slotRun, hop, opTrap]
  have hbundle := g.bundle_flowOnly hs hop rfl hslot
  have hran := s.ranBundle_engine n 40 ((s.engine n).r.flow (.trap (bits p 0 8)))
  have hget : (s.ranBundle n 40 ((s.engine n).r.flow (.trap (bits p 0 8)))).get (Reg.ENG_STAT_KRUN n) = s.get (Reg.ENG_STAT_KRUN n) :=
    (((State.shows hs (Reg.ENG_STAT_KRUN n)).updEng _).add64 (engCyc_apart_stat n n 5 1)).value
  have hfirm : (s.ranBundle n 40 ((s.engine n).r.flow (.trap (bits p 0 8)))).kernelRuns n = false := (congrArg (· == 1) hget).trans g.firmware
  have hnow : (s.ranBundle n 40 ((s.engine n).r.flow (.trap (bits p 0 8)))).now = s.now := rfl
  have hbox : (s.ranBundle n 40 ((s.engine n).r.flow (.trap (bits p 0 8)))).eng.mailbox = s.eng.mailbox := rfl
  generalize s.ranBundle n 40 ((s.engine n).r.flow (.trap (bits p 0 8))) = u at hbundle hran hfirm hnow hbox
  have hflow : u.engFlow n (.trap (bits p 0 8)) = { (u.modEngine n fun e => { e with yieldAt := u.now }) with
      eng := { (u.modEngine n fun e => { e with yieldAt := u.now }).eng with mailbox := u.eng.mailbox ++ [(n, bits p 0 8)] } } := by
    unfold State.engFlow
    dsimp only
    rw [if_neg (by rw [hfirm]; decide)]
    rfl
  have hengine : (u.engFlow n (.trap (bits p 0 8))).engine n = { u.engine n with yieldAt := u.now } := by
    rw [hflow]
    exact (State.engine_modEngine u n (fun e => { e with yieldAt := u.now }) n).trans (if_pos rfl)
  refine ⟨_, congrArg Host.Outcome.next hbundle, ?_, ?_⟩
  · rw [hflow, hbox]
  · rw [hengine, hran, hnow]
    exact ⟨rfl, rfl⟩

end
end Sys2Proof.Machine
end

section
namespace Sys2Proof.Machine
open Sys2Proof

/-! ## The end of a kernel (R343, R344) -/

section
variable {s : State} {n p : Nat} {k : Kernel}

theorem State.ranBundle_budgetUsed (s : State) (n c : Nat) (r : EngRegs) : (s.ranBundle n c r).budgetUsed n = s.budgetUsed n := by
  have hengine := congrArg Engine.kRun (s.ranBundle_engine n c r)
  have hnow : (s.ranBundle n c r).now = s.now := rfl
  unfold State.budgetUsed
  rw [hengine, hnow]

theorem State.ranBundle_budgetOf (hs : s.stored) (n c : Nat) (r : EngRegs) (k : Kernel) : (s.ranBundle n c r).budgetOf k = s.budgetOf k := by
  have hlevel : (s.ranBundle n c r).get Reg.THM_STAT_LEVEL = s.get Reg.THM_STAT_LEVEL :=
    (((State.shows hs Reg.THM_STAT_LEVEL).updEng _).add64 (by
      simp only [Reg.THM_STAT_LEVEL, Reg.THM_STAT, Reg.ENG_CYC]; omega)).value
  unfold State.budgetOf
  rw [hlevel]

/-- In a solve window a kernel's bundle within its budget is committed as firmware's is, but for what counts against the budget. -/
theorem State.commitBundle_kernel (hs : s.stored) (hsolves : s.beam.solves ≠ []) (hbudget : s.budgetUsed n ≤ s.budgetOf k) {f : Flow} {c : Nat} :
    s.commitBundle n (some k) { SlotOut.nothing with flow := f, cycles := c } SlotOut.nothing =
      (s.ranBundle n c ((s.engine n).r.flow f)).engFlow n f := by
  have hempty : s.beam.solves.isEmpty = false := List.isEmpty_eq_false_iff.mpr hsolves
  have hcount : (s.modEngine n fun e => { e with r := e.r.flow f }).countCycles n c =
      (s.modEngine n fun e => { e with r := e.r.flow f }).add64 (Reg.ENG_CYC n) c := by
    refine if_neg ?_
    have hbeam : ((s.modEngine n fun e => { e with r := e.r.flow f }).add64 (Reg.ENG_CYC n) c).beam.solves = s.beam.solves := rfl
    rw [hbeam, hempty, Bool.and_false]
    exact Bool.false_ne_true
  have heq : s.commitBundle n (some k) { SlotOut.nothing with flow := f, cycles := c } SlotOut.nothing =
      (let u : State := { (s.modEngine n fun e => { e with r := e.r.flow f }).countCycles n c with free := s.free + 4 }
       if u.budgetUsed n > u.budgetOf k then u.engFault n 6 (s.engine n).r.pc false 0 else u.engFlow n f) := rfl
  have hran : ({ (s.modEngine n fun e => { e with r := e.r.flow f }).add64 (Reg.ENG_CYC n) c with free := s.free + 4 } : State) =
      s.ranBundle n c ((s.engine n).r.flow f) := rfl
  rw [heq, hcount, hran]
  exact if_neg (by rw [s.ranBundle_budgetUsed, State.ranBundle_budgetOf hs]; exact not_lt.mpr hbudget)

theorem State.endKernel_some {s : State} (hs : s.stored) {n : Nat} {saved : EngRegs × Option (Nat × Nat)}
    (hsaved : (s.engine n).saved = some saved) :
    ((s.endKernel n).engine n).r = saved.1 ∧ ((s.endKernel n).engine n).wait = saved.2 ∧ ((s.endKernel n).engine n).saved = none ∧
      (s.endKernel n).kernelRuns n = false := by
  obtain ⟨r, w⟩ := saved
  have hstored : (s.modEngine n fun e => { e with r := r, wait := w, saved := none, trap := none, yieldAt := s.now }).stored := hs
  have hend : s.endKernel n = ((s.modEngine n fun e => { e with r := r, wait := w, saved := none, trap := none, yieldAt := s.now }).put
      (Reg.ENG_STAT_KRUN n) 0).put (Reg.ENG_STAT_STATE n) (if w.isSome then 2 else 1) := by
    unfold State.endKernel
    rw [hsaved]
  have hengine : (s.endKernel n).engine n = { s.engine n with r := r, wait := w, saved := none, trap := none, yieldAt := s.now } := by
    rw [hend]
    exact (State.engine_modEngine s n (fun e => { e with r := r, wait := w, saved := none, trap := none, yieldAt := s.now }) n).trans
      (if_pos rfl)
  refine ⟨congrArg Engine.r hengine, congrArg Engine.wait hengine, congrArg Engine.saved hengine, ?_⟩
  rw [hend]
  exact ((State.put_shows hstored (Reg.ENG_STAT_KRUN n) 0 rfl (Nat.le_of_ble_eq_true rfl)).put
    ⟨Nat.le_of_ble_eq_true rfl, .inr (.inl (Nat.le_of_ble_eq_true rfl))⟩).off

theorem State.bundle_retk (hword : (s.engine n).prog.readLE (8 * (s.engine n).r.pc) 8 = p * 2 ^ 32) (hready : s.bundleReady n = true)
    (hkernel : s.kernelRuns n = true) (hk : (s.engine n).kernel = some k) (hlow : k.progPage * 512 ≤ (s.engine n).r.pc)
    (hhigh : (s.engine n).r.pc < (k.progPage + k.progPages) * 512) (hop : opOf p = 0x38) :
    s.bundle n 0x38 = s.commitBundle n (some k) { SlotOut.nothing with flow := .retk, cycles := 2 } SlotOut.nothing := by
  have h1 : p * 2 ^ 32 / 2 ^ 32 = p := by omega
  have h2 : p * 2 ^ 32 % 2 ^ 32 = 0 := by omega
  have hrow : bundleRow p 0 = 0x38 := bundleRow_of_op hop rfl
  have hslot : slotRun ⟨s, n, (s.engine n).r, some k, s.on (Reg.ENG_STAT_MODE n), s.free⟩ p =
      .ok { SlotOut.nothing with flow := .retk, cycles := 2 } := by
    simp only [slotRun, hop, opRetk]
    rfl
  have hq : ∀ c, slotQRun c 0 = .ok SlotOut.nothing := fun c => rfl
  have hclash : ({ SlotOut.nothing with flow := .retk, cycles := 2 } : SlotOut).clash SlotOut.nothing = false := rfl
  simp only [State.bundle, hword, h1, h2, hready, hkernel, hk, hrow, if_true]
  simp [hslot, hq, hclash, hlow, hhigh]

theorem exec_engRetk {saved : EngRegs × Option (Nat × Nat)} (hs : s.stored)
    (hword : (s.engine n).prog.readLE (8 * (s.engine n).r.pc) 8 = p * 2 ^ 32) (hready : s.bundleReady n = true)
    (hkernel : s.kernelRuns n = true) (hk : (s.engine n).kernel = some k) (hlow : k.progPage * 512 ≤ (s.engine n).r.pc)
    (hhigh : (s.engine n).r.pc < (k.progPage + k.progPages) * 512) (hop : opOf p = 0x38) (hsaved : (s.engine n).saved = some saved)
    (hsolves : s.beam.solves ≠ []) (hbudget : s.budgetUsed n ≤ s.budgetOf k) :
    ∃ t, exec (.engRetk n) s = .next t ∧ (t.engine n).r = saved.1 ∧ (t.engine n).wait = saved.2 ∧ (t.engine n).saved = none ∧
      t.kernelRuns n = false := by
  have hbundle : s.bundle n 0x38 = (s.ranBundle n 2 ((s.engine n).r.flow .retk)).endKernel n :=
    (State.bundle_retk hword hready hkernel hk hlow hhigh hop).trans (State.commitBundle_kernel hs hsolves hbudget)
  exact ⟨_, congrArg Host.Outcome.next hbundle, State.endKernel_some (State.ranBundle_stored hs 2 _)
    ((congrArg Engine.saved (s.ranBundle_engine n 2 ((s.engine n).r.flow .retk))).trans hsaved)⟩

end

/-- Settles O44: each instruction by the flow of its slot. The LOOP that is skipped by `loopEnd`, the taken branch that leaves a level's count
and the unknown opcodes at the row of NOP_BUNDLE are the model's choice (assumption log 136), as is RETK's part (assumption log 138). -/
theorem enginesBranchAndStop : Obligations.EnginesBranchAndStop := fun _ _ _ hs =>
  ⟨fun g hop hcond => exec_engBr hs g hop hcond, fun g hop => exec_engCall hs g hop, fun g hop => exec_engRet hs g hop,
    fun g hop hfree hcount => exec_engLoop_enters hs g hop hfree hcount, fun g hop hfree hcount => exec_engLoop_skips hs g hop hfree hcount,
    fun _ g hcon => exec_illegal g hcon, fun g hop hmask => exec_engWait hs g hop hmask, fun g hop => exec_engTrap hs g hop,
    fun g hop => exec_engFence hs g hop, fun g hop => exec_engHalt g hop,
    fun _ _ hword hready hkernel hk hlow hhigh hop hsaved hsolves hbudget =>
      exec_engRetk hs hword hready hkernel hk hlow hhigh hop hsaved hsolves hbudget⟩

end Sys2Proof.Machine
end

section
/-! Engines under control: woken, watched, restarted, and changed in mode (R333, R335 to R338). -/
namespace Sys2Proof.Machine
open Sys2Proof

theorem recordField_engine {f : Field} (h : 0x400000 ≤ f.reg) : recordField f = false := by
  have h1 : ¬ f.reg < 0x081800 := by omega
  have h2 : f.reg ≠ Reg.HRG_STAT := by simp only [Reg.HRG_STAT]; omega
  have h3 : f.reg ≠ Reg.THM_WINDOW := by simp only [Reg.THM_WINDOW]; omega
  have h4 : f.reg ≠ Reg.FLT_STAT := by simp only [Reg.FLT_STAT]; omega
  have h5 : f.reg ≠ Reg.FLT_LOG_WEAR := by simp only [Reg.FLT_LOG_WEAR]; omega
  rw [recordField, decide_eq_false h1, beq_eq_false_iff_ne.mpr h2, beq_eq_false_iff_ne.mpr h3, beq_eq_false_iff_ne.mpr h4,
    beq_eq_false_iff_ne.mpr h5]
  simp

theorem recordField_engStat (n lsb w : Nat) : recordField ⟨Reg.ENG_STAT n, lsb, w⟩ = false :=
  recordField_engine (Nat.le_add_right _ _)

/-- A record leaves an engine's status as it is. -/
theorem State.Shows.engineReports {s t : State} {n lsb w v : Nat} (h : s.Shows ⟨Reg.ENG_STAT n, lsb, w⟩ v) (hr : Reports s t) :
    t.Shows ⟨Reg.ENG_STAT n, lsb, w⟩ v := h.reports hr (recordField_engStat n lsb w)

theorem Reports.engine {s t : State} (h : Reports s t) (n : Nat) : t.engine n = s.engine n :=
  congrArg (fun e : EngState => e.engines.getD n Engine.initial) h.eng

section
variable {s : State} {n : Nat} (hn : n < 16) (hpower : s.get Reg.PWR_STAT_STATE < 2) (hdump : s.flt.dump = none)
include hn hpower hdump

theorem State.engineHeld_false : s.engineHeld n = false := by
  rw [State.engineHeld, decide_eq_false (not_le.mpr hn), decide_eq_false (not_le.mpr hpower), hdump]
  rfl

theorem exec_engineWake (hs : s.stored) {events ra mask : Nat} (hruns : s.engineRuns n = true) (hwait : (s.engine n).wait = some (ra, mask))
    (hevents : events &&& mask ≠ 0) :
    ∃ t, exec (.engineWake n events) s = .next t ∧ (t.engine n).wait = none ∧
      (t.engine n).r = (s.engine n).r.setReg ra (events &&& mask) ∧ t.get (Reg.ENG_STAT_STATE n) = 1 := by
  have hheld := State.engineHeld_false hn hpower hdump
  have htop : wakeRegs (s.engine n).r (s.engine n).wait events = ((s.engine n).r.setReg ra (events &&& mask), none) := by
    rw [hwait]
    exact if_neg hevents
  show ∃ t, execEngineWake n events s = .next t ∧ _
  unfold execEngineWake
  dsimp only
  rw [if_neg (by rw [hheld, hruns]; decide), htop, if_pos (by rw [hwait]; rfl)]
  refine ⟨_, rfl, ?_⟩
  have hput : ∀ (u : State) (f : Field) v, (u.put f v).engine n = u.engine n := fun _ _ _ => rfl
  rw [hput, State.engine_modEngine, if_pos rfl, State.engine_modEngine, if_pos rfl]
  refine ⟨rfl, rfl, ?_⟩
  have hstored : ∀ f g, ((s.modEngine n f).modEngine n g).stored := fun _ _ => hs
  exact (State.put_shows (hstored _ _) (Reg.ENG_STAT_STATE n) 1 rfl (Nat.le_of_ble_eq_true rfl)).value

theorem exec_engineWake_waits {events ra mask : Nat} (hwait : (s.engine n).wait = some (ra, mask)) (hruns : s.engineRuns n = true)
    (hevents : events &&& mask = 0) :
    ∃ t, exec (.engineWake n events) s = .next t ∧ (t.engine n).wait = some (ra, mask) ∧ t.regs = s.regs := by
  have hheld := State.engineHeld_false hn hpower hdump
  have htop : wakeRegs (s.engine n).r (s.engine n).wait events = ((s.engine n).r, some (ra, mask)) := by
    rw [hwait]
    exact if_pos hevents
  show ∃ t, execEngineWake n events s = .next t ∧ _
  unfold execEngineWake
  dsimp only
  rw [if_neg (by rw [hheld, hruns]; decide), htop, if_neg (by rw [hwait]; exact Bool.false_ne_true)]
  refine ⟨_, rfl, ?_, rfl⟩
  rw [State.engine_modEngine, if_pos rfl]

theorem exec_watchdog (hruns : s.get (Reg.ENG_STAT_STATE n) = 1) (hdue : (s.engine n).yieldAt + 10000000 ≤ s.now) :
    exec (.watchdog n) s = .next (s.engFault n 5 (s.engine n).r.pc false 0) := by
  have hheld := State.engineHeld_false hn hpower hdump
  have hdue' : s.due ((s.engine n).yieldAt + 10000000) = true := decide_eq_true hdue
  exact congrArg Host.Outcome.next (if_neg (by rw [hheld, hruns, hdue']; decide))

end

/-! ## A restart (R338) -/

theorem State.setMode_shows {s : State} {n lsb w v : Nat} (h : s.Shows ⟨Reg.ENG_STAT n, lsb, w⟩ v) (hapart : lsb + w ≤ 3 ∨ 4 ≤ lsb)
    (mode cause : Nat) : (s.setMode n mode cause).Shows ⟨Reg.ENG_STAT n, lsb, w⟩ v := by
  unfold State.setMode
  exact .ite h ((h.put (g := Reg.ENG_STAT_MODE n) ⟨Nat.le_of_ble_eq_true rfl, .inr hapart.symm⟩).engineReports (State.event_reports _ _ _ _))

theorem State.setMode_engine (s : State) (n mode cause m : Nat) : (s.setMode n mode cause).engine m = s.engine m := by
  unfold State.setMode
  exact State.ite_reads (fun u : State => u.engine m) rfl ((State.event_reports _ _ _ _).engine m)

theorem State.loadEngine_engine (s : State) (n : Nat) (b : List Nat) :
    ((s.loadEngine n b).engine n).r = { EngRegs.initial with pc := fieldLE b 20 2 } := by
  have hengine : (s.loadEngine n b).engine n = (s.modEngine n fun e =>
    { e with image := b, prog := e.prog.writeBytes 0 (slice b 192 (fieldLE b 12 4)), r := { EngRegs.initial with pc := fieldLE b 20 2 },
             saved := none, wait := none, trap := none, yieldAt := s.now, modeNext := none }).engine n := rfl
  rw [hengine, State.engine_modEngine, if_pos rfl]

/-- An engine just loaded runs in Maintenance; its count of restarts is what it was. -/
theorem State.loadEngine_shows {s : State} (hs : s.stored) (n : Nat) (b : List Nat) :
    (s.loadEngine n b).Shows (Reg.ENG_STAT_STATE n) 1 ∧ (s.loadEngine n b).Shows (Reg.ENG_STAT_MODE n) 1 ∧
      ∀ v, s.Shows (Reg.ENG_STAT_RESTARTS n) v → (s.loadEngine n b).Shows (Reg.ENG_STAT_RESTARTS n) v := by
  have hload : ∀ {f : Field} {v : Nat}, s.Shows f v → ∀ e x a l, ({ (({ s with eng := e } : State).devWrite a l) with sea := x } : State).Shows f v :=
    fun h e x a l => (((h.updEng e).devWrite).updSea x)
  have hany := fun e x a l => (hload (State.shows hs (Reg.ENG_STAT_STATE n)) e x a l).stored
  unfold State.loadEngine
  refine ⟨?_, ?_, fun v hv => ?_⟩
  · exact ((State.put_shows (hany _ _ _ _) (Reg.ENG_STAT_STATE n) 1 rfl (Nat.le_of_ble_eq_true rfl)).put
      ⟨Nat.le_of_ble_eq_true rfl, .inr (.inr (Nat.le_of_ble_eq_true rfl))⟩).put
      ⟨Nat.le_of_ble_eq_true rfl, .inr (.inr (Nat.le_of_ble_eq_true rfl))⟩
  · exact (State.put_shows (State.put_stored _ _ (hany _ _ _ _)) (Reg.ENG_STAT_MODE n) 1 rfl (Nat.le_of_ble_eq_true rfl)).put
      ⟨Nat.le_of_ble_eq_true rfl, .inr (.inr (Nat.le_of_ble_eq_true rfl))⟩
  · exact (((hload hv _ _ _ _).put ⟨Nat.le_of_ble_eq_true rfl, .inr (.inl (Nat.le_of_ble_eq_true rfl))⟩).put
      ⟨Nat.le_of_ble_eq_true rfl, .inr (.inl (Nat.le_of_ble_eq_true rfl))⟩).put
      ⟨Nat.le_of_ble_eq_true rfl, .inr (.inr (Nat.le_of_ble_eq_true rfl))⟩

theorem exec_engineRestart {s : State} (hs : s.stored) {n : Nat} (hn : n < 16) (hpower : s.get Reg.PWR_STAT_STATE < 2)
    (hdump : s.flt.dump = none) (hstopped : s.get (Reg.ENG_STAT_STATE n) = 4) (hkernel : (s.engine n).kernel = none)
    (hroom : s.get (Reg.ENG_STAT_RESTARTS n) < 255) :
    ∃ t, exec (.engineRestart n) s = .next t ∧ t.get (Reg.ENG_STAT_STATE n) = 1 ∧ t.get (Reg.ENG_STAT_MODE n) = 1 ∧
      (t.engine n).r = { EngRegs.initial with pc := fieldLE (s.engine n).image 20 2 } ∧
      t.get (Reg.ENG_STAT_RESTARTS n) = s.get (Reg.ENG_STAT_RESTARTS n) + 1 := by
  have hheld := State.engineHeld_false hn hpower hdump
  have hrestarts := State.setMode_shows (State.shows hs (Reg.ENG_STAT_RESTARTS n)) (.inr (by decide)) 1 2
  obtain ⟨hstate, hmode, hcount⟩ := State.loadEngine_shows hrestarts.stored n (s.engine n).image
  have hcount := hcount _ hrestarts
  have hregs := (s.setMode n 1 2).loadEngine_engine n (s.engine n).image
  show ∃ t, execEngineRestart n s = .next t ∧ _
  unfold execEngineRestart
  dsimp only
  rw [if_neg (by rw [hheld]; decide), if_neg (by rw [hstopped]; decide), if_neg (by rw [hstopped]; decide), hkernel]
  refine ⟨_, rfl, ?_⟩
  dsimp only
  generalize (s.setMode n 1 2).loadEngine n (s.engine n).image = u at hstate hmode hcount hregs
  have hreports : Reports (u.satAdd (Reg.ENG_STAT_RESTARTS n) 1) ((u.satAdd (Reg.ENG_STAT_RESTARTS n) 1).restartEvent n 0) :=
    State.event_reports _ _ _ _
  have hput : ∀ f v, (u.put f v).engine n = u.engine n := fun _ _ => rfl
  refine ⟨((hstate.satAdd ⟨Nat.le_of_ble_eq_true rfl, .inr (.inr (Nat.le_of_ble_eq_true rfl))⟩).engineReports hreports).value,
    ((hmode.satAdd ⟨Nat.le_of_ble_eq_true rfl, .inr (.inr (Nat.le_of_ble_eq_true rfl))⟩).engineReports hreports).value, ?_, ?_⟩
  · rw [hreports.engine, State.satAdd, hput]
    exact hregs
  · have hvalue := hcount.value
    refine ((State.put_shows hstate.stored (Reg.ENG_STAT_RESTARTS n) _ ?_ (Nat.le_of_ble_eq_true rfl)).engineReports hreports).value
    rw [hvalue]
    show min (s.get (Reg.ENG_STAT_RESTARTS n) + 1) (2 ^ 8 - 1) % 2 ^ 8 = _
    omega

/-! ## A change of mode (R335) -/

theorem State.endKernel_modeNext (s : State) (n : Nat) : ((s.endKernel n).engine n).modeNext = (s.engine n).modeNext := by
  unfold State.endKernel
  split
  · rfl
  next r w _ =>
    have hput : ∀ (u : State) (f g : Field) v x, ((u.put f v).put g x).engine n = u.engine n := fun _ _ _ _ _ => rfl
    rw [hput, State.engine_modEngine, if_pos rfl]

theorem State.endKernel_stored {s : State} (hs : s.stored) (n : Nat) : (s.endKernel n).stored := by
  unfold State.endKernel
  split
  · exact hs
  next r w _ =>
    have hmod : ∀ f, (s.modEngine n f).stored := fun _ => hs
    exact State.put_stored _ _ (State.put_stored _ _ (hmod _))

theorem State.setMode_mode {s : State} (hs : s.stored) (n mode cause : Nat) (hmode : mode < 2) :
    (s.setMode n mode cause).Shows (Reg.ENG_STAT_MODE n) mode := by
  unfold State.setMode
  dsimp only
  split
  next hsame => exact ⟨hs, hsame⟩
  next =>
    exact (State.put_shows hs (Reg.ENG_STAT_MODE n) mode (Nat.mod_eq_of_lt hmode) (Nat.le_of_ble_eq_true rfl)).engineReports
      (State.event_reports _ _ _ _)

theorem State.changeMode_shows {s : State} (hs : s.stored) (n mode cause : Nat) (hmode : mode < 2) :
    (s.changeMode n mode cause).Shows (Reg.ENG_STAT_MODE n) mode ∧
      ((s.changeMode n mode cause).engine n).modeNext = (s.engine n).modeNext := by
  unfold State.changeMode State.when
  dsimp only
  rw [State.setMode_engine]
  split
  · exact ⟨State.setMode_mode (State.endKernel_stored hs n) n mode cause hmode, s.endKernel_modeNext n⟩
  · exact ⟨State.setMode_mode hs n mode cause hmode, rfl⟩

/-- The commands that asked for a mode are completed. -/
theorem State.completeAll_reports (s : State) (l : List Hdr) (op status : Nat) : Reports s (s.each l fun s h => s.complete h op status) :=
  State.each_induct l (fun s h => s.complete h op status) (Reports.refl s) fun _ hu h _ => hu.trans (State.complete_reports _ h op status)

theorem exec_modeChange {s : State} (hs : s.stored) {n : Nat} (hn : n < 16) (hpower : s.get Reg.PWR_STAT_STATE < 2)
    (hdump : s.flt.dump = none) {m : Bool} {l : List Hdr} (hnext : (s.engine n).modeNext = some (b2n m, l)) :
    ∃ t, exec (.modeChange n m 0) s = .next t ∧ t.get (Reg.ENG_STAT_MODE n) = b2n m ∧ (t.engine n).modeNext = none := by
  have hheld := State.engineHeld_false hn hpower hdump
  have hsmall : b2n m < 2 := by cases m <;> decide
  have hcleared : (s.modEngine n fun e => { e with modeNext := none }).stored := hs
  have hnone : ((s.modEngine n fun e => { e with modeNext := none }).engine n).modeNext = none := by
    rw [State.engine_modEngine, if_pos rfl]
  obtain ⟨hmode, hwaits⟩ := State.changeMode_shows hcleared n (b2n m) 0 hsmall
  have hreports := ((s.modEngine n fun e => { e with modeNext := none }).changeMode n (b2n m) 0).completeAll_reports l 0x91 St.done
  have happly : s.applyMode n = ((s.modEngine n fun e => { e with modeNext := none }).changeMode n (b2n m) 0).each l fun s h =>
      s.complete h 0x91 St.done := by
    unfold State.applyMode
    rw [hnext]
  refine ⟨s.applyMode n, ?_, ?_, ?_⟩
  · exact congrArg Host.Outcome.next ((if_neg (by rw [hheld]; decide)).trans ((if_pos rfl).trans (if_pos (by rw [hnext]; rfl))))
  · rw [happly]
    exact (hmode.engineReports hreports).value
  · rw [happly, hreports.engine]
    exact hwaits.trans hnone

section
variable {s : State} {n : Nat} {h : Hdr} (g : s.TakesNow h) (hn : n < 12) (hruns : s.engineRuns n = true) (hrest : s.engineAtRest n = true)
  (hnext : (s.engine n).modeNext = none)
include g hn hruns hrest hnext

/-- ENG_MODE asks for Maintenance where no change waits. -/
theorem State.TakesNow.exec_engMode :
    exec (.engMode h n 1) s = .next (let u := s.modEngine n fun e => { e with hostMaint := true }
      if s.get (Reg.ENG_STAT_MODE n) = 1 then u.complete h 0x91 St.done else u.modEngine n fun e => { e with modeNext := some (1, [h]) }) := by
  have hruns' : (s.get (Reg.ENG_STAT_STATE n) == 1 || s.get (Reg.ENG_STAT_STATE n) == 2) = true := hruns
  have hfields : engModeFail s n 1 = none := by
    unfold engModeFail
    dsimp only
    rw [decide_eq_true ⟨hn, by decide⟩, hruns', hrest]
    rfl
  have happly : s.applyMode n = s := by
    unfold State.applyMode
    rw [hnext]
  have hkeeps : ((s.modEngine n fun e => { e with hostMaint := true }).engine n).modeNext = none := by
    rw [State.engine_modEngine, if_pos rfl]
    exact hnext
  show execEngMode h n 1 s = _
  rw [execEngMode, hfields, g.acceptNow]
  dsimp only
  rw [hnext, happly, if_neg (by decide)]
  have hsame : (s.modEngine n fun e => { e with hostMaint := 1 == 1 }) = s.modEngine n fun e => { e with hostMaint := true } := rfl
  rw [hsame, hkeeps]
  rfl

theorem State.TakesNow.exec_engMode_asks (hmode : s.get (Reg.ENG_STAT_MODE n) = 0) :
    exec (.engMode h n 1) s = .next
      ((s.modEngine n fun e => { e with hostMaint := true }).modEngine n fun e => { e with modeNext := some (1, [h]) }) :=
  (g.exec_engMode hn hruns hrest hnext).trans (congrArg Host.Outcome.next (if_neg (by rw [hmode]; decide)))

theorem State.TakesNow.exec_engMode_done (hmode : s.get (Reg.ENG_STAT_MODE n) = 1) :
    Answers (exec (.engMode h n 1) s) (s.modEngine n fun e => { e with hostMaint := true }) :=
  ⟨_, (g.exec_engMode hn hruns hrest hnext).trans (congrArg Host.Outcome.next (if_pos hmode)), State.complete_reports _ _ _ _⟩

end

/-- Settles O45: each command of an engine's control by its equation. -/
theorem enginesAreControlled : Obligations.EnginesAreControlled := fun _ _ hs hn hpower hdump =>
  ⟨fun _ _ _ hruns hwait hevents => exec_engineWake hn hpower hdump hs hruns hwait hevents,
    fun _ _ _ hwait _ hruns hevents => exec_engineWake_waits hn hpower hdump hwait hruns hevents,
    fun hruns hdue => exec_watchdog hn hpower hdump hruns hdue,
    fun hstopped hkernel hroom => exec_engineRestart hs hn hpower hdump hstopped hkernel hroom,
    fun _ _ hnext _ => exec_modeChange hs hn hpower hdump hnext,
    fun _ g hlow hruns hrest hnext hmode => g.exec_engMode_asks hlow hruns hrest hnext hmode,
    fun _ g hlow hruns hrest hnext hmode => g.exec_engMode_done hlow hruns hrest hnext hmode⟩

end Sys2Proof.Machine
end

section
/-! The channels of Sluice: chains, descriptors, polls, kicks and stops (R380 to R391). -/
namespace Sys2Proof.Machine
open Sys2Proof

/-! ## The registers of a channel -/

/-- The registers of the units between Harbour and the thermal unit hold no field that a record changes. -/
theorem recordField_between {f : Field} (h : 0x081800 ≤ f.reg ∧ f.reg < 0x3E0000) : recordField f = false := by
  have h1 : ¬ f.reg < 0x081800 := by omega
  have h2 : f.reg ≠ Reg.HRG_STAT := by simp only [Reg.HRG_STAT]; omega
  have h3 : f.reg ≠ Reg.THM_WINDOW := by simp only [Reg.THM_WINDOW]; omega
  have h4 : f.reg ≠ Reg.FLT_STAT := by simp only [Reg.FLT_STAT]; omega
  have h5 : f.reg ≠ Reg.FLT_LOG_WEAR := by simp only [Reg.FLT_LOG_WEAR]; omega
  rw [recordField, decide_eq_false h1, beq_eq_false_iff_ne.mpr h2, beq_eq_false_iff_ne.mpr h3, beq_eq_false_iff_ne.mpr h4,
    beq_eq_false_iff_ne.mpr h5]
  simp

section
variable {c : Nat} (hc : c < 32)
include hc

theorem sluChan_regs {off : Nat} (h : 0x0A0100 ≤ off ∧ off < 0x0A0120) (lsb w : Nat) : recordField ⟨off + 0x20 * c, lsb, w⟩ = false :=
  recordField_between ⟨by dsimp only; omega, by dsimp only; omega⟩

theorem recordField_sluStat (lsb w : Nat) : recordField ⟨Reg.SLU_CH_STAT c, lsb, w⟩ = false := sluChan_regs hc (by decide) lsb w

theorem State.rd64_sluPos {s t : State} (hs : s.stored) (hr : Reports s t) : t.rd64 (Reg.SLU_CH_POS c) = s.rd64 (Reg.SLU_CH_POS c) := by
  refine hr.rd64 hs (sluChan_regs hc (by decide) 0 32) ?_
  exact recordField_between ⟨by simp only [Reg.SLU_CH_POS]; omega, by simp only [Reg.SLU_CH_POS]; omega⟩

/-- A record leaves a channel's status as it is. -/
theorem State.Shows.sluReports {s t : State} {lsb w v : Nat} (h : s.Shows ⟨Reg.SLU_CH_STAT c, lsb, w⟩ v) (hr : Reports s t) :
    t.Shows ⟨Reg.SLU_CH_STAT c, lsb, w⟩ v := h.reports hr (recordField_sluStat hc lsb w)

theorem State.sluTo_state {s : State} (hs : s.stored) {new : Nat} (hnew : new < 8) : (s.sluTo c new).Shows (Reg.SLU_CH_STAT_STATE c) new := by
  unfold State.sluTo
  dsimp only
  split
  next hsame => exact ⟨hs, hsame⟩
  next =>
    exact (State.put_shows hs (Reg.SLU_CH_STAT_STATE c) new (Nat.mod_eq_of_lt hnew) (Nat.le_of_ble_eq_true rfl)).sluReports hc
      (State.event_reports _ _ _ _)

theorem State.Shows.sluTo {s : State} {lsb w v : Nat} (h : s.Shows ⟨Reg.SLU_CH_STAT c, lsb, w⟩ v) (hlsb : 3 ≤ lsb) (new : Nat) :
    (s.sluTo c new).Shows ⟨Reg.SLU_CH_STAT c, lsb, w⟩ v := by
  unfold State.sluTo
  exact .ite h ((h.put (g := Reg.SLU_CH_STAT_STATE c) ⟨Nat.le_of_ble_eq_true rfl, .inr (.inl hlsb)⟩).sluReports hc (State.event_reports _ _ _ _))

theorem State.sluTo_rd64 {s : State} (hs : s.stored) (new : Nat) : (s.sluTo c new).rd64 (Reg.SLU_CH_POS c) = s.rd64 (Reg.SLU_CH_POS c) := by
  have hput : ∀ v, (s.put (Reg.SLU_CH_STAT_STATE c) v).rd64 (Reg.SLU_CH_POS c) = s.rd64 (Reg.SLU_CH_POS c) := fun v =>
    State.rd64_put_ne hs.1 _ _ (by simp only [Reg.SLU_CH_POS, Reg.SLU_CH_STAT_STATE, Reg.SLU_CH_STAT]; omega)
      (by simp only [Reg.SLU_CH_POS, Reg.SLU_CH_STAT_STATE, Reg.SLU_CH_STAT]; omega)
  unfold State.sluTo
  exact State.ite_reads (fun u : State => u.rd64 (Reg.SLU_CH_POS c)) rfl
    ((State.rd64_sluPos hc (State.put_stored _ _ hs) (State.event_reports _ _ _ _)).trans (hput _))

end

theorem State.sluTo_slu (s : State) (c new : Nat) : (s.sluTo c new).slu = s.slu := by
  unfold State.sluTo
  exact State.ite_reads State.slu rfl (State.event_slu _ _ _ _)

theorem State.sluTo_chan (s : State) (c new m : Nat) : (s.sluTo c new).sluChan m = s.sluChan m :=
  congrArg (fun x : SluState => x.chans.getD m SluChan.initial) (s.sluTo_slu c new)

/-! ## Commands of the host -/

section
variable {s : State} {h : Hdr} {ch : Nat} (hs : s.stored) (hc : ch < 32) (g : s.TakesNow h) (hlow : 24 ≤ ch)
include hs hc g hlow

theorem State.TakesNow.exec_sluChain (stopOnErr : Bool) {head : Nat} (haligned : head % 32 = 0) (hidle : s.sluState ch = 0 ∨ s.sluState ch = 4) :
    ∃ t, exec (.sluChain h ch stopOnErr head) s = .next t ∧ t.sluState ch = 1 ∧ t.rd64 (Reg.SLU_CH_POS ch) = head % 2 ^ 64 ∧
      t.get (Reg.SLU_CH_STAT_STOP_ON_ERR ch) = (if stopOnErr then 1 else 0) ∧ t.sluChan ch = SluChan.initial := by
  have hidle' : (s.sluState ch == 0 || s.sluState ch == 4) = true := by rcases hidle with h | h <;> rw [h] <;> rfl
  have hfields : firstFail [(decide (24 ≤ ch ∧ ch < 32), St.range), (head % 32 == 0, St.misaligned),
      (s.sluState ch == 0 || s.sluState ch == 4, St.notReady)] = none := by
    rw [decide_eq_true ⟨hlow, hc⟩, haligned, hidle']
    rfl
  have hfresh : (s.modSlu ch fun _ => SluChan.initial).stored := hs
  have hstop := State.put_shows hfresh (Reg.SLU_CH_STAT_STOP_ON_ERR ch) (b2n stopOnErr) (w := if stopOnErr then 1 else 0)
    (by cases stopOnErr <;> rfl) (Nat.le_of_ble_eq_true rfl)
  have hchan : ((s.modSlu ch fun _ => SluChan.initial).put (Reg.SLU_CH_STAT_STOP_ON_ERR ch) (b2n stopOnErr)).sluChan ch = SluChan.initial :=
    (State.sluChan_modSlu s ch (fun _ => SluChan.initial) ch).trans (if_pos rfl)
  show ∃ t, execSluChain h ch stopOnErr head s = .next t ∧ _
  rw [execSluChain, hfields, g.acceptNow]
  refine ⟨_, rfl, ?_⟩
  dsimp only
  generalize (s.modSlu ch fun _ => SluChan.initial).put (Reg.SLU_CH_STAT_STOP_ON_ERR ch) (b2n stopOnErr) = u at hstop hchan
  have hstat : ∀ m, (⟨Reg.SLU_CH_STAT ch, m, 1⟩ : Field).reg ≠ Reg.SLU_CH_POS ch ∧
      (⟨Reg.SLU_CH_STAT ch, m, 1⟩ : Field).reg ≠ Reg.SLU_CH_POS ch + 4 := fun m => by
    simp only [Reg.SLU_CH_STAT, Reg.SLU_CH_POS]; omega
  have hbad : ∀ m, (⟨Reg.SLU_CH_STAT ch, m, 1⟩ : Field).reg ≠ Reg.SLU_CH_BAD ch ∧
      (⟨Reg.SLU_CH_STAT ch, m, 1⟩ : Field).reg ≠ Reg.SLU_CH_BAD ch + 4 := fun m => by
    simp only [Reg.SLU_CH_STAT, Reg.SLU_CH_BAD]; omega
  have hheld := ((hstop.wr64 (w := head) (hstat 3)).wr64 (w := 0) (hbad 3)).put (g := Reg.SLU_CH_STAT_KICK_PEND ch) (w := 0)
    ⟨Nat.le_of_ble_eq_true rfl, .inr (.inr (Nat.le_of_ble_eq_true rfl))⟩
  have hpos : (((u.wr64 (Reg.SLU_CH_POS ch) head).wr64 (Reg.SLU_CH_BAD ch) 0).put (Reg.SLU_CH_STAT_KICK_PEND ch) 0).rd64 (Reg.SLU_CH_POS ch) =
      head % 2 ^ 64 := by
    have hwr := State.wr64_stored (Reg.SLU_CH_POS ch) head hstop.stored
    rw [State.rd64_put_ne (State.wr64_stored _ _ hwr).1 _ _ (by simp only [Reg.SLU_CH_POS, Reg.SLU_CH_STAT_KICK_PEND, Reg.SLU_CH_STAT]; omega)
      (by simp only [Reg.SLU_CH_POS, Reg.SLU_CH_STAT_KICK_PEND, Reg.SLU_CH_STAT]; omega),
      State.rd64_wr64_other hwr _ _ (by simp only [Reg.SLU_CH_POS, Reg.SLU_CH_BAD]; omega)
      (by simp only [Reg.SLU_CH_POS, Reg.SLU_CH_BAD]; omega) (by simp only [Reg.SLU_CH_POS, Reg.SLU_CH_BAD]; omega)]
    exact State.rd64_wr64_same hstop.stored.1 _ _
  have hsame : (((u.wr64 (Reg.SLU_CH_POS ch) head).wr64 (Reg.SLU_CH_BAD ch) 0).put (Reg.SLU_CH_STAT_KICK_PEND ch) 0).sluChan ch =
      u.sluChan ch := rfl
  generalize ((u.wr64 (Reg.SLU_CH_POS ch) head).wr64 (Reg.SLU_CH_BAD ch) 0).put (Reg.SLU_CH_STAT_KICK_PEND ch) 0 = v at hheld hpos hsame
  have hstate := State.sluTo_state hc hheld.stored (new := 1) (by decide)
  have hreports := (v.sluTo ch 1).complete_reports h 0xA0 St.done
  exact ⟨(hstate.sluReports hc hreports).value, (State.rd64_sluPos hc hstate.stored hreports).trans ((State.sluTo_rd64 hc hheld.stored 1).trans hpos),
    ((hheld.sluTo hc (by decide) 1).sluReports hc hreports).value,
    (congrArg (fun x : SluState => x.chans.getD ch SluChan.initial) hreports.slu).trans ((v.sluTo_chan ch 1 ch).trans (hsame.trans hchan))⟩

theorem State.TakesNow.exec_sluStop (hidle : (s.sluChan ch).job = none) :
    ∃ t, exec (.sluStop h ch) s = .next t ∧ t.sluState ch = 0 ∧ t.get (Reg.SLU_CH_STAT_KICK_PEND ch) = 0 ∧ t.slu = s.slu := by
  have hfields : rangeUnless [decide (24 ≤ ch ∧ ch < 32)] = none := by
    rw [decide_eq_true ⟨hlow, hc⟩]
    rfl
  have hpend := State.put_shows hs (Reg.SLU_CH_STAT_KICK_PEND ch) 0 rfl (Nat.le_of_ble_eq_true rfl)
  have hreports := ((s.put (Reg.SLU_CH_STAT_KICK_PEND ch) 0).sluTo ch 0).completeR_reports h 0xA1 St.done (bytesLE 8 (s.rd64 (Reg.SLU_CH_POS ch)))
  show ∃ t, execSluStop h ch s = .next t ∧ _
  rw [execSluStop, hfields, g.acceptNow, hidle]
  exact ⟨_, rfl, ((State.sluTo_state hc hpend.stored (by decide)).sluReports hc hreports).value,
    ((hpend.sluTo hc (Nat.le_of_ble_eq_true rfl) 0).sluReports hc hreports).value, hreports.slu.trans (State.sluTo_slu _ _ _)⟩

end

theorem exec_sluiceDescriptor {s : State} {ch : Nat} {f : Option SluFail} (hruns : s.sluState ch = 1) (hidle : (s.sluChan ch).job = none) (hup : s.hostUp = true)
    (hf : f ≠ some .fetch) :
    exec (.sluiceDescriptor ch f) s = .next (s.fresh.modSlu ch fun q =>
      { q with job := some (s.sluJob ch (s.rd64 (Reg.SLU_CH_POS ch)) (s.sluRead (s.rd64 (Reg.SLU_CH_POS ch)) 32) f) }) := by
  have hready : ¬ (s.sluState ch ≠ 1 ∨ (s.sluChan ch).job.isSome = true ∨ s.hostUp = false) := by
    rw [hruns, hidle, hup]
    decide
  exact congrArg Host.Outcome.next ((if_neg hready).trans (if_neg hf))

section
variable {s : State} {ch : Nat} (hs : s.stored) (hc : ch < 32)
include hs hc

theorem exec_sluKick {rq : Requester} (hmay : s.mayWrite rq Reg.SLU_KICK = true) (hlow : 24 ≤ ch) (hpolls : s.sluState ch = 2 ∨ s.sluState ch = 3) :
    ∃ t, exec (.sluKick rq (2 ^ ch)) s = .next t ∧ t.sluState ch = 2 ∧ t.get (Reg.SLU_CH_STAT_POLLS ch) = 64 ∧
      (t.sluChan ch).pollAt = s.now := by
  have hmask : bits (2 ^ ch) 24 8 = 2 ^ (ch - 24) := by
    have hpow : 2 ^ ch / 2 ^ 24 = 2 ^ (ch - 24) := Nat.pow_div hlow (by decide)
    have hlt : 2 ^ (ch - 24) < 2 ^ 8 := Nat.pow_lt_pow_right (by decide) (by omega)
    rw [bits, hpow, Nat.mod_eq_of_lt hlt]
  have hlist : maskList (bits (2 ^ ch) 24 8) 8 = [ch - 24] := by rw [hmask, maskList_two_pow (by omega)]
  have hidle : ¬ s.sluState ch = 1 := by omega
  have hchannel : 24 + (ch - 24) = ch := by omega
  have hkick : s.sluKick (2 ^ ch) =
      ((s.put (Reg.SLU_CH_STAT_POLLS ch) 64).modSlu ch fun q => { q with pollAt := s.now }).sluTo ch 2 := by
    rw [State.sluKick, hlist]
    show s.sluKickOne (24 + (ch - 24)) = _
    rw [hchannel, State.sluKickOne, if_neg hidle, if_pos hpolls]
  have hput : ((s.put (Reg.SLU_CH_STAT_POLLS ch) 64).modSlu ch fun q => { q with pollAt := s.now }).Shows (Reg.SLU_CH_STAT_POLLS ch) 64 :=
    (State.put_shows hs (Reg.SLU_CH_STAT_POLLS ch) 64 rfl (Nat.le_of_ble_eq_true rfl)).updSlu _
  refine ⟨_, congrArg Host.Outcome.next ((if_pos hmay).trans hkick), (State.sluTo_state hc hput.stored (by decide)).value,
    (hput.sluTo hc (Nat.le_of_ble_eq_true rfl) 2).value, ?_⟩
  rw [State.sluTo_chan, State.sluChan_modSlu, if_pos rfl]

theorem exec_sluiceDescriptor_fetch (hruns : s.sluState ch = 1) (hidle : (s.sluChan ch).job = none) (hup : s.hostUp = true) :
    ∃ t, exec (.sluiceDescriptor ch (some .fetch)) s = .next t ∧ t.sluState ch = 4 ∧ t.on Reg.SLU_ERR_BUS_ERR = true ∧ t.slu = s.slu := by
  have hready : ¬ (s.sluState ch ≠ 1 ∨ (s.sluChan ch).job.isSome = true ∨ s.hostUp = false) := by
    rw [hruns, hidle, hup]
    decide
  have herr := fun args => (State.setF_shows hs Reg.SLU_ERR_BUS_ERR).event (src := 0x000A) (code := 0x0C01) (args := args)
  refine ⟨_, congrArg Host.Outcome.next ((if_neg hready).trans (if_pos rfl)), (State.sluTo_state hc (herr _).stored (by decide)).value, ?_,
    (State.sluTo_slu _ _ _).trans (State.event_slu _ _ _ _)⟩
  have hkeep : ∀ {u : State}, u.Shows Reg.SLU_ERR_BUS_ERR 1 → (u.sluTo ch 4).Shows Reg.SLU_ERR_BUS_ERR 1 := fun hu => by
    unfold State.sluTo
    exact .ite hu (hu.put (g := Reg.SLU_CH_STAT_STATE ch) ⟨Nat.le_of_ble_eq_true rfl, .inl (by
      simp only [Reg.SLU_CH_STAT_STATE, Reg.SLU_CH_STAT, Reg.SLU_ERR_BUS_ERR, Reg.SLU_ERR]; omega)⟩).event
  exact (hkeep (herr _)).on

end

/-- The bytes a descriptor moved stand where it sent them. -/
def State.sluMoves (s : State) (l : List (Bool × Nat × List Nat)) : State :=
  s.each l fun u w => if w.1 then u.devWrite w.2.1 w.2.2 else u.hostWrite w.2.1 w.2.2

theorem State.sluMoves_stored {s : State} (hs : s.stored) (l : List (Bool × Nat × List Nat)) : (s.sluMoves l).stored :=
  State.each_induct l _ hs fun _ hu _ _ => by
    split
    · exact State.devWrite_stored _ _ hu
    · exact State.hostWrite_stored _ _ hu

theorem State.sluMoves_slu (s : State) (l : List (Bool × Nat × List Nat)) : (s.sluMoves l).slu = s.slu :=
  State.each_reads s l (fun u w => if w.1 then u.devWrite w.2.1 w.2.2 else u.hostWrite w.2.1 w.2.2) State.slu fun _ _ => State.ite_reads State.slu rfl rfl

theorem State.sluMoves_get (s : State) (l : List (Bool × Nat × List Nat)) (f : Field) : (s.sluMoves l).get f = s.get f :=
  State.each_reads s l (fun u w => if w.1 then u.devWrite w.2.1 w.2.2 else u.hostWrite w.2.1 w.2.2) (fun u : State => u.get f) fun _ _ =>
    State.ite_reads (fun u : State => u.get f) rfl rfl

/-- A descriptor's end is counted. -/
def State.sluCounted (s : State) (ch : Nat) (l : List (Bool × Nat × List Nat)) : State :=
  ((s.sluMoves l).modSlu ch fun q => { q with job := none }).add64 (Reg.SLU_CH_CNT ch) 1

theorem State.sluCounted_chan (s : State) (ch : Nat) (l : List (Bool × Nat × List Nat)) :
    (s.sluCounted ch l).sluChan ch = { s.sluChan ch with job := none } := by
  have hchan : (s.sluMoves l).sluChan ch = s.sluChan ch := congrArg (fun x : SluState => x.chans.getD ch SluChan.initial) (s.sluMoves_slu l)
  refine (State.sluChan_modSlu _ ch (fun q => { q with job := none }) ch).trans ((if_pos rfl).trans ?_)
  rw [hchan]

theorem State.sluCounted_shows {s : State} (hs : s.stored) (ch : Nat) (l : List (Bool × Nat × List Nat)) (lsb w : Nat) :
    (s.sluCounted ch l).Shows ⟨Reg.SLU_CH_STAT ch, lsb, w⟩ (s.get ⟨Reg.SLU_CH_STAT ch, lsb, w⟩) := by
  have hmoved : (s.sluMoves l).Shows ⟨Reg.SLU_CH_STAT ch, lsb, w⟩ (s.get ⟨Reg.SLU_CH_STAT ch, lsb, w⟩) :=
    ⟨State.sluMoves_stored hs l, s.sluMoves_get l _⟩
  exact (hmoved.updSlu _).add64 (by simp only [Reg.SLU_CH_STAT, Reg.SLU_CH_CNT]; omega)

/-- What a descriptor that ends with an error leaves of its channel: the job's end, the stops and the status. -/
structure SluEnded (ch : Nat) (s t : State) : Prop where
  stored : s.stored → t.stored
  job : (t.sluChan ch).job = (s.sluChan ch).job
  stop : (t.sluChan ch).stop = (s.sluChan ch).stop
  stat : s.stored → ∀ lsb w, t.get ⟨Reg.SLU_CH_STAT ch, lsb, w⟩ = s.get ⟨Reg.SLU_CH_STAT ch, lsb, w⟩

namespace SluEnded

variable {ch : Nat} {s t u : State}

theorem refl (ch : Nat) (s : State) : SluEnded ch s s := ⟨id, rfl, rfl, fun _ _ _ => rfl⟩

theorem trans (h : SluEnded ch s t) (h' : SluEnded ch t u) : SluEnded ch s u :=
  ⟨fun hs => h'.stored (h.stored hs), h'.job.trans h.job, h'.stop.trans h.stop, fun hs lsb w => (h'.stat (h.stored hs) lsb w).trans (h.stat hs lsb w)⟩

theorem of_reports (hc : ch < 32) (h : Reports s t) : SluEnded ch s t := by
  have hchan : t.sluChan ch = s.sluChan ch := congrArg (fun x : SluState => x.chans.getD ch SluChan.initial) h.slu
  exact ⟨h.stored, congrArg SluChan.job hchan, congrArg SluChan.stop hchan, fun hs lsb w => h.fields hs _ (recordField_sluStat hc lsb w)⟩

theorem setErr (s : State) (lsb : Nat) (hlsb : lsb + 1 ≤ 32) : SluEnded ch s (s.setF ⟨Reg.SLU_ERR, lsb, 1⟩) :=
  ⟨State.put_stored _ _, rfl, rfl, fun hs _ _ => State.get_put_other hs _ _ _ hlsb (.inl (by simp only [Reg.SLU_ERR, Reg.SLU_CH_STAT]; omega))⟩

theorem markBad (s : State) (pos : Nat) :
    SluEnded ch s ((s.modSlu ch fun q => { q with bads := pos :: q.bads }).wr64 (Reg.SLU_CH_BAD ch) pos) := by
  have hchan : ((s.modSlu ch fun q => { q with bads := pos :: q.bads }).wr64 (Reg.SLU_CH_BAD ch) pos).sluChan ch =
      { s.sluChan ch with bads := pos :: (s.sluChan ch).bads } :=
    (State.sluChan_modSlu s ch (fun q => { q with bads := pos :: q.bads }) ch).trans (if_pos rfl)
  refine ⟨fun hs => State.wr64_stored _ _ hs, (congrArg SluChan.job hchan).trans rfl, (congrArg SluChan.stop hchan).trans rfl, fun hs lsb w => ?_⟩
  exact (((State.shows hs ⟨Reg.SLU_CH_STAT ch, lsb, w⟩).updSlu _).wr64 (by simp only [Reg.SLU_CH_STAT, Reg.SLU_CH_BAD]; omega)).value

end SluEnded

theorem State.sluEnd_ended {ch : Nat} (hc : ch < 32) (s : State) (pos : Nat) (j : SluJob) : SluEnded ch s (s.sluEnd ch pos j) := by
  have herr : SluEnded ch s (s.setF (if j.status = St.range then Reg.SLU_ERR_RANGE_ERR
      else if j.status = St.misaligned then Reg.SLU_ERR_ALIGN_ERR else Reg.SLU_ERR_BUS_ERR)) := by
    split
    · exact .setErr s 0 (by decide)
    · split
      · exact .setErr s 1 (by decide)
      · exact .setErr s 2 (by decide)
  unfold State.sluEnd State.when
  dsimp only
  split
  · split
    · exact .of_reports hc (State.event_reports _ _ _ _)
    · exact .refl ch s
  · refine SluEnded.trans ?_ (.of_reports hc (State.event_reports _ _ _ _))
    split
    · exact herr.trans (.markBad _ pos)
    · exact herr

end Sys2Proof.Machine
end

section
namespace Sys2Proof.Machine
open Sys2Proof

section
variable {s : State} {ch : Nat} {j : SluJob} (hjob : (s.sluChan ch).job = some j)
include hjob

/-- A descriptor's end, before its channel goes on. -/
theorem exec_descriptorComplete :
    exec (.descriptorComplete ch) s = .next (let u := (s.sluCounted ch j.writes).sluEnd ch (s.rd64 (Reg.SLU_CH_POS ch)) j
      if !(u.sluChan ch).stop.isEmpty then
        (((u.modSlu ch fun q => { q with stop := [] }).put (Reg.SLU_CH_STAT_KICK_PEND ch) 0).sluTo ch 0).each (u.sluChan ch).stop
          fun v h => v.completeR h 0xA1 St.done (bytesLE 8 (if bit j.ctrl 0 then s.rd64 (Reg.SLU_CH_POS ch) else ctrlNext j.ctrl))
      else if j.status ≠ St.done ∧ u.on (Reg.SLU_CH_STAT_STOP_ON_ERR ch) = true then u.sluTo ch 4 else u.sluFollow ch j.ctrl) := by
  show execDescriptorComplete ch s = _
  unfold execDescriptorComplete
  rw [hjob]
  rfl

theorem exec_descriptorComplete_done (hstop : (s.sluChan ch).stop = []) (hdone : j.status = St.done) (hirq : j.irq = false) :
    exec (.descriptorComplete ch) s = .next ((s.sluCounted ch j.writes).sluFollow ch j.ctrl) := by
  have hend : (s.sluCounted ch j.writes).sluEnd ch (s.rd64 (Reg.SLU_CH_POS ch)) j = s.sluCounted ch j.writes := by
    rw [State.sluEnd, if_pos hdone, hirq]
    rfl
  have hstops : ((s.sluCounted ch j.writes).sluChan ch).stop = [] := (congrArg SluChan.stop (s.sluCounted_chan ch j.writes)).trans hstop
  rw [exec_descriptorComplete hjob, hend]
  dsimp only
  rw [hstops, if_neg (by decide), if_neg (fun h => h.1 hdone)]

variable (hs : s.stored) (hc : ch < 32)
include hs hc

theorem exec_descriptorComplete_halts (hstop : (s.sluChan ch).stop = []) (hfails : j.status ≠ St.done)
    (hhalts : s.on (Reg.SLU_CH_STAT_STOP_ON_ERR ch) = true) :
    ∃ t, exec (.descriptorComplete ch) s = .next t ∧ t.sluState ch = 4 ∧ (t.sluChan ch).job = none := by
  have hended := (s.sluCounted ch j.writes).sluEnd_ended hc (s.rd64 (Reg.SLU_CH_POS ch)) j
  have hcounted := State.sluCounted_shows hs ch j.writes 3 1
  have hchan := s.sluCounted_chan ch j.writes
  have hstops := hended.stop.trans ((congrArg SluChan.stop hchan).trans hstop)
  have hjob' := hended.job.trans (congrArg SluChan.job hchan)
  have hon := (congrArg (· == 1) ((hended.stat hcounted.stored 3 1).trans hcounted.value)).trans hhalts
  have hstored := hended.stored hcounted.stored
  rw [exec_descriptorComplete hjob]
  generalize (s.sluCounted ch j.writes).sluEnd ch (s.rd64 (Reg.SLU_CH_POS ch)) j = u at hstops hjob' hon hstored
  dsimp only
  rw [hstops, if_neg (by decide), if_pos ⟨hfails, hon⟩]
  refine ⟨_, rfl, (State.sluTo_state hc hstored (by decide)).value, ?_⟩
  rw [State.sluTo_chan]
  exact hjob'

theorem exec_descriptorComplete_stops (hstop : (s.sluChan ch).stop ≠ []) :
    ∃ t, exec (.descriptorComplete ch) s = .next t ∧ t.sluState ch = 0 ∧ (t.sluChan ch).job = none ∧ (t.sluChan ch).stop = [] := by
  have hended := (s.sluCounted ch j.writes).sluEnd_ended hc (s.rd64 (Reg.SLU_CH_POS ch)) j
  have hcounted := State.sluCounted_shows hs ch j.writes 3 1
  have hchan := s.sluCounted_chan ch j.writes
  have hstops := hended.stop.trans ((congrArg SluChan.stop hchan).trans rfl)
  have hjob' := hended.job.trans (congrArg SluChan.job hchan)
  have hstored := hended.stored hcounted.stored
  rw [exec_descriptorComplete hjob]
  generalize (s.sluCounted ch j.writes).sluEnd ch (s.rd64 (Reg.SLU_CH_POS ch)) j = u at hstops hjob' hstored
  have hwaits : ¬ (u.sluChan ch).stop = [] := hstops ▸ hstop
  dsimp only
  rw [if_pos (by rw [List.isEmpty_eq_false_iff.mpr hwaits]; rfl)]
  refine ⟨_, rfl, ?_⟩
  have hidle : ((u.modSlu ch fun q => { q with stop := [] }).put (Reg.SLU_CH_STAT_KICK_PEND ch) 0).stored :=
    State.put_stored (s := u.modSlu ch fun q => { q with stop := [] }) _ _ hstored
  have hkept : ((u.modSlu ch fun q => { q with stop := [] }).put (Reg.SLU_CH_STAT_KICK_PEND ch) 0).sluChan ch = { u.sluChan ch with stop := [] } :=
    (State.sluChan_modSlu u ch (fun q => { q with stop := [] }) ch).trans (if_pos rfl)
  generalize (u.modSlu ch fun q => { q with stop := [] }).put (Reg.SLU_CH_STAT_KICK_PEND ch) 0 = v at hidle hkept
  have hreports : ∀ bytes l, Reports (v.sluTo ch 0) ((v.sluTo ch 0).each l fun s h => s.completeR h 0xA1 St.done bytes) := fun bytes l =>
    State.each_induct l (fun s h => s.completeR h 0xA1 St.done bytes) (Reports.refl _) fun _ hw h _ =>
      hw.trans (State.completeR_reports _ h 0xA1 St.done bytes)
  have hfinal : ∀ {t : State}, Reports (v.sluTo ch 0) t → t.sluChan ch = { u.sluChan ch with stop := [] } := fun hr =>
    ((congrArg (fun x : SluState => x.chans.getD ch SluChan.initial) hr.slu).trans (v.sluTo_chan ch 0 ch)).trans hkept
  exact ⟨((State.sluTo_state hc hidle (by decide)).sluReports hc (hreports _ _)).value,
    (congrArg SluChan.job (hfinal (hreports _ _))).trans hjob', congrArg SluChan.stop (hfinal (hreports _ _))⟩

end
/-! ## Polling -/

section
variable {s : State} {ch : Nat} (hparked : s.sluState ch = 2) (hdue : (s.sluChan ch).pollAt ≤ s.now) (hup : s.hostUp = true) {ctrl : Nat}
  (hctrl : natLE (s.sluRead (s.rd64 (Reg.SLU_CH_POS ch)) 8) = ctrl)
include hparked hdue hup hctrl

theorem exec_ctrlPoll :
    exec (.ctrlPoll ch) s = .next (if !bit ctrl 0 then s.sluFollow ch ctrl
      else
        let u := (s.put (Reg.SLU_CH_STAT_POLLS ch) (s.get (Reg.SLU_CH_STAT_POLLS ch) - 1)).modSlu ch fun q => { q with pollAt := s.now + 2000 }
        if s.get (Reg.SLU_CH_STAT_POLLS ch) - 1 = 0 then u.sluTo ch 3 else u) := by
  have hdue' : s.due (s.sluChan ch).pollAt = true := decide_eq_true hdue
  have hready : ¬ (s.sluState ch ≠ 2 ∨ s.due (s.sluChan ch).pollAt = false ∨ s.hostUp = false) := by
    rw [hparked, hdue', hup]
    decide
  subst hctrl
  exact congrArg Host.Outcome.next (if_neg hready)

theorem exec_ctrlPoll_ready (hready : bit ctrl 0 = false) : exec (.ctrlPoll ch) s = .next (s.sluFollow ch ctrl) := by
  rw [exec_ctrlPoll hparked hdue hup hctrl, if_pos (by rw [hready]; rfl)]

theorem exec_ctrlPoll_waits (hwaits : bit ctrl 0 = true) (hpolls : 2 ≤ s.get (Reg.SLU_CH_STAT_POLLS ch)) :
    exec (.ctrlPoll ch) s = .next
      ((s.put (Reg.SLU_CH_STAT_POLLS ch) (s.get (Reg.SLU_CH_STAT_POLLS ch) - 1)).modSlu ch fun q => { q with pollAt := s.now + 2000 }) := by
  rw [exec_ctrlPoll hparked hdue hup hctrl, if_neg (by rw [hwaits]; decide)]
  dsimp only
  rw [if_neg (by omega)]

theorem exec_ctrlPoll_parks (hs : s.stored) (hc : ch < 32) (hwaits : bit ctrl 0 = true) (hpolls : s.get (Reg.SLU_CH_STAT_POLLS ch) ≤ 1) :
    ∃ t, exec (.ctrlPoll ch) s = .next t ∧ t.sluState ch = 3 := by
  rw [exec_ctrlPoll hparked hdue hup hctrl, if_neg (by rw [hwaits]; decide)]
  dsimp only
  rw [if_pos (by omega)]
  have hstored : ∀ v f, ((s.put (Reg.SLU_CH_STAT_POLLS ch) v).modSlu ch f).stored := fun _ _ => State.put_stored _ _ hs
  exact ⟨_, rfl, (State.sluTo_state hc (hstored _ _) (by decide)).value⟩

end

/-- Settles O47: each command of a channel by its equation and the registers of its channel. -/
theorem sluiceFollowsItsChains : Obligations.SluiceFollowsItsChains := by
  refine fun s ch hs hc => ⟨fun h stopOnErr head g hlow haligned hidle => g.exec_sluChain hs hc hlow stopOnErr haligned hidle,
    fun h g hlow hidle => g.exec_sluStop hs hc hlow hidle, fun rq hmay hlow hpolls => exec_sluKick hs hc hmay hlow hpolls,
    fun hruns hidle hup => ⟨fun f hf => exec_sluiceDescriptor hruns hidle hup hf, exec_sluiceDescriptor_fetch hs hc hruns hidle hup⟩,
    fun j hjob hstop hdone hirq => exec_descriptorComplete_done hjob hstop hdone hirq,
    fun j hjob hstop hfails hhalts => exec_descriptorComplete_halts hjob hs hc hstop hfails hhalts,
    fun j hjob hstop _ => exec_descriptorComplete_stops hjob hs hc hstop, fun hparked hdue hup => ?_⟩
  exact ⟨fun hready => exec_ctrlPoll_ready hparked hdue hup rfl hready, fun hwaits hpolls => exec_ctrlPoll_waits hparked hdue hup rfl hwaits hpolls,
    fun hwaits hpolls => exec_ctrlPoll_parks hparked hdue hup rfl hs hc hwaits hpolls⟩

end Sys2Proof.Machine
end

section
/-! Seawall: one operation at a time, and how operations end (R409, R414, R421). -/
namespace Sys2Proof.Machine
open Sys2Proof

/-- Seawall runs what it is given where it is free, and queues it behind its operation else. -/
theorem State.seaSubmit_eq (s : State) (j : SeaJob) :
    s.seaSubmit j = if s.sea.running = none then { s with sea := { s.sea with running := some j } }.setF Reg.SEA_STAT_BUSY
      else { s with sea := { s.sea with queue := s.sea.queue ++ [j] } } := by
  unfold State.seaSubmit
  split
  next hfree => exact (if_pos hfree).symm
  next x hbusy => exact (if_neg (by rw [hbusy]; exact Option.some_ne_none x)).symm

section
variable {s : State} {h : Hdr} (g : s.TakesNow h)
include g

/-- A ring command for Seawall that passes its checks is submitted. -/
theorem State.TakesNow.seaSubmit {op : Nat} {fail : Option Nat} {j : SeaJob} (hfields : fail = none) :
    (.next (s.acceptNow h op fail fun s => s.seaSubmit j) : Host.Outcome State Fault Refusal) = .next (if s.sea.running = none then
      { s with sea := { s.sea with running := some j } }.setF Reg.SEA_STAT_BUSY else { s with sea := { s.sea with queue := s.sea.queue ++ [j] } }) := by
  rw [hfields, g.acceptNow, s.seaSubmit_eq]

end

theorem firstFail_cons_true {b : Bool} (hb : b = true) (st : Nat) (l : List (Bool × Nat)) : firstFail ((b, st) :: l) = firstFail l := by
  rw [hb]
  rfl

theorem rangeUnless_one {b : Bool} (hb : b = true) : rangeUnless [b] = none := by
  rw [hb]
  rfl

/-- Settles O48: each command's checks pass, and Seawall is submitted its operation. -/
theorem seawallTakesOneOperation : Obligations.SeawallTakesOneOperation := by
  intro s h g taken
  have aligned : ∀ {a n : Nat}, a % n = 0 → (a % n == 0) = true := fun ha => by rw [ha]; rfl
  refine ⟨fun addr ha => ?_, fun addr ha hup => ?_, fun mask addr len hpos hmask ha hslot => ?_, fun addr ha hid => ?_,
    fun nonce addr hn ha hkey hgood => ?_, fun id hid hquiet hkey hgood hflash => ?_, fun cls version hcls hversion => ?_,
    fun slot addr hslot ha => ?_, fun addr ha hkey hslot hflash => ?_, fun uid huid => ?_⟩
  · exact g.seaSubmit (firstFail_cons_true (aligned ha) _ _)
  · have hlanes : (!(s.upLanes 0 ++ s.upLanes 1).isEmpty) = true := by rw [List.isEmpty_eq_false_iff.mpr hup]; rfl
    exact g.seaSubmit ((firstFail_cons_true (aligned ha) _ _).trans (firstFail_cons_true hlanes _ _))
  · have hfields : firstFail [(decide (1 ≤ mask ∧ mask < 256 ∧ 0 ≤ 1), St.range), ((0 : Nat) == 1 || addr % 64 == 0, St.misaligned),
        ((0 : Nat) == 1 || s.custSlot != 0, St.notReady)] = none :=
      (firstFail_cons_true (decide_eq_true ⟨hpos, hmask, Nat.zero_le 1⟩) _ _).trans ((firstFail_cons_true (aligned ha) _ _).trans
        (firstFail_cons_true (bne_iff_ne.mpr hslot) _ _))
    exact g.seaSubmit hfields
  · exact g.seaSubmit ((firstFail_cons_true (aligned ha) _ _).trans (firstFail_cons_true hid _ _))
  · exact g.seaSubmit ((firstFail_cons_true (decide_eq_true ⟨hn, ha⟩) _ _).trans (firstFail_cons_true (by rw [hkey, hgood]; rfl) _ _))
  · exact g.seaSubmit ((firstFail_cons_true (decide_eq_true hid) _ _).trans ((firstFail_cons_true (by rw [hquiet, hkey, hgood]; rfl) _ _).trans
      (firstFail_cons_true hflash _ _)))
  · exact g.seaSubmit (rangeUnless_one (decide_eq_true ⟨hcls, hversion⟩))
  · exact g.seaSubmit ((firstFail_cons_true (decide_eq_true hslot) _ _).trans (firstFail_cons_true (aligned ha) _ _))
  · exact g.seaSubmit ((firstFail_cons_true (aligned ha) _ _).trans ((firstFail_cons_true (by rw [hkey, bne_iff_ne.mpr hslot]; rfl) _ _).trans
      (firstFail_cons_true hflash _ _)))
  · exact g.seaSubmit (rangeUnless_one (beq_iff_eq.mpr huid))

/-! ## The ends of operations -/

theorem State.seaNext_empty {s : State} (hqueue : s.sea.queue = []) :
    s.seaNext = { s with sea := { s.sea with running := none } }.put Reg.SEA_STAT_BUSY 0 := by
  unfold State.seaNext
  rw [hqueue]
  rfl

theorem exec_seaIdentityDone {s : State} (hs : s.stored) {h : Hdr} {addr : Nat} (hruns : s.sea.running = some (.cmd h (.seaIdentity addr)))
    (hqueue : s.sea.queue = []) :
    ∃ t, exec (.seawallOperationDone none) s = .next t ∧ t.sea = { s.sea with running := none } ∧ t.get Reg.SEA_STAT_BUSY = 0 ∧
      ∀ i, i < s.identityBlock.length → s.inRecordRing (addr + i) = false →
        t.hostMem.read (addr + i) = BitVec.ofNat 8 (s.identityBlock.getD i 0) := by
  have hwritten : (s.hostWrite addr s.identityBlock).stored := State.hostWrite_stored _ _ hs
  have hreports := (s.hostWrite addr s.identityBlock).complete_reports h 0xB0 St.done
  have hsea : ((s.hostWrite addr s.identityBlock).complete h 0xB0 St.done).sea = s.sea := hreports.sea
  have hmem : ∀ i, i < s.identityBlock.length → s.inRecordRing (addr + i) = false →
      ((s.hostWrite addr s.identityBlock).complete h 0xB0 St.done).hostMem.read (addr + i) = BitVec.ofNat 8 (s.identityBlock.getD i 0) :=
    fun i hi hout => (hreports.mem hwritten _ hout).trans (Memory.read_writeBytes _ _ _ hs.2.1 hi)
  have hstored := hreports.stored hwritten
  have hexec : exec (.seawallOperationDone none) s = .next ((s.hostWrite addr s.identityBlock).complete h 0xB0 St.done).seaNext := by
    show execSeawallOperationDone none s = _
    unfold execSeawallOperationDone
    rw [hruns]
    rfl
  generalize (s.hostWrite addr s.identityBlock).complete h 0xB0 St.done = u at hsea hmem hstored hexec
  rw [State.seaNext_empty (by rw [hsea]; exact hqueue)] at hexec
  refine ⟨_, hexec, congrArg (fun x : SeaState => { x with running := none }) hsea, ?_, hmem⟩
  exact (State.put_shows (s := { u with sea := { u.sea with running := none } }) hstored Reg.SEA_STAT_BUSY 0).value

theorem exec_entropyFailure {s : State} (hgood : s.sea.entropyBad = false) :
    Answers (exec .entropyFailure s) ({ s with sea := { s.sea with entropyBad := true } }.setF Reg.SEA_STAT_TRNG_FAIL) :=
  ⟨_, congrArg Host.Outcome.next (if_neg (by rw [hgood]; decide)), State.event_reports _ _ _ _⟩

theorem exec_entropyRecovered {s : State} (hbad : s.sea.entropyBad = true) :
    Answers (exec .entropyRecovered s) { s with sea := { s.sea with entropyBad := false } } :=
  ⟨_, congrArg Host.Outcome.next (if_pos hbad), State.event_reports _ _ _ _⟩

/-- Settles O49: the end of SEA_IDENTITY and the commands of the entropy source, each by its equation. -/
theorem seawallOperationsEnd : Obligations.SeawallOperationsEnd := fun _ hs =>
  ⟨fun _ _ hruns hqueue _ => exec_seaIdentityDone hs hruns hqueue, fun hgood => exec_entropyFailure hgood,
    fun hbad => exec_entropyRecovered hbad⟩

end Sys2Proof.Machine
end

section
/-! The housekeeping converter: what a trigger starts, and what its timers queue (R437 to R448). -/
namespace Sys2Proof.Machine
open Sys2Proof

/-- With no conversion running, an urgent trigger has nothing to break off: its pass begins. -/
theorem State.urgentTrigger_idle {s : State} (hdr : Option Hdr) (hen : s.on Reg.HKA_CFG_EN = true) (hinj : s.hka.inj = none)
    (hconv : s.hka.conv = none) : s.urgentTrigger hdr = (s.beginPass 2 hdr).hkaNext s.now := by
  have hkeep : s.hkaPreempt = s := by
    unfold State.hkaPreempt
    rw [hconv]
  unfold State.urgentTrigger
  rw [hen, hinj, hkeep]
  exact congrArg (fun u : State => (u.beginPass 2 hdr).hkaNext u.now) (if_neg (by simp [hconv]))

/-- An urgent trigger while an injected pass runs is held. -/
theorem State.urgentTrigger_held {s : State} (hdr : Option Hdr) (hen : s.on Reg.HKA_CFG_EN = true) (hinj : s.hka.inj ≠ none)
    (hheld : s.hka.held = none) :
    s.urgentTrigger hdr = { s with hka := { s.hka with held := some hdr } }.setF Reg.HKA_STAT_INJ_HELD := by
  unfold State.urgentTrigger
  rw [hen, Option.isSome_iff_ne_none.2 hinj, hheld]
  rfl

/-- A regular trigger begins a pass where none runs. -/
theorem State.regularTrigger_idle {s : State} (hen : s.on Reg.HKA_CFG_EN = true) (hreg : s.hka.reg = none) :
    s.regularTrigger = ((s.hkaAdvance).beginPass 3 none).hkaNext s.now := by
  unfold State.regularTrigger
  rw [hen, hreg]
  rfl

/-- A regular trigger while a regular pass runs is counted as ignored. -/
theorem State.regularTrigger_ignored {s : State} (hen : s.on Reg.HKA_CFG_EN = true) (hreg : s.hka.reg ≠ none) :
    s.regularTrigger = { s with hka := { s.hka with ignored := s.hka.ignored + 1 } }.setF Reg.HKA_STAT_REG_OVR := by
  unfold State.regularTrigger
  rw [hen, Option.isSome_iff_ne_none.2 hreg]
  rfl

/-- Settles O56: injected, regular, timed and event triggers, the bias sweep and the supply check. -/
theorem converterTriggers : Obligations.ConverterTriggers := by
  intro s hs
  refine ⟨fun h g hen hheld => ?_, fun rq hw hen => ?_, fun seq due hseq hdue hsrc hpast => ?_, fun seq due rest hdel hpast hsrc => ?_,
    fun hn hpast => ?_, fun hrun hrails => ?_⟩
  · have hfree : (if s.on Reg.HKA_CFG_EN && s.hka.held.isNone then none else some St.notReady) = (none : Option Nat) := by
      rw [hen, hheld]
      rfl
    have hrun : exec (.hkaInject h) s = .next (s.urgentTrigger (some h)) := by
      show Host.Outcome.next (s.acceptNow h 0xC0 (if s.on Reg.HKA_CFG_EN && s.hka.held.isNone then none else some St.notReady) _) = _
      rw [hfree, g.acceptNow]
    rw [hrun]
    exact ⟨fun hinj => congrArg _ (s.urgentTrigger_held (some h) hen hinj hheld),
      fun hinj hconv => congrArg _ (s.urgentTrigger_idle (some h) hen hinj hconv)⟩
  · have hrun : exec (.start rq) s = .next s.regularTrigger := congrArg Host.Outcome.next (if_pos hw)
    rw [hrun]
    exact ⟨fun hreg => congrArg _ (State.regularTrigger_idle hen hreg), fun hreg => congrArg _ (State.regularTrigger_ignored hen hreg)⟩
  · show execHkaTimerTrigger seq s = _
    unfold execHkaTimerTrigger
    rw [hdue]
    exact congrArg Host.Outcome.next (if_pos ⟨hseq, hsrc, decide_eq_true hpast⟩)
  · have hfind : s.hka.delays.find? (fun d => d.1 == seq && s.due d.2) = some (seq, due) := by
      rw [hdel]
      exact List.find?_cons_of_pos (by simp [State.due, hpast])
    have herase : s.hka.delays.erase (seq, due) = rest := by
      rw [hdel, List.erase_cons_head]
    show execHkaEventTrigger seq s = _
    unfold execHkaEventTrigger
    rw [hfind]
    dsimp only
    rw [herase]
    exact congrArg Host.Outcome.next (if_pos hsrc)
  · exact congrArg Host.Outcome.next (if_neg (by simp [hn, State.due, hpast]))
  · exact congrArg Host.Outcome.next (if_pos (by simp [hrun, hrails]))

end Sys2Proof.Machine
end

section
/-! Conversions that end, and the tracking of the mains (R440, R445 to R447). -/
namespace Sys2Proof.Machine
open Sys2Proof

/-! What the converter starts next leaves the over-range marks alone. -/

theorem State.startConv_suspect (s : State) (cls chan from_ settle tint : Nat) :
    (s.startConv cls chan from_ settle tint).hka.suspect = s.hka.suspect := rfl

theorem State.setPass_suspect (s : State) (cls : Nat) (p : Option Pass) : (s.setPass cls p).hka.suspect = s.hka.suspect := by
  unfold State.setPass
  split <;> rfl

theorem State.startEntry_suspect (s : State) (cls : Nat) (p : Pass) (from_ : Nat) :
    (s.startEntry cls p from_).hka.suspect = s.hka.suspect :=
  (State.startConv_suspect _ _ _ _ _ _).trans (s.setPass_suspect cls _)

theorem State.hkaNext_suspect (s : State) (t : Nat) : (s.hkaNext t).hka.suspect = s.hka.suspect := by
  unfold State.hkaNext
  split
  · rfl
  · dsimp only
    split
    · split <;> rfl
    · split
      · exact s.startEntry_suspect _ _ _
      · exact s.startEntry_suspect _ _ _
      · rfl

theorem State.streamResult_suspect (s : State) (time entry cls chan flags : Nat) (code : Int) :
    (s.streamResult time entry cls chan flags code).hka.suspect = s.hka.suspect := by
  unfold State.streamResult State.when
  split
  · exact congrArg HkaState.suspect (State.eventAt_reports _ _ _ _ _).hka
  · rfl

/-! Showing the mains' state and telling of it leave the lock and the converter. -/

theorem State.mainsRecord_hka (s : State) (kind : Nat) : (s.mainsRecord kind).hka = s.hka := (State.event_reports _ _ _ _).hka

theorem State.Shows.mainsTold {s : State} {f : Field} {v : Nat} (h : s.Shows f v) (kind : Nat)
    (hf : Reg.HKA_MAINS_T_M.apart f) (hrec : recordField f = false) : (s.showMains.mainsRecord kind).Shows f v :=
  (h.put ⟨by decide, hf⟩).event hrec

theorem recordField_mains (lsb width : Nat) : recordField ⟨Reg.HKA_MAINS, lsb, width⟩ = false :=
  recordField_between ⟨by simp only [Reg.HKA_MAINS]; omega, by simp only [Reg.HKA_MAINS]; omega⟩

/-- The lock that falls is told: `LOCKED` is clear, `LOST` set, and the converter as it was. -/
theorem State.mainsTold_leaves {s : State} (hs : s.stored) :
    (((s.put Reg.HKA_MAINS_LOCKED 0).setF Reg.HKA_MAINS_LOST).showMains.mainsRecord 0).hka = s.hka ∧
      (((s.put Reg.HKA_MAINS_LOCKED 0).setF Reg.HKA_MAINS_LOST).showMains.mainsRecord 0).on Reg.HKA_MAINS_LOCKED = false ∧
      (((s.put Reg.HKA_MAINS_LOCKED 0).setF Reg.HKA_MAINS_LOST).showMains.mainsRecord 0).on Reg.HKA_MAINS_LOST = true :=
  ⟨(State.mainsRecord_hka (State.showMains _) 0).trans ((State.put_hka _ _ _).trans ((State.put_hka _ _ _).trans (State.put_hka _ _ _))),
    (((State.put_shows hs Reg.HKA_MAINS_LOCKED 0).setF (g := Reg.HKA_MAINS_LOST)).mainsTold 0
      (by decide) (recordField_mains 18 1)).off,
    ((State.setF_shows (State.put_stored Reg.HKA_MAINS_LOCKED 0 hs) Reg.HKA_MAINS_LOST).mainsTold 0
      (by decide) (recordField_mains 19 1)).on⟩

/-- Losing the mains clears the lock and the intervals, and leaves the last edge. -/
theorem State.mainsLost_leaves {s : State} (hs : s.stored) :
    s.mainsLost.hka.edge = s.hka.edge ∧ s.mainsLost.hka.intervals = [] ∧ s.mainsLost.on Reg.HKA_MAINS_LOCKED = false ∧
      (s.on Reg.HKA_MAINS_LOCKED = true → s.mainsLost.on Reg.HKA_MAINS_LOST = true) := by
  have hs' : { s with hka := { s.hka with intervals := [] } }.stored := hs
  obtain ⟨hhka, hlocked, hlost⟩ := State.mainsTold_leaves hs'
  unfold State.mainsLost
  dsimp only
  split
  next hoff =>
    have hclear : s.on Reg.HKA_MAINS_LOCKED = false := by simpa using hoff
    exact ⟨rfl, rfl, hclear, fun hon => absurd (hclear.symm.trans hon) Bool.false_ne_true⟩
  next => exact ⟨(congrArg HkaState.edge hhka).trans rfl, (congrArg HkaState.intervals hhka).trans rfl, hlocked, fun _ => hlost⟩

/-- Settles O57: conversions and read-backs that end, the intervals of the mains' edges, and their loss after 50 ms (log 100 has
the two reads of `HKA_MAINS` in force). -/
theorem conversionsAndMains : Obligations.ConversionsAndMains := by
  intro s hs
  refine ⟨fun c p nv hc hcls hdue hpass => ?_, fun c nv hc hcls hchan hdue => ?_, fun c nv hc hcls hchan hdue => ?_,
    fun hmode hrun => ⟨fun hedge => ?_, fun last hedge hlo hhi => ?_, fun last hedge hout => ?_⟩, fun last hedge hmode hpast hlocked => ?_⟩
  · show execConversionDone nv s = _
    unfold execConversionDone
    generalize s.hkaAdvance = u at *
    dsimp only
    rw [hc]
    dsimp only
    rw [if_neg (by simp [hcls, State.due, hdue]), if_neg hcls]
    have hpass' : { u with hka := { u.hka with conv := none, resetUntil := c.stop } }.hkaPass c.cls = some p := hpass
    rw [hpass']
  · show ∃ t, execConversionDone nv s = .next t ∧ _
    unfold execConversionDone
    generalize s.hkaAdvance = u at *
    dsimp only
    rw [hc]
    dsimp only
    rw [if_neg (by simp [State.due, hdue]; omega), if_pos hcls]
    refine ⟨_, rfl, ?_⟩
    unfold State.suspect
    rw [State.hkaNext_suspect, State.streamResult_suspect]
    exact Tab.getD_set _ _ _ _
  · show execBiasReadback nv s = _
    unfold execBiasReadback
    generalize s.hkaAdvance = u at *
    dsimp only
    rw [hc]
    dsimp only
    rw [if_neg (by simp [hcls, State.due, hdue]; omega)]
  · show execMainsEdge s = _
    unfold execMainsEdge
    rw [if_neg (by simp [hmode, hrun]), hedge]
  · show ∃ t, execMainsEdge s = .next t ∧ _
    unfold execMainsEdge
    rw [if_neg (by simp [hmode, hrun]), hedge]
    dsimp only
    rw [if_neg (by omega)]
    refine ⟨_, rfl, ?_⟩
    split
    · rw [State.mainsRecord_hka]
      exact ⟨rfl, rfl⟩
    · exact ⟨rfl, rfl⟩
  · show ∃ t, execMainsEdge s = .next t ∧ _
    unfold execMainsEdge
    rw [if_neg (by simp [hmode, hrun]), hedge]
    dsimp only
    rw [if_pos hout]
    have hs' : { s with hka := { s.hka with edge := some s.now } }.stored := hs
    obtain ⟨hkeep, hnone, hoff, -⟩ := State.mainsLost_leaves hs'
    exact ⟨_, rfl, hkeep, hnone, hoff⟩
  · show ∃ t, execMainsLoss s = .next t ∧ _
    unfold execMainsLoss
    rw [hedge]
    dsimp only
    rw [if_pos (by simp [hmode, State.due, hpast])]
    have hs' : { s with hka := { s.hka with edge := none } }.stored := hs
    obtain ⟨hkeep, hnone, hoff, hlost⟩ := State.mainsLost_leaves hs'
    exact ⟨_, rfl, hkeep, hnone, hoff, hlost hlocked⟩

end Sys2Proof.Machine
end

section
/-! The captures of Gauge: configured, armed, triggered, written, drained, armed again and stopped (R485 to R495). -/
namespace Sys2Proof.Machine
open Sys2Proof

/-! ## Streams that move to a state -/

theorem State.setGau_gau (s : State) (k st : Nat) : (s.setGau k st).gau = s.gau := rfl

theorem State.setGau_stored {s : State} (hs : s.stored) (k st : Nat) : (s.setGau k st).stored :=
  State.put_stored _ _ (State.put_stored _ _ (State.put_stored _ _ hs))

theorem gauState_ok (k : Nat) : (Reg.GAU_S_STAT_STATE k).ok := Nat.le_of_ble_eq_true rfl

/-- The words that all streams share lie before each stream's own. -/
theorem gauShared_apart {lsb width : Nat} (k : Nat) : (⟨Reg.GAU_STAT, lsb, width⟩ : Field).apart (Reg.GAU_S_STAT_STATE k) :=
  .inl (by simp only [Reg.GAU_STAT, Reg.GAU_S_STAT_STATE, Reg.GAU_S_STAT]; omega)

theorem gauState_apart {j k : Nat} (h : j ≠ k) : (Reg.GAU_S_STAT_STATE j).apart (Reg.GAU_S_STAT_STATE k) :=
  .inl (by simp only [Reg.GAU_S_STAT_STATE, Reg.GAU_S_STAT]; omega)

/-- The rest of a stream's word is apart from every stream's state. -/
theorem gauWord_apart {lsb width : Nat} (j k : Nat) (h : 3 ≤ lsb) :
    (⟨Reg.GAU_S_STAT j, lsb, width⟩ : Field).apart (Reg.GAU_S_STAT_STATE k) := .inr (.inr h)

theorem State.setGau_shows {s : State} (hs : s.stored) (k st : Nat) (hst : st < 8) :
    (s.setGau k st).Shows (Reg.GAU_S_STAT_STATE k) st :=
  ((State.put_shows hs _ st (Nat.mod_eq_of_lt (show st < 2 ^ 3 from hst)) (gauState_ok k)).put ⟨by decide, gauShared_apart k⟩).put ⟨by decide, gauShared_apart k⟩

theorem State.Shows.setGau {s : State} {f : Field} {v : Nat} (h : s.Shows f v) (k st : Nat) (hk : (Reg.GAU_S_STAT_STATE k).apart f)
    (hshared : Reg.GAU_STAT_ARMED.apart f ∧ Reg.GAU_STAT_TRIGGERED.apart f) : (s.setGau k st).Shows f v :=
  ((h.put ⟨gauState_ok k, hk⟩).put ⟨by decide, hshared.1⟩).put ⟨by decide, hshared.2⟩

theorem State.Shows.setGau_other {s : State} {j v : Nat} (h : s.Shows (Reg.GAU_S_STAT_STATE j) v) (k st : Nat) (hne : k ≠ j) :
    (s.setGau k st).Shows (Reg.GAU_S_STAT_STATE j) v :=
  h.setGau k st (gauState_apart hne) ⟨gauShared_apart j, gauShared_apart j⟩

/-- All streams of a list move to a state. -/
theorem State.each_setGau {s : State} (hs : s.stored) (l : List Nat) (st : Nat) (hst : st < 8) :
    ∀ j ∈ l, (s.each l fun s j => s.setGau j st).gauState j = st := fun j hj =>
  ((State.each_establishes (P := fun j (u : State) => u.Shows (Reg.GAU_S_STAT_STATE j) st) l (fun s j => s.setGau j st) hs
    (fun _ x _ hu => State.setGau_stored hu x st) (fun _ x _ hu => State.setGau_shows hu x st hst)
    (fun _ x _ _ _ hne _ hy => hy.setGau_other x st (Ne.symm hne))).2 j hj).value

theorem State.each_setGau_gau (s : State) (l : List Nat) (st : Nat) : (s.each l fun s j => s.setGau j st).gau = s.gau :=
  State.each_reads s l _ State.gau fun _ _ => rfl

/-! ## Streams that enter PRE -/

/-- One stream enters PRE: its samples count from now. -/
def State.enterPreOne (s : State) (k : Nat) : State :=
  (match s.gauStream k with
    | some g => { s with gau := { s.gau with streams := s.gau.streams.set k { g with t0 := s.now } } }
    | none => s).setGau k 1

theorem State.enterPre_eq (s : State) (ks : List Nat) : s.enterPre ks = s.each ks State.enterPreOne := rfl

theorem State.enterPreOne_caps (s : State) (k : Nat) : (s.enterPreOne k).gau.caps = s.gau.caps := by
  unfold State.enterPreOne
  split <;> rfl

theorem State.enterPreOne_shows {s : State} (hs : s.stored) (k : Nat) : (s.enterPreOne k).Shows (Reg.GAU_S_STAT_STATE k) 1 := by
  unfold State.enterPreOne
  split
  · refine State.setGau_shows ?_ k 1 (by decide)
    exact hs
  · exact State.setGau_shows hs k 1 (by decide)

theorem State.Shows.enterPreOne {s : State} {j v : Nat} (h : s.Shows (Reg.GAU_S_STAT_STATE j) v) (k : Nat) (hne : k ≠ j) :
    (s.enterPreOne k).Shows (Reg.GAU_S_STAT_STATE j) v := by
  unfold State.enterPreOne
  split
  · exact (h.updGau _).setGau_other k 1 hne
  · exact h.setGau_other k 1 hne

theorem State.enterPre_caps (s : State) (ks : List Nat) : (s.enterPre ks).gau.caps = s.gau.caps := by
  rw [State.enterPre_eq]
  exact State.each_reads s ks State.enterPreOne (fun u => u.gau.caps) State.enterPreOne_caps

theorem State.enterPre_shows {s : State} (hs : s.stored) (ks : List Nat) :
    ∀ j ∈ ks, (s.enterPre ks).Shows (Reg.GAU_S_STAT_STATE j) 1 := by
  rw [State.enterPre_eq]
  exact (State.each_establishes (P := fun j (u : State) => u.Shows (Reg.GAU_S_STAT_STATE j) 1) ks State.enterPreOne hs
    (fun _ x _ hu => (State.enterPreOne_shows hu x).stored) (fun _ x _ hu => State.enterPreOne_shows hu x)
    (fun _ x _ _ _ hne _ hy => hy.enterPreOne x (Ne.symm hne))).2

/-! ## Captures that end -/

/-- The end of a capture takes it out of the captures. -/
theorem State.endCapture_caps (s : State) (k : Nat) (c : Capture) : (s.endCapture k c).gau.caps = s.gau.caps.del k := by
  unfold State.endCapture
  dsimp only
  have hstreams := State.each_setGau_gau { s with gau := { s.gau with caps := s.gau.caps.del k } } (capStreams c) 0
  generalize State.each _ _ _ = u at hstreams ⊢
  have hended : (match c.cause with
    | some cause => u.event 0x003C 0x1103 [c.cfg.mask, cause]
    | none => u).gau = u.gau := by
    split
    · exact (State.event_reports _ _ _ _).gau
    · rfl
  refine Eq.trans ?_ (congrArg GauState.caps (hended.trans hstreams))
  split
  · exact congrArg GauState.caps (State.complete_reports _ _ _ _).gau
  · rfl

theorem State.Shows.endCapture {s : State} {f : Field} {v : Nat} (h : s.Shows f v) (k : Nat) (c : Capture)
    (hf : ∀ j, (Reg.GAU_S_STAT_STATE j).apart f) (hshared : Reg.GAU_STAT_ARMED.apart f ∧ Reg.GAU_STAT_TRIGGERED.apart f)
    (hrec : recordField f = false) : (s.endCapture k c).Shows f v := by
  unfold State.endCapture
  have hstreams := (h.updGau { s.gau with caps := s.gau.caps.del k }).each (l := capStreams c) (run := fun s j => s.setGau j 0)
    fun _ j hu => hu.setGau j 0 (hf j) hshared
  dsimp only
  generalize State.each _ _ _ = u at hstreams ⊢
  have hended : (match c.cause with
    | some cause => u.event 0x003C 0x1103 [c.cfg.mask, cause]
    | none => u).Shows f v := by
    split
    · exact hstreams.event hrec
    · exact hstreams
  exact .ite (hended.complete hrec) hended

end Sys2Proof.Machine
end

section
/-! The commands of Gauge's captures, one by one (R485 to R495). -/
namespace Sys2Proof.Machine
open Sys2Proof

theorem State.each_singleton {α : Type} (s : State) (x : α) (run : State → α → State) : s.each [x] run = run s x := rfl

section
variable {s : State} {h : Hdr} (g : s.TakesNow h)
include g

/-- Arming keeps the capture under its source, with its time, and moves its streams to PRE. -/
theorem State.TakesNow.exec_gauArm (hs : s.stored) {c : GauArmCmd} (hfields : gauArmFail s c = none) :
    ∃ t, exec (.gauArm h c) s = .next t ∧
      (∃ cap, t.gau.caps.get? c.source = some cap ∧ cap.hdr = h ∧ cap.cfg = c ∧ cap.armedAt = s.now ∧ cap.triggered = false) ∧
      ∀ k ∈ maskList c.mask 8, t.gauState k = 1 := by
  show ∃ t, execGauArm h c s = .next t ∧ _
  rw [execGauArm, hfields, g.acceptNow]
  dsimp only
  generalize hcap : (⟨h, c, !c.rep, s.now, _, 0, 0, 0, false, false, false, 0, s.gau.mask.getD [], [], 0, none⟩ : Capture) = cap
  have hset : (s.setCap c.source cap).stored := hs
  have hpre := State.enterPre_shows hset (maskList c.mask 8)
  have hcaps := State.enterPre_caps (s.setCap c.source cap) (maskList c.mask 8)
  generalize (s.setCap c.source cap).enterPre (maskList c.mask 8) = u at hpre hcaps ⊢
  have hheld : ∀ k ∈ maskList c.mask 8, (u.each (maskList c.mask 8) fun s k => s.put (Reg.GAU_S_STAT_HELDOFF k) 0).Shows
      (Reg.GAU_S_STAT_STATE k) 1 := fun k hk => (hpre k hk).each fun v j hv =>
    hv.put ⟨Nat.le_of_ble_eq_true rfl, gauWord_apart j k (Nat.le_of_ble_eq_true rfl)⟩
  have hkept := State.each_reads u (maskList c.mask 8) (fun s k => s.put (Reg.GAU_S_STAT_HELDOFF k) 0) State.gau
    fun v j => State.put_gau v (Reg.GAU_S_STAT_HELDOFF j) 0
  generalize State.each u (maskList c.mask 8) _ = v at hheld hkept ⊢
  refine ⟨_, rfl, ⟨cap, ?_, ?_⟩, fun k hk => ?_⟩
  · have hgau : (if c.rep then v.complete h 0xC9 St.done else v).gau = v.gau := by
      split
      · exact (State.complete_reports _ _ _ _).gau
      · rfl
    rw [hgau, hkept, hcaps]
    exact (Tab.get?_set _ _ _ _).trans (if_pos rfl)
  · rw [← hcap]
    exact ⟨rfl, rfl, rfl, rfl⟩
  · exact (State.Shows.ite ((hheld k hk).complete (recordField_between ⟨by simp only [Reg.GAU_S_STAT_STATE, Reg.GAU_S_STAT]; omega, by
      have := (mem_maskList.1 hk).1
      simp only [Reg.GAU_S_STAT_STATE, Reg.GAU_S_STAT]
      omega⟩)) (hheld k hk)).value

/-- Stopping a capture that waits ends it and says that it was cut. -/
theorem State.TakesNow.exec_gauStop (hs : s.stored) {mask k : Nat} {c : Capture} (hpos : 0 < mask) (hmask : mask < 256)
    (hcaps : s.gau.caps = [(k, c)]) (hhit : c.cfg.mask &&& mask ≠ 0) (hpre : s.gauState k = 1) :
    ∃ t, exec (.gauStop h mask) s = .next t ∧ t.gau.caps = [] ∧ t.get Reg.GAU_STAT_CUT_EVT = 1 := by
  have hrange : rangeUnless [decide (0 < mask ∧ mask < 256)] = none := rangeUnless_one (decide_eq_true ⟨hpos, hmask⟩)
  have hkeys : s.gau.caps.map Prod.fst = [k] := by
    rw [hcaps]
    rfl
  have hfound : s.gau.caps.get? k = some c := by
    rw [hcaps]
    exact if_pos rfl
  have hcut := State.setF_shows hs Reg.GAU_STAT_CUT_EVT
  have hstate : (s.setF Reg.GAU_STAT_CUT_EVT).gauState k = 1 :=
    (((State.shows hs (Reg.GAU_S_STAT_STATE k)).setF (g := Reg.GAU_STAT_CUT_EVT) ⟨by decide, gauShared_apart k⟩).value).trans hpre
  have hrun : exec (.gauStop h mask) s =
      .next (((s.setF Reg.GAU_STAT_CUT_EVT).endCapture k { c with cause := some 0 }).complete h 0xCA St.done) := by
    show execGauStop h mask s = _
    rw [execGauStop, hrange, g.acceptNow]
    dsimp only
    rw [hkeys, State.each_singleton, hfound]
    dsimp only
    rw [if_neg hhit, if_neg (by rw [hstate]; decide), if_neg (by rw [hstate]; decide)]
  have hrec : recordField Reg.GAU_STAT_CUT_EVT = false :=
    recordField_between ⟨by simp only [Reg.GAU_STAT_CUT_EVT, Reg.GAU_STAT]; omega, by simp only [Reg.GAU_STAT_CUT_EVT, Reg.GAU_STAT]; omega⟩
  refine ⟨_, hrun, ?_, ((hcut.endCapture k _ (fun j => (gauShared_apart j).symm) ⟨by decide, by decide⟩ hrec).complete hrec).value⟩
  rw [(State.complete_reports _ _ _ _).gau, State.endCapture_caps, State.setF, State.put_gau, hcaps]
  exact List.filter_cons_of_neg (by simp)

end

/-- A source whose capture waits, met by a condition, moves its streams to POST. -/
theorem State.exec_gaugeTrigger {s : State} (hs : s.stored) {source conds : Nat} {c : Capture} {g : GauStream}
    (hcap : s.gau.caps.get? source = some c) (hstream : s.gauStream source = some g) (hpre : s.gauState source = 1)
    (hfull : c.cfg.reqFull = false) (hmet : s.metNow c conds ≠ 0) :
    ∃ t, exec (.gaugeTrigger source conds) s = .next t ∧ (∀ j ∈ capStreams c, j < 8 → t.gauState j = 2) ∧
      t.gau.caps.get? source = some { c with
        cfg := { c.cfg with cond := if bit (s.metNow c conds) 2 then putBit c.cfg.cond 2 false else c.cfg.cond },
        pend := 0, triggered := true, trigMap := s.metNow c conds, trigAt := if c.pend = 0 then s.now else c.trigAt } := by
  show ∃ t, execGaugeTrigger source conds s = .next t ∧ _
  rw [execGaugeTrigger, hcap, hstream]
  dsimp only
  rw [if_neg (fun hne => hne hpre), if_neg hmet, if_neg (by simp [hfull])]
  refine ⟨_, rfl, fun j hj _ => State.each_setGau ?_ (capStreams c) 2 (by decide) j hj, ?_⟩
  · exact hs
  · rw [State.each_setGau_gau]
    exact (Tab.get?_set _ _ _ _).trans (if_pos rfl)

/-- A stream of a capture that arms again goes to its next segment. -/
def State.rearmOne (s : State) (j : Nat) : State :=
  match s.gauStream j with
  | some g => { s with gau := { s.gau with streams := s.gau.streams.set j { g with seg := (g.seg + 1) % g.cfg.segments } } }.put
      (Reg.GAU_S_STAT_SEGMENT j) ((g.seg + 1) % g.cfg.segments)
  | none => s

theorem State.rearmOne_now (s : State) (j : Nat) : (s.rearmOne j).now = s.now := by
  unfold State.rearmOne
  split <;> rfl

theorem State.rearmOne_stored {s : State} (hs : s.stored) (j : Nat) : (s.rearmOne j).stored := by
  unfold State.rearmOne
  split
  · exact State.put_stored _ _ hs
  · exact hs

/-- A capture armed again starts afresh, with its streams in PRE. -/
theorem State.exec_gaugeRearm {s : State} (hs : s.stored) {source : Nat} {c : Capture} (hcap : s.gau.caps.get? source = some c)
    (hrearm : s.gauState source = 4) :
    ∃ t, exec (.gaugeRearm source) s = .next t ∧
      t.gau.caps.get? source = some { c with
        pend := 0, trigMap := 0, triggered := false, cut := false, trip := false, armedAt := s.now, records := [] } ∧
      ∀ j ∈ capStreams c, j < 8 → t.gauState j = 1 := by
  have hrun : exec (.gaugeRearm source) s = .next (((s.each (capStreams c) State.rearmOne).setCap source { c with
      pend := 0, trigMap := 0, triggered := false, cut := false, trip := false, armedAt := (s.each (capStreams c) State.rearmOne).now,
      records := [] }).enterPre (capStreams c)) := by
    show execGaugeRearm source s = _
    rw [execGaugeRearm, hcap]
    exact congrArg Host.Outcome.next (if_neg (fun hne => hne hrearm))
  have hnow : (s.each (capStreams c) State.rearmOne).now = s.now := State.each_reads s _ _ State.now State.rearmOne_now
  have hstored : (s.each (capStreams c) State.rearmOne).stored :=
    State.each_induct _ _ hs fun u hu j _ => State.rearmOne_stored hu j
  rw [hrun]
  generalize s.each (capStreams c) State.rearmOne = u at hnow hstored ⊢
  refine ⟨_, rfl, ?_, fun j hj _ => (State.enterPre_shows (s := u.setCap source _) hstored (capStreams c) j hj).value⟩
  rw [State.enterPre_caps, hnow]
  exact (Tab.get?_set _ _ _ _).trans (if_pos rfl)

/-- Settles O58: the captures' commands, triggers, records, and their end (logs 102 to 104 have the words of `GAU_MASK` and the
record's in force). -/
theorem capturesRunTheirStates : Obligations.CapturesRunTheirStates := by
  intro s hs
  refine ⟨fun h c g hfields => ?_, fun h c g hfields => g.exec_gauArm hs hfields,
    fun h mask k c g hpos hmask hcaps hhit hpre _ => g.exec_gauStop hs hpos hmask hcaps hhit hpre, fun h mask g hpos hmask hany => ?_,
    fun h addr g ha hup => ?_, fun rising hen hedge => ?_, fun source conds => ?_, fun source c g hcap hstream hauto hfull hpre hdue => ?_,
    fun source c data hcap hpost hfilled hdrain => ?_, fun source c g r hcap hwrite hup hrecs hstream => ?_,
    fun source c hcap hrearm => State.exec_gaugeRearm hs hcap hrearm⟩
  · have hrun : exec (.gauStream h c) s = .next (({ s with gau := { s.gau with
        streams := s.gau.streams.set c.stream ⟨c, 0, s.now⟩ } }.put (Reg.GAU_S_STAT_SEGMENT c.stream) 0).complete h 0xC8 St.done) := by
      show execGauStream h c s = _
      rw [execGauStream, hfields, g.acceptNow]
    rw [hrun]
    exact .of_reports (State.complete_reports _ _ _ _)
  · have hfields : firstFail [(decide (0 < mask ∧ mask < 256), St.range),
        ((maskList mask 8).any fun k => s.gauState k != 0, St.notReady)] = none := by
      rw [firstFail_cons_true (decide_eq_true ⟨hpos, hmask⟩), firstFail_cons_true hany]
      rfl
    have hrun : exec (.gauForce h mask) s =
        .next ((s.each (maskList mask 8) fun s k => s.gauMeet k 6 s.now).complete h 0xCB St.done) := by
      show execGauForce h mask s = _
      rw [execGauForce, hfields, g.acceptNow]
    rw [hrun]
    exact .of_reports (State.complete_reports _ _ _ _)
  · have hrun : exec (.gauMask h addr) s =
        .next ({ s with gau := { s.gau with mask := some (s.hostRead addr 128) } }.complete h 0xCC St.done) := by
      show execGauMask h addr s = _
      rw [execGauMask, if_pos ha, g.acceptNow]
      exact congrArg Host.Outcome.next (if_neg (by simp [hup]))
    rw [hrun]
    exact .of_reports (State.complete_reports _ _ _ _)
  · have hhit : (s.on Reg.GAU_PIN_EN && (s.get Reg.GAU_PIN_EDGE == b2n (!rising))) = true := by
      rw [hen, hedge]
      cases rising <;> rfl
    exact congrArg Host.Outcome.next (if_pos hhit)
  · intro c g hcap hstream hpre hfull hmet
    exact State.exec_gaugeTrigger hs hcap hstream hpre hfull hmet
  · show execAutoTrigger source s = _
    rw [execAutoTrigger, hcap, hstream]
    refine congrArg Host.Outcome.next (if_pos ?_)
    simp [hauto, hfull, hpre, State.due, hdue]
  · show execGaugeRecord source data s = _
    rw [execGaugeRecord, hcap]
    dsimp only
    rw [if_neg (by simp [hpost, hfilled]), if_pos hdrain]
  · show execGaugeDrained source s = _
    rw [execGaugeDrained, hcap]
    dsimp only
    rw [if_neg (by simp [hwrite, hup]), hrecs, State.each_singleton, hstream]

end Sys2Proof.Machine
end

section
/-! Fatal errors and their dumps (R519 to R524), and the health of the device: telemetry, the log, path tests and the scrubber. -/
namespace Sys2Proof.Machine
open Sys2Proof

/-- Settles O59: the dump's commands, each a choice of one branch. -/
theorem fatalErrorsAreDumped : Obligations.FatalErrorsAreDumped := by
  intro s _
  refine ⟨fun cause engine hlo hhi hrun hdump => ?_, fun h g hregion hdump => ?_, fun d flash hdump hdest => ?_,
    fun d hdump hdest hdue hmore => ?_, fun slot hslot hopen hpending hother => ?_, fun h fullMem addr len g ha hlen => ?_,
    fun h fullMem addr len g => ?_, fun h addr g ha hpending hup => ?_⟩
  · refine congrArg Host.Outcome.next ((if_pos ⟨hlo, hhi⟩).trans ?_)
    unfold State.fatal
    rw [hrun, hdump]
    rfl
  · have hfields : (if s.flt.region.isSome && s.flt.dump.isNone then none else some St.notReady) = (none : Option Nat) := by
      rw [Option.isSome_iff_ne_none.2 hregion, hdump]
      rfl
    show execFltDumpTest h s = _
    rw [execFltDumpTest, hfields, g.acceptNow]
  · show execDumpWritten s = _
    rw [execDumpWritten, hdump]
    dsimp only
    rw [hdest]
  · show execDumpRetry s = _
    rw [execDumpRetry, hdump]
    dsimp only
    rw [if_neg (by simp [State.due, hdue]), hdest]
    exact congrArg Host.Outcome.next (if_pos hmore)
  · exact congrArg Host.Outcome.next (if_pos ⟨hslot, hopen, hpending, hother⟩)
  · have hfields : firstFail [(addr % 4096 == 0, St.misaligned), (decide ((if fullMem then 4194304 else 262144) ≤ len), St.range)] = none := by
      rw [firstFail_cons_true (by rw [ha]; rfl), firstFail_cons_true (decide_eq_true hlen)]
      rfl
    have hrun : exec (.fltDumpRegion h fullMem false addr len) s =
        .next (({ s with flt := { s.flt with region := some (addr, len, fullMem) } }.put Reg.FLT_STAT_REGION_OK 1).complete h 0xD0 St.done) := by
      show execFltDumpRegion h fullMem false addr len s = _
      rw [execFltDumpRegion, hfields]
      exact congrArg Host.Outcome.next (g.acceptNow 0xD0 _)
    rw [hrun]
    exact .of_reports (State.complete_reports _ _ _ _)
  · have hrun : exec (.fltDumpRegion h fullMem true addr len) s =
        .next (({ s with flt := { s.flt with region := none } }.put Reg.FLT_STAT_REGION_OK 0).complete h 0xD0 St.done) :=
      congrArg Host.Outcome.next (g.acceptNow 0xD0 _)
    rw [hrun]
    exact .of_reports (State.complete_reports _ _ _ _)
  · have hfields : firstFail [(addr % 64 == 0, St.misaligned), (s.on Reg.FLT_DUMP_STAT_FLASH_PENDING, St.notReady),
        (s.hostUp, St.busError)] = none := by
      rw [firstFail_cons_true (by rw [ha]; rfl), firstFail_cons_true hpending, firstFail_cons_true hup]
      rfl
    have hrun : exec (.fltDumpFetch h false addr) s =
        .next (((s.hostWrite addr (s.dumpSlot s.newestDump).data).put Reg.FLT_DUMP_STAT_FLASH_PENDING 0).completeR h 0xD1 St.done
          (bytesLE 4 (s.dumpSlot s.newestDump).data.length)) := by
      show execFltDumpFetch h false addr s = _
      rw [execFltDumpFetch, hfields, g.acceptNow]
      rfl
    rw [hrun]
    exact .of_reports (State.completeR_reports _ _ _ _ _)

theorem State.when_false (s : State) (run : State → State) : s.when false run = s := rfl

theorem State.hostWrite_transients (s : State) (a : Nat) (l : List Nat) : (s.hostWrite a l).transients = s.transients := by
  unfold State.transients
  simp only [State.hostWrite_rd64]

/-! ## Tests of removed paths -/

/-- The tests that run, and the paths they restored, are no records'. -/
theorem Reports.testing {s t : State} (h : Reports s t) : t.flt.testing = s.flt.testing := by
  have e := congrArg (fun u => u.flt.testing) h.work
  exact e

theorem Reports.restored {s t : State} (h : Reports s t) : t.flt.restored = s.flt.restored := by
  have e := congrArg (fun u => u.flt.restored) h.work
  exact e

theorem putBit_two_pow_false (p : Nat) : putBit (2 ^ p) p false = 0 := by
  simp [putBit, putBits, bits, b2n, Nat.div_self (Nat.two_pow_pos p)]

theorem putBit_zero_true (p : Nat) : putBit 0 p true = 2 ^ p := by simp [putBit, putBits, bits, b2n]

theorem bit_two_pow_self (p : Nat) : bit (2 ^ p) p = true := by
  rw [bit_eq_testBit, Nat.testBit_two_pow_self]

/-- A test of one removed path, whose unit is idle and which nothing holds, is taken. -/
theorem State.TakesNow.exec_pathRestore {s : State} {h : Hdr} (g : s.TakesNow h) {path : Nat} (hpath : path < 64)
    (hremoved : s.removed path = true) (hidle : s.tileState (path / 8) = 0) (hfree : bit s.flt.heldPaths path = false) :
    exec (.pathRestore h (2 ^ path)) s = .next { s with flt := { s.flt with testing := s.flt.testing ++ [(h, 2 ^ path, 0)] } } := by
  have hpaths : (maskList (2 ^ path) 64).filter s.removed = [path] := by
    rw [maskList_two_pow hpath, List.filter_cons_of_pos hremoved, List.filter_nil]
  have hrange : decide (0 < 2 ^ path ∧ 2 ^ path < 2 ^ 64) = true :=
    decide_eq_true ⟨Nat.two_pow_pos path, Nat.pow_lt_pow_right (by decide) hpath⟩
  have hfields : firstFail [(decide (0 < 2 ^ path ∧ 2 ^ path < 2 ^ 64), St.range),
      ([path].all fun p => s.tileState (p / 8) == 0, St.notReady)] = none := by
    rw [firstFail_cons_true hrange, firstFail_cons_true (by simp [hidle])]
    rfl
  have hnone : maskOf ([path].filter fun p => bit s.flt.heldPaths p) = 0 := by simp [hfree, maskOf]
  have hall : maskOf ([path].filter fun p => !bit s.flt.heldPaths p) = 2 ^ path := by simp [hfree, maskOf, putBit_zero_true]
  show execPathRestore h (2 ^ path) s = _
  rw [execPathRestore, hpaths, hfields, g.acceptNow, hnone, hall]
  exact congrArg Host.Outcome.next (if_pos (Nat.two_pow_pos path).ne')

/-- The passed test of the last path of its command ends the command. -/
theorem State.exec_pathTestDone {s : State} {path : Nat} {h : Hdr} (htest : s.flt.testing = [(h, 2 ^ path, 0)]) :
    ∃ t, exec (.pathTestDone path true) s = .next t ∧ t.flt.testing = [] ∧ bit t.flt.restored path = true := by
  have hfind : s.flt.testing.find? (fun t => bit t.2.1 path) = some (h, 2 ^ path, 0) := by
    rw [htest]
    exact List.find?_cons_of_pos (bit_two_pow_self path)
  have herase : s.flt.testing.erase (h, 2 ^ path, 0) = [] := by
    rw [htest, List.erase_cons_head]
  show ∃ t, execPathTestDone path true s = .next t ∧ _
  rw [execPathTestDone, hfind]
  dsimp only
  rw [herase, putBit_two_pow_false]
  refine ⟨_, rfl, ?_⟩
  generalize hu : (if true = true then _ else _ : State) = u
  have hdone : u.settleTest h 0 (if true = true then 0 else putBit 0 path true) = u.complete h 0xD4 St.done := rfl
  rw [hdone, (State.complete_reports u h 0xD4 St.done).testing, (State.complete_reports u h 0xD4 St.done).restored, ← hu]
  exact ⟨rfl, bit_putBit_same _ _ _⟩

/-- Settles O60: telemetry, the log, path tests and the scrubber (log 122 has the layout of the telemetry record in force). -/
theorem healthIsReported : Obligations.HealthIsReported := by
  intro s hs
  refine ⟨fun h k b addr g hlo hhi hb ha => ?_, fun h b addr g => ?_, fun tl o htel hbus hdue hlate hup hstate => ?_,
    fun h count addr g hlo hhi ha hup => ?_, fun h path g hpath hremoved hidle hfree => g.exec_pathRestore hpath hremoved hidle hfree,
    fun h path _ htest _ => State.exec_pathTestDone htest, fun addr hstate hrun => ⟨?_, ?_⟩⟩
  · have hk : k ≠ 0 := by omega
    have hfields : firstFail [(decide (4 ≤ k ∧ k ≤ 16 ∧ b < 256), St.range), (addr % 128 == 0, St.misaligned)] = none := by
      rw [firstFail_cons_true (decide_eq_true ⟨hlo, hhi, hb⟩), firstFail_cons_true (by rw [ha]; rfl)]
      rfl
    have hrun : exec (.telSetup h k b addr) s = .next (({ s with flt := { s.flt with
        telemetry := some ⟨k, if b = 0 then 256 else b, addr, 0, s.now, s.transients,
          s.rd64 (Reg.FLT_TRANS 7), s.rd64 Reg.DEV_TICK_OVR, 0xFFFF⟩ } }.put Reg.FLT_STAT_TEL_ON 1).complete h 0xD2 St.done) := by
      show execTelSetup h k b addr s = _
      unfold execTelSetup
      dsimp only
      rw [if_neg hk, hfields, g.acceptNow, if_neg hk, bne_iff_ne.2 hk]
      rfl
    rw [hrun]
    exact .of_reports (State.complete_reports _ _ _ _)
  · have hrun : exec (.telSetup h 0 b addr) s =
        .next (({ s with flt := { s.flt with telemetry := none } }.put Reg.FLT_STAT_TEL_ON 0).complete h 0xD2 St.done) :=
      congrArg Host.Outcome.next (g.acceptNow 0xD2 _)
    rw [hrun]
    exact .of_reports (State.complete_reports _ _ _ _)
  · show Answers (execTelemetryRecord o s) _
    have hintime : s.due (tl.lastAt + 15000001) = false := decide_eq_false (by omega)
    unfold execTelemetryRecord
    rw [htel]
    dsimp only
    rw [if_neg (by simp [State.due, hdue, hup]; omega), hintime, hbus, State.when_false]
    refine .of_reports ?_
    rw [if_neg (by decide), State.hostWrite_transients, State.hostWrite_rd64, State.hostWrite_rd64]
    have hnow := State.hostWrite_now s (tl.addr + 128 * (tl.seq % 2 ^ tl.k)) (s.telemetryBytes tl o)
    generalize s.hostWrite (tl.addr + 128 * (tl.seq % 2 ^ tl.k)) (s.telemetryBytes tl o) = u at hnow ⊢
    rw [hnow]
    unfold State.when
    split
    · exact State.event_reports _ _ _ _
    · exact Reports.refl _
  · have hfields : firstFail [(decide (1 ≤ count ∧ count ≤ 65536), St.range), (addr % 32 == 0, St.misaligned),
        (s.hostUp, St.busError)] = none := by
      rw [firstFail_cons_true (decide_eq_true ⟨hlo, hhi⟩), firstFail_cons_true (by rw [ha]; rfl), firstFail_cons_true hup]
      rfl
    have hrun : exec (.logRead h count addr) s = .next ((s.hostWrite addr ((s.newest count).reverse.flatMap EventRec.logBytes)).completeR
        h 0xD3 St.done (bytesLE 4 (s.newest count).reverse.length)) := by
      show execLogRead h count addr s = _
      rw [execLogRead, hfields, g.acceptNow]
    rw [hrun]
    exact .of_reports (State.completeR_reports _ _ _ _ _)
  · exact congrArg Host.Outcome.next (if_neg (by rw [hrun]; simp; omega))
  · refine ⟨_, congrArg Host.Outcome.next (if_neg (by rw [hrun]; simp; omega)), rfl, ?_⟩
    exact (State.rd64_wr64_same hs.1 (Reg.FLT_TRANS 7) _).trans (Nat.mod_mod _ _)

end Sys2Proof.Machine
end

section
/-! Flash updates and trials (R428 to R432). -/
namespace Sys2Proof.Machine
open Sys2Proof

/-- What an update that ends leaves: no update, its status shown, and the rest of the boot state as it was. -/
theorem State.endUpdate_leaves {s : State} (hs : s.stored) (kind slot st : Nat) :
    (s.endUpdate kind slot st).boot = { s.boot with update := none } ∧ (s.endUpdate kind slot st).sea = s.sea ∧
      (s.endUpdate kind slot st).get Reg.DEV_UPD_STAT_STATUS = st % 256 ∧ (s.endUpdate kind slot st).get Reg.DEV_UPD_STAT_BUSY = 0 ∧
      (s.endUpdate kind slot st).get Reg.DEV_UPD_STAT_DONE = 1 := by
  have hnone : { s with boot := { s.boot with update := none } }.stored := hs
  unfold State.endUpdate
  dsimp only
  generalize hu : ({ s with boot := { s.boot with update := none } } : State) = u at hnone ⊢
  have hstatus := ((((State.put_shows hnone Reg.DEV_UPD_STAT_STATUS st (w := st % 256)).put (g := Reg.DEV_UPD_STAT_BUSY) (w := 0)).setF
    (g := Reg.DEV_UPD_STAT_DONE)).put (g := Reg.DEV_UPD_STAT_TARGET) (w := slot)).event (src := 0x0000) (code := 0x0E03) (args := [kind, st, slot])
  have hbusy := (((State.put_shows (State.put_stored Reg.DEV_UPD_STAT_STATUS st hnone) Reg.DEV_UPD_STAT_BUSY 0).setF
    (g := Reg.DEV_UPD_STAT_DONE)).put (g := Reg.DEV_UPD_STAT_TARGET) (w := slot)).event (src := 0x0000) (code := 0x0E03) (args := [kind, st, slot])
  have hdone := ((State.setF_shows (State.put_stored Reg.DEV_UPD_STAT_BUSY 0 (State.put_stored Reg.DEV_UPD_STAT_STATUS st hnone))
    Reg.DEV_UPD_STAT_DONE).put (g := Reg.DEV_UPD_STAT_TARGET) (w := slot)).event (src := 0x0000) (code := 0x0E03) (args := [kind, st, slot])
  refine ⟨?_, ?_, hstatus.value, hbusy.value, hdone.value⟩
  · rw [(State.event_reports _ _ _ _).boot, State.put_boot, State.setF, State.put_boot, State.put_boot, State.put_boot, ← hu]
  · rw [(State.event_reports _ _ _ _).sea, State.put_sea, State.setF, State.put_sea, State.put_sea, State.put_sea, ← hu]

theorem firstFail_cons_false (st : Nat) (l : List (Bool × Nat)) : firstFail ((false, st) :: l) = some st := rfl

/-- An update that passes its checks takes its data from host memory and shows `BUSY`. -/
theorem State.startUpdate_runs {s : State} (hs : s.stored) (hidle : s.on Reg.DEV_UPD_STAT_BUSY = false)
    (haddr : s.rd64 Reg.DEV_UPD_ADDR % 64 = 0)
    (hkind : (s.get Reg.DEV_UPD_CTL_KIND != 3 && (s.get Reg.DEV_UPD_CTL_KIND == 0 || !s.on Reg.DEV_BOOT_STAT_NO_IMAGE) &&
      decide (s.get Reg.DEV_UPD_CTL_KIND ≠ 0 ∨ s.get Reg.DEV_UPD_CTL_LEN ≤ 6 * 2 ^ 20)) = true)
    (htrial : (!(s.get Reg.DEV_UPD_CTL_KIND == 0 && (s.boot.slot.bind s.boot.slots.get?).any fun x => x.state == slotTrial)) = true)
    (hopen : (s.flashOpen || s.on Reg.DEV_BOOT_STAT_NO_IMAGE) = true) :
    s.startUpdate.get Reg.DEV_UPD_STAT_BUSY = 1 ∧ s.startUpdate.boot.update =
      some ⟨s.get Reg.DEV_UPD_CTL_KIND, if s.get Reg.DEV_UPD_CTL_KIND = 0 then s.updateSlot else 0,
        s.hostRead (s.rd64 Reg.DEV_UPD_ADDR) (s.get Reg.DEV_UPD_CTL_LEN)⟩ := by
  unfold State.startUpdate
  rw [if_neg (by rw [hidle]; exact Bool.false_ne_true), firstFail_cons_true (by rw [haddr]; rfl), firstFail_cons_true hkind,
    firstFail_cons_true htrial, firstFail_cons_true hopen]
  refine ⟨(State.setF_shows ?_ Reg.DEV_UPD_STAT_BUSY).value, congrArg BootState.update (State.setF_boot _ _)⟩
  exact hs

/-- An image's slot written by an update that ends well. -/
theorem State.setSlot_endUpdate {s : State} (hs : s.stored) (k : Nat) (x : Slot) (kind slot st : Nat) :
    ((s.setSlot k x).endUpdate kind slot st).boot.slots.get? k = some x ∧
      ((s.setSlot k x).endUpdate kind slot st).get Reg.DEV_UPD_STAT_STATUS = st % 256 := by
  have hset : (s.setSlot k x).stored := hs
  obtain ⟨hboot, -, hstatus, -, -⟩ := State.endUpdate_leaves hset kind slot st
  refine ⟨?_, hstatus⟩
  rw [hboot]
  exact (Tab.get?_set _ _ _ _).trans (if_pos rfl)

theorem State.when_leaves {s : State} (hs : s.stored) (c : Bool) {run : State → State} (hrun : (run s).boot = s.boot ∧ (run s).stored) :
    (s.when c run).boot = s.boot ∧ (s.when c run).stored := by
  unfold State.when
  split
  · exact hrun
  · exact ⟨rfl, hs⟩

theorem State.authCount_leaves {s : State} (hs : s.stored) (st : Nat) : (s.authCount st).boot = s.boot ∧ (s.authCount st).stored := by
  obtain ⟨hboot, hcounted⟩ := State.when_leaves hs (st == St.authFail || st == St.rollback) (run := fun s => s.add64 Reg.SEA_AUTHFAIL 1)
    ⟨State.wr64_boot _ _ _, State.wr_stored _ _ (State.wr_stored _ _ hs)⟩
  unfold State.authCount
  dsimp only
  generalize s.when (st == St.authFail || st == St.rollback) _ = u at hboot hcounted ⊢
  obtain ⟨hboot', hmarked⟩ := State.when_leaves hcounted (st == St.authFail) (run := fun s => s.setF Reg.SEA_STAT_AUTH_EVT)
    ⟨State.put_boot _ _ _, State.put_stored _ _ hcounted⟩
  exact ⟨hboot'.trans hboot, hmarked⟩

theorem le_foldl_max (l : List Nat) (a : Nat) : a ≤ l.foldl max a ∧ ∀ x ∈ l, x ≤ l.foldl max a := by
  induction l generalizing a with
  | nil => exact ⟨Nat.le_refl _, fun x hx => absurd hx List.not_mem_nil⟩
  | cons y t ih =>
    obtain ⟨hstart, hall⟩ := ih (max a y)
    refine ⟨Nat.le_trans (Nat.le_max_left a y) hstart, fun x hx => ?_⟩
    rcases List.mem_cons.1 hx with rfl | hx
    · exact Nat.le_trans (Nat.le_max_right a x) hstart
    · exact hall x hx

theorem Tab.mem_of_get? {α : Type} {t : Tab α} {k : Nat} {x : α} (h : t.get? k = some x) : (k, x) ∈ t := by
  induction t with
  | nil => exact nomatch h
  | cons e t ih =>
    obtain ⟨j, y⟩ := e
    unfold Tab.get? at h
    split at h
    next heq =>
      cases h
      rw [heq]
      exact List.mem_cons_self
    · exact List.mem_cons_of_mem _ (ih h)

/-- The generation of a new image is above that of the running slot. -/
theorem State.newGen_above {s : State} {k : Nat} {y : Slot} (hrun : s.boot.slot = some k) (hslot : s.boot.slots.get? k = some y)
    (hmagic : y.magicOk = true) :
    y.gen < ((s.boot.slots.filter fun e => e.2.magicOk && (s.boot.slot.isNone || s.boot.slot == some e.1)).map fun e => e.2.gen).foldl max 0 + 1 := by
  refine Nat.lt_succ_of_le ((le_foldl_max _ 0).2 y.gen (List.mem_map.2 ⟨(k, y), List.mem_filter.2 ⟨Tab.mem_of_get? hslot, ?_⟩, rfl⟩))
  rw [hmagic, hrun]
  simp

/-- An image update whose slots pass goes by the temperature and the write's outcome. -/
theorem State.exec_updateDone_image {s : State} {u : UpdateJob} {images : List (List Nat)} (hu : s.boot.update = some u) (hkind : u.kind = 0)
    (himages : updateImages u.data = some images) (hpass : s.slotFail ⟨true, 0, slotTrial, 0xFF, images⟩ = none) (writeOk : Bool) :
    exec (.updateDone true true writeOk) s = .next (if writeOk then
      (s.setSlot u.slot ⟨true, ((s.boot.slots.filter fun e => e.2.magicOk && (s.boot.slot.isNone || s.boot.slot == some e.1)).map
        fun e => e.2.gen).foldl max 0 + 1, slotTrial, 0xFF, images⟩).endUpdate 0 u.slot St.done
      else (s.setSlot u.slot Slot.blank).endUpdate 0 u.slot St.internal) := by
  have hpass' : ∀ gen, s.slotFail ⟨true, gen, slotTrial, 0xFF, images⟩ = none := fun gen => hpass
  show execUpdateDone true true writeOk s = _
  unfold execUpdateDone
  rw [hu]
  dsimp only
  rw [if_neg (by decide), if_neg (by omega), if_neg (by omega), himages]
  dsimp only
  rw [hpass']
  cases writeOk
  · rw [if_neg (by decide), if_pos (by decide), if_neg (by decide)]
  · rw [if_neg (by decide), if_neg (by decide), if_pos (by decide)]

/-- Settles O52: trials confirmed, updates begun and refused, and what an update that ends writes. -/
theorem flashUpdates : Obligations.FlashUpdates := by
  intro s rq hs
  have hgo : s.mayWrite rq Reg.DEV_UPD_CTL = true → exec (.go rq) s = .next s.startUpdate :=
    fun hw => congrArg Host.Outcome.next (if_pos hw)
  refine ⟨fun k x hw hrun hslot htrial => ?_, fun hw hidle haddr hkind himage hopen => ?_, fun hw hidle haddr hkind hlen hslot hopen => ?_,
    fun hw hidle haddr => ?_, fun u images hu hkind himages => ⟨fun hpass => ⟨?_, ?_⟩, fun c st hfail => ?_⟩, fun u hu hbad => ?_,
    fun u hu hkind hlen hok => ?_, fun u hu hkind => ?_, fun u hu => ?_⟩
  · have hslot' : s.boot.slots.getD k Slot.blank = x := by rw [Tab.getD, hslot]; rfl
    have hrun' : exec (.confirm rq) s =
        .next (((s.setSlot k { x with state := slotGood }).put Reg.DEV_BOOT_STAT_TRIAL 0).slotEvent k 2 0xFF St.done x.gen) := by
      show execConfirm rq s = _
      rw [execConfirm, if_pos hw, State.confirmSlot, hrun]
      dsimp only
      rw [hslot', if_pos htrial]
    have hset : (s.setSlot k { x with state := slotGood }).stored := hs
    refine ⟨_, hrun', ?_, ((State.put_shows hset Reg.DEV_BOOT_STAT_TRIAL 0).event).value⟩
    rw [State.slotEvent, (State.event_reports _ _ _ _).boot, State.put_boot]
    exact (Tab.get?_set _ _ _ _).trans (if_pos rfl)
  · have hne : s.get Reg.DEV_UPD_CTL_KIND ≠ 0 := by omega
    obtain ⟨hbusy, hupdate⟩ := State.startUpdate_runs hs hidle haddr (by rcases hkind with h | h <;> rw [h, himage] <;> simp)
      (by rcases hkind with h | h <;> rw [h] <;> rfl) (by rw [hopen]; rfl)
    rw [if_neg hne] at hupdate
    exact ⟨_, hgo hw, hbusy, hupdate⟩
  · have htrial : ((s.boot.slot.bind s.boot.slots.get?).any fun x => x.state == slotTrial) = false := by
      cases hk : s.boot.slot with
      | none => rfl
      | some k =>
        show Option.any _ (s.boot.slots.get? k) = false
        cases hx : s.boot.slots.get? k with
        | none => rfl
        | some x => exact beq_eq_false_iff_ne.2 (hslot k x hk hx)
    obtain ⟨hbusy, hupdate⟩ := State.startUpdate_runs hs hidle haddr (by rw [hkind]; exact Bool.and_eq_true_iff.2 ⟨rfl, decide_eq_true (.inr hlen)⟩)
      (by rw [htrial, Bool.and_false]; rfl) (by rcases hopen with h | h <;> simp [h])
    rw [if_pos hkind, hkind] at hupdate
    exact ⟨_, hgo hw, hbusy, hupdate⟩
  · have hstart : s.startUpdate = s.endUpdate (s.get Reg.DEV_UPD_CTL_KIND)
        (if s.get Reg.DEV_UPD_CTL_KIND = 0 then s.updateSlot else 0) St.misaligned := by
      unfold State.startUpdate
      rw [if_neg (by rw [hidle]; exact Bool.false_ne_true), beq_eq_false_iff_ne.2 haddr, firstFail_cons_false]
    rw [hgo hw, hstart]
    obtain ⟨hboot, -, hstatus, -, hdone⟩ := State.endUpdate_leaves hs (s.get Reg.DEV_UPD_CTL_KIND)
      (if s.get Reg.DEV_UPD_CTL_KIND = 0 then s.updateSlot else 0) St.misaligned
    exact ⟨_, rfl, hboot, hdone, hstatus⟩
  · obtain ⟨hslot, hstatus⟩ := State.setSlot_endUpdate hs u.slot ⟨true, ((s.boot.slots.filter fun e => e.2.magicOk &&
      (s.boot.slot.isNone || s.boot.slot == some e.1)).map fun e => e.2.gen).foldl max 0 + 1, slotTrial, 0xFF, images⟩ 0 u.slot St.done
    exact ⟨_, _, (State.exec_updateDone_image hu hkind himages hpass true).trans (congrArg _ (if_pos rfl)), hslot, rfl, rfl, rfl,
      fun k y hrun hy hmagic => State.newGen_above hrun hy hmagic, hstatus⟩
  · obtain ⟨hslot, hstatus⟩ := State.setSlot_endUpdate hs u.slot Slot.blank 0 u.slot St.internal
    exact ⟨_, (State.exec_updateDone_image hu hkind himages hpass false).trans (congrArg _ (if_neg Bool.false_ne_true)), hslot, hstatus⟩
  · have hfail' : ∀ gen, s.slotFail ⟨true, gen, slotTrial, 0xFF, images⟩ = some (c, st) := fun gen => hfail
    have hrun : exec (.updateDone true true true) s = .next ((s.authCount st).endUpdate 0 u.slot st) := by
      show execUpdateDone true true true s = _
      unfold execUpdateDone
      rw [hu]
      dsimp only
      rw [if_neg (by decide), if_neg (by omega), if_neg (by omega), himages]
      dsimp only
      rw [hfail']
    obtain ⟨hauth, hstored⟩ := State.authCount_leaves hs st
    obtain ⟨hboot, -, hstatus, -, -⟩ := State.endUpdate_leaves hstored 0 u.slot st
    rw [hauth] at hboot
    exact ⟨_, hrun, hboot, hstatus⟩
  · have hrun : ∃ kind slot, exec (.updateDone true true true) s = .next (s.endUpdate kind slot St.range) := by
      show ∃ kind slot, execUpdateDone true true true s = _
      unfold execUpdateDone
      rw [hu]
      dsimp only
      rw [if_neg (by decide)]
      rcases hbad with ⟨hkind, himages⟩ | ⟨hkind, hdata⟩
      · rw [if_neg (by omega), if_neg (by omega), himages]
        exact ⟨_, _, rfl⟩
      · rw [if_pos hkind, if_pos hdata]
        exact ⟨_, _, rfl⟩
    obtain ⟨kind, slot, hrun⟩ := hrun
    obtain ⟨hboot, -, hstatus, -, -⟩ := State.endUpdate_leaves hs kind slot St.range
    exact ⟨_, hrun, hboot, hstatus⟩
  · have hrun : exec (.updateDone true true true) s = .next ({ s with boot := { s.boot with config := u.data } }.endUpdate 1 0 St.done) := by
      show execUpdateDone true true true s = _
      unfold execUpdateDone
      rw [hu]
      dsimp only
      rw [if_neg (by decide), if_pos hkind, if_neg (by rw [hok, hlen]; decide), if_neg (by decide)]
    have hset : { s with boot := { s.boot with config := u.data } }.stored := hs
    obtain ⟨hboot, -, hstatus, hbusy, hdone⟩ := State.endUpdate_leaves hset 1 0 St.done
    exact ⟨_, hrun, hboot, hbusy, hdone, hstatus⟩
  · have hrun : exec (.updateDone true true true) s =
        .next ({ s with sea := { s.sea with endorsement := fit 132 u.data } }.endUpdate 2 0 St.done) := by
      show execUpdateDone true true true s = _
      unfold execUpdateDone
      rw [hu]
      dsimp only
      rw [if_neg (by decide), if_neg (by omega), if_pos hkind, if_neg (by decide)]
    have hset : { s with sea := { s.sea with endorsement := fit 132 u.data } }.stored := hs
    obtain ⟨hboot, hsea, hstatus, hbusy, -⟩ := State.endUpdate_leaves hset 2 0 St.done
    exact ⟨_, hrun, hsea, congrArg BootState.update hboot, hbusy, hstatus⟩
  · have hrun : exec (.updateDone false true true) s = .next (s.endUpdate u.kind u.slot St.busError) := by
      show execUpdateDone false true true s = _
      unfold execUpdateDone
      rw [hu]
      exact congrArg Host.Outcome.next (if_pos (by decide))
    obtain ⟨hboot, -, hstatus, hbusy, -⟩ := State.endUpdate_leaves hs u.kind u.slot St.busError
    exact ⟨_, hrun, hboot, hbusy, hstatus⟩

end Sys2Proof.Machine
end

section
/-! The tiles' calibration in turn (R433 to R436). -/
namespace Sys2Proof.Machine
open Sys2Proof

/-! ## What the plan of the array and an engine's mode leave of the bring-up's status -/

theorem recordField_bootStat (lsb w : Nat) : recordField ⟨Reg.DEV_BOOT_STAT, lsb, w⟩ = false := by
  simp [recordField, Reg.DEV_BOOT_STAT, Reg.HRG_STAT, Reg.THM_WINDOW, Reg.FLT_STAT, Reg.FLT_LOG_WEAR]

/-- A field of the bring-up's status is apart from any field of a word further up. -/
theorem apart_bootStat {f : Field} {lsb w : Nat} (h : 0x000204 < f.reg) : f.apart ⟨Reg.DEV_BOOT_STAT, lsb, w⟩ :=
  .inl (by simp only [Reg.DEV_BOOT_STAT]; omega)

/-- `t` is `s` but for its registers. -/
def State.RegsOnly (s t : State) : Prop := ∃ r, t = { s with regs := r }

theorem State.RegsOnly.refl (s : State) : s.RegsOnly s := ⟨s.regs, rfl⟩

theorem State.RegsOnly.put {s t : State} (h : s.RegsOnly t) (f : Field) (v : Nat) : s.RegsOnly (t.put f v) := by
  obtain ⟨r, rfl⟩ := h
  exact ⟨_, rfl⟩

theorem State.refreshPlan_regsOnly (s : State) : s.RegsOnly s.refreshPlan := by
  unfold State.refreshPlan
  exact State.each_induct _ _ ((((((State.RegsOnly.refl s).put _ _).put _ _).put _ _).put _ _).put _ _) fun u hu n _ => (hu.put _ _).put _ _
theorem State.refreshPlan_boot (s : State) : s.refreshPlan.boot = s.boot := by
  obtain ⟨r, hr⟩ := s.refreshPlan_regsOnly
  rw [hr]

theorem State.refreshPlan_now (s : State) : s.refreshPlan.now = s.now := by
  obtain ⟨r, hr⟩ := s.refreshPlan_regsOnly
  rw [hr]

theorem State.setMode_reports (s : State) (n mode cause : Nat) : ∃ u, (u = s ∨ u = s.put (Reg.ENG_STAT_MODE n) mode) ∧
    Reports u (s.setMode n mode cause) := by
  unfold State.setMode
  dsimp only
  split
  · exact ⟨s, .inl rfl, Reports.refl _⟩
  · exact ⟨_, .inr rfl, State.event_reports _ _ _ _⟩

theorem State.setMode_boot (s : State) (n mode cause : Nat) : (s.setMode n mode cause).boot = s.boot := by
  obtain ⟨u, rfl | rfl, hr⟩ := s.setMode_reports n mode cause
  · exact hr.boot
  · exact hr.boot.trans (State.put_boot _ _ _)

theorem State.setMode_now (s : State) (n mode cause : Nat) : (s.setMode n mode cause).now = s.now := by
  obtain ⟨u, rfl | rfl, hr⟩ := s.setMode_reports n mode cause
  · exact hr.now
  · exact hr.now.trans (State.put_now _ _ _)

section
variable {s : State} {lsb w v : Nat} (h : s.Shows ⟨Reg.DEV_BOOT_STAT, lsb, w⟩ v)
include h

/-- A write of a word further up leaves a field of the bring-up's status. -/
theorem State.Shows.putAbove {f : Field} {x : Nat} (hok : f.ok) (habove : 0x000204 < f.reg) :
    (s.put f x).Shows ⟨Reg.DEV_BOOT_STAT, lsb, w⟩ v := h.put ⟨hok, apart_bootStat habove⟩

theorem State.Shows.setModeBoot (n mode cause : Nat) : (s.setMode n mode cause).Shows ⟨Reg.DEV_BOOT_STAT, lsb, w⟩ v := by
  obtain ⟨u, rfl | rfl, hr⟩ := s.setMode_reports n mode cause
  · exact h.reports hr (recordField_bootStat lsb w)
  · exact (h.putAbove (Nat.le_of_ble_eq_true rfl) (by simp only [Reg.ENG_STAT_MODE, Reg.ENG_STAT]; omega)).reports hr (recordField_bootStat lsb w)

theorem State.Shows.refreshPlanBoot : s.refreshPlan.Shows ⟨Reg.DEV_BOOT_STAT, lsb, w⟩ v := by
  unfold State.refreshPlan
  dsimp only
  refine State.Shows.each ?_ fun u n hu => ?_
  · exact ((((h.putAbove (by decide) (by decide)).putAbove (by decide) (by decide)).putAbove (by decide) (by decide)).putAbove
      (by decide) (by decide)).putAbove (by decide) (by decide)
  · exact (hu.putAbove (Nat.le_of_ble_eq_true rfl) (by simp only [Reg.TIL_TX_STAT_LATENCY, Reg.TIL_TX_STAT]; omega)).putAbove
      (Nat.le_of_ble_eq_true rfl) (by simp only [Reg.TIL_RX_STAT_RELEASE, Reg.TIL_RX_STAT]; omega)

theorem State.Shows.calTrims (n : Nat) : (s.calTrims n).Shows ⟨Reg.DEV_BOOT_STAT, lsb, w⟩ v :=
  h.each fun _ _ hu => hu.upd

end

theorem State.calTrims_boot (s : State) (n : Nat) : (s.calTrims n).boot = s.boot := State.each_reads s _ _ State.boot fun _ _ => rfl

theorem State.calTrims_now (s : State) (n : Nat) : (s.calTrims n).now = s.now := State.each_reads s _ _ State.now fun _ _ => rfl

/-! ## A tile that is ready -/

/-- A bit put into a field of eight stands there. -/
theorem State.put_bit {s : State} (hs : s.stored) {f : Field} (hok : f.ok) (hw : f.width = 8) {n : Nat} (hn : n < 8) (x : Nat) :
    ∃ v, (s.put f (putBit x n true)).Shows f v ∧ bit v n = true := by
  refine ⟨_, State.put_shows hs f (putBit x n true) rfl hok, ?_⟩
  rw [hw, bit_mod_two_pow hn, bit_putBit_same]

/-- A tile that becomes ready shows so, and fully calibrated where it is; the bring-up's state keeps all but its failures and temperatures. -/
theorem State.tileReadyNow_leaves {s : State} (hs : s.stored) {n : Nat} (hn : n < 8) (full : Bool) :
    (∃ v, (s.tileReadyNow n full).Shows Reg.DEV_BOOT_STAT_TILE_READY v ∧ bit v n = true) ∧
      (full = true → ∃ v, (s.tileReadyNow n full).Shows Reg.DEV_BOOT_STAT_TILE_FULL v ∧ bit v n = true) ∧
      (s.tileReadyNow n full).now = s.now ∧ (s.tileReadyNow n full).boot.bootTile = s.boot.bootTile ∧
      (s.tileReadyNow n full).boot.provisional = s.boot.provisional := by
  have hkeep : ∀ {u : State} {lsb w v : Nat} (b : BootState), u.Shows ⟨Reg.DEV_BOOT_STAT, lsb, w⟩ v →
      ((({ u with boot := b } : State).setMode n 0 1).refreshPlan).Shows ⟨Reg.DEV_BOOT_STAT, lsb, w⟩ v :=
    fun b hu => ((hu.updBoot b).setModeBoot n 0 1).refreshPlanBoot
  have hstored := ((State.shows hs ⟨Reg.DEV_BOOT_STAT, 16, 8⟩).calTrims n).stored
  unfold State.tileReadyNow
  dsimp only
  rw [State.refreshPlan_now, State.setMode_now, State.refreshPlan_boot, State.setMode_boot]
  have hnow := State.calTrims_now s n
  have hboot := State.calTrims_boot s n
  generalize s.calTrims n = u at hstored hnow hboot ⊢
  obtain ⟨v, hready, hbit⟩ := State.put_bit hstored (f := Reg.DEV_BOOT_STAT_TILE_READY) (by decide) rfl hn (u.get Reg.DEV_BOOT_STAT_TILE_READY)
  have hboot' := (State.put_boot u Reg.DEV_BOOT_STAT_TILE_READY (putBit (u.get Reg.DEV_BOOT_STAT_TILE_READY) n true)).trans hboot
  have hnow' := (State.put_now u Reg.DEV_BOOT_STAT_TILE_READY (putBit (u.get Reg.DEV_BOOT_STAT_TILE_READY) n true)).trans hnow
  generalize u.put Reg.DEV_BOOT_STAT_TILE_READY (putBit (u.get Reg.DEV_BOOT_STAT_TILE_READY) n true) = x at hready hboot' hnow' ⊢
  have hwhen : (x.when full fun s => s.put Reg.DEV_BOOT_STAT_TILE_FULL (putBit (s.get Reg.DEV_BOOT_STAT_TILE_FULL) n true)).Shows
        Reg.DEV_BOOT_STAT_TILE_READY v ∧
      (full = true → ∃ y, (x.when full fun s => s.put Reg.DEV_BOOT_STAT_TILE_FULL (putBit (s.get Reg.DEV_BOOT_STAT_TILE_FULL) n true)).Shows
        Reg.DEV_BOOT_STAT_TILE_FULL y ∧ bit y n = true) ∧
      (x.when full fun s => s.put Reg.DEV_BOOT_STAT_TILE_FULL (putBit (s.get Reg.DEV_BOOT_STAT_TILE_FULL) n true)).boot = s.boot ∧
      (x.when full fun s => s.put Reg.DEV_BOOT_STAT_TILE_FULL (putBit (s.get Reg.DEV_BOOT_STAT_TILE_FULL) n true)).now = s.now := by
    cases full with
    | false => exact ⟨hready, fun hfull => absurd hfull Bool.false_ne_true, hboot', hnow'⟩
    | true =>
      obtain ⟨y, hfull, hfullbit⟩ := State.put_bit hready.stored (f := Reg.DEV_BOOT_STAT_TILE_FULL) (by decide) rfl hn
        (x.get Reg.DEV_BOOT_STAT_TILE_FULL)
      exact ⟨hready.put (g := Reg.DEV_BOOT_STAT_TILE_FULL), fun _ => ⟨y, hfull, hfullbit⟩, (State.put_boot _ _ _).trans hboot',
        (State.put_now _ _ _).trans hnow'⟩
  generalize x.when full _ = z at hwhen ⊢
  obtain ⟨hready, hfull, hzboot, hznow⟩ := hwhen
  refine ⟨⟨v, hkeep _ hready, hbit⟩, fun hf => ?_, hznow, ?_, ?_⟩
  · obtain ⟨y, hy, hybit⟩ := hfull hf
    exact ⟨y, hkeep _ hy, hybit⟩
  · rw [hzboot]
  · rw [hzboot]

end Sys2Proof.Machine
end

section
/-! The steps of the calibration in turn (R433 to R436). -/
namespace Sys2Proof.Machine
open Sys2Proof

theorem State.calRecord_reports (s : State) (n kind ms : Nat) : Reports s (s.calRecord n kind ms) := State.event_reports _ _ _ _

theorem State.nextCal_cal (s : State) (n : Nat) :
    (s.nextCal n).boot.cal = if (n + 1) % 8 = s.boot.bootTile then none else some ⟨(n + 1) % 8, s.now, false⟩ := rfl

theorem State.nextCal_provisional (s : State) (n : Nat) : (s.nextCal n).boot.provisional = s.boot.provisional := rfl

theorem State.nextCal_failed (s : State) (n : Nat) : (s.nextCal n).boot.failed = s.boot.failed := rfl

theorem State.milestone_now (s : State) (step tile : Nat) : (s.milestone step tile).now = s.now :=
  (State.event_reports _ _ _ _).now

theorem State.milestone_bootTile (s : State) (step tile : Nat) : (s.milestone step tile).boot.bootTile = s.boot.bootTile := by
  rw [(s.milestone_reports step tile).boot]

theorem State.milestone_provisional (s : State) (step tile : Nat) :
    (s.milestone step tile).boot.provisional = s.boot.provisional := by
  rw [(s.milestone_reports step tile).boot]

/-- Full calibration shows `FULL`, and of the bring-up's state moves but its step. -/
theorem State.checkFull_boot (s : State) : s.checkFull.boot.cal = s.boot.cal ∧ s.checkFull.boot.provisional = s.boot.provisional := by
  unfold State.checkFull
  split
  · rw [(State.milestone_reports _ _ _).boot, State.put_boot, State.setF_boot]
    exact ⟨rfl, rfl⟩
  · exact ⟨rfl, rfl⟩

theorem State.Shows.checkFull {s : State} {lsb w v : Nat} (h : s.Shows ⟨Reg.DEV_BOOT_STAT, lsb, w⟩ v) (hsep : 12 ≤ lsb) :
    s.checkFull.Shows ⟨Reg.DEV_BOOT_STAT, lsb, w⟩ v := by
  unfold State.checkFull
  refine .ite (State.Shows.reports (State.Shows.updBoot ?_ _) (State.milestone_reports _ _ _) (recordField_bootStat lsb w)) h
  exact (h.setF (g := Reg.DEV_BOOT_STAT_FULL) ⟨by decide, .inr (.inl hsep)⟩).putAbove (by decide) (by decide)

/-- A milestone and a record of the calibration leave the bring-up's status, the time and the boot tile. -/
theorem State.calStep_leaves (u : State) (step n kind ms : Nat) :
    (∀ {lsb w v : Nat}, u.Shows ⟨Reg.DEV_BOOT_STAT, lsb, w⟩ v → ((u.milestone step n).calRecord n kind ms).Shows ⟨Reg.DEV_BOOT_STAT, lsb, w⟩ v) ∧
      ((u.milestone step n).calRecord n kind ms).now = u.now ∧
      ((u.milestone step n).calRecord n kind ms).boot.bootTile = u.boot.bootTile ∧
      ((u.milestone step n).calRecord n kind ms).boot.provisional = u.boot.provisional := by
  have hrec := State.calRecord_reports (u.milestone step n) n kind ms
  refine ⟨fun hu => ((hu.updBoot _).reports (u.milestone_reports step n) (recordField_bootStat _ _)).reports hrec (recordField_bootStat _ _),
    hrec.now.trans (u.milestone_now step n), ?_, ?_⟩
  · rw [hrec.boot, u.milestone_bootTile]
  · rw [hrec.boot, u.milestone_provisional]

theorem State.Shows.nextCal {s : State} {f : Field} {v : Nat} (h : s.Shows f v) (n : Nat) : (s.nextCal n).Shows f v := h.updBoot _

/-- A tile whose calibration is taken is ready; the one after it follows. -/
theorem State.calibrated_leaves {s : State} (hs : s.stored) {n : Nat} (hn : n < 8) (ms : Nat) :
    let t := ((((s.tileReadyNow n true).milestone 12 n).calRecord n 1 ms).nextCal n).checkFull
    bit (t.get Reg.DEV_BOOT_STAT_TILE_READY) n = true ∧ bit (t.get Reg.DEV_BOOT_STAT_TILE_FULL) n = true ∧
      t.boot.cal = if (n + 1) % 8 = s.boot.bootTile then none else some ⟨(n + 1) % 8, s.now, false⟩ := by
  obtain ⟨⟨v, hready, hbit⟩, hfull, hnow, hstart, -⟩ := State.tileReadyNow_leaves hs hn true
  obtain ⟨y, hfull, hfullbit⟩ := hfull rfl
  generalize s.tileReadyNow n true = u at hready hfull hnow hstart ⊢
  obtain ⟨hkeep, hnow', hstart', -⟩ := u.calStep_leaves 12 n 1 ms
  have hready' := (hkeep hready).nextCal n
  have hfull' := (hkeep hfull).nextCal n
  have hnext := State.nextCal_cal ((u.milestone 12 n).calRecord n 1 ms) n
  rw [hstart'.trans hstart, hnow'.trans hnow] at hnext
  generalize ((u.milestone 12 n).calRecord n 1 ms).nextCal n = z at hready' hfull' hnext ⊢
  exact ⟨(congrArg (fun x => bit x n) (hready'.checkFull (by decide)).value).trans hbit,
    (congrArg (fun x => bit x n) (hfull'.checkFull (by decide)).value).trans hfullbit, z.checkFull_boot.1.trans hnext⟩

/-- A state that shows reduced service: the boot tile's calibration is recorded and the next tile calibrates. -/
theorem State.reducedShown_leaves {u : State} {n v : Nat} (hready : u.Shows Reg.DEV_BOOT_STAT_TILE_READY v) (hbit : bit v n = true)
    (hstart : u.boot.bootTile = n) (x ms : Nat) :
    let t := ((((u.setF Reg.DEV_BOOT_STAT_REDUCED).put Reg.DEV_BOOT_TIME_REDUCED_MS x).milestone 11 n).calRecord n 0 ms).nextCal n
    t.boot.provisional = u.boot.provisional ∧ t.get Reg.DEV_BOOT_STAT_REDUCED = 1 ∧ bit (t.get Reg.DEV_BOOT_STAT_TILE_READY) n = true ∧
      t.boot.cal = some ⟨(n + 1) % 8, u.now, false⟩ := by
  have hreduced := (State.setF_shows hready.stored Reg.DEV_BOOT_STAT_REDUCED).putAbove (f := Reg.DEV_BOOT_TIME_REDUCED_MS) (x := x)
    (by decide) (by decide)
  have hready' := (hready.setF (g := Reg.DEV_BOOT_STAT_REDUCED)).putAbove (f := Reg.DEV_BOOT_TIME_REDUCED_MS) (x := x)
    (by decide) (by decide)
  have hputboot := (State.put_boot (u.setF Reg.DEV_BOOT_STAT_REDUCED) Reg.DEV_BOOT_TIME_REDUCED_MS x).trans (u.setF_boot Reg.DEV_BOOT_STAT_REDUCED)
  have hputnow := (State.put_now (u.setF Reg.DEV_BOOT_STAT_REDUCED) Reg.DEV_BOOT_TIME_REDUCED_MS x).trans (u.setF_now Reg.DEV_BOOT_STAT_REDUCED)
  generalize (u.setF Reg.DEV_BOOT_STAT_REDUCED).put Reg.DEV_BOOT_TIME_REDUCED_MS x = w at hreduced hready' hputboot hputnow ⊢
  obtain ⟨hkeep, hnow, hstart', hprov⟩ := w.calStep_leaves 11 n 0 ms
  have hcal := State.nextCal_cal ((w.milestone 11 n).calRecord n 0 ms) n
  rw [hstart', hputboot, hstart, if_neg (by omega), hnow, hputnow] at hcal
  rw [hputboot] at hprov
  exact ⟨(State.nextCal_provisional _ _).trans hprov, ((hkeep hreduced).nextCal n).value,
    (congrArg (fun x => bit x n) ((hkeep hready').nextCal n).value).trans hbit, hcal⟩

/-- A record and the check for full calibration leave the tiles' status. -/
theorem State.Shows.calRecord_checkFull {u : State} {y : Nat} (h : u.Shows Reg.DEV_BOOT_STAT_TILE_FULL y) (n kind ms : Nat) :
    (u.calRecord n kind ms).checkFull.boot.provisional = u.boot.provisional ∧
      (u.calRecord n kind ms).checkFull.get Reg.DEV_BOOT_STAT_TILE_FULL = y := by
  have hrec := State.calRecord_reports u n kind ms
  exact ⟨(State.checkFull_boot _).2.trans (congrArg BootState.provisional hrec.boot),
    ((h.reports hrec (recordField_bootStat _ _)).checkFull (by decide)).value⟩

/-- Settles O53: the boot tile's provisional service, the tiles after it, and the retries. -/
theorem tilesCalibrateInTurn : Obligations.TilesCalibrateInTurn := by
  intro s hs hboot
  refine ⟨fun c hcal htile hallow => ?_, fun c hcal htile hallow => ?_, fun c hcal hretry hallow => ?_, fun c hcal htile hretry hallow => ?_,
    fun hprov => ?_⟩
  · have hs' : { s with boot := { s.boot with provisional := true } }.stored := hs
    obtain ⟨⟨v, hready, hbit⟩, -, hnow, hstart, hprov⟩ := State.tileReadyNow_leaves hs' (htile.trans_lt hboot) false
    show ∃ t, execReducedService s = .next t ∧ _
    unfold execReducedService
    rw [hcal]
    dsimp only
    rw [if_neg (by rw [hallow, htile]; simp)]
    generalize { s with boot := { s.boot with provisional := true } }.tileReadyNow c.tile false = u at hready hnow hstart hprov ⊢
    have hshown := State.reducedShown_leaves hready hbit (hstart.trans htile.symm)
    rw [hnow, hprov] at hshown
    exact ⟨_, rfl, hshown _ _⟩
  · have hrun : exec (.tileCalibrated c.tile true) s = .next ((((((s.tileReadyNow c.tile true).milestone 12 c.tile).calRecord c.tile 1
        (usBetween c.start s.now / 1000)).nextCal c.tile).checkFull)) := by
      show execTileCalibrated c.tile true s = _
      unfold execTileCalibrated
      rw [if_neg (by rw [hallow]; decide), hcal]
      dsimp only
      rw [if_pos rfl, if_pos rfl]
    exact ⟨_, hrun, State.calibrated_leaves hs htile _⟩
  · show execTileCalibrated c.tile false s = _
    unfold execTileCalibrated
    rw [if_neg (by rw [hallow]; decide), hcal]
    dsimp only
    rw [if_pos rfl, if_neg (by decide), if_pos (by rw [hretry]; rfl)]
  · have hrun : exec (.tileCalibrated c.tile false) s = .next (({ s with boot := { s.boot with
        failed := putBit s.boot.failed c.tile true } }.calRecord c.tile 2 (usBetween c.start s.now / 1000)).nextCal c.tile) := by
      show execTileCalibrated c.tile false s = _
      unfold execTileCalibrated
      rw [if_neg (by rw [hallow]; decide), hcal]
      dsimp only
      rw [if_pos rfl, if_neg (by decide), if_neg (by rw [hretry]; decide)]
    have hrec := State.calRecord_reports { s with boot := { s.boot with failed := putBit s.boot.failed c.tile true } } c.tile 2
      (usBetween c.start s.now / 1000)
    refine ⟨_, hrun, ?_, ?_⟩
    · rw [State.nextCal_failed, hrec.boot]
      exact bit_putBit_same _ _ _
    · rw [State.nextCal_cal, hrec.boot, hrec.now]
  · have hs' : { s with boot := { s.boot with provisional := false } }.stored := hs
    obtain ⟨-, hfull, -, -, hprov'⟩ := State.tileReadyNow_leaves hs' hboot true
    obtain ⟨y, hfull, hbit⟩ := hfull rfl
    show ∃ t, execCalibrationRefined s = .next t ∧ _
    unfold execCalibrationRefined
    rw [if_neg (by rw [hprov]; decide)]
    dsimp only
    generalize { s with boot := { s.boot with provisional := false } }.tileReadyNow s.boot.bootTile true = u at hfull hprov' ⊢
    have hshown := hfull.calRecord_checkFull
    rw [hprov'] at hshown
    refine ⟨_, rfl, (hshown _ _ _).1, ?_⟩
    exact (congrArg (fun x => bit x s.boot.bootTile) (hshown _ _ _).2).trans hbit

end Sys2Proof.Machine
end

section
/-! What the line, the links and the constellation's time leave alone when lanes start and stop (R206 to R222, R271, R309). -/
namespace Sys2Proof.Machine
open Sys2Proof

/-- Whether a field stands outside the blocks of the line, the links and the time unit, and is not the rings' status. -/
def Field.offLine (f : Field) : Prop :=
  recordField f = false ∧ f.reg ≠ Reg.HRG_STAT ∧ (f.reg < 0x030000 ∨ 0x031000 ≤ f.reg ∧ f.reg < 0x300000 ∨ 0x350000 ≤ f.reg)

/-- The second state is the first but for records, and the parts and registers of the line, the links and the time unit. -/
structure LineOnly (s t : State) : Prop where
  work : { t.work with tim := s.tim, line := s.line, cul := s.cul } = s.work
  stored : s.stored → t.stored
  fields : s.stored → ∀ f, f.offLine → t.get f = s.get f
  ready : s.stored → s.get Reg.HRG_STAT_READY = 1 → t.get Reg.HRG_STAT_READY = 1

namespace LineOnly

theorem refl (s : State) : LineOnly s s := ⟨rfl, id, fun _ _ _ => rfl, fun _ => id⟩

theorem of_timeOnly {s t : State} (h : TimeOnly s t) : LineOnly s t where
  work := by
    have e := congrArg (fun w : State => { w with line := s.line, cul := s.cul }) h.work
    exact e
  stored := h.stored
  fields hs f hf := h.fields hs f hf.1 (by have := hf.2.2; omega)
  ready hs hready := (h.fields hs _ (by decide) (by decide)).trans hready

theorem of_reports {s t : State} (h : Reports s t) : LineOnly s t := of_timeOnly (.of_reports h)

theorem trans {s t u : State} (h : LineOnly s t) (h' : LineOnly t u) : LineOnly s u where
  work := by
    have e := congrArg (fun w : State => { w with tim := s.tim, line := s.line, cul := s.cul }) h'.work
    exact e.trans h.work
  stored hs := h'.stored (h.stored hs)
  fields hs f hf := (h'.fields (h.stored hs) f hf).trans (h.fields hs f hf)
  ready hs hready := h'.ready (h.stored hs) (h.ready hs hready)

theorem ite {s t u : State} {c : Prop} [Decidable c] (h : LineOnly s t) (h' : LineOnly s u) : LineOnly s (if c then t else u) := by
  split <;> assumption

theorem when {s t : State} (h : LineOnly s t) (c : Bool) (run : State → State) (hrun : LineOnly t (run t)) : LineOnly s (t.when c run) :=
  ite (h.trans hrun) h

theorem each {α : Type} {s t : State} (h : LineOnly s t) (l : List α) (run : State → α → State)
    (hrun : ∀ u, ∀ x ∈ l, LineOnly u (run u x)) : LineOnly s (t.each l run) :=
  State.each_induct l run h fun u hu x hx => hu.trans (hrun u x hx)

section
variable {s t : State} (h : LineOnly s t)
include h

theorem put {g : Field} {v : Nat} (hok : g.ok) (hreg : 0x300000 ≤ g.reg ∧ g.reg < 0x350000) : LineOnly s (t.put g v) :=
  h.trans ⟨rfl, State.put_stored _ _, fun hs _ hf => State.get_put_other hs _ _ _ hok (.inl (by have := hf.2.2; omega)),
    fun hs hready => (State.get_put_other hs _ _ _ hok (.inl (by simp only [Reg.HRG_STAT_READY, Reg.HRG_STAT]; omega))).trans hready⟩

theorem add64 {off n : Nat} (hreg : 0x300000 ≤ off ∧ off + 4 < 0x350000) : LineOnly s (t.add64 off n) :=
  h.trans ⟨rfl, State.add64_stored _ _, fun hs f hf =>
    State.get_wr64_other hs _ _ _ (by have := hf.2.2; omega) (by have := hf.2.2; omega),
    fun hs hready => (State.get_wr64_other hs _ _ _ (by simp only [Reg.HRG_STAT_READY, Reg.HRG_STAT]; omega)
      (by simp only [Reg.HRG_STAT_READY, Reg.HRG_STAT]; omega)).trans hready⟩

theorem updLine (x : LineState) : LineOnly s { t with line := x } := h.trans ⟨rfl, id, fun _ _ _ => rfl, fun _ => id⟩

theorem updCul (x : CulvertState) : LineOnly s { t with cul := x } := h.trans ⟨rfl, id, fun _ _ _ => rfl, fun _ => id⟩

theorem event (src code : Nat) (args : List Nat) : LineOnly s (t.event src code args) := h.trans (of_reports (State.event_reports _ _ _ _))

theorem shows {f : Field} {v : Nat} (hs : s.Shows f v) (hf : f.offLine) : t.Shows f v :=
  ⟨h.stored hs.stored, (h.fields hs.stored f hf).trans hs.value⟩

theorem now : t.now = s.now := by have e := congrArg State.now h.work; exact e
theorem tx : t.tx = s.tx := by have e := congrArg State.tx h.work; exact e
theorem rx : t.rx = s.rx := by have e := congrArg State.rx h.work; exact e
theorem rct : t.rct = s.rct := by have e := congrArg State.rct h.work; exact e
theorem eng : t.eng = s.eng := by have e := congrArg State.eng h.work; exact e
theorem boot : t.boot = s.boot := by have e := congrArg State.boot h.work; exact e
theorem pwr : t.pwr = s.pwr := by have e := congrArg State.pwr h.work; exact e

end

end LineOnly

/-! ## Lanes of the line -/

theorem State.neighbourLost_lineOnly (s : State) {k : Nat} (hk : k < 4) : LineOnly s (s.neighbourLost k) := by
  unfold State.neighbourLost
  exact LineOnly.ite (.refl s) ((((LineOnly.refl s).updLine _).event _ _ _).trans (.of_timeOnly (State.joinPort_timeOnly (.refl _) hk _ _)))

theorem State.portLanes_lineOnly (s : State) {k : Nat} (hk : k < 2) : LineOnly s (s.portLanes k) := by
  have hstat : 0x300000 ≤ Reg.LIN_PORT_STAT k ∧ Reg.LIN_PORT_STAT k < 0x350000 := by
    unfold Reg.LIN_PORT_STAT
    omega
  have hup : LineOnly s (s.put (Reg.LIN_PORT_STAT_LANES_UP k) (maskOf ((List.range 4).filter fun j => s.laneAt (4 * k + j) == 5))) :=
    (LineOnly.refl s).put (Nat.le_of_ble_eq_true rfl) hstat
  unfold State.portLanes
  exact LineOnly.ite ((((hup.put (Nat.le_of_ble_eq_true rfl) hstat).add64 (by unfold Reg.LIN_PORT_CNT; omega)).event _ _ _).trans
    (State.neighbourLost_lineOnly _ (by omega))) hup

section
variable {s t : State} (h : LineOnly s t) {n : Nat} (hn : n < 8)
include h hn

/-- A write within a lane's own registers. -/
theorem LineOnly.putLane {g : Field} {v : Nat} (hok : g.ok) (hreg : 0x300000 + 0x400 * n ≤ g.reg ∧ g.reg < 0x300400 + 0x400 * n) :
    LineOnly s (t.put g v) := h.put hok (by omega)

theorem LineOnly.setLane (new : Nat) (cause : Option Nat) : LineOnly s (t.setLane n new cause) := by
  have hport : portOf n < 2 := by
    unfold portOf
    omega
  have hput : LineOnly s ((t.put (Reg.LIN_STAT_STATE n) new).modLane n fun l => { l with since := t.now }) :=
    (h.putLane hn (Nat.le_of_ble_eq_true rfl) (linStat_ownLane n)).updLine _
  unfold State.setLane
  cases cause with
  | none => exact hput.trans (State.portLanes_lineOnly _ hport)
  | some c => exact (hput.event _ _ _).trans (State.portLanes_lineOnly _ hport)

theorem LineOnly.enterDown : LineOnly s (t.enterDown n) := by
  unfold State.enterDown
  exact .ite h (LineOnly.setLane (h.updLine _) hn 0 (some 0))

theorem LineOnly.setTaps (l : List Int) : LineOnly s (t.setTaps n l) := by
  have hput : ∀ {u : State} lsb w v, LineOnly s u → lsb + w ≤ 32 → LineOnly s (u.put ⟨Reg.LIN_TXFFE n, lsb, w⟩ v) := fun lsb w v hu hok =>
    hu.putLane hn hok (by unfold Reg.LIN_TXFFE; dsimp only; omega)
  exact hput _ _ _ (hput _ _ _ (hput _ _ _ (hput _ _ _ (hput _ _ _ h (by decide)) (by decide)) (by decide)) (by decide)) (by decide)

theorem LineOnly.countFailure : LineOnly s (t.countFailure n) := by
  unfold State.countFailure
  exact h.when _ _ (((LineOnly.refl t).putLane hn (Nat.le_of_ble_eq_true rfl) (linStat_ownLane n)).add64 (by unfold Reg.LIN_CNT; omega))

theorem LineOnly.enterDetect (cause : Nat) : LineOnly s (t.enterDetect n cause) := by
  have hreset : LineOnly s ((t.countFailure n).detectTaps n) :=
    ((h.countFailure hn).setTaps hn _).putLane hn (Nat.le_of_ble_eq_true rfl) (linStat_ownLane n)
  rw [t.enterDetect_eq]
  dsimp only
  generalize (t.countFailure n).detectTaps n = u at hreset
  have hmod : LineOnly s (u.modLane n fun l => l.detecting (t.laneAt n) (u.now + t.detectWait n)) := hreset.updLine _
  exact .ite hmod (hmod.setLane hn 1 (some cause))

theorem LineOnly.laneStart : LineOnly s (t.laneStart n) := by
  unfold State.laneStart
  exact .ite (h.enterDetect hn 0) h

end

/-! ## Lanes of the links -/

theorem culLaneStat_block {n : Nat} (hn : n < 12) : 0x300000 ≤ Reg.CUL_LANE_STAT n ∧ Reg.CUL_LANE_STAT n < 0x350000 := by
  unfold Reg.CUL_LANE_STAT
  omega

theorem culLinkStat_block {k : Nat} (hk : k < 2) : 0x300000 ≤ Reg.CUL_LINK_STAT k ∧ Reg.CUL_LINK_STAT k < 0x350000 := by
  unfold Reg.CUL_LINK_STAT
  omega

section
variable {s t : State} (h : LineOnly s t)
include h

theorem LineOnly.setAwake {n : Nat} (hn : n < 12) (b : Bool) : LineOnly s (t.setAwake n b) :=
  h.put (Nat.le_of_ble_eq_true rfl) (culLinkStat_block (by omega))

theorem LineOnly.culStartLane {n : Nat} (hn : n < 12) : LineOnly s (t.culStartLane n) :=
  ((LineOnly.setAwake (h.updCul _) hn true).put (Nat.le_of_ble_eq_true rfl) (culLaneStat_block hn)).put (Nat.le_of_ble_eq_true rfl)
    (culLaneStat_block hn)

theorem LineOnly.culStopLane {n : Nat} (hn : n < 12) : LineOnly s (t.culStopLane n) :=
  (((LineOnly.setAwake (h.updCul _) hn false).put (Nat.le_of_ble_eq_true rfl) (culLaneStat_block hn)).put (Nat.le_of_ble_eq_true rfl)
    (culLaneStat_block hn)).put (Nat.le_of_ble_eq_true rfl) (culLaneStat_block hn)

theorem LineOnly.setReady : LineOnly s (t.setF Reg.HRG_STAT_READY) :=
  h.trans ⟨rfl, State.put_stored _ _, fun hs _ hf => State.get_put_other hs _ _ _ (by decide) (.inl hf.2.1.symm),
    fun hs _ => (State.put_shows hs Reg.HRG_STAT_READY 1).value⟩

theorem LineOnly.refreshLink {k : Nat} (hk : k < 2) : LineOnly s (t.refreshLink k) := by
  unfold State.refreshLink
  have hput : LineOnly s (t.put (Reg.CUL_LINK_STAT_STATE k) (t.culStateOf k)) := h.put (Nat.le_of_ble_eq_true rfl) (culLinkStat_block hk)
  exact .ite h (((((hput.event _ _ _).when _ _ ((LineOnly.refl _).updCul _)).when _ _ (LineOnly.refl _).setReady)).trans
    (.of_timeOnly (State.joinPort_timeOnly (.refl _) (by omega) _ _)))

theorem LineOnly.setWant (k cause : Nat) : LineOnly s (t.setWant k cause) := by
  unfold State.setWant
  exact .ite h (h.updCul _)

theorem LineOnly.culRefresh : LineOnly s t.culRefresh := by
  unfold State.culRefresh
  refine LineOnly.each (LineOnly.each h _ _ fun u n hn => ?_) _ _ fun u k hk => ?_
  · have hn' : n < 12 := List.mem_range.1 hn
    exact .ite (.ite (.refl u) ((LineOnly.refl u).culStartLane hn')) (.ite ((LineOnly.refl u).culStopLane hn') (.refl u))
  · have hk' : k < 2 := by
      rcases List.mem_pair.1 hk with rfl | rfl <;> decide
    exact LineOnly.refreshLink (LineOnly.setWant (.ite (.refl u) ((((LineOnly.refl u).put (Nat.le_of_ble_eq_true rfl)
      (culLinkStat_block hk')).put (Nat.le_of_ble_eq_true rfl) (culLinkStat_block hk')).updCul _)) k 2) hk'

end

end Sys2Proof.Machine
end

section
/-! What the tiles' power steps leave alone: the thermal words, the bring-up's state, and what throttling and sleep keep (R186, R449,
R454). -/
namespace Sys2Proof.Machine
open Sys2Proof

/-- A field outside the blocks that the tiles' steps write. -/
def Field.offTile (f : Field) : Prop :=
  recordField f = false ∧ (f.reg < 0x010000 ∨ 0x010008 ≤ f.reg ∧ f.reg < 0x030000 ∨ 0x3E0000 ≤ f.reg ∧ f.reg < 0x3E1000)

/-- The power state without the requests and the tiles' transitions. -/
def PwrState.rest (p : PwrState) : PwrState := { p with req := none, queue := none, tiles := [], tileQ := [], cmds := [] }

/-- The second state keeps what a tile's step has no part in. -/
structure TileOnly (s t : State) : Prop where
  now : t.now = s.now
  boot : t.boot = s.boot
  quiet : t.tx.quiet = s.tx.quiet
  rest : t.pwr.rest = s.pwr.rest
  stored : s.stored → t.stored
  fields : s.stored → ∀ f, f.offTile → t.get f = s.get f

namespace TileOnly

theorem refl (s : State) : TileOnly s s := ⟨rfl, rfl, rfl, rfl, id, fun _ _ _ => rfl⟩

theorem trans {s t u : State} (h : TileOnly s t) (h' : TileOnly t u) : TileOnly s u :=
  ⟨h'.now.trans h.now, h'.boot.trans h.boot, h'.quiet.trans h.quiet, h'.rest.trans h.rest, fun hs => h'.stored (h.stored hs),
    fun hs f hf => (h'.fields (h.stored hs) f hf).trans (h.fields hs f hf)⟩

theorem of_reports {s t : State} (h : Reports s t) : TileOnly s t :=
  ⟨h.now, h.boot, congrArg TxState.quiet h.tx, congrArg PwrState.rest h.pwr, h.stored, fun hs f hf => h.fields hs f hf.1⟩

theorem of_lineOnly {s t : State} (h : LineOnly s t) : TileOnly s t :=
  ⟨h.now, h.boot, congrArg TxState.quiet h.tx, congrArg PwrState.rest h.pwr, h.stored, fun hs f hf => h.fields hs f
    ⟨hf.1, by have := hf.2; simp only [Reg.HRG_STAT]; omega, by have := hf.2; omega⟩⟩

theorem ite {s t u : State} {c : Prop} [Decidable c] (h : TileOnly s t) (h' : TileOnly s u) : TileOnly s (if c then t else u) := by
  split <;> assumption

theorem when {s t : State} (h : TileOnly s t) (c : Bool) (run : State → State) (hrun : TileOnly t (run t)) : TileOnly s (t.when c run) :=
  ite (h.trans hrun) h

theorem each {α : Type} {s t : State} (h : TileOnly s t) (l : List α) (run : State → α → State)
    (hrun : ∀ u, ∀ x ∈ l, TileOnly u (run u x)) : TileOnly s (t.each l run) :=
  State.each_induct l run h fun u hu x hx => hu.trans (hrun u x hx)

section
variable {s t : State} (h : TileOnly s t)
include h

/-- A write within the tiles' blocks, or in the words of the tiles' power state. -/
theorem put {g : Field} {v : Nat} (hok : g.ok)
    (hreg : 0x010000 ≤ g.reg ∧ g.reg < 0x010008 ∨ 0x100000 ≤ g.reg ∧ g.reg < 0x3E0000) : TileOnly s (t.put g v) :=
  h.trans ⟨rfl, rfl, rfl, rfl, State.put_stored _ _, fun hs _ hf =>
    State.get_put_other hs _ _ _ hok (.inl (by have := hf.2; omega))⟩

theorem event (src code : Nat) (args : List Nat) : TileOnly s (t.event src code args) := h.trans (of_reports (State.event_reports _ _ _ _))

theorem complete (hdr : Hdr) (op status : Nat) : TileOnly s (t.complete hdr op status) := h.trans (of_reports (State.complete_reports _ _ _ _))

theorem completeR (hdr : Hdr) (op status : Nat) (l : List Nat) : TileOnly s (t.completeR hdr op status l) :=
  h.trans (of_reports (State.completeR_reports _ _ _ _ _))

theorem updTx (x : TxState) (hx : x.quiet = t.tx.quiet := by rfl) : TileOnly s { t with tx := x } := h.trans ⟨rfl, rfl, hx, rfl, id, fun _ _ _ => rfl⟩

theorem updRct (x : RadioState) : TileOnly s { t with rct := x } := h.trans ⟨rfl, rfl, rfl, rfl, id, fun _ _ _ => rfl⟩

theorem updGau (x : GauState) : TileOnly s { t with gau := x } := h.trans ⟨rfl, rfl, rfl, rfl, id, fun _ _ _ => rfl⟩

theorem updBeam (x : BeamState) : TileOnly s { t with beam := x } := h.trans ⟨rfl, rfl, rfl, rfl, id, fun _ _ _ => rfl⟩

theorem updPwr (x : PwrState) (hx : x.rest = t.pwr.rest := by rfl) : TileOnly s { t with pwr := x } := h.trans ⟨rfl, rfl, rfl, hx, id, fun _ _ _ => rfl⟩

theorem shows {f : Field} {v : Nat} (hs : s.Shows f v) (hf : f.offTile) : t.Shows f v :=
  ⟨h.stored hs.stored, (h.fields hs.stored f hf).trans hs.value⟩

theorem sweepAt : t.pwr.sweepAt = s.pwr.sweepAt := by have e := congrArg PwrState.sweepAt h.rest; exact e
theorem tripped : t.pwr.tripped = s.pwr.tripped := by have e := congrArg PwrState.tripped h.rest; exact e
theorem gatedAt : t.pwr.gatedAt = s.pwr.gatedAt := by have e := congrArg PwrState.gatedAt h.rest; exact e
theorem t3Mask : t.pwr.t3Mask = s.pwr.t3Mask := by have e := congrArg PwrState.t3Mask h.rest; exact e

/-! ## The plan and the captures -/

theorem refreshPlan : TileOnly s t.refreshPlan := by
  unfold State.refreshPlan
  refine each ?_ _ _ fun u n hn => ?_
  · exact ((((h.put (by decide) (by decide)).put (by decide) (by decide)).put (by decide) (by decide)).put (by decide) (by decide)).put
      (by decide) (by decide)
  · have hn' : n < 8 := List.mem_range.1 hn
    exact ((refl u).put (Nat.le_of_ble_eq_true rfl) (.inr (by simp only [Reg.TIL_TX_STAT_LATENCY, Reg.TIL_TX_STAT]; omega))).put
      (Nat.le_of_ble_eq_true rfl) (.inr (by simp only [Reg.TIL_RX_STAT_RELEASE, Reg.TIL_RX_STAT]; omega))

theorem setGau {k : Nat} (hk : k < 8) (st : Nat) : TileOnly s (t.setGau k st) :=
  ((h.put (Nat.le_of_ble_eq_true rfl) (.inr (by simp only [Reg.GAU_S_STAT_STATE, Reg.GAU_S_STAT]; omega))).put (by decide) (by decide)).put
    (by decide) (by decide)

theorem tapStart (n : Nat) : TileOnly s (t.tapStart n) := by
  refine h.each _ _ fun u k _ => ?_
  dsimp only
  split
  · exact .ite ((refl u).updGau _) (refl u)
  · exact refl u

theorem tapStop (f : GauStreamCmd → Bool) (cause : Nat) : TileOnly s (t.tapStop f cause) := by
  refine h.each _ _ fun u k _ => ?_
  dsimp only
  split
  · exact refl u
  · exact .ite ((each ((refl u).updGau _) _ _ fun v j hj => (refl v).setGau (mem_maskList.1 hj).1 2).put (by decide) (by decide)) (refl u)

/-! ## A tile's state -/

theorem showGated (n : Nat) (off : Bool) : TileOnly s (t.showGated n off) := by
  have hstate : TileOnly s ((t.put Reg.PWR_STAT_GATED (putBit (t.get Reg.PWR_STAT_GATED) n off)).when
      (decide ((t.put Reg.PWR_STAT_GATED (putBit (t.get Reg.PWR_STAT_GATED) n off)).get Reg.PWR_STAT_STATE < 2))
      fun s => s.put Reg.PWR_STAT_STATE (b2n (s.get Reg.PWR_STAT_GATED != 0))) :=
    (h.put (by decide) (by decide)).when _ _ ((refl _).put (by decide) (by decide))
  unfold State.showGated
  exact refreshPlan (.ite (hstate.tapStop _ _) (hstate.tapStart n))

theorem setBiasDac (n k : Nat) (d : BiasDac) : TileOnly s (t.setBiasDac n k d) := h.updTx _

theorem biasSafe (n k : Nat) (safe : Bool) : TileOnly s (t.biasSafe n k safe) := h.setBiasDac n k _

theorem tileBias (n : Nat) (safe : Bool) : TileOnly s (t.tileBias n safe) := h.each _ _ fun u k _ => (refl u).biasSafe n k safe

theorem modStrobes (n : Nat) (f : Strobes → Strobes) : TileOnly s (t.modStrobes n f) := h.updRct _

theorem setTileState {n : Nat} (hn : n < 8) (new cause : Nat) : TileOnly s (t.setTileState n new cause) := by
  have hstate : TileOnly s (t.put (Reg.RCT_TILE_STATE_STATE n) new) :=
    h.put (Nat.le_of_ble_eq_true rfl) (.inr (by simp only [Reg.RCT_TILE_STATE_STATE, Reg.RCT_TILE_STATE]; omega))
  have hgated := fun c => hstate.when c (fun s => s.showGated n (new == 0)) ((refl _).showGated n _)
  unfold State.setTileState
  refine .ite h ?_
  have hstrobes : ∀ {u : State} (old : Nat), TileOnly s u → TileOnly s
      (if new = 0 then (u.modStrobes n fun t => { Strobes.off with obsSel := t.obsSel }).tileBias n true
      else if new = 4 then u.modStrobes n fun t => ⟨false, true, true, 0, t.obsSel⟩
      else if old = 0 then (u.modStrobes n fun t => { Strobes.off with obsSel := t.obsSel }).tileBias n false
      else if old = 4 then u.modStrobes n fun t => { t with prot := false }
      else u) := fun old hu =>
    .ite ((hu.modStrobes n _).tileBias n true) (.ite (hu.modStrobes n _) (.ite ((hu.modStrobes n _).tileBias n false)
      (.ite (hu.modStrobes n _) hu)))
  exact .ite ((hstrobes _ (hgated _)).event _ _ _) (hstrobes _ (hgated _))

theorem showPhase {n : Nat} (hn : n < 8) : TileOnly s (t.showPhase n) :=
  h.put (by simp only [Field.ok, Reg.PWR_TILE_PHASE_PHASE]; omega) (.inl (by simp only [Reg.PWR_TILE_PHASE_PHASE, Reg.PWR_TILE_PHASE]; omega))

theorem tileOffBy {n : Nat} (hn : n < 8) (cause who : Nat) : TileOnly s (t.tileOffBy n cause who) := by
  have hprotect : TileOnly s (t.modProtect n fun q => { q with goneAt := none }) := h.updRct _
  have hlatched : 0x100000 ≤ (Reg.RCT_TILE_STATE_LATCHED n).reg ∧ (Reg.RCT_TILE_STATE_LATCHED n).reg < 0x3E0000 := by
    simp only [Reg.RCT_TILE_STATE_LATCHED, Reg.RCT_TILE_STATE]
    omega
  unfold State.tileOffBy
  refine .ite h (showPhase ?_ hn)
  exact ((hprotect.setTileState hn 0 cause).put (v := 0) (Nat.le_of_ble_eq_true rfl) (.inr hlatched)).updPwr _

theorem tileOff {n : Nat} (hn : n < 8) (cause : Nat) : TileOnly s (t.tileOff n cause) := h.tileOffBy hn cause _

theorem tripBias (n : Nat) : TileOnly s (t.tripBias n) := by
  refine h.each _ _ fun u k _ => ?_
  dsimp only
  split
  · exact (refl u).biasSafe n k true
  · exact ((refl u).setBiasDac n k _).trans (of_reports (State.queuedOutcome_reports _ _ _ _ _ _ _))

/-! ## Transitions of tiles, and their commands -/

theorem reqOver : TileOnly s t.reqOver := (h.updPwr _).put (by decide) (by decide)

theorem endTileCmd (k st : Nat) (l : List Nat) : TileOnly s (t.endTileCmd k st l) := by
  unfold State.endTileCmd
  split
  · exact h
  · exact completeR (.ite (reqOver (h.updPwr _)) (h.updPwr _)) _ _ _ _

theorem supersede (l : List Nat) : TileOnly s (t.supersede l) := h.each _ _ fun u k _ => (refl u).endTileCmd k _ _

theorem settleCmd (k : Nat) : TileOnly s (t.settleCmd k) := by
  unfold State.settleCmd
  split
  · exact h
  · exact .ite h (.ite (h.endTileCmd k _ _) (h.endTileCmd k _ _))

theorem tileDone (k n : Nat) (ok : Bool) : TileOnly s (t.tileDone k n ok) := by
  unfold State.tileDone
  split
  · exact h
  · exact settleCmd (h.updPwr _) k

theorem setJob {n : Nat} (hn : n < 8) (j : Option TileJob) : TileOnly s (t.setJob n j) := showPhase (h.updPwr _) hn

theorem setQueued {n : Nat} (hn : n < 8) (j : Option TileJob) : TileOnly s (t.setQueued n j) := showPhase (h.updPwr _) hn

theorem requeue {n : Nat} (hn : n < 8) (j : Option TileJob) : TileOnly s (t.requeue n j) := supersede (h.setQueued hn j) _

theorem showAuto (n : Nat) (b : Bool) : TileOnly s (t.showAuto n b) := h.put (by decide) (by decide)

theorem gateTile {n : Nat} (hn : n < 8) (cause who : Nat) (cmds : List Nat) : TileOnly s (t.gateTile n cause who cmds) := by
  unfold State.gateTile
  split
  · exact .ite (h.requeue hn _) ((h.requeue hn none).setJob hn _)
  · exact .ite (h.each _ _ fun u k _ => (refl u).tileDone k n true) ((h.tileOffBy hn cause who).setJob hn _)

end

end TileOnly

end Sys2Proof.Machine
end

section
/-! The throttle: its levels, the tiles it gates, and the trip (R454 to R460). -/
namespace Sys2Proof.Machine
open Sys2Proof

/-! ## The hottest tile -/

theorem State.hottest_mem (s : State) {l : List Nat} {n : Nat} (h : s.hottest l = some n) : n ∈ l := by
  have hfold : ∀ (l : List Nat) (a : Option Nat), l.foldl (fun (a : Option Nat) n => match a with
      | none => some n
      | some m => if s.tileTemp n > s.tileTemp m then some n else a) a = some n → a = some n ∨ n ∈ l := by
    intro l
    induction l with
    | nil => exact fun a h => .inl h
    | cons x t ih =>
      intro a h
      rcases ih _ h with hx | hx
      · cases a with
        | none => exact .inr (List.mem_cons.2 (.inl (Option.some.inj hx).symm))
        | some m =>
          dsimp only at hx
          split at hx
          · exact .inr (List.mem_cons.2 (.inl (Option.some.inj hx).symm))
          · exact .inl hx
      · exact .inr (List.mem_cons_of_mem x hx)
  exact (hfold l none h).resolve_left (fun h => nomatch h)

theorem State.hottestPowered_lt (s : State) {n : Nat} (h : s.hottest ((List.range 8).filter s.powered) = some n) : n < 8 :=
  List.mem_range.1 (List.mem_filter.1 (s.hottest_mem h)).1

/-! ## What T2 and T3 leave -/

section
variable {s t : State} (h : TileOnly s t)
include h

theorem TileOnly.blankLayers (fuel : Nat) : TileOnly s (State.blankLayers fuel t) := by
  induction fuel generalizing t with
  | zero => exact h
  | succ fuel ih =>
    unfold State.blankLayers
    refine .ite h ?_
    split
    · exact h
    · exact ih (h.updBeam _)

theorem TileOnly.blankEvents (kind : Nat) (l : List (Nat × Nat × Nat)) : TileOnly s (t.blankEvents kind l) :=
  h.each _ _ fun u _ _ => (TileOnly.refl u).when _ _ ((TileOnly.refl u).event _ _ _)

theorem TileOnly.t2Blank : TileOnly s t.t2Blank := by
  have hplan := (h.blankLayers 512).refreshPlan
  unfold State.t2Blank
  exact .ite hplan ((hplan.put (by decide) (by decide)).blankEvents 0 _)

end

/-- T3 gates the hottest tile that is powered, and marks it. -/
theorem State.t3Gate_eq (s : State) : ∃ u, TileOnly u s.t3Gate ∧ u = { s with pwr := { s.pwr with
    gatedAt := s.now,
    t3Mask := match s.hottest ((List.range 8).filter s.powered) with
      | none => s.pwr.t3Mask
      | some n => putBit s.pwr.t3Mask n true } } := by
  refine ⟨_, ?_, rfl⟩
  have hsame : { s with pwr := { s.pwr with gatedAt := s.now } }.hottest
      ((List.range 8).filter { s with pwr := { s.pwr with gatedAt := s.now } }.powered) = s.hottest ((List.range 8).filter s.powered) := rfl
  unfold State.t3Gate
  dsimp only
  rw [hsame]
  cases hhot : s.hottest ((List.range 8).filter s.powered) with
  | none => exact TileOnly.refl _
  | some n => exact ((TileOnly.refl _).gateTile (s.hottestPowered_lt hhot) 5 2 []).showAuto n true

theorem State.blankEvents_reports (s : State) (kind : Nat) (l : List (Nat × Nat × Nat)) : Reports s (s.blankEvents kind l) := by
  refine State.each_induct _ _ (Reports.refl s) fun u hu x _ => ?_
  unfold State.when
  dsimp only
  split
  · exact hu.trans (State.event_reports _ _ _ _)
  · exact hu

/-! ## A sensor's reading through the throttle's work -/

/-- A sensor shows a value, and the sweep was at a time. -/
structure State.SensorAt (s : State) (k v at_ : Nat) : Prop where
  shows : s.Shows (Reg.THM_SENSOR_TEMP k) v
  swept : s.pwr.sweepAt = at_

theorem recordField_thermal {f : Field} (h : 0x3E0008 < f.reg ∧ f.reg < 0x3E1000) : recordField f = false := by
  have h1 : ¬ f.reg < 0x081800 := by omega
  have h2 : f.reg ≠ Reg.HRG_STAT := by simp only [Reg.HRG_STAT]; omega
  have h3 : f.reg ≠ Reg.THM_WINDOW := by simp only [Reg.THM_WINDOW]; omega
  have h4 : f.reg ≠ Reg.FLT_STAT := by simp only [Reg.FLT_STAT]; omega
  have h5 : f.reg ≠ Reg.FLT_LOG_WEAR := by simp only [Reg.FLT_LOG_WEAR]; omega
  rw [recordField, decide_eq_false h1, beq_eq_false_iff_ne.mpr h2, beq_eq_false_iff_ne.mpr h3, beq_eq_false_iff_ne.mpr h4,
    beq_eq_false_iff_ne.mpr h5]
  simp

theorem sensor_reg (k : Nat) : (Reg.THM_SENSOR_TEMP k).reg = 0x3E0100 + 0x4 * k := rfl

theorem sensor_offTile {k : Nat} (hk : k < 40) : (Reg.THM_SENSOR_TEMP k).offTile := by
  refine ⟨recordField_thermal ?_, ?_⟩ <;> rw [sensor_reg] <;> omega

/-- A sensor's word is apart from the words before the sensors'. -/
theorem sensor_apart {f : Field} (k : Nat) (h : f.reg < 0x3E0100) : f.apart (Reg.THM_SENSOR_TEMP k) :=
  .inl (by rw [sensor_reg]; omega)

section
variable {s : State} {k v at_ : Nat} (h : s.SensorAt k v at_)
include h

theorem State.SensorAt.updPwr (x : PwrState) (hx : x.sweepAt = s.pwr.sweepAt := by rfl) : ({ s with pwr := x } : State).SensorAt k v at_ :=
  ⟨h.shows.updPwr x, hx.trans h.swept⟩

theorem State.SensorAt.updRct (x : RadioState) : ({ s with rct := x } : State).SensorAt k v at_ := ⟨h.shows.updRct x, h.swept⟩

theorem State.SensorAt.put {f : Field} {x : Nat} (hok : f.ok) (hreg : f.reg < 0x3E0100) : (s.put f x).SensorAt k v at_ :=
  ⟨h.shows.put ⟨hok, sensor_apart k hreg⟩, (congrArg PwrState.sweepAt (State.put_pwr s f x)).trans h.swept⟩

theorem State.SensorAt.ite {c : Prop} [Decidable c] {t : State} (ht : t.SensorAt k v at_) : (if c then s else t).SensorAt k v at_ := by
  split <;> assumption

theorem State.SensorAt.when (c : Bool) {run : State → State} (hrun : ∀ u : State, u.SensorAt k v at_ → (run u).SensorAt k v at_) :
    (s.when c run).SensorAt k v at_ := (hrun s h).ite h

variable (hk : k < 40)
include hk

theorem State.SensorAt.tileOnly {t : State} (ht : TileOnly s t) : t.SensorAt k v at_ :=
  ⟨ht.shows h.shows (sensor_offTile hk), ht.sweepAt.trans h.swept⟩

theorem State.SensorAt.reports {t : State} (ht : Reports s t) : t.SensorAt k v at_ := h.tileOnly hk (.of_reports ht)

theorem State.SensorAt.t3Gate : s.t3Gate.SensorAt k v at_ := by
  obtain ⟨u, hu, heq⟩ := s.t3Gate_eq
  rw [heq] at hu
  exact (h.updPwr _).tileOnly hk hu

/-- What a change of level does once it is shown and told. -/
theorem State.SensorAt.levelChanged (old new : Nat) (below cool : Option Nat) :
    (({ s with pwr := { s.pwr with belowSince := below, coolSince := cool } }.when (decide (old < 2 ∧ 2 ≤ new)) State.t2Blank).when
      (decide (old < 3 ∧ new = 3)) State.t3Gate).SensorAt k v at_ :=
  ((h.updPwr _).when _ fun x hx => hx.tileOnly hk (TileOnly.refl x).t2Blank).when _ fun x hx => hx.t3Gate hk

theorem State.SensorAt.setLevel (new : Nat) : (s.setLevel new).SensorAt k v at_ := by
  have hput := (h.put (f := Reg.THM_STAT_LEVEL) (x := new) (by decide) (by decide)).tileOnly hk (TileOnly.refl _).refreshPlan
  unfold State.setLevel
  exact .ite h ((hput.reports hk (State.event_reports _ _ _ _)).levelChanged hk _ _ _ _)

theorem State.SensorAt.throttle : s.throttle.SensorAt k v at_ := by
  unfold State.throttle
  exact .ite h (((h.setLevel hk _).ite h).updPwr _)

omit hk in
theorem State.SensorAt.updBootFlt (b : BootState) (x : FltState) : ({ s with boot := b, flt := x } : State).SensorAt k v at_ :=
  ⟨⟨h.shows.stored, h.shows.value⟩, h.swept⟩

theorem State.SensorAt.held (b : BootState) (x : FltState) (m : Nat) (full : Bool) :
    (((({ s with boot := b, flt := x } : State).put Reg.THM_WINDOW_HELD 0).put Reg.FLT_LOG_WEAR_MAX_ERASE m).when full
      fun s => s.setF Reg.FLT_STAT_LOG_STOPPED).SensorAt k v at_ := by
  have hwear : ∀ {u : State} {f : Field} {x : Nat}, u.SensorAt k v at_ → f.ok → 0x3E1000 ≤ f.reg → (u.put f x).SensorAt k v at_ :=
    fun hu hok hreg => ⟨hu.shows.put ⟨hok, .inl (by rw [sensor_reg]; omega)⟩, (congrArg PwrState.sweepAt (State.put_pwr _ _ _)).trans hu.swept⟩
  exact (hwear ((h.updBootFlt b x).put (by decide) (by decide)) (by decide) (by decide)).when _ fun u hu => hwear hu (by decide) (by decide)

theorem State.SensorAt.writeHeld : s.writeHeld.SensorAt k v at_ := by
  have hboot := fun b : BootState => (show ({ s with boot := b } : State).SensorAt k v at_ from h.updBootFlt b s.flt)
  unfold State.writeHeld
  exact .ite (hboot _) ((hboot _).held hk _ _ _ _)

theorem State.SensorAt.setWindow (w : Nat) (now : Bool) : (s.setWindow w now).SensorAt k v at_ := by
  have hput : ∀ x, (s.put (if w = 0 then Reg.THM_WINDOW_FUSE_OPEN else Reg.THM_WINDOW_FLASH_OPEN) x).SensorAt k v at_ := fun x => by
    split
    · exact h.put (by decide) (by decide)
    · exact h.put (by decide) (by decide)
  unfold State.setWindow
  have htold : ∀ {u : State} (a b : Nat) (l : List Nat), u.SensorAt k v at_ → (u.event a b l).SensorAt k v at_ :=
    fun a b l hu => hu.reports hk (State.event_reports _ _ _ _)
  have hheld := fun x => State.SensorAt.ite (c := (w = 1 && now) = true) ((hput x).writeHeld hk) (hput x)
  exact .ite h (.ite (htold _ _ _ (hheld _)) (.ite ((htold _ _ _ (hheld _)).reports hk (State.logState_reports _ _ _))
    ((htold _ _ _ (hheld _)).reports hk (State.logState_reports _ _ _))))

end

/-! ## A sweep of the sensors -/

/-- The sweep writes every sensor's word. -/
theorem State.sweep_shows {s : State} (hs : s.stored) (temps : List Int) :
    ∀ k ∈ List.range 40, (s.each (List.range 40) fun s k => s.wr (Reg.THM_SENSOR k) (ux 16 (temps.getD k 0) + 2 ^ 16)).Shows
      (Reg.THM_SENSOR_TEMP k) (ux 16 (temps.getD k 0)) := by
  refine (State.each_establishes (P := fun k (u : State) => u.Shows (Reg.THM_SENSOR_TEMP k) (ux 16 (temps.getD k 0))) _ _ hs
    (fun u _ _ hu => State.wr_stored _ _ hu) (fun u k _ hu => ⟨State.wr_stored _ _ hu, ?_⟩) fun u x y _ _ hne _ hy => hy.wr ?_).2
  · have hword : (u.wr (Reg.THM_SENSOR k) (ux 16 (temps.getD k 0) + 2 ^ 16)).rd (Reg.THM_SENSOR k) = ux 16 (temps.getD k 0) + 2 ^ 16 := by
      rw [State.rd_wr_same hu.1, Nat.mod_eq_of_lt (by have := ux_lt 16 (temps.getD k 0); omega)]
    show bits ((u.wr (Reg.THM_SENSOR k) (ux 16 (temps.getD k 0) + 2 ^ 16)).rd (Reg.THM_SENSOR k)) 0 16 = _
    rw [hword, bits]
    have := ux_lt 16 (temps.getD k 0)
    omega
  · rw [sensor_reg]
    simp only [Reg.THM_SENSOR]
    omega

theorem State.sensorsAt_leaves {t : State} {f : Nat → Nat} {at_ : Nat} (hall : ∀ k, k < 40 → t.SensorAt k (f k) at_) :
    t.pwr.sweepAt = at_ ∧ ∀ k, k < 40 → t.get (Reg.THM_SENSOR_TEMP k) = f k :=
  ⟨(hall 0 (by decide)).swept, fun k hk => (hall k hk).shows.value⟩

theorem State.lateFlag_leaves {s : State} (hs : s.stored) (f : Field) : (s.lateFlag f).stored ∧ (s.lateFlag f).now = s.now :=
  ⟨(State.event_reports _ _ _ _).stored (State.put_stored _ _ hs), (State.event_reports _ _ _ _).now.trans (State.put_now _ _ _)⟩

theorem State.when_lateFlag_leaves {s : State} (hs : s.stored) (c : Bool) (f : Field) :
    (s.when c fun s => s.lateFlag f).stored ∧ (s.when c fun s => s.lateFlag f).now = s.now := by
  unfold State.when
  split
  · exact State.lateFlag_leaves hs f
  · exact ⟨hs, rfl⟩

/-- What a sweep does once the sensors' words are written keeps them, with the time of the sweep. -/
theorem State.exec_thermalSampling {s : State} (hs : s.stored) (temps : List Int) (hrun : s.running = true) :
    ∃ t, exec (.thermalSampling temps) s = .next t ∧ t.pwr.sweepAt = s.now ∧
      ∀ k, k < 40 → t.get (Reg.THM_SENSOR_TEMP k) = ux 16 (temps.getD k 0) := by
  obtain ⟨hstored, hnow⟩ := State.when_lateFlag_leaves hs (s.pwr.sweepAt != 0 && s.due (s.pwr.sweepAt + 1500001)) Reg.DEV_BG_STAT_THERM_LATE
  have hshows := State.sweep_shows hstored temps
  have hswept := (State.each_reads _ (List.range 40) (fun s k => s.wr (Reg.THM_SENSOR k) (ux 16 (temps.getD k 0) + 2 ^ 16)) State.now
    fun u j => State.wr_now _ _ _).trans hnow
  refine ⟨_, congrArg Host.Outcome.next (if_neg (by rw [hrun]; decide)), State.sensorsAt_leaves fun k hk => ?_⟩
  have hbase : ∀ {u : State}, u.Shows (Reg.THM_SENSOR_TEMP k) (ux 16 (temps.getD k 0)) → u.now = s.now →
      ({ u with pwr := { u.pwr with sweepAt := u.now } } : State).SensorAt k (ux 16 (temps.getD k 0)) s.now :=
    fun hu hat => ⟨hu.updPwr _, hat⟩
  have hwindow : ∀ {u : State} (m n : Nat) (a b : Bool), u.SensorAt k (ux 16 (temps.getD k 0)) s.now →
      ((((u.put Reg.THM_STAT_MAX_T m).put Reg.THM_STAT_HOT_TILE n).setWindow 0 a).setWindow 1 b).SensorAt k (ux 16 (temps.getD k 0)) s.now :=
    fun m n a b hu => (((hu.put (by decide) (by decide)).put (by decide) (by decide)).setWindow hk 0 a).setWindow hk 1 b
  have hshown := fun m n a b => hwindow m n a b (hbase (hshows k (List.mem_range.2 hk)) hswept)
  exact State.SensorAt.throttle (.ite ((hshown _ _ _ _).updRct _) (hshown _ _ _ _)) hk

/-! ## The trip -/

/-- The trip is latched, at level 4. -/
structure State.TripHeld (s : State) : Prop where
  level : s.Shows Reg.THM_STAT_LEVEL 4
  latched : s.Shows Reg.THM_STAT_TRIP_LATCHED 1
  tripped : s.pwr.tripped = true

theorem thmLevel_offTile : Reg.THM_STAT_LEVEL.offTile ∧ Reg.THM_STAT_TRIP_LATCHED.offTile :=
  ⟨⟨by decide, by decide⟩, by decide, by decide⟩

/-- A latched trip with the transmitter silent and no calibration. -/
structure State.Silent (s : State) : Prop where
  held : s.TripHeld
  quiet : s.tx.quiet = true
  idle : s.boot.cal = none

section
variable {s t : State}

theorem State.TripHeld.tileOnly (h : s.TripHeld) (ht : TileOnly s t) : t.TripHeld :=
  ⟨ht.shows h.level thmLevel_offTile.1, ht.shows h.latched thmLevel_offTile.2, ht.tripped.trans h.tripped⟩

theorem State.TripHeld.updBoot (h : s.TripHeld) (x : BootState) : ({ s with boot := x } : State).TripHeld :=
  ⟨h.level.updBoot x, h.latched.updBoot x, h.tripped⟩

theorem State.TripHeld.ite {c : Prop} [Decidable c] (h : s.TripHeld) (ht : t.TripHeld) : (if c then s else t).TripHeld := by
  split <;> assumption

theorem State.Silent.tileOnly (h : s.Silent) (ht : TileOnly s t) : t.Silent :=
  ⟨h.held.tileOnly ht, ht.quiet.trans h.quiet, (congrArg BootState.cal ht.boot).trans h.idle⟩

theorem State.Silent.put (h : s.Silent) {f : Field} {v : Nat} (hok : f.ok) (hreg : f.reg < 0x3E0000) : (s.put f v).Silent :=
  ⟨⟨h.held.level.put ⟨hok, .inl (by simp only [Reg.THM_STAT_LEVEL, Reg.THM_STAT]; omega)⟩,
      h.held.latched.put ⟨hok, .inl (by simp only [Reg.THM_STAT_TRIP_LATCHED, Reg.THM_STAT]; omega)⟩,
      (congrArg PwrState.tripped (State.put_pwr s f v)).trans h.held.tripped⟩,
    (congrArg TxState.quiet (State.put_tx s f v)).trans h.quiet, (congrArg BootState.cal (State.put_boot s f v)).trans h.idle⟩

theorem State.Silent.synthOff (h : s.Silent) : s.synthOff.Silent := by
  have hclear : ∀ (x : RadioState) (y : RxState), ({ s with rct := x, rx := y } : State).Silent := fun _ _ =>
    ⟨⟨⟨h.held.level.stored, h.held.level.value⟩, ⟨h.held.latched.stored, h.held.latched.value⟩, h.held.tripped⟩, h.quiet, h.idle⟩
  unfold State.synthOff
  exact (((((hclear _ _).put (by decide) (by decide)).put (by decide) (by decide)).put (by decide) (by decide)).put (by decide)
    (by decide)).put (by decide) (by decide)

/-- A tripped device that falls silent stays so, with its trip latched. -/
theorem State.TripHeld.silence (h : s.TripHeld) (hcal : s.boot.cal = none) (cause : Nat) : (s.silence cause).Silent := by
  have hquiet : ({ s with tx := { s.tx with quiet := true } } : State).Silent :=
    ⟨⟨h.level.updTx _, h.latched.updTx _, h.tripped⟩, rfl, hcal⟩
  unfold State.silence
  refine State.Silent.tileOnly (s := State.each _ (List.range 8) State.enterDown) ?_ (.of_lineOnly (LineOnly.refl _).culRefresh)
  refine State.Silent.tileOnly ?_ (.of_lineOnly ((LineOnly.refl _).each _ _ fun u n hn => (LineOnly.refl u).enterDown (List.mem_range.1 hn)))
  refine State.Silent.tileOnly ?_ ((TileOnly.refl _).each _ _ fun u n hn => ((TileOnly.refl u).tripBias n).tileOff (List.mem_range.1 hn) cause)
  exact State.Silent.tileOnly hquiet.synthOff ((TileOnly.refl _).each _ _ fun u x _ => (TileOnly.refl u).complete _ _ _)

end

/-- A trip ends the tiles' commands and transitions, and silences the device. -/
theorem State.exec_thermalTrip {s : State} (hs : s.stored) (mask : Nat) (htrip : s.trip = false) :
    ∃ t, exec (.thermalTrip mask) s = .next t ∧ t.get Reg.THM_STAT_LEVEL = 4 ∧
      t.get Reg.THM_STAT_TRIP_LATCHED = 1 ∧ t.pwr.tripped = true ∧ t.tx.quiet = true ∧ t.boot.cal = none := by
  have hstart : ∀ x : PwrState, x.tripped = true →
      ({ (s.put Reg.THM_STAT_LEVEL 4).setF Reg.THM_STAT_TRIP_LATCHED with pwr := x } : State).TripHeld := fun x hx =>
    ⟨((State.put_shows hs Reg.THM_STAT_LEVEL 4).setF).updPwr x,
      (State.setF_shows (State.put_stored _ _ hs) Reg.THM_STAT_TRIP_LATCHED).updPwr x, hx⟩
  have hdone : ∀ {t : State}, t.Silent → t.get Reg.THM_STAT_LEVEL = 4 ∧ t.get Reg.THM_STAT_TRIP_LATCHED = 1 ∧ t.pwr.tripped = true ∧
      t.tx.quiet = true ∧ t.boot.cal = none := fun ht => ⟨ht.held.level.value, ht.held.latched.value, ht.held.tripped, ht.quiet, ht.idle⟩
  refine ⟨_, congrArg Host.Outcome.next (if_neg (by rw [htrip]; exact Bool.false_ne_true)), hdone ?_⟩
  refine State.Silent.tileOnly ?_ (.of_reports (State.event_reports _ _ _ _))
  refine State.Silent.tileOnly ?_ ((TileOnly.refl _).tapStop _ _)
  refine State.TripHeld.silence (State.TripHeld.updBoot ?_ _) rfl 6
  refine State.TripHeld.tileOnly ?_ ((TileOnly.refl _).each _ _ fun u n hn => (TileOnly.refl u).setQueued (List.mem_range.1 hn) none)
  refine State.TripHeld.tileOnly ?_ ((TileOnly.refl _).each _ _ fun u n hn =>
    (TileOnly.refl u).setJob (List.mem_range.1 (List.mem_filter.1 hn).1) none)
  have hended := fun x hx => (hstart x hx).tileOnly ((TileOnly.refl _).each (s.pwr.cmds.map Prod.fst) _
    fun u k _ => (TileOnly.refl u).endTileCmd k St.internal [])
  split
  · exact .ite ((hended _ rfl).tileOnly ((TileOnly.refl _).reqOver.complete _ _ _)) (hended _ rfl)
  · exact hended _ rfl

/-- Settles O55: gating by the Supervisor, the supply code, the sensors, the throttle and the trip (log 116 has the supply code
move by as many steps as periods have passed). -/
theorem heatIsThrottled : Obligations.HeatIsThrottled := by
  intro s hs
  refine ⟨fun hacts hsurplus hsince => ?_, fun target hstate hrun hen hlo hhi hbelow hdue => ?_,
    fun temps hrun => State.exec_thermalSampling hs temps hrun, fun since hbelow hlo hhi hdue => ?_, fun hlevel hdue => ?_,
    fun hblanked hcool hslot => ?_, fun since n hcool hdue hidle hfind => ?_, fun mask htrip => State.exec_thermalTrip hs mask htrip,
    fun hrstn => ?_⟩
  · show execAutoGating s = _
    unfold execAutoGating
    dsimp only
    rw [if_neg (by rw [hacts]; decide), if_pos hsurplus, hsince]
  · have hgoal : (if s.on Reg.PWR_AVS_AVS_EN then max (s.get Reg.PWR_AVS_VID_MIN) (min (s.get Reg.PWR_AVS_VID_MAX) target) else 20) = target := by
      rw [if_pos hen, Nat.min_eq_right hhi, Nat.max_eq_right hlo]
    have hmax := s.get_lt Reg.PWR_AVS_VID_MAX
    have hwidth : (2 : Nat) ^ Reg.PWR_AVS_VID_MAX.width = 64 := rfl
    have hmove : min target (s.get Reg.PWR_AVS_VID + (s.now - s.pwr.avsAt) / 100000) ≠ s.get Reg.PWR_AVS_VID := by omega
    have hs' : { s with pwr := { s.pwr with avsAt := s.now } }.stored := hs
    show ∃ t, execAvsUpdate target s = .next t ∧ _
    unfold execAvsUpdate
    dsimp only
    rw [if_neg (by rw [hrun]; simp; omega), hgoal, if_pos (Nat.le_of_lt hbelow)]
    refine ⟨_, congrArg Host.Outcome.next (if_neg hmove), (State.put_shows hs' Reg.PWR_AVS_VID _ ?_).value, ?_, fun f hf => ?_⟩
    · exact Nat.mod_eq_of_lt (show _ < 64 by omega)
    · rw [State.put_pwr]
    · exact State.get_put_other hs' _ _ _ (by decide) hf.symm
  · show execThrottleLower s = _
    unfold execThrottleLower
    rw [hbelow]
    exact congrArg Host.Outcome.next (if_pos ⟨hlo, hhi, decide_eq_true hdue⟩)
  · obtain ⟨u, hu, heq⟩ := s.t3Gate_eq
    refine ⟨_, congrArg Host.Outcome.next (if_pos ⟨hlevel, decide_eq_true hdue⟩), hu.gatedAt.trans (by rw [heq]), fun n hhot => ?_⟩
    rw [hu.t3Mask, heq]
    dsimp only
    rw [hhot]
    exact bit_putBit_same _ _ _
  · have hrun : exec .t2Restore s =
        .next (({ s with beam := { s.beam with blanked := [] } }.refreshPlan).blankEvents 1 s.beam.blanked.reverse) := by
      refine congrArg Host.Outcome.next (if_neg ?_)
      rw [hcool, hslot, List.isEmpty_eq_false_iff.2 hblanked]
      decide
    rw [hrun]
    exact .of_reports (State.blankEvents_reports _ _ _)
  · show execT3Release s = _
    unfold execT3Release
    rw [hcool]
    dsimp only
    have hnone : ((maskList s.pwr.t3Mask 8).any fun n => (s.job n).isSome) = false :=
      List.any_eq_false.2 fun m hm => by rw [hidle m hm]; exact Bool.false_ne_true
    rw [if_neg (by rw [hnone]; simp [State.due, hdue]), hfind]
  · have hrun : exec .tripLatchClear s = .next (({ s with pwr := { s.pwr with cool := true, tripped := false } }.put
        Reg.THM_STAT_TRIP_LATCHED 0).put Reg.THM_STAT_LEVEL 0) :=
      congrArg Host.Outcome.next (if_neg (by rw [hrstn]; exact Bool.false_ne_true))
    have hs' : { s with pwr := { s.pwr with cool := true, tripped := false } }.stored := hs
    refine ⟨_, hrun, ((State.put_shows hs' Reg.THM_STAT_TRIP_LATCHED 0).put).value,
      (State.put_shows (State.put_stored _ _ hs') Reg.THM_STAT_LEVEL 0).value, ?_⟩
    rw [State.put_pwr, State.put_pwr]

end Sys2Proof.Machine
end

section
/-! A field and the power state followed through the transitions of the tiles and of the device (R449 to R453). -/
namespace Sys2Proof.Machine
open Sys2Proof

/-- A state shows a field's value, with a power state. -/
structure State.PwrShows (s : State) (p : PwrState) (f : Field) (v : Nat) : Prop where
  shows : s.Shows f v
  pwr : s.pwr = p

namespace State.PwrShows

theorem ite {s t : State} {p : PwrState} {f : Field} {v : Nat} {c : Prop} [Decidable c] (h : s.PwrShows p f v) (h' : t.PwrShows p f v) :
    (if c then s else t).PwrShows p f v := by
  split <;> assumption

section
variable {s t : State} {p : PwrState} {f : Field} {v : Nat} (h : s.PwrShows p f v)
include h

theorem when (c : Bool) {run : State → State} (hrun : s.PwrShows p f v → (run s).PwrShows p f v) : (s.when c run).PwrShows p f v :=
  ite (hrun h) h

theorem each {α : Type} (l : List α) {run : State → α → State} (hrun : ∀ u, ∀ x ∈ l, u.PwrShows p f v → (run u x).PwrShows p f v) :
    (s.each l run).PwrShows p f v := State.each_induct l run h fun u hu x hx => hrun u x hx hu

theorem put {g : Field} {x : Nat} (hok : g.ok) (hapart : g.apart f) : (s.put g x).PwrShows p f v :=
  ⟨h.shows.put ⟨hok, hapart⟩, (State.put_pwr s g x).trans h.pwr⟩

theorem wr64 {off x : Nat} (hsep : f.reg ≠ off ∧ f.reg ≠ off + 4) : (s.wr64 off x).PwrShows p f v :=
  ⟨h.shows.wr64 hsep, (State.wr64_pwr s off x).trans h.pwr⟩

theorem updTx (x : TxState) : ({ s with tx := x } : State).PwrShows p f v := ⟨h.shows.updTx x, h.pwr⟩

theorem updRct (x : RadioState) : ({ s with rct := x } : State).PwrShows p f v := ⟨h.shows.updRct x, h.pwr⟩

theorem updRx (x : RxState) : ({ s with rx := x } : State).PwrShows p f v := ⟨h.shows.updRx x, h.pwr⟩

theorem updGau (x : GauState) : ({ s with gau := x } : State).PwrShows p f v := ⟨h.shows.updGau x, h.pwr⟩

theorem updHka (x : HkaState) : ({ s with hka := x } : State).PwrShows p f v := ⟨h.shows.updHka x, h.pwr⟩

theorem updSlu (x : SluState) : ({ s with slu := x } : State).PwrShows p f v := ⟨h.shows.updSlu x, h.pwr⟩

theorem updBeam (x : BeamState) : ({ s with beam := x } : State).PwrShows p f v := ⟨h.shows.updBeam x, h.pwr⟩

theorem updFlt (x : FltState) : ({ s with flt := x } : State).PwrShows p f v := ⟨⟨h.shows.stored, h.shows.value⟩, h.pwr⟩

theorem updBoot (x : BootState) : ({ s with boot := x } : State).PwrShows p f v := ⟨h.shows.updBoot x, h.pwr⟩

theorem updPwr (x : PwrState) : ({ s with pwr := x } : State).PwrShows x f v := ⟨h.shows.updPwr x, rfl⟩

theorem tapStart (n : Nat) : (s.tapStart n).PwrShows p f v := by
  refine h.each _ fun u k _ hu => ?_
  dsimp only
  split
  · exact .ite (hu.updGau _) hu
  · exact hu

theorem tileBias (n : Nat) (safe : Bool) : (s.tileBias n safe).PwrShows p f v := h.each _ fun _ _ _ hu => hu.updTx _

theorem modStrobes (n : Nat) (g : Strobes → Strobes) : (s.modStrobes n g).PwrShows p f v := h.updRct _

theorem lineOnly (ht : LineOnly s t) (hf : f.offLine) : t.PwrShows p f v := ⟨ht.shows h.shows hf, ht.pwr.trans h.pwr⟩

theorem reports (ht : Reports s t) (hf : recordField f = false) : t.PwrShows p f v := ⟨h.shows.reports ht hf, ht.pwr.trans h.pwr⟩

end

/-! ## A word of the device's own blocks through sleep and waking -/

section
variable {s : State} {p : PwrState} {f : Field} {v : Nat} (h : s.PwrShows p f v) (hrec : recordField f = false) (hf : f.reg < 0x030000)
include h hf

theorem putAbove {g : Field} {x : Nat} (hok : g.ok) (hreg : 0x030000 ≤ g.reg) : (s.put g x).PwrShows p f v := h.put hok (.inl (by omega))

include hrec

theorem hkaSleep : s.hkaSleep.PwrShows p f v := by
  unfold State.hkaSleep
  refine each ?_ _ fun u x _ hu => hu.reports (State.complete_reports _ _ _ _) hrec
  exact ((((h.updHka _).putAbove hf (by decide) (by decide)).putAbove hf (by decide) (by decide)).putAbove hf (by decide)
    (by decide)).putAbove hf (by decide) (by decide)

theorem startReference (hclk : f.reg ≠ Reg.CLK_SYN_STAT) : s.startReference.PwrShows p f v := by
  have hoff : f.offLine := ⟨hrec, by simp only [Reg.HRG_STAT]; omega, .inl hf⟩
  have hlines := h.lineOnly (((LineOnly.refl s).each (List.range 8) State.laneStart
    fun u n hn => (LineOnly.refl u).laneStart (List.mem_range.1 hn)).trans (LineOnly.refl _).culRefresh) hoff
  have hapart : ∀ {lsb w : Nat}, Field.apart ⟨Reg.CLK_SYN_STAT, lsb, w⟩ f := .inl hclk.symm
  unfold State.startReference
  exact .ite h (.ite ((((hlines.updRct _).put (by decide) hapart).put (by decide) hapart).put (by decide) hapart |>.put (by decide) hapart) hlines)

theorem sluWoken (c x at_ : Nat) : (((s.put (Reg.SLU_CH_STAT_POLLS c) x).modSlu c fun q => { q with pollAt := at_ }).sluTo c 2).PwrShows p f v := by
  have hstat : ∀ {lsb w : Nat}, 0x030000 ≤ (⟨Reg.SLU_CH_STAT c, lsb, w⟩ : Field).reg := by
    simp only [Reg.SLU_CH_STAT]
    omega
  have hpoll : ((s.put (Reg.SLU_CH_STAT_POLLS c) x).modSlu c fun q => { q with pollAt := at_ }).PwrShows p f v :=
    (h.putAbove hf (Nat.le_of_ble_eq_true rfl) hstat).updSlu _
  generalize ((s.put (Reg.SLU_CH_STAT_POLLS c) x).modSlu c fun q => { q with pollAt := at_ }) = u at hpoll ⊢
  unfold State.sluTo
  exact .ite hpoll ((hpoll.putAbove hf (Nat.le_of_ble_eq_true rfl) hstat).reports (State.event_reports _ _ _ _) hrec)

end

/-! ## A tile's word through the tiles' steps -/

section
variable {s : State} {p : PwrState} {f : Field} {v : Nat} (h : s.PwrShows p f v) (hf : 0x390000 ≤ f.reg ∧ f.reg < 0x391000)
include h hf

theorem putOff {g : Field} {x : Nat} (hok : g.ok) (hreg : g.reg < 0x390000 ∨ 0x391000 ≤ g.reg) : (s.put g x).PwrShows p f v :=
  h.put hok (.inl (by omega))

theorem refreshPlan : s.refreshPlan.PwrShows p f v := by
  unfold State.refreshPlan
  refine each ?_ _ fun u n hn hu => ?_
  · exact ((((h.putOff hf (by decide) (by decide)).putOff hf (by decide) (by decide)).putOff hf (by decide) (by decide)).putOff hf
      (by decide) (by decide)).putOff hf (by decide) (by decide)
  · have hn' : n < 8 := List.mem_range.1 hn
    exact (hu.putOff hf (Nat.le_of_ble_eq_true rfl) (.inl (by simp only [Reg.TIL_TX_STAT_LATENCY, Reg.TIL_TX_STAT]; omega))).putOff hf
      (Nat.le_of_ble_eq_true rfl) (.inl (by simp only [Reg.TIL_RX_STAT_RELEASE, Reg.TIL_RX_STAT]; omega))

theorem setGau (k st : Nat) : (s.setGau k st).PwrShows p f v :=
  ((h.putOff hf (Nat.le_of_ble_eq_true rfl) (.inr (by simp only [Reg.GAU_S_STAT_STATE, Reg.GAU_S_STAT]; omega))).putOff hf (by decide)
    (by decide)).putOff hf (by decide) (by decide)

theorem tapStop (g : GauStreamCmd → Bool) (cause : Nat) : (s.tapStop g cause).PwrShows p f v := by
  refine h.each _ fun u k _ hu => ?_
  dsimp only
  split
  · exact hu
  · exact .ite (((hu.updGau _).each _ fun w j _ hw => hw.setGau hf j 2).putOff hf (by decide) (by decide)) hu

theorem showGated (n : Nat) (off : Bool) : (s.showGated n off).PwrShows p f v := by
  have hstate := (h.putOff hf (g := Reg.PWR_STAT_GATED) (x := putBit (s.get Reg.PWR_STAT_GATED) n off) (by decide) (by decide)).when
    (decide ((s.put Reg.PWR_STAT_GATED (putBit (s.get Reg.PWR_STAT_GATED) n off)).get Reg.PWR_STAT_STATE < 2))
    (run := fun s => s.put Reg.PWR_STAT_STATE (b2n (s.get Reg.PWR_STAT_GATED != 0))) fun hu => hu.putOff hf (by decide) (by decide)
  unfold State.showGated
  exact refreshPlan (.ite (hstate.tapStop hf _ _) (hstate.tapStart n)) hf

/-- A path that returns leaves the tiles' words. -/
theorem returnPath (q : Nat) : (s.returnPath q).PwrShows p f v := by
  have hrec : recordField f = false := recordField_between (by omega)
  have hshown : (((s.putBit64 Reg.BFM_REMOVED q false).showRemoved).pathBias q false).PwrShows p f v :=
    (((h.wr64 (by simp only [Reg.BFM_REMOVED]; omega)).putOff hf (by decide) (by decide)).updTx _).updTx _
  unfold State.returnPath
  exact (((hshown.updFlt _).updBeam _).reports (State.event_reports _ _ _ _) hrec).reports (State.event_reports _ _ _ _) hrec

theorem returnPaths (n : Nat) : (s.returnPaths n).PwrShows p f v := h.each _ fun _ q _ hu => hu.returnPath hf q

end

end State.PwrShows

end Sys2Proof.Machine
end

section
/-! The power transitions, one by one (R449 to R453). -/
namespace Sys2Proof.Machine
open Sys2Proof

/-! ## Commands of the tiles that settle -/

/-- The power state without its request and its commands. -/
def PwrState.settled (p : PwrState) : PwrState := { p with req := none, cmds := [] }

/-- The second state is the first but for records, the request, the commands of the tiles, and the word that shows them. -/
structure CmdOnly (s t : State) : Prop where
  pwr : t.pwr.settled = s.pwr.settled
  stored : s.stored → t.stored
  fields : s.stored → ∀ f, recordField f = false → f.reg ≠ Reg.PWR_STAT → t.get f = s.get f

namespace CmdOnly

theorem refl (s : State) : CmdOnly s s := ⟨rfl, id, fun _ _ _ _ => rfl⟩

theorem of_reports {s t : State} (h : Reports s t) : CmdOnly s t := ⟨congrArg PwrState.settled h.pwr, h.stored, fun hs f hf _ => h.fields hs f hf⟩

theorem trans {s t u : State} (h : CmdOnly s t) (h' : CmdOnly t u) : CmdOnly s u :=
  ⟨h'.pwr.trans h.pwr, fun hs => h'.stored (h.stored hs),
    fun hs f hf hout => (h'.fields (h.stored hs) f hf hout).trans (h.fields hs f hf hout)⟩

theorem ite {s t u : State} {c : Prop} [Decidable c] (h : CmdOnly s t) (h' : CmdOnly s u) : CmdOnly s (if c then t else u) := by
  split <;> assumption

section
variable {s t : State} (h : CmdOnly s t)
include h

theorem updPwr (x : PwrState) (hx : x.settled = t.pwr.settled := by rfl) : CmdOnly s { t with pwr := x } :=
  h.trans ⟨hx, id, fun _ _ _ _ => rfl⟩

theorem reqOver : CmdOnly s t.reqOver :=
  (h.updPwr _).trans ⟨congrArg PwrState.settled (State.put_pwr _ _ _), State.put_stored _ _,
    fun hs _ _ hout => State.get_put_other hs _ _ _ (by decide) (.inl hout.symm)⟩

theorem endTileCmd (k st : Nat) (l : List Nat) : CmdOnly s (t.endTileCmd k st l) := by
  unfold State.endTileCmd
  split
  · exact h
  · exact (CmdOnly.ite (reqOver (h.updPwr _)) (h.updPwr _)).trans (of_reports (State.completeR_reports _ _ _ _ _))

theorem settleCmd (k : Nat) : CmdOnly s (t.settleCmd k) := by
  unfold State.settleCmd
  split
  · exact h
  · exact .ite h (.ite (h.endTileCmd k _ _) (h.endTileCmd k _ _))

theorem tileDone (k n : Nat) (ok : Bool) : CmdOnly s (t.tileDone k n ok) := by
  unfold State.tileDone
  split
  · exact h
  · exact settleCmd (h.updPwr _) k

theorem tilesDone (l : List Nat) (n : Nat) (ok : Bool) : CmdOnly s (t.each l fun s k => s.tileDone k n ok) :=
  State.each_induct l _ h fun _ hu k _ => hu.tileDone k n ok

theorem tiles : t.pwr.tiles = s.pwr.tiles := by have e := congrArg PwrState.tiles h.pwr; exact e
theorem tileQ : t.pwr.tileQ = s.pwr.tileQ := by have e := congrArg PwrState.tileQ h.pwr; exact e
theorem queue : t.pwr.queue = s.pwr.queue := by have e := congrArg PwrState.queue h.pwr; exact e

end

end CmdOnly

/-! ## A tile at rest -/

/-- A tile has no transition, in a state its register shows, and no request waits. -/
structure State.TileRests (s : State) (n v : Nat) : Prop where
  shows : s.Shows (Reg.RCT_TILE_STATE_STATE n) v
  job : s.job n = none
  queued : s.queued n = none
  queue : s.pwr.queue = none

theorem tileState_block {n : Nat} (hn : n < 8) : 0x390000 ≤ (Reg.RCT_TILE_STATE_STATE n).reg ∧ (Reg.RCT_TILE_STATE_STATE n).reg < 0x391000 := by
  simp only [Reg.RCT_TILE_STATE_STATE, Reg.RCT_TILE_STATE]
  omega

theorem State.startQueued_none {s : State} (h : s.pwr.queue = none) : s.startQueued = s := by
  unfold State.startQueued
  rw [h]
  split
  next heq => exact nomatch heq
  next => rfl

section
variable {s t : State} {n v : Nat} (h : s.TileRests n v) (hn : n < 8)
include h

theorem State.TileRests.startQueued : s.startQueued.TileRests n v := by
  rw [State.startQueued_none h.queue]
  exact h

theorem State.TileRests.pwrShows {t : State} {w : Nat} (ht : t.PwrShows s.pwr (Reg.RCT_TILE_STATE_STATE n) w) : t.TileRests n w :=
  ⟨ht.shows, (congrArg (fun p : PwrState => p.tiles.get? n) ht.pwr).trans h.job,
    (congrArg (fun p : PwrState => p.tileQ.get? n) ht.pwr).trans h.queued, (congrArg PwrState.queue ht.pwr).trans h.queue⟩

include hn

theorem State.TileRests.reports (ht : Reports s t) : t.TileRests n v :=
  h.pwrShows ((State.PwrShows.mk h.shows rfl).reports ht (recordField_between (by have := tileState_block hn; omega)))

theorem State.TileRests.cmdOnly (ht : CmdOnly s t) : t.TileRests n v := by
  have hblock := tileState_block hn
  refine ⟨⟨ht.stored h.shows.stored, (ht.fields h.shows.stored _ (recordField_between (by omega)) (by simp only [Reg.PWR_STAT]; omega)).trans
    h.shows.value⟩, ?_, ?_, ht.queue.trans h.queue⟩
  · exact (congrArg (fun l => Tab.get? l n) ht.tiles).trans h.job
  · exact (congrArg (fun l => Tab.get? l n) ht.tileQ).trans h.queued

end

section
variable {s t : State} {n v : Nat}

theorem State.powerRecord_reports (s : State) (old new cause us : Nat) : Reports s (s.powerRecord old new cause us) := State.event_reports _ _ _ _

theorem State.TileRests.ite {c : Prop} [Decidable c] (h : s.TileRests n v) (h' : t.TileRests n v) : (if c then s else t).TileRests n v := by
  split <;> assumption

theorem State.TileRests.leaves (h : s.TileRests n v) : s.job n = none ∧ s.queued n = none ∧ s.tileState n = v :=
  ⟨h.job, h.queued, h.shows.value⟩

theorem State.TileRests.updBoot (h : s.TileRests n v) (x : BootState) : ({ s with boot := x } : State).TileRests n v :=
  ⟨h.shows.updBoot x, h.job, h.queued, h.queue⟩

theorem State.TileRests.released (h : s.TileRests n v) (hn : n < 8) (mask : Nat) :
    (({ s with pwr := { s.pwr with t3Mask := mask } } : State).showAuto n false).TileRests n v := by
  have hmask : ({ s with pwr := { s.pwr with t3Mask := mask } } : State).TileRests n v := ⟨h.shows.updPwr _, h.job, h.queued, h.queue⟩
  have hblock := tileState_block hn
  exact hmask.pwrShows ((State.PwrShows.mk hmask.shows rfl).put (by decide) (.inl (by simp only [Reg.PWR_STAT_AUTO, Reg.PWR_STAT]; omega)))

theorem State.TileRests.returnPaths (h : s.TileRests n v) (hn : n < 8) : (s.returnPaths n).TileRests n v :=
  h.pwrShows ((State.PwrShows.mk h.shows rfl).returnPaths (tileState_block hn) n)

theorem State.TileRests.whenEvent (h : s.TileRests n v) (hn : n < 8) (c : Bool) (src code : Nat) (args : State → List Nat) :
    (s.when c fun s => s.event src code (args s)).TileRests n v := .ite (h.reports hn (State.event_reports _ _ _ _)) h

/-- The records of a transition's end, and the commands it settles, leave the tile at rest. -/
theorem State.TileRests.told (h : s.TileRests n v) (hn : n < 8) (old new cause us : Nat) (c : Bool) (src code : Nat) (args : State → List Nat)
    (cmds : List Nat) (m : Nat) (ok : Bool) :
    ((((s.powerRecord old new cause us).when c fun s => s.event src code (args s)).each cmds fun s k => s.tileDone k m ok).startQueued).TileRests n v :=
  (((h.reports hn (s.powerRecord_reports _ _ _ _)).whenEvent hn _ _ _ _).cmdOnly hn ((CmdOnly.refl _).tilesDone cmds m ok)).startQueued

end

/-- A tile whose transition is over, with none queued, rests. -/
theorem State.tileRests_of_over {s : State} {n : Nat} (hs : s.stored) (hn : n < 8) (hqueue : s.pwr.queue = none) :
    ((s.setJob n none).setQueued n none).TileRests n (s.tileState n) := by
  have hblock := tileState_block hn
  have hphase : (Reg.PWR_TILE_PHASE_PHASE n).ok ∧ (Reg.PWR_TILE_PHASE_PHASE n).apart (Reg.RCT_TILE_STATE_STATE n) := by
    refine ⟨by simp only [Field.ok, Reg.PWR_TILE_PHASE_PHASE]; omega, .inl ?_⟩
    simp only [Reg.PWR_TILE_PHASE_PHASE, Reg.PWR_TILE_PHASE]
    omega
  have hjob : (s.setJob n none).Shows (Reg.RCT_TILE_STATE_STATE n) (s.tileState n) :=
    ((State.shows hs _).updPwr { s.pwr with tiles := s.pwr.tiles.del n }).put hphase
  have htiles : (s.setJob n none).pwr = { s.pwr with tiles := s.pwr.tiles.del n } := State.put_pwr _ _ _
  have hboth : ((s.setJob n none).setQueued n none).pwr =
      { s.pwr with tiles := s.pwr.tiles.del n, tileQ := s.pwr.tileQ.del n } := by
    refine (State.put_pwr _ _ _).trans ?_
    rw [htiles]
  refine ⟨(hjob.updPwr _).put hphase, ?_, ?_, ?_⟩
  · rw [State.job, hboth]
    exact Tab.get?_del _ _
  · rw [State.queued, hboth]
    exact Tab.get?_del _ _
  · rw [hboth]
    exact hqueue

/-- The strobes and biases of a tile's new state leave its word. -/
theorem State.PwrShows.tileStrobes {u : State} {p : PwrState} {f : Field} {v : Nat} (h : u.PwrShows p f v) (n new old : Nat) :
    (if new = 0 then (u.modStrobes n fun t => { Strobes.off with obsSel := t.obsSel }).tileBias n true
      else if new = 4 then u.modStrobes n fun t => ⟨false, true, true, 0, t.obsSel⟩
      else if old = 0 then (u.modStrobes n fun t => { Strobes.off with obsSel := t.obsSel }).tileBias n false
      else if old = 4 then u.modStrobes n fun t => { t with prot := false }
      else u).PwrShows p f v :=
  .ite ((h.modStrobes n _).tileBias n true) (.ite (h.modStrobes n _) (.ite ((h.modStrobes n _).tileBias n false) (.ite (h.modStrobes n _) h)))

/-- A tile's new state is shown, and the power state is as it was. -/
theorem State.setTileState_shows {s : State} (hs : s.stored) {n new : Nat} (hn : n < 8) (hnew : new < 8) (cause : Nat) :
    (s.setTileState n new cause).PwrShows s.pwr (Reg.RCT_TILE_STATE_STATE n) new := by
  have hf := tileState_block hn
  have hrec : recordField (Reg.RCT_TILE_STATE_STATE n) = false := recordField_between (by omega)
  have hput : (s.put (Reg.RCT_TILE_STATE_STATE n) new).PwrShows s.pwr (Reg.RCT_TILE_STATE_STATE n) new :=
    ⟨State.put_shows hs _ new (Nat.mod_eq_of_lt (show new < 2 ^ 3 from hnew)) (Nat.le_of_ble_eq_true rfl), State.put_pwr _ _ _⟩
  have hgated := fun c => hput.when c (run := fun s => s.showGated n (new == 0)) fun hu => hu.showGated hf n _
  unfold State.setTileState
  by_cases hsame : s.tileState n = new
  · exact (if_pos hsame).symm ▸ (⟨⟨hs, hsame⟩, rfl⟩ : s.PwrShows s.pwr (Reg.RCT_TILE_STATE_STATE n) new)
  · refine (if_neg hsame).symm ▸ ?_
    exact .ite (((hgated _).tileStrobes n new _).reports (State.event_reports _ _ _ _) hrec) ((hgated _).tileStrobes n new _)

/-! ## The commands -/

section
variable {s : State} (hs : s.stored) {tile : Nat} {j : TileJob} (htile : tile < 8) (hjob : s.job tile = some j)
  (hqueued : s.queued tile = none) (hqueue : s.pwr.queue = none)
include hs htile hjob hqueued hqueue

theorem State.exec_tileGated (hoff : j.on = false) :
    ∃ t, exec (.tileGated tile) s = .next t ∧ t.job tile = none ∧ t.queued tile = none ∧ t.tileState tile = s.tileState tile := by
  show ∃ t, execTileGated tile s = .next t ∧ _
  unfold execTileGated
  rw [hjob]
  dsimp only
  rw [if_neg (by rw [hoff]; exact Bool.false_ne_true), hqueued]
  have hover := State.tileRests_of_over hs htile hqueue
  exact ⟨_, rfl, (((hover.reports htile (State.powerRecord_reports _ _ _ _ _)).cmdOnly htile
    ((CmdOnly.refl _).tilesDone j.cmds tile true)).startQueued).leaves⟩

theorem State.exec_tileUngated (hon : j.on = true) (hfailed : bit s.boot.failed tile = false) :
    ∃ t, exec (.tileUngated tile) s = .next t ∧ t.job tile = none ∧ t.tileState tile = 1 := by
  have hover := State.tileRests_of_over hs htile hqueue
  have hstarted := (hover.pwrShows (State.setTileState_shows hover.shows.stored htile (new := 1) (by decide) (startCause j.cause))).returnPaths htile
  have hfull := fun c x => State.TileRests.ite (c := c = true) (hstarted.updBoot x) hstarted
  have hfree := fun c x c' m => State.TileRests.ite (c := c' = true) (hfull c x) ((hfull c x).released htile m)
  have hrun : ∀ full, (s.tileStarted tile j full).TileRests tile 1 := fun full => by
    unfold State.tileStarted
    rw [hqueued]
    exact (hfree full _ _ _).told htile _ _ _ _ _ _ _ (fun s => [tile, 1] ++ bytesLE 2 (min (usBetween j.at_ s.now / 1000) 65535)) _ _ _
  show ∃ t, execTileUngated tile s = .next t ∧ _
  unfold execTileUngated
  rw [hjob]
  dsimp only
  rw [if_neg (by rw [hon, hfailed]; exact Bool.false_ne_true)]
  exact ⟨_, rfl, (hrun _).job, (hrun _).shows.value⟩

end

end Sys2Proof.Machine
end

section
/-! Sleep, waking, and the requests of power states (R449 to R453). -/
namespace Sys2Proof.Machine
open Sys2Proof

/-- The words of the power state and of the wake are apart from the blocks above. -/
theorem pwrWord_offLine : Reg.PWR_STAT_STATE.offLine ∧ Reg.PWR_STAT_BUSY.offLine ∧ Reg.PWR_WAKE_WAKE.offLine :=
  ⟨⟨by decide, by decide, by decide⟩, ⟨by decide, by decide, by decide⟩, ⟨by decide, by decide, by decide⟩⟩

/-- The stop of the synthesisers, in the words apart from theirs. -/
theorem State.PwrShows.synthOff {s : State} {p : PwrState} {f : Field} {v : Nat} (h : s.PwrShows p f v) (hf : f.reg < 0x020000) :
    s.synthOff.PwrShows p f v := by
  have hclear : ∀ x y, ({ s with rct := x, rx := y } : State).PwrShows p f v := fun _ _ => ⟨⟨h.shows.stored, h.shows.value⟩, h.pwr⟩
  have hput : ∀ {u : State} {g : Field} {x : Nat}, u.PwrShows p f v → g.ok → 0x020000 ≤ g.reg → (u.put g x).PwrShows p f v :=
    fun hu hok hreg => hu.put hok (.inl (by omega))
  unfold State.synthOff
  exact hput (hput (hput (hput (hput (hclear _ _) (by decide) (by decide)) (by decide) (by decide)) (by decide) (by decide)) (by decide)
    (by decide)) (by decide) (by decide)

theorem State.synthOff_shows {s : State} (hs : s.stored) : s.synthOff.Shows Reg.CLK_SYN_STAT_SYNTH_OK 0 := by
  have hclear : ∀ x y, ({ s with rct := x, rx := y } : State).stored := fun _ _ => hs
  unfold State.synthOff
  exact (((State.put_shows (hclear _ _) Reg.CLK_SYN_STAT_SYNTH_OK 0).put.put).put).put

/-- The stop of the domains stops the synthesisers, and leaves the power state and its word. -/
theorem State.stopDomains_leaves {s : State} {p : PwrState} {v : Nat} (h : s.PwrShows p Reg.PWR_STAT_STATE v) :
    s.stopDomains.PwrShows p Reg.PWR_STAT_STATE v ∧ s.stopDomains.Shows Reg.CLK_SYN_STAT_SYNTH_OK 0 := by
  have hdown : LineOnly s (s.each (List.range 8) State.enterDown).culRefresh :=
    ((LineOnly.refl s).each _ _ fun u n hn => (LineOnly.refl u).enterDown (List.mem_range.1 hn)).culRefresh
  have hslept := (h.lineOnly hdown pwrWord_offLine.1).hkaSleep (by decide) (by decide)
  unfold State.stopDomains
  generalize (s.each (List.range 8) State.enterDown).culRefresh.hkaSleep = u at hslept
  have hoff := hslept.synthOff (by decide)
  have hsynth := State.synthOff_shows hslept.shows.stored
  have hclock := LineOnly.of_timeOnly (State.clockTo_timeOnly (.refl u.synthOff) 3)
  exact ⟨.ite (hoff.lineOnly hclock pwrWord_offLine.1) hoff, .ite (hclock.shows hsynth ⟨by decide, by decide, by decide⟩) hsynth⟩

theorem State.exec_dormantEntryDone {s : State} {q : PwrReq} (hreq : s.pwr.req = some q) (htarget : q.target = 3) :
    ∃ t, exec .dormantEntryDone s = .next t ∧ t.pwr.sentinel = ⟨q.sources, q.timer, 0, false, false⟩ ∧ t.pwr.req = none ∧
      t.boot.epochHeld = none := by
  have hdone : ∀ l, (s.dropUpdate.reqOver.completeR q.hdr 0x10 St.done l).pwr.req = none := fun l =>
    (congrArg PwrState.req ((State.completeR_reports _ _ _ _ _).pwr.trans (State.put_pwr _ _ _)))
  have hrun : ∃ us, exec .dormantEntryDone s =
      .next (let u := s.dropUpdate.reqOver.completeR q.hdr 0x10 St.done (bytesLE 4 us)
        { u with
          pwr := { u.pwr with sentinel := ⟨q.sources, q.timer, 0, false, false⟩ }
          flt := { u.flt with logHeld := [] }
          boot := { u.boot with epochHeld := none, muteHeld := false } }) := by
    show ∃ us, execDormantEntryDone s = _
    unfold execDormantEntryDone
    rw [hreq]
    dsimp only
    rw [if_neg (fun hne => hne htarget)]
    exact ⟨_, rfl⟩
  obtain ⟨us, hrun⟩ := hrun
  have hreq' := hdone (bytesLE 4 us)
  generalize s.dropUpdate.reqOver.completeR q.hdr 0x10 St.done (bytesLE 4 us) = u at hrun hreq'
  exact ⟨_, hrun, rfl, hreq', rfl⟩

section
variable {s : State} (hs : s.stored)
include hs

theorem State.exec_polderEntryDone {q : PwrReq} (hreq : s.pwr.req = some q) (htarget : q.target = 2) (hqueue : s.pwr.queue = none) :
    ∃ t, exec .polderEntryDone s = .next t ∧ t.get Reg.PWR_STAT_STATE = 2 ∧ t.pwr.req = none ∧ t.get Reg.CLK_SYN_STAT_SYNTH_OK = 0 := by
  have hover : ∀ old us, (((s.reqOver.completeR q.hdr 0x10 St.done (bytesLE 4 us)).powerRecord old 2 0 us).put
      Reg.PWR_STAT_STATE 2).PwrShows { s.pwr with req := none } Reg.PWR_STAT_STATE 2 := fun old us => by
    have hdone := State.completeR_reports s.reqOver q.hdr 0x10 St.done (bytesLE 4 us)
    have htold := hdone.trans (State.powerRecord_reports _ old 2 0 us)
    have hstored : s.reqOver.stored := State.put_stored (s := ({ s with pwr := { s.pwr with req := none } } : State)) _ _ hs
    exact ⟨State.put_shows (htold.stored hstored) Reg.PWR_STAT_STATE 2, (State.put_pwr _ _ _).trans (htold.pwr.trans (State.put_pwr _ _ _))⟩
  have hlast : ∀ {u : State}, u.PwrShows { s.pwr with req := none } Reg.PWR_STAT_STATE 2 →
      (if u.stopDomains.pwr.queue.isSome then u.stopDomains.beginExit 5 else u.stopDomains).get Reg.PWR_STAT_STATE = 2 ∧
      (if u.stopDomains.pwr.queue.isSome then u.stopDomains.beginExit 5 else u.stopDomains).pwr.req = none ∧
      (if u.stopDomains.pwr.queue.isSome then u.stopDomains.beginExit 5 else u.stopDomains).get Reg.CLK_SYN_STAT_SYNTH_OK = 0 := fun hu => by
    obtain ⟨hstate, hsynth⟩ := State.stopDomains_leaves hu
    rw [if_neg (by rw [hstate.pwr]; simp [hqueue])]
    exact ⟨hstate.shows.value, congrArg PwrState.req hstate.pwr, hsynth.value⟩
  show ∃ t, execPolderEntryDone s = .next t ∧ _
  unfold execPolderEntryDone
  rw [hreq]
  dsimp only
  rw [if_neg (fun hne => hne htarget)]
  exact ⟨_, rfl, hlast (hover _ _)⟩

theorem State.exec_polderExit {since cause : Nat} (hexit : s.pwr.exit = some (since, cause)) (hqueue : s.pwr.queue = none) :
    ∃ t, exec .polderExit s = .next t ∧ t.pwr.exit = none ∧
      t.get Reg.PWR_STAT_STATE = (if s.get Reg.PWR_STAT_GATED = 0 then 0 else 1) ∧ t.get Reg.PWR_STAT_BUSY = 0 ∧
      t.get Reg.PWR_WAKE_WAKE = 0 := by
  have hgated : (if s.get Reg.PWR_STAT_GATED = 0 then 0 else 1) = b2n (s.get Reg.PWR_STAT_GATED != 0) := by
    by_cases hzero : s.get Reg.PWR_STAT_GATED = 0 <;> simp [hzero, b2n]
  have hwoken : ∀ {f : Field} {v : Nat}, recordField f = false → f.reg < 0x020000 →
      ∀ {u : State}, u.PwrShows { s.pwr with exit := none } f v → ∀ o n us,
      (State.each (u.powerRecord o n 0 us).startReference
        ((List.range 32).filter fun c => (u.powerRecord o n 0 us).startReference.sluState c == 3) fun s c =>
        ((s.put (Reg.SLU_CH_STAT_POLLS c) 64).modSlu c fun q => { q with pollAt := s.now }).sluTo c 2).PwrShows
        { s.pwr with exit := none } f v := fun hrec hlow u hu o n us =>
    ((hu.reports (u.powerRecord_reports _ _ _ _) hrec).startReference hrec (by omega) (by simp only [Reg.CLK_SYN_STAT]; omega)).each _
      fun w c _ hw => hw.sluWoken hrec (by omega) c 64 w.now
  have hleft : ({ s with pwr := { s.pwr with exit := none } } : State).stored := hs
  have hput : ∀ x, (({ s with pwr := { s.pwr with exit := none } } : State).put Reg.PWR_STAT_STATE x).pwr = { s.pwr with exit := none } :=
    fun x => State.put_pwr _ _ _
  have hstate : ((((({ s with pwr := { s.pwr with exit := none } } : State).put Reg.PWR_STAT_STATE (b2n (s.get Reg.PWR_STAT_GATED != 0))).put
      Reg.PWR_STAT_BUSY 0).put Reg.PWR_WAKE_WAKE 0).put Reg.PWR_WAKE_CAUSE cause).PwrShows { s.pwr with exit := none } Reg.PWR_STAT_STATE
      (b2n (s.get Reg.PWR_STAT_GATED != 0)) :=
    (((State.PwrShows.mk (State.put_shows hleft Reg.PWR_STAT_STATE (b2n (s.get Reg.PWR_STAT_GATED != 0)) (Nat.mod_eq_of_lt (by
      cases s.get Reg.PWR_STAT_GATED != 0 <;> decide))) (hput _)).put (by decide) (by decide)).put (by decide) (by decide)).put (by decide) (by decide)
  have hbusy : ((((({ s with pwr := { s.pwr with exit := none } } : State).put Reg.PWR_STAT_STATE (b2n (s.get Reg.PWR_STAT_GATED != 0))).put
      Reg.PWR_STAT_BUSY 0).put Reg.PWR_WAKE_WAKE 0).put Reg.PWR_WAKE_CAUSE cause).PwrShows { s.pwr with exit := none } Reg.PWR_STAT_BUSY 0 :=
    ((State.PwrShows.mk (State.put_shows (State.put_stored _ _ hleft) Reg.PWR_STAT_BUSY 0) ((State.put_pwr _ _ _).trans (hput _))).put
      (by decide) (by decide)).put (by decide) (by decide)
  have hwake : ((((({ s with pwr := { s.pwr with exit := none } } : State).put Reg.PWR_STAT_STATE (b2n (s.get Reg.PWR_STAT_GATED != 0))).put
      Reg.PWR_STAT_BUSY 0).put Reg.PWR_WAKE_WAKE 0).put Reg.PWR_WAKE_CAUSE cause).PwrShows { s.pwr with exit := none } Reg.PWR_WAKE_WAKE 0 :=
    (State.PwrShows.mk (State.put_shows (State.put_stored _ _ (State.put_stored _ _ hleft)) Reg.PWR_WAKE_WAKE 0)
      ((State.put_pwr _ _ _).trans ((State.put_pwr _ _ _).trans (hput _)))).put (by decide) (by decide)
  show ∃ t, execPolderExit s = .next t ∧ _
  unfold execPolderExit
  rw [hexit, hgated]
  refine ⟨_, rfl, ?_⟩
  dsimp only
  split
  next q heq =>
    rw [(hwoken (by decide) (by decide) hstate _ _ _).pwr] at heq
    exact absurd (heq.symm.trans hqueue) (Option.some_ne_none q)
  next =>
    exact ⟨congrArg PwrState.exit (hwoken (by decide) (by decide) hstate _ _ _).pwr, (hwoken (by decide) (by decide) hstate _ _ _).shows.value,
      (hwoken (by decide) (by decide) hbusy _ _ _).shows.value, (hwoken (by decide) (by decide) hwake _ _ _).shows.value⟩

end

/-- Settles O54: requests, transitions of tiles, sleep and waking (log 106 has the rows of transitions taken at any time, log 111
`SYNTH_OK` low once POLDER is entered). -/
theorem powerTransitionsEnd : Obligations.PowerTransitionsEnd := by
  intro s hs
  refine ⟨fun h target mask sources timer g hfields => ⟨fun htarget hreq hexit hstate hrefusal => ?_, fun htarget hreq hexit hstate => ?_,
      fun htarget => ?_⟩,
    fun tile j htile hjob hoff hqueued hqueue => State.exec_tileGated hs htile hjob hqueued hqueue hoff,
    fun tile j htile hjob hon hfailed hqueued hqueue => State.exec_tileUngated hs htile hjob hqueued hqueue hon hfailed,
    fun hstate hexit => ?_, fun rq hw hstate hexit => ?_, fun q hreq htarget _ hqueue => State.exec_polderEntryDone hs hreq htarget hqueue,
    fun since cause hexit hqueue => State.exec_polderExit hs hexit hqueue,
    fun q hreq htarget _ => State.exec_dormantEntryDone hreq htarget, fun source i hsource hlow hbit => ?_⟩
  · have hrun : exec (.pwrState h target mask sources timer) s = .next (s.startPolder ⟨h, target, mask, sources, timer, s.now⟩) := by
      show Host.Outcome.next (s.acceptNow h 0x10 (pwrStateFail target mask sources timer) _) = _
      rw [hfields, g.acceptNow]
      dsimp only
      rw [if_neg (by omega), if_pos (by rw [hreq, hexit]; simp [hstate]), if_pos htarget]
    rw [hrun, State.startPolder, hrefusal]
  · show Host.Outcome.next (s.acceptNow h 0x10 (pwrStateFail target mask sources timer) _) = _
    rw [hfields, g.acceptNow]
    dsimp only
    rw [if_neg (by omega), if_pos (by rw [hreq, hexit]; simp [hstate]), if_neg (by omega)]
  · show Host.Outcome.next (s.acceptNow h 0x10 (pwrStateFail target mask sources timer) _) = _
    rw [hfields, g.acceptNow]
    exact congrArg Host.Outcome.next (if_pos htarget)
  · show Host.Outcome.next (s.beginExit 1) = _
    rw [State.beginExit, if_neg (fun hne => hne hstate), hexit]
  · have hrun : exec (.wake rq) s = .next ((s.beginExit 2).setF Reg.PWR_WAKE_WAKE) :=
      congrArg Host.Outcome.next ((if_pos hw).trans (if_pos hstate))
    rw [hrun, State.beginExit, if_neg (fun hne => hne hstate), hexit]
  · show execSentinelWake source s = _
    unfold execSentinelWake
    have hcases : source = 1 ∧ i = 0 ∨ source = 3 ∧ i = 1 ∨ source = 4 ∧ i = 2 := by simpa using hsource
    have hsel : (if source = 1 then 0 else if source = 3 then 1 else 2) = i := by
      rcases hcases with ⟨rfl, rfl⟩ | ⟨rfl, rfl⟩ | ⟨rfl, rfl⟩ <;> rfl
    dsimp only
    rw [hsel, hlow, hbit]
    refine congrArg Host.Outcome.next (if_neg ?_)
    rw [decide_eq_true (by omega : source = 1 ∨ source = 3 ∨ source = 4)]
    decide

end Sys2Proof.Machine
end

section
/-! The parts of a state that an operation may change, followed through what the operation is made of. -/
namespace Sys2Proof.Machine
open Sys2Proof

/-! ## What lies within a list of parts -/

/-- The second state is the first but for records and the parts listed. The rings in host memory are where the registers say, so that host
memory is compared only where the registers are. -/
structure Within (ps : List Part) (s t : State) : Prop where
  stored : s.stored → t.stored
  regs : s.stored → .regs ∉ ps → Part.regs.same s t
  mem : s.stored → .mem ∉ ps → .regs ∉ ps → Part.mem.same s t
  clock : .clock ∉ ps → Part.clock.same s t
  free : .free ∉ ps → Part.free.same s t
  devMem : .devMem ∉ ps → Part.devMem.same s t
  host : .host ∉ ps → Part.host.same s t
  arch : .arch ∉ ps → Part.arch.same s t
  tx : .tx ∉ ps → Part.tx.same s t
  rx : .rx ∉ ps → Part.rx.same s t
  beam : .beam ∉ ps → Part.beam.same s t
  levee : .levee ∉ ps → Part.levee.same s t
  rct : .rct ∉ ps → Part.rct.same s t
  fh : .fh ∉ ps → Part.fh.same s t
  line : .line ∉ ps → Part.line.same s t
  cul : .cul ∉ ps → Part.cul.same s t
  tim : .tim ∉ ps → Part.tim.same s t
  eng : .eng ∉ ps → Part.eng.same s t
  slu : .slu ∉ ps → Part.slu.same s t
  sea : .sea ∉ ps → Part.sea.same s t
  boot : .boot ∉ ps → Part.boot.same s t
  pwr : .pwr ∉ ps → Part.pwr.same s t
  hka : .hka ∉ ps → Part.hka.same s t
  gau : .gau ∉ ps → Part.gau.same s t
  flt : .flt ∉ ps → Part.flt.same s t
  pkg : .pkg ∉ ps → Part.pkg.same s t

/-- The rings of records stand where the registers say. -/
theorem State.inRecordRing_of_regs {s t : State} (hs : s.stored) (ht : t.stored) (h : Part.regs.same s t) (a : Nat) :
    t.inRecordRing a = s.inRecordRing a := by
  have hregs : Reports s { s with regs := t.regs } := ⟨rfl, fun _ => ⟨ht.1, hs.2⟩, fun _ => h, fun _ _ _ => rfl⟩
  exact hregs.inRecordRing hs a

namespace Within

theorem refl {ps : List Part} (s : State) : Within ps s s where
  stored := id
  regs _ _ _ _ := rfl
  mem _ _ _ _ _ := rfl
  clock _ := ⟨rfl, rfl⟩
  free _ := rfl
  devMem _ := rfl
  host _ := rfl
  arch _ := rfl
  tx _ := rfl
  rx _ := rfl
  beam _ := rfl
  levee _ := rfl
  rct _ := rfl
  fh _ := rfl
  line _ := rfl
  cul _ := rfl
  tim _ := rfl
  eng _ := rfl
  slu _ := rfl
  sea _ := rfl
  boot _ := rfl
  pwr _ := rfl
  hka _ := rfl
  gau _ := rfl
  flt _ := rfl
  pkg _ := rfl

theorem trans {ps : List Part} {s t u : State} (h : Within ps s t) (h' : Within ps t u) : Within ps s u where
  stored hs := h'.stored (h.stored hs)
  regs hs hp f hf := (h'.regs (h.stored hs) hp f hf).trans (h.regs hs hp f hf)
  mem hs hmem hregs a ha :=
    (h'.mem (h.stored hs) hmem hregs a ((State.inRecordRing_of_regs hs (h.stored hs) (h.regs hs hregs) a).trans ha)).trans
      (h.mem hs hmem hregs a ha)
  clock hp := ⟨(h'.clock hp).1.trans (h.clock hp).1, (h'.clock hp).2.trans (h.clock hp).2⟩
  free hp := Eq.trans (h'.free hp) (h.free hp)
  devMem hp := Eq.trans (h'.devMem hp) (h.devMem hp)
  host hp := Eq.trans (h'.host hp) (h.host hp)
  arch hp := Eq.trans (h'.arch hp) (h.arch hp)
  tx hp := Eq.trans (h'.tx hp) (h.tx hp)
  rx hp := Eq.trans (h'.rx hp) (h.rx hp)
  beam hp := Eq.trans (h'.beam hp) (h.beam hp)
  levee hp := Eq.trans (h'.levee hp) (h.levee hp)
  rct hp := Eq.trans (h'.rct hp) (h.rct hp)
  fh hp := Eq.trans (h'.fh hp) (h.fh hp)
  line hp := Eq.trans (h'.line hp) (h.line hp)
  cul hp := Eq.trans (h'.cul hp) (h.cul hp)
  tim hp := Eq.trans (h'.tim hp) (h.tim hp)
  eng hp := Eq.trans (h'.eng hp) (h.eng hp)
  slu hp := Eq.trans (h'.slu hp) (h.slu hp)
  sea hp := Eq.trans (h'.sea hp) (h.sea hp)
  boot hp := Eq.trans (h'.boot hp) (h.boot hp)
  pwr hp := Eq.trans (h'.pwr hp) (h.pwr hp)
  hka hp := Eq.trans (h'.hka hp) (h.hka hp)
  gau hp := Eq.trans (h'.gau hp) (h.gau hp)
  flt hp := Eq.trans (h'.flt hp) (h.flt hp)
  pkg hp := Eq.trans (h'.pkg hp) (h.pkg hp)

theorem mono {ps qs : List Part} {s t : State} (h : Within qs s t) (hsub : ∀ p ∈ qs, p ∈ ps) : Within ps s t where
  stored := h.stored
  regs hs hp := h.regs hs (mt (hsub _) hp)
  mem hs hmem hregs := h.mem hs (mt (hsub _) hmem) (mt (hsub _) hregs)
  clock hp := h.clock (mt (hsub _) hp)
  free hp := h.free (mt (hsub _) hp)
  devMem hp := h.devMem (mt (hsub _) hp)
  host hp := h.host (mt (hsub _) hp)
  arch hp := h.arch (mt (hsub _) hp)
  tx hp := h.tx (mt (hsub _) hp)
  rx hp := h.rx (mt (hsub _) hp)
  beam hp := h.beam (mt (hsub _) hp)
  levee hp := h.levee (mt (hsub _) hp)
  rct hp := h.rct (mt (hsub _) hp)
  fh hp := h.fh (mt (hsub _) hp)
  line hp := h.line (mt (hsub _) hp)
  cul hp := h.cul (mt (hsub _) hp)
  tim hp := h.tim (mt (hsub _) hp)
  eng hp := h.eng (mt (hsub _) hp)
  slu hp := h.slu (mt (hsub _) hp)
  sea hp := h.sea (mt (hsub _) hp)
  boot hp := h.boot (mt (hsub _) hp)
  pwr hp := h.pwr (mt (hsub _) hp)
  hka hp := h.hka (mt (hsub _) hp)
  gau hp := h.gau (mt (hsub _) hp)
  flt hp := h.flt (mt (hsub _) hp)
  pkg hp := h.pkg (mt (hsub _) hp)

/-- An operation with its own list of parts, after what stays within a longer one: that the one lists only parts of the other computes. -/
theorem step {ps qs : List Part} {a s t : State} (hsub : qs.all ps.contains = true) (hstep : Within qs s t) (h : Within ps a s) :
    Within ps a t :=
  h.trans (hstep.mono fun _ hp => List.contains_iff_mem.1 (List.all_eq_true.1 hsub _ hp))

/-- A part that is not listed is the same. -/
theorem same {ps : List Part} {s t : State} (h : Within ps s t) (hps : .regs ∈ ps → .mem ∈ ps) (hs : s.stored) {p : Part}
    (hp : p ∉ ps) : p.same s t := by
  cases p with
  | regs => exact h.regs hs hp
  | mem => exact h.mem hs hp (mt hps hp)
  | clock => exact h.clock hp
  | free => exact h.free hp
  | devMem => exact h.devMem hp
  | host => exact h.host hp
  | arch => exact h.arch hp
  | tx => exact h.tx hp
  | rx => exact h.rx hp
  | beam => exact h.beam hp
  | levee => exact h.levee hp
  | rct => exact h.rct hp
  | fh => exact h.fh hp
  | line => exact h.line hp
  | cul => exact h.cul hp
  | tim => exact h.tim hp
  | eng => exact h.eng hp
  | slu => exact h.slu hp
  | sea => exact h.sea hp
  | boot => exact h.boot hp
  | pwr => exact h.pwr hp
  | hka => exact h.hka hp
  | gau => exact h.gau hp
  | flt => exact h.flt hp
  | pkg => exact h.pkg hp

theorem of_reports {ps : List Part} {s t : State} (h : Reports s t) : Within ps s t := by
  have e : ∀ {β : Type} (g : State → β), g t.work = g s.work := fun g => congrArg g h.work
  exact {
    stored := h.stored
    regs := fun hs _ => h.fields hs
    mem := fun hs _ _ => h.mem hs
    clock := fun _ => ⟨e State.now, e State.frac⟩
    free := fun _ => e State.free
    devMem := fun _ => e State.devMem
    host := fun _ => e State.host
    arch := fun _ => e State.arch
    tx := fun _ => e State.tx
    rx := fun _ => e State.rx
    beam := fun _ => e State.beam
    levee := fun _ => e State.levee
    rct := fun _ => e State.rct
    fh := fun _ => e State.fh
    line := fun _ => e State.line
    cul := fun _ => e State.cul
    tim := fun _ => e State.tim
    eng := fun _ => e State.eng
    slu := fun _ => e State.slu
    sea := fun _ => e State.sea
    boot := fun _ => e State.boot
    pwr := fun _ => e State.pwr
    hka := fun _ => e State.hka
    gau := fun _ => e State.gau
    flt := fun _ => e State.flt
    pkg := fun _ => e State.pkg }

/-! ## What writes one part -/

section
variable {s : State}

theorem wr {off v : Nat} : Within [.regs] s (s.wr off v) :=
  { refl s with stored := State.wr_stored _ _, regs := fun _ hn => absurd (.head _) hn, mem := fun _ _ hn => absurd (.head _) hn }

theorem put {f : Field} {v : Nat} : Within [.regs] s (s.put f v) := wr

theorem setF {f : Field} : Within [.regs] s (s.setF f) := wr

theorem satAdd {f : Field} {v : Nat} : Within [.regs] s (s.satAdd f v) := wr

theorem wr64 {off v : Nat} : Within [.regs] s (s.wr64 off v) := wr.trans wr

theorem add64 {off v : Nat} : Within [.regs] s (s.add64 off v) := wr64

theorem hostWrite {addr : Nat} {l : List Nat} : Within [.mem] s (s.hostWrite addr l) :=
  { refl s with stored := State.hostWrite_stored _ _, mem := fun _ hn => absurd (.head _) hn }

theorem devWrite {addr : Nat} {l : List Nat} : Within [.devMem] s (s.devWrite addr l) :=
  { refl s with stored := State.devWrite_stored _ _, devMem := fun hn => absurd (.head _) hn }

theorem updClock {x y : Nat} : Within [.clock] s { s with now := x, frac := y } :=
  { refl s with clock := fun hn => absurd (.head _) hn }

theorem updFree {x : Nat} : Within [.free] s { s with free := x } := { refl s with free := fun hn => absurd (.head _) hn }

theorem updHost {x : HostState} : Within [.host] s { s with host := x } := { refl s with host := fun hn => absurd (.head _) hn }

theorem updArch {x : ArchState} : Within [.arch] s { s with arch := x } := { refl s with arch := fun hn => absurd (.head _) hn }

theorem updTx {x : TxState} : Within [.tx] s { s with tx := x } := { refl s with tx := fun hn => absurd (.head _) hn }

theorem updRx {x : RxState} : Within [.rx] s { s with rx := x } := { refl s with rx := fun hn => absurd (.head _) hn }

theorem updBeam {x : BeamState} : Within [.beam] s { s with beam := x } := { refl s with beam := fun hn => absurd (.head _) hn }

theorem updLevee {x : LeveeState} : Within [.levee] s { s with levee := x } := { refl s with levee := fun hn => absurd (.head _) hn }

theorem updRct {x : RadioState} : Within [.rct] s { s with rct := x } := { refl s with rct := fun hn => absurd (.head _) hn }

theorem updFh {x : FhState} : Within [.fh] s { s with fh := x } := { refl s with fh := fun hn => absurd (.head _) hn }

theorem updLine {x : LineState} : Within [.line] s { s with line := x } := { refl s with line := fun hn => absurd (.head _) hn }

theorem updCul {x : CulvertState} : Within [.cul] s { s with cul := x } := { refl s with cul := fun hn => absurd (.head _) hn }

theorem updTim {x : TimeState} : Within [.tim] s { s with tim := x } := { refl s with tim := fun hn => absurd (.head _) hn }

theorem updEng {x : EngState} : Within [.eng] s { s with eng := x } := { refl s with eng := fun hn => absurd (.head _) hn }

theorem updSlu {x : SluState} : Within [.slu] s { s with slu := x } := { refl s with slu := fun hn => absurd (.head _) hn }

theorem updSea {x : SeaState} : Within [.sea] s { s with sea := x } := { refl s with sea := fun hn => absurd (.head _) hn }

theorem updBoot {x : BootState} : Within [.boot] s { s with boot := x } := { refl s with boot := fun hn => absurd (.head _) hn }

theorem updPwr {x : PwrState} : Within [.pwr] s { s with pwr := x } := { refl s with pwr := fun hn => absurd (.head _) hn }

theorem updHka {x : HkaState} : Within [.hka] s { s with hka := x } := { refl s with hka := fun hn => absurd (.head _) hn }

theorem updGau {x : GauState} : Within [.gau] s { s with gau := x } := { refl s with gau := fun hn => absurd (.head _) hn }

theorem updFlt {x : FltState} : Within [.flt] s { s with flt := x } := { refl s with flt := fun hn => absurd (.head _) hn }

theorem updPkg {x : PkgState} : Within [.pkg] s { s with pkg := x } := { refl s with pkg := fun hn => absurd (.head _) hn }

/-! Several parts at once. -/

theorem updRxRct {x : RxState} {y : RadioState} : Within [.rx, .rct] s { s with rx := x, rct := y } :=
  step rfl updRct (step rfl (updRx (x := x)) (refl s))

theorem updTxRx {x : TxState} {y : RxState} : Within [.tx, .rx] s { s with tx := x, rx := y } :=
  step rfl updRx (step rfl (updTx (x := x)) (refl s))

theorem updSeaBoot {x : SeaState} {y : BootState} : Within [.sea, .boot] s { s with sea := x, boot := y } :=
  step rfl updBoot (step rfl (updSea (x := x)) (refl s))

theorem updFreeTx {x : Nat} {y : TxState} : Within [.free, .tx] s { s with free := x, tx := y } :=
  step rfl updTx (step rfl (updFree (x := x)) (refl s))

theorem updFreeTxRx {x : Nat} {y : TxState} {z : RxState} : Within [.free, .tx, .rx] s { s with free := x, tx := y, rx := z } :=
  step rfl updRx (step rfl (updTx (x := y)) (step rfl (updFree (x := x)) (refl s)))

theorem updBootPwrFlt {x : BootState} {y : PwrState} {z : FltState} : Within [.boot, .pwr, .flt] s
    { s with boot := x, pwr := y, flt := z } :=
  step rfl updFlt (step rfl (updPwr (x := y)) (step rfl (updBoot (x := x)) (refl s)))

end

/-! ## What is made of them -/

section
variable {ps : List Part} {a s t : State}

theorem ite {c : Prop} [Decidable c] (h : Within ps a s) (h' : Within ps a t) : Within ps a (if c then s else t) := by
  split <;> assumption

/-- What follows a state used more than once. -/
theorem dup (hf : Within ps a s → Within ps a t) (h : Within ps a s) : Within ps a t := hf h

variable (h : Within ps a s)
include h

theorem each {α : Type} {l : List α} {f : State → α → State} (hf : ∀ u x, Within ps a u → Within ps a (f u x)) :
    Within ps a (s.each l f) := State.each_induct l f h fun u hu x _ => hf u x hu

theorem foldl {α : Type} {l : List α} {f : State → α → State} (hf : ∀ u x, Within ps a u → Within ps a (f u x)) :
    Within ps a (l.foldl f s) := h.each hf

theorem when {c : Bool} {f : State → State} (hf : ∀ u, Within ps a u → Within ps a (f u)) : Within ps a (s.when c f) := ite (hf s h) h

/-! A state that comes with a value. -/

theorem fst {α : Type} {x : α} : Within ps a (s, x).1 := h

theorem snd {α : Type} {x : α} : Within ps a (x, s).2 := h

/-! Records. -/

theorem event {src code : Nat} {args : List Nat} : Within ps a (s.event src code args) :=
  h.trans (.of_reports (State.event_reports _ _ _ _))

theorem eventAt {time src code : Nat} {args : List Nat} : Within ps a (s.eventAt time src code args) :=
  h.trans (.of_reports (State.eventAt_reports _ _ _ _ _))

theorem complete {hdr : Hdr} {op status : Nat} : Within ps a (s.complete hdr op status) :=
  h.trans (.of_reports (State.complete_reports _ _ _ _))

theorem completeR {hdr : Hdr} {op status : Nat} {l : List Nat} : Within ps a (s.completeR hdr op status l) :=
  h.trans (.of_reports (State.completeR_reports _ _ _ _ _))

theorem completeX {hdr : Hdr} {op status reason : Nat} {l : List Nat} {b : Bool} : Within ps a (s.completeX hdr op status reason l b) :=
  h.trans (.of_reports (State.completeX_reports _ _ _ _ _ _ _))

theorem modRing {r : Nat} {f : RingState → RingState} : Within ps a (s.modRing r f) := h.trans (.of_reports (State.modRing_reports _ _ _))

/-! The stores of records the host interface keeps. -/

theorem heldDropped {x : Nat} : Within ps a { s with host := { s.host with heldDropped := x } } :=
  h.trans (.of_reports ⟨rfl, id, fun _ _ _ => rfl, fun _ _ _ => rfl⟩)

theorem heldEvents {x : List (Nat × EventRec)} : Within ps a { s with host := { s.host with heldEvents := x } } :=
  h.trans (.of_reports ⟨rfl, id, fun _ _ _ => rfl, fun _ _ _ => rfl⟩)

theorem heldCompletions {x : List (Nat × Completion)} : Within ps a { s with host := { s.host with heldCompletions := x } } :=
  h.trans (.of_reports ⟨rfl, id, fun _ _ _ => rfl, fun _ _ _ => rfl⟩)

theorem after {o : Host.Outcome State Fault Refusal} (ho : ∀ t, o = .next t → Within ps s t) : Within ps a (s.after o) := by
  unfold State.after
  split
  · exact h.trans (ho _ rfl)
  · exact h

/-! The gates of commands. -/

theorem acceptNow {hdr : Hdr} {op : Nat} {fail : Option Nat} {run : State → State} (hrun : ∀ u, Within ps a u → Within ps a (run u)) :
    Within ps a (s.acceptNow hdr op fail run) := by
  unfold State.acceptNow
  split
  · exact h.complete
  · refine .ite h.complete ?_
    split
    · exact h.complete
    · exact hrun s h

theorem acceptTimedK {hdr : Hdr} {op : Nat} {fail : Option Nat} {keep : State → State}
    (hkeep : ∀ u, Within ps a u → Within ps a (keep u)) :
    Within ps a (s.acceptTimedK hdr op fail keep) := by
  unfold State.acceptTimedK
  split
  · exact h.complete
  · refine .ite h.complete ?_
    split
    · exact h.complete
    · exact .ite h.completeR (.ite h.complete (hkeep s h))

end

end Within

/-- The next state an outcome gives lies within a list of parts. -/
def OutWithin (ps : List Part) (s : State) (o : Host.Outcome State Fault Refusal) : Prop := ∀ t, o = .next t → Within ps s t

namespace OutWithin

variable {ps : List Part} {s : State}

theorem next {t : State} (h : Within ps s t) : OutWithin ps s (.next t) := by
  intro u hu
  cases hu
  exact h

theorem mono {qs : List Part} {o : Host.Outcome State Fault Refusal} (h : OutWithin qs s o)
    (hsub : ∀ p ∈ qs, p ∈ ps) : OutWithin ps s o :=
  fun t ht => (h t ht).mono hsub

theorem dup {a : State} {o : Host.Outcome State Fault Refusal} (ho : Within ps s a → OutWithin ps s o)
    (h : Within ps s a) : OutWithin ps s o :=
  ho h

theorem ite {c : Prop} [Decidable c] {o o' : Host.Outcome State Fault Refusal} (h : OutWithin ps s o) (h' : OutWithin ps s o') :
    OutWithin ps s (if c then o else o') := by
  split <;> assumption

theorem frame {o : Host.Outcome State Fault Refusal} (h : OutWithin ps s o) (hps : .regs ∈ ps → .mem ∈ ps)
    {t : State} {p : Part} (hs : s.stored) (ht : o = .next t) (hp : p ∉ ps) : p.same s t :=
  (h t ht).same hps hs hp

end OutWithin

end Sys2Proof.Machine
end

section
/-! Frames: the parts that the operations every unit shares may change. -/
namespace Sys2Proof.Machine
open Sys2Proof

theorem State.putBit64_parts {s : State} {off i : Nat} {b : Bool} : Within [.regs] s (s.putBit64 off i b) := by
  unfold State.putBit64
  exact .step rfl .wr64 (.refl _)

theorem State.fresh_parts {s : State} : Within [.free] s s.fresh := by
  unfold State.fresh
  exact .step rfl .updFree (.refl _)

theorem State.setRingPos_parts {s : State} {r x : Nat} : Within [.regs] s (s.setRingPos r x) := by
  unfold State.setRingPos
  exact .step rfl .put (.step rfl .put (.refl _))

theorem State.ringPush_parts {s : State} {r : Nat} {rec : Nat → Nat → List Nat} : Within [.regs, .mem] s (s.ringPush r rec) := by
  unfold State.ringPush
  exact .modRing (.step rfl .add64 (.step rfl State.setRingPos_parts (.step rfl .hostWrite (.refl _))))

theorem State.flushLost_parts {s : State} {r : Nat} : Within [.regs, .mem] s (s.flushLost r) := by
  unfold State.flushLost
  exact .ite (.modRing (.step rfl State.ringPush_parts (.refl _))) (.refl _)

theorem State.eventToRing_parts {s : State} {r : Nat} {e : EventRec} : Within [.regs, .mem] s (s.eventToRing r e) := by
  unfold State.eventToRing
  exact .dup (fun h => .ite (.step rfl State.ringPush_parts h) (.step rfl .setF (.modRing h))) (.step rfl State.flushLost_parts (.refl _))

theorem State.logState_parts {s : State} {kind count : Nat} : Within [] s (s.logState kind count) :=
  .of_reports (State.logState_reports _ _ _)

theorem State.flushHeld_parts {s : State} : Within [.regs, .mem] s s.flushHeld := by
  unfold State.flushHeld
  refine .each (.heldEvents (.ite ?_ (.refl _))) fun _ _ h => .step rfl State.eventToRing_parts h
  split
  · exact .heldDropped (.step rfl State.ringPush_parts (.refl _))
  · exact .refl _

theorem State.setRingState_parts {s : State} {r new : Nat} : Within [.regs] s (s.setRingState r new) := by
  unfold State.setRingState
  exact .ite (.refl _) (.when (.step rfl .put (.refl _)) fun _ h => .event h)

theorem State.refreshRing_parts {s : State} {r : Nat} : Within [.regs] s (s.refreshRing r) := by
  unfold State.refreshRing
  exact .step rfl State.setRingState_parts (.refl _)

theorem State.pushCompletion_parts {s : State} {cq : Nat} {c : Completion} : Within [.regs, .mem] s (s.pushCompletion cq c) := by
  unfold State.pushCompletion
  exact .step rfl State.ringPush_parts (.refl _)

theorem State.writeCompletion_parts {s : State} {cq : Nat} {c : Completion} : Within [.regs, .mem, .host] s (s.writeCompletion cq c) := by
  unfold State.writeCompletion
  exact .ite (.refl _) (.ite (.step rfl .updHost (.refl _)) (.step rfl State.pushCompletion_parts (.refl _)))

theorem State.flushCompletions_parts {s : State} : Within [.regs, .mem] s s.flushCompletions := by
  unfold State.flushCompletions
  exact .each (.heldCompletions (.refl _)) fun _ _ h => .ite (.step rfl State.pushCompletion_parts h) (.heldCompletions h)

theorem State.hold_parts {s : State} {h : Hdr} {cmd : Cmd} {dataIn : Bool} : Within [.regs, .host] s (s.hold h cmd dataIn) := by
  unfold State.hold
  exact .step rfl .put (.step rfl .updHost (.refl _))

theorem State.acceptTimed_parts {s : State} {h : Hdr} {op : Nat} {cmd : Cmd} {fieldFail : Option Nat} {dataIn : Bool} :
    Within [.regs, .host] s (s.acceptTimed h op cmd fieldFail dataIn) := by
  unfold State.acceptTimed
  exact .acceptTimedK (.refl _) fun _ h => .step rfl State.hold_parts h

theorem State.refreshPlan_parts {s : State} : Within [.regs] s s.refreshPlan := by
  unfold State.refreshPlan
  exact .each (.step rfl .put (.step rfl .put (.step rfl .put (.step rfl .put (.step rfl .put (.refl _)))))) fun _ _ h => .step rfl .put
    (.step rfl .put h)

theorem State.setGau_parts {s : State} {k st : Nat} : Within [.regs] s (s.setGau k st) := by
  unfold State.setGau
  exact .step rfl .put (.step rfl .put (.step rfl .put (.refl _)))

theorem State.setCap_parts {s : State} {k : Nat} {c : Capture} : Within [.gau] s (s.setCap k c) := by
  unfold State.setCap
  exact .step rfl .updGau (.refl _)

theorem State.gauMissed_parts {s : State} {k : Nat} {c : Capture} {cond : Nat} : Within [.regs, .gau] s (s.gauMissed k c cond) := by
  unfold State.gauMissed
  exact .when (.step rfl .setF (.step rfl .add64 (.step rfl State.setCap_parts (.refl _)))) fun _ h => .event h

theorem State.gauMeet_parts {s : State} {k cond time : Nat} : Within [.regs, .gau] s (s.gauMeet k cond time) := by
  unfold State.gauMeet
  split
  · exact .refl _
  · exact .ite (.refl _) (.ite (.step rfl State.setCap_parts (.refl _)) (.ite (.step rfl State.gauMissed_parts (.refl _)) (.refl _)))

theorem State.leveeCapture_parts {s : State} {tile kind : Nat} : Within [.regs, .gau] s (s.leveeCapture tile kind) := by
  unfold State.leveeCapture
  exact .each (.refl _) fun _ _ h => .when h fun _ h1 => .step rfl State.gauMeet_parts h1

theorem State.tapStop_parts {s : State} {f : GauStreamCmd → Bool} {cause : Nat} : Within [.regs, .gau] s (s.tapStop f cause) := by
  unfold State.tapStop
  exact .each (.refl _) fun _ _ h => (by
      split
      · exact h
      · exact .ite (.step rfl .setF (.each (.step rfl State.setCap_parts h) fun _ _ h1 => .step rfl State.setGau_parts h1)) h)

theorem State.tapStart_parts {s : State} {n : Nat} : Within [.gau] s (s.tapStart n) := by
  unfold State.tapStart
  exact .each (.refl _) fun _ _ h => (by
      split
      · exact .ite (.step rfl .updGau h) h
      · exact h)

theorem State.setBiasDac_parts {s : State} {n k : Nat} {d : BiasDac} : Within [.tx] s (s.setBiasDac n k d) := by
  unfold State.setBiasDac
  exact .step rfl .updTx (.refl _)

theorem State.queuedOutcome_parts {s : State} {tile kind idx bank status tag : Nat} :
    Within [] s (s.queuedOutcome tile kind idx bank status tag) := by
  unfold State.queuedOutcome
  exact .event (.refl _)

theorem State.biasSafe_parts {s : State} {n k : Nat} {safe : Bool} : Within [.tx] s (s.biasSafe n k safe) := by
  unfold State.biasSafe
  exact .step rfl State.setBiasDac_parts (.refl _)

theorem State.tileBias_parts {s : State} {n : Nat} {safe : Bool} : Within [.tx] s (s.tileBias n safe) := by
  unfold State.tileBias
  exact .each (.refl _) fun _ _ h => .step rfl State.biasSafe_parts h

theorem State.pathBias_parts {s : State} {p : Nat} {safe : Bool} : Within [.tx] s (s.pathBias p safe) := by
  unfold State.pathBias
  exact .step rfl State.biasSafe_parts (.step rfl State.biasSafe_parts (.refl _))

theorem State.tripBias_parts {s : State} {n : Nat} : Within [.tx] s (s.tripBias n) := by
  unfold State.tripBias
  exact .each (.refl _) fun _ _ h => (by
      dsimp only
      split
      · exact .step rfl State.biasSafe_parts h
      · exact .step rfl State.queuedOutcome_parts (.step rfl State.setBiasDac_parts h))

theorem State.modStrobes_parts {s : State} {n : Nat} {f : Strobes → Strobes} : Within [.rct] s (s.modStrobes n f) := by
  unfold State.modStrobes
  exact .step rfl .updRct (.refl _)

theorem State.paOff_parts {s : State} {p : Nat} : Within [.rct] s (s.paOff p) := by
  unfold State.paOff
  exact .step rfl State.modStrobes_parts (.refl _)

theorem State.showGated_parts {s : State} {n : Nat} {off : Bool} : Within [.regs, .gau] s (s.showGated n off) := by
  unfold State.showGated
  exact .dup (fun h => .step rfl State.refreshPlan_parts (.ite (.step rfl State.tapStop_parts h) (.step rfl State.tapStart_parts h)))
    (.when (.step rfl .put (.refl _)) fun _ h1 => .step rfl .put h1)

theorem State.setTileState_parts {s : State} {n new cause : Nat} : Within [.regs, .tx, .rct, .gau] s (s.setTileState n new cause) := by
  unfold State.setTileState
  exact .ite (.refl _) (.dup (fun h => .dup (fun h1 => .ite (.event h1) h1) (.ite (.step rfl State.tileBias_parts (.step rfl
    State.modStrobes_parts h)) (.ite (.step rfl State.modStrobes_parts h) (.ite (.step rfl State.tileBias_parts (.step rfl
    State.modStrobes_parts h)) (.ite (.step rfl State.modStrobes_parts h) h))))) (.when (.step rfl .put (.refl _)) fun _ h2 => .step rfl
    State.showGated_parts h2))

theorem State.modProtect_parts {s : State} {n : Nat} {f : Protect → Protect} : Within [.rct] s (s.modProtect n f) := by
  unfold State.modProtect
  exact .step rfl .updRct (.refl _)

theorem State.enterProtect_parts {s : State} {n cause : Nat} {goneAt : Option Nat} :
    Within [.regs, .tx, .rct, .gau] s (s.enterProtect n cause goneAt) := by
  unfold State.enterProtect
  exact .ite (.refl _) (.step rfl State.setTileState_parts (.when (.step rfl State.modProtect_parts (.step rfl .setF (.refl _))) fun _ h
    => .step rfl .setF h))

theorem State.withhold_parts {s : State} {n reason : Nat} : Within [.rct] s (s.withhold n reason) := by
  unfold State.withhold
  exact .step rfl .updRct (.refl _)

theorem State.leaveProtect_parts {s : State} {n cause : Nat} : Within [.regs, .tx, .rct, .gau] s (s.leaveProtect n cause) := by
  unfold State.leaveProtect
  exact .step rfl State.withhold_parts (.step rfl State.setTileState_parts (.step rfl State.modProtect_parts (.refl _)))

theorem State.showPhase_parts {s : State} {n : Nat} : Within [.regs] s (s.showPhase n) := by
  unfold State.showPhase
  exact .step rfl .put (.refl _)

theorem State.tileOffBy_parts {s : State} {n cause who : Nat} : Within [.regs, .tx, .rct, .pwr, .gau] s (s.tileOffBy n cause who) := by
  unfold State.tileOffBy
  exact .ite (.refl _) (.step rfl State.showPhase_parts (.step rfl .updPwr (.step rfl .put (.step rfl State.setTileState_parts (.step rfl
    State.modProtect_parts (.refl _))))))

theorem State.tileOff_parts {s : State} {n cause : Nat} : Within [.regs, .tx, .rct, .pwr, .gau] s (s.tileOff n cause) := by
  unfold State.tileOff
  exact .step rfl State.tileOffBy_parts (.refl _)

theorem State.pathStart_parts {s : State} {p : Nat} : Within [.levee] s (s.pathStart p) := by
  unfold State.pathStart
  exact .step rfl .updLevee (.refl _)

theorem State.mutePath_parts {s : State} {p cause : Nat} : Within [.regs, .levee, .rct, .gau] s (s.mutePath p cause) := by
  unfold State.mutePath
  exact .ite (.refl _) (.event (.step rfl State.leveeCapture_parts (.step rfl State.paOff_parts (.step rfl .setF (.step rfl .updLevee
    (.step rfl State.putBit64_parts (.refl _)))))))

theorem State.unmutePath_parts {s : State} {p cause : Nat} : Within [.regs, .levee, .rct] s (s.unmutePath p cause) := by
  unfold State.unmutePath
  exact .ite (.refl _) (.ite (.step rfl .updLevee (.refl _)) (.ite (.step rfl .updLevee (.refl _)) (.event (.when (.step rfl
    State.pathStart_parts (.step rfl .updLevee (.step rfl State.putBit64_parts (.refl _)))) fun _ h => .step rfl State.withhold_parts
    h))))

theorem State.completeTx_parts {s : State} {h : Hdr} {op mask : Nat} : Within [] s (s.completeTx h op mask) := by
  unfold State.completeTx
  split
  · exact .completeX (.refl _)
  · exact .complete (.refl _)

theorem State.countBlank_parts {s : State} {n reason : Nat} : Within [.regs, .levee, .gau] s (s.countBlank n reason) := by
  unfold State.countBlank
  exact .step rfl State.leveeCapture_parts (.step rfl .setF (.step rfl .add64 (.step rfl .updLevee (.refl _))))

theorem State.culSend_parts {s : State} {link q : Nat} {f : CulFrameOut} : Within [.cul] s (s.culSend link q f) := by
  unfold State.culSend
  exact .step rfl .updCul (.refl _)

theorem State.calTrims_parts {s : State} {n : Nat} : Within [.free, .tx, .rx] s (s.calTrims n) := by
  unfold State.calTrims
  exact .each (.refl _) fun _ _ h => .step rfl .updFreeTxRx h

theorem State.seaSubmit_parts {s : State} {j : SeaJob} : Within [.regs, .sea] s (s.seaSubmit j) := by
  unfold State.seaSubmit
  split
  · exact .step rfl .setF (.step rfl .updSea (.refl _))
  · exact .step rfl .updSea (.refl _)

theorem State.milestone_parts {s : State} {step tile : Nat} : Within [.boot] s (s.milestone step tile) := by
  unfold State.milestone
  exact .event (.step rfl .updBoot (.refl _))

end Sys2Proof.Machine
end

section
/-! Frames: the parts that restarts of engines, keys, Levee and register accesses may change. -/
namespace Sys2Proof.Machine
open Sys2Proof

theorem State.countClass_parts {s : State} {c : Nat} : Within [.regs] s (s.countClass c) := by
  unfold State.countClass
  exact .step rfl .add64 (.refl _)

theorem State.reportPaths_parts {s : State} : Within [] s s.reportPaths := by
  unfold State.reportPaths
  exact .event (.refl _)

theorem State.showRemoved_parts {s : State} : Within [.regs] s s.showRemoved := by
  unfold State.showRemoved
  exact .step rfl .put (.refl _)

theorem State.returnPath_parts {s : State} {p : Nat} : Within [.regs, .tx, .beam, .flt] s (s.returnPath p) := by
  unfold State.returnPath
  exact .event (.step rfl State.reportPaths_parts (.step rfl .updBeam (.step rfl .updFlt (.step rfl State.pathBias_parts (.step rfl
    State.showRemoved_parts (.step rfl State.putBit64_parts (.refl _)))))))

theorem State.returnPaths_parts {s : State} {n : Nat} : Within [.regs, .tx, .beam, .flt] s (s.returnPaths n) := by
  unfold State.returnPaths
  exact .each (.refl _) fun _ _ h => .step rfl State.returnPath_parts h

theorem State.lateFlag_parts {s : State} {f : Field} : Within [.regs] s (s.lateFlag f) := by
  unfold State.lateFlag
  exact .event (.step rfl .setF (.refl _))

theorem State.burn_parts {s : State} {k v : Nat} : Within [.sea] s (s.burn k v) := by
  unfold State.burn
  exact .step rfl .updSea (.refl _)

theorem State.authCount_parts {s : State} {st : Nat} : Within [.regs] s (s.authCount st) := by
  unfold State.authCount
  exact .when (.when (.refl _) fun _ h => .step rfl .add64 h) fun _ h1 => .step rfl .setF h1

theorem State.verifyFail_parts {s : State} {cls who st ver : Nat} : Within [.regs] s (s.verifyFail cls who st ver) := by
  unfold State.verifyFail
  exact .event (.step rfl State.authCount_parts (.refl _))

theorem State.showLimits_parts {s : State} {words : List Nat} {version : Nat} : Within [.regs] s (s.showLimits words version) := by
  unfold State.showLimits
  exact .step rfl .put (.step rfl .put (.step rfl .put (.each (.refl _) fun _ _ h => .step rfl .wr h)))

theorem State.showNoLimits_parts {s : State} {noCert : Bool} : Within [.regs] s (s.showNoLimits noCert) := by
  unfold State.showNoLimits
  exact .step rfl .put (.step rfl .put (.step rfl .put (.each (.refl _) fun _ _ h => .step rfl .wr h)))

theorem State.enforceLimits_parts {s : State} : Within [.regs, .tx] s s.enforceLimits := by
  unfold State.enforceLimits
  exact .step rfl State.refreshPlan_parts (.when (.each (.refl _) fun _ _ h => .event (.each h fun _ _ h1 => .step rfl .updTx h1)) fun _
    h2 => .event (.each h2 fun _ _ h3 => .step rfl .updTx h3))

theorem State.withholdAll_parts {s : State} {reason : Nat} : Within [.rct] s (s.withholdAll reason) := by
  unfold State.withholdAll
  exact .each (.refl _) fun _ _ h => .step rfl State.withhold_parts h

theorem execLimitsInForce_parts {s : State} : OutWithin [.regs, .mem, .tx, .levee, .rct] s (execLimitsInForce s) := by
  unfold execLimitsInForce
  refine .next ?_
  split
  · exact .refl _
  · exact .ite (.refl _) (.step rfl State.enforceLimits_parts (.when (.event (.step rfl State.showLimits_parts (.step rfl .put (.step rfl
      .updLevee (.refl _))))) fun _ h => .step rfl State.withholdAll_parts h))

theorem execLeveeCert_parts {h : Hdr} {addr : Nat} {s : State} : OutWithin [.regs, .mem, .sea] s (execLeveeCert h addr s) := by
  unfold execLeveeCert
  exact .next (.acceptNow (.refl _) fun _ h => .step rfl State.seaSubmit_parts h)

theorem State.leveeMeter_parts {s : State} {powers : List (Nat × Int)} : Within [.regs, .levee, .gau] s (s.leveeMeter powers) := by
  unfold State.leveeMeter
  exact .dup (fun h => .ite h (.when (.step rfl .updLevee h) fun _ h1 => .each h1 fun _ _ h2 => .step rfl State.leveeCapture_parts h2))
    (.each (.refl _) fun _ _ h3 => .when (.step rfl .updLevee h3) fun _ h4 => .step rfl State.leveeCapture_parts h4)

theorem State.obsFail_parts {s : State} {n : Nat} : Within [.regs, .levee, .rct, .gau] s (s.obsFail n) := by
  unfold State.obsFail
  exact .dup (fun h => .ite h (.each (.event (.step rfl .put h)) fun _ _ h1 => .step rfl State.mutePath_parts h1)) (.step rfl .updLevee
    (.refl _))

theorem State.obsRestore_parts {s : State} {n : Nat} : Within [.regs, .levee, .rct] s (s.obsRestore n) := by
  unfold State.obsRestore
  exact .each (.event (.step rfl .put (.refl _))) fun _ _ h => (by
      split
      · exact .ite (.step rfl State.unmutePath_parts h) h
      · exact h)

theorem State.takeDwell_parts {s : State} {p : Nat} {cpl mean : Int} : Within [.regs, .levee, .rct, .gau] s (s.takeDwell p cpl mean) := by
  unfold State.takeDwell
  exact .dup (fun h => .ite (.step rfl State.mutePath_parts h) h) (.step rfl .updLevee (.refl _))

theorem execLeveeDwell_parts {path : Nat} {o : DwellObs} {s : State} :
    OutWithin [.regs, .mem, .levee, .rct, .gau] s (execLeveeDwell path o s) := by
  unfold execLeveeDwell
  refine .next ?_
  split
  · exact .step rfl State.obsFail_parts (.refl _)
  · exact .ite (.refl _) (.dup (fun h => .ite (.step rfl State.takeDwell_parts h) h) (.step rfl .updLevee (.refl _)))

theorem execObsReferenceCheck_parts {tile : Nat} {passed samples : Bool} {s : State} :
    OutWithin [.regs, .mem, .levee, .rct, .gau] s (execObsReferenceCheck tile passed samples s) := by
  unfold execObsReferenceCheck
  exact .next (.ite (.refl _) (.ite (.step rfl State.obsFail_parts (.refl _)) (.ite (.refl _) (.dup (fun h => .ite (.step rfl
    State.obsRestore_parts h) h) (.step rfl .updLevee (.refl _))))))

theorem State.applyUnmute_parts {s : State} {h : Hdr} {mask : Nat} : Within [.regs, .levee, .rct, .line] s (s.applyUnmute h mask) := by
  unfold State.applyUnmute
  exact .complete (.step rfl .updLine (.each (.refl _) fun _ _ h => .step rfl State.unmutePath_parts h))

theorem execLeveeUnmute_parts {h : Hdr} {mask : Nat} {s : State} :
    OutWithin [.regs, .mem, .levee, .rct, .line] s (execLeveeUnmute h mask s) := by
  unfold execLeveeUnmute
  exact .next (.acceptNow (.refl _) fun _ h => .step rfl State.applyUnmute_parts h)

theorem execBlankingSummary_parts {s : State} : OutWithin [.levee] s (execBlankingSummary s) := by
  unfold execBlankingSummary
  exact .next (.each (.step rfl .updLevee (.refl _)) fun _ _ h => .event h)

theorem State.latch_parts {s : State} {rq : Requester} {off : Nat} : Within [.host] s (s.latch rq off) := by
  unfold State.latch
  exact .ite (.step rfl .updHost (.refl _)) (.refl _)

theorem execWideReadLatch_parts {rq : Requester} {off : Nat} {s : State} : OutWithin [.host] s (execWideReadLatch rq off s) := by
  unfold execWideReadLatch
  exact .next (.step rfl State.latch_parts (.refl _))

theorem State.stage_parts {s : State} {rq : Requester} {off value : Nat} : Within [.host] s (s.stage rq off value) := by
  unfold State.stage
  exact .step rfl .updHost (.refl _)

theorem execWideWriteStage_parts {rq : Requester} {off value : Nat} {s : State} :
    OutWithin [.host] s (execWideWriteStage rq off value s) := by
  unfold execWideWriteStage
  refine .next ?_
  split
  · exact .ite (.step rfl State.stage_parts (.refl _)) (.refl _)
  · exact .refl _

theorem execMarginRst_parts {rq : Requester} {s : State} : OutWithin [.regs, .mem] s (execMarginRst rq s) := by
  unfold execMarginRst
  exact .next (.ite (.step rfl .put (.refl _)) (.refl _))

end Sys2Proof.Machine
end

section
/-! Frames: the parts that the transmit chains may change. -/
namespace Sys2Proof.Machine
open Sys2Proof

theorem State.txCarrierPlan_parts {s : State} {c : TxCarrierCmd} : Within [.tx] s (s.txCarrierPlan c) := by
  unfold State.txCarrierPlan
  exact .each (.refl _) fun _ _ h => .step rfl .updTx h

theorem State.newPulse_parts {s : State} {n : Nat} : Within [.tx] s (s.newPulse n) := by
  unfold State.newPulse
  exact .step rfl .updTx (.refl _)

theorem State.applyTxCarrier_parts {s : State} {h : Hdr} {c : TxCarrierCmd} : Within [.regs, .tx] s (s.applyTxCarrier h c) := by
  unfold State.applyTxCarrier
  exact .step rfl State.completeTx_parts (.step rfl State.refreshPlan_parts (.each (.step rfl State.txCarrierPlan_parts (.refl _)) fun _ _
    h => .step rfl State.newPulse_parts h))

theorem execTxCarrier_parts {h : Hdr} {c : TxCarrierCmd} {s : State} : OutWithin [.regs, .mem, .host] s (execTxCarrier h c s) := by
  unfold execTxCarrier
  exact .next (.step rfl State.acceptTimed_parts (.refl _))

theorem State.txTilePlan_parts {s : State} {c : TxTileCmd} : Within [.tx] s (s.txTilePlan c) := by
  unfold State.txTilePlan
  exact .dup (fun h => .ite (.each h fun _ _ h1 => .step rfl .updTx h1) h) (.ite (.step rfl .updTx (.refl _)) (.refl _))

theorem State.applyTxTile_parts {s : State} {h : Hdr} {c : TxTileCmd} : Within [.tx] s (s.applyTxTile h c) := by
  unfold State.applyTxTile
  exact .step rfl State.completeTx_parts (.step rfl State.txTilePlan_parts (.refl _))

theorem execTxTile_parts {h : Hdr} {c : TxTileCmd} {s : State} : OutWithin [.regs, .mem, .host] s (execTxTile h c s) := by
  unfold execTxTile
  exact .next (.step rfl State.acceptTimed_parts (.refl _))

theorem State.putPathBit_parts {s : State} {f : Nat → Field} {p : Nat} {b : Bool} : Within [.regs] s (s.putPathBit f p b) := by
  unfold State.putPathBit
  exact .step rfl .put (.refl _)

theorem State.setDpdBank_parts {s : State} {p b : Nat} {l : List Nat} : Within [.tx] s (s.setDpdBank p b l) := by
  unfold State.setDpdBank
  exact .step rfl .updTx (.refl _)

theorem State.queueDpdLoad_parts {s : State} {j : DpdJob} : Within [.regs, .tx] s (s.queueDpdLoad j) := by
  unfold State.queueDpdLoad
  refine .step rfl State.putPathBit_parts (.step rfl .updTx ?_)
  split
  · exact .step rfl State.queuedOutcome_parts (.refl _)
  · exact .refl _

theorem State.startDpdLoad_parts {s : State} {j : DpdJob} : Within [.tx] s (s.startDpdLoad j) := by
  unfold State.startDpdLoad
  exact .step rfl .updTx (.refl _)

theorem execDpdLoad_parts {h : Hdr} {path bank count src : Nat} {s : State} :
    OutWithin [.regs, .mem, .tx] s (execDpdLoad h path bank count src s) := by
  unfold execDpdLoad
  exact .next (.acceptNow (.refl _) fun _ h => .ite (.complete h) (.ite (.completeX (.step rfl State.queueDpdLoad_parts h)) (.ite
    (.complete h) (.step rfl State.startDpdLoad_parts h))))

theorem State.finishDpdLoad_parts {s : State} {path : Nat} {busOk : Bool} : Within [.tx] s (s.finishDpdLoad path busOk) := by
  unfold State.finishDpdLoad
  split
  · exact .refl _
  · exact .dup (fun h => .ite (.step rfl State.queuedOutcome_parts h) (.complete h)) (.step rfl State.setDpdBank_parts (.step rfl .updTx
      (.refl _)))

theorem execDpdLoadComplete_parts {path : Nat} {busOk : Bool} {s : State} : OutWithin [.tx] s (execDpdLoadComplete path busOk s) := by
  unfold execDpdLoadComplete
  exact .next (.step rfl State.finishDpdLoad_parts (.refl _))

theorem State.holdDpdSwap_parts {s : State} {h : Hdr} {tile mask fade : Nat} : Within [.regs, .tx] s (s.holdDpdSwap h tile mask fade) := by
  unfold State.holdDpdSwap
  refine .step rfl .setF (.step rfl .updTx ?_)
  split
  · exact .complete (.refl _)
  · exact .refl _

theorem State.startDpdFades_parts {s : State} {tile mask fade : Nat} : Within [.regs, .tx] s (s.startDpdFades tile mask fade) := by
  unfold State.startDpdFades
  exact .each (.refl _) fun _ _ h => .ite (.step rfl State.putPathBit_parts h) (.step rfl State.putPathBit_parts (.step rfl .updTx h))

theorem State.startDpdSwap_parts {s : State} {h : Hdr} {tile mask fade : Nat} :
    Within [.regs, .tx] s (s.startDpdSwap h tile mask fade) := by
  unfold State.startDpdSwap
  exact .ite (.complete (.refl _)) (.ite (.complete (.refl _)) (.step rfl State.completeTx_parts (.step rfl State.startDpdFades_parts
    (.refl _))))

theorem State.applyDpdSwap_parts {s : State} {h : Hdr} {tile mask fade : Nat} :
    Within [.regs, .tx] s (s.applyDpdSwap h tile mask fade) := by
  unfold State.applyDpdSwap
  exact .ite (.step rfl State.holdDpdSwap_parts (.refl _)) (.step rfl State.startDpdSwap_parts (.refl _))

theorem execDpdSwap_parts {h : Hdr} {tile pathMask fade : Nat} {s : State} :
    OutWithin [.regs, .mem, .host, .tx] s (execDpdSwap h tile pathMask fade s) := by
  unfold execDpdSwap
  exact .next (.acceptTimedK (.refl _) fun _ h => .ite (by
      split
      · exact .complete h
      · exact .step rfl State.holdDpdSwap_parts h)
    (.step rfl State.hold_parts h))

theorem State.releaseDpdLoad_parts {s : State} {path : Nat} : Within [.regs, .tx] s (s.releaseDpdLoad path) := by
  unfold State.releaseDpdLoad
  split
  · exact .refl _
  · exact .dup (fun h => .ite (.step rfl State.queuedOutcome_parts h) (.step rfl State.startDpdLoad_parts h)) (.step rfl
      State.putPathBit_parts (.step rfl .updTx (.refl _)))

theorem execDpdFadeEnd_parts {path : Nat} {s : State} : OutWithin [.regs, .mem, .tx] s (execDpdFadeEnd path s) := by
  unfold execDpdFadeEnd
  refine .next ?_
  split
  · exact .refl _
  · exact .ite (.refl _) (.step rfl State.releaseDpdLoad_parts (.step rfl State.putPathBit_parts (.step rfl State.putPathBit_parts (.step
      rfl .updTx (.refl _)))))

theorem execHeldDpdSwapStart_parts {tile : Nat} {s : State} : OutWithin [.regs, .mem, .tx] s (execHeldDpdSwapStart tile s) := by
  unfold execHeldDpdSwapStart
  refine .next ?_
  split
  · exact .refl _
  · exact .ite (.step rfl State.startDpdSwap_parts (.step rfl .put (.step rfl .updTx (.refl _)))) (.refl _)

theorem State.supersedeBias_parts {s : State} {tile dac : Nat} {j : BiasJob} : Within [] s (s.supersedeBias tile dac j) := by
  unfold State.supersedeBias
  exact .dup (fun h => .ite (.step rfl State.queuedOutcome_parts h) h) (.complete (.refl _))

theorem State.finishBias_parts {s : State} {tile dac : Nat} {j : BiasJob} {st : Nat} : Within [] s (s.finishBias tile dac j st) := by
  unfold State.finishBias
  exact .dup (fun h => .ite (.step rfl State.queuedOutcome_parts h) h) (.complete (.refl _))

theorem State.queueReadback_parts {s : State} {tile dac : Nat} : Within [.hka] s (s.queueReadback tile dac) := by
  unfold State.queueReadback
  exact .step rfl .updHka (.refl _)

theorem State.biasCode_parts {s : State} {tile dac code : Nat} : Within [.regs, .hka] s (s.biasCode tile dac code) := by
  unfold State.biasCode
  exact .step rfl State.queueReadback_parts (.step rfl .put (.refl _))

theorem State.applyBiasSet_parts {s : State} {h : Hdr} {c : BiasSetCmd} : Within [.tx] s (s.applyBiasSet h c) := by
  unfold State.applyBiasSet
  exact .ite (.step rfl State.setBiasDac_parts (by
      split
      · exact .step rfl State.supersedeBias_parts (.refl _)
      · exact .refl _))
    (.step rfl State.setBiasDac_parts (by
      split
      · exact .step rfl State.supersedeBias_parts (.refl _)
      · exact .refl _))

theorem execBiasSet_parts {h : Hdr} {c : BiasSetCmd} {s : State} : OutWithin [.regs, .mem, .host] s (execBiasSet h c s) := by
  unfold execBiasSet
  exact .next (.step rfl State.acceptTimed_parts (.refl _))

theorem State.endSpanChange_parts {s : State} {tile dac : Nat} {c : SpanChange} {st : Nat} :
    Within [.regs, .tx, .hka] s (s.endSpanChange tile dac c st) := by
  unfold State.endSpanChange
  exact .step rfl State.finishBias_parts (.step rfl State.biasCode_parts (.step rfl State.setBiasDac_parts (.refl _)))

theorem State.fireBias_parts {s : State} {tile dac st : Nat} : Within [.regs, .tx, .hka] s (s.fireBias tile dac st) := by
  unfold State.fireBias
  dsimp only
  split
  · exact .ite (.step rfl State.endSpanChange_parts (.refl _)) (.refl _)
  · split
    · exact .step rfl State.finishBias_parts (.step rfl State.biasCode_parts (.step rfl State.setBiasDac_parts (.refl _)))
    · exact .step rfl State.setBiasDac_parts (.refl _)
  · exact .refl _

theorem execBiasTrigger_parts {tile dac edge : Nat} {s : State} :
    OutWithin [.regs, .mem, .tx, .hka] s (execBiasTrigger tile dac edge s) := by
  unfold execBiasTrigger
  refine .next (.ite (.refl _) ?_)
  split
  · exact .step rfl State.fireBias_parts (.refl _)
  · exact .ite (.step rfl State.fireBias_parts (.refl _)) (.refl _)
  · exact .refl _

theorem execBiasTriggerTimeout_parts {tile dac : Nat} {s : State} :
    OutWithin [.regs, .mem, .tx, .hka] s (execBiasTriggerTimeout tile dac s) := by
  unfold execBiasTriggerTimeout
  refine .next ?_
  split
  · exact .ite (.step rfl State.fireBias_parts (.refl _)) (.refl _)
  · exact .ite (.step rfl State.fireBias_parts (.refl _)) (.refl _)
  · exact .refl _

theorem execBiasSpanSwitch_parts {tile dac : Nat} {s : State} : OutWithin [.regs, .mem, .tx] s (execBiasSpanSwitch tile dac s) := by
  unfold execBiasSpanSwitch
  refine .next ?_
  split
  · exact .ite (.step rfl State.setBiasDac_parts (.step rfl .put (.refl _))) (.refl _)
  · exact .refl _

theorem execBiasSafePhaseEnd_parts {tile dac : Nat} {s : State} :
    OutWithin [.regs, .mem, .tx, .hka] s (execBiasSafePhaseEnd tile dac s) := by
  unfold execBiasSafePhaseEnd
  refine .next ?_
  split
  · exact .ite (.dup (fun h => .ite (.step rfl State.endSpanChange_parts h) h) (.step rfl State.setBiasDac_parts (.refl _))) (.refl _)
  · exact .refl _

theorem State.ddsPlan_parts {s : State} {c : DdsToneCmd} : Within [.tx] s (s.ddsPlan c) := by
  unfold State.ddsPlan
  exact .each (.refl _) fun _ _ h => .step rfl .updTx h

theorem State.applyDdsTone_parts {s : State} {h : Hdr} {c : DdsToneCmd} : Within [.tx] s (s.applyDdsTone h c) := by
  unfold State.applyDdsTone
  exact .step rfl State.completeTx_parts (.step rfl State.ddsPlan_parts (.refl _))

theorem execDdsTone_parts {h : Hdr} {c : DdsToneCmd} {s : State} : OutWithin [.regs, .mem, .host] s (execDdsTone h c s) := by
  unfold execDdsTone
  exact .next (.step rfl State.acceptTimed_parts (.refl _))

theorem execTxSatSummary_parts {tile : Nat} {s : State} : OutWithin [.tx] s (execTxSatSummary tile s) := by
  unfold execTxSatSummary
  exact .next (.ite (.refl _) (.event (.step rfl .updTx (.refl _))))

theorem execFeDelayApply_parts {s : State} : OutWithin [.regs, .mem, .tx, .rx] s (execFeDelayApply s) := by
  unfold execFeDelayApply
  exact .next (.ite (.step rfl State.refreshPlan_parts (.each (.refl _) fun _ _ h => .step rfl .updTxRx h)) (.refl _))

end Sys2Proof.Machine
end

section
/-! Frames: the parts that the beamformer, the covariance and the access detector may change. -/
namespace Sys2Proof.Machine
open Sys2Proof

theorem State.bfPlan_parts {s : State} {carrier : Nat} {uplink : Bool} {layers ulShift prio : Nat} :
    Within [.beam] s (s.bfPlan carrier uplink layers ulShift prio) := by
  unfold State.bfPlan
  exact .step rfl .updBeam (.refl _)

theorem State.applyBfLayers_parts {s : State} {h : Hdr} {carrier : Nat} {uplink : Bool} {layers ulShift prio : Nat} :
    Within [.regs, .beam] s (s.applyBfLayers h carrier uplink layers ulShift prio) := by
  unfold State.applyBfLayers
  exact .complete (.step rfl State.refreshPlan_parts (.step rfl State.bfPlan_parts (.refl _)))

theorem execBfLayers_parts {h : Hdr} {carrier : Nat} {uplink : Bool} {layers ulShift prio : Nat} {s : State} :
    OutWithin [.regs, .mem, .host] s (execBfLayers h carrier uplink layers ulShift prio s) := by
  unfold execBfLayers
  exact .next (.step rfl State.acceptTimed_parts (.refl _))

theorem State.blankLayers_parts {fuel : Nat} {s : State} : Within [.beam] s (State.blankLayers fuel s) := by
  induction fuel generalizing s with
  | zero => exact .refl _
  | succ fuel ih =>
    unfold State.blankLayers
    refine .ite (.refl _) ?_
    split
    · exact .refl _
    · exact .step rfl ih (.step rfl .updBeam (.refl _))

theorem State.blankEvents_parts {s : State} {kind : Nat} {l : List (Nat × Nat × Nat)} : Within [] s (s.blankEvents kind l) := by
  unfold State.blankEvents
  exact .each (.refl _) fun _ _ h => .when h fun _ h1 => .event h1

theorem State.t2Blank_parts {s : State} : Within [.regs, .beam] s s.t2Blank := by
  unfold State.t2Blank
  exact .dup (fun h => .ite h (.step rfl State.blankEvents_parts (.step rfl .setF h))) (.step rfl State.refreshPlan_parts (.step rfl
    State.blankLayers_parts (.refl _)))

theorem execT2Restore_parts {s : State} : OutWithin [.regs, .mem, .beam] s (execT2Restore s) := by
  unfold execT2Restore
  exact .next (.ite (.refl _) (.step rfl State.blankEvents_parts (.step rfl State.refreshPlan_parts (.step rfl .updBeam (.refl _)))))

theorem State.showLoading_parts {s : State} : Within [.regs] s s.showLoading := by
  unfold State.showLoading
  exact .step rfl .put (.refl _)

theorem State.writeOutcome_parts {s : State} {w : BeamWrite} {status : Nat} : Within [] s (s.writeOutcome w status) := by
  unfold State.writeOutcome
  exact .event (.refl _)

theorem State.queueWrite_parts {s : State} {w : BeamWrite} : Within [.regs, .beam] s (s.queueWrite w) := by
  unfold State.queueWrite
  refine .step rfl .setF (.step rfl .updBeam ?_)
  split
  · exact .step rfl State.writeOutcome_parts (.refl _)
  · exact .refl _

theorem State.startWrite_parts {s : State} {w : BeamWrite} : Within [.regs, .beam] s (s.startWrite w) := by
  unfold State.startWrite
  exact .step rfl State.showLoading_parts (.step rfl .updBeam (.refl _))

theorem State.flushPool_parts {s : State} : Within [.beam] s s.flushPool := by
  unfold State.flushPool
  exact .step rfl .updBeam (.refl _)

theorem execBeamLoad_parts {h : Hdr} {c : BeamLoadCmd} {s : State} : OutWithin [.regs, .mem, .beam] s (execBeamLoad h c s) := by
  unfold execBeamLoad
  exact .next (.acceptNow (.refl _) fun _ h => .ite (.dup (fun h1 => .ite (.complete h1) (.step rfl .updBeam h1)) (.step rfl
    State.flushPool_parts h)) (.ite (.completeX (.step rfl State.queueWrite_parts h)) (.ite (.complete h) (.step rfl
    State.startWrite_parts h))))

theorem State.doWrite_parts {s : State} {w : BeamWrite} : Within [.devMem, .beam] s (s.doWrite w) := by
  unfold State.doWrite
  exact .step rfl .updBeam (.each (.refl _) fun _ _ h => .step rfl .devWrite h)

theorem execBeamLoadComplete_parts {busOk : Bool} {s : State} :
    OutWithin [.regs, .mem, .devMem, .beam] s (execBeamLoadComplete busOk s) := by
  unfold execBeamLoadComplete
  refine .next ?_
  split
  · exact .refl _
  · exact .dup (fun h => .ite (.step rfl State.writeOutcome_parts h) (by
        split
        · exact .complete h
        · exact h))
      (.step rfl State.showLoading_parts (.step rfl .updBeam (.ite (.step rfl State.doWrite_parts (.refl _)) (.refl _))))

theorem execPoolFlushComplete_parts {s : State} : OutWithin [.beam] s (execPoolFlushComplete s) := by
  unfold execPoolFlushComplete
  exact .dup (fun h => .next (.ite (.each (.step rfl .updBeam h) fun _ _ h1 => .complete h1) h)) (.step rfl .updBeam (.refl _))

theorem State.beginTransition_parts {s : State} {e : Int} {blend : Nat} : Within [.regs, .beam] s (s.beginTransition e blend) := by
  unfold State.beginTransition
  exact .step rfl .put (.step rfl .setF (.step rfl .updBeam (.refl _)))

theorem State.holdBeamSwap_parts {s : State} {q : HeldBeamSwap} : Within [.regs, .beam] s (s.holdBeamSwap q) := by
  unfold State.holdBeamSwap
  refine .step rfl .setF (.step rfl .updBeam ?_)
  split
  · split
    · exact .complete (.refl _)
    · exact .refl _
  · exact .refl _

theorem execBeamSwap_parts {h : Hdr} {blend : Nat} {s : State} : OutWithin [.regs, .mem, .host, .beam] s (execBeamSwap h blend s) := by
  unfold execBeamSwap
  exact .next (.acceptTimedK (.refl _) fun _ h => .ite (.step rfl State.holdBeamSwap_parts h) (.step rfl State.hold_parts h))

theorem State.flipBeams_parts {s : State} : Within [.regs] s s.flipBeams := by
  unfold State.flipBeams
  exact .step rfl State.showLoading_parts (.step rfl .put (.refl _))

theorem State.applyBeamSwap_parts {s : State} {h : Hdr} : Within [.regs] s (s.applyBeamSwap h) := by
  unfold State.applyBeamSwap
  exact .complete (.step rfl State.flipBeams_parts (.refl _))

theorem execBeamTransitionEnd_parts {s : State} : OutWithin [.regs, .mem, .beam] s (execBeamTransitionEnd s) := by
  unfold execBeamTransitionEnd
  refine .next ?_
  split
  · exact .refl _
  · exact .ite (.refl _) (.dup (fun h => by
        dsimp only
        split
        · exact h
        · exact .dup (fun h1 => .ite (.step rfl State.writeOutcome_parts h1) (.step rfl State.startWrite_parts h1)) (.step rfl .put (.step
            rfl .updBeam h)))
      (.step rfl .put (.step rfl .put (.step rfl .updBeam (.refl _)))))

theorem State.startHeldSwap_parts {s : State} {q : HeldBeamSwap} : Within [.regs, .beam] s (s.startHeldSwap q) := by
  unfold State.startHeldSwap
  exact .dup (fun h => .ite (by
      split
      · exact .complete h
      · exact h)
    (.step rfl State.beginTransition_parts (.step rfl .updBeam h))) (.step rfl .put (.step rfl .updBeam (.refl _)))

theorem State.finishHeldSwap_parts {s : State} {q : HeldBeamSwap} : Within [.regs, .beam] s (s.finishHeldSwap q) := by
  unfold State.finishHeldSwap
  exact .dup (fun h => by
      dsimp only
      split
      · exact .complete h
      · exact h)
    (.step rfl State.flipBeams_parts (.step rfl .updBeam (.refl _)))

theorem execHeldBeamSwapStart_parts {s : State} : OutWithin [.regs, .mem, .beam] s (execHeldBeamSwapStart s) := by
  unfold execHeldBeamSwapStart
  refine .next ?_
  split
  · exact .ite (.step rfl State.finishHeldSwap_parts (.refl _)) (.refl _)
  · exact .ite (.step rfl State.startHeldSwap_parts (.refl _)) (.refl _)
  · exact .refl _

theorem State.demandPage_parts {s : State} {beam : Nat} {until_ : Int} : Within [.regs, .beam] s (s.demandPage beam until_) := by
  unfold State.demandPage
  split
  · exact .step rfl .updBeam (.refl _)
  · refine .ite (.refl _) ?_
    split
    · exact .step rfl .updBeam (.step rfl .setF (.refl _))
    · exact .step rfl .updBeam (.refl _)

theorem State.countMiss_parts {s : State} {beam prbs : Nat} : Within [.regs, .beam] s (s.countMiss beam prbs) := by
  unfold State.countMiss
  exact .step rfl .add64 (.step rfl .updBeam (.refl _))

theorem execPageLoadComplete_parts {entry : Nat} {s : State} : OutWithin [.devMem, .beam] s (execPageLoadComplete entry s) := by
  unfold execPageLoadComplete
  refine .next ?_
  split
  · exact .refl _
  · exact .ite (.refl _) (.step rfl .updBeam (.step rfl .devWrite (.step rfl .devWrite (.refl _))))

theorem execPageMissSummary_parts {s : State} : OutWithin [.beam] s (execPageMissSummary s) := by
  unfold execPageMissSummary
  exact .next (.ite (.refl _) (.event (.step rfl .updBeam (.refl _))))

theorem State.covPlan_parts {s : State} {c : CovSetupCmd} : Within [.beam] s (s.covPlan c) := by
  unfold State.covPlan
  exact .step rfl .updBeam (.refl _)

theorem State.showCov_parts {s : State} : Within [.regs] s s.showCov := by
  unfold State.showCov
  exact .step rfl .put (.step rfl .put (.refl _))

theorem State.applyCovSetup_parts {s : State} {h : Hdr} {c : CovSetupCmd} : Within [.regs, .beam] s (s.applyCovSetup h c) := by
  unfold State.applyCovSetup
  exact .complete (.step rfl State.refreshPlan_parts (.step rfl State.showCov_parts (.step rfl State.covPlan_parts (.refl _))))

theorem execCovSetup_parts {h : Hdr} {c : CovSetupCmd} {s : State} : OutWithin [.regs, .mem, .host] s (execCovSetup h c s) := by
  unfold execCovSetup
  exact .next (.step rfl State.acceptTimed_parts (.refl _))

theorem execCovSolveStart_parts {carrier : Nat} {s : State} : OutWithin [.regs, .mem, .beam] s (execCovSolveStart carrier s) := by
  unfold execCovSolveStart
  refine .next ?_
  split
  · exact .refl _
  · exact .ite (.refl _) (.step rfl .setF (.step rfl .updBeam (.refl _)))

theorem execCovSolveEnd_parts {carrier : Nat} {s : State} :
    OutWithin [.free, .regs, .mem, .devMem, .beam] s (execCovSolveEnd carrier s) := by
  unfold execCovSolveEnd
  refine .next ?_
  split
  · exact .ite (.refl _) (.dup (fun h => .ite (.step rfl State.holdBeamSwap_parts h) h) (.event (.step rfl .put (.step rfl .updBeam (.ite
      (.step rfl State.queueWrite_parts (.refl _)) (.step rfl State.doWrite_parts (.refl _)))))))
  · exact .refl _

theorem execRenormalisation_parts {s : State} : OutWithin [.beam] s (execRenormalisation s) := by
  unfold execRenormalisation
  refine .next ?_
  split
  · exact .refl _
  · exact .event (.step rfl .updBeam (.refl _))

theorem State.acdPlan_parts {s : State} {c : AcdCmd} : Within [.beam] s (s.acdPlan c) := by
  unfold State.acdPlan
  exact .step rfl .updBeam (.refl _)

theorem State.applyAcd_parts {s : State} {h : Hdr} {c : AcdCmd} : Within [.regs, .beam] s (s.applyAcd h c) := by
  unfold State.applyAcd
  exact .complete (.step rfl .put (.step rfl State.acdPlan_parts (.refl _)))

theorem execAcdOccasion_parts {h : Hdr} {c : AcdCmd} {s : State} : OutWithin [.regs, .mem, .host] s (execAcdOccasion h c s) := by
  unfold execAcdOccasion
  exact .next (.step rfl State.acceptTimed_parts (.refl _))

theorem State.showOccasions_parts {s : State} : Within [.regs] s s.showOccasions := by
  unfold State.showOccasions
  exact .step rfl .put (.refl _)

theorem State.occasionSummary_parts {s : State} {o : Occasion} {n : Nat} {aborted : Bool} :
    Within [] s (s.occasionSummary o n aborted) := by
  unfold State.occasionSummary
  exact .eventAt (.refl _)

theorem State.occasionAirEnd_parts {s : State} {o : Occasion} : Within [.regs, .beam] s (s.occasionAirEnd o) := by
  unfold State.occasionAirEnd
  exact .ite (.step rfl State.occasionSummary_parts (.step rfl .setF (.step rfl .updBeam (.refl _)))) (.step rfl State.showOccasions_parts
    (.step rfl .updBeam (.refl _)))

theorem State.detection_parts {s : State} {o : Occasion} {c : AcdCmd} {l : List (AcdPeak × Bool)} {x : AcdPeak × Bool} :
    Within [] s (s.detection o c l x) := by
  unfold State.detection
  exact .eventAt (.refl _)

theorem execOccasionEnd_parts {config time : Nat} {peaks : List AcdPeak} {s : State} :
    OutWithin [.regs, .mem, .beam] s (execOccasionEnd config time peaks s) := by
  unfold execOccasionEnd
  refine .next ?_
  split
  · exact .refl _
  · exact .dup (fun h => by
        dsimp only
        split
        · exact .step rfl State.occasionSummary_parts (.step rfl .add64 (.step rfl .add64 (.each h fun _ _ h1 => .step rfl
            State.detection_parts h1)))
        · exact .step rfl State.occasionSummary_parts (.step rfl .setF h))
      (.step rfl State.showOccasions_parts (.step rfl .updBeam (.refl _)))

theorem State.applyFo_parts {s : State} {h : Hdr} {c : FoCmd} : Within [.beam] s (s.applyFo h c) := by
  unfold State.applyFo
  exact .complete (.step rfl .updBeam (.refl _))

theorem execFoReport_parts {h : Hdr} {c : FoCmd} {s : State} : OutWithin [.regs, .mem, .host] s (execFoReport h c s) := by
  unfold execFoReport
  exact .next (.step rfl State.acceptTimed_parts (.refl _))

theorem execFoMeasurement_parts {entry layer : Nat} {offset power : Int} {snr : Nat} {tainted : Bool} {s : State} :
    OutWithin [] s (execFoMeasurement entry layer offset power snr tainted s) := by
  unfold execFoMeasurement
  refine .next ?_
  split
  · exact .refl _
  · exact .ite (.refl _) (.event (.refl _))

end Sys2Proof.Machine
end

section
/-! Frames: the parts that radio control and the clock may change. -/
namespace Sys2Proof.Machine
open Sys2Proof

theorem State.startSynthCal_parts {s : State} {cause : Nat} {hdrs : List Hdr} : Within [.regs, .rct] s (s.startSynthCal cause hdrs) := by
  unfold State.startSynthCal
  exact .step rfl .put (.step rfl .put (.step rfl .put (.step rfl .put (.step rfl .updRct (.refl _)))))

theorem execSynRecal_parts {h : Hdr} {s : State} : OutWithin [.regs, .mem, .host] s (execSynRecal h s) := by
  unfold execSynRecal
  exact .next (.step rfl State.acceptTimed_parts (.refl _))

theorem State.applySynRecal_parts {s : State} {h : Hdr} : Within [.regs, .rct] s (s.applySynRecal h) := by
  unfold State.applySynRecal
  refine .ite (.complete (.refl _)) ?_
  split
  · exact .step rfl .updRct (.refl _)
  · exact .step rfl State.startSynthCal_parts (.refl _)

theorem State.synthLost_parts {s : State} {which : Nat} : Within [.regs, .rx, .rct] s (s.synthLost which) := by
  unfold State.synthLost
  exact .dup (fun h => .ite (.step rfl State.startSynthCal_parts h) h) (.event (.step rfl .put (.step rfl .updRx (.step rfl .setF (.step
    rfl .put (.when (.when (.refl _) fun _ h1 => .step rfl .put h1) fun _ h2 => .step rfl .put h2))))))

theorem execSynthLockLost_parts {which : Nat} {s : State} : OutWithin [.regs, .mem, .rx, .rct] s (execSynthLockLost which s) := by
  unfold execSynthLockLost
  exact .next (.step rfl State.synthLost_parts (.refl _))

theorem execSynthCalibrationDone_parts {calUs : Nat} {s : State} :
    OutWithin [.regs, .mem, .rx, .rct, .boot] s (execSynthCalibrationDone calUs s) := by
  unfold execSynthCalibrationDone
  refine .next ?_
  split
  · exact .refl _
  · exact .dup (fun h => .ite (.step rfl .updBoot (.step rfl State.milestone_parts (.step rfl .put h))) h) (.each (.event (.step rfl .put
      (.step rfl .updRx (.step rfl .put (.step rfl .setF (.step rfl .put (.step rfl .put (.step rfl .put (.step rfl .updRct (.refl
      _)))))))))) fun _ _ h1 => .complete h1)

theorem State.patternPlan_parts {s : State} {pattern tileMask period : Nat} {codes : List Nat} :
    Within [.regs, .rct] s (s.patternPlan pattern tileMask period codes) := by
  unfold State.patternPlan
  exact .each (.step rfl .updRct (.refl _)) fun _ _ h => .step rfl .put (.step rfl .updRct h)

theorem State.applyRctPattern_parts {s : State} {h : Hdr} {pattern tileMask period : Nat} {codes : List Nat} :
    Within [.regs, .rct] s (s.applyRctPattern h pattern tileMask period codes) := by
  unfold State.applyRctPattern
  exact .complete (.each (.step rfl State.patternPlan_parts (.refl _)) fun _ _ h => .step rfl State.withhold_parts h)

theorem execRctPattern_parts {h : Hdr} {pattern tileMask period addr : Nat} {s : State} :
    OutWithin [.regs, .mem, .host] s (execRctPattern h pattern tileMask period addr s) := by
  unfold execRctPattern
  exact .next (.acceptTimedK (.refl _) fun _ h => .step rfl State.hold_parts h)

theorem execPatternBind_parts {tile : Nat} {s : State} : OutWithin [.rct] s (execPatternBind tile s) := by
  unfold execPatternBind
  refine .next ?_
  split
  · exact .refl _
  · exact .ite (.step rfl State.withhold_parts (.step rfl .updRct (.refl _))) (.refl _)

theorem execTimingApply_parts {tile : Nat} {s : State} : OutWithin [.rct] s (execTimingApply tile s) := by
  unfold execTimingApply
  refine .next ?_
  split
  · exact .refl _
  · exact .ite (.step rfl .updRct (.refl _)) (.refl _)

theorem execDriftRecalibration_parts {s : State} : OutWithin [.regs, .mem, .rct] s (execDriftRecalibration s) := by
  unfold execDriftRecalibration
  refine .next ?_
  split
  · exact .refl _
  · exact .ite (.refl _) (.ite (.step rfl State.startSynthCal_parts (.refl _)) (.refl _))

theorem execProtectHoldExpiry_parts {tile : Nat} {s : State} :
    OutWithin [.regs, .mem, .tx, .rct, .gau] s (execProtectHoldExpiry tile s) := by
  unfold execProtectHoldExpiry
  refine .next ?_
  split
  · exact .refl _
  · exact .ite (.step rfl State.leaveProtect_parts (.refl _)) (.refl _)

theorem State.modCoex_parts {s : State} {k : Nat} {f : CoexPair → CoexPair} : Within [.rct] s (s.modCoex k f) := by
  unfold State.modCoex
  exact .step rfl .updRct (.refl _)

theorem execCoexGntChange_parts {pair : Nat} {granted : Bool} {s : State} :
    OutWithin [.regs, .mem, .tx, .levee, .rct, .gau] s (execCoexGntChange pair granted s) := by
  unfold execCoexGntChange
  exact .next (.ite (.refl _) (.dup (fun h => .ite (.each h fun _ _ h1 => .step rfl State.withhold_parts h1) (.each (.step rfl
    State.modCoex_parts h) fun _ _ h2 => .step rfl State.countBlank_parts (.step rfl State.setTileState_parts h2))) (.step rfl
    State.modCoex_parts (.refl _))))

theorem execCoexReqChange_parts {pair : Nat} {requested : Bool} {s : State} : OutWithin [.rct] s (execCoexReqChange pair requested s) := by
  unfold execCoexReqChange
  exact .next (.ite (.refl _) (.ite (.step rfl State.modCoex_parts (.refl _)) (.dup (fun h => .ite (.each h fun _ _ h1 => .step rfl
    State.withhold_parts h1) h) (.step rfl State.modCoex_parts (.refl _)))))

theorem State.coexTick_parts {s : State} {k : Nat} : Within [.rct] s (s.coexTick k) := by
  unfold State.coexTick
  exact .ite (.refl _) (.ite (.step rfl State.modCoex_parts (.refl _)) (.step rfl State.modCoex_parts (.refl _)))

theorem State.coexBurstEnd_parts {s : State} {k : Nat} {abs : Int} : Within [.rct] s (s.coexBurstEnd k abs) := by
  unfold State.coexBurstEnd
  exact .ite (.refl _) (.event (.step rfl State.modCoex_parts (.refl _)))

theorem State.rffePut_parts {s : State} {j : RffeJob} : Within [.rct] s (s.rffePut j) := by
  unfold State.rffePut
  exact .step rfl .updRct (.refl _)

theorem State.applyRffe_parts {s : State} {h : Hdr} {c : RffeCmd} : Within [.rct] s (s.applyRffe h c) := by
  unfold State.applyRffe
  exact .step rfl State.rffePut_parts (.refl _)

theorem execRffeXfer_parts {h : Hdr} {c : RffeCmd} {s : State} : OutWithin [.regs, .mem, .host, .rct] s (execRffeXfer h c s) := by
  unfold execRffeXfer
  exact .next (.ite (.acceptNow (.refl _) fun _ h => .step rfl State.rffePut_parts h) (.acceptTimedK (.refl _) fun _ h1 => .ite
    (.completeR h1) (.step rfl State.hold_parts h1)))

theorem execRffeTransferDone_parts {tile : Nat} {results : List Nat} {failed : Option Nat} {s : State} :
    OutWithin [.mem, .rct] s (execRffeTransferDone tile results failed s) := by
  unfold execRffeTransferDone
  refine .next ?_
  split
  · exact .refl _
  · exact .dup (fun h => by
        dsimp only
        split
        · exact .complete (.event (.step rfl .hostWrite h))
        · exact .complete (.step rfl .hostWrite h))
      (.step rfl .updRct (.refl _))

theorem State.rffeStep5_parts {s : State} {n : Nat} : Within [.rct] s (s.rffeStep5 n) := by
  unfold State.rffeStep5
  exact .ite (.refl _) (.step rfl .updRct (.refl _))

theorem execStrobeEdge_parts {tile step : Nat} {s : State} : OutWithin [.rct] s (execStrobeEdge tile step s) := by
  unfold execStrobeEdge
  exact .next (.ite (.refl _) (.ite (.ite (.refl _) (.step rfl State.modStrobes_parts (.refl _))) (.ite (.ite (.step rfl
    State.modStrobes_parts (.refl _)) (.refl _)) (.ite (.step rfl State.rffeStep5_parts (.step rfl State.modStrobes_parts (.refl _)))
    (.ite (.step rfl State.modStrobes_parts (.refl _)) (.ite (.ite (.step rfl State.modStrobes_parts (.refl _)) (.refl _)) (.refl _)))))))

theorem State.startSearch_parts {s : State} {tile mask rl : Nat} : Within [.rct] s (s.startSearch tile mask rl) := by
  unfold State.startSearch
  split
  · exact .refl _
  · exact .step rfl .updRct (.refl _)

theorem State.guardPath_parts {s : State} {p : Nat} {on : Bool} : Within [.regs, .rct] s (s.guardPath p on) := by
  unfold State.guardPath
  exact .dup (fun h => .ite (.step rfl State.paOff_parts h) (.step rfl State.withhold_parts h)) (.step rfl .put (.refl _))

theorem execAerial_parts {h : Hdr} {tile pathMask : Nat} {search clear : Bool} {s : State} :
    OutWithin [.regs, .mem, .rct] s (execAerial h tile pathMask search clear s) := by
  unfold execAerial
  exact .next (.acceptNow (.refl _) fun _ h => .complete (.when (.when h fun _ h1 => .each h1 fun _ _ h2 => .event (.step rfl
    State.guardPath_parts h2)) fun _ h3 => .step rfl State.startSearch_parts h3))

theorem execMismatchPair_parts {path : Nat} {fwd ref : Int} {s : State} :
    OutWithin [.regs, .mem, .rct] s (execMismatchPair path fwd ref s) := by
  unfold execMismatchPair
  exact .dup (fun h => .dup (fun h1 => .next (.ite (.event (.step rfl State.guardPath_parts h1)) h1)) (.ite (.dup (fun h2 => .ite (.step
    rfl State.startSearch_parts h2) h2) (.event h)) h)) (.step rfl .updRct (.refl _))

theorem execTunerTrial_parts {tile rl : Nat} {blanked : Bool} {s : State} :
    OutWithin [.regs, .mem, .rct] s (execTunerTrial tile rl blanked s) := by
  unfold execTunerTrial
  refine .next ?_
  split
  · exact .refl _
  · refine .ite (.refl _) ?_
    dsimp only
    split
    · exact .step rfl .updRct (.refl _)
    · exact .dup (fun h => .step rfl State.startSearch_parts (.ite (.event (.step rfl State.guardPath_parts h)) h)) (.event (.step rfl
        .updRct (.refl _)))

theorem State.modTimePort_parts {s : State} {k : Nat} {f : TimePort → TimePort} : Within [.tim] s (s.modTimePort k f) := by
  unfold State.modTimePort
  exact .step rfl .updTim (.refl _)

theorem State.clockRecord_parts {s : State} {old new slewMs : Nat} : Within [] s (s.clockRecord old new slewMs) := by
  unfold State.clockRecord
  exact .event (.refl _)

theorem State.clockTo_parts {s : State} {new : Nat} : Within [.regs, .tim] s (s.clockTo new) := by
  unfold State.clockTo
  exact .ite (.refl _) (.dup (fun h => .dup (fun h1 => .step rfl State.clockRecord_parts (.ite (.step rfl .updTim h1) h1)) (.ite (.step
    rfl .updTim h) h)) (.step rfl .put (.refl _)))

theorem State.modPtp_parts {s : State} {k : Nat} {f : PtpPort → PtpPort} : Within [.tim] s (s.modPtp k f) := by
  unfold State.modPtp
  exact .step rfl .updTim (.refl _)

theorem State.chooseSource_parts {s : State} : Within [.regs, .tim] s s.chooseSource := by
  unfold State.chooseSource
  exact .dup (fun h => .ite (.step rfl State.clockTo_parts h) (.ite (.step rfl State.clockTo_parts h) h)) (.step rfl .put (.refl _))

theorem State.follow_parts {s : State} {key : RootKey} {parent : Option Nat} : Within [.regs, .tim] s (s.follow key parent) := by
  unfold State.follow
  exact .when (.step rfl State.chooseSource_parts (.each (.step rfl .put (.step rfl .put (.step rfl .put (.step rfl .put (.step rfl
    .updTim (.refl _)))))) fun _ _ h => .step rfl .put h)) fun _ h1 => .event h1

theorem State.elect_parts {s : State} : Within [.regs, .tim] s s.elect := by
  unfold State.elect
  exact .dup (fun h => .ite (.step rfl State.chooseSource_parts (.step rfl .put (.step rfl .updTim h))) (by
      dsimp only
      split
      · exact .ite (.step rfl State.follow_parts h) (.step rfl State.follow_parts h)
      · exact .step rfl State.follow_parts h))
    (.step rfl .put (.refl _))

theorem State.joinPort_parts {s : State} {k : Nat} {b : Bool} {peer : Nat} : Within [.regs, .tim] s (s.joinPort k b peer) := by
  unfold State.joinPort
  exact .ite (.refl _) (.step rfl State.elect_parts (.event (.step rfl .put (.step rfl State.modTimePort_parts (.refl _)))))

theorem State.refusePort_parts {s : State} {k : Nat} : Within [.regs, .tim] s (s.refusePort k) := by
  unfold State.refusePort
  exact .dup (fun h => .ite (.step rfl State.elect_parts h) (.step rfl State.elect_parts (.event h))) (.step rfl .put (.step rfl
    State.modTimePort_parts (.step rfl .setF (.refl _))))

theorem State.setEpoch_parts {s : State} {e src : Nat} : Within [.regs, .tim, .boot] s (s.setEpoch e src) := by
  unfold State.setEpoch
  exact .dup (fun h => .step rfl State.elect_parts (.event (.ite (.step rfl .updBoot h) (.step rfl .updBoot h)))) (.step rfl .put (.refl
    _))

theorem State.seeEpoch_parts {s : State} {e port : Nat} : Within [.regs, .tim, .boot] s (s.seeEpoch e port) := by
  unfold State.seeEpoch
  exact .ite (.step rfl State.setEpoch_parts (.refl _)) (.refl _)

theorem State.measure_parts {s : State} {src : Nat} {ofs : Int} : Within [.clock, .free, .regs, .tim] s (s.measure src ofs) := by
  unfold State.measure
  exact .ite (.refl _) (.when (.step rfl .put (.step rfl State.fresh_parts (.step rfl .updTim (.ite (.step rfl .updClock (.refl _)) (.refl
    _))))) fun _ h => .step rfl State.clockRecord_parts h)

end Sys2Proof.Machine
end

section
/-! Frames: the parts that the line lanes may change. -/
namespace Sys2Proof.Machine
open Sys2Proof

theorem State.modLane_parts {s : State} {n : Nat} {f : LaneState → LaneState} : Within [.line] s (s.modLane n f) := by
  unfold State.modLane
  exact .step rfl .updLine (.refl _)

theorem State.modPort_parts {s : State} {k : Nat} {f : PortState → PortState} : Within [.line] s (s.modPort k f) := by
  unfold State.modPort
  exact .step rfl .updLine (.refl _)

theorem State.laneCount_parts {s : State} {n r k : Nat} : Within [.regs] s (s.laneCount n r k) := by
  unfold State.laneCount
  exact .step rfl .add64 (.refl _)

theorem State.portCount_parts {s : State} {p r k : Nat} : Within [.regs] s (s.portCount p r k) := by
  unfold State.portCount
  exact .step rfl .add64 (.refl _)

theorem State.neighbourLost_parts {s : State} {k : Nat} : Within [.regs, .line, .tim] s (s.neighbourLost k) := by
  unfold State.neighbourLost
  exact .ite (.refl _) (.step rfl State.joinPort_parts (.event (.step rfl State.modPort_parts (.refl _))))

theorem State.portLanes_parts {s : State} {k : Nat} : Within [.regs, .line, .tim] s (s.portLanes k) := by
  unfold State.portLanes
  exact .dup (fun h => .ite (.step rfl State.neighbourLost_parts (.event (.step rfl State.portCount_parts (.step rfl .put h)))) h) (.step
    rfl .put (.refl _))

theorem State.setLane_parts {s : State} {n new : Nat} {cause : Option Nat} : Within [.regs, .line, .tim] s (s.setLane n new cause) := by
  unfold State.setLane
  exact .dup (fun h => .step rfl State.portLanes_parts (by
      split
      · exact .event h
      · exact h))
    (.step rfl State.modLane_parts (.step rfl .put (.refl _)))

theorem State.setTaps_parts {s : State} {n : Nat} {t : List Int} : Within [.regs] s (s.setTaps n t) := by
  unfold State.setTaps
  exact .step rfl .put (.step rfl .put (.step rfl .put (.step rfl .put (.step rfl .put (.refl _)))))

theorem State.enterDetect_parts {s : State} {n : Nat} {cause : Nat} : Within [.regs, .line, .tim] s (s.enterDetect n cause) := by
  unfold State.enterDetect
  exact .dup (fun h => .ite h (.step rfl State.setLane_parts h)) (.step rfl State.modLane_parts (.step rfl .put (.step rfl
    State.setTaps_parts (.when (.refl _) fun _ h1 => .step rfl State.laneCount_parts (.step rfl .put h1)))))

theorem State.enterDown_parts {s : State} {n : Nat} : Within [.regs, .line, .tim] s (s.enterDown n) := by
  unfold State.enterDown
  exact .ite (.refl _) (.step rfl State.setLane_parts (.step rfl State.modLane_parts (.refl _)))

theorem State.laneStart_parts {s : State} {n : Nat} : Within [.regs, .line, .tim] s (s.laneStart n) := by
  unfold State.laneStart
  exact .ite (.step rfl State.enterDetect_parts (.refl _)) (.refl _)

theorem State.enterAcquire_parts {s : State} {n : Nat} : Within [.regs, .line, .tim] s (s.enterAcquire n) := by
  unfold State.enterAcquire
  exact .step rfl State.setLane_parts (.step rfl State.modLane_parts (.refl _))

theorem State.enterFecLock_parts {s : State} {n : Nat} : Within [.regs, .line, .tim] s (s.enterFecLock n) := by
  unfold State.enterFecLock
  exact .step rfl State.setLane_parts (.step rfl State.modLane_parts (.refl _))

theorem State.startCountdown_parts {s : State} {n : Nat} : Within [.line] s (s.startCountdown n) := by
  unfold State.startCountdown
  refine .ite (.refl _) ?_
  split
  · exact .step rfl State.modLane_parts (.refl _)
  · exact .ite (.step rfl State.modLane_parts (.refl _)) (.refl _)

theorem execLosChange_parts {lane : Nat} {lost : Bool} {s : State} :
    OutWithin [.regs, .mem, .line, .tim] s (execLosChange lane lost s) := by
  unfold execLosChange
  exact .next (.ite (.refl _) (.ite (.dup (fun h => .ite (.step rfl State.enterDetect_parts h) h) (.when (.step rfl .setF (.refl _)) fun _
    h1 => .step rfl State.modLane_parts (.step rfl State.laneCount_parts h1))) (.dup (fun h2 => .ite (.step rfl State.enterAcquire_parts
    h2) h2) (.step rfl .put (.refl _)))))

theorem execLaneBackoffEnd_parts {lane : Nat} {s : State} : OutWithin [.regs, .mem, .line, .tim] s (execLaneBackoffEnd lane s) := by
  unfold execLaneBackoffEnd
  exact .next (.ite (.step rfl State.enterAcquire_parts (.refl _)) (.refl _))

theorem execLaneTimeout_parts {lane : Nat} {s : State} : OutWithin [.regs, .mem, .line, .tim] s (execLaneTimeout lane s) := by
  unfold execLaneTimeout
  refine .next ?_
  split
  · exact .ite (.step rfl State.enterDetect_parts (.refl _)) (.refl _)
  · exact .ite (.step rfl State.enterDetect_parts (.refl _)) (.refl _)
  · exact .ite (.step rfl State.enterDetect_parts (.refl _)) (.refl _)
  · exact .ite (.step rfl State.enterDetect_parts (.refl _)) (.refl _)
  · exact .refl _

theorem execMarkerLock_parts {lane : Nat} {s : State} : OutWithin [.regs, .mem, .line, .tim] s (execMarkerLock lane s) := by
  unfold execMarkerLock
  exact .next (.ite (.refl _) (.dup (fun h => .ite (.event (.step rfl .setF h)) h) (.step rfl State.modLane_parts (.step rfl
    State.setLane_parts (.refl _)))))

theorem execFecLock_parts {lane : Nat} {s : State} : OutWithin [.regs, .mem, .line, .tim] s (execFecLock lane s) := by
  unfold execFecLock
  exact .next (.ite (.step rfl State.setLane_parts (.refl _)) (.refl _))

theorem execBackoffReturn_parts {lane : Nat} {s : State} : OutWithin [.regs, .mem] s (execBackoffReturn lane s) := by
  unfold execBackoffReturn
  exact .next (.ite (.step rfl .put (.refl _)) (.refl _))

theorem execRxReady_parts {lane : Nat} {s : State} : OutWithin [.regs, .mem, .line, .tim] s (execRxReady lane s) := by
  unfold execRxReady
  refine .next ?_
  split
  · exact .refl _
  · exact .ite (.refl _) (.dup (fun h => .ite (.step rfl State.enterFecLock_parts h) (.step rfl State.startCountdown_parts h)) (.step rfl
      State.modLane_parts (.refl _)))

theorem execOneSidedTimeout_parts {lane : Nat} {s : State} : OutWithin [.regs, .mem, .line, .tim] s (execOneSidedTimeout lane s) := by
  unfold execOneSidedTimeout
  exact .next (.ite (.dup (fun h => .ite (.step rfl State.enterFecLock_parts h) h) (.event (.step rfl .setF (.refl _)))) (.refl _))

theorem State.levelReq_parts {s : State} {f : Field} {req i : Nat} : Within [.regs] s (s.levelReq f req i).1 := by
  unfold State.levelReq
  dsimp only
  split
  · exact .fst (.refl _)
  · split
    · exact .fst (.step rfl .put (.refl _))
    · exact .fst (.refl _)

theorem State.applyRequest_parts {s : State} {n req : Nat} : Within [.regs] s (s.applyRequest n req).1 := by
  unfold State.applyRequest
  exact .fst (.step rfl State.levelReq_parts (.step rfl State.levelReq_parts (.ite (.step rfl State.setTaps_parts (.refl _)) (.refl _))))

theorem execTrainingCell_parts {lane : Nat} {bytes : List Nat} {s : State} :
    OutWithin [.regs, .mem, .line] s (execTrainingCell lane bytes s) := by
  unfold execTrainingCell
  refine .next (.ite (.refl _) (.step rfl State.startCountdown_parts (.step rfl State.modLane_parts ?_)))
  split
  · exact .fst (.step rfl State.setTaps_parts (.refl _))
  · exact .step rfl State.applyRequest_parts (.refl _)

theorem execEqualiserUpdate_parts {lane : Nat} {o : EqualiserObs} {s : State} :
    OutWithin [.regs, .mem, .line] s (execEqualiserUpdate lane o s) := by
  unfold execEqualiserUpdate
  exact .next (.dup (fun h => .ite h (.step rfl State.modLane_parts h)) (.when (.refl _) fun _ h1 => .step rfl State.lateFlag_parts h1))

theorem State.freezeWindow_parts {s : State} {n : Nat} {ok : Bool} : Within [.regs, .line] s (s.freezeWindow n ok) := by
  unfold State.freezeWindow
  exact .ite (.ite (.refl _) (.step rfl State.modLane_parts (.step rfl .setF (.refl _)))) (.dup (fun h => .ite h (.when (.step rfl .put h)
    fun _ h1 => .event h1)) (.step rfl State.modLane_parts (.step rfl State.laneCount_parts (.refl _))))

theorem execOccupancyWindow_parts {lane : Nat} {o : OccupancyObs} {s : State} :
    OutWithin [.regs, .mem, .line] s (execOccupancyWindow lane o s) := by
  unfold execOccupancyWindow
  exact .next (.ite (.refl _) (.dup (fun h => .ite (.step rfl State.freezeWindow_parts h) (.step rfl .put h)) (.step rfl
    State.modLane_parts (.step rfl .wr (.step rfl .put (.refl _))))))

theorem execFreezeEvent_parts {lane : Nat} {s : State} : OutWithin [.line] s (execFreezeEvent lane s) := by
  unfold execFreezeEvent
  exact .next (.ite (.event (.step rfl State.modLane_parts (.refl _))) (.refl _))

theorem State.startHist_parts {s : State} {lane : Nat} : Within [.regs, .line] s (s.startHist lane) := by
  unfold State.startHist
  exact .step rfl State.modLane_parts (.step rfl .put (.refl _))

theorem execHistReq_parts {rq : Requester} {lane : Nat} {s : State} : OutWithin [.regs, .mem, .line] s (execHistReq rq lane s) := by
  unfold execHistReq
  exact .next (.ite (.step rfl State.startHist_parts (.refl _)) (.refl _))

theorem execHistDone_parts {lane : Nat} {bins : List Nat} {s : State} : OutWithin [.regs, .mem, .line] s (execHistDone lane bins s) := by
  unfold execHistDone
  exact .next (.ite (.step rfl State.modLane_parts (.step rfl .setF (.each (.refl _) fun _ _ h => .step rfl .wr h))) (.refl _))

theorem State.sendCell_parts {s : State} {n : Nat} : Within [.line] s (s.sendCell n) := by
  unfold State.sendCell
  refine .ite (.refl _) ?_
  dsimp only
  split
  · exact .step rfl State.modLane_parts (.refl _)
  · exact .step rfl State.modLane_parts (.refl _)
  · exact .refl _

theorem State.countPeriod_parts {s : State} {n : Nat} : Within [.regs, .line, .tim] s (s.countPeriod n) := by
  unfold State.countPeriod
  split
  · exact .refl _
  · exact .ite (.step rfl State.enterFecLock_parts (.refl _)) (.step rfl State.modLane_parts (.refl _))

theorem State.degrade_parts {s : State} {k bad : Nat} : Within [.regs, .line] s (s.degrade k bad) := by
  unfold State.degrade
  exact .ite (.refl _) (.dup (fun h => .ite (.event (.step rfl .setF h)) h) (.step rfl State.modPort_parts (.refl _)))

theorem execMarkerPeriod_parts {lane : Nat} {o : MarkerObs} {s : State} :
    OutWithin [.regs, .mem, .line, .tim] s (execMarkerPeriod lane o s) := by
  unfold execMarkerPeriod
  exact .next (.ite (.refl _) (.dup (fun h => .dup (fun h1 => .ite h1 (.ite (.step rfl State.enterDetect_parts h1) (.ite (.step rfl
    State.enterDetect_parts h1) h1))) (.step rfl State.countPeriod_parts (.step rfl State.degrade_parts (.step rfl State.sendCell_parts
    (by
      split
      · exact .step rfl State.modLane_parts h
      · exact .step rfl State.modLane_parts (.step rfl .put h))))))
    (.step rfl State.modLane_parts (.when (.step rfl State.portCount_parts (.step rfl State.portCount_parts (.step rfl
      State.portCount_parts (.step rfl State.laneCount_parts (.step rfl State.laneCount_parts (.step rfl State.laneCount_parts (.step rfl
      State.laneCount_parts (.refl _)))))))) fun _ h2 => .step rfl .put h2))))

theorem execFecDegradeClear_parts {port : Nat} {s : State} : OutWithin [.regs, .mem, .line] s (execFecDegradeClear port s) := by
  unfold execFecDegradeClear
  exact .next (.ite (.event (.step rfl State.modPort_parts (.step rfl .put (.refl _)))) (.refl _))

theorem execPortUp_parts {port : Nat} {skews : List Nat} {s : State} :
    OutWithin [.free, .regs, .mem, .line] s (execPortUp port skews s) := by
  unfold execPortUp
  exact .next (.ite (.refl _) (.dup (fun h => .ite (.event (.step rfl State.portCount_parts (.step rfl .setF h))) (.event (.step rfl .setF
    (.step rfl State.modPort_parts (.each h fun _ _ h1 => .step rfl State.fresh_parts (.step rfl .put h1)))))) (.step rfl .put (.refl
    _))))

theorem State.cellDrop_parts {s : State} {n reason type : Nat} : Within [.regs] s (s.cellDrop n reason type) := by
  unfold State.cellDrop
  exact .event (.step rfl State.laneCount_parts (.refl _))

theorem execOverlayCell_parts {lane : Nat} {bytes : List Nat} {s : State} :
    OutWithin [.regs, .mem, .line] s (execOverlayCell lane bytes s) := by
  unfold execOverlayCell
  exact .next (.ite (.refl _) (.ite (.step rfl State.cellDrop_parts (.refl _)) (.ite (.step rfl State.laneCount_parts (.refl _)) (.ite
    (.step rfl State.cellDrop_parts (.refl _)) (.ite (.ite (.step rfl State.cellDrop_parts (.refl _)) (.step rfl State.modLane_parts
    (.refl _))) (.ite (.ite (.step rfl State.cellDrop_parts (.refl _)) (.step rfl State.modLane_parts (.refl _))) (.refl _)))))))

theorem State.queueCell14_parts {s : State} {n type : Nat} {payload : List Nat} : Within [.line] s (s.queueCell14 n type payload) := by
  unfold State.queueCell14
  exact .ite (.refl _) (.step rfl State.modLane_parts (.refl _))

theorem execHeartbeatSend_parts {s : State} : OutWithin [.line] s (execHeartbeatSend s) := by
  unfold execHeartbeatSend
  exact .next (.ite (.refl _) (.each (.step rfl .updLine (.refl _)) fun _ _ h => .each h fun _ _ h1 => .step rfl State.queueCell14_parts
    h1))

theorem execNeighbourUnreachable_parts {port : Nat} {s : State} :
    OutWithin [.regs, .mem, .line, .tim] s (execNeighbourUnreachable port s) := by
  unfold execNeighbourUnreachable
  exact .next (.ite (.step rfl State.neighbourLost_parts (.refl _)) (.refl _))

theorem State.sendOrder_parts {s : State} {k : Nat} {order : List Nat} {hops : Nat} : Within [.line] s (s.sendOrder k order hops) := by
  unfold State.sendOrder
  split
  · exact .refl _
  · exact .each (.refl _) fun _ _ h => .step rfl State.queueCell14_parts h

/-- A message taken off a lane leaves all but the lane. -/
theorem State.popCell_parts {s u : State} {n type : Nat} {c : List Nat} (h : s.popCell n type = some (c, u)) : Within [.line] s u := by
  unfold State.popCell at h
  split at h
  · split at h
    · cases h
      exact State.modLane_parts
    · cases h
  · cases h

theorem execMuteFragment_parts {lane : Nat} {s : State} : OutWithin [.free, .regs, .mem, .line, .sea] s (execMuteFragment lane s) := by
  unfold execMuteFragment
  refine .next ?_
  split
  · exact .refl _
  next hpop =>
    have h : Within [.free, .regs, .mem, .line, .sea] s _ := (State.popCell_parts hpop).mono (by decide)
    exact .ite (.step rfl State.seaSubmit_parts (.step rfl State.modPort_parts h)) (.step rfl State.modPort_parts h)

theorem execFragmentTimeout_parts {port : Nat} {s : State} : OutWithin [.line] s (execFragmentTimeout port s) := by
  unfold execFragmentTimeout
  refine .next ?_
  split
  · exact .ite (.step rfl State.modPort_parts (.refl _)) (.refl _)
  · exact .refl _

theorem execLineRmute_parts {h : Hdr} {addr : Nat} {s : State} : OutWithin [.regs, .mem, .sea] s (execLineRmute h addr s) := by
  unfold execLineRmute
  exact .next (.acceptNow (.refl _) fun _ h => .step rfl State.seaSubmit_parts h)

theorem execLineMode_parts {h : Hdr} {port mode : Nat} {train : Bool} {s : State} :
    OutWithin [.regs, .mem, .line, .tim] s (execLineMode h port mode train s) := by
  unfold execLineMode
  exact .next (.acceptNow (.refl _) fun _ h => .complete (.each (.step rfl .put (.step rfl .put (.each h fun _ _ h1 => .step rfl
    State.enterDown_parts h1))) fun _ _ h2 => .step rfl State.laneStart_parts h2))

theorem execLineRestart_parts {h : Hdr} {mask : Nat} {s : State} : OutWithin [.regs, .mem, .line, .tim] s (execLineRestart h mask s) := by
  unfold execLineRestart
  exact .next (.acceptNow (.refl _) fun _ h => .complete (.each h fun _ _ h1 => .step rfl State.laneStart_parts (.step rfl .put (.step rfl
    State.enterDown_parts h1))))

theorem execLineSnapshot_parts {h : Hdr} {lane addr : Nat} {s : State} : OutWithin [.mem] s (execLineSnapshot h lane addr s) := by
  unfold execLineSnapshot
  exact .next (.acceptNow (.refl _) fun _ h => .complete (.step rfl .hostWrite h))

theorem execLineTest_parts {h : Hdr} {mask pattern addr : Nat} {s : State} :
    OutWithin [.regs, .mem, .line, .tim] s (execLineTest h mask pattern addr s) := by
  unfold execLineTest
  exact .next (.acceptNow (.refl _) fun _ h => .complete (.each h fun _ _ h1 => .ite (.ite (.step rfl State.laneStart_parts (.step rfl
    State.modLane_parts (.step rfl .put h1))) h1) (.step rfl State.modLane_parts (.step rfl .setF (.step rfl State.enterDown_parts h1)))))

theorem execLineTestReport_parts {lane bits errors : Nat} {s : State} :
    OutWithin [.mem, .line] s (execLineTestReport lane bits errors s) := by
  unfold execLineTestReport
  refine .next ?_
  split
  · exact .refl _
  · exact .ite (.refl _) (.when (.step rfl State.modLane_parts (.refl _)) fun _ h => .step rfl .hostWrite h)

end Sys2Proof.Machine
end

section
/-! Frames: the parts that the fronthaul may change. -/
namespace Sys2Proof.Machine
open Sys2Proof

theorem State.fthDrop_parts {s : State} {port r : Nat} : Within [.regs, .fh] s (s.fthDrop port r) := by
  unfold State.fthDrop
  dsimp only
  split
  · exact .step rfl .setF (.step rfl .updFh (.step rfl .add64 (.refl _)))
  · exact .step rfl .setF (.step rfl .updFh (.step rfl .add64 (.refl _)))
  · exact .step rfl .setF (.step rfl .updFh (.step rfl .add64 (.refl _)))
  · exact .step rfl .setF (.step rfl .updFh (.step rfl .add64 (.refl _)))
  · exact .step rfl .setF (.step rfl .updFh (.step rfl .add64 (.refl _)))
  · exact .step rfl .setF (.step rfl .updFh (.step rfl .add64 (.refl _)))
  · exact .step rfl .setF (.step rfl .updFh (.step rfl .add64 (.refl _)))
  · exact .step rfl .setF (.step rfl .updFh (.step rfl .add64 (.refl _)))
  · exact .step rfl .updFh (.step rfl .add64 (.refl _))

theorem State.fhSend_parts {s : State} {port q : Nat} {f : FrameOut} : Within [.regs, .fh, .cul] s (s.fhSend port q f) := by
  unfold State.fhSend
  exact .ite (.ite (.step rfl State.culSend_parts (.refl _)) (.step rfl State.fthDrop_parts (.refl _))) (.ite (.step rfl
    State.fthDrop_parts (.refl _)) (.step rfl .updFh (.refl _)))

theorem State.modMsec_parts {s : State} {k : Nat} {f : MsecPort → MsecPort} : Within [.fh] s (s.modMsec k f) := by
  unfold State.modMsec
  exact .step rfl .updFh (.refl _)

theorem State.fhDrain_parts {s : State} {port : Nat} : Within [.regs, .fh] s (s.fhDrain port) := by
  unfold State.fhDrain
  exact .ite (.refl _) (.when (.step rfl .add64 (.each (.refl _) fun _ _ h => .step rfl .updFh h)) fun _ h1 => .step rfl
    State.modMsec_parts h1)

theorem State.nextSeq_parts {s : State} {key : Nat} : Within [.fh] s (s.nextSeq key).2 := by
  unfold State.nextSeq
  exact .snd (.step rfl .updFh (.refl _))

theorem State.moveSet_parts {s : State} {k new cause : Nat} : Within [.regs] s (s.moveSet k new cause) := by
  unfold State.moveSet
  exact .dup (fun h => .ite h (.event h)) (.step rfl .wr64 (.refl _))

theorem State.takeSeq_parts {s : State} {port key seq : Nat} : Within [.regs, .fh] s (s.takeSeq port key seq).2 := by
  unfold State.takeSeq
  dsimp only
  split
  · exact .snd (.step rfl State.fthDrop_parts (.refl _))
  · exact .snd (.step rfl .updFh (.step rfl .add64 (.refl _)))

theorem State.setFrame_parts {s : State} {set : Option Nat} {port seq : Nat} : Within [.regs, .fh, .cul] s (s.setFrame set port seq).2 := by
  unfold State.setFrame
  split
  · exact .snd (.refl _)
  · split
    · exact .snd (.step rfl State.fthDrop_parts (.refl _))
    · split
      · exact .snd (.ite (.refl _) (.step rfl .add64 (.step rfl State.fhSend_parts (.refl _))))
      · exact .snd (.step rfl State.fthDrop_parts (.refl _))

theorem State.takeSection_parts {s : State} {m : CPlaneIn} {num : Nat} {sym : Nat} {c : CSection} :
    Within [.regs, .beam, .fh] s (s.takeSection m num sym c) := by
  unfold State.takeSection
  exact .ite (.step rfl State.fthDrop_parts (.refl _)) (.ite (.step rfl State.fthDrop_parts (.refl _)) (.ite (.step rfl
    State.fthDrop_parts (.refl _)) (.ite (.step rfl State.fthDrop_parts (.refl _)) (.ite (.refl _) (.dup (fun h => .ite (.each h fun _ _
    h1 => .step rfl State.demandPage_parts h1) h) (.step rfl .updFh (.when (.when (.refl _) fun _ h2 => .step rfl State.fthDrop_parts h2)
    fun _ h3 => .step rfl .setF h3)))))))

theorem execCplaneMessage_parts {m : CPlaneIn} {s : State} :
    OutWithin [.regs, .mem, .beam, .fh, .cul] s (execCplaneMessage m s) := by
  have hsections : ∀ (l : List CSection) (num : Nat) (a : State × Nat), Within [.regs, .beam, .fh] a.1
      (l.foldl (fun (a : State × Nat) c => (a.1.takeSection m num (if c.symInc then a.2 + 1 else a.2) c, if c.symInc then a.2 + 1 else
        a.2)) a).1 := by
    intro l num a
    induction l generalizing a with
    | nil => exact .refl _
    | cons c l ih => exact .step rfl (ih _) State.takeSection_parts
  unfold execCplaneMessage
  exact .dup (fun h => .next (.ite h (.ite (.step rfl State.fthDrop_parts h) (.dup (fun h1 => .ite h1 (by
      split
      · exact h1
      · dsimp only
        split
        · exact .step rfl State.fthDrop_parts h1
        · exact .step rfl (hsections _ _ _) h1)) (.step rfl State.takeSeq_parts h)))))
    (State.setFrame_parts.mono (by decide))

theorem State.modCompDrop_parts {s : State} {c : Nat} : Within [.regs, .tx] s (s.modCompDrop c) := by
  unfold State.modCompDrop
  exact .each (.refl _) fun _ _ h => .step rfl .updTx (.step rfl .setF h)

theorem execUplaneMessage_parts {m : UPlaneIn} {s : State} : OutWithin [.regs, .mem, .tx, .fh, .cul] s (execUplaneMessage m s) := by
  unfold execUplaneMessage
  exact .dup (fun h => .next (.ite h (.ite (.step rfl State.fthDrop_parts h) (.dup (fun h1 => .ite h1 (by
      split
      · exact h1
      · dsimp only
        split
        · exact .step rfl State.fthDrop_parts h1
        · exact .each h1 fun _ _ h2 => .ite (.step rfl State.fthDrop_parts (.when h2 fun _ h3 => .step rfl State.modCompDrop_parts h3))
            (.ite (.step rfl State.fthDrop_parts h2) (.step rfl .updFh h2))))
    (.step rfl State.takeSeq_parts h))))) (.step rfl State.setFrame_parts (.refl _))

theorem State.closeWindows_parts {s : State} : Within [.regs, .fh] s s.closeWindows := by
  unfold State.closeWindows
  exact .step rfl .updFh (.when (.refl _) fun _ h => .step rfl .setF (.step rfl .add64 h))

theorem State.sendFinal_parts {s : State} {set : Nat} {c : CoopSetCmd} {m : PartialSum} {tick : Int} :
    Within [.regs, .fh, .cul] s (s.sendFinal set c m tick) := by
  unfold State.sendFinal
  split
  · exact .refl _
  · exact .dup (fun h => .ite (.step rfl .updFh (.step rfl .setF (.step rfl .add64 h))) h) (.step rfl State.fhSend_parts (.step rfl
      State.nextSeq_parts (.when (.refl _) fun _ h1 => .step rfl .setF h1)))

theorem State.sendSum_parts {s : State} {set : Nat} {c : CoopSetCmd} {m : PartialSum} {tick : Int} :
    Within [.regs, .fh, .cul] s (s.sendSum set c m tick) := by
  unfold State.sendSum
  exact .ite (.step rfl State.sendFinal_parts (.refl _)) (.step rfl State.fhSend_parts (.step rfl State.nextSeq_parts (.refl _)))

theorem State.sendOwn_parts {s : State} {c : CoopSetCmd} {o : OwnSum} : Within [.regs, .fh, .cul] s (s.sendOwn c o) := by
  unfold State.sendOwn
  split
  · exact .refl _
  · exact .ite (.step rfl State.sendSum_parts (.refl _)) (.step rfl State.sendFinal_parts (.refl _))

theorem State.takeOwn_parts {s : State} {o : OwnSum} : Within [.regs, .fh, .cul] s (s.takeOwn o) := by
  unfold State.takeOwn
  split
  · exact .refl _
  · exact .ite (.step rfl State.sendOwn_parts (.refl _)) (.step rfl .updFh (.refl _))

theorem State.combine_parts {s : State} {set : Nat} {c : CoopSetCmd} {m : PartialSum} {tick : Int} :
    Within [.regs, .fh, .cul] s (s.combine set c m tick) := by
  unfold State.combine
  dsimp only
  split
  · exact .step rfl State.sendSum_parts (.refl _)
  · exact .dup (fun h => by
        split
        · exact .step rfl State.sendSum_parts h
        · exact .step rfl State.sendSum_parts (.when h fun _ h1 => .step rfl .setF h1))
      (.step rfl .updFh (.refl _))

theorem execPartialSumMessage_parts {port : Nat} {m : PartialSum} {s : State} :
    OutWithin [.regs, .mem, .fh, .cul] s (execPartialSumMessage port m s) := by
  unfold execPartialSumMessage
  refine .next ?_
  split
  · exact .step rfl State.fthDrop_parts (.refl _)
  · exact .ite (.step rfl State.fthDrop_parts (.refl _)) (.dup (fun h => .ite h (by
        split
        · exact h
        · exact .ite (.step rfl State.fthDrop_parts h) (.ite (.step rfl .updFh h) (.step rfl State.combine_parts h))))
      (.step rfl State.takeSeq_parts (.refl _)))

theorem State.flushEarly_parts {s : State} : Within [.regs, .fh, .cul] s s.flushEarly := by
  unfold State.flushEarly
  exact .each (.step rfl .updFh (.refl _)) fun _ _ h => (by
      split
      · exact .ite (.step rfl State.combine_parts h) h
      · exact h)

theorem execCombiningHoldEnd_parts {set : Nat} {tick : Int} {s : State} :
    OutWithin [.regs, .mem, .fh, .cul] s (execCombiningHoldEnd set tick s) := by
  unfold execCombiningHoldEnd
  refine .next ?_
  split
  · exact .refl _
  · exact .ite (.refl _) (.dup (fun h => by
        dsimp only
        split
        · exact h
        · exact .event (.step rfl .updFh h))
      (.when (.each (.step rfl .updFh (.refl _)) fun _ _ h1 => .step rfl .add64 (.step rfl State.sendOwn_parts h1)) fun _ h2 => .step rfl
        .setF h2))

theorem State.sendUplane_parts {s : State} {c : FhSection} {eaxc port : Nat} {tick : Int} :
    Within [.regs, .fh, .cul] s (s.sendUplane c eaxc port tick) := by
  unfold State.sendUplane
  exact .each (.refl _) fun _ _ h => .step rfl State.fhSend_parts (.step rfl State.nextSeq_parts h)

theorem State.uplaneEgress_parts {s : State} {limit : Option Nat} : Within [.regs, .fh, .cul] s (s.uplaneEgress limit) := by
  unfold State.uplaneEgress
  exact .each (.refl _) fun _ _ h => .ite (.each h fun _ _ h1 => .step rfl State.sendUplane_parts h1) (.ite h (.step rfl
    State.sendUplane_parts h))

theorem State.takeContributions_parts {s : State} {l : List Contribution} : Within [.regs, .fh, .cul] s (s.takeContributions l) := by
  unfold State.takeContributions
  exact .each (.refl _) fun _ _ h => (by
      split
      · exact h
      · exact .each h fun _ _ h1 => .step rfl State.takeOwn_parts h1)

theorem State.takePn_parts {s : State} {k pn : Nat} : Within [.fh] s (s.takePn k pn) := by
  unfold State.takePn
  exact .step rfl State.modMsec_parts (.refl _)

theorem execLineFrame_parts {f : LineFrameIn} {s : State} : OutWithin [.regs, .mem, .fh] s (execLineFrame f s) := by
  unfold execLineFrame
  exact .next (.ite (.refl _) (.dup (fun h => .ite (.step rfl State.fthDrop_parts h) (.ite (.step rfl State.fthDrop_parts h) (by
      dsimp only
      split
      · exact .ite (.ite (.ite (.step rfl State.takePn_parts h) (.step rfl State.fthDrop_parts (.step rfl State.takePn_parts h))) (.ite
          (.step rfl State.takePn_parts h) (.step rfl State.fthDrop_parts (.step rfl State.takePn_parts h)))) (.step rfl
          State.fthDrop_parts h)
      · exact .ite (.step rfl State.fthDrop_parts h) (.ite (.ite h (.step rfl State.fthDrop_parts h)) (.ite h (.step rfl
          State.fthDrop_parts h))))))
    (.step rfl .add64 (.refl _))))

theorem State.sendOwdm_parts {s : State} {port id action : Nat} : Within [.regs, .fh, .cul] s (s.sendOwdm port id action) := by
  unfold State.sendOwdm
  exact .step rfl State.fhSend_parts (.refl _)

theorem execOwdmMessage_parts {m : OwdmIn} {s : State} : OutWithin [.regs, .mem, .fh, .cul] s (execOwdmMessage m s) := by
  unfold execOwdmMessage
  refine .next (.ite (.step rfl State.fthDrop_parts (.refl _)) ?_)
  split
  · exact .step rfl State.sendOwdm_parts (.refl _)
  · exact .step rfl .updFh (.refl _)
  · split
    · exact .refl _
    · exact .complete (.step rfl .hostWrite (.step rfl .updFh (.refl _)))
  · exact .step rfl State.sendOwdm_parts (.refl _)
  · exact .step rfl State.sendOwdm_parts (.step rfl State.sendOwdm_parts (.refl _))
  · exact .ite (.step rfl State.sendOwdm_parts (.step rfl .updFh (.refl _))) (.refl _)
  · exact .step rfl State.fthDrop_parts (.refl _)

theorem execFhOwdm_parts {h : Hdr} {c : FhOwdmCmd} {s : State} : OutWithin [.regs, .mem, .fh, .cul] s (execFhOwdm h c s) := by
  unfold execFhOwdm
  exact .next (.acceptNow (.refl _) fun _ h => .dup (fun h1 => .ite (.step rfl State.sendOwdm_parts (.step rfl State.sendOwdm_parts h1))
    (.step rfl State.sendOwdm_parts h1)) (.step rfl .updFh h))

theorem execOwdmTimeout_parts {id : Nat} {s : State} : OutWithin [.fh] s (execOwdmTimeout id s) := by
  unfold execOwdmTimeout
  refine .next ?_
  split
  · exact .ite (.complete (.step rfl .updFh (.refl _))) (.refl _)
  · exact .refl _

theorem State.msecEvent_parts {s : State} {k what : Nat} : Within [] s (s.msecEvent k what) := by
  unfold State.msecEvent
  exact .event (.refl _)

theorem State.installSak_parts {s : State} {k an : Nat} : Within [.regs, .fh] s (s.installSak k an) := by
  unfold State.installSak
  exact .step rfl State.msecEvent_parts (.step rfl .setF (.step rfl .setF (.step rfl .put (.when (.step rfl State.modMsec_parts (.refl _))
    fun _ h => .step rfl .put h))))

theorem execMkaMessage_parts {m : MkaIn} {s : State} : OutWithin [.regs, .mem, .fh] s (execMkaMessage m s) := by
  unfold execMkaMessage
  exact .next (.ite (.refl _) (.dup (fun h => .dup (fun h1 => by
      dsimp only
      split
      · exact .ite (.step rfl State.modMsec_parts (.step rfl .put h1)) h1
      · exact h1)
    (.ite (by
      split
      · exact .ite h (.step rfl State.installSak_parts h)
      · exact h)
    (.ite (.step rfl State.installSak_parts h) h))) (.when (.step rfl State.modMsec_parts (.step rfl .setF (.refl _))) fun _ h2 => .step
      rfl State.msecEvent_parts h2)))

theorem execMkaHello_parts {s : State} : OutWithin [.regs, .mem, .fh, .cul] s (execMkaHello s) := by
  unfold execMkaHello
  exact .next (.each (.refl _) fun _ _ h => .ite (.step rfl State.fhSend_parts (.step rfl State.modMsec_parts h)) h)

theorem State.dropSas_parts {s : State} {k : Nat} : Within [.regs, .fh] s (s.dropSas k) := by
  unfold State.dropSas
  exact .step rfl .put (.step rfl .put (.step rfl State.modMsec_parts (.refl _)))

theorem execMkaPeerLost_parts {port : Nat} {s : State} : OutWithin [.regs, .mem, .fh] s (execMkaPeerLost port s) := by
  unfold execMkaPeerLost
  exact .next (.ite (.step rfl State.msecEvent_parts (.step rfl .setF (.step rfl State.dropSas_parts (.refl _)))) (.refl _))

theorem execMsecRekey_parts {h : Hdr} {ports : Nat} {s : State} : OutWithin [.fh] s (execMsecRekey h ports s) := by
  unfold execMsecRekey
  exact .next (.acceptNow (.refl _) fun _ h => .complete (.each h fun _ _ h1 => .step rfl State.modMsec_parts h1))

theorem execFlowIdleTimeout_parts {s : State} : OutWithin [.fh] s (execFlowIdleTimeout s) := by
  unfold execFlowIdleTimeout
  exact .next (.step rfl .updFh (.refl _))

theorem execDuReport_parts {s : State} : OutWithin [.regs, .mem, .fh, .cul] s (execDuReport s) := by
  unfold execDuReport
  exact .next (.ite (.refl _) (.step rfl State.fhSend_parts (.step rfl .updFh (.refl _))))

theorem execDropSummary_parts {s : State} : OutWithin [.fh] s (execDropSummary s) := by
  unfold execDropSummary
  exact .next (.each (.step rfl .updFh (.refl _)) fun _ _ h => .event h)

theorem State.fhPlan_parts {s : State} {c : FhCarrierCmd} : Within [.fh] s (s.fhPlan c) := by
  unfold State.fhPlan
  exact .step rfl .updFh (.refl _)

theorem State.applyFhCarrier_parts {s : State} {h : Hdr} {c : FhCarrierCmd} : Within [.fh] s (s.applyFhCarrier h c) := by
  unfold State.applyFhCarrier
  exact .complete (.step rfl .updFh (.step rfl State.fhPlan_parts (.refl _)))

theorem execFhCarrier_parts {h : Hdr} {c : FhCarrierCmd} {s : State} : OutWithin [.regs, .mem, .host] s (execFhCarrier h c s) := by
  unfold execFhCarrier
  exact .next (.step rfl State.acceptTimed_parts (.refl _))

theorem execCoopSet_parts {h : Hdr} {c : CoopSetCmd} {s : State} : OutWithin [.regs, .mem, .host] s (execCoopSet h c s) := by
  unfold execCoopSet
  exact .next (.step rfl State.acceptTimed_parts (.refl _))

theorem State.putSet_parts {s : State} {c : CoopSetCmd} : Within [.regs, .fh] s (s.putSet c) := by
  unfold State.putSet
  exact .dup (fun h => .ite (.step rfl State.moveSet_parts (.step rfl .updFh h)) (.step rfl .updFh (.step rfl State.moveSet_parts h)))
    (.step rfl .updFh (.refl _))

end Sys2Proof.Machine
end

section
/-! Frames: the parts that the receive chains and the culvert lanes may change. -/
namespace Sys2Proof.Machine
open Sys2Proof

theorem State.rxCarrierPlan_parts {s : State} {c : RxCarrierCmd} : Within [.rx] s (s.rxCarrierPlan c) := by
  unfold State.rxCarrierPlan
  exact .each (.refl _) fun _ _ h => .step rfl .updRx h

theorem State.taintCarrier_parts {s : State} {p c until_ : Nat} : Within [.rx] s (s.taintCarrier p c until_) := by
  unfold State.taintCarrier
  exact .step rfl .updRx (.refl _)

theorem State.taintPath_parts {s : State} {p until_ : Nat} : Within [.rx] s (s.taintPath p until_) := by
  unfold State.taintPath
  exact .step rfl .updRx (.refl _)

theorem State.taintChange_parts {s : State} {n : Nat} {c : RxCarrierCmd} : Within [.rx] s (s.taintChange n c) := by
  unfold State.taintChange
  split
  · exact .ite (.each (.refl _) fun _ _ h => .step rfl State.taintCarrier_parts h) (.refl _)
  · exact .refl _

theorem State.abortOccasions_parts {s : State} {carrier : Nat} : Within [.regs, .beam] s (s.abortOccasions carrier) := by
  unfold State.abortOccasions
  exact .ite (.step rfl .setF (.step rfl .updBeam (.refl _))) (.refl _)

theorem State.applyRxCarrier_parts {s : State} {h : Hdr} {c : RxCarrierCmd} :
    Within [.regs, .rx, .beam, .gau] s (s.applyRxCarrier h c) := by
  unfold State.applyRxCarrier
  exact .dup (fun h => .complete (.step rfl State.refreshPlan_parts (.ite h (.step rfl State.tapStop_parts h)))) (.step rfl
    State.rxCarrierPlan_parts (.step rfl State.abortOccasions_parts (.each (.refl _) fun _ _ h1 => .step rfl State.taintChange_parts h1)))

theorem execRxCarrier_parts {h : Hdr} {c : RxCarrierCmd} {s : State} : OutWithin [.regs, .mem, .host] s (execRxCarrier h c s) := by
  unfold execRxCarrier
  exact .next (.step rfl State.acceptTimed_parts (.refl _))

theorem State.rxExtractPlan_parts {s : State} {c : RxExtractCmd} : Within [.rx] s (s.rxExtractPlan c) := by
  unfold State.rxExtractPlan
  exact .each (.refl _) fun _ _ h => .step rfl .updRx h

theorem State.applyRxExtract_parts {s : State} {h : Hdr} {c : RxExtractCmd} : Within [.rx] s (s.applyRxExtract h c) := by
  unfold State.applyRxExtract
  exact .complete (.step rfl State.rxExtractPlan_parts (.refl _))

theorem execRxExtract_parts {h : Hdr} {c : RxExtractCmd} {s : State} : OutWithin [.regs, .mem, .host] s (execRxExtract h c s) := by
  unfold execRxExtract
  exact .next (.step rfl State.acceptTimed_parts (.refl _))

theorem State.addSync_parts {s : State} {p : PendingSync} : Within [.rx] s (s.addSync p) := by
  unfold State.addSync
  exact .step rfl .updRx (.refl _)

theorem State.sendPanelSync_parts {s : State} {h : Hdr} : Within [.cul] s (s.sendPanelSync h) := by
  unfold State.sendPanelSync
  exact .ite (.refl _) (.step rfl State.culSend_parts (.refl _))

theorem execRxSync_parts {h : Hdr} {panel : Bool} {s : State} : OutWithin [.regs, .mem, .host, .cul] s (execRxSync h panel s) := by
  unfold execRxSync
  exact .next (.acceptTimedK (.refl _) fun _ h => .ite (.completeR h) (.step rfl State.hold_parts (.when h fun _ h1 => .step rfl
    State.sendPanelSync_parts h1)))

theorem State.applyRxSync_parts {s : State} {h : Hdr} {panel : Bool} : Within [.rx] s (s.applyRxSync h panel) := by
  unfold State.applyRxSync
  exact .dup (fun h => .ite h (.complete h)) (.step rfl State.addSync_parts (.refl _))

theorem execSyncInEdge_parts {s : State} : OutWithin [.regs, .mem, .rx] s (execSyncInEdge s) := by
  unfold execSyncInEdge
  exact .next (.ite (.refl _) (.dup (fun h => .ite (.step rfl .put h) h) (.step rfl State.addSync_parts (.step rfl .setF (.refl _)))))

theorem State.syncRecord_parts {s : State} {nop : Bool} {source missing edge : Nat} :
    Within [] s (s.syncRecord nop source missing edge) := by
  unfold State.syncRecord
  exact .event (.refl _)

theorem State.applySync_parts {s : State} {edge : Nat} : Within [.regs, .rx] s (s.applySync edge) := by
  unfold State.applySync
  exact .ite (.step rfl .setF (.step rfl .setF (.refl _))) (.each (.step rfl .setF (.step rfl .put (.step rfl .put (.step rfl .updRx
    (.refl _))))) fun _ _ h => .step rfl State.taintPath_parts h)

theorem execSyncEvent_parts {s : State} : OutWithin [.regs, .mem, .rx, .cul] s (execSyncEvent s) := by
  unfold execSyncEvent
  refine .next ?_
  split
  · exact .refl _
  · exact .dup (fun h => by
        dsimp only
        split
        · exact .when (.step rfl State.syncRecord_parts h) fun _ h1 => .step rfl State.culSend_parts h1
        · exact .step rfl .updRx h)
      (.step rfl State.applySync_parts (.step rfl .updRx (.refl _)))

theorem State.endPanelSync_parts {s : State} {c : PanelConfirm} : Within [.regs, .rx] s (s.endPanelSync c) := by
  unfold State.endPanelSync
  exact .dup (fun h => .ite (.complete h) (.complete (.step rfl .setF h))) (.step rfl State.syncRecord_parts (.step rfl .updRx (.refl _)))

theorem execSyncConfirmTimeout_parts {s : State} : OutWithin [.regs, .mem, .rx] s (execSyncConfirmTimeout s) := by
  unfold execSyncConfirmTimeout
  refine .next ?_
  split
  · exact .refl _
  · exact .ite (.step rfl State.endPanelSync_parts (.refl _)) (.refl _)

theorem State.putTileBit_parts {s : State} {f : Field} {p : Nat} {b : Bool} : Within [.regs] s (s.putTileBit f p b) := by
  unfold State.putTileBit
  exact .step rfl .put (.refl _)

theorem execOverloadEpisodeStart_parts {path : Nat} {s : State} : OutWithin [.regs, .mem, .rx] s (execOverloadEpisodeStart path s) := by
  unfold execOverloadEpisodeStart
  exact .next (.ite (.refl _) (.step rfl State.taintPath_parts (.step rfl .add64 (.step rfl State.putTileBit_parts (.step rfl
    State.putTileBit_parts (.step rfl .updRx (.refl _)))))))

theorem execOverloadProtect_parts {path : Nat} {s : State} :
    OutWithin [.regs, .mem, .tx, .rx, .rct, .gau] s (execOverloadProtect path s) := by
  unfold execOverloadProtect
  refine .next ?_
  split
  · exact .refl _
  · exact .ite (.refl _) (.step rfl State.enterProtect_parts (.step rfl State.modStrobes_parts (.step rfl State.putTileBit_parts (.step
      rfl .updRx (.refl _)))))

theorem execOverloadEpisodeEnd_parts {path length : Nat} {s : State} :
    OutWithin [.regs, .mem, .rx, .rct] s (execOverloadEpisodeEnd path length s) := by
  unfold execOverloadEpisodeEnd
  refine .next ?_
  split
  · exact .refl _
  · exact .dup (fun h => .event (.ite (.step rfl State.modProtect_parts h) h)) (.step rfl State.taintPath_parts (.step rfl
      State.putTileBit_parts (.step rfl .updRx (.refl _))))

theorem execRxSatSummary_parts {tile : Nat} {s : State} : OutWithin [.rx] s (execRxSatSummary tile s) := by
  unfold execRxSatSummary
  exact .next (.ite (.refl _) (.event (.step rfl .updRx (.refl _))))

theorem execExtractionDrops_parts {tile : Nat} {s : State} : OutWithin [.rx] s (execExtractionDrops tile s) := by
  unfold execExtractionDrops
  exact .next (.each (.step rfl .updRx (.refl _)) fun _ _ h => .event h)

theorem State.modCulLane_parts {s : State} {n : Nat} {f : CulLane → CulLane} : Within [.cul] s (s.modCulLane n f) := by
  unfold State.modCulLane
  exact .step rfl .updCul (.refl _)

theorem State.modCulLink_parts {s : State} {k : Nat} {f : CulLink → CulLink} : Within [.cul] s (s.modCulLink k f) := by
  unfold State.modCulLink
  exact .step rfl .updCul (.refl _)

theorem State.setAwake_parts {s : State} {n : Nat} {b : Bool} : Within [.regs] s (s.setAwake n b) := by
  unfold State.setAwake
  exact .step rfl .put (.refl _)

theorem State.culReport_parts {s : State} {k : Nat} : Within [.cul] s (s.culReport k) := by
  unfold State.culReport
  exact .step rfl State.culSend_parts (.refl _)

theorem State.refreshLink_parts {s : State} {k : Nat} : Within [.regs, .cul, .tim] s (s.refreshLink k) := by
  unfold State.refreshLink
  exact .ite (.refl _) (.step rfl State.joinPort_parts (.when (.when (.event (.step rfl .put (.refl _))) fun _ h => .step rfl
    State.modCulLink_parts h) fun _ h1 => .step rfl .setF h1))

theorem State.setWant_parts {s : State} {k cause : Nat} : Within [.cul] s (s.setWant k cause) := by
  unfold State.setWant
  exact .ite (.refl _) (.step rfl State.modCulLink_parts (.refl _))

theorem State.setCulRx_parts {s : State} {n new cause : Nat} : Within [.regs, .cul] s (s.setCulRx n new cause) := by
  unfold State.setCulRx
  exact .ite (.refl _) (.event (.step rfl State.modCulLane_parts (.step rfl .put (.refl _))))

theorem State.culStartLane_parts {s : State} {n : Nat} : Within [.regs, .cul] s (s.culStartLane n) := by
  unfold State.culStartLane
  exact .step rfl .put (.step rfl .put (.step rfl State.setAwake_parts (.step rfl State.modCulLane_parts (.refl _))))

theorem State.culStopLane_parts {s : State} {n : Nat} : Within [.regs, .cul] s (s.culStopLane n) := by
  unfold State.culStopLane
  exact .step rfl .put (.step rfl .put (.step rfl .put (.step rfl State.setAwake_parts (.step rfl State.modCulLane_parts (.refl _)))))

theorem State.culRefresh_parts {s : State} : Within [.regs, .cul, .tim] s s.culRefresh := by
  unfold State.culRefresh
  exact .each (.each (.refl _) fun _ _ h => .ite (.ite h (.step rfl State.culStartLane_parts h)) (.ite (.step rfl State.culStopLane_parts
    h) h)) fun _ _ h1 => .step rfl State.refreshLink_parts (.step rfl State.setWant_parts (.ite h1 (.step rfl State.modCulLink_parts
    (.step rfl .put (.step rfl .put h1)))))

theorem execHeaderLock_parts {lane : Nat} {s : State} : OutWithin [.regs, .mem, .cul, .tim] s (execHeaderLock lane s) := by
  unfold execHeaderLock
  exact .next (.ite (.refl _) (.step rfl State.refreshLink_parts (.step rfl State.culReport_parts (.step rfl State.setCulRx_parts (.refl
    _)))))

theorem execLockLoss_parts {lane : Nat} {s : State} : OutWithin [.regs, .mem, .cul, .tim] s (execLockLoss lane s) := by
  unfold execLockLoss
  exact .next (.ite (.refl _) (.step rfl State.refreshLink_parts (.step rfl State.culReport_parts (.step rfl State.setCulRx_parts (.step
    rfl .add64 (.step rfl .add64 (.refl _)))))))

theorem execCulvertSignalLoss_parts {lane : Nat} {s : State} : OutWithin [.regs, .mem, .cul, .tim] s (execCulvertSignalLoss lane s) := by
  unfold execCulvertSignalLoss
  exact .next (.ite (.refl _) (.step rfl State.refreshLink_parts (.step rfl State.culReport_parts (.step rfl State.setCulRx_parts (.when
    (.refl _) fun _ h => .step rfl .add64 h)))))

theorem execCulvertSignalReturn_parts {lane : Nat} {s : State} : OutWithin [.regs, .mem, .cul] s (execCulvertSignalReturn lane s) := by
  unfold execCulvertSignalReturn
  exact .next (.ite (.step rfl State.setCulRx_parts (.step rfl .put (.refl _))) (.refl _))

theorem execSleepBlocks_parts {lane : Nat} {s : State} : OutWithin [.regs, .mem, .cul, .tim] s (execSleepBlocks lane s) := by
  unfold execSleepBlocks
  exact .next (.ite (.refl _) (.step rfl State.refreshLink_parts (.step rfl State.culReport_parts (.step rfl .setF (.step rfl
    State.setCulRx_parts (.refl _))))))

theorem State.followMask_parts {s : State} {k : Nat} {b : AlignIn} : Within [.regs, .cul] s (s.followMask k b) := by
  unfold State.followMask
  exact .ite (.refl _) (.dup (fun h => .ite h (.event (.step rfl .put h))) (.step rfl State.modCulLink_parts (.refl _)))

theorem State.culRehunt_parts {s : State} {n cause : Nat} : Within [.regs, .cul, .tim] s (s.culRehunt n cause) := by
  unfold State.culRehunt
  exact .step rfl State.refreshLink_parts (.step rfl State.culReport_parts (.step rfl State.setCulRx_parts (.refl _)))

theorem execAlignBlock_parts {lane : Nat} {b : AlignIn} {s : State} : OutWithin [.regs, .mem, .cul, .tim] s (execAlignBlock lane b s) := by
  unfold execAlignBlock
  exact .next (.ite (.refl _) (.ite (.ite (.refl _) (.step rfl State.culRehunt_parts (.step rfl .put (.step rfl State.modCulLane_parts
    (.refl _))))) (.ite (.step rfl State.culRehunt_parts (.refl _)) (.step rfl State.refreshLink_parts (.when (.step rfl
    State.followMask_parts (.step rfl .put (.step rfl State.modCulLink_parts (.when (.step rfl State.modCulLane_parts (.step rfl .put
    (.step rfl .add64 (.refl _)))) fun _ h => .step rfl .put h)))) fun _ h1 => .step rfl State.culReport_parts h1)))))

theorem execMismatchReport_parts {link : Nat} {s : State} : OutWithin [.cul] s (execMismatchReport link s) := by
  unfold execMismatchReport
  exact .next (.ite (.event (.step rfl State.modCulLink_parts (.refl _))) (.refl _))

theorem State.culFinish_parts {s : State} {n : Nat} : Within [.cul] s (s.culFinish n) := by
  unfold State.culFinish
  exact .each (.step rfl .updCul (.refl _)) fun _ _ h => .complete h

theorem State.beginSleep_parts {s : State} {n : Nat} : Within [.cul] s (s.beginSleep n) := by
  unfold State.beginSleep
  exact .ite (.refl _) (.step rfl State.modCulLane_parts (.refl _))

theorem State.beginWake_parts {s : State} {n : Nat} : Within [.regs, .cul] s (s.beginWake n) := by
  unfold State.beginWake
  exact .ite (.step rfl State.modCulLane_parts (.refl _)) (.ite (.refl _) (.step rfl State.modCulLane_parts (.step rfl
    State.setAwake_parts (.step rfl .put (.refl _)))))

theorem execCulSleep_parts {h : Hdr} {mask : Nat} {sleep : Bool} {s : State} :
    OutWithin [.regs, .mem, .cul] s (execCulSleep h mask sleep s) := by
  unfold execCulSleep
  exact .next (.acceptNow (.refl _) fun _ h => .ite (.completeX h) (.dup (fun h1 => .ite (.complete h1) (.step rfl .updCul h1)) (.step rfl
    State.setWant_parts (.step rfl State.setWant_parts (.each h fun _ _ h2 => .ite (.step rfl State.beginSleep_parts h2) (.step rfl
    State.beginWake_parts h2))))))

theorem State.autoPlan_parts {s : State} {k : Nat} : Within [.regs, .cul] s (s.autoPlan k) := by
  unfold State.autoPlan
  exact .ite (.refl _) (.each (.refl _) fun _ _ h => .ite (.step rfl State.modCulLane_parts (.step rfl State.beginWake_parts h)) (.step
    rfl State.modCulLane_parts h))

theorem execAutoSleep_parts {link : Nat} {s : State} : OutWithin [.regs, .mem, .cul] s (execAutoSleep link s) := by
  unfold execAutoSleep
  exact .next (.ite (.refl _) (.dup (fun h => .ite h (.step rfl State.setWant_parts (.each h fun _ _ h1 => .step rfl
    State.beginSleep_parts h1))) (.step rfl State.autoPlan_parts (.refl _))))

theorem State.coopWake_parts {s : State} {c : CoopSetCmd} : Within [.regs, .cul] s (s.coopWake c) := by
  unfold State.coopWake
  exact .each (.refl _) fun _ _ h => .each h fun _ _ h1 => .step rfl State.beginWake_parts h1

theorem State.applyCoopSet_parts {s : State} {h : Hdr} {c : CoopSetCmd} : Within [.regs, .fh, .cul] s (s.applyCoopSet h c) := by
  unfold State.applyCoopSet
  exact .ite (.completeR (.step rfl State.coopWake_parts (.refl _))) (.complete (.step rfl State.autoPlan_parts (.step rfl
    State.autoPlan_parts (.step rfl State.putSet_parts (.refl _)))))

theorem execLaneReadd_parts {lane : Nat} {s : State} : OutWithin [.cul] s (execLaneReadd lane s) := by
  unfold execLaneReadd
  refine .next ?_
  split
  · exact .ite (.step rfl State.setWant_parts (.step rfl State.modCulLane_parts (.refl _))) (.refl _)
  · exact .refl _

theorem execCulvertFrame_parts {f : CulFrameIn} {s : State} : OutWithin [.regs, .mem] s (execCulvertFrame f s) := by
  unfold execCulvertFrame
  exact .next (.ite (.refl _) (.ite (.step rfl .add64 (.refl _)) (.ite (.step rfl .add64 (.refl _)) (.refl _))))

theorem State.peerMasks_parts {s : State} {k lock aligned : Nat} : Within [.regs, .cul, .tim] s (s.peerMasks k lock aligned) := by
  unfold State.peerMasks
  exact .step rfl State.refreshLink_parts (.step rfl State.setWant_parts (.each (.step rfl State.modCulLink_parts (.refl _)) fun _ _ h =>
    .step rfl State.modCulLane_parts h))

theorem State.alignLink_parts {s : State} {k : Nat} {marks : List Nat} : Within [.regs, .cul, .tim] s (s.alignLink k marks) := by
  unfold State.alignLink
  exact .step rfl State.refreshLink_parts (.each (.step rfl State.modCulLink_parts (.each (.ite (.refl _) (.event (.step rfl .put (.refl
    _)))) fun _ _ h => .ite (.dup (fun h1 => .ite (.step rfl State.beginWake_parts h1) (.step rfl State.culFinish_parts h1)) (.step rfl
    State.modCulLane_parts (.step rfl .setF (.step rfl State.setAwake_parts h)))) (.ite (.step rfl State.culFinish_parts (.step rfl
    State.modCulLane_parts h)) h))) fun _ _ h2 => .step rfl State.modCulLane_parts h2)

theorem State.culDrain_parts {s : State} {k : Nat} : Within [.regs, .cul] s (s.culDrain k) := by
  unfold State.culDrain
  exact .step rfl .add64 (.step rfl State.modCulLink_parts (.refl _))

theorem execPanelSyncFrame_parts {link : Nat} {f : PanelSync} {s : State} :
    OutWithin [.regs, .mem, .rx, .cul] s (execPanelSyncFrame link f s) := by
  unfold execPanelSyncFrame
  refine .next (.ite (.refl _) (.ite (.ite ?_ (.step rfl State.culSend_parts (.refl _))) (.step rfl State.addSync_parts (.step rfl
    State.culSend_parts (.refl _)))))
  split
  · exact .dup (fun h => .ite (.step rfl State.endPanelSync_parts h) h) (.step rfl .updRx (.refl _))
  · exact .refl _

theorem execCulEyescan_parts {h : Hdr} {mask phi0 phi1 v0 v1 dwell addr : Nat} {s : State} :
    OutWithin [.cul] s (execCulEyescan h mask phi0 phi1 v0 v1 dwell addr s) := by
  unfold execCulEyescan
  exact .next (.acceptNow (.refl _) fun _ h => .step rfl .updCul h)

theorem execEyescanDone_parts {lanes : List EyeLane} {busOk : Bool} {s : State} :
    OutWithin [.mem, .cul] s (execEyescanDone lanes busOk s) := by
  unfold execEyescanDone
  refine .next ?_
  split
  · exact .refl _
  · exact .dup (fun h => .ite (.complete h) (.complete (.step rfl .hostWrite h))) (.step rfl .updCul (.refl _))

end Sys2Proof.Machine
end

section
/-! Frames: the parts that Seawall and the bring-up may change. -/
namespace Sys2Proof.Machine
open Sys2Proof

theorem execSeaIdentity_parts {h : Hdr} {addr : Nat} {s : State} : OutWithin [.regs, .mem, .sea] s (execSeaIdentity h addr s) := by
  unfold execSeaIdentity
  exact .next (.acceptNow (.refl _) fun _ h => .step rfl State.seaSubmit_parts h)

theorem execSeaAttest_parts {h : Hdr} {nonce addr : Nat} {s : State} : OutWithin [.regs, .mem, .sea] s (execSeaAttest h nonce addr s) := by
  unfold execSeaAttest
  exact .next (.acceptNow (.refl _) fun _ h => .step rfl State.seaSubmit_parts h)

theorem execSeaSetId_parts {h : Hdr} {id : Nat} {s : State} : OutWithin [.regs, .mem, .sea] s (execSeaSetId h id s) := by
  unfold execSeaSetId
  exact .next (.acceptNow (.refl _) fun _ h => .step rfl State.seaSubmit_parts h)

theorem execSeaCommit_parts {h : Hdr} {cls version : Nat} {s : State} :
    OutWithin [.regs, .mem, .sea] s (execSeaCommit h cls version s) := by
  unfold execSeaCommit
  exact .next (.acceptNow (.refl _) fun _ h => .step rfl State.seaSubmit_parts h)

theorem execSeaEnrol_parts {h : Hdr} {slot addr : Nat} {s : State} : OutWithin [.regs, .mem, .sea] s (execSeaEnrol h slot addr s) := by
  unfold execSeaEnrol
  exact .next (.acceptNow (.refl _) fun _ h => .step rfl State.seaSubmit_parts h)

theorem execSeaCak_parts {h : Hdr} {addr : Nat} {s : State} : OutWithin [.regs, .mem, .sea] s (execSeaCak h addr s) := by
  unfold execSeaCak
  exact .next (.acceptNow (.refl _) fun _ h => .step rfl State.seaSubmit_parts h)

theorem execSeaRetire_parts {h : Hdr} {uid : Nat} {s : State} : OutWithin [.regs, .mem, .sea] s (execSeaRetire h uid s) := by
  unfold execSeaRetire
  exact .next (.acceptNow (.refl _) fun _ h => .step rfl State.seaSubmit_parts h)

theorem execEntropyFailure_parts {s : State} : OutWithin [.regs, .mem, .sea] s (execEntropyFailure s) := by
  unfold execEntropyFailure
  exact .next (.ite (.refl _) (.event (.step rfl .setF (.step rfl .updSea (.refl _)))))

theorem execEntropyRecovered_parts {s : State} : OutWithin [.sea] s (execEntropyRecovered s) := by
  unfold execEntropyRecovered
  exact .next (.ite (.event (.step rfl .updSea (.refl _))) (.refl _))

theorem State.burnSea_parts {s : State} {field : Nat} {l : List (Nat × Nat)} {stopped : Option Nat} :
    Within [.sea] s (s.burnSea field l stopped).1 := by
  unfold State.burnSea
  exact .fst (.when (.each (.refl _) fun _ _ h => .step rfl State.burn_parts h) fun _ h1 => .event h1)

theorem State.raiseCount_parts {s : State} {c v : Nat} {stopped : Option Nat} : Within [.sea] s (s.raiseCount c v stopped).1 := by
  unfold State.raiseCount
  exact .fst (.when (.step rfl State.burnSea_parts (.refl _)) fun _ h => .event h)

theorem State.acceptLimits_parts {s : State} {h : Hdr} {c : List Nat} {slot : Nat} :
    Within [.regs, .levee, .sea, .boot] s (s.acceptLimits h c slot) := by
  unfold State.acceptLimits
  exact .dup (fun h => .complete (.event (.ite (.step rfl .updSeaBoot h) h))) (.step rfl .setF (.step rfl .updLevee (.refl _)))

theorem State.certRefused_parts {s : State} {h : Hdr} {st ver : Nat} : Within [.regs] s (s.certRefused h st ver) := by
  unfold State.certRefused
  exact .complete (.step rfl State.verifyFail_parts (.refl _))

theorem State.doCert_parts {s : State} {h : Hdr} {addr : Nat} {stopped : Option Nat} :
    Within [.regs, .levee, .sea, .boot] s (s.doCert h addr stopped) := by
  unfold State.doCert
  exact .ite (.step rfl State.certRefused_parts (.refl _)) (.ite (.ite (.step rfl State.certRefused_parts (.refl _)) (.dup (fun h => by
      dsimp only
      split
      · exact .complete h
      · exact .step rfl State.acceptLimits_parts h)
    (.event (.each (.step rfl .updLevee (.refl _)) fun _ _ h1 => .step rfl .updLevee h1)))) (.dup (fun h2 => by
      dsimp only
      split
      · exact .complete h2
      · exact .step rfl State.acceptLimits_parts h2)
    (.step rfl State.raiseCount_parts (.step rfl .updLevee (.refl _)))))

theorem State.setMuteCounter_parts {s : State} {n : Nat} : Within [.sea, .boot] s (s.setMuteCounter n) := by
  unfold State.setMuteCounter
  exact .dup (fun h => .ite (.step rfl .updBoot h) (.step rfl .updBoot h)) (.step rfl .updSea (.refl _))

theorem State.applyOrder_parts {s : State} {o : List Nat} : Within [.regs, .levee, .rct, .line, .gau] s (s.applyOrder o) := by
  unfold State.applyOrder
  exact .each (.refl _) fun _ _ h => .ite (.step rfl State.mutePath_parts (.step rfl .updLine h)) (.dup (fun h1 => .ite (.step rfl
    State.unmutePath_parts h1) h1) (.step rfl .updLine h))

theorem State.takeOrder_parts {s : State} {o : List Nat} {lane hops : Nat} {ports : List Nat} {always : Bool} :
    Within [.regs, .levee, .rct, .line, .sea, .boot, .gau] s (s.takeOrder o lane hops ports always) := by
  unfold State.takeOrder
  exact .dup (fun h => .ite (.each h fun _ _ h1 => .step rfl State.sendOrder_parts h1) h) (.when (.step rfl State.setMuteCounter_parts
    (.refl _)) fun _ h2 => .event (.step rfl State.applyOrder_parts h2))

theorem State.doOrder_parts {s : State} {port : Nat} {o : List Nat} {hops : Nat} :
    Within [.regs, .levee, .rct, .line, .sea, .boot, .gau] s (s.doOrder port o hops) := by
  unfold State.doOrder
  exact .ite (.event (.step rfl State.authCount_parts (.refl _))) (.step rfl State.takeOrder_parts (.refl _))

theorem State.doRmute_parts {s : State} {h : Hdr} {addr : Nat} :
    Within [.regs, .levee, .rct, .line, .sea, .boot, .gau] s (s.doRmute h addr) := by
  unfold State.doRmute
  exact .ite (.complete (.event (.step rfl State.authCount_parts (.refl _)))) (.complete (.step rfl State.takeOrder_parts (.refl _)))

theorem State.modEngine_parts {s : State} {n : Nat} {f : Engine → Engine} : Within [.eng] s (s.modEngine n f) := by
  unfold State.modEngine
  exact .step rfl .updEng (.refl _)

theorem State.kernelWait_parts {s : State} {n : Nat} {h : Hdr} {k : Option Kernel} : Within [.eng] s (s.kernelWait n h k) := by
  unfold State.kernelWait
  refine .step rfl State.modEngine_parts ?_
  split
  · split
    · exact .ite (.refl _) (.complete (.each (.refl _) fun _ _ h => .step rfl State.modEngine_parts h))
    · exact .refl _
  · exact .refl _

theorem State.doKernel_parts {s : State} {h : Hdr} {mask addr len : Nat} : Within [.regs, .eng, .sea] s (s.doKernel h mask addr len) := by
  unfold State.doKernel
  exact .ite (.complete (.step rfl State.verifyFail_parts (.refl _))) (.each (.refl _) fun _ _ h => .step rfl .updSea (.step rfl
    State.kernelWait_parts h))

theorem State.doSetId_parts {s : State} {h : Hdr} {id : Nat} : Within [.free, .sea] s (s.doSetId h id) := by
  unfold State.doSetId
  exact .complete (.step rfl .updSea (.step rfl State.fresh_parts (.refl _)))

theorem State.doCommit_parts {s : State} {h : Hdr} {c v : Nat} {stopped : Option Nat} : Within [.sea] s (s.doCommit h c v stopped) := by
  unfold State.doCommit
  exact .ite (.complete (.refl _)) (.ite (.complete (.refl _)) (.ite (.complete (.refl _)) (.dup (fun h => by
      dsimp only
      split
      · exact .complete h
      · exact .complete (.ite (.step rfl State.burnSea_parts h) h))
    (.step rfl State.raiseCount_parts (.refl _)))))

theorem State.doEnrol_parts {s : State} {h : Hdr} {slot addr : Nat} {stopped : Option Nat} :
    Within [.regs, .sea] s (s.doEnrol h slot addr stopped) := by
  unfold State.doEnrol
  exact .ite (.complete (.step rfl State.authCount_parts (.refl _))) (.dup (fun h => by
      dsimp only
      split
      · exact .complete h
      · exact .complete (.event h))
    (.step rfl State.burnSea_parts (.refl _)))

theorem State.doCak_parts {s : State} {h : Hdr} {addr : Nat} : Within [.regs, .sea] s (s.doCak h addr) := by
  unfold State.doCak
  exact .ite (.complete (.step rfl State.authCount_parts (.refl _))) (.complete (.event (.step rfl .updSea (.each (.refl _) fun _ _ h =>
    .step rfl .put (.step rfl .updSea h)))))

theorem State.doRetire_parts {s : State} {h : Hdr} {stopped : Option Nat} :
    Within [.regs, .tx, .rct, .fh, .sea, .pwr, .gau] s (s.doRetire h stopped) := by
  unfold State.doRetire
  exact .ite (.complete (.refl _)) (.dup (fun h => by
      dsimp only
      split
      · exact .complete h
      · exact .complete (.step rfl State.dropSas_parts (.step rfl State.dropSas_parts (.step rfl .put (.each (.step rfl .updSea h) fun _ _
          h1 => .step rfl State.tileOff_parts h1)))))
    (.step rfl State.burnSea_parts (.refl _)))

theorem State.seaRun_parts {s : State} {j : SeaJob} {stopped : Option Nat} :
    Within [.free, .regs, .mem, .tx, .levee, .rct, .fh, .line, .eng, .sea, .boot, .pwr, .gau] s (s.seaRun j stopped) := by
  unfold State.seaRun
  split
  · exact .step rfl State.doOrder_parts (.refl _)
  · split
    · exact .step rfl State.doCert_parts (.refl _)
    · exact .step rfl State.doRmute_parts (.refl _)
    · exact .step rfl State.doKernel_parts (.refl _)
    · exact .complete (.step rfl .hostWrite (.refl _))
    · exact .complete (.step rfl .hostWrite (.step rfl State.fresh_parts (.refl _)))
    · exact .step rfl State.doSetId_parts (.refl _)
    · exact .step rfl State.doCommit_parts (.refl _)
    · exact .step rfl State.doEnrol_parts (.refl _)
    · exact .step rfl State.doCak_parts (.refl _)
    · exact .step rfl State.doRetire_parts (.refl _)
    · exact .refl _

theorem State.seaNext_parts {s : State} : Within [.regs, .sea] s s.seaNext := by
  unfold State.seaNext
  dsimp only
  split
  · exact .step rfl .put (.step rfl .updSea (.refl _))
  · exact .step rfl .updSea (.refl _)

theorem execSeawallOperationDone_parts {stopped : Option Nat} {s : State} :
    OutWithin [.free, .regs, .mem, .tx, .levee, .rct, .fh, .line, .eng, .sea, .boot, .pwr, .gau] s (execSeawallOperationDone stopped s) :=
      by
  unfold execSeawallOperationDone
  refine .next ?_
  split
  · exact .refl _
  · exact .step rfl State.seaNext_parts (.step rfl State.seaRun_parts (.refl _))

theorem State.loadConfig_parts {s : State} : Within [.regs, .boot] s s.loadConfig := by
  unfold State.loadConfig
  exact .when (.step rfl .put (.step rfl .put (.step rfl .put (.step rfl .put (.step rfl .updBoot (.refl _)))))) fun _ h => .event (.step
    rfl .setF h)

theorem State.setSlot_parts {s : State} {k : Nat} {x : Slot} : Within [.boot] s (s.setSlot k x) := by
  unfold State.setSlot
  exact .step rfl .updBoot (.refl _)

theorem State.slotEvent_parts {s : State} {k what cls st gen : Nat} : Within [] s (s.slotEvent k what cls st gen) := by
  unfold State.slotEvent
  exact .event (.refl _)

theorem State.trySlots_parts {s : State} {l : List Nat} : Within [.boot] s (s.trySlots l).1 := by
  induction l generalizing s with
  | nil => exact .refl _
  | cons k l ih =>
    unfold State.trySlots
    split
    · exact ih
    · dsimp only
      split
      · exact .step rfl State.slotEvent_parts State.setSlot_parts
      · exact .step rfl ih (.step rfl State.slotEvent_parts (.step rfl State.setSlot_parts State.setSlot_parts))

theorem State.chooseSlot_parts {s : State} : Within [.regs, .sea, .boot] s s.chooseSlot := by
  unfold State.chooseSlot
  exact .dup (fun h => by
      dsimp only
      split
      · exact .step rfl .setF h
      · exact .step rfl .put (.step rfl .put (.step rfl .updSea h)))
    (.step rfl .updBoot (.step rfl State.trySlots_parts (.each (.refl _) fun _ _ h1 => .step rfl State.slotEvent_parts (.step rfl
      State.setSlot_parts h1))))

theorem execResetRelease_parts {flashOk fast : Bool} {s : State} :
    OutWithin [.regs, .mem, .sea, .boot, .pwr, .pkg] s (execResetRelease flashOk fast s) := by
  unfold execResetRelease
  exact .next (.ite (.refl _) (.dup (fun h => .ite (.step rfl .setF h) (.dup (fun h1 => .ite h1 (.step rfl State.milestone_parts h1))
    (.step rfl State.chooseSlot_parts (.step rfl .put (.step rfl State.loadConfig_parts (.step rfl State.milestone_parts (.step rfl .put
    (.step rfl .setF h)))))))) (.step rfl State.milestone_parts (.step rfl .updPkg (.step rfl .updBoot (.step rfl .updPwr (.when (.refl _)
    fun _ h2 => .step rfl .setF h2)))))))

theorem State.setMode_parts {s : State} {n mode cause : Nat} : Within [.regs] s (s.setMode n mode cause) := by
  unfold State.setMode
  exact .ite (.refl _) (.event (.step rfl .put (.refl _)))

theorem State.loadEngine_parts {s : State} {n : Nat} {b : List Nat} : Within [.regs, .devMem, .eng, .sea] s (s.loadEngine n b) := by
  unfold State.loadEngine
  exact .step rfl .put (.step rfl .put (.step rfl .put (.step rfl .updSea (.step rfl .devWrite (.step rfl State.modEngine_parts (.refl
    _))))))

theorem State.dumpNotice_parts {s : State} : Within [.flt] s s.dumpNotice := by
  unfold State.dumpNotice
  split
  · exact .refl _
  · exact .event (.step rfl .updFlt (.refl _))

theorem execImageVerification_parts {engine : Nat} {image : List Nat} {s : State} :
    OutWithin [.regs, .mem, .devMem, .eng, .sea, .boot, .flt] s (execImageVerification engine image s) := by
  unfold execImageVerification
  exact .next (.ite (.refl _) (.ite (.step rfl State.verifyFail_parts (.refl _)) (.when (.when (.step rfl State.loadEngine_parts (.refl
    _)) fun _ h => .step rfl State.milestone_parts (.step rfl .put h)) fun _ h1 => .step rfl State.dumpNotice_parts (.step rfl
    State.milestone_parts h1))))

theorem State.takeIdentity_parts {s : State} : Within [.regs, .tim] s s.takeIdentity := by
  unfold State.takeIdentity
  exact .step rfl State.elect_parts (.step rfl .put (.step rfl .put (.step rfl .put (.step rfl .put (.step rfl .put (.refl _))))))

theorem State.chooseLimits_parts {s : State} : Within [.regs, .levee] s s.chooseLimits := by
  unfold State.chooseLimits
  refine .ite (.event (.step rfl State.showNoLimits_parts (.refl _))) (.ite (.step rfl .updLevee (.step rfl State.showLimits_parts (.refl
    _))) ?_)
  split
  · exact .step rfl .updLevee (.step rfl State.showLimits_parts (.refl _))
  · exact .event (.step rfl State.showNoLimits_parts (.refl _))

theorem State.startReference_parts {s : State} : Within [.regs, .rct, .line, .cul, .tim] s s.startReference := by
  unfold State.startReference
  exact .ite (.refl _) (.dup (fun h => .ite (.step rfl State.startSynthCal_parts h) h) (.step rfl State.culRefresh_parts (.each (.refl _)
    fun _ _ h1 => .step rfl State.laneStart_parts h1)))

theorem execImagesOk_parts {s : State} : OutWithin [.regs, .mem, .levee, .rct, .line, .cul, .tim, .boot] s (execImagesOk s) := by
  unfold execImagesOk
  exact .next (.ite (.refl _) (.step rfl State.startReference_parts (.step rfl State.milestone_parts (.each (.step rfl .put (.when (.step
    rfl .setF (.step rfl State.chooseLimits_parts (.step rfl State.milestone_parts (.step rfl State.takeIdentity_parts (.step rfl
    State.milestone_parts (.refl _)))))) fun _ h => .step rfl .setF h)) fun _ _ h1 => .step rfl State.setMode_parts h1))))

theorem execReferenceMeasure_parts {khz : Nat} {s : State} :
    OutWithin [.regs, .mem, .rct, .line, .cul, .tim, .boot] s (execReferenceMeasure khz s) := by
  unfold execReferenceMeasure
  exact .next (.ite (.refl _) (.ite (.ite (.refl _) (.event (.step rfl .updBoot (.refl _)))) (.step rfl State.startReference_parts (.when
    (.step rfl .setF (.step rfl .put (.step rfl .setF (.step rfl .updBoot (.when (.refl _) fun _ h => .event h))))) fun _ h1 => .step rfl
    State.milestone_parts h1))))

theorem execReferenceLost_parts {s : State} : OutWithin [.regs, .mem, .rx, .rct, .boot] s (execReferenceLost s) := by
  unfold execReferenceLost
  exact .next (.ite (.refl _) (.dup (fun h => .step rfl .put (.step rfl .updRct (.ite (.step rfl State.synthLost_parts h) h))) (.step rfl
    .updBoot (.event (.step rfl .put (.refl _))))))

theorem execRailRecheck_parts {outMask : Nat} {s : State} :
    OutWithin [.regs, .mem, .line, .cul, .tim, .boot] s (execRailRecheck outMask s) := by
  unfold execRailRecheck
  exact .dup (fun h => .next (.ite h (.step rfl State.culRefresh_parts (.ite (.each h fun _ _ h1 => .step rfl State.enterDown_parts h1)
    (.each h fun _ _ h2 => .step rfl State.laneStart_parts h2))))) (.each (.step rfl .updBoot (.refl _)) fun _ _ h3 => .event h3)

theorem State.confirmSlot_parts {s : State} : Within [.regs, .boot] s s.confirmSlot := by
  unfold State.confirmSlot
  split
  · exact .ite (.step rfl State.slotEvent_parts (.step rfl .put (.step rfl State.setSlot_parts (.refl _)))) (.refl _)
  · exact .refl _

theorem execConfirm_parts {rq : Requester} {s : State} : OutWithin [.regs, .mem, .boot] s (execConfirm rq s) := by
  unfold execConfirm
  exact .next (.ite (.step rfl State.confirmSlot_parts (.refl _)) (.refl _))

theorem State.endUpdate_parts {s : State} {kind slot st : Nat} : Within [.regs, .boot] s (s.endUpdate kind slot st) := by
  unfold State.endUpdate
  exact .event (.step rfl .put (.step rfl .setF (.step rfl .put (.step rfl .put (.step rfl .updBoot (.refl _))))))

theorem State.startUpdate_parts {s : State} : Within [.regs, .boot] s s.startUpdate := by
  unfold State.startUpdate
  refine .ite (.refl _) ?_
  dsimp only
  split
  · exact .step rfl State.endUpdate_parts (.refl _)
  · exact .step rfl .setF (.step rfl .updBoot (.refl _))

theorem execGo_parts {rq : Requester} {s : State} : OutWithin [.regs, .mem, .boot] s (execGo rq s) := by
  unfold execGo
  exact .next (.ite (.step rfl State.startUpdate_parts (.refl _)) (.refl _))

theorem execUpdateDone_parts {busOk tempOk writeOk : Bool} {s : State} :
    OutWithin [.regs, .mem, .sea, .boot] s (execUpdateDone busOk tempOk writeOk s) := by
  unfold execUpdateDone
  refine .next ?_
  split
  · exact .refl _
  · refine .ite (.step rfl State.endUpdate_parts (.refl _)) (.ite (.ite (.step rfl State.endUpdate_parts (.refl _)) (.ite (.step rfl
      State.endUpdate_parts (.refl _)) (.step rfl State.endUpdate_parts (.step rfl .updBoot (.refl _))))) (.ite (.ite (.step rfl
      State.endUpdate_parts (.refl _)) (.step rfl State.endUpdate_parts (.step rfl .updSea (.refl _)))) ?_))
    split
    · exact .step rfl State.endUpdate_parts (.refl _)
    · dsimp only
      split
      · exact .step rfl State.endUpdate_parts (.step rfl State.authCount_parts (.refl _))
      · exact .ite (.step rfl State.endUpdate_parts (.step rfl State.setSlot_parts (.refl _))) (.ite (.step rfl State.endUpdate_parts
          (.step rfl State.setSlot_parts (.refl _))) (.step rfl State.endUpdate_parts (.step rfl State.setSlot_parts (.refl _))))

end Sys2Proof.Machine
end

section
/-! Frames: the parts that the housekeeping converter and the captures may change. -/
namespace Sys2Proof.Machine
open Sys2Proof

theorem State.showMains_parts {s : State} : Within [.regs] s s.showMains := by
  unfold State.showMains
  exact .step rfl .put (.refl _)

theorem State.setPass_parts {s : State} {cls : Nat} {p : Option Pass} : Within [.hka] s (s.setPass cls p) := by
  unfold State.setPass
  exact .ite (.step rfl .updHka (.refl _)) (.step rfl .updHka (.refl _))

theorem State.beginPass_parts {s : State} {cls : Nat} {hdr : Option Hdr} : Within [.regs, .hka] s (s.beginPass cls hdr) := by
  unfold State.beginPass
  exact .step rfl State.setPass_parts (.each (.refl _) fun _ _ h => .step rfl .wr h)

theorem State.showClass_parts {s : State} : Within [.regs] s s.showClass := by
  unfold State.showClass
  exact .step rfl .put (.refl _)

theorem State.startConv_parts {s : State} {cls chan from_ settle tint : Nat} :
    Within [.regs, .hka] s (s.startConv cls chan from_ settle tint) := by
  unfold State.startConv
  exact .step rfl State.showClass_parts (.step rfl .updHka (.refl _))

theorem State.startEntry_parts {s : State} {cls : Nat} {p : Pass} {from_ : Nat} : Within [.regs, .hka] s (s.startEntry cls p from_) := by
  unfold State.startEntry
  exact .step rfl State.startConv_parts (.step rfl State.setPass_parts (.refl _))

theorem State.hkaNext_parts {s : State} {t : Nat} : Within [.regs, .hka] s (s.hkaNext t) := by
  unfold State.hkaNext
  refine .ite (.refl _) ?_
  dsimp only
  split
  · exact .dup (fun h => .ite (.step rfl State.startConv_parts h) (.step rfl State.startConv_parts h)) (.step rfl .updHka (.refl _))
  · split
    · exact .step rfl State.startEntry_parts (.refl _)
    · exact .step rfl State.startEntry_parts (.refl _)
    · exact .step rfl State.showClass_parts (.refl _)

theorem State.endEntry_parts {s : State} {cls : Nat} {p : Pass} : Within [.regs, .hka] s (s.endEntry cls p) := by
  unfold State.endEntry
  exact .ite (.step rfl State.setPass_parts (.refl _)) (.dup (fun h => .ite (.dup (fun h1 => by
      dsimp only
      split
      · exact .step rfl State.beginPass_parts (.step rfl .put (.step rfl .updHka h1))
      · exact h1)
    (by
      split
      · exact .completeR h
      · exact h))
    (.dup (fun h2 => .ite (.step rfl State.beginPass_parts h2) h2) (.step rfl .put h))) (.step rfl State.setPass_parts (.refl _)))

theorem State.abortConv_parts {s : State} {at_ : Nat} : Within [.regs, .hka] s (s.abortConv at_) := by
  unfold State.abortConv
  split
  · exact .refl _
  · exact .dup (fun h => .ite h (by
        split
        · exact h
        · exact .ite (.step rfl State.setPass_parts h) (.step rfl State.endEntry_parts (.step rfl .setF (.step rfl .updHka (.step rfl .wr
            h))))))
      (.step rfl .updHka (.refl _))

theorem State.hkaPreempt_parts {s : State} : Within [.regs, .hka] s s.hkaPreempt := by
  unfold State.hkaPreempt
  split
  · exact .refl _
  · refine .ite (.refl _) ?_
    split
    · exact .ite (.step rfl State.abortConv_parts (.refl _)) (.refl _)
    · exact .refl _

theorem State.hkaAdvance_parts {s : State} : Within [.regs, .hka] s s.hkaAdvance := by
  unfold State.hkaAdvance
  exact .step rfl State.hkaNext_parts (.step rfl State.hkaPreempt_parts (.refl _))

theorem State.regularTrigger_parts {s : State} : Within [.regs, .hka] s s.regularTrigger := by
  unfold State.regularTrigger
  exact .ite (.refl _) (.ite (.step rfl .setF (.step rfl .updHka (.refl _))) (.step rfl State.hkaNext_parts (.step rfl
    State.beginPass_parts (.step rfl State.hkaAdvance_parts (.refl _)))))

theorem State.urgentTrigger_parts {s : State} {hdr : Option Hdr} : Within [.regs, .hka] s (s.urgentTrigger hdr) := by
  unfold State.urgentTrigger
  exact .ite (.refl _) (.ite (.ite (.event (.step rfl .setF (.step rfl .updHka (.refl _)))) (.step rfl .setF (.step rfl .updHka (.refl
    _)))) (.dup (fun h => .step rfl State.hkaNext_parts (.step rfl State.beginPass_parts (.ite (.step rfl State.abortConv_parts h) h)))
    (.step rfl State.hkaPreempt_parts (.refl _))))

theorem execHkaInject_parts {h : Hdr} {s : State} : OutWithin [.regs, .mem, .hka] s (execHkaInject h s) := by
  unfold execHkaInject
  exact .next (.acceptNow (.refl _) fun _ h => .step rfl State.urgentTrigger_parts h)

theorem execStart_parts {rq : Requester} {s : State} : OutWithin [.regs, .mem, .hka] s (execStart rq s) := by
  unfold execStart
  exact .next (.ite (.step rfl State.regularTrigger_parts (.refl _)) (.refl _))

theorem State.hkaTrigger_parts {s : State} {seq : Nat} : Within [.regs, .hka] s (s.hkaTrigger seq) := by
  unfold State.hkaTrigger
  exact .ite (.step rfl State.regularTrigger_parts (.refl _)) (.step rfl State.urgentTrigger_parts (.refl _))

theorem execHkaTimerTrigger_parts {seq : Nat} {s : State} : OutWithin [.regs, .mem, .hka] s (execHkaTimerTrigger seq s) := by
  unfold execHkaTimerTrigger
  refine .next ?_
  split
  · exact .ite (.step rfl State.hkaTrigger_parts (.step rfl .updHka (.refl _))) (.refl _)
  · exact .refl _

theorem State.hkaFrameEvents_parts {s : State} {on off : Nat → Bool} : Within [.hka] s (s.hkaFrameEvents on off) := by
  unfold State.hkaFrameEvents
  exact .each (.refl _) fun _ _ h => .ite (.step rfl .updHka h) h

theorem execHkaEventTrigger_parts {seq : Nat} {s : State} : OutWithin [.regs, .mem, .hka] s (execHkaEventTrigger seq s) := by
  unfold execHkaEventTrigger
  refine .next ?_
  split
  · exact .dup (fun h => .ite (.step rfl State.hkaTrigger_parts h) h) (.step rfl .updHka (.refl _))
  · exact .refl _

theorem State.streamResult_parts {s : State} {time entry cls chan flags : Nat} {code : Int} :
    Within [] s (s.streamResult time entry cls chan flags code) := by
  unfold State.streamResult
  exact .when (.refl _) fun _ h => .eventAt h

theorem State.overRange_parts {s : State} {c : Conversion} {entry ovr : Nat} : Within [.regs, .hka] s (s.overRange c entry ovr) := by
  unfold State.overRange
  exact .ite (.refl _) (.event (.step rfl .setF (.step rfl .updHka (.refl _))))

theorem State.setSuspect_parts {s : State} {cls : Nat} {b : Bool} : Within [.hka] s (s.setSuspect cls b) := by
  unfold State.setSuspect
  exact .step rfl .updHka (.refl _)

theorem State.takeCode_parts {s : State} {c : Conversion} {p : Pass} {nv : Int} : Within [.regs, .hka] s (s.takeCode c p nv) := by
  unfold State.takeCode
  exact .dup (fun h => .ite (.step rfl State.setPass_parts h) (.step rfl State.endEntry_parts (.step rfl State.streamResult_parts (.step
    rfl .wr (.step rfl State.setSuspect_parts h))))) (.step rfl State.overRange_parts (.refl _))

theorem execConversionDone_parts {nv : Int} {s : State} : OutWithin [.regs, .mem, .hka] s (execConversionDone nv s) := by
  unfold execConversionDone
  exact .dup (fun h => .next (by
      split
      · exact h
      · exact .ite h (.dup (fun h1 => .ite (.step rfl State.hkaNext_parts (.step rfl State.streamResult_parts (.step rfl
          State.setSuspect_parts (.step rfl State.overRange_parts h1)))) (by
            split
            · exact .step rfl State.hkaNext_parts (.step rfl State.takeCode_parts h1)
            · exact .step rfl State.hkaNext_parts h1))
          (.step rfl .updHka h))))
    (.step rfl State.hkaAdvance_parts (.refl _))

theorem State.readBack_parts {s : State} {n k : Nat} {nv : Int} : Within [.regs, .tx, .rct, .gau] s (s.readBack n k nv) := by
  unfold State.readBack
  exact .dup (fun h => .ite (.when (.event h) fun _ h1 => .step rfl State.enterProtect_parts h1) h) (.step rfl .put (.refl _))

theorem execBiasReadback_parts {nv : Int} {s : State} : OutWithin [.regs, .mem, .tx, .rct, .hka, .gau] s (execBiasReadback nv s) := by
  unfold execBiasReadback
  exact .dup (fun h => .next (by
      split
      · exact h
      · exact .ite h (.step rfl State.hkaNext_parts (.step rfl State.readBack_parts (.step rfl .updHka h)))))
    (.step rfl State.hkaAdvance_parts (.refl _))

theorem execBiasSweep_parts {s : State} : OutWithin [.regs, .mem, .hka] s (execBiasSweep s) := by
  unfold execBiasSweep
  exact .next (.ite (.refl _) (.step rfl State.hkaAdvance_parts (.step rfl .updHka (.refl _))))

theorem execSupplyCheck_parts {s : State} : OutWithin [.regs, .mem, .hka] s (execSupplyCheck s) := by
  unfold execSupplyCheck
  exact .next (.ite (.step rfl State.hkaAdvance_parts (.step rfl .updHka (.refl _))) (.refl _))

theorem State.mainsRecord_parts {s : State} {kind : Nat} : Within [] s (s.mainsRecord kind) := by
  unfold State.mainsRecord
  exact .event (.refl _)

theorem State.mainsLost_parts {s : State} : Within [.regs, .hka] s s.mainsLost := by
  unfold State.mainsLost
  exact .dup (fun h => .ite h (.step rfl State.mainsRecord_parts (.step rfl State.showMains_parts (.step rfl .setF (.step rfl .put h)))))
    (.step rfl .updHka (.refl _))

theorem execMainsEdge_parts {s : State} : OutWithin [.regs, .mem, .hka] s (execMainsEdge s) := by
  unfold execMainsEdge
  refine .next (.ite (.refl _) ?_)
  split
  · exact .step rfl .updHka (.refl _)
  · exact .dup (fun h => .ite (.step rfl State.mainsLost_parts h) (.dup (fun h1 => .ite (.step rfl State.mainsRecord_parts (.step rfl
      State.showMains_parts (.step rfl .setF h1))) (.step rfl State.showMains_parts h1)) (.step rfl .updHka h))) (.step rfl .updHka (.refl
      _))

theorem execMainsLoss_parts {s : State} : OutWithin [.regs, .mem, .hka] s (execMainsLoss s) := by
  unfold execMainsLoss
  refine .next ?_
  split
  · exact .ite (.step rfl State.mainsLost_parts (.step rfl .updHka (.refl _))) (.refl _)
  · exact .refl _

theorem State.hkaAgree_parts {s : State} : Within [.regs, .hka] s s.hkaAgree := by
  unfold State.hkaAgree
  split
  · exact .refl _
  · exact .step rfl State.showClass_parts (.step rfl .updHka (.refl _))

theorem State.hkaSleep_parts {s : State} : Within [.regs, .hka] s s.hkaSleep := by
  unfold State.hkaSleep
  exact .each (.step rfl State.showMains_parts (.step rfl .put (.step rfl .put (.step rfl .put (.step rfl .updHka (.refl _)))))) fun _ _ h
    => .complete h

theorem execGauStream_parts {h : Hdr} {c : GauStreamCmd} {s : State} : OutWithin [.regs, .mem, .gau] s (execGauStream h c s) := by
  unfold execGauStream
  exact .next (.acceptNow (.refl _) fun _ h => .complete (.step rfl .put (.step rfl .updGau h)))

theorem State.enterPre_parts {s : State} {ks : List Nat} : Within [.regs, .gau] s (s.enterPre ks) := by
  unfold State.enterPre
  exact .each (.refl _) fun _ _ h => .step rfl State.setGau_parts (by
      split
      · exact .step rfl .updGau h
      · exact h)

theorem execGauArm_parts {h : Hdr} {c : GauArmCmd} {s : State} : OutWithin [.regs, .mem, .host, .gau] s (execGauArm h c s) := by
  unfold execGauArm
  exact .next (.acceptNow (.refl _) fun _ h => .dup (fun h1 => .ite (.complete h1) h1) (.each (.step rfl State.enterPre_parts (.step rfl
    State.setCap_parts h)) fun _ _ h2 => .step rfl .put h2))

theorem State.endCapture_parts {s : State} {k : Nat} {c : Capture} : Within [.regs, .gau] s (s.endCapture k c) := by
  unfold State.endCapture
  exact .dup (fun h => .dup (fun h1 => .ite (.complete h1) h1) (by
      split
      · exact .event h
      · exact h))
    (.each (.step rfl .updGau (.refl _)) fun _ _ h2 => .step rfl State.setGau_parts h2)

theorem execGauStop_parts {h : Hdr} {mask : Nat} {s : State} : OutWithin [.regs, .mem, .gau] s (execGauStop h mask s) := by
  unfold execGauStop
  exact .next (.acceptNow (.refl _) fun _ h => .complete (.each h fun _ _ h1 => by
      split
      · exact h1
      · exact .ite h1 (.dup (fun h2 => .ite (.step rfl State.setCap_parts h2) (.ite (.step rfl State.setCap_parts h2) (.step rfl
          State.endCapture_parts h2))) (.step rfl .setF h1))))

theorem execGauForce_parts {h : Hdr} {mask : Nat} {s : State} : OutWithin [.regs, .mem, .gau] s (execGauForce h mask s) := by
  unfold execGauForce
  exact .next (.acceptNow (.refl _) fun _ h => .complete (.each h fun _ _ h1 => .step rfl State.gauMeet_parts h1))

theorem execGauMask_parts {h : Hdr} {addr : Nat} {s : State} : OutWithin [.gau] s (execGauMask h addr s) := by
  unfold execGauMask
  exact .next (.acceptNow (.refl _) fun _ h => .ite (.complete h) (.complete (.step rfl .updGau h)))

theorem execGaugeTrigEdge_parts {rising : Bool} {s : State} : OutWithin [.regs, .mem, .gau, .pkg] s (execGaugeTrigEdge rising s) := by
  unfold execGaugeTrigEdge
  exact .dup (fun h => .next (.ite (.each h fun _ _ h1 => .step rfl State.gauMeet_parts h1) h)) (.step rfl .updPkg (.refl _))

theorem execAutoTrigger_parts {source : Nat} {s : State} : OutWithin [.regs, .mem, .gau] s (execAutoTrigger source s) := by
  unfold execAutoTrigger
  refine .next ?_
  split
  · exact .ite (.step rfl State.gauMeet_parts (.refl _)) (.refl _)
  · exact .refl _

theorem execGaugeTrigger_parts {source conds : Nat} {s : State} : OutWithin [.regs, .mem, .gau] s (execGaugeTrigger source conds s) := by
  unfold execGaugeTrigger
  refine .next ?_
  split
  · exact .ite (.ite (.each (.refl _) fun _ _ h => by
        split
        · exact .step rfl State.gauMissed_parts h
        · exact h)
      (.refl _)) (.ite (.refl _) (.ite (.step rfl .put (.step rfl State.setCap_parts (.refl _))) (.each (.step rfl State.setCap_parts
        (.refl _)) fun _ _ h1 => .step rfl State.setGau_parts h1)))
  · exact .refl _

theorem State.writeRolled_parts {s : State} {base area ofs : Nat} {data : List Nat} :
    Within [.devMem] s (s.writeRolled base area ofs data) := by
  unfold State.writeRolled
  exact .step rfl .devWrite (.step rfl .devWrite (.refl _))

theorem State.writeRecord_parts {s : State} {k j : Nat} {data : List GauSamples} :
    Within [.regs, .devMem, .gau] s (s.writeRecord k j data) := by
  unfold State.writeRecord
  split
  · exact .step rfl State.setGau_parts (.step rfl State.setCap_parts (.step rfl State.writeRolled_parts (.step rfl .devWrite (.step rfl
      .put (.refl _)))))
  · exact .refl _

theorem State.recordEvents_parts {s : State} {c : Capture} : Within [] s (s.recordEvents c) := by
  unfold State.recordEvents
  exact .each (.refl _) fun _ _ h => (by
      split
      · exact .event h
      · exact h)

theorem State.afterRecords_parts {s : State} {k : Nat} : Within [.regs, .gau] s (s.afterRecords k) := by
  unfold State.afterRecords
  split
  · exact .refl _
  · exact .dup (fun h => .ite (.each (.step rfl State.setCap_parts h) fun _ _ h1 => .step rfl State.setGau_parts h1) (.step rfl
      State.endCapture_parts h)) (.step rfl State.recordEvents_parts (.refl _))

theorem execGaugeRecord_parts {source : Nat} {data : List GauSamples} {s : State} :
    OutWithin [.regs, .mem, .devMem, .gau] s (execGaugeRecord source data s) := by
  unfold execGaugeRecord
  refine .next ?_
  split
  · exact .refl _
  · exact .ite (.refl _) (.dup (fun h => .ite h (.step rfl State.afterRecords_parts h)) (.each (.refl _) fun _ _ h1 => .step rfl
      State.writeRecord_parts h1))

theorem execGaugeDrained_parts {source : Nat} {s : State} : OutWithin [.regs, .mem, .gau] s (execGaugeDrained source s) := by
  unfold execGaugeDrained
  refine .next ?_
  split
  · exact .refl _
  · exact .ite (.refl _) (.step rfl State.afterRecords_parts (.each (.refl _) fun _ _ h => by
        split
        · exact .step rfl .hostWrite h
        · exact h))

theorem execGaugeRearm_parts {source : Nat} {s : State} : OutWithin [.regs, .mem, .gau] s (execGaugeRearm source s) := by
  unfold execGaugeRearm
  refine .next ?_
  split
  · exact .refl _
  · exact .ite (.refl _) (.step rfl State.enterPre_parts (.step rfl State.setCap_parts (.each (.refl _) fun _ _ h => by
        split
        · exact .step rfl .put (.step rfl .updGau h)
        · exact h)))

theorem State.gauDiscard_parts {s : State} : Within [.regs, .gau] s s.gauDiscard := by
  unfold State.gauDiscard
  exact .step rfl .updGau (.each (.refl _) fun _ _ h => .step rfl State.setGau_parts h)

end Sys2Proof.Machine
end

section
/-! Frames: the parts that Sluice and the power states may change. -/
namespace Sys2Proof.Machine
open Sys2Proof

theorem State.modSlu_parts {s : State} {c : Nat} {f : SluChan → SluChan} : Within [.slu] s (s.modSlu c f) := by
  unfold State.modSlu
  exact .step rfl .updSlu (.refl _)

theorem State.sluTo_parts {s : State} {c new : Nat} : Within [.regs] s (s.sluTo c new) := by
  unfold State.sluTo
  exact .ite (.refl _) (.event (.step rfl .put (.refl _)))

theorem execSluiceDescriptor_parts {ch : Nat} {busFail : Option SluFail} {s : State} :
    OutWithin [.free, .regs, .mem, .slu] s (execSluiceDescriptor ch busFail s) := by
  unfold execSluiceDescriptor
  exact .next (.ite (.refl _) (.ite (.step rfl State.sluTo_parts (.event (.step rfl .setF (.refl _)))) (.step rfl State.modSlu_parts
    (.step rfl State.fresh_parts (.refl _)))))

theorem State.sluFollow_parts {s : State} {c ctrl : Nat} : Within [.regs, .slu] s (s.sluFollow c ctrl) := by
  unfold State.sluFollow
  exact .ite (.step rfl State.sluTo_parts (.step rfl State.modSlu_parts (.step rfl .put (.step rfl .put (.refl _))))) (.ite (.step rfl
    State.sluTo_parts (.refl _)) (.step rfl State.sluTo_parts (.step rfl .wr64 (.refl _))))

theorem State.sluEnd_parts {s : State} {c pos : Nat} {j : SluJob} : Within [.regs, .slu] s (s.sluEnd c pos j) := by
  unfold State.sluEnd
  exact .ite (.when (.refl _) fun _ h => .event h) (.event (.when (.step rfl .setF (.refl _)) fun _ h1 => .step rfl .wr64 (.step rfl
    State.modSlu_parts h1)))

theorem execDescriptorComplete_parts {ch : Nat} {s : State} : OutWithin [.regs, .mem, .devMem, .slu] s (execDescriptorComplete ch s) := by
  unfold execDescriptorComplete
  refine .next ?_
  split
  · exact .refl _
  · exact .dup (fun h => .ite (.each (.step rfl State.sluTo_parts (.step rfl .put (.step rfl State.modSlu_parts h))) fun _ _ h1 =>
      .completeR h1) (.ite (.step rfl State.sluTo_parts h) (.step rfl State.sluFollow_parts h))) (.step rfl State.sluEnd_parts (.step rfl
      .add64 (.step rfl State.modSlu_parts (.each (.refl _) fun _ _ h2 => .ite (.step rfl .devWrite h2) (.step rfl .hostWrite h2)))))

theorem execCtrlPoll_parts {ch : Nat} {s : State} : OutWithin [.regs, .mem, .slu] s (execCtrlPoll ch s) := by
  unfold execCtrlPoll
  exact .next (.ite (.refl _) (.ite (.step rfl State.sluFollow_parts (.refl _)) (.dup (fun h => .ite (.step rfl State.sluTo_parts h) h)
    (.step rfl State.modSlu_parts (.step rfl .put (.refl _))))))

theorem State.sluKickOne_parts {s : State} {c : Nat} : Within [.regs, .slu] s (s.sluKickOne c) := by
  unfold State.sluKickOne
  exact .ite (.step rfl .setF (.refl _)) (.ite (.step rfl State.sluTo_parts (.step rfl State.modSlu_parts (.step rfl .put (.refl _))))
    (.refl _))

theorem State.sluKick_parts {s : State} {value : Nat} : Within [.regs, .slu] s (s.sluKick value) := by
  unfold State.sluKick
  exact .each (.refl _) fun _ _ h => .step rfl State.sluKickOne_parts h

theorem execSluKick_parts {rq : Requester} {value : Nat} {s : State} : OutWithin [.regs, .mem, .slu] s (execSluKick rq value s) := by
  unfold execSluKick
  exact .next (.ite (.step rfl State.sluKick_parts (.refl _)) (.refl _))

theorem execSluChain_parts {h : Hdr} {ch : Nat} {stopOnErr : Bool} {head : Nat} {s : State} :
    OutWithin [.regs, .mem, .slu] s (execSluChain h ch stopOnErr head s) := by
  unfold execSluChain
  exact .next (.acceptNow (.refl _) fun _ h => .complete (.step rfl State.sluTo_parts (.step rfl .put (.step rfl .wr64 (.step rfl .wr64
    (.step rfl .put (.step rfl State.modSlu_parts h)))))))

theorem execSluStop_parts {h : Hdr} {ch : Nat} {s : State} : OutWithin [.regs, .mem, .slu] s (execSluStop h ch s) := by
  unfold execSluStop
  exact .next (.acceptNow (.refl _) fun _ h => .ite (.step rfl State.modSlu_parts h) (.completeR (.step rfl State.sluTo_parts (.step rfl
    .put h))))

theorem State.reqOver_parts {s : State} : Within [.regs, .pwr] s s.reqOver := by
  unfold State.reqOver
  exact .step rfl .put (.step rfl .updPwr (.refl _))

theorem State.endTileCmd_parts {s : State} {k st : Nat} {result : List Nat} : Within [.regs, .pwr] s (s.endTileCmd k st result) := by
  unfold State.endTileCmd
  split
  · exact .refl _
  · exact .dup (fun h => .completeR (.ite (.step rfl State.reqOver_parts h) h)) (.step rfl .updPwr (.refl _))

theorem State.supersede_parts {s : State} {l : List Nat} : Within [.regs, .pwr] s (s.supersede l) := by
  unfold State.supersede
  exact .each (.refl _) fun _ _ h => .step rfl State.endTileCmd_parts h

theorem State.settleCmd_parts {s : State} {k : Nat} : Within [.regs, .pwr] s (s.settleCmd k) := by
  unfold State.settleCmd
  split
  · exact .refl _
  · exact .ite (.refl _) (.ite (.step rfl State.endTileCmd_parts (.refl _)) (.step rfl State.endTileCmd_parts (.refl _)))

theorem State.tileDone_parts {s : State} {k n : Nat} {ok : Bool} : Within [.regs, .pwr] s (s.tileDone k n ok) := by
  unfold State.tileDone
  split
  · exact .refl _
  · exact .step rfl State.settleCmd_parts (.step rfl .updPwr (.refl _))

theorem State.countFrom_parts {s : State} {k t : Nat} : Within [.pwr] s (s.countFrom k t) := by
  unfold State.countFrom
  split
  · exact .refl _
  · exact .step rfl .updPwr (.refl _)

theorem State.setJob_parts {s : State} {n : Nat} {j : Option TileJob} : Within [.regs, .pwr] s (s.setJob n j) := by
  unfold State.setJob
  exact .step rfl State.showPhase_parts (.step rfl .updPwr (.refl _))

theorem State.setQueued_parts {s : State} {n : Nat} {j : Option TileJob} : Within [.regs, .pwr] s (s.setQueued n j) := by
  unfold State.setQueued
  exact .step rfl State.showPhase_parts (.step rfl .updPwr (.refl _))

theorem State.requeue_parts {s : State} {n : Nat} {j : Option TileJob} : Within [.regs, .pwr] s (s.requeue n j) := by
  unfold State.requeue
  exact .step rfl State.supersede_parts (.step rfl State.setQueued_parts (.refl _))

theorem State.showAuto_parts {s : State} {n : Nat} {b : Bool} : Within [.regs] s (s.showAuto n b) := by
  unfold State.showAuto
  exact .step rfl .put (.refl _)

theorem State.gateTile_parts {s : State} {n cause who : Nat} {cmds : List Nat} :
    Within [.regs, .tx, .rct, .pwr, .gau] s (s.gateTile n cause who cmds) := by
  unfold State.gateTile
  split
  · exact .ite (.step rfl State.requeue_parts (.refl _)) (.step rfl State.setJob_parts (.step rfl State.requeue_parts (.refl _)))
  · exact .ite (.each (.refl _) fun _ _ h => .step rfl State.tileDone_parts h) (.step rfl State.setJob_parts (.step rfl
      State.tileOffBy_parts (.refl _)))

theorem State.ungateTile_parts {s : State} {n who : Nat} {cmds : List Nat} : Within [.regs, .pwr] s (s.ungateTile n who cmds) := by
  unfold State.ungateTile
  split
  · exact .ite (.step rfl State.setJob_parts (.step rfl State.requeue_parts (.refl _))) (.each (.step rfl State.requeue_parts (.refl _))
      fun _ _ h => .step rfl State.countFrom_parts h)
  · exact .ite (.each (.refl _) fun _ _ h1 => .step rfl State.tileDone_parts h1) (.step rfl State.setJob_parts (.refl _))

theorem State.powerRecord_parts {s : State} {old new cause us : Nat} : Within [] s (s.powerRecord old new cause us) := by
  unfold State.powerRecord
  exact .event (.refl _)

theorem State.addTileCmd_parts {s : State} {c : TileCmd} : Within [.pwr] s (s.addTileCmd c).1 := by
  unfold State.addTileCmd
  exact .fst (.step rfl .updPwr (.refl _))

theorem State.startPolder_parts {s : State} {q : PwrReq} : Within [.regs, .pwr, .hka] s (s.startPolder q) := by
  unfold State.startPolder
  split
  · exact .completeX (.event (.ite (.refl _) (.step rfl State.hkaNext_parts (.step rfl State.hkaAgree_parts (.refl _)))))
  · exact .step rfl .setF (.step rfl .updPwr (.refl _))

theorem State.startTiles_parts {s : State} {q : PwrReq} : Within [.regs, .tx, .rct, .pwr, .gau] s (s.startTiles q) := by
  unfold State.startTiles
  exact .ite (.each (.step rfl State.addTileCmd_parts (.step rfl .setF (.step rfl .updPwr (.refl _)))) fun _ _ h => .ite (.step rfl
    State.gateTile_parts (.step rfl State.showAuto_parts (.step rfl .updPwr h))) (.step rfl State.ungateTile_parts h)) (.complete (.refl
    _))

theorem State.startQueued_parts {s : State} : Within [.regs, .tx, .rct, .pwr, .hka, .gau] s s.startQueued := by
  unfold State.startQueued
  split
  · exact .dup (fun h => .ite (.step rfl State.startPolder_parts h) (.step rfl State.startTiles_parts h)) (.step rfl .put (.step rfl
      .updPwr (.refl _)))
  · exact .refl _

theorem State.queuePwr_parts {s : State} {q : Option PwrReq} : Within [.regs, .pwr] s (s.queuePwr q) := by
  unfold State.queuePwr
  exact .dup (fun h => by
      dsimp only
      split
      · exact .complete h
      · exact h)
    (.step rfl .put (.step rfl .updPwr (.refl _)))

theorem State.synthOff_parts {s : State} : Within [.regs, .rx, .rct] s s.synthOff := by
  unfold State.synthOff
  exact .step rfl .put (.step rfl .put (.step rfl .put (.step rfl .put (.step rfl .put (.step rfl .updRxRct (.refl _))))))

theorem State.stopDomains_parts {s : State} : Within [.regs, .rx, .rct, .line, .cul, .tim, .hka] s s.stopDomains := by
  unfold State.stopDomains
  exact .dup (fun h => .ite (.step rfl State.clockTo_parts h) h) (.step rfl State.synthOff_parts (.step rfl State.hkaSleep_parts (.step
    rfl State.culRefresh_parts (.each (.refl _) fun _ _ h1 => .step rfl State.enterDown_parts h1))))

theorem State.startDormant_parts {s : State} {q : PwrReq} :
    Within [.regs, .tx, .rx, .rct, .line, .cul, .tim, .pwr, .hka, .gau] s (s.startDormant q) := by
  unfold State.startDormant
  exact .dup (fun h => .step rfl State.stopDomains_parts (.step rfl State.gauDiscard_parts (.each (.step rfl .setF (.step rfl .put (.step
    rfl .wr (.step rfl .updPwr (.step rfl State.supersede_parts (by
      split
      · exact .ite (.complete h) h
      · exact h))))))
    fun _ _ h1 => .step rfl .put (.step rfl State.setTileState_parts h1)))) (.step rfl State.queuePwr_parts (.refl _))

theorem execPwrState_parts {h : Hdr} {target mask sources timer : Nat} {s : State} :
    OutWithin [.regs, .mem, .tx, .rx, .rct, .line, .cul, .tim, .pwr, .hka, .gau] s (execPwrState h target mask sources timer s) := by
  unfold execPwrState
  exact .next (.acceptNow (.refl _) fun _ h => .ite (.step rfl State.startDormant_parts h) (.ite (.ite (.step rfl State.startPolder_parts
    h) (.step rfl State.startTiles_parts h)) (.step rfl State.queuePwr_parts h)))

theorem execTileState_parts {h : Hdr} {tileMask target : Nat} {s : State} :
    OutWithin [.regs, .mem, .host] s (execTileState h tileMask target s) := by
  unfold execTileState
  exact .next (.step rfl State.acceptTimed_parts (.refl _))

theorem State.applyTileState_parts {s : State} {h : Hdr} {tileMask target : Nat} :
    Within [.regs, .tx, .rct, .pwr, .gau] s (s.applyTileState h tileMask target) := by
  unfold State.applyTileState
  exact .ite (.complete (.each (.refl _) fun _ _ h => .step rfl State.enterProtect_parts h)) (.ite (.complete (.each (.refl _) fun _ _ h1
    => .dup (fun h2 => .ite (.step rfl State.leaveProtect_parts h2) h2) (.step rfl .put h1))) (.step rfl State.settleCmd_parts (.each
    (.step rfl State.addTileCmd_parts (.refl _)) fun _ _ h3 => .ite (.step rfl State.gateTile_parts (.step rfl State.showAuto_parts (.step
    rfl .updPwr h3))) (.ite (.step rfl State.tileDone_parts h3) (.ite (.step rfl State.ungateTile_parts h3) (.step rfl
    State.tileDone_parts h3))))))

theorem execTileGated_parts {tile : Nat} {s : State} : OutWithin [.regs, .mem, .tx, .rct, .pwr, .hka, .gau] s (execTileGated tile s) := by
  unfold execTileGated
  refine .next ?_
  split
  · exact .refl _
  · exact .ite (.refl _) (.dup (fun h => .step rfl State.startQueued_parts (by
        split
        · exact h
        · exact .ite (.step rfl State.setJob_parts h) (.each h fun _ _ h1 => .step rfl State.tileDone_parts h1)))
      (.each (.step rfl State.powerRecord_parts (.step rfl State.setQueued_parts (.step rfl State.setJob_parts (.refl _)))) fun _ _ h2 =>
        .step rfl State.tileDone_parts h2))

theorem State.tileStarted_parts {s : State} {n : Nat} {j : TileJob} {full : Bool} :
    Within [.regs, .tx, .beam, .rct, .boot, .pwr, .hka, .gau, .flt] s (s.tileStarted n j full) := by
  unfold State.tileStarted
  exact .dup (fun h => .dup (fun h1 => .dup (fun h2 => .step rfl State.startQueued_parts (by
      split
      · exact h2
      · exact .step rfl State.setJob_parts (.step rfl State.tileOffBy_parts h2)))
    (.each (.when (.step rfl State.powerRecord_parts (.ite h1 (.step rfl State.showAuto_parts (.step rfl .updPwr h1)))) fun _ h3 => .event
      h3) fun _ _ h4 => .step rfl State.tileDone_parts h4)) (.ite (.step rfl .updBoot h) h)) (.step rfl State.returnPaths_parts (.step rfl
      State.setTileState_parts (.step rfl State.setQueued_parts (.step rfl State.setJob_parts (.refl _)))))

theorem execTileUngated_parts {tile : Nat} {s : State} :
    OutWithin [.regs, .mem, .tx, .beam, .rct, .boot, .pwr, .hka, .gau, .flt] s (execTileUngated tile s) := by
  unfold execTileUngated
  refine .next ?_
  split
  · exact .refl _
  · exact .ite (.refl _) (.step rfl State.tileStarted_parts (.refl _))

theorem State.beginExit_parts {s : State} {cause : Nat} : Within [.regs, .pwr] s (s.beginExit cause) := by
  unfold State.beginExit
  refine .ite (.refl _) ?_
  split
  · exact .ite (.step rfl .updPwr (.refl _)) (.refl _)
  · exact .step rfl .setF (.step rfl .updPwr (.refl _))

theorem execWakeNLow_parts {s : State} : OutWithin [.regs, .mem, .pwr] s (execWakeNLow s) := by
  unfold execWakeNLow
  exact .next (.step rfl State.beginExit_parts (.refl _))

theorem State.wakeWrite_parts {s : State} : Within [.regs, .pwr] s s.wakeWrite := by
  unfold State.wakeWrite
  exact .ite (.step rfl .setF (.step rfl State.beginExit_parts (.refl _))) (.refl _)

theorem execWake_parts {rq : Requester} {s : State} : OutWithin [.regs, .mem, .pwr] s (execWake rq s) := by
  unfold execWake
  exact .next (.ite (.step rfl State.wakeWrite_parts (.refl _)) (.refl _))

theorem execPolderEntryDone_parts {s : State} :
    OutWithin [.regs, .mem, .rx, .rct, .line, .cul, .tim, .pwr, .hka] s (execPolderEntryDone s) := by
  unfold execPolderEntryDone
  refine .next ?_
  split
  · exact .refl _
  · exact .ite (.refl _) (.dup (fun h => .ite (.step rfl State.beginExit_parts h) h) (.step rfl State.stopDomains_parts (.step rfl .put
      (.step rfl State.powerRecord_parts (.completeR (.step rfl State.reqOver_parts (.refl _)))))))

theorem execPolderExit_parts {s : State} :
    OutWithin [.regs, .mem, .tx, .rct, .line, .cul, .tim, .slu, .pwr, .hka, .gau] s (execPolderExit s) := by
  unfold execPolderExit
  refine .next ?_
  split
  · exact .refl _
  · exact .dup (fun h => by
        dsimp only
        split
        · exact .step rfl State.startQueued_parts (.step rfl .updPwr h)
        · exact h)
      (.each (.step rfl State.startReference_parts (.step rfl State.powerRecord_parts (.step rfl .put (.step rfl .put (.step rfl .put
        (.step rfl .put (.step rfl .updPwr (.refl _)))))))) fun _ _ h1 => .step rfl State.sluTo_parts (.step rfl State.modSlu_parts (.step
        rfl .put h1)))

theorem State.dropUpdate_parts {s : State} : Within [.boot] s s.dropUpdate := by
  unfold State.dropUpdate
  split
  · exact .refl _
  · exact .dup (fun h => .ite (.step rfl State.setSlot_parts h) h) (.step rfl .updBoot (.refl _))

theorem execDormantEntryDone_parts {s : State} : OutWithin [.regs, .mem, .boot, .pwr, .flt] s (execDormantEntryDone s) := by
  unfold execDormantEntryDone
  refine .next ?_
  split
  · exact .refl _
  · exact .ite (.refl _) (.step rfl .updBootPwrFlt (.completeR (.step rfl State.reqOver_parts (.step rfl State.dropUpdate_parts (.refl
      _)))))

theorem execSentinelWake_parts {source : Nat} {s : State} : OutWithin [.pwr] s (execSentinelWake source s) := by
  unfold execSentinelWake
  exact .next (.ite (.refl _) (.step rfl .updPwr (.refl _)))

theorem execAutoGating_parts {s : State} : OutWithin [.regs, .mem, .tx, .rct, .pwr, .gau] s (execAutoGating s) := by
  unfold execAutoGating
  refine .next (.ite (.refl _) (.ite ?_ (.each (.step rfl .updPwr (.refl _)) fun _ _ h => .step rfl State.ungateTile_parts h)))
  split
  · exact .step rfl .updPwr (.refl _)
  · refine .ite (.refl _) ?_
    split
    · exact .refl _
    · exact .step rfl State.showAuto_parts (.step rfl State.gateTile_parts (.step rfl .updPwr (.refl _)))

theorem execAvsUpdate_parts {target : Nat} {s : State} : OutWithin [.regs, .mem, .pwr] s (execAvsUpdate target s) := by
  unfold execAvsUpdate
  exact .next (.ite (.refl _) (.ite (.refl _) (.step rfl .put (.step rfl .updPwr (.refl _)))))

theorem State.t3Gate_parts {s : State} : Within [.regs, .tx, .rct, .pwr, .gau] s s.t3Gate := by
  unfold State.t3Gate
  dsimp only
  split
  · exact .step rfl .updPwr (.refl _)
  · exact .step rfl State.showAuto_parts (.step rfl State.gateTile_parts (.step rfl .updPwr (.refl _)))

theorem State.setLevel_parts {s : State} {new : Nat} : Within [.regs, .tx, .beam, .rct, .pwr, .gau] s (s.setLevel new) := by
  unfold State.setLevel
  exact .ite (.refl _) (.when (.when (.step rfl .updPwr (.event (.step rfl State.refreshPlan_parts (.step rfl .put (.refl _))))) fun _ h
    => .step rfl State.t2Blank_parts h) fun _ h1 => .step rfl State.t3Gate_parts h1)

theorem State.throttle_parts {s : State} : Within [.regs, .tx, .beam, .rct, .pwr, .gau] s s.throttle := by
  unfold State.throttle
  exact .ite (.refl _) (.step rfl .updPwr (.ite (.step rfl State.setLevel_parts (.refl _)) (.refl _)))

theorem execThrottleLower_parts {s : State} : OutWithin [.regs, .mem, .tx, .beam, .rct, .pwr, .gau] s (execThrottleLower s) := by
  unfold execThrottleLower
  refine .next ?_
  split
  · exact .refl _
  · exact .ite (.step rfl State.throttle_parts (.step rfl State.setLevel_parts (.refl _))) (.refl _)

theorem execT3Gating_parts {s : State} : OutWithin [.regs, .mem, .tx, .rct, .pwr, .gau] s (execT3Gating s) := by
  unfold execT3Gating
  exact .next (.ite (.step rfl State.t3Gate_parts (.refl _)) (.refl _))

theorem execT3Release_parts {s : State} : OutWithin [.regs, .mem, .pwr] s (execT3Release s) := by
  unfold execT3Release
  refine .next ?_
  split
  · exact .refl _
  · refine .ite (.refl _) ?_
    split
    · exact .step rfl State.ungateTile_parts (.refl _)
    · exact .refl _

theorem State.writeHeld_parts {s : State} : Within [.regs, .boot, .flt] s s.writeHeld := by
  unfold State.writeHeld
  exact .dup (fun h => .ite h (.when (.step rfl .put (.step rfl .put (.step rfl .updFlt h))) fun _ h1 => .step rfl .setF h1)) (.step rfl
    .updBoot (.refl _))

theorem State.setWindow_parts {s : State} {w : Nat} {now : Bool} : Within [.regs, .boot, .flt] s (s.setWindow w now) := by
  unfold State.setWindow
  exact .ite (.refl _) (.dup (fun h => .dup (fun h1 => .ite h1 (.ite (.step rfl State.logState_parts h1) (.step rfl State.logState_parts
    h1))) (.event (.ite (.step rfl State.writeHeld_parts h) h))) (.step rfl .put (.refl _)))

theorem execThermalSampling_parts {temps : List Int} {s : State} :
    OutWithin [.regs, .mem, .tx, .beam, .rct, .boot, .pwr, .gau, .flt] s (execThermalSampling temps s) := by
  unfold execThermalSampling
  exact .next (.ite (.refl _) (.dup (fun h => .step rfl State.throttle_parts (.ite (.step rfl .updRct h) h)) (.step rfl
    State.setWindow_parts (.step rfl State.setWindow_parts (.step rfl .put (.step rfl .put (.step rfl .updPwr (.each (.when (.refl _) fun
    _ h1 => .step rfl State.lateFlag_parts h1) fun _ _ h2 => .step rfl .wr h2))))))))

theorem State.silence_parts {s : State} {cause : Nat} :
    Within [.regs, .tx, .rx, .rct, .line, .cul, .tim, .pwr, .gau] s (s.silence cause) := by
  unfold State.silence
  exact .step rfl State.culRefresh_parts (.each (.each (.each (.step rfl State.synthOff_parts (.step rfl .updTx (.refl _))) fun _ _ h =>
    .complete h) fun _ _ h1 => .step rfl State.tileOff_parts (.step rfl State.tripBias_parts h1)) fun _ _ h2 => .step rfl
    State.enterDown_parts h2)

theorem execThermalTrip_parts {mask : Nat} {s : State} :
    OutWithin [.regs, .mem, .tx, .rx, .rct, .line, .cul, .tim, .boot, .pwr, .gau] s (execThermalTrip mask s) := by
  unfold execThermalTrip
  exact .next (.ite (.refl _) (.dup (fun h => .event (.step rfl State.tapStop_parts (.step rfl State.silence_parts (.step rfl .updBoot
    (.each (.each (by
      split
      · exact .ite (.complete (.step rfl State.reqOver_parts h)) h
      · exact h)
    fun _ _ h1 => .step rfl State.setJob_parts h1) fun _ _ h2 => .step rfl State.setQueued_parts h2))))) (.each (.step rfl .updPwr (.step
      rfl .setF (.step rfl .put (.refl _)))) fun _ _ h3 => .step rfl State.endTileCmd_parts h3)))

theorem execTripLatchClear_parts {s : State} : OutWithin [.regs, .mem, .pwr] s (execTripLatchClear s) := by
  unfold execTripLatchClear
  exact .next (.ite (.refl _) (.step rfl .put (.step rfl .put (.step rfl .updPwr (.refl _)))))

theorem State.calRecord_parts {s : State} {n kind ms : Nat} : Within [] s (s.calRecord n kind ms) := by
  unfold State.calRecord
  exact .event (.refl _)

theorem State.tileReadyNow_parts {s : State} {n : Nat} {full : Bool} :
    Within [.free, .regs, .tx, .rx, .boot] s (s.tileReadyNow n full) := by
  unfold State.tileReadyNow
  exact .step rfl State.refreshPlan_parts (.step rfl State.setMode_parts (.step rfl .updBoot (.when (.step rfl .put (.step rfl
    State.calTrims_parts (.refl _))) fun _ h => .step rfl .put h)))

theorem State.checkFull_parts {s : State} : Within [.regs, .boot] s s.checkFull := by
  unfold State.checkFull
  exact .ite (.step rfl State.milestone_parts (.step rfl .put (.step rfl .setF (.refl _)))) (.refl _)

theorem State.nextCal_parts {s : State} {n : Nat} : Within [.boot] s (s.nextCal n) := by
  unfold State.nextCal
  exact .step rfl .updBoot (.refl _)

theorem execReducedService_parts {s : State} : OutWithin [.free, .regs, .mem, .tx, .rx, .boot] s (execReducedService s) := by
  unfold execReducedService
  refine .next ?_
  split
  · exact .refl _
  · exact .ite (.refl _) (.step rfl State.nextCal_parts (.step rfl State.calRecord_parts (.step rfl State.milestone_parts (.step rfl .put
      (.step rfl .setF (.step rfl State.tileReadyNow_parts (.step rfl .updBoot (.refl _))))))))

theorem State.recalibrated_parts {s : State} {n : Nat} {j : TileJob} {ok : Bool} :
    Within [.free, .regs, .tx, .rx, .beam, .rct, .boot, .pwr, .hka, .gau, .flt] s (s.recalibrated n j ok) := by
  unfold State.recalibrated
  exact .ite (.step rfl State.tileStarted_parts (.step rfl State.checkFull_parts (.step rfl State.calRecord_parts (.step rfl
    State.tileReadyNow_parts (.refl _))))) (.step rfl State.startQueued_parts (.each (.each (.step rfl State.calRecord_parts (.step rfl
    State.setQueued_parts (.step rfl State.setJob_parts (.refl _)))) fun _ _ h => .step rfl State.tileDone_parts h) fun _ _ h1 => .step
    rfl State.tileDone_parts h1))

theorem execTileCalibrated_parts {tile : Nat} {ok : Bool} {s : State} :
    OutWithin [.free, .regs, .mem, .tx, .rx, .beam, .rct, .boot, .pwr, .hka, .gau, .flt] s (execTileCalibrated tile ok s) := by
  unfold execTileCalibrated
  refine .next (.ite (.refl _) ?_)
  split
  · refine .ite (.ite (.step rfl State.checkFull_parts (.step rfl State.nextCal_parts (.step rfl State.calRecord_parts (.step rfl
      State.milestone_parts (.step rfl State.tileReadyNow_parts (.refl _)))))) (.ite (.step rfl .updBoot (.refl _)) (.step rfl
      State.nextCal_parts (.step rfl State.calRecord_parts (.step rfl .updBoot (.refl _)))))) ?_
    split
    · exact .ite (.step rfl State.recalibrated_parts (.refl _)) (.refl _)
    · exact .refl _
  · exact .ite (.step rfl State.recalibrated_parts (.refl _)) (.refl _)
  · exact .refl _

theorem execCalibrationRefined_parts {s : State} : OutWithin [.free, .regs, .mem, .tx, .rx, .boot] s (execCalibrationRefined s) := by
  unfold execCalibrationRefined
  exact .next (.ite (.refl _) (.step rfl State.checkFull_parts (.step rfl State.calRecord_parts (.step rfl State.tileReadyNow_parts (.step
    rfl .updBoot (.refl _))))))

end Sys2Proof.Machine
end

section
/-! Frames: the parts that faults, doorbells and time may change. -/
namespace Sys2Proof.Machine
open Sys2Proof

theorem execDumpSlotErase_parts {slot : Nat} {s : State} : OutWithin [.flt] s (execDumpSlotErase slot s) := by
  unfold execDumpSlotErase
  exact .next (.ite (.step rfl .updFlt (.refl _)) (.refl _))

theorem execFltDumpTest_parts {h : Hdr} {s : State} : OutWithin [.flt] s (execFltDumpTest h s) := by
  unfold execFltDumpTest
  exact .next (.acceptNow (.refl _) fun _ h => .step rfl .updFlt h)

theorem execFltDumpRegion_parts {h : Hdr} {fullMem clear : Bool} {addr len : Nat} {s : State} :
    OutWithin [.regs, .mem, .flt] s (execFltDumpRegion h fullMem clear addr len s) := by
  unfold execFltDumpRegion
  exact .next (.acceptNow (.refl _) fun _ h => .complete (.step rfl .put (.step rfl .updFlt h)))

theorem execFltDumpFetch_parts {h : Hdr} {erase : Bool} {addr : Nat} {s : State} :
    OutWithin [.regs, .mem, .flt] s (execFltDumpFetch h erase addr s) := by
  unfold execFltDumpFetch
  exact .next (.acceptNow (.refl _) fun _ h => .dup (fun h1 => .completeR (.ite (.step rfl .updFlt h1) h1)) (.step rfl .put (.step rfl
    .hostWrite h)))

theorem execTelSetup_parts {h : Hdr} {k b addr : Nat} {s : State} : OutWithin [.regs, .mem, .flt] s (execTelSetup h k b addr s) := by
  unfold execTelSetup
  exact .next (.acceptNow (.refl _) fun _ h => .complete (.step rfl .put (.step rfl .updFlt h)))

theorem execTelemetryRecord_parts {o : TelemetryObs} {s : State} : OutWithin [.regs, .mem, .flt] s (execTelemetryRecord o s) := by
  unfold execTelemetryRecord
  refine .next ?_
  split
  · exact .refl _
  · exact .ite (.refl _) (.dup (fun h => .ite (.step rfl .put (.step rfl .updFlt h)) (.when (.step rfl .updFlt (.step rfl .hostWrite h))
      fun _ h1 => .event h1)) (.when (.refl _) fun _ h2 => .step rfl State.lateFlag_parts h2))

theorem execLogRead_parts {h : Hdr} {count addr : Nat} {s : State} : OutWithin [.mem] s (execLogRead h count addr s) := by
  unfold execLogRead
  exact .next (.acceptNow (.refl _) fun _ h => .completeR (.step rfl .hostWrite h))

theorem State.settleTest_parts {s : State} {h : Hdr} {left failing : Nat} : Within [.flt] s (s.settleTest h left failing) := by
  unfold State.settleTest
  exact .ite (.step rfl .updFlt (.refl _)) (.ite (.complete (.refl _)) (.completeR (.refl _)))

theorem execPathRestore_parts {h : Hdr} {mask : Nat} {s : State} : OutWithin [.flt] s (execPathRestore h mask s) := by
  unfold execPathRestore
  exact .next (.acceptNow (.refl _) fun _ h => .step rfl State.settleTest_parts h)

theorem State.testedBanks_parts {s : State} {p : Nat} : Within [.free, .tx] s (s.testedBanks p) := by
  unfold State.testedBanks
  exact .step rfl .updFreeTx (.refl _)

theorem execPathTestDone_parts {path : Nat} {passed : Bool} {s : State} :
    OutWithin [.free, .tx, .flt] s (execPathTestDone path passed s) := by
  unfold execPathTestDone
  refine .next ?_
  split
  · exact .refl _
  · exact .dup (fun h => .step rfl State.settleTest_parts (.ite (.step rfl .updFlt h) h)) (.step rfl State.testedBanks_parts (.step rfl
      .updFlt (.refl _)))

theorem execScrubRead_parts {r : ScrubResult} {late : Bool} {s : State} : OutWithin [.regs, .mem, .flt] s (execScrubRead r late s) := by
  unfold execScrubRead
  exact .next (.ite (.refl _) (.dup (fun h => by
      dsimp only
      split
      · exact .step rfl State.countClass_parts h
      · exact h)
    (.step rfl .updFlt (.when (.refl _) fun _ h1 => .step rfl State.lateFlag_parts h1))))

theorem State.doorbellError_parts {s : State} {r cause value : Nat} : Within [.regs] s (s.doorbellError r cause value) := by
  unfold State.doorbellError
  exact .event (.step rfl .setF (.refl _))

theorem State.unstall_parts {s : State} {r : Nat} : Within [.regs] s (s.unstall r) := by
  unfold State.unstall
  exact .dup (fun h => .ite (.step rfl State.setRingState_parts h) h) (.modRing (.refl _))

theorem State.refreshNaming_parts {s : State} {cq : Nat} : Within [.regs] s (s.refreshNaming cq) := by
  unfold State.refreshNaming
  exact .each (.refl _) fun _ _ h => .step rfl State.refreshRing_parts h

theorem State.kickRing_parts {s : State} {r : Nat} : Within [.regs] s (s.kickRing r) := by
  unfold State.kickRing
  exact .dup (fun h => .step rfl State.refreshRing_parts (.ite (.modRing h) h)) (.step rfl State.unstall_parts (.refl _))

theorem State.doorbellWrite_parts {s : State} {r value size : Nat} : Within [.regs, .mem] s (s.doorbellWrite r value size) := by
  unfold State.doorbellWrite
  exact .ite (.refl _) (.ite (.step rfl State.doorbellError_parts (.refl _)) (.ite (.step rfl State.doorbellError_parts (.refl _)) (.ite
    (.ite (.step rfl State.kickRing_parts (.refl _)) (.step rfl State.doorbellError_parts (.refl _))) (.ite (.step rfl
    State.doorbellError_parts (.refl _)) (.ite (.ite (.step rfl State.refreshRing_parts (.step rfl State.unstall_parts (.modRing (.refl
    _)))) (.step rfl State.doorbellError_parts (.refl _))) (.ite (.dup (fun h => .ite (.step rfl State.refreshNaming_parts (.step rfl
    State.flushCompletions_parts h)) (.step rfl State.flushLost_parts h)) (.modRing (.refl _))) (.step rfl State.doorbellError_parts
    (.refl _))))))))

theorem execDoorbell_parts {ring value size : Nat} {s : State} : OutWithin [.regs, .mem] s (execDoorbell ring value size s) := by
  unfold execDoorbell
  exact .next (.ite (.step rfl State.doorbellWrite_parts (.refl _)) (.refl _))

theorem execKick_parts {ring value size : Nat} {s : State} : OutWithin [.regs, .mem] s (execKick ring value size s) := by
  unfold execKick
  exact .next (.ite (.step rfl State.doorbellWrite_parts (.refl _)) (.refl _))

theorem execHeadDoorbell_parts {ring value size : Nat} {s : State} : OutWithin [.regs, .mem] s (execHeadDoorbell ring value size s) := by
  unfold execHeadDoorbell
  exact .next (.ite (.step rfl State.doorbellWrite_parts (.refl _)) (.refl _))

theorem State.enableRing_parts {s : State} {r : Nat} : Within [.regs, .mem] s (s.enableRing r) := by
  unfold State.enableRing
  exact .dup (fun h => .ite (.step rfl State.refreshRing_parts h) (.ite (.step rfl State.refreshNaming_parts h) (.step rfl
    State.flushHeld_parts h))) (.step rfl .put (.modRing (.step rfl State.setRingPos_parts (.step rfl .put (.refl _)))))

theorem State.disableRing_parts {s : State} {r : Nat} : Within [.regs] s (s.disableRing r) := by
  unfold State.disableRing
  exact .dup (fun h => .ite (.step rfl State.refreshRing_parts h) (.step rfl State.refreshNaming_parts (.step rfl .put h))) (.step rfl
    .put (.refl _))

theorem State.writeRingEn_parts {s : State} {r : Nat} {en : Bool} : Within [.regs, .mem] s (s.writeRingEn r en) := by
  unfold State.writeRingEn
  exact .ite (.ite (.step rfl State.enableRing_parts (.refl _)) (.step rfl .setF (.refl _))) (.ite (.ite (.step rfl .setF (.refl _))
    (.step rfl State.disableRing_parts (.refl _))) (.refl _))

theorem execRingEnable_parts {rq : Requester} {ring : Nat} {en : Bool} {s : State} :
    OutWithin [.regs, .mem] s (execRingEnable rq ring en s) := by
  unfold execRingEnable
  exact .next (.ite (.step rfl State.writeRingEn_parts (.refl _)) (.refl _))

theorem State.resetRings_parts {s : State} {cause : Nat} : Within [.regs, .host] s (s.resetRings cause) := by
  unfold State.resetRings
  exact .each (.each (.each (.step rfl .updHost (.step rfl .put (.refl _))) fun _ _ h => .modRing (.step rfl .put h)) fun _ _ h1 => .ite
    (.step rfl State.setRingState_parts h1) (.step rfl .put h1)) fun _ _ h2 => .event h2

theorem execRingsDisable_parts {rq : Requester} {s : State} : OutWithin [.regs, .mem, .host] s (execRingsDisable rq s) := by
  unfold execRingsDisable
  exact .next (.ite (.step rfl State.resetRings_parts (.refl _)) (.refl _))

theorem State.msixSend_parts {s : State} {v : Nat} : Within [.mem] s (s.msixSend v) := by
  unfold State.msixSend
  exact .each (.step rfl .hostWrite (.refl _)) fun _ _ h => .modRing h

theorem State.msixSignal_parts {s : State} {v : Nat} : Within [.regs, .mem] s (s.msixSignal v) := by
  unfold State.msixSignal
  exact .ite (.step rfl State.putBit64_parts (.refl _)) (.step rfl State.msixSend_parts (.refl _))

theorem execMsixMessage_parts {vector : Nat} {s : State} : OutWithin [.regs, .mem] s (execMsixMessage vector s) := by
  unfold execMsixMessage
  exact .next (.ite (.step rfl State.msixSignal_parts (.refl _)) (.refl _))

theorem State.msixUnmask_parts {s : State} {v : Nat} : Within [.regs, .mem] s (s.msixUnmask v) := by
  unfold State.msixUnmask
  exact .dup (fun h => .ite (.step rfl State.msixSend_parts (.step rfl State.putBit64_parts h)) h) (.step rfl .wr (.refl _))

theorem execMsixUnmask_parts {vector : Nat} {s : State} : OutWithin [.regs, .mem] s (execMsixUnmask vector s) := by
  unfold execMsixUnmask
  exact .next (.ite (.step rfl State.msixUnmask_parts (.refl _)) (.refl _))

theorem State.hostReturns_parts {s : State} : Within [.regs, .mem] s s.hostReturns := by
  unfold State.hostReturns
  exact .each (.step rfl State.flushHeld_parts (.step rfl State.flushCompletions_parts (.refl _))) fun _ _ h => .step rfl
    State.msixSignal_parts h

theorem execLinkDown_parts {s : State} : OutWithin [.host] s (execLinkDown s) := by
  unfold execLinkDown
  exact .next (.when (.step rfl .updHost (.refl _)) fun _ h => .event h)

theorem execLinkUp_parts {s : State} : OutWithin [.regs, .mem, .host] s (execLinkUp s) := by
  unfold execLinkUp
  exact .dup (fun h => .next (.ite (.step rfl State.hostReturns_parts h) h)) (.step rfl .updHost (.refl _))

theorem execConfigRequest_parts {s : State} : OutWithin [.host] s (execConfigRequest s) := by
  unfold execConfigRequest
  exact .next (.step rfl .updHost (.refl _))

theorem execPerstFall_parts {s : State} : OutWithin [.regs, .mem, .host] s (execPerstFall s) := by
  unfold execPerstFall
  exact .dup (fun h => .next (.ite h (.step rfl State.resetRings_parts (.step rfl .wr64 (.each (.step rfl .put (.step rfl .setF h)) fun _
    _ h1 => .step rfl .wr (.step rfl .wr (.step rfl .wr64 h1))))))) (.step rfl .updHost (.refl _))

theorem execPerstRise_parts {s : State} : OutWithin [.regs, .mem, .host] s (execPerstRise s) := by
  unfold execPerstRise
  exact .dup (fun h => .next (.ite h (.step rfl .setF h))) (.step rfl .updHost (.refl _))

theorem State.modPeer_parts {s : State} {k : Nat} {f : TunnelPeer → TunnelPeer} : Within [.cul] s (s.modPeer k f) := by
  unfold State.modPeer
  exact .step rfl .updCul (.refl _)

theorem State.setRoute_parts {s : State} {k : Nat} : Within [.cul] s (s.setRoute k) := by
  unfold State.setRoute
  exact .when (.step rfl State.modPeer_parts (.refl _)) fun _ h => .event h

theorem State.tunnelSend_parts {s : State} {k : Nat} {m : TunnelMsg} : Within [.cul] s (s.tunnelSend k m) := by
  unfold State.tunnelSend
  exact .step rfl State.culSend_parts (.step rfl State.modPeer_parts (.step rfl State.setRoute_parts (.refl _)))

theorem State.tunnelDoorbell_parts {s : State} {d off value size : Nat} : Within [.cul] s (s.tunnelDoorbell d off value size) := by
  unfold State.tunnelDoorbell
  exact .ite (.step rfl State.tunnelSend_parts (.refl _)) (.refl _)

theorem execTunnelDoorbell_parts {window off value size : Nat} {s : State} :
    OutWithin [.fh, .cul] s (execTunnelDoorbell window off value size s) := by
  unfold execTunnelDoorbell
  exact .next (.ite (.step rfl State.tunnelDoorbell_parts (.refl _)) (.refl _))

theorem State.setAirOfs_parts {s : State} {value : Nat} : Within [.regs] s (s.setAirOfs value) := by
  unfold State.setAirOfs
  exact .ite (.step rfl .wr64 (.refl _)) (.step rfl .setF (.refl _))

theorem execAirOfsWrite_parts {rq : Requester} {value : Nat} {s : State} : OutWithin [.regs, .mem] s (execAirOfsWrite rq value s) := by
  unfold execAirOfsWrite
  exact .next (.ite (.step rfl State.setAirOfs_parts (.refl _)) (.refl _))

theorem State.judgePtp_parts {s : State} {k : Nat} : Within [.regs, .tim] s (s.judgePtp k) := by
  unfold State.judgePtp
  exact .step rfl State.elect_parts (.step rfl State.modPtp_parts (.refl _))

theorem execPtpAnnounce_parts {port : Nat} {a : AnnounceIn} {s : State} : OutWithin [.regs, .mem, .tim] s (execPtpAnnounce port a s) := by
  unfold execPtpAnnounce
  exact .next (.ite (.refl _) (.step rfl State.judgePtp_parts (.step rfl State.modPtp_parts (.refl _))))

theorem State.ptpMeasure_parts {s : State} {k : Nat} : Within [.clock, .free, .regs, .tim] s (s.ptpMeasure k) := by
  unfold State.ptpMeasure
  split
  · exact .refl _
  · exact .dup (fun h => .ite (.step rfl State.measure_parts h) h) (.step rfl State.modPtp_parts (.refl _))

theorem execPtpSync_parts {port domain seq : Nat} {twoStep : Bool} {t1 corr : Nat} {s : State} :
    OutWithin [.clock, .free, .regs, .mem, .tim] s (execPtpSync port domain seq twoStep t1 corr s) := by
  unfold execPtpSync
  exact .next (.ite (.refl _) (.step rfl State.ptpMeasure_parts (.step rfl State.judgePtp_parts (.step rfl State.modPtp_parts (.refl
    _)))))

theorem execPtpFollowUp_parts {port domain seq t1 corr : Nat} {s : State} :
    OutWithin [.clock, .free, .regs, .mem, .tim] s (execPtpFollowUp port domain seq t1 corr s) := by
  unfold execPtpFollowUp
  exact .next (.ite (.refl _) (.step rfl State.ptpMeasure_parts (.step rfl State.modPtp_parts (.refl _))))

theorem execDelayReq_parts {port : Nat} {s : State} : OutWithin [.tim] s (execDelayReq port s) := by
  unfold execDelayReq
  exact .next (.ite (.refl _) (.step rfl State.modPtp_parts (.refl _)))

theorem execDelayResp_parts {port domain seq t4 corr : Nat} {s : State} : OutWithin [.tim] s (execDelayResp port domain seq t4 corr s) := by
  unfold execDelayResp
  refine .next ?_
  split
  · exact .ite (.refl _) (.step rfl State.modPtp_parts (.refl _))
  · exact .refl _

theorem execPtpSourceLost_parts {port : Nat} {s : State} : OutWithin [.regs, .mem, .tim] s (execPtpSourceLost port s) := by
  unfold execPtpSourceLost
  exact .next (.ite (.step rfl State.judgePtp_parts (.step rfl State.modPtp_parts (.refl _))) (.refl _))

theorem execPpsInEdge_parts {s : State} : OutWithin [.clock, .free, .regs, .mem, .tim] s (execPpsInEdge s) := by
  unfold execPpsInEdge
  exact .next (.ite (.refl _) (.ite (.step rfl .setF (.refl _)) (.step rfl State.measure_parts (.step rfl State.elect_parts (.step rfl
    .updTim (.step rfl .wr64 (.refl _)))))))

theorem execPpsLost_parts {s : State} : OutWithin [.regs, .mem, .tim] s (execPpsLost s) := by
  unfold execPpsLost
  refine .next ?_
  split
  · exact .ite (.step rfl State.elect_parts (.step rfl .updTim (.refl _))) (.refl _)
  · exact .refl _

theorem execPpsOut_parts {rise : Bool} {s : State} : OutWithin [.tim] s (execPpsOut rise s) := by
  unfold execPpsOut
  exact .next (.ite (.ite (.step rfl .updTim (.refl _)) (.refl _)) (.ite (.step rfl .updTim (.refl _)) (.refl _)))

theorem execClockLocked_parts {s : State} : OutWithin [.regs, .mem, .tim] s (execClockLocked s) := by
  unfold execClockLocked
  refine .next ?_
  split
  · exact .ite (.step rfl State.clockTo_parts (.refl _)) (.refl _)
  · exact .refl _

theorem execTimeCellSend_parts {port : Nat} {s : State} : OutWithin [.line] s (execTimeCellSend port s) := by
  unfold execTimeCellSend
  exact .next (.ite (.refl _) (.each (.refl _) fun _ _ h => .step rfl State.modLane_parts h))

theorem State.thetaSample_parts {s : State} {port : Nat} {a1 a4 b2 b3 : Nat} : Within [.tim] s (s.thetaSample port a1 a4 b2 b3) := by
  unfold State.thetaSample
  exact .ite (.refl _) (.step rfl State.modTimePort_parts (.refl _))

theorem State.timeTransfer_parts {s : State} {port epoch : Nat} {b : List Nat} {tx rx : List (Nat × Nat)} :
    Within [.regs, .tim] s (s.timeTransfer port epoch b tx rx) := by
  unfold State.timeTransfer
  refine .ite (.refl _) (.ite (.step rfl State.refusePort_parts (.refl _)) (.ite (.step rfl State.refusePort_parts (.step rfl .updTim
    (.refl _))) (.step rfl State.elect_parts (.step rfl State.modTimePort_parts ?_))))
  split
  · exact .step rfl State.thetaSample_parts (.refl _)
  · exact .refl _

theorem execTimeTransferCell_parts {lane : Nat} {s : State} : OutWithin [.regs, .mem, .line, .tim] s (execTimeTransferCell lane s) := by
  unfold execTimeTransferCell
  refine .next ?_
  split
  · exact .refl _
  · exact .dup (fun h => .ite h (.step rfl State.timeTransfer_parts h)) (.step rfl State.modLane_parts (.refl _))

theorem execThetaUpdate_parts {port : Nat} {s : State} : OutWithin [.clock, .free, .regs, .mem, .tim] s (execThetaUpdate port s) := by
  unfold execThetaUpdate
  exact .next (.ite (.refl _) (.dup (fun h => .ite (.step rfl State.measure_parts h) h) (.when (.step rfl .put (.step rfl .put (.step rfl
    .put (.step rfl State.modTimePort_parts (.refl _))))) fun _ h1 => .event h1)))

theorem execRootSeqAdvance_parts {s : State} : OutWithin [.tim] s (execRootSeqAdvance s) := by
  unfold execRootSeqAdvance
  exact .next (.ite (.step rfl .updTim (.refl _)) (.refl _))

theorem execRootLost_parts {s : State} : OutWithin [.regs, .mem, .tim] s (execRootLost s) := by
  unfold execRootLost
  exact .next (.ite (.step rfl State.elect_parts (.step rfl .updTim (.when (.refl _) fun _ h => .step rfl State.clockTo_parts h))) (.refl
    _))

theorem execOwnKeyWindowEnd_parts {s : State} : OutWithin [.regs, .mem, .tim] s (execOwnKeyWindowEnd s) := by
  unfold execOwnKeyWindowEnd
  refine .next ?_
  split
  · exact .ite (.step rfl State.elect_parts (.step rfl .updTim (.refl _))) (.refl _)
  · exact .refl _

theorem execExtDisagree_parts {diff : Int} {s : State} : OutWithin [.regs, .mem, .tim] s (execExtDisagree diff s) := by
  unfold execExtDisagree
  refine .next (.ite (.step rfl .updTim (.refl _)) ?_)
  split
  · exact .step rfl .updTim (.refl _)
  · exact .ite (.event (.step rfl .setF (.refl _))) (.refl _)

theorem execTimeStep_parts {h : Hdr} {sec ns : Nat} {s : State} : OutWithin [.clock] s (execTimeStep h sec ns s) := by
  unfold execTimeStep
  exact .next (.acceptNow (.refl _) fun _ h => .complete (.step rfl .updClock h))

theorem execTimeEpoch_parts {h : Hdr} {epoch : Nat} {s : State} : OutWithin [.regs, .mem, .tim, .boot] s (execTimeEpoch h epoch s) := by
  unfold execTimeEpoch
  exact .next (.acceptNow (.refl _) fun _ h => .complete (.step rfl State.setEpoch_parts h))

theorem execOtaCal_parts {h : Hdr} {c : OtaCmd} {s : State} : OutWithin [.regs, .mem, .host] s (execOtaCal h c s) := by
  unfold execOtaCal
  exact .next (.step rfl State.acceptTimed_parts (.refl _))

theorem State.applyOtaCal_parts {s : State} {h : Hdr} {c : OtaCmd} : Within [.tim] s (s.applyOtaCal h c) := by
  unfold State.applyOtaCal
  exact .step rfl .updTim (.refl _)

theorem execOtaCalResult_parts {o : OtaObs} {s : State} : OutWithin [.mem, .tim] s (execOtaCalResult o s) := by
  unfold execOtaCalResult
  refine .next ?_
  split
  · exact .refl _
  · exact .dup (fun h => by
        dsimp only
        split
        · exact .completeX h
        · exact .complete (.event (.step rfl .hostWrite h)))
      (.step rfl .updTim (.refl _))

theorem execHeartbeat_parts {lane : Nat} {s : State} : OutWithin [.regs, .mem, .line, .tim, .boot] s (execHeartbeat lane s) := by
  unfold execHeartbeat
  refine .next ?_
  split
  · exact .refl _
  next hpop =>
    have h : Within [.regs, .mem, .line, .tim, .boot] s _ := (State.popCell_parts hpop).mono (by decide)
    exact .ite (.step rfl State.refusePort_parts h) (.dup (fun h1 => .step rfl State.seeEpoch_parts (.ite (.step rfl
      State.joinPort_parts h1) h1)) (.step rfl State.modTimePort_parts (.when (.step rfl State.modPort_parts h)
      fun _ h2 => .event h2)))

theorem execAlignPeriod_parts {link : Nat} {marks : List Nat} {s : State} :
    OutWithin [.regs, .mem, .cul, .tim] s (execAlignPeriod link marks s) := by
  unfold execAlignPeriod
  exact .next (.ite (.refl _) (.dup (fun h => .step rfl State.culDrain_parts (.ite (.step rfl State.culSend_parts h) h)) (.step rfl
    State.culReport_parts (.step rfl State.alignLink_parts (.refl _)))))

theorem execLinkMgmtFrame_parts {link : Nat} {m : LinkMgmt} {s : State} :
    OutWithin [.regs, .mem, .cul, .tim, .boot] s (execLinkMgmtFrame link m s) := by
  unfold execLinkMgmtFrame
  refine .next (.ite (.refl _) ?_)
  split
  · exact .step rfl State.peerMasks_parts (.refl _)
  · exact .ite (.refl _) (.step rfl State.timeTransfer_parts (.step rfl State.seeEpoch_parts (.refl _)))

theorem execSetStateChange_parts {set : Nat} {s : State} : OutWithin [.regs, .mem] s (execSetStateChange set s) := by
  unfold execSetStateChange
  refine .next ?_
  split
  · exact .refl _
  · exact .ite (.refl _) (.ite (.step rfl State.moveSet_parts (.refl _)) (.ite (.step rfl State.moveSet_parts (.refl _)) (.refl _)))

end Sys2Proof.Machine
end

section
/-! Frames: the parts that registers, the control of engines, the tunnel and the package may change. -/
namespace Sys2Proof.Machine
open Sys2Proof

theorem State.cfgErr_parts {s : State} {off : Nat} : Within [.regs] s (s.cfgErr off) := by
  unfold State.cfgErr
  exact .each (.refl _) fun _ _ h => .step rfl .setF h

theorem State.lockViolation_parts {s : State} {off : Nat} : Within [.regs] s (s.lockViolation off) := by
  unfold State.lockViolation
  exact .step rfl .satAdd (.step rfl .setF (.step rfl State.cfgErr_parts (.refl _)))

theorem State.writeLock_parts {s : State} {value : Nat} : Within [.regs] s (s.writeLock value) := by
  unfold State.writeLock
  exact .ite (.step rfl .setF (.refl _)) (.refl _)

theorem State.writeRefNum_parts {s : State} {value : Nat} : Within [.regs, .arch] s (s.writeRefNum value) := by
  unfold State.writeRefNum
  exact .dup (fun h => .dup (fun h1 => .ite h1 (.ite (.step rfl State.lockViolation_parts h1) (.ite (.step rfl State.cfgErr_parts h1)
    (.step rfl .put (.step rfl .put (.step rfl .updArch h1)))))) (.ite h (.ite (.step rfl .put (.step rfl .updArch h)) (.step rfl
    State.cfgErr_parts h)))) (.when (.refl _) fun _ h2 => .step rfl .put h2)

theorem execDevLock_parts {rq : Requester} {value : Nat} {s : State} : OutWithin [.regs, .mem] s (execDevLock rq value s) := by
  unfold execDevLock
  exact .next (.ite (.step rfl State.writeLock_parts (.refl _)) (.refl _))

theorem execTimRefNumWrite_parts {rq : Requester} {value : Nat} {s : State} :
    OutWithin [.regs, .mem, .arch] s (execTimRefNumWrite rq value s) := by
  unfold execTimRefNumWrite
  exact .next (.ite (.step rfl State.writeRefNum_parts (.refl _)) (.refl _))

theorem execRefNumChange_parts {s : State} : OutWithin [.regs, .mem, .arch, .rct] s (execRefNumChange s) := by
  unfold execRefNumChange
  refine .next ?_
  split
  · exact .ite (.step rfl State.refreshPlan_parts (.step rfl .updRct (.step rfl .updArch (.refl _)))) (.refl _)
  · exact .refl _

theorem execTAdvApply_parts {s : State} : OutWithin [.arch] s (execTAdvApply s) := by
  unfold execTAdvApply
  refine .next ?_
  split
  · exact .ite (.step rfl .updArch (.refl _)) (.refl _)
  · exact .refl _

theorem State.endKernel_parts {s : State} {n : Nat} : Within [.regs, .eng] s (s.endKernel n) := by
  unfold State.endKernel
  split
  · exact .refl _
  · exact .step rfl .put (.step rfl .put (.step rfl State.modEngine_parts (.refl _)))

theorem State.kernelEvent_parts {s : State} {n what : Nat} {k : Kernel} : Within [] s (s.kernelEvent n what k) := by
  unfold State.kernelEvent
  exact .event (.refl _)

theorem execEngineWake_parts {n events : Nat} {s : State} : OutWithin [.regs, .mem, .eng] s (execEngineWake n events s) := by
  unfold execEngineWake
  exact .next (.ite (.refl _) (.dup (fun h => .ite (.step rfl .put (.step rfl State.modEngine_parts h)) h) (.step rfl
    State.modEngine_parts (.refl _))))

theorem State.writeKernel_parts {s : State} {n : Nat} {k : Kernel} : Within [.devMem, .eng] s (s.writeKernel n k) := by
  unfold State.writeKernel
  exact .step rfl .devWrite (.step rfl State.modEngine_parts (.refl _))

theorem State.changeMode_parts {s : State} {n mode cause : Nat} : Within [.regs, .eng] s (s.changeMode n mode cause) := by
  unfold State.changeMode
  exact .step rfl State.setMode_parts (.when (.refl _) fun _ h => .step rfl State.endKernel_parts h)

theorem State.applyMode_parts {s : State} {n : Nat} : Within [.regs, .eng] s (s.applyMode n) := by
  unfold State.applyMode
  split
  · exact .refl _
  · exact .each (.step rfl State.changeMode_parts (.step rfl State.modEngine_parts (.refl _))) fun _ _ h => .complete h

theorem execModeChange_parts {n : Nat} {maintenance : Bool} {cause : Nat} {s : State} :
    OutWithin [.regs, .mem, .eng] s (execModeChange n maintenance cause s) := by
  unfold execModeChange
  exact .next (.ite (.refl _) (.ite (.ite (.step rfl State.applyMode_parts (.refl _)) (.refl _)) (.ite (.step rfl State.changeMode_parts
    (.refl _)) (.refl _))))

theorem execEngMode_parts {h : Hdr} {engine mode : Nat} {s : State} : OutWithin [.regs, .mem, .eng] s (execEngMode h engine mode s) := by
  unfold execEngMode
  exact .next (.acceptNow (.refl _) fun _ h => .dup (fun h1 => by
      dsimp only
      split
      · exact .step rfl State.modEngine_parts h1
      · exact .ite (.complete h1) (.step rfl State.modEngine_parts h1))
    (.step rfl State.modEngine_parts (.ite h (.step rfl State.applyMode_parts h))))

theorem execEngKernel_parts {h : Hdr} {tileMask action addr len : Nat} {s : State} :
    OutWithin [.regs, .mem, .eng, .sea] s (execEngKernel h tileMask action addr len s) := by
  unfold execEngKernel
  exact .next (.acceptNow (.refl _) fun _ h => .ite (.step rfl State.seaSubmit_parts h) (.each h fun _ _ h1 => .step rfl
    State.kernelWait_parts h1))

theorem State.placeKernel_parts {s : State} {n : Nat} {k : Kernel} : Within [.regs, .devMem, .eng, .sea] s (s.placeKernel n k) := by
  unfold State.placeKernel
  exact .step rfl State.kernelEvent_parts (.step rfl .setF (.step rfl .updSea (.step rfl .wr (.step rfl .wr (.step rfl
    State.modEngine_parts (.step rfl State.writeKernel_parts (.refl _)))))))

theorem State.removeKernel_parts {s : State} {n : Nat} : Within [.regs, .eng, .sea] s (s.removeKernel n) := by
  unfold State.removeKernel
  split
  · exact .refl _
  · exact .step rfl State.kernelEvent_parts (.step rfl .put (.step rfl .updSea (.step rfl .wr (.step rfl .wr (.step rfl
      State.modEngine_parts (.refl _))))))

theorem State.kernelDone_parts {s : State} {h : Option Hdr} : Within [] s (s.kernelDone h) := by
  unfold State.kernelDone
  split
  · exact .refl _
  · exact .ite (.refl _) (.complete (.refl _))

theorem execKernelPlacement_parts {n : Nat} {s : State} : OutWithin [.regs, .mem, .devMem, .eng, .sea] s (execKernelPlacement n s) := by
  unfold execKernelPlacement
  refine .next ?_
  split
  · exact .refl _
  · exact .ite (.refl _) (.dup (fun h => .step rfl State.kernelDone_parts (by
        split
        · exact .step rfl State.placeKernel_parts h
        · exact .step rfl State.removeKernel_parts h))
      (.step rfl State.modEngine_parts (.refl _)))

theorem execKernelInvocation_parts {n : Nat} {arg : Nat} {s : State} :
    OutWithin [.free, .regs, .mem, .eng] s (execKernelInvocation n arg s) := by
  unfold execKernelInvocation
  refine .next ?_
  split
  · exact .refl _
  · exact .ite (.refl _) (.ite (.step rfl .satAdd (.refl _)) (.step rfl State.fresh_parts (.step rfl .put (.step rfl .setF (.step rfl
      State.modEngine_parts (.refl _))))))

theorem State.serviceDone_parts {s : State} {n status : Nat} : Within [.eng] s (s.serviceDone n status) := by
  unfold State.serviceDone
  exact .step rfl State.modEngine_parts (.refl _)

theorem execEngTime_parts {n : Nat} {s : State} : OutWithin [.eng] s (execEngTime n s) := by
  unfold execEngTime
  exact .next (.ite (.step rfl State.modEngine_parts (.step rfl State.serviceDone_parts (.refl _))) (.refl _))

theorem execEngSolved_parts {n : Nat} {s : State} : OutWithin [.free, .beam, .eng] s (execEngSolved n s) := by
  unfold execEngSolved
  refine .next (.ite (.step rfl State.fresh_parts (.step rfl State.serviceDone_parts (.refl _))) (.ite (.refl _) ?_))
  dsimp only
  split
  · exact .ite (.step rfl State.fresh_parts (.step rfl State.serviceDone_parts (.refl _))) (.step rfl State.serviceDone_parts (.step rfl
      .updBeam (.refl _)))
  · exact .step rfl State.fresh_parts (.step rfl State.serviceDone_parts (.refl _))

theorem State.overrun_parts {s : State} {uplink : Bool} : Within [.regs] s (s.overrun uplink) := by
  unfold State.overrun
  exact .event (.step rfl .setF (.step rfl .add64 (.refl _)))

theorem execCalibrationStep_parts {tile : Nat} {fits late : Bool} {s : State} :
    OutWithin [.free, .regs, .mem, .tx, .rx] s (execCalibrationStep tile fits late s) := by
  unfold execCalibrationStep
  exact .next (.ite (.refl _) (.dup (fun h => .ite (.step rfl State.calTrims_parts h) h) (.when (.refl _) fun _ h1 => .step rfl
    State.lateFlag_parts h1)))

theorem execDpdAdaptation_parts {path : Nat} {late : Bool} {s : State} :
    OutWithin [.free, .regs, .mem, .tx] s (execDpdAdaptation path late s) := by
  unfold execDpdAdaptation
  exact .next (.ite (.refl _) (.dup (fun h => .ite h (.step rfl State.startDpdFades_parts (.step rfl State.fresh_parts (.step rfl
    State.setDpdBank_parts h)))) (.when (.refl _) fun _ h1 => .step rfl State.lateFlag_parts h1)))

theorem execTunnelResend_parts {member : Nat} {s : State} : OutWithin [.regs, .mem, .fh, .cul] s (execTunnelResend member s) := by
  unfold execTunnelResend
  exact .next (.ite (.refl _) (.each (.step rfl State.modPeer_parts (.step rfl State.setRoute_parts (.refl _))) fun _ _ h => .step rfl
    .add64 (.step rfl State.culSend_parts h)))

theorem execCulReg_parts {h : Hdr} {pos n addr : Nat} {s : State} : OutWithin [.fh, .cul] s (execCulReg h pos n addr s) := by
  unfold execCulReg
  exact .next (.acceptNow (.refl _) fun _ h => .each (.step rfl .updCul h) fun _ _ h1 => .step rfl State.tunnelSend_parts h1)

theorem execLeadUnreachable_parts {lost : Bool} {s : State} : OutWithin [.regs, .mem, .cul] s (execLeadUnreachable lost s) := by
  unfold execLeadUnreachable
  exact .next (.ite (.refl _) (.ite (.event (.step rfl .updCul (.refl _))) (.step rfl State.hostReturns_parts (.event (.step rfl .setF
    (.step rfl .updCul (.refl _)))))))

theorem execSmbSetOffset_parts {off : Nat} {pecOk : Bool} {s : State} : OutWithin [.pkg] s (execSmbSetOffset off pecOk s) := by
  unfold execSmbSetOffset
  exact .next (.ite (.step rfl .updPkg (.refl _)) (.refl _))

theorem execSmbRead_parts {pecOk : Bool} {s : State} : OutWithin [.host, .pkg] s (execSmbRead pecOk s) := by
  unfold execSmbRead
  exact .next (.ite (.refl _) (.ite (.step rfl .updPkg (.step rfl State.latch_parts (.refl _))) (.step rfl .updPkg (.refl _))))

theorem execAlertResponse_parts {s : State} : OutWithin [.pkg] s (execAlertResponse s) := by
  unfold execAlertResponse
  exact .next (.ite (.step rfl .updPkg (.refl _)) (.refl _))

theorem State.setIr_parts {s : State} {ir : JtagIr} {bits : List Bool} : Within [.pkg] s (s.setIr ir bits) := by
  unfold State.setIr
  exact .step rfl .updPkg (.refl _)

theorem State.tapBypass_parts {s : State} : Within [.pkg] s s.tapBypass := by
  unfold State.tapBypass
  exact .step rfl State.setIr_parts (.refl _)

theorem State.tapTest_parts {s : State} {ir : JtagIr} {sample : Bool} : Within [.free, .pkg] s (s.tapTest ir sample) := by
  unfold State.tapTest
  exact .ite (.step rfl State.tapBypass_parts (.refl _)) (.ite (.step rfl State.fresh_parts (.step rfl State.setIr_parts (.refl _)))
    (.step rfl State.setIr_parts (.refl _)))

theorem execBypass_parts {s : State} : OutWithin [.pkg] s (execBypass s) := by
  unfold execBypass
  exact .next (.step rfl State.tapBypass_parts (.refl _))

theorem execIdcode_parts {s : State} : OutWithin [.pkg] s (execIdcode s) := by
  unfold execIdcode
  exact .next (.step rfl State.setIr_parts (.refl _))

theorem execSamplePreload_parts {data : List Bool} {s : State} : OutWithin [.free, .pkg] s (execSamplePreload data s) := by
  unfold execSamplePreload
  exact .next (.step rfl .updPkg (.step rfl State.fresh_parts (.step rfl State.setIr_parts (.refl _))))

theorem execExtest_parts {s : State} : OutWithin [.free, .pkg] s (execExtest s) := by
  unfold execExtest
  exact .next (.step rfl State.tapTest_parts (.refl _))

theorem execExtestPulse_parts {s : State} : OutWithin [.free, .pkg] s (execExtestPulse s) := by
  unfold execExtestPulse
  exact .next (.step rfl State.tapTest_parts (.refl _))

theorem execExtestTrain_parts {s : State} : OutWithin [.free, .pkg] s (execExtestTrain s) := by
  unfold execExtestTrain
  exact .next (.step rfl State.tapTest_parts (.refl _))

theorem execClamp_parts {s : State} : OutWithin [.free, .pkg] s (execClamp s) := by
  unfold execClamp
  exact .next (.step rfl State.tapTest_parts (.refl _))

theorem execHighz_parts {s : State} : OutWithin [.free, .pkg] s (execHighz s) := by
  unfold execHighz
  exact .next (.step rfl State.tapTest_parts (.refl _))

end Sys2Proof.Machine
end

section
/-! Frames: the parts that the rings and the tick may change. -/
namespace Sys2Proof.Machine
open Sys2Proof

theorem execNop_parts {h : Hdr} {s : State} : OutWithin [] s (execNop h s) := by
  unfold execNop
  exact .next (.acceptNow (.refl _) fun _ h => .complete h)

theorem execNow_parts {h : Hdr} {s : State} : OutWithin [] s (execNow h s) := by
  unfold execNow
  exact .next (.acceptNow (.refl _) fun _ h => .completeR h)

theorem execProfile_parts {h : Hdr} {p : Nat} {s : State} : OutWithin [.host] s (execProfile h p s) := by
  unfold execProfile
  exact .next (.acceptNow (.refl _) fun _ h => .step rfl .updHost h)

theorem runCmd_parts {h : Hdr} {c : Cmd} {s : State} :
    OutWithin [.clock, .regs, .mem, .host, .tx, .rx, .beam, .levee, .rct, .fh, .line, .cul, .tim, .eng, .slu, .sea, .boot, .pwr, .hka,
      .gau, .flt] s (runCmd h c s) := by
  cases c with
  | nop => exact execNop_parts.mono (by decide)
  | profile p => exact execProfile_parts.mono (by decide)
  | now => exact execNow_parts.mono (by decide)
  | pwrState target mask sources timer => exact execPwrState_parts.mono (by decide)
  | txCarrier c => exact execTxCarrier_parts.mono (by decide)
  | txTile c => exact execTxTile_parts.mono (by decide)
  | dpdLoad path bank count src => exact execDpdLoad_parts.mono (by decide)
  | dpdSwap tile pathMask fade => exact execDpdSwap_parts.mono (by decide)
  | biasSet c => exact execBiasSet_parts.mono (by decide)
  | ddsTone c => exact execDdsTone_parts.mono (by decide)
  | rxCarrier c => exact execRxCarrier_parts.mono (by decide)
  | rxExtract c => exact execRxExtract_parts.mono (by decide)
  | rxSync panel => exact execRxSync_parts.mono (by decide)
  | bfLayers carrier uplink layers ulShift prio => exact execBfLayers_parts.mono (by decide)
  | beamLoad c => exact execBeamLoad_parts.mono (by decide)
  | beamSwap blend => exact execBeamSwap_parts.mono (by decide)
  | covSetup c => exact execCovSetup_parts.mono (by decide)
  | acdOccasion c => exact execAcdOccasion_parts.mono (by decide)
  | foReport c => exact execFoReport_parts.mono (by decide)
  | leveeCert addr => exact execLeveeCert_parts.mono (by decide)
  | leveeUnmute mask => exact execLeveeUnmute_parts.mono (by decide)
  | rctPattern pattern tileMask period addr _ => exact execRctPattern_parts.mono (by decide)
  | tileState tileMask target => exact execTileState_parts.mono (by decide)
  | rffeXfer c => exact execRffeXfer_parts.mono (by decide)
  | synRecal => exact execSynRecal_parts.mono (by decide)
  | aerial tile pathMask search clear => exact execAerial_parts.mono (by decide)
  | fhCarrier c => exact execFhCarrier_parts.mono (by decide)
  | coopSet c => exact execCoopSet_parts.mono (by decide)
  | msecRekey ports => exact execMsecRekey_parts.mono (by decide)
  | fhOwdm c => exact execFhOwdm_parts.mono (by decide)
  | lineMode port mode train => exact execLineMode_parts.mono (by decide)
  | lineRestart mask => exact execLineRestart_parts.mono (by decide)
  | lineSnapshot lane addr => exact execLineSnapshot_parts.mono (by decide)
  | lineTest mask pattern addr => exact execLineTest_parts.mono (by decide)
  | lineRmute addr => exact execLineRmute_parts.mono (by decide)
  | culSleep mask sleep => exact execCulSleep_parts.mono (by decide)
  | culEyescan mask phi0 phi1 v0 v1 dwell addr => exact execCulEyescan_parts.mono (by decide)
  | culReg pos n addr => exact execCulReg_parts.mono (by decide)
  | timeStep sec ns => exact execTimeStep_parts.mono (by decide)
  | timeEpoch epoch => exact execTimeEpoch_parts.mono (by decide)
  | otaCal c => exact execOtaCal_parts.mono (by decide)
  | engKernel tileMask action addr len => exact execEngKernel_parts.mono (by decide)
  | engMode engine mode => exact execEngMode_parts.mono (by decide)
  | sluChain ch stopOnErr head => exact execSluChain_parts.mono (by decide)
  | sluStop ch => exact execSluStop_parts.mono (by decide)
  | seaIdentity addr => exact execSeaIdentity_parts.mono (by decide)
  | seaAttest nonce addr => exact execSeaAttest_parts.mono (by decide)
  | seaSetId id => exact execSeaSetId_parts.mono (by decide)
  | seaCommit cls version => exact execSeaCommit_parts.mono (by decide)
  | seaEnrol slot addr => exact execSeaEnrol_parts.mono (by decide)
  | seaCak addr => exact execSeaCak_parts.mono (by decide)
  | seaRetire uid => exact execSeaRetire_parts.mono (by decide)
  | hkaInject => exact execHkaInject_parts.mono (by decide)
  | gauStream c => exact execGauStream_parts.mono (by decide)
  | gauArm c => exact execGauArm_parts.mono (by decide)
  | gauStop mask => exact execGauStop_parts.mono (by decide)
  | gauForce mask => exact execGauForce_parts.mono (by decide)
  | gauMask addr => exact execGauMask_parts.mono (by decide)
  | fltDumpRegion fullMem clear addr len => exact execFltDumpRegion_parts.mono (by decide)
  | fltDumpFetch erase addr => exact execFltDumpFetch_parts.mono (by decide)
  | telSetup k b addr => exact execTelSetup_parts.mono (by decide)
  | logRead count addr => exact execLogRead_parts.mono (by decide)
  | pathRestore mask => exact execPathRestore_parts.mono (by decide)
  | fltDumpTest => exact execFltDumpTest_parts.mono (by decide)

theorem State.grantFetch_parts {s : State} {r : Nat} : Within [.host] s (s.grantFetch r) := by
  unfold State.grantFetch
  exact .step rfl .updHost (.refl _)

theorem State.consumeSlot_parts {s : State} {r : Nat} : Within [.regs] s (s.consumeSlot r) := by
  unfold State.consumeSlot
  exact .modRing (.step rfl .add64 (.step rfl State.setRingPos_parts (.refl _)))

theorem State.reserveSlot_parts {s : State} {r tag : Nat} : Within [] s (s.reserveSlot r tag) := by
  unfold State.reserveSlot
  exact .modRing (.modRing (.refl _))

theorem State.takeDescriptor_parts {s : State} {r : Nat} {d : List Nat} :
    Within [.clock, .regs, .mem, .host, .tx, .rx, .beam, .levee, .rct, .fh, .line, .cul, .tim, .eng, .slu, .sea, .boot, .pwr, .hka, .gau,
      .flt] s (s.takeDescriptor r d) := by
  unfold State.takeDescriptor
  exact .dup (fun h => .step rfl State.refreshRing_parts (by
      split
      · exact .complete h
      · exact .ite (.after h fun t ht => (runCmd_parts t ht).mono (by decide)) (.complete h)))
    (.step rfl State.reserveSlot_parts (State.consumeSlot_parts.mono (by decide)))

theorem State.phaseMiss_parts {s : State} {r : Nat} : Within [] s (s.phaseMiss r) := by
  unfold State.phaseMiss
  exact .modRing (.refl _)

theorem State.fetchRing_parts {n : Nat} {s : State} {r : Nat} :
    Within [.clock, .regs, .mem, .host, .tx, .rx, .beam, .levee, .rct, .fh, .line, .cul, .tim, .eng, .slu, .sea, .boot, .pwr, .hka, .gau,
      .flt] s (State.fetchRing n s r) := by
  induction n generalizing s with
  | zero => exact .refl _
  | succ n ih =>
    unfold State.fetchRing
    exact .ite (.refl _) (.ite (.step rfl State.phaseMiss_parts (.refl _)) (.ite (.refl _) (.step rfl ih (.step rfl
      State.takeDescriptor_parts (.refl _)))))

theorem execDescriptorFetch_parts {ring : Nat} {s : State} :
    OutWithin [.clock, .regs, .mem, .host, .tx, .rx, .beam, .levee, .rct, .fh, .line, .cul, .tim, .eng, .slu, .sea, .boot, .pwr, .hka,
      .gau, .flt] s (execDescriptorFetch ring s) := by
  unfold execDescriptorFetch
  exact .next (.ite (.step rfl State.fetchRing_parts (.step rfl State.grantFetch_parts (.refl _))) (.refl _))

theorem State.staleDescriptor_parts {s : State} {r : Nat} : Within [.regs, .mem, .host] s (s.staleDescriptor r) := by
  unfold State.staleDescriptor
  exact .step rfl State.setRingState_parts (.event (.step rfl .setF (.step rfl State.writeCompletion_parts (.step rfl
    State.consumeSlot_parts (.refl _)))))

theorem execPhaseReread_parts {ring : Nat} {s : State} :
    OutWithin [.clock, .regs, .mem, .host, .tx, .rx, .beam, .levee, .rct, .fh, .line, .cul, .tim, .eng, .slu, .sea, .boot, .pwr, .hka,
      .gau, .flt] s (execPhaseReread ring s) := by
  unfold execPhaseReread
  exact .next (.ite (.refl _) (.ite (.ite (.modRing (.refl _)) (.step rfl State.takeDescriptor_parts (.refl _))) (.ite (.step rfl
    State.staleDescriptor_parts (.refl _)) (.step rfl State.phaseMiss_parts (.refl _)))))

theorem State.unhold_parts {s : State} {i : Held} : Within [.regs, .host] s (s.unhold i) := by
  unfold State.unhold
  exact .step rfl .put (.step rfl .updHost (.refl _))

theorem State.markChecked_parts {s : State} {i : Held} : Within [.host] s (s.markChecked i) := by
  unfold State.markChecked
  exact .step rfl .updHost (.refl _)

theorem State.failHeld_parts {s : State} {i : Held} {st : Nat} : Within [.regs, .host, .pwr] s (s.failHeld i st) := by
  unfold State.failHeld
  dsimp only
  split
  · exact .each (.complete (.step rfl State.unhold_parts (.refl _))) fun _ _ h => .step rfl State.ungateTile_parts h
  · exact .complete (.step rfl State.unhold_parts (.refl _))

theorem State.passHeld_parts {s : State} {i : Held} : Within [.regs, .host, .beam, .cul] s (s.passHeld i) := by
  unfold State.passHeld
  exact .dup (fun h => by
      dsimp only
      split
      · exact .step rfl State.beginTransition_parts h
      · exact .step rfl State.coopWake_parts h
      · exact h)
    (.step rfl State.markChecked_parts (.refl _))

theorem State.checkHeld_parts {s : State} {i : Held} : Within [.regs, .host, .beam, .cul, .pwr] s (s.checkHeld i) := by
  unfold State.checkHeld
  split
  · exact .step rfl State.holdBeamSwap_parts (.step rfl State.unhold_parts (.refl _))
  · split
    · exact .step rfl State.failHeld_parts (.refl _)
    · exact .step rfl State.passHeld_parts (.refl _)

theorem State.checkTimed_parts {s : State} : Within [.regs, .host, .beam, .cul, .pwr] s s.checkTimed := by
  unfold State.checkTimed
  exact .each (.refl _) fun _ _ h => .step rfl State.checkHeld_parts h

theorem execTimedCheck_parts {s : State} : OutWithin [.regs, .mem, .host, .tx, .rx, .beam, .rct, .fh, .cul, .pwr] s (execTimedCheck s) := by
  unfold execTimedCheck
  exact .next (.step rfl State.checkTimed_parts (.refl _))

theorem State.applyHeld_parts {s : State} {i : Held} :
    Within [.regs, .host, .tx, .rx, .beam, .rct, .fh, .cul, .tim, .pwr, .gau] s (s.applyHeld i) := by
  unfold State.applyHeld
  exact .dup (fun h => by
      dsimp only
      split
      · exact .step rfl State.applyTxCarrier_parts h
      · exact .step rfl State.applyTxTile_parts h
      · exact .step rfl State.applyDpdSwap_parts h
      · exact .step rfl State.applyBiasSet_parts h
      · exact .step rfl State.applyDdsTone_parts h
      · exact .step rfl State.applyRxCarrier_parts h
      · exact .step rfl State.applyRxExtract_parts h
      · exact .step rfl State.applyRxSync_parts h
      · exact .step rfl State.applyBfLayers_parts h
      · exact .step rfl State.applyBeamSwap_parts h
      · exact .step rfl State.applyCovSetup_parts h
      · exact .step rfl State.applyAcd_parts h
      · exact .step rfl State.applyFo_parts h
      · exact .step rfl State.applyRctPattern_parts h
      · exact .step rfl State.applyTileState_parts h
      · exact .step rfl State.applyRffe_parts h
      · exact .step rfl State.applySynRecal_parts h
      · exact .step rfl State.applyFhCarrier_parts h
      · exact .step rfl State.applyCoopSet_parts h
      · exact .step rfl State.applyOtaCal_parts h
      · exact h)
    (.step rfl State.unhold_parts (.refl _))

theorem State.applyTimed_parts {s : State} : Within [.regs, .host, .tx, .rx, .beam, .rct, .fh, .cul, .tim, .pwr, .gau] s s.applyTimed := by
  unfold State.applyTimed
  exact .each (.refl _) fun _ _ h => .step rfl State.applyHeld_parts h

theorem execTimedApply_parts {s : State} :
    OutWithin [.regs, .mem, .host, .tx, .rx, .beam, .rct, .fh, .cul, .tim, .pwr, .gau] s (execTimedApply s) := by
  unfold execTimedApply
  exact .next (.step rfl State.applyTimed_parts (.step rfl State.checkTimed_parts (.refl _)))

theorem State.applyProfile_parts {s : State} {e : Hdr × Nat × Int} : Within [.regs] s (s.applyProfile e) := by
  unfold State.applyProfile
  exact .ite (.completeR (.step rfl State.refreshPlan_parts (.step rfl .put (.refl _)))) (.complete (.refl _))

theorem execProfileApply_parts {s : State} : OutWithin [.regs, .mem, .host, .tx, .rx, .beam, .rct, .fh] s (execProfileApply s) := by
  unfold execProfileApply
  exact .next (.each (.step rfl .updHost (.refl _)) fun _ _ h => .step rfl State.applyProfile_parts h)

theorem State.setFlags_parts {s : State} {off lsb n mask : Nat} : Within [.regs] s (s.setFlags off lsb n mask) := by
  unfold State.setFlags
  exact .step rfl .wr (.refl _)

theorem State.txSaturation_parts {s : State} {n mask count : Nat} : Within [.regs, .tx] s (s.txSaturation n mask count) := by
  unfold State.txSaturation
  exact .step rfl .updTx (.step rfl State.setFlags_parts (.refl _))

theorem State.rxSaturation_parts {s : State} {n mask count : Nat} : Within [.regs, .rx] s (s.rxSaturation n mask count) := by
  unfold State.rxSaturation
  exact .step rfl .updRx (.step rfl State.setFlags_parts (.refl _))

theorem State.arraySaturation_parts {s : State} {dl ul : Bool} : Within [.regs] s (s.arraySaturation dl ul) := by
  unfold State.arraySaturation
  exact .when (.when (.refl _) fun _ h => .step rfl .setF h) fun _ h1 => .step rfl .setF h1

theorem State.takeSlack_parts {s : State} {slack : Nat} : Within [.regs, .flt] s (s.takeSlack slack) := by
  unfold State.takeSlack
  exact .step rfl .updFlt (.step rfl .put (.refl _))

theorem State.occasionFlags_parts {s : State} {t : TickPast} : Within [.beam] s (s.occasionFlags t) := by
  unfold State.occasionFlags
  exact .step rfl .updBeam (.refl _)

theorem State.endTick_parts {s : State} {o : TickObs} : Within [.clock, .regs, .rx, .beam, .levee, .gau, .flt] s (s.endTick o) := by
  unfold State.endTick
  exact .step rfl .updClock (.step rfl .updRx (.step rfl State.occasionFlags_parts (.step rfl State.takeSlack_parts (.step rfl
    State.leveeMeter_parts (.refl _)))))

theorem State.blankTile_parts {s : State} {n reason : Nat} : Within [.regs, .tx, .levee, .rct, .gau] s (s.blankTile n reason) := by
  unfold State.blankTile
  exact .when (.when (.step rfl State.countBlank_parts (.ite (.refl _) (.step rfl State.setTileState_parts (.refl _)))) fun _ h => .step
    rfl .updLevee h) fun _ h1 => .each h1 fun _ _ h2 => .when h2 fun _ h3 => .step rfl State.modCoex_parts h3

theorem State.sendTile_parts {s : State} {n len : Nat} : Within [.regs, .tx, .levee, .rct, .gau] s (s.sendTile n len) := by
  unfold State.sendTile
  exact .when (.step rfl .updLevee (.step rfl State.setTileState_parts (.refl _))) fun _ h => .step rfl State.countBlank_parts h

theorem State.tileSymbol_parts {s : State} {n code len : Nat} : Within [.regs, .tx, .levee, .rct, .gau] s (s.tileSymbol n code len) := by
  unfold State.tileSymbol
  refine .ite ?_ (.ite (.refl _) (.step rfl State.setTileState_parts (.refl _)))
  split
  · exact .step rfl State.blankTile_parts (.refl _)
  · exact .step rfl State.sendTile_parts (.refl _)

theorem State.frameDuty_parts {s : State} : Within [.levee, .rct] s s.frameDuty := by
  unfold State.frameDuty
  exact .ite (.step rfl .updLevee (.each (.refl _) fun _ _ h => .step rfl State.withhold_parts h)) (.refl _)

theorem State.tileSymbols_parts {s : State} : Within [.regs, .tx, .levee, .rct, .gau] s s.tileSymbols := by
  unfold State.tileSymbols
  exact .step rfl State.coexBurstEnd_parts (.step rfl State.coexBurstEnd_parts (.step rfl State.coexTick_parts (.step rfl
    State.coexTick_parts (.each (.step rfl State.frameDuty_parts (.step rfl .updLevee (.refl _))) fun _ _ h => .step rfl
    State.tileSymbol_parts h))))

theorem State.tickTriggers_parts {s : State} : Within [.hka] s s.tickTriggers := by
  unfold State.tickTriggers
  exact .step rfl State.hkaFrameEvents_parts (.refl _)

theorem State.missSection_parts {s : State} {c : FhSection} : Within [.regs, .beam, .fh] s (s.missSection c) := by
  unfold State.missSection
  exact .step rfl State.countMiss_parts (.step rfl .updFh (.refl _))

theorem State.fetchWeights_parts {s : State} {uplink : Bool} : Within [.regs, .beam, .fh] s (s.fetchWeights uplink) := by
  unfold State.fetchWeights
  exact .when (.each (.each (.refl _) fun _ _ h => .ite h (.step rfl .setF (.step rfl State.missSection_parts h))) fun _ _ h1 => .step rfl
    State.missSection_parts h1) fun _ h2 => .step rfl .updBeam (.step rfl .setF h2)

theorem State.soundingSymbol_parts {s : State} {v : CovSet} {span : Nat} {tick : Int} {obs : List CovObs} :
    Within [.beam] s (s.soundingSymbol v span tick obs) := by
  unfold State.soundingSymbol
  exact .ite (.refl _) (.step rfl .updBeam (.refl _))

theorem State.accumulate_parts {s : State} {obs : List CovObs} : Within [.beam] s (s.accumulate obs) := by
  unfold State.accumulate
  exact .each (.refl _) fun _ _ h => (by
      split
      · exact h
      · exact .ite h (.step rfl State.soundingSymbol_parts h))

theorem State.countTaint_parts {s : State} {n : Nat} : Within [.regs] s (s.countTaint n) := by
  unfold State.countTaint
  exact .when (.refl _) fun _ h => .step rfl .add64 h

theorem State.putExtract_parts {s : State} {n k : Nat} {e : ExtractEntry} {rec : List Nat} :
    Within [.free, .regs, .devMem, .rx] s (s.putExtract n k e rec) := by
  unfold State.putExtract
  exact .dup (fun h => .ite (.step rfl .devWrite h) (.step rfl .setF (.step rfl .updRx h))) (.step rfl State.fresh_parts (.refl _))

theorem State.extractEntry_parts {s : State} {key : Nat} {e : ExtractEntry} {data : List Nat} :
    Within [.free, .regs, .devMem, .rx] s (s.extractEntry key e data) := by
  unfold State.extractEntry
  dsimp only
  split
  · exact .refl _
  · exact .ite (.refl _) (.step rfl State.putExtract_parts (.refl _))

theorem State.extractions_parts {s : State} {obs : List (Nat × List Nat)} : Within [.free, .regs, .devMem, .rx] s (s.extractions obs) := by
  unfold State.extractions
  exact .each (.refl _) fun _ _ h => .step rfl State.extractEntry_parts h

theorem State.startOccasion_parts {s : State} {c : AcdCmd} {f : Int} {k t : Nat} : Within [.beam] s (s.startOccasion c f k t) := by
  unfold State.startOccasion
  exact .step rfl .updBeam (.refl _)

theorem State.occasionTick_parts {s : State} : Within [.regs, .beam] s s.occasionTick := by
  unfold State.occasionTick
  exact .dup (fun h => .ite (.each h fun _ _ h1 => .each h1 fun _ _ h2 => .step rfl State.startOccasion_parts h2) h) (.each (.refl _) fun
    _ _ h3 => .step rfl State.occasionAirEnd_parts h3)

theorem State.ncoTick_parts {s : State} : Within [.tx] s s.ncoTick := by
  unfold State.ncoTick
  exact .ite (.step rfl .updTx (.refl _)) (.refl _)

theorem State.saturations_parts {s : State} {o : TickObs} : Within [.regs, .tx, .rx] s (s.saturations o) := by
  unfold State.saturations
  exact .step rfl State.arraySaturation_parts (.each (.each (.refl _) fun _ _ h => .step rfl State.txSaturation_parts h) fun _ _ h1 =>
    .step rfl State.rxSaturation_parts h1)

theorem State.fronthaulTick_parts {s : State} {o : TickObs} : Within [.regs, .fh, .cul] s (s.fronthaulTick o) := by
  unfold State.fronthaulTick
  exact .step rfl State.fhDrain_parts (.step rfl State.fhDrain_parts (.step rfl State.takeContributions_parts (.step rfl
    State.flushEarly_parts (.step rfl State.closeWindows_parts (.step rfl State.uplaneEgress_parts (.refl _))))))

theorem State.tickWork_parts {s : State} {o : TickObs} :
    Within [.free, .regs, .devMem, .tx, .rx, .beam, .levee, .rct, .fh, .cul, .hka, .gau, .flt] s (s.tickWork o) := by
  unfold State.tickWork
  exact .step rfl .updFlt (.step rfl State.fronthaulTick_parts (.when (.when (.step rfl State.saturations_parts (.step rfl
    State.occasionTick_parts (.step rfl State.extractions_parts (.step rfl State.accumulate_parts (.each (.step rfl
    State.fetchWeights_parts (.step rfl State.fetchWeights_parts (.step rfl State.tileSymbols_parts (.step rfl State.tickTriggers_parts
    (.step rfl State.ncoTick_parts (.refl _)))))) fun _ _ h => .step rfl State.countTaint_parts h))))) fun _ h1 => .step rfl
    State.overrun_parts h1) fun _ h2 => .step rfl State.overrun_parts h2))

theorem execSymbolTick_parts {o : TickObs} {s : State} :
    OutWithin [.clock, .free, .regs, .mem, .devMem, .tx, .rx, .beam, .levee, .rct, .fh, .cul, .tim, .hka, .gau, .flt] s (execSymbolTick o
      s) := by
  unfold execSymbolTick
  exact .next (.ite (.refl _) (.ite (.step rfl .updClock (.refl _)) (.step rfl State.tickWork_parts (.step rfl State.endTick_parts (.refl
    _)))))

end Sys2Proof.Machine
end

section
/-! Every command keeps to its parts. -/
namespace Sys2Proof.Machine
open Sys2Proof

/-- A command whose list is every part has nothing to leave alone. -/
theorem Part.mem_every (p : Part) :
    p ∈ [.clock, .free, .regs, .mem, .devMem, .host, .arch, .tx, .rx, .beam, .levee, .rct, .fh, .line,
      .cul, .tim, .eng, .slu, .sea, .boot, .pwr, .hka, .gau, .flt, .pkg] := by
  cases p <;> decide

theorem exec_frame : ∀ (c : Instr) (s t : State) (p : Part), s.stored → exec c s = .next t → p ∉ touches c → p.same s t
  | .symbolTick _, _, _, _, hs, ht, hp => execSymbolTick_parts.frame (by decide) hs ht hp
  | .combiningHoldEnd _ _, _, _, _, hs, ht, hp => execCombiningHoldEnd_parts.frame (by decide) hs ht hp
  | .accessRetry _ _, _, _, p, _, _, hp => absurd p.mem_every hp
  | .wideReadLatch _ _, _, _, _, hs, ht, hp => execWideReadLatch_parts.frame (by decide) hs ht hp
  | .wideWriteStage _ _ _, _, _, _, hs, ht, hp => execWideWriteStage_parts.frame (by decide) hs ht hp
  | .timRefNumWrite _ _, _, _, _, hs, ht, hp => execTimRefNumWrite_parts.frame (by decide) hs ht hp
  | .refNumChange, _, _, _, hs, ht, hp => execRefNumChange_parts.frame (by decide) hs ht hp
  | .tAdvApply, _, _, _, hs, ht, hp => execTAdvApply_parts.frame (by decide) hs ht hp
  | .marginRst _, _, _, _, hs, ht, hp => execMarginRst_parts.frame (by decide) hs ht hp
  | .scrubRead _ _, _, _, _, hs, ht, hp => execScrubRead_parts.frame (by decide) hs ht hp
  | .calibrationStep _ _ _, _, _, _, hs, ht, hp => execCalibrationStep_parts.frame (by decide) hs ht hp
  | .dpdAdaptation _ _, _, _, _, hs, ht, hp => execDpdAdaptation_parts.frame (by decide) hs ht hp
  | .equaliserUpdate _ _, _, _, _, hs, ht, hp => execEqualiserUpdate_parts.frame (by decide) hs ht hp
  | .thermalSampling _, _, _, _, hs, ht, hp => execThermalSampling_parts.frame (by decide) hs ht hp
  | .throttleLower, _, _, _, hs, ht, hp => execThrottleLower_parts.frame (by decide) hs ht hp
  | .t2Restore, _, _, _, hs, ht, hp => execT2Restore_parts.frame (by decide) hs ht hp
  | .t3Gating, _, _, _, hs, ht, hp => execT3Gating_parts.frame (by decide) hs ht hp
  | .t3Release, _, _, _, hs, ht, hp => execT3Release_parts.frame (by decide) hs ht hp
  | .thermalTrip _, _, _, _, hs, ht, hp => execThermalTrip_parts.frame (by decide) hs ht hp
  | .txCarrier _ _, _, _, _, hs, ht, hp => execTxCarrier_parts.frame (by decide) hs ht hp
  | .txTile _ _, _, _, _, hs, ht, hp => execTxTile_parts.frame (by decide) hs ht hp
  | .dpdLoad _ _ _ _ _, _, _, _, hs, ht, hp => execDpdLoad_parts.frame (by decide) hs ht hp
  | .dpdLoadComplete _ _, _, _, _, hs, ht, hp => execDpdLoadComplete_parts.frame (by decide) hs ht hp
  | .dpdSwap _ _ _ _, _, _, _, hs, ht, hp => execDpdSwap_parts.frame (by decide) hs ht hp
  | .dpdFadeEnd _, _, _, _, hs, ht, hp => execDpdFadeEnd_parts.frame (by decide) hs ht hp
  | .heldDpdSwapStart _, _, _, _, hs, ht, hp => execHeldDpdSwapStart_parts.frame (by decide) hs ht hp
  | .biasSet _ _, _, _, _, hs, ht, hp => execBiasSet_parts.frame (by decide) hs ht hp
  | .biasTrigger _ _ _, _, _, _, hs, ht, hp => execBiasTrigger_parts.frame (by decide) hs ht hp
  | .biasTriggerTimeout _ _, _, _, _, hs, ht, hp => execBiasTriggerTimeout_parts.frame (by decide) hs ht hp
  | .biasSpanSwitch _ _, _, _, _, hs, ht, hp => execBiasSpanSwitch_parts.frame (by decide) hs ht hp
  | .biasSafePhaseEnd _ _, _, _, _, hs, ht, hp => execBiasSafePhaseEnd_parts.frame (by decide) hs ht hp
  | .ddsTone _ _, _, _, _, hs, ht, hp => execDdsTone_parts.frame (by decide) hs ht hp
  | .txSatSummary _, _, _, _, hs, ht, hp => execTxSatSummary_parts.frame (by decide) hs ht hp
  | .overloadEpisodeStart _, _, _, _, hs, ht, hp => execOverloadEpisodeStart_parts.frame (by decide) hs ht hp
  | .overloadProtect _, _, _, _, hs, ht, hp => execOverloadProtect_parts.frame (by decide) hs ht hp
  | .overloadEpisodeEnd _ _, _, _, _, hs, ht, hp => execOverloadEpisodeEnd_parts.frame (by decide) hs ht hp
  | .syncInEdge, _, _, _, hs, ht, hp => execSyncInEdge_parts.frame (by decide) hs ht hp
  | .syncEvent, _, _, _, hs, ht, hp => execSyncEvent_parts.frame (by decide) hs ht hp
  | .syncConfirmTimeout, _, _, _, hs, ht, hp => execSyncConfirmTimeout_parts.frame (by decide) hs ht hp
  | .rxCarrier _ _, _, _, _, hs, ht, hp => execRxCarrier_parts.frame (by decide) hs ht hp
  | .rxExtract _ _, _, _, _, hs, ht, hp => execRxExtract_parts.frame (by decide) hs ht hp
  | .rxSync _ _, _, _, _, hs, ht, hp => execRxSync_parts.frame (by decide) hs ht hp
  | .rxSatSummary _, _, _, _, hs, ht, hp => execRxSatSummary_parts.frame (by decide) hs ht hp
  | .extractionDrops _, _, _, _, hs, ht, hp => execExtractionDrops_parts.frame (by decide) hs ht hp
  | .bfLayers _ _ _ _ _ _, _, _, _, hs, ht, hp => execBfLayers_parts.frame (by decide) hs ht hp
  | .beamLoad _ _, _, _, _, hs, ht, hp => execBeamLoad_parts.frame (by decide) hs ht hp
  | .beamLoadComplete _, _, _, _, hs, ht, hp => execBeamLoadComplete_parts.frame (by decide) hs ht hp
  | .poolFlushComplete, _, _, _, hs, ht, hp => execPoolFlushComplete_parts.frame (by decide) hs ht hp
  | .beamSwap _ _, _, _, _, hs, ht, hp => execBeamSwap_parts.frame (by decide) hs ht hp
  | .beamTransitionEnd, _, _, _, hs, ht, hp => execBeamTransitionEnd_parts.frame (by decide) hs ht hp
  | .heldBeamSwapStart, _, _, _, hs, ht, hp => execHeldBeamSwapStart_parts.frame (by decide) hs ht hp
  | .pageLoadComplete _, _, _, _, hs, ht, hp => execPageLoadComplete_parts.frame (by decide) hs ht hp
  | .pageMissSummary, _, _, _, hs, ht, hp => execPageMissSummary_parts.frame (by decide) hs ht hp
  | .covSetup _ _, _, _, _, hs, ht, hp => execCovSetup_parts.frame (by decide) hs ht hp
  | .covSolveStart _, _, _, _, hs, ht, hp => execCovSolveStart_parts.frame (by decide) hs ht hp
  | .covSolveEnd _, _, _, _, hs, ht, hp => execCovSolveEnd_parts.frame (by decide) hs ht hp
  | .renormalisation, _, _, _, hs, ht, hp => execRenormalisation_parts.frame (by decide) hs ht hp
  | .acdOccasion _ _, _, _, _, hs, ht, hp => execAcdOccasion_parts.frame (by decide) hs ht hp
  | .occasionEnd _ _ _, _, _, _, hs, ht, hp => execOccasionEnd_parts.frame (by decide) hs ht hp
  | .foReport _ _, _, _, _, hs, ht, hp => execFoReport_parts.frame (by decide) hs ht hp
  | .foMeasurement _ _ _ _ _ _, _, _, _, hs, ht, hp => execFoMeasurement_parts.frame (by decide) hs ht hp
  | .leveeCert _ _, _, _, _, hs, ht, hp => execLeveeCert_parts.frame (by decide) hs ht hp
  | .limitsInForce, _, _, _, hs, ht, hp => execLimitsInForce_parts.frame (by decide) hs ht hp
  | .leveeUnmute _ _, _, _, _, hs, ht, hp => execLeveeUnmute_parts.frame (by decide) hs ht hp
  | .leveeDwell _ _, _, _, _, hs, ht, hp => execLeveeDwell_parts.frame (by decide) hs ht hp
  | .obsReferenceCheck _ _ _, _, _, _, hs, ht, hp => execObsReferenceCheck_parts.frame (by decide) hs ht hp
  | .rctPattern _ _ _ _ _, _, _, _, hs, ht, hp => execRctPattern_parts.frame (by decide) hs ht hp
  | .patternBind _, _, _, _, hs, ht, hp => execPatternBind_parts.frame (by decide) hs ht hp
  | .timingApply _, _, _, _, hs, ht, hp => execTimingApply_parts.frame (by decide) hs ht hp
  | .tileState _ _ _, _, _, _, hs, ht, hp => execTileState_parts.frame (by decide) hs ht hp
  | .protectHoldExpiry _, _, _, _, hs, ht, hp => execProtectHoldExpiry_parts.frame (by decide) hs ht hp
  | .strobeEdge _ _, _, _, _, hs, ht, hp => execStrobeEdge_parts.frame (by decide) hs ht hp
  | .coexGntChange _ _, _, _, _, hs, ht, hp => execCoexGntChange_parts.frame (by decide) hs ht hp
  | .coexReqChange _ _, _, _, _, hs, ht, hp => execCoexReqChange_parts.frame (by decide) hs ht hp
  | .rffeXfer _ _, _, _, _, hs, ht, hp => execRffeXfer_parts.frame (by decide) hs ht hp
  | .synRecal _, _, _, _, hs, ht, hp => execSynRecal_parts.frame (by decide) hs ht hp
  | .synthLockLost _, _, _, _, hs, ht, hp => execSynthLockLost_parts.frame (by decide) hs ht hp
  | .synthCalibrationDone _, _, _, _, hs, ht, hp => execSynthCalibrationDone_parts.frame (by decide) hs ht hp
  | .driftRecalibration, _, _, _, hs, ht, hp => execDriftRecalibration_parts.frame (by decide) hs ht hp
  | .aerial _ _ _ _ _, _, _, _, hs, ht, hp => execAerial_parts.frame (by decide) hs ht hp
  | .mismatchPair _ _ _, _, _, _, hs, ht, hp => execMismatchPair_parts.frame (by decide) hs ht hp
  | .tunerTrial _ _ _, _, _, _, hs, ht, hp => execTunerTrial_parts.frame (by decide) hs ht hp
  | .blankingSummary, _, _, _, hs, ht, hp => execBlankingSummary_parts.frame (by decide) hs ht hp
  | .lineFrame _, _, _, _, hs, ht, hp => execLineFrame_parts.frame (by decide) hs ht hp
  | .cplaneMessage _, _, _, _, hs, ht, hp => execCplaneMessage_parts.frame (by decide) hs ht hp
  | .uplaneMessage _, _, _, _, hs, ht, hp => execUplaneMessage_parts.frame (by decide) hs ht hp
  | .owdmMessage _, _, _, _, hs, ht, hp => execOwdmMessage_parts.frame (by decide) hs ht hp
  | .partialSumMessage _ _, _, _, _, hs, ht, hp => execPartialSumMessage_parts.frame (by decide) hs ht hp
  | .mkaMessage _, _, _, _, hs, ht, hp => execMkaMessage_parts.frame (by decide) hs ht hp
  | .mkaHello, _, _, _, hs, ht, hp => execMkaHello_parts.frame (by decide) hs ht hp
  | .mkaPeerLost _, _, _, _, hs, ht, hp => execMkaPeerLost_parts.frame (by decide) hs ht hp
  | .flowIdleTimeout, _, _, _, hs, ht, hp => execFlowIdleTimeout_parts.frame (by decide) hs ht hp
  | .duReport, _, _, _, hs, ht, hp => execDuReport_parts.frame (by decide) hs ht hp
  | .dropSummary, _, _, _, hs, ht, hp => execDropSummary_parts.frame (by decide) hs ht hp
  | .setStateChange _, _, _, _, hs, ht, hp => execSetStateChange_parts.frame (by decide) hs ht hp
  | .fhCarrier _ _, _, _, _, hs, ht, hp => execFhCarrier_parts.frame (by decide) hs ht hp
  | .coopSet _ _, _, _, _, hs, ht, hp => execCoopSet_parts.frame (by decide) hs ht hp
  | .msecRekey _ _, _, _, _, hs, ht, hp => execMsecRekey_parts.frame (by decide) hs ht hp
  | .fhOwdm _ _, _, _, _, hs, ht, hp => execFhOwdm_parts.frame (by decide) hs ht hp
  | .owdmTimeout _, _, _, _, hs, ht, hp => execOwdmTimeout_parts.frame (by decide) hs ht hp
  | .lineMode _ _ _ _, _, _, _, hs, ht, hp => execLineMode_parts.frame (by decide) hs ht hp
  | .lineRestart _ _, _, _, _, hs, ht, hp => execLineRestart_parts.frame (by decide) hs ht hp
  | .lineSnapshot _ _ _, _, _, _, hs, ht, hp => execLineSnapshot_parts.frame (by decide) hs ht hp
  | .lineTest _ _ _ _, _, _, _, hs, ht, hp => execLineTest_parts.frame (by decide) hs ht hp
  | .lineTestReport _ _ _, _, _, _, hs, ht, hp => execLineTestReport_parts.frame (by decide) hs ht hp
  | .lineRmute _ _, _, _, _, hs, ht, hp => execLineRmute_parts.frame (by decide) hs ht hp
  | .losChange _ _, _, _, _, hs, ht, hp => execLosChange_parts.frame (by decide) hs ht hp
  | .laneBackoffEnd _, _, _, _, hs, ht, hp => execLaneBackoffEnd_parts.frame (by decide) hs ht hp
  | .laneTimeout _, _, _, _, hs, ht, hp => execLaneTimeout_parts.frame (by decide) hs ht hp
  | .markerLock _, _, _, _, hs, ht, hp => execMarkerLock_parts.frame (by decide) hs ht hp
  | .fecLock _, _, _, _, hs, ht, hp => execFecLock_parts.frame (by decide) hs ht hp
  | .portUp _ _, _, _, _, hs, ht, hp => execPortUp_parts.frame (by decide) hs ht hp
  | .markerPeriod _ _, _, _, _, hs, ht, hp => execMarkerPeriod_parts.frame (by decide) hs ht hp
  | .fecDegradeClear _, _, _, _, hs, ht, hp => execFecDegradeClear_parts.frame (by decide) hs ht hp
  | .occupancyWindow _ _, _, _, _, hs, ht, hp => execOccupancyWindow_parts.frame (by decide) hs ht hp
  | .freezeEvent _, _, _, _, hs, ht, hp => execFreezeEvent_parts.frame (by decide) hs ht hp
  | .overlayCell _ _, _, _, _, hs, ht, hp => execOverlayCell_parts.frame (by decide) hs ht hp
  | .trainingCell _ _, _, _, _, hs, ht, hp => execTrainingCell_parts.frame (by decide) hs ht hp
  | .rxReady _, _, _, _, hs, ht, hp => execRxReady_parts.frame (by decide) hs ht hp
  | .oneSidedTimeout _, _, _, _, hs, ht, hp => execOneSidedTimeout_parts.frame (by decide) hs ht hp
  | .heartbeatSend, _, _, _, hs, ht, hp => execHeartbeatSend_parts.frame (by decide) hs ht hp
  | .heartbeat _, _, _, _, hs, ht, hp => execHeartbeat_parts.frame (by decide) hs ht hp
  | .neighbourUnreachable _, _, _, _, hs, ht, hp => execNeighbourUnreachable_parts.frame (by decide) hs ht hp
  | .muteFragment _, _, _, _, hs, ht, hp => execMuteFragment_parts.frame (by decide) hs ht hp
  | .fragmentTimeout _, _, _, _, hs, ht, hp => execFragmentTimeout_parts.frame (by decide) hs ht hp
  | .histReq _ _, _, _, _, hs, ht, hp => execHistReq_parts.frame (by decide) hs ht hp
  | .histDone _ _, _, _, _, hs, ht, hp => execHistDone_parts.frame (by decide) hs ht hp
  | .culSleep _ _ _, _, _, _, hs, ht, hp => execCulSleep_parts.frame (by decide) hs ht hp
  | .culEyescan _ _ _ _ _ _ _ _, _, _, _, hs, ht, hp => execCulEyescan_parts.frame (by decide) hs ht hp
  | .eyescanDone _ _, _, _, _, hs, ht, hp => execEyescanDone_parts.frame (by decide) hs ht hp
  | .culReg _ _ _ _, _, _, _, hs, ht, hp => execCulReg_parts.frame (by decide) hs ht hp
  | .headerLock _, _, _, _, hs, ht, hp => execHeaderLock_parts.frame (by decide) hs ht hp
  | .lockLoss _, _, _, _, hs, ht, hp => execLockLoss_parts.frame (by decide) hs ht hp
  | .culvertSignalLoss _, _, _, _, hs, ht, hp => execCulvertSignalLoss_parts.frame (by decide) hs ht hp
  | .alignPeriod _ _, _, _, _, hs, ht, hp => execAlignPeriod_parts.frame (by decide) hs ht hp
  | .alignBlock _ _, _, _, _, hs, ht, hp => execAlignBlock_parts.frame (by decide) hs ht hp
  | .sleepBlocks _, _, _, _, hs, ht, hp => execSleepBlocks_parts.frame (by decide) hs ht hp
  | .laneReadd _, _, _, _, hs, ht, hp => execLaneReadd_parts.frame (by decide) hs ht hp
  | .autoSleep _, _, _, _, hs, ht, hp => execAutoSleep_parts.frame (by decide) hs ht hp
  | .culvertFrame _, _, _, _, hs, ht, hp => execCulvertFrame_parts.frame (by decide) hs ht hp
  | .linkMgmtFrame _ _, _, _, _, hs, ht, hp => execLinkMgmtFrame_parts.frame (by decide) hs ht hp
  | .panelSyncFrame _ _, _, _, _, hs, ht, hp => execPanelSyncFrame_parts.frame (by decide) hs ht hp
  | .tunnelMessage _ _ _, _, _, p, _, _, hp => absurd p.mem_every hp
  | .tunnelResend _, _, _, _, hs, ht, hp => execTunnelResend_parts.frame (by decide) hs ht hp
  | .tunnelReadTimeout _, _, _, p, _, _, hp => absurd p.mem_every hp
  | .tunnelDoorbell _ _ _ _, _, _, _, hs, ht, hp => execTunnelDoorbell_parts.frame (by decide) hs ht hp
  | .leadUnreachable _, _, _, _, hs, ht, hp => execLeadUnreachable_parts.frame (by decide) hs ht hp
  | .mismatchReport _, _, _, _, hs, ht, hp => execMismatchReport_parts.frame (by decide) hs ht hp
  | .airOfsWrite _ _, _, _, _, hs, ht, hp => execAirOfsWrite_parts.frame (by decide) hs ht hp
  | .ptpAnnounce _ _, _, _, _, hs, ht, hp => execPtpAnnounce_parts.frame (by decide) hs ht hp
  | .ptpSync _ _ _ _ _ _, _, _, _, hs, ht, hp => execPtpSync_parts.frame (by decide) hs ht hp
  | .ptpFollowUp _ _ _ _ _, _, _, _, hs, ht, hp => execPtpFollowUp_parts.frame (by decide) hs ht hp
  | .delayReq _, _, _, _, hs, ht, hp => execDelayReq_parts.frame (by decide) hs ht hp
  | .delayResp _ _ _ _ _, _, _, _, hs, ht, hp => execDelayResp_parts.frame (by decide) hs ht hp
  | .ptpSourceLost _, _, _, _, hs, ht, hp => execPtpSourceLost_parts.frame (by decide) hs ht hp
  | .ppsInEdge, _, _, _, hs, ht, hp => execPpsInEdge_parts.frame (by decide) hs ht hp
  | .ppsLost, _, _, _, hs, ht, hp => execPpsLost_parts.frame (by decide) hs ht hp
  | .ppsOut _, _, _, _, hs, ht, hp => execPpsOut_parts.frame (by decide) hs ht hp
  | .clockLocked, _, _, _, hs, ht, hp => execClockLocked_parts.frame (by decide) hs ht hp
  | .timeCellSend _, _, _, _, hs, ht, hp => execTimeCellSend_parts.frame (by decide) hs ht hp
  | .timeTransferCell _, _, _, _, hs, ht, hp => execTimeTransferCell_parts.frame (by decide) hs ht hp
  | .thetaUpdate _, _, _, _, hs, ht, hp => execThetaUpdate_parts.frame (by decide) hs ht hp
  | .rootSeqAdvance, _, _, _, hs, ht, hp => execRootSeqAdvance_parts.frame (by decide) hs ht hp
  | .rootLost, _, _, _, hs, ht, hp => execRootLost_parts.frame (by decide) hs ht hp
  | .ownKeyWindowEnd, _, _, _, hs, ht, hp => execOwnKeyWindowEnd_parts.frame (by decide) hs ht hp
  | .extDisagree _, _, _, _, hs, ht, hp => execExtDisagree_parts.frame (by decide) hs ht hp
  | .timeStep _ _ _, _, _, _, hs, ht, hp => execTimeStep_parts.frame (by decide) hs ht hp
  | .timeEpoch _ _, _, _, _, hs, ht, hp => execTimeEpoch_parts.frame (by decide) hs ht hp
  | .otaCal _ _, _, _, _, hs, ht, hp => execOtaCal_parts.frame (by decide) hs ht hp
  | .otaCalResult _, _, _, _, hs, ht, hp => execOtaCalResult_parts.frame (by decide) hs ht hp
  | .engNopBundle _, _, _, p, _, _, hp => absurd p.mem_every hp
  | .engMac4 _, _, _, p, _, _, hp => absurd p.mem_every hp
  | .engDot4 _, _, _, p, _, _, hp => absurd p.mem_every hp
  | .engCmac _, _, _, p, _, _, hp => absurd p.mem_every hp
  | .engTapmv _, _, _, p, _, _, hp => absurd p.mem_every hp
  | .engSta4 _, _, _, p, _, _, hp => absurd p.mem_every hp
  | .engStc _, _, _, p, _, _, hp => absurd p.mem_every hp
  | .engAdd _, _, _, p, _, _, hp => absurd p.mem_every hp
  | .engAddi _, _, _, p, _, _, hp => absurd p.mem_every hp
  | .engSub _, _, _, p, _, _, hp => absurd p.mem_every hp
  | .engAnd _, _, _, p, _, _, hp => absurd p.mem_every hp
  | .engOr _, _, _, p, _, _, hp => absurd p.mem_every hp
  | .engXor _, _, _, p, _, _, hp => absurd p.mem_every hp
  | .engShli _, _, _, p, _, _, hp => absurd p.mem_every hp
  | .engShri _, _, _, p, _, _, hp => absurd p.mem_every hp
  | .engSari _, _, _, p, _, _, hp => absurd p.mem_every hp
  | .engMovi _, _, _, p, _, _, hp => absurd p.mem_every hp
  | .engOrh _, _, _, p, _, _, hp => absurd p.mem_every hp
  | .engLdg _, _, _, p, _, _, hp => absurd p.mem_every hp
  | .engStg _, _, _, p, _, _, hp => absurd p.mem_every hp
  | .engSth _, _, _, p, _, _, hp => absurd p.mem_every hp
  | .engMvag _, _, _, p, _, _, hp => absurd p.mem_every hp
  | .engMvga _, _, _, p, _, _, hp => absurd p.mem_every hp
  | .engExp _, _, _, p, _, _, hp => absurd p.mem_every hp
  | .engNorm _, _, _, p, _, _, hp => absurd p.mem_every hp
  | .engBexr _, _, _, p, _, _, hp => absurd p.mem_every hp
  | .engAgset _, _, _, p, _, _, hp => absurd p.mem_every hp
  | .engRcp _, _, _, p, _, _, hp => absurd p.mem_every hp
  | .engRsq _, _, _, p, _, _, hp => absurd p.mem_every hp
  | .engMul _, _, _, p, _, _, hp => absurd p.mem_every hp
  | .engTapc _, _, _, p, _, _, hp => absurd p.mem_every hp
  | .engBr _, _, _, p, _, _, hp => absurd p.mem_every hp
  | .engCall _, _, _, p, _, _, hp => absurd p.mem_every hp
  | .engRet _, _, _, p, _, _, hp => absurd p.mem_every hp
  | .engLoop _, _, _, p, _, _, hp => absurd p.mem_every hp
  | .engWait _, _, _, p, _, _, hp => absurd p.mem_every hp
  | .engineWake _ _, _, _, _, hs, ht, hp => execEngineWake_parts.frame (by decide) hs ht hp
  | .engTrap _, _, _, p, _, _, hp => absurd p.mem_every hp
  | .engTime _, _, _, _, hs, ht, hp => execEngTime_parts.frame (by decide) hs ht hp
  | .engWriteWeights _, _, _, p, _, _, hp => absurd p.mem_every hp
  | .engCovRead _, _, _, p, _, _, hp => absurd p.mem_every hp
  | .engEvent _, _, _, p, _, _, hp => absurd p.mem_every hp
  | .engSolved _, _, _, _, hs, ht, hp => execEngSolved_parts.frame (by decide) hs ht hp
  | .engFence _, _, _, p, _, _, hp => absurd p.mem_every hp
  | .engRetk _, _, _, p, _, _, hp => absurd p.mem_every hp
  | .engHalt _, _, _, p, _, _, hp => absurd p.mem_every hp
  | .watchdog _, _, _, p, _, _, hp => absurd p.mem_every hp
  | .engineRestart _, _, _, p, _, _, hp => absurd p.mem_every hp
  | .modeChange _ _ _, _, _, _, hs, ht, hp => execModeChange_parts.frame (by decide) hs ht hp
  | .kernelInvocation _ _, _, _, _, hs, ht, hp => execKernelInvocation_parts.frame (by decide) hs ht hp
  | .kernelPlacement _, _, _, _, hs, ht, hp => execKernelPlacement_parts.frame (by decide) hs ht hp
  | .engKernel _ _ _ _ _, _, _, _, hs, ht, hp => execEngKernel_parts.frame (by decide) hs ht hp
  | .engMode _ _ _, _, _, _, hs, ht, hp => execEngMode_parts.frame (by decide) hs ht hp
  | .nop _, _, _, _, hs, ht, hp => execNop_parts.frame (by decide) hs ht hp
  | .profile _ _, _, _, _, hs, ht, hp => execProfile_parts.frame (by decide) hs ht hp
  | .profileApply, _, _, _, hs, ht, hp => execProfileApply_parts.frame (by decide) hs ht hp
  | .now _, _, _, _, hs, ht, hp => execNow_parts.frame (by decide) hs ht hp
  | .doorbell _ _ _, _, _, _, hs, ht, hp => execDoorbell_parts.frame (by decide) hs ht hp
  | .kick _ _ _, _, _, _, hs, ht, hp => execKick_parts.frame (by decide) hs ht hp
  | .headDoorbell _ _ _, _, _, _, hs, ht, hp => execHeadDoorbell_parts.frame (by decide) hs ht hp
  | .ringEnable _ _ _, _, _, _, hs, ht, hp => execRingEnable_parts.frame (by decide) hs ht hp
  | .ringsDisable _, _, _, _, hs, ht, hp => execRingsDisable_parts.frame (by decide) hs ht hp
  | .descriptorFetch _, _, _, _, hs, ht, hp => execDescriptorFetch_parts.frame (by decide) hs ht hp
  | .phaseReread _, _, _, _, hs, ht, hp => execPhaseReread_parts.frame (by decide) hs ht hp
  | .timedCheck, _, _, _, hs, ht, hp => execTimedCheck_parts.frame (by decide) hs ht hp
  | .timedApply, _, _, _, hs, ht, hp => execTimedApply_parts.frame (by decide) hs ht hp
  | .msixMessage _, _, _, _, hs, ht, hp => execMsixMessage_parts.frame (by decide) hs ht hp
  | .msixUnmask _, _, _, _, hs, ht, hp => execMsixUnmask_parts.frame (by decide) hs ht hp
  | .linkDown, _, _, _, hs, ht, hp => execLinkDown_parts.frame (by decide) hs ht hp
  | .linkUp, _, _, _, hs, ht, hp => execLinkUp_parts.frame (by decide) hs ht hp
  | .configRequest, _, _, _, hs, ht, hp => execConfigRequest_parts.frame (by decide) hs ht hp
  | .sluChain _ _ _ _, _, _, _, hs, ht, hp => execSluChain_parts.frame (by decide) hs ht hp
  | .sluStop _ _, _, _, _, hs, ht, hp => execSluStop_parts.frame (by decide) hs ht hp
  | .sluKick _ _, _, _, _, hs, ht, hp => execSluKick_parts.frame (by decide) hs ht hp
  | .ctrlPoll _, _, _, _, hs, ht, hp => execCtrlPoll_parts.frame (by decide) hs ht hp
  | .sluiceDescriptor _ _, _, _, _, hs, ht, hp => execSluiceDescriptor_parts.frame (by decide) hs ht hp
  | .descriptorComplete _, _, _, _, hs, ht, hp => execDescriptorComplete_parts.frame (by decide) hs ht hp
  | .seaIdentity _ _, _, _, _, hs, ht, hp => execSeaIdentity_parts.frame (by decide) hs ht hp
  | .seaAttest _ _ _, _, _, _, hs, ht, hp => execSeaAttest_parts.frame (by decide) hs ht hp
  | .seaSetId _ _, _, _, _, hs, ht, hp => execSeaSetId_parts.frame (by decide) hs ht hp
  | .seaCommit _ _ _, _, _, _, hs, ht, hp => execSeaCommit_parts.frame (by decide) hs ht hp
  | .seaEnrol _ _ _, _, _, _, hs, ht, hp => execSeaEnrol_parts.frame (by decide) hs ht hp
  | .seaCak _ _, _, _, _, hs, ht, hp => execSeaCak_parts.frame (by decide) hs ht hp
  | .seaRetire _ _, _, _, _, hs, ht, hp => execSeaRetire_parts.frame (by decide) hs ht hp
  | .entropyFailure, _, _, _, hs, ht, hp => execEntropyFailure_parts.frame (by decide) hs ht hp
  | .entropyRecovered, _, _, _, hs, ht, hp => execEntropyRecovered_parts.frame (by decide) hs ht hp
  | .imageVerification _ _, _, _, _, hs, ht, hp => execImageVerification_parts.frame (by decide) hs ht hp
  | .rstnFall, _, _, p, _, _, hp => absurd p.mem_every hp
  | .supplyMonitorTrip _, _, _, p, _, _, hp => absurd p.mem_every hp
  | .resetRelease _ _, _, _, _, hs, ht, hp => execResetRelease_parts.frame (by decide) hs ht hp
  | .referenceMeasure _, _, _, _, hs, ht, hp => execReferenceMeasure_parts.frame (by decide) hs ht hp
  | .referenceLost, _, _, _, hs, ht, hp => execReferenceLost_parts.frame (by decide) hs ht hp
  | .railRecheck _, _, _, _, hs, ht, hp => execRailRecheck_parts.frame (by decide) hs ht hp
  | .imagesOk, _, _, _, hs, ht, hp => execImagesOk_parts.frame (by decide) hs ht hp
  | .reducedService, _, _, _, hs, ht, hp => execReducedService_parts.frame (by decide) hs ht hp
  | .tileCalibrated _ _, _, _, _, hs, ht, hp => execTileCalibrated_parts.frame (by decide) hs ht hp
  | .calibrationRefined, _, _, _, hs, ht, hp => execCalibrationRefined_parts.frame (by decide) hs ht hp
  | .perstFall, _, _, _, hs, ht, hp => execPerstFall_parts.frame (by decide) hs ht hp
  | .perstRise, _, _, _, hs, ht, hp => execPerstRise_parts.frame (by decide) hs ht hp
  | .confirm _, _, _, _, hs, ht, hp => execConfirm_parts.frame (by decide) hs ht hp
  | .softRst _ _, _, _, p, _, _, hp => absurd p.mem_every hp
  | .go _, _, _, _, hs, ht, hp => execGo_parts.frame (by decide) hs ht hp
  | .updateDone _ _ _, _, _, _, hs, ht, hp => execUpdateDone_parts.frame (by decide) hs ht hp
  | .pwrState _ _ _ _ _, _, _, _, hs, ht, hp => execPwrState_parts.frame (by decide) hs ht hp
  | .tileGated _, _, _, _, hs, ht, hp => execTileGated_parts.frame (by decide) hs ht hp
  | .tileUngated _, _, _, _, hs, ht, hp => execTileUngated_parts.frame (by decide) hs ht hp
  | .wakeNLow, _, _, _, hs, ht, hp => execWakeNLow_parts.frame (by decide) hs ht hp
  | .wake _, _, _, _, hs, ht, hp => execWake_parts.frame (by decide) hs ht hp
  | .polderExit, _, _, _, hs, ht, hp => execPolderExit_parts.frame (by decide) hs ht hp
  | .sentinelWake _, _, _, _, hs, ht, hp => execSentinelWake_parts.frame (by decide) hs ht hp
  | .autoGating, _, _, _, hs, ht, hp => execAutoGating_parts.frame (by decide) hs ht hp
  | .avsUpdate _, _, _, _, hs, ht, hp => execAvsUpdate_parts.frame (by decide) hs ht hp
  | .hkaInject _, _, _, _, hs, ht, hp => execHkaInject_parts.frame (by decide) hs ht hp
  | .start _, _, _, _, hs, ht, hp => execStart_parts.frame (by decide) hs ht hp
  | .hkaTimerTrigger _, _, _, _, hs, ht, hp => execHkaTimerTrigger_parts.frame (by decide) hs ht hp
  | .hkaEventTrigger _, _, _, _, hs, ht, hp => execHkaEventTrigger_parts.frame (by decide) hs ht hp
  | .conversionDone _, _, _, _, hs, ht, hp => execConversionDone_parts.frame (by decide) hs ht hp
  | .biasReadback _, _, _, _, hs, ht, hp => execBiasReadback_parts.frame (by decide) hs ht hp
  | .biasSweep, _, _, _, hs, ht, hp => execBiasSweep_parts.frame (by decide) hs ht hp
  | .supplyCheck, _, _, _, hs, ht, hp => execSupplyCheck_parts.frame (by decide) hs ht hp
  | .mainsEdge, _, _, _, hs, ht, hp => execMainsEdge_parts.frame (by decide) hs ht hp
  | .mainsLoss, _, _, _, hs, ht, hp => execMainsLoss_parts.frame (by decide) hs ht hp
  | .gauStream _ _, _, _, _, hs, ht, hp => execGauStream_parts.frame (by decide) hs ht hp
  | .gauArm _ _, _, _, _, hs, ht, hp => execGauArm_parts.frame (by decide) hs ht hp
  | .gauStop _ _, _, _, _, hs, ht, hp => execGauStop_parts.frame (by decide) hs ht hp
  | .gauForce _ _, _, _, _, hs, ht, hp => execGauForce_parts.frame (by decide) hs ht hp
  | .gauMask _ _, _, _, _, hs, ht, hp => execGauMask_parts.frame (by decide) hs ht hp
  | .gaugeTrigEdge _, _, _, _, hs, ht, hp => execGaugeTrigEdge_parts.frame (by decide) hs ht hp
  | .gaugeTrigger _ _, _, _, _, hs, ht, hp => execGaugeTrigger_parts.frame (by decide) hs ht hp
  | .autoTrigger _, _, _, _, hs, ht, hp => execAutoTrigger_parts.frame (by decide) hs ht hp
  | .gaugeRecord _ _, _, _, _, hs, ht, hp => execGaugeRecord_parts.frame (by decide) hs ht hp
  | .gaugeDrained _, _, _, _, hs, ht, hp => execGaugeDrained_parts.frame (by decide) hs ht hp
  | .gaugeRearm _, _, _, _, hs, ht, hp => execGaugeRearm_parts.frame (by decide) hs ht hp
  | .pathRestore _ _, _, _, _, hs, ht, hp => execPathRestore_parts.frame (by decide) hs ht hp
  | .pathTestDone _ _, _, _, _, hs, ht, hp => execPathTestDone_parts.frame (by decide) hs ht hp
  | .telemetryRecord _, _, _, _, hs, ht, hp => execTelemetryRecord_parts.frame (by decide) hs ht hp
  | .telSetup _ _ _ _, _, _, _, hs, ht, hp => execTelSetup_parts.frame (by decide) hs ht hp
  | .logRead _ _ _, _, _, _, hs, ht, hp => execLogRead_parts.frame (by decide) hs ht hp
  | .fltDumpRegion _ _ _ _ _, _, _, _, hs, ht, hp => execFltDumpRegion_parts.frame (by decide) hs ht hp
  | .fltDumpFetch _ _ _, _, _, _, hs, ht, hp => execFltDumpFetch_parts.frame (by decide) hs ht hp
  | .fltDumpTest _, _, _, _, hs, ht, hp => execFltDumpTest_parts.frame (by decide) hs ht hp
  | .fatalError _ _, _, _, p, _, _, hp => absurd p.mem_every hp
  | .dumpWritten, _, _, p, _, _, hp => absurd p.mem_every hp
  | .dumpRetry, _, _, p, _, _, hp => absurd p.mem_every hp
  | .dumpSlotErase _, _, _, _, hs, ht, hp => execDumpSlotErase_parts.frame (by decide) hs ht hp
  | .smbSetOffset _ _, _, _, _, hs, ht, hp => execSmbSetOffset_parts.frame (by decide) hs ht hp
  | .smbRead _, _, _, _, hs, ht, hp => execSmbRead_parts.frame (by decide) hs ht hp
  | .smbWrite _ _ _, _, _, p, _, _, hp => absurd p.mem_every hp
  | .alertResponse, _, _, _, hs, ht, hp => execAlertResponse_parts.frame (by decide) hs ht hp
  | .testEnRise, _, _, p, _, _, hp => absurd p.mem_every hp
  | .bypass, _, _, _, hs, ht, hp => execBypass_parts.frame (by decide) hs ht hp
  | .idcode, _, _, _, hs, ht, hp => execIdcode_parts.frame (by decide) hs ht hp
  | .samplePreload _, _, _, _, hs, ht, hp => execSamplePreload_parts.frame (by decide) hs ht hp
  | .extest, _, _, _, hs, ht, hp => execExtest_parts.frame (by decide) hs ht hp
  | .extestPulse, _, _, _, hs, ht, hp => execExtestPulse_parts.frame (by decide) hs ht hp
  | .extestTrain, _, _, _, hs, ht, hp => execExtestTrain_parts.frame (by decide) hs ht hp
  | .clamp, _, _, _, hs, ht, hp => execClamp_parts.frame (by decide) hs ht hp
  | .highz, _, _, _, hs, ht, hp => execHighz_parts.frame (by decide) hs ht hp
  | .feDelayApply, _, _, _, hs, ht, hp => execFeDelayApply_parts.frame (by decide) hs ht hp
  | .devLock _ _, _, _, _, hs, ht, hp => execDevLock_parts.frame (by decide) hs ht hp
  | .registerWrite _ _ _ _, _, _, p, _, _, hp => absurd p.mem_every hp
  | .polderEntryDone, _, _, _, hs, ht, hp => execPolderEntryDone_parts.frame (by decide) hs ht hp
  | .dormantEntryDone, _, _, _, hs, ht, hp => execDormantEntryDone_parts.frame (by decide) hs ht hp
  | .seawallOperationDone _, _, _, _, hs, ht, hp => execSeawallOperationDone_parts.frame (by decide) hs ht hp
  | .rffeTransferDone _ _ _, _, _, _, hs, ht, hp => execRffeTransferDone_parts.frame (by decide) hs ht hp
  | .culvertSignalReturn _, _, _, _, hs, ht, hp => execCulvertSignalReturn_parts.frame (by decide) hs ht hp
  | .tripLatchClear, _, _, _, hs, ht, hp => execTripLatchClear_parts.frame (by decide) hs ht hp
  | .backoffReturn _, _, _, _, hs, ht, hp => execBackoffReturn_parts.frame (by decide) hs ht hp

/-- Settles O4: one arm of `exec` after the other, each by the parts its operations may change. -/
theorem commandsKeepToTheirParts : Obligations.CommandsKeepToTheirParts :=
  fun c _ _ _ hs ht hp => exec_frame c _ _ _ hs ht hp

end Sys2Proof.Machine
end

section
/-! The release of the device, and its reference and rails (R430 to R438). -/
namespace Sys2Proof.Machine
open Sys2Proof

/-! ## The release of the reset -/

theorem Reports.smbAddr {s t : State} (h : Reports s t) : t.pkg.smbAddr = s.pkg.smbAddr := by
  have e := congrArg (fun w : State => w.pkg.smbAddr) h.work
  exact e

/-- The choice of a slot, once the slots have been tried. -/
def State.slotChosen (s : State) (k : Option Nat) : State :=
  let s := { s with boot := { s.boot with slot := k } }
  match k with
  | none => s.setF Reg.DEV_BOOT_STAT_NO_IMAGE
  | some k =>
    let x := s.boot.slots.getD k Slot.blank
    let s := { s with sea := { s.sea with rootKey := (s.rootOf (x.images.getD 0 [])).getD 0 } }
    (s.put Reg.DEV_BOOT_STAT_SLOT k).put Reg.DEV_BOOT_STAT_TRIAL (b2n (x.state == slotTrial))

theorem State.chooseSlot_eq (s : State) : ∃ (spent : List (Nat × Slot)) (order : List Nat),
    let r := (s.each spent fun s e => (s.setSlot e.1 { e.2 with state := slotBad }).slotEvent e.1 1 0xFF St.done e.2.gen).trySlots order
    s.chooseSlot = r.1.slotChosen r.2 := ⟨_, _, rfl⟩

/-- A state in which the release has begun, with the time it began, the package's address, a step reached, and the flash as it was read. -/
structure State.Released (s : State) (now smb least slow : Nat) : Prop where
  flash : s.Shows Reg.DEV_BOOT_STAT_FLASH_OK 1
  slow : s.Shows Reg.DEV_BOOT_STAT_SLOW_FLASH slow
  rstnHigh : s.boot.rstnHigh = true
  supplyOk : s.boot.supplyOk = true
  t0 : s.boot.t0 = now
  step : least ≤ s.boot.step
  smbAddr : s.pkg.smbAddr = smb

namespace State.Released

section
variable {s t : State} {now smb least slow : Nat} (h : s.Released now smb least slow)
include h

theorem reports (ht : Reports s t) : t.Released now smb least slow where
  flash := h.flash.reports ht
  slow := h.slow.reports ht
  rstnHigh := ht.boot ▸ h.rstnHigh
  supplyOk := ht.boot ▸ h.supplyOk
  t0 := ht.boot ▸ h.t0
  step := ht.boot ▸ h.step
  smbAddr := ht.smbAddr.trans h.smbAddr

theorem event (src code : Nat) (args : List Nat) : (s.event src code args).Released now smb least slow := h.reports (State.event_reports _ _ _ _)

theorem updBoot (x : BootState) (hrstn : x.rstnHigh = s.boot.rstnHigh := by rfl) (hsupply : x.supplyOk = s.boot.supplyOk := by rfl)
    (ht0 : x.t0 = s.boot.t0 := by rfl) (hstep : s.boot.step ≤ x.step := by exact Nat.le_refl _) :
    ({ s with boot := x } : State).Released now smb least slow where
  flash := h.flash.updBoot x
  slow := h.slow.updBoot x
  rstnHigh := hrstn.trans h.rstnHigh
  supplyOk := hsupply.trans h.supplyOk
  t0 := ht0.trans h.t0
  step := h.step.trans hstep
  smbAddr := h.smbAddr

theorem updSea (x : SeaState) : ({ s with sea := x } : State).Released now smb least slow where
  flash := h.flash.updSea x
  slow := h.slow.updSea x
  rstnHigh := h.rstnHigh
  supplyOk := h.supplyOk
  t0 := h.t0
  step := h.step
  smbAddr := h.smbAddr

theorem put {g : Field} {x : Nat} (hok : g.ok := by decide)
    (hapart : g.apart Reg.DEV_BOOT_STAT_FLASH_OK ∧ g.apart Reg.DEV_BOOT_STAT_SLOW_FLASH := by decide) :
    (s.put g x).Released now smb least slow where
  flash := h.flash.put ⟨hok, hapart.1⟩
  slow := h.slow.put ⟨hok, hapart.2⟩
  rstnHigh := (congrArg BootState.rstnHigh (State.put_boot s g x)).trans h.rstnHigh
  supplyOk := (congrArg BootState.supplyOk (State.put_boot s g x)).trans h.supplyOk
  t0 := (congrArg BootState.t0 (State.put_boot s g x)).trans h.t0
  step := h.step.trans_eq (congrArg BootState.step (State.put_boot s g x)).symm
  smbAddr := (congrArg PkgState.smbAddr (State.put_pkg s g x)).trans h.smbAddr

theorem when (c : Bool) {run : State → State} (hrun : s.Released now smb least slow → (run s).Released now smb least slow) :
    (s.when c run).Released now smb least slow := by
  unfold State.when
  split
  · exact hrun h
  · exact h

theorem each {α : Type} (l : List α) {run : State → α → State}
    (hrun : ∀ u x, u.Released now smb least slow → (run u x).Released now smb least slow) : (s.each l run).Released now smb least slow :=
  State.each_induct l run h fun u hu x _ => hrun u x hu

theorem milestone (step tile : Nat) : (s.milestone step tile).Released now smb (max least step) slow := by
  have hstep : ({ s with boot := { s.boot with step := max s.boot.step step } } : State).Released now smb least slow :=
    h.updBoot _ rfl rfl rfl (Nat.le_max_left _ _)
  exact Released.reports { hstep with step := max_le_max h.step (Nat.le_refl step) } (s.milestone_reports step tile)

theorem setSlot (k : Nat) (x : Slot) : (s.setSlot k x).Released now smb least slow := h.updBoot _

theorem slotEvent (k what cls st gen : Nat) : (s.slotEvent k what cls st gen).Released now smb least slow := h.event _ _ _

theorem trySlots (l : List Nat) : (s.trySlots l).1.Released now smb least slow := by
  induction l generalizing s with
  | nil => exact h
  | cons k l ih =>
    unfold State.trySlots
    split
    · exact ih h
    · dsimp only
      split
      · exact (h.setSlot _ _).slotEvent _ _ _ _ _
      · exact ih (((h.setSlot _ _).setSlot _ _).slotEvent _ _ _ _ _)

theorem slotChosen (k : Option Nat) : (s.slotChosen k).Released now smb least slow := by
  unfold State.slotChosen
  cases k with
  | none => exact (h.updBoot _).put
  | some k => exact (((h.updBoot _).updSea _).put).put

theorem chooseSlot : s.chooseSlot.Released now smb least slow := by
  obtain ⟨spent, order, hchosen⟩ := s.chooseSlot_eq
  rw [hchosen]
  exact ((h.each spent fun _ _ hu => (hu.setSlot _ _).slotEvent _ _ _ _ _).trySlots order).slotChosen _

theorem loadConfig : s.loadConfig.Released now smb least slow := by
  unfold State.loadConfig
  exact ((((h.updBoot _).put).put).put.put).when _ fun hu => (hu.put).event _ _ _

end

end State.Released

/-- The levels and the address as `RSTN` rises (R430). -/
def State.rstnRaised (s : State) : State :=
  let s := { s with pwr := { s.pwr with sentinel := { s.pwr.sentinel with woken := false } } }
  let s := { s with boot := { s.boot with rstnHigh := true, supplyOk := true, testEn := false, t0 := s.now } }
  { s with pkg := { s.pkg with smbAddr := 0x58 + s.pkg.straps % 8 } }

theorem State.rstnRaised_boot (s : State) :
    s.rstnRaised.boot = { s.boot with rstnHigh := true, supplyOk := true, testEn := false, t0 := s.now } := rfl

theorem State.rstnRaised_smbAddr (s : State) : s.rstnRaised.pkg.smbAddr = 0x58 + s.pkg.straps % 8 := rfl

theorem State.rstnRaised_stored {s : State} (hs : s.stored) : s.rstnRaised.stored := hs

/-- The device as its reset is released: the sentinel's mark is shown and cleared, and the first step is taken (R430). -/
def State.released (s : State) : State :=
  ((s.when s.pwr.sentinel.woken fun s => s.setF Reg.DEV_RESET_CAUSE_DORMANT).rstnRaised).milestone 1 0xFF

theorem State.released_leaves {s : State} (hs : s.stored) :
    s.released.stored ∧ s.released.boot = { s.boot with rstnHigh := true, supplyOk := true, testEn := false, t0 := s.now, step := max s.boot.step 1 } ∧
      s.released.pkg.smbAddr = 0x58 + s.pkg.straps % 8 := by
  have hmark : (s.when s.pwr.sentinel.woken fun s => s.setF Reg.DEV_RESET_CAUSE_DORMANT).stored ∧
      (s.when s.pwr.sentinel.woken fun s => s.setF Reg.DEV_RESET_CAUSE_DORMANT).boot = s.boot ∧
      (s.when s.pwr.sentinel.woken fun s => s.setF Reg.DEV_RESET_CAUSE_DORMANT).pkg = s.pkg ∧
      (s.when s.pwr.sentinel.woken fun s => s.setF Reg.DEV_RESET_CAUSE_DORMANT).now = s.now := by
    unfold State.when
    split
    · exact ⟨State.put_stored _ _ hs, State.put_boot _ _ _, State.put_pkg _ _ _, State.put_now _ _ _⟩
    · exact ⟨hs, rfl, rfl, rfl⟩
  unfold State.released
  generalize (s.when s.pwr.sentinel.woken fun s => s.setF Reg.DEV_RESET_CAUSE_DORMANT) = u at hmark ⊢
  obtain ⟨hstored, hboot, hpkg, hnow⟩ := hmark
  have hraised := u.rstnRaised_boot
  have haddr := u.rstnRaised_smbAddr
  have hkept := State.rstnRaised_stored hstored
  generalize u.rstnRaised = w at hraised haddr hkept ⊢
  have hr := w.milestone_reports 1 0xFF
  refine ⟨hr.stored hkept, hr.boot.trans ?_, hr.smbAddr.trans ?_⟩
  · rw [hraised, hboot, hnow]
  · rw [haddr, hpkg]

theorem State.released_first {s : State} (hs : s.stored) (slow : Nat) (hslow : slow < 2) :
    (((s.released.setF Reg.DEV_BOOT_STAT_FLASH_OK).put Reg.DEV_BOOT_STAT_SLOW_FLASH slow).milestone 2 0xFF).Released s.now
      (0x58 + s.pkg.straps % 8) 2 slow := by
  obtain ⟨hstored, hboot, hsmb⟩ := State.released_leaves hs
  generalize s.released = u at hstored hboot hsmb ⊢
  have hparts : ((u.setF Reg.DEV_BOOT_STAT_FLASH_OK).put Reg.DEV_BOOT_STAT_SLOW_FLASH slow).boot = u.boot :=
    (State.put_boot _ _ _).trans (State.setF_boot _ _)
  have hpkg : ((u.setF Reg.DEV_BOOT_STAT_FLASH_OK).put Reg.DEV_BOOT_STAT_SLOW_FLASH slow).pkg = u.pkg :=
    (State.put_pkg _ _ _).trans (State.setF_pkg _ _)
  have hflash := (State.setF_shows hstored Reg.DEV_BOOT_STAT_FLASH_OK).put (g := Reg.DEV_BOOT_STAT_SLOW_FLASH) (w := slow)
  have hread := State.put_shows (State.setF_shows hstored Reg.DEV_BOOT_STAT_FLASH_OK).stored Reg.DEV_BOOT_STAT_SLOW_FLASH slow
    (Nat.mod_eq_of_lt hslow)
  generalize (u.setF Reg.DEV_BOOT_STAT_FLASH_OK).put Reg.DEV_BOOT_STAT_SLOW_FLASH slow = w at hparts hpkg hflash hread ⊢
  have hw : w.Released s.now (0x58 + s.pkg.straps % 8) 0 slow :=
    ⟨hflash, hread, by rw [hparts, hboot], by rw [hparts, hboot], by rw [hparts, hboot], Nat.zero_le _, by rw [hpkg, hsmb]⟩
  exact hw.milestone 2 0xFF

theorem exec_resetRelease_good {s : State} (hs : s.stored) (fast : Bool) (hstep : s.boot.step = 0) (hpower : s.pwr.sentinel.pwrEn = true) :
    ∃ t, exec (.resetRelease true fast) s = .next t ∧ t.Released s.now (0x58 + s.pkg.straps % 8) 2 (b2n (!fast)) := by
  have hrun : exec (.resetRelease true fast) s = .next
      (let u := (((s.released.setF Reg.DEV_BOOT_STAT_FLASH_OK).put Reg.DEV_BOOT_STAT_SLOW_FLASH (b2n (!fast))).milestone 2 0xFF)
       let u := (u.loadConfig.put Reg.TIM_EPOCH_EPOCH u.boot.epochFlash).chooseSlot
       if u.boot.slot.isNone then u else u.milestone 3 0xFF) :=
    congrArg Host.Outcome.next ((if_neg (by rw [hstep, hpower]; decide)).trans (if_neg (by decide)))
  have hfirst := State.released_first hs (b2n (!fast)) (by cases fast <;> decide)
  generalize (((s.released.setF Reg.DEV_BOOT_STAT_FLASH_OK).put Reg.DEV_BOOT_STAT_SLOW_FLASH (b2n (!fast))).milestone 2 0xFF) = u
    at hrun hfirst
  have hchosen := (hfirst.loadConfig.put (g := Reg.TIM_EPOCH_EPOCH) (x := u.boot.epochFlash)).chooseSlot
  refine ⟨_, hrun, ?_⟩
  dsimp only
  split
  · exact hchosen
  · have hlast := hchosen.milestone 3 0xFF
    exact { hlast with step := Nat.le_trans (by decide) hlast.step }

theorem exec_resetRelease_bad {s : State} (fast : Bool) (hstep : s.boot.step = 0) (hpower : s.pwr.sentinel.pwrEn = true) :
    exec (.resetRelease false fast) s = .next (s.released.setF Reg.DEV_BOOT_STAT_NO_IMAGE) :=
  congrArg Host.Outcome.next ((if_neg (by rw [hstep, hpower]; decide)).trans (if_pos rfl))

end Sys2Proof.Machine
end

section
/-! The images, the reference and the rails (R432 to R438). -/
namespace Sys2Proof.Machine
open Sys2Proof

/-! ## The images of the engines -/

theorem State.loadEngine_image (s : State) (n : Nat) (b : List Nat) : ((s.loadEngine n b).engine n).image = b := by
  have hengine : (s.loadEngine n b).engine n = (s.modEngine n fun e =>
    { e with image := b, prog := e.prog.writeBytes 0 (slice b 192 (fieldLE b 12 4)), r := { EngRegs.initial with pc := fieldLE b 20 2 },
             saved := none, wait := none, trap := none, yieldAt := s.now, modeNext := none }).engine n := rfl
  rw [hengine, State.engine_modEngine, if_pos rfl]

/-- A state shows a field of an engine's status, with the engines. -/
structure State.EngShows (s : State) (e : EngState) (f : Field) (v : Nat) : Prop where
  shows : s.Shows f v
  eng : s.eng = e

namespace State.EngShows

section
variable {s t : State} {e : EngState} {f : Field} {v : Nat} (h : s.EngShows e f v) (hf : 0x400000 ≤ f.reg)
include h

theorem when (c : Bool) {run : State → State} (hrun : s.EngShows e f v → (run s).EngShows e f v) : (s.when c run).EngShows e f v := by
  unfold State.when
  split
  · exact hrun h
  · exact h

include hf

theorem reports (ht : Reports s t) : t.EngShows e f v := ⟨h.shows.reports ht (recordField_engine hf), ht.eng.trans h.eng⟩

theorem put {g : Field} {x : Nat} (hok : g.ok) (hreg : g.reg < 0x400000) : (s.put g x).EngShows e f v :=
  ⟨h.shows.put ⟨hok, .inl (by omega)⟩, (State.put_eng s g x).trans h.eng⟩

theorem milestone (step tile : Nat) : (s.milestone step tile).EngShows e f v :=
  reports (s := { s with boot := { s.boot with step := max s.boot.step step } }) ⟨h.shows.updBoot _, h.eng⟩ hf (s.milestone_reports step tile)

theorem dumpNotice : s.dumpNotice.EngShows e f v := by
  unfold State.dumpNotice
  split
  · exact h
  · exact reports (s := { s with flt := { s.flt with dumpNotice := none } }) ⟨⟨h.shows.stored, h.shows.value⟩, h.eng⟩ hf
      (State.event_reports _ _ _ _)

theorem authCount (st : Nat) : (s.authCount st).EngShows e f v := by
  unfold State.authCount
  refine when (when h _ fun hu => ?_) _ fun hu => hu.put hf (by decide) (by decide)
  exact ⟨hu.shows.add64 (by simp only [Reg.SEA_AUTHFAIL]; omega), (State.wr64_eng _ _ _).trans hu.eng⟩

theorem verifyFail (cls who st ver : Nat) : (s.verifyFail cls who st ver).EngShows e f v :=
  (h.authCount hf st).reports hf (State.event_reports _ _ _ _)

end

end State.EngShows

/-- An image's own check and the engine it may run on. -/
theorem exec_imageVerification_good {s : State} (hs : s.stored) {engine : Nat} {image : List Nat} (hengine : engine < 16)
    (hstep : (if engine = 15 then 3 else if engine = 14 then 4 else 5) ≤ s.boot.step) (hempty : s.get (Reg.ENG_STAT_STATE engine) = 0)
    (hmay : bit (fieldLE image 8 2) engine = true) (hstatus : s.imageStatus image = St.done) :
    ∃ t, exec (.imageVerification engine image) s = .next t ∧ t.get (Reg.ENG_STAT_STATE engine) = 1 ∧
      t.get (Reg.ENG_STAT_MODE engine) = 1 ∧ (t.engine engine).r.pc = fieldLE image 20 2 ∧ (t.engine engine).image = image := by
  have hrun : exec (.imageVerification engine image) s = .next (((s.loadEngine engine image).when (engine = 15) fun s =>
      ((s.put Reg.SEA_STAT_ID_KEY_OK (b2n s.idKeyOk)).milestone 4 0xFF)).when (engine = 14) fun s => (s.milestone 5 0xFF).dumpNotice) :=
    congrArg Host.Outcome.next ((if_neg (by omega)).trans (if_neg (not_not.2 ((if_neg (by rw [hmay]; decide)).trans hstatus))))
  obtain ⟨hstate, hmode, -⟩ := State.loadEngine_shows hs engine image
  have hpc : ((s.loadEngine engine image).engine engine).r.pc = fieldLE image 20 2 := by rw [State.loadEngine_engine]
  have himage := s.loadEngine_image engine image
  generalize s.loadEngine engine image = u at hrun hstate hmode hpc himage
  have hkeep : ∀ {f v}, 0x400000 ≤ f.reg → u.Shows f v → ((u.when (engine = 15) fun s =>
      ((s.put Reg.SEA_STAT_ID_KEY_OK (b2n s.idKeyOk)).milestone 4 0xFF)).when (engine = 14) fun s =>
        (s.milestone 5 0xFF).dumpNotice).EngShows u.eng f v := fun hf hu =>
    (State.EngShows.when ⟨hu, rfl⟩ _ fun hw => (hw.put hf (by decide) (by decide)).milestone hf _ _).when _ fun hw =>
      (hw.milestone hf _ _).dumpNotice hf
  have hstate' := hkeep (Nat.le_add_right _ _) hstate
  have hengines := congrArg (fun e : EngState => e.engines.getD engine Engine.initial) hstate'.eng
  exact ⟨_, hrun, hstate'.shows.value, (hkeep (Nat.le_add_right _ _) hmode).shows.value,
    (congrArg (fun e : Engine => e.r.pc) hengines).trans hpc, (congrArg Engine.image hengines).trans himage⟩

theorem exec_imageVerification_bad {s : State} (hs : s.stored) {engine : Nat} {image : List Nat} (hengine : engine < 16)
    (hstep : (if engine = 15 then 3 else if engine = 14 then 4 else 5) ≤ s.boot.step) (hempty : s.get (Reg.ENG_STAT_STATE engine) = 0)
    (hbad : bit (fieldLE image 8 2) engine = false ∨ s.imageStatus image ≠ St.done) :
    ∃ t, exec (.imageVerification engine image) s = .next t ∧ t.get (Reg.ENG_STAT_STATE engine) = 0 ∧ t.eng = s.eng := by
  have hst : (if (!bit (fieldLE image 8 2) engine) = true then St.range else s.imageStatus image) ≠ St.done := by
    rcases hbad with hbit | hstatus
    · rw [hbit]
      show St.range ≠ St.done
      decide
    · split
      · decide
      · exact hstatus
  have hrun : exec (.imageVerification engine image) s = .next (s.verifyFail (nth image 6) engine
      (if (!bit (fieldLE image 8 2) engine) = true then St.range else s.imageStatus image) (fieldLE image 10 2)) :=
    congrArg Host.Outcome.next ((if_neg (by omega)).trans (if_pos hst))
  have hkept := State.EngShows.verifyFail ⟨(State.shows hs (Reg.ENG_STAT_STATE engine)), rfl⟩ (Nat.le_add_right _ _) (nth image 6) engine
    (if (!bit (fieldLE image 8 2) engine) = true then St.range else s.imageStatus image) (fieldLE image 10 2)
  exact ⟨_, hrun, hkept.shows.value.trans hempty, hkept.eng⟩

/-! ## The end of the images -/

/-- A state that shows a profile, with the level of `PERST_N` and what the configuration says of the tunnel. -/
structure State.ImagesTold (s : State) (perst tunnel : Bool) (p : Nat) : Prop where
  profile : s.Shows Reg.DEV_PROFILE_PROFILE p
  perst : s.host.perstHigh = perst
  tunnel : s.boot.tunnel = tunnel

theorem Reports.perstHigh {s t : State} (h : Reports s t) : t.host.perstHigh = s.host.perstHigh := by
  have e := congrArg (fun w : State => w.host.perstHigh) h.work
  exact e

namespace State.ImagesTold

section
variable {s t : State} {perst tunnel : Bool} {p : Nat} (h : s.ImagesTold perst tunnel p)
include h

theorem reports (ht : Reports s t) : t.ImagesTold perst tunnel p :=
  ⟨h.profile.reports ht, ht.perstHigh.trans h.perst, (congrArg BootState.tunnel ht.boot).trans h.tunnel⟩

theorem timeOnly (ht : TimeOnly s t) : t.ImagesTold perst tunnel p where
  profile := ⟨ht.stored h.profile.stored, (ht.fields h.profile.stored _ (by decide) (by decide)).trans h.profile.value⟩
  perst := by
    have e := congrArg (fun w : State => w.host.perstHigh) ht.work
    exact e.trans h.perst
  tunnel := by
    have e := congrArg (fun w : State => w.boot.tunnel) ht.work
    exact e.trans h.tunnel

theorem put {g : Field} {x : Nat} (hg : g.ok ∧ g.apart Reg.DEV_PROFILE_PROFILE := by decide) : (s.put g x).ImagesTold perst tunnel p :=
  ⟨h.profile.put hg, (congrArg HostState.perstHigh (State.put_host s g x)).trans h.perst,
    (congrArg BootState.tunnel (State.put_boot s g x)).trans h.tunnel⟩

theorem wr {off x : Nat} (hsep : Reg.DEV_PROFILE_PROFILE.reg ≠ off) : (s.wr off x).ImagesTold perst tunnel p :=
  ⟨h.profile.wr hsep, (congrArg HostState.perstHigh (State.wr_host s off x)).trans h.perst,
    (congrArg BootState.tunnel (State.wr_boot s off x)).trans h.tunnel⟩

theorem updLevee (x : LeveeState) : ({ s with levee := x } : State).ImagesTold perst tunnel p := ⟨h.profile.updLevee x, h.perst, h.tunnel⟩

theorem each {α : Type} (l : List α) {run : State → α → State}
    (hrun : ∀ u x, u.ImagesTold perst tunnel p → (run u x).ImagesTold perst tunnel p) : (s.each l run).ImagesTold perst tunnel p :=
  State.each_induct l run h fun u hu x _ => hrun u x hu

theorem milestone (step tile : Nat) : (s.milestone step tile).ImagesTold perst tunnel p :=
  reports (s := { s with boot := { s.boot with step := max s.boot.step step } }) ⟨h.profile.updBoot _, h.perst, h.tunnel⟩
    (s.milestone_reports step tile)

theorem takeIdentity : s.takeIdentity.ImagesTold perst tunnel p := by
  unfold State.takeIdentity
  exact timeOnly ((((h.put).put).put).put).put (State.elect_timeOnly (.refl _))

theorem inforce (w : Nat → Nat) : (s.each (List.range 36) fun s k => s.wr (Reg.LVE_INFORCE k) (w k)).ImagesTold perst tunnel p :=
  h.each _ fun _ k hu => hu.wr (by simp only [Reg.DEV_PROFILE_PROFILE, Reg.DEV_PROFILE, Reg.LVE_INFORCE]; omega)

theorem showLimits (words : List Nat) (version : Nat) : (s.showLimits words version).ImagesTold perst tunnel p := by
  unfold State.showLimits
  exact (((h.inforce (nth words)).put).put).put

theorem showNoLimits (noCert : Bool) : (s.showNoLimits noCert).ImagesTold perst tunnel p := by
  unfold State.showNoLimits
  exact (((h.inforce fun _ => 0).put).put).put

theorem chooseLimits : s.chooseLimits.ImagesTold perst tunnel p := by
  have hrefuse : ∀ noCert, ((s.showNoLimits noCert).event 0x0038 0x0504 ([2] ++ bytesLE 2 (s.arbCount 7))).ImagesTold perst tunnel p :=
    fun noCert => (h.showNoLimits noCert).reports (State.event_reports _ _ _ _)
  unfold State.chooseLimits
  dsimp only
  split
  · exact hrefuse false
  · split
    · exact (h.showLimits _ _).updLevee _
    · split
      · exact (h.showLimits _ _).updLevee _
      · exact hrefuse true

end

end State.ImagesTold

/-- A field of the device's own blocks through the end of the images. -/
theorem State.Shows.imagesEnd {s : State} {f : Field} {v : Nat} (h : s.Shows f v) (hrec : recordField f = false) (hf : f.reg < 0x030000)
    (hclk : f.reg ≠ Reg.CLK_SYN_STAT) :
    (((s.each (List.range' 8 8) fun s n => s.setMode n 0 1).milestone 9 0xFF).startReference).Shows f v := by
  have hmodes : (s.each (List.range' 8 8) fun s n => s.setMode n 0 1).Shows f v := h.each fun u n hu => by
    obtain ⟨w, rfl | rfl, hr⟩ := u.setMode_reports n 0 1
    · exact hu.reports hr hrec
    · exact (hu.put ⟨Nat.le_of_ble_eq_true rfl, .inl (by simp only [Reg.ENG_STAT_MODE, Reg.ENG_STAT]; omega)⟩).reports hr hrec
  have hstep := (hmodes.updBoot _).reports (State.milestone_reports _ 9 0xFF) hrec
  exact (State.PwrShows.startReference ⟨hstep, rfl⟩ hrec hf hclk).shows

theorem State.startReference_ready {s : State} (h : s.Shows Reg.HRG_STAT_READY 1) : s.startReference.Shows Reg.HRG_STAT_READY 1 := by
  have hlines : LineOnly s (s.each (List.range 8) State.laneStart).culRefresh :=
    ((LineOnly.refl s).each (List.range 8) State.laneStart fun u n hn => (LineOnly.refl u).laneStart (List.mem_range.1 hn)).culRefresh
  have hready : (s.each (List.range 8) State.laneStart).culRefresh.Shows Reg.HRG_STAT_READY 1 :=
    ⟨hlines.stored h.stored, hlines.ready h.stored h.value⟩
  unfold State.startReference
  exact .ite h (.ite (hready.startSynthCal 3 []) hready)

theorem State.Shows.imagesEnd_ready {s : State} (h : s.Shows Reg.HRG_STAT_READY 1) :
    (((s.each (List.range' 8 8) fun s n => s.setMode n 0 1).milestone 9 0xFF).startReference).Shows Reg.HRG_STAT_READY 1 := by
  have hmodes : (s.each (List.range' 8 8) fun s n => s.setMode n 0 1).Shows Reg.HRG_STAT_READY 1 := h.each fun u n hu => by
    obtain ⟨w, rfl | rfl, hr⟩ := u.setMode_reports n 0 1
    · exact hu.reports hr
    · exact (hu.put ⟨Nat.le_of_ble_eq_true rfl, .inl (by simp only [Reg.HRG_STAT_READY, Reg.HRG_STAT, Reg.ENG_STAT_MODE, Reg.ENG_STAT]; omega)⟩).reports hr
  exact State.startReference_ready ((hmodes.updBoot _).reports (State.milestone_reports _ 9 0xFF))

theorem exec_imagesOk {s : State} (hs : s.stored) (hall : s.allEngines = true) (hnot : s.on Reg.DEV_BOOT_STAT_IMAGES_OK = false) :
    ∃ t, exec .imagesOk s = .next t ∧ t.get Reg.DEV_BOOT_STAT_IMAGES_OK = 1 ∧ t.get Reg.DEV_PROFILE_IN_FORCE = s.get Reg.DEV_PROFILE_PROFILE ∧
      (s.host.perstHigh = true → s.boot.tunnel = false → t.get Reg.HRG_STAT_READY = 1) := by
  have hrun : exec .imagesOk s = .next
      (let u := ((((s.milestone 7 0xFF).takeIdentity).milestone 8 0xFF).chooseLimits).setF Reg.DEV_BOOT_STAT_IMAGES_OK
       let u := u.when (u.host.perstHigh && !u.boot.tunnel) fun s => s.setF Reg.HRG_STAT_READY
       let u := u.put Reg.DEV_PROFILE_IN_FORCE (u.get Reg.DEV_PROFILE_PROFILE)
       ((u.each (List.range' 8 8) fun s n => s.setMode n 0 1).milestone 9 0xFF).startReference) :=
    congrArg Host.Outcome.next (if_neg (by rw [hall, hnot]; decide))
  have htold : (((s.milestone 7 0xFF).takeIdentity).milestone 8 0xFF).chooseLimits.ImagesTold s.host.perstHigh s.boot.tunnel
      (s.get Reg.DEV_PROFILE_PROFILE) :=
    (((State.ImagesTold.mk (State.shows hs _) rfl rfl).milestone 7 0xFF).takeIdentity.milestone 8 0xFF).chooseLimits
  generalize (((s.milestone 7 0xFF).takeIdentity).milestone 8 0xFF).chooseLimits = u at hrun htold
  have himages := State.setF_shows htold.profile.stored Reg.DEV_BOOT_STAT_IMAGES_OK
  have htold' := htold.put (g := Reg.DEV_BOOT_STAT_IMAGES_OK) (x := 1)
  change (u.setF Reg.DEV_BOOT_STAT_IMAGES_OK).ImagesTold _ _ _ at htold'
  generalize u.setF Reg.DEV_BOOT_STAT_IMAGES_OK = w at hrun himages htold'
  dsimp only at hrun
  have hprofile := htold'.profile.when (c := w.host.perstHigh && !w.boot.tunnel) (run := fun s => s.setF Reg.HRG_STAT_READY) fun h => h.setF
  have himages' := himages.when (c := w.host.perstHigh && !w.boot.tunnel) (run := fun s => s.setF Reg.HRG_STAT_READY) fun h => h.setF
  have hready : s.host.perstHigh = true → s.boot.tunnel = false →
      (w.when (w.host.perstHigh && !w.boot.tunnel) fun s => s.setF Reg.HRG_STAT_READY).Shows Reg.HRG_STAT_READY 1 := fun hperst htunnel => by
    rw [htold'.perst, htold'.tunnel, hperst, htunnel]
    exact State.setF_shows himages.stored Reg.HRG_STAT_READY
  generalize (w.when (w.host.perstHigh && !w.boot.tunnel) fun s => s.setF Reg.HRG_STAT_READY) = x at hrun hprofile himages' hready
  have hinforce := State.put_shows hprofile.stored Reg.DEV_PROFILE_IN_FORCE (x.get Reg.DEV_PROFILE_PROFILE) (Nat.mod_eq_of_lt (State.get_lt x _))
  exact ⟨_, hrun, (himages'.put.imagesEnd (by decide) (by decide) (by decide)).value,
    (hinforce.imagesEnd (by decide) (by decide) (by decide)).value.trans hprofile.value,
    fun hperst htunnel => ((hready hperst htunnel).put.imagesEnd_ready).value⟩

end Sys2Proof.Machine
end

section
/-! The reference, the rails, and the bring-up as a whole (R434 to R438). -/
namespace Sys2Proof.Machine
open Sys2Proof

/-! ## The reference -/

theorem State.startReference_boot (s : State) : s.startReference.boot = s.boot := by
  have hlines : LineOnly s (s.each (List.range 8) State.laneStart).culRefresh :=
    ((LineOnly.refl s).each (List.range 8) State.laneStart fun u n hn => (LineOnly.refl u).laneStart (List.mem_range.1 hn)).culRefresh
  have hboot := hlines.boot
  unfold State.startReference
  generalize (s.each (List.range 8) State.laneStart).culRefresh = u at hboot ⊢
  have hstart : (u.startSynthCal 3 []).boot = u.boot := by
    unfold State.startSynthCal
    simp only [State.put_boot]
  split
  · rfl
  · dsimp only
    split
    · exact hstart.trans hboot
    · exact hboot

/-- A state that shows the reference as good, with its code. -/
structure State.RefShown (s : State) (code : Nat) : Prop where
  ok : s.Shows Reg.DEV_BOOT_STAT_REF_OK 1
  freq : s.Shows Reg.DEV_BOOT_STAT_REF_FREQ code
  found : s.boot.refLost = false

theorem State.RefShown.started {s : State} {code : Nat} (h : s.RefShown code) : s.startReference.RefShown code where
  ok := (State.PwrShows.startReference ⟨h.ok, rfl⟩ (by decide) (by decide) (by decide)).shows
  freq := (State.PwrShows.startReference ⟨h.freq, rfl⟩ (by decide) (by decide) (by decide)).shows
  found := (congrArg BootState.refLost s.startReference_boot).trans h.found

theorem State.RefShown.milestone {s : State} {code : Nat} (h : s.RefShown code) (step tile : Nat) : (s.milestone step tile).RefShown code where
  ok := (h.ok.updBoot _).reports (s.milestone_reports step tile)
  freq := (h.freq.updBoot _).reports (s.milestone_reports step tile)
  found := (congrArg BootState.refLost (s.milestone_reports step tile).boot).trans h.found

theorem State.refFound_shown {s : State} (hs : s.stored) (hfound : s.boot.refLost = false) (code : Nat) :
    (((s.setF Reg.DEV_BOOT_STAT_REF_OK).put Reg.DEV_BOOT_STAT_REF_FREQ code).setF Reg.DEV_BOOT_STAT_REF_SWITCHED).RefShown (code % 4) where
  ok := (State.setF_shows hs Reg.DEV_BOOT_STAT_REF_OK).put.setF
  freq := (State.put_shows (State.setF_shows hs Reg.DEV_BOOT_STAT_REF_OK).stored Reg.DEV_BOOT_STAT_REF_FREQ code).setF
  found := (congrArg BootState.refLost ((State.setF_boot _ _).trans ((State.put_boot _ _ _).trans (State.setF_boot _ _)))).trans hfound

theorem refCode_lt (khz : Nat) : refCode khz < 4 := by
  unfold refCode
  dsimp only
  split
  · decide
  · split
    · decide
    · split <;> decide

theorem exec_referenceMeasure_good {s : State} (hs : s.stored) {khz : Nat} (hkhz : khz ≠ 0) (hcode : s.boot.refCfg ≠ 0 ∨ refCode khz ≠ 0)
    (hstep : 5 ≤ s.boot.step) (hnot : s.on Reg.DEV_BOOT_STAT_REF_OK = false) :
    ∃ t, exec (.referenceMeasure khz) s = .next t ∧ t.RefShown (if s.boot.refCfg = 0 then refCode khz else s.boot.refCfg % 4) := by
  have hcode' : (if khz = 0 then 0 else if s.boot.refCfg ≠ 0 then s.boot.refCfg else refCode khz) ≠ 0 := by
    rw [if_neg hkhz]
    split <;> omega
  have hmod : (if khz = 0 then 0 else if s.boot.refCfg ≠ 0 then s.boot.refCfg else refCode khz) % 4 =
      if s.boot.refCfg = 0 then refCode khz else s.boot.refCfg % 4 := by
    rw [if_neg hkhz]
    have := refCode_lt khz
    by_cases hcfg : s.boot.refCfg = 0
    · rw [if_neg (not_not.2 hcfg), if_pos hcfg]
      omega
    · rw [if_pos hcfg, if_neg hcfg]
  have hrun : exec (.referenceMeasure khz) s = .next
      (let u := s.when s.boot.refLost fun s => s.event 0x0000 0x0E04 [3]
       let v := (({ u with boot := { u.boot with refLost := false } } : State).setF Reg.DEV_BOOT_STAT_REF_OK).put Reg.DEV_BOOT_STAT_REF_FREQ
         (if khz = 0 then 0 else if s.boot.refCfg ≠ 0 then s.boot.refCfg else refCode khz)
       ((v.setF Reg.DEV_BOOT_STAT_REF_SWITCHED).when (!v.on Reg.DEV_BOOT_STAT_REF_SWITCHED) fun s => s.milestone 6 0xFF).startReference) :=
    congrArg Host.Outcome.next ((if_neg (not_or.2 ⟨by omega, by rw [hnot]; exact Bool.false_ne_true⟩)).trans (if_neg hcode'))
  rw [← hmod]
  generalize (if khz = 0 then 0 else if s.boot.refCfg ≠ 0 then s.boot.refCfg else refCode khz) = code at hrun
  have hstored : (s.when s.boot.refLost fun s => s.event 0x0000 0x0E04 [3]).stored :=
    ((State.shows hs Reg.DEV_BOOT_STAT_REF_OK).when fun h => h.event).stored
  generalize (s.when s.boot.refLost fun s => s.event 0x0000 0x0E04 [3]) = u at hrun hstored
  have hfound : ({ u with boot := { u.boot with refLost := false } } : State).boot.refLost = false := rfl
  have hstored' : ({ u with boot := { u.boot with refLost := false } } : State).stored := hstored
  dsimp only at hrun
  generalize ({ u with boot := { u.boot with refLost := false } } : State) = w at hrun hfound hstored'
  have hshown := State.refFound_shown hstored' hfound code
  refine ⟨_, hrun, State.RefShown.started ?_⟩
  unfold State.when
  split
  · exact hshown.milestone 6 0xFF
  · exact hshown

theorem exec_referenceMeasure_bad {s : State} {khz : Nat} (hbad : khz = 0 ∨ s.boot.refCfg = 0 ∧ refCode khz = 0) (hstep : 5 ≤ s.boot.step)
    (hnot : s.on Reg.DEV_BOOT_STAT_REF_OK = false) (hlost : s.boot.refLost = false) :
    Answers (exec (.referenceMeasure khz) s) { s with boot := { s.boot with refLost := true } } := by
  have hcode : (if khz = 0 then 0 else if s.boot.refCfg ≠ 0 then s.boot.refCfg else refCode khz) = 0 := by
    rcases hbad with hkhz | ⟨hcfg, hcode⟩
    · exact if_pos hkhz
    · rw [if_neg (not_not.2 hcfg), hcode, ite_self]
  have hrun : exec (.referenceMeasure khz) s = .next (({ s with boot := { s.boot with refLost := true } } : State).event 0x0000 0x0E04 [2]) :=
    congrArg Host.Outcome.next ((if_neg (not_or.2 ⟨by omega, by rw [hnot]; exact Bool.false_ne_true⟩)).trans ((if_pos hcode).trans (if_neg (by rw [hlost]; decide))))
  rw [hrun]
  exact .of_reports (State.event_reports _ _ _ _)

/-- A reference lost is shown so, with the synthesisers' locks gone. -/
theorem State.synthLost_badRef {s : State} (h : s.Shows Reg.DEV_BOOT_STAT_REF_OK 0) (hlost : s.boot.refLost = true) :
    let t := s.synthLost 2
    t.Shows Reg.DEV_BOOT_STAT_REF_OK 0 ∧ t.Shows Reg.CLK_SYN_STAT_SYNTH_OK 0 ∧ t.boot.refLost = true := by
  obtain ⟨hok, -, -, href⟩ := State.synthUnlocked_shows h.stored 2
  rw [h.value] at href
  have hboot : (s.synthUnlocked 2).boot = s.boot := by
    unfold State.synthUnlocked State.when
    simp [State.put_boot, State.setF_boot]
  have hr : Reports (s.synthUnlocked 2) ((s.synthUnlocked 2).event 0x0002 0x0521 [0, 2, 0, 0, 2]) := State.event_reports _ _ _ _
  have hstays : s.synthLost 2 = (s.synthUnlocked 2).event 0x0002 0x0521 [0, 2, 0, 0, 2] :=
    (s.synthLost_eq 2).trans (if_neg (by rw [(href.reports hr).off]; exact Bool.false_ne_true))
  intro t
  have ht : t = (s.synthUnlocked 2).event 0x0002 0x0521 [0, 2, 0, 0, 2] := hstays
  rw [ht]
  exact ⟨href.reports hr, hok.reports hr, (congrArg BootState.refLost (hr.boot.trans hboot)).trans hlost⟩

theorem exec_referenceLost {s : State} (hs : s.stored) (hgood : s.on Reg.DEV_BOOT_STAT_REF_OK = true) :
    ∃ t, exec .referenceLost s = .next t ∧ t.get Reg.DEV_BOOT_STAT_REF_OK = 0 ∧ t.get Reg.CLK_SYN_STAT_SYNTH_OK = 0 ∧
      t.get Reg.CLK_SYN_STAT_CAL_BUSY = 0 ∧ t.rct.synth = none ∧ t.boot.refLost = true := by
  have hrun : exec .referenceLost s = .next
      (let u := (s.put Reg.DEV_BOOT_STAT_REF_OK 0).event 0x0000 0x0E04 [4]
       let u := { u with boot := { u.boot with refLost := true } }
       let u := if u.on Reg.CLK_SYN_STAT_SYNTH_OK then u.synthLost 2 else u
       { u with rct := { u.rct with synth := none } }.put Reg.CLK_SYN_STAT_CAL_BUSY 0) :=
    congrArg Host.Outcome.next (if_neg (by rw [hgood]; decide))
  have hbad : ((s.put Reg.DEV_BOOT_STAT_REF_OK 0).event 0x0000 0x0E04 [4]).Shows Reg.DEV_BOOT_STAT_REF_OK 0 :=
    (State.put_shows hs Reg.DEV_BOOT_STAT_REF_OK 0).event
  generalize (s.put Reg.DEV_BOOT_STAT_REF_OK 0).event 0x0000 0x0E04 [4] = u at hrun hbad
  have hbad' : ({ u with boot := { u.boot with refLost := true } } : State).Shows Reg.DEV_BOOT_STAT_REF_OK 0 := hbad.updBoot _
  have hlost : ({ u with boot := { u.boot with refLost := true } } : State).boot.refLost = true := rfl
  dsimp only at hrun
  generalize ({ u with boot := { u.boot with refLost := true } } : State) = w at hrun hbad' hlost
  have hdown : (if w.on Reg.CLK_SYN_STAT_SYNTH_OK then w.synthLost 2 else w).Shows Reg.DEV_BOOT_STAT_REF_OK 0 ∧
      (if w.on Reg.CLK_SYN_STAT_SYNTH_OK then w.synthLost 2 else w).Shows Reg.CLK_SYN_STAT_SYNTH_OK 0 ∧
      (if w.on Reg.CLK_SYN_STAT_SYNTH_OK then w.synthLost 2 else w).boot.refLost = true := by
    split
    · exact State.synthLost_badRef hbad' hlost
    next hoff =>
      have hbit : w.get Reg.CLK_SYN_STAT_SYNTH_OK < 2 := State.get_lt w _
      have hone : w.get Reg.CLK_SYN_STAT_SYNTH_OK ≠ 1 := by simpa [State.on] using hoff
      exact ⟨hbad', ⟨hbad'.stored, by omega⟩, hlost⟩
  generalize (if w.on Reg.CLK_SYN_STAT_SYNTH_OK then w.synthLost 2 else w) = x at hrun hdown
  obtain ⟨href, hok, hlost'⟩ := hdown
  exact ⟨_, hrun, ((href.updRct _).put).value, ((hok.updRct _).put).value,
    (State.put_shows (href.updRct { x.rct with synth := none }).stored Reg.CLK_SYN_STAT_CAL_BUSY 0).value,
    congrArg RadioState.synth (State.put_rct _ _ _), (congrArg BootState.refLost (State.put_boot _ _ _)).trans hlost'⟩

/-! ## The rails -/

theorem culLink_lanes {k : Nat} (hk : k < 2) : ∀ f : Field, f.ofLanes → Reg.CUL_LINK_STAT k ≠ f.reg := fun f hf => by
  have := culLinkStat_block hk
  unfold Field.ofLanes at hf
  simp only [Reg.CUL_LINK_STAT] at this ⊢
  omega

theorem culLane_lanes (n : Nat) : ∀ f : Field, f.ofLanes → Reg.CUL_LANE_STAT n ≠ f.reg := fun f hf => by
  unfold Field.ofLanes at hf
  simp only [Reg.CUL_LANE_STAT]
  omega

theorem LanesKept.setReady (s : State) : LanesKept s (s.setF Reg.HRG_STAT_READY) :=
  .put (fun f hf => by
    unfold Field.ofLanes at hf
    simp only [Reg.HRG_STAT_READY, Reg.HRG_STAT]
    omega) (by decide)

theorem LanesKept.updCul (s : State) (x : CulvertState) : LanesKept s { s with cul := x } := ⟨rfl, rfl, id, fun _ _ _ => rfl⟩

theorem LanesKept.when {s t : State} (h : LanesKept s t) (c : Bool) {run : State → State} (hrun : LanesKept t (run t)) : LanesKept s (t.when c run) :=
  .ite (h.trans hrun) h

theorem LanesKept.putLink {s t : State} (h : LanesKept s t) {k lsb w x : Nat} (hk : k < 2) (hok : lsb + w ≤ 32) :
    LanesKept s (t.put ⟨Reg.CUL_LINK_STAT k, lsb, w⟩ x) := h.trans (.put (culLink_lanes hk) hok)

theorem LanesKept.putCulLane {s t : State} (h : LanesKept s t) {n lsb w x : Nat} (hok : lsb + w ≤ 32) :
    LanesKept s (t.put ⟨Reg.CUL_LANE_STAT n, lsb, w⟩ x) := h.trans (.put (culLane_lanes n) hok)

theorem LanesKept.setAwake (s : State) {n : Nat} (hn : n < 12) (b : Bool) : LanesKept s (s.setAwake n b) :=
  (LanesKept.refl s).putLink (by omega) (Nat.le_of_ble_eq_true rfl)

theorem LanesKept.refreshLink (s : State) {k : Nat} (hk : k < 2) : LanesKept s (s.refreshLink k) := by
  have hput : LanesKept s ((s.put (Reg.CUL_LINK_STAT_STATE k) (s.culStateOf k)).event 0x0034 0x0802
      ([k, s.culState k, s.culStateOf k] ++ bytesLE 2 ((s.put (Reg.CUL_LINK_STAT_STATE k) (s.culStateOf k)).culLink k).peerId)) :=
    ((LanesKept.refl s).putLink hk (Nat.le_of_ble_eq_true rfl)).trans (.of_reports (State.event_reports _ _ _ _))
  unfold State.refreshLink
  exact .ite (.refl s) (((hput.when _ (.updCul _ _)).when _ (.setReady _)).trans (.of_timeOnly (State.joinPort_timeOnly (.refl _) (by omega) _ _)))

theorem State.culRefresh_lanesKept (s : State) : LanesKept s s.culRefresh := by
  unfold State.culRefresh
  refine State.each_induct _ _ (State.each_induct _ _ (.refl s) fun u hu n hn => hu.trans ?_) fun u hu k hk => hu.trans ?_
  · have hn' : n < 12 := List.mem_range.1 hn
    have hawake : ∀ b, LanesKept u ((u.modCulLane n fun _ => CulLane.initial).setAwake n b) := fun b =>
      (LanesKept.updCul u _).trans (.setAwake _ hn' b)
    exact .ite (.ite (.refl u) (((hawake true).putCulLane (Nat.le_of_ble_eq_true rfl)).putCulLane (Nat.le_of_ble_eq_true rfl)))
      (.ite ((((hawake false).putCulLane (Nat.le_of_ble_eq_true rfl)).putCulLane (Nat.le_of_ble_eq_true rfl)).putCulLane
        (Nat.le_of_ble_eq_true rfl)) (.refl u))
  · have hk' : k < 2 := by
      rcases List.mem_pair.1 hk with rfl | rfl <;> decide
    have hwant : ∀ w : State, LanesKept w (w.setWant k 2) := fun w => by
      unfold State.setWant
      exact .ite (.refl w) (.updCul _ _)
    exact ((LanesKept.ite (.refl u) ((((LanesKept.refl u).putLink hk' (Nat.le_of_ble_eq_true rfl)).putLink hk' (Nat.le_of_ble_eq_true rfl)).trans
      (.updCul _ _))).trans (hwant _)).trans (.refreshLink _ hk')

theorem exec_railRecheck {s : State} (outMask : Nat) :
    ∃ u, Reports { s with boot := { s.boot with railsOut := outMask % 8 } } u ∧ exec (.railRecheck outMask) s = .next
      (if bit s.boot.railsOut 2 = bit (outMask % 8) 2 then u
      else (if bit (outMask % 8) 2 then u.each (List.range 8) State.enterDown else u.each (List.range 8) State.laneStart).culRefresh) :=
  ⟨_, State.each_induct _ _ (.refl _) fun _ hu _ _ => hu.trans (State.event_reports _ _ _ _), rfl⟩

theorem State.lanesDown_culRefresh {s : State} (hs : s.stored) : ∀ n, n < 8 → (s.each (List.range 8) State.enterDown).culRefresh.laneAt n = 0 := by
  obtain ⟨-, hdown⟩ := State.each_establishes (I := State.stored) (P := fun n u => u.Shows (Reg.LIN_STAT_STATE n) 0) (List.range 8)
    State.enterDown hs (fun u n hn hu => (u.enterDown_onlyLane (List.mem_range.1 hn)).stored hu)
    (fun u n hn hu => State.enterDown_at (List.mem_range.1 hn) u hu)
    (fun u n m hn hm hne _ h => (u.enterDown_onlyLane (List.mem_range.1 hn)).shows h (linStat_beside (List.mem_range.1 hm) hne 0 3))
  exact fun n hn => ((State.culRefresh_lanesKept _).shows_lane (hdown n (List.mem_range.2 hn)) (linStat_ofLanes hn 0 3)).value

/-! ## The bring-up -/

/-- Settles O51: release, images, reference and rails (log 124 has the profile in force once the rings are ready). -/
theorem bringUpReachesService : Obligations.BringUpReachesService := by
  intro s hs
  refine ⟨fun fast hstep hpower => ?_, fun fast hstep hpower => ?_,
    fun engine image hengine hstep hempty hmay hstatus => exec_imageVerification_good hs hengine hstep hempty hmay hstatus,
    fun engine image hengine hstep hempty hbad => exec_imageVerification_bad hs hengine hstep hempty hbad,
    exec_imagesOk hs, fun khz hkhz hcode hstep hnot => ?_,
    fun khz hbad hstep hnot hlost => exec_referenceMeasure_bad hbad hstep hnot hlost, exec_referenceLost hs, fun outMask hsame => ?_,
    fun outMask hold hnew => ?_⟩
  · obtain ⟨t, hrun, ht⟩ := exec_resetRelease_good hs fast hstep hpower
    exact ⟨t, hrun, ht.rstnHigh, ht.supplyOk, ht.t0, ht.step, ht.flash.value, ht.slow.value.trans (by cases fast <;> rfl), ht.smbAddr⟩
  · obtain ⟨hstored, hboot, -⟩ := State.released_leaves hs
    refine ⟨_, exec_resetRelease_bad fast hstep hpower, ?_, ?_, (State.setF_shows hstored Reg.DEV_BOOT_STAT_NO_IMAGE).value⟩
    · rw [State.setF_boot, hboot]
    · rw [State.setF_boot, hboot, hstep]
      rfl
  · obtain ⟨t, hrun, ht⟩ := exec_referenceMeasure_good hs hkhz hcode hstep hnot
    exact ⟨t, hrun, ht.ok.value, ht.found, ht.freq.value⟩
  · obtain ⟨u, hr, hrun⟩ := exec_railRecheck (s := s) outMask
    rw [hrun, if_pos hsame]
    exact .of_reports hr
  · obtain ⟨u, hr, hrun⟩ := exec_railRecheck (s := s) outMask
    have hu : u.stored := hr.stored hs
    refine ⟨_, hrun.trans (congrArg Host.Outcome.next ((if_neg (by rw [hold, hnew]; decide)).trans
      (congrArg State.culRefresh (if_pos hnew)))), ?_, State.lanesDown_culRefresh hu⟩
    have hlines : LineOnly u (u.each (List.range 8) State.enterDown).culRefresh :=
      ((LineOnly.refl u).each _ _ fun w n hn => (LineOnly.refl w).enterDown (List.mem_range.1 hn)).culRefresh
    rw [hlines.boot, hr.boot]

end Sys2Proof.Machine
end
